-- ==== Sys2Proof/Word.lean ====
section
/-! DEFINITION. Word.lean: the word types of the register space and of memory (spec/00 R10: little-endian, 8-bit bytes;
spec/03 R55: one register access is one 32-bit word). -/

namespace Sys2Proof

/-- A byte of a memory or of a packet. -/
abbrev Byte := BitVec 8

/-- A register word (R55). -/
abbrev Word := BitVec 32

end Sys2Proof
end

