-- ==== Sys2Proof/Types.lean ====
section
/-! DEFINITION. Types.lean: what commands and outputs are made of: agents, coordinates, beats, packets, descriptors. -/

namespace Sys2Proof

/-- Who issues a register access (spec/03 R57, R73). An Erg core is numbered 0 to 3. -/
inductive Agent where
  | hamada
  | erg (core : Nat)
  | mover
  | hostPath
  | block
  | safetyScan
  | search
deriving DecidableEq, Repr

/-- A line coordinate F:L (spec/02 R32). -/
structure Coord where
  f : BitVec 32
  l : Nat
deriving DecidableEq, Repr

/-- A beat (spec/02 R41, Table 3); `flags` fields are named. -/
structure Beat where
  line : BitVec 48
  f : BitVec 32
  l : Nat
  master : Nat
  sender : Nat
  depth : Nat
  mode : Nat
  pendMode : Nat
  pendValid : Bool
  syncInDriven : Bool
  inHoldover : Bool
  modeAtF : BitVec 32
  seq : BitVec 32
deriving DecidableEq, Repr

/-- A PTP time: seconds and nanoseconds (spec/02 R51). -/
structure PtpTime where
  sec : Nat
  nsec : Nat
deriving DecidableEq, Repr

/-- What the column ADCs deliver in one conversion slot, one sample per column and gain (spec/04 R80); `none` in the
line period's operand stands for a conversion that fails its completion check (R99). -/
structure Conversion where
  hcg : List Nat
  lcg : List Nat
deriving DecidableEq, Repr

/-- Tag check of a scratchpad access (spec/07 R153 Table 3). -/
inductive TagCheck where
  | none | waitFull | waitEmpty
deriving DecidableEq, Repr

/-- After action of a scratchpad access (spec/07 R153 Table 3). -/
inductive TagAfter where
  | none | setFull | setEmpty
deriving DecidableEq, Repr

/-- A scratchpad access by a port of a tile (spec/07 R148 to R153): the tile whose port issues it, the port's requester
code, the address as the port sees it (R150), the size, the data of a write (`none` for a read), and the tag kinds. -/
structure SpmAccess where
  tile : Nat
  req : Nat
  addr : Nat
  size : Nat
  data : Option (List Byte)
  check : TagCheck
  after : TagAfter
deriving DecidableEq, Repr

/-- A bulk access by a requester (spec/10 R236, R246): class 1 ERG, 2 SEARCH, 3 MOVER, 4 PACK, 5 FAB; the visible address,
the number of bytes, and the data of a write (`none` for a read). -/
structure BulkAccess where
  cls : Nat
  addr : Nat
  size : Nat
  data : Option (List Byte)
deriving DecidableEq, Repr

/-- A stored bit that changes by itself: what the codes over the memories are there for. It is found by whoever reads the line,
the tag or the unit next. -/
inductive Upset where
  /-- a bit of a scratchpad line: 0 to 255 its data, 256 to 287 its check bits (spec/07 R162) -/
  | spmBit (tile line bit : Nat)
  /-- one of the three copies of a slot's tag (spec/07 R157) -/
  | tagCopy (tile slot copy : Nat)
  /-- a bit of a 64-byte bulk unit: 0 to 511 its data, 512 to 527 its check bits (spec/10 R236); 528 stands for data that are
  another unit's -/
  | bulkBit (unit bit : Nat)
deriving DecidableEq, Repr

/-- What a line period meets from outside: the four temperatures (spec/04 R85), and the stored bits that have changed by themselves
since the one before. -/
structure LineInputs where
  temps : List Int
  upsets : List Upset
deriving DecidableEq, Repr

/-- An edge at SYNC_IN (spec/02 R40): its kind, and its time less its expected time, in ns. -/
structure SyncEdge where
  falling : Bool
  err : Int
deriving DecidableEq, Repr

/-- The table errors one line of a frame meets (spec/06 R125): how many are correctable, and whether one is not. -/
structure TableErrors where
  corrected : Nat
  uncorrectable : Bool
deriving DecidableEq, Repr

/-- A route epoch as it arrives (spec/11 R272): the SRC and HOPS of its packet, and the payload. -/
structure RouteEpochIn where
  src : Nat
  hops : Nat
  payload : List Byte
deriving DecidableEq, Repr

/-- The vector unit's operations (spec/08 R196 Table 5). -/
inductive VecKind where
  | add | sub | mul | min | max | cmpEq | cmpLt | cmpLe | select | shiftLeft | shiftRight | shiftRightArith
  | and | or | xor | popCount | mac | fma | div | sqrt | convert | requantise | lookup | reduceSum | reduceMin | reduceMax
deriving DecidableEq, Repr

/-- A vector operation (spec/08 R196, notes/assumptions/26): the tile, the operation, the lane format (Table 1's code; 8
stands for 16-bit integer lanes), the target format of a conversion or requantisation, saturation, the scratchpad addresses
of the sources and of the result, `acc` to take the first source from accumulators 8·i to 8·i + 7, `clear` to start the
accumulators from 0, M, n, ZP_OUT, and the tag kinds of its accesses (spec/07 R153): WAIT_FULL and SET_EMPTY on its sources,
WAIT_EMPTY and SET_FULL on its result. -/
structure VectorOp where
  tile : Nat
  kind : VecKind
  fmt : Nat
  toFmt : Nat
  sat : Bool
  a : Nat
  b : Nat
  c : Nat
  dst : Nat
  acc : Option Nat
  clear : Bool
  m : Int
  n : Nat
  zp : Int
  waitFull : Bool
  setEmpty : Bool
  waitEmpty : Bool
  setFull : Bool
deriving DecidableEq, Repr

/-- A Xanar packet (spec/11 R254, R255, spec/12 R278): its header fields, its payload, and the two check values it carries
(`hcrc` over header bytes 0 to 29, `crc` over the packet). -/
structure Packet where
  cls : Nat
  loc : Bool
  xver : Nat
  type : Nat
  dst : Nat
  src : Nat
  hops : Nat
  rflags : Nat
  addr : Nat
  psn : Nat
  dqp : Nat
  win : Nat
  key : Nat
  imm : Nat
  payload : List Byte
  hcrc : Nat
  crc : Nat
deriving DecidableEq, Repr

/-- The sideband of a flit slot (spec/11 R249): the flit's class, whether it is its packet's first and last, the PAUSE bits of the
sender, and for a beat its RESIDUAL. -/
structure Sideband where
  cls : Nat
  head : Bool
  tail : Bool
  pause : Nat
  residual : Nat
deriving DecidableEq, Repr

/-- A packet as it arrives at a port (spec/11 R249, R256, R257): whether its tail is there or its head alone so far, the class of
the sideband, whether its first flit or a
later one stood in an uncorrectable codeword, how many corrected and uncorrectable codewords are counted with it, and for a beat
its arrival time less the node's own time of the sender's line period, in picoseconds (spec/02 R44). -/
structure Arrival where
  port : Nat
  tail : Bool
  pkt : Packet
  sideCls : Nat
  badFirst : Bool
  badLater : Bool
  corrected : Nat
  uncorrectable : Nat
  offset : Int
deriving DecidableEq, Repr

/-- A host address (spec/15 R366, R375): IPv4 one word, IPv6 four words, and the UDP port. -/
structure HostAddr where
  ipv6 : Bool
  addr : List Nat
  port : Nat
deriving DecidableEq, Repr

/-- A well-formed ICP datagram from a client (spec/15 R370 Table 2): the MAC it arrived at, its source, and the header
fields. -/
structure IcpMsg where
  mac : Nat
  src : HostAddr
  client : Nat
  origin : Nat
  seq : Nat
  fragIdx : Nat
  fragCnt : Nat
  payload : List Byte
deriving DecidableEq, Repr

/-- A journal entry as Erg hands it back at a recovery (spec/15 R392, R395): its index and its fields; `committed` with the
completion item's bytes and REC_SEQ. -/
structure JRecord where
  index : Nat
  committed : Bool
  client : Nat
  kind : Nat
  era : Nat
  body : List Byte
  reqSeq : Nat
  recSeq : Nat
  item : List Byte
  accept : Coord
  commit : Coord
deriving DecidableEq, Repr

/-- A context's entry of the mirrored context table (spec/15 R393): the client, its ten configuration words, its ERA and the
last accepted request seq. -/
structure CtxRecord where
  client : Nat
  words : List Nat
  era : Nat
  lastReq : Nat
deriving DecidableEq, Repr

/-- How the burns of a privileged action go (spec/19 R479, R495): the bits, by word, that do not take although every attempt is
made, and how many words are burned before the presence window closes, `none` when it stays open. -/
structure BurnEnv where
  weak : List (Nat × BitVec 39)
  words : Option Nat
deriving DecidableEq, Repr

/-- A debug access through the test pads (spec/19 R493): a raw read of an OTP word, or another one, whose data the spec does not
describe. -/
inductive DebugReq where
  | otpWord (word : Nat)
  | other
deriving DecidableEq, Repr

/-- The part of the model a layer or a group belongs to (spec/01 R19, spec/13 R310): `other` is no layer's, as the canary group. -/
inductive PlanPart where
  | stem | trunk | scene | other
deriving DecidableEq, Repr

/-- A schedule entry of a plan (spec/13 Table 3) with C_e, its worst-case cycles, whether a view's records are committed from it
(spec/13 R327, R328), its part of the model, the views its job serves (R325), the tiles on which its group issues
compare-and-count descriptors, and the scratchpad granules it uses as (tile, 48-bit mask) (spec/14 R344). -/
structure PlanEntry where
  group : Nat
  mask : Nat
  start : Nat
  latest : Nat
  timeout : Nat
  retryBy : Nat
  flags : Nat
  cycles : Nat
  commits : Bool
  part : PlanPart
  views : List Nat
  ccTiles : Nat
  granules : List (Nat × Nat)
deriving DecidableEq, Repr

/-- A queue pair an entry uses, with RETRY_MAX, RETRY_T and the largest STALL.LIMIT its windows reach (spec/12 R298). -/
structure PlanQp where
  qp : Nat
  entry : Nat
  retryMax : Nat
  retryT : Nat
  stall : Nat
deriving DecidableEq, Repr

/-- A search window [a, b) of a plan with its reserved queries (K, NPROBE, TIMEOUT) and the shard geometry (spec/14 R364), the
search tiles as a mask, and the staging area's granules as (tile, 48-bit mask) (R344). -/
structure PlanSearch where
  a : Nat
  b : Nat
  queries : List (Nat × Nat × Nat)
  depth : Nat
  hamming : Bool
  lines : Nat
  ncent : Nat
  eMax : Nat
  uMax : Nat
  vecBytes : Nat
  tiles : Nat
  staging : List (Nat × Nat)
deriving DecidableEq, Repr

/-- Channels of a layer that a node holds on a tile (spec/01 R19, spec/13 R310, R311): the layer's number, the range
[first, first + count), whether it is the shadow of the successor's, its bytes at an address of a tile, and those of its
compressed master in bulk memory. -/
structure PlanSlice where
  layer : Nat
  first : Nat
  count : Nat
  shadow : Bool
  tile : Nat
  addr : Nat
  master : Nat
  bytes : Nat
deriving DecidableEq, Repr

/-- An own readout window of a plan, as spec/05 R107 uses it (spec/04 R88). -/
structure PlanWindow where
  cols : Nat
  rows : Nat
  startL : Nat
  reps : Nat
deriving DecidableEq, Repr

/-- What a variant of a plan holds for one node, as far as Erg's admission, the schedule and the reaction to a loss use it (spec/13
R306, R328, R336; notes/assumptions/55): entries; weight and activation granules per tile; queue pairs; numbers of queue pairs
and windows; Wadi entries as THRESHOLD, control word and argument; bulk pages, those of the index shard among them; the own
windows; WIDTH, HEIGHT, MIN_INTERVAL and LINE_MIN16 of the external contexts (spec/05 R107); DL_CTRL and DL_VIEWS; W1 to W3 of
the ports; the bulk shares ERG, SEARCH, MOVER, PACK, FAB; search windows; packed tensors as bulk address and PACKED_CRC; the
words of the routing table; the slices held; and what Erg writes to set up queue pairs, windows, ISP context sets and search
reservations, as (page, offset, value) in order. -/
structure PlanNode where
  node : Nat
  entries : List PlanEntry
  tiles : List (Nat × Nat)
  qps : List PlanQp
  queuePairs : Nat
  windows : Nat
  wadis : List (Nat × Nat × Nat)
  bulkPages : Nat
  shardPages : Nat
  ownWindows : List PlanWindow
  externals : List (Nat × Nat × Nat × Nat)
  dlCtrl : Nat
  dlViews : Nat
  weights : List (Nat × Nat × Nat)
  shares : List Nat
  searches : List PlanSearch
  packs : List (Nat × Nat)
  routes : List Nat
  slices : List PlanSlice
  loads : List (Nat × Nat × BitVec 32)
deriving DecidableEq, Repr

/-- A transfer of a variant from entry p of a node to entry e of a node (spec/13 R327, R328): its class, its flits by link
direction (node, port, flits), the hops and the cable delay in ns of its longest path. -/
structure PlanTransfer where
  srcNode : Nat
  src : Nat
  dstNode : Nat
  dst : Nat
  cls : Nat
  links : List (Nat × Nat × Nat)
  hops : Nat
  cableNs : Nat
deriving DecidableEq, Repr

/-- A bulk transfer of a node (spec/13 R328 BULK): its class 0 to 4 as in `shares`, its entries p and e, its units of 64 bytes. -/
structure PlanBulk where
  node : Nat
  cls : Nat
  src : Nat
  dst : Nat
  units : Nat
deriving DecidableEq, Repr

/-- A variant of a plan (spec/13 Table 2): VKIND 0 FULL, 1 TILE_OUT, 2 NODE_OUT, its tile or node, its largest epoch depth, and
what it holds for each of its nodes. -/
structure PlanVariant where
  kind : Nat
  arg : Nat
  depth : Nat
  nodes : List PlanNode
  transfers : List PlanTransfer
  bulks : List PlanBulk
deriving DecidableEq, Repr

/-- A plan (spec/13 R306): the 96 header bytes of Table 1, the file's bytes after them, and the body in the form Erg reads from
them: the layers with their part and output channels, the buddy table as node and host address, the variants. -/
structure Plan where
  header : List Byte
  body : List Byte
  layers : List (PlanPart × Nat)
  buddies : List (Nat × HostAddr)
  variants : List PlanVariant
deriving DecidableEq, Repr

/-- What a received Ethernet frame holds, as far as a MAC tells frames apart (spec/15 R366, R367). -/
inductive EthFrame where
  /-- an ARP request or IPv6 neighbour solicitation for an address, from a source -/
  | resolve (target : HostAddr) (src : HostAddr)
  /-- an ICMP or ICMPv6 echo request to an address -/
  | echo (target : HostAddr) (src : HostAddr) (payload : List Byte)
  /-- a UDP datagram to a port of this MAC's addresses -/
  | udp (target : HostAddr) (src : HostAddr) (payload : List Byte)
  /-- a PTP message with its receive timestamp -/
  | ptp (msg : List Byte) (time : PtpTime)
  | pause
  | badFcs
  | other
deriving DecidableEq, Repr

end Sys2Proof
end

