-- ==== Sys2Proof/Syntax.lean ====
section
/-! DEFINITION. Syntax.lean: the commands the block takes, one constructor per row of spec/opcode_table.json, with the operands the
row's rule names. An event the rule times (a timeout, the end of a piece of work) is a command as well; what the spec takes from
outside the digital model (a conversion, a temperature, a measured delay, a received packet) is an operand (notes/assumptions/5). Rows with operands come
first, in the table's order, then those without. -/

namespace Sys2Proof

/-- A command of the block. -/
inductive Instr where
  /-- LINE_PERIOD_START (spec/02 R35) -/
  | linePeriodStart (slot0 : Option Conversion) (slot1 : Option Conversion) (inputs : LineInputs)
  /-- BEAT_RECEIVE (spec/02 R44) -/
  | beatReceive (port : Nat) (beat : Beat) (offset : Int)
  /-- SYNC_IN_EDGE (spec/02 R40): the kind of edge, and how far it lies off its expected time -/
  | syncInEdge (edge : SyncEdge)
  /-- MAP_BLOCK_BUILD (spec/02 R51) -/
  | mapBlockBuild (t : PtpTime)
  /-- MAP_NOW (spec/02 R51) -/
  | mapNow (a : Agent)
  /-- FRAME_MODE_WRITE (spec/02 R30) -/
  | frameModeWrite (a : Agent) (v : Word)
  /-- ROLE_MASTER_WRITE (spec/02 R38) -/
  | roleMasterWrite (a : Agent) (on : Bool)
  /-- SYNCIN_ENABLE_WRITE (spec/02 R38) -/
  | syncinEnableWrite (a : Agent)
  /-- WIDE_LOW_READ (spec/02 R36) -/
  | wideLowRead (a : Agent) (page : Nat) (off : Nat)
  /-- WIDE_LOW_WRITE (spec/02 R37) -/
  | wideLowWrite (a : Agent) (page : Nat) (off : Nat) (v : Word)
  /-- WIDE_HIGH_WRITE (spec/02 R37) -/
  | wideHighWrite (a : Agent) (page : Nat) (off : Nat) (v : Word)
  /-- REGISTER_WRITE (spec/03 R60) -/
  | registerWrite (a : Agent) (page : Nat) (off : Nat) (word : Bool) (v : Word)
  /-- SHADOW_WRITE (spec/03 R64) -/
  | shadowWrite (a : Agent) (page : Nat) (off : Nat) (v : Word)
  /-- SHL_COORD_WRITE (spec/03 R67) -/
  | shlCoordWrite (a : Agent) (page : Nat) (off : Nat) (v : Word)
  /-- SHADOW_HOLD (spec/03 R68) -/
  | shadowHold (a : Agent) (page : Nat)
  /-- SHADOW_RELEASE (spec/03 R68) -/
  | shadowRelease (a : Agent) (page : Nat)
  /-- SHADOW_DISCARD (spec/03 R68) -/
  | shadowDiscard (a : Agent) (page : Nat)
  /-- BLOCK_ENABLE (spec/03 R62) -/
  | blockEnable (a : Agent) (page : Nat) (on : Bool)
  /-- BLOCK_FREEZE (spec/03 R62) -/
  | blockFreeze (a : Agent) (page : Nat) (on : Bool)
  /-- FREEZE_STOP (spec/03 R62) -/
  | freezeStop (page : Nat)
  /-- SOFT_RESET (spec/03 R62) -/
  | softReset (a : Agent) (page : Nat)
  /-- SOFT_RESET_DONE (spec/03 R62) -/
  | softResetDone (page : Nat)
  /-- ERR_COUNT_CLEAR (spec/03 R61) -/
  | errCountClear (a : Agent) (page : Nat)
  /-- IRQ_CLEAR (spec/03 R69) -/
  | irqClear (a : Agent) (page : Nat) (v : Word) (same : Word)
  /-- IRQ_ENABLE_WRITE (spec/03 R69) -/
  | irqEnableWrite (a : Agent) (page : Nat) (v : Word)
  /-- IRQ_FORCE (spec/03 R70) -/
  | irqForce (a : Agent) (page : Nat) (v : Word)
  /-- ERR_CAPTURE_CLEAR (spec/03 R72) -/
  | errCaptureClear (a : Agent) (page : Nat)
  /-- LOCK_WRITE (spec/03 R74) -/
  | lockWrite (a : Agent) (page : Nat) (v : Word)
  /-- CRC_SCAN_VISIT (spec/03 R77) -/
  | crcScanVisit (page : Nat)
  /-- SENTINEL_SAMPLE (spec/16 R419) -/
  | sentinelSample (levels : List Nat)
  /-- PATTERN_HOLDOFF_END (spec/16 R421) -/
  | patternHoldoffEnd (p : Nat)
  /-- PATTERN_REG_WRITE (spec/16 R422) -/
  | patternRegWrite (a : Agent) (p : Nat) (r : Nat) (v : Word)
  /-- CSI_FRAME_START (spec/05 R112) -/
  | csiFrameStart (port : Nat) (vc : Nat) (fn : Nat) (corrected : Bool)
  /-- CSI_FRAME_END (spec/05 R112) -/
  | csiFrameEnd (port : Nat) (vc : Nat) (corrected : Bool)
  /-- CSI_LONG_PACKET (spec/05 R112) -/
  | csiLongPacket (port : Nat) (vc : Nat) (dt : Nat) (corrected : Bool) (bad : Bool) (px : List Nat)
  /-- CSI_OTHER_PACKET (spec/05 R104) -/
  | csiOtherPacket (port : Nat) (vc : Nat) (kind : Nat) (corrected : Bool)
  /-- CSI_SOT_ERROR (spec/05 R104) -/
  | csiSotError (port : Nat)
  /-- LINE_TIMEOUT (spec/05 R113) -/
  | lineTimeout (j : Nat)
  /-- FRAME_TIMEOUT (spec/05 R113) -/
  | frameTimeout (j : Nat)
  /-- PAD_LINE (spec/05 R113) -/
  | padLine (j : Nat)
  /-- ISP_LINE_PROCESS (spec/05 R105) -/
  | ispLineProcess (errors : TableErrors)
  /-- ISP_HOLD_RELEASE (spec/06 R138) -/
  | ispHoldRelease (c : Nat)
  /-- ISP_HOLD_TIMEOUT (spec/06 R138) -/
  | ispHoldTimeout (c : Nat)
  /-- ISP_FRAME_END (spec/06 R141) -/
  | ispFrameEnd (c : Nat)
  /-- DESC_LOST (spec/06 R141) -/
  | descLost (c : Nat)
  /-- TABLE_DATA_ACCESS (spec/06 R125) -/
  | tableDataAccess (a : Agent) (write : Option Word) (error : Nat)
  /-- SPM_ACCESS (spec/07 R151) -/
  | spmAccess (x : SpmAccess)
  /-- TAG_ONLY_OP (spec/07 R153) -/
  | tagOnlyOp (t : Nat) (slot : Nat) (full : Bool) (upsets : List Upset)
  /-- TAG_WAIT_RELEASE (spec/07 R156) -/
  | tagWaitRelease (t : Nat) (slot : Nat)
  /-- TAG_TIMEOUT (spec/07 R159) -/
  | tagTimeout (t : Nat) (req : Nat)
  /-- ATTR_WRITE (spec/07 R163) -/
  | attrWrite (a : Agent) (t : Nat) (g : Nat) (v : Nat)
  /-- GRANULE_INIT_DONE (spec/07 R163) -/
  | granuleInitDone (t : Nat) (g : Nat)
  /-- SCRUB_STEP (spec/07 R167) -/
  | scrubStep (upsets : List Upset)
  /-- CC_GO (spec/07 R169) -/
  | ccGo (a : Agent) (t : Nat) (byGroup : Bool) (desc : List Byte)
  /-- CC_DONE (spec/07 R171) -/
  | ccDone (t : Nat)
  /-- GROUP_END (spec/07 R172) -/
  | groupEnd (t : Nat)
  /-- TILE_CANCEL (spec/07 R172) -/
  | tileCancel (a : Agent) (t : Nat)
  /-- TILE_RELEASE (spec/07 R172) -/
  | tileRelease (a : Agent) (t : Nat)
  /-- TILE_MAP_OUT (spec/07 R172) -/
  | tileMapOut (a : Agent) (t : Nat)
  /-- TILE_MAP_IN (spec/07 R172) -/
  | tileMapIn (a : Agent) (t : Nat)
  /-- TILE_SELF_CHECK (spec/07 R173) -/
  | tileSelfCheck (a : Agent) (t : Nat)
  /-- SELF_CHECK_DONE (spec/07 R173) -/
  | selfCheckDone (t : Nat) (fail : Bool)
  /-- DBG_DATA_ACCESS (spec/07 R175) -/
  | dbgDataAccess (a : Agent) (write : Bool) (v : Word)
  /-- DBG_TAG_WRITE (spec/07 R175) -/
  | dbgTagWrite (a : Agent) (full : Bool)
  /-- OPERATOR_ISSUE (spec/08 R188) -/
  | operatorIssue (t : Nat) (offset : Nat)
  /-- OUTPUT_ROW_DONE (spec/08 R192) -/
  | outputRowDone (t : Nat) (vector : Bool)
  /-- VECTOR_OP (spec/08 R196) -/
  | vectorOp (v : VectorOp)
  /-- PACK_GO (spec/09 R210) -/
  | packGo (a : Agent)
  /-- EXPAND_GO (spec/09 R219) -/
  | expandGo (a : Agent) (t : Nat)
  /-- MOVER_TAIL_WRITE (spec/10 R224) -/
  | moverTailWrite (a : Agent) (c : Nat) (tail : Nat)
  /-- MOVER_DESC_DONE (spec/10 R224) -/
  | moverDescDone (c : Nat) (flashErrs : List Nat)
  /-- MOVER_RESUME (spec/10 R226) -/
  | moverResume (a : Agent) (c : Nat)
  /-- MOVER_SKIP (spec/10 R226) -/
  | moverSkip (a : Agent) (c : Nat)
  /-- MOVER_ABORT (spec/10 R226) -/
  | moverAbort (a : Agent) (c : Nat)
  /-- BULK_ACCESS (spec/10 R236) -/
  | bulkAccess (x : BulkAccess)
  /-- RELOAD_COMPLETE (spec/10 R239) -/
  | reloadComplete (flashErr : Bool)
  /-- BULK_SCRUB_STEP (spec/10 R243) -/
  | bulkScrubStep (upsets : List Upset)
  /-- RETIRE_LOAD (spec/10 R242) -/
  | retireLoad (a : Agent)
  /-- RETIRE_FORCED (spec/10 R246) -/
  | retireForced (a : Agent)
  /-- SHARE_WRITE (spec/10 R244) -/
  | shareWrite (a : Agent) (v : Word)
  /-- LINK_SIGNAL_DETECT (spec/11 R250) -/
  | linkSignalDetect (port : Nat)
  /-- LINK_ADAPTED (spec/11 R250) -/
  | linkAdapted (port : Nat)
  /-- LINK_ALIGNED (spec/11 R250) -/
  | linkAligned (port : Nat)
  /-- IDENT_SEND (spec/11 R250) -/
  | identSend (port : Nat)
  /-- IDENT_RECEIVE (spec/11 R252) -/
  | identReceive (port : Nat) (xver : Nat) (id : List Byte)
  /-- LINK_MEASURE_DONE (spec/02 R43) -/
  | linkMeasureDone (port : Nat) (delayPs : Int)
  /-- TRAIN_TIMEOUT (spec/11 R250) -/
  | trainTimeout (port : Nat)
  /-- TRAIN_BACKOFF_END (spec/11 R250) -/
  | trainBackoffEnd (port : Nat)
  /-- PORT_OPEN (spec/11 R250) -/
  | portOpen (a : Agent) (port : Nat)
  /-- PORT_RETRAIN (spec/11 R251) -/
  | portRetrain (a : Agent) (port : Nat)
  /-- LINK_DOWN (spec/11 R253) -/
  | linkDown (port : Nat) (uncorr : Nat) (counted : Nat) (lockLost : Bool)
  /-- XANAR_PACKET_RECEIVE (spec/11 R256) -/
  | xanarPacketReceive (x : Arrival)
  /-- PAUSE_LONG (spec/11 R260) -/
  | pauseLong (port : Nat) (c : Nat)
  /-- NODE_ID_WRITE (spec/11 R263) -/
  | nodeIdWrite (a : Agent) (v : Nat)
  /-- RT_DATA_ACCESS (spec/11 R267) -/
  | rtDataAccess (a : Agent) (write : Bool) (v : Word)
  /-- ROUTE_ARM (spec/11 R270) -/
  | routeArm (a : Agent) (epoch : Nat) (on : Bool)
  /-- ROUTE_GO (spec/11 R271) -/
  | routeGo (a : Agent) (epoch : Nat)
  /-- ROUTE_EPOCH_RECEIVE (spec/11 R272) -/
  | routeEpochReceive (port : Nat) (d : RouteEpochIn)
  /-- TAP_ENABLE (spec/11 R274) -/
  | tapEnable (a : Agent) (port : Nat) (ctx : Nat)
  /-- WINDOW_ENABLE (spec/12 R279) -/
  | windowEnable (a : Agent)
  /-- WINDOW_DISABLE (spec/12 R280) -/
  | windowDisable (a : Agent)
  /-- QP_RESET_REQ (spec/12 R282) -/
  | qpResetReq (a : Agent)
  /-- QP_INIT_REQ (spec/12 R282) -/
  | qpInitReq (a : Agent)
  /-- QP_READY_REQ (spec/12 R283) -/
  | qpReadyReq (a : Agent)
  /-- QP_FORCE_ERROR (spec/12 R299) -/
  | qpForceError (a : Agent)
  /-- QP_FLUSH_DONE (spec/12 R297) -/
  | qpFlushDone (q : Nat)
  /-- QP_DOORBELL (spec/12 R284) -/
  | qpDoorbell (a : Agent) (q : Nat) (tail : Nat)
  /-- QP_SEND_PACKET (spec/12 R292) -/
  | qpSendPacket (q : Nat)
  /-- RMA_WRITE_RECEIVE (spec/12 R293) -/
  | rmaWriteReceive (port : Nat) (p : Packet)
  /-- RMA_WRITE_IMM_RECEIVE (spec/12 R301) -/
  | rmaWriteImmReceive (port : Nat) (p : Packet)
  /-- RMA_READ_REQ_RECEIVE (spec/12 R289) -/
  | rmaReadReqReceive (port : Nat) (p : Packet)
  /-- RMA_READ_RESP_RECEIVE (spec/12 R294) -/
  | rmaReadRespReceive (port : Nat) (p : Packet)
  /-- RMA_ACK_RECEIVE (spec/12 R294) -/
  | rmaAckReceive (p : Packet)
  /-- RMA_NAK_RECEIVE (spec/12 R295) -/
  | rmaNakReceive (p : Packet)
  /-- PLACEMENT_DONE (spec/12 R288) -/
  | placementDone (q : Nat) (psn : Nat)
  /-- ACK_SEND (spec/12 R294) -/
  | ackSend (q : Nat)
  /-- RETRY_TIMEOUT (spec/12 R295) -/
  | retryTimeout (q : Nat)
  /-- REMOTE_HOLD_TIMEOUT (spec/12 R291) -/
  | remoteHoldTimeout (q : Nat) (psn : Nat)
  /-- CQ_OVERFLOW_CLEAR (spec/12 R287) -/
  | cqOverflowClear (a : Agent) (c : Nat)
  /-- WADI_BUMP (spec/12 R301) -/
  | wadiBump (a : Agent) (e : Nat) (inc : Nat)
  /-- WADI_ARM (spec/12 R302) -/
  | wadiArm (a : Agent)
  /-- ALIVE_WRITE (spec/13 R323) -/
  | aliveWrite (a : Agent)
  /-- SCHED_KICK (spec/13 R325) -/
  | schedKick (a : Agent) (e : Nat) (f : Nat)
  /-- ENT_DATA_WRITE (spec/13 R317) -/
  | entDataWrite (a : Agent) (w : Nat) (v : Word)
  /-- JOIN_SEND (spec/13 R329) -/
  | joinSend (a : Agent) (v : Word)
  /-- JOIN_RECEIVE (spec/13 R329) -/
  | joinReceive (port : Nat) (d : List Byte)
  /-- HELLO_RECEIVE (spec/13 R330) -/
  | helloReceive (port : Nat) (d : List Byte)
  /-- HELLO_TIMEOUT (spec/13 R330) -/
  | helloTimeout (port : Nat)
  /-- COORDINATOR_DECIDE (spec/13 R331) -/
  | coordinatorDecide (extra : Nat)
  /-- START_RECEIVE (spec/13 R330) -/
  | startReceive (port : Nat) (d : List Byte)
  /-- LOSS_DETECT (spec/13 R335) -/
  | lossDetect (port : Nat)
  /-- LOSS_RECEIVE (spec/13 R337) -/
  | lossReceive (port : Nat) (d : List Byte)
  /-- QP_SYNC_RECEIVE (spec/13 R326) -/
  | qpSyncReceive (d : List Byte)
  /-- QP_SYNC_RESEND (spec/13 R326) -/
  | qpSyncResend (q : Nat)
  /-- TILE_CONDEMN (spec/13 R334) -/
  | tileCondemn (t : Nat) (lead : Nat)
  /-- SHARD_LOAD (spec/14 R347) -/
  | shardLoad (a : Agent) (slot : Nat)
  /-- SHARD_LOAD_DONE (spec/14 R347) -/
  | shardLoadDone (slot : Nat)
  /-- SHARD_UNLOAD (spec/14 R363) -/
  | shardUnload (a : Agent) (slot : Nat)
  /-- QUERY_POST (spec/14 R353) -/
  | queryPost (a : Agent) (tail : Nat)
  /-- TREE_QUERY_RECEIVE (spec/14 R355) -/
  | treeQueryReceive (cell : Nat) (len : Nat)
  /-- TREE_RESULT_RECEIVE (spec/14 R358) -/
  | treeResultReceive (cell : Nat) (len : Nat)
  /-- TREE_FINAL_RECEIVE (spec/14 R355) -/
  | treeFinalReceive (cell : Nat) (len : Nat)
  /-- SHARD_SCAN_DONE (spec/14 R351) -/
  | shardScanDone (hits : List Nat) (ccFail : Bool)
  /-- ICP_OPEN (spec/15 R375) -/
  | icpOpen (m : IcpMsg)
  /-- ICP_CLOSE (spec/15 R375) -/
  | icpClose (m : IcpMsg)
  /-- ICP_ACK (spec/15 R374) -/
  | icpAck (m : IcpMsg)
  /-- ICP_REQUEST (spec/15 R391) -/
  | icpRequest (m : IcpMsg)
  /-- ICP_PING (spec/15 R371) -/
  | icpPing (m : IcpMsg)
  /-- FRAG_TIMEOUT (spec/15 R372) -/
  | fragTimeout (k : Nat)
  /-- RESEND_TIMEOUT (spec/15 R374) -/
  | resendTimeout (k : Nat)
  /-- JOURNAL_MIRROR_DONE (spec/15 R394) -/
  | journalMirrorDone (e : Nat)
  /-- JOURNAL_FLASH_DONE (spec/15 R394) -/
  | journalFlashDone (e : Nat) (flashErr : Bool)
  /-- MIRROR_TIMEOUT (spec/15 R394) -/
  | mirrorTimeout (e : Nat)
  /-- JOURNAL_MODE_WRITE (spec/15 R394) -/
  | journalModeWrite (a : Agent)
  /-- JOURNAL_COMMIT (spec/15 R392) -/
  | journalCommit (a : Agent) (e : Nat)
  /-- JOURNAL_RECOVERY (spec/15 R395) -/
  | journalRecovery (recs : List JRecord) (ctxs : List CtxRecord)
  /-- FOSTER_START (spec/15 R396) -/
  | fosterStart (ctxs : List CtxRecord)
  /-- FOSTER_END (spec/15 R396) -/
  | fosterEnd (restored : Bool)
  /-- WARD_DAMAGED (spec/15 R397) -/
  | wardDamaged (page : Nat)
  /-- REQ_QUERY (spec/15 R390) -/
  | reqQuery (ward : Bool) (e : Nat)
  /-- REQ_SUBSCRIBE (spec/15 R377) -/
  | reqSubscribe (ward : Bool) (e : Nat)
  /-- REQ_REG (spec/03 R78) -/
  | reqReg (ward : Bool) (e : Nat)
  /-- REQ_CONFIG_CLIENT (spec/15 R390) -/
  | reqConfigClient (ward : Bool) (e : Nat)
  /-- REQ_PLAN_OFFER (spec/13 R327) -/
  | reqPlanOffer (ward : Bool) (e : Nat) (plan : Plan)
  /-- REQ_PRIV (spec/18 R464) -/
  | reqPriv (ward : Bool) (e : Nat) (env : BurnEnv) (flashErr : Bool)
  /-- REQ_HEALTH_NOW (spec/15 R390) -/
  | reqHealthNow (ward : Bool) (e : Nat)
  /-- ITEM_POST (spec/15 R382) -/
  | itemPost (a : Agent) (tail : Nat)
  /-- EMPTY_FRAME_CLOSE (spec/15 R384) -/
  | emptyFrameClose (v : Nat)
  /-- CAN_HEARTBEAT_DUE (spec/15 R369) -/
  | canHeartbeatDue (c : Nat)
  /-- HB_ARM (spec/15 R369) -/
  | hbArm (a : Agent) (c : Nat)
  /-- CAN_RX_FRAME (spec/15 R368) -/
  | canRxFrame (c : Nat) (bad : Bool)
  /-- CAN_BUS_OFF_RECOVERY (spec/15 R368) -/
  | canBusOffRecovery (c : Nat)
  /-- ETH_FRAME_RECEIVE (spec/15 R367) -/
  | ethFrameReceive (m : Nat) (f : EthFrame)
  /-- PTP_TX (spec/15 R367) -/
  | ptpTx (a : Agent) (m : Nat) (v : Word) (t : PtpTime)
  /-- PTP_STEP (spec/15 R367) -/
  | ptpStep (a : Agent) (m : Nat) (v : Word)
  /-- MODE_REQUEST (spec/16 R408) -/
  | modeRequest (a : Agent) (target : Nat) (fmode : Nat)
  /-- OASIS_TICK (spec/16 R414) -/
  | oasisTick (vin : Nat) (hold : Nat) (holdup : Bool) (fail : Bool) (closed : Bool)
  /-- RAIL_UNDERVOLTAGE (spec/16 R416) -/
  | railUndervoltage (d : Nat)
  /-- RTC_WRITE (spec/16 R417) -/
  | rtcWrite (a : Agent) (v : Word)
  /-- WARM_RESET (spec/16 R407) -/
  | warmReset (safety : Bool)
  /-- PWR_RESET_WARM (spec/16 R407) -/
  | pwrResetWarm (a : Agent)
  /-- PWR_RESET_COLD (spec/16 R407) -/
  | pwrResetCold (a : Agent)
  /-- TALLY_GO (spec/17 R440) -/
  | tallyGo (a : Agent)
  /-- TALLY_UPDATE_START (spec/17 R440) -/
  | tallyUpdateStart (cold : Bool)
  /-- ERG_KICK (spec/18 R466) -/
  | ergKick (a : Agent)
  /-- MB_CONFIRM (spec/18 R464) -/
  | mbConfirm (flashErr : Bool)
  /-- MB_ACTIVATE (spec/18 R459) -/
  | mbActivate (flashErr : Bool)
  /-- MB_PRIV (spec/19 R496) -/
  | mbPriv (env : BurnEnv) (flashErr : Bool)
  /-- MB_OWNER_BIND (spec/18 R464) -/
  | mbOwnerBind (flashErr : Bool)
  /-- IPI (spec/18 R473) -/
  | ipi (a : Agent) (cores : Nat)
  /-- XCAP_CLEAR (spec/18 R472) -/
  | xcapClear (a : Agent)
  /-- KERNEL_INVOKE (spec/18 R469) -/
  | kernelInvoke (core : Nat) (r : List Byte)
  /-- KERNEL_EXIT (spec/18 R470) -/
  | kernelExit (core : Nat) (status : Nat) (cycles : Nat)
  /-- KERNEL_EMIT (spec/18 R470) -/
  | kernelEmit (core : Nat) (w : Nat) (off : Nat) (target : Option Nat)
  /-- KERNEL_QUERY (spec/18 R470) -/
  | kernelQuery (core : Nat) (w : Nat) (off : Nat)
  /-- KERNEL_NOW (spec/18 R470) -/
  | kernelNow (core : Nat)
  /-- KERNEL_LOG (spec/18 R470) -/
  | kernelLog (core : Nat) (code : Nat) (bytes : List Byte)
  /-- KERNEL_FAULT (spec/18 R469) -/
  | kernelFault (core : Nat)
  /-- KERNEL_BUDGET (spec/18 R471) -/
  | kernelBudget (core : Nat)
  /-- FUSE_PROG_GO (spec/19 R478) -/
  | fuseProgGo (a : Agent)
  /-- FUSE_ATTEMPT_DONE (spec/19 R479) -/
  | fuseAttemptDone (weak : BitVec 39)
  /-- FUSE_LOCK_WRITE (spec/19 R488) -/
  | fuseLockWrite (a : Agent) (which : Nat)
  /-- PRIV_LC_ADVANCE (spec/19 R490) -/
  | privLcAdvance (target : Nat) (env : BurnEnv)
  /-- PRIV_FUSE_BURN (spec/19 R496) -/
  | privFuseBurn (field : Nat) (slot : Nat) (value : List Byte) (env : BurnEnv)
  /-- PRIV_KEY_REVOKE (spec/19 R496) -/
  | privKeyRevoke (kind : Nat) (index : Nat) (env : BurnEnv)
  /-- PRIV_ARB_COMMIT (spec/19 R477) -/
  | privArbCommit (kind : Nat) (target : Nat) (env : BurnEnv)
  /-- PRIV_FUSE_TRIAL (spec/19 R487) -/
  | privFuseTrial (slot : Nat) (on : Bool) (hash : List Byte)
  /-- PRIV_PATCH_INSTALL (spec/18 R456) -/
  | privPatchInstall (off : Nat) (len : Nat) (flashErr : Bool)
  /-- RETURN_REQ (spec/19 R492) -/
  | returnReq (auth : List Byte) (env : BurnEnv)
  /-- JTAG_BYPASS (spec/19 R493) -/
  | jtagBypass (bits : List Bool)
  /-- JTAG_SAMPLE_PRELOAD (spec/19 R493) -/
  | jtagSamplePreload (pins : List Bool) (preload : List Bool)
  /-- JTAG_EXTEST (spec/19 R493) -/
  | jtagExtest (pins : List Bool) (shifted : List Bool)
  /-- DEBUG_ACCESS (spec/19 R493) -/
  | debugAccess (r : DebugReq)
  /-- CLOCK_WINDOW (spec/20 R512) -/
  | clockWindow (counts : List Nat)
  /-- ETH_LINK_CHANGE (spec/15 R398) -/
  | ethLinkChange (m : Nat) (up : Bool) (speed : Nat)
  /-- PAGE_MIGRATION_DONE (spec/10 R237) -/
  | pageMigrationDone (page : Nat)
  /-- PAUSE_BIT_CHANGE (spec/11 R259) -/
  | pauseBitChange (port : Nat) (c : Nat) (on : Bool)
  /-- CAN_FRAME_TX_DONE (spec/15 R369) -/
  | canFrameTxDone (c : Nat) (busError : Bool)
  /-- FRAME_MODE_APPLY (spec/02 R30) -/
  | frameModeApply
  /-- SHL_APPLY (spec/03 R67) -/
  | shlApply
  /-- THERMAL_TRIP (spec/17 R438) -/
  | thermalTrip
  /-- BEAT_SEND (spec/02 R41) -/
  | beatSend
  /-- BEAT_LOSS_LIMIT (spec/02 R45) -/
  | beatLossLimit
  /-- BACKUP_TAKEOVER (spec/02 R47) -/
  | backupTakeover
  /-- HOLDOVER_LIMIT_EXPIRY (spec/02 R45) -/
  | holdoverLimitExpiry
  /-- SYNC_IN_LOST (spec/02 R40) -/
  | syncInLost
  /-- SYNC_OUT_PULSE_START (spec/02 R50) -/
  | syncOutPulseStart
  /-- SYNC_OUT_PULSE_END (spec/02 R50) -/
  | syncOutPulseEnd
  /-- GROUP_START (spec/13 R319) -/
  | groupStart
  /-- PACK_DONE (spec/09 R212) -/
  | packDone
  /-- EXPAND_DONE (spec/09 R219) -/
  | expandDone
  /-- RELOAD_HOLD_TIMEOUT (spec/10 R239) -/
  | reloadHoldTimeout
  /-- ROUTE_SWITCH (spec/11 R273) -/
  | routeSwitch
  /-- WADI_PENDING_POST (spec/12 R303) -/
  | wadiPendingPost
  /-- INSTANCE_OPEN (spec/13 R318) -/
  | instanceOpen
  /-- INSTANCE_MISSED (spec/13 R319) -/
  | instanceMissed
  /-- JOB_TIMEOUT (spec/13 R320) -/
  | jobTimeout
  /-- OVERRUN_CHECK (spec/13 R322) -/
  | overrunCheck
  /-- HEARTBEAT_DUE (spec/13 R323) -/
  | heartbeatDue
  /-- HEARTBEAT_LOST (spec/13 R323) -/
  | heartbeatLost
  /-- HELLO_SEND (spec/13 R330) -/
  | helloSend
  /-- LOSS_ROUTE_GO (spec/13 R338) -/
  | lossRouteGo
  /-- QUERY_TIMEOUT (spec/14 R359) -/
  | queryTimeout
  /-- QUERY_ABANDON (spec/14 R359) -/
  | queryAbandon
  /-- LIST_REREAD (spec/14 R360) -/
  | listReread
  /-- PREFETCH_AGE_EXPIRY (spec/14 R362) -/
  | prefetchAgeExpiry
  /-- HEALTH_PERIODIC (spec/15 R388) -/
  | healthPeriodic
  /-- SAFE_HEALTH_REPEAT (spec/15 R388) -/
  | safeHealthRepeat
  /-- MAINT_HEALTH_REPEAT (spec/15 R379) -/
  | maintHealthRepeat
  /-- WAKE_EVENT_APPEND (spec/16 R424) -/
  | wakeEventAppend
  /-- MODE_STEP (spec/16 R409) -/
  | modeStep
  /-- MODE_DONE (spec/16 R409) -/
  | modeDone
  /-- WAKE_START (spec/16 R412) -/
  | wakeStart
  /-- VIN_RIDE_EXPIRY (spec/16 R414) -/
  | vinRideExpiry
  /-- POWER_FAIL_SHUTDOWN (spec/16 R415) -/
  | powerFailShutdown
  /-- SUPPLY_GOOD (spec/17 R436) -/
  | supplyGood
  /-- POWER_ON (spec/17 R436) -/
  | powerOn
  /-- RTC_ALARM (spec/16 R417) -/
  | rtcAlarm
  /-- PRES_DEBOUNCE_CHANGE (spec/16 R418) -/
  | presDebounceChange
  /-- PRESENCE_OPEN (spec/16 R418) -/
  | presenceOpen
  /-- PRESENCE_CLOSE (spec/16 R418) -/
  | presenceClose
  /-- PRES_STUCK (spec/16 R418) -/
  | presStuck
  /-- STORE_WEAK (spec/17 R435) -/
  | storeWeak
  /-- COLD_RESET (spec/16 R407) -/
  | coldReset
  /-- TALLY_INTERVAL_ELAPSED (spec/17 R440) -/
  | tallyIntervalElapsed
  /-- TALLY_ERASE_BAR_DONE (spec/17 R440) -/
  | tallyEraseBarDone
  /-- TALLY_CONTENT_DONE (spec/17 R440) -/
  | tallyContentDone
  /-- TALLY_DRAW_BAR_DONE (spec/17 R440) -/
  | tallyDrawBarDone
  /-- ERG_START (spec/18 R455) -/
  | ergStart
  /-- ERG_READY_TIMEOUT (spec/18 R458) -/
  | ergReadyTimeout
  /-- ERG_CONFIRM_TIMEOUT (spec/18 R458) -/
  | ergConfirmTimeout
  /-- ERG_STABLE (spec/18 R458) -/
  | ergStable
  /-- ERG_WATCHDOG_EXPIRY (spec/18 R466) -/
  | ergWatchdogExpiry
  /-- MB_READY (spec/18 R464) -/
  | mbReady
  /-- MB_RESET (spec/18 R464) -/
  | mbReset
  /-- MB_TALLY (spec/17 R443) -/
  | mbTally
  /-- MB_FUSE_READ (spec/18 R464) -/
  | mbFuseRead
  /-- LOCKSTEP_ERROR (spec/18 R445) -/
  | lockstepError
  /-- PRIV_FACTORY_RESET (spec/19 R498) -/
  | privFactoryReset
  /-- JTAG_IDCODE (spec/19 R493) -/
  | jtagIdcode
  /-- SAFE_CAUSE_ACTIVE (spec/20 R504) -/
  | safeCauseActive
  /-- SAFETY_WARM_RESET (spec/20 R506) -/
  | safetyWarmReset
  /-- CLOCK_STALL (spec/20 R512) -/
  | clockStall
  /-- OASIS_POWER_LOSS (spec/16 R415) -/
  | oasisPowerLoss
deriving DecidableEq, Repr

end Sys2Proof
end

