-- ==== Sys2Proof/Decode.lean ====
section
/-! DEFINITION. Decode.lean: commands spelled by words. spec/opcode_table.json gives none of its rows bits, so no word spells a
command (notes/assumptions/1). -/

namespace Sys2Proof

/-- The command that a word of `nbits` bits spells: none, for every word. -/
def decodeTableWord (nbits w : Nat) : Option Instr :=
  match nbits, w with
  | _, _ => none

end Sys2Proof
end

