-- ==== Sys2Proof/Machine/Bits.lean ====
section
/-! DEFINITION. Machine/Bits.lean: bit fields, signed readings, little-endian bytes and exact rounding helpers that every
family of commands uses (spec/00 R10, R14; spec/02 R28). -/

namespace Sys2Proof.Machine

/-- Bits [lo + w − 1 : lo] of a number. -/
def bitsAt (n lo w : Nat) : Nat := (n >>> lo) % 2 ^ w

/-- Bit `i` of a number. -/
def bitAt (n i : Nat) : Bool := bitsAt n i 1 == 1

/-- A number with bits [lo + w − 1 : lo] replaced by `v` (cut to `w` bits). -/
def putBits (n lo w v : Nat) : Nat :=
  n - (bitsAt n lo w) <<< lo + (v % 2 ^ w) <<< lo

/-- One bit as a number. -/
def bitNat (b : Bool) : Nat := if b then 1 else 0

/-- A `w`-bit number read as two's complement. -/
def signedOf (w n : Nat) : Int :=
  let m := n % 2 ^ w
  if 2 ^ (w - 1) ≤ m then (m : Int) - (2 ^ w : Nat) else m

/-- An integer in `w`-bit two's complement. -/
def twosOf (w : Nat) (i : Int) : Nat := (i % ((2 ^ w : Nat) : Int)).toNat

/-- An integer held to a closed range (a saturating result). -/
def clampInt (lo hi i : Int) : Int := if i < lo then lo else if hi < i then hi else i

/-- A saturating counter of `w` bits, one more. -/
def satInc (w n : Nat) : Nat := if n + 1 < 2 ^ w then n + 1 else 2 ^ w - 1

/-- Little-endian value of a list of bytes (R10). -/
def leNat : List Byte → Nat
  | [] => 0
  | b :: bs => b.toNat + 256 * leNat bs

/-- `n` little-endian bytes of a number (R10). -/
def natLe : Nat → Nat → List Byte
  | 0, _ => []
  | n + 1, v => BitVec.ofNat 8 v :: natLe n (v / 256)

/-- Bytes [at, at + n) of a list, read little-endian; bytes past the end count as 0. -/
def leAt (bs : List Byte) (at_ n : Nat) : Nat := leNat ((bs.drop at_).take n)

/-- Quotient rounded to nearest, a tie to even (the RNE of spec/08). -/
def divRne (n d : Int) : Int :=
  let q := n / d
  let r := n % d
  if 2 * r < d then q else if d < 2 * r then q + 1 else if q % 2 = 0 then q else q + 1

/-- Quotient rounded to nearest, a tie upward (spec/02 R28). -/
def divHalfUp (n d : Int) : Int := (2 * n + d) / (2 * d)

/-- Ceiling of a quotient of naturals. -/
def ceilDiv (n d : Nat) : Nat := (n + d - 1) / d

/-- The `i`-th element of a list, or a default. -/
def nth {α : Type} (l : List α) (i : Nat) (d : α) : α := (l[i]?).getD d

/-- A number in its place in an ascending list, once. -/
def insertAsc (n : Nat) : List Nat → List Nat
  | [] => [n]
  | x :: xs => if n < x then n :: x :: xs else if n == x then x :: xs else x :: insertAsc n xs

/-- An ascending list with a number put in, or taken out where it stands in it. -/
def toggleBit (l : List Nat) (n : Nat) : List Nat := if l.contains n then l.erase n else insertAsc n l

/-- A list with its `i`-th element replaced (unchanged when there is none). -/
def setNth {α : Type} (l : List α) (i : Nat) (v : α) : List α := l.set i v

/-- The numbers below `n` for which `p` holds, ascending. -/
def indicesWhere (n : Nat) (p : Nat → Bool) : List Nat := (List.range n).filter p

/-- The number whose bit `i` is `p i`, for i below `n`. -/
def maskOf (n : Nat) (p : Nat → Bool) : Nat :=
  (List.range n).foldl (fun acc i => if p i then acc + 2 ^ i else acc) 0

end Sys2Proof.Machine
end

