-- ==== Sys2Proof/Machine/Sha.lean ====
section
/-! DEFINITION. Machine/Sha.lean: SHA-384 and HMAC-SHA-384, which image checks and the calibration check name (spec/18 R447,
R448, spec/19 R482); the functions themselves are those of FIPS 180-4 and FIPS 198-1 (notes/assumptions/47). -/

namespace Sys2Proof.Machine

/-- The highest number reached from `r` by setting bits below 2 ^ k while the result still fits. -/
def climb (fits : Nat → Bool) : Nat → Nat → Nat
  | 0, r => r
  | k + 1, r => climb fits k (if fits (r + 2 ^ k) then r + 2 ^ k else r)

/-- The first 64 bits of the fractional part of the square root (`deg` 2) or cube root (`deg` 3) of a number below 2,048. -/
def rootFrac (deg p : Nat) : BitVec 64 := BitVec.ofNat 64 (climb (fun r => r ^ deg ≤ p * 2 ^ (64 * deg)) 70 0)

/-- The 80 primes below 410, ascending. -/
def shaPrimes : List Nat := (List.range 410).filter (fun n => 2 ≤ n && (List.range (min n 21)).all (fun d => d < 2 || n ≤ d || n % d != 0))

/-- Round constants: the cube roots of the first 80 primes. -/
def shaK : List (BitVec 64) := shaPrimes.map (rootFrac 3)

/-- Initial hash value of SHA-384: the square roots of the 9th to the 16th prime. -/
def sha384Init : List (BitVec 64) := ((shaPrimes.drop 8).take 8).map (rootFrac 2)

/-- The sum of a word's rotations to the right, and of a shift to the right when one is given. -/
def turned (x : BitVec 64) (turns : List Nat) (shift : Option Nat) : BitVec 64 :=
  turns.foldl (fun acc n => acc ^^^ x.rotateRight n) (match shift with | some n => x >>> n | none => 0)

/-- The 64-bit word of eight bytes, most significant first. -/
def beNat (bs : List Byte) : Nat := bs.foldl (fun acc x => acc * 256 + x.toNat) 0

/-- `n` bytes of a number, most significant first. -/
def natBe (n v : Nat) : List Byte := (natLe n v).reverse

/-- Words 16 to 79 of the message schedule, one at a time; the list holds the words so far, newest first. -/
def scheduleMore : Nat → List (BitVec 64) → List (BitVec 64)
  | 0, ws => ws
  | k + 1, ws =>
    let back := fun (i : Nat) => nth ws (i - 1) 0
    scheduleMore k (([back 16, turned (back 15) [1, 8] (some 7), back 7, turned (back 2) [19, 61] (some 6)].foldl (· + ·) 0) :: ws)

/-- The message schedule of a block of 128 bytes. -/
def schedule (block : List Byte) : List (BitVec 64) :=
  let first := (List.range 16).map (fun i => BitVec.ofNat 64 (beNat ((block.drop (8 * i)).take 8)))
  (scheduleMore 64 first.reverse).reverse

/-- Bits of `y` where `x` is 1, of `z` where it is 0. -/
def choose (x y z : BitVec 64) : BitVec 64 := z ^^^ (x &&& (y ^^^ z))

/-- Bits that two of three words have. -/
def twoOfThree (x y z : BitVec 64) : BitVec 64 := (x &&& y) ||| (z &&& (x ||| y))

/-- One round on the eight working words, with the constant and the word of the round: each moves on by one, a fresh sum joins
the fifth and, with one more, becomes the first. -/
def shaRound (h : List (BitVec 64)) (kw : BitVec 64 × BitVec 64) : List (BitVec 64) :=
  let v := fun (i : Nat) => nth h i 0
  let fresh := [turned (v 4) [14, 18, 41] none, choose (v 4) (v 5) (v 6), kw.2, kw.1].foldl (· + ·) (v 7)
  let first := fresh + turned (v 0) [28, 34, 39] none + twoOfThree (v 0) (v 1) (v 2)
  (first :: h.take 7).modify 4 (· + fresh)

/-- One block into the hash. -/
def shaBlock (h : List (BitVec 64)) (block : List Byte) : List (BitVec 64) :=
  List.zipWith (· + ·) h ((shaK.zip (schedule block)).foldl shaRound h)

/-- `n` blocks of a padded message. -/
def shaBlocks : Nat → List (BitVec 64) → List Byte → List (BitVec 64)
  | 0, h, _ => h
  | n + 1, h, bs => shaBlocks n (shaBlock h (bs.take 128)) (bs.drop 128)

/-- The padded message. -/
def shaPad (bs : List Byte) : List Byte :=
  let zeros := (239 - bs.length % 128) % 128
  bs ++ [0x80#8] ++ List.replicate zeros 0 ++ natBe 16 (8 * bs.length)

/-- SHA-384 of bytes, 48 bytes. -/
def sha384 (bs : List Byte) : List Byte :=
  let m := shaPad bs
  ((shaBlocks (m.length / 128) sha384Init m).take 6).flatMap (fun w => natBe 8 w.toNat)

/-- HMAC-SHA-384. -/
def hmac384 (key msg : List Byte) : List Byte :=
  let k := if 128 < key.length then sha384 key else key
  let k := k ++ List.replicate (128 - k.length) 0
  sha384 (k.map (· ^^^ 0x5C#8) ++ sha384 (k.map (· ^^^ 0x36#8) ++ msg))

end Sys2Proof.Machine
end

