-- ==== Sys2Proof/Machine/Ecdsa.lean ====
section
/-! DEFINITION. Machine/Ecdsa.lean: verifying an ECDSA signature over NIST P-384 with SHA-384 (spec/18 R448); the curve and the
algorithm are those of FIPS 186 (notes/assumptions/47). -/

namespace Sys2Proof.Machine

def ecP : Nat := 2 ^ 384 - 2 ^ 128 - 2 ^ 96 + 2 ^ 32 - 1
def ecB : Nat :=
  0xb3312fa7e23ee7e4988e056be3f82d19181d9c6efe8141120314088f5013875ac656398d8a2ed19d2a85c8edd3ec2aef
def ecN : Nat :=
  0xffffffffffffffffffffffffffffffffffffffffffffffffc7634d81f4372ddf581a0db248b0a77aecec196accc52973
def ecG : Nat × Nat :=
  (0xaa87ca22be8b05378eb1c71ef320ad746e1d3b628ba79b9859f741e082542a385502f25dbf55296c3a545e3872760ab7,
   0x3617de4a96262c6f5d9e98bf9292dc29f8f41dbd289a147ce9da3113b5f0b8c00a60b1ce1d7e819d7a431d7c90ea0e5f)

/-- a to the power e modulo m, `fuel` bits of e. -/
def powMod (m : Nat) : Nat → Nat → Nat → Nat
  | 0, _, _ => 1
  | fuel + 1, a, e => (powMod m fuel (a * a % m) (e / 2)) * (if e % 2 = 1 then a else 1) % m

/-- Inverse modulo a prime of 384 bits. -/
def invMod (m a : Nat) : Nat := powMod m 384 a (m - 2)

def subMod (m a b : Nat) : Nat := (a + (m - b % m)) % m

/-- The sum of two points of the curve; `none` is the point at infinity. -/
def ecAdd (p q : Option (Nat × Nat)) : Option (Nat × Nat) :=
  match p, q with
  | none, q => q
  | p, none => p
  | some (x1, y1), some (x2, y2) =>
    if x1 = x2 ∧ (y1 + y2) % ecP = 0 then none
    else
      let l := if x1 = x2 then (3 * x1 * x1 + (ecP - 3)) * invMod ecP (2 * y1 % ecP) % ecP
        else subMod ecP y2 y1 * invMod ecP (subMod ecP x2 x1) % ecP
      let x := subMod ecP (l * l) (x1 + x2)
      some (x, subMod ecP (l * subMod ecP x1 x) y1)

/-- k times a point, `fuel` bits of k. -/
def ecMul : Nat → Nat → Option (Nat × Nat) → Option (Nat × Nat)
  | 0, _, _ => none
  | fuel + 1, k, p =>
    let r := ecMul fuel (k / 2) (ecAdd p p)
    if k % 2 = 1 then ecAdd p r else r

/-- A point of the curve. -/
def ecOn (p : Nat × Nat) : Bool :=
  p.1 < ecP && p.2 < ecP && p.2 * p.2 % ecP == (p.1 * p.1 * p.1 + (ecP - 3) * p.1 + ecB) % ecP

/-- A signature r, s over a message verifies under a public key (spec/18 R448). -/
def ecdsaOk (key : Nat × Nat) (msg : List Byte) (r s : Nat) : Bool :=
  if !ecOn key || r == 0 || ecN ≤ r || s == 0 || ecN ≤ s then false
  else
    let e := beNat (sha384 msg)
    let w := invMod ecN s
    match ecAdd (ecMul 384 (e * w % ecN) (some ecG)) (ecMul 384 (r * w % ecN) (some key)) with
    | none => false
    | some (x, _) => x % ecN == r

end Sys2Proof.Machine
end

