-- ==== Sys2Proof/Machine/Float.lean ====
section
/-! DEFINITION. Machine/Float.lean: the number formats of the tiles (spec/08 R176, R177), exact values, and rounding once to
nearest with ties to even (R179, R183). -/

namespace Sys2Proof.Machine

/-- A floating value: NaN, an infinity, or (−1)^neg × mag × 2^exp. -/
inductive FVal where
  | nan
  | inf (neg : Bool)
  | fin (neg : Bool) (mag : Nat) (exp : Int)
deriving DecidableEq, Repr

/-- A floating format: exponent bits, mantissa bits, bias, and whether the top exponent holds infinities. -/
structure FFmt where
  eb : Nat
  mb : Nat
  bias : Nat
  hasInf : Bool
deriving DecidableEq, Repr

/-- The floating formats by code (spec/08 R176 Table 1). -/
def fmtE4M3 : FFmt := ⟨4, 3, 7, false⟩
def fmtE5M2 : FFmt := ⟨5, 2, 15, true⟩
def fmtE8M7 : FFmt := ⟨8, 7, 127, true⟩
def fmtE5M10 : FFmt := ⟨5, 10, 15, true⟩
def fmtFP32 : FFmt := ⟨8, 23, 127, true⟩
def floatFmt (code : Nat) : Option FFmt :=
  if code == 2 then some fmtE4M3 else if code == 3 then some fmtE5M2 else if code == 4 then some fmtE8M7
  else if code == 5 then some fmtE5M10 else if code == 7 then some fmtFP32 else none

/-- Bits of an element by format code (spec/08 R176 Table 1); 0 for a code that is not issued. -/
def fmtBits (code : Nat) : Nat :=
  if code == 0 then 4 else if code == 1 || code == 2 || code == 3 then 8 else if code == 4 || code == 5 then 16
  else if code == 6 || code == 7 then 32 else 0

/-- The value an encoding decodes to (spec/08 R177). -/
def fDecode (f : FFmt) (n : Nat) : FVal :=
  let m := bitsAt n 0 f.mb
  let e := bitsAt n f.mb f.eb
  let s := bitAt n (f.mb + f.eb)
  let top := 2 ^ f.eb - 1
  if e == top && f.hasInf then (if m == 0 then .inf s else .nan)
  else if e == top && m == 2 ^ f.mb - 1 then .nan
  else if e == 0 then .fin s m (1 - (f.bias : Int) - f.mb)
  else .fin s (2 ^ f.mb + m) ((e : Int) - f.bias - f.mb)

/-- The canonical NaN of a format: 7Fh in both 8-bit ones (spec/08 R177). -/
def fNan (f : FFmt) : Nat := if f.mb ≤ 3 then 0x7F else (2 ^ f.eb - 1) * 2 ^ f.mb + 2 ^ (f.mb - 1)

/-- Infinity of a format that has one; canonical NaN in E4M3 (spec/08 R183). -/
def fInf (f : FFmt) (neg : Bool) : Nat :=
  if f.hasInf then bitNat neg * 2 ^ (f.eb + f.mb) + (2 ^ f.eb - 1) * 2 ^ f.mb else fNan f

/-- The largest finite encoding of a format. -/
def fMax (f : FFmt) (neg : Bool) : Nat :=
  bitNat neg * 2 ^ (f.eb + f.mb) + (if f.hasInf then (2 ^ f.eb - 1) * 2 ^ f.mb - 1 else 0x7E)

/-- `mag` shifted right by `s` bits, to nearest, ties to even. -/
def shrRne (mag s : Nat) : Nat :=
  let q := mag >>> s
  let r := mag % 2 ^ s
  if s == 0 then mag else if 2 ^ s < 2 * r || (2 * r == 2 ^ s && q % 2 == 1) then q + 1 else q

/-- A finite non-zero magnitude rounded to a format: its encoding without sign, or `none` on overflow. -/
def fRoundMag (f : FFmt) (mag : Nat) (exp : Int) : Option Nat :=
  let lead : Int := exp + (Nat.log2 mag : Nat)
  let emin : Int := 1 - (f.bias : Int)
  let q : Int := (if lead < emin then emin else lead) - f.mb
  let sig : Nat := if q ≤ exp then mag <<< (exp - q).toNat else shrRne mag (q - exp).toNat
  let (sig, q) := if 2 ^ (f.mb + 1) ≤ sig then (sig / 2, q + 1) else (sig, q)
  if sig < 2 ^ f.mb then some sig
  else
    let e := (q + f.mb + f.bias).toNat
    let code := e * 2 ^ f.mb + (sig - 2 ^ f.mb)
    if code ≤ fMax f false then some code else none

/-- A value converted to a format, rounded once (spec/08 R183 step 3): overflow gives an infinity, or with `sat` the largest
finite value; E4M3 always saturates a finite value and turns an infinity into NaN. -/
def fEncode (f : FFmt) (sat : Bool) (v : FVal) : Nat :=
  match v with
  | .nan => fNan f
  | .inf neg => fInf f neg
  | .fin neg mag exp =>
    if mag == 0 then bitNat neg * 2 ^ (f.eb + f.mb)
    else match fRoundMag f mag exp with
    | some c => bitNat neg * 2 ^ (f.eb + f.mb) + c
    | none => if sat || !f.hasInf then fMax f neg else fInf f neg

/-- A value rounded to FP32 (spec/08 R179). -/
def toFp32 (v : FVal) : FVal := fDecode fmtFP32 (fEncode fmtFP32 false v)

/-- An integer value. -/
def fInt (i : Int) : FVal := .fin (decide (i < 0)) i.natAbs 0

/-- Signed magnitude at a common exponent. -/
def fAtExp (neg : Bool) (mag : Nat) (exp e : Int) : Int :=
  let m : Int := (mag <<< (exp - e).toNat : Nat)
  if neg then -m else m

/-- An exact sum of finite values: (signed magnitude, exponent). -/
def fSumFin (vs : List (Bool × Nat × Int)) : Int × Int :=
  match vs with
  | [] => (0, 0)
  | v :: _ =>
    let e := vs.foldl (fun a x => if x.2.2 < a then x.2.2 else a) v.2.2
    (vs.foldl (fun a x => a + fAtExp x.1 x.2.1 x.2.2 e) 0, e)

/-- The exact product of two values (spec/08 R179): Inf × 0 is NaN. -/
def fMul (a b : FVal) : FVal :=
  match a, b with
  | .nan, _ => .nan
  | _, .nan => .nan
  | .inf s, .inf t => .inf (s != t)
  | .inf s, .fin t m _ => if m == 0 then .nan else .inf (s != t)
  | .fin s m _, .inf t => if m == 0 then .nan else .inf (s != t)
  | .fin s m e, .fin t n g => .fin (s != t) (m * n) (e + g)

/-- The exact sum of values; an exact zero is +0 (spec/08 R179). -/
def fSum (vs : List FVal) : FVal :=
  let isNan := vs.any (fun v => v == .nan)
  let pos := vs.any (fun v => v == .inf false)
  let neg := vs.any (fun v => v == .inf true)
  if isNan || (pos && neg) then .nan
  else if pos then .inf false
  else if neg then .inf true
  else
    let (s, e) := fSumFin (vs.filterMap (fun v => match v with | .fin a m x => some (a, m, x) | _ => none))
    .fin (decide (s < 0)) s.natAbs e

/-- Numerator and denominator as naturals scaled so that the quotient carries `n` bits and a sticky bit. -/
def fDiv (a b : FVal) : FVal :=
  match a, b with
  | .nan, _ => .nan
  | _, .nan => .nan
  | .inf _, .inf _ => .nan
  | .inf s, .fin t _ _ => .inf (s != t)
  | .fin s _ _, .inf t => .fin (s != t) 0 0
  | .fin s m e, .fin t n g =>
    if n == 0 then (if m == 0 then .nan else .inf (s != t))
    else
      let k := 64 + Nat.log2 n
      let num := m <<< k
      .fin (s != t) (2 * (num / n) + (if num % n == 0 then 0 else 1)) (e - g - k - 1)

/-- Integer square root, bit by bit from bit `i`. -/
def isqrtFrom : Nat → Nat → Nat → Nat
  | 0, n, r => if (r + 1) * (r + 1) ≤ n then r + 1 else r
  | i + 1, n, r =>
    let c := r + 2 ^ (i + 1)
    isqrtFrom i n (if c * c ≤ n then c else r)

/-- ⌊√n⌋. -/
def isqrt (n : Nat) : Nat := isqrtFrom (Nat.log2 n / 2 + 1) n 0

/-- A square root with a sticky bit, to be rounded by the target format. -/
def fSqrt (a : FVal) : FVal :=
  match a with
  | .nan => .nan
  | .inf neg => if neg then .nan else .inf false
  | .fin neg m e =>
    if m == 0 then .fin neg 0 0
    else if neg then .nan
    else
      let k := 80
      let odd := e % 2 != 0
      let n := (if odd then 2 * m else m) <<< (2 * k)
      let e' := (if odd then e - 1 else e) / 2 - k
      let r := isqrt n
      .fin false (2 * r + (if r * r == n then 0 else 1)) (e' - 1)

/-- a < b for two values that are not NaN; −0 equals +0. -/
def fLt (a b : FVal) : Bool :=
  match a, b with
  | .nan, _ => false
  | _, .nan => false
  | .inf s, .inf t => s && !t
  | .inf s, .fin .. => s
  | .fin .., .inf t => !t
  | .fin s m e, .fin t n g =>
    let lo := if e < g then e else g
    decide (fAtExp s m e lo < fAtExp t n g lo)

/-- A value is zero. -/
def fIsZero (a : FVal) : Bool := match a with | .fin _ m _ => m == 0 | _ => false

/-- The larger value; a NaN gives NaN and max(+0, −0) is +0 (spec/08 R197). -/
def fMaxV (a b : FVal) : FVal :=
  if a == .nan || b == .nan then .nan
  else if fIsZero a && fIsZero b then
    (match a, b with | .fin s _ _, .fin t _ _ => .fin (s && t) 0 0 | _, _ => a)
  else if fLt a b then b else a

/-- The smaller value; a NaN gives NaN and min(+0, −0) is −0. -/
def fMinV (a b : FVal) : FVal :=
  if a == .nan || b == .nan then .nan
  else if fIsZero a && fIsZero b then
    (match a, b with | .fin s _ _, .fin t _ _ => .fin (s || t) 0 0 | _, _ => a)
  else if fLt b a then b else a

/-- A wrapped 32-bit accumulator value (spec/08 R180). -/
def wrap32 (i : Int) : Int := signedOf 32 (twosOf 32 i)

/-- Requantisation of an INT32 accumulator (spec/08 R182). -/
def requant (a m : Int) (n : Nat) (zp : Int) (relu : Bool) (lo hi : Int) : Int :=
  let p := a * m
  let t := if n == 0 then p else (p + 2 ^ (n - 1)) / 2 ^ n
  let y := t + zp
  clampInt lo hi (if relu && y < zp then zp else y)

end Sys2Proof.Machine
end

