-- ==== Sys2Proof/Machine/Crc.lean ====
section
/-! DEFINITION. Machine/Crc.lean: the checksums: CRC-32C (spec/03 R76), the header CRC-16 (spec/11 R255). -/

namespace Sys2Proof.Machine

/-- One bit of the reflected CRC-32C: polynomial 1EDC6F41h reflected is 82F63B78h. -/
def crc32cBit (c : BitVec 32) : BitVec 32 :=
  if c.getLsbD 0 then (c >>> 1) ^^^ 0x82F63B78#32 else c >>> 1

/-- `n` bits of the reflected CRC-32C. -/
def crc32cBits : Nat → BitVec 32 → BitVec 32
  | 0, c => c
  | n + 1, c => crc32cBits n (crc32cBit c)

/-- One byte into the running CRC-32C. -/
def crc32cByte (c : BitVec 32) (b : Byte) : BitVec 32 := crc32cBits 8 (c ^^^ b.setWidth 32)

/-- The running CRC-32C (before the final XOR) over bytes. -/
def crc32cRun (c : BitVec 32) (bs : List Byte) : BitVec 32 := bs.foldl crc32cByte c

/-- CRC-32C of bytes (spec/03 R76). -/
def crc32c (bs : List Byte) : BitVec 32 := crc32cRun 0xFFFFFFFF#32 bs ^^^ 0xFFFFFFFF#32

/-- `n` bits of the CRC with polynomial 1021h, most significant bit first. -/
def crc16Bits : Nat → BitVec 16 → BitVec 16
  | 0, c => c
  | n + 1, c => crc16Bits n (if c.getLsbD 15 then (c <<< 1) ^^^ 0x1021#16 else c <<< 1)

/-- HCRC: polynomial 1021h, initial value FFFFh, no reflection, no final XOR (spec/11 R255). -/
def crc16 (bs : List Byte) : BitVec 16 :=
  bs.foldl (fun (c : BitVec 16) (b : Byte) => crc16Bits 8 (c ^^^ BitVec.ofNat 16 (b.toNat * 256))) 0xFFFF#16

end Sys2Proof.Machine
end

