-- ==== Sys2Proof/Config.lean ====
section
/-! DEFINITION. Config.lean: what one unit fixes, and the free values: the values the spec leaves open, which no proof
can see. -/

namespace Sys2Proof

/-- A value the spec leaves open (undefined contents, an unstated result): free, whatever the counter of the state that
draws it (notes/assumptions/2). -/
opaque Config.freeValue : Nat → Nat

/-- BLOCK_REV of a page's VERSION register (spec/03 R61 states no value). -/
opaque Config.blockRev : Nat → Nat

/-- The lane a vector compare gives, by lane width and outcome (spec/08 R196 Table 5 states none). -/
opaque Config.compareLane : Nat → Bool → Nat

/-- A Modom public key whose hash the ROM holds (spec/18 R448 states none): X and Y of key k. -/
opaque Config.modomKey : Nat → Nat × Nat

/-- The data an uncorrectable OTP value word reads as (spec/19 R476 states none), by its 39 bits. -/
opaque Config.ueData : Nat → Nat

end Sys2Proof
end

