-- ==== Sys2Proof/Machine/Tbl.lean ====
section
/-! DEFINITION. Machine/Tbl.lean: sparse maps from numbers to values, held as ONE canonical list: keys strictly rising,
and no entry equal to what an unlisted key reads as. Registers, memories, tags, queue pairs and the like are held so. -/

namespace Sys2Proof.Machine

/-- A sparse map: (key, value) pairs. -/
abbrev Tbl (α : Type) := List (Nat × α)

/-- The value at a key; an unlisted key reads as `d` gives. -/
def Tbl.get {α : Type} (d : Nat → α) (t : Tbl α) (k : Nat) : α :=
  match t with
  | [] => d k
  | (k', v) :: rest => if k' = k then v else Tbl.get d rest k

/-- The list without its entries at `k`. -/
def Tbl.drop {α : Type} (t : Tbl α) (k : Nat) : Tbl α :=
  match t with
  | [] => []
  | (k', v) :: rest => if k' = k then Tbl.drop rest k else (k', v) :: Tbl.drop rest k

/-- The list with `(k, v)` in its place by key, in place of an entry at `k`. -/
def Tbl.insert {α : Type} (t : Tbl α) (k : Nat) (v : α) : Tbl α :=
  match t with
  | [] => [(k, v)]
  | (k', v') :: rest =>
    if k < k' then (k, v) :: (k', v') :: rest
    else if k' = k then (k, v) :: rest
    else (k', v') :: Tbl.insert rest k v

/-- The map with `k` set to `v`, kept canonical: the default value is not listed. -/
def Tbl.put {α : Type} [DecidableEq α] (d : Nat → α) (t : Tbl α) (k : Nat) (v : α) : Tbl α :=
  if v = d k then Tbl.drop t k else Tbl.insert t k v

/-- The canonical form, from a lower bound on the keys. -/
def Tbl.wfFrom {α : Type} [DecidableEq α] (d : Nat → α) : Nat → Tbl α → Bool
  | _, [] => true
  | lo, (k, v) :: rest => decide (lo ≤ k) && decide (v ≠ d k) && Tbl.wfFrom d (k + 1) rest

/-- The canonical form: keys strictly rising, no default value listed. -/
def Tbl.wf {α : Type} [DecidableEq α] (d : Nat → α) (t : Tbl α) : Bool := Tbl.wfFrom d 0 t

/-- Set `vs` at `k`, `k + 1`, … -/
def Tbl.putMany {α : Type} [DecidableEq α] (d : Nat → α) (t : Tbl α) (k : Nat) : List α → Tbl α
  | [] => t
  | v :: vs => Tbl.putMany d (Tbl.put d t k v) (k + 1) vs

/-- The `n` values from key `k`. -/
def Tbl.getMany {α : Type} (d : Nat → α) (t : Tbl α) (k n : Nat) : List α :=
  (List.range n).map (fun i => Tbl.get d t (k + i))

/-- The map without the keys at which `p` holds (they read as their default again). -/
def Tbl.clear {α : Type} (t : Tbl α) (p : Nat → Bool) : Tbl α := t.filter (fun e => !p e.1)

/-- The default of a map whose unlisted keys read as one value. -/
def dflt {α : Type} (v : α) : Nat → α := fun _ => v

end Sys2Proof.Machine
end

