-- ==== Sys2Proof/Machine/PartsFab.lean ====
section
/-! DEFINITION. Machine/PartsFab.lean: the parts of the state behind chapters 11 and 12: ports and routing, queue pairs and the
endpoint. -/

namespace Sys2Proof.Machine

/-- What a Xanar port keeps beside its registers (spec/11): consecutive TRAIN_FAILs and the start of the wait after three
(R250), the last IDENT payload (R251), the start of each class's pause by the partner and whether it has passed PAUSE_WARN (R260),
packets waiting to leave with the input they came by, 4 the node's own endpoint (R253, R258, R259), and packets whose head has
arrived and their tail not, with what their header decided: the output port, 4 the own endpoint, 5 nothing, 6 not yet routed
(R253, R261). -/
structure PortSt where
  fails : Nat
  backoff : Option (BitVec 48)
  ident : Option (List Byte)
  pausedAt : List (Option (BitVec 48))
  warned : List Bool
  waiting : List (Nat × Packet)
  arriving : List (Packet × Nat)
deriving DecidableEq, Repr

/-- Routing (spec/11 R267, R271 to R273): table words by bank × 32 + word, the switch scheduled, and packets a stopped
XROUTE holds at their heads, with the port they came through, and packets on their way from the node's own endpoint to itself. -/
structure RouteSt where
  tables : Tbl Word
  pending : Option (Nat × Coord)
  held : List (Option Nat × Packet)
  own : List Packet
deriving DecidableEq, Repr

/-- Where a send job comes from (spec/12 R284, R285). -/
inductive JobFrom where
  | request (index : Nat)
  | mover (ch : Nat)
deriving DecidableEq, Repr

/-- A work request (spec/12 Table 5). -/
structure WorkReq where
  op : Nat
  final : Bool
  signal : Bool
  ltag : Bool
  win : Nat
  len : Nat
  localAddr : Nat
  remote : Nat
  key : Nat
  imm : Nat
deriving DecidableEq, Repr

/-- A job the send engine has taken (spec/12 R284, R285): bytes sent, and bytes acknowledged, for a read by the responses; a mover job
carries the writes still to be sent. -/
structure SendJob where
  id : Nat
  from_ : JobFrom
  wr : WorkReq
  sent : Nat
  acked : Nat
  allSent : Bool
  writes : List (Nat × List Byte)
deriving DecidableEq, Repr

/-- A packet sent and not yet acknowledged (spec/12 R292): its job and the data bytes it stands for. -/
structure OutPkt where
  job : Nat
  bytes : Nat
  last : Bool
  pkt : Packet
deriving DecidableEq, Repr

/-- What reaches a queue pair's send engine, in order (spec/12 R285). -/
inductive SendItem where
  | request (index : Nat)
  | mover (ch : Nat) (writes : List (Nat × List Byte)) (final : Bool) (imm : Nat)
deriving DecidableEq, Repr

/-- A completion entry to be posted: queue and 16 bytes (spec/12 Table 6). -/
structure Completion where
  cq : Nat
  bytes : List Byte
deriving DecidableEq, Repr

/-- What a queue pair keeps beside its registers (spec/12): what waits for its send engine, the jobs taken, the unacknowledged
packets and those to be sent again (R292, R295), in error the ring indices still to complete (R297); the last PSN an ACK may
name, and whether one is due (R294). -/
structure QpSt where
  queue : List SendItem
  jobs : List SendJob
  out : List OutPkt
  resend : List OutPkt
  flush : List Nat
  nextJob : Nat
  nakSent : Bool
  lastPlaced : Option Nat
  ackDue : Bool
  resetWaits : Bool
deriving DecidableEq, Repr

/-- An accepted packet at the endpoint, in arrival order (spec/12 R288 to R290): the place its access check gave it, the port it
came through, whether a tag window holds the place, the slots whose tags are still to be checked, what a read has read, the cause
its access has ended with (0 none), the job a read response is for, whether it
is a duplicate READ_REQ (R293), and whether its placement or read has begun. -/
structure RxPkt where
  qp : Nat
  pkt : Packet
  port : Option Nat
  space : Nat
  tile : Nat
  off : Nat
  len : Nat
  tags : Bool
  gate : List Nat
  got : List Byte
  cause : Nat
  job : Option Nat
  again : Bool
  started : Bool
deriving DecidableEq, Repr

/-- An entry of the queue-pair error log (spec/12 QLOG_DATA0 to 3). -/
structure QlogEntry where
  cause : Nat
  qp : Nat
  src : Nat
  asTarget : Bool
  psn : Nat
  coord : Nat
deriving DecidableEq, Repr

/-- A Wadi POST fire waiting for room (spec/12 R303): entry and queue pair. -/
structure WadiWait where
  entry : Nat
  qp : Nat
  bytes : List Byte
deriving DecidableEq, Repr

/-- A data-driven start a Wadi entry has sent to SCHED (spec/12 R300). -/
structure DataStart where
  group : Nat
  mask : Nat
deriving DecidableEq, Repr

/-- The fabric endpoint: queue pairs by number, accepted packets, completions not yet written, waiting fires, the log ring. -/
structure FabSt where
  qps : Tbl QpSt
  rx : List RxPkt
  completions : List Completion
  fires : List WadiWait
  qlog : Tbl (Option QlogEntry)
deriving DecidableEq, Repr

end Sys2Proof.Machine
end

