-- ==== Sys2Proof/Machine/PartsFleet.lean ====
section
/-! DEFINITION. Machine/PartsFleet.lean: the parts of the state behind chapters 13 and 14: schedules, the fleet, search. -/

namespace Sys2Proof.Machine

/-- Where an instance of a schedule entry stands (spec/13 R318 to R320, R325). -/
inductive InstState where
  /-- not open, or a DATA entry without its fire -/
  | waiting
  /-- to be started -/
  | due
  /-- started; its watchdog runs -/
  | running
  /-- its watchdog has fired -/
  | timedOut
  /-- a tile of its MASK has halted, a queue pair it uses has erred, or the ISP has abandoned a frame it consumes -/
  | failed
  /-- never started -/
  | missed
  /-- every tile has reported GROUP_DONE -/
  | ended
deriving DecidableEq, Repr

/-- An instance (spec/13 R318): its entry and the entry's fields as they stood at its frame's L0, the frame, the line
counter at that L0, whether it opened, its progress, what the plan says of its entry (part of the model, views served, queue
pairs used), the GAP cause and detail of its failure (R324, R386), and whether its frame was given up (R325). -/
structure Inst where
  entry : Nat
  frame : BitVec 32
  base : BitVec 48
  group : Nat
  mask : Nat
  start : Nat
  latest : Nat
  timeout : Nat
  retryBy : Nat
  data : Bool
  opened : Bool
  state : InstState
  kicked : Bool
  startedAt : BitVec 48
  done : Nat
  part : PlanPart
  views : List Nat
  qps : List Nat
  why : Nat × Nat
  given : Bool
deriving DecidableEq, Repr

/-- An entry of the schedule event log (spec/13 EVT_DATA0 to 2). -/
structure EvtEntry where
  entry : Nat
  kind : Nat
  tiles : Nat
  coord : Nat
deriving DecidableEq, Repr

/-- SCHED beside its registers (spec/13): entry words by (bank × 1,024 + entry) × 4 + word, instances oldest first, entries
with a held fire, the frames whose overrun check is still due with the line counter at their L0, the event log, ALIVE
written since the last due point and none written before the last one, heartbeats heard per port since the last due point, consecutive due points missed per
port, and the line period of the last due point acted on. -/
structure SchedSt where
  words : Tbl Word
  insts : List Inst
  fires : List Nat
  frames : List (BitVec 32 × BitVec 48)
  evt : Tbl EvtEntry
  alive : Bool
  silent : Bool
  heard : List Bool
  missedHb : List Nat
  lastDue : Option (BitVec 48)
deriving DecidableEq, Repr

/-- An entry of a search result (spec/14 R351, Table 6): global id, D as its 32 bits, the shard that holds it. -/
structure QEntry where
  id : Nat
  d : Nat
  shard : Nat
deriving DecidableEq, Repr

/-- A part of a query's result: its status (spec/14 Table 5) and entries in ascending key order. -/
structure QPart where
  status : Nat
  entries : List QEntry
deriving DecidableEq, Repr

/-- What identifies a query and travels with it (spec/14 Table 4). -/
structure QMeta where
  querier : Nat
  metric : Nat
  qid : Nat
  version : Nat
  k : Nat
  nprobe : Nat
  flags : Nat
  timeout : Nat
  start : Coord
  missing : Nat
deriving DecidableEq, Repr

/-- A query this node posted: where its result block goes (spec/14 R353). -/
structure OwnQuery where
  head : QMeta
  result : Nat
deriving DecidableEq, Repr

/-- A read that ended with POISON (spec/14 R360): on a search tile or in bulk memory, its address and length, and the line
period of the last try. -/
structure HeldRead where
  tile : Option Nat
  addr : Nat
  len : Nat
  tried : BitVec 48
deriving DecidableEq, Repr

/-- A query this node serves (spec/14 R355): the vector, the parts of the own shard and of the children, a hold. -/
structure ServedQuery where
  head : QMeta
  vec : List Byte
  own : Option QPart
  child0 : Option QPart
  child1 : Option QPart
  held : Option HeldRead
deriving DecidableEq, Repr

/-- A staged list (spec/14 R362): slot, centroid, its first and last bulk page, and the line period of its last use. -/
structure StagedList where
  slot : Nat
  centroid : Nat
  first : Nat
  last : Nat
  used : BitVec 48
deriving DecidableEq, Repr

/-- SEARCH beside its registers (spec/14): the headers of the two slots' shards, queries posted here and served here oldest
first, the next inbox cell per edge (parent, child 0, child 1), staged lists. -/
structure SearchSt where
  hdrs : List (List Byte)
  own : List OwnQuery
  served : List ServedQuery
  rot : List Nat
  staged : List StagedList
deriving DecidableEq, Repr

/-- A QP_SYNC proposal or its acceptance (spec/13 R326): queue pair, peer node and queue pair, the send and receive PSN the
proposer takes, and the line period it was last sent in. -/
structure QpSync where
  qp : Nat
  node : Nat
  peer : Nat
  send : Nat
  recv : Nat
  sentAt : BitVec 48
deriving DecidableEq, Repr

/-- What Erg keeps of the fleet beside SCHED's registers (spec/13 R326 to R340): the plan installed; ports whose partner agrees; the
line period of the last HELLO per port, or of the entry to PROBING; that of the own READY; the nodes known READY; notices seen as
(KIND, NODE, SEQ); its notice number; the variant prepared for a switch (AT, VKIND, VARG); the loss held (node, DET) and whether
GO was written for it; a tile fault taken under a fault variant; the Wadi half in force; outstanding proposals; accepted ones whose queue pair waits for its flush; the
last ones accepted; whether the variant prepared is a plan's first; the frame mode of the plan that runs, and whether SCHED has stopped because another is in force (R309); whether the fleet is in its safe state (R340); the frame
and the variant of the last switch; and by its destination the PACKED_CRC of every pack pass that has ended well (spec/09 R213). -/
structure FleetSt where
  plan : Option Plan
  agreed : List Bool
  heardAt : List (BitVec 48)
  readyAt : Option (BitVec 48)
  ready : List Nat
  seen : List (Nat × Nat × Nat)
  seq : Nat
  switch : Option (Coord × Nat × Nat)
  loss : Option (Nat × Coord)
  gone : Bool
  fault : Bool
  half : Nat
  offers : List QpSync
  waits : List QpSync
  taken : List QpSync
  starting : Bool
  runMode : Option Nat
  stopped : Bool
  blind : Bool
  lastSwitch : Option (BitVec 32 × Nat)
  packed : Tbl (Option Nat)
deriving DecidableEq, Repr

end Sys2Proof.Machine
end

