-- ==== Sys2Proof/Machine/PartsFront.lean ====
section
/-! DEFINITION. Machine/PartsFront.lean: the parts of the state behind chapters 02 to 06: the line epoch, shadow copies,
the sensor, the camera contexts, the line store and the image pipeline. What a register field already holds is not held
again here. -/

namespace Sys2Proof.Machine

/-- A pending shadow copy of a register (spec/03 R64); `late` once its coordinate was reached under HOLD (R68). -/
structure Shadow where
  value : Word
  late : Bool
  /-- line period in which it was written -/
  since : BitVec 48
deriving DecidableEq, Repr

/-- What is kept of a page beside its registers: whether its configuration changed since the last visit of the safety scan
and the mismatching checksum that visit found (spec/03 R77), and the line period of the last application of copies (R68). -/
structure PageSt where
  changed : Bool
  mismatch : Option Word
  appliedAt : Option (BitVec 48)
deriving DecidableEq, Repr

/-- A report to the safety monitor: cause code, source page, forced through IRQ_FORCE, tile or FFh (spec/20 R504). -/
structure SafeReport where
  cause : Nat
  page : Nat
  forced : Bool
  tile : Nat
deriving DecidableEq, Repr

/-- The sample behind the last map block (spec/02 R51). -/
structure MapSample where
  line : BitVec 48
  time : PtpTime
  domain : Nat
  src : Nat
deriving DecidableEq, Repr

/-- The line generator and the epoch logic (spec/02). Lengths of time are in line periods, phases in picoseconds. -/
structure EpochSt where
  /-- the 48-bit line counter (R31) -/
  line : BitVec 48
  /-- the 32-bit frame counter (R31) -/
  frame : BitVec 32
  /-- line counter at L0 of the current frame (FRAME_BASE) -/
  base : BitVec 48
  /-- frame length of the frame before this one -/
  prevLen : Nat
  /-- pending frame-mode change: mode and target frame (R30, R47) -/
  pendMode : Option (Nat × BitVec 32)
  /-- the pending change is this node's own FRAME_MODE copy -/
  pendOwn : Bool
  /-- that copy's target was reached under HOLD (R68) -/
  pendLate : Bool
  /-- line period in which that copy, its MODE_AT_F or its release from HOLD was last written (spec/03 R65) -/
  pendSince : BitVec 48
  /-- the node acts as its own epoch master after leaving its fleet (R406) -/
  ownMaster : Bool
  /-- phase error still to be slewed out, at most 1 ns a line period (R44) -/
  phase : Int
  /-- held frequency correction (R44, R48) -/
  freq : Int
  /-- accumulator of the LP source (R48) -/
  lpAcc : Nat
  /-- line period in which the current epoch state was entered (R41) -/
  entered : BitVec 48
  /-- line period of the last emitted beat -/
  lastBeat : Option (BitVec 48)
  /-- beat sequence number (Table 3) -/
  seq : BitVec 32
  /-- the last beat taken from the parent said that the master is SYNC_IN-driven (Table 3 FLAGS[5]) -/
  syncMaster : Bool
  /-- latest beat of each port, N E S W (R42); none since HOLDOVER was entered without one -/
  latest : List (Option Beat)
  /-- the port's measured delay was out of range (R43) -/
  delayBad : List Bool
  /-- a beat from the parent with FLAGS[6] clear came since the last due line period (R45) -/
  gotBeat : Bool
  /-- consecutive missed beats (R45) -/
  missed : Nat
  /-- consecutive beats with an offset of at most 1.2 ns (R45) -/
  aligned : Nat
  /-- line counter at which the current holdover began, and the frame length then -/
  holdLine : BitVec 48
  holdLen : Nat
  /-- consecutive missed SYNC_IN edges, and whether this frame's edge was seen or counted (R40) -/
  syncMissed : Nat
  syncSeen : Bool
  /-- start of the SYNC_OUT pulse in progress (R50) -/
  pulse : Option (BitVec 48)
  /-- last sample for the map block, a requested block, and a step since the last block (R51) -/
  mapPrev : Option MapSample
  mapNow : Bool
  stepped : Bool
  /-- SCHED groups are to be halted at the next line period (R46) -/
  haltPending : Bool
deriving DecidableEq, Repr

/-- The fields of one readout window (spec/04 R88). -/
structure WinCfg where
  en : Bool
  col0 : Nat
  cols : Nat
  row0 : Nat
  rows : Nat
  startL : Nat
  slot : Nat
  reps : Nat
  gain : Nat
  exposure : Nat
deriving DecidableEq, Repr

/-- One reference row as converted, or missed (spec/04 R94, R95). -/
structure RefRow where
  testCharge : Bool
  index : Nat
  conv : Option Conversion
deriving DecidableEq, Repr

/-- The sensor (spec/04): the window sets that govern this frame and the next, RUN over two frames, and the frame's
reference rows. -/
structure SenSt where
  govern : List WinCfg
  next : List WinCfg
  runNow : Bool
  runBefore : Bool
  refRows : List RefRow
  /-- optical-black means in 1/16 DN of the current frame, per column group (R94, R126) -/
  obHcg : List Nat
  obLcg : List Nat
  /-- the frame before failed a reference check (R96) -/
  failedBefore : Bool
deriving DecidableEq, Repr

/-- The source of an external context: port, virtual channel, data type (spec/05 R108). -/
structure CamSource where
  port : Nat
  vc : Nat
  dt : Nat
deriving DecidableEq, Repr

/-- What an external context keeps beside its registers (spec/05 R112, R113). -/
structure CamCtx where
  /-- source of the frame in progress -/
  src : CamSource
  /-- lines delivered -/
  delivered : Nat
  /-- flags of the frame in progress (Table 4) -/
  flags : Nat
  /-- line counter at the FS frame start -/
  fsLine : BitVec 48
  /-- line counter of the last accepted Frame Start, if any (MIN_INTERVAL) -/
  lastFs : Option (BitVec 48)
  /-- line counter of the last accepted packet -/
  lastPkt : BitVec 48
  /-- line counter at which the next pad line is due -/
  padAt : BitVec 48
  /-- a ROUTE copy applied and no frame was accepted since -/
  routeNew : Bool
  /-- width, height and pad of the frame in progress -/
  width : Nat
  height : Nat
  pad : Nat
deriving DecidableEq, Repr

/-- What stands in one place of the line store's sequence (spec/05 R105). -/
inductive LineKind where
  /-- pixels of a row -/
  | pixels (hcg lcg : List Nat)
  /-- a fill or pad line, generated at the ISP input -/
  | fill (value : Nat)
  /-- the frame's end, with its flag byte -/
  | endOfFrame (flags : Nat)
deriving DecidableEq, Repr

/-- What a row is tagged with on its way to its context (spec/04 R82): row number, gain and slot; of an external line its number
in the frame. -/
structure RowTag where
  row : Nat
  gain : Nat
  slot : Nat
deriving DecidableEq, Repr

/-- A line of the store. -/
structure StoreLine where
  ctx : Nat
  positions : Nat
  tag : RowTag
  kind : LineKind
deriving DecidableEq, Repr

/-- Statistics being gathered (spec/06 R142): histogram counts and zone sums, keyed channel × 256 + bin or zone. -/
structure StatAcc where
  hist : Tbl Nat
  zsum : Tbl Nat
  zcnt : Tbl Nat
  zsat : Tbl Nat
deriving DecidableEq, Repr

/-- An output row waiting in a context's hold, and the line at which it entered (spec/06 R138). -/
structure HeldRow where
  row : Nat
  bytes : List Byte
  since : BitVec 48
deriving DecidableEq, Repr

/-- A context frame in the image pipeline (spec/06): the parameter set in force at its frame start, what it carries into
its descriptor, the linear rows it has formed, and its progress. -/
structure IspFrame where
  ctx : Nat
  coord : Coord
  /-- the 16 words of the context's block at the frame start (R123) -/
  params : List Nat
  width : Nat
  height : Nat
  /-- array column and row of pixel (0,0) for an own context -/
  col0 : Nat
  row0 : Nat
  gain : Nat
  exposure : Nat
  mode : Nat
  temp : Int
  hot : Bool
  obHcg : List Nat
  obLcg : List Nat
  /-- bits 0 and 1: DEFECT_BANK and DARK_BANK in force -/
  banks : Nat
  /-- ISPSTAT took the frame's statistics on -/
  statOn : Bool
  srcFn : Nat
  /-- code of Table 2, or 0 -/
  check : Nat
  ispFlags : Nat
  abandoned : Bool
  /-- linear rows so far, and which of them carry pixels -/
  rows : List (List Int)
  real : List Bool
  /-- output rows formed and written -/
  formed : Nat
  written : Nat
  held : List HeldRow
  stat : StatAcc
  /-- flag byte once the end of the frame has come through the store -/
  ended : Option Nat
  /-- the descriptor waits for its slot since this line period -/
  descAt : Option (BitVec 48)
  /-- the descriptor is written or lost -/
  descDone : Bool
  /-- STAT_SEQ the descriptor carries -/
  statSeq : Nat
deriving DecidableEq, Repr

/-- The image pipeline (spec/06): tables, frames by context in order of start, published statistics. -/
structure IspSt where
  /-- table words, keyed ((context × 4 + table) × 2 + bank) × 65,536 + word; unit tables use context 0 -/
  tables : Tbl Word
  frames : List IspFrame
  /-- published statistics words, keyed (context × 8 + part) × 256 + word -/
  published : Tbl Word
  /-- pixel positions taken in this line period (R105) -/
  used : Nat
deriving DecidableEq, Repr

/-- The camera side (spec/05): the line store, the external contexts (index 0 is context 4), the port of each CSI. -/
structure CamSt where
  store : List StoreLine
  ctx : List CamCtx
deriving DecidableEq, Repr

end Sys2Proof.Machine
end

