-- ==== Sys2Proof/Machine/PartsHost.lean ====
section
/-! DEFINITION. Machine/PartsHost.lean: the parts of the state behind chapter 15: client contexts, the journal, the host
and CAN ports. -/

namespace Sys2Proof.Machine

/-- An item of a context's stream that is not acknowledged (spec/15 R373, R374, R380): its seq, its bytes, whether it outlives
CLOSE, whether it has been sent, and whether its commit still waits for the mirror. -/
structure ClItem where
  seq : Nat
  bytes : List Byte
  keep : Bool
  sent : Bool
  held : Bool
deriving DecidableEq, Repr

/-- A REQUEST being reassembled (spec/15 R372): seq, fragments expected, those that came, the first one's line period. -/
structure Frag where
  seq : Nat
  cnt : Nat
  parts : List (Nat × List Byte)
  since : BitVec 48
deriving DecidableEq, Repr

/-- A client context beside its configuration registers (spec/15 R373 to R378, R387, R396): STATE, ERA, the last item COUNT,
the last accepted request seq, the stream, batches lost to a full buffer with the first one's coordinate, the token bucket in
1/300,000 token and the ROIs of the second in progress, the reassembly, the line period since which no item was freed; for a
foster context the node it belongs to and its ten configuration words. -/
structure ClCtx where
  state : Nat
  era : Nat
  count : Nat
  lastReq : Nat
  buf : List ClItem
  slow : Option (Coord × Nat)
  tokens : Nat
  tokAt : BitVec 48
  crops : Nat
  cropAt : BitVec 48
  frag : Option Frag
  timer : BitVec 48
  origin : Nat
  words : List Nat
deriving DecidableEq, Repr

/-- A context frame known to belong to a frame of the line epoch (spec/15 R384). -/
structure FrameMark where
  view : Nat
  coord : Coord
  frame : BitVec 32
deriving DecidableEq, Repr

/-- An item posted and checked, waiting for the end of its batch (spec/15 R382, R383). -/
structure PostedItem where
  target : Option Nat
  bytes : List Byte
deriving DecidableEq, Repr

/-- A context frame that yields nothing, for which Erg owes a GAP (spec/15 R386 Table 7). -/
structure GapDue where
  view : Nat
  coord : Coord
  cause : Nat
  detail : Nat
deriving DecidableEq, Repr

/-- A frame of a view that will not be delivered, with the cause of its GAP (spec/15 R386 Table 7): each context frame of it
yields nothing. -/
structure LostFrame where
  view : Nat
  frame : BitVec 32
  cause : Nat
  detail : Nat
deriving DecidableEq, Repr

/-- CLIENT beside its registers (spec/15): contexts (0 to 63, and 64 + k for the fostered context k), open batches by view and
frame, views closed at least once, context frames seen, the last HEALTH body and the line period it was appended in, the line period
of the last HEALTH of the safe state and of MAINTENANCE, the isolated partner (node, port, field), and the absent nodes with the REASON
and SINCE_F of SECTOR_BLIND (Table 6). -/
structure ClientSt where
  ctxs : Tbl ClCtx
  batches : Tbl (List PostedItem)
  closed : Tbl Bool
  marks : List FrameMark
  lastHealth : List Byte
  healthAt : BitVec 48
  safeAt : Option (BitVec 48)
  iso : Option (Nat × Nat × Nat)
  missing : List Nat
  blindWhy : Nat
  blindSince : BitVec 32
  /-- GAP records that Erg has still to post -/
  owed : List GapDue
  /-- frames known to be lost, until no further context frame can join them -/
  lost : List LostFrame
  /-- what the mirrored context table holds of each context (spec/15 R393) -/
  mirrored : Tbl (List Nat)
deriving DecidableEq, Repr

/-- A journal entry (spec/15 R392 Tables 12 and 13): `stage` 0 none, 1 mirror write, 2 flash write in progress, since `since`;
`asked` when COMMIT was written. -/
structure JEntry where
  state : Nat
  client : Nat
  kind : Nat
  origin : Nat
  era : Nat
  body : List Byte
  reqSeq : Nat
  recSeq : Nat
  item : List Byte
  accept : Coord
  commit : Coord
  stage : Nat
  since : BitVec 48
  asked : Bool
  arrived : BitVec 48
deriving DecidableEq, Repr

/-- JOURNAL beside its registers (spec/15 R392 to R397): entries by index, those of the fostered ward, the query each entry has
posted, the acceptance coordinates sent (context, seq, coordinate), the ward fostered, a damaged mirror of the ward. -/
structure JournalSt where
  entries : Tbl JEntry
  ward : Tbl JEntry
  coords : List (Nat × Nat × Coord)
  fosterOf : Option Nat
  queries : List (Nat × Nat)
  damaged : Bool
deriving DecidableEq, Repr

/-- A CAN controller beside its registers (spec/15 R369): HB_ARM written since the last due point, the last due point acted
on, the frame in transmission (`true` a safe frame). -/
structure CanSt where
  armed : Bool
  lastDue : Option (BitVec 48)
  sending : Option Bool
deriving DecidableEq, Repr

/-- A host MAC beside its registers (spec/15 R367): the offset PTP_STEP has given its PTP clock, in ns. -/
structure MacSt where
  step : Int
deriving DecidableEq, Repr

end Sys2Proof.Machine
end

