-- ==== Sys2Proof/Machine/PartsMem.lean ====
section
/-! DEFINITION. Machine/PartsMem.lean: the parts of the state behind chapters 09 and 10: bulk memory, the mover, the packer. -/

namespace Sys2Proof.Machine

/-- What the page map holds of a visible page (spec/10 R237 to R241): the spare it is mapped to, whether it is dead,
whether a reload is queued for it, and the finder whose error started a migration in progress. -/
structure BulkPage where
  spare : Option Nat
  dead : Bool
  reloading : Bool
  migrating : Option Nat
deriving DecidableEq, Repr

/-- A requester waiting on a RELOADING or migrating page (spec/10 R237, R239): a BULK_ACCESS, an engine's posted write (`own`,
nothing reports its end), or the next access of an engine that will ask again. `cls` is the class, plus 8 × the number of the
engine within it. -/
structure BulkWait where
  cls : Nat
  page : Nat
  since : BitVec 48
  access : Option BulkAccess
  own : Bool
deriving DecidableEq, Repr

/-- An entry of the retirement log (spec/10 R246 RLOG_DATA0 to 2). -/
structure RetireEntry where
  page : Nat
  kind : Nat
  finder : Nat
  coord : Nat
deriving DecidableEq, Repr

/-- Bulk memory (spec/10): bytes by visible address, poisoned units, the stored bits of a unit that are wrong (R236), the page map,
spares used, the pages tracked for correctable errors with their counts (most recent last), waiting requesters, pages queued for reload, the log ring. -/
structure BulkSt where
  bytes : Tbl Byte
  poison : Tbl Bool
  flips : Tbl (List Nat)
  pages : Tbl BulkPage
  used : Nat
  tracker : List (Nat × Nat)
  waits : List BulkWait
  reloads : List Nat
  rlog : Tbl (Option RetireEntry)
deriving DecidableEq, Repr

/-- A mover channel beside its registers (spec/10 R226, R231): descriptor HEAD as fetched and accepted (empty before), its bytes
moved in traversal order, the SPM slots already reached (tile × 2^14 + slot), fabric writes gathered, whether they stand in the
queue pair, and how that ended them: the cause, 0 when all are acknowledged, and the bytes acknowledged. -/
structure MoverCh where
  desc : List Byte
  pos : Nat
  seen : List Nat
  writes : List (Nat × List Byte)
  queued : Bool
  fabEnd : Option (Nat × Nat)
deriving DecidableEq, Repr

/-- A pack pass in progress, its registers as they stood at GO (spec/09 R210 to R212, R220). -/
structure PackJob where
  verify : Bool
  expOn : Bool
  deltaOn : Bool
  shadow : Bool
  fmt : Nat
  plain : Nat
  src : Nat
  baseSrc : Nat
  baseOff : Nat
  dst : Nat
  limit : Nat
deriving DecidableEq, Repr

/-- An expansion at load in progress (spec/09 R219). -/
structure ExpandJob where
  tile : Nat
  src : Nat
  dst : Nat
deriving DecidableEq, Repr

/-- How far a pack pass has come: the plain bytes taken, the segments written, and whether the header is (spec/09 R210, R212). -/
structure PackRun where
  plain : List Byte
  out : List Byte
  headed : Bool
deriving DecidableEq, Repr

/-- The packer beside its registers: the pass in progress and how far it has come, the expansion in progress, and for EXP and DELTA
the histogram and the lengths of the last segment of the last pass (spec/09 R223 HIST_DATA). -/
structure PackSt where
  pass : Option PackJob
  run : PackRun
  expand : Option ExpandJob
  histExp : List Nat
  lensExp : List Nat
  histDelta : List Nat
  lensDelta : List Nat
deriving DecidableEq, Repr

end Sys2Proof.Machine
end

