-- ==== Sys2Proof/Machine/PartsNode.lean ====
section
/-! DEFINITION. Machine/PartsNode.lean: the parts of the state behind chapters 16 to 20: power modes, the Oasis, the tally, the
control cores, the fuse controller, the safety monitor. -/

namespace Sys2Proof.Machine

/-- An accepted mode request (spec/16 R408). -/
structure ModeReq where
  target : Nat
  fmode : Nat
  atF : BitVec 32
deriving DecidableEq, Repr

/-- A power-mode transition in progress (spec/16 R409): the mode left, the target, the line period its step started in, and
whether it is a wake. -/
structure ModeTrans where
  source : Nat
  target : Nat
  since : BitVec 48
  wake : Bool
deriving DecidableEq, Repr

/-- PWR beside its registers (spec/16): the mode in force (Table 2), BULK in self-refresh, the accepted request, a step with no
AT_F that waits for the next line period, the transition, a frame mode still to be taken at an L0, and
consecutive L0 samples of TEMP_MAX at 125 °C or more (R438). -/
structure PowerSt where
  mode : Nat
  bulkRet : Bool
  request : Option ModeReq
  step : Option Nat
  trans : Option ModeTrans
  frameAtL0 : Option Nat
  hot : Nat
deriving DecidableEq, Repr

/-- A tracker of the flash-pattern detector (spec/16 R420); onsets are sample numbers. -/
structure Tracker where
  pattern : Nat
  macroFirst : Nat
  first : Nat
  firstCoord : Coord
  macroLast : Nat
  last : Nat
  count : Nat
deriving DecidableEq, Repr

/-- The flash-pattern detector (spec/16 R419 to R421): running, samples so far, backgrounds in 1/16 level, the onset of each
flash in progress by macro-pixel, trackers, and the Oasis ticks of holdoff left per pattern. -/
structure DetSt where
  on : Bool
  sample : Nat
  bg : List Nat
  flash : List (Option (Nat × Coord))
  trackers : List Tracker
  hold : List (Option Nat)
deriving DecidableEq, Repr

/-- A wake record (spec/16 R423): `sentTo` lists the contexts and item seqs of its appended WAKE_EVENT. -/
structure WakeRec where
  coord : Coord
  pattern : Nat
  macroPix : Nat
  fromMode : Nat
  flashes : Nat
  sentTo : Option (List (Nat × Nat))
deriving DecidableEq, Repr

/-- OASIS beside its registers (spec/16, spec/17): ticks with VIN below VIN_LOW, ticks with VIN_OK and HOLD_OK, ticks with HOLD
below HOLD_MIN while VIN_OK; PRES_N: equal samples against the debounced state, ticks of debounced closure, ticks left of the
window, and whether this closure has opened its window; the active wake sources; why SUPPLY may start the node (0 not, 1 from OFF, 2 after a power fail); detector; records. -/
structure OasisSt where
  vinLow : Nat
  good : Nat
  holdLow : Nat
  presSame : Nat
  closedFor : Nat
  windowLeft : Nat
  opened : Bool
  wake : Nat
  supply : Nat
  det : DetSt
  recs : List WakeRec
deriving DecidableEq, Repr

/-- The tally controller beside its registers (spec/17 R440 to R442): Oasis ticks until the interval has elapsed, a commanded
cold reset that waits for the bar, the content of the update in progress, and UPDATE_COUNT as Hamada keeps it in flash. -/
structure TallySt where
  wait : Nat
  coldWaits : Bool
  showing : Word
  stored : Nat
deriving DecidableEq, Repr

/-- A kernel invocation on an Erg core (spec/18 R469): its record of 128 bytes and the items it has emitted, each with its one
context or none. -/
structure KernelRun where
  record : List Byte
  emitted : List (Option Nat × List Byte)
deriving DecidableEq, Repr

/-- The control cores beside their registers (spec/18): line periods of the boot's start, of Erg's start, of READY and of the
last kick; FAILS returned to 0 after READY; kernels by core; the Erg log; the line period of an answer that a warm
reset follows (spec/19 R491, R498); the line period in which the Erg cores stopped with their state kept (spec/16 R403). -/
structure CoreSt where
  bootAt : BitVec 48
  startedAt : Option (BitVec 48)
  readyAt : Option (BitVec 48)
  kickedAt : BitVec 48
  settled : Bool
  kernels : Tbl (Option KernelRun)
  log : List (Nat × List Byte)
  resetDue : Option (BitVec 48)
  stoppedAt : Option (BitVec 48)
deriving DecidableEq, Repr

/-- A burn in progress (spec/19 R479): the word, its codeword, attempts made. -/
structure Burn where
  word : Nat
  code : Nat
  tries : Nat
deriving DecidableEq, Repr

/-- The fuse controller beside its registers: the burn in progress, and a reset that waits for the attempt (R480): 1 warm by
Hamada, 2 cold, 3 warm by the safety monitor, 4 warm with its failure already counted. The boundary scan register as last preloaded or driven (R493). What Hamada keeps
in module flash beside the partitions' bytes: a pending factory reset (R498), client 0's binding in OWNER (R464) and the list of
retired bulk pages in RETIRE, which is given no layout (spec/10 R242, spec/18 R446). The calibration check passed at this boot (R490). -/
structure FuseSt where
  burn : Option Burn
  resetWaits : Nat
  scan : List Bool
  driven : Bool
  factory : Bool
  owner : Option (Nat × HostAddr)
  retired : List Nat
  calibOk : Bool
deriving DecidableEq, Repr

/-- A cause that holds the safe state (spec/20 R504 to R506): its code, page, whether forced, its tile or FFh, the line period of
its entry, consecutive L0s with its condition false, and whether its source was raised since the previous L0. -/
structure SafeCause where
  code : Nat
  page : Nat
  forced : Bool
  tile : Nat
  since : BitVec 48
  quiet : Nat
  again : Bool
deriving DecidableEq, Repr

/-- A walk step of a tile (spec/20 R509, WALK_REF, WALK_LAST, WALK_STATUS). -/
structure WalkSt where
  ref : Word
  last : Word
  learned : Bool
  fail : Bool
  f : Nat
deriving DecidableEq, Repr

/-- An entry of the safety log (spec/20 SLOG_DATA0 to 2). -/
structure SlogEntry where
  cause : Nat
  page : Nat
  forced : Bool
  release : Bool
  tile : Nat
  coord : Nat
deriving DecidableEq, Repr

/-- The safety monitor beside its registers (spec/20): causes in force, canary signatures latched since the previous L0 by tile,
walk steps by tile × 64 + step, the tiles whose walk failed since the previous L0, the log, consecutive clock windows out of
range by clock (TW, TE, SYS, ISP, REF), the line period of the last window, that of the last SCHED bank switch since the
previous L0, SCHED.STATUS.RUN at the previous L0, the last evaluation's answer to the ready gate, tiles condemned by their
self-check and those of them whose check was forced alone, and the coordinate of each tile's last pass. -/
structure SafeSt where
  causes : List SafeCause
  sigs : Tbl (Option Word)
  walks : Tbl WalkSt
  walkBad : List Nat
  slog : Tbl (Option SlogEntry)
  clockBad : List Nat
  windowAt : BitVec 48
  switchedAt : Option (BitVec 48)
  runBefore : Bool
  canaryOk : Bool
  condemned : List Nat
  condemnedForced : List Nat
  passed : Tbl Nat
deriving DecidableEq, Repr

end Sys2Proof.Machine
end

