-- ==== Sys2Proof/Machine/PartsTiles.lean ====
section
/-! DEFINITION. Machine/PartsTiles.lean: the parts of the state behind chapters 07 to 10: tiles, their engines, the packer,
the mover and bulk memory. -/

namespace Sys2Proof.Machine

/-- What a wait waits for (spec/07 R153, R158, R163). -/
inductive WaitKind where
  /-- a read while the slot is EMPTY -/
  | readFull
  /-- a write while the slot is FULL -/
  | writeEmpty
  /-- a read in a granule in re-initialisation, whatever the tag -/
  | readInit
  /-- a write in a granule in re-initialisation, whatever the tag -/
  | writeInit
deriving DecidableEq, Repr

/-- The wait is a write's: TT_INFO.KIND (spec/07 R174). -/
def WaitKind.isWrite (k : WaitKind) : Bool := k == .writeEmpty || k == .writeInit

/-- An access waiting at a tile's scratchpad. `src` is the tile whose port issued it, the mover channel or the queue pair;
`port` its requester code there (14 for a work request's own source); `req` its requester code at this tile (R149). `since` is
the line period in which it first found its condition unmet. `met` tells that the condition has become true since, so that the
access goes on (R156). `access` is the access of a port, `none` that of a unit which tries again by itself. -/
structure Wait where
  src : Nat
  port : Nat
  req : Nat
  slot : Nat
  kind : WaitKind
  since : BitVec 48
  met : Bool
  access : Option SpmAccess
deriving DecidableEq, Repr

/-- A compare-and-count descriptor queued or running, and whether group code issued it (spec/07 R169). -/
structure CcJob where
  desc : List Byte
  byGroup : Bool
deriving DecidableEq, Repr

/-- An entry of a tile's error log (spec/07 R174 ELOG_DATA0 to 3). -/
structure ElogEntry where
  cause : Nat
  req : Nat
  slot : Nat
  coord : Nat
  group : Nat
deriving DecidableEq, Repr

/-- An operator on one of a tile's units (spec/08 R187): its descriptor and the output rows done; of the row in progress the
gate reads made (R190), the pass groups computed (R184), the output elements computed and not yet written, with the element each
run of them starts at, and the slots found EMPTY so far (R192); bounds below which every input row is gated, and released. -/
structure OpRun where
  desc : List Byte
  done : Nat
  gates : Nat
  passes : Nat
  drain : List (Nat × List Nat)
  written : Nat
  gated : Nat
  released : Nat
deriving DecidableEq, Repr

/-- What a tile keeps beside its registers. -/
structure TileSt where
  waits : List Wait
  /-- accesses of the tile's ports held back by an earlier one of their port, in the order issued (R152) -/
  held : List SpmAccess
  cc : List CcJob
  /-- the error log ring (R174) -/
  elog : Tbl ElogEntry
  /-- self-check in progress (R173) -/
  checking : Bool
  /-- operators of the matrix engine and of the vector unit, the running one first (spec/08 R187) -/
  matrix : List OpRun
  vector : List OpRun
  /-- the vector unit's 32 INT32 accumulators (spec/08 R196) -/
  acc : List Int
  /-- running signature of a canary or walk group (spec/20 R507), before the final XOR -/
  canary : Option Word
deriving DecidableEq, Repr

/-- An entry of the poison log (spec/07 R175 POISON_DATA0, 1). -/
structure PoisonEntry where
  tile : Nat
  line : Nat
  attr : Nat
  emptySlot : Bool
  finder : Nat
  l : Nat
  f : Nat
deriving DecidableEq, Repr

/-- The scratchpads of all tiles (spec/07): bytes by tile × 2^22 + address; full tags, and the tag copy that disagrees (1 to 3;
0 none), by tile × 2^14 + slot; poisoned lines, and the stored bits of a line that are wrong, by tile × 2^17 + line; the granules
in re-initialisation of each tile, as a mask; the poison log ring. -/
structure SpmSt where
  bytes : Tbl Byte
  full : Tbl Bool
  vote : Tbl Nat
  poison : Tbl Bool
  flips : Tbl (List Nat)
  init : Tbl Nat
  plog : Tbl (Option PoisonEntry)
deriving DecidableEq, Repr

end Sys2Proof.Machine
end

