-- ==== Sys2Proof/Machine/RegTable.lean ====
section
/-! DEFINITION. Machine/RegTable.lean: the register tables of spec/02 to spec/20, one row per register (or per run of
equal registers): offset, how many, stride, shadow kind, reset value, and the masks of its RW, W1C and kept (STK, LCK)
bits, and whether its RW bits belong to the configuration set (R76). Everything else of a register reads as stored
or is read only. -/

namespace Sys2Proof.Machine

/-- How a write of a register takes effect (R64, R66, R67). -/
inductive ShadowKind where
  | none | shf | shl
deriving DecidableEq, Repr

/-- One row of a register table. -/
structure RegRow where
  off : Nat
  count : Nat
  stride : Nat
  shadow : ShadowKind
  reset : Nat
  rw : Nat
  w1c : Nat
  kept : Nat
  inCrc : Bool
deriving DecidableEq, Repr

/-- The common header of every page (spec/03 R61, Table 3). -/
def headerRows : List RegRow := [
  ⟨0x000, 1, 0, .none, 0, 0, 0, 0, false⟩ /- ID -/,
  ⟨0x004, 1, 0, .none, 0, 0, 0, 0, false⟩ /- VERSION -/,
  ⟨0x008, 1, 0, .none, 0, 0, 0, 0, false⟩ /- CAP0 -/,
  ⟨0x00C, 1, 0, .none, 0, 0, 0, 0, false⟩ /- CAP1 -/,
  ⟨0x010, 1, 0, .none, 0, 0x15, 0, 0, false⟩ /- CTRL -/,
  ⟨0x014, 1, 0, .none, 0, 0, 0, 0, false⟩ /- STATUS -/,
  ⟨0x018, 1, 0, .none, 0, 0, 0xFFFFFFFF, 0, false⟩ /- IRQ_RAW -/,
  ⟨0x01C, 1, 0, .none, 0, 0xFFFFFFFF, 0, 0, true⟩ /- IRQ_EN -/,
  ⟨0x020, 1, 0, .none, 0, 0, 0, 0, false⟩ /- IRQ_FORCE -/,
  ⟨0x024, 1, 0, .none, 0, 0, 0x80000000, 0xC0FFFFFF, false⟩ /- ERR_CAP0 -/,
  ⟨0x028, 1, 0, .none, 0, 0, 0, 0xFFFFFFFF, false⟩ /- ERR_CAP1 -/,
  ⟨0x02C, 1, 0, .none, 0, 0, 0, 0xFFFFFFFF, false⟩ /- ERR_COUNT -/,
  ⟨0x030, 1, 0, .none, 0, 3, 0, 3, true⟩ /- LOCK -/,
  ⟨0x034, 1, 0, .none, 0, 1, 4, 0, false⟩ /- SHADOW_CTRL -/,
  ⟨0x038, 1, 0, .none, 0, 0xFFFFFFFF, 0, 0xFFFFFFFF, false⟩ /- SCRATCH -/,
  ⟨0x03C, 1, 0, .none, 0, 0xFFFFFFFF, 0, 0, false⟩ /- PAGE_CRC -/]

/-- SYS registers (spec/18 R472). -/
def rowsSYS : List RegRow := [
  ⟨0x010, 1, 0, .none, 1, 0x15, 0, 0, false⟩ /- CTRL: EN is 1 at reset (R61) -/,
  ⟨0x004, 1, 0, .none, 0, 0, 0, 0, false⟩ /- VERSION -/,
  ⟨0x008, 1, 0, .none, 0x14, 0, 0, 0, false⟩ /- CAP0 -/,
  ⟨0x040, 1, 0, .none, 0, 0xFFFF0737, 0, 0, true⟩ /- BOOT_STATUS -/,
  ⟨0x044, 1, 0, .none, 0x102, 0xFFFF, 0, 0, true⟩ /- HIF -/,
  ⟨0x048, 1, 0, .none, 0, 0xFFFFFFFF, 0, 0, true⟩ /- ERG_VERSION -/,
  ⟨0x04C, 1, 0, .none, 0, 0x7FFFF, 0, 0, true⟩ /- ERG_IDS -/,
  ⟨0x050, 1, 0, .none, 0, 0xFFFFFFFF, 0, 0, true⟩ /- PLAN_FMT -/,
  ⟨0x054, 1, 0, .none, 0, 0xFFFF, 0, 0, true⟩ /- SVN -/,
  ⟨0x058, 1, 0, .none, 0, 0xFF, 0, 0, true⟩ /- FAILS -/,
  ⟨0x05C, 1, 0, .none, 0, 0xFFFFFFFF, 0, 0xFFFFFFFF, false⟩ /- BOOT_COUNT -/,
  ⟨0x060, 1, 0, .none, 0, 0, 0, 0xFFFFFFFF, false⟩ /- XCAP0 -/,
  ⟨0x064, 1, 0, .none, 0, 0, 0, 0xFFFFFFFF, false⟩ /- XCAP1 -/,
  ⟨0x068, 1, 0, .none, 0, 0, 0, 0, false⟩ /- XCAP_CTRL -/,
  ⟨0x070, 1, 0, .none, 0, 0xF, 0, 0, true⟩ /- ERG_RUN -/,
  ⟨0x074, 1, 0, .none, 0, 0xFFFFFFFF, 0, 0, true⟩ /- ERG_ENTRY_LO -/,
  ⟨0x078, 1, 0, .none, 0, 1, 0, 0, true⟩ /- ERG_ENTRY_HI -/,
  ⟨0x080, 1, 0, .none, 0x802DC6C0, 0x80FFFFFF, 0, 0, true⟩ /- ERG_WDT -/,
  ⟨0x084, 1, 0, .none, 0, 0, 0, 0, false⟩ /- ERG_WDT_LEFT -/,
  ⟨0x088, 1, 0, .none, 0, 0xFFFFFF, 0, 0, true⟩ /- BOOT_TIME -/]

/-- PWR registers (spec/16 R425). -/
def rowsPWR : List RegRow := [
  ⟨0x010, 1, 0, .none, 1, 0x15, 0, 0, false⟩ /- CTRL: EN is 1 at reset (R61) -/,
  ⟨0x008, 1, 0, .none, 0x58, 0, 0, 0, false⟩ /- CAP0 -/,
  ⟨0x018, 1, 0, .none, 0, 0, 0xF0000007, 0, false⟩ /- IRQ_RAW -/,
  ⟨0x040, 1, 0, .none, 0, 0x37, 0, 0, false⟩ /- MODE_REQ -/,
  ⟨0x044, 1, 0, .none, 0, 0xFFFFFFFF, 0, 0, true⟩ /- MODE_AT_F -/,
  ⟨0x048, 1, 0, .none, 0, 0, 0, 0, false⟩ /- REQ_STATUS -/,
  ⟨0x04C, 1, 0, .none, 0, 0, 0, 0, false⟩ /- TRANS_LAST -/,
  ⟨0x050, 1, 0, .none, 0, 0, 0, 0, false⟩ /- RESET -/,
  ⟨0x060, 1, 0, .none, 0, 0, 0xFF, 0xFF, false⟩ /- RAIL_UV -/]

/-- OASIS registers (spec/16 R426). -/
def rowsOASIS : List RegRow := [
  ⟨0x010, 1, 0, .none, 1, 0x15, 0, 0, false⟩ /- CTRL: EN is 1 at reset (R61) -/,
  ⟨0x008, 1, 0, .none, 0x48490, 0, 0, 0, false⟩ /- CAP0 -/,
  ⟨0x018, 1, 0, .none, 0, 0, 0xF00000FF, 0, false⟩ /- IRQ_RAW -/,
  ⟨0x040, 1, 0, .none, 0, 0xFFFFFFFF, 0, 0, false⟩ /- RTC_LO -/,
  ⟨0x044, 1, 0, .none, 0, 0xFFFF, 0, 0, false⟩ /- RTC_HI -/,
  ⟨0x048, 1, 0, .none, 0, 0xFFFFFFFF, 0, 0, true⟩ /- ALARM_LO -/,
  ⟨0x04C, 1, 0, .none, 0, 0xFFFF, 0, 0, true⟩ /- ALARM_HI -/,
  ⟨0x050, 1, 0, .none, 0, 1, 0, 0, true⟩ /- ALARM_CTRL -/,
  ⟨0x058, 1, 0, .none, 0, 0, 0, 0, false⟩ /- PRES_LEFT -/,
  ⟨0x060, 1, 0, .none, 0x3C3255, 0xFFFFFFFF, 0, 0, true⟩ /- SUPPLY_THR -/,
  ⟨0x064, 1, 0, .none, 0x578, 0xFFFF, 0, 0, true⟩ /- HOLD_MIN -/,
  ⟨0x068, 1, 0, .none, 0, 0, 0, 0, false⟩ /- SUPPLY_STATUS -/,
  ⟨0x06C, 1, 0, .none, 0x20D, 0x371F, 0, 0, true⟩ /- WAKE_CTRL -/,
  ⟨0x070, 1, 0, .none, 0, 0, 0x1F, 0, false⟩ /- WAKE_SRC -/,
  ⟨0x074, 1, 0, .none, 0, 0, 0, 0, false⟩ /- RESET_CAUSE -/,
  ⟨0x080, 1, 0, .none, 0x14A0, 0x1FF1, 0, 0, true⟩ /- SENT_CTRL -/,
  ⟨0x084, 5, 4, .none, 0, 0xFFFFFFFF, 0, 0, true⟩ /- SENT_MASK -/,
  ⟨0x0A0, 18, 4, .none, 0, 0, 0, 0, false⟩ /- SENT_LEVEL -/,
  ⟨0x100, 4, 16, .none, 0x11040, 0xFFFF1, 0, 0, true⟩ /- PAT_CTRL -/,
  ⟨0x104, 4, 16, .none, 0xC000600, 0xFFFFFFFF, 0, 0, true⟩ /- PAT_INT -/,
  ⟨0x108, 4, 16, .none, 0xA, 0x3FFFFFFF, 0, 0, true⟩ /- PAT_HOLD -/,
  ⟨0x140, 1, 0, .none, 0, 0, 0, 0xFFFFFF07, false⟩ /- WREC_STATUS -/,
  ⟨0x144, 4, 4, .none, 0, 0, 0, 0, false⟩ /- WREC_HEAD -/,
  ⟨0x160, 1, 0, .none, 0, 0, 0, 0, false⟩ /- TRK_LOST -/]

/-- FUSE registers (spec/19 R499). -/
def rowsFUSE : List RegRow := [
  ⟨0x010, 1, 0, .none, 1, 0x15, 0, 0, false⟩ /- CTRL: EN is 1 at reset (R61) -/,
  ⟨0x008, 1, 0, .none, 0x407400, 0, 0, 0, false⟩ /- CAP0 -/,
  ⟨0x018, 1, 0, .none, 0, 0, 0xF000000F, 0, false⟩ /- IRQ_RAW -/,
  ⟨0x040, 1, 0, .none, 0, 0x3FF, 0, 0, false⟩ /- PROG_ADDR -/,
  ⟨0x044, 1, 0, .none, 0, 0xFFFFFFFF, 0, 0, false⟩ /- PROG_DATA -/,
  ⟨0x048, 1, 0, .none, 0, 0, 0, 0, false⟩ /- PROG_CMD -/,
  ⟨0x04C, 1, 0, .none, 0, 0, 0, 0, false⟩ /- PROG_STATUS -/,
  ⟨0x050, 1, 0, .none, 0, 0x3FF, 0, 0, false⟩ /- READ_ADDR -/,
  ⟨0x054, 1, 0, .none, 0, 0, 0, 0, false⟩ /- READ_DATA -/,
  ⟨0x058, 1, 0, .none, 0, 0, 0, 0, false⟩ /- READ_INFO -/,
  ⟨0x060, 1, 0, .none, 0, 0, 0, 0, false⟩ /- INTEGRITY -/,
  ⟨0x070, 1, 0, .none, 0, 1, 0, 1, true⟩ /- LOCK_SECRET -/,
  ⟨0x074, 1, 0, .none, 0, 1, 0, 1, true⟩ /- LOCK_PROG -/,
  ⟨0x078, 1, 0, .none, 0, 1, 0, 1, true⟩ /- LOCK_TRIAL -/,
  ⟨0x07C, 1, 0, .none, 0, 1, 0, 1, true⟩ /- LOCK_DEBUG -/,
  ⟨0x080, 1, 0, .none, 0, 0, 0, 0, false⟩ /- SH_MAKER_CFG -/,
  ⟨0x084, 1, 0, .none, 0, 0, 0, 0, false⟩ /- SH_FEATURE -/,
  ⟨0x088, 1, 0, .none, 0, 0, 0, 0, false⟩ /- SH_KEYS -/,
  ⟨0x08C, 1, 0, .none, 0, 0, 0, 0, false⟩ /- SH_COUNTS -/,
  ⟨0x090, 1, 0, .none, 0, 0x103, 0, 0x103, true⟩ /- TRIAL_CTRL -/,
  ⟨0x094, 12, 4, .none, 0, 0xFFFFFFFF, 0, 0xFFFFFFFF, true⟩ /- TRIAL_HASH -/]

/-- LIFE registers (spec/19 R500). -/
def rowsLIFE : List RegRow := [
  ⟨0x010, 1, 0, .none, 1, 0x15, 0, 0, false⟩ /- CTRL: EN is 1 at reset (R61) -/,
  ⟨0x008, 1, 0, .none, 5, 0, 0, 0, false⟩ /- CAP0 -/,
  ⟨0x018, 1, 0, .none, 0, 0, 0xF0000007, 0, false⟩ /- IRQ_RAW -/,
  ⟨0x040, 1, 0, .none, 0, 0, 0, 0, false⟩ /- STATE -/,
  ⟨0x044, 1, 0, .none, 0, 0xF, 0, 0, true⟩ /- FEATURE_EFF -/,
  ⟨0x048, 1, 0, .none, 0, 0, 0, 0, false⟩ /- ARB -/,
  ⟨0x04C, 1, 0, .none, 0, 0, 0, 0, false⟩ /- UNIT_ID_LO -/,
  ⟨0x050, 1, 0, .none, 0, 0, 0, 0, false⟩ /- UNIT_ID_HI -/,
  ⟨0x054, 1, 0, .none, 0, 0xFFFFFF, 0, 0, false⟩ /- LAST_PRIV -/,
  ⟨0x058, 1, 0, .none, 0, 0, 0, 0, false⟩ /- RTN_STATUS -/]

/-- SAFE registers (spec/20 R519). -/
def rowsSAFE : List RegRow := [
  ⟨0x010, 1, 0, .none, 1, 0x15, 0, 0, false⟩ /- CTRL: EN is 1 at reset (R61) -/,
  ⟨0x008, 1, 0, .none, 0x401011, 0, 0, 0, false⟩ /- CAP0 -/,
  ⟨0x018, 1, 0, .none, 0, 0, 0xF000003F, 0, false⟩ /- IRQ_RAW -/,
  ⟨0x040, 1, 0, .none, 0x12C0303, 0xFFF0FFF, 0, 0, true⟩ /- SAFE_CTRL -/,
  ⟨0x044, 1, 0, .none, 0, 0, 0, 0, false⟩ /- CAUSE_ACTIVE -/,
  ⟨0x048, 1, 0, .none, 0, 0, 0, 0, false⟩ /- CAUSE_FORCED -/,
  ⟨0x04C, 1, 0, .none, 0, 0, 0, 0, false⟩ /- FIRST -/,
  ⟨0x050, 1, 0, .none, 0, 0, 0, 0, false⟩ /- FIRST_AT_LO -/,
  ⟨0x054, 1, 0, .none, 0, 0, 0, 0, false⟩ /- FIRST_AT_HI -/,
  ⟨0x060, 1, 0, .none, 0, 0, 0, 0, false⟩ /- CANARY_STATUS -/,
  ⟨0x064, 1, 0, .none, 0, 0, 0, 0, false⟩ /- CANARY_MISSING -/,
  ⟨0x068, 1, 0, .none, 0, 0, 0, 0, false⟩ /- CANARY_REF -/,
  ⟨0x06C, 1, 0, .none, 0, 0, 0, 0, false⟩ /- LAST_PASS_F -/,
  ⟨0x070, 1, 0, .none, 0, 0, 0, 0, false⟩ /- FAIL_RUN_LO -/,
  ⟨0x074, 1, 0, .none, 0, 0, 0, 0, false⟩ /- FAIL_RUN_HI -/,
  ⟨0x080, 16, 4, .none, 0, 0, 0, 0, false⟩ /- CANARY_SIG -/,
  ⟨0x0C0, 1, 0, .none, 0, 0x3F0F, 0, 0, false⟩ /- WALK_SEL -/,
  ⟨0x0C4, 1, 0, .none, 0, 0, 0, 0, false⟩ /- WALK_REF -/,
  ⟨0x0C8, 1, 0, .none, 0, 0, 0, 0, false⟩ /- WALK_LAST -/,
  ⟨0x0CC, 1, 0, .none, 0, 0, 0, 0, false⟩ /- WALK_STATUS -/,
  ⟨0x0D0, 1, 0, .none, 0, 0, 0, 0, false⟩ /- CLOCK_STATUS -/,
  ⟨0x0D4, 1, 0, .none, 0, 0, 0, 0, false⟩ /- CLOCK_LAST -/,
  ⟨0x0E0, 1, 0, .none, 0, 0, 0, 0, false⟩ /- ALIVE_STATUS -/,
  ⟨0x0E8, 1, 0, .none, 0, 0, 0, 0, false⟩ /- SCAN_STATUS -/,
  ⟨0x0F0, 1, 0, .none, 0, 0, 0, 0xFFFFFFFF, false⟩ /- ENTRY_COUNT -/,
  ⟨0x0F4, 1, 0, .none, 0, 0, 0, 0xF, false⟩ /- SAFETY_RESETS -/,
  ⟨0x100, 1, 0, .none, 0, 0, 0, 0xFFFF00FF, false⟩ /- SLOG_HEAD -/,
  ⟨0x104, 1, 0, .none, 0, 0xFF, 0, 0, false⟩ /- SLOG_SEL -/,
  ⟨0x108, 1, 0, .none, 0, 0, 0, 0xFF03FFFF, false⟩ /- SLOG_DATA0 -/,
  ⟨0x10C, 1, 0, .none, 0, 0, 0, 0xFFFFFFFF, false⟩ /- SLOG_DATA1 -/,
  ⟨0x110, 1, 0, .none, 0, 0, 0, 0xFFFFFFFF, false⟩ /- SLOG_DATA2 -/]

/-- TALLY registers (spec/17 R444). -/
def rowsTALLY : List RegRow := [
  ⟨0x010, 1, 0, .none, 1, 0x15, 0, 0, false⟩ /- CTRL: EN is 1 at reset (R61) -/,
  ⟨0x008, 1, 0, .none, 0xA08, 0, 0, 0, false⟩ /- CAP0 -/,
  ⟨0x018, 1, 0, .none, 0, 0, 0xF0000007, 0, false⟩ /- IRQ_RAW -/,
  ⟨0x040, 1, 0, .none, 0, 0xFFFF0FFF, 0, 0, false⟩ /- CONTENT -/,
  ⟨0x044, 1, 0, .none, 0, 0, 0, 0, false⟩ /- CTRL -/,
  ⟨0x048, 1, 0, .none, 0, 0, 0, 0, false⟩ /- SHOWN -/,
  ⟨0x04C, 1, 0, .none, 0, 0, 0, 0, false⟩ /- PENDING_CONTENT -/,
  ⟨0x050, 1, 0, .none, 0xA, 0xFF, 0, 0, true⟩ /- INTERVAL -/,
  ⟨0x054, 1, 0, .none, 0, 0, 0, 0, false⟩ /- NEXT_OK -/,
  ⟨0x058, 1, 0, .none, 0, 0xFFFFFFFF, 0, 0, false⟩ /- UPDATE_COUNT -/,
  ⟨0x05C, 1, 0, .none, 0, 0, 0, 0, false⟩ /- SKIPPED -/]

/-- SEN registers (spec/04 R100). -/
def rowsSEN : List RegRow := [
  ⟨0x008, 1, 0, .none, 0x440, 0, 0, 0, false⟩ /- CAP0 -/,
  ⟨0x00C, 1, 0, .none, 0x9001000, 0, 0, 0, false⟩ /- CAP1 -/,
  ⟨0x018, 1, 0, .none, 0, 0, 0xF000007F, 0, false⟩ /- IRQ_RAW -/,
  ⟨0x040, 1, 0, .shf, 0, 1, 0, 0, true⟩ /- RD_CTRL -/,
  ⟨0x044, 1, 0, .none, 0, 0, 0, 0, false⟩ /- SENS_INFO -/,
  ⟨0x060, 1, 0, .none, 0x200081, 0xFFF0FF1, 0, 0, true⟩ /- TC_CTRL -/,
  ⟨0x064, 1, 0, .none, 0, 0xFFF0FFF, 0, 0, true⟩ /- TC_EXP01 -/,
  ⟨0x068, 1, 0, .none, 0, 0xFFF0FFF, 0, 0, true⟩ /- TC_EXP23 -/,
  ⟨0x06C, 1, 0, .none, 0x10, 0xFFF, 0, 0, true⟩ /- TC_TOL -/,
  ⟨0x070, 1, 0, .none, 0xC80030, 0xFFF0FFF, 0, 0, true⟩ /- OB_LIMIT -/,
  ⟨0x080, 4, 16, .shf, 0, 0x1FFF1FFF, 0, 0, true⟩ /- WIN_GEOM0 -/,
  ⟨0x084, 4, 16, .shf, 0, 0xFFF0FFF, 0, 0, true⟩ /- WIN_GEOM1 -/,
  ⟨0x088, 4, 16, .shf, 0, 0x803F3FFF, 0, 0, true⟩ /- WIN_TIME -/,
  ⟨0x08C, 4, 16, .shf, 0, 0xFFFFF, 0, 0, true⟩ /- WIN_EXP -/,
  ⟨0x0C0, 1, 0, .none, 0, 0, 0, 0, false⟩ /- WIN_STATUS -/,
  ⟨0x0E0, 1, 0, .none, 0, 0, 0, 0, false⟩ /- TEMP01 -/,
  ⟨0x0E4, 1, 0, .none, 0, 0, 0, 0, false⟩ /- TEMP23 -/,
  ⟨0x0E8, 1, 0, .none, 0, 0, 0, 0, false⟩ /- TEMP_MAX -/,
  ⟨0x0F0, 1, 0, .none, 0, 0, 0, 0, false⟩ /- REF_STATUS -/,
  ⟨0x0F4, 1, 0, .none, 0, 0, 0, 0xFFFFFFFF, false⟩ /- MISS_COUNT -/,
  ⟨0x0F8, 1, 0, .none, 0x1A4, 0xFFFF, 0, 0, true⟩ /- HOT_LIMIT -/,
  ⟨0x100, 8, 4, .none, 0, 0, 0, 0, false⟩ /- OB_GROUP -/]

/-- EPOCH registers (spec/02 R52). -/
def rowsEPOCH : List RegRow := [
  ⟨0x010, 1, 0, .none, 1, 0x15, 0, 0, false⟩ /- CTRL: EN is 1 at reset (R61) -/,
  ⟨0x040, 1, 0, .none, 0, 0, 0, 0, false⟩ /- LINE_LO -/,
  ⟨0x044, 1, 0, .none, 0, 0, 0, 0, false⟩ /- LINE_HI -/,
  ⟨0x048, 1, 0, .none, 0, 0, 0, 0, false⟩ /- COORD_LO -/,
  ⟨0x04C, 1, 0, .none, 0, 0, 0, 0, false⟩ /- COORD_HI -/,
  ⟨0x050, 1, 0, .shl, 2, 3, 0, 0, true⟩ /- FRAME_MODE -/,
  ⟨0x054, 1, 0, .none, 0, 0xFFFFFFFF, 0, 0, true⟩ /- MODE_AT_F -/,
  ⟨0x058, 1, 0, .none, 0, 0, 0, 0, false⟩ /- FRAME_BASE_LO -/,
  ⟨0x05C, 1, 0, .none, 0, 0, 0, 0, false⟩ /- FRAME_BASE_HI -/,
  ⟨0x060, 1, 0, .none, 0, 0, 0xB, 0, false⟩ /- STATUS -/,
  ⟨0x070, 1, 0, .none, 0x30, 0xF3, 0, 0, true⟩ /- SYNCIN_CTRL -/,
  ⟨0x074, 1, 0, .none, 0, 0, 2, 2, false⟩ /- SYNCIN_STATUS -/,
  ⟨0x078, 1, 0, .none, 0x100, 0xFFFF03, 0, 0, true⟩ /- SYNCOUT_CTRL -/,
  ⟨0x07C, 1, 0, .none, 0, 0x3FFF, 0, 0, true⟩ /- SYNCOUT_AT -/,
  ⟨0x080, 1, 0, .none, 0x78, 0xFFFF, 0, 0, true⟩ /- HOLD_CTRL -/,
  ⟨0x084, 1, 0, .none, 0, 0, 0, 0, false⟩ /- HOLD_STATUS -/,
  ⟨0x088, 1, 0, .none, 0x780000, 0xFFFF03FF, 0, 0, true⟩ /- MAP_CTRL -/,
  ⟨0x090, 10, 4, .none, 0, 0, 0, 0, false⟩ /- MAP -/]

/-- CSI registers (spec/05 R118). -/
def rowsCSI : List RegRow := [
  ⟨0x008, 1, 0, .none, 0x1904, 0, 0, 0, false⟩ /- CAP0 -/,
  ⟨0x00C, 1, 0, .none, 0x10, 0, 0, 0, false⟩ /- CAP1 -/,
  ⟨0x018, 1, 0, .none, 0, 0, 0xF000003F, 0, false⟩ /- IRQ_RAW -/,
  ⟨0x040, 1, 0, .none, 0x390E410, 0xFFFFF17, 0, 0, true⟩ /- PHY_CTRL -/,
  ⟨0x044, 1, 0, .none, 0, 0, 0, 0, false⟩ /- PHY_STATUS -/,
  ⟨0x048, 1, 0, .none, 0, 0, 0, 0, false⟩ /- ECC_CORR -/,
  ⟨0x04C, 1, 0, .none, 0, 0, 0, 0, false⟩ /- ECC_UNCORR -/,
  ⟨0x050, 1, 0, .none, 0, 0, 0, 0, false⟩ /- CRC_ERR -/,
  ⟨0x054, 1, 0, .none, 0, 0, 0, 0, false⟩ /- UNROUTED -/,
  ⟨0x058, 1, 0, .none, 0, 0, 0, 0, false⟩ /- DT_DROPPED -/,
  ⟨0x05C, 1, 0, .none, 0, 0, 0, 0, false⟩ /- SOT_ERR -/,
  ⟨0x060, 1, 0, .none, 0, 0, 0xFFFF, 0, false⟩ /- VC_SEEN -/]

/-- CROUTE registers (spec/05 R119). -/
def rowsCROUTE : List RegRow := [
  ⟨0x008, 1, 0, .none, 0x20, 0, 0, 0, false⟩ /- CAP0 -/,
  ⟨0x00C, 1, 0, .none, 0xC0000, 0, 0, 0, false⟩ /- CAP1 -/,
  ⟨0x018, 1, 0, .none, 0, 0, 0xF000000F, 0, false⟩ /- IRQ_RAW -/,
  ⟨0x040, 1, 0, .none, 0, 0, 0, 0, false⟩ /- STORE_FILL -/,
  ⟨0x044, 1, 0, .none, 0, 0xFFFFF, 0, 0, false⟩ /- STORE_PEAK -/,
  ⟨0x048, 1, 0, .none, 0, 0, 0, 0, false⟩ /- STORE_OVF_COUNT -/,
  ⟨0x050, 4, 4, .none, 0, 0, 0, 0, false⟩ /- OWN_STATE -/,
  ⟨0x080, 32, 32, .shf, 0, 0x80003FF1, 0, 0, true⟩ /- ROUTE -/,
  ⟨0x084, 32, 32, .shf, 0, 0x1FFF1FFF, 0, 0, true⟩ /- GEOM -/,
  ⟨0x088, 32, 32, .shf, 0x400000, 0xFFFFFFF, 0, 0, true⟩ /- LINE_TIMING -/,
  ⟨0x08C, 32, 32, .shf, 0, 0xFFFFFFFF, 0, 0, true⟩ /- FRAME_TIMING -/,
  ⟨0x090, 32, 32, .shf, 0, 0x3FFF, 0, 0, true⟩ /- PAD -/,
  ⟨0x094, 32, 32, .none, 0, 0, 0, 0, false⟩ /- STATE -/,
  ⟨0x098, 32, 32, .none, 0, 0, 0, 0, false⟩ /- FS_COORD_LO -/,
  ⟨0x09C, 32, 32, .none, 0, 0, 0, 0, false⟩ /- FS_COORD_HI -/,
  ⟨0x480, 32, 16, .none, 0, 0, 0, 0, false⟩ /- FRAMES -/,
  ⟨0x484, 32, 16, .none, 0, 0, 0, 0, false⟩ /- DROPPED_FRAMES -/,
  ⟨0x488, 32, 16, .none, 0, 0, 0, 0, false⟩ /- FILL_LINES -/,
  ⟨0x48C, 32, 16, .none, 0, 0, 0, 0, false⟩ /- ORPHAN_LINES -/]

/-- ISP registers (spec/06 R144). -/
def rowsISP : List RegRow := [
  ⟨0x008, 1, 0, .none, 0x24, 0, 0, 0, false⟩ /- CAP0 -/,
  ⟨0x00C, 1, 0, .none, 0x4000, 0, 0, 0, false⟩ /- CAP1 -/,
  ⟨0x018, 1, 0, .none, 0, 0, 0xF000007F, 0, false⟩ /- IRQ_RAW -/,
  ⟨0x040, 1, 0, .none, 0, 0x133F, 0, 0, false⟩ /- TABLE_SEL -/,
  ⟨0x044, 1, 0, .none, 0, 0xFFFF, 0, 0, false⟩ /- TABLE_ADDR -/,
  ⟨0x048, 1, 0, .none, 0, 0xFFFFFFFF, 0, 0, false⟩ /- TABLE_DATA -/,
  ⟨0x04C, 1, 0, .shf, 0, 3, 0, 0, true⟩ /- UNIT_BANKS -/,
  ⟨0x050, 1, 0, .none, 0, 0x7FFF7FFF, 0, 0, true⟩ /- DEFECT_COUNT -/,
  ⟨0x054, 1, 0, .none, 0x4FE13F9, 0xFFFFFFFF, 0, 0, true⟩ /- DARK_K -/,
  ⟨0x058, 1, 0, .none, 0x8000, 0xFFFF, 0, 0, true⟩ /- GAIN_RATIO -/,
  ⟨0x05C, 1, 0, .none, 0, 0, 0, 0, false⟩ /- TABLE_ECC_COUNT -/,
  ⟨0x060, 1, 0, .none, 0, 0, 0, 0, false⟩ /- DEFECT_SKIP -/,
  ⟨0x400, 36, 64, .shf, 0, 0x3F7FF, 0, 0, true⟩ /- CFG -/,
  ⟨0x404, 36, 64, .shf, 0, 0xFFFF3FFF, 0, 0, true⟩ /- BLACK -/,
  ⟨0x408, 36, 64, .shf, 0, 0xFFF, 0, 0, true⟩ /- DPC -/,
  ⟨0x40C, 36, 64, .shf, 0x8D00, 0xFFFF, 0, 0, true⟩ /- MERGE -/,
  ⟨0x410, 36, 64, .shf, 0x10001000, 0xFFFFFFFF, 0, 0, true⟩ /- WB01 -/,
  ⟨0x414, 36, 64, .shf, 0x10001000, 0xFFFFFFFF, 0, 0, true⟩ /- WB23 -/,
  ⟨0x418, 36, 64, .shf, 0x1000, 0xFFFFFFFF, 0, 0, true⟩ /- CCM0 -/,
  ⟨0x41C, 36, 64, .shf, 0, 0xFFFFFFFF, 0, 0, true⟩ /- CCM1 -/,
  ⟨0x420, 36, 64, .shf, 0x1000, 0xFFFFFFFF, 0, 0, true⟩ /- CCM2 -/,
  ⟨0x424, 36, 64, .shf, 0, 0xFFFFFFFF, 0, 0, true⟩ /- CCM3 -/,
  ⟨0x428, 36, 64, .shf, 0x1000, 0xFFFF, 0, 0, true⟩ /- CCM4 -/,
  ⟨0x42C, 36, 64, .shf, 0x611, 0xFFF, 0, 0, true⟩ /- SCALE -/,
  ⟨0x430, 36, 64, .shf, 0, 0x3FFFF, 0, 0, true⟩ /- DST -/,
  ⟨0x434, 36, 64, .shf, 0, 0x3FFF3FFF, 0, 0, true⟩ /- DST_BASE -/,
  ⟨0x438, 36, 64, .shf, 0, 0xFFF, 0, 0, true⟩ /- RING -/,
  ⟨0x43C, 36, 64, .shf, 0, 0x3FFF1F, 0, 0, true⟩ /- DESC -/,
  ⟨0xD00, 36, 4, .none, 0, 0, 0, 0, false⟩ /- CTX_STATUS -/,
  ⟨0xE00, 36, 4, .none, 0, 0, 0, 0, false⟩ /- CTX_COUNT -/]

/-- ISPSTAT registers (spec/06 R145). -/
def rowsISPSTAT : List RegRow := [
  ⟨0x008, 1, 0, .none, 0x100100, 0, 0, 0, false⟩ /- CAP0 -/,
  ⟨0x040, 1, 0, .none, 0, 0x73F, 0, 0, false⟩ /- STAT_SEL -/,
  ⟨0x044, 1, 0, .none, 0, 0xFFFFFFFF, 0, 0, false⟩ /- STAT_LOCK_LO -/,
  ⟨0x048, 1, 0, .none, 0, 0xF, 0, 0, false⟩ /- STAT_LOCK_HI -/,
  ⟨0x04C, 1, 0, .none, 0xFF00, 0xFFFF, 0, 0, true⟩ /- SAT_LEVEL -/,
  ⟨0x080, 36, 4, .none, 0, 0, 0, 0, false⟩ /- STAT_SEQ -/,
  ⟨0x400, 256, 4, .none, 0, 0, 0, 0, false⟩ /- STAT_WIN -/]

/-- TILE registers (spec/07 R174). -/
def rowsTILE : List RegRow := [
  ⟨0x008, 1, 0, .none, 0x300200, 0, 0, 0, false⟩ /- CAP0 -/,
  ⟨0x00C, 1, 0, .none, 0x3000, 0, 0, 0, false⟩ /- CAP1 -/,
  ⟨0x018, 1, 0, .none, 0, 0, 0xF00001FF, 0, false⟩ /- IRQ_RAW -/,
  ⟨0x040, 1, 0, .none, 0, 1, 0, 1, false⟩ /- TCTRL -/,
  ⟨0x044, 1, 0, .none, 4, 0xFF, 0, 0, true⟩ /- STALL -/,
  ⟨0x048, 1, 0, .none, 0, 0, 0, 0, false⟩ /- GROUP_STATUS -/,
  ⟨0x050, 1, 0, .none, 0, 0, 0x80000000, 0xC01F3FFF, false⟩ /- TT_INFO -/,
  ⟨0x054, 1, 0, .none, 0, 0, 0, 0xFFFFFFFF, false⟩ /- TT_COORD_LO -/,
  ⟨0x058, 1, 0, .none, 0, 0, 0, 0xFFFFFFFF, false⟩ /- TT_COORD_HI -/,
  ⟨0x060, 1, 0, .none, 0, 0, 0, 0, false⟩ /- CONFLICT_COUNT -/,
  ⟨0x064, 1, 0, .none, 0, 0, 0, 0, false⟩ /- TAG_REDUNDANT -/,
  ⟨0x068, 1, 0, .none, 0, 0, 0, 0, false⟩ /- SELF_CHECK -/,
  ⟨0x080, 8, 4, .none, 0, 0xFFFFFFFF, 0, 0, false⟩ /- CC_DESC -/,
  ⟨0x0A0, 1, 0, .none, 0, 0, 0, 0, false⟩ /- CC_CTRL -/,
  ⟨0x0A4, 1, 0, .none, 0, 0, 0, 0, false⟩ /- CC_STATUS -/,
  ⟨0x0A8, 1, 0, .none, 0, 0, 0, 0, false⟩ /- CC_MATCHES -/,
  ⟨0x100, 1, 0, .none, 0, 0, 0, 0xFFFF00FF, false⟩ /- ELOG_HEAD -/,
  ⟨0x104, 1, 0, .none, 0, 0xFF, 0, 0, false⟩ /- ELOG_SEL -/,
  ⟨0x108, 1, 0, .none, 0, 0, 0, 0x3FFFFFF, false⟩ /- ELOG_DATA0 -/,
  ⟨0x10C, 1, 0, .none, 0, 0, 0, 0xFFFFFFFF, false⟩ /- ELOG_DATA1 -/,
  ⟨0x110, 1, 0, .none, 0, 0, 0, 0xFFFFFFFF, false⟩ /- ELOG_DATA2 -/,
  ⟨0x114, 1, 0, .none, 0, 0, 0, 0xFFFF, false⟩ /- ELOG_DATA3 -/]

/-- SPM registers (spec/07 R175). -/
def rowsSPM : List RegRow := [
  ⟨0x008, 1, 0, .none, 0x3010, 0, 0, 0, false⟩ /- CAP0 -/,
  ⟨0x018, 1, 0, .none, 0, 0, 0xF000003F, 0, false⟩ /- IRQ_RAW -/,
  ⟨0x040, 1, 0, .none, 0x4000001, 0xFFFF0001, 0, 0, true⟩ /- SCRUB_CTRL -/,
  ⟨0x044, 1, 0, .none, 0, 0, 0, 0, false⟩ /- SCRUB_STATUS -/,
  ⟨0x048, 1, 0, .none, 0, 0xF3FFFFF, 0, 0, false⟩ /- DBG_ADDR -/,
  ⟨0x04C, 1, 0, .none, 0, 0xFFFFFFFF, 0, 0, false⟩ /- DBG_DATA -/,
  ⟨0x050, 1, 0, .none, 0, 1, 0, 0, false⟩ /- DBG_TAG -/,
  ⟨0x060, 1, 0, .none, 0, 0, 0, 0xFFFF00FF, false⟩ /- POISON_HEAD -/,
  ⟨0x064, 1, 0, .none, 0, 0xFF, 0, 0, false⟩ /- POISON_SEL -/,
  ⟨0x068, 1, 0, .none, 0, 0, 0, 0xFFFFFFF, false⟩ /- POISON_DATA0 -/,
  ⟨0x06C, 1, 0, .none, 0, 0, 0, 0xFFFFFFFF, false⟩ /- POISON_DATA1 -/,
  ⟨0x100, 16, 16, .none, 0, 0xFFFFFFFF, 0, 0, true⟩ /- ATTR_0 -/,
  ⟨0x104, 16, 16, .none, 0, 0xFFFFFFFF, 0, 0, true⟩ /- ATTR_1 -/,
  ⟨0x108, 16, 16, .none, 0, 0xFFFFFFFF, 0, 0, true⟩ /- ATTR_2 -/,
  ⟨0x200, 16, 4, .none, 0, 0, 0, 0, false⟩ /- TSTAT -/,
  ⟨0x280, 16, 16, .none, 0, 0, 0, 0, false⟩ /- ECC_CE -/,
  ⟨0x284, 16, 16, .none, 0, 0, 0, 0, false⟩ /- ECC_UE -/,
  ⟨0x288, 16, 16, .none, 0, 0, 0, 0, false⟩ /- TAG_VOTE -/,
  ⟨0x28C, 16, 16, .none, 0, 0, 0, 0, false⟩ /- UE_EMPTY -/]

/-- MOVER registers (spec/10 R245). -/
def rowsMOVER : List RegRow := [
  ⟨0x008, 1, 0, .none, 0x58, 0, 0, 0, false⟩ /- CAP0 -/,
  ⟨0x018, 1, 0, .none, 0, 0, 0xF003FFFF, 0, false⟩ /- IRQ_RAW -/,
  ⟨0x060, 1, 0, .none, 0, 0, 0, 0, false⟩ /- MOVED_LO -/,
  ⟨0x064, 1, 0, .none, 0, 0, 0, 0, false⟩ /- MOVED_HI -/,
  ⟨0x080, 1, 0, .none, 0, 0, 0, 0, false⟩ /- RELOAD_STATUS -/,
  ⟨0x100, 8, 32, .none, 0, 0xFFFFFFFF, 0, 0, true⟩ /- RING_BASE_LO -/,
  ⟨0x104, 8, 32, .none, 0, 0xFFFFFFFF, 0, 0, true⟩ /- RING_BASE_HI -/,
  ⟨0x108, 8, 32, .none, 0, 0x1030F, 0, 0, true⟩ /- RING_CFG -/,
  ⟨0x10C, 8, 32, .none, 0, 0xFFF, 0, 0, false⟩ /- TAIL -/,
  ⟨0x110, 8, 32, .none, 0, 0, 0, 0, false⟩ /- HEAD -/,
  ⟨0x114, 8, 32, .none, 0, 0, 0, 0, false⟩ /- CH_STATE -/,
  ⟨0x118, 8, 32, .none, 0, 0, 0, 0, false⟩ /- CH_CTRL -/,
  ⟨0x11C, 8, 32, .none, 0, 0, 0, 0, false⟩ /- CH_LAST_USER -/]

/-- PACK registers (spec/09 R223). -/
def rowsPACK : List RegRow := [
  ⟨0x008, 1, 0, .none, 0xF1030, 0, 0, 0, false⟩ /- CAP0 -/,
  ⟨0x018, 1, 0, .none, 0, 0, 0xF000000F, 0, false⟩ /- IRQ_RAW -/,
  ⟨0x040, 1, 0, .none, 0, 0xF1E, 0, 0, false⟩ /- PACK_CTRL -/,
  ⟨0x044, 1, 0, .none, 0, 0x3FFFFF, 0, 0, false⟩ /- PLAIN_BYTES -/,
  ⟨0x048, 1, 0, .none, 0, 0xFFFFFFFF, 0, 0, false⟩ /- SRC_LO -/,
  ⟨0x04C, 1, 0, .none, 0, 0xFFFFFFFF, 0, 0, false⟩ /- SRC_HI -/,
  ⟨0x050, 1, 0, .none, 0, 0xFFFFFFFF, 0, 0, false⟩ /- BASE_SRC_LO -/,
  ⟨0x054, 1, 0, .none, 0, 0xFFFFFFFF, 0, 0, false⟩ /- BASE_SRC_HI -/,
  ⟨0x058, 1, 0, .none, 0xFFFFFFFF, 0xFFFFFFFF, 0, 0, false⟩ /- BASE_OFF -/,
  ⟨0x05C, 1, 0, .none, 0, 0xFFFFFFFF, 0, 0, false⟩ /- DST_LO -/,
  ⟨0x060, 1, 0, .none, 0, 0xFFFFFFFF, 0, 0, false⟩ /- DST_HI -/,
  ⟨0x064, 1, 0, .none, 0, 0x7FFFFF, 0, 0, false⟩ /- DST_LIMIT -/,
  ⟨0x068, 1, 0, .none, 0, 0, 0, 0, false⟩ /- OUT_BYTES -/,
  ⟨0x06C, 1, 0, .none, 0, 0, 0, 0, false⟩ /- SEG_DONE -/,
  ⟨0x070, 1, 0, .none, 0, 0, 0, 0, false⟩ /- PLAIN_CRC -/,
  ⟨0x074, 1, 0, .none, 0, 0, 0, 0, false⟩ /- PACKED_CRC -/,
  ⟨0x078, 1, 0, .none, 0, 0, 0, 0, false⟩ /- METHOD_COUNT -/,
  ⟨0x07C, 1, 0, .none, 0, 0, 0, 0, false⟩ /- LAST_ERR -/,
  ⟨0x080, 1, 0, .none, 0, 0x1FF, 0, 0, false⟩ /- HIST_SEL -/,
  ⟨0x084, 1, 0, .none, 0, 0, 0, 0, false⟩ /- HIST_DATA -/,
  ⟨0x0C0, 1, 0, .none, 0, 0xF, 0, 0, false⟩ /- EXP_CTRL -/,
  ⟨0x0C4, 1, 0, .none, 0, 0x3FFFFF, 0, 0, false⟩ /- EXP_SRC -/,
  ⟨0x0C8, 1, 0, .none, 0, 0x3FFFFF, 0, 0, false⟩ /- EXP_DST -/,
  ⟨0x0CC, 1, 0, .none, 0, 0, 0, 0, false⟩ /- EXP_STATUS -/]

/-- BULK registers (spec/10 R246). -/
def rowsBULK : List RegRow := [
  ⟨0x008, 1, 0, .none, 0x802, 0, 0, 0, false⟩ /- CAP0 -/,
  ⟨0x00C, 1, 0, .none, 0x10000, 0, 0, 0, false⟩ /- CAP1 -/,
  ⟨0x018, 1, 0, .none, 0, 0, 0xF00000FF, 0, false⟩ /- IRQ_RAW -/,
  ⟨0x040, 1, 0, .none, 0x400001, 0xFFFF0001, 0, 0, true⟩ /- SCRUB_CTRL -/,
  ⟨0x044, 1, 0, .none, 0, 0, 0, 0, false⟩ /- SCRUB_POS -/,
  ⟨0x048, 1, 0, .none, 0xC21030C, 0x3FFFFFFF, 0, 0, true⟩ /- SHARE -/,
  ⟨0x04C, 1, 0, .none, 0x258, 0xFFFF, 0, 0, true⟩ /- HOLD_LIMIT -/,
  ⟨0x050, 1, 0, .none, 8, 0xFF, 0, 0, true⟩ /- CE_LIMIT -/,
  ⟨0x054, 1, 0, .none, 0, 0, 0, 0, false⟩ /- SPARE_USED -/,
  ⟨0x058, 1, 0, .none, 0x400, 0x1FFFF, 0, 0, true⟩ /- SPARE_LOW -/,
  ⟨0x060, 1, 0, .none, 0, 0, 0, 0xFFFFFFFF, false⟩ /- ECC_CE_COUNT -/,
  ⟨0x064, 1, 0, .none, 0, 0, 0, 0xFFFFFFFF, false⟩ /- ECC_UE_COUNT -/,
  ⟨0x070, 1, 0, .none, 0, 0x1FFFFF, 0, 0, false⟩ /- RETIRE_PAGE -/,
  ⟨0x074, 1, 0, .none, 0, 6, 0, 0, false⟩ /- RETIRE_CTRL -/,
  ⟨0x080, 1, 0, .none, 0, 0, 0, 0xFFFF00FF, false⟩ /- RLOG_HEAD -/,
  ⟨0x084, 1, 0, .none, 0, 0xFF, 0, 0, false⟩ /- RLOG_SEL -/,
  ⟨0x088, 1, 0, .none, 0, 0, 0, 0xFDFFFFF, false⟩ /- RLOG_DATA0 -/,
  ⟨0x08C, 1, 0, .none, 0, 0, 0, 0xFFFFFFFF, false⟩ /- RLOG_DATA1 -/,
  ⟨0x090, 1, 0, .none, 0, 0, 0, 0xFFFFFFFF, false⟩ /- RLOG_DATA2 -/,
  ⟨0x100, 16, 16, .none, 0, 0x801FFFFF, 0, 0, true⟩ /- CR_BASE -/,
  ⟨0x104, 16, 16, .none, 0, 0x1FFFFF, 0, 0, true⟩ /- CR_PAGES -/,
  ⟨0x108, 16, 16, .none, 0, 0xFFFFFFFF, 0, 0, true⟩ /- CR_FLASH_LO -/,
  ⟨0x10C, 16, 16, .none, 0, 0xFFFFFFFF, 0, 0, true⟩ /- CR_FLASH_HI -/]

/-- XPORT registers (spec/11 R275). -/
def rowsXPORT : List RegRow := [
  ⟨0x008, 1, 0, .none, 0x4000402, 0, 0, 0, false⟩ /- CAP0 -/,
  ⟨0x00C, 1, 0, .none, 0x200, 0, 0, 0, false⟩ /- CAP1 -/,
  ⟨0x018, 1, 0, .none, 0, 0, 0xF00001FF, 0, false⟩ /- IRQ_RAW -/,
  ⟨0x040, 1, 0, .none, 0, 0x3F05, 0, 0, false⟩ /- PORT_CTRL -/,
  ⟨0x044, 1, 0, .none, 0x30, 0xF7, 0, 0, true⟩ /- LANE_CTRL -/,
  ⟨0x048, 1, 0, .none, 0, 0, 0, 0, false⟩ /- TRAIN_STATUS -/,
  ⟨0x04C, 1, 0, .none, 0, 0, 0, 0, false⟩ /- PARTNER -/,
  ⟨0x050, 1, 0, .none, 0x2020C, 0xFFFFFF, 0, 0, true⟩ /- CLASS_WEIGHT -/,
  ⟨0x054, 1, 0, .none, 0, 0, 0, 0, false⟩ /- PAUSE_THR -/,
  ⟨0x058, 1, 0, .none, 8, 0xFF, 0, 0, true⟩ /- PAUSE_WARN -/,
  ⟨0x05C, 1, 0, .none, 4, 0xFFFF, 0, 0, true⟩ /- UNCORR_LIMIT -/,
  ⟨0x060, 1, 0, .none, 0, 0, 0, 0, false⟩ /- FEC_CORR -/,
  ⟨0x064, 1, 0, .none, 0, 0, 0, 0, false⟩ /- FEC_UNCORR -/,
  ⟨0x068, 1, 0, .none, 0, 0, 0, 0, false⟩ /- HDR_ERR -/,
  ⟨0x06C, 1, 0, .none, 0, 0, 0, 0, false⟩ /- CRC_ERR -/,
  ⟨0x070, 1, 0, .none, 0, 0, 0, 0, false⟩ /- STOMPED -/,
  ⟨0x074, 1, 0, .none, 0, 0, 0, 0, false⟩ /- TAP_DROPPED -/,
  ⟨0x080, 1, 0, .none, 0, 0, 0, 0, false⟩ /- TX_FLITS_LO -/,
  ⟨0x084, 1, 0, .none, 0, 0, 0, 0, false⟩ /- TX_FLITS_HI -/,
  ⟨0x088, 1, 0, .none, 0, 0, 0, 0, false⟩ /- RX_FLITS_LO -/,
  ⟨0x08C, 1, 0, .none, 0, 0, 0, 0, false⟩ /- RX_FLITS_HI -/,
  ⟨0x090, 4, 4, .none, 0, 0, 0, 0, false⟩ /- PAUSED_TIME0-3 -/]

/-- XROUTE registers (spec/11 R276). -/
def rowsXROUTE : List RegRow := [
  ⟨0x008, 1, 0, .none, 0x500, 0, 0, 0, false⟩ /- CAP0 -/,
  ⟨0x018, 1, 0, .none, 0, 0, 0xF000000F, 0, false⟩ /- IRQ_RAW -/,
  ⟨0x040, 1, 0, .none, 0, 0xFF, 0, 0, true⟩ /- NODE_ID -/,
  ⟨0x044, 1, 0, .none, 0xFFFFFFFF, 0xFFFFFFFF, 0, 0, true⟩ /- EXPECT -/,
  ⟨0x048, 1, 0, .none, 0x28, 0xFF, 0, 0, true⟩ /- HOP_LIMIT -/,
  ⟨0x050, 1, 0, .none, 0, 0x1F01, 0, 0, false⟩ /- RT_SEL -/,
  ⟨0x054, 1, 0, .none, 0, 0xFFFFFFFF, 0, 0, false⟩ /- RT_DATA -/,
  ⟨0x058, 1, 0, .none, 0, 0xFFFF0001, 0, 0, false⟩ /- RT_ARM -/,
  ⟨0x060, 1, 0, .none, 0, 0xFFFFFFFF, 0, 0, false⟩ /- RS_AT_LO -/,
  ⟨0x064, 1, 0, .none, 0, 0xFFFFFFFF, 0, 0, false⟩ /- RS_AT_HI -/,
  ⟨0x068, 1, 0, .none, 0, 0xFFFF0000, 0, 0, false⟩ /- RS_CTRL -/,
  ⟨0x06C, 1, 0, .none, 0, 0, 0x60000, 0, false⟩ /- RS_STATUS -/,
  ⟨0x070, 1, 0, .none, 0, 0, 0, 0, false⟩ /- DROP_NOROUTE -/,
  ⟨0x074, 1, 0, .none, 0, 0, 0, 0, false⟩ /- DROP_PORTDOWN -/,
  ⟨0x078, 1, 0, .none, 0, 0, 0, 0, false⟩ /- DROP_UTURN -/,
  ⟨0x07C, 1, 0, .none, 0, 0, 0, 0, false⟩ /- DROP_HOPS -/,
  ⟨0x080, 1, 0, .none, 0, 0, 0, 0, false⟩ /- SWITCH_COUNT -/]

/-- XQP registers (spec/12 R305). -/
def rowsXQP : List RegRow :=
  [
  ⟨0x008, 1, 0, .none, 0x40100100, 0, 0, 0, false⟩ /- CAP0 -/,
  ⟨0x00C, 1, 0, .none, 4, 0, 0, 0, false⟩ /- CAP1 -/,
  ⟨0x018, 1, 0, .none, 0, 0, 0xF00003FF, 0, false⟩ /- IRQ_RAW -/,
  ⟨0x040, 1, 0, .none, 0, 0xFF, 0, 0, false⟩ /- QP_SEL -/,
  ⟨0x044, 1, 0, .none, 0, 0, 0, 0, false⟩ /- DOORBELL -/,
  ⟨0x050, 1, 0, .none, 0, 0xFFFF1F37, 0, 0, true⟩ /- QCTX0 -/,
  ⟨0x054, 1, 0, .none, 0, 0xFFFFFF, 0, 0, true⟩ /- QCTX1 -/,
  ⟨0x058, 1, 0, .none, 0, 0xFFFFFF, 0, 0, true⟩ /- QCTX2 -/,
  ⟨0x05C, 1, 0, .none, 0x3FF0064, 0x3FFFFFF, 0, 0, true⟩ /- QCTX3 -/,
  ⟨0x060, 1, 0, .none, 0, 0xFFFFFFFF, 0, 0, true⟩ /- QCTX4 -/,
  ⟨0x064, 1, 0, .none, 0, 0xF1, 0, 0, true⟩ /- QCTX5 -/,
  ⟨0x068, 1, 0, .none, 0, 0x3FF, 0, 0, true⟩ /- QCTX6 -/,
  ⟨0x06C, 1, 0, .none, 0, 0xFFFFFFFF, 0, 0, true⟩ /- QCTX7 -/,
  ⟨0x070, 1, 0, .none, 0, 0, 0, 0, false⟩ /- QCTX8 -/,
  ⟨0x074, 1, 0, .none, 0, 0, 0, 0, false⟩ /- QCTX9 -/,
  ⟨0x078, 1, 0, .none, 0, 0, 0, 0, false⟩ /- QCTX10 -/,
  ⟨0x080, 1, 0, .none, 0, 0x3FF, 0, 0, false⟩ /- WIN_SEL -/,
  ⟨0x084, 1, 0, .none, 0, 0xFFFFFFFF, 0, 0, true⟩ /- WIN0 -/,
  ⟨0x088, 1, 0, .none, 0, 0x800F0FF1, 0, 0, true⟩ /- WIN1 -/,
  ⟨0x08C, 1, 0, .none, 0, 0xFFFFFFFF, 0, 0, true⟩ /- WIN2 -/,
  ⟨0x090, 1, 0, .none, 0, 0xFFFFFFFF, 0, 0, true⟩ /- WIN3 -/,
  ⟨0x094, 1, 0, .none, 0xFF, 0xFF, 0, 0, true⟩ /- WIN4 -/,
  ⟨0x0A0, 1, 0, .none, 0, 0x1FF, 0, 0, false⟩ /- WADI_SEL -/,
  ⟨0x0A4, 1, 0, .none, 0, 0xFF37, 0, 0, true⟩ /- WD_CTRL -/,
  ⟨0x0A8, 1, 0, .none, 0, 0xFFFFFF, 0, 0, false⟩ /- WD_COUNT -/,
  ⟨0x0AC, 1, 0, .none, 0, 0xFFFFFF, 0, 0, true⟩ /- WD_THRESH -/,
  ⟨0x0B0, 1, 0, .none, 0, 0xFFFFFFFF, 0, 0, true⟩ /- WD_ARG -/,
  ⟨0x0B4, 1, 0, .none, 0, 0, 0x1000000, 0, false⟩ /- WD_STAT -/,
  ⟨0x0C0, 8, 4, .none, 0, 0xFFFFFFFF, 0, 0, true⟩ /- WD_WR -/,
  ⟨0x0E0, 1, 0, .none, 0, 0, 0, 0, false⟩ /- WADI_BUMP -/,
  ⟨0x100, 1, 0, .none, 0, 0, 0, 0, false⟩ /- STRAY -/,
  ⟨0x104, 1, 0, .none, 0, 0, 0, 0, false⟩ /- DUP -/,
  ⟨0x108, 1, 0, .none, 0, 0, 0, 0, false⟩ /- STALE -/,
  ⟨0x10C, 1, 0, .none, 0, 0, 0, 0, false⟩ /- LATE -/,
  ⟨0x110, 1, 0, .none, 0, 0, 0, 0, false⟩ /- RESENT -/,
  ⟨0x114, 1, 0, .none, 0, 0, 0, 0xFFFFFFFF, false⟩ /- KEY_FAIL -/,
  ⟨0x140, 1, 0, .none, 0, 0, 0, 0xFFFF00FF, false⟩ /- QLOG_HEAD -/,
  ⟨0x144, 1, 0, .none, 0, 0xFF, 0, 0, false⟩ /- QLOG_SEL -/,
  ⟨0x148, 1, 0, .none, 0, 0, 0, 0x1FFFFFF, false⟩ /- QLOG_DATA0 -/,
  ⟨0x14C, 1, 0, .none, 0, 0, 0, 0xFFFFFF, false⟩ /- QLOG_DATA1 -/] ++
  [
  ⟨0x150, 1, 0, .none, 0, 0, 0, 0xFFFFFFFF, false⟩ /- QLOG_DATA2 -/,
  ⟨0x154, 1, 0, .none, 0, 0, 0, 0xFFFFFFFF, false⟩ /- QLOG_DATA3 -/,
  ⟨0x200, 4, 32, .none, 0, 0xFFFFFFFF, 0, 0, true⟩ /- CQ_BASE_LO -/,
  ⟨0x204, 4, 32, .none, 0, 1, 0, 0, true⟩ /- CQ_BASE_HI -/,
  ⟨0x208, 4, 32, .none, 0, 0x10F, 0, 0, true⟩ /- CQ_CFG -/,
  ⟨0x20C, 4, 32, .none, 0, 0xFFF, 0, 0, false⟩ /- CQ_HEAD -/,
  ⟨0x210, 4, 32, .none, 0, 0, 0, 0, false⟩ /- CQ_TAIL -/,
  ⟨0x214, 4, 32, .none, 0, 0, 1, 0, false⟩ /- CQ_STATUS -/]

/-- XEPOCH registers (spec/02 R53). -/
def rowsXEPOCH : List RegRow := [
  ⟨0x040, 1, 0, .none, 0xFFFF00, 0, 0, 0, false⟩ /- STATE -/,
  ⟨0x044, 1, 0, .none, 0x1E00, 0xFF03, 0, 0, true⟩ /- CTRL -/,
  ⟨0x048, 1, 0, .none, 0xFFFFFFFF, 0xFFFFFFFF, 0, 0, true⟩ /- BACKUP -/,
  ⟨0x04C, 4, 4, .none, 0, 0x800FFFFF, 0, 0, true⟩ /- PORT0_DELAY-PORT3_DELAY -/,
  ⟨0x05C, 1, 0, .none, 0, 0, 0, 0, false⟩ /- OFFSET -/,
  ⟨0x060, 1, 0, .none, 0, 0, 0x1F, 0x1F, false⟩ /- FAULT -/,
  ⟨0x064, 1, 0, .none, 0, 0, 0, 0, false⟩ /- BEAT_COUNT -/]

/-- SEARCH registers (spec/14 R365). -/
def rowsSEARCH : List RegRow := [
  ⟨0x008, 1, 0, .none, 0x220, 0, 0, 0, false⟩ /- CAP0 -/,
  ⟨0x00C, 1, 0, .none, 0x1000400, 0, 0, 0, false⟩ /- CAP1 -/,
  ⟨0x018, 1, 0, .none, 0, 0, 0xF000003F, 0, false⟩ /- IRQ_RAW -/,
  ⟨0x040, 1, 0, .none, 0x400, 0xFFFF0701, 0, 0, true⟩ /- CFG -/,
  ⟨0x044, 1, 0, .shl, 0, 1, 0, 0, true⟩ /- ACTIVE -/,
  ⟨0x048, 1, 0, .none, 0, 0xFFFFFFFF, 0, 0, true⟩ /- SWITCH_AT_LO -/,
  ⟨0x04C, 1, 0, .none, 0, 0xFFFFFFFF, 0, 0, true⟩ /- SWITCH_AT_HI -/,
  ⟨0x050, 1, 0, .none, 0, 0x3FFFFF, 0, 0, true⟩ /- STAGE -/,
  ⟨0x054, 1, 0, .none, 0, 0x3FFFFF, 0, 0, true⟩ /- STAGE_BYTES -/,
  ⟨0x058, 1, 0, .none, 0x960, 0xFFFF, 0, 0, true⟩ /- PF_AGE -/,
  ⟨0x060, 1, 0, .shl, 0, 0xFFFF0FFF, 0, 0, true⟩ /- TREE0 -/,
  ⟨0x064, 1, 0, .shl, 0, 0xFF0307FF, 0, 0, true⟩ /- TREE1 -/,
  ⟨0x068, 1, 0, .none, 0, 0x3FF, 0, 0, true⟩ /- INBOX_WIN -/,
  ⟨0x06C, 1, 0, .none, 0, 0xFFFFFFFF, 0, 0, true⟩ /- INBOX_KEY -/,
  ⟨0x070, 1, 0, .none, 0, 0xFFFFFFFF, 0, 0, true⟩ /- INBOX_BASE_LO -/,
  ⟨0x074, 1, 0, .none, 0, 1, 0, 0, true⟩ /- INBOX_BASE_HI -/,
  ⟨0x078, 1, 0, .none, 0, 0xFFFFFFFF, 0, 0, true⟩ /- QRING_BASE_LO -/,
  ⟨0x07C, 1, 0, .none, 0, 1, 0, 0, true⟩ /- QRING_BASE_HI -/,
  ⟨0x080, 1, 0, .none, 0, 0x3F, 0, 0, false⟩ /- QRING_TAIL -/,
  ⟨0x084, 1, 0, .none, 0, 0, 0, 0, false⟩ /- QRING_HEAD -/,
  ⟨0x0A0, 8, 4, .shl, 0, 0xFFFFFFFF, 0, 0, true⟩ /- MISSING -/,
  ⟨0x0C0, 1, 0, .none, 0, 0, 0, 0, false⟩ /- QUERIES -/,
  ⟨0x0C4, 1, 0, .none, 0, 0, 0, 0xFFFFFFFF, false⟩ /- FAILS -/,
  ⟨0x0C8, 1, 0, .none, 0, 0, 0, 0, false⟩ /- HELD -/,
  ⟨0x0CC, 1, 0, .none, 0, 0, 0, 0, false⟩ /- LATE_MSG -/,
  ⟨0x0D0, 1, 0, .none, 0, 0, 0, 0, false⟩ /- PF_HITS -/,
  ⟨0x100, 2, 32, .none, 0, 0xFFFFFFFF, 0, 0, true⟩ /- SLOT_BASE_LO -/,
  ⟨0x104, 2, 32, .none, 0, 1, 0, 0, true⟩ /- SLOT_BASE_HI -/,
  ⟨0x108, 2, 32, .none, 0, 0, 0, 0, false⟩ /- SLOT_CTRL -/,
  ⟨0x10C, 2, 32, .none, 0, 0, 0, 0, false⟩ /- SLOT_STATE -/,
  ⟨0x110, 2, 32, .none, 0, 0, 0, 0, false⟩ /- SLOT_VERSION -/,
  ⟨0x114, 2, 32, .none, 0, 0x3FFFFF, 0, 0, true⟩ /- SLOT_CENT_OFF -/]

/-- HOST registers (spec/15 R398). -/
def rowsHOST : List RegRow := [
  ⟨0x008, 1, 0, .none, 7, 0, 0, 0, false⟩ /- CAP0 -/,
  ⟨0x018, 1, 0, .none, 0, 0, 0xF000000F, 0, false⟩ /- IRQ_RAW -/,
  ⟨0x040, 1, 0, .none, 3, 0xFFF0133, 0, 0, true⟩ /- MAC_CTRL -/,
  ⟨0x044, 1, 0, .none, 0, 0xFFFFFFFF, 0, 0, true⟩ /- MAC_ADDR_LO -/,
  ⟨0x048, 1, 0, .none, 0, 0xFFFF, 0, 0, true⟩ /- MAC_ADDR_HI -/,
  ⟨0x04C, 1, 0, .none, 0, 0xFFFFFFFF, 0, 0, true⟩ /- IP4 -/,
  ⟨0x050, 1, 0, .none, 0x4D18, 0xFFFF, 0, 0, true⟩ /- UDP_PORT -/,
  ⟨0x060, 4, 4, .none, 0, 0xFFFFFFFF, 0, 0, true⟩ /- IP6_LL -/,
  ⟨0x070, 4, 4, .none, 0, 0xFFFFFFFF, 0, 0, true⟩ /- IP6_G -/,
  ⟨0x080, 1, 0, .none, 0, 0xFF0F, 0, 0, true⟩ /- PTP_CTRL -/,
  ⟨0x084, 1, 0, .none, 0, 0xFFFFFFFF, 0, 0, true⟩ /- PTP_ADJ -/,
  ⟨0x088, 1, 0, .none, 0, 0, 0, 0, false⟩ /- PTP_STEP -/,
  ⟨0x08C, 1, 0, .none, 0, 0, 0, 0, false⟩ /- PTP_TX -/,
  ⟨0x090, 1, 0, .none, 0, 0, 0, 0, false⟩ /- TS_TX_SEC_LO -/,
  ⟨0x094, 1, 0, .none, 0, 0, 0, 0, false⟩ /- TS_TX_SEC_HI -/,
  ⟨0x098, 1, 0, .none, 0, 0, 0, 0, false⟩ /- TS_TX_NSEC -/,
  ⟨0x09C, 1, 0, .none, 0, 0, 0, 0, false⟩ /- TS_TX_SEQ -/,
  ⟨0x0A0, 1, 0, .none, 0, 0xFFFFFFFF, 0, 0, true⟩ /- RXR_BASE_LO -/,
  ⟨0x0A4, 1, 0, .none, 0, 1, 0, 0, true⟩ /- RXR_BASE_HI -/,
  ⟨0x0A8, 1, 0, .none, 0, 0x3F, 0, 0, false⟩ /- RXR_HEAD -/,
  ⟨0x0AC, 1, 0, .none, 0, 0, 0, 0, false⟩ /- RXR_TAIL -/,
  ⟨0x0C0, 1, 0, .none, 0, 0, 0, 0, false⟩ /- RX_FRAMES -/,
  ⟨0x0C4, 1, 0, .none, 0, 0, 0, 0, false⟩ /- TX_FRAMES -/,
  ⟨0x0C8, 1, 0, .none, 0, 0, 0, 0, false⟩ /- FCS_ERR -/,
  ⟨0x0CC, 1, 0, .none, 0, 0, 0, 0, false⟩ /- RX_DROP -/,
  ⟨0x0D0, 1, 0, .none, 0, 0, 0, 0, false⟩ /- PAUSE_RX -/]

/-- CAN registers (spec/15 R399). -/
def rowsCAN : List RegRow := [
  ⟨0x008, 1, 0, .none, 5, 0, 0, 0, false⟩ /- CAP0 -/,
  ⟨0x018, 1, 0, .none, 0, 0, 0xF000001F, 0, false⟩ /- IRQ_RAW -/,
  ⟨0x040, 1, 0, .none, 0, 0x3F, 0, 0, true⟩ /- CAN_CTRL -/,
  ⟨0x044, 1, 0, .none, 0, 0xFFFFFFFF, 0, 0, true⟩ /- NBT -/,
  ⟨0x048, 1, 0, .none, 0, 0xFFFFFFFF, 0, 0, true⟩ /- DBT -/,
  ⟨0x04C, 1, 0, .none, 0, 0x1FFFFFFF, 0, 0, true⟩ /- HB_ID -/,
  ⟨0x050, 1, 0, .none, 0, 0x1FFFFFFF, 0, 0, true⟩ /- SAFE_ID -/,
  ⟨0x054, 1, 0, .none, 0x7530, 0xFFFFFF, 0, 0, true⟩ /- HB_PERIOD -/,
  ⟨0x058, 1, 0, .none, 0, 0, 0, 0, false⟩ /- HB_ARM -/,
  ⟨0x05C, 1, 0, .none, 0, 0, 0, 0, false⟩ /- ERR_CNT -/,
  ⟨0x060, 1, 0, .none, 0, 0, 0, 0, false⟩ /- TX_COUNT -/,
  ⟨0x064, 1, 0, .none, 0, 0, 0, 0, false⟩ /- RX_DISCARD -/,
  ⟨0x068, 1, 0, .none, 0, 0, 0, 0, false⟩ /- BUSOFF_COUNT -/,
  ⟨0x06C, 1, 0, .none, 0, 0, 0, 0, false⟩ /- HB_SKIPPED -/,
  ⟨0x070, 1, 0, .none, 0, 0, 0, 0, false⟩ /- HB_COUNT -/]

/-- CLIENT registers (spec/15 R400). -/
def rowsCLIENT : List RegRow := [
  ⟨0x018, 1, 0, .none, 0, 0, 0xF000000F, 0, false⟩ /- IRQ_RAW -/,
  ⟨0x040, 1, 0, .none, 0, 3, 0, 0, true⟩ /- CL_CTRL -/,
  ⟨0x044, 1, 0, .none, 0x100, 0x1FF, 0, 0, true⟩ /- WINDOW -/,
  ⟨0x048, 1, 0, .none, 0x1770, 0xFFFF, 0, 0, true⟩ /- RESEND_T -/,
  ⟨0x04C, 1, 0, .none, 0x400, 0xFFFF, 0, 0, true⟩ /- BUF_KIB -/,
  ⟨0x050, 1, 0, .none, 0, 0xFFFFFFFF, 0, 0, true⟩ /- IRING_BASE_LO -/,
  ⟨0x054, 1, 0, .none, 0, 1, 0, 0, true⟩ /- IRING_BASE_HI -/,
  ⟨0x058, 1, 0, .none, 0, 0x3FF, 0, 0, false⟩ /- IRING_TAIL -/,
  ⟨0x05C, 1, 0, .none, 0, 0, 0, 0, false⟩ /- IRING_HEAD -/,
  ⟨0x060, 36, 4, .none, 0, 0, 0, 0, false⟩ /- COMMITTED_F -/,
  ⟨0x0F0, 1, 0, .none, 0, 0x3F, 0, 0, false⟩ /- CL_SEL -/,
  ⟨0x100, 1, 0, .none, 0, 0, 0, 0, false⟩ /- RX_BAD -/,
  ⟨0x104, 1, 0, .none, 0, 0, 0, 0, false⟩ /- RX_UNBOUND -/,
  ⟨0x108, 1, 0, .none, 0, 0, 0, 0, false⟩ /- RX_FRAG_LOST -/,
  ⟨0x10C, 1, 0, .none, 0, 0, 0, 0, false⟩ /- ITEM_BAD -/,
  ⟨0x110, 1, 0, .none, 0, 0, 0, 0, false⟩ /- LATE_ITEMS -/,
  ⟨0x114, 1, 0, .none, 0, 0, 0, 0, false⟩ /- CROP_CAPPED -/,
  ⟨0x118, 1, 0, .none, 0, 0, 0, 0, false⟩ /- SLOW_GAPS -/,
  ⟨0x400, 1, 0, .none, 0, 0xFFFF01FF, 0, 0, true⟩ /- CFG -/,
  ⟨0x404, 1, 0, .none, 0, 0xFFFFFFFF, 0, 0, true⟩ /- ADDR0 -/,
  ⟨0x408, 1, 0, .none, 0, 0xFFFFFFFF, 0, 0, true⟩ /- ADDR1 -/,
  ⟨0x40C, 1, 0, .none, 0, 0xFFFFFFFF, 0, 0, true⟩ /- ADDR2 -/,
  ⟨0x410, 1, 0, .none, 0, 0xFFFFFFFF, 0, 0, true⟩ /- ADDR3 -/,
  ⟨0x414, 1, 0, .none, 0, 0x1F, 0, 0, true⟩ /- SUBS -/,
  ⟨0x418, 1, 0, .none, 0, 0xFFFFFFFF, 0, 0, true⟩ /- VIEWS_LO -/,
  ⟨0x41C, 1, 0, .none, 0, 0xF, 0, 0, true⟩ /- VIEWS_HI -/,
  ⟨0x420, 1, 0, .none, 0, 0xFFFFFFFF, 0, 0, true⟩ /- CAPS -/,
  ⟨0x424, 1, 0, .none, 0, 0xFFFFFF, 0, 0, true⟩ /- BYTE_CAP -/,
  ⟨0x428, 1, 0, .none, 0, 0, 0, 0, false⟩ /- STATE -/,
  ⟨0x42C, 1, 0, .none, 0, 0, 0, 0, false⟩ /- ERA -/,
  ⟨0x430, 1, 0, .none, 0, 0, 0, 0, false⟩ /- NEXT_COUNT_LO -/,
  ⟨0x434, 1, 0, .none, 0, 0, 0, 0, false⟩ /- NEXT_COUNT_HI -/,
  ⟨0x438, 1, 0, .none, 0, 0, 0, 0, false⟩ /- LAST_REQ_LO -/,
  ⟨0x43C, 1, 0, .none, 0, 0, 0, 0, false⟩ /- LAST_REQ_HI -/]

/-- SCHED registers (spec/13 R341). -/
def rowsSCHED : List RegRow := [
  ⟨0x008, 1, 0, .none, 0x2400, 0, 0, 0, false⟩ /- CAP0 -/,
  ⟨0x018, 1, 0, .none, 0, 0, 0xF00001FF, 0, false⟩ /- IRQ_RAW -/,
  ⟨0x040, 1, 0, .shl, 0, 3, 0, 0, true⟩ /- SCHED_CTRL -/,
  ⟨0x044, 1, 0, .none, 0, 0xFFFFFFFF, 0, 0, true⟩ /- SWITCH_AT_LO -/,
  ⟨0x048, 1, 0, .none, 0, 0xFFFFFFFF, 0, 0, true⟩ /- SWITCH_AT_HI -/,
  ⟨0x050, 1, 0, .none, 0, 0x103FF, 0, 0, false⟩ /- ENT_SEL -/,
  ⟨0x054, 4, 4, .none, 0, 0xFFFFFFFF, 0, 0, false⟩ /- ENT_DATA -/,
  ⟨0x064, 1, 0, .none, 0, 0, 0, 0, false⟩ /- KICK -/,
  ⟨0x068, 1, 0, .none, 0, 0, 0, 0, false⟩ /- ALIVE -/,
  ⟨0x070, 1, 0, .none, 0, 0, 0, 0, false⟩ /- MISSED -/,
  ⟨0x074, 1, 0, .none, 0, 0, 0, 0, false⟩ /- TIMEOUTS -/,
  ⟨0x078, 1, 0, .none, 0, 0, 0, 0xFFFFFFFF, false⟩ /- OVERRUNS -/,
  ⟨0x07C, 1, 0, .none, 0, 0, 0, 0, false⟩ /- FIRE_LOST -/,
  ⟨0x080, 1, 0, .none, 0, 0, 0, 0xFFFF00FF, false⟩ /- EVT_HEAD -/,
  ⟨0x084, 1, 0, .none, 0, 0xFF, 0, 0, true⟩ /- EVT_SEL -/,
  ⟨0x088, 1, 0, .none, 0, 0, 0, 0xFFFFF3FF, false⟩ /- EVT_DATA0 -/,
  ⟨0x08C, 1, 0, .none, 0, 0, 0, 0xFFFFFFFF, false⟩ /- EVT_DATA1 -/,
  ⟨0x090, 1, 0, .none, 0, 0, 0, 0xFFFFFFFF, false⟩ /- EVT_DATA2 -/,
  ⟨0x0A0, 1, 0, .shl, 0, 0x80033FFF, 0, 0, true⟩ /- DL_CTRL -/,
  ⟨0x0A4, 1, 0, .shl, 0, 0xFFFFFFFF, 0, 0, true⟩ /- DL_VIEWS_LO -/,
  ⟨0x0A8, 1, 0, .shl, 0, 0xF, 0, 0, true⟩ /- DL_VIEWS_HI -/,
  ⟨0x0B0, 1, 0, .none, 0x31, 0xF1, 0, 0, true⟩ /- HB_CTRL -/,
  ⟨0x0B4, 1, 0, .none, 0, 0, 0xF0, 0, false⟩ /- HB_STATUS -/,
  ⟨0x0C0, 1, 0, .none, 0, 7, 0, 0, true⟩ /- JOIN_CTRL -/,
  ⟨0x0C4, 1, 0, .none, 0, 0xFFFFFFFF, 0, 0, true⟩ /- FLEET_ID -/,
  ⟨0x0C8, 1, 0, .none, 0, 0xFFFFFFFF, 0, 0, true⟩ /- IDS -/,
  ⟨0x0CC, 4, 4, .none, 0, 0xFFFFFFFF, 0, 0, true⟩ /- PLAN_HASH -/,
  ⟨0x0DC, 1, 0, .none, 0, 0xFF03, 0, 0, true⟩ /- VARIANT -/,
  ⟨0x0E0, 12, 4, .none, 0, 0xFFFFFFFF, 0, 0, false⟩ /- JOIN_TX -/,
  ⟨0x110, 1, 0, .none, 0, 0, 0, 0, false⟩ /- JOIN_SEND -/,
  ⟨0x120, 1, 0, .none, 0, 0xFFFFFFFF, 0, 0, true⟩ /- JRX_BASE_LO -/,
  ⟨0x124, 1, 0, .none, 0, 1, 0, 0, true⟩ /- JRX_BASE_HI -/,
  ⟨0x128, 1, 0, .none, 0, 0x3F, 0, 0, false⟩ /- JRX_HEAD -/,
  ⟨0x12C, 1, 0, .none, 0, 0, 0, 0, false⟩ /- JRX_TAIL -/]

/-- CORE registers (spec/18 R473). -/
def rowsCORE : List RegRow := [
  ⟨0x018, 1, 0, .none, 0, 0, 0xF0000007, 0, false⟩ /- IRQ_RAW -/,
  ⟨0x040, 1, 0, .none, 0, 0, 0, 0, false⟩ /- CORE_ID -/,
  ⟨0x044, 1, 0, .none, 0, 0, 0, 0, false⟩ /- ERG_KICK -/,
  ⟨0x048, 1, 0, .none, 0, 0, 0, 0, false⟩ /- MB_DOORBELL -/,
  ⟨0x04C, 1, 0, .none, 0, 0, 0, 0, false⟩ /- MB_STATUS -/,
  ⟨0x050, 1, 0, .none, 0, 0, 0, 0, false⟩ /- IPI -/,
  ⟨0x054, 1, 0, .none, 0, 0, 1, 0, false⟩ /- MB_RESP_STATUS -/,
  ⟨0x100, 64, 4, .none, 0, 0xFFFFFFFF, 0, 0, false⟩ /- MB_REQ -/,
  ⟨0x200, 256, 4, .none, 0, 0xF, 0, 0, true⟩ /- IRQ_ROUTE -/,
  ⟨0x600, 4, 16, .none, 0, 0xFFFFFFFF, 0, 0, false⟩ /- KBUDGET -/,
  ⟨0x604, 4, 16, .none, 0, 0, 0, 0, false⟩ /- KSPENT -/,
  ⟨0x900, 64, 4, .none, 0, 0xFFFFFFFF, 0, 0, true⟩ /- MB_RESP -/,
  ⟨0xA00, 1, 0, .none, 0, 0, 0, 0xFFFFFFFF, false⟩ /- LOCKSTEP_ERR -/]

/-- JOURNAL registers (spec/15 R401). -/
def rowsJOURNAL : List RegRow := [
  ⟨0x018, 1, 0, .none, 0, 0, 0xF000001F, 0, false⟩ /- IRQ_RAW -/,
  ⟨0x040, 1, 0, .none, 0, 7, 0, 0, true⟩ /- J_CTRL -/,
  ⟨0x044, 1, 0, .none, 0, 0x3FFFFFF, 0, 0, true⟩ /- BUDDY -/,
  ⟨0x048, 1, 0, .none, 0, 0xFFFFFFFF, 0, 0, true⟩ /- MIRROR_KEY -/,
  ⟨0x04C, 1, 0, .none, 0x12C, 0xFFFF, 0, 0, true⟩ /- MIRROR_T -/,
  ⟨0x050, 1, 0, .none, 0, 0xFFFFFFFF, 0, 0, true⟩ /- J_BASE_LO -/,
  ⟨0x054, 1, 0, .none, 0, 1, 0, 0, true⟩ /- J_BASE_HI -/,
  ⟨0x058, 1, 0, .none, 0, 0xFFFFFFFF, 0, 0, true⟩ /- WARD_BASE_LO -/,
  ⟨0x05C, 1, 0, .none, 0, 1, 0, 0, true⟩ /- WARD_BASE_HI -/,
  ⟨0x060, 1, 0, .none, 0xFF, 0xFF, 0, 0, true⟩ /- WARD -/,
  ⟨0x064, 1, 0, .none, 0, 0xFFFFFFFF, 0, 0, true⟩ /- FLASH_BASE_LO -/,
  ⟨0x068, 1, 0, .none, 0, 0xFFFFFFFF, 0, 0, true⟩ /- FLASH_BASE_HI -/,
  ⟨0x06C, 1, 0, .none, 0, 0, 0, 0, false⟩ /- RING -/,
  ⟨0x070, 1, 0, .none, 0x40, 0xFF, 0, 0, true⟩ /- JMAX -/,
  ⟨0x074, 1, 0, .none, 0, 0, 0, 0, false⟩ /- J_STATUS -/,
  ⟨0x078, 1, 0, .none, 0, 0, 0, 0, false⟩ /- COMMIT -/,
  ⟨0x080, 1, 0, .none, 0, 0, 0, 0, false⟩ /- ACCEPTS -/,
  ⟨0x084, 1, 0, .none, 0, 0, 0, 0, false⟩ /- REFUSED_FULL -/,
  ⟨0x088, 1, 0, .none, 0, 0, 0, 0, false⟩ /- MIRROR_FAILS -/,
  ⟨0x08C, 1, 0, .none, 0, 0xFFFF, 0, 0, true⟩ /- ACCEPT_MAX -/]

/-- The rows of a page by its number (spec/03 R56, Table 1). -/
def pageRows (page : Nat) : List RegRow :=
  if page == 0x00 then rowsSYS else
  if page == 0x01 then rowsPWR else
  if page == 0x02 then rowsOASIS else
  if page == 0x03 then rowsFUSE else
  if page == 0x04 then rowsLIFE else
  if page == 0x05 then rowsSAFE else
  if page == 0x06 then rowsTALLY else
  if page == 0x08 then rowsSEN else
  if page == 0x0C then rowsEPOCH else
  if 0x10 ≤ page && page < 0x12 then rowsCSI else
  if page == 0x14 then rowsCROUTE else
  if page == 0x15 then rowsISP else
  if page == 0x16 then rowsISPSTAT else
  if 0x20 ≤ page && page < 0x30 then rowsTILE else
  if page == 0x30 then rowsSPM else
  if page == 0x31 then rowsMOVER else
  if page == 0x32 then rowsPACK else
  if page == 0x38 then rowsBULK else
  if 0x40 ≤ page && page < 0x44 then rowsXPORT else
  if page == 0x44 then rowsXROUTE else
  if page == 0x45 then rowsXQP else
  if page == 0x46 then rowsXEPOCH else
  if page == 0x48 then rowsSEARCH else
  if 0x50 ≤ page && page < 0x52 then rowsHOST else
  if 0x52 ≤ page && page < 0x54 then rowsCAN else
  if page == 0x54 then rowsCLIENT else
  if page == 0x58 then rowsSCHED else
  if page == 0x5C then rowsCORE else
  if page == 0x60 then rowsJOURNAL else
  []

/-- A wide register: first page, pages, offset of its low word, how many, stride. -/
structure WideRow where
  page : Nat
  pages : Nat
  off : Nat
  count : Nat
  stride : Nat
deriving DecidableEq, Repr

/-- The registers of 48 or 64 bits, by their low word (spec/02 R36, R37); pairs of 33 or 36 bits are plain words
(notes/assumptions/6), but for QCTX4, whose row cites R37. -/
def wideRows : List WideRow := [
  ⟨0x0C, 1, 0x040, 1, 0⟩ /- EPOCH.LINE_LO -/,
  ⟨0x0C, 1, 0x048, 1, 0⟩ /- EPOCH.COORD_LO -/,
  ⟨0x0C, 1, 0x058, 1, 0⟩ /- EPOCH.FRAME_BASE_LO -/,
  ⟨0x14, 1, 0x098, 32, 32⟩ /- CROUTE.FS_COORD_LO -/,
  ⟨0x20, 16, 0x054, 1, 0⟩ /- TILE.TT_COORD_LO -/,
  ⟨0x32, 1, 0x048, 1, 0⟩ /- PACK.SRC_LO -/,
  ⟨0x32, 1, 0x050, 1, 0⟩ /- PACK.BASE_SRC_LO -/,
  ⟨0x32, 1, 0x05C, 1, 0⟩ /- PACK.DST_LO -/,
  ⟨0x31, 1, 0x060, 1, 0⟩ /- MOVER.MOVED_LO -/,
  ⟨0x31, 1, 0x100, 8, 32⟩ /- MOVER.RING_BASE_LO -/,
  ⟨0x38, 1, 0x108, 16, 16⟩ /- BULK.CR_FLASH_LO -/,
  ⟨0x40, 4, 0x080, 1, 0⟩ /- XPORT.TX_FLITS_LO -/,
  ⟨0x40, 4, 0x088, 1, 0⟩ /- XPORT.RX_FLITS_LO -/,
  ⟨0x44, 1, 0x060, 1, 0⟩ /- XROUTE.RS_AT_LO -/,
  ⟨0x45, 1, 0x060, 1, 0⟩ /- XQP.QCTX4 -/,
  ⟨0x58, 1, 0x044, 1, 0⟩ /- SCHED.SWITCH_AT_LO -/,
  ⟨0x48, 1, 0x048, 1, 0⟩ /- SEARCH.SWITCH_AT_LO -/,
  ⟨0x50, 2, 0x044, 1, 0⟩ /- HOST.MAC_ADDR_LO -/,
  ⟨0x50, 2, 0x090, 1, 0⟩ /- HOST.TS_TX_SEC_LO -/,
  ⟨0x54, 1, 0x430, 1, 0⟩ /- CLIENT.NEXT_COUNT_LO -/,
  ⟨0x54, 1, 0x438, 1, 0⟩ /- CLIENT.LAST_REQ_LO -/,
  ⟨0x60, 1, 0x064, 1, 0⟩ /- JOURNAL.FLASH_BASE_LO -/,
  ⟨0x02, 1, 0x040, 1, 0⟩ /- OASIS.RTC_LO -/,
  ⟨0x02, 1, 0x048, 1, 0⟩ /- OASIS.ALARM_LO -/,
  ⟨0x04, 1, 0x04C, 1, 0⟩ /- LIFE.UNIT_ID_LO -/,
  ⟨0x05, 1, 0x050, 1, 0⟩ /- SAFE.FIRST_AT_LO -/,
  ⟨0x05, 1, 0x070, 1, 0⟩ /- SAFE.FAIL_RUN_LO -/]

end Sys2Proof.Machine
end

