-- ==== Sys2Proof/Machine/Regs.lean ====
section
/-! DEFINITION. Machine/Regs.lean: the places of the register fields the meanings name, from the tables of spec/02 to
spec/20: page number, offset (or offset and stride), lowest bit and width. -/

namespace Sys2Proof.Machine

/-- A field of a register: the register's key (page × 4096 + offset, plus 100000h × (index + 1) for a register that a
SEL register selects), its lowest bit and its width. -/
structure Fld where
  key : Nat
  lo : Nat
  w : Nat
deriving DecidableEq, Repr

def Page.SYS : Nat := 0x00
def SYS.BOOT_STATUS_PHASE : Fld := ⟨0x00040, 0, 3⟩
def SYS.BOOT_STATUS_ERG_SLOT : Fld := ⟨0x00040, 4, 2⟩
def SYS.BOOT_STATUS_TRIAL : Fld := ⟨0x00040, 8, 1⟩
def SYS.BOOT_STATUS_PATCH_IN_USE : Fld := ⟨0x00040, 9, 1⟩
def SYS.BOOT_STATUS_PATCH_SLOT : Fld := ⟨0x00040, 10, 1⟩
def SYS.BOOT_STATUS_MAINT_CODE : Fld := ⟨0x00040, 16, 16⟩
def SYS.HIF : Fld := ⟨0x00044, 0, 16⟩
def SYS.ERG_VERSION : Fld := ⟨0x00048, 0, 32⟩
def SYS.ERG_IDS_ERG_IF : Fld := ⟨0x0004C, 0, 16⟩
def SYS.ERG_IDS_SIGNER : Fld := ⟨0x0004C, 16, 3⟩
def SYS.PLAN_FMT_MIN : Fld := ⟨0x00050, 0, 16⟩
def SYS.PLAN_FMT_MAX : Fld := ⟨0x00050, 16, 16⟩
def SYS.SVN_ERG : Fld := ⟨0x00054, 0, 8⟩
def SYS.SVN_HAMADA : Fld := ⟨0x00054, 8, 8⟩
def SYS.FAILS_A : Fld := ⟨0x00058, 0, 4⟩
def SYS.FAILS_B : Fld := ⟨0x00058, 4, 4⟩
def SYS.BOOT_COUNT : Fld := ⟨0x0005C, 0, 32⟩
def SYS.XCAP0_CAUSE : Fld := ⟨0x00060, 0, 8⟩
def SYS.XCAP0_AGENT : Fld := ⟨0x00060, 8, 4⟩
def SYS.XCAP0_PAGE : Fld := ⟨0x00060, 12, 8⟩
def SYS.XCAP0_OFFSET : Fld := ⟨0x00060, 20, 12⟩
def SYS.XCAP1_L : Fld := ⟨0x00064, 0, 14⟩
def SYS.XCAP1_F : Fld := ⟨0x00064, 14, 18⟩
def SYS.ERG_RUN : Fld := ⟨0x00070, 0, 4⟩
def SYS.ERG_ENTRY_LO : Fld := ⟨0x00074, 0, 32⟩
def SYS.ERG_ENTRY_HI : Fld := ⟨0x00078, 0, 1⟩
def SYS.ERG_WDT_LIMIT : Fld := ⟨0x00080, 0, 24⟩
def SYS.ERG_WDT_EN : Fld := ⟨0x00080, 31, 1⟩
def SYS.BOOT_TIME : Fld := ⟨0x00088, 0, 24⟩
def Page.PWR : Nat := 0x01
def PWR.IRQ_RAW_MODE_DONE : Fld := ⟨0x01018, 0, 1⟩
def PWR.IRQ_RAW_REQ_REFUSED : Fld := ⟨0x01018, 1, 1⟩
def PWR.IRQ_RAW_RAIL_UV : Fld := ⟨0x01018, 2, 1⟩
def PWR.MODE_REQ_TARGET : Fld := ⟨0x01040, 0, 3⟩
def PWR.MODE_REQ_FMODE : Fld := ⟨0x01040, 4, 2⟩
def PWR.MODE_AT_F : Fld := ⟨0x01044, 0, 32⟩
def PWR.REQ_STATUS_LAST_TARGET : Fld := ⟨0x01048, 0, 3⟩
def PWR.REQ_STATUS_CODE : Fld := ⟨0x01048, 8, 4⟩
def PWR.TRANS_LAST : Fld := ⟨0x0104C, 0, 24⟩
def PWR.RAIL_UV : Fld := ⟨0x01060, 0, 8⟩
def Page.OASIS : Nat := 0x02
def OASIS.STATUS_PRES_CLOSED : Fld := ⟨0x02014, 16, 1⟩
def OASIS.STATUS_PRES_WINDOW : Fld := ⟨0x02014, 17, 1⟩
def OASIS.STATUS_PRES_STUCK : Fld := ⟨0x02014, 18, 1⟩
def OASIS.STATUS_VIN_OK : Fld := ⟨0x02014, 19, 1⟩
def OASIS.STATUS_HOLD_OK : Fld := ⟨0x02014, 20, 1⟩
def OASIS.STATUS_RTC_VALID : Fld := ⟨0x02014, 21, 1⟩
def OASIS.STATUS_ON_HOLDUP : Fld := ⟨0x02014, 22, 1⟩
def OASIS.STATUS_POWER_FAIL : Fld := ⟨0x02014, 23, 1⟩
def OASIS.IRQ_RAW_PAT_HIT : Fld := ⟨0x02018, 0, 1⟩
def OASIS.IRQ_RAW_PRES_OPEN : Fld := ⟨0x02018, 1, 1⟩
def OASIS.IRQ_RAW_PRES_STUCK : Fld := ⟨0x02018, 2, 1⟩
def OASIS.IRQ_RAW_RTC_ALARM : Fld := ⟨0x02018, 3, 1⟩
def OASIS.IRQ_RAW_VIN_LOW : Fld := ⟨0x02018, 4, 1⟩
def OASIS.IRQ_RAW_POWER_FAIL : Fld := ⟨0x02018, 5, 1⟩
def OASIS.IRQ_RAW_WREC_LOST : Fld := ⟨0x02018, 6, 1⟩
def OASIS.IRQ_RAW_TRK_LOST : Fld := ⟨0x02018, 7, 1⟩
def OASIS.RTC_LO : Fld := ⟨0x02040, 0, 32⟩
def OASIS.RTC_HI : Fld := ⟨0x02044, 0, 16⟩
def OASIS.ALARM_LO : Fld := ⟨0x02048, 0, 32⟩
def OASIS.ALARM_HI : Fld := ⟨0x0204C, 0, 16⟩
def OASIS.ALARM_CTRL_ALARM_EN : Fld := ⟨0x02050, 0, 1⟩
def OASIS.SUPPLY_THR_VIN_LOW : Fld := ⟨0x02060, 0, 8⟩
def OASIS.SUPPLY_THR_VIN_FAIL : Fld := ⟨0x02060, 8, 8⟩
def OASIS.SUPPLY_THR_RIDE_T : Fld := ⟨0x02060, 16, 16⟩
def OASIS.HOLD_MIN : Fld := ⟨0x02064, 0, 16⟩
def OASIS.SUPPLY_STATUS_VIN : Fld := ⟨0x02068, 0, 16⟩
def OASIS.SUPPLY_STATUS_HOLD : Fld := ⟨0x02068, 16, 16⟩
def OASIS.WAKE_CTRL_WAKE_EN : Fld := ⟨0x0206C, 0, 5⟩
def OASIS.WAKE_CTRL_WAKE_TO : Fld := ⟨0x0206C, 8, 3⟩
def OASIS.WAKE_CTRL_WAKE_FMODE : Fld := ⟨0x0206C, 12, 2⟩
def OASIS.WAKE_SRC_SRC : Fld := ⟨0x02070, 0, 5⟩
def OASIS.WAKE_SRC_FROM_MODE : Fld := ⟨0x02070, 8, 3⟩
def OASIS.RESET_CAUSE : Fld := ⟨0x02074, 0, 4⟩
def OASIS.SENT_CTRL_EN : Fld := ⟨0x02080, 0, 1⟩
def OASIS.SENT_CTRL_BG_SHIFT : Fld := ⟨0x02080, 4, 4⟩
def OASIS.SENT_CTRL_RISE : Fld := ⟨0x02080, 8, 4⟩
def OASIS.SENT_CTRL_NEAR : Fld := ⟨0x02080, 12, 1⟩
def OASIS.SENT_MASK (i : Nat) : Fld := ⟨0x02084 + 0x4 * i, 0, 32⟩
def OASIS.SENT_LEVEL (i : Nat) : Fld := ⟨0x020A0 + 0x4 * i, 0, 32⟩
def OASIS.PAT_CTRL_EN (i : Nat) : Fld := ⟨0x02100 + 0x10 * i, 0, 1⟩
def OASIS.PAT_CTRL_FLASHES (i : Nat) : Fld := ⟨0x02100 + 0x10 * i, 4, 4⟩
def OASIS.PAT_CTRL_ON_MAX (i : Nat) : Fld := ⟨0x02100 + 0x10 * i, 8, 8⟩
def OASIS.PAT_CTRL_ON_MIN (i : Nat) : Fld := ⟨0x02100 + 0x10 * i, 16, 4⟩
def OASIS.PAT_INT_INT_MIN (i : Nat) : Fld := ⟨0x02104 + 0x10 * i, 0, 16⟩
def OASIS.PAT_INT_INT_MAX (i : Nat) : Fld := ⟨0x02104 + 0x10 * i, 16, 16⟩
def OASIS.PAT_HOLD_HOLDOFF (i : Nat) : Fld := ⟨0x02108 + 0x10 * i, 0, 16⟩
def OASIS.PAT_HOLD_TAG (i : Nat) : Fld := ⟨0x02108 + 0x10 * i, 16, 14⟩
def OASIS.WREC_STATUS_COUNT : Fld := ⟨0x02140, 0, 3⟩
def OASIS.WREC_STATUS_LOST : Fld := ⟨0x02140, 8, 8⟩
def OASIS.WREC_STATUS_RECOGNISED : Fld := ⟨0x02140, 16, 16⟩
def OASIS.TRK_LOST : Fld := ⟨0x02160, 0, 32⟩
def Page.FUSE : Nat := 0x03
def FUSE.STATUS_LOADED : Fld := ⟨0x03014, 16, 1⟩
def FUSE.STATUS_RESTRICTIVE : Fld := ⟨0x03014, 17, 1⟩
def FUSE.STATUS_BURNING : Fld := ⟨0x03014, 18, 1⟩
def FUSE.IRQ_RAW_PROG_DONE : Fld := ⟨0x03018, 0, 1⟩
def FUSE.IRQ_RAW_PROG_ERR : Fld := ⟨0x03018, 1, 1⟩
def FUSE.IRQ_RAW_UE_LOAD : Fld := ⟨0x03018, 2, 1⟩
def FUSE.IRQ_RAW_CE_LOAD : Fld := ⟨0x03018, 3, 1⟩
def FUSE.PROG_ADDR : Fld := ⟨0x03040, 0, 10⟩
def FUSE.PROG_DATA : Fld := ⟨0x03044, 0, 32⟩
def FUSE.PROG_STATUS_STATE : Fld := ⟨0x0304C, 0, 2⟩
def FUSE.PROG_STATUS_RETRIES : Fld := ⟨0x0304C, 2, 2⟩
def FUSE.PROG_STATUS_LAST_ERR : Fld := ⟨0x0304C, 8, 8⟩
def FUSE.READ_ADDR : Fld := ⟨0x03050, 0, 10⟩
def FUSE.INTEGRITY_FAIL : Fld := ⟨0x03060, 0, 1⟩
def FUSE.INTEGRITY_CANARY : Fld := ⟨0x03060, 1, 1⟩
def FUSE.INTEGRITY_CFG_UE : Fld := ⟨0x03060, 2, 1⟩
def FUSE.INTEGRITY_SENS0 : Fld := ⟨0x03060, 3, 1⟩
def FUSE.INTEGRITY_TIER3 : Fld := ⟨0x03060, 4, 1⟩
def FUSE.INTEGRITY_SECRET_UE : Fld := ⟨0x03060, 5, 1⟩
def FUSE.INTEGRITY_CE_LOAD : Fld := ⟨0x03060, 16, 16⟩
def FUSE.LOCK_SECRET : Fld := ⟨0x03070, 0, 1⟩
def FUSE.LOCK_PROG : Fld := ⟨0x03074, 0, 1⟩
def FUSE.LOCK_TRIAL : Fld := ⟨0x03078, 0, 1⟩
def FUSE.LOCK_DEBUG : Fld := ⟨0x0307C, 0, 1⟩
def FUSE.SH_MAKER_CFG : Fld := ⟨0x03080, 0, 32⟩
def FUSE.SH_FEATURE : Fld := ⟨0x03084, 0, 32⟩
def FUSE.SH_KEYS_BURNED : Fld := ⟨0x03088, 0, 4⟩
def FUSE.SH_KEYS_REVOKED : Fld := ⟨0x03088, 4, 4⟩
def FUSE.SH_KEYS_UNUSABLE : Fld := ⟨0x03088, 8, 4⟩
def FUSE.SH_KEYS_MODOM_REVOKED : Fld := ⟨0x03088, 12, 4⟩
def FUSE.SH_COUNTS_HAMADA_ARB : Fld := ⟨0x0308C, 0, 7⟩
def FUSE.SH_COUNTS_ERG_ARB : Fld := ⟨0x0308C, 8, 7⟩
def FUSE.TRIAL_CTRL_SLOT : Fld := ⟨0x03090, 0, 2⟩
def FUSE.TRIAL_CTRL_EN : Fld := ⟨0x03090, 8, 1⟩
def FUSE.TRIAL_HASH (i : Nat) : Fld := ⟨0x03094 + 0x4 * i, 0, 32⟩
def Page.LIFE : Nat := 0x04
def LIFE.STATUS_STATE : Fld := ⟨0x04014, 16, 3⟩
def LIFE.STATUS_CLEAN : Fld := ⟨0x04014, 19, 1⟩
def LIFE.STATUS_CLEANUP_PENDING : Fld := ⟨0x04014, 20, 1⟩
def LIFE.STATUS_RESTRICTIVE : Fld := ⟨0x04014, 21, 1⟩
def LIFE.STATUS_DEBUG_OPEN : Fld := ⟨0x04014, 22, 1⟩
def LIFE.STATUS_TRIAL_IN_USE : Fld := ⟨0x04014, 23, 1⟩
def LIFE.IRQ_RAW_LC_BURNED : Fld := ⟨0x04018, 0, 1⟩
def LIFE.IRQ_RAW_RTN_REQ : Fld := ⟨0x04018, 1, 1⟩
def LIFE.IRQ_RAW_RTN_BAD : Fld := ⟨0x04018, 2, 1⟩
def LIFE.STATE : Fld := ⟨0x04040, 0, 3⟩
def LIFE.FEATURE_EFF_FLEET_EN : Fld := ⟨0x04044, 0, 1⟩
def LIFE.FEATURE_EFF_TIER : Fld := ⟨0x04044, 2, 2⟩
def LIFE.ARB_HAMADA : Fld := ⟨0x04048, 0, 7⟩
def LIFE.ARB_ERG : Fld := ⟨0x04048, 8, 7⟩
def LIFE.UNIT_ID_LO : Fld := ⟨0x0404C, 0, 32⟩
def LIFE.UNIT_ID_HI : Fld := ⟨0x04050, 0, 32⟩
def LIFE.LAST_PRIV_ACTION : Fld := ⟨0x04054, 0, 8⟩
def LIFE.LAST_PRIV_RESULT : Fld := ⟨0x04054, 8, 8⟩
def LIFE.LAST_PRIV_STATUS : Fld := ⟨0x04054, 16, 8⟩
def LIFE.RTN_STATUS_LOADED : Fld := ⟨0x04058, 0, 1⟩
def LIFE.RTN_STATUS_ACCEPTED : Fld := ⟨0x04058, 1, 1⟩
def LIFE.RTN_STATUS_CODE : Fld := ⟨0x04058, 4, 4⟩
def Page.SAFE : Nat := 0x05
def SAFE.STATUS_SSTATE : Fld := ⟨0x05014, 16, 2⟩
def SAFE.STATUS_SAFE_N_OPEN : Fld := ⟨0x05014, 18, 1⟩
def SAFE.STATUS_REF_VALID : Fld := ⟨0x05014, 19, 1⟩
def SAFE.STATUS_FORCED_ACTIVE : Fld := ⟨0x05014, 20, 1⟩
def SAFE.IRQ_RAW_ENTERED : Fld := ⟨0x05018, 0, 1⟩
def SAFE.IRQ_RAW_RELEASED : Fld := ⟨0x05018, 1, 1⟩
def SAFE.IRQ_RAW_TILE_FAIL : Fld := ⟨0x05018, 2, 1⟩
def SAFE.IRQ_RAW_CLOCK : Fld := ⟨0x05018, 3, 1⟩
def SAFE.IRQ_RAW_RESET_HELD : Fld := ⟨0x05018, 4, 1⟩
def SAFE.IRQ_RAW_ERG_SILENT : Fld := ⟨0x05018, 5, 1⟩
def SAFE.SAFE_CTRL_RELEASE_FRAMES : Fld := ⟨0x05040, 0, 8⟩
def SAFE.SAFE_CTRL_RESET_MAX : Fld := ⟨0x05040, 8, 4⟩
def SAFE.SAFE_CTRL_WARM_DELAY : Fld := ⟨0x05040, 16, 12⟩
def SAFE.CAUSE_ACTIVE : Fld := ⟨0x05044, 1, 17⟩
def SAFE.CAUSE_FORCED : Fld := ⟨0x05048, 1, 17⟩
def SAFE.FIRST_CAUSE : Fld := ⟨0x0504C, 0, 8⟩
def SAFE.FIRST_SOURCE_PAGE : Fld := ⟨0x0504C, 8, 8⟩
def SAFE.FIRST_FORCED : Fld := ⟨0x0504C, 16, 1⟩
def SAFE.FIRST_AT_LO : Fld := ⟨0x05050, 0, 32⟩
def SAFE.FIRST_AT_HI : Fld := ⟨0x05054, 0, 32⟩
def SAFE.CANARY_STATUS_PASS : Fld := ⟨0x05060, 0, 16⟩
def SAFE.CANARY_STATUS_FAIL : Fld := ⟨0x05060, 16, 16⟩
def SAFE.CANARY_MISSING : Fld := ⟨0x05064, 0, 16⟩
def SAFE.CANARY_REF : Fld := ⟨0x05068, 0, 32⟩
def SAFE.LAST_PASS_F : Fld := ⟨0x0506C, 0, 32⟩
def SAFE.FAIL_RUN_LO : Fld := ⟨0x05070, 0, 32⟩
def SAFE.FAIL_RUN_HI : Fld := ⟨0x05074, 0, 32⟩
def SAFE.CANARY_SIG (i : Nat) : Fld := ⟨0x05080 + 0x4 * i, 0, 32⟩
def SAFE.WALK_SEL_TILE : Fld := ⟨0x050C0, 0, 4⟩
def SAFE.WALK_SEL_STEP : Fld := ⟨0x050C0, 8, 6⟩
def SAFE.CLOCK_STATUS_TW : Fld := ⟨0x050D0, 0, 1⟩
def SAFE.CLOCK_STATUS_OASIS : Fld := ⟨0x050D0, 5, 1⟩
def SAFE.CLOCK_LAST : Fld := ⟨0x050D4, 0, 24⟩
def SAFE.ALIVE_STATUS_F : Fld := ⟨0x050E0, 0, 32⟩
def SAFE.SCAN_STATUS_LAST_PAGE : Fld := ⟨0x050E8, 0, 8⟩
def SAFE.SCAN_STATUS_PASSES : Fld := ⟨0x050E8, 16, 16⟩
def SAFE.ENTRY_COUNT : Fld := ⟨0x050F0, 0, 32⟩
def SAFE.SAFETY_RESETS : Fld := ⟨0x050F4, 0, 4⟩
def SAFE.SLOG_HEAD_NEXT : Fld := ⟨0x05100, 0, 8⟩
def SAFE.SLOG_HEAD_OVF : Fld := ⟨0x05100, 16, 16⟩
def SAFE.SLOG_SEL : Fld := ⟨0x05104, 0, 8⟩
def Page.TALLY : Nat := 0x06
def TALLY.STATUS_USTATE : Fld := ⟨0x06014, 16, 3⟩
def TALLY.STATUS_PENDING : Fld := ⟨0x06014, 19, 1⟩
def TALLY.STATUS_BAR_DRAWN : Fld := ⟨0x06014, 20, 1⟩
def TALLY.STATUS_SHOWN_VALID : Fld := ⟨0x06014, 21, 1⟩
def TALLY.STATUS_WORN : Fld := ⟨0x06014, 22, 1⟩
def TALLY.STATUS_COLD : Fld := ⟨0x06014, 23, 1⟩
def TALLY.IRQ_RAW_DONE : Fld := ⟨0x06018, 0, 1⟩
def TALLY.IRQ_RAW_SKIPPED : Fld := ⟨0x06018, 1, 1⟩
def TALLY.IRQ_RAW_LIFE_WARN : Fld := ⟨0x06018, 2, 1⟩
def TALLY.CONTENT_NODE : Fld := ⟨0x06040, 0, 8⟩
def TALLY.CONTENT_LIFE : Fld := ⟨0x06040, 8, 3⟩
def TALLY.CONTENT_NODE_BLANK : Fld := ⟨0x06040, 11, 1⟩
def TALLY.CONTENT_FAULT : Fld := ⟨0x06040, 16, 16⟩
def TALLY.SHOWN_NODE : Fld := ⟨0x06048, 0, 8⟩
def TALLY.PENDING_CONTENT_NODE : Fld := ⟨0x0604C, 0, 8⟩
def TALLY.INTERVAL_MINUTES : Fld := ⟨0x06050, 0, 8⟩
def TALLY.UPDATE_COUNT : Fld := ⟨0x06058, 0, 32⟩
def TALLY.SKIPPED : Fld := ⟨0x0605C, 0, 32⟩
def Page.SEN : Nat := 0x08
def SEN.STATUS_HOT : Fld := ⟨0x08014, 17, 1⟩
def SEN.STATUS_REF_FAULT : Fld := ⟨0x08014, 18, 1⟩
def SEN.IRQ_RAW_FRAME_START : Fld := ⟨0x08018, 0, 1⟩
def SEN.IRQ_RAW_READ_DONE : Fld := ⟨0x08018, 1, 1⟩
def SEN.IRQ_RAW_WIN_REFUSED : Fld := ⟨0x08018, 2, 1⟩
def SEN.IRQ_RAW_READ_MISSED : Fld := ⟨0x08018, 3, 1⟩
def SEN.IRQ_RAW_TC_FAIL : Fld := ⟨0x08018, 4, 1⟩
def SEN.IRQ_RAW_OB_FAIL : Fld := ⟨0x08018, 5, 1⟩
def SEN.IRQ_RAW_HOT : Fld := ⟨0x08018, 6, 1⟩
def SEN.RD_CTRL_RUN : Fld := ⟨0x08040, 0, 1⟩
def SEN.TC_CTRL_EN : Fld := ⟨0x08060, 0, 1⟩
def SEN.TC_CTRL_COL_LIMIT : Fld := ⟨0x08060, 4, 8⟩
def SEN.TC_CTRL_COL_TOL : Fld := ⟨0x08060, 16, 12⟩
def SEN.TC_EXP01_LEVEL0 : Fld := ⟨0x08064, 0, 12⟩
def SEN.TC_EXP01_LEVEL1 : Fld := ⟨0x08064, 16, 12⟩
def SEN.TC_EXP23_LEVEL2 : Fld := ⟨0x08068, 0, 12⟩
def SEN.TC_EXP23_LEVEL3 : Fld := ⟨0x08068, 16, 12⟩
def SEN.TC_TOL : Fld := ⟨0x0806C, 0, 12⟩
def SEN.OB_LIMIT_MIN : Fld := ⟨0x08070, 0, 12⟩
def SEN.OB_LIMIT_MAX : Fld := ⟨0x08070, 16, 12⟩
def SEN.WIN_GEOM0_COL0 (i : Nat) : Fld := ⟨0x08080 + 0x10 * i, 0, 13⟩
def SEN.WIN_GEOM0_COLS (i : Nat) : Fld := ⟨0x08080 + 0x10 * i, 16, 13⟩
def SEN.WIN_GEOM1_ROW0 (i : Nat) : Fld := ⟨0x08084 + 0x10 * i, 0, 12⟩
def SEN.WIN_GEOM1_ROWS (i : Nat) : Fld := ⟨0x08084 + 0x10 * i, 16, 12⟩
def SEN.WIN_TIME_START_L (i : Nat) : Fld := ⟨0x08088 + 0x10 * i, 0, 14⟩
def SEN.WIN_TIME_SLOT (i : Nat) : Fld := ⟨0x08088 + 0x10 * i, 16, 1⟩
def SEN.WIN_TIME_REPEAT_M1 (i : Nat) : Fld := ⟨0x08088 + 0x10 * i, 17, 3⟩
def SEN.WIN_TIME_GAIN (i : Nat) : Fld := ⟨0x08088 + 0x10 * i, 20, 2⟩
def SEN.WIN_TIME_EN (i : Nat) : Fld := ⟨0x08088 + 0x10 * i, 31, 1⟩
def SEN.WIN_EXP_EXPOSURE (i : Nat) : Fld := ⟨0x0808C + 0x10 * i, 0, 20⟩
def SEN.WIN_STATUS_IN_FORCE : Fld := ⟨0x080C0, 0, 4⟩
def SEN.WIN_STATUS_CODE : Fld := ⟨0x080C0, 8, 3⟩
def SEN.WIN_STATUS_WINDOW : Fld := ⟨0x080C0, 12, 2⟩
def SEN.WIN_STATUS_F : Fld := ⟨0x080C0, 16, 16⟩
def SEN.TEMP01_S0 : Fld := ⟨0x080E0, 0, 16⟩
def SEN.TEMP01_S1 : Fld := ⟨0x080E0, 16, 16⟩
def SEN.TEMP23_S2 : Fld := ⟨0x080E4, 0, 16⟩
def SEN.TEMP23_S3 : Fld := ⟨0x080E4, 16, 16⟩
def SEN.TEMP_MAX : Fld := ⟨0x080E8, 0, 16⟩
def SEN.REF_STATUS_TC_FAIL : Fld := ⟨0x080F0, 0, 1⟩
def SEN.REF_STATUS_OB_FAIL : Fld := ⟨0x080F0, 1, 1⟩
def SEN.REF_STATUS_BAD_COLS : Fld := ⟨0x080F0, 8, 8⟩
def SEN.REF_STATUS_F : Fld := ⟨0x080F0, 16, 16⟩
def SEN.MISS_COUNT : Fld := ⟨0x080F4, 0, 32⟩
def SEN.HOT_LIMIT : Fld := ⟨0x080F8, 0, 16⟩
def SEN.OB_GROUP_A (i : Nat) : Fld := ⟨0x08100 + 0x4 * i, 0, 16⟩
def SEN.OB_GROUP_B (i : Nat) : Fld := ⟨0x08100 + 0x4 * i, 16, 16⟩
def Page.EPOCH : Nat := 0x0C
def EPOCH.FRAME_MODE_MODE : Fld := ⟨0x0C050, 0, 2⟩
def EPOCH.MODE_AT_F : Fld := ⟨0x0C054, 0, 32⟩
def EPOCH.STATUS_MODE_IGNORED : Fld := ⟨0x0C060, 0, 1⟩
def EPOCH.STATUS_MODE_LATE : Fld := ⟨0x0C060, 1, 1⟩
def EPOCH.STATUS_SYNCIN_IGNORED : Fld := ⟨0x0C060, 3, 1⟩
def EPOCH.SYNCIN_CTRL_EN : Fld := ⟨0x0C070, 0, 1⟩
def EPOCH.SYNCIN_CTRL_EDGE : Fld := ⟨0x0C070, 1, 1⟩
def EPOCH.SYNCIN_CTRL_MISS_LIMIT : Fld := ⟨0x0C070, 4, 4⟩
def EPOCH.SYNCIN_STATUS_LOCKED : Fld := ⟨0x0C074, 0, 1⟩
def EPOCH.SYNCIN_STATUS_LOST : Fld := ⟨0x0C074, 1, 1⟩
def EPOCH.SYNCIN_STATUS_PHASE : Fld := ⟨0x0C074, 16, 16⟩
def EPOCH.SYNCOUT_CTRL_EN : Fld := ⟨0x0C078, 0, 1⟩
def EPOCH.SYNCOUT_CTRL_POL : Fld := ⟨0x0C078, 1, 1⟩
def EPOCH.SYNCOUT_CTRL_WIDTH : Fld := ⟨0x0C078, 8, 8⟩
def EPOCH.SYNCOUT_CTRL_DIV_M1 : Fld := ⟨0x0C078, 16, 8⟩
def EPOCH.SYNCOUT_AT_L : Fld := ⟨0x0C07C, 0, 14⟩
def EPOCH.HOLD_CTRL_HOLD_LIMIT : Fld := ⟨0x0C080, 0, 16⟩
def EPOCH.MAP_CTRL_DOMAIN : Fld := ⟨0x0C088, 0, 8⟩
def EPOCH.MAP_CTRL_SRC : Fld := ⟨0x0C088, 8, 1⟩
def EPOCH.MAP_CTRL_PTP_LOCKED : Fld := ⟨0x0C088, 9, 1⟩
def EPOCH.MAP_CTRL_PERIOD : Fld := ⟨0x0C088, 16, 16⟩
def EPOCH.MAP (i : Nat) : Fld := ⟨0x0C090 + 0x4 * i, 0, 32⟩
def Page.CSI : Nat := 0x10
def CSI.IRQ_RAW_ECC_UNCORR (p : Nat) : Fld := ⟨0x10018 + 0x1000 * p, 0, 1⟩
def CSI.IRQ_RAW_CRC_ERR (p : Nat) : Fld := ⟨0x10018 + 0x1000 * p, 1, 1⟩
def CSI.IRQ_RAW_UNROUTED (p : Nat) : Fld := ⟨0x10018 + 0x1000 * p, 2, 1⟩
def CSI.IRQ_RAW_DT_DROPPED (p : Nat) : Fld := ⟨0x10018 + 0x1000 * p, 3, 1⟩
def CSI.IRQ_RAW_SOT_ERR (p : Nat) : Fld := ⟨0x10018 + 0x1000 * p, 4, 1⟩
def CSI.IRQ_RAW_CFG_BAD (p : Nat) : Fld := ⟨0x10018 + 0x1000 * p, 5, 1⟩
def CSI.PHY_CTRL_LANES (p : Nat) : Fld := ⟨0x10040 + 0x1000 * p, 0, 3⟩
def CSI.PHY_STATUS_CFG_BAD (p : Nat) : Fld := ⟨0x10044 + 0x1000 * p, 10, 1⟩
def CSI.ECC_CORR (p : Nat) : Fld := ⟨0x10048 + 0x1000 * p, 0, 32⟩
def CSI.ECC_UNCORR (p : Nat) : Fld := ⟨0x1004C + 0x1000 * p, 0, 32⟩
def CSI.CRC_ERR (p : Nat) : Fld := ⟨0x10050 + 0x1000 * p, 0, 32⟩
def CSI.UNROUTED (p : Nat) : Fld := ⟨0x10054 + 0x1000 * p, 0, 32⟩
def CSI.DT_DROPPED (p : Nat) : Fld := ⟨0x10058 + 0x1000 * p, 0, 32⟩
def CSI.SOT_ERR (p : Nat) : Fld := ⟨0x1005C + 0x1000 * p, 0, 32⟩
def CSI.VC_SEEN (p : Nat) : Fld := ⟨0x10060 + 0x1000 * p, 0, 16⟩
def Page.CROUTE : Nat := 0x14
def CROUTE.IRQ_RAW_FRAME_DROPPED : Fld := ⟨0x14018, 0, 1⟩
def CROUTE.IRQ_RAW_TRUNC : Fld := ⟨0x14018, 1, 1⟩
def CROUTE.IRQ_RAW_STORE_OVF : Fld := ⟨0x14018, 2, 1⟩
def CROUTE.IRQ_RAW_SRC_WAIT : Fld := ⟨0x14018, 3, 1⟩
def CROUTE.STORE_PEAK : Fld := ⟨0x14044, 0, 20⟩
def CROUTE.STORE_OVF_COUNT : Fld := ⟨0x14048, 0, 32⟩
def CROUTE.OWN_STATE_FLAGS (i : Nat) : Fld := ⟨0x14050 + 0x4 * i, 0, 8⟩
def CROUTE.OWN_STATE_FILL_LINES (i : Nat) : Fld := ⟨0x14050 + 0x4 * i, 16, 16⟩
def CROUTE.ROUTE_PORT (i : Nat) : Fld := ⟨0x14080 + 0x20 * i, 0, 1⟩
def CROUTE.ROUTE_VC (i : Nat) : Fld := ⟨0x14080 + 0x20 * i, 4, 4⟩
def CROUTE.ROUTE_DT (i : Nat) : Fld := ⟨0x14080 + 0x20 * i, 8, 6⟩
def CROUTE.ROUTE_EN (i : Nat) : Fld := ⟨0x14080 + 0x20 * i, 31, 1⟩
def CROUTE.GEOM_WIDTH (i : Nat) : Fld := ⟨0x14084 + 0x20 * i, 0, 13⟩
def CROUTE.GEOM_HEIGHT (i : Nat) : Fld := ⟨0x14084 + 0x20 * i, 16, 13⟩
def CROUTE.LINE_TIMING_LINE_MIN16 (i : Nat) : Fld := ⟨0x14088 + 0x20 * i, 0, 16⟩
def CROUTE.LINE_TIMING_LINE_TIMEOUT (i : Nat) : Fld := ⟨0x14088 + 0x20 * i, 16, 12⟩
def CROUTE.FRAME_TIMING_MIN_INTERVAL (i : Nat) : Fld := ⟨0x1408C + 0x20 * i, 0, 16⟩
def CROUTE.FRAME_TIMING_FRAME_TIMEOUT (i : Nat) : Fld := ⟨0x1408C + 0x20 * i, 16, 16⟩
def CROUTE.PAD (i : Nat) : Fld := ⟨0x14090 + 0x20 * i, 0, 14⟩
def CROUTE.STATE_STATE (i : Nat) : Fld := ⟨0x14094 + 0x20 * i, 0, 2⟩
def CROUTE.STATE_SRC_WAIT (i : Nat) : Fld := ⟨0x14094 + 0x20 * i, 2, 1⟩
def CROUTE.STATE_FLAGS (i : Nat) : Fld := ⟨0x14094 + 0x20 * i, 8, 8⟩
def CROUTE.STATE_CSI_FN (i : Nat) : Fld := ⟨0x14094 + 0x20 * i, 16, 16⟩
def CROUTE.FS_COORD_LO (i : Nat) : Fld := ⟨0x14098 + 0x20 * i, 0, 32⟩
def CROUTE.FS_COORD_HI (i : Nat) : Fld := ⟨0x1409C + 0x20 * i, 0, 32⟩
def CROUTE.FRAMES (i : Nat) : Fld := ⟨0x14480 + 0x10 * i, 0, 32⟩
def CROUTE.DROPPED_FRAMES (i : Nat) : Fld := ⟨0x14484 + 0x10 * i, 0, 32⟩
def CROUTE.FILL_LINES (i : Nat) : Fld := ⟨0x14488 + 0x10 * i, 0, 32⟩
def CROUTE.ORPHAN_LINES (i : Nat) : Fld := ⟨0x1448C + 0x10 * i, 0, 32⟩
def Page.ISP : Nat := 0x15
def ISP.IRQ_RAW_FRAME_DONE : Fld := ⟨0x15018, 0, 1⟩
def ISP.IRQ_RAW_PARAM_BAD : Fld := ⟨0x15018, 1, 1⟩
def ISP.IRQ_RAW_ABANDONED : Fld := ⟨0x15018, 2, 1⟩
def ISP.IRQ_RAW_TABLE_IN_FORCE : Fld := ⟨0x15018, 3, 1⟩
def ISP.IRQ_RAW_TABLE_ECC : Fld := ⟨0x15018, 4, 1⟩
def ISP.IRQ_RAW_DESC_LOST : Fld := ⟨0x15018, 5, 1⟩
def ISP.IRQ_RAW_DARK_CLAMP : Fld := ⟨0x15018, 6, 1⟩
def ISP.TABLE_SEL_CONTEXT : Fld := ⟨0x15040, 0, 6⟩
def ISP.TABLE_SEL_TABLE : Fld := ⟨0x15040, 8, 2⟩
def ISP.TABLE_SEL_BANK : Fld := ⟨0x15040, 12, 1⟩
def ISP.TABLE_ADDR : Fld := ⟨0x15044, 0, 16⟩
def ISP.UNIT_BANKS_DEFECT_BANK : Fld := ⟨0x1504C, 0, 1⟩
def ISP.UNIT_BANKS_DARK_BANK : Fld := ⟨0x1504C, 1, 1⟩
def ISP.DEFECT_COUNT_A : Fld := ⟨0x15050, 0, 15⟩
def ISP.DEFECT_COUNT_B : Fld := ⟨0x15050, 16, 15⟩
def ISP.DARK_K_K_HCG : Fld := ⟨0x15054, 0, 16⟩
def ISP.DARK_K_K_LCG : Fld := ⟨0x15054, 16, 16⟩
def ISP.GAIN_RATIO : Fld := ⟨0x15058, 0, 16⟩
def ISP.TABLE_ECC_COUNT : Fld := ⟨0x1505C, 0, 32⟩
def ISP.DEFECT_SKIP : Fld := ⟨0x15060, 0, 32⟩
def ISP.CFG_TABLE_BANK (i : Nat) : Fld := ⟨0x15400 + 0x40 * i, 10, 1⟩
def ISP.CTX_STATUS_FLAGS (i : Nat) : Fld := ⟨0x15D00 + 0x4 * i, 0, 8⟩
def ISP.CTX_STATUS_ISP_FLAGS (i : Nat) : Fld := ⟨0x15D00 + 0x4 * i, 8, 8⟩
def ISP.CTX_STATUS_LATENCY (i : Nat) : Fld := ⟨0x15D00 + 0x4 * i, 16, 8⟩
def ISP.CTX_STATUS_CHECK (i : Nat) : Fld := ⟨0x15D00 + 0x4 * i, 28, 4⟩
def ISP.CTX_COUNT_ABANDON_COUNT (i : Nat) : Fld := ⟨0x15E00 + 0x4 * i, 0, 16⟩
def ISP.CTX_COUNT_STAT_LOST (i : Nat) : Fld := ⟨0x15E00 + 0x4 * i, 16, 16⟩
def Page.ISPSTAT : Nat := 0x16
def ISPSTAT.STAT_SEL_CONTEXT : Fld := ⟨0x16040, 0, 6⟩
def ISPSTAT.STAT_SEL_PART : Fld := ⟨0x16040, 8, 3⟩
def ISPSTAT.STAT_LOCK_LO : Fld := ⟨0x16044, 0, 32⟩
def ISPSTAT.STAT_LOCK_HI : Fld := ⟨0x16048, 0, 4⟩
def ISPSTAT.SAT_LEVEL : Fld := ⟨0x1604C, 0, 16⟩
def ISPSTAT.STAT_SEQ (i : Nat) : Fld := ⟨0x16080 + 0x4 * i, 0, 32⟩
def TILE.STATUS_TSTATE (p : Nat) : Fld := ⟨0x20014 + 0x1000 * p, 16, 2⟩
def TILE.STATUS_CC_BUSY (p : Nat) : Fld := ⟨0x20014 + 0x1000 * p, 19, 1⟩
def TILE.IRQ_RAW_GROUP_DONE (p : Nat) : Fld := ⟨0x20018 + 0x1000 * p, 0, 1⟩
def TILE.IRQ_RAW_GROUP_HALTED (p : Nat) : Fld := ⟨0x20018 + 0x1000 * p, 1, 1⟩
def TILE.IRQ_RAW_TAG_TIMEOUT (p : Nat) : Fld := ⟨0x20018 + 0x1000 * p, 2, 1⟩
def TILE.IRQ_RAW_POISON (p : Nat) : Fld := ⟨0x20018 + 0x1000 * p, 3, 1⟩
def TILE.IRQ_RAW_NEIGHBOUR_FAULT (p : Nat) : Fld := ⟨0x20018 + 0x1000 * p, 4, 1⟩
def TILE.IRQ_RAW_TAG_REDUNDANT (p : Nat) : Fld := ⟨0x20018 + 0x1000 * p, 5, 1⟩
def TILE.IRQ_RAW_CC_DONE (p : Nat) : Fld := ⟨0x20018 + 0x1000 * p, 6, 1⟩
def TILE.IRQ_RAW_CC_ERR (p : Nat) : Fld := ⟨0x20018 + 0x1000 * p, 7, 1⟩
def TILE.IRQ_RAW_SELF_CHECK_FAIL (p : Nat) : Fld := ⟨0x20018 + 0x1000 * p, 8, 1⟩
def TILE.TCTRL_MAP_OUT (p : Nat) : Fld := ⟨0x20040 + 0x1000 * p, 0, 1⟩
def TILE.STALL_LIMIT (p : Nat) : Fld := ⟨0x20044 + 0x1000 * p, 0, 8⟩
def TILE.GROUP_STATUS_GROUP (p : Nat) : Fld := ⟨0x20048 + 0x1000 * p, 0, 16⟩
def TILE.GROUP_STATUS_HALT_CAUSE (p : Nat) : Fld := ⟨0x20048 + 0x1000 * p, 16, 8⟩
def TILE.TT_INFO_SLOT (p : Nat) : Fld := ⟨0x20050 + 0x1000 * p, 0, 14⟩
def TILE.TT_INFO_REQUESTER (p : Nat) : Fld := ⟨0x20050 + 0x1000 * p, 16, 4⟩
def TILE.TT_INFO_KIND (p : Nat) : Fld := ⟨0x20050 + 0x1000 * p, 20, 1⟩
def TILE.TT_INFO_OVERFLOW (p : Nat) : Fld := ⟨0x20050 + 0x1000 * p, 30, 1⟩
def TILE.TT_INFO_VALID (p : Nat) : Fld := ⟨0x20050 + 0x1000 * p, 31, 1⟩
def TILE.TT_COORD_LO (p : Nat) : Fld := ⟨0x20054 + 0x1000 * p, 0, 32⟩
def TILE.TT_COORD_HI (p : Nat) : Fld := ⟨0x20058 + 0x1000 * p, 0, 32⟩
def TILE.CONFLICT_COUNT (p : Nat) : Fld := ⟨0x20060 + 0x1000 * p, 0, 32⟩
def TILE.TAG_REDUNDANT (p : Nat) : Fld := ⟨0x20064 + 0x1000 * p, 0, 32⟩
def TILE.SELF_CHECK_DONE (p : Nat) : Fld := ⟨0x20068 + 0x1000 * p, 0, 1⟩
def TILE.SELF_CHECK_FAIL (p : Nat) : Fld := ⟨0x20068 + 0x1000 * p, 1, 1⟩
def TILE.SELF_CHECK_RUNS (p : Nat) : Fld := ⟨0x20068 + 0x1000 * p, 16, 16⟩
def TILE.CC_DESC (p : Nat) (i : Nat) : Fld := ⟨0x20080 + 0x1000 * p + 0x4 * i, 0, 32⟩
def TILE.CC_STATUS_STATE (p : Nat) : Fld := ⟨0x200A4 + 0x1000 * p, 0, 2⟩
def TILE.CC_STATUS_QUEUED (p : Nat) : Fld := ⟨0x200A4 + 0x1000 * p, 2, 3⟩
def TILE.CC_STATUS_LAST_ERR (p : Nat) : Fld := ⟨0x200A4 + 0x1000 * p, 8, 8⟩
def TILE.CC_MATCHES (p : Nat) : Fld := ⟨0x200A8 + 0x1000 * p, 0, 17⟩
def TILE.ELOG_HEAD_NEXT (p : Nat) : Fld := ⟨0x20100 + 0x1000 * p, 0, 8⟩
def TILE.ELOG_HEAD_OVF (p : Nat) : Fld := ⟨0x20100 + 0x1000 * p, 16, 16⟩
def TILE.ELOG_SEL (p : Nat) : Fld := ⟨0x20104 + 0x1000 * p, 0, 8⟩
def Page.SPM : Nat := 0x30
def SPM.IRQ_RAW_CE : Fld := ⟨0x30018, 0, 1⟩
def SPM.IRQ_RAW_UE_POISON : Fld := ⟨0x30018, 1, 1⟩
def SPM.IRQ_RAW_UE_EMPTY : Fld := ⟨0x30018, 2, 1⟩
def SPM.IRQ_RAW_TAG_VOTE : Fld := ⟨0x30018, 3, 1⟩
def SPM.IRQ_RAW_SCRUB_PASS : Fld := ⟨0x30018, 4, 1⟩
def SPM.IRQ_RAW_ATTR_BAD : Fld := ⟨0x30018, 5, 1⟩
def SPM.SCRUB_CTRL_EN : Fld := ⟨0x30040, 0, 1⟩
def SPM.SCRUB_STATUS_ROW : Fld := ⟨0x30044, 0, 12⟩
def SPM.SCRUB_STATUS_PASSES : Fld := ⟨0x30044, 16, 16⟩
def SPM.DBG_ADDR_OFFSET : Fld := ⟨0x30048, 0, 22⟩
def SPM.DBG_ADDR_TILE : Fld := ⟨0x30048, 24, 4⟩
def SPM.POISON_HEAD_NEXT : Fld := ⟨0x30060, 0, 8⟩
def SPM.POISON_HEAD_OVF : Fld := ⟨0x30060, 16, 16⟩
def SPM.POISON_SEL : Fld := ⟨0x30064, 0, 8⟩
def SPM.ECC_CE (i : Nat) : Fld := ⟨0x30280 + 0x10 * i, 0, 32⟩
def SPM.ECC_UE (i : Nat) : Fld := ⟨0x30284 + 0x10 * i, 0, 32⟩
def SPM.TAG_VOTE (i : Nat) : Fld := ⟨0x30288 + 0x10 * i, 0, 32⟩
def SPM.UE_EMPTY (i : Nat) : Fld := ⟨0x3028C + 0x10 * i, 0, 32⟩
def Page.MOVER : Nat := 0x31
def MOVER.IRQ_RAW_RELOAD_DONE : Fld := ⟨0x31018, 16, 1⟩
def MOVER.IRQ_RAW_RELOAD_ERR : Fld := ⟨0x31018, 17, 1⟩
def MOVER.MOVED_LO : Fld := ⟨0x31060, 0, 32⟩
def MOVER.MOVED_HI : Fld := ⟨0x31064, 0, 32⟩
def MOVER.RELOAD_STATUS_DONE : Fld := ⟨0x31080, 16, 16⟩
def MOVER.RING_BASE_LO (i : Nat) : Fld := ⟨0x31100 + 0x20 * i, 0, 32⟩
def MOVER.RING_BASE_HI (i : Nat) : Fld := ⟨0x31104 + 0x20 * i, 0, 32⟩
def MOVER.RING_CFG_RING_LOG2 (i : Nat) : Fld := ⟨0x31108 + 0x20 * i, 0, 4⟩
def MOVER.RING_CFG_PRIO (i : Nat) : Fld := ⟨0x31108 + 0x20 * i, 8, 2⟩
def MOVER.RING_CFG_EN (i : Nat) : Fld := ⟨0x31108 + 0x20 * i, 16, 1⟩
def MOVER.TAIL (i : Nat) : Fld := ⟨0x3110C + 0x20 * i, 0, 12⟩
def MOVER.HEAD (i : Nat) : Fld := ⟨0x31110 + 0x20 * i, 0, 12⟩
def MOVER.CH_STATE_STATE (i : Nat) : Fld := ⟨0x31114 + 0x20 * i, 0, 2⟩
def MOVER.CH_STATE_LAST_CAUSE (i : Nat) : Fld := ⟨0x31114 + 0x20 * i, 8, 8⟩
def MOVER.CH_LAST_USER (i : Nat) : Fld := ⟨0x3111C + 0x20 * i, 0, 32⟩
def Page.PACK : Nat := 0x32
def PACK.STATUS_PSTATE : Fld := ⟨0x32014, 16, 2⟩
def PACK.STATUS_EXPANDING : Fld := ⟨0x32014, 18, 1⟩
def PACK.IRQ_RAW_PACK_DONE : Fld := ⟨0x32018, 0, 1⟩
def PACK.IRQ_RAW_PACK_ERR : Fld := ⟨0x32018, 1, 1⟩
def PACK.IRQ_RAW_EXPAND_DONE : Fld := ⟨0x32018, 2, 1⟩
def PACK.IRQ_RAW_EXPAND_ERR : Fld := ⟨0x32018, 3, 1⟩
def PACK.PACK_CTRL_VERIFY : Fld := ⟨0x32040, 1, 1⟩
def PACK.PACK_CTRL_EXP_ALLOW : Fld := ⟨0x32040, 2, 1⟩
def PACK.PACK_CTRL_DELTA_ALLOW : Fld := ⟨0x32040, 3, 1⟩
def PACK.PACK_CTRL_SHADOW : Fld := ⟨0x32040, 4, 1⟩
def PACK.PACK_CTRL_FMT : Fld := ⟨0x32040, 8, 4⟩
def PACK.PLAIN_BYTES : Fld := ⟨0x32044, 0, 22⟩
def PACK.SRC_LO : Fld := ⟨0x32048, 0, 32⟩
def PACK.SRC_HI : Fld := ⟨0x3204C, 0, 32⟩
def PACK.BASE_SRC_LO : Fld := ⟨0x32050, 0, 32⟩
def PACK.BASE_SRC_HI : Fld := ⟨0x32054, 0, 32⟩
def PACK.BASE_OFF : Fld := ⟨0x32058, 0, 32⟩
def PACK.DST_LO : Fld := ⟨0x3205C, 0, 32⟩
def PACK.DST_HI : Fld := ⟨0x32060, 0, 32⟩
def PACK.DST_LIMIT : Fld := ⟨0x32064, 0, 23⟩
def PACK.OUT_BYTES : Fld := ⟨0x32068, 0, 23⟩
def PACK.SEG_DONE : Fld := ⟨0x3206C, 0, 6⟩
def PACK.PLAIN_CRC : Fld := ⟨0x32070, 0, 32⟩
def PACK.PACKED_CRC : Fld := ⟨0x32074, 0, 32⟩
def PACK.METHOD_COUNT_RAW : Fld := ⟨0x32078, 0, 8⟩
def PACK.METHOD_COUNT_EXP : Fld := ⟨0x32078, 8, 8⟩
def PACK.METHOD_COUNT_DELTA : Fld := ⟨0x32078, 16, 8⟩
def PACK.LAST_ERR : Fld := ⟨0x3207C, 0, 8⟩
def PACK.HIST_SEL_SYMBOL : Fld := ⟨0x32080, 0, 8⟩
def PACK.HIST_SEL_KIND : Fld := ⟨0x32080, 8, 1⟩
def PACK.EXP_CTRL_TILE : Fld := ⟨0x320C0, 0, 4⟩
def PACK.EXP_SRC : Fld := ⟨0x320C4, 0, 22⟩
def PACK.EXP_DST : Fld := ⟨0x320C8, 0, 22⟩
def PACK.EXP_STATUS_STATE : Fld := ⟨0x320CC, 0, 2⟩
def PACK.EXP_STATUS_LAST_ERR : Fld := ⟨0x320CC, 8, 8⟩
def Page.BULK : Nat := 0x38
def BULK.IRQ_RAW_CE : Fld := ⟨0x38018, 0, 1⟩
def BULK.IRQ_RAW_UE : Fld := ⟨0x38018, 1, 1⟩
def BULK.IRQ_RAW_RETIRED : Fld := ⟨0x38018, 2, 1⟩
def BULK.IRQ_RAW_RELOAD_DONE : Fld := ⟨0x38018, 3, 1⟩
def BULK.IRQ_RAW_RELOAD_FAIL : Fld := ⟨0x38018, 4, 1⟩
def BULK.IRQ_RAW_SPARES_LOW : Fld := ⟨0x38018, 5, 1⟩
def BULK.IRQ_RAW_DEAD_PAGE : Fld := ⟨0x38018, 6, 1⟩
def BULK.IRQ_RAW_SCRUB_PASS : Fld := ⟨0x38018, 7, 1⟩
def BULK.SCRUB_CTRL_EN : Fld := ⟨0x38040, 0, 1⟩
def BULK.SCRUB_POS : Fld := ⟨0x38044, 0, 32⟩
def BULK.HOLD_LIMIT : Fld := ⟨0x3804C, 0, 16⟩
def BULK.CE_LIMIT : Fld := ⟨0x38050, 0, 8⟩
def BULK.SPARE_LOW : Fld := ⟨0x38058, 0, 17⟩
def BULK.ECC_CE_COUNT : Fld := ⟨0x38060, 0, 32⟩
def BULK.ECC_UE_COUNT : Fld := ⟨0x38064, 0, 32⟩
def BULK.RETIRE_PAGE : Fld := ⟨0x38070, 0, 21⟩
def BULK.RETIRE_CTRL_KIND : Fld := ⟨0x38074, 1, 2⟩
def BULK.RLOG_HEAD_NEXT : Fld := ⟨0x38080, 0, 8⟩
def BULK.RLOG_HEAD_OVF : Fld := ⟨0x38080, 16, 16⟩
def BULK.RLOG_SEL : Fld := ⟨0x38084, 0, 8⟩
def BULK.CR_BASE_PAGE (i : Nat) : Fld := ⟨0x38100 + 0x10 * i, 0, 21⟩
def BULK.CR_BASE_AUTO (i : Nat) : Fld := ⟨0x38100 + 0x10 * i, 31, 1⟩
def BULK.CR_PAGES (i : Nat) : Fld := ⟨0x38104 + 0x10 * i, 0, 21⟩
def BULK.CR_FLASH_LO (i : Nat) : Fld := ⟨0x38108 + 0x10 * i, 0, 32⟩
def BULK.CR_FLASH_HI (i : Nat) : Fld := ⟨0x3810C + 0x10 * i, 0, 32⟩
def Page.XPORT : Nat := 0x40
def XPORT.STATUS_LSTATE (p : Nat) : Fld := ⟨0x40014 + 0x1000 * p, 16, 3⟩
def XPORT.STATUS_MISCABLED (p : Nat) : Fld := ⟨0x40014 + 0x1000 * p, 19, 1⟩
def XPORT.STATUS_TAP_MODE (p : Nat) : Fld := ⟨0x40014 + 0x1000 * p, 20, 1⟩
def XPORT.STATUS_PAUSE_TX (p : Nat) : Fld := ⟨0x40014 + 0x1000 * p, 21, 4⟩
def XPORT.STATUS_PAUSE_RX (p : Nat) : Fld := ⟨0x40014 + 0x1000 * p, 25, 4⟩
def XPORT.STATUS_PAUSE_LONG (p : Nat) : Fld := ⟨0x40014 + 0x1000 * p, 29, 1⟩
def XPORT.IRQ_RAW_LINK_UP (p : Nat) : Fld := ⟨0x40018 + 0x1000 * p, 0, 1⟩
def XPORT.IRQ_RAW_LINK_DOWN (p : Nat) : Fld := ⟨0x40018 + 0x1000 * p, 1, 1⟩
def XPORT.IRQ_RAW_OPENED (p : Nat) : Fld := ⟨0x40018 + 0x1000 * p, 2, 1⟩
def XPORT.IRQ_RAW_TRAIN_FAIL (p : Nat) : Fld := ⟨0x40018 + 0x1000 * p, 3, 1⟩
def XPORT.IRQ_RAW_MISCABLED (p : Nat) : Fld := ⟨0x40018 + 0x1000 * p, 4, 1⟩
def XPORT.IRQ_RAW_HDR_ERR (p : Nat) : Fld := ⟨0x40018 + 0x1000 * p, 5, 1⟩
def XPORT.IRQ_RAW_CRC_ERR (p : Nat) : Fld := ⟨0x40018 + 0x1000 * p, 6, 1⟩
def XPORT.IRQ_RAW_PAUSE_LONG (p : Nat) : Fld := ⟨0x40018 + 0x1000 * p, 7, 1⟩
def XPORT.IRQ_RAW_TAP_REFUSED (p : Nat) : Fld := ⟨0x40018 + 0x1000 * p, 8, 1⟩
def XPORT.PORT_CTRL_OPEN (p : Nat) : Fld := ⟨0x40040 + 0x1000 * p, 0, 1⟩
def XPORT.PORT_CTRL_TAP (p : Nat) : Fld := ⟨0x40040 + 0x1000 * p, 2, 1⟩
def XPORT.PORT_CTRL_TAP_CTX (p : Nat) : Fld := ⟨0x40040 + 0x1000 * p, 8, 6⟩
def XPORT.TRAIN_STATUS_FAIL_STATE (p : Nat) : Fld := ⟨0x40048 + 0x1000 * p, 0, 3⟩
def XPORT.TRAIN_STATUS_FAIL_CAUSE (p : Nat) : Fld := ⟨0x40048 + 0x1000 * p, 4, 4⟩
def XPORT.TRAIN_STATUS_RETRAINS (p : Nat) : Fld := ⟨0x40048 + 0x1000 * p, 16, 16⟩
def XPORT.PARTNER_NODE (p : Nat) : Fld := ⟨0x4004C + 0x1000 * p, 0, 8⟩
def XPORT.PARTNER_PORT (p : Nat) : Fld := ⟨0x4004C + 0x1000 * p, 8, 2⟩
def XPORT.PARTNER_XVER (p : Nat) : Fld := ⟨0x4004C + 0x1000 * p, 12, 4⟩
def XPORT.PARTNER_ROLE (p : Nat) : Fld := ⟨0x4004C + 0x1000 * p, 16, 1⟩
def XPORT.PARTNER_VALID (p : Nat) : Fld := ⟨0x4004C + 0x1000 * p, 31, 1⟩
def XPORT.PAUSE_THR_XOFF (p : Nat) : Fld := ⟨0x40054 + 0x1000 * p, 0, 11⟩
def XPORT.PAUSE_THR_XON (p : Nat) : Fld := ⟨0x40054 + 0x1000 * p, 16, 11⟩
def XPORT.PAUSE_WARN (p : Nat) : Fld := ⟨0x40058 + 0x1000 * p, 0, 8⟩
def XPORT.UNCORR_LIMIT (p : Nat) : Fld := ⟨0x4005C + 0x1000 * p, 0, 16⟩
def XPORT.FEC_CORR (p : Nat) : Fld := ⟨0x40060 + 0x1000 * p, 0, 32⟩
def XPORT.FEC_UNCORR (p : Nat) : Fld := ⟨0x40064 + 0x1000 * p, 0, 32⟩
def XPORT.HDR_ERR (p : Nat) : Fld := ⟨0x40068 + 0x1000 * p, 0, 32⟩
def XPORT.CRC_ERR (p : Nat) : Fld := ⟨0x4006C + 0x1000 * p, 0, 32⟩
def XPORT.STOMPED (p : Nat) : Fld := ⟨0x40070 + 0x1000 * p, 0, 32⟩
def XPORT.TAP_DROPPED (p : Nat) : Fld := ⟨0x40074 + 0x1000 * p, 0, 32⟩
def XPORT.TX_FLITS_LO (p : Nat) : Fld := ⟨0x40080 + 0x1000 * p, 0, 32⟩
def XPORT.TX_FLITS_HI (p : Nat) : Fld := ⟨0x40084 + 0x1000 * p, 0, 32⟩
def XPORT.RX_FLITS_LO (p : Nat) : Fld := ⟨0x40088 + 0x1000 * p, 0, 32⟩
def XPORT.RX_FLITS_HI (p : Nat) : Fld := ⟨0x4008C + 0x1000 * p, 0, 32⟩
def XPORT.PAUSED_TIME (p : Nat) (i : Nat) : Fld := ⟨0x40090 + 0x1000 * p + 0x4 * i, 0, 32⟩
def Page.XROUTE : Nat := 0x44
def XROUTE.STATUS_TABLE_ACTIVE : Fld := ⟨0x44014, 16, 1⟩
def XROUTE.STATUS_SWITCH_PENDING : Fld := ⟨0x44014, 17, 1⟩
def XROUTE.IRQ_RAW_SWITCHED : Fld := ⟨0x44018, 0, 1⟩
def XROUTE.IRQ_RAW_UNARMED : Fld := ⟨0x44018, 1, 1⟩
def XROUTE.IRQ_RAW_LATE : Fld := ⟨0x44018, 2, 1⟩
def XROUTE.IRQ_RAW_DROP : Fld := ⟨0x44018, 3, 1⟩
def XROUTE.NODE_ID : Fld := ⟨0x44040, 0, 8⟩
def XROUTE.HOP_LIMIT : Fld := ⟨0x44048, 0, 8⟩
def XROUTE.RT_SEL_BANK : Fld := ⟨0x44050, 0, 1⟩
def XROUTE.RT_SEL_WORD : Fld := ⟨0x44050, 8, 5⟩
def XROUTE.RT_ARM_ARMED : Fld := ⟨0x44058, 0, 1⟩
def XROUTE.RT_ARM_EPOCH : Fld := ⟨0x44058, 16, 16⟩
def XROUTE.RS_AT_LO : Fld := ⟨0x44060, 0, 32⟩
def XROUTE.RS_AT_HI : Fld := ⟨0x44064, 0, 32⟩
def XROUTE.RS_CTRL_EPOCH : Fld := ⟨0x44068, 16, 16⟩
def XROUTE.RS_STATUS_LAST_EPOCH : Fld := ⟨0x4406C, 0, 16⟩
def XROUTE.RS_STATUS_PENDING : Fld := ⟨0x4406C, 16, 1⟩
def XROUTE.RS_STATUS_LATE : Fld := ⟨0x4406C, 17, 1⟩
def XROUTE.RS_STATUS_UNARMED : Fld := ⟨0x4406C, 18, 1⟩
def XROUTE.DROP_NOROUTE : Fld := ⟨0x44070, 0, 32⟩
def XROUTE.DROP_PORTDOWN : Fld := ⟨0x44074, 0, 32⟩
def XROUTE.DROP_UTURN : Fld := ⟨0x44078, 0, 32⟩
def XROUTE.DROP_HOPS : Fld := ⟨0x4407C, 0, 32⟩
def XROUTE.SWITCH_COUNT : Fld := ⟨0x44080, 0, 32⟩
def Page.XQP : Nat := 0x45
def XQP.IRQ_RAW_CQ0_3 : Fld := ⟨0x45018, 0, 4⟩
def XQP.IRQ_RAW_QP_ERROR : Fld := ⟨0x45018, 4, 1⟩
def XQP.IRQ_RAW_ACCESS_ERR : Fld := ⟨0x45018, 5, 1⟩
def XQP.IRQ_RAW_CQ_OVERFLOW : Fld := ⟨0x45018, 6, 1⟩
def XQP.IRQ_RAW_WADI_DROP : Fld := ⟨0x45018, 7, 1⟩
def XQP.IRQ_RAW_WADI_OVF : Fld := ⟨0x45018, 8, 1⟩
def XQP.IRQ_RAW_KEY_FAIL : Fld := ⟨0x45018, 9, 1⟩
def XQP.QP_SEL : Fld := ⟨0x45040, 0, 8⟩
def XQP.QCTX0_STATE (s : Nat) : Fld := ⟨0x45050 + 0x100000 * (s + 1), 0, 3⟩
def XQP.QCTX0_CLASS (s : Nat) : Fld := ⟨0x45050 + 0x100000 * (s + 1), 4, 2⟩
def XQP.QCTX0_CQ (s : Nat) : Fld := ⟨0x45050 + 0x100000 * (s + 1), 8, 2⟩
def XQP.QCTX0_RETRY_MAX (s : Nat) : Fld := ⟨0x45050 + 0x100000 * (s + 1), 10, 3⟩
def XQP.QCTX0_PEER_NODE (s : Nat) : Fld := ⟨0x45050 + 0x100000 * (s + 1), 16, 8⟩
def XQP.QCTX0_PEER_QP (s : Nat) : Fld := ⟨0x45050 + 0x100000 * (s + 1), 24, 8⟩
def XQP.QCTX1_SQ_PSN (s : Nat) : Fld := ⟨0x45054 + 0x100000 * (s + 1), 0, 24⟩
def XQP.QCTX2_RQ_PSN (s : Nat) : Fld := ⟨0x45058 + 0x100000 * (s + 1), 0, 24⟩
def XQP.QCTX3_MAX_OUT_M1 (s : Nat) : Fld := ⟨0x4505C + 0x100000 * (s + 1), 16, 10⟩
def XQP.QCTX4_SQ_BASE_LO (s : Nat) : Fld := ⟨0x45060 + 0x100000 * (s + 1), 0, 32⟩
def XQP.QCTX5_SQ_BASE_HI (s : Nat) : Fld := ⟨0x45064 + 0x100000 * (s + 1), 0, 1⟩
def XQP.QCTX5_SQ_LOG2 (s : Nat) : Fld := ⟨0x45064 + 0x100000 * (s + 1), 4, 4⟩
def XQP.QCTX6_DEF_WIN (s : Nat) : Fld := ⟨0x45068 + 0x100000 * (s + 1), 0, 10⟩
def XQP.QCTX7_DEF_KEY (s : Nat) : Fld := ⟨0x4506C + 0x100000 * (s + 1), 0, 32⟩
def XQP.QCTX8_SQ_HEAD (s : Nat) : Fld := ⟨0x45070 + 0x100000 * (s + 1), 0, 12⟩
def XQP.QCTX8_SQ_TAIL (s : Nat) : Fld := ⟨0x45070 + 0x100000 * (s + 1), 16, 12⟩
def XQP.QCTX9_STATUS (s : Nat) : Fld := ⟨0x45074 + 0x100000 * (s + 1), 0, 8⟩
def XQP.QCTX9_CAUSE (s : Nat) : Fld := ⟨0x45074 + 0x100000 * (s + 1), 8, 8⟩
def XQP.QCTX9_RETRIES (s : Nat) : Fld := ⟨0x45074 + 0x100000 * (s + 1), 16, 3⟩
def XQP.QCTX9_FLUSHING (s : Nat) : Fld := ⟨0x45074 + 0x100000 * (s + 1), 19, 1⟩
def XQP.QCTX10_OLDEST (s : Nat) : Fld := ⟨0x45078 + 0x100000 * (s + 1), 0, 24⟩
def XQP.WIN_SEL : Fld := ⟨0x45080, 0, 10⟩
def XQP.WIN0_BASE_LO (s : Nat) : Fld := ⟨0x45084 + 0x100000 * (s + 1), 0, 32⟩
def XQP.WIN1_BASE_HI (s : Nat) : Fld := ⟨0x45088 + 0x100000 * (s + 1), 0, 1⟩
def XQP.WIN1_TILE (s : Nat) : Fld := ⟨0x45088 + 0x100000 * (s + 1), 4, 4⟩
def XQP.WIN1_SPACE (s : Nat) : Fld := ⟨0x45088 + 0x100000 * (s + 1), 8, 4⟩
def XQP.WIN1_R (s : Nat) : Fld := ⟨0x45088 + 0x100000 * (s + 1), 16, 1⟩
def XQP.WIN1_W (s : Nat) : Fld := ⟨0x45088 + 0x100000 * (s + 1), 17, 1⟩
def XQP.WIN1_WI (s : Nat) : Fld := ⟨0x45088 + 0x100000 * (s + 1), 18, 1⟩
def XQP.WIN1_TAGS (s : Nat) : Fld := ⟨0x45088 + 0x100000 * (s + 1), 19, 1⟩
def XQP.WIN1_EN (s : Nat) : Fld := ⟨0x45088 + 0x100000 * (s + 1), 31, 1⟩
def XQP.WIN2_LENGTH (s : Nat) : Fld := ⟨0x4508C + 0x100000 * (s + 1), 0, 32⟩
def XQP.WIN3_KEY (s : Nat) : Fld := ⟨0x45090 + 0x100000 * (s + 1), 0, 32⟩
def XQP.WIN4_PEER (s : Nat) : Fld := ⟨0x45094 + 0x100000 * (s + 1), 0, 8⟩
def XQP.WADI_SEL : Fld := ⟨0x450A0, 0, 9⟩
def XQP.WD_CTRL_VALID (s : Nat) : Fld := ⟨0x450A4 + 0x100000 * (s + 1), 0, 1⟩
def XQP.WD_CTRL_ARMED (s : Nat) : Fld := ⟨0x450A4 + 0x100000 * (s + 1), 1, 1⟩
def XQP.WD_CTRL_AUTO (s : Nat) : Fld := ⟨0x450A4 + 0x100000 * (s + 1), 2, 1⟩
def XQP.WD_CTRL_ACTION (s : Nat) : Fld := ⟨0x450A4 + 0x100000 * (s + 1), 4, 2⟩
def XQP.WD_CTRL_QP (s : Nat) : Fld := ⟨0x450A4 + 0x100000 * (s + 1), 8, 8⟩
def XQP.WD_COUNT (s : Nat) : Fld := ⟨0x450A8 + 0x100000 * (s + 1), 0, 24⟩
def XQP.WD_THRESH (s : Nat) : Fld := ⟨0x450AC + 0x100000 * (s + 1), 0, 24⟩
def XQP.WD_ARG (s : Nat) : Fld := ⟨0x450B0 + 0x100000 * (s + 1), 0, 32⟩
def XQP.WD_STAT_FIRES (s : Nat) : Fld := ⟨0x450B4 + 0x100000 * (s + 1), 0, 16⟩
def XQP.WD_STAT_PENDING (s : Nat) : Fld := ⟨0x450B4 + 0x100000 * (s + 1), 16, 8⟩
def XQP.WD_STAT_OVF (s : Nat) : Fld := ⟨0x450B4 + 0x100000 * (s + 1), 24, 1⟩
def XQP.WD_WR (s : Nat) (i : Nat) : Fld := ⟨0x450C0 + 0x100000 * (s + 1) + 0x4 * i, 0, 32⟩
def XQP.STRAY : Fld := ⟨0x45100, 0, 32⟩
def XQP.DUP : Fld := ⟨0x45104, 0, 32⟩
def XQP.STALE : Fld := ⟨0x45108, 0, 32⟩
def XQP.LATE : Fld := ⟨0x4510C, 0, 32⟩
def XQP.RESENT : Fld := ⟨0x45110, 0, 32⟩
def XQP.KEY_FAIL : Fld := ⟨0x45114, 0, 32⟩
def XQP.QLOG_HEAD_NEXT : Fld := ⟨0x45140, 0, 8⟩
def XQP.QLOG_HEAD_OVF : Fld := ⟨0x45140, 16, 16⟩
def XQP.QLOG_SEL : Fld := ⟨0x45144, 0, 8⟩
def XQP.CQ_BASE_LO (i : Nat) : Fld := ⟨0x45200 + 0x20 * i, 0, 32⟩
def XQP.CQ_BASE_HI (i : Nat) : Fld := ⟨0x45204 + 0x20 * i, 0, 1⟩
def XQP.CQ_CFG_LOG2 (i : Nat) : Fld := ⟨0x45208 + 0x20 * i, 0, 4⟩
def XQP.CQ_CFG_EN (i : Nat) : Fld := ⟨0x45208 + 0x20 * i, 8, 1⟩
def XQP.CQ_HEAD (i : Nat) : Fld := ⟨0x4520C + 0x20 * i, 0, 12⟩
def XQP.CQ_TAIL (i : Nat) : Fld := ⟨0x45210 + 0x20 * i, 0, 12⟩
def XQP.CQ_STATUS_OVERFLOW (i : Nat) : Fld := ⟨0x45214 + 0x20 * i, 0, 1⟩
def Page.XEPOCH : Nat := 0x46
def XEPOCH.STATE_STATE : Fld := ⟨0x46040, 0, 3⟩
def XEPOCH.STATE_PARENT : Fld := ⟨0x46040, 4, 2⟩
def XEPOCH.STATE_DEPTH : Fld := ⟨0x46040, 8, 8⟩
def XEPOCH.STATE_MASTER : Fld := ⟨0x46040, 16, 8⟩
def XEPOCH.CTRL_BEAT_EN : Fld := ⟨0x46044, 0, 1⟩
def XEPOCH.CTRL_ROLE_MASTER : Fld := ⟨0x46044, 1, 1⟩
def XEPOCH.CTRL_LOSS_LIMIT : Fld := ⟨0x46044, 8, 8⟩
def XEPOCH.PORT_DELAY_DELAY_PS (i : Nat) : Fld := ⟨0x4604C + 0x4 * i, 0, 20⟩
def XEPOCH.PORT_DELAY_VALID (i : Nat) : Fld := ⟨0x4604C + 0x4 * i, 30, 1⟩
def XEPOCH.PORT_DELAY_OVR (i : Nat) : Fld := ⟨0x4604C + 0x4 * i, 31, 1⟩
def XEPOCH.OFFSET : Fld := ⟨0x4605C, 0, 16⟩
def XEPOCH.FAULT_BEAT_LOST : Fld := ⟨0x46060, 0, 1⟩
def XEPOCH.FAULT_STEP_NEEDED : Fld := ⟨0x46060, 1, 1⟩
def XEPOCH.FAULT_MODE_MISMATCH : Fld := ⟨0x46060, 2, 1⟩
def XEPOCH.FAULT_SYNCIN_CONFLICT : Fld := ⟨0x46060, 3, 1⟩
def XEPOCH.FAULT_DELAY_RANGE : Fld := ⟨0x46060, 4, 1⟩
def XEPOCH.BEAT_COUNT : Fld := ⟨0x46064, 0, 32⟩
def Page.SEARCH : Nat := 0x48
def SEARCH.IRQ_RAW_DONE : Fld := ⟨0x48018, 0, 1⟩
def SEARCH.IRQ_RAW_FAILED : Fld := ⟨0x48018, 1, 1⟩
def SEARCH.IRQ_RAW_LIST_HELD : Fld := ⟨0x48018, 2, 1⟩
def SEARCH.IRQ_RAW_SLOT_BAD : Fld := ⟨0x48018, 3, 1⟩
def SEARCH.IRQ_RAW_TREE_CHANGED : Fld := ⟨0x48018, 4, 1⟩
def SEARCH.IRQ_RAW_LATE_MSG : Fld := ⟨0x48018, 5, 1⟩
def SEARCH.CFG_EN : Fld := ⟨0x48040, 0, 1⟩
def SEARCH.CFG_PF_EN : Fld := ⟨0x48040, 10, 1⟩
def SEARCH.CFG_TILES : Fld := ⟨0x48040, 16, 16⟩
def SEARCH.ACTIVE_SLOT : Fld := ⟨0x48044, 0, 1⟩
def SEARCH.STAGE_OFF : Fld := ⟨0x48050, 0, 22⟩
def SEARCH.STAGE_BYTES : Fld := ⟨0x48054, 0, 22⟩
def SEARCH.PF_AGE : Fld := ⟨0x48058, 0, 16⟩
def SEARCH.TREE0_RANK : Fld := ⟨0x48060, 0, 8⟩
def SEARCH.TREE0_DEPTH : Fld := ⟨0x48060, 8, 4⟩
def SEARCH.TREE0_PARENT_QP : Fld := ⟨0x48060, 16, 8⟩
def SEARCH.TREE0_CHILD0_QP : Fld := ⟨0x48060, 24, 8⟩
def SEARCH.TREE1_CHILD1_QP : Fld := ⟨0x48064, 0, 8⟩
def SEARCH.TREE1_HAS_PARENT : Fld := ⟨0x48064, 8, 1⟩
def SEARCH.TREE1_HAS_C0 : Fld := ⟨0x48064, 9, 1⟩
def SEARCH.TREE1_HAS_C1 : Fld := ⟨0x48064, 10, 1⟩
def SEARCH.TREE1_MERGE_CQ : Fld := ⟨0x48064, 16, 2⟩
def SEARCH.TREE1_H : Fld := ⟨0x48064, 24, 8⟩
def SEARCH.INBOX_WIN : Fld := ⟨0x48068, 0, 10⟩
def SEARCH.INBOX_KEY : Fld := ⟨0x4806C, 0, 32⟩
def SEARCH.INBOX_BASE_LO : Fld := ⟨0x48070, 0, 32⟩
def SEARCH.INBOX_BASE_HI : Fld := ⟨0x48074, 0, 1⟩
def SEARCH.QRING_BASE_LO : Fld := ⟨0x48078, 0, 32⟩
def SEARCH.QRING_BASE_HI : Fld := ⟨0x4807C, 0, 1⟩
def SEARCH.QRING_TAIL : Fld := ⟨0x48080, 0, 6⟩
def SEARCH.QRING_HEAD : Fld := ⟨0x48084, 0, 6⟩
def SEARCH.MISSING (i : Nat) : Fld := ⟨0x480A0 + 0x4 * i, 0, 32⟩
def SEARCH.QUERIES : Fld := ⟨0x480C0, 0, 32⟩
def SEARCH.FAILS : Fld := ⟨0x480C4, 0, 32⟩
def SEARCH.HELD : Fld := ⟨0x480C8, 0, 32⟩
def SEARCH.LATE_MSG : Fld := ⟨0x480CC, 0, 32⟩
def SEARCH.PF_HITS : Fld := ⟨0x480D0, 0, 32⟩
def SEARCH.SLOT_BASE_LO (i : Nat) : Fld := ⟨0x48100 + 0x20 * i, 0, 32⟩
def SEARCH.SLOT_BASE_HI (i : Nat) : Fld := ⟨0x48104 + 0x20 * i, 0, 1⟩
def SEARCH.SLOT_STATE_STATE (i : Nat) : Fld := ⟨0x4810C + 0x20 * i, 0, 2⟩
def SEARCH.SLOT_STATE_BAD_CODE (i : Nat) : Fld := ⟨0x4810C + 0x20 * i, 8, 3⟩
def SEARCH.SLOT_VERSION (i : Nat) : Fld := ⟨0x48110 + 0x20 * i, 0, 32⟩
def SEARCH.SLOT_CENT_OFF (i : Nat) : Fld := ⟨0x48114 + 0x20 * i, 0, 22⟩
def Page.HOST : Nat := 0x50
def HOST.STATUS_LINK (p : Nat) : Fld := ⟨0x50014 + 0x1000 * p, 16, 1⟩
def HOST.STATUS_SPEED (p : Nat) : Fld := ⟨0x50014 + 0x1000 * p, 17, 2⟩
def HOST.IRQ_RAW_LINK_CHANGE (p : Nat) : Fld := ⟨0x50018 + 0x1000 * p, 0, 1⟩
def HOST.IRQ_RAW_RX_OVERRUN (p : Nat) : Fld := ⟨0x50018 + 0x1000 * p, 1, 1⟩
def HOST.IRQ_RAW_PTP_RX (p : Nat) : Fld := ⟨0x50018 + 0x1000 * p, 2, 1⟩
def HOST.IRQ_RAW_TS_TX (p : Nat) : Fld := ⟨0x50018 + 0x1000 * p, 3, 1⟩
def HOST.MAC_CTRL_SPEED (p : Nat) : Fld := ⟨0x50040 + 0x1000 * p, 0, 2⟩
def HOST.MAC_CTRL_TX_EN (p : Nat) : Fld := ⟨0x50040 + 0x1000 * p, 4, 1⟩
def HOST.MAC_CTRL_RX_EN (p : Nat) : Fld := ⟨0x50040 + 0x1000 * p, 5, 1⟩
def HOST.IP4 (p : Nat) : Fld := ⟨0x5004C + 0x1000 * p, 0, 32⟩
def HOST.UDP_PORT (p : Nat) : Fld := ⟨0x50050 + 0x1000 * p, 0, 16⟩
def HOST.IP6_LL (p : Nat) (i : Nat) : Fld := ⟨0x50060 + 0x1000 * p + 0x4 * i, 0, 32⟩
def HOST.IP6_G (p : Nat) (i : Nat) : Fld := ⟨0x50070 + 0x1000 * p + 0x4 * i, 0, 32⟩
def HOST.PTP_CTRL_EN (p : Nat) : Fld := ⟨0x50080 + 0x1000 * p, 0, 1⟩
def HOST.TS_TX_SEC_LO (p : Nat) : Fld := ⟨0x50090 + 0x1000 * p, 0, 32⟩
def HOST.TS_TX_SEC_HI (p : Nat) : Fld := ⟨0x50094 + 0x1000 * p, 0, 16⟩
def HOST.TS_TX_NSEC (p : Nat) : Fld := ⟨0x50098 + 0x1000 * p, 0, 30⟩
def HOST.TS_TX_SEQ (p : Nat) : Fld := ⟨0x5009C + 0x1000 * p, 0, 16⟩
def HOST.RXR_BASE_LO (p : Nat) : Fld := ⟨0x500A0 + 0x1000 * p, 0, 32⟩
def HOST.RXR_BASE_HI (p : Nat) : Fld := ⟨0x500A4 + 0x1000 * p, 0, 1⟩
def HOST.RXR_HEAD (p : Nat) : Fld := ⟨0x500A8 + 0x1000 * p, 0, 6⟩
def HOST.RXR_TAIL (p : Nat) : Fld := ⟨0x500AC + 0x1000 * p, 0, 6⟩
def HOST.RX_FRAMES (p : Nat) : Fld := ⟨0x500C0 + 0x1000 * p, 0, 32⟩
def HOST.TX_FRAMES (p : Nat) : Fld := ⟨0x500C4 + 0x1000 * p, 0, 32⟩
def HOST.FCS_ERR (p : Nat) : Fld := ⟨0x500C8 + 0x1000 * p, 0, 32⟩
def HOST.RX_DROP (p : Nat) : Fld := ⟨0x500CC + 0x1000 * p, 0, 32⟩
def HOST.PAUSE_RX (p : Nat) : Fld := ⟨0x500D0 + 0x1000 * p, 0, 32⟩
def Page.CAN : Nat := 0x52
def CAN.STATUS_BUS_STATE (p : Nat) : Fld := ⟨0x52014 + 0x1000 * p, 16, 2⟩
def CAN.IRQ_RAW_HB_SENT (p : Nat) : Fld := ⟨0x52018 + 0x1000 * p, 0, 1⟩
def CAN.IRQ_RAW_HB_SKIPPED (p : Nat) : Fld := ⟨0x52018 + 0x1000 * p, 1, 1⟩
def CAN.IRQ_RAW_SAFE_SENT (p : Nat) : Fld := ⟨0x52018 + 0x1000 * p, 2, 1⟩
def CAN.IRQ_RAW_BUS_OFF (p : Nat) : Fld := ⟨0x52018 + 0x1000 * p, 3, 1⟩
def CAN.IRQ_RAW_ERR_PASSIVE (p : Nat) : Fld := ⟨0x52018 + 0x1000 * p, 4, 1⟩
def CAN.CAN_CTRL_EN (p : Nat) : Fld := ⟨0x52040 + 0x1000 * p, 0, 1⟩
def CAN.CAN_CTRL_FD (p : Nat) : Fld := ⟨0x52040 + 0x1000 * p, 1, 1⟩
def CAN.CAN_CTRL_EXT_ID (p : Nat) : Fld := ⟨0x52040 + 0x1000 * p, 3, 1⟩
def CAN.CAN_CTRL_HB_EN (p : Nat) : Fld := ⟨0x52040 + 0x1000 * p, 4, 1⟩
def CAN.CAN_CTRL_SAFE_EN (p : Nat) : Fld := ⟨0x52040 + 0x1000 * p, 5, 1⟩
def CAN.HB_ID (p : Nat) : Fld := ⟨0x5204C + 0x1000 * p, 0, 29⟩
def CAN.SAFE_ID (p : Nat) : Fld := ⟨0x52050 + 0x1000 * p, 0, 29⟩
def CAN.HB_PERIOD (p : Nat) : Fld := ⟨0x52054 + 0x1000 * p, 0, 24⟩
def CAN.ERR_CNT_TEC (p : Nat) : Fld := ⟨0x5205C + 0x1000 * p, 0, 8⟩
def CAN.ERR_CNT_REC (p : Nat) : Fld := ⟨0x5205C + 0x1000 * p, 8, 8⟩
def CAN.TX_COUNT (p : Nat) : Fld := ⟨0x52060 + 0x1000 * p, 0, 32⟩
def CAN.RX_DISCARD (p : Nat) : Fld := ⟨0x52064 + 0x1000 * p, 0, 32⟩
def CAN.BUSOFF_COUNT (p : Nat) : Fld := ⟨0x52068 + 0x1000 * p, 0, 32⟩
def CAN.HB_SKIPPED (p : Nat) : Fld := ⟨0x5206C + 0x1000 * p, 0, 32⟩
def CAN.HB_COUNT (p : Nat) : Fld := ⟨0x52070 + 0x1000 * p, 0, 16⟩
def Page.CLIENT : Nat := 0x54
def CLIENT.IRQ_RAW_ITEM_BAD : Fld := ⟨0x54018, 0, 1⟩
def CLIENT.IRQ_RAW_OVERRUN_GAP : Fld := ⟨0x54018, 1, 1⟩
def CLIENT.IRQ_RAW_SLOW : Fld := ⟨0x54018, 2, 1⟩
def CLIENT.IRQ_RAW_OPENED : Fld := ⟨0x54018, 3, 1⟩
def CLIENT.CL_CTRL_HOSTREG_EN : Fld := ⟨0x54040, 0, 1⟩
def CLIENT.CL_CTRL_SERVICE : Fld := ⟨0x54040, 1, 1⟩
def CLIENT.WINDOW : Fld := ⟨0x54044, 0, 9⟩
def CLIENT.RESEND_T : Fld := ⟨0x54048, 0, 16⟩
def CLIENT.BUF_KIB : Fld := ⟨0x5404C, 0, 16⟩
def CLIENT.IRING_BASE_LO : Fld := ⟨0x54050, 0, 32⟩
def CLIENT.IRING_BASE_HI : Fld := ⟨0x54054, 0, 1⟩
def CLIENT.IRING_TAIL : Fld := ⟨0x54058, 0, 10⟩
def CLIENT.IRING_HEAD : Fld := ⟨0x5405C, 0, 10⟩
def CLIENT.COMMITTED_F (i : Nat) : Fld := ⟨0x54060 + 0x4 * i, 0, 32⟩
def CLIENT.CL_SEL : Fld := ⟨0x540F0, 0, 6⟩
def CLIENT.RX_BAD : Fld := ⟨0x54100, 0, 32⟩
def CLIENT.RX_UNBOUND : Fld := ⟨0x54104, 0, 32⟩
def CLIENT.RX_FRAG_LOST : Fld := ⟨0x54108, 0, 32⟩
def CLIENT.ITEM_BAD : Fld := ⟨0x5410C, 0, 32⟩
def CLIENT.LATE_ITEMS : Fld := ⟨0x54110, 0, 32⟩
def CLIENT.CROP_CAPPED : Fld := ⟨0x54114, 0, 32⟩
def CLIENT.SLOW_GAPS : Fld := ⟨0x54118, 0, 32⟩
def CLIENT.CFG_EN (s : Nat) : Fld := ⟨0x54400 + 0x100000 * (s + 1), 0, 1⟩
def CLIENT.CFG_MAC (s : Nat) : Fld := ⟨0x54400 + 0x100000 * (s + 1), 7, 1⟩
def CLIENT.CFG_IPV6 (s : Nat) : Fld := ⟨0x54400 + 0x100000 * (s + 1), 8, 1⟩
def CLIENT.CFG_PORT (s : Nat) : Fld := ⟨0x54400 + 0x100000 * (s + 1), 16, 16⟩
def CLIENT.ADDR0 (s : Nat) : Fld := ⟨0x54404 + 0x100000 * (s + 1), 0, 32⟩
def CLIENT.ADDR1 (s : Nat) : Fld := ⟨0x54408 + 0x100000 * (s + 1), 0, 32⟩
def CLIENT.ADDR2 (s : Nat) : Fld := ⟨0x5440C + 0x100000 * (s + 1), 0, 32⟩
def CLIENT.ADDR3 (s : Nat) : Fld := ⟨0x54410 + 0x100000 * (s + 1), 0, 32⟩
def Page.SCHED : Nat := 0x58
def SCHED.IRQ_RAW_MISSED : Fld := ⟨0x58018, 0, 1⟩
def SCHED.IRQ_RAW_TIMEOUT : Fld := ⟨0x58018, 1, 1⟩
def SCHED.IRQ_RAW_OVERRUN : Fld := ⟨0x58018, 2, 1⟩
def SCHED.IRQ_RAW_EARLY_FIRE : Fld := ⟨0x58018, 3, 1⟩
def SCHED.IRQ_RAW_FIRE_LOST : Fld := ⟨0x58018, 4, 1⟩
def SCHED.IRQ_RAW_SWITCHED : Fld := ⟨0x58018, 5, 1⟩
def SCHED.IRQ_RAW_HB_LOST : Fld := ⟨0x58018, 6, 1⟩
def SCHED.IRQ_RAW_JOIN_RX : Fld := ⟨0x58018, 7, 1⟩
def SCHED.IRQ_RAW_KICK_LATE : Fld := ⟨0x58018, 8, 1⟩
def SCHED.SCHED_CTRL_RUN : Fld := ⟨0x58040, 0, 1⟩
def SCHED.SCHED_CTRL_BANK : Fld := ⟨0x58040, 1, 1⟩
def SCHED.SWITCH_AT_LO : Fld := ⟨0x58044, 0, 32⟩
def SCHED.SWITCH_AT_HI : Fld := ⟨0x58048, 0, 32⟩
def SCHED.ENT_SEL_ENTRY : Fld := ⟨0x58050, 0, 10⟩
def SCHED.ENT_SEL_BANK : Fld := ⟨0x58050, 16, 1⟩
def SCHED.MISSED : Fld := ⟨0x58070, 0, 32⟩
def SCHED.TIMEOUTS : Fld := ⟨0x58074, 0, 32⟩
def SCHED.OVERRUNS : Fld := ⟨0x58078, 0, 32⟩
def SCHED.FIRE_LOST : Fld := ⟨0x5807C, 0, 32⟩
def SCHED.EVT_HEAD_NEXT : Fld := ⟨0x58080, 0, 8⟩
def SCHED.EVT_HEAD_OVF : Fld := ⟨0x58080, 16, 16⟩
def SCHED.EVT_SEL : Fld := ⟨0x58084, 0, 8⟩
def SCHED.DL_CTRL_DL_OFFSET : Fld := ⟨0x580A0, 0, 14⟩
def SCHED.DL_CTRL_DIV2 : Fld := ⟨0x580A0, 16, 1⟩
def SCHED.DL_CTRL_PHASE : Fld := ⟨0x580A0, 17, 1⟩
def SCHED.DL_CTRL_EN : Fld := ⟨0x580A0, 31, 1⟩
def SCHED.DL_VIEWS_LO : Fld := ⟨0x580A4, 0, 32⟩
def SCHED.DL_VIEWS_HI : Fld := ⟨0x580A8, 0, 4⟩
def SCHED.HB_CTRL_EN : Fld := ⟨0x580B0, 0, 1⟩
def SCHED.HB_CTRL_HB_MISS : Fld := ⟨0x580B0, 4, 4⟩
def SCHED.HB_STATUS_ALIVE : Fld := ⟨0x580B4, 0, 4⟩
def SCHED.HB_STATUS_LOST : Fld := ⟨0x580B4, 4, 4⟩
def SCHED.JOIN_CTRL_JSTATE : Fld := ⟨0x580C0, 0, 3⟩
def SCHED.FLEET_ID : Fld := ⟨0x580C4, 0, 32⟩
def SCHED.IDS_ERG_IF : Fld := ⟨0x580C8, 0, 16⟩
def SCHED.IDS_PLAN_FMT : Fld := ⟨0x580C8, 16, 16⟩
def SCHED.PLAN_HASH (i : Nat) : Fld := ⟨0x580CC + 0x4 * i, 0, 32⟩
def SCHED.VARIANT_VKIND : Fld := ⟨0x580DC, 0, 2⟩
def SCHED.VARIANT_VARG : Fld := ⟨0x580DC, 8, 8⟩
def SCHED.JOIN_TX (i : Nat) : Fld := ⟨0x580E0 + 0x4 * i, 0, 32⟩
def SCHED.JRX_BASE_LO : Fld := ⟨0x58120, 0, 32⟩
def SCHED.JRX_BASE_HI : Fld := ⟨0x58124, 0, 1⟩
def SCHED.JRX_HEAD : Fld := ⟨0x58128, 0, 6⟩
def SCHED.JRX_TAIL : Fld := ⟨0x5812C, 0, 6⟩
def Page.CORE : Nat := 0x5C
def CORE.IRQ_RAW_MB_REQ : Fld := ⟨0x5C018, 0, 1⟩
def CORE.IRQ_RAW_LOCKSTEP : Fld := ⟨0x5C018, 1, 1⟩
def CORE.IRQ_RAW_WDT : Fld := ⟨0x5C018, 2, 1⟩
def CORE.MB_STATUS_BUSY : Fld := ⟨0x5C04C, 0, 1⟩
def CORE.MB_RESP_STATUS_VALID : Fld := ⟨0x5C054, 0, 1⟩
def CORE.MB_REQ (i : Nat) : Fld := ⟨0x5C100 + 0x4 * i, 0, 32⟩
def CORE.IRQ_ROUTE_CORE_MASK (i : Nat) : Fld := ⟨0x5C200 + 0x4 * i, 0, 4⟩
def CORE.KBUDGET (i : Nat) : Fld := ⟨0x5C600 + 0x10 * i, 0, 32⟩
def CORE.KSPENT (i : Nat) : Fld := ⟨0x5C604 + 0x10 * i, 0, 32⟩
def CORE.MB_RESP (i : Nat) : Fld := ⟨0x5C900 + 0x4 * i, 0, 32⟩
def CORE.LOCKSTEP_ERR : Fld := ⟨0x5CA00, 0, 32⟩
def Page.JOURNAL : Nat := 0x60
def JOURNAL.IRQ_RAW_ACCEPTED : Fld := ⟨0x60018, 0, 1⟩
def JOURNAL.IRQ_RAW_COMMITTED : Fld := ⟨0x60018, 1, 1⟩
def JOURNAL.IRQ_RAW_MIRROR_FAIL : Fld := ⟨0x60018, 2, 1⟩
def JOURNAL.IRQ_RAW_FULL : Fld := ⟨0x60018, 3, 1⟩
def JOURNAL.IRQ_RAW_WARD_DAMAGED : Fld := ⟨0x60018, 4, 1⟩
def JOURNAL.J_CTRL_EN : Fld := ⟨0x60040, 0, 1⟩
def JOURNAL.J_CTRL_MODE : Fld := ⟨0x60040, 1, 1⟩
def JOURNAL.J_CTRL_RECOVERING : Fld := ⟨0x60040, 2, 1⟩
def JOURNAL.BUDDY_NODE : Fld := ⟨0x60044, 0, 8⟩
def JOURNAL.BUDDY_QP : Fld := ⟨0x60044, 8, 8⟩
def JOURNAL.BUDDY_WIN : Fld := ⟨0x60044, 16, 10⟩
def JOURNAL.MIRROR_KEY : Fld := ⟨0x60048, 0, 32⟩
def JOURNAL.MIRROR_T : Fld := ⟨0x6004C, 0, 16⟩
def JOURNAL.J_BASE_LO : Fld := ⟨0x60050, 0, 32⟩
def JOURNAL.J_BASE_HI : Fld := ⟨0x60054, 0, 1⟩
def JOURNAL.WARD_BASE_LO : Fld := ⟨0x60058, 0, 32⟩
def JOURNAL.WARD_BASE_HI : Fld := ⟨0x6005C, 0, 1⟩
def JOURNAL.WARD : Fld := ⟨0x60060, 0, 8⟩
def JOURNAL.FLASH_BASE_LO : Fld := ⟨0x60064, 0, 32⟩
def JOURNAL.FLASH_BASE_HI : Fld := ⟨0x60068, 0, 32⟩
def JOURNAL.RING_HEAD : Fld := ⟨0x6006C, 0, 12⟩
def JOURNAL.RING_TAIL : Fld := ⟨0x6006C, 16, 12⟩
def JOURNAL.JMAX : Fld := ⟨0x60070, 0, 8⟩
def JOURNAL.ACCEPTS : Fld := ⟨0x60080, 0, 32⟩
def JOURNAL.REFUSED_FULL : Fld := ⟨0x60084, 0, 32⟩
def JOURNAL.MIRROR_FAILS : Fld := ⟨0x60088, 0, 32⟩
def JOURNAL.ACCEPT_MAX : Fld := ⟨0x6008C, 0, 16⟩

end Sys2Proof.Machine
end

