-- ==== Sys2Proof/Machine/Blk.lean ====
section
/-! DEFINITION. Machine/Blk.lean: everything of the node but the command queue and the OTP array. -/

namespace Sys2Proof.Machine

/-- What the block has put out, oldest first: the model's own record of outputs (notes/assumptions/3). -/
inductive OutEvent where
  /-- the answer to a register access: agent, page, offset, write, fault cause (0 none), data read -/
  | access (agent : Agent) (page off : Nat) (write : Bool) (cause : Nat) (data : Word)
  /-- the SYNC_OUT pin changed to this level (spec/02 R50) -/
  | syncOut (level : Bool)
  /-- a scratchpad access ended: tile and requester of the port, cause (0 none), data read (spec/07) -/
  | spm (tile req cause : Nat) (data : List Byte)
  /-- a bulk access ended: class, address, cause (0 none), data read (spec/10) -/
  | bulk (cls addr cause : Nat) (data : List Byte)
  /-- a packet leaves through a port, with the sideband of each of its flits (spec/11 R249) -/
  | packet (port : Nat) (p : Packet) (side : List Sideband)
  /-- the PAUSE bits that a port sends in the sideband of every flit slot change (spec/11 R249, R259) -/
  | pause (port bits : Nat)
  /-- an ICP datagram leaves through a MAC (spec/15 R370) -/
  | icp (mac : Nat) (dst : HostAddr) (bytes : List Byte)
  /-- a MAC's responder answers a request (spec/15 R366) -/
  | respond (mac : Nat) (f : EthFrame)
  /-- a PTP message leaves: MSG and SEQ_ID (spec/15 R398) -/
  | ptp (mac msg seqId : Nat)
  /-- a CAN frame leaves: controller, identifier, data (spec/15 R369) -/
  | can (port id : Nat) (bytes : List Byte)
  /-- the answer to a kernel's call: core, call, value (spec/18 R470) -/
  | kernel (core call value : Nat)
  /-- Erg cores interrupted through CORE.IPI, or by the mailbox's completion (spec/18 R463, R467, R473) -/
  | ipi (cores : Nat)
  /-- what the test pads shift out or answer; `none` where the debug gate is closed (spec/19 R493) -/
  | testPads (data : Option Nat)
deriving DecidableEq, Repr

/-- What one unit fixes at manufacture outside the OTP array: its stepping code and its pixel tier code (spec/00 R2, R4). -/
structure UnitCfg where
  stepping : Nat
  tier : Nat
deriving DecidableEq, Repr

/-- The node: registers and everything behind them. -/
structure Blk where
  unit : UnitCfg
  /-- the value in force of every stored register field; an unlisted register holds its reset value -/
  regs : Tbl Word
  /-- pending shadow copies by register key (spec/03 R64) -/
  shadow : Tbl (Option Shadow)
  /-- holding registers of wide reads, by agent code × 256 + page (spec/02 R36) -/
  hold : Tbl Word
  /-- staging registers of wide writes, by agent code × 256 + page (spec/02 R37) -/
  stage : Tbl (Option Word)
  /-- what is kept of each page beside its registers -/
  pages : Tbl PageSt
  /-- write-once registers written since cold reset or power-up, by key (spec/00 R14, LCK) -/
  locked : Tbl Bool
  /-- domains that are ON, bit per index of spec/16 Table 1 -/
  domOn : Nat
  ep : EpochSt
  sen : SenSt
  cam : CamSt
  isp : IspSt
  /-- the tiles T0 to T15 -/
  tiles : List TileSt
  spm : SpmSt
  bulk : BulkSt
  /-- module flash, by byte offset (spec/10 R229) -/
  flash : Tbl Byte
  /-- the mover's channels 0 to 7 -/
  mover : List MoverCh
  /-- the channel the mover served last (spec/10 R225) -/
  moverTurn : Nat
  pack : PackSt
  /-- the ports N, E, S, W -/
  ports : List PortSt
  route : RouteSt
  fab : FabSt
  sched : SchedSt
  fleet : FleetSt
  search : SearchSt
  client : ClientSt
  journal : JournalSt
  /-- CAN0 and CAN1 -/
  cans : List CanSt
  /-- HOST0 and HOST1 -/
  macs : List MacSt
  power : PowerSt
  oasis : OasisSt
  tally : TallySt
  cores : CoreSt
  fuse : FuseSt
  safe : SafeSt
  /-- reports the safety monitor has not taken up yet, oldest first -/
  reports : List SafeReport
  sent : List OutEvent
  /-- how many free values have been drawn (notes/assumptions/2) -/
  fresh : Nat
deriving DecidableEq, Repr

end Sys2Proof.Machine
end

