-- ==== Sys2Proof/Machine/Ops.lean ====
section
/-! DEFINITION. Machine/Ops.lean: the operations every family shares: register fields, the current coordinate and targets
(spec/02 R31 to R33), interrupts, error capture and counters (spec/03 R61, R69, R72), page reset (R63), free values. -/

namespace Sys2Proof.Machine

/-! ### Register keys -/

/-- Page of a register key. -/
def pageOf (key : Nat) : Nat := (key / 4096) % 256

/-- Offset of a register key in its page. -/
def offOf (key : Nat) : Nat := key % 4096

/-- Key of a register. -/
def regKey (page off : Nat) : Nat := page * 4096 + off

/-- A table row holds this offset. -/
def RegRow.covers (r : RegRow) (off : Nat) : Bool :=
  if r.count == 1 then off == r.off
  else r.off ≤ off && (off - r.off) % r.stride == 0 && (off - r.off) / r.stride < r.count

/-- The table row of a register: the page's own row before the common header's (spec/03 R61). -/
def regRow (page off : Nat) : Option RegRow :=
  match (pageRows page).find? (fun r => r.covers off) with
  | some r => some r
  | none => headerRows.find? (fun r => r.covers off)

/-- Reset value of a register key. TILE.CAP0 holds the tile's index besides (spec/07 R174); a register
the spec gives no value reads 0 (notes/assumptions/65). -/
def regReset (key : Nat) : Word :=
  let page := pageOf key
  match regRow page (offOf key) with
  | none => 0
  | some r =>
    if 0x20 ≤ page && page < 0x30 && offOf key == 8 then BitVec.ofNat 32 (r.reset + (page - 0x20))
    else BitVec.ofNat 32 r.reset

/-- The stored word of a register key. -/
def Blk.word (b : Blk) (key : Nat) : Word := Tbl.get regReset b.regs key

/-- The block with a register word stored. -/
def Blk.setWord (b : Blk) (key : Nat) (w : Word) : Blk := { b with regs := Tbl.put regReset b.regs key w }

/-- A field's value. -/
def Blk.get (b : Blk) (f : Fld) : Nat := bitsAt (b.word f.key).toNat f.lo f.w

/-- A one-bit field. -/
def Blk.flag (b : Blk) (f : Fld) : Bool := b.get f != 0

/-- The block with a field set (cut to the field's width). -/
def Blk.set (b : Blk) (f : Fld) (v : Nat) : Blk :=
  b.setWord f.key (BitVec.ofNat 32 (putBits (b.word f.key).toNat f.lo f.w v))

/-- The block with a one-bit field set to 1: a status or interrupt event (spec/03 R69). -/
def Blk.raise (b : Blk) (f : Fld) : Blk := b.set f 1

/-- A counter field, one more, wrapping at its width. -/
def Blk.bump (b : Blk) (f : Fld) : Blk := b.set f (b.get f + 1)

/-- A counter field, one more, saturating at its width. -/
def Blk.bumpSat (b : Blk) (f : Fld) : Blk := b.set f (satInc f.w (b.get f))

/-- A counter field, `n` more, saturating at its width. -/
def Blk.addSat (b : Blk) (f : Fld) (n : Nat) : Blk := b.set f (min (b.get f + n) (2 ^ f.w - 1))

/-! ### Fields of the common header -/

def hdr (page off lo w : Nat) : Fld := ⟨regKey page off, lo, w⟩
def hEn (page : Nat) : Fld := hdr page 0x010 0 1
def hFreeze (page : Nat) : Fld := hdr page 0x010 2 1
def hCrcEn (page : Nat) : Fld := hdr page 0x010 4 1
def hFrozen (page : Nat) : Fld := hdr page 0x014 2 1
def hResetting (page : Nat) : Fld := hdr page 0x014 3 1
def hCrcBad (page : Nat) : Fld := hdr page 0x014 6 1
def hIrq (page bit : Nat) : Fld := hdr page 0x018 bit 1
def hIrqCrc (page : Nat) : Fld := hIrq page 28
def hIrqShdLate (page : Nat) : Fld := hIrq page 29
def hIrqShdApplied (page : Nat) : Fld := hIrq page 30
def hIrqErr (page : Nat) : Fld := hIrq page 31
def hErrCount (page : Nat) : Fld := hdr page 0x02C 0 32
def hLockCfg (page : Nat) : Fld := hdr page 0x030 0 1
def hLockHdr (page : Nat) : Fld := hdr page 0x030 1 1
def hHold (page : Nat) : Fld := hdr page 0x034 0 1
def hLate (page : Nat) : Fld := hdr page 0x034 2 1
def hApplyCount (page : Nat) : Fld := hdr page 0x034 16 16
def hPageCrc (page : Nat) : Fld := hdr page 0x03C 0 32
def hCapValid (page : Nat) : Fld := hdr page 0x024 31 1
def hCapOverflow (page : Nat) : Fld := hdr page 0x024 30 1

/-! ### Domains -/

/-- Index of a page's power domain (spec/03 R56 Table 1 with spec/16 R402 Table 1), `none` for an unassigned page. -/
def domainOf (page : Nat) : Option Nat :=
  if page == 2 || page == 6 || page == 0x0C then some 0
  else if page == 0x08 then some 2
  else if page == 0x10 || page == 0x11 || page == 0x14 || page == 0x15 || page == 0x16 then some 3
  else if 0x20 ≤ page && page < 0x28 then some 4
  else if 0x28 ≤ page && page < 0x30 then some 5
  else if page == 0x38 then some 7
  else if 0x40 ≤ page && page < 0x47 then some 6
  else if page < 6 || (0x30 ≤ page && page < 0x33) || page == 0x48 || (0x50 ≤ page && page < 0x55) ||
      page == 0x58 || page == 0x5C || page == 0x60 then some 1
  else none

/-- The pages of Table 1, ascending. -/
def assignedPages : List Nat := indicesWhere 256 (fun p => (domainOf p).isSome)

/-- A domain is ON. -/
def Blk.domainOn (b : Blk) (d : Nat) : Bool := bitAt b.domOn d

/-- A page's domain is ON (spec/03 R59). -/
def Blk.powered (b : Blk) (page : Nat) : Bool :=
  match domainOf page with
  | some d => b.domainOn d
  | none => false

/-- A block takes new work: powered, enabled, not stopped by FREEZE, not in reset (spec/03 R62). -/
def Blk.active (b : Blk) (page : Nat) : Bool :=
  b.powered page && b.flag (hEn page) && !b.flag (hFrozen page) && !b.flag (hResetting page)

/-- Enabled and not being reset, FREEZE apart. -/
def Blk.enabled (b : Blk) (page : Nat) : Bool := b.powered page && b.flag (hEn page) && !b.flag (hResetting page)

/-! ### Coordinates -/

/-- Frame length of a frame mode (spec/02 R29 Table 1); MODE 3 is not issued and counts as MODE 2. -/
def frameLenOf (mode : Nat) : Nat := if mode == 0 then 2500 else if mode == 1 then 1250 else 10000

/-- The frame mode in force. -/
def Blk.mode (b : Blk) : Nat := b.get EPOCH.FRAME_MODE_MODE

/-- The frame length in force. -/
def Blk.frameLen (b : Blk) : Nat := frameLenOf b.mode

/-- The line period within the frame. -/
def Blk.curL (b : Blk) : Nat := (b.ep.line - b.ep.base).toNat

/-- The current coordinate. -/
def Blk.now (b : Blk) : Coord := ⟨b.ep.frame, b.curL⟩

/-- A coordinate in the 64-bit format (spec/02 R32 Table 2). -/
def coordNat (c : Coord) : Nat := c.l % 16384 + c.f.toNat * 65536

/-- The coordinate a 64-bit value holds. -/
def coordOfNat (n : Nat) : Coord := ⟨BitVec.ofNat 32 (bitsAt n 16 32), bitsAt n 0 14⟩

/-- An L not below the frame length denotes the next frame's L0 (spec/02 R32). -/
def Blk.normal (b : Blk) (c : Coord) : Coord := if c.l < b.frameLen then c else ⟨c.f + 1, 0⟩

/-- Frames from `past` to `next`, signed 32-bit (spec/02 R33). -/
def frameDiff (next past : BitVec 32) : Int := (next - past).toInt

/-- The target coordinate is reached (spec/02 R33). -/
def coordReached (now target : Coord) : Bool :=
  let d := frameDiff target.f now.f
  decide (d < 0) || (decide (d = 0) && decide (target.l ≤ now.l))

/-- The target is reached at the node's current coordinate. -/
def Blk.reached (b : Blk) (target : Coord) : Bool := coordReached b.now (b.normal target)

/-- Line periods from line counter value `from_` until now (mod 2^48). -/
def Blk.linesSince (b : Blk) (from_ : BitVec 48) : Nat := (b.ep.line - from_).toNat

/-- The line counter at L0 of the current frame plus `l`: the line counter value of coordinate F:l of this frame. -/
def Blk.lineAt (b : Blk) (l : Nat) : BitVec 48 := b.ep.base + BitVec.ofNat 48 l

/-- A coordinate `n` line periods after `c`, in the frame length in force. -/
def Blk.coordPlus (b : Blk) (c : Coord) (n : Nat) : Coord :=
  ⟨c.f + BitVec.ofNat 32 ((c.l + n) / b.frameLen), (c.l + n) % b.frameLen⟩

/-! ### Frames of the clients (spec/15 R384) -/

/-- The line that ends the last active row (spec/15 R384). -/
def lastActive (mode : Nat) : Nat := if mode == 0 then 2320 else 1160

/-- The frame a line period counts for (spec/15 R384). -/
def Blk.frameHere (b : Blk) : BitVec 32 := if b.curL < lastActive b.mode then b.ep.frame else b.ep.frame + 1

/-- A context frame that started at `c` is known to belong to a frame from now on. -/
def Blk.markFrame (b : Blk) (view : Nat) (c : Coord) : Blk :=
  { b with client := { b.client with marks := b.client.marks ++ [⟨view, c, b.frameHere⟩] } }

/-- Erg runs. -/
def Blk.ergRuns (b : Blk) : Bool := b.powered Page.SYS && b.get SYS.BOOT_STATUS_PHASE == 3 && !b.power.bulkRet

/-- GAP causes (spec/15 Table 7). -/
def gapIsp : Nat := 1
def gapDropped : Nat := 2
def gapJob : Nat := 3
def gapPoison : Nat := 4
def gapSwitch : Nat := 5
def gapMode : Nat := 6
def gapLate : Nat := 7
def gapSlow : Nat := 8
def gapCap : Nat := 9
def gapSafe : Nat := 10

/-- A context frame yields nothing: Erg owes its GAP (spec/15 R386), which Machine/Client.lean posts. -/
def Blk.oweGap (b : Blk) (view : Nat) (c : Coord) (cause detail : Nat) : Blk :=
  { b with client := { b.client with owed := b.client.owed ++ [⟨view, c, cause, detail⟩] } }

/-- A view's frame is lost: Erg owes the GAP of each of its context frames; the first cause stands. -/
def Blk.loseFrame (b : Blk) (view : Nat) (f : BitVec 32) (cause detail : Nat) : Blk :=
  if b.client.lost.any (fun x => x.view == view && x.frame == f) then b
  else { b with client := { b.client with lost := b.client.lost ++ [⟨view, f, cause, detail⟩] } }

/-! ### Jobs (spec/13 R324) -/

/-- The jobs that run and meet `p` fail with a GAP cause and detail; the first failure of a job stands (spec/12 R299). -/
def Blk.failJobs (b : Blk) (p : Inst → Bool) (why : Nat × Nat) : Blk :=
  { b with sched := { b.sched with insts := b.sched.insts.map (fun i =>
      if i.state == .running && p i then { i with state := .failed, why := why } else i) } }

/-! ### Errors and outputs -/

/-- Code of an agent (spec/03 R73). -/
def agentCode : Agent → Nat
  | .hamada => 0
  | .erg c => 1 + c % 4
  | .mover => 5
  | .hostPath => 6
  | .block => 7
  | .safetyScan => 8
  | .search => 9

/-- Capture words for a cause, an agent and an offset (spec/03 R61 ERR_CAP0). -/
def capWord (cause agent off : Nat) : Nat := cause % 256 + (agent % 16) * 256 + (off % 4096) * 4096 + 2 ^ 31

/-- Error capture (spec/03 R72). -/
def Blk.capture (b : Blk) (page cause agent off : Nat) : Blk :=
  let b := (b.bumpSat (hErrCount page)).raise (hIrqErr page)
  if b.flag (hCapValid page) then b.raise (hCapOverflow page)
  else
    let c := b.now
    (b.setWord (regKey page 0x024) (BitVec.ofNat 32 (capWord cause agent off))).setWord (regKey page 0x028)
      (BitVec.ofNat 32 (c.l % 16384 + (c.f.toNat % 2 ^ 18) * 16384))

/-- Error capture by the block itself (AGENT 7). -/
def Blk.captureOwn (b : Blk) (page cause off : Nat) : Blk := b.capture page cause 7 off

/-- The block puts something out. -/
def Blk.emit (b : Blk) (e : OutEvent) : Blk := { b with sent := b.sent ++ [e] }

/-- Put several things out, in order. -/
def Blk.emitAll (b : Blk) (es : List OutEvent) : Blk := { b with sent := b.sent ++ es }

/-- A free value of `w` bits, and the block with the counter of free values advanced. -/
def Blk.free (b : Blk) (w : Nat) : Nat × Blk :=
  (Config.freeValue b.fresh % 2 ^ w, { b with fresh := b.fresh + 1 })

def noTile : TileSt := ⟨[], [], [], [], false, [], [], List.replicate 32 0, none⟩
def Blk.tile (b : Blk) (t : Nat) : TileSt := nth b.tiles t noTile
def Blk.setTile (b : Blk) (t : Nat) (x : TileSt) : Blk := { b with tiles := setNth b.tiles t x }

/-- The next place of a 256-entry ring: NEXT advances, and past a full ring OVF counts the entry overwritten, saturating
(spec/07 R174, R175). `used` tells whether the place at NEXT holds an entry. -/
def Blk.ringStep (b : Blk) (next ovf : Fld) (used : Bool) : Blk :=
  (if used then b.bumpSat ovf else b).set next ((b.get next + 1) % 256)

/-- An entry written to a tile's error log (spec/07 R174). -/
def Blk.logTile (b : Blk) (t cause req slot : Nat) : Blk :=
  let at_ := b.get (TILE.ELOG_HEAD_NEXT t)
  let x := b.tile t
  let dfl : Nat → ElogEntry := dflt ⟨0, 0, 0, 0, 0⟩
  let used := Tbl.get dfl x.elog at_ != dfl at_
  let e : ElogEntry := ⟨cause, req, slot, coordNat b.now, b.get (TILE.GROUP_STATUS_GROUP t)⟩
  (b.setTile t { x with elog := Tbl.put dfl x.elog at_ e }).ringStep (TILE.ELOG_HEAD_NEXT t) (TILE.ELOG_HEAD_OVF t) used

/-- Every error of a tile's page also goes into its error log (spec/07 R174). REQUESTER and SLOT of one that no port
asked for (an access to the page, its checksum) are free (notes/assumptions/69). -/
def Blk.logPage (b : Blk) (page cause : Nat) : Blk :=
  if 0x20 ≤ page && page < 0x30 then
    let (r, b) := b.free 4
    let (s, b) := b.free 14
    b.logTile (page - 0x20) cause r s
  else b

/-- Error capture whose OFFSET no chapter gives: that field is free (spec/03 R72, notes/assumptions/68). -/
def Blk.captureFree (b : Blk) (page cause agent : Nat) : Blk :=
  let (off, b) := b.free 12
  b.capture page cause agent off

/-- The same by the block itself. -/
def Blk.captureOwnFree (b : Blk) (page cause : Nat) : Blk := b.captureFree page cause 7

/-- `f` applied for each number of a list, in order. -/
def Blk.each {α : Type} (b : Blk) (l : List α) (f : Blk → α → Blk) : Blk := l.foldl f b

/-- `f` when `c` holds, else unchanged. -/
def Blk.when (b : Blk) (c : Bool) (f : Blk → Blk) : Blk := if c then f b else b

/-- The page's interrupt output: a level (spec/03 R69). -/
def Blk.irqOut (b : Blk) (page : Nat) : Bool :=
  (b.word (regKey page 0x018) &&& b.word (regKey page 0x01C)) != 0

/-- A cause is reported to the safety monitor, which takes it up at SAFE_CAUSE_ACTIVE (spec/20 R504). -/
def Blk.report (b : Blk) (cause page : Nat) : Blk :=
  { b with reports := b.reports ++ [⟨cause, page, false, 0xFF⟩] }

/-- What an unlisted page holds beside its registers. -/
def pageDflt : Nat → PageSt := dflt ⟨false, none, none⟩

/-- What is kept of a page. -/
def Blk.pageSt (b : Blk) (page : Nat) : PageSt := Tbl.get pageDflt b.pages page
def Blk.setPageSt (b : Blk) (page : Nat) (p : PageSt) : Blk := { b with pages := Tbl.put pageDflt b.pages page p }

/-- A change to a page as the safety scan counts it (spec/03 R77). -/
def Blk.markChanged (b : Blk) (page : Nat) : Blk := b.setPageSt page { b.pageSt page with changed := true }

/-- A field of the configuration set as the block itself, or Hamada or Erg through it, sets it: a change of the page (spec/03 R77). -/
def Blk.conf (b : Blk) (f : Fld) (v : Nat) : Blk := (b.set f v).markChanged (pageOf f.key)

/-- Copies applied on a page: APPLY_COUNT once a line period, SHD_APPLIED (spec/03 R68), and a change (R77). -/
def Blk.noteApplied (b : Blk) (page : Nat) : Blk :=
  let b := if (b.pageSt page).appliedAt == some b.ep.line then b else b.bump (hApplyCount page)
  let b := b.raise (hIrqShdApplied page)
  b.setPageSt page { b.pageSt page with changed := true, appliedAt := some b.ep.line }

/-! ### Reset of pages -/

/-- The kinds of reset (spec/03 R63 Table 4); a domain's power-up resets as cold. -/
inductive ResetKind where
  | cold | warm | soft
deriving DecidableEq, Repr

/-- Bits of a register that a kind of reset keeps (spec/03 R63 Table 4). -/
def keptMask (kind : ResetKind) (key : Nat) : Nat :=
  match kind, regRow (pageOf key) (offOf key) with
  | .cold, _ => 0
  | _, none => 0
  | .warm, some r => r.kept
  | .soft, some r =>
    if [0x024, 0x028, 0x02C, 0x030, 0x038, 0x03C].contains (offOf key) then 0xFFFFFFFF
    else r.kept

/-- A register word after a reset of a kind. -/
def resetWord (kind : ResetKind) (key : Nat) (w : Word) : Word :=
  let k := BitVec.ofNat 32 (keptMask kind key)
  (w &&& k) ||| (regReset key &&& ~~~k)

/-- The registers of the pages that `p` picks, after a reset of a kind. -/
def Blk.resetRegs (b : Blk) (kind : ResetKind) (p : Nat → Bool) : Blk :=
  let step := fun (t : Tbl Word) (e : Nat × Word) =>
    if p (pageOf e.1) then Tbl.put regReset t e.1 (resetWord kind e.1 e.2) else t
  { b with
    regs := b.regs.foldl step b.regs
    shadow := Tbl.clear b.shadow (fun k => p (pageOf k))
    locked := if kind == .cold then Tbl.clear b.locked (fun k => p (pageOf k)) else b.locked }

end Sys2Proof.Machine
end

