-- ==== Sys2Proof/Machine/Epoch.lean ====
section
/-! DEFINITION. Machine/Epoch.lean: the line epoch (spec/02): counters, frame modes, beats and epoch states, SYNC_IN and
SYNC_OUT, the map to PTP time. -/

namespace Sys2Proof.Machine

/-! ### States and the fleet -/

/-- Epoch state codes (spec/02 R45 Table 4). -/
def stFree : Nat := 0
def stAcquire : Nat := 1
def stLocked : Nat := 2
def stHoldover : Nat := 3
def stMaster : Nat := 4

/-- Page numbers of a port. -/
def portPage (p : Nat) : Nat := Page.XPORT + p

/-- A port has completed link training: TRAINED or OPEN (spec/11 R250 Table 1). -/
def Blk.trained (b : Blk) (p : Nat) : Bool := b.powered (portPage p) && decide (6 ≤ b.get (XPORT.STATUS_LSTATE p))

/-- A port that carries fleet traffic: in TRAINED or OPEN, and no tap port (spec/11 R250, R274). -/
def Blk.fleetPort (b : Blk) (p : Nat) : Bool := b.trained p && !b.flag (XPORT.STATUS_TAP_MODE p)

/-- The port is OPEN. -/
def Blk.portOpen (b : Blk) (p : Nat) : Bool := b.powered (portPage p) && b.get (XPORT.STATUS_LSTATE p) == 7

/-- An OPEN port closed: PORT_CTRL.OPEN 0, state TRAINED (notes/assumptions/13). -/
def Blk.closePort (b : Blk) (p : Nat) : Blk :=
  let b := b.set (XPORT.PORT_CTRL_OPEN p) 0
  if b.get (XPORT.STATUS_LSTATE p) == 7 then b.set (XPORT.STATUS_LSTATE p) 6 else b

/-- The node leaves its fleet: JOINED becomes LEFT and its ports close (spec/13 R330 Table 8, R333). -/
def Blk.leaveFleet (b : Blk) : Blk :=
  if b.get SCHED.JOIN_CTRL_JSTATE == 3 then
    (b.conf SCHED.JOIN_CTRL_JSTATE 4).each [0, 1, 2, 3] Blk.closePort
  else b

/-- The epoch state; FREE while FAB is not ON (spec/16 R406). -/
def Blk.epochState (b : Blk) : Nat := if b.powered Page.XEPOCH then b.get XEPOCH.STATE_STATE else stFree

/-- The line generator acts as the node's own epoch master (spec/16 R406): FAB is not ON, or the node left its fleet at a
power-mode step. -/
def Blk.ownMaster (b : Blk) : Bool := !b.powered Page.XEPOCH || b.ep.ownMaster

/-- The node is its own master (spec/02 R38): alone, or in no fleet with BEAT_EN set, or by spec/16 R406. -/
def Blk.selfMaster (b : Blk) : Bool :=
  b.ownMaster || (b.epochState == stFree &&
    (b.get SCHED.JOIN_CTRL_JSTATE == 0 || (b.get SCHED.JOIN_CTRL_JSTATE != 3 && b.flag XEPOCH.CTRL_BEAT_EN)))

/-- Enter an epoch state (spec/02 R45): STATE with PARENT, DEPTH and MASTER, and the counts of that state. -/
def Blk.setEpoch (b : Blk) (st : Nat) : Blk :=
  let b := b.set XEPOCH.STATE_STATE st
  let b := { b with ep := { b.ep with entered := b.ep.line } }
  if st == stFree then
    let b := ((b.set XEPOCH.STATE_PARENT 0).set XEPOCH.STATE_DEPTH 0xFF).set XEPOCH.STATE_MASTER 0xFF
    { b with ep := { b.ep with missed := 0, aligned := 0 } }
  else if st == stMaster then
    let b := (b.set XEPOCH.STATE_DEPTH 0).set XEPOCH.STATE_MASTER (b.get XROUTE.NODE_ID)
    { b with ep := { b.ep with ownMaster := false } }
  else if st == stHoldover then
    { b with ep := { b.ep with holdLine := b.ep.line, holdLen := b.frameLen, latest := [none, none, none, none] } }
  else
    { b with ep := { b.ep with ownMaster := false, missed := 0 } }

/-- The epoch fault (spec/02 R46): STEP_NEEDED, SCHED groups halted at the next line period, a report to the safety
monitor, the fleet left; then the given state. -/
def Blk.epochFault (b : Blk) (st : Nat) : Blk :=
  let b := b.raise XEPOCH.FAULT_STEP_NEEDED
  let b := { b with ep := { b.ep with haltPending := true } }
  ((b.report 0x0F Page.XEPOCH).leaveFleet).setEpoch st

/-! ### Counters and frame modes -/

/-- The line counter and, past the last line period of the frame, the frame counter advance (spec/02 R31). -/
def Blk.advanceLine (b : Blk) : Blk :=
  let line := b.ep.line + 1
  if b.curL + 1 < b.frameLen then { b with ep := { b.ep with line := line } }
  else { b with ep := { b.ep with line := line, frame := b.ep.frame + 1, base := line, prevLen := b.frameLen } }

/-- At L0 a pending frame-mode change whose target frame is reached takes effect (spec/02 R30, R35 step 2, R47). A copy of
this node's own waits while HOLD is set (notes/assumptions/7). -/
def Blk.applyFrameMode (b : Blk) : Blk :=
  match b.ep.pendMode with
  | none => b
  | some (m, f) =>
    if b.curL == 0 && coordReached b.now ⟨f, 0⟩ && !(b.ep.pendOwn && b.ep.pendSince == b.ep.line) then
      if b.ep.pendOwn && b.flag (hHold Page.EPOCH) then { b with ep := { b.ep with pendLate := true } }
      else
        let own := b.ep.pendOwn
        let late := b.ep.pendLate
        let b := b.set EPOCH.FRAME_MODE_MODE m
        let b := { b with ep := { b.ep with pendMode := none, pendOwn := false, pendLate := false } }
        let b := b.when own (fun b => b.noteApplied Page.EPOCH)
        (b.when late (fun b => (b.raise (hLate Page.EPOCH)).raise (hIrqShdLate Page.EPOCH))).markChanged Page.EPOCH
    else b

/-- A write of EPOCH.FRAME_MODE (spec/02 R30), a field of the configuration set (spec/03 R77); MODE 3 is not issued and is not
taken (notes/assumptions/8). -/
def Blk.writeFrameMode (b : Blk) (v : Nat) : Blk :=
  let m := v % 4
  let b := b.markChanged Page.EPOCH
  if !(b.epochState == stMaster || b.ownMaster) then b.raise EPOCH.STATUS_MODE_IGNORED
  else
    let f := BitVec.ofNat 32 (b.get EPOCH.MODE_AT_F)
    if frameDiff f b.ep.frame < 2 then b.raise EPOCH.STATUS_MODE_LATE
    else if m == 3 then b
    else { b with ep := { b.ep with pendMode := some (m, f), pendOwn := true, pendLate := false, pendSince := b.ep.line } }

/-- A write of EPOCH.MODE_AT_F moves the target of this node's pending copy (spec/03 R67); moved to a frame already reached it
applies at the next L0, the only place a frame mode changes (spec/02 R30; notes/assumptions/74). -/
def Blk.writeModeAtF (b : Blk) (v : Nat) : Blk :=
  let b := (b.set EPOCH.MODE_AT_F v).markChanged Page.EPOCH
  match b.ep.pendMode, b.ep.pendOwn with
  | some (m, _), true => { b with ep := { b.ep with pendMode := some (m, BitVec.ofNat 32 v), pendSince := b.ep.line } }
  | _, _ => b

/-- A write of XEPOCH.CTRL (spec/02 R38, R45): ROLE_MASTER = 1 takes effect in FREE only; cleared in MASTER it returns the
node to FREE. -/
def Blk.writeRole (b : Blk) (v : Nat) : Blk :=
  let was := b.flag XEPOCH.CTRL_ROLE_MASTER
  let want := bitAt v 1
  let st := b.epochState
  let role := if want && st != stFree then was else want
  let b := ((b.set XEPOCH.CTRL_BEAT_EN (bitsAt v 0 1)).set XEPOCH.CTRL_LOSS_LIMIT (bitsAt v 8 8)).set
    XEPOCH.CTRL_ROLE_MASTER (bitNat role)
  let b := b.markChanged Page.XEPOCH
  if want && st == stFree then b.setEpoch stMaster
  else if was && !want && st == stMaster then b.setEpoch stFree
  else b

/-- A write of EPOCH.SYNCIN_CTRL (spec/02 R38): EN = 1 takes effect in MASTER only. -/
def Blk.writeSyncIn (b : Blk) (v : Nat) : Blk :=
  let refused := bitAt v 0 && b.epochState != stMaster
  let b := (b.set EPOCH.SYNCIN_CTRL_EDGE (bitsAt v 1 1)).set EPOCH.SYNCIN_CTRL_MISS_LIMIT (bitsAt v 4 4)
  let b := b.markChanged Page.EPOCH
  if refused then b.raise EPOCH.STATUS_SYNCIN_IGNORED else b.set EPOCH.SYNCIN_CTRL_EN (bitsAt v 0 1)

/-- A write of EPOCH.MAP_CTRL (spec/02 R51): NOW requests a block at the next L0. -/
def Blk.writeMapCtrl (b : Blk) (v : Nat) : Blk :=
  let b := ((b.set EPOCH.MAP_CTRL_DOMAIN (bitsAt v 0 8)).set EPOCH.MAP_CTRL_SRC (bitsAt v 8 1)).set
    EPOCH.MAP_CTRL_PTP_LOCKED (bitsAt v 9 1)
  let b := (b.set EPOCH.MAP_CTRL_PERIOD (bitsAt v 16 16)).markChanged Page.EPOCH
  if bitAt v 10 then { b with ep := { b.ep with mapNow := true } } else b

/-! ### Beats -/

/-- LOSS_LIMIT; 0 acts as 1 (spec/02 R53). -/
def Blk.lossLimit (b : Blk) : Nat := max 1 (b.get XEPOCH.CTRL_LOSS_LIMIT)

/-- The beat of this node's own counters (spec/02 R41 Table 3). -/
def Blk.ownBeat (b : Blk) : Beat :=
  let st := b.epochState
  let self := b.get XROUTE.NODE_ID
  { line := b.ep.line, f := b.ep.frame, l := b.curL
    master := if st == stMaster then self else b.get XEPOCH.STATE_MASTER
    sender := self
    depth := if st == stMaster then 0 else b.get XEPOCH.STATE_DEPTH
    mode := b.mode
    pendMode := match b.ep.pendMode with | some (m, _) => m | none => 0
    pendValid := b.ep.pendMode.isSome
    syncInDriven := if st == stMaster then b.flag EPOCH.SYNCIN_CTRL_EN else b.ep.syncMaster
    inHoldover := st == stHoldover
    modeAtF := match b.ep.pendMode with | some (_, f) => f | none => 0
    seq := b.ep.seq }

/-- A beat is due in this line period (spec/02 R41). -/
def Blk.beatDue (b : Blk) : Bool :=
  let st := b.epochState
  (st == stMaster || st == stLocked || st == stHoldover) && b.active Page.XEPOCH && b.flag XEPOCH.CTRL_BEAT_EN &&
    b.curL % 10 == 0 && b.ep.entered != b.ep.line && b.ep.lastBeat != some b.ep.line

/-- The ports a beat goes out on: every trained port, but a tap port (spec/11 R274) and the parent port of a node that is
not MASTER. -/
def Blk.beatPorts (b : Blk) : List Nat :=
  indicesWhere 4 (fun p => b.fleetPort p &&
    (b.epochState == stMaster || p != b.get XEPOCH.STATE_PARENT))

/-- A port may be a parent port: its delay was not measured out of range, or is overridden (spec/02 R43). -/
def Blk.portFit (b : Blk) (p : Nat) : Bool := !(nth b.ep.delayBad p false) || b.flag (XEPOCH.PORT_DELAY_OVR p)

/-- The ports whose latest beat names the node's master (spec/02 R42). -/
def Blk.parentCandidates (b : Blk) : List (Nat × Nat) :=
  (List.range 4).filterMap (fun p =>
    match nth b.ep.latest p none with
    | some bt => if bt.master == b.get XEPOCH.STATE_MASTER && b.trained p && b.portFit p then some (p, bt.depth) else none
    | none => none)

/-- The parent port: smallest DEPTH, ties in the order N, E, S, W; the own DEPTH is the parent's plus 1. With no port that
qualifies both stay (spec/02 R42). -/
def Blk.selectParent (b : Blk) : Blk :=
  match b.parentCandidates with
  | [] => b
  | c :: cs =>
    let best := cs.foldl (fun a x => if x.2 < a.2 then x else a) c
    (b.set XEPOCH.STATE_PARENT best.1).set XEPOCH.STATE_DEPTH (best.2 + 1)

/-- The coordinate this node gives a line counter value near its own (spec/02 R31). -/
def Blk.coordOfLine (b : Blk) (ln : BitVec 48) : Option Coord :=
  let d : Int := (ln - b.ep.base).toInt
  if 0 ≤ d then
    if d < b.frameLen then some ⟨b.ep.frame, d.toNat⟩
    else if d < 2 * b.frameLen then some ⟨b.ep.frame + 1, d.toNat - b.frameLen⟩ else none
  else if -(b.ep.prevLen : Int) ≤ d then some ⟨b.ep.frame - 1, ((b.ep.prevLen : Int) + d).toNat⟩
  else none

/-- The pending change of the last accepted beat replaces any other (spec/02 R47). -/
def Blk.takePending (b : Blk) (bt : Beat) : Blk :=
  { b with ep := { b.ep with
      pendMode := if bt.pendValid && bt.pendMode != 3 then some (bt.pendMode, bt.modeAtF) else none
      pendOwn := false, pendLate := false, syncMaster := bt.syncInDriven } }

/-- OFFSET: signed 0.1 ns units, saturating (spec/02 R53); the operand is in picoseconds. -/
def Blk.setOffset (b : Blk) (off : Int) : Blk :=
  b.set XEPOCH.OFFSET (twosOf 16 (clampInt (-32767) 32767 (divHalfUp off 100)))

/-- FREE takes the beat's counters, mode and pending change at once and enters ACQUIRE (spec/02 R45). OFFSET, for which the spec
states no value on this beat, becomes 0 (notes/assumptions/75). -/
def Blk.acquireFrom (b : Blk) (port : Nat) (bt : Beat) : Blk :=
  let b := b.set EPOCH.FRAME_MODE_MODE bt.mode
  let b := { b with ep := { b.ep with
      line := bt.line, frame := bt.f, base := bt.line - BitVec.ofNat 48 bt.l, prevLen := frameLenOf bt.mode
      stepped := true, phase := 0, gotBeat := true, missed := 0, aligned := 0 } }
  let b := (b.takePending bt).markChanged Page.EPOCH
  let b := ((b.set XEPOCH.STATE_MASTER bt.master).set XEPOCH.STATE_PARENT port).set XEPOCH.STATE_DEPTH (bt.depth + 1)
  ((b.bump XEPOCH.BEAT_COUNT).setOffset 0).setEpoch stAcquire

/-- A beat from the parent in ACQUIRE, LOCKED or HOLDOVER: offset, correction and the transitions of Table 4 (spec/02 R44,
R45). The new frequency is the spec's to leave open: a free value (notes/assumptions/10). -/
def Blk.followParent (b : Blk) (port : Nat) (bt : Beat) (arrival : Int) : Blk :=
  let off := arrival - (b.get (XEPOCH.PORT_DELAY_DELAY_PS port) : Int)
  let b := ((b.bump XEPOCH.BEAT_COUNT).setOffset off).set XEPOCH.STATE_DEPTH (min 255 (bt.depth + 1))
  let agrees := b.coordOfLine bt.line == some ⟨bt.f, bt.l⟩
  let st := b.epochState
  let correct := fun (b : Blk) =>
    let (v, b) := b.free 32
    { b with ep := { b.ep with freq := signedOf 32 v } }
  if bt.l == 0 && agrees && bt.mode != b.mode then (b.raise XEPOCH.FAULT_MODE_MISMATCH).epochFault stFree
  else if st == stAcquire then
    if !agrees then b.setEpoch stFree
    else
      let n := if off.natAbs ≤ 1200 then b.ep.aligned + 1 else 0
      let b := correct ((b.takePending bt))
      let b := { b with ep := { b.ep with aligned := n, phase := 0, gotBeat := b.ep.gotBeat || !bt.inHoldover } }
      if 100 ≤ n then b.setEpoch stLocked else b
  else if !agrees || 500000 < off.natAbs then b.epochFault stFree
  else
    let b := correct (b.takePending bt)
    let b := { b with ep := { b.ep with phase := off, gotBeat := true } }
    if st == stHoldover then b.setEpoch stLocked else b

/-- BEAT_RECEIVE (spec/02 R42, R44, R45; notes/assumptions/9 and 15): `arrival` is the beat's arrival time less the node's own time of
the sender's line period, in picoseconds. A node that acts as its own master after a power-mode step takes no beat (spec/16 R409). -/
def Blk.beatReceive (b : Blk) (port : Nat) (bt : Beat) (arrival : Int) : Blk :=
  let st := b.epochState
  if !b.active Page.XEPOCH || b.ep.ownMaster || !b.fleetPort port || 4 ≤ port || 254 < bt.depth || bt.mode == 3 ||
      frameLenOf bt.mode ≤ bt.l then b
  else if st == stMaster then
    if bt.syncInDriven && b.flag EPOCH.SYNCIN_CTRL_EN && bt.master < b.get XROUTE.NODE_ID then
      let b := (b.raise XEPOCH.FAULT_SYNCIN_CONFLICT).epochFault stAcquire
      let b := (b.set XEPOCH.STATE_MASTER bt.master).set XEPOCH.STATE_PARENT port
      b.set XEPOCH.STATE_DEPTH (bt.depth + 1)
    else b
  else if st == stHoldover && bt.inHoldover then b
  else
    let b := { b with ep := { b.ep with latest := setNth b.ep.latest port (some bt) } }
    if st == stFree then
      if !bt.inHoldover && b.portFit port then b.acquireFrom port bt else b
    else
      let b :=
        if st == stHoldover && bt.master != b.get XEPOCH.STATE_MASTER && b.portFit port then
          (b.set XEPOCH.STATE_MASTER bt.master).set XEPOCH.STATE_PARENT port
        else b.selectParent
      if port != b.get XEPOCH.STATE_PARENT then b
      else if st == stLocked && bt.inHoldover then (b.bump XEPOCH.BEAT_COUNT).setEpoch stHoldover
      else b.followParent port bt arrival

/-- At the end of a line period in which a beat was due, a follower counts it as missed or not (spec/02 R45). -/
def Blk.countBeat (b : Blk) : Blk :=
  let st := b.epochState
  if b.curL % 10 == 1 && (st == stAcquire || st == stLocked || st == stHoldover) && b.active Page.XEPOCH then
    let b := b.selectParent
    { b with ep := { b.ep with missed := if b.ep.gotBeat then 0 else b.ep.missed + 1, gotBeat := false } }
  else b

/-- BEAT_LOSS_LIMIT (spec/02 R45): LOSS_LIMIT missed beats. -/
def Blk.beatLoss (b : Blk) : Blk :=
  let st := b.epochState
  if (st == stAcquire || st == stLocked) && b.lossLimit ≤ b.ep.missed then
    (b.raise XEPOCH.FAULT_BEAT_LOST).setEpoch (if st == stAcquire then stFree else stHoldover)
  else b

/-- The backup number of this node, the lowest k with BACKUPk its node number (spec/02 R47). -/
def Blk.backupIndex (b : Blk) : Option Nat :=
  (List.range 4).find? (fun k =>
    let v := bitsAt (b.word 0x46048).toNat (8 * k) 8
    v != 0xFF && v == b.get XROUTE.NODE_ID)

/-- BACKUP_TAKEOVER (spec/02 R47). -/
def Blk.backupTakeover (b : Blk) : Blk :=
  match b.backupIndex with
  | some k => if b.epochState == stHoldover && (k + 2) * b.lossLimit ≤ b.ep.missed then b.setEpoch stMaster else b
  | none => b

/-- The holdover has outlasted HOLD_LIMIT frames (spec/02 R45). -/
def Blk.holdExpired (b : Blk) : Bool :=
  b.epochState == stHoldover && decide (b.get EPOCH.HOLD_CTRL_HOLD_LIMIT * b.ep.holdLen < b.linesSince b.ep.holdLine)

/-- HOLDOVER_LIMIT_EXPIRY (spec/02 R45). -/
def Blk.holdoverLimit (b : Blk) : Blk := if b.holdExpired then b.epochFault stFree else b

/-! ### The generator's own work in a line period -/

/-- The generator runs on the LP source: SYS is off (spec/02 R48). -/
def Blk.onLp (b : Blk) : Bool := !b.powered Page.SYS

/-- A line period may pass: not in OFF (spec/02 R31); on LP, once the accumulator has reached 32,768 (spec/02 R48). -/
def Blk.linePasses (b : Blk) : Bool := b.powered Page.EPOCH && (!b.onLp || decide (32768 ≤ b.ep.lpAcc))

/-- Phase error after one line period of slewing: at most 1 ns nearer to 0 (spec/02 R40, R44). -/
def slewed (phase : Int) : Int := phase - clampInt (-1000) 1000 phase

/-- The SYNC_IN edge of this frame is counted as missed once it can no longer come (spec/02 R40): in the second line period
the edge's 2 µs are past; the count for the next edge opens in mid-frame (notes/assumptions/16). -/
def Blk.countEdge (b : Blk) : Blk :=
  if b.flag EPOCH.SYNCIN_CTRL_EN && b.epochState == stMaster then
    if b.curL == 1 && !b.ep.syncSeen then
      { b with ep := { b.ep with syncMissed := b.ep.syncMissed + 1, syncSeen := true } }
    else if b.curL == b.frameLen / 2 then { b with ep := { b.ep with syncSeen := false } }
    else b
  else b

/-- SYNC_IN_EDGE (spec/02 R40): SYNCIN_CTRL.EDGE picks one kind of edge. -/
def Blk.syncInEdge (b : Blk) (edge : SyncEdge) : Blk :=
  if !(b.active Page.EPOCH && b.powered Page.SYS && b.flag EPOCH.SYNCIN_CTRL_EN && b.epochState == stMaster) ||
      edge.falling != b.flag EPOCH.SYNCIN_CTRL_EDGE then b
  else if 2000 < edge.err.natAbs then
    if b.ep.syncSeen then b
    else { b with ep := { b.ep with syncMissed := b.ep.syncMissed + 1, syncSeen := true } }
  else
    let b := (b.set EPOCH.SYNCIN_STATUS_PHASE (twosOf 16 edge.err)).set EPOCH.SYNCIN_STATUS_LOCKED 1
    { b with ep := { b.ep with syncMissed := 0, syncSeen := true, phase := edge.err * 1000 } }

/-- SYNC_IN_LOST (spec/02 R40). -/
def Blk.syncInLost (b : Blk) : Blk :=
  if b.flag EPOCH.SYNCIN_CTRL_EN && b.epochState == stMaster &&
      decide (max 1 (b.get EPOCH.SYNCIN_CTRL_MISS_LIMIT) ≤ b.ep.syncMissed) then
    (b.raise EPOCH.SYNCIN_STATUS_LOST).set EPOCH.SYNCIN_STATUS_LOCKED 0
  else b

/-- Level of the SYNC_OUT pin: POL selects active-high or active-low (spec/02 R50). -/
def Blk.syncOutLevel (b : Blk) : Bool := b.powered Page.SYS && b.ep.pulse.isSome != b.flag EPOCH.SYNCOUT_CTRL_POL

/-- The pulse of frame F starts at F:L; an L not below the frame length denotes (F+1):L0 (spec/02 R32, R50). -/
def Blk.pulseDue (b : Blk) : Bool :=
  let l := b.get EPOCH.SYNCOUT_AT_L
  let div := b.get EPOCH.SYNCOUT_CTRL_DIV_M1 + 1
  (b.curL == l && b.ep.frame.toNat % div == 0) ||
    (b.curL == 0 && decide (b.ep.prevLen ≤ l) && (b.ep.frame - 1).toNat % div == 0)

/-- SYNC_OUT_PULSE_START (spec/02 R50). -/
def Blk.syncOutStart (b : Blk) : Blk :=
  if b.active Page.EPOCH && b.powered Page.SYS && b.flag EPOCH.SYNCOUT_CTRL_EN && b.pulseDue && b.ep.pulse != some b.ep.line then
    let b := { b with ep := { b.ep with pulse := some b.ep.line } }
    b.emit (.syncOut b.syncOutLevel)
  else b

/-- The pulse in progress has ended: WIDTH line periods (0 acts as 1), or the next L0, at which a frame-mode change also
falls (spec/02 R50, R52). -/
def Blk.pulseOver (b : Blk) : Bool :=
  match b.ep.pulse with
  | none => false
  | some at_ => decide (max 1 (b.get EPOCH.SYNCOUT_CTRL_WIDTH) ≤ b.linesSince at_) || (b.curL == 0 && at_ != b.ep.line)

/-- SYNC_OUT_PULSE_END (spec/02 R50). -/
def Blk.syncOutEnd (b : Blk) : Blk :=
  if b.pulseOver then
    let b := { b with ep := { b.ep with pulse := none } }
    b.emit (.syncOut b.syncOutLevel)
  else b

/-! ### The map block -/

/-- A map block is due (spec/02 R51). F mod PERIOD has no value for PERIOD 0: no periodic block is then built (notes/assumptions/76). -/
def Blk.mapDue (b : Blk) : Bool :=
  let per := b.get EPOCH.MAP_CTRL_PERIOD
  b.curL == 0 && (b.ep.mapNow || (per != 0 && b.ep.frame.toNat % per == 0)) &&
    match b.ep.mapPrev with | some m => m.line != b.ep.line | none => true

/-- The 40 bytes of the map block (spec/02 R51 Table 5). -/
def mapBytes (b : Blk) (t : PtpTime) (valid : Bool) (period : Nat) : List Byte :=
  natLe 4 b.ep.frame.toNat ++ natLe 2 0 ++ natLe 1 (b.mode + b.epochState * 4) ++
  natLe 1 (bitNat valid + bitNat (b.flag EPOCH.MAP_CTRL_PTP_LOCKED) * 2 + bitNat b.ep.stepped * 4) ++
  natLe 6 b.ep.line.toNat ++ natLe 1 (b.get EPOCH.MAP_CTRL_DOMAIN) ++ natLe 1 0 ++
  natLe 6 t.sec ++ natLe 2 0 ++ natLe 4 t.nsec ++ natLe 4 0 ++ natLe 8 period

/-- PERIOD: measured line period in ns × 2^32 since the previous block, to the nearest (spec/02 R51, R28). -/
def mapPeriod (lines : Nat) (past now : PtpTime) : Nat :=
  let ns : Int := ((now.sec : Int) - past.sec) * 1000000000 + ((now.nsec : Int) - past.nsec)
  (divHalfUp (ns * 2 ^ 32) (max lines 1)).toNat

/-- MAP_BLOCK_BUILD (spec/02 R51): `t` is the sampled PTP time of the MAC that MAP_CTRL.SRC names. With no previous sample
PERIOD has no stated value: a free value (notes/assumptions/11). -/
def Blk.mapBuild (b : Blk) (t : PtpTime) : Blk :=
  if b.mapDue then
    let dom := b.get EPOCH.MAP_CTRL_DOMAIN
    let src := b.get EPOCH.MAP_CTRL_SRC
    let (valid, period, b) :=
      match b.ep.mapPrev with
      | some m => (m.domain == dom && m.src == src, mapPeriod (b.linesSince m.line) m.time t, b)
      | none => let (v, b) := b.free 64; (false, v, b)
    let bytes := mapBytes b t valid period
    let b := b.each (List.range 10) (fun b i => b.set (EPOCH.MAP i) (leAt bytes (4 * i) 4))
    { b with ep := { b.ep with mapPrev := some ⟨b.ep.line, t, dom, src⟩, mapNow := false, stepped := false } }
  else b

end Sys2Proof.Machine
end

