-- ==== Sys2Proof/Machine/Pages.lean ====
section
/-! DEFINITION. Machine/Pages.lean: register pages (spec/03): who may touch a page, shadow copies and their application,
plain stores, wide pairs, freeze and soft reset, the configuration checksum and the safety scan. -/

namespace Sys2Proof.Machine

/-! ### Access rules -/

/-- Access classes (spec/03 R57 Table 2). -/
inductive PageClass where
  | e | hr | h | s
deriving DecidableEq, Repr

/-- Class of an assigned page (spec/03 R56 Table 1). -/
def classOf (page : Nat) : PageClass :=
  if page == 0 || page == 4 || page == 5 || page == 6 then .hr
  else if page == 3 then .h
  else if page == 0x5C then .s
  else .e

/-- The Erg cores that IRQ_ROUTEp names; a mask of 0 acts as 0001b (spec/18 R467). -/
def Blk.irqCores (b : Blk) (page : Nat) : Nat := let m := b.get (CORE.IRQ_ROUTE_CORE_MASK page); if m == 0 then 1 else m

/-- The interrupt level at an Erg core: the output of some class E page whose route names the core (spec/03 R71, spec/18 R467). -/
def Blk.ergIrq (b : Blk) (core : Nat) : Bool :=
  assignedPages.any (fun p => classOf p == .e && b.powered p && b.irqOut p && bitAt (b.irqCores p) core)

/-- The interrupt level at Hamada: the output of some page of class HR, H or S (spec/03 R71). -/
def Blk.hamadaIrq (b : Blk) : Bool := assignedPages.any (fun p => classOf p != .e && b.powered p && b.irqOut p)

/-- PHASE code of MAINTENANCE (spec/18 R454 Table 5). -/
def Blk.inMaintenance (b : Blk) : Bool := b.get SYS.BOOT_STATUS_PHASE == 4

/-- The class lets the agent make the access (spec/03 R57, R74, R78, R79). -/
def Blk.classAllows (b : Blk) (a : Agent) (page off : Nat) (write : Bool) : Bool :=
  let erg : Bool :=
    match classOf page with
    | .e => true
    | .hr => !write
    | .h => false
    | .s => !write || (0x040 ≤ off && off ≤ 0x7FF)
  match a with
  | .hamada => true
  | .safetyScan => !write
  | .hostPath => erg && (!write || (classOf page == .e && off != 0x030 && b.flag CLIENT.CL_CTRL_HOSTREG_EN && !b.inMaintenance))
  | _ => erg && !(write && off == 0x030)

/-- LOCK lets the agent make the write (spec/03 R74). -/
def Blk.lockAllows (b : Blk) (a : Agent) (page off v : Nat) : Bool :=
  a == .hamada ||
    (!(b.flag (hLockCfg page) && (0x040 ≤ off || (off == 0x010 && bitAt v 1))) &&
     !(b.flag (hLockHdr page) && (off == 0x010 || off == 0x020 || off == 0x034 || off == 0x03C)))

/-- Common cause codes (spec/03 R73 Table 5). -/
def causeUnmapped : Nat := 0xF0
def causePriv : Nat := 0xF1
def causeLocked : Nat := 0xF2
def causeWidth : Nat := 0xF3
def causePower : Nat := 0xF4
def causeBusy : Nat := 0xF5
def causeCrc : Nat := 0xF6

/-- The fault of an access, 0 when it is none: the checks in the order of notes/assumptions/12 (spec/03 R54 to R59, R62,
R74). `word` is false for a byte, halfword, unaligned or burst access. -/
def Blk.accessCause (b : Blk) (a : Agent) (page off : Nat) (word write : Bool) (v : Nat) : Nat :=
  if (domainOf page).isNone then causeUnmapped
  else if !b.powered page then causePower
  else if !word || off % 4 != 0 then causeWidth
  else if !b.classAllows a page off write then causePriv
  else if write && !b.lockAllows a page off v then causeLocked
  else if 0x040 ≤ off && b.flag (hResetting page) then causeBusy
  else 0

/-- Capture of a faulting access (spec/03 R54, R58, R59, R72): in the page, or for UNMAPPED and POWER in SYS, which counts
it and holds the first in XCAP (spec/18 R472). With SYS off nothing records it
(notes/assumptions/17). -/
def Blk.accessFault (b : Blk) (a : Agent) (page off cause : Nat) : Blk :=
  if cause == causeUnmapped || cause == causePower then
    if b.powered Page.SYS then
      let b := (b.bumpSat (hErrCount Page.SYS)).raise (hIrqErr Page.SYS)
      if b.get SYS.XCAP0_CAUSE != 0 then b
      else
        let c := b.now
        let b := ((b.set SYS.XCAP0_CAUSE cause).set SYS.XCAP0_AGENT (agentCode a)).set SYS.XCAP0_PAGE page
        ((b.set SYS.XCAP0_OFFSET off).set SYS.XCAP1_L c.l).set SYS.XCAP1_F c.f.toNat
    else b
  else (b.capture page cause (agentCode a) off).logPage page cause

/-- A guarded write: a fault has no effect but its capture (spec/03 R58); else `f` takes effect. The agent's answer goes
out either way. -/
def Blk.guarded (b : Blk) (a : Agent) (page off : Nat) (word : Bool) (v : Nat) (f : Blk → Blk) : Blk :=
  let cause := b.accessCause a page off word true v
  let b := if cause == 0 then f b else b.accessFault a page off cause
  b.emit (.access a page off true cause 0)

/-! ### Plain stores and shadow copies -/

/-- Copies that no register names. -/
def noShadow : Nat → Option Shadow := dflt none

/-- The pending copy of a register. -/
def Blk.copyOf (b : Blk) (key : Nat) : Option Shadow := Tbl.get noShadow b.shadow key

/-- A word after a write under a row's masks: RW bits take the value, W1C bits clear where 1 is written (spec/00 R14). -/
def maskedWrite (r : RegRow) (old v : Word) : Word :=
  let rw := BitVec.ofNat 32 r.rw
  let clr := BitVec.ofNat 32 r.w1c &&& v
  ((old &&& ~~~rw) ||| (v &&& rw)) &&& ~~~clr

/-- A write of a register under its table row: a shadowed register takes a copy, any other takes effect at once (spec/03
R55, R60, R64). A register no table defines ignores it. -/
def Blk.storeKey (b : Blk) (key : Nat) (v : Word) : Blk :=
  match regRow (pageOf key) (offOf key) with
  | none => b
  | some r =>
    let b := if r.inCrc then b.markChanged (pageOf key) else b
    if r.shadow == .none then b.setWord key (maskedWrite r (b.word key) v)
    else
      let w := v &&& BitVec.ofNat 32 r.rw
      { b with shadow := Tbl.put noShadow b.shadow key (some ⟨w, false, b.ep.line⟩) }

/-- A pending copy takes effect. -/
def Blk.applyKey (b : Blk) (key : Nat) : Blk :=
  match b.copyOf key with
  | none => b
  | some s =>
    let b := b.setWord key s.value
    let b := { b with shadow := Tbl.put noShadow b.shadow key none }
    let b := b.noteApplied (pageOf key)
    b.when s.late (fun b => (b.raise (hLate (pageOf key))).raise (hIrqShdLate (pageOf key)))

/-- The context that owns an SHF register, `none` for L0 of each frame (spec/04 R89, spec/05 R119, spec/06 R123). -/
def shfOwner (key : Nat) : Option Nat :=
  let off := offOf key
  if pageOf key == Page.CROUTE && 0x080 ≤ off && off < 0x480 then some (4 + (off - 0x080) / 0x20)
  else if pageOf key == Page.ISP && 0x400 ≤ off then some ((off - 0x400) / 0x40)
  else none

/-- A key's register is SHF. -/
def isShf (key : Nat) : Bool :=
  match regRow (pageOf key) (offOf key) with | some r => r.shadow == .shf | none => false

/-- A key's register is SHL. -/
def isShl (key : Nat) : Bool :=
  match regRow (pageOf key) (offOf key) with | some r => r.shadow == .shl | none => false

/-- The coordinate of an SHL register: SWITCH_AT of its page (spec/13 R321, R322, spec/14 R354, R363). -/
def Blk.shlTarget (b : Blk) (key : Nat) : Coord :=
  let (lo, hi) := if pageOf key == Page.SCHED then (0x58044, 0x58048) else (0x48048, 0x4804C)
  coordOfNat ((b.word lo).toNat + (b.word hi).toNat * 2 ^ 32)

/-- An SHL copy is due: written before this line period, its coordinate reached (spec/03 R65, R67). -/
def Blk.shlDue (b : Blk) (key : Nat) : Bool :=
  match b.copyOf key with
  | some s => isShl key && s.since != b.ep.line && b.reached (b.shlTarget key)
  | none => false

/-- The coordinate registers of SHL copies (spec/03 R67): EPOCH.MODE_AT_F, SCHED.SWITCH_AT, SEARCH.SWITCH_AT. -/
def isShlCoord (page off : Nat) : Bool :=
  (page == Page.EPOCH && off == 0x054) || (page == Page.SCHED && (off == 0x044 || off == 0x048)) ||
    (page == Page.SEARCH && (off == 0x048 || off == 0x04C))

/-- The application point of a page's pending SHL copies moves, by a write of their coordinate (spec/03 R67) or the release of
HOLD (R68): none applies before the next line period. -/
def Blk.touchShl (b : Blk) (page : Nat) : Blk :=
  b.each ((b.shadow.map (fun e => e.1)).filter (fun k => pageOf k == page && isShl k)) (fun b k =>
    match b.copyOf k with
    | some s => { b with shadow := Tbl.put noShadow b.shadow k (some { s with since := b.ep.line }) }
    | none => b)

/-- Keys with a pending copy. -/
def Blk.pendingKeys (b : Blk) : List Nat := b.shadow.map (fun e => e.1)

/-- The SHL copies that apply at this line period's start, and the copies HOLD defers marked late (spec/03 R67, R68). -/
def Blk.shlKeys (b : Blk) : List Nat :=
  b.pendingKeys.filter (fun k => b.shlDue k && !b.flag (hHold (pageOf k)))
def Blk.markHeldShl (b : Blk) : Blk :=
  b.each (b.pendingKeys.filter (fun k => b.shlDue k && b.flag (hHold (pageOf k)))) (fun b k =>
    match b.copyOf k with
    | some s => { b with shadow := Tbl.put noShadow b.shadow k (some { s with late := true }) }
    | none => b)

/-- A ROUTE copy that names a (port, VC) in force on another context stays pending (spec/05 R109). -/
def Blk.routeBusy (b : Blk) (key : Nat) : Bool :=
  match b.copyOf key with
  | some s =>
    let c := (offOf key - 0x080) / 0x20
    let v := s.value.toNat
    bitAt v 31 && (List.range 32).any (fun j => j != c && b.flag (CROUTE.ROUTE_EN j) &&
      b.get (CROUTE.ROUTE_PORT j) == bitsAt v 0 1 && b.get (CROUTE.ROUTE_VC j) == bitsAt v 4 4)
  | none => false

/-- A key is a context's ROUTE register. -/
def isRoute (key : Nat) : Bool :=
  pageOf key == Page.CROUTE && 0x080 ≤ offOf key && offOf key < 0x480 && (offOf key - 0x080) % 0x20 == 0

/-- A copy was written before this line period (spec/03 R65). -/
def Blk.copyAged (b : Blk) (key : Nat) : Bool :=
  match b.copyOf key with | some s => s.since != b.ep.line | none => false

/-- The SHF copies of an owner apply at its frame start (spec/03 R65, R66, R68), but for a ROUTE that waits for its source
(spec/05 R109). -/
def Blk.applyShf (b : Blk) (owner : Option Nat) : Blk :=
  let keys := b.pendingKeys.filter (fun k => isShf k && b.copyAged k && shfOwner k == owner && !b.flag (hHold (pageOf k)))
  b.each keys (fun b k =>
    if isRoute k then
      let j := (offOf k - 0x080) / 0x20
      if b.routeBusy k then (b.set (CROUTE.STATE_SRC_WAIT j) 1).raise CROUTE.IRQ_RAW_SRC_WAIT
      else
        let b := (b.applyKey k).set (CROUTE.STATE_SRC_WAIT j) 0
        { b with cam := { b.cam with ctx := b.cam.ctx.modify j (fun c => { c with routeNew := true }) } }
    else b.applyKey k)

/-- Any copy of the page is pending (STATUS.SHADOW_PENDING). -/
def Blk.shadowPending (b : Blk) (page : Nat) : Bool :=
  b.pendingKeys.any (fun k => pageOf k == page) || (page == Page.EPOCH && b.ep.pendOwn)

/-- DISCARD drops every pending copy of the page (spec/03 R68). -/
def Blk.discard (b : Blk) (page : Nat) : Blk :=
  let b := { b with shadow := Tbl.clear b.shadow (fun k => pageOf k == page) }
  if page == Page.EPOCH && b.ep.pendOwn then
    { b with ep := { b.ep with pendMode := none, pendOwn := false, pendLate := false } }
  else b

/-! ### Header registers -/

/-- HOLD is cleared: what it deferred applies from the next line period on (spec/03 R68). -/
def Blk.releaseHold (b : Blk) (page : Nat) : Blk :=
  let b := b.touchShl page
  b.when (page == Page.EPOCH) (fun b => { b with ep := { b.ep with pendSince := b.ep.line } })

/-- A write of SHADOW_CTRL (spec/03 R68). -/
def Blk.writeShadowCtrl (b : Blk) (page v : Nat) : Blk :=
  let b := b.when (b.flag (hHold page) && !bitAt v 0) (fun b => b.releaseHold page)
  let b := b.set (hHold page) (bitsAt v 0 1)
  let b := if bitAt v 2 then b.set (hLate page) 0 else b
  if bitAt v 1 then b.discard page else b

/-- A write of IRQ_RAW: bits written 1 clear (spec/03 R69). -/
def Blk.writeIrqRaw (b : Blk) (page : Nat) (v : Word) : Blk :=
  b.setWord (regKey page 0x018) (b.word (regKey page 0x018) &&& ~~~v)

/-- The IRQ_RAW bits a page defines (spec/03 R61, spec/00 R15). -/
def irqDefined (page : Nat) : Word :=
  match regRow page 0x018 with
  | some r => if (pageRows page).any (fun x => x.off == 0x018) then BitVec.ofNat 32 r.w1c else 0xF0000000
  | none => 0

/-- What an IRQ_RAW bit tells the safety monitor, if anything: a cause (spec/20 R504 Table 2), 0 for what it only logs (spec/11 R274),
4 for a tile its self-check condemns (spec/20 R510). -/
def irqCause (page bit : Nat) : Option Nat :=
  if bit == 28 then some 0x05
  else if page == Page.ISP && bit == (ISP.IRQ_RAW_TABLE_ECC).lo then some 0x06
  else if page == Page.SAFE && bit == (SAFE.IRQ_RAW_CLOCK).lo then some 0x08
  else if page == Page.SAFE && bit == (SAFE.IRQ_RAW_ERG_SILENT).lo then some 0x0D
  else if page == Page.BULK && bit == 6 then some 0x07
  else if page == Page.CORE && bit == 1 then some 0x09
  else if page == Page.OASIS && bit == 5 then some 0x0A
  else if page == Page.PWR && bit == 2 then some 0x0B
  else if page == Page.SCHED && bit == 2 then some 0x0E
  else if 0x40 ≤ page && page < 0x44 && bit == 7 then some 0x10
  else if 0x40 ≤ page && page < 0x44 && bit == 8 then some 0x00
  else if 0x20 ≤ page && page < 0x30 && bit == 8 then some 0x04
  else none

/-- A write of IRQ_FORCE: sets the bits, acts at the safety monitor as the events would, and nothing else (spec/03 R70). -/
def Blk.writeIrqForce (b : Blk) (page : Nat) (v : Word) : Blk :=
  let v := v &&& irqDefined page
  let b := b.setWord (regKey page 0x018) (b.word (regKey page 0x018) ||| v)
  let causes := (List.range 32).filterMap (fun i => if v.getLsbD i then irqCause page i else none)
  { b with reports := b.reports ++ causes.map (fun c => ⟨c, page, true, if c == 0x04 then page - 0x20 else 0xFF⟩) }

/-- A write of ERR_CAP0: 1 to VALID clears both capture words (spec/03 R72). -/
def Blk.writeErrCap (b : Blk) (page : Nat) (v : Word) : Blk :=
  if v.getLsbD 31 then (b.setWord (regKey page 0x024) 0).setWord (regKey page 0x028) 0 else b

/-- A write of LOCK by Hamada: the first one after cold reset or power-up takes effect (spec/03 R74, spec/00 R14). -/
def Blk.writeLock (b : Blk) (page : Nat) (v : Word) : Blk :=
  let key := regKey page 0x030
  if Tbl.get (dflt false) b.locked key then b
  else
    let b := { b with locked := Tbl.put (dflt false) b.locked key true }
    (b.setWord key (v &&& 3)).markChanged page

/-! ### Wide pairs -/

/-- The low word of a wide register stands at this offset (spec/02 R36). -/
def isWideLow (page off : Nat) : Bool :=
  wideRows.any (fun r => r.page ≤ page && page < r.page + r.pages &&
    (if r.count == 1 then off == r.off
     else r.off ≤ off && (off - r.off) % r.stride == 0 && (off - r.off) / r.stride < r.count))

/-- The high word of a wide register stands at this offset. -/
def isWideHigh (page off : Nat) : Bool := 4 ≤ off && isWideLow page (off - 4)

/-- Key of an agent's holding or staging register for a page (spec/02 R36, R37). -/
def agentPage (a : Agent) (page : Nat) : Nat := agentCode a * 256 + page

/-! ### Configuration checksum -/

/-- The offsets of a row. -/
def RegRow.offsets (r : RegRow) : List Nat := (List.range r.count).map (fun i => r.off + i * r.stride)

/-- Sorted insertion of numbered words. -/
def insertWord (e : Nat × Word) : List (Nat × Word) → List (Nat × Word)
  | [] => [e]
  | x :: xs => if e.1 ≤ x.1 then e :: x :: xs else x :: insertWord e xs

/-- The word a register contributes: its pending copy, or the value in force, RW fields only (spec/03 R76). -/
def Blk.crcWord (b : Blk) (key : Nat) (r : RegRow) : Word :=
  let v := match b.copyOf key with | some s => s.value | none => b.word key
  let v := if key == regKey Page.EPOCH 0x050 then
      match b.ep.pendMode, b.ep.pendOwn with | some (m, _), true => BitVec.ofNat 32 m | _, _ => v
    else v
  v &&& BitVec.ofNat 32 r.rw

/-- The configuration set's words by offset (spec/03 R76); CLIENT's 64 client blocks count as if at 1000h + 40h × k after
every other register of the page, whatever CL_SEL holds (spec/15 R400). -/
def Blk.configWords (b : Blk) (page : Nat) : List (Nat × Word) :=
  let rows := (headerRows ++ pageRows page).filter (fun r => r.inCrc)
  let plain := rows.filter (fun r => !(page == Page.CLIENT && 0x400 ≤ r.off))
  let ws := plain.flatMap (fun r => r.offsets.map (fun o => (o, b.crcWord (regKey page o) r)))
  let blocks := if page == Page.CLIENT then
      (List.range 64).flatMap (fun k => (rows.filter (fun r => 0x400 ≤ r.off)).map (fun r =>
        (0x1000 + 0x40 * k + (r.off - 0x400), b.crcWord (regKey page r.off + 0x100000 * (k + 1)) r)))
    else []
  (ws ++ blocks).foldl (fun acc e => insertWord e acc) []

/-- The configuration checksum of a page (spec/03 R76). -/
def Blk.pageChecksum (b : Blk) (page : Nat) : Word :=
  crc32c ((b.configWords page).flatMap (fun e => natLe 4 e.2.toNat))

/-- CRC_SCAN_VISIT (spec/03 R77): the scan's visit to a page with CTRL.CRC_EN set; SAFE counts it in SCAN_STATUS (spec/20
R519), a pass ending at the last page of the round. The same mismatch is the same computed checksum, and a first visit with no
change recorded confirms (notes/assumptions/77). -/
def Blk.scanVisit (b : Blk) (page : Nat) : Blk :=
  if b.powered page && b.flag (hCrcEn page) && b.powered Page.SAFE then
    let sum := b.pageChecksum page
    let st := b.pageSt page
    let last := b.get SAFE.SCAN_STATUS_LAST_PAGE
    let b := if page ≤ last then b.bump SAFE.SCAN_STATUS_PASSES else b
    let b := b.set SAFE.SCAN_STATUS_LAST_PAGE page
    if sum == BitVec.ofNat 32 (b.get (hPageCrc page)) then
      (b.set (hCrcBad page) 0).setPageSt page { st with changed := false, mismatch := none }
    else
      let confirmed := !st.changed || st.mismatch == some sum
      let b := b.setPageSt page { b.pageSt page with changed := false, mismatch := some sum }
      if confirmed then
        let b := (b.raise (hCrcBad page)).raise (hIrqCrc page)
        ((b.captureFree page causeCrc 8).logPage page causeCrc).report 0x05 page
      else b
  else b

end Sys2Proof.Machine
end

