-- ==== Sys2Proof/Machine/Tiles.lean ====
section
/-! DEFINITION. Machine/Tiles.lean: tiles and scratchpad (spec/07): addresses, tags, waits and the stall watchdog, codes and
poison, compare-and-count, tile states. -/

namespace Sys2Proof.Machine

/-! ### Addresses and keys -/

/-- Bytes of one tile's scratchpad (spec/07 R147). -/
def spmBytes : Nat := 0x300000

def byteKey (t a : Nat) : Nat := t * 0x400000 + a
def slotKey (t s : Nat) : Nat := t * 0x4000 + s
def lineKey (t l : Nat) : Nat := t * 0x20000 + l

/-- Page of a tile. -/
def tilePage (t : Nat) : Nat := 0x20 + t

/-- Block cause codes of a TILE page (spec/07, The TILE page). -/
def tcTimeout : Nat := 0x01
def tcPoison : Nat := 0x02
def tcNoNeighbour : Nat := 0x03
def tcMappedOut : Nat := 0x04
def tcAlign : Nat := 0x05
def tcRange : Nat := 0x06
def tcCcErr : Nat := 0x07
def tcSelfCheck : Nat := 0x08
def tcCancelled : Nat := 0x09
/-- GROUP_HALTED and SOFT_RESET have no code in the register tables; these numbers stand in outputs only. -/
def tcGroupHalted : Nat := 0xE0
def tcSoftReset : Nat := 0xE1

/-- Neighbour of a tile in direction D: 0 N, 1 E, 2 S, 3 W (spec/07 R146). -/
def neighbour (t d : Nat) : Option Nat :=
  if d == 0 then (if 4 ≤ t then some (t - 4) else none)
  else if d == 1 then (if t % 4 < 3 then some (t + 1) else none)
  else if d == 2 then (if t < 12 then some (t + 4) else none)
  else if 0 < t % 4 then some (t - 1) else none

/-- The tile state (spec/07 R172 Table 9). -/
def tsIdle : Nat := 0
def tsRun : Nat := 1
def tsHalted : Nat := 2
def tsMappedOut : Nat := 3
def Blk.tstate (b : Blk) (t : Nat) : Nat := b.get (TILE.STATUS_TSTATE t)

/-- Where an access of a port lands: the target tile and its local address, or a cause (spec/07 R148, R150). -/
def Blk.spmTarget (b : Blk) (t addr : Nat) : Nat × Nat × Nat :=
  if addr < spmBytes then (0, t, addr)
  else if addr < 0x04000000 || 0x08000000 ≤ addr then (tcRange, t, 0)
  else
    let d := (addr - 0x04000000) / 0x01000000
    let a := addr % 0x01000000
    if spmBytes ≤ a then (tcRange, t, 0)
    else match neighbour t d with
      | none => (tcNoNeighbour, t, 0)
      | some n =>
        if !b.powered (tilePage n) then (causePower, n, a)
        else if b.tstate n == tsMappedOut then (tcMappedOut, n, a)
        else (0, n, a)

/-- Requester code at the target: the side from which a neighbour's access arrives (spec/07 R149, R150). -/
def arrivalReq (t target req : Nat) : Nat :=
  if t == target then req
  else if target + 4 == t then 6
  else if target == t + 4 then 4
  else if target + 1 == t then 5
  else 7

/-- Size and alignment of an access (spec/07 R148). -/
def spmShape (addr size : Nat) : Bool := (size == 4 || size == 8 || size == 16 || size == 32) && addr % size == 0

/-! ### Granules in re-initialisation -/

/-- The granule that holds an address is being re-initialised (spec/07 R163). -/
def Blk.inInit (b : Blk) (t addr : Nat) : Bool := bitAt (Tbl.get (dflt 0) b.spm.init t) (addr / 0x10000)

/-- The granules of a tile in re-initialisation, as a mask. -/
def Blk.setInit (b : Blk) (t mask : Nat) : Blk := { b with spm := { b.spm with init := Tbl.put (dflt 0) b.spm.init t mask } }

/-- A granule's re-initialisation begins (spec/07 R163). -/
def Blk.startInit (b : Blk) (t g : Nat) : Blk := b.setInit t (putBits (Tbl.get (dflt 0) b.spm.init t) g 1 1)

/-- INIT_PENDING (spec/07 R163). -/
def Blk.initPending (b : Blk) (t : Nat) : Nat := ((List.range 48).filter (fun g => b.inInit t (g * 0x10000))).length

/-- Zero lines, EMPTY tags, no poison: the state of a granule after re-initialisation (spec/07 R163). -/
def Blk.wipeGranule (b : Blk) (t g : Nat) : Blk :=
  let inB := fun k => k / 0x10000 == (byteKey t (g * 0x10000)) / 0x10000
  let inS := fun k => k / 256 == (slotKey t (g * 256)) / 256
  let inL := fun k => k / 2048 == (lineKey t (g * 2048)) / 2048
  { b with spm := { b.spm with
      bytes := Tbl.clear b.spm.bytes inB, full := Tbl.clear b.spm.full inS, vote := Tbl.clear b.spm.vote inS
      poison := Tbl.clear b.spm.poison inL, flips := Tbl.clear b.spm.flips inL } }

/-! ### Tags -/

def Blk.isFull (b : Blk) (t slot : Nat) : Bool := Tbl.get (dflt false) b.spm.full (slotKey t slot)
def Blk.putTag (b : Blk) (t slot : Nat) (v : Bool) : Blk :=
  { b with spm := { b.spm with full := Tbl.put (dflt false) b.spm.full (slotKey t slot) v } }

/-- The tag as a requester finds it that waits for a granule in re-initialisation, whose tags are EMPTY then (spec/07 R163). -/
def Blk.foundFull (b : Blk) (t slot : Nat) : Bool := b.isFull t slot && !b.inInit t (slot * 256)

/-- The tag condition of an access holds (spec/07 R153); WAIT_FULL binds reads, WAIT_EMPTY writes. -/
def Blk.tagMet (b : Blk) (t slot : Nat) (a : SpmAccess) : Bool :=
  match a.check with
  | .none => true
  | .waitFull => a.data.isSome || b.isFull t slot
  | .waitEmpty => a.data.isNone || !b.isFull t slot

/-- What an access that cannot go on waits for. -/
def waitKindOf (a : SpmAccess) : WaitKind :=
  match a.data.isSome, a.check with
  | true, .waitEmpty => .writeEmpty
  | true, _ => .writeInit
  | false, .waitFull => .readFull
  | false, _ => .readInit

/-- The condition of a wait at a tile holds now (spec/07 R153, R163). -/
def Blk.waitCond (b : Blk) (t : Nat) (w : Wait) : Bool :=
  match w.access with
  | some a => !b.inInit t (w.slot * 256) && b.tagMet t w.slot a
  | none =>
    match w.kind with
    | .readFull => b.foundFull t w.slot
    | .writeEmpty => !b.foundFull t w.slot
    | _ => !b.inInit t (w.slot * 256)

/-- The waits at a tile whose condition holds are met: they go on, whatever the tag does next (spec/07 R156). -/
def Blk.markMet (b : Blk) (t : Nat) : Blk :=
  let ws := (b.tile t).waits
  if ws.isEmpty then b
  else b.setTile t { b.tile t with waits := ws.map (fun w => { w with met := w.met || b.waitCond t w }) }

/-- A re-initialisation completes (spec/07 R163). -/
def Blk.finishInit (b : Blk) (t g : Nat) : Blk :=
  if b.inInit t (g * 0x10000) then
    ((b.wipeGranule t g).setInit t (putBits (Tbl.get (dflt 0) b.spm.init t) g 1 0)).markMet t
  else b

/-- The disagreeing copy of a tag: 1 to 3, 0 for none. -/
def Blk.tagDiff (b : Blk) (t slot : Nat) : Nat := Tbl.get (dflt 0) b.spm.vote (slotKey t slot)
def Blk.setTagDiff (b : Blk) (t slot k : Nat) : Blk :=
  { b with spm := { b.spm with vote := Tbl.put (dflt 0) b.spm.vote (slotKey t slot) k } }

/-- A tag is read: a disagreeing copy is corrected and counted (spec/07 R157). -/
def Blk.tagVote (b : Blk) (t slot : Nat) : Blk :=
  if b.tagDiff t slot == 0 then b
  else ((b.setTagDiff t slot 0).bumpSat (SPM.TAG_VOTE t)).raise SPM.IRQ_RAW_TAG_VOTE
def Blk.tagVotes (b : Blk) (t : Nat) (slots : List Nat) : Blk := b.each slots (fun b s => b.tagVote t s)

/-- A copy of a tag changes by itself: against the other two it is outvoted, and with a second one it outvotes the third
(spec/07 R157). -/
def Blk.strikeTag (b : Blk) (t slot copy : Nat) : Blk :=
  let k := b.tagDiff t slot
  if k == 0 then b.setTagDiff t slot (copy + 1)
  else if k == copy + 1 then b.setTagDiff t slot 0
  else ((b.setTagDiff t slot (5 - k - copy)).putTag t slot (!b.isFull t slot)).markMet t

/-- A tag set, once the granule's re-initialisation is over; a tag already so is counted as redundant (spec/07 R155). -/
def Blk.setTag (b : Blk) (t slot : Nat) (v : Bool) : Blk :=
  let b := (b.finishInit t (slot / 256)).tagVote t slot
  if b.isFull t slot == v then (b.bumpSat (TILE.TAG_REDUNDANT t)).raise (TILE.IRQ_RAW_TAG_REDUNDANT t)
  else (b.putTag t slot v).markMet t

/-- A tag set on each of several slots, in order. -/
def Blk.setTags (b : Blk) (t : Nat) (slots : List Nat) (v : Bool) : Blk := b.each slots (fun b s => b.setTag t s v)

/-- Slots from `first`, `n` of them. -/
def slotRange (first n : Nat) : List Nat := (List.range n).map (fun i => first + i)

/-- Slots that `n` bytes take (spec/07 R147). -/
def slotsOf (n : Nat) : Nat := ceilDiv n 256

/-- Units of `size` bytes that [a, a + n) touches. -/
def spanOf (size a n : Nat) : List Nat := if n == 0 then [] else slotRange (a / size) ((a + n - 1) / size - a / size + 1)

/-! ### Poison and errors -/

/-- Attribute of a granule: 0 ACT, 1 WEIGHT (spec/07 R162). -/
def Blk.attr (b : Blk) (t g : Nat) : Nat :=
  bitsAt (b.word (0x30100 + 0x10 * t + 4 * (g / 16))).toNat (2 * (g % 16)) 2

def Blk.isPoisoned (b : Blk) (t line : Nat) : Bool := Tbl.get (dflt false) b.spm.poison (lineKey t line)
def Blk.setPoison (b : Blk) (t line : Nat) (v : Bool) : Blk :=
  { b with spm := { b.spm with poison := Tbl.put (dflt false) b.spm.poison (lineKey t line) v } }
/-- The stored bits of a line that are wrong. -/
def Blk.lineFlips (b : Blk) (t line : Nat) : List Nat := Tbl.get (dflt []) b.spm.flips (lineKey t line)
def Blk.setFlips (b : Blk) (t line : Nat) (l : List Nat) : Blk :=
  { b with spm := { b.spm with flips := Tbl.put (dflt []) b.spm.flips (lineKey t line) l } }
/-- A stored bit of a line changes by itself. -/
def Blk.strikeLine (b : Blk) (t line bit : Nat) : Blk := b.setFlips t line (toggleBit (b.lineFlips t line) bit)

/-- An error the tile detects: captured with the requester, and logged (spec/07, The TILE page). -/
def Blk.tileError (b : Blk) (t cause req slot : Nat) : Blk :=
  (b.captureOwn (tilePage t) cause req).logTile t cause req slot

/-- A poison log entry (spec/07 R165, R175). -/
def Blk.logPoison (b : Blk) (t line finder : Nat) : Blk :=
  let at_ := b.get SPM.POISON_HEAD_NEXT
  let used := (Tbl.get (dflt none) b.spm.plog at_).isSome
  let c := b.now
  let e : PoisonEntry := ⟨t, line, b.attr t (line / 2048), !b.isFull t (line / 8), finder, c.l, c.f.toNat % 2 ^ 18⟩
  { b with spm := { b.spm with plog := Tbl.put (dflt none) b.spm.plog at_ (some e) } }.ringStep
    SPM.POISON_HEAD_NEXT SPM.POISON_HEAD_OVF used

/-- A line found uncorrectable is poisoned, logged and counted (spec/07 R165). -/
def Blk.poisonLine (b : Blk) (t line finder : Nat) : Blk :=
  let b := (b.setPoison t line true).setFlips t line []
  let b := ((b.logPoison t line finder).bumpSat (SPM.ECC_UE t)).raise SPM.IRQ_RAW_UE_POISON
  b.captureOwnFree Page.SPM 0x01

/-- A correctable error: corrected, written back and counted (spec/07 R165). -/
def Blk.correctLine (b : Blk) (t line : Nat) : Blk :=
  ((b.setFlips t line []).bumpSat (SPM.ECC_CE t)).raise SPM.IRQ_RAW_CE

/-! ### Reading and writing -/

def Blk.spmByte (b : Blk) (t a : Nat) : Byte := Tbl.get (dflt 0) b.spm.bytes (byteKey t a)
def Blk.spmGet (b : Blk) (t a n : Nat) : List Byte := Tbl.getMany (dflt 0) b.spm.bytes (byteKey t a) n
def Blk.spmPut (b : Blk) (t a : Nat) (bs : List Byte) : Blk :=
  { b with spm := { b.spm with bytes := Tbl.putMany (dflt 0) b.spm.bytes (byteKey t a) bs } }

/-- How many of a line's wrong bits lie in 64-bit word `w` or its 8 check bits (spec/07 R162 Table 5, ACT). -/
def flipsIn (l : List Nat) (w : Nat) : Nat :=
  (l.filter (fun k => if k < 256 then k / 64 == w else (k - 256) / 8 == w)).length

/-- What a code that corrects `c` and detects `d` wrong bits makes of `n`: 0 none, 1 correctable, 2 uncorrectable, 3 beyond it. -/
def codeFinding (c d n : Nat) : Nat := if n == 0 then 0 else if n ≤ c then 1 else if n ≤ d then 2 else 3

/-- The finding of a line's code (spec/07 R162 Table 5): DEC-TED over a WEIGHT line and its 20 check bits, SECDED over each
64-bit word of an ACT line. -/
def Blk.lineFinding (b : Blk) (t line : Nat) : Nat :=
  let l := b.lineFlips t line
  if b.attr t (line / 2048) == 1 then codeFinding 2 3 (l.filter (· < 276)).length
  else ((List.range 4).map (fun w => codeFinding 1 2 (flipsIn l w))).foldl max 0

/-- A line's code is evaluated: 0 clean, 1 corrected, 2 uncorrectable. What it makes of more wrong bits than it detects is
open, and so are the data then (notes/assumptions/89). -/
def Blk.lineFound (b : Blk) (t line : Nat) : Nat × Blk :=
  let f := b.lineFinding t line
  if f != 3 then (f, b)
  else
    let (v, b) := b.free 2
    if 2 ≤ v then (2, b)
    else
      let (d, b) := b.free 256
      (v, (b.setFlips t line []).spmPut t (line * 32) (natLe 32 d))

/-- A line is read by a requester: true when its data can be used (spec/07 R165, R166). -/
def Blk.lineCheck (b : Blk) (t line req : Nat) : Bool × Blk :=
  if b.isPoisoned t line then (false, b)
  else
    let (e, b) := b.lineFound t line
    if e == 0 then (true, b)
    else if e == 1 then (true, b.correctLine t line)
    else (false, b.poisonLine t line req)

/-- The lines that [a, a + n) touches. -/
def linesOf (a n : Nat) : List Nat := spanOf 32 a n

/-- An access waits for the granules it touches that are being re-initialised: it is made after them (spec/07 R163,
notes/assumptions/90). -/
def Blk.initFirst (b : Blk) (t a n : Nat) : Blk := b.each (spanOf 0x10000 a n) (fun b g => b.finishInit t g)

/-- Lines read in order by a requester, as far as the first that cannot be used. -/
def Blk.linesCheck (b : Blk) (t req : Nat) (lines : List Nat) : Bool × Blk :=
  lines.foldl (fun (st : Bool × Blk) line => if st.1 then st.2.lineCheck t line req else st) (true, b)

/-- A read of bytes by a requester, line by line: the cause (0 or POISON) and the bytes (spec/07 R165). -/
def Blk.spmRead (b : Blk) (t a n req : Nat) : Nat × List Byte × Blk :=
  let (ok, b) := (b.initFirst t a n).linesCheck t req (linesOf a n)
  if ok then (0, b.spmGet t a n, b) else (tcPoison, [], b)

/-- A write of bytes by a requester (spec/07 R166): whole lines clear poison; a narrower write to a poisoned or
uncorrectable line is not made. The first line that fails ends it. -/
def Blk.spmWrite (b : Blk) (t a : Nat) (bs : List Byte) (req : Nat) : Nat × Blk :=
  (linesOf a bs.length).foldl (fun (st : Nat × Blk) line =>
    if st.1 != 0 then st
    else
      let lo := max a (line * 32)
      let hi := min (a + bs.length) (line * 32 + 32)
      let part := (bs.drop (lo - a)).take (hi - lo)
      if hi - lo == 32 then (0, ((st.2.setPoison t line false).setFlips t line []).spmPut t lo part)
      else
        let (ok, b) := st.2.lineCheck t line req
        if ok then (0, b.spmPut t lo part) else (tcPoison, b)) (0, b.initFirst t a bs.length)

/-- Bytes the result port writes enter a canary or walk signature (spec/20 R507). -/
def Blk.canaryBytes (b : Blk) (t : Nat) (bs : List Byte) : Blk :=
  match (b.tile t).canary with
  | some c => b.setTile t { b.tile t with canary := some (crc32cRun c bs) }
  | none => b

/-! ### Groups -/

/-- Every access a group has pending, waiting or held back, ends with a cause (spec/07 R159, R172). -/
def Blk.endGroupWaits (b : Blk) (t cause : Nat) : Blk :=
  let mine : Wait → Bool := fun w => w.src == t && w.port ≤ 3
  let ended := (b.tiles.flatMap (fun x => x.waits.filter mine)).map (fun w => w.port) ++ (b.tile t).held.map (fun a => a.req)
  let b := { b with tiles := b.tiles.map (fun (x : TileSt) => { x with waits := x.waits.filter (fun w => !mine w) }) }
  let b := b.setTile t { b.tile t with held := [] }
  b.emitAll (ended.map (fun p => OutEvent.spm t p cause []))

/-- The group's own engines stop, its signature is dropped (spec/08 R192, spec/20 R507). -/
def Blk.stopEngines (b : Blk) (t : Nat) : Blk :=
  b.setTile t { b.tile t with matrix := [], vector := [], canary := none }

/-- STATE and QUEUED of CC_STATUS, CC_BUSY (spec/07 R174). -/
def Blk.ccShow (b : Blk) (t : Nat) : Blk :=
  let n := (b.tile t).cc.length
  ((b.set (TILE.CC_STATUS_STATE t) (bitNat (n != 0))).set (TILE.CC_STATUS_QUEUED t) (n - 1)).set
    (TILE.STATUS_CC_BUSY t) (bitNat (n != 0))

/-- Compare-and-count descriptors leave the unit with FAULT: those of `gone`; what each met is said once, by their cause
(spec/07 R171, notes/assumptions/91). -/
def Blk.ccFault (b : Blk) (t : Nat) (gone : CcJob → Bool) : Blk :=
  let x := b.tile t
  if x.cc.any gone then
    let head := (x.cc.take 1).any gone
    let waits := x.waits.filter (fun w => !(head && w.src == t && w.port == 11))
    let b := b.setTile t { x with cc := x.cc.filter (fun j => !gone j), waits := waits }
    ((b.ccShow t).set (TILE.CC_STATUS_LAST_ERR t) 5).raise (TILE.IRQ_RAW_CC_ERR t)
  else b

/-- The job whose group runs on a tile fails (spec/13 R324). -/
def Blk.failTile (b : Blk) (t : Nat) (why : Nat × Nat) : Blk :=
  b.failJobs (fun i => bitAt i.mask t && !bitAt i.done t && i.group == b.get (TILE.GROUP_STATUS_GROUP t)) why

/-- GROUP_HALT (spec/07 R159, R172): a running group halts with a cause, and its job fails. -/
def Blk.haltGroup (b : Blk) (t cause : Nat) : Blk :=
  if b.tstate t == tsRun then
    let b := b.failTile t (gapJob, cause)
    let b := ((b.set (TILE.STATUS_TSTATE t) tsHalted).raise (TILE.IRQ_RAW_GROUP_HALTED t)).set
      (TILE.GROUP_STATUS_HALT_CAUSE t) cause
    ((b.endGroupWaits t tcGroupHalted).stopEngines t).ccFault t (fun j => j.byGroup)
  else b

/-- A port's access ends with a cause: the requesting tile records it and, for a port of a group, halts (spec/07 R159, R165,
R172). A poisoned activation line, which the weight port does not read, loses its frame as such (R168). POISON was logged where the line lies; a neighbour fault sets NEIGHBOUR_FAULT. -/
def Blk.portFault (b : Blk) (t req cause slot : Nat) : Blk :=
  let b := b.tileError t cause req slot
  let b := if cause == tcPoison then b.raise (TILE.IRQ_RAW_POISON t) else b
  let b := if cause == tcNoNeighbour || cause == tcMappedOut || cause == causePower then
      b.raise (TILE.IRQ_RAW_NEIGHBOUR_FAULT t) else b
  let b := b.emit (.spm t req cause [])
  let b := b.when (cause == tcPoison && 1 ≤ req && req ≤ 3 && b.tstate t == tsRun) (fun b => b.failTile t (gapPoison, 0))
  if req ≤ 3 then b.haltGroup t cause else b

/-! ### Accesses -/

/-- The access made: line, data, after action (spec/07 R153, R165, R166). -/
def Blk.doAccess (b : Blk) (a : SpmAccess) (t addr : Nat) : Blk :=
  let slot := addr / 256
  let req := arrivalReq a.tile t a.req
  match a.data with
  | none =>
    let (c, bs, b) := b.spmRead t addr a.size req
    if c == 0 then
      let b := b.emit (.spm a.tile a.req 0 bs)
      if a.after == .setEmpty then b.setTag t slot false else b
    else b.portFault a.tile a.req tcPoison slot
  | some bs =>
    let (cause, b) := b.spmWrite t addr (bs.take a.size) req
    if cause == 0 then
      let b := if a.req == 2 then b.canaryBytes a.tile (bs.take a.size) else b
      let b := b.emit (.spm a.tile a.req 0 [])
      if a.after == .setFull then b.setTag t slot true else b
    else b.portFault a.tile a.req cause slot

/-- An access of a tile's port waits, at some tile (spec/07 R152). -/
def Blk.portWaits (b : Blk) (t port : Nat) : Bool :=
  b.tiles.any (fun x => x.waits.any (fun w => w.src == t && w.port == port && w.req ≤ 7))

/-- An earlier access of the same port still waits or is held back (spec/07 R152). -/
def Blk.portBusy (b : Blk) (t port : Nat) : Bool := b.portWaits t port || (b.tile t).held.any (fun a => a.req == port)

/-- A wait added at a tile. -/
def Blk.addWait (b : Blk) (t : Nat) (w : Wait) : Blk :=
  b.setTile t { b.tile t with waits := (b.tile t).waits ++ [w] }

/-- An access at the head of its port: its target, its shape, its tag, then it waits or is made (spec/07 R148 to R153). -/
def Blk.issue (b : Blk) (a : SpmAccess) : Blk :=
  let (cause, t, addr) := b.spmTarget a.tile a.addr
  let slot := addr / 256
  if cause != 0 then b.portFault a.tile a.req cause slot
  else if !spmShape addr a.size then b.portFault a.tile a.req tcAlign slot
  else
    let b := if a.check == .none then b else b.tagVote t slot
    if b.inInit t addr || !b.tagMet t slot a then
      b.addWait t ⟨a.tile, a.req, arrivalReq a.tile t a.req, slot, waitKindOf a, b.ep.line, false, some a⟩
    else b.doAccess a t addr

/-- Accesses of a port held back are issued in order, as far as the first that waits (spec/07 R152). -/
def Blk.issueHeld : Nat → Blk → Nat → Nat → Blk
  | 0, b, _, _ => b
  | fuel + 1, b, t, port =>
    if b.portWaits t port then b
    else match (b.tile t).held.find? (fun a => a.req == port) with
      | none => b
      | some a => Blk.issueHeld fuel ((b.setTile t { b.tile t with held := (b.tile t).held.erase a }).issue a) t port

/-- What a port of a tile holds back goes on. -/
def Blk.portGoesOn (b : Blk) (t port : Nat) : Blk := Blk.issueHeld (b.tile t).held.length b t port

/-- SPM_ACCESS (spec/07 R148 to R153): a port of a running group makes an access, behind the earlier ones of the port. -/
def Blk.spmAccess (b : Blk) (a : SpmAccess) : Blk :=
  if !(a.tile < 16 && b.active (tilePage a.tile) && b.tstate a.tile == tsRun) then b
  else if b.portBusy a.tile a.req then b.setTile a.tile { b.tile a.tile with held := (b.tile a.tile).held ++ [a] }
  else b.issue a

/-- The local address of a waiting access. -/
def waitAddr (b : Blk) (a : SpmAccess) : Nat := (b.spmTarget a.tile a.addr).2.2

/-- A waiting access goes on when its group still runs; what its port held back follows (spec/07 R152, R156). -/
def Blk.waitGoesOn (b : Blk) (t : Nat) (a : SpmAccess) : Blk :=
  if b.tstate a.tile == tsRun then (b.doAccess a t (waitAddr b a)).portGoesOn a.tile a.req
  else b.emit (.spm a.tile a.req tcGroupHalted [])

/-- The waiting accesses that a release of a slot lets go on. -/
def Blk.releasable (b : Blk) (t slot : Nat) : List Wait :=
  (b.tile t).waits.filter (fun w => w.slot == slot && w.met && w.access.isSome)

/-- TAG_WAIT_RELEASE (spec/07 R156): the accesses waiting on a slot whose condition has become true go on together; a wait of a
unit stays met until the unit tries again. -/
def Blk.releaseWaits (b : Blk) (t slot : Nat) : Blk :=
  let b := b.markMet t
  let go := b.releasable t slot
  let b := b.setTile t { b.tile t with waits := (b.tile t).waits.filter (fun w => !go.contains w) }
  (go.filterMap (fun w => w.access)).foldl (fun b a => b.waitGoesOn t a) b

/-- TAG_ONLY_OP (spec/07 R153, R155): SET_FULL or SET_EMPTY with no data; a mapped-out tile is out of reach (R172). -/
def Blk.tagOnly (b : Blk) (tile slot : Nat) (full : Bool) : Blk :=
  if tile < 16 && slot < 12288 && b.active (tilePage tile) && b.tstate tile != tsMappedOut then b.setTag tile slot full
  else b

/-! ### The stall watchdog -/

/-- STALL.LIMIT in line periods; 0 acts as 1 (spec/07 R158, R174). -/
def Blk.stallLimit (b : Blk) (t : Nat) : Nat := max 1 (b.get (TILE.STALL_LIMIT t))

/-- A wait has reached the watchdog limit and its condition has not become true (spec/07 R156, R158). -/
def Blk.waitExpired (b : Blk) (t : Nat) (w : Wait) : Bool :=
  decide (b.stallLimit t ≤ b.linesSince w.since) && !w.met && !b.waitCond t w

/-- The target tile captures an expired wait (spec/07 R159, R160). -/
def Blk.captureTimeout (b : Blk) (t req slot : Nat) (isWrite : Bool) : Blk :=
  let b := b.raise (TILE.IRQ_RAW_TAG_TIMEOUT t)
  let b :=
    if b.flag (TILE.TT_INFO_VALID t) then b.raise (TILE.TT_INFO_OVERFLOW t)
    else
      let b := ((b.set (TILE.TT_INFO_SLOT t) slot).set (TILE.TT_INFO_REQUESTER t) req).set (TILE.TT_INFO_KIND t) (bitNat isWrite)
      let c := coordNat b.now
      ((b.raise (TILE.TT_INFO_VALID t)).set (TILE.TT_COORD_LO t) c).set (TILE.TT_COORD_HI t) (c / 2 ^ 32)
  b.tileError t tcTimeout req slot

/-- The waits at a tile that expire next: the oldest, in ascending requester code (spec/07 R160). Waits begun in one line period
expire together (notes/assumptions/92). -/
def Blk.expiredWaits (b : Blk) (t : Nat) : List Wait :=
  let late := (b.tile t).waits.filter (fun w => b.waitExpired t w)
  let age := late.foldl (fun n w => max n (b.linesSince w.since)) 0
  let batch := late.filter (fun w => b.linesSince w.since == age)
  (List.range 16).flatMap (fun r => batch.filter (fun w => w.req == r))

/-- A wait taken off its tile. -/
def Blk.dropWait (b : Blk) (t : Nat) (w : Wait) : Blk :=
  b.setTile t { b.tile t with waits := (b.tile t).waits.erase w }

/-- The wait of a unit at a slot, when there is none yet, begins (spec/07 R158): `port` is the requester code where the unit is,
`req` the one at this tile. -/
def Blk.unitWait (b : Blk) (t src port req slot : Nat) (kind : WaitKind) : Blk :=
  if (b.tile t).waits.any (fun w => w.src == src && w.port == port && w.access.isNone && w.slot == slot) then b
  else b.addWait t ⟨src, port, req, slot, kind, b.ep.line, false, none⟩

/-- A wait of a unit at a slot has been met (spec/07 R156). -/
def Blk.unitGranted (b : Blk) (t src port slot : Nat) : Bool :=
  (b.tile t).waits.any (fun w => w.src == src && w.port == port && w.access.isNone && w.slot == slot && w.met)

/-- The waits of a unit at a tile end. -/
def Blk.clearUnitWaits (b : Blk) (t src port : Nat) : Blk :=
  b.setTile t { b.tile t with
    waits := (b.tile t).waits.filter (fun w => !(w.src == src && w.port == port && w.access.isNone)) }

/-! ### Granules and scrubbing -/

/-- GRANULE_INIT_DONE (spec/07 R163): the granule is ready; the accesses that waited on it alone go on. -/
def Blk.initDone (b : Blk) (t g : Nat) : Blk :=
  let b := b.finishInit t g
  let slots := ((b.tile t).waits.filter (fun w => w.met && w.access.isSome && w.slot / 256 == g)).map (fun w => w.slot)
  b.each slots.eraseDups (fun b s => b.releaseWaits t s)

/-- A write of an attribute word (spec/07 R162, R163): a changed granule is re-initialised; 2 and 3 are refused, the granule
keeps its attribute. `j` names ATTRt_j. -/
def Blk.writeAttr (b : Blk) (t j v : Nat) : Blk :=
  let key := 0x30100 + 0x10 * t + 4 * j
  let old := (b.word key).toNat
  let b := b.markChanged Page.SPM
  b.each (List.range 16) (fun b i =>
    let new := bitsAt v (2 * i) 2
    if new == bitsAt old (2 * i) 2 then b
    else if 2 ≤ new then (b.raise SPM.IRQ_RAW_ATTR_BAD).captureOwnFree Page.SPM 0x03
    else
      let b := b.setWord key (BitVec.ofNat 32 (putBits (b.word key).toNat (2 * i) 2 new))
      if b.powered (tilePage t) then b.startInit t (16 * j + i) else b)

/-- The scrubber at one line (spec/07 R167 Table 7). -/
def Blk.scrubLine (b : Blk) (t line : Nat) : Blk :=
  if b.isPoisoned t line || b.inInit t (line * 32) then b
  else
    let (e, b) := b.lineFound t line
    if e == 0 then b
    else if e == 1 then b.correctLine t line
    else
      let b := b.tagVote t (line / 8)
      if b.attr t (line / 2048) == 0 && !b.isFull t (line / 8) then
        let b := ((b.spmPut t (line * 32) (List.replicate 32 0)).setFlips t line []).bumpSat (SPM.UE_EMPTY t)
        (b.raise SPM.IRQ_RAW_UE_EMPTY).captureOwnFree Page.SPM 0x02
      else b.poisonLine t line 12

/-- SCRUB_STEP (spec/07 R167): at each bank of each powered tile that is not mapped out, the line in the current row; then
the row advances. -/
def Blk.scrubStep (b : Blk) : Blk :=
  if b.active Page.SPM && b.flag SPM.SCRUB_CTRL_EN then
    let row := b.get SPM.SCRUB_STATUS_ROW
    let tiles := indicesWhere 16 (fun t => b.powered (tilePage t) && b.tstate t != tsMappedOut)
    let b := b.each tiles (fun b t => b.each (slotRange (row * 32) 32) (fun b line => b.scrubLine t line))
    if row + 1 < 3072 then b.set SPM.SCRUB_STATUS_ROW (row + 1)
    else ((b.set SPM.SCRUB_STATUS_ROW 0).bump SPM.SCRUB_STATUS_PASSES).raise SPM.IRQ_RAW_SCRUB_PASS
  else b

/-- Bank cycles lost by the ports of the tiles that run a group, in one line period: no chapter gives the cycles, so the count
grows by a free amount, at most one cycle per port and tile cycle (spec/07 R151, R174, notes/assumptions/93). -/
def Blk.countConflicts (b : Blk) : Blk :=
  b.each (indicesWhere 16 (fun t => b.powered (tilePage t) && b.tstate t == tsRun)) (fun b t =>
    let (v, b) := b.free 14
    b.set (TILE.CONFLICT_COUNT t) (min 0xFFFFFFFF (b.get (TILE.CONFLICT_COUNT t) + v % 13337)))

/-! ### Compare-and-count -/

/-- The fields of a compare-and-count descriptor (spec/07 R169 Table 8). -/
def ccSrc (d : List Byte) : Nat := leAt d 0 4
def ccItems (d : List Byte) : Nat := leAt d 4 4
def ccKey (d : List Byte) : Nat := leAt d 8 4
def ccResult (d : List Byte) : Nat := leAt d 12 4
def ccOp (d : List Byte) : Nat := leAt d 16 1
def ccSeg (d : List Byte) : Nat := leAt d 17 1
def ccTags (d : List Byte) : Nat := leAt d 18 1

/-- Bytes of the result, rounded up to whole slots (spec/07 R170). -/
def ccResultBytes (d : List Byte) : Nat :=
  slotsOf (if ccOp d == 0 then 2 * ccItems d else ceilDiv (ccItems d) 8) * 256
def ccSrcBytes (d : List Byte) : Nat := 32 * ccSeg d * ccItems d
def ccKeyBytes (d : List Byte) : Nat := 32 * ccSeg d * (if ccOp d == 1 then 2 else 1)

/-- Two byte ranges meet. -/
def overlaps (a n c m : Nat) : Bool := decide (0 < n) && decide (0 < m) && decide (a < c + m) && decide (c < a + n)

/-- A descriptor that keeps Table 8 and stays in the scratchpad (spec/07 R171). -/
def ccGood (d : List Byte) : Bool :=
  d.length == 32 && ccSrc d % 32 == 0 && 1 ≤ ccItems d && ccItems d ≤ 65536 && ccKey d % 32 == 0 && ccResult d % 256 == 0 &&
  ccOp d ≤ 1 && (ccSeg d == 1 || ccSeg d == 2 || ccSeg d == 4) && ccTags d < 4 && leNat (d.drop 19) == 0 &&
  ccSrc d + ccSrcBytes d ≤ spmBytes && ccKey d + ccKeyBytes d ≤ spmBytes && ccResult d + ccResultBytes d ≤ spmBytes &&
  !overlaps (ccResult d) (ccResultBytes d) (ccSrc d) (ccSrcBytes d) &&
  !overlaps (ccResult d) (ccResultBytes d) (ccKey d) (ccKeyBytes d)

/-- A compare-and-count error: LAST_ERR, CC_ERR, the capture; group code's descriptor halts its group (spec/07 R171). -/
def Blk.ccError (b : Blk) (t code : Nat) (byGroup : Bool) : Blk :=
  let b := (b.set (TILE.CC_STATUS_LAST_ERR t) code).raise (TILE.IRQ_RAW_CC_ERR t)
  let b := b.tileError t tcCcErr 11 0
  if byGroup then b.haltGroup t tcCcErr else b

/-- A descriptor reaches the unit (spec/07 R169, R171): refused, or queued; one runs and 4 may be queued behind it. On a
mapped-out tile it ends with FAULT, the scratchpad being out of its reach (R172). -/
def Blk.ccPost (b : Blk) (t : Nat) (d : List Byte) (byGroup : Bool) : Blk :=
  if 5 ≤ (b.tile t).cc.length then b.ccError t 2 byGroup
  else if !ccGood d then b.ccError t 1 byGroup
  else if b.tstate t == tsMappedOut then b.ccError t 5 byGroup
  else (b.setTile t { b.tile t with cc := (b.tile t).cc ++ [⟨d, byGroup⟩] }).ccShow t

/-- The 32 bytes of CC_DESC. -/
def Blk.ccDescBytes (b : Blk) (t : Nat) : List Byte :=
  (List.range 8).flatMap (fun i => natLe 4 (b.get (TILE.CC_DESC t i)))

/-- Ones in a number of `n` bits. -/
def popCount : Nat → Nat → Nat
  | 0, _ => 0
  | n + 1, v => v % 2 + popCount n (v / 2)

/-- The result bytes of a descriptor over its source and key (spec/07 R170), and the matches. -/
def ccCompute (d src key : List Byte) : List Byte × Nat :=
  let w := 32 * ccSeg d
  let k := leAt key 0 w
  let m := leAt key w w
  let item := fun i => leAt src (w * i) w
  if ccOp d == 0 then
    ((List.range (ccItems d)).flatMap (fun i => natLe 2 (popCount (8 * w) (Nat.xor (item i) k))), 0)
  else
    let hit := fun i => Nat.land (Nat.xor (item i) k) m == 0
    ((List.range (ceilDiv (ccItems d) 8)).map (fun j =>
      BitVec.ofNat 8 (maskOf 8 (fun i => decide (8 * j + i < ccItems d) && hit (8 * j + i)))),
     ((List.range (ccItems d)).filter hit).length)

/-- The first unmet tag of a descriptor: its slot and what it waits for (spec/07 R169 TAGS). -/
def Blk.ccUnmet (b : Blk) (t : Nat) (d : List Byte) : Option (Nat × WaitKind) :=
  let ins := if bitAt (ccTags d) 0 then spanOf 256 (ccKey d) (ccKeyBytes d) ++ spanOf 256 (ccSrc d) (ccSrcBytes d) else []
  let outs := if bitAt (ccTags d) 1 then spanOf 256 (ccResult d) (ccResultBytes d) else []
  match ins.find? (fun s => !b.foundFull t s && !b.unitGranted t t 11 s) with
  | some s => some (s, .readFull)
  | none => (outs.find? (fun s => b.foundFull t s && !b.unitGranted t t 11 s)).map (fun s => (s, .writeEmpty))

/-- The slots whose tags a descriptor consults. -/
def ccSlots (d : List Byte) : List Nat :=
  (if bitAt (ccTags d) 0 then spanOf 256 (ccKey d) (ccKeyBytes d) ++ spanOf 256 (ccSrc d) (ccSrcBytes d) else []) ++
    (if bitAt (ccTags d) 1 then spanOf 256 (ccResult d) (ccResultBytes d) else [])

/-- The running descriptor leaves the unit. -/
def Blk.ccPop (b : Blk) (t : Nat) : Blk :=
  (b.setTile t { b.tile t with cc := (b.tile t).cc.drop 1 }).ccShow t

/-- CC_DONE (spec/07 R170, R171): the running descriptor completes, waits on a tag, or ends in error. After an error the
bytes of the result area are open: free values (notes/assumptions/14). -/
def Blk.ccDone (b : Blk) (t : Nat) : Blk :=
  match (b.tile t).cc with
  | [] => b
  | j :: _ =>
    if !b.active (tilePage t) then b
    else
    let b := b.tagVotes t (ccSlots j.desc)
    match b.ccUnmet t j.desc with
    | some (s, k) => b.unitWait t t 11 11 s k
    | none =>
      let d := j.desc
      let b := b.clearUnitWaits t t 11
      let (c1, key, b) := b.spmRead t (ccKey d) (ccKeyBytes d) 11
      let (c2, src, b) := if c1 == 0 then b.spmRead t (ccSrc d) (ccSrcBytes d) 11 else (c1, [], b)
      if c1 != 0 then (b.ccPop t).ccError t 4 j.byGroup
      else if c2 != 0 then
        let (v, b) := b.free (8 * ccResultBytes d)
        let b := b.spmPut t (ccResult d) (natLe (ccResultBytes d) v)
        (b.ccPop t).ccError t 4 j.byGroup
      else
        let (res, matches_) := ccCompute d src key
        let out := res ++ List.replicate (ccResultBytes d - res.length) 0
        let (_, b) := b.spmWrite t (ccResult d) out 11
        let b := if ccOp d == 1 then b.set (TILE.CC_MATCHES t) matches_ else b
        let b := if bitAt (ccTags d) 1 then
            b.setTags t (slotRange (ccResult d / 256) (ccResultBytes d / 256)) true else b
        (b.raise (TILE.IRQ_RAW_CC_DONE t)).ccPop t

/-! ### Tile states -/

/-- A canary group or a walk step by its number (spec/20 R507). -/
def isCanaryGroup (g : Nat) : Bool := g == 0xFFFF || (0xFF00 ≤ g && g ≤ 0xFF3F)

/-- A start reaches an IDLE tile (spec/07 R172, R173, spec/09 R219): false when it is refused. -/
def Blk.tileReady (b : Blk) (t : Nat) : Bool :=
  b.active (tilePage t) && b.tstate t == tsIdle && !(b.tile t).checking && !b.pack.expand.any (fun e => e.tile == t)

/-- A tile starts a group. -/
def Blk.startTile (b : Blk) (t g : Nat) : Blk :=
  let b := ((b.set (TILE.STATUS_TSTATE t) tsRun).set (TILE.GROUP_STATUS_GROUP t) g).set (TILE.GROUP_STATUS_HALT_CAUSE t) 0
  b.setTile t { b.tile t with canary := if isCanaryGroup g then some 0xFFFFFFFF else none }

/-- TILE_CANCEL (spec/07 R172). -/
def Blk.tileCancel (b : Blk) (t : Nat) : Blk :=
  if b.tstate t == tsRun then (b.tileError t tcCancelled 0 0).haltGroup t tcCancelled else b

/-- TILE_RELEASE (spec/07 R172). -/
def Blk.tileRelease (b : Blk) (t : Nat) : Blk :=
  if b.tstate t == tsHalted then b.set (TILE.STATUS_TSTATE t) tsIdle else b

/-- TILE_MAP_IN (spec/07 R172). -/
def Blk.tileMapIn (b : Blk) (t : Nat) : Blk :=
  let b := b.set (TILE.TCTRL_MAP_OUT t) 0
  if b.tstate t == tsMappedOut then b.set (TILE.STATUS_TSTATE t) tsIdle else b

/-- TILE_SELF_CHECK (spec/07 R173). -/
def Blk.tileSelfCheck (b : Blk) (t : Nat) : Blk :=
  if b.tstate t == tsIdle && b.active (tilePage t) && !(b.tile t).checking then
    let b := b.set (TILE.SELF_CHECK_DONE t) 0
    b.setTile t { b.tile t with checking := true }
  else b

/-- SELF_CHECK_DONE (spec/07 R173): `fail` is the comparison's outcome. -/
def Blk.selfCheckDone (b : Blk) (t : Nat) (fail : Bool) : Blk :=
  if (b.tile t).checking then
    let b := b.setTile t { b.tile t with checking := false }
    let b := ((b.set (TILE.SELF_CHECK_DONE t) 1).set (TILE.SELF_CHECK_FAIL t) (bitNat fail)).bump (TILE.SELF_CHECK_RUNS t)
    if fail then
      let b := (b.raise (TILE.IRQ_RAW_SELF_CHECK_FAIL t)).tileError t tcSelfCheck 0 0
      { b with reports := b.reports ++ [⟨0x04, tilePage t, false, t⟩] }
    else b
  else b

/-- Every tag of an ACT granule becomes EMPTY (spec/07 R164). -/
def Blk.emptyActTags (b : Blk) (t : Nat) : Blk :=
  let act := fun (k : Nat) => k / 0x4000 == t && b.attr t ((k % 0x4000) / 256) == 0
  { b with spm := { b.spm with full := Tbl.clear b.spm.full act, vote := Tbl.clear b.spm.vote act } }.markMet t

/-- Soft reset of a tile (spec/07 R164, R172): a running group ends with SOFT_RESET, the tile's own units stop, ACT tags become
EMPTY; the waits of other requesters stand, and a mapped-out tile stays so. -/
def Blk.tileSoftReset (b : Blk) (t : Nat) : Blk :=
  let b := (b.endGroupWaits t tcSoftReset).stopEngines t
  let b := (b.clearUnitWaits t t 11).setTile t { (b.clearUnitWaits t t 11).tile t with cc := [], checking := false }
  let b := b.emptyActTags t
  b.set (TILE.STATUS_TSTATE t) (if b.flag (TILE.TCTRL_MAP_OUT t) then tsMappedOut else tsIdle)

/-! ### The debug window -/

/-- What stands against a debug access: POWER when the tile is off, which the access reports; ALIGN or RANGE, which the tile
captures for requester 13 (spec/07 R148, R149, R175). -/
def Blk.dbgCause (b : Blk) : Nat :=
  let a := b.get SPM.DBG_ADDR_OFFSET
  if !b.powered (tilePage (b.get SPM.DBG_ADDR_TILE)) then causePower
  else if a % 4 != 0 then tcAlign else if spmBytes ≤ a then tcRange else 0

/-- A debug access that ends with its cause. -/
def Blk.dbgFault (b : Blk) (cause : Nat) : Blk :=
  if cause == causePower then b
  else b.tileError (b.get SPM.DBG_ADDR_TILE) cause 13 (b.get SPM.DBG_ADDR_OFFSET / 256 % 2 ^ 14)

/-- DBG_DATA (spec/07 R175): one 4-byte access of requester 13, no tag action: the cause of the register access, the word. -/
def Blk.dbgRead (b : Blk) : Nat × Word × Blk :=
  let t := b.get SPM.DBG_ADDR_TILE
  let a := b.get SPM.DBG_ADDR_OFFSET
  let c := b.dbgCause
  if c != 0 then (if c == causePower then c else 0, 0, b.dbgFault c)
  else
    let (c, bs, b) := b.spmRead t a 4 13
    if c == 0 then (0, BitVec.ofNat 32 (leNat bs), b) else (0, 0, b.captureOwnFree Page.SPM 0x04)
def Blk.dbgWrite (b : Blk) (v : Word) : Nat × Blk :=
  let t := b.get SPM.DBG_ADDR_TILE
  let a := b.get SPM.DBG_ADDR_OFFSET
  let c := b.dbgCause
  if c != 0 then (if c == causePower then c else 0, b.dbgFault c)
  else
    let (cause, b) := b.spmWrite t a (natLe 4 v.toNat) 13
    (0, if cause == 0 then b else b.captureOwnFree Page.SPM 0x04)

/-- DBG_TAG_WRITE (spec/07 R175): the tag of the slot that holds DBG_ADDR, a tag-only operation. -/
def Blk.dbgTag (b : Blk) (full : Bool) : Blk :=
  let t := b.get SPM.DBG_ADDR_TILE
  let s := b.get SPM.DBG_ADDR_OFFSET / 256
  if b.powered (tilePage t) && s < 12288 then b.setTag t s full else b

/-! ### What strikes stored bits -/

/-- A stored bit of a powered tile changes by itself. -/
def Blk.strikeSpm (b : Blk) (u : Upset) : Blk :=
  match u with
  | .spmBit t line bit => b.when (b.powered (tilePage t)) (fun b => b.strikeLine t line bit)
  | .tagCopy t slot copy => b.when (b.powered (tilePage t)) (fun b => b.strikeTag t slot copy)
  | .bulkBit _ _ => b

end Sys2Proof.Machine
end

