-- ==== Sys2Proof/Machine/IspMath.lean ====
section
/-! DEFINITION. Machine/IspMath.lean: the arithmetic of the image pipeline's stages (spec/06 R120 to R136). -/

namespace Sys2Proof.Machine

/-! ### Rounding and saturation -/

/-- (x + 2^(n−1)) >> n: a division by 2^n rounded half up (spec/06 R121). -/
def shrHalfUp (x : Int) (n : Nat) : Int := if n == 0 then x else (x + (2 ^ (n - 1) : Nat)) / ((2 ^ n : Nat) : Int)

/-- The linear value saturates in 18 bits (spec/06 R121). -/
def sat18 (x : Int) : Int := clampInt (-131072) 131071 x

/-! ### A frame's parameters -/

def IspFrame.p (f : IspFrame) (k : Nat) : Nat := nth f.params k 0
def IspFrame.cfg (f : IspFrame) (lo w : Nat) : Nat := bitsAt (f.p 0) lo w
def IspFrame.en (f : IspFrame) : Bool := bitAt (f.p 0) 0
def IspFrame.own (f : IspFrame) : Bool := decide (f.ctx < 4)
def IspFrame.trim (f : IspFrame) : Int := signedOf 16 (bitsAt (f.p 1) 16 16)
def IspFrame.bank (f : IspFrame) : Nat := f.cfg 10 1
def IspFrame.fx (f : IspFrame) : Nat := bitsAt (f.p 11) 0 4
def IspFrame.fy (f : IspFrame) : Nat := bitsAt (f.p 11) 4 4
def IspFrame.gridShift (f : IspFrame) : Nat := bitsAt (f.p 11) 8 4
def IspFrame.tiles (f : IspFrame) : List Nat :=
  (List.range (bitsAt (f.p 12) 16 2 + 1)).map (fun i => bitsAt (f.p 12) (4 * i) 4)
def IspFrame.base (f : IspFrame) : Nat := bitsAt (f.p 13) 0 14
def IspFrame.stride (f : IspFrame) : Nat := bitsAt (f.p 13) 16 14
def IspFrame.ring (f : IspFrame) : Nat := bitsAt (f.p 14) 0 12
def IspFrame.descTile (f : IspFrame) : Nat := bitsAt (f.p 15) 0 4
def IspFrame.descEn (f : IspFrame) : Bool := bitAt (f.p 15) 4
def IspFrame.descSlot (f : IspFrame) : Nat := bitsAt (f.p 15) 8 14

/-- The variant's tier code is the glint variant's (spec/00 R4 Table 1). -/
def glintTier (b : Blk) : Bool := b.unit.tier == 2

/-- The frame takes the glint path (spec/06 R122, R131): own sensor, glint variant, MODE 0. -/
def IspFrame.glint (f : IspFrame) (b : Blk) : Bool := f.own && glintTier b && f.mode == 0

/-- The frame is MONO (spec/06 R131). -/
def IspFrame.mono (f : IspFrame) : Bool := !f.own && !(2 ≤ f.cfg 1 3 && f.cfg 1 3 ≤ 5)

/-- The Bayer pattern: 2 RGGB, 3 GRBG, 4 GBRG, 5 BGGR. -/
def IspFrame.cfa (f : IspFrame) : Nat := if f.own then 2 else f.cfg 1 3

/-- Distance of same-plane neighbours (spec/06 R122). -/
def IspFrame.planeStep (f : IspFrame) (b : Blk) : Nat := if f.glint b then 4 else if f.mono then 1 else 2

/-- Look-ahead in input rows (spec/06 R140). -/
def IspFrame.la (f : IspFrame) (b : Blk) : Nat := if f.glint b then 4 else if f.mono then 0 else 2

/-- Input rows, and columns, of one grid row or column: 2 on the glint path. -/
def IspFrame.site (f : IspFrame) (b : Blk) : Nat := if f.glint b then 2 else 1
def IspFrame.gridW (f : IspFrame) (b : Blk) : Nat := f.width / f.site b
def IspFrame.gridH (f : IspFrame) (b : Blk) : Nat := f.height / f.site b
def IspFrame.channels (f : IspFrame) (b : Blk) : Nat := if f.mono then 1 else if f.glint b && f.cfg 4 2 == 2 then 4 else 3
def IspFrame.outW (f : IspFrame) (b : Blk) : Nat := f.gridW b / f.fx
def IspFrame.outH (f : IspFrame) (b : Blk) : Nat := f.gridH b / f.fy
def IspFrame.rowBytes (f : IspFrame) (b : Blk) : Nat := f.outW b * f.channels b * (if f.cfg 12 2 == 0 then 1 else 2)

/-- The parameter check, the first failing code of Table 2, 0 for none (spec/06 R124). Code 6 concerns own contexts
(notes/assumptions/37). -/
def IspFrame.checkCode (f : IspFrame) (b : Blk) : Nat :=
  let swLo := bitsAt (f.p 3) 0 12
  let shift := bitsAt (f.p 3) 12 4
  let slots := slotsOf (f.rowBytes b)
  let past := f.base + f.ring * f.stride
  if 4031 < swLo + 2 ^ shift || 11 < shift then 1
  else if f.fx == 0 || 8 < f.fx || f.fy == 0 || 8 < f.fy || f.outW b == 0 || f.outH b == 0 then 2
  else if !decide (f.tiles.Nodup) || f.stride < slots || f.ring == 0 || 12288 < past then 3
  else if f.cfg 12 2 == 3 then 4
  else if !f.own && (16 * 2 ^ f.gridShift < f.width - 1 || 9 * 2 ^ f.gridShift < f.height - 1) then 5
  else if f.glint b && f.cfg 4 2 == 3 then 6
  else if !f.descEn || (f.tiles.contains f.descTile && f.base ≤ f.descSlot && f.descSlot < past) then 7
  else 0

/-! ### Tables -/

/-- Key of a table word (spec/06 R125): tables 2 and 3 belong to the unit and use context 0. -/
def tableKey (ctx table bank w : Nat) : Nat := (((if table < 2 then ctx else 0) * 4 + table) * 2 + bank) * 65536 + w

def Blk.tableWord (b : Blk) (ctx table bank w : Nat) : Nat := (Tbl.get (dflt 0) b.isp.tables (tableKey ctx table bank w)).toNat

/-- The `i`-th 16-bit entry of a table, low half first. -/
def Blk.tableHalf (b : Blk) (ctx table bank i : Nat) : Nat := bitsAt (b.tableWord ctx table bank (i / 2)) (16 * (i % 2)) 16

/-! ### Stage 1: black level -/

/-- The dark current at an array pixel in 0.25 e⁻/s (spec/06 R127). -/
def Blk.darkAt (b : Blk) (f : IspFrame) (x y : Nat) : Int :=
  let z := if f.mode == 0 then 128 else 64
  let zone := (y / z) * 32 + x / z
  let u := (clampInt (-80) 340 f.temp + 80).toNat
  let k := min 6 (u / 60)
  let fr := u - 60 * k
  let d := fun (j : Nat) => ((b.tableHalf 0 3 (bitsAt f.banks 1 1) (j * 576 + zone) : Nat) : Int)
  d k + ((d (k + 1) - d k) * (fr : Int) + 30) / 60

/-- A sample of an own-sensor row (spec/06 R126), in 1/16 DN. -/
def Blk.blackOwn (b : Blk) (f : IspFrame) (hcg : Bool) (x y raw : Nat) : Int :=
  let group := if f.mode == 0 then x / 256 else x / 128
  let ob := nth (if hcg then f.obHcg else f.obLcg) group 0
  let k := b.get (if hcg then ISP.DARK_K_K_HCG else ISP.DARK_K_K_LCG)
  let dark : Int := if f.cfg 9 1 == 1 then (b.darkAt f x y * (f.exposure : Int) * (k : Int)) / ((2 ^ 32 : Nat) : Int) else 0
  ((16 * raw : Nat) : Int) - ((ob : Int) + dark + f.trim)

/-- A pixel of an external row (spec/06 R126). -/
def IspFrame.blackExt (f : IspFrame) (raw : Nat) : Int :=
  ((16 * raw : Nat) : Int) - (((16 * bitsAt (f.p 1) 0 14 : Nat) : Int) + f.trim)

/-! ### Stage 2: defects -/

/-- Position key of a defect entry: ascending (Y, X). -/
def defectKey (e : Nat) : Nat := bitsAt e 12 12 * 4096 + bitsAt e 0 12

/-- The entries of the bank in force that count, and how many are skipped (spec/06 R128): an entry not greater than the one
before it is ignored. -/
def Blk.defectWalk (b : Blk) (bank : Nat) : List Nat × Nat :=
  let n := min 16384 (b.get (if bank == 0 then ISP.DEFECT_COUNT_A else ISP.DEFECT_COUNT_B))
  let es := (List.range n).map (fun i => defectKey (b.tableWord 0 2 bank i))
  let r := es.foldl (fun (st : Option Nat × List Nat × Nat) e =>
    match st.1 with
    | some q => if q < e then (some e, e :: st.2.1, st.2.2) else (some e, st.2.1, st.2.2 + 1)
    | none => (some e, [e], 0)) (none, [], 0)
  (r.2.1.reverse, r.2.2)

/-- Columns of a row of the window that the static list names. -/
def Blk.defectsOf (b : Blk) (f : IspFrame) (y : Nat) : List Nat :=
  if f.own && f.cfg 6 1 == 1 then
    ((b.defectWalk (bitsAt f.banks 0 1)).1.filter (fun e => e / 4096 == y && f.col0 ≤ e % 4096)).map (fun e => e % 4096 - f.col0)
  else []

/-- Defect correction of a row (spec/06 R128). -/
def defectRow (listed : List Nat) (d : Nat) (dyn : Bool) (thresh : Nat) (row : List Int) : List Int :=
  let n := row.length
  (List.range n).map (fun x =>
    let p := nth row x 0
    let hasA := d ≤ x
    let hasB := decide (x + d < n)
    let a := nth row (x - d) 0
    let c := nth row (x + d) 0
    if listed.contains x then
      let goodA := hasA && !listed.contains (x - d)
      let goodB := hasB && !listed.contains (x + d)
      if goodA && goodB then shrHalfUp (a + c) 1 else if goodA then a else if goodB then c else 0
    else if dyn && hasA && hasB && (max a c + 16 * thresh < p || p < min a c - 16 * thresh) then shrHalfUp (a + c) 1
    else p)

/-! ### Stage 3: lens shading -/

/-- Plane of a pixel at array (own) or frame (external) coordinates (spec/06 R122, R129, notes/assumptions/37). -/
def IspFrame.plane (f : IspFrame) (b : Blk) (x y : Nat) : Nat :=
  if f.glint b then (y % 4) * 4 + x % 4 else if f.mono then 0 else (y % 2) * 2 + x % 2

/-- Shading gain at a pixel in U2.14 (spec/06 R129). -/
def Blk.shadeGain (b : Blk) (f : IspFrame) (x y : Nat) : Int :=
  let sh := if f.own then (if f.mode == 0 then 8 else 7) else f.gridShift
  let s := 2 ^ sh
  let node := fun (i j : Nat) =>
    ((b.tableHalf f.ctx 0 f.bank (f.plane b x y * 170 + (min j 9) * 17 + min i 16) : Nat) : Int)
  let i := x / s
  let j := y / s
  let fx : Int := ((x % s : Nat) : Int)
  let fy : Int := ((y % s : Nat) : Int)
  let si : Int := ((s : Nat) : Int)
  shrHalfUp ((node i j * (si - fx) + node (i + 1) j * fx) * (si - fy) +
    (node i (j + 1) * (si - fx) + node (i + 1) (j + 1) * fx) * fy) (2 * sh)

/-- A row shaded; `x0` and `y` place it. -/
def Blk.shadeRow (b : Blk) (f : IspFrame) (x0 y : Nat) (row : List Int) : List Int :=
  if f.cfg 8 1 == 1 then row.zipIdx.map (fun e => shrHalfUp (e.1 * b.shadeGain f (x0 + e.2) y) 14) else row

/-! ### Stage 4: HDR merge -/

/-- The HCG and LCG readings as linear values (spec/06 R130). -/
def hcgLinear (h : Int) : Int := shrHalfUp h 2
def lcgLinear (ratio : Nat) (l : Int) : Int := shrHalfUp (l * (ratio : Int)) 15

/-- What the stage puts out for a sample of one gain (spec/06 R121, R130). -/
def hcgValue (h : Int) : Int := sat18 (hcgLinear h)
def lcgValue (ratio : Nat) (l : Int) : Int := sat18 (lcgLinear ratio l)

/-- A DUAL sample merged (spec/06 R130); only the stage's output saturates (R121). -/
def mergeDual (swLo shift ratio : Nat) (h l : Int) : Int :=
  let c := h / 16
  let hv := hcgLinear h
  let lv := lcgLinear ratio l
  sat18 (if c ≤ (swLo : Int) then hv
    else if ((swLo + 2 ^ shift : Nat) : Int) ≤ c then lv
    else hv + shrHalfUp ((lv - hv) * (c - (swLo : Int))) shift)

/-- The linear row of a line (spec/06 R126 to R130): pixels pass every stage, a fill line skips the defect stage. -/
def Blk.linearRow (b : Blk) (f : IspFrame) (row : Nat) (k : LineKind) : List Int :=
  let y := f.row0 + row
  let d := f.planeStep b
  let fix := fun (r : List Int) => defectRow (b.defectsOf f y) d (f.cfg 7 1 == 1) (bitsAt (f.p 2) 0 12) r
  let own := fun (hcg : Bool) (raw : List Nat) (isFill : Bool) =>
    let r := raw.zipIdx.map (fun e => b.blackOwn f hcg (f.col0 + e.2) y e.1)
    b.shadeRow f f.col0 y (if isFill then r else fix r)
  let merge := fun (h l : List Nat) (isFill : Bool) =>
    let ratio := b.get ISP.GAIN_RATIO
    if f.gain == 0 then (own true h isFill).map hcgValue
    else if f.gain == 1 then (own false l isFill).map (lcgValue ratio)
    else (List.zip (own true h isFill) (own false l isFill)).map (fun e =>
      mergeDual (bitsAt (f.p 3) 0 12) (bitsAt (f.p 3) 12 4) ratio e.1 e.2)
  let ext := fun (raw : List Nat) (isFill : Bool) =>
    let r := raw.map f.blackExt
    (b.shadeRow f 0 row (if isFill then r else fix r)).map hcgValue
  match k with
  | .pixels h l => if f.own then merge h l false else ext h false
  | .fill v =>
    let r := List.replicate f.width v
    if f.own then merge r r true else ext r true
  | .endOfFrame _ => []

/-! ### Stage 5: demosaic -/

/-- A coordinate outside the frame reflected into it (spec/06 R131). -/
def mirrored (n : Nat) (x : Int) : Nat :=
  let a := if x < 0 then -x else x
  (if ((n : Int) - 1) < a then 2 * ((n : Int) - 1) - a else a).toNat

/-- A grid of values. -/
abbrev Grid := List (List Int)

def gridAt (g : Grid) (w h : Nat) (x y : Int) : Int := nth (nth g (mirrored h y) []) (mirrored w x) 0

/-- Colour of a Bayer site: 0 R, 1 G, 2 B, and whether its row is an R row (spec/06 R122, R131). -/
def bayerColour (cfa x y : Nat) : Nat × Bool :=
  let x := x + (if cfa == 3 || cfa == 5 then 1 else 0)
  let y := y + (if cfa == 4 || cfa == 5 then 1 else 0)
  (if (x + y) % 2 == 1 then 1 else if y % 2 == 0 then 0 else 2, y % 2 == 0)

/-- R, G and B of a pixel (spec/06 R131 Table 4); the sums are doubled, so that the halves of the kernels are whole. -/
def bayerPixel (cfa : Nat) (g : Grid) (w h x y : Nat) : List Int :=
  let v := fun (dx dy : Int) => gridAt g w h ((x : Int) + dx) ((y : Int) + dy)
  let c := v 0 0
  let we := v (-1) 0 + v 1 0
  let ns := v 0 (-1) + v 0 1
  let we2 := v (-2) 0 + v 2 0
  let ns2 := v 0 (-2) + v 0 2
  let dg := v (-1) (-1) + v 1 (-1) + v (-1) 1 + v 1 1
  let r := fun (s : Int) => sat18 (shrHalfUp s 4)
  let along := r (10 * c + 8 * we - 2 * we2 - 2 * dg + ns2)
  let across := r (10 * c + 8 * ns - 2 * ns2 - 2 * dg + we2)
  let green := r (8 * c + 4 * (we + ns) - 2 * (we2 + ns2))
  let opposite := r (12 * c + 4 * dg - 3 * (we2 + ns2))
  match bayerColour cfa x y with
  | (1, true) => [along, c, across]
  | (1, false) => [across, c, along]
  | (0, _) => [c, green, opposite]
  | (_, _) => [opposite, green, c]

/-- The square root rounded to the nearest integer. -/
def sqrtNear (n : Nat) : Nat := (isqrt (4 * n) + 1) / 2

/-- A glint colour site's value and its DoLP (spec/06 R132). -/
def glintSite (out : Nat) (i0 i45 i90 i135 : Int) : Int × Int :=
  let pos := fun (i : Int) => if i < 0 then (0 : Int) else i
  let s := pos i0 + pos i45 + pos i90 + pos i135
  let s1 := pos i0 - pos i90
  let s2 := pos i45 - pos i135
  let p : Int := ((sqrtNear (s1 * s1 + s2 * s2).toNat : Nat) : Int)
  let v := if out == 1 then shrHalfUp (s - 2 * p) 2 else shrHalfUp s 2
  (sat18 v, if s == 0 then 0 else min 65535 ((131072 * p) / s))

/-- Site values, and DoLP, of site row `sy` from the linear rows (spec/06 R132). -/
def siteRow (out : Nat) (rows : Grid) (sy : Nat) : List (Int × Int) :=
  let top := nth rows (2 * sy) []
  let low := nth rows (2 * sy + 1) []
  (List.range (top.length / 2)).map (fun sx =>
    glintSite out (nth top (2 * sx) 0) (nth top (2 * sx + 1) 0) (nth low (2 * sx + 1) 0) (nth low (2 * sx) 0))

/-- The channels of grid row `y` after demosaic (spec/06 R131, R132): the rows around it are taken by reflection. -/
def demosaicRow (f : IspFrame) (b : Blk) (y : Nat) : List (List Int) :=
  let w := f.gridW b
  let h := f.gridH b
  if f.mono then (nth f.rows y []).map (fun v => [v])
  else if f.glint b then
    let lo := y - 2
    let sites := (List.range h).map (fun k => if lo ≤ k && k ≤ y + 2 then siteRow (f.cfg 4 2) f.rows k else [])
    let vals : Grid := sites.map (fun r => r.map (fun e => e.1))
    let dolp : Grid := sites.map (fun r => r.map (fun e => e.2))
    (List.range w).map (fun x =>
      let rgb := bayerPixel 2 vals w h x y
      if f.cfg 4 2 == 2 then
        let at_ := fun (dx dy : Int) => gridAt dolp w h ((x : Int) + dx) ((y : Int) + dy)
        rgb ++ [if (bayerColour 2 x y).1 == 1 then at_ 0 0 else shrHalfUp (at_ (-1) 0 + at_ 1 0 + at_ 0 (-1) + at_ 0 1) 2]
      else rgb)
  else (List.range w).map (fun x => bayerPixel f.cfa f.rows w h x y)

/-! ### Stages 6 and 7: white balance and colour matrix -/

def s16 (n : Nat) : Int := signedOf 16 n

/-- White balance (spec/06 R133). -/
def balance (f : IspFrame) (px : List Int) : List Int :=
  let g := fun (n : Nat) (v : Int) => sat18 (shrHalfUp (v * (n : Int)) 12)
  match px with
  | [m] => [g (bitsAt (f.p 5) 16 16) m]
  | r :: gr :: bl :: rest => g (bitsAt (f.p 4) 0 16) r :: g (bitsAt (f.p 4) 16 16) gr :: g (bitsAt (f.p 5) 0 16) bl :: rest
  | l => l

/-- Coefficient `k` (C00, C01, C02, C10, …) of the colour matrix. -/
def IspFrame.ccm (f : IspFrame) (k : Nat) : Int := s16 (bitsAt (f.p (6 + k / 2)) (16 * (k % 2)) 16)

/-- The colour matrix (spec/06 R133). -/
def matrixed (f : IspFrame) (px : List Int) : List Int :=
  match px with
  | r :: g :: bl :: rest =>
    if f.cfg 17 1 == 1 then
      let row := fun (k : Nat) => sat18 (shrHalfUp (f.ccm k * r + f.ccm (k + 1) * g + f.ccm (k + 2) * bl) 12)
      row 0 :: row 3 :: row 6 :: rest
    else px
  | l => l

/-! ### Stages 8 and 9: tone curve, scaling, output -/

/-- v clamped to 0 to 65,535 (spec/06 R134). -/
def clamp16 (v : Int) : Nat := (clampInt 0 65535 v).toNat

/-- Interval, base and width of x (spec/06 R134). -/
def toneInterval (x : Nat) : Nat × Nat × Nat :=
  if x < 16 then (x, x, 1)
  else
    let e := Nat.log2 x
    let m := (x / 2 ^ (e - 4)) % 16
    (16 * (e - 3) + m, 2 ^ e + m * 2 ^ (e - 4), 2 ^ (e - 4))

/-- A channel through its tone curve (spec/06 R134). -/
def Blk.tone (b : Blk) (f : IspFrame) (curve : Nat) (v : Int) : Int :=
  let x := clamp16 v
  if f.cfg 16 1 == 1 then
    let (i, base, w) := toneInterval x
    let t := fun (j : Nat) => ((b.tableHalf f.ctx 1 f.bank (curve * 210 + j) : Nat) : Int)
    t i + shrHalfUp ((t (i + 1) - t i) * ((x - base : Nat) : Int)) (Nat.log2 w)
  else (x : Int)

/-- Curve of channel `k`: MONO uses 0, DoLP 3. -/
def tonePixel (b : Blk) (f : IspFrame) (px : List Int) : List Int := px.zipIdx.map (fun e => b.tone f e.2 e.1)

/-- A scaled value in the output format, little-endian (spec/06 R136). -/
def outBytes (fmt : Nat) (y : Int) : List Byte :=
  if fmt == 0 then natLe 1 (twosOf 8 (clampInt 0 255 ((y + 128) / 256) - 128))
  else natLe 2 (fEncode (if fmt == 1 then fmtE5M10 else fmtE8M7) false (.fin (decide (y < 0)) y.natAbs (-16)))

/-- Output row `r` (spec/06 R131 to R137): its bytes before padding. -/
def Blk.outputBytes (b : Blk) (f : IspFrame) (r : Nat) : List Byte :=
  let fy := f.fy
  let fx := f.fx
  let grid := (List.range fy).map (fun k =>
    (demosaicRow f b (r * fy + k)).map (fun px => tonePixel b f (matrixed f (balance f px))))
  let n : Int := ((fx * fy : Nat) : Int)
  (List.range (f.outW b)).flatMap (fun x =>
    (List.range (f.channels b)).flatMap (fun c =>
      let sum := grid.foldl (fun a row => (List.range fx).foldl (fun a k => a + nth (nth row (x * fx + k) []) c 0) a) (0 : Int)
      outBytes (f.cfg 12 2) (divHalfUp sum n)))

/-- Zero-padded to whole slots (spec/06 R137). -/
def toSlots (bs : List Byte) : List Byte := bs ++ List.replicate (slotsOf bs.length * 256 - bs.length) 0

end Sys2Proof.Machine
end

