-- ==== Sys2Proof/Machine/Links.lean ====
section
/-! DEFINITION. Machine/Links.lean: the Xanar ports and routing (spec/11): packets and their checks, link training, sending,
forwarding and drops, routing tables and route epochs, pause, the maker image tap. -/

namespace Sys2Proof.Machine

/-! ### Packets -/

/-- Header bytes 0 to 29 (spec/11 R255, spec/12 R278). -/
def headerBytes (p : Packet) : List Byte :=
  natLe 1 (p.cls % 4 + (if p.loc then 4 else 0) + (p.xver % 16) * 16) ++ natLe 1 p.type ++ natLe 1 p.dst ++ natLe 1 p.src ++
  natLe 2 p.payload.length ++ natLe 1 p.hops ++ natLe 1 p.rflags ++ natLe 8 p.addr ++
  natLe 3 p.psn ++ natLe 1 p.dqp ++ natLe 2 p.win ++ natLe 4 p.key ++ natLe 4 p.imm

/-- Flits of a packet (spec/11 R254). -/
def flitsOf (p : Packet) : Nat := ceilDiv (36 + p.payload.length) 64

/-- Every byte of a packet before its CRC (spec/11 R254, R257). -/
def crcBytes (p : Packet) : List Byte :=
  let b := headerBytes p ++ natLe 2 p.hcrc ++ p.payload
  b ++ List.replicate (64 * flitsOf p - 4 - b.length) 0

def goodHcrc (p : Packet) : Nat := (crc16 (headerBytes p)).toNat
def goodCrc (p : Packet) : Nat := (crc32c (crcBytes p)).toNat

/-- A packet with both check values formed. -/
def sealed (p : Packet) : Packet :=
  let p := { p with hcrc := goodHcrc p }
  { p with crc := goodCrc p }

/-- A packet of class 0 with a payload and no further fields (spec/11 Table 3). -/
def controlPacket (type : Nat) (loc : Bool) (dst src : Nat) (payload : List Byte) : Packet :=
  { cls := 0, loc := loc, xver := 1, type := type, dst := dst, src := src, hops := 0, rflags := 0, addr := 0, psn := 0
    dqp := 0, win := 0, key := 0, imm := 0, payload := payload, hcrc := 0, crc := 0 }

/-- A packet's CRC state: 0 good, 1 failing, 2 stomped (spec/11 R257). -/
def crcState (p : Packet) (bad : Bool) : Nat :=
  let good := goodCrc p
  if bad then 1 else if p.crc == good then 0 else if p.crc == 0xFFFFFFFF - good then 2 else 1

/-- The CRC inverted. -/
def stomp (p : Packet) : Packet := { p with crc := 0xFFFFFFFF - p.crc }

/-- TYPE is issued (spec/11 R255, spec/12 R278). -/
def typeIssued (t : Nat) : Bool := t ≤ 5 || (0x40 ≤ t && t ≤ 0x45)

/-- The header check (spec/11 R256). -/
def headerFails (a : Arrival) : Bool :=
  a.badFirst || a.pkt.hcrc != goodHcrc a.pkt || a.pkt.xver != 1 || !typeIssued a.pkt.type ||
  512 < a.pkt.payload.length || a.pkt.cls != a.sideCls

/-! ### Ports -/

def noPort : PortSt := ⟨0, none, none, [none, none, none, none], [false, false, false, false], [], []⟩
def Blk.port (b : Blk) (p : Nat) : PortSt := nth b.ports p noPort
def Blk.setPort (b : Blk) (p : Nat) (x : PortSt) : Blk := { b with ports := setNth b.ports p x }

/-- Link states (spec/11 Table 1). -/
def lsDisabled : Nat := 0
def lsDetect : Nat := 1
def lsEqualise : Nat := 2
def lsAlign : Nat := 3
def lsIdent : Nat := 4
def lsMeasure : Nat := 5
def lsTrained : Nat := 6
def lsOpen : Nat := 7
def Blk.lstate (b : Blk) (p : Nat) : Nat := if b.powered (portPage p) then b.get (XPORT.STATUS_LSTATE p) else 0
def Blk.setLstate (b : Blk) (p s : Nat) : Blk := b.set (XPORT.STATUS_LSTATE p) s

/-- A class is paused by the partner (spec/11 R259). -/
def Blk.classPaused (b : Blk) (p c : Nat) : Bool := bitAt (b.get (XPORT.STATUS_PAUSE_TX p)) c

/-- The port may start a packet of a class now: a frozen port starts none of classes 1 to 3 (spec/11, The XPORT pages). -/
def Blk.mayStart (b : Blk) (p c : Nat) : Bool :=
  !b.classPaused p c && (c == 0 || !b.flag (hFrozen (portPage p)))

/-- A 64-bit counter in two words, `n` more, wrapping. -/
def Blk.addWide (b : Blk) (lo hi : Fld) (n : Nat) : Blk :=
  let v := b.get lo + 2 ^ 32 * b.get hi + n
  (b.set lo (v % 2 ^ 32)).set hi (v / 2 ^ 32)

/-- The node's own endpoint as the input of a packet. -/
def ownInput : Nat := 4

/-- The sideband of a packet's flits; a beat's RESIDUAL is a matter of timing, a free value (notes/assumptions/96). -/
def Blk.sidebands (b : Blk) (p : Nat) (k : Packet) : List Sideband × Blk :=
  let (r, b) := if k.type == 0x40 then b.free 8 else (0, b)
  let n := flitsOf k
  ((List.range n).map (fun i => ⟨k.cls, i == 0, i + 1 == n, b.get (XPORT.STATUS_PAUSE_RX p), r⟩), b)

/-- A packet leaves through a port. -/
def Blk.putOut (b : Blk) (p : Nat) (k : Packet) : Blk :=
  let (side, b) := (b.addWide (XPORT.TX_FLITS_LO p) (XPORT.TX_FLITS_HI p) (flitsOf k)).sidebands p k
  b.emit (.packet p k side)

/-- Flits of a class that the input buffer of a port holds (spec/11 R258, R259): packets waiting at an output or for routing,
and accesses held at the endpoint (spec/12 R290). -/
def Blk.buffered (b : Blk) (p c : Nat) : Nat :=
  let waiting := b.ports.flatMap (fun x => (x.waiting.filter (fun e => e.1 == p)).map (fun e => e.2))
  let held := (b.route.held.filter (fun e => e.1 == some p)).map (fun e => e.2)
  let rx := (b.fab.rx.filter (fun r => r.port == some p && !r.started)).map (fun r => r.pkt)
  (((waiting ++ held ++ rx).filter (fun k => k.cls == c)).map flitsOf).foldl (· + ·) 0

/-- The PAUSE bits that the ports assert (spec/11 R259). -/
def Blk.updatePause (b : Blk) : Blk :=
  b.each [0, 1, 2, 3] (fun b p =>
    if b.trained p then
      let was := b.get (XPORT.STATUS_PAUSE_RX p)
      let bits := maskOf 4 (fun c =>
        let n := b.buffered p c
        b.get (XPORT.PAUSE_THR_XOFF p) ≤ n || (bitAt was c && b.get (XPORT.PAUSE_THR_XON p) < n))
      if bits == was then b else (b.set (XPORT.STATUS_PAUSE_RX p) bits).emit (.pause p bits)
    else b)

/-- A packet from an input leaves through a port, or waits there while its class is paused (spec/11 R255 HOPS, R258, R259). A
forwarded packet keeps its CRC state: `state` 0 good, else stomped (R257). -/
def Blk.sendOn (b : Blk) (p from_ : Nat) (pkt : Packet) (state : Nat) : Blk :=
  let out := sealed { pkt with hops := pkt.hops + 1 }
  let out := if state == 0 then out else stomp out
  if b.mayStart p pkt.cls then b.putOut p out
  else (b.setPort p { b.port p with waiting := (b.port p).waiting ++ [(from_, out)] }).updatePause

/-- How an output has shared its slots since it began to send what waited (spec/11 R258): slots since class 0 had one, flits per
class, and the input each class was last served from. -/
structure OutShare where
  since0 : Nat
  flits : List Nat
  turn : List Nat
deriving DecidableEq, Repr

/-- Weight of a class of 1 to 3; 0 acts as 1 (spec/11 R258, R275). -/
def Blk.classWeight (b : Blk) (p c : Nat) : Nat := max 1 (bitsAt (b.word (regKey (portPage p) 0x050)).toNat (8 * (c - 1)) 8)

/-- The class that goes next (spec/11 R258): class 0 when it has used none of the last 15 slots, or a beat, or nothing else is ready;
else of classes 1 to 3 the one that has had least for its weight (notes/assumptions/97). -/
def Blk.nextClass (b : Blk) (p : Nat) (o : OutShare) (ready : List (Nat × Packet)) : Nat :=
  let has := fun (c : Nat) => ready.any (fun e => e.2.cls == c)
  let others := [1, 2, 3].filter has
  if has 0 && (15 ≤ o.since0 || others.isEmpty || ready.any (fun e => e.2.type == 0x40)) then 0
  else
    let less := fun (x y : Nat) => nth o.flits x 0 * b.classWeight p y < nth o.flits y 0 * b.classWeight p x
    others.foldl (fun best c => if less c best then c else best) (others.headD 0)

/-- The packet of a class that goes next: whole packets round-robin by input, of one input in order (spec/11 R258). -/
def nextPacket (o : OutShare) (c : Nat) (ready : List (Nat × Packet)) : Option (Nat × Packet) :=
  let mine := ready.filter (fun e => e.2.cls == c)
  let order := (List.range 5).map (fun i => (nth o.turn c 4 + 1 + i) % 5)
  (order.filterMap (fun i => mine.find? (fun e => e.1 == i))).head?

/-- The waiting packets that may start leave, at most `fuel` of them. -/
def Blk.drainOut : Nat → Blk → Nat → OutShare → Blk
  | 0, b, _, _ => b
  | fuel + 1, b, p, o =>
    let ready := (b.port p).waiting.filter (fun e => b.mayStart p e.2.cls)
    let c := b.nextClass p o ready
    match nextPacket o c ready with
    | none => b
    | some e =>
      let n := flitsOf e.2
      let o : OutShare := ⟨if c == 0 && e.2.type != 0x40 then 0 else o.since0 + n, setNth o.flits c (nth o.flits c 0 + n), setNth o.turn c e.1⟩
      Blk.drainOut fuel ((b.setPort p { b.port p with waiting := (b.port p).waiting.erase e }).putOut p e.2) p o

/-- Packets waiting at a port that may now start leave. -/
def Blk.drainPort (b : Blk) (p : Nat) : Blk :=
  (Blk.drainOut (b.port p).waiting.length b p ⟨15, [0, 0, 0, 0], [4, 4, 4, 4]⟩).updatePause

/-- The ports that carry fleet traffic. -/
def Blk.fleetPorts (b : Blk) : List Nat := indicesWhere 4 b.fleetPort

/-! ### Routing (spec/11 R267 to R269) -/

def Blk.rtWord (b : Blk) (bank w : Nat) : Word := Tbl.get (dflt 0) b.route.tables (bank * 32 + w)

/-- Entry of a node in the table in force (spec/11 R267). -/
def Blk.rtEntry (b : Blk) (dst : Nat) : Nat :=
  bitsAt (b.rtWord (b.get XROUTE.STATUS_TABLE_ACTIVE) (dst / 8)).toNat (4 * (dst % 8)) 4

/-- HOP_LIMIT; 0 acts as 1. -/
def Blk.hopLimit (b : Blk) : Nat := max 1 (b.get XROUTE.HOP_LIMIT)

/-- A drop (spec/11 R269, R276): case 0 no route, 1 port down, 2 U-turn, 3 hops. -/
def Blk.dropPacket (b : Blk) (case_ dst : Nat) : Blk :=
  let f := if case_ == 0 then XROUTE.DROP_NOROUTE else if case_ == 1 then XROUTE.DROP_PORTDOWN
    else if case_ == 2 then XROUTE.DROP_UTURN else XROUTE.DROP_HOPS
  ((b.bumpSat f).raise XROUTE.IRQ_RAW_DROP).captureOwn Page.XROUTE 0x05 (dst % 256 + 256 * case_)

/-- The port takes routed packets of this kind (spec/11 R269). -/
def Blk.portTakes (b : Blk) (p : Nat) (pkt : Packet) : Bool :=
  (if pkt.cls == 0 && pkt.type == 0x44 then b.trained p else b.portOpen p) && !b.flag (XPORT.STATUS_TAP_MODE p)

/-- What routing decides for a packet for another node (spec/11 R268, R269): its output port, or the case of its drop. -/
def Blk.routeOf (b : Blk) (from_ : Nat) (pkt : Packet) : Sum Nat Nat :=
  let e := b.rtEntry pkt.dst
  if 4 ≤ e then .inr 0
  else if !b.portTakes e pkt then .inr 1
  else if from_ == e then .inr 2
  else if b.hopLimit < pkt.hops + 1 then .inr 3
  else .inl e

/-- A packet for another node takes its port, or is dropped (spec/11 R268, R269). -/
def Blk.forward (b : Blk) (from_ : Nat) (pkt : Packet) (state : Nat) : Blk :=
  match b.routeOf from_ pkt with
  | .inl e => b.sendOn e from_ pkt state
  | .inr d => b.dropPacket d pkt.dst

/-- A packet on its way from the node's own endpoint back to it (spec/11 R268): it arrives after its traversal, before anything
else that happens at the endpoint (notes/assumptions/32). -/
def Blk.loopOwn (b : Blk) (pkt : Packet) : Blk := { b with route := { b.route with own := b.route.own ++ [sealed pkt] } }

/-- A packet from the node's own endpoint is routed like any other (spec/11 R268). While XROUTE is stopped it is held. -/
def Blk.sendRouted (b : Blk) (pkt : Packet) : Blk :=
  if !b.active Page.XROUTE then { b with route := { b.route with held := b.route.held ++ [(none, pkt)] } }
  else if pkt.dst == b.get XROUTE.NODE_ID then b.loopOwn pkt
  else b.forward ownInput pkt 0

/-- A packet sent to the link partner (LOCAL). -/
def Blk.sendLocal (b : Blk) (p : Nat) (pkt : Packet) : Blk := b.sendOn p ownInput pkt 0

/-! ### Training (spec/11 R250 to R253) -/

/-- The port goes down to DETECT (spec/11 R251, R253): OPEN clears, pause bits clear, packets waiting to leave are dropped, and one
whose tail had not arrived ends stomped where it was going. -/
def Blk.portDown (b : Blk) (p : Nat) : Blk :=
  let b := (b.setLstate p lsDetect).set (XPORT.PORT_CTRL_OPEN p) 0
  let b := ((b.set (XPORT.STATUS_MISCABLED p) 0).set (XPORT.STATUS_PAUSE_TX p) 0).set (XPORT.STATUS_PAUSE_LONG p) 0
  let b := (b.bump (XPORT.TRAIN_STATUS_RETRAINS p)).raise (XPORT.IRQ_RAW_LINK_DOWN p)
  let b := b.captureOwnFree (portPage p) 0x04
  let b := b.set (XPORT.STATUS_PAUSE_RX p) 0
  let x := b.port p
  let b := b.setPort p { x with
    waiting := [], arriving := [], ident := none, pausedAt := noPort.pausedAt, warned := noPort.warned }
  let b := { b with ep := { b.ep with latest := setNth b.ep.latest p none } }
  let b := b.each x.arriving (fun b e => if e.2 < 4 && e.2 != p then b.sendOn e.2 p e.1 2 else b)
  b.each x.waiting (fun b e => if e.2.loc then b else b.dropPacket 1 e.2.dst)

/-- LINK_DOWN (spec/11 R251): lock lost (`lockLost`; TRAIN_STATUS records it while the port trains, notes/assumptions/66), or `uncorr` uncorrectable codewords within a line period, of which
`counted` came with packets and stand in FEC_UNCORR already (notes/assumptions/72). -/
def Blk.linkDown (b : Blk) (p uncorr counted : Nat) (lockLost : Bool) : Blk :=
  if p < 4 && lsIdent ≤ b.lstate p then
    let st := b.lstate p
    let b := b.addSat (XPORT.FEC_UNCORR p) (uncorr - counted)
    if lockLost || b.get (XPORT.UNCORR_LIMIT p) < uncorr then
      let b := b.portDown p
      if lockLost && st < lsTrained then (b.set (XPORT.TRAIN_STATUS_FAIL_STATE p) st).set (XPORT.TRAIN_STATUS_FAIL_CAUSE p) 3 else b
    else b
  else b

/-- LINK_SIGNAL_DETECT (spec/11 R250): ignored while the port waits after three failures. -/
def Blk.linkSignal (b : Blk) (p : Nat) : Blk :=
  if p < 4 && b.lstate p == lsDetect && (b.port p).backoff.isNone then b.setLstate p lsEqualise else b

/-- LINK_ADAPTED (spec/11 R250). -/
def Blk.linkAdapted (b : Blk) (p : Nat) : Blk := if p < 4 && b.lstate p == lsEqualise then b.setLstate p lsAlign else b

/-- LINK_ALIGNED (spec/11 R250). -/
def Blk.linkAligned (b : Blk) (p : Nat) : Blk := if p < 4 && b.lstate p == lsAlign then b.setLstate p lsIdent else b

/-- The IDENT payload of a port (spec/11 Table 4). -/
def Blk.identBytes (b : Blk) (p : Nat) : List Byte :=
  natLe 1 (b.get XROUTE.NODE_ID) ++ natLe 1 p ++ natLe 1 b.unit.stepping ++ List.replicate 13 0

/-- IDENT_SEND (spec/11 R250, R251): in IDENT and in every later state but on a tap port (notes/assumptions/67). -/
def Blk.identSend (b : Blk) (p : Nat) : Blk :=
  if p < 4 && lsIdent ≤ b.lstate p && !b.flag (XPORT.STATUS_TAP_MODE p) then
    b.sendLocal p (controlPacket 0x42 true 0 (b.get XROUTE.NODE_ID) (b.identBytes p))
  else b

/-- The node EXPECT names for a port (spec/11 R265). -/
def Blk.expectOf (b : Blk) (p : Nat) : Nat := bitsAt (b.word (regKey Page.XROUTE 0x044)).toNat (8 * p) 8

/-- The port opposite: N faces S, E faces W (spec/11 R265). -/
def facing (p : Nat) : Nat := (p + 2) % 4

/-- An IDENT payload matches EXPECT (spec/11 R252, R265). -/
def Blk.identFits (b : Blk) (p : Nat) (id : List Byte) : Bool :=
  b.expectOf p == 0xFF || (b.expectOf p == leAt id 0 1 && leAt id 1 1 == facing p)

/-- A PROBE payload (spec/11 Table 4): SEQ, KIND 0 request or 1 reply, TURN. -/
def probeBytes (seq kind turn : Nat) : List Byte := natLe 1 seq ++ natLe 1 kind ++ natLe 2 0 ++ natLe 4 turn ++ natLe 8 0

/-- A probe sent to the partner. -/
def Blk.sendProbe (b : Blk) (p seq kind turn : Nat) : Blk :=
  b.sendLocal p (controlPacket 0x43 true 0 (b.get XROUTE.NODE_ID) (probeBytes seq kind turn))

/-- PROBE as it arrives (spec/02 R43, spec/11 Table 4): a request is answered with the turnaround, a free value of timing; what the
replies tell is LINK_MEASURE_DONE's delay (notes/assumptions/96). -/
def Blk.probeReceive (b : Blk) (p : Nat) (d : List Byte) : Blk :=
  if leAt d 1 1 != 0 then b
  else
    let (turn, b) := b.free 32
    b.sendProbe p (leAt d 0 1) 1 turn

/-- The partner matches: on to MEASURE and its 16 probes; else MISCABLED (spec/11 R250, R252). -/
def Blk.judgeIdent (b : Blk) (p : Nat) (id : List Byte) : Blk :=
  if b.identFits p id then
    ((b.set (XPORT.STATUS_MISCABLED p) 0).setLstate p lsMeasure).each (List.range 16) (fun b i => b.sendProbe p i 0 0)
  else if b.flag (XPORT.STATUS_MISCABLED p) then b
  else ((b.set (XPORT.STATUS_MISCABLED p) 1).raise (XPORT.IRQ_RAW_MISCABLED p)).captureOwnFree (portPage p) 0x05

/-- IDENT_RECEIVE (spec/11 R250 to R252): the partner's XVER and payload. -/
def Blk.identReceive (b : Blk) (p xver : Nat) (id : List Byte) : Blk :=
  if !(p < 4 && lsIdent ≤ b.lstate p) then b
  else
    let before := (b.port p).ident
    let b := ((b.set (XPORT.PARTNER_NODE p) (leAt id 0 1)).set (XPORT.PARTNER_PORT p) (leAt id 1 1)).set
      (XPORT.PARTNER_XVER p) xver
    let b := (b.set (XPORT.PARTNER_ROLE p) (leAt id 3 1)).set (XPORT.PARTNER_VALID p) 1
    if before.isSome && before != some id then b.portDown p
    else
      let b := b.setPort p { b.port p with ident := some id }
      if b.lstate p == lsIdent && xver == 1 then b.judgeIdent p id else b

/-- EXPECT rewritten: a port held in IDENT as MISCABLED goes on when its partner now matches (spec/11 R252). -/
def Blk.expectChanged (b : Blk) : Blk :=
  b.each [0, 1, 2, 3] (fun b p =>
    match (b.port p).ident with
    | some id => if b.lstate p == lsIdent && b.flag (XPORT.STATUS_MISCABLED p) && b.identFits p id then b.judgeIdent p id else b
    | none => b)

/-- XOFF from the measured delay in picoseconds (spec/11 R259). -/
def xoffOf (delayPs : Int) : Int := 1024 - ((2 * delayPs + 40000 + 2559) / 2560) - 9

/-- A count that must fit 11 bits; outside them a free value (notes/assumptions/29). -/
def Blk.thresholdOr (b : Blk) (x : Int) : Nat × Blk := if 0 ≤ x && x < 2048 then (x.toNat, b) else b.free 11

/-- The delay as it goes into PORTn_DELAY (spec/02 R43): what does not fit the field reads as a free value (notes/assumptions/29). -/
def Blk.delayOr (b : Blk) (d : Int) : Nat × Blk := if 0 ≤ d && d < 2 ^ 20 then (d.toNat, b) else b.free 20

/-- LINK_MEASURE_DONE (spec/02 R43, spec/11 R250, R259): the averaged one-way delay in picoseconds. A delay out of range
sets DELAY_RANGE and no VALID delay (notes/assumptions/29). -/
def Blk.measureDone (b : Blk) (p : Nat) (delayPs : Int) : Blk :=
  if p < 4 && b.lstate p == lsMeasure then
    let ok := 0 ≤ delayPs && delayPs ≤ 1000000
    let b := (b.when (!ok) (fun b => b.raise XEPOCH.FAULT_DELAY_RANGE)).set (XEPOCH.PORT_DELAY_VALID p) (bitNat ok)
    let b := b.when (!b.flag (XEPOCH.PORT_DELAY_OVR p)) (fun b =>
      let (d, b) := b.delayOr delayPs
      b.conf (XEPOCH.PORT_DELAY_DELAY_PS p) d)
    let b := { b with ep := { b.ep with delayBad := setNth b.ep.delayBad p (!ok) } }
    let (off, b) := b.thresholdOr (xoffOf delayPs)
    let (on, b) := b.thresholdOr ((off : Int) - 64)
    let b := (b.set (XPORT.PAUSE_THR_XOFF p) off).set (XPORT.PAUSE_THR_XON p) on
    let b := b.setPort p { b.port p with fails := 0, backoff := none }
    (b.setLstate p lsTrained).raise (XPORT.IRQ_RAW_LINK_UP p)
  else b

/-- TRAIN_TIMEOUT (spec/11 R250): a training state outlived its limit. -/
def Blk.trainTimeout (b : Blk) (p : Nat) : Blk :=
  let st := b.lstate p
  if p < 4 && lsEqualise ≤ st && st ≤ lsMeasure && !(st == lsIdent && b.flag (XPORT.STATUS_MISCABLED p)) then
    let cause := if st == lsIdent && (b.port p).ident.isSome && b.get (XPORT.PARTNER_XVER p) != 1 then 2 else 1
    let b := (b.set (XPORT.TRAIN_STATUS_FAIL_STATE p) st).set (XPORT.TRAIN_STATUS_FAIL_CAUSE p) cause
    let b := ((b.raise (XPORT.IRQ_RAW_TRAIN_FAIL p)).captureOwnFree (portPage p) 0x01).setLstate p lsDetect
    let n := (b.port p).fails + 1
    b.setPort p { b.port p with
      fails := if 3 ≤ n then 0 else n, ident := none, backoff := if 3 ≤ n then some b.ep.line else none }
  else b

/-- TRAIN_BACKOFF_END (spec/11 R250): 300,000 line periods after the third failure. -/
def Blk.trainBackoffEnd (b : Blk) (p : Nat) : Blk :=
  match (b.port p).backoff with
  | some s => if 300000 ≤ b.linesSince s then b.setPort p { b.port p with backoff := none } else b
  | none => b

/-- CTRL.EN of a port: 0 is DISABLED whatever else happens; 1 leaves DISABLED for DETECT (spec/11 R250). -/
def Blk.portEnable (b : Blk) (p : Nat) (en : Bool) : Blk :=
  if en then (if b.lstate p == lsDisabled then b.setLstate p lsDetect else b)
  else
    let b := if lsIdent ≤ b.lstate p then b.portDown p else b
    (b.setPort p noPort).setLstate p lsDisabled

/-- A write of 1 to TAP that is refused (spec/11 R274): it has no effect, and the safety monitor logs it (notes/assumptions/98). -/
def Blk.tapRefused (b : Blk) (p : Nat) (a : Agent) : Blk :=
  ((b.raise (XPORT.IRQ_RAW_TAP_REFUSED p)).captureFree (portPage p) 0x06 (agentCode a)).report 0 (portPage p)

/-- A write of PORT_CTRL (spec/11 R250, R251, R274). OPEN is taken in TRAINED and OPEN only (notes/assumptions/30). TAP = 1
needs the life-cycle state MAKER (1) or RETURN (3) and an open presence window. -/
def Blk.writePortCtrl (b : Blk) (p : Nat) (a : Agent) (v : Nat) : Blk :=
  let life := b.get LIFE.STATE
  if bitAt v 2 && !((life == 1 || life == 3) && b.flag OASIS.STATUS_PRES_WINDOW) then b.tapRefused p a
  else
    let b := b.set (XPORT.PORT_CTRL_TAP_CTX p) (bitsAt v 8 6)
    let b := (b.set (XPORT.PORT_CTRL_TAP p) (bitsAt v 2 1)).set (XPORT.STATUS_TAP_MODE p) (bitsAt v 2 1)
    let b :=
      if bitAt v 0 then
        (if b.lstate p == lsTrained then
          ((b.set (XPORT.PORT_CTRL_OPEN p) 1).setLstate p lsOpen).raise (XPORT.IRQ_RAW_OPENED p) else b)
      else b.closePort p
    if bitAt v 1 && lsIdent ≤ b.lstate p then b.portDown p else b

/-- TAP clears when the node leaves MAKER or RETURN (spec/11 R274). -/
def Blk.tapLifeCheck (b : Blk) : Blk :=
  let life := b.get LIFE.STATE
  if life == 1 || life == 3 then b
  else b.each [0, 1, 2, 3] (fun b p => (b.set (XPORT.PORT_CTRL_TAP p) 0).set (XPORT.STATUS_TAP_MODE p) 0)

/-- The chunks of at most `n` bytes of a list, with their offsets. -/
def chunksFrom (n : Nat) : Nat → Nat → List Byte → List (Nat × List Byte)
  | 0, _, _ => []
  | fuel + 1, at_, bs => if bs.isEmpty then [] else (at_, bs.take n) :: chunksFrom n fuel (at_ + n) (bs.drop n)
def chunks (n : Nat) (bs : List Byte) : List (Nat × List Byte) := chunksFrom n (bs.length / n + 1) 0 bs

/-- An output row of a context goes out on its tap ports, or is counted as dropped (spec/11 R274). -/
def Blk.tapRow (b : Blk) (ctx row : Nat) (bytes : List Byte) : Blk :=
  b.each (indicesWhere 4 (fun p => b.powered (portPage p) && b.flag (XPORT.STATUS_TAP_MODE p) &&
      b.get (XPORT.PORT_CTRL_TAP_CTX p) == ctx)) (fun b p =>
    if b.trained p && b.get (XPORT.PARTNER_ROLE p) == 1 && b.mayStart p 3 then
      (chunks 512 bytes).foldl (fun b c =>
        b.sendLocal p { controlPacket 0x45 true 0 (b.get XROUTE.NODE_ID) c.2 with
          cls := 3, addr := ctx + row * 2 ^ 8 + c.1 * 2 ^ 32 }) b
    else b.bumpSat (XPORT.TAP_DROPPED p))

/-! ### Pause (spec/11 R259, R260) -/

/-- PAUSE_BIT_CHANGE (spec/11 R259): the partner's PAUSE bit of a class. -/
def Blk.pauseBit (b : Blk) (p c : Nat) (on : Bool) : Blk :=
  if p < 4 && c < 4 && b.trained p && b.classPaused p c != on then
    let b := b.set (XPORT.STATUS_PAUSE_TX p) (putBits (b.get (XPORT.STATUS_PAUSE_TX p)) c 1 (bitNat on))
    let x := b.port p
    let x := { x with pausedAt := setNth x.pausedAt c (if on then some b.ep.line else none), warned := setNth x.warned c false }
    let b := b.setPort p x
    let b := if x.warned.contains true then b else b.set (XPORT.STATUS_PAUSE_LONG p) 0
    b.drainPort p
  else b

/-- PAUSE_LONG (spec/11 R260): a class paused for PAUSE_WARN line periods, once in each pause. STATUS.PAUSE_LONG shows while such a
class is still paused (notes/assumptions/97). -/
def Blk.pauseLong (b : Blk) (p c : Nat) : Blk :=
  let x := b.port p
  match nth x.pausedAt c none with
  | some s =>
    if p < 4 && b.get (XPORT.PAUSE_WARN p) ≤ b.linesSince s && !nth x.warned c false then
      let b := b.setPort p { x with warned := setNth x.warned c true }
      let b := (b.set (XPORT.STATUS_PAUSE_LONG p) 1).raise (XPORT.IRQ_RAW_PAUSE_LONG p)
      (b.captureOwnFree (portPage p) 0x07).report 0x10 (portPage p)
    else b
  | none => b

/-- At a line period's start every paused class counts it (spec/11 R275 PAUSED_TIME). -/
def Blk.countPaused (b : Blk) : Blk :=
  b.each [0, 1, 2, 3] (fun b p =>
    if b.powered (portPage p) then
      b.each (indicesWhere 4 (fun c => b.classPaused p c)) (fun b c => b.bumpSat (XPORT.PAUSED_TIME p c))
    else b)

/-! ### Tables and route epochs (spec/11 R263, R267, R270 to R273) -/

/-- RT_SEL.WORD advances after an RT_DATA access (spec/11 R267). -/
def Blk.rtAdvance (b : Blk) : Blk := b.set XROUTE.RT_SEL_WORD (b.get XROUTE.RT_SEL_WORD + 1)

/-- A read of RT_DATA. -/
def Blk.readRtData (b : Blk) : Word × Blk :=
  (b.rtWord (b.get XROUTE.RT_SEL_BANK) (b.get XROUTE.RT_SEL_WORD), b.rtAdvance)

/-- A write of RT_DATA: not to the table in force. -/
def Blk.writeRtData (b : Blk) (a : Agent) (v : Word) : Blk :=
  let bank := b.get XROUTE.RT_SEL_BANK
  if bank == b.get XROUTE.STATUS_TABLE_ACTIVE then (b.captureFree Page.XROUTE 0x01 (agentCode a)).rtAdvance
  else
    let k := bank * 32 + b.get XROUTE.RT_SEL_WORD
    { b with route := { b.route with tables := Tbl.put (dflt 0) b.route.tables k v } }.rtAdvance

/-- A write of NODE_ID (spec/11 R263). -/
def Blk.writeNodeId (b : Blk) (a : Agent) (v : Nat) : Blk :=
  if (List.range 4).any (fun p => lsIdent ≤ b.lstate p) then b.captureFree Page.XROUTE 0x04 (agentCode a)
  else (b.conf XROUTE.NODE_ID v).markChanged Page.XROUTE

/-- Epoch `e` is newer than `c` (spec/11 R270). -/
def newerEpoch (e c : Nat) : Bool := let d := (e + 65536 - c) % 65536; 1 ≤ d && d ≤ 32767

/-- The switch is scheduled. -/
def Blk.scheduleSwitch (b : Blk) (e : Nat) (at_ : Coord) : Blk :=
  let b := { b with route := { b.route with pending := some (e, at_) } }
  (b.set XROUTE.STATUS_SWITCH_PENDING 1).set XROUTE.RS_STATUS_PENDING 1

/-- The ROUTE_EPOCH payload (spec/11 Table 6). -/
def routeEpochBytes (e origin : Nat) (at_ : Nat) : List Byte :=
  natLe 2 e ++ natLe 1 origin ++ natLe 1 0 ++ natLe 8 at_ ++ natLe 4 0

/-- A write of RS_CTRL (spec/11 R271). -/
def Blk.writeRsCtrl (b : Blk) (a : Agent) (v : Nat) : Blk :=
  let b := b.set XROUTE.RS_CTRL_EPOCH (bitsAt v 16 16)
  let e := b.get XROUTE.RS_CTRL_EPOCH
  let at_ := b.get XROUTE.RS_AT_LO + 2 ^ 32 * b.get XROUTE.RS_AT_HI
  if !bitAt v 0 then b
  else if coordReached (b.coordPlus b.now 3) (b.normal (coordOfNat at_)) then
    b.captureFree Page.XROUTE 0x02 (agentCode a)
  else if !(b.flag XROUTE.RT_ARM_ARMED && b.get XROUTE.RT_ARM_EPOCH == e) then
    b.captureFree Page.XROUTE 0x03 (agentCode a)
  else
    let b := b.scheduleSwitch e (coordOfNat at_)
    let self := b.get XROUTE.NODE_ID
    b.each b.fleetPorts (fun b p => b.sendLocal p (controlPacket 0x41 true 0 self (routeEpochBytes e self at_)))

/-- The pending switch is given up (spec/11 R272). -/
def Blk.dropSwitch (b : Blk) : Blk :=
  ({ b with route := { b.route with pending := none } }.set XROUTE.STATUS_SWITCH_PENDING 0).set XROUTE.RS_STATUS_PENDING 0

/-- ROUTE_EPOCH_RECEIVE (spec/11 R272): taken when newer than the epoch in force or than one already pending, and passed on with the
SRC and HOPS it came with. A newer epoch replaces the pending one, which an older one leaves as it is (notes/assumptions/31). -/
def Blk.routeEpochReceive (b : Blk) (p : Nat) (d : RouteEpochIn) : Blk :=
  let e := leAt d.payload 0 2
  let overPending := b.route.pending.any (fun x => newerEpoch e x.1)
  let older := b.route.pending.any (fun x => newerEpoch x.1 e)
  if !b.enabled Page.XROUTE || !b.fleetPort p || !(newerEpoch e (b.get XROUTE.RS_STATUS_LAST_EPOCH) || overPending) then b
  else
    let b := b.each (b.fleetPorts.filter (fun q => q != p)) (fun b q =>
      b.sendLocal q { controlPacket 0x41 true 0 d.src d.payload with hops := d.hops })
    if b.flag XROUTE.RT_ARM_ARMED && b.get XROUTE.RT_ARM_EPOCH == e then
      let at_ := coordOfNat (leAt d.payload 4 8)
      if older then b
      else if b.reached at_ then
        let b := (b.set XROUTE.RS_STATUS_LATE 1).raise XROUTE.IRQ_RAW_LATE
        b.scheduleSwitch e (b.coordPlus b.now 1)
      else b.scheduleSwitch e at_
    else
      let b := b.when overPending Blk.dropSwitch
      ((b.set XROUTE.RS_STATUS_UNARMED 1).raise XROUTE.IRQ_RAW_UNARMED).captureOwnFree Page.XROUTE 0x03

/-- ROUTE_SWITCH (spec/11 R273): at its coordinate the spare table comes into force. -/
def Blk.routeSwitch (b : Blk) : Blk :=
  match b.route.pending with
  | some (e, at_) =>
    if b.powered Page.XROUTE && b.reached at_ then
      let b := b.set XROUTE.STATUS_TABLE_ACTIVE (1 - b.get XROUTE.STATUS_TABLE_ACTIVE)
      let b := ((b.set XROUTE.RT_ARM_ARMED 0).set XROUTE.RS_STATUS_LAST_EPOCH e).bump XROUTE.SWITCH_COUNT
      let b := ((b.set XROUTE.STATUS_SWITCH_PENDING 0).set XROUTE.RS_STATUS_PENDING 0).raise XROUTE.IRQ_RAW_SWITCHED
      { b with route := { b.route with pending := none } }
    else b
  | none => b

/-- The packets a stopped XROUTE held are routed once it runs again. -/
def Blk.releaseHeld (b : Blk) : Blk :=
  let hs := b.route.held
  let b := { b with route := { b.route with held := [] } }
  hs.foldl (fun b h =>
    if h.2.dst == b.get XROUTE.NODE_ID then b.loopOwn h.2
    else b.forward (h.1.getD ownInput) h.2 (if h.1.isNone then 0 else crcState h.2 false)) b.updatePause

/-- The beat a BEAT packet carries (spec/02 R41 Table 3). -/
def beatOfBytes (p : List Byte) : Beat :=
  let f := leAt p 15 1
  { line := BitVec.ofNat 48 (leAt p 0 6), f := BitVec.ofNat 32 (leAt p 6 4), l := leAt p 10 2 % 16384
    master := leAt p 12 1, sender := leAt p 13 1, depth := leAt p 14 1, mode := bitsAt f 0 2, pendMode := bitsAt f 2 2
    pendValid := bitAt f 4, syncInDriven := bitAt f 5, inHoldover := bitAt f 6
    modeAtF := BitVec.ofNat 32 (leAt p 16 4), seq := BitVec.ofNat 32 (leAt p 20 4) }

/-- The payload of a BEAT packet (spec/02 R41 Table 3). -/
def beatBytes (t : Beat) : List Byte :=
  let flags := t.mode % 4 + 4 * (t.pendMode % 4) + 16 * bitNat t.pendValid + 32 * bitNat t.syncInDriven + 64 * bitNat t.inHoldover
  natLe 6 t.line.toNat ++ natLe 4 t.f.toNat ++ natLe 2 (t.l % 16384) ++ natLe 1 t.master ++ natLe 1 t.sender ++ natLe 1 t.depth ++
  natLe 1 flags ++ natLe 4 t.modeAtF.toNat ++ natLe 4 t.seq.toNat ++ natLe 8 0

/-- BEAT_SEND (spec/02 R41): a BEAT packet of class 0 to each partner (spec/11 Table 3). -/
def Blk.beatSend (b : Blk) : Blk :=
  if b.beatDue then
    let payload := beatBytes b.ownBeat
    let self := b.get XROUTE.NODE_ID
    let b := b.each b.beatPorts (fun b p => b.sendLocal p (controlPacket 0x40 true 0 self payload))
    { b with ep := { b.ep with seq := b.ep.seq + 1, lastBeat := some b.ep.line } }
  else b

end Sys2Proof.Machine
end

