-- ==== Sys2Proof/Machine/Isp.lean ====
section
/-! DEFINITION. Machine/Isp.lean: the image pipeline's frames, output rows, descriptors, statistics and tables (spec/06). -/

namespace Sys2Proof.Machine

/-- Causes (spec/06 R144). -/
def icParamBad : Nat := 0x01
def icOutHeld : Nat := 0x02
def icTableInForce : Nat := 0x03
def icTableEcc : Nat := 0x04
def icDescLost : Nat := 0x05
def icOutFault : Nat := 0x06

def Blk.setFrames (b : Blk) (l : List IspFrame) : Blk := { b with isp := { b.isp with frames := l } }
def Blk.setFrame (b : Blk) (k : Nat) (f : IspFrame) : Blk := b.setFrames (setNth b.isp.frames k f)

/-- Index of the frame the next line of a context belongs to. -/
def Blk.frameOf (b : Blk) (c : Nat) : Option Nat := b.isp.frames.findIdx? (fun f => f.ctx == c && f.ended.isNone)

/-- Rows in a context's output hold. -/
def Blk.heldRows (b : Blk) (c : Nat) : Nat :=
  ((b.isp.frames.filter (fun f => f.ctx == c)).map (fun f => f.held.length)).sum

/-- A frame neither refused, abandoned nor of a disabled context. -/
def IspFrame.live (f : IspFrame) : Bool := f.en && f.check == 0 && !f.abandoned

/-! ### Descriptors -/

/-- What an external context holds before its first frame. -/
def noCam : CamCtx := ⟨⟨0, 0, 0⟩, 0, 0, 0, none, 0, 0, false, 0, 0, 0⟩
def Blk.camCtx (b : Blk) (j : Nat) : CamCtx := nth b.cam.ctx j noCam

/-- The flag byte of a frame (spec/05 R115): as its end carried it, else as it waits in the store, else as it stands. -/
def Blk.frameFlags (b : Blk) (f : IspFrame) : Nat :=
  match f.ended with
  | some x => x
  | none =>
    match b.cam.store.findSome? (fun l =>
      match l.kind with | .endOfFrame x => if l.ctx == f.ctx then some x else none | _ => none) with
    | some x => x
    | none => if f.own then b.get (CROUTE.OWN_STATE_FLAGS f.ctx) else (b.camCtx (f.ctx - 4)).flags

/-- The frame descriptor (spec/06 R141 Table 5). -/
def IspFrame.descBytes (f : IspFrame) (b : Blk) : List Byte :=
  natLe 8 (coordNat f.coord) ++ natLe 1 f.ctx ++ natLe 1 (b.frameFlags f) ++ natLe 1 f.ispFlags ++ natLe 1 f.check ++
  natLe 2 f.written ++ natLe 2 (if f.fx == 0 then 0 else f.outW b) ++ natLe 2 (if f.fy == 0 then 0 else f.outH b) ++
  natLe 2 (twosOf 16 f.temp) ++ natLe 4 f.statSeq ++ natLe 4 f.srcFn ++ natLe 4 0

/-- CTX_STATUS takes the flags of the last frame (spec/06 R144). -/
def Blk.showFrame (b : Blk) (f : IspFrame) : Blk :=
  ((b.set (ISP.CTX_STATUS_FLAGS f.ctx) (b.frameFlags f)).set (ISP.CTX_STATUS_ISP_FLAGS f.ctx) f.ispFlags).set
    (ISP.CTX_STATUS_CHECK f.ctx) f.check

/-- Erg owes the GAP of a frame that fails, with its ISP_FLAGS (spec/15 R386 Table 7). -/
def Blk.oweIsp (b : Blk) (f : IspFrame) : Blk := b.oweGap f.ctx f.coord gapIsp f.ispFlags

/-- The descriptor of frame `k` is dropped (spec/06 R141); a frame that failed before has its GAP already. -/
def Blk.dropDesc (b : Blk) (k : Nat) (f : IspFrame) : Blk :=
  let b := ((b.setFrame k { f with descDone := true, descAt := none }).raise ISP.IRQ_RAW_DESC_LOST).captureOwnFree
    Page.ISP icDescLost
  b.when f.live (fun b => b.oweIsp f)

/-- The tile of an ISP write faults: its domain is off, it is mapped out, or the slot does not exist. -/
def Blk.ispFault (b : Blk) (t slot n : Nat) : Bool :=
  !b.powered (tilePage t) || b.tstate t == tsMappedOut || 12288 < slot + n

/-- The descriptor of frame `k` is written, waits for its slot, or is dropped (spec/06 R124, R139, R141). Without DESC.EN
there is none (notes/assumptions/37). -/
def Blk.writeDesc (b : Blk) (k : Nat) (f : IspFrame) : Blk :=
  let b := (b.showFrame f).tagVote f.descTile f.descSlot
  if f.descDone || !f.descEn then b.setFrame k { f with descDone := true }
  else if b.ispFault f.descTile f.descSlot 1 then b.dropDesc k f
  else if b.foundFull f.descTile f.descSlot then
    b.setFrame k { f with descAt := some (f.descAt.getD b.ep.line) }
  else
    let b := (b.spmWrite f.descTile (f.descSlot * 256) (f.descBytes b) 8).2
    (b.setTag f.descTile f.descSlot true).setFrame k { f with descDone := true, descAt := none }

/-- A frame is abandoned (spec/06 R139): no further rows, the descriptor at once, one GAP. -/
def Blk.abandon (b : Blk) (k : Nat) (f : IspFrame) (cause : Nat) : Blk :=
  let f := { f with abandoned := true, held := [], ispFlags := putBits f.ispFlags 1 1 1 }
  let b := (b.bumpSat (ISP.CTX_COUNT_ABANDON_COUNT f.ctx)).raise ISP.IRQ_RAW_ABANDONED
  let b := b.failJobs (fun i => i.part == .stem && i.views.contains f.ctx) (gapIsp, f.ispFlags)
  ((b.captureOwnFree Page.ISP cause).oweIsp f).writeDesc k f

/-! ### Frame starts -/

/-- The 16 words of a context's block in force. -/
def Blk.ispParams (b : Blk) (c : Nat) : List Nat :=
  (List.range 16).map (fun i => (b.word (regKey Page.ISP (0x400 + 0x40 * c + 4 * i))).toNat)

/-- A context frame enters the pipeline (spec/06 R123, R124): the parameter set is taken and checked. -/
def Blk.ispFrameStart (b : Blk) (f : IspFrame) : Blk :=
  if !b.powered Page.ISP then b
  else
    let temp := signedOf 16 (b.get SEN.TEMP_MAX)
    let clamp := f.own && (temp < -80 || 340 < temp)
    let f := { f with params := b.ispParams f.ctx, temp := temp, hot := b.flag SEN.STATUS_HOT, coord := b.now
                      obHcg := b.sen.obHcg, obLcg := b.sen.obLcg, mode := b.mode
                      banks := b.get ISP.UNIT_BANKS_DEFECT_BANK + 2 * b.get ISP.UNIT_BANKS_DARK_BANK
                      statOn := b.active Page.ISPSTAT }
    let f := { f with ispFlags := (if clamp then 8 else 0) + (if f.hot then 32 else 0) }
    let k := b.isp.frames.length
    let b := b.when clamp (fun b => b.raise ISP.IRQ_RAW_DARK_CLAMP)
    let b := b.set (ISP.CTX_STATUS_LATENCY f.ctx) (f.la b + 4)
    if !f.en then b.setFrames (b.isp.frames ++ [f])
    else
      let code := f.checkCode b
      let b := b.when (f.own && f.cfg 6 1 == 1) (fun b =>
        b.addSat ISP.DEFECT_SKIP (b.defectWalk (bitsAt f.banks 0 1)).2)
      if code == 0 then b.setFrames (b.isp.frames ++ [f])
      else
        let f := { f with check := code, ispFlags := putBits f.ispFlags 0 1 1 }
        let b := b.setFrames (b.isp.frames ++ [f])
        let b := (b.raise ISP.IRQ_RAW_PARAM_BAD).captureOwn Page.ISP icParamBad (f.ctx + code * 64)
        (b.oweIsp f).writeDesc k f

/-- A frame with nothing in it yet. -/
def blankFrame (ctx width height : Nat) : IspFrame :=
  ⟨ctx, ⟨0, 0⟩, [], width, height, 0, 0, 0, 0, 0, 0, false, [], [], 0, false, 0, 0, 0, false, [], [], 0, 0, [], ⟨[], [], [], []⟩,
   none, none, false, 0⟩

/-! ### Statistics -/

def satOver (level x : Nat) : Nat := if level ≤ x then 1 else 0

/-- One value enters channel `c` at zone `z` (spec/06 R142). -/
def StatAcc.add (s : StatAcc) (log : Bool) (level c z : Nat) (v : Int) : StatAcc :=
  let x := clamp16 v
  let bin := if log then (toneInterval x).1 else min 255 (x / 256)
  let bump := fun (t : Tbl Nat) (k n : Nat) => Tbl.put (dflt 0) t k (Tbl.get (dflt 0) t k + n)
  ⟨bump s.hist (c * 256 + bin) 1, bump s.zsum (c * 256 + z) x, bump s.zcnt (c * 256 + z) 1,
   bump s.zsat (c * 256 + z) (satOver level x)⟩

/-- Zone of pixel (x, y) in a w × h image. -/
def zoneOf (w h x y : Nat) : Nat := (16 * y / h) * 16 + 16 * x / w

/-- STAT_TAP 0: a linear row (spec/06 R142). -/
def Blk.statRow0 (b : Blk) (f : IspFrame) (y : Nat) (row : List Int) : StatAcc :=
  let s := f.site b
  row.zipIdx.foldl (fun acc e =>
    let c := if f.mono then 0 else (bayerColour f.cfa (e.2 / s) (y / s)).1
    acc.add (f.cfg 15 1 == 1) (b.get ISPSTAT.SAT_LEVEL) c (zoneOf f.width f.height e.2 y) e.1) f.stat

/-- STAT_TAP 1: a grid row after the colour matrix. -/
def Blk.statRow1 (b : Blk) (f : IspFrame) (acc : StatAcc) (y : Nat) : StatAcc :=
  (demosaicRow f b y).zipIdx.foldl (fun acc e =>
    let px := (matrixed f (balance f e.1)).take 3
    px.zipIdx.foldl (fun acc c =>
      acc.add (f.cfg 15 1 == 1) (b.get ISPSTAT.SAT_LEVEL) c.2 (zoneOf (f.gridW b) (f.gridH b) e.2 y) c.1) acc) acc

/-- Word `n` of a part of gathered statistics (spec/06 R142, R143): parts 0 to 2 histograms, 3 to 5 zones. -/
def StatAcc.word (s : StatAcc) (part n : Nat) : Word :=
  if part < 3 then BitVec.ofNat 32 (Tbl.get (dflt 0) s.hist (part * 256 + n))
  else
    let k := (part - 3) * 256 + n
    let cnt := Tbl.get (dflt 0) s.zcnt k
    BitVec.ofNat 32 ((if cnt == 0 then 0 else Tbl.get (dflt 0) s.zsum k / cnt) +
      2 ^ 16 * min 65535 (Tbl.get (dflt 0) s.zsat k))

/-- STAT_LOCK of a context. -/
def Blk.statLocked (b : Blk) (c : Nat) : Bool :=
  if c < 32 then bitAt (b.get ISPSTAT.STAT_LOCK_LO) c else bitAt (b.get ISPSTAT.STAT_LOCK_HI) (c - 32)

/-- The frame's statistics are published, or lost to a lock (spec/06 R143). -/
def Blk.publish (b : Blk) (f : IspFrame) : IspFrame × Blk :=
  if !f.statOn || !b.powered Page.ISPSTAT then (f, b)
  else if b.statLocked f.ctx then
    ({ f with ispFlags := putBits f.ispFlags 4 1 1, statSeq := 0 }, b.bumpSat (ISP.CTX_COUNT_STAT_LOST f.ctx))
  else
    let words := (List.range 6).flatMap (fun part => (List.range 256).map (fun n => ((f.ctx * 8 + part) * 256 + n, f.stat.word part n)))
    let pub := words.foldl (fun t e => Tbl.put (dflt 0) t e.1 e.2) b.isp.published
    let b := ({ b with isp := { b.isp with published := pub } } : Blk).bump (ISPSTAT.STAT_SEQ f.ctx)
    ({ f with statSeq := b.get (ISPSTAT.STAT_SEQ f.ctx) }, b)

/-- A word of STAT_WIN (spec/06 R143, R145). -/
def Blk.statWin (b : Blk) (n : Nat) : Word :=
  if 6 ≤ b.get ISPSTAT.STAT_SEL_PART then 0
  else Tbl.get (dflt 0) b.isp.published ((b.get ISPSTAT.STAT_SEL_CONTEXT * 8 + b.get ISPSTAT.STAT_SEL_PART) * 256 + n)

/-! ### Output rows -/

/-- Tile and slot of output row `r` (spec/06 R137). -/
def IspFrame.place (f : IspFrame) (r : Nat) : Nat × Nat :=
  let nt := f.tiles.length
  (nth f.tiles (r % nt) 0, f.base + (if f.ring == 0 then 0 else ((r / nt) % f.ring) * f.stride))

/-- All slots of an output row are EMPTY and usable. -/
def Blk.rowFree (b : Blk) (t slot n : Nat) : Bool :=
  (slotRange slot n).all (fun s => !b.foundFull t s)

/-- A row is written and its tags set (spec/06 R137). -/
def Blk.putRow (b : Blk) (k : Nat) (f : IspFrame) (r : Nat) (bytes : List Byte) : Blk :=
  let (t, slot) := f.place r
  let b := (b.spmWrite t (slot * 256) bytes 8).2
  let b := b.setTags t (slotRange slot (slotsOf bytes.length)) true
  (b.setFrame k { f with written := f.written + 1 }).tapRow f.ctx r bytes

/-- An output row of frame `k` goes to its place, or into the hold (spec/06 R137, R138). -/
def Blk.outRow (b : Blk) (k : Nat) (f : IspFrame) (r : Nat) : Blk :=
  let bytes := toSlots (b.outputBytes f r)
  let f := { f with formed := r + 1 }
  let (t, slot) := f.place r
  let b := b.tagVotes t (slotRange slot (slotsOf bytes.length))
  if b.ispFault t slot (slotsOf bytes.length) then b.abandon k f icOutFault
  else if b.rowFree t slot (slotsOf bytes.length) then b.putRow k f r bytes
  else if 2 ≤ b.heldRows f.ctx then b.abandon k f icOutHeld
  else b.setFrame k { f with held := f.held ++ [⟨r, bytes, b.ep.line⟩] }

/-- Grid rows whose look-ahead has arrived (spec/06 R140). -/
def IspFrame.gridReady (f : IspFrame) (b : Blk) : Nat :=
  let n := f.rows.length
  if f.height ≤ n then f.gridH b else (n - f.la b) / f.site b

/-- Every output row that can be formed is formed. -/
def Blk.formRows (b : Blk) (k : Nat) : Blk :=
  match b.isp.frames[k]? with
  | none => b
  | some f0 =>
    (slotRange f0.formed (f0.outH b - f0.formed)).foldl (fun b r =>
      match b.isp.frames[k]? with
      | some f => if f.live && (r + 1) * f.fy ≤ f.gridReady b then b.outRow k f r else b
      | none => b) b

/-! ### Lines -/

/-- The frame uses tables whose error could reach it (spec/06 R125 Table 3). -/
def IspFrame.usesTables (f : IspFrame) : Bool :=
  f.cfg 8 1 == 1 || f.cfg 16 1 == 1 || (f.own && (f.cfg 6 1 == 1 || f.cfg 9 1 == 1))

/-- Table errors a line meets in the words it uses (spec/06 R125). -/
def Blk.tableUpset (b : Blk) (k : Nat) (f : IspFrame) (errors : TableErrors) : Blk :=
  if !f.usesTables then b
  else
    let b := b.addSat ISP.TABLE_ECC_COUNT errors.corrected
    if errors.uncorrectable then
      ((b.raise ISP.IRQ_RAW_TABLE_ECC).report 0x06 Page.ISP).abandon k { f with ispFlags := putBits f.ispFlags 2 1 1 } icTableEcc
    else b

/-- A line enters frame `k` (spec/06 R120 to R142). -/
def Blk.frameLine (b : Blk) (k : Nat) (f : IspFrame) (kind : LineKind) : Blk :=
  let isPix := match kind with | .pixels _ _ => true | _ => false
  let y := f.rows.length
  let row := b.linearRow f y kind
  let before := f.gridReady b
  let stat := if f.statOn && isPix && f.cfg 14 1 == 0 then b.statRow0 f y row else f.stat
  let f := { f with rows := f.rows ++ [row], real := f.real ++ [isPix], stat := stat }
  let s := f.site b
  let stat := if f.statOn && f.cfg 14 1 == 1 then
      (slotRange before (f.gridReady b - before)).foldl (fun acc g =>
        if (slotRange (g * s) s).all (fun i => nth f.real i false) then b.statRow1 f acc g else acc) f.stat
    else f.stat
  (b.setFrame k { f with stat := stat }).formRows k

/-- ISP_LINE_PROCESS (spec/06, spec/05 R105): the line at the store's front, with the errors found in the table words it uses. A line may begin while fewer than 8,000 positions have been taken in this line period, what it takes beyond
them counting in the next (notes/assumptions/36). -/
def Blk.ispLine (b : Blk) (errors : TableErrors) : Blk :=
  if !(b.active Page.ISP && b.active Page.CROUTE && b.isp.used < 8000) then b
  else match b.cam.store with
    | [] => b
    | l :: rest =>
      let b := { b with cam := { b.cam with store := rest }, isp := { b.isp with used := b.isp.used + l.positions } }
      match b.frameOf l.ctx with
      | none => b
      | some k =>
        match b.isp.frames[k]? with
        | none => b
        | some f =>
          match l.kind with
          | .endOfFrame flags => (b.setFrame k { f with ended := some flags }).markFrame f.ctx f.coord
          | kind =>
            if !f.live then b
            else
              let b := b.tableUpset k f errors
              match b.isp.frames[k]? with
              | some f => if f.live then b.frameLine k f kind else b
              | none => b

/-- ISP_HOLD_RELEASE (spec/06 R138): the first held row of a context whose slots are all empty is written. -/
def Blk.holdRelease (b : Blk) (c : Nat) : Blk :=
  let ready : IspFrame → Option HeldRow := fun f =>
    if f.ctx == c then f.held.find? (fun h => let (t, s) := f.place h.row; b.rowFree t s (slotsOf h.bytes.length)) else none
  match b.isp.frames.findIdx? (fun f => (ready f).isSome) with
  | none => b
  | some k =>
    match b.isp.frames[k]? with
    | none => b
    | some f =>
      match ready f with
      | none => b
      | some h =>
        let f := { f with held := f.held.erase h }
        let (t, s) := f.place h.row
        if b.active Page.ISP then
          (if b.ispFault t s (slotsOf h.bytes.length) then b.abandon k f icOutFault else b.putRow k f h.row h.bytes)
        else b

/-- ISP_HOLD_TIMEOUT (spec/06 R138): a row of a context held longer than its tile's stall watchdog. -/
def Blk.holdTimeout (b : Blk) (c : Nat) : Blk :=
  let late : IspFrame → Bool := fun f =>
    f.ctx == c && f.held.any (fun h => decide (b.stallLimit (f.place h.row).1 < b.linesSince h.since))
  match b.isp.frames.findIdx? late with
  | none => b
  | some k => match b.isp.frames[k]? with | some f => b.abandon k f icOutHeld | none => b

/-- A frame has nothing left to form or write. -/
def IspFrame.complete (f : IspFrame) : Bool := f.ended.isSome && f.held.isEmpty

/-- ISP_FRAME_END (spec/06 R141, R143): a context's oldest frame ends; its statistics are published, its descriptor written. A
descriptor that waits for its slot is tried again. -/
def Blk.ispFrameEnd (b : Blk) (c : Nat) : Blk :=
  if !b.active Page.ISP then b
  else match b.isp.frames.findIdx? (fun f => f.ctx == c) with
    | none => b
    | some k =>
      match b.isp.frames[k]? with
      | none => b
      | some f =>
        let b :=
          if f.complete && f.live && f.descAt.isNone && !f.descDone then
            let (f, b) := b.publish f
            (b.raise ISP.IRQ_RAW_FRAME_DONE).writeDesc k f
          else if f.descAt.isSome then b.writeDesc k f
          else b
        match b.isp.frames[k]? with
        | some f =>
          if f.complete && (f.descDone || !f.en) then b.setFrames (b.isp.frames.eraseIdx k) else b
        | none => b

/-- DESC_LOST (spec/06 R141): a descriptor whose slot is still full at the tile's stall watchdog. -/
def Blk.descLost (b : Blk) (c : Nat) : Blk :=
  let late : IspFrame → Bool := fun f =>
    f.ctx == c && (match f.descAt with
      | some at_ => decide (b.stallLimit f.descTile ≤ b.linesSince at_) && b.isFull f.descTile f.descSlot
      | none => false)
  match b.isp.frames.findIdx? late with
  | none => b
  | some k =>
    match b.isp.frames[k]? with
    | some f =>
      let b := b.dropDesc k f
      match b.isp.frames[k]? with
      | some f => if f.complete then b.setFrames (b.isp.frames.eraseIdx k) else b
      | none => b
    | none => b

/-! ### Tables -/

/-- Bank of a table in force (spec/06 R125 Table 3). -/
def Blk.tableBank (b : Blk) (ctx table : Nat) : Nat :=
  if table == 2 then b.get ISP.UNIT_BANKS_DEFECT_BANK
  else if table == 3 then b.get ISP.UNIT_BANKS_DARK_BANK
  else b.get (ISP.CFG_TABLE_BANK ctx)

def tableWords (table : Nat) : Nat := if table == 0 then 1360 else if table == 1 then 420 else if table == 2 then 16384 else 2304

/-- Key of the word TABLE_SEL and TABLE_ADDR name, when there is one. -/
def Blk.tableSel (b : Blk) : Option Nat :=
  let t := b.get ISP.TABLE_SEL_TABLE
  let c := b.get ISP.TABLE_SEL_CONTEXT
  let a := b.get ISP.TABLE_ADDR
  if a < tableWords t && (2 ≤ t || c < 36) then some (tableKey c t (b.get ISP.TABLE_SEL_BANK) a) else none

def Blk.tableNext (b : Blk) : Blk := b.set ISP.TABLE_ADDR (b.get ISP.TABLE_ADDR + 1)

/-- A read of TABLE_DATA (spec/06 R125); a word that does not exist reads 0 (notes/assumptions/37). -/
def Blk.readTable (b : Blk) : Word × Blk :=
  (match b.tableSel with | some k => Tbl.get (dflt 0) b.isp.tables k | none => 0, b.tableNext)

/-- A table error that a read of TABLE_DATA meets (spec/06 R125): 1 correctable, corrected and counted. 2 uncorrectable: R125
gives it an effect only in a word a frame uses; the word's value is free (notes/assumptions/85). -/
def Blk.tableMeets (b : Blk) (error : Nat) : Blk :=
  match b.tableSel with
  | none => b
  | some k =>
    if error == 1 then b.bumpSat ISP.TABLE_ECC_COUNT
    else if error == 2 then
      let (v, b) := b.free 32
      { b with isp := { b.isp with tables := Tbl.put (dflt 0) b.isp.tables k (BitVec.ofNat 32 v) } }
    else b

/-- A write of TABLE_DATA (spec/06 R125). -/
def Blk.writeTable (b : Blk) (a : Agent) (v : Word) : Blk :=
  let t := b.get ISP.TABLE_SEL_TABLE
  let c := b.get ISP.TABLE_SEL_CONTEXT
  match b.tableSel with
  | none => b.tableNext
  | some k =>
    if b.get ISP.TABLE_SEL_BANK == b.tableBank c t then
      ((b.raise ISP.IRQ_RAW_TABLE_IN_FORCE).captureFree Page.ISP icTableInForce (agentCode a)).tableNext
    else ({ b with isp := { b.isp with tables := Tbl.put (dflt 0) b.isp.tables k v } } : Blk).tableNext

/-- Soft reset of ISP: its frames end, what they held is dropped; the tables stay (notes/assumptions/37). -/
def Blk.ispSoftReset (b : Blk) : Blk := b.setFrames []

end Sys2Proof.Machine
end

