-- ==== Sys2Proof/Machine/Camera.lean ====
section
/-! DEFINITION. Machine/Camera.lean: camera input ports, the line store and the external contexts (spec/05). -/

namespace Sys2Proof.Machine

/-! ### The line store (spec/05 R105, R106) -/

def storeSize : Nat := 786432

/-- Positions in use: fill lines and ends take none. -/
def Blk.storeFill (b : Blk) : Nat :=
  (b.cam.store.map (fun l => match l.kind with | .pixels _ _ => l.positions | _ => 0)).sum

def Blk.pushLine (b : Blk) (l : StoreLine) : Blk :=
  let b := { b with cam := { b.cam with store := b.cam.store ++ [l] } }
  b.set CROUTE.STORE_PEAK (max (b.get CROUTE.STORE_PEAK) b.storeFill)

/-- The frame of a context ends in the store's sequence. -/
def Blk.pushEnd (b : Blk) (c flags : Nat) : Blk := b.pushLine ⟨c, 0, ⟨0, 0, 0⟩, .endOfFrame flags⟩

/-- Tag of an external line. -/
def lineTag (k : Nat) : RowTag := ⟨k, 0, 0⟩

/-- A fill line counted on its context (spec/05 R114, R117). -/
def Blk.fillLine (b : Blk) (t : RowTag) (c width value : Nat) : Blk :=
  let b := b.pushLine ⟨c, width, t, .fill value⟩
  if c < 4 then
    (b.set (CROUTE.OWN_STATE_FLAGS c) (putBits (b.get (CROUTE.OWN_STATE_FLAGS c)) 3 1 1)).bumpSat (CROUTE.OWN_STATE_FILL_LINES c)
  else
    let b := b.bumpSat (CROUTE.FILL_LINES (c - 4))
    { b with cam := { b.cam with ctx := b.cam.ctx.modify (c - 4) (fun x => { x with flags := putBits x.flags 3 1 1 }) } }

/-- A line of pixels enters the store, or is refused whole and filled (spec/05 R106). -/
def Blk.storeLine (b : Blk) (t : RowTag) (c fill : Nat) (positions : Nat) (hcg lcg : List Nat) : Blk :=
  if b.storeFill + positions ≤ storeSize then b.pushLine ⟨c, positions, t, .pixels hcg lcg⟩
  else
    let b := (b.bumpSat CROUTE.STORE_OVF_COUNT).raise CROUTE.IRQ_RAW_STORE_OVF
    (b.captureOwn Page.CROUTE 0x03 c).fillLine t c positions fill

/-! ### External contexts (spec/05 R108 to R116); `j` is the context number less 4 -/

def ctxIdle : Nat := 0
def ctxActive : Nat := 1
def ctxPadding : Nat := 2

def Blk.ctxState (b : Blk) (j : Nat) : Nat := b.get (CROUTE.STATE_STATE j)
def Blk.setCtxState (b : Blk) (j s : Nat) : Blk := b.set (CROUTE.STATE_STATE j) s
def Blk.modCam (b : Blk) (j : Nat) (f : CamCtx → CamCtx) : Blk :=
  { b with cam := { b.cam with ctx := b.cam.ctx.modify j f } }
def Blk.camFlag (b : Blk) (j lo w v : Nat) : Blk := b.modCam j (fun x => { x with flags := putBits x.flags lo w v })

/-- The enabled route of a context names a port and virtual channel. -/
def Blk.routed (b : Blk) (j port vc : Nat) : Bool :=
  b.flag (CROUTE.ROUTE_EN j) && b.get (CROUTE.ROUTE_PORT j) == port && b.get (CROUTE.ROUTE_VC j) == vc

/-- A packet of this port and channel concerns context `j`: by the frame in progress, or else by the route in force (R108,
R112). -/
def Blk.concerns (b : Blk) (port vc j : Nat) : Bool :=
  if b.ctxState j == ctxIdle then b.routed j port vc
  else (b.camCtx j).src.port == port && (b.camCtx j).src.vc == vc

/-- Contexts a packet concerns. -/
def Blk.concerned (b : Blk) (port vc : Nat) : List Nat := indicesWhere 32 (fun j => b.concerns port vc j)

/-- A port and channel are in force on some context: by its route, or as the source of its frame in progress (spec/05 R104,
R108). -/
def Blk.sourceInForce (b : Blk) (port vc : Nat) : Bool :=
  (List.range 32).any (fun j => b.routed j port vc || b.concerns port vc j)

def rawType (dt : Nat) : Bool := dt == 0x2A || dt == 0x2B || dt == 0x2C || dt == 0x2D

/-- The enabled route accepts frames (spec/05 R110). -/
def Blk.routeValid (b : Blk) (j : Nat) : Bool :=
  let ok := fun (n : Nat) => n % 2 == 0 && 0 < n && n ≤ 4096
  b.flag (CROUTE.ROUTE_EN j) && rawType (b.get (CROUTE.ROUTE_DT j)) && ok (b.get (CROUTE.GEOM_WIDTH j)) &&
    ok (b.get (CROUTE.GEOM_HEIGHT j))

/-- Line periods between pad lines (spec/05 R113). -/
def Blk.padPace (b : Blk) (j : Nat) : Nat :=
  let m := b.get (CROUTE.LINE_TIMING_LINE_MIN16 j)
  ceilDiv (if m == 0 then 16 else m) 16

/-- The plan consumes a context: it runs, and DL_VIEWS names the context (notes/assumptions/84). -/
def Blk.consumes (b : Blk) (view : Nat) : Bool :=
  b.powered Page.SCHED && b.get SCHED.SCHED_CTRL_RUN == 1 &&
    bitAt (b.get SCHED.DL_VIEWS_LO + 2 ^ 32 * b.get SCHED.DL_VIEWS_HI) view

/-- A frame is dropped (spec/05 R112, R116); its line period decides the frame it belongs to (spec/15 R384). -/
def Blk.dropFrame (b : Blk) (j : Nat) : Blk :=
  let b := (b.markFrame (j + 4) b.now).when (b.consumes (j + 4)) (fun b => b.oweGap (j + 4) b.now gapDropped 0)
  ((b.bumpSat (CROUTE.DROPPED_FRAMES j)).raise CROUTE.IRQ_RAW_FRAME_DROPPED).captureOwn Page.CROUTE 0x01 (j + 4)

/-- PADDING begins; the first pad line goes out in this line period (spec/05 R113). -/
def Blk.startPadding (b : Blk) (j : Nat) : Blk :=
  (b.modCam j (fun x => { x with padAt := b.ep.line, lastPkt := b.ep.line })).setCtxState j ctxPadding

/-- A frame is cut with a cause (spec/05 R112). -/
def Blk.cutFrame (b : Blk) (j cause : Nat) : Blk :=
  let b := (b.camFlag j 0 1 1).camFlag j 6 2 cause
  ((b.raise CROUTE.IRQ_RAW_TRUNC).captureOwn Page.CROUTE 0x02 (j + 4)).startPadding j

/-- A context's frame is over: IDLE, its flags shown, its end in the store's sequence. -/
def Blk.endCamFrame (b : Blk) (j : Nat) : Blk :=
  let fl := (b.camCtx j).flags
  ((b.setCtxState j ctxIdle).set (CROUTE.STATE_FLAGS j) fl).pushEnd (j + 4) fl

/-- An FS frame start (spec/05 R102, R109, R112). -/
def Blk.acceptFrame (b : Blk) (j fn : Nat) : Blk :=
  let src : CamSource := ⟨b.get (CROUTE.ROUTE_PORT j), b.get (CROUTE.ROUTE_VC j), b.get (CROUTE.ROUTE_DT j)⟩
  let new := (b.camCtx j).routeNew
  let b := b.modCam j (fun x => { x with routeNew := false })
  let c := coordNat b.now
  let b := ((b.set (CROUTE.FS_COORD_LO j) c).set (CROUTE.FS_COORD_HI j) (c / 2 ^ 32)).set (CROUTE.STATE_CSI_FN j) fn
  let b := (b.bumpSat (CROUTE.FRAMES j)).setCtxState j ctxActive
  let b := b.applyShf (some (j + 4))
  let w := b.get (CROUTE.GEOM_WIDTH j)
  let h := b.get (CROUTE.GEOM_HEIGHT j)
  let b := b.modCam j (fun x =>
    { x with src := src, delivered := 0, flags := if new then 32 else 0, fsLine := b.ep.line, lastFs := some b.ep.line
             lastPkt := b.ep.line, width := w, height := h, pad := b.get (CROUTE.PAD j) })
  b.ispFrameStart { blankFrame (j + 4) w h with srcFn := fn }

/-- A Frame Start at a context (spec/05 R112 Table 3). -/
def Blk.frameStartAt (b : Blk) (fn j : Nat) : Blk :=
  if b.ctxState j == ctxIdle then
    let early := match (b.camCtx j).lastFs with
      | some l => decide (b.linesSince l < b.get (CROUTE.FRAME_TIMING_MIN_INTERVAL j))
      | none => false
    if b.routeValid j && !early && b.flag (hEn Page.CROUTE) then b.acceptFrame j fn else b.dropFrame j
  else if b.ctxState j == ctxActive then (b.cutFrame j 2).dropFrame j
  else b.dropFrame j

/-- A Frame End at a context. -/
def Blk.frameEndAt (b : Blk) (j : Nat) : Blk :=
  if b.ctxState j == ctxActive then
    let b := b.modCam j (fun x => { x with lastPkt := b.ep.line })
    if (b.camCtx j).height ≤ (b.camCtx j).delivered then b.endCamFrame j else (b.camFlag j 1 1 1).startPadding j
  else b

/-- Left shift of a data type's pixels to 14 bits (spec/05 R111). -/
def rawShift (dt : Nat) : Nat := if dt == 0x2A then 6 else if dt == 0x2B then 4 else if dt == 0x2C then 2 else 0

/-- Bits of a data type's pixels. -/
def rawBits (dt : Nat) : Nat := 14 - rawShift dt

/-- A line of a frame in progress is counted and delivered: the pixels cut or padded to WIDTH, or a fill line for a damaged
one (spec/05 R111, R112, R114). -/
def Blk.deliverLine (b : Blk) (j dt : Nat) (bad : Bool) (px : List Nat) : Blk :=
  let x := b.camCtx j
  let t := lineTag x.delivered
  if x.height ≤ x.delivered then b.camFlag j 2 1 1
  else
    let b := b.modCam j (fun x => { x with delivered := x.delivered + 1, lastPkt := b.ep.line })
    if bad then b.fillLine t (j + 4) x.width x.pad
    else
      let px := px.map (fun p => (p % 2 ^ rawBits dt) * 2 ^ rawShift dt)
      let b := if px.length == x.width then b else b.camFlag j 4 1 1
      b.storeLine t (j + 4) x.pad x.width (px.take x.width ++ List.replicate (x.width - px.length) x.pad) []

/-- A long packet at a context: delivered, an orphan, or of another data type; one that is discarded is not accepted, so the
line timeout runs on (spec/05 R108, R112, R113). -/
def Blk.longAt (b : Blk) (port dt : Nat) (bad : Bool) (px : List Nat) (j : Nat) : Blk :=
  if b.ctxState j == ctxActive then
    if (b.camCtx j).src.dt == dt then b.deliverLine j dt bad px
    else (b.bumpSat (CSI.DT_DROPPED port)).raise (CSI.IRQ_RAW_DT_DROPPED port)
  else b.bumpSat (CROUTE.ORPHAN_LINES j)

/-! ### Packets at a port (spec/05 R104) -/

def csiPage (p : Nat) : Nat := Page.CSI + p

/-- LANES and LANE_MAP let the port run (spec/05 R118). -/
def lanesOk (v : Nat) : Bool :=
  let n := bitsAt v 0 3
  let m := fun (i : Nat) => bitsAt v (8 + 2 * i) 2
  (n == 0 || n == 1 || n == 2 || n == 4) && decide (((List.range n).map m).Nodup)

/-- A write of PHY_CTRL (spec/05 R118). -/
def Blk.writePhy (b : Blk) (p : Nat) (v : Word) : Blk :=
  let b := b.storeKey (CSI.PHY_CTRL_LANES p).key v
  if lanesOk v.toNat then b.set (CSI.PHY_STATUS_CFG_BAD p) 0
  else (b.set (CSI.PHY_STATUS_CFG_BAD p) 1).raise (CSI.IRQ_RAW_CFG_BAD p)

/-- The port is on: enabled, with lanes. -/
def Blk.csiOn (b : Blk) (p : Nat) : Bool :=
  p < 2 && b.powered (csiPage p) && b.flag (hEn (csiPage p)) && !b.flag (hResetting (csiPage p)) &&
    b.get (CSI.PHY_CTRL_LANES p) != 0 && !b.flag (CSI.PHY_STATUS_CFG_BAD p)

def Blk.unrouted (b : Blk) (p : Nat) : Blk := (b.bumpSat (CSI.UNROUTED p)).raise (CSI.IRQ_RAW_UNROUTED p)

/-- A packet whose header can be used arrives: its channel is seen, a corrected header counted; a frozen port discards it
(spec/05 R104, R118). -/
def Blk.csiHeader (b : Blk) (p vc : Nat) (corrected : Bool) (f : Blk → Blk) : Blk :=
  if !b.csiOn p then b
  else
    let b := b.set (CSI.VC_SEEN p) (putBits (b.get (CSI.VC_SEEN p)) (vc % 16) 1 1)
    if b.flag (hFrozen (csiPage p)) then b.unrouted p
    else f (if corrected then b.bumpSat (CSI.ECC_CORR p) else b)

/-- A packet of a kind a context takes: `pre` once and `f` for each context it concerns, or UNROUTED where its port and channel
are in force on none (spec/05 R104). -/
def Blk.csiPacket (b : Blk) (p vc : Nat) (corrected : Bool) (pre : Blk → Blk) (f : Blk → Nat → Blk) : Blk :=
  b.csiHeader p vc corrected (fun b =>
    if b.powered Page.CROUTE && b.sourceInForce p (vc % 16) then (pre b).each (b.concerned p (vc % 16)) f else b.unrouted p)

/-- A packet no context takes, discarded at the port, and counted in DT_DROPPED or not at all (spec/05 R104). -/
def Blk.csiDiscard (b : Blk) (p vc : Nat) (corrected counted : Bool) : Blk :=
  b.csiHeader p vc corrected (fun b => if counted then (b.bumpSat (CSI.DT_DROPPED p)).raise (CSI.IRQ_RAW_DT_DROPPED p) else b)

/-- CSI_FRAME_START (spec/05 R112). -/
def Blk.csiFrameStart (b : Blk) (p vc fn : Nat) (corrected : Bool) : Blk :=
  b.csiPacket p vc corrected id (fun b j => b.frameStartAt (fn % 65536) j)

/-- CSI_FRAME_END (spec/05 R112). -/
def Blk.csiFrameEnd (b : Blk) (p vc : Nat) (corrected : Bool) : Blk := b.csiPacket p vc corrected id Blk.frameEndAt

/-- CSI_LONG_PACKET (spec/05 R104, R112, R114): one of no supported data type is discarded at the port, a null (10h) or blanking
(11h) one uncounted. -/
def Blk.csiLong (b : Blk) (p vc dt : Nat) (corrected bad : Bool) (px : List Nat) : Blk :=
  if rawType dt then
    b.csiPacket p vc corrected
      (fun b => b.when bad (fun b =>
        ((b.bumpSat (CSI.CRC_ERR p)).raise (CSI.IRQ_RAW_CRC_ERR p)).captureOwn (csiPage p) 0x02 (vc % 16 + dt * 16)))
      (fun b j => b.longAt p dt bad px j)
  else b.csiDiscard p vc corrected (!(dt == 0x10 || dt == 0x11))

/-- A packet kind no context takes in (spec/05 R104): 0 Line Start, 1 Line End, 2 null, 3 blanking, 4 generic short,
5 unsupported long type, 6 uncorrectable header. -/
def Blk.csiOther (b : Blk) (p vc kind : Nat) (corrected : Bool) : Blk :=
  if !b.csiOn p then b
  else if kind == 6 then
    if b.flag (hFrozen (csiPage p)) then b.unrouted p
    else ((b.bumpSat (CSI.ECC_UNCORR p)).raise (CSI.IRQ_RAW_ECC_UNCORR p)).captureOwnFree (csiPage p) 0x01
  else if kind ≤ 1 then
    b.csiPacket p vc corrected id (fun b j =>
      if b.ctxState j == ctxActive then b.modCam j (fun x => { x with lastPkt := b.ep.line }) else b)
  else b.csiDiscard p vc corrected (decide (3 < kind))

/-- CSI_SOT_ERROR (spec/05 R104). -/
def Blk.csiSot (b : Blk) (p : Nat) : Blk :=
  if b.csiOn p then ((b.bumpSat (CSI.SOT_ERR p)).raise (CSI.IRQ_RAW_SOT_ERR p)).captureOwnFree (csiPage p) 0x03 else b

/-! ### Timeouts and padding (spec/05 R113) -/

/-- LINE_TIMEOUT. -/
def Blk.lineTimeout (b : Blk) (j : Nat) : Blk :=
  if b.powered Page.CROUTE && b.ctxState j == ctxActive &&
      max 1 (b.get (CROUTE.LINE_TIMING_LINE_TIMEOUT j)) ≤ b.linesSince (b.camCtx j).lastPkt then b.cutFrame j 1
  else b

/-- FRAME_TIMEOUT. -/
def Blk.frameTimeout (b : Blk) (j : Nat) : Blk :=
  let n := b.get (CROUTE.FRAME_TIMING_FRAME_TIMEOUT j)
  if b.powered Page.CROUTE && b.ctxState j == ctxActive && n != 0 && n ≤ b.linesSince (b.camCtx j).fsLine then b.cutFrame j 3
  else b

/-- PAD_LINE (spec/05 R112, R113): a pad line when one is due; IDLE at the start of the next line period once HEIGHT lines are
delivered. -/
def Blk.padLine (b : Blk) (j : Nat) : Blk :=
  let x := b.camCtx j
  if !(b.powered Page.CROUTE && b.ctxState j == ctxPadding) then b
  else if x.height ≤ x.delivered then
    (if b.ep.line == x.lastPkt then b else b.endCamFrame j)
  else if (b.ep.line - x.padAt).toNat < 2 ^ 47 then
    let b := b.modCam j (fun x => { x with
      delivered := x.delivered + 1, padAt := x.padAt + BitVec.ofNat 48 (b.padPace j), lastPkt := b.ep.line })
    b.pushLine ⟨j + 4, x.width, lineTag x.delivered, .fill x.pad⟩
  else b

/-- Idle frame starts at L0 (spec/05 R102, R112). DESIGN CHOICE: contexts take them in ascending order, so that a source freed at
this L0 is free for the contexts of higher number (notes/assumptions/83). -/
def Blk.idleStarts (b : Blk) : Blk :=
  if b.powered Page.CROUTE then
    b.each (List.range 32) (fun b j => if b.ctxState j == ctxIdle then b.applyShf (some (j + 4)) else b)
  else b

/-- Soft reset of CROUTE: the store empties, every context is IDLE, frames without their end are forgotten. -/
def Blk.crouteReset (b : Blk) : Blk :=
  let b := b.setFrames (b.isp.frames.filter (fun f => f.ended.isSome))
  { b with cam := { store := [], ctx := List.replicate 32 noCam } }

end Sys2Proof.Machine
end

