-- ==== Sys2Proof/Machine/Bulk.lean ====
section
/-! DEFINITION. Machine/Bulk.lean: bulk memory and module flash (spec/10 R229, R235 to R244, R246). -/

namespace Sys2Proof.Machine

/-- End of the visible space (spec/10 R235). -/
def bulkTop : Nat := 0x1E0000000
def bulkPages : Nat := 0x1E0000
def bulkUnits : Nat := 125829120

/-- How an access ends: 0 done, else the cause. `bkWait` is no cause: the requester asks again. -/
def bkPoison : Nat := 0x05
def bkDead : Nat := 0x0A
def bkRange : Nat := 0x03
def bkWait : Nat := 0xFF

/-- What an unlisted byte of bulk memory reads as (notes/assumptions/20). -/
def bulkDflt : Nat → Byte := dflt 0
/-- What an unlisted byte of module flash reads as (notes/assumptions/21). -/
def flashDflt : Nat → Byte := dflt 0xFF

def pageDfltB : Nat → BulkPage := dflt ⟨none, false, false, none⟩
def Blk.bpage (b : Blk) (p : Nat) : BulkPage := Tbl.get pageDfltB b.bulk.pages p
def Blk.setBpage (b : Blk) (p : Nat) (x : BulkPage) : Blk :=
  { b with bulk := { b.bulk with pages := Tbl.put pageDfltB b.bulk.pages p x } }

def Blk.bulkGet (b : Blk) (a n : Nat) : List Byte := Tbl.getMany bulkDflt b.bulk.bytes a n
def Blk.bulkPut (b : Blk) (a : Nat) (bs : List Byte) : Blk :=
  { b with bulk := { b.bulk with bytes := Tbl.putMany bulkDflt b.bulk.bytes a bs } }
def Blk.flashGet (b : Blk) (a n : Nat) : List Byte := Tbl.getMany flashDflt b.flash a n
def Blk.flashPut (b : Blk) (a : Nat) (bs : List Byte) : Blk := { b with flash := Tbl.putMany flashDflt b.flash a bs }

def Blk.unitPoisoned (b : Blk) (u : Nat) : Bool := Tbl.get (dflt false) b.bulk.poison u
def Blk.setUnitPoison (b : Blk) (u : Nat) (v : Bool) : Blk :=
  { b with bulk := { b.bulk with poison := Tbl.put (dflt false) b.bulk.poison u v } }

/-- The stored bits of a unit that are wrong. -/
def Blk.unitFlips (b : Blk) (u : Nat) : List Nat := Tbl.get (dflt []) b.bulk.flips u
def Blk.setUnitFlips (b : Blk) (u : Nat) (l : List Nat) : Blk :=
  { b with bulk := { b.bulk with flips := Tbl.put (dflt []) b.bulk.flips u l } }

/-- A unit's poison, its code clean. -/
def Blk.markUnit (b : Blk) (u : Nat) (poisoned : Bool) : Blk := (b.setUnitPoison u poisoned).setUnitFlips u []

/-- A stored bit of a powered memory changes by itself (spec/07 R157, R162, spec/10 R236). -/
def Blk.strike (b : Blk) (u : Upset) : Blk :=
  match u with
  | .bulkBit unit bit => b.when (b.powered Page.BULK) (fun b => b.setUnitFlips unit (toggleBit (b.unitFlips unit) bit))
  | _ => b.strikeSpm u

/-- The memories with the given bits changed. -/
def Blk.struck (b : Blk) (upsets : List Upset) : Blk := upsets.foldl Blk.strike b

/-! ### Retirement and reload -/

/-- An entry in the retirement log (spec/10 R246). -/
def Blk.logRetire (b : Blk) (page kind finder : Nat) : Blk :=
  let at_ := b.get BULK.RLOG_HEAD_NEXT
  let used := (Tbl.get (dflt none) b.bulk.rlog at_).isSome
  let e : RetireEntry := ⟨page, kind, finder, coordNat b.now⟩
  { b with bulk := { b.bulk with rlog := Tbl.put (dflt none) b.bulk.rlog at_ (some e) } }.ringStep
    BULK.RLOG_HEAD_NEXT BULK.RLOG_HEAD_OVF used

/-- The list of retired pages in module flash names the page (spec/10 R242; notes/assumptions/104). -/
def Blk.listRetired (b : Blk) (page : Nat) : Blk :=
  if b.fuse.retired.contains page then b else { b with fuse := { b.fuse with retired := b.fuse.retired ++ [page] } }

/-- A spare is taken; SPARES_LOW at the threshold (spec/10 R241). The page joins the list of retired pages. A staged list of the page is discarded (spec/14 R362). -/
def Blk.takeSpare (b : Blk) (page : Nat) : Blk :=
  let k := b.bulk.used
  let b := b.listRetired page
  let b := { b with bulk := { b.bulk with used := k + 1 } }
  let b := b.setBpage page { b.bpage page with spare := some k }
  let b := { b with search := { b.search with staged := b.search.staged.filter (fun l => page < l.first || l.last < page) } }
  b.when (65536 - (k + 1) == b.get BULK.SPARE_LOW) (fun b => b.raise BULK.IRQ_RAW_SPARES_LOW)

/-- Copy regions that hold a page, ascending (spec/10 R239, R246). -/
def Blk.regionsOf (b : Blk) (page : Nat) : List Nat :=
  indicesWhere 16 (fun i => b.get (BULK.CR_BASE_PAGE i) ≤ page && page < b.get (BULK.CR_BASE_PAGE i) + b.get (BULK.CR_PAGES i))

/-- The flash offset a page is reloaded from, when an AUTO region holds it; the lowest-numbered region that holds the page
supplies it (spec/10 R239, R246). -/
def Blk.reloadFrom (b : Blk) (page : Nat) : Option Nat :=
  match b.regionsOf page with
  | [] => none
  | i :: rest =>
    if (i :: rest).any (fun j => b.flag (BULK.CR_BASE_AUTO j)) then
      some (b.get (BULK.CR_FLASH_LO i) + 2 ^ 32 * b.get (BULK.CR_FLASH_HI i) + (page - b.get (BULK.CR_BASE_PAGE i)) * 4096)
    else none

/-- The page leaves the correctable-error tracker. -/
def Blk.untrack (b : Blk) (page : Nat) : Blk :=
  { b with bulk := { b.bulk with tracker := b.bulk.tracker.filter (fun e => e.1 != page) } }

/-- A retirement (spec/10 R238, R241, R242, R246): kinds 0 UE, 2 LOADED, 3 FORCED. With no spare left the page is DEAD. -/
def Blk.retire (b : Blk) (page kind finder : Nat) : Blk :=
  let b := b.untrack page
  let b := if kind == 0 then ((b.bumpSat BULK.ECC_UE_COUNT).raise BULK.IRQ_RAW_UE).captureOwnFree Page.BULK 0x01 else b
  if 65536 ≤ b.bulk.used then
    let b := b.setBpage page { b.bpage page with dead := true, reloading := false, migrating := none }
    let b := { b with bulk := { b.bulk with reloads := b.bulk.reloads.filter (fun p => p != page) } }
    ((b.raise BULK.IRQ_RAW_DEAD_PAGE).captureOwnFree Page.BULK 0x02).report 0x07 Page.BULK
  else
    let b := b.takeSpare page
    let b := b.each (slotRange (page * 64) 64) (fun b u => b.markUnit u true)
    let b := b.logRetire page kind finder
    let b := b.setBpage page { b.bpage page with migrating := none }
    if kind == 2 then b
    else
      let b := b.raise BULK.IRQ_RAW_RETIRED
      if (b.reloadFrom page).isSome && !(b.bpage page).reloading then
        let b := b.setBpage page { b.bpage page with reloading := true }
        { b with bulk := { b.bulk with reloads := b.bulk.reloads ++ [page] } }
      else b

/-- The tracker with one more correctable error in a page (spec/10 R237): 256 pages, the lowest count dropped when full. -/
def trackError (t : List (Nat × Nat)) (page : Nat) : List (Nat × Nat) :=
  match t.find? (fun e => e.1 == page) with
  | some e => t.filter (fun x => x.1 != page) ++ [(page, e.2 + 1)]
  | none =>
    if t.length < 256 then t ++ [(page, 1)]
    else
      let low := t.foldl (fun a e => min a e.2) ((t.head?.map (fun e => e.2)).getD 0)
      match t.find? (fun e => e.2 == low) with
      | some e => t.erase e ++ [(page, 1)]
      | none => t ++ [(page, 1)]

/-- A correctable error: corrected, counted, tracked; at CE_LIMIT the page begins to migrate (spec/10 R237). With no spare
left none begins (notes/assumptions/22). -/
def Blk.correctUnit (b : Blk) (page finder : Nat) : Blk :=
  let b := (b.bumpSat BULK.ECC_CE_COUNT).raise BULK.IRQ_RAW_CE
  let b := { b with bulk := { b.bulk with tracker := trackError b.bulk.tracker page } }
  let n := ((b.bulk.tracker.find? (fun e => e.1 == page)).map (fun e => e.2)).getD 0
  let lim := b.get BULK.CE_LIMIT
  let x := b.bpage page
  if lim != 0 && lim ≤ n && x.migrating.isNone && !x.reloading && b.bulk.used < 65536 then
    b.setBpage page { x with migrating := some finder }
  else b

/-! ### Accesses -/

/-- Accesses of a page wait (spec/10 R237, R239). -/
def Blk.pageHeld (b : Blk) (page : Nat) : Bool := (b.bpage page).reloading || (b.bpage page).migrating.isSome

/-- A waiting requester's time on a RELOADING page has run out (spec/10 R239). -/
def Blk.bulkExpired (b : Blk) (w : BulkWait) : Bool :=
  (b.bpage w.page).reloading && b.get BULK.HOLD_LIMIT < b.linesSince w.since

/-- An engine finds a held page: it waits, or its wait has run out and ends with POISON. -/
def Blk.engineWait (b : Blk) (cls page : Nat) : Nat × Blk :=
  let mine : BulkWait → Bool := fun w => w.cls == cls && w.page == page && w.access.isNone
  match b.bulk.waits.find? mine with
  | none => (bkWait, { b with bulk := { b.bulk with waits := b.bulk.waits ++ [⟨cls, page, b.ep.line, none, true⟩] } })
  | some w =>
    if b.bulkExpired w then (bkPoison, { b with bulk := { b.bulk with waits := b.bulk.waits.filter (fun x => !mine x) } })
    else (bkWait, b)

/-- An engine that gives up its access waits no longer. -/
def Blk.endEngineWaits (b : Blk) (cls : Nat) : Blk :=
  { b with bulk := { b.bulk with waits := b.bulk.waits.filter (fun w => w.cls != cls || w.access.isSome) } }

/-- The finding of a unit's code (spec/10 R236): SECDED over data and unit address; 528 marks another unit's data. -/
def unitFinding (l : List Nat) : Nat := if l.contains 528 then 2 else codeFinding 1 2 l.length

/-- A unit's code is evaluated: 0 clean, 1 corrected, 2 uncorrectable; with more wrong bits than it detects that is open, and so
are the data (notes/assumptions/89). -/
def Blk.unitFound (b : Blk) (u : Nat) : Nat × Blk :=
  let f := unitFinding (b.unitFlips u)
  if f != 3 then (f, b)
  else
    let (v, b) := b.free 2
    if 2 ≤ v then (2, b)
    else
      let (d, b) := b.free 512
      (v, (b.setUnitFlips u []).bulkPut (u * 64) (natLe 64 d))

/-- A unit's check before its data are used, by a requester of a class (spec/10 R236 to R238, R241). -/
def Blk.unitCheck (b : Blk) (cls u : Nat) : Nat × Blk :=
  let page := u / 64
  if bulkUnits ≤ u then (bkRange, b)
  else if (b.bpage page).dead then (bkDead, b)
  else if b.unitPoisoned u then (bkPoison, b)
  else
    let (f, b) := b.unitFound u
    if f == 0 then (0, b)
    else if f == 1 then (0, (b.setUnitFlips u []).correctUnit page (cls % 8))
    else
      let b := b.retire page 0 (cls % 8)
      (if (b.bpage page).dead then bkDead else bkPoison, b)

/-- The units that [a, a + n) touches. -/
def unitsOf (a n : Nat) : List Nat := spanOf 64 a n

/-- The pages that [a, a + n) touches, each once. -/
def pagesOf (a n : Nat) : List Nat := spanOf 4096 a n

/-- Bulk memory can be reached at all; else the cause. -/
def Blk.bulkReach (b : Blk) (a n : Nat) : Nat :=
  if !b.powered Page.BULK then causePower else if bulkTop < a + n then bkRange else 0

/-- The data of a read, its units checked in turn (spec/10 R236). -/
def Blk.unitRead (b : Blk) (cls a n : Nat) : Nat × List Byte × Blk :=
  let r := (unitsOf a n).foldl (fun (st : Nat × Blk) u => if st.1 != 0 then st else st.2.unitCheck cls u) (0, b)
  if r.1 == 0 then (0, r.2.bulkGet a n, r.2) else (r.1, [], r.2)

/-- A write, unit by unit: a whole unit clears its poison, a narrower one is merged (spec/10 R236, R238). -/
def Blk.unitWrite (b : Blk) (cls a : Nat) (bs : List Byte) : Nat × Blk :=
  let n := bs.length
  (unitsOf a n).foldl (fun (st : Nat × Blk) u =>
    if st.1 != 0 then st
    else
      let b := st.2
      let lo := max a (u * 64)
      let hi := min (a + n) (u * 64 + 64)
      let part := (bs.drop (lo - a)).take (hi - lo)
      if hi - lo == 64 then
        if (b.bpage (u / 64)).dead then (bkDead, b) else (0, (b.markUnit u false).bulkPut lo part)
      else
        let (c, b) := b.unitCheck cls u
        if c == 0 then (0, b.bulkPut lo part) else (c, b)) (0, b)

/-- The first held page that an access touches. -/
def Blk.heldPage (b : Blk) (a n : Nat) : Option Nat := (pagesOf a n).find? (fun p => b.pageHeld p)

/-- An engine's read: a cause, `bkWait`, or 0 with the data. -/
def Blk.bulkRead (b : Blk) (cls a n : Nat) : Nat × List Byte × Blk :=
  let c := b.bulkReach a n
  if c != 0 then (c, [], b)
  else match b.heldPage a n with
    | some p => let (c, b) := b.engineWait cls p; (c, [], b)
    | none => b.unitRead cls a n

/-- An engine's write. -/
def Blk.bulkWrite (b : Blk) (cls a : Nat) (bs : List Byte) : Nat × Blk :=
  let c := b.bulkReach a bs.length
  if c != 0 then (c, b)
  else match b.heldPage a bs.length with
    | some p => b.engineWait cls p
    | none => b.unitWrite cls a bs

/-- A posted write of an engine: it is made, or waits by itself until its page is there (spec/10 R239). -/
def Blk.bulkPost (b : Blk) (cls a : Nat) (bs : List Byte) : Blk :=
  if b.bulkReach a bs.length != 0 then b
  else match b.heldPage a bs.length with
    | some p =>
      let w : BulkWait := ⟨cls, p, b.ep.line, some ⟨cls % 8, a, bs.length, some bs⟩, true⟩
      { b with bulk := { b.bulk with waits := b.bulk.waits ++ [w] } }
    | none => (b.unitWrite cls a bs).2

/-- A BULK_ACCESS made now: its outcome goes out. -/
def Blk.makeAccess (b : Blk) (x : BulkAccess) : Blk :=
  match x.data with
  | none =>
    let (c, bs, b) := b.unitRead x.cls x.addr x.size
    b.emit (.bulk x.cls x.addr c bs)
  | some bs =>
    let (c, b) := b.unitWrite x.cls x.addr (bs.take x.size)
    b.emit (.bulk x.cls x.addr c [])

/-- Bytes that an access names. -/
def accessBytes (x : BulkAccess) : Nat := match x.data with | none => x.size | some bs => (bs.take x.size).length

/-- BULK_ACCESS (spec/10 R236 to R239, R241). -/
def Blk.bulkAccess (b : Blk) (x : BulkAccess) : Blk :=
  let n := accessBytes x
  let c := b.bulkReach x.addr n
  if c != 0 then b.emit (.bulk x.cls x.addr c [])
  else match b.heldPage x.addr n with
    | some p => { b with bulk := { b.bulk with waits := b.bulk.waits ++ [⟨x.cls, p, b.ep.line, some x, false⟩] } }
    | none => b.makeAccess x

/-- A waiting access tried again. -/
def Blk.waitAgain (b : Blk) (w : BulkWait) : Blk :=
  match w.access with
  | none => b
  | some x => if w.own then b.bulkPost w.cls x.addr (x.data.getD []) else b.bulkAccess x

/-- The waits on a page end; the accesses are made (spec/10 R237, R239). -/
def Blk.releasePage (b : Blk) (page : Nat) : Blk :=
  let ws := b.bulk.waits.filter (fun w => w.page == page)
  let b := { b with bulk := { b.bulk with waits := b.bulk.waits.filter (fun w => w.page != page) } }
  ws.foldl Blk.waitAgain b

/-- A page copied to its spare: what the code corrects is corrected, a unit it does not is poisoned there (spec/10 R237,
notes/assumptions/95). -/
def Blk.copyCorrected (b : Blk) (page : Nat) : Blk :=
  b.each (slotRange (page * 64) 64) (fun b u => b.markUnit u (b.unitPoisoned u || 2 ≤ unitFinding (b.unitFlips u)))

/-- PAGE_MIGRATION_DONE (spec/10 R237): a page whose copy is done; its contents are kept. With the last spare taken meanwhile the
page stays where it is (notes/assumptions/22). -/
def Blk.migrationDone (b : Blk) (page : Nat) : Blk :=
  match (b.bpage page).migrating with
  | none => b
  | some finder =>
    let b := b.setBpage page { b.bpage page with migrating := none }
    if 65536 ≤ b.bulk.used then b.releasePage page
    else
      let b := ((b.copyCorrected page).takeSpare page).untrack page
      ((b.logRetire page 1 finder).raise BULK.IRQ_RAW_RETIRED).releasePage page

/-- RELOAD_COMPLETE (spec/10 R239): the oldest queued reload ends; `flashErr` when the flash read fails. -/
def Blk.reloadComplete (b : Blk) (flashErr : Bool) : Blk :=
  match b.bulk.reloads with
  | [] => b
  | page :: rest =>
    if !b.powered Page.BULK || !b.powered Page.MOVER then b
    else
      let from_ := b.reloadFrom page
      let b := { b with bulk := { b.bulk with reloads := rest } }
      let b := b.setBpage page { b.bpage page with reloading := false }
      match flashErr, from_ with
      | false, some off =>
        let data := b.flashGet off 4096
        let b := b.each (slotRange (page * 64) 64) (fun b u => b.markUnit u false)
        let b := (b.bulkPut (page * 4096) data).raise BULK.IRQ_RAW_RELOAD_DONE
        let b := (b.raise MOVER.IRQ_RAW_RELOAD_DONE).bump MOVER.RELOAD_STATUS_DONE
        b.releasePage page
      | _, _ =>
        let b := (b.raise BULK.IRQ_RAW_RELOAD_FAIL).captureOwnFree Page.BULK 0x04
        let b := b.raise MOVER.IRQ_RAW_RELOAD_ERR
        b.releasePage page

/-- RELOAD_HOLD_TIMEOUT (spec/10 R239): accesses that have waited longer than HOLD_LIMIT end with POISON, a posted write with
nobody to tell. -/
def Blk.reloadHoldTimeout (b : Blk) : Blk :=
  let late : BulkWait → Bool := fun w => b.bulkExpired w && w.access.isSome
  let ended := b.bulk.waits.filter late
  let b' := { b with bulk := { b.bulk with waits := b.bulk.waits.filter (fun w => !late w) } }
  b'.emitAll ((ended.filter (fun w => !w.own)).filterMap (fun w => w.access.map (fun x => OutEvent.bulk x.cls x.addr bkPoison [])))

/-- The page whose spare has a number. -/
def Blk.spareOwner (b : Blk) (k : Nat) : Option Nat :=
  (b.bulk.pages.find? (fun e => e.2.spare == some k)).map (fun e => e.1)

/-- BULK_SCRUB_STEP (spec/10 R243): the unit at SCRUB_POS, visible units first, then the units of the spares in use. -/
def Blk.bulkScrub (b : Blk) : Blk :=
  if b.active Page.BULK && b.flag BULK.SCRUB_CTRL_EN then
    let pos := b.get BULK.SCRUB_POS
    let unit : Option Nat :=
      if pos < bulkUnits then some pos
      else (b.spareOwner ((pos - bulkUnits) / 64)).map (fun p => p * 64 + (pos - bulkUnits) % 64)
    let b := match unit with
      | none => b
      | some u => if b.pageHeld (u / 64) || (b.bpage (u / 64)).dead then b else (b.unitCheck 0 u).2
    if pos + 1 < bulkUnits + 64 * b.bulk.used then b.set BULK.SCRUB_POS (pos + 1)
    else (b.set BULK.SCRUB_POS 0).raise BULK.IRQ_RAW_SCRUB_PASS
  else b

/-- Hamada loads the list of retired pages through RETIRE_PAGE with KIND LOADED (spec/10 R242, spec/18 Table 5). -/
def Blk.loadRetired (b : Blk) : Blk :=
  if !b.powered Page.BULK then b
  else b.each (b.fuse.retired.filter (fun p => (b.bpage p).spare.isNone && !(b.bpage p).dead)) (fun b p => b.retire p 2 1)

/-- A write of RETIRE_CTRL (spec/10 R242, R246): KIND stored; GO acts on RETIRE_PAGE. KIND 0 and 2 name no action, and a page
already mapped to a spare is not loaded again (notes/assumptions/23). -/
def Blk.writeRetire (b : Blk) (v : Nat) : Blk :=
  let b := b.set BULK.RETIRE_CTRL_KIND (bitsAt v 1 2)
  let page := b.get BULK.RETIRE_PAGE
  let kind := b.get BULK.RETIRE_CTRL_KIND
  if !bitAt v 0 then b
  else if bulkPages ≤ page then b.captureOwnFree Page.BULK 0x05
  else if kind == 1 then
    (if (b.bpage page).spare.isSome || (b.bpage page).dead then b else b.retire page 2 1)
  else if kind == 3 && !(b.bpage page).dead then
    let b := b.retire page 3 1
    if b.pageHeld page then b else b.releasePage page
  else b

/-- A write of SHARE (spec/10 R244). -/
def Blk.writeShare (b : Blk) (a : Agent) (v : Nat) : Blk :=
  let sum := bitsAt v 0 6 + bitsAt v 6 6 + bitsAt v 12 6 + bitsAt v 18 6 + bitsAt v 24 6
  if 60 < sum then b.captureFree Page.BULK 0x03 (agentCode a)
  else b.storeKey (regKey Page.BULK 0x048) (BitVec.ofNat 32 v)

end Sys2Proof.Machine
end

