-- ==== Sys2Proof/Machine/Plan.lean ====
section
/-! DEFINITION. Machine/Plan.lean: a plan's header, what it holds for a node, and how nodes neighbour each other in it (spec/13
R306, R307, R311, R312). -/

namespace Sys2Proof.Machine

/-! ### The header (Table 1) -/

def planMagic (p : Plan) : Nat := leAt p.header 0 4
def planFmt (p : Plan) : Nat := leAt p.header 4 2
def planCfa (p : Plan) : Nat := leAt p.header 6 1
def planSteppings (p : Plan) : Nat := leAt p.header 7 1
def planTopo (p : Plan) : Nat := leAt p.header 8 1
def planX (p : Plan) : Nat := leAt p.header 9 1
def planY (p : Plan) : Nat := leAt p.header 10 1
def planMode (p : Plan) : Nat := leAt p.header 11 1
def planN (p : Plan) : Nat := leAt p.header 12 2
def planErgIf (p : Plan) : Nat := leAt p.header 14 2
def planFleet (p : Plan) : Nat := leAt p.header 16 4
def planHash (p : Plan) : List Byte := (p.header.drop 20).take 48
def planShadow (p : Plan) : Bool := bitAt (leAt p.header 68 1) 0
def planDegraded (p : Plan) : Bool := bitAt (leAt p.header 68 1) 1
def planBytes (p : Plan) : Nat := leAt p.header 72 8

def topoSingle : Nat := 0
def topoLine : Nat := 1
def topoRing : Nat := 2
def topoTorus : Nat := 3

/-- Ring and torus plans have the NODE_OUT variants (Table 2). -/
def planRound (p : Plan) : Bool := planTopo p == topoRing || planTopo p == topoTorus

/-- The node the plan cables to port `d` (N, E, S, W) of node `i` (spec/11 R264). -/
def planNeighbour (p : Plan) (i d : Nat) : Option Nat :=
  let n := planN p
  if planTopo p == topoLine then
    (if d == 1 && i + 1 < n then some (i + 1) else if d == 3 && 0 < i then some (i - 1) else none)
  else if planTopo p == topoRing then
    (if d == 1 then some ((i + 1) % n) else if d == 3 then some ((i + n - 1) % n) else none)
  else if planTopo p == topoTorus then
    let w := planX p
    let h := planY p
    let x := i % w
    let y := i / w
    some (if d == 0 then ((y + h - 1) % h) * w + x else if d == 1 then y * w + (x + 1) % w
      else if d == 2 then ((y + 1) % h) * w + x else y * w + (x + w - 1) % w)
  else none

/-- The ring successor of a node (R311); a line and a single node have none. -/
def planSuccessor (p : Plan) (i : Nat) : Option Nat := if planRound p then planNeighbour p i 1 else none

/-- The buddy of a node, which mirrors its journal (R312): its predecessor, in a line the node before it, and node 1 for node 0;
a single node has none. -/
def planBuddy (p : Plan) (i : Nat) : Option Nat :=
  if planRound p then planNeighbour p i 3
  else if planTopo p == topoLine && 1 < planN p then some (if i == 0 then 1 else i - 1)
  else none

/-- An entry that a node does not have. -/
def noPlanEntry : PlanEntry := ⟨0, 0, 0, 0, 0, 0, 0, 0, false, .other, [], 0, []⟩

def planVariant (p : Plan) (kind arg : Nat) : Option PlanVariant := p.variants.find? (fun v => v.kind == kind && v.arg == arg)

/-- What a variant holds for a node. -/
def planNode (p : Plan) (kind arg node : Nat) : Option PlanNode :=
  (planVariant p kind arg).bind (fun v => v.nodes.find? (fun x => x.node == node))

def entryAt (v : PlanVariant) (node e : Nat) : PlanEntry :=
  match v.nodes.find? (fun x => x.node == node) with
  | some x => nth x.entries e noPlanEntry
  | none => noPlanEntry

/-- What the variant in force holds for this node. -/
def Blk.planHere (b : Blk) : Option PlanNode :=
  b.fleet.plan.bind (fun p => planNode p (b.get SCHED.VARIANT_VKIND) (b.get SCHED.VARIANT_VARG) (b.get XROUTE.NODE_ID))

end Sys2Proof.Machine
end

