-- ==== Sys2Proof/Machine/Sched.lean ====
section
/-! DEFINITION. Machine/Sched.lean: the SCHED block (spec/13 R317 to R325, R329, R341): schedule entries and their
instances, starts, misses, watchdogs, kicks, data-driven fires, heartbeats, JOIN packets. -/

namespace Sys2Proof.Machine

/-! ### Entries (spec/13 Table 3) -/

def Blk.entWord (b : Blk) (bank e w : Nat) : Word := Tbl.get (dflt 0) b.sched.words ((bank * 1024 + e) * 4 + w)
def Blk.entByte (b : Blk) (bank e i : Nat) : Nat := bitsAt (b.entWord bank e (i / 4)).toNat (8 * (i % 4)) 8
def Blk.entHalf (b : Blk) (bank e i : Nat) : Nat := bitsAt (b.entWord bank e (i / 4)).toNat (8 * (i % 4)) 16
def Blk.entFlags (b : Blk) (bank e : Nat) : Nat := b.entByte bank e 12

/-- The entries of a bank that hold anything, ascending. -/
def Blk.entriesOf (b : Blk) (bank : Nat) : List Nat :=
  ((b.sched.words.filter (fun x => x.1 / 4096 == bank)).map (fun x => (x.1 / 4) % 1024)).eraseDups

/-- A frame matches DIV2 and PHASE. -/
def phaseOk (div2 phase : Bool) (f : BitVec 32) : Bool := !div2 || (f.toNat % 2 == bitNat phase)

/-- A write of ENT_DATA word `w` (spec/13 R317): not to the bank in force. -/
def Blk.writeEnt (b : Blk) (a : Agent) (w : Nat) (v : Word) : Blk :=
  let bank := b.get SCHED.ENT_SEL_BANK
  if bank == b.get SCHED.SCHED_CTRL_BANK then b.captureFree Page.SCHED 0x05 (agentCode a)
  else
    let k := (bank * 1024 + b.get SCHED.ENT_SEL_ENTRY) * 4 + w
    { b with sched := { b.sched with words := Tbl.put (dflt 0) b.sched.words k v } }

/-- An entry's 16 bytes set in a bank, by Erg. -/
def Blk.loadEntry (b : Blk) (bank e : Nat) (bytes : List Byte) : Blk :=
  b.each [0, 1, 2, 3] (fun b w =>
    let v : Word := BitVec.ofNat 32 (leAt bytes (4 * w) 4)
    { b with sched := { b.sched with words := Tbl.put (dflt 0) b.sched.words ((bank * 1024 + e) * 4 + w) v } })

/-- An event log entry (spec/13 EVT_HEAD). -/
def Blk.logEvent (b : Blk) (i : Inst) (kind tiles : Nat) : Blk :=
  let at_ := b.get SCHED.EVT_HEAD_NEXT
  let dfl : Nat → EvtEntry := dflt ⟨0, 0, 0, 0⟩
  let used := Tbl.get dfl b.sched.evt at_ != dfl at_
  let e : EvtEntry := ⟨i.entry, kind, tiles, coordNat ⟨i.frame, 0⟩⟩
  { b with sched := { b.sched with evt := Tbl.put dfl b.sched.evt at_ e } }.ringStep
    SCHED.EVT_HEAD_NEXT SCHED.EVT_HEAD_OVF used

/-! ### Instances -/

/-- Line periods from an instance's frame L0 until now. -/
def Blk.instAge (b : Blk) (i : Inst) : Nat := b.linesSince i.base

/-- The latest start offset in force for an instance (spec/13 R319, R325). -/
def Inst.lastStart (i : Inst) : Nat := if i.kicked then i.retryBy else i.latest

/-- Instances mapped. -/
def Blk.setInsts (b : Blk) (l : List Inst) : Blk := { b with sched := { b.sched with insts := l } }

/-- An instance has neither started nor been missed. -/
def Inst.unstarted (i : Inst) : Bool := i.state == .waiting || i.state == .due

/-- What the plan in force says of an entry: its part, its views, its queue pairs. -/
def Blk.planOf (b : Blk) (e : Nat) : PlanPart × List Nat × List Nat :=
  match b.planHere with
  | none => (.other, [], [])
  | some x =>
    let y := nth x.entries e noPlanEntry
    (y.part, y.views, (x.qps.filter (fun q => q.entry == e)).map (fun q => q.qp))

/-- In the fleet's safe state trunk and scene do not run (spec/13 R340). -/
def Blk.partRuns (b : Blk) (part : PlanPart) : Bool := !(b.fleet.blind && (part == .trunk || part == .scene))

/-- At a frame's L0 every valid entry of the bank in force that matches DIV2 and PHASE has an instance (spec/13 R318);
instances of old frames that can act no more are dropped. -/
def Blk.makeInstances (b : Blk) : Blk :=
  if !b.powered Page.SCHED then b
  else
    let old := b.sched.insts.filter (fun i =>
      i.state == .running || i.unstarted || b.instAge i ≤ max i.retryBy 16383)
    let b := { b with sched := { b.sched with
      frames := b.sched.frames.filter (fun (f : BitVec 32 × BitVec 48) => decide (b.linesSince f.2 ≤ 16383)) ++ [(b.ep.frame, b.ep.line)] } }
    if b.flag SCHED.SCHED_CTRL_RUN && b.flag (hEn Page.SCHED) then
      let bank := b.get SCHED.SCHED_CTRL_BANK
      let new := (b.entriesOf bank).filterMap (fun e =>
        let fl := b.entFlags bank e
        let of := b.planOf e
        if bitAt fl 0 && phaseOk (bitAt fl 2) (bitAt fl 3) b.ep.frame && b.partRuns of.1 then
          some { entry := e, frame := b.ep.frame, base := b.ep.line, group := b.entHalf bank e 0, mask := b.entHalf bank e 2
                 start := b.entHalf bank e 4, latest := b.entHalf bank e 6, timeout := b.entHalf bank e 8
                 retryBy := b.entHalf bank e 10, data := bitAt fl 1, opened := false, state := .waiting, kicked := false
                 startedAt := b.ep.line, done := 0, part := of.1, views := of.2.1, qps := of.2.2, why := (0, 0), given := false : Inst }
        else none)
      b.setInsts (old ++ new)
    else b.setInsts old

/-- INSTANCE_OPEN (spec/13 R318): the instances whose START is reached open; a TIME entry, or a DATA entry with a held fire
for its oldest open instance, is then due to start. -/
def Blk.openInstances (b : Blk) : Blk :=
  let r := b.sched.insts.foldl (fun (st : List Inst × List Nat) i =>
    if i.state == .waiting && !i.opened && i.start ≤ b.instAge i then
      if !i.data then (st.1 ++ [{ i with opened := true, state := .due }], st.2)
      else if st.2.contains i.entry then (st.1 ++ [{ i with opened := true, state := .due }], st.2.erase i.entry)
      else (st.1 ++ [{ i with opened := true }], st.2)
    else (st.1 ++ [i], st.2)) ([], b.sched.fires)
  { b with sched := { b.sched with insts := r.1, fires := r.2 } }

/-- An instance is missed (spec/13 R319). -/
def Blk.missInst (b : Blk) (i : Inst) : Blk :=
  let b := (b.bumpSat SCHED.MISSED).raise SCHED.IRQ_RAW_MISSED
  (b.captureOwnFree Page.SCHED 0x01).logEvent i 0x01 i.mask

/-- The tiles of a mask. -/
def tilesOf (mask : Nat) : List Nat := indicesWhere 16 (fun t => bitAt mask t)

/-- The `k`-th instance may start: due, and every older instance of its entry started or missed (spec/13 R319). -/
def mayStartInst (l : List Inst) (k : Nat) (i : Inst) : Bool :=
  i.state == .due && (l.take k).all (fun o => o.entry != i.entry || !o.unstarted)

/-- GROUP_START (spec/13 R319): the `k`-th instance, when it may start and all its tiles are IDLE, starts on every tile at
once; a tile that refuses makes it missed. -/
def Blk.startInst (b : Blk) (k : Nat) : Blk :=
  match b.sched.insts[k]? with
  | none => b
  | some i =>
    let ts := tilesOf i.mask
    if !(mayStartInst b.sched.insts k i && b.active Page.SCHED && b.instAge i ≤ i.lastStart) then b
    else if !(ts.all (fun t => b.powered (tilePage t) && b.tstate t == tsIdle)) then b
    else if ts.all (fun t => b.tileReady t) then
      let b := b.each ts (fun b t => b.startTile t i.group)
      b.setInsts (setNth b.sched.insts k { i with state := .running, startedAt := b.ep.line, done := 0 })
    else (b.missInst i).setInsts (setNth b.sched.insts k { i with state := .missed, why := (gapJob, 0x01) })

/-- Every instance that can start does, oldest first. -/
def Blk.startAll (b : Blk) : Blk := b.each (List.range b.sched.insts.length) Blk.startInst

/-- INSTANCE_MISSED (spec/13 R319): unstarted instances past LATEST (a kicked one past RETRY_BY). -/
def Blk.missInstances (b : Blk) : Blk :=
  b.each (List.range b.sched.insts.length) (fun b k =>
    match b.sched.insts[k]? with
    | some i =>
      if i.unstarted && i.lastStart < b.instAge i then
        (b.missInst i).setInsts (setNth b.sched.insts k { i with state := .missed, why := (gapJob, 0x01) })
      else b
    | none => b)

/-- A job's watchdog is over. -/
def Blk.jobExpired (b : Blk) (i : Inst) : Bool := i.state == .running && i.timeout ≤ b.linesSince i.startedAt

/-- JOB_TIMEOUT (spec/13 R320): started instances whose tiles have not all reported GROUP_DONE within TIMEOUT. -/
def Blk.jobTimeouts (b : Blk) : Blk :=
  b.each (List.range b.sched.insts.length) (fun b k =>
    match b.sched.insts[k]? with
    | some i =>
      if b.jobExpired i then
        let left := maskOf 16 (fun t => bitAt i.mask t && !bitAt i.done t)
        let b := ((b.bumpSat SCHED.TIMEOUTS).raise SCHED.IRQ_RAW_TIMEOUT).captureOwnFree Page.SCHED 0x02
        (b.logEvent i 0x02 left).setInsts (setNth b.sched.insts k { i with state := .timedOut, why := (gapJob, 0x02) })
      else b
    | none => b)

/-- A queue pair that a job uses errs (spec/12 R299, spec/13 R324): the jobs that run with it fail, or else the last one that has
ended, whose packets were still on their way; the job watchdog then ends. -/
def Blk.failQueue (b : Blk) (q cause : Nat) : Blk :=
  let uses := fun (i : Inst) => i.qps.contains q
  if b.sched.insts.any (fun i => i.state == .running && uses i) then b.failJobs uses (gapJob, cause)
  else
    let ks := indicesWhere b.sched.insts.length (fun k =>
      match b.sched.insts[k]? with | some i => i.state == .ended && uses i | none => false)
    match ks.getLast? with
    | none => b
    | some k => b.setInsts (b.sched.insts.modify k (fun i => { i with state := .failed, why := (gapJob, cause) }))

/-- A job has failed and will not be retried: no retry is declared, the one retry was made, or its time is over (spec/13 R325). -/
def Blk.jobOver (b : Blk) (i : Inst) : Bool :=
  (i.state == .missed || i.state == .timedOut || i.state == .failed) && !i.given &&
    (i.retryBy == 0 || i.kicked || i.retryBy < b.instAge i)

/-- The GAP cause of a job's frame: SWITCH when a variant switch has come since the frame's L0 (spec/15 Table 7). -/
def Blk.lossCause (b : Blk) (i : Inst) : Nat × Nat :=
  match b.fleet.lastSwitch with
  | some (f, kind) => if frameDiff i.frame f < 0 && frameDiff i.frame f ≥ -3 then (gapSwitch, kind) else i.why
  | none => i.why

/-- The frames of the jobs that have failed for good are lost for every view they serve (spec/13 R325). -/
def Blk.giveUpJobs (b : Blk) : Blk :=
  let ended := b.sched.insts.filter b.jobOver
  let b := b.each ended (fun b i => b.each i.views (fun b v => b.loseFrame v i.frame (b.lossCause i).1 (b.lossCause i).2))
  b.setInsts (b.sched.insts.map (fun i => if b.jobOver i then { i with given := true } else i))

/-- Contexts named in DL_VIEWS (spec/13 R322). -/
def Blk.dlViews (b : Blk) : List Nat :=
  indicesWhere 36 (fun v => bitAt (b.get SCHED.DL_VIEWS_LO + 2 ^ 32 * b.get SCHED.DL_VIEWS_HI) v)

/-- A frame is lost for every view of the plan, unless the schedule does not run it (spec/13 R307). -/
def Blk.loseViews (b : Blk) (f : BitVec 32) (cause detail : Nat) : Blk :=
  if phaseOk (b.flag SCHED.DL_CTRL_DIV2) (b.flag SCHED.DL_CTRL_PHASE) f then
    b.each b.dlViews (fun b v => b.loseFrame v f cause detail)
  else b

/-- Frames from the one before last to `last` are lost: those already closed are not touched (spec/13 R334, R339). -/
def Blk.loseUntil (b : Blk) (last : BitVec 32) (cause detail : Nat) : Blk :=
  let first := b.ep.frame - 2
  b.each (List.range ((frameDiff last first).toNat + 1)) (fun b i => b.loseViews (first + BitVec.ofNat 32 i) cause detail)

/-- A tile reports GROUP_DONE: the running instance of its group that still lacks it (spec/13 R320). -/
def Blk.groupDone (b : Blk) (t group : Nat) : Blk :=
  let mine : Inst → Bool := fun i => i.state == .running && i.group == group && bitAt i.mask t && !bitAt i.done t
  match b.sched.insts.findIdx? mine with
  | none => b
  | some k =>
    match b.sched.insts[k]? with
    | none => b
    | some i =>
      let done := putBits i.done t 1 1
      let all := (tilesOf i.mask).all (fun x => bitAt done x)
      b.setInsts (setNth b.sched.insts k { i with done := done, state := if all then .ended else .running })

/-- A data-driven fire of a group reaches SCHED (spec/12 R300, spec/13 R318): the oldest open unstarted instance of the DATA
entry of that group is due; else the fire is held, one per entry; else it is lost. -/
def Blk.fireGroup (b : Blk) (group : Nat) : Blk :=
  let waits : Inst → Bool := fun i => i.data && i.group == group && i.opened && i.state == .waiting
  match b.sched.insts.findIdx? waits with
  | some k =>
    match b.sched.insts[k]? with
    | some i => (b.setInsts (setNth b.sched.insts k { i with state := .due })).startInst k
    | none => b
  | none =>
    let bank := b.get SCHED.SCHED_CTRL_BANK
    let ent := (b.entriesOf bank).find? (fun e =>
      bitAt (b.entFlags bank e) 0 && bitAt (b.entFlags bank e) 1 && b.entHalf bank e 0 == group)
    let lost := fun (b : Blk) => ((b.bumpSat SCHED.FIRE_LOST).raise SCHED.IRQ_RAW_FIRE_LOST).captureOwnFree Page.SCHED 0x04
    match ent with
    | some e =>
      if b.sched.fires.contains e then lost b
      else { b with sched := { b.sched with fires := b.sched.fires ++ [e] } }.raise SCHED.IRQ_RAW_EARLY_FIRE
    | none => lost b

/-- A write of KICK (spec/13 R325): entry and F[15:0]. -/
def Blk.kick (b : Blk) (a : Agent) (entry f : Nat) : Blk :=
  let mine : Inst → Bool := fun i => i.entry == entry && i.frame.toNat % 65536 == f && !i.unstarted
  let refuse := fun (b : Blk) => (b.raise SCHED.IRQ_RAW_KICK_LATE).captureFree Page.SCHED 0x06 (agentCode a)
  match b.sched.insts.findIdx? mine with
  | none => refuse b
  | some k =>
    match b.sched.insts[k]? with
    | none => b
    | some i =>
      if i.retryBy == 0 || i.kicked || i.retryBy < b.instAge i then refuse b
      else (b.setInsts (setNth b.sched.insts k { i with kicked := true, opened := true, state := .due, done := 0, why := (0, 0) })).startInst k

/-! ### Heartbeats (spec/13 R323) -/

/-- A due point lies at this line period. -/
def Blk.dueNow (b : Blk) : Bool := b.curL == 0 || b.curL == b.frameLen / 2

/-- The JOIN payload of this node (spec/13 Table 7); `tail` fills AT. -/
def Blk.joinBytes (b : Blk) (kind node epoch seq at_ : Nat) (flags : Nat) : List Byte :=
  natLe 1 kind ++ natLe 1 node ++ natLe 1 (b.get SCHED.JOIN_CTRL_JSTATE) ++ natLe 1 flags ++
  natLe 4 (b.get SCHED.FLEET_ID) ++ natLe 2 (b.get SCHED.IDS_ERG_IF) ++ natLe 2 (b.get SCHED.IDS_PLAN_FMT) ++
  natLe 2 epoch ++ natLe 2 seq ++ natLe 8 at_ ++
  (List.range 4).flatMap (fun i => natLe 4 (b.get (SCHED.PLAN_HASH i))) ++
  natLe 1 (b.get SCHED.VARIANT_VKIND) ++ natLe 1 (b.get SCHED.VARIANT_VARG) ++ List.replicate 6 0

/-- A JOIN packet to the link partners on some ports. -/
def Blk.joinOnPorts (b : Blk) (ports : List Nat) (payload : List Byte) : Blk :=
  b.each ports (fun b p => b.sendLocal p (controlPacket 0x44 true 0 (b.get XROUTE.NODE_ID) payload))

/-- HEARTBEAT_DUE (spec/13 R323): at a due point a JOINED node sends on its OPEN ports when ALIVE was written since the
previous due point. -/
def Blk.heartbeatDue (b : Blk) : Blk :=
  if b.dueNow && b.powered Page.SCHED && b.sched.lastDue != some b.ep.line then
    let send := b.get SCHED.JOIN_CTRL_JSTATE == 3 && b.flag SCHED.HB_CTRL_EN && b.sched.alive
    let b := { b with sched := { b.sched with alive := false, silent := !b.sched.alive, lastDue := some b.ep.line } }
    if send then
      b.joinOnPorts (indicesWhere 4 (fun p => b.portOpen p && !b.flag (XPORT.STATUS_TAP_MODE p)))
        (b.joinBytes 2 (b.get XROUTE.NODE_ID) 0 0 (coordNat b.now) (1 + 2 * bitNat b.fleet.fault))
    else b
  else b

/-- One line period after a due point the ports that heard nothing count it (spec/13 R323). -/
def Blk.countHeartbeats (b : Blk) : Blk :=
  if b.powered Page.SCHED && b.get SCHED.JOIN_CTRL_JSTATE == 3 && (b.curL == 1 || b.curL == b.frameLen / 2 + 1) then
    let b := { b with sched := { b.sched with
      missedHb := (List.range 4).map (fun p =>
        if !b.portOpen p || nth b.sched.heard p false then 0 else nth b.sched.missedHb p 0 + 1) } }
    let b := b.set SCHED.HB_STATUS_ALIVE (maskOf 4 (fun p => nth b.sched.heard p false))
    { b with sched := { b.sched with heard := [false, false, false, false] } }
  else b

/-- HEARTBEAT_LOST (spec/13 R323): at the end of a due point, HB_MISS consecutive ones without a heartbeat; 0 acts as 1. -/
def Blk.heartbeatLost (b : Blk) : Blk :=
  let ended := b.curL == 1 || b.curL == b.frameLen / 2 + 1
  b.each [0, 1, 2, 3] (fun b p =>
    if ended && max 1 (b.get SCHED.HB_CTRL_HB_MISS) ≤ nth b.sched.missedHb p 0 && !bitAt (b.get SCHED.HB_STATUS_LOST) p then
      let b := b.set SCHED.HB_STATUS_LOST (putBits (b.get SCHED.HB_STATUS_LOST) p 1 1)
      (b.raise SCHED.IRQ_RAW_HB_LOST).captureOwnFree Page.SCHED 0x07
    else b)

/-- A write of ALIVE (spec/13 R323); SAFE sees it (spec/20 R513). -/
def Blk.writeAlive (b : Blk) (v : Nat) : Blk :=
  if bitAt v 0 then
    let b := { b with sched := { b.sched with alive := true, silent := false } }
    b.when (b.powered Page.SAFE) (fun b => b.set SAFE.ALIVE_STATUS_F b.ep.frame.toNat)
  else b

/-! ### JOIN packets (spec/13 R329, R341) -/

/-- The payload in JOIN_TX. -/
def Blk.joinTx (b : Blk) : List Byte := (List.range 12).flatMap (fun i => natLe 4 (b.get (SCHED.JOIN_TX i)))

/-- A write of JOIN_SEND: on the named trained ports, or routed to a node. -/
def Blk.joinSend (b : Blk) (v : Nat) : Blk :=
  if bitAt v 4 then b.sendRouted (controlPacket 0x44 false (bitsAt v 8 8) (b.get XROUTE.NODE_ID) b.joinTx)
  else b.joinOnPorts (b.fleetPorts.filter (fun p => bitAt v p)) b.joinTx

/-- JOIN_RECEIVE (spec/13 R329, R341): a HEARTBEAT is consumed, another issued kind goes to the JOIN_RX ring. -/
def Blk.joinReceive (b : Blk) (port : Nat) (payload : List Byte) : Blk :=
  let kind := leAt payload 0 1
  if !b.active Page.SCHED || kind == 0 || 7 < kind then b
  else if kind == 2 then { b with sched := { b.sched with heard := setNth b.sched.heard port true } }
  else
    let tail := b.get SCHED.JRX_TAIL
    if (tail + 1) % 64 == b.get SCHED.JRX_HEAD then b.captureOwnFree Page.SCHED 0x08
    else
      let entry := (payload ++ List.replicate 48 0).take 48 ++ natLe 1 port ++ List.replicate 7 0 ++ natLe 8 (coordNat b.now)
      let b := b.bulkPost 1 (b.get SCHED.JRX_BASE_LO + 2 ^ 32 * b.get SCHED.JRX_BASE_HI + 64 * tail) entry
      (b.set SCHED.JRX_TAIL (tail + 1)).raise SCHED.IRQ_RAW_JOIN_RX

end Sys2Proof.Machine
end

