-- ==== Sys2Proof/Machine/Sensor.lean ====
section
/-! DEFINITION. Machine/Sensor.lean: the pixel tier (spec/04): window sets, readout, reference rows, temperature. -/

namespace Sys2Proof.Machine

/-- Causes (spec/04 R100). -/
def scMissed : Nat := 0x01
def scTcFail : Nat := 0x02
def scObFail : Nat := 0x03
def scWinRefused : Nat := 0x04

/-! ### Window sets (spec/04 R88 to R91) -/

def noWin : WinCfg := ⟨false, 0, 0, 0, 0, 0, 0, 1, 0, 0⟩

/-- The window in force in the registers. -/
def Blk.winOf (b : Blk) (w : Nat) : WinCfg :=
  { en := b.flag (SEN.WIN_TIME_EN w), col0 := b.get (SEN.WIN_GEOM0_COL0 w), cols := b.get (SEN.WIN_GEOM0_COLS w)
    row0 := b.get (SEN.WIN_GEOM1_ROW0 w), rows := b.get (SEN.WIN_GEOM1_ROWS w), startL := b.get (SEN.WIN_TIME_START_L w)
    slot := b.get (SEN.WIN_TIME_SLOT w), reps := b.get (SEN.WIN_TIME_REPEAT_M1 w) + 1, gain := b.get (SEN.WIN_TIME_GAIN w)
    exposure := b.get (SEN.WIN_EXP_EXPOSURE w) }

def Blk.winSet (b : Blk) : List WinCfg := (List.range 4).map b.winOf

/-- Reference rows of a frame mode; optical-black first, then as many test-charge (spec/02 R29 Table 1). -/
def refRowsOf (mode : Nat) : Nat := if mode == 0 then 16 else 8
def arrayCols (mode : Nat) : Nat := if mode == 0 then 4096 else 2048
def arrayRows (mode : Nat) : Nat := if mode == 0 then 2304 else 1152

/-- Code 1 GEOMETRY (spec/04 R90 Table 3, R100). -/
def winGeometryBad (glint : Bool) (mode : Nat) (w : WinCfg) : Bool :=
  let q := if glint && mode == 0 then 4 else 2
  w.col0 % 16 != 0 || w.cols % 16 != 0 || w.row0 % q != 0 || w.rows % q != 0 || w.cols == 0 || w.rows == 0 ||
    arrayCols mode < w.col0 + w.cols || arrayRows mode < w.row0 + w.rows || w.gain == 3

/-- Code 2 OUTSIDE_FRAME. -/
def winOutside (mode : Nat) (w : WinCfg) : Bool :=
  w.startL < refRowsOf mode || frameLenOf mode < w.startL + w.reps * w.rows

/-- Code 3 SLOT_CLASH of two windows. -/
def winClash (u w : WinCfg) : Bool :=
  u.slot == w.slot && overlaps u.startL (u.reps * u.rows) w.startL (w.reps * w.rows)

/-- Code 4 EXPOSURE_RANGE. -/
def winExposureBad (mode : Nat) (w : WinCfg) : Bool :=
  let wrap := frameLenOf mode - (w.reps - 1) * w.rows
  let gap := if 1 < w.reps then min w.rows wrap else wrap
  w.exposure < 2 || 16 * gap < w.exposure

/-- Time of read `k` of array row 0 of a window, in 1/16 line periods; slot 1 stands half a line period later (R80). -/
def winTime (w : WinCfg) (k : Nat) : Int :=
  16 * ((w.startL : Int) + (k : Int) * (w.rows : Int) - (w.row0 : Int)) + 8 * (w.slot : Int)

/-- Code 5 INTEGRATION_OVERLAP: the reset of a row for a read of `w` falls before a read of it by `u` that precedes that read
in the cycle of the frame. -/
def winOverlap (mode : Nat) (w u : WinCfg) : Bool :=
  let t : Int := ((16 * frameLenOf mode : Nat) : Int)
  overlaps w.col0 w.cols u.col0 u.cols && overlaps w.row0 w.rows u.row0 u.rows &&
    (List.range w.reps).any (fun k => (List.range u.reps).any (fun j =>
      decide ((winTime w k - winTime u j) % t < (w.exposure : Int))))

/-- The first failure of a set in a frame mode: code (1 to 5) and window (spec/04 R90 Table 3). -/
def winFailure (glint : Bool) (mode : Nat) (ws : List WinCfg) : Option (Nat × Nat) :=
  let en := (List.range 4).filter (fun i => (nth ws i noWin).en)
  let w := fun i => nth ws i noWin
  let pairs := fun (p : WinCfg → WinCfg → Bool) (i : Nat) => en.any (fun j => j != i && p (w i) (w j))
  let first := fun (code : Nat) (p : Nat → Bool) => (en.find? p).map (fun i => (code, i))
  ((((first 1 (fun i => winGeometryBad glint mode (w i))).or (first 2 (fun i => winOutside mode (w i)))).or
    (first 3 (pairs winClash))).or (first 4 (fun i => winExposureBad mode (w i)))).or (first 5 (pairs (winOverlap mode)))

/-- The refusal of a set that is to govern the next frame (spec/04 R90, R91): code 6 when codes 1 or 2 fail only for the mode
change. -/
def winRefusal (glint : Bool) (now next : Nat) (ws : List WinCfg) : Option (Nat × Nat) :=
  match winFailure glint next ws with
  | none => none
  | some (code, i) =>
    let fits := match winFailure glint now ws with | some (c, _) => decide (3 ≤ c) | none => true
    if code ≤ 2 && now != next && fits then some (6, i) else some (code, i)

/-- Frame mode that an accepted power-mode request brings in at the next frame's L0 (spec/16 R409). -/
def Blk.nextPwrMode (b : Blk) : Option Nat :=
  match b.power.request with
  | some r =>
    if b.power.trans.isNone && b.active Page.PWR && coordReached ⟨b.ep.frame + 1, 0⟩ ⟨r.atF, 0⟩ then
      if r.target == 4 then some r.fmode else if b.power.mode == 4 then some 2 else none
    else none
  | none => none

/-- Mode in force at the next frame's L0 (spec/02 R30): a power-mode step begins after a pending change is taken. -/
def Blk.nextMode (b : Blk) : Nat :=
  match b.nextPwrMode, b.ep.pendMode with
  | some m, _ => m
  | none, some (m, f) =>
    if coordReached ⟨b.ep.frame + 1, 0⟩ ⟨f, 0⟩ && !(b.ep.pendOwn && b.flag (hHold Page.EPOCH)) then m else b.mode
  | none, none => b.mode

/-- A refusal is shown and captured (spec/04 R90). -/
def Blk.winRefused (b : Blk) (code w : Nat) : Blk :=
  let b := ((b.set SEN.WIN_STATUS_CODE code).set SEN.WIN_STATUS_WINDOW w).set SEN.WIN_STATUS_F b.ep.frame.toNat
  (b.raise SEN.IRQ_RAW_WIN_REFUSED).captureOwn Page.SEN scWinRefused (code + w * 16)

def noWins : List WinCfg := List.replicate 4 noWin

/-- The window set of the next frame (spec/04 R89 to R91): a set that came into force now is checked; a set that governs is
checked again when the frame mode is about to change (notes/assumptions/38). -/
def Blk.chooseWindows (b : Blk) (newSet : Bool) : Blk :=
  let glint := glintTier b
  let m := b.nextMode
  let keep := b.sen.govern
  let cand := if newSet then b.winSet else keep
  let put := fun (b : Blk) (ws : List WinCfg) =>
    let b := ({ b with sen := { b.sen with next := ws } } : Blk)
    b.set SEN.WIN_STATUS_IN_FORCE (maskOf 4 (fun i => (nth ws i noWin).en))
  if !newSet && m == b.mode then put b keep
  else match winRefusal glint b.mode m cand with
    | none => put b cand
    | some (code, i) =>
      let b := b.winRefused code i
      if code == 6 || (winFailure glint m keep).isSome then put b noWins else put b keep

/-! ### Reference rows (spec/04 R94 to R96) -/

def groupCols (mode : Nat) : Nat := if mode == 0 then 256 else 128

/-- Sum of a group's samples of one row. -/
def groupSum (mode j : Nat) (row : List Nat) : Nat := ((row.drop (j * groupCols mode)).take (groupCols mode)).sum

/-- Mean of group `j` over the rows that were converted, in 1/16 DN, to the nearest (notes/assumptions/38); 0 when every
row was missed, so that the optical-black check fails. DESIGN CHOICE: R94 states no mean over missed rows
(notes/assumptions/80). -/
def groupMean16 (mode j : Nat) (rows : List (List Nat)) : Nat :=
  let n := rows.length * groupCols mode
  if n == 0 then 0 else (2 * 16 * ((rows.map (groupSum mode j)).sum) + n) / (2 * n)

/-- Level of test-charge row `k` in frame F (spec/04 R95). -/
def tcLevel (k : Nat) (f : BitVec 32) : Nat := (k + f.toNat) % 4

/-- Expected HCG code of a level. -/
def Blk.tcExpected (b : Blk) (level : Nat) : Nat :=
  if level == 0 then b.get SEN.TC_EXP01_LEVEL0 else if level == 1 then b.get SEN.TC_EXP01_LEVEL1
  else if level == 2 then b.get SEN.TC_EXP23_LEVEL2 else b.get SEN.TC_EXP23_LEVEL3

/-- A level's rows at one gain miss the expected code in some group (spec/04 R95); the LCG code is the HCG code divided by
the gain ratio, taken from ISP.GAIN_RATIO (U3.13). -/
def Blk.tcGroupBad (b : Blk) (mode level : Nat) (lcg : Bool) (rows : List (List Nat)) : Bool :=
  let n : Int := ((rows.length * groupCols mode : Nat) : Int)
  let e : Int := ((b.tcExpected level : Nat) : Int)
  let r : Int := if lcg then ((b.get ISP.GAIN_RATIO : Nat) : Int) else 8192
  let tol : Int := ((b.get SEN.TC_TOL : Nat) : Int)
  (List.range 16).any (fun j =>
    let s : Int := (((rows.map (groupSum mode j)).sum : Nat) : Int)
    decide (tol * n * r < ((s * r - e * 8192 * n).natAbs : Int)))

/-- The columns whose samples of a level and gain miss their group's mean by more than COL_TOL. -/
def Blk.tcBadCols (b : Blk) (mode : Nat) (rows : List (List Nat)) : List Nat :=
  let g := groupCols mode
  let m := rows.length
  let tol : Int := ((b.get SEN.TC_CTRL_COL_TOL * m * g : Nat) : Int)
  let sums := (List.range 16).map (fun j => (rows.map (groupSum mode j)).sum)
  if m == 0 then []
  else (List.range (16 * g)).filter (fun x =>
    let c := (rows.map (fun r => nth r x 0)).sum
    decide (tol < (((c * g : Nat) : Int) - ((nth sums (x / g) 0 : Nat) : Int)).natAbs))

/-- The frame's reference rows are evaluated (spec/04 R94 to R96). DESIGN CHOICE: the report that TC_CTRL.EN is off is made
here, so only by frames whose reference rows are read (notes/assumptions/81). -/
def Blk.evalRefRows (b : Blk) : Blk :=
  let mode := b.mode
  let rows := b.sen.refRows
  let pick := fun (tc : Bool) (lv : Option Nat) (lcg : Bool) =>
    rows.filterMap (fun r =>
      if r.testCharge == tc && (match lv with | some l => tcLevel r.index b.ep.frame == l | none => true) then
        r.conv.map (fun c => if lcg then c.lcg else c.hcg)
      else none)
  let hcg := (List.range 16).map (fun j => groupMean16 mode j (pick false none false))
  let lcg := (List.range 16).map (fun j => groupMean16 mode j (pick false none true))
  let b := { b with sen := { b.sen with obHcg := hcg, obLcg := lcg, refRows := [] } }
  let b := b.each (List.range 8) (fun b j =>
    (b.set (SEN.OB_GROUP_A j) (nth hcg (2 * j) 0)).set (SEN.OB_GROUP_B j) (nth hcg (2 * j + 1) 0))
  let obFail := hcg.any (fun m => m < 16 * b.get SEN.OB_LIMIT_MIN || 16 * b.get SEN.OB_LIMIT_MAX < m)
  let on := b.flag SEN.TC_CTRL_EN
  let sets := (List.range 4).flatMap (fun l => [(l, false), (l, true)])
  let bad := if on then
      (sets.flatMap (fun e => b.tcBadCols mode (pick true (some e.1) e.2))).eraseDups
    else []
  let missed := rows.any (fun r => r.conv.isNone)
  let tcFail := on && (missed || b.get SEN.TC_CTRL_COL_LIMIT < bad.length ||
    sets.any (fun e => let rs := pick true (some e.1) e.2; !rs.isEmpty && b.tcGroupBad mode e.1 e.2 rs))
  let b := ((b.set SEN.REF_STATUS_TC_FAIL (bitNat tcFail)).set SEN.REF_STATUS_OB_FAIL (bitNat obFail)).set
    SEN.REF_STATUS_BAD_COLS (min 255 bad.length)
  let b := b.set SEN.REF_STATUS_F b.ep.frame.toNat
  let b := b.when tcFail (fun b => (b.raise SEN.IRQ_RAW_TC_FAIL).captureOwnFree Page.SEN scTcFail)
  let b := b.when obFail (fun b => (b.raise SEN.IRQ_RAW_OB_FAIL).captureOwnFree Page.SEN scObFail)
  let b := b.when (!on) (fun b => b.report 0x02 Page.SEN)
  let fails := tcFail || obFail
  let again := fails && b.sen.failedBefore
  let b := b.set SEN.STATUS_REF_FAULT (if again then 1 else if fails then b.get SEN.STATUS_REF_FAULT else 0)
  let b := b.when again (fun b => b.report 0x01 Page.SEN)
  { b with sen := { b.sen with failedBefore := fails } }

/-! ### Readout (spec/04 R80 to R82, R88, R92, R99) -/

/-- A conversion that was missed (spec/04 R99). -/
def Blk.readMissed (b : Blk) (row : Nat) : Blk :=
  ((b.bumpSat SEN.MISS_COUNT).raise SEN.IRQ_RAW_READ_MISSED).captureOwn Page.SEN scMissed row

/-- The read a window makes at line period L: read number and row within the window. -/
def winRead (w : WinCfg) (l : Nat) : Option (Nat × Nat) :=
  if w.en && 0 < w.rows && w.startL ≤ l && l < w.startL + w.reps * w.rows then
    some ((l - w.startL) / w.rows, (l - w.startL) % w.rows)
  else none

/-- Windows may read in this frame (spec/04 R92); STATUS.READING shows it for the whole frame. DESIGN CHOICE: Table 4 gives
READING no times (notes/assumptions/38). -/
def Blk.reading (b : Blk) : Bool := b.powered Page.SEN && b.sen.runNow && b.sen.runBefore

/-- Windows read in this line period: none in those of the reference rows (spec/04 R81). -/
def Blk.readsNow (b : Blk) : Bool := b.reading && decide (refRowsOf b.mode ≤ b.curL)

/-- A read of own window `c` starts in this line period, and with it a frame of its context (spec/04 R82). -/
def Blk.ownStarts (b : Blk) (c : Nat) : Bool :=
  match winRead (nth b.sen.govern c noWin) b.curL with | some (_, i) => i == 0 | none => false

/-- A context frame of an own window starts, its copies applied (spec/02 R35, spec/04 R82, spec/05 R102). -/
def Blk.ownFrameStart (b : Blk) (c : Nat) (w : WinCfg) (k : Nat) : Blk :=
  if b.powered Page.CROUTE then
    let b := (b.set (CROUTE.OWN_STATE_FLAGS c) 0).set (CROUTE.OWN_STATE_FILL_LINES c) 0
    b.ispFrameStart { blankFrame c w.cols w.rows with
      col0 := w.col0, row0 := w.row0, gain := w.gain, exposure := w.exposure, srcFn := k }
  else b

/-- A window's row of this line period reaches its context, tagged with its row number, gain and slot (spec/04 R82, R88, R99,
spec/05 R117). -/
def Blk.windowRow (b : Blk) (conv : Option Conversion) (c : Nat) : Blk :=
  let w := nth b.sen.govern c noWin
  match winRead w b.curL with
  | none => b
  | some (k, i) =>
    let b := if i == 0 then b.ownFrameStart c w k else b
    let cut := fun (s : List Nat) => (s.drop w.col0).take w.cols
    let b := if b.powered Page.CROUTE then
        match conv with
        | some v => b.storeLine ⟨w.row0 + i, w.gain, w.slot⟩ c 64 w.cols
            (if w.gain == 1 then [] else cut v.hcg) (if w.gain == 0 then [] else cut v.lcg)
        | none => b.fillLine ⟨w.row0 + i, w.gain, w.slot⟩ c w.cols 64
      else b
    let b := if conv.isNone then b.readMissed (w.row0 + i) else b
    let b := b.when (i + 1 == w.rows && b.powered Page.CROUTE) (fun b => b.pushEnd c (b.get (CROUTE.OWN_STATE_FLAGS c)))
    let last := (List.range 4).foldl (fun m j => let v := nth b.sen.govern j noWin
                                                 if v.en then max m (v.startL + v.reps * v.rows) else m) 0
    b.when (b.curL + 1 == last) (fun b => b.raise SEN.IRQ_RAW_READ_DONE)

/-- A reference row of this line period (spec/04 R81, R94, R95); the last one has the frame evaluated. DESIGN CHOICE: a missed
one is captured with the index of its line period, as R99 numbers active rows only (notes/assumptions/79). -/
def Blk.refRow (b : Blk) (conv : Option Conversion) : Blk :=
  let n := refRowsOf b.mode
  let l := b.curL
  if l < n && b.powered Page.SEN && b.sen.runNow then
    let b := { b with sen := { b.sen with refRows := b.sen.refRows ++ [⟨decide (n / 2 ≤ l), l % (n / 2), conv⟩] } }
    let b := if conv.isNone then b.readMissed l else b
    if l + 1 == n then b.evalRefRows else b
  else b

/-- What the pixel tier converts in a line period: slot 0, then slot 1 (spec/04 R80). -/
def Blk.readLine (b : Blk) (slot0 slot1 : Option Conversion) : Blk :=
  let b := b.refRow slot0
  if b.readsNow then
    let at_ := fun (s : Nat) => (List.range 4).filter (fun c => (nth b.sen.govern c noWin).slot == s)
    (b.each (at_ 0) (fun b c => b.windowRow slot0 c)).each (at_ 1) (fun b c => b.windowRow slot1 c)
  else b

/-! ### L0 (spec/04 R86, R89, R92) -/

/-- Some window register's copy is about to come into force. -/
def Blk.winPending (b : Blk) : Bool :=
  !b.flag (hHold Page.SEN) && b.pendingKeys.any (fun k => pageOf k == Page.SEN && 0x080 ≤ offOf k && offOf k < 0x0C0)

/-- Temperatures sampled at L0, in 0.25 °C (spec/04 R86). DESIGN CHOICE: STATUS.HOT clears at the first L0 at which TEMP_MAX
does not exceed HOT_LIMIT (notes/assumptions/78). -/
def Blk.sampleTemps (b : Blk) (t : List Int) : Blk :=
  if b.powered Page.SEN then
    let s := fun i => nth t i 0
    let top := (List.range 4).foldl (fun m i => if m < s i then s i else m) (s 0)
    let b := ((b.set SEN.TEMP01_S0 (twosOf 16 (s 0))).set SEN.TEMP01_S1 (twosOf 16 (s 1))).set SEN.TEMP23_S2 (twosOf 16 (s 2))
    let b := (b.set SEN.TEMP23_S3 (twosOf 16 (s 3))).set SEN.TEMP_MAX (twosOf 16 top)
    if signedOf 16 (b.get SEN.HOT_LIMIT) < top then (b.raise SEN.STATUS_HOT).raise SEN.IRQ_RAW_HOT
    else b.set SEN.STATUS_HOT 0
  else b

/-- The sensor's L0, once the copies have applied (spec/04 R89 to R92); `newSet` when a window copy applied. DESIGN CHOICE:
FRAME_START is set at L0 of every frame with RUN in force (notes/assumptions/82). -/
def Blk.sensorL0 (b : Blk) (newSet : Bool) : Blk :=
  if b.powered Page.SEN then
    let run := b.active Page.SEN && b.flag SEN.RD_CTRL_RUN
    let b := { b with sen := { b.sen with
      govern := b.sen.next, runBefore := b.sen.runNow, runNow := run, refRows := []
      failedBefore := b.sen.failedBefore && run } }
    let b := b.chooseWindows newSet
    b.when run (fun b => b.raise SEN.IRQ_RAW_FRAME_START)
  else b

/-- SEN after a soft reset or with its domain's supply gone. -/
def senReset : SenSt := ⟨noWins, noWins, false, false, [], [], [], false⟩

end Sys2Proof.Machine
end

