-- ==== Sys2Proof/Machine/Client.lean ====
section
/-! DEFINITION. Machine/Client.lean: client contexts, items, batches and the client protocol (spec/15 R370 to R388). -/

namespace Sys2Proof.Machine

/-! ### Contexts -/

def csClosed : Nat := 0
def csOpen : Nat := 1
def csFoster : Nat := 2

def noClient : ClCtx := ⟨0, 0, 0, 0, [], none, 0, 0, 0, 0, none, 0, 0, []⟩
/-- Context `k`: 0 to 63 the node's own, 64 + j the fostered context j (spec/15 R396). -/
def Blk.cl (b : Blk) (k : Nat) : ClCtx := Tbl.get (dflt noClient) b.client.ctxs k
def Blk.setCl (b : Blk) (k : Nat) (x : ClCtx) : Blk :=
  { b with client := { b.client with ctxs := Tbl.put (dflt noClient) b.client.ctxs k x } }

/-- Configuration word `i` of a context: its register block, or a foster context's copy. -/
def Blk.clWord (b : Blk) (k i : Nat) : Nat :=
  if k < 64 then (b.word ((CLIENT.CFG_EN k).key + 4 * i)).toNat else nth (b.cl k).words i 0

/-- PERM as it reads (spec/15 R376): bits 5 to 3 are 1 for client 0 and 0 for the others, CROP is 0 while the OTP restrictive
defaults are in force (notes/assumptions/73). -/
def Blk.permOf (b : Blk) (k : Nat) : Nat :=
  let raw := bitsAt (b.clWord k 0) 1 6
  let p := if k == 0 then raw % 8 + 0x38 else raw % 8
  if b.flag FUSE.STATUS_RESTRICTIVE then putBits p 1 1 0 else p

def Blk.clEnabled (b : Blk) (k : Nat) : Bool := bitAt (b.clWord k 0) 0
def Blk.clMac (b : Blk) (k : Nat) : Nat := bitsAt (b.clWord k 0) 7 1

/-- The binding of a context. -/
def Blk.binding (b : Blk) (k : Nat) : HostAddr :=
  let v6 := bitAt (b.clWord k 0) 8
  ⟨v6, if v6 then [b.clWord k 1, b.clWord k 2, b.clWord k 3, b.clWord k 4] else [b.clWord k 1], bitsAt (b.clWord k 0) 16 16⟩

/-- Node whose context this is. -/
def Blk.clOrigin (b : Blk) (k : Nat) : Nat := if k < 64 then b.get XROUTE.NODE_ID else (b.cl k).origin

/-- The context is OPEN or a foster context. -/
def Blk.clOpen (b : Blk) (k : Nat) : Bool := (b.cl k).state == csOpen || (b.cl k).state == csFoster

/-- The node's own contexts that are OPEN. -/
def Blk.openClients (b : Blk) : List Nat := (b.client.ctxs.map (fun e => e.1)).filter (fun k => (b.cl k).state == csOpen)

/-! ### Datagrams (spec/15 R370 to R372) -/

/-- A MAC sends: powered, enabled, its link up, transmission on (spec/15 R398). -/
def Blk.macUp (b : Blk) (m : Nat) : Bool :=
  b.active (Page.HOST + m) && b.flag (HOST.MAC_CTRL_TX_EN m) && b.flag (HOST.STATUS_LINK m) && b.get (HOST.MAC_CTRL_SPEED m) != 3

/-- One datagram: header and payload, its CRC computed with its four bytes as 0. -/
def icpDatagram (type client origin server flags seq idx cnt : Nat) (payload : List Byte) : List Byte :=
  let head := natLe 2 0x4956 ++ natLe 1 1 ++ natLe 1 type ++ natLe 1 client ++ natLe 1 origin ++ natLe 1 server ++ natLe 1 flags ++
    natLe 8 seq ++ natLe 2 payload.length ++ natLe 1 idx ++ natLe 1 cnt
  head ++ natLe 4 (crc32c (head ++ natLe 4 0 ++ payload)).toNat ++ payload

/-- A message to an address, in fragments of 1,400 bytes (spec/15 R372). -/
def Blk.icpTo (b : Blk) (mac : Nat) (dst : HostAddr) (client origin flags type seq : Nat) (payload : List Byte) : Blk :=
  if !b.macUp mac then b
  else
    let cnt := max 1 (ceilDiv payload.length 1400)
    b.each (List.range cnt) (fun b i =>
      let part := (payload.drop (1400 * i)).take 1400
      (b.bumpSat (HOST.TX_FRAMES mac)).emit
        (.icp mac dst (icpDatagram type client origin (b.get XROUTE.NODE_ID) flags seq i cnt part)))

/-- A message to a context's client. -/
def Blk.icpSend (b : Blk) (k type seq : Nat) (payload : List Byte) : Blk :=
  b.icpTo (b.clMac k) (b.binding k) (k % 64) (b.clOrigin k) (bitNat (decide (64 ≤ k))) type seq payload

/-- A datagram as received, when its header is well formed; `none` counts in RX_BAD (spec/15 R370). -/
def icpParse (mac : Nat) (src : HostAddr) (d : List Byte) : Option (Nat × IcpMsg) :=
  let type := leAt d 3 1
  let len := leAt d 16 2
  let zeroed := d.take 20 ++ natLe 4 0 ++ d.drop 24
  if 24 ≤ d.length && leAt d 0 2 == 0x4956 && leAt d 2 1 == 1 && leAt d 20 4 == (crc32c zeroed).toNat && len + 24 == d.length &&
      len ≤ 1400 && (1 ≤ type && type ≤ 5 || 0x81 ≤ type && type ≤ 0x88) && leAt d 4 1 < 64 && leAt d 18 1 < leAt d 19 1 then
    some (type, ⟨mac, src, leAt d 4 1, leAt d 5 1, leAt d 8 8, leAt d 18 1, leAt d 19 1, d.drop 24⟩)
  else none

/-! ### The stream of a context (spec/15 R373, R374, R387) -/

/-- Records of a context's buffer, in bytes. -/
def ClCtx.used (x : ClCtx) : Nat := ((x.buf.filter (fun i => !i.keep)).map (fun i => i.bytes.length)).sum

def ClCtx.unacked (x : ClCtx) : Nat := (x.buf.filter (fun i => i.sent)).length

/-- WINDOW, 1 to 256 (spec/15 R374). -/
def Blk.window (b : Blk) : Nat := max 1 (min 256 (b.get CLIENT.WINDOW))

/-- The next item of a context that may go out now. -/
def Blk.nextItem (b : Blk) (k : Nat) : Option ClItem :=
  let x := b.cl k
  if b.clOpen k && x.unacked < b.window then
    match x.buf.find? (fun i => !i.sent) with
    | some i => if i.held then none else some i
    | none => none
  else none

/-- New items go out while fewer than WINDOW are unacknowledged (spec/15 R374). -/
def Blk.pump (b : Blk) (k : Nat) : Blk :=
  b.each (List.range 256) (fun b _ =>
    match b.nextItem k with
    | none => b
    | some i =>
      let x := b.cl k
      let b := b.setCl k { x with buf := x.buf.map (fun j => if j.seq == i.seq then { j with sent := true } else j) }
      b.icpSend k 0x84 i.seq i.bytes)

/-- The item seq a context's next item takes (spec/15 R373). -/
def ClCtx.nextSeq (x : ClCtx) : Nat := x.era * 2 ^ 48 + (x.count + 1) % 2 ^ 48

/-- RFLAGS.FOSTER on an item of a foster context. -/
def fosterItem (k : Nat) (bytes : List Byte) : List Byte :=
  if k < 64 then bytes else bytes.set 7 (BitVec.ofNat 8 (putBits (leAt bytes 7 1) 2 1 1))

/-- An item joins a context's stream with its next seq. -/
def Blk.appendItem (b : Blk) (k : Nat) (bytes : List Byte) (keep held : Bool) : Blk :=
  let x := b.cl k
  let x := { x with count := x.count + 1, buf := x.buf ++ [⟨x.nextSeq, fosterItem k bytes, keep, false, held⟩]
                    timer := if x.buf.isEmpty then b.ep.line else x.timer }
  (b.setCl k x).pump k

/-! ### Building items (spec/15 R380, R381) -/

/-- A fault variant is in force (spec/13 R308). -/
def Blk.faultVariant (b : Blk) : Bool := b.get SCHED.VARIANT_VKIND != 0

/-- An item header (spec/15 Table 5) before a body. -/
def Blk.itemBytes (b : Blk) (type view : Nat) (c : Coord) (body : List Byte) : List Byte :=
  natLe 1 type ++ natLe 1 0 ++ natLe 2 ((16 + body.length) / 8) ++ natLe 1 view ++ natLe 1 (b.get XROUTE.NODE_ID) ++ natLe 1 0 ++
    natLe 1 (if b.faultVariant then 2 else 0) ++ natLe 8 (coordNat c) ++ body

/-- A GAP item inside a batch (spec/15 Tables 6 and 7). -/
def Blk.gapInside (b : Blk) (view : Nat) (c : Coord) (cause detail frames : Nat) : List Byte :=
  b.itemBytes 5 view c (natLe 1 cause ++ natLe 1 detail ++ natLe 2 0 ++ natLe 4 frames ++ natLe 8 0)

/-- A GAP item that stands for whole batches (spec/15 Tables 6 and 7): it is the last item of its (view, frame), so LAST is
set. -/
def Blk.gapItem (b : Blk) (view : Nat) (c : Coord) (cause detail frames : Nat) : List Byte :=
  let bs := b.gapInside view c cause detail frames
  setNth bs 7 (nth bs 7 0 ||| 1)

/-- 256-bit bitmap of node numbers, 32 bytes. -/
def nodeBitmap (l : List Nat) : List Byte := natLe 32 (maskOf 256 (fun i => l.contains i))

/-- The safe state is in force (spec/20 R501). -/
def Blk.inSafe (b : Blk) : Bool := b.powered Page.SAFE && b.get SAFE.STATUS_SSTATE == 2

/-- A plan runs on this node: JOINED, or a single-node fleet with SCHED running. -/
def Blk.planRuns (b : Blk) : Bool := b.get SCHED.SCHED_CTRL_RUN == 1 && b.powered Page.SCHED

/-- A step below WATCH has been requested, or the node is below it (spec/16 R404). -/
def Blk.goesDown (b : Blk) : Bool :=
  let asked := match b.power.request with | some r => decide (r.target < 3) | none => false
  let steps := match b.power.trans with | some t => decide (t.target < 3) | none => false
  asked || steps || b.power.mode < 3

/-- STATE of HEALTH (spec/15 Table 6, R379, R388; notes/assumptions/39); NOT_RUNNING from the request of a step below WATCH on (spec/16 R404). -/
def Blk.healthState (b : Blk) : Nat :=
  if b.inMaintenance then 3 else if b.inSafe then 2 else if !b.planRuns || b.goesDown then 4 else if b.faultVariant then 1 else 0

/-- Trunk frames per second in force (spec/13 R307). -/
def Blk.trunkRate (b : Blk) : Nat :=
  let r := if b.mode == 0 then 120 else if b.mode == 1 then 240 else 30
  if !b.planRuns then 0 else if b.get SCHED.VARIANT_VKIND == 2 then r / 2 else r

/-- The journal writes to module flash: MODE 1, and always in a single-node fleet (spec/15 R394). -/
def Blk.flashMode (b : Blk) : Bool := b.flag JOURNAL.J_CTRL_MODE || b.get SCHED.JOIN_CTRL_JSTATE != 3

/-- JOURNAL byte of HEALTH: 0 mirrored, 1 flash, 2 recovering. -/
def Blk.journalState (b : Blk) : Nat := if b.flag JOURNAL.J_CTRL_RECOVERING then 2 else bitNat b.flashMode

/-- The body of HEALTH (spec/15 Table 6). -/
def Blk.healthBody (b : Blk) : List Byte :=
  let iso := b.client.iso.getD (0xFF, 0, 0)
  natLe 1 b.healthState ++ natLe 1 (b.get SCHED.VARIANT_VKIND) ++ natLe 1 (b.get SCHED.VARIANT_VARG) ++ natLe 1 b.trunkRate ++
  natLe 2 (b.get TALLY.CONTENT_FAULT) ++ natLe 1 (if b.inMaintenance then 0x11 else if b.inSafe then b.get SAFE.FIRST_CAUSE else 0) ++
  natLe 1 b.journalState ++ natLe 1 iso.1 ++ natLe 1 iso.2.1 ++ natLe 1 iso.2.2 ++ natLe 1 (b.get LIFE.STATE) ++
  natLe 2 (b.get SEN.TEMP_MAX) ++ natLe 2 (b.get OASIS.SUPPLY_STATUS_VIN) ++ nodeBitmap b.client.missing

/-- A SECTOR_BLIND item (spec/15 Table 6). -/
def Blk.blindItem (b : Blk) (view : Nat) : List Byte :=
  b.itemBytes 6 view b.now (natLe 1 b.client.blindWhy ++ natLe 3 0 ++ natLe 4 b.client.blindSince.toNat ++ nodeBitmap b.client.missing ++
    natLe 8 0)

def Blk.healthItem (b : Blk) : List Byte := b.itemBytes 7 0xFF b.now b.healthBody

/-- The fields of HEALTH whose change appends a record: all but TEMP_MAX and the supply (spec/15 R388). -/
def healthKey (body : List Byte) : List Byte := body.take 12 ++ body.drop 16

/-- HEALTH to every open context (spec/15 R377, R388). -/
def Blk.appendHealth (b : Blk) : Blk :=
  let b := b.each b.openClients (fun b k => b.appendItem k b.healthItem false false)
  { b with client := { b.client with lastHealth := b.healthBody, healthAt := b.ep.line } }

/-- HEALTH when a field other than TEMP_MAX or the supply has changed. -/
def Blk.healthChanged (b : Blk) : Blk :=
  if healthKey b.client.lastHealth == healthKey b.healthBody then b else b.appendHealth

/-- HEALTH_PERIODIC (spec/15 R388): a changed field, or 300,000 line periods since the last. -/
def Blk.healthPeriodic (b : Blk) : Blk :=
  if !b.active Page.CLIENT then b
  else if 300000 ≤ b.linesSince b.client.healthAt then b.appendHealth else b.healthChanged

/-- SAFE_HEALTH_REPEAT (spec/15 R388): in the safe state, every 30,000 line periods. -/
def Blk.safeHealth (b : Blk) : Blk :=
  let due := match b.client.safeAt with | some l => decide (30000 ≤ b.linesSince l) | none => true
  if b.inSafe && b.powered Page.CLIENT && due then
    { b.appendHealth with client := { b.appendHealth.client with safeAt := some b.ep.line } }
  else b

/-- MAINT_HEALTH_REPEAT (spec/15 R379). -/
def Blk.maintHealth (b : Blk) : Blk :=
  let due := match b.client.safeAt with | some l => decide (30000 ≤ b.linesSince l) | none => true
  if b.inMaintenance && b.powered Page.CLIENT && due then
    { b.appendHealth with client := { b.appendHealth.client with safeAt := some b.ep.line } }
  else b

/-! ### Who receives what (spec/15 R377, R378) -/

def itemType (i : List Byte) : Nat := leAt i 0 1
def itemView (i : List Byte) : Nat := leAt i 4 1
def itemLast (i : List Byte) : Bool := bitAt (leAt i 7 1) 0
def itemCoord (i : List Byte) : Coord := coordOfNat (leAt i 8 8)

/-- A context's views include a view. -/
def Blk.seesView (b : Blk) (k v : Nat) : Bool := bitAt (b.clWord k 6 + 2 ^ 32 * b.clWord k 7) v

/-- A context is sent an item that is posted for every subscriber. -/
def Blk.subscribes (b : Blk) (k : Nat) (i : List Byte) : Bool :=
  let s := b.clWord k 5
  let p := b.permOf k
  let v := itemView i
  let sees := v == 0xFF || b.seesView k v
  match itemType i with
  | 1 => bitAt s 0 && bitAt p 0 && sees
  | 2 => bitAt s 1 && bitAt p 0 && sees
  | 3 => bitAt s 2 && bitAt p 1 && sees
  | 4 => bitAt s 3 && bitAt p 0 && sees
  | 5 => s % 16 != 0 && sees
  | 6 => bitAt s 0 && sees
  | 7 => true
  | 8 => bitAt s 4
  | _ => false

/-- Room has returned to a context that lost batches: one GAP CLIENT_SLOW first (spec/15 R387). -/
def Blk.roomBack (b : Blk) (k : Nat) : Blk :=
  match (b.cl k).slow with
  | none => b
  | some (c, n) =>
    if (b.cl k).used + 32 ≤ b.get CLIENT.BUF_KIB * 1024 then
      (b.setCl k { b.cl k with slow := none }).appendItem k (b.gapItem 0xFF c gapSlow 0 n) false false
    else b

/-- The ROIs of a batch that CROP_RATE lets through, in the second in progress (spec/15 R378). -/
def Blk.capCrops (b : Blk) (k : Nat) (items : List (List Byte)) : List (List Byte) × Blk :=
  let x := b.cl k
  let x := if 300000 ≤ b.linesSince x.cropAt then { x with crops := 0, cropAt := b.ep.line } else x
  let rate := bitsAt (b.clWord k 8) 24 8
  let r := items.foldl (fun (st : List (List Byte) × Nat × Nat) i =>
    if itemType i == 3 then
      (if st.2.1 < rate then (i :: st.1, st.2.1 + 1, st.2.2) else (st.1, st.2.1, st.2.2 + 1))
    else (i :: st.1, st.2.1, st.2.2)) ([], x.crops, 0)
  (r.1.reverse, (b.setCl k { x with crops := r.2.1 }).addSat CLIENT.CROP_CAPPED r.2.2)

/-- A batch reaches one context whole, or is replaced or lost (spec/15 R378, R383, R387). -/
def Blk.appendBatch (b : Blk) (k view : Nat) (items : List (List Byte)) : Blk :=
  if items.isEmpty || !b.clOpen k then b
  else
    let first := itemCoord (items.headD [])
    let cap := b.clWord k 9 % 2 ^ 24
    let size := ((items.filter (fun i => itemType i != 3)).map List.length).sum
    let (items, b) :=
      if cap != 0 && cap < size then ([b.gapItem view first gapCap 0 1], b) else b.capCrops k items
    let b := b.roomBack k
    let total := (items.map List.length).sum
    if (b.cl k).slow.isSome || b.get CLIENT.BUF_KIB * 1024 < (b.cl k).used + total then
      let slow := match (b.cl k).slow with | some (c, n) => (c, n + 1) | none => (first, 1)
      ((b.setCl k { b.cl k with slow := some slow }).bumpSat CLIENT.SLOW_GAPS).raise CLIENT.IRQ_RAW_SLOW
    else items.foldl (fun b i => b.appendItem k i false false) b

/-! ### Frames and batches (spec/15 R383 to R386) -/

/-- (view, F) is closed (spec/15 R383). -/
def Blk.viewClosed (b : Blk) (v : Nat) (f : BitVec 32) : Bool :=
  Tbl.get (dflt false) b.client.closed v && decide (frameDiff f (BitVec.ofNat 32 (b.get (CLIENT.COMMITTED_F v))) ≤ 0)

/-- Key of the batch of (view, F), and the two back from it. -/
def batchKey (v : Nat) (f : BitVec 32) : Nat := f.toNat * 64 + v
def batchView (k : Nat) : Nat := k % 64
def batchFrame (k : Nat) : BitVec 32 := BitVec.ofNat 32 (k / 64)

/-- The open batch of (view, F). -/
def Blk.batch (b : Blk) (v : Nat) (f : BitVec 32) : List PostedItem := Tbl.get (dflt []) b.client.batches (batchKey v f)
def Blk.setBatch (b : Blk) (v : Nat) (f : BitVec 32) (l : List PostedItem) : Blk :=
  { b with client := { b.client with batches := Tbl.put (dflt []) b.client.batches (batchKey v f) l } }

/-- (view, F) closes: COMMITTED_F; batches and marks of that frame and earlier are dropped. -/
def Blk.closeView (b : Blk) (v : Nat) (f : BitVec 32) : Blk :=
  let b := b.set (CLIENT.COMMITTED_F v) f.toNat
  { b with client := { b.client with
      closed := Tbl.put (dflt false) b.client.closed v true
      batches := b.client.batches.filter (fun e => batchView e.1 != v || decide (0 < frameDiff (batchFrame e.1) f))
      marks := b.client.marks.filter (fun m => m.view != v || decide (0 < frameDiff m.frame f)) } }

/-- The frame of a posted item: that of the context frame it names (spec/15 R384). -/
def Blk.frameOfItem (b : Blk) (i : List Byte) : BitVec 32 :=
  match b.client.marks.find? (fun m => m.view == itemView i && m.coord == itemCoord i) with
  | some m => m.frame
  | none => (itemCoord i).f

/-- A posted item is for a context: it is targeted at it, an ROI only while the context has CROP, or it subscribes to it (spec/15
R377, R382, spec/01 R22). -/
def Blk.itemFor (b : Blk) (k : Nat) (p : PostedItem) : Bool :=
  match p.target with
  | some x => x == k && (itemType p.bytes != 3 || bitAt (b.permOf k) 1)
  | none => b.subscribes k p.bytes

/-- A view's batch reaches every context (spec/15 R383), one SECTOR_BLIND first while a node is absent (R388); in the safe state a
batch with a LABEL, BOX, ROI or EMBED becomes one GAP (spec/20 R502). -/
def Blk.deliverBatch (b : Blk) (v : Nat) (items : List PostedItem) : Blk :=
  let frame := items.any (fun i => 1 ≤ itemType i.bytes && itemType i.bytes ≤ 4)
  let items : List PostedItem := if b.inSafe && frame then
      [⟨none, b.gapItem v (itemCoord ((items.head?.map (fun i => i.bytes)).getD [])) gapSafe (b.get SAFE.FIRST_CAUSE) 1⟩]
    else items
  let items := if b.client.missing.isEmpty || items.isEmpty || items.any (fun i => itemType i.bytes == 6) then items
    else ⟨none, b.blindItem v⟩ :: items
  b.each b.openClients (fun b k =>
    b.appendBatch k v ((items.filter (b.itemFor k)).map (fun i => i.bytes)))

/-- The overrun check found (view, F) open: CLIENT closes it with GAP LATE (spec/15 R385). -/
def Blk.closeLate (b : Blk) (v : Nat) (f : BitVec 32) : Blk :=
  let c := match b.client.marks.find? (fun m => m.view == v && m.frame == f) with | some m => m.coord | none => ⟨f, 0⟩
  let b := b.deliverBatch v [⟨none, b.gapItem v c gapLate 0 1⟩]
  (b.closeView v f).raise CLIENT.IRQ_RAW_OVERRUN_GAP

/-- EMPTY_FRAME_CLOSE (spec/15 R384): at F:L_A a view to which no context frame belongs closes with no item. -/
def Blk.emptyClose (b : Blk) (v : Nat) : Blk :=
  if v < 36 && b.active Page.CLIENT && b.curL == lastActive b.mode && !b.viewClosed v b.ep.frame &&
      !b.client.marks.any (fun m => m.view == v && m.frame == b.ep.frame) then b.closeView v b.ep.frame
  else b

/-! ### Posted items (spec/15 R382) -/

def pad8 (n : Nat) : Nat := (n + 7) / 8 * 8

/-- Bytes of a vector (spec/14 R346). -/
def vecBytes (dims elem : Nat) : Nat := 32 * ceilDiv (dims * (if elem == 0 then 1 else if elem == 1 then 8 else 16)) 256

/-- The length Table 6 gives an item, none for a TYPE that is not issued. -/
def itemLength (i : List Byte) : Option Nat :=
  match itemType i with
  | 1 => some 64
  | 2 => some 32
  | 3 => some (32 + pad8 (leAt i 20 2 * leAt i 22 2 * (if leAt i 24 1 == 0 then 1 else 3)))
  | 4 => some (32 + vecBytes (leAt i 20 2) (leAt i 22 1))
  | 5 => some 32
  | 6 => some 64
  | 7 => some 64
  | 8 => some 32
  | 16 => some (40 + pad8 (leAt i 28 4))
  | _ => none

/-- Reserved bytes of an item are 0 (spec/15 Tables 5 and 6). -/
def itemReserved (i : List Byte) : Bool :=
  leAt i 7 1 < 8 &&
  (match itemType i with
   | 2 => leAt i 31 1 == 0
   | 3 => leAt i 25 3 == 0
   | 4 => leAt i 23 9 == 0
   | 5 => leAt i 18 2 == 0 && leAt i 24 8 == 0
   | 6 => leAt i 17 3 == 0 && leAt i 56 8 == 0
   | 8 => leAt i 22 10 == 0
   | 16 => leAt i 26 2 == 0
   | _ => true)

/-- An item is not as Table 6 gives it: TYPE, LEN8, reserved bytes, an ROI's bounds (spec/15 R382). -/
def itemShapeBad (p : PostedItem) : Bool :=
  let i := p.bytes
  let roi := itemType i == 3
  (match itemLength i with | some n => n != leAt i 2 2 * 8 || i.length != n | none => true) || !itemReserved i ||
    (roi && (leAt i 20 2 == 0 || 256 < leAt i 20 2 || leAt i 22 2 == 0 || 256 < leAt i 22 2 || 1 < leAt i 24 1))

/-- CLIENT refuses a posted item (spec/15 R382). -/
def Blk.itemBad (b : Blk) (p : PostedItem) : Bool :=
  itemShapeBad p || (itemType p.bytes == 3 && (match p.target with | some k => !bitAt (b.permOf k) 1 | none => false))

/-- A refused item is counted and captured (spec/15 R382). -/
def Blk.itemRefused (b : Blk) : Blk :=
  ((b.bumpSat CLIENT.ITEM_BAD).raise CLIENT.IRQ_RAW_ITEM_BAD).captureOwnFree Page.CLIENT 0x01

/-- Context frames known to belong to (view, F). -/
def Blk.framesOf (b : Blk) (v : Nat) (f : BitVec 32) : Nat :=
  (b.client.marks.filter (fun m => m.view == v && m.frame == f)).length

/-- A good item takes its way: into its view's batch, or straight to its contexts, an ROI under CROP_RATE (spec/15 R378, R382,
R383, spec/01 R22). -/
def Blk.takeItem15 (b : Blk) (p : PostedItem) : Blk :=
  let v := itemView p.bytes
  let t := itemType p.bytes
  if 36 ≤ v || t == 7 || t == 8 || t == 16 then
    b.each b.openClients (fun b k =>
      if b.itemFor k p then
        let (is, b) := b.capCrops k [p.bytes]
        is.foldl (fun b i => b.appendItem k i (t == 8 || t == 16) false) b
      else b)
  else
    let f := b.frameOfItem p.bytes
    if b.viewClosed v f then (b.bumpSat CLIENT.LATE_ITEMS).captureOwnFree Page.CLIENT 0x03
    else
      let batch := b.batch v f
      let single := t == 5 && batch.isEmpty && b.framesOf v f ≤ max 1 (leAt p.bytes 20 4)
      if itemLast p.bytes || single then (b.deliverBatch v (batch ++ [p])).closeView v f
      else b.setBatch v f (batch ++ [p])

/-! ### GAP records that Erg owes (spec/15 R384, R386) -/

/-- A context frame already has its GAP, posted or owed. -/
def Blk.gapKnown (b : Blk) (m : FrameMark) : Bool :=
  b.client.owed.any (fun g => g.view == m.view && g.coord == m.coord) ||
    (b.batch m.view m.frame).any (fun i => itemType i.bytes == 5 && itemCoord i.bytes == m.coord)

/-- Each context frame of a lost frame is owed its GAP; after F:L_A no further one joins (spec/15 R384). -/
def Blk.loseMarks (b : Blk) : Blk :=
  let b := b.each b.client.lost (fun b x =>
    b.each (b.client.marks.filter (fun m => m.view == x.view && m.frame == x.frame)) (fun b m =>
      if b.gapKnown m then b else b.oweGap m.view m.coord x.cause x.detail))
  { b with client := { b.client with
      lost := b.client.lost.filter (fun x => !coordReached b.now ⟨x.frame, lastActive b.mode⟩) } }

/-- While the safe state lasts, a frame is lost at its F:L_A (spec/15 Table 7). -/
def Blk.loseSafe (b : Blk) : Blk :=
  if b.inSafe && b.curL == lastActive b.mode then b.loseViews b.ep.frame gapSafe (b.get SAFE.FIRST_CAUSE) else b

/-- A context frame whose GAP is owed is over, so that its frame is known. -/
def Blk.gapReady (b : Blk) (g : GapDue) : Bool :=
  b.client.marks.any (fun m => m.view == g.view && m.coord == g.coord) ||
    !b.isp.frames.any (fun f => f.ctx == g.view && f.coord == g.coord && f.ended.isNone)

/-- One owed GAP joins the batch of its frame; a closed frame has its one GAP or records already. -/
def Blk.postGap (b : Blk) (g : GapDue) : Blk :=
  let i := b.gapInside g.view g.coord g.cause g.detail 1
  let f := b.frameOfItem i
  if 36 ≤ g.view || b.viewClosed g.view f then b else b.setBatch g.view f (b.batch g.view f ++ [⟨none, i⟩])

/-- At F:L_A no further context frame joins F: a batch in which every context frame yields nothing closes as one GAP. -/
def Blk.settleBatch (b : Blk) (v : Nat) (f : BitVec 32) : Blk :=
  let batch := b.batch v f
  let first := (batch.head?.map (fun i => i.bytes)).getD []
  if !batch.isEmpty && batch.all (fun i => itemType i.bytes == 5) && b.framesOf v f ≤ batch.length &&
      coordReached b.now ⟨f, lastActive b.mode⟩ then
    (b.deliverBatch v [⟨none, b.gapItem v (itemCoord first) (leAt first 16 1) (leAt first 17 1) batch.length⟩]).closeView v f
  else b

/-- Erg posts the GAP records it owes, at the end of a line period's start (notes/assumptions/84). -/
def Blk.postGaps (b : Blk) : Blk :=
  if !(b.ergRuns && b.active Page.CLIENT) then b
  else
    let b := b.loseSafe.loseMarks
    let due := b.client.owed.filter b.gapReady
    let b := { b with client := { b.client with owed := b.client.owed.filter (fun g => !b.gapReady g) } }
    let b := due.foldl Blk.postGap b
    b.each (b.client.batches.map (fun e => e.1)) (fun b k => b.settleBatch (batchView k) (batchFrame k))

/-- The descriptor at IRING_HEAD is taken (spec/15 R382). -/
def Blk.takePosted (b : Blk) : Blk :=
  let head := b.get CLIENT.IRING_HEAD
  let base := b.get CLIENT.IRING_BASE_LO + 2 ^ 32 * b.get CLIENT.IRING_BASE_HI
  let (c, d, b) := b.bulkRead 1 (base + 16 * head) 16
  let addr := leAt d 0 8
  let (c2, h, b) := if c == 0 then b.bulkRead 1 addr 16 else (c, [], b)
  let (c3, i, b) := if c2 == 0 then b.bulkRead 1 addr (leAt h 2 2 * 8) else (c2, [], b)
  let p : PostedItem := ⟨if leAt d 8 1 == 1 then some (leAt d 9 1) else none, i⟩
  let b := b.set CLIENT.IRING_HEAD ((head + 1) % 1024)
  if c3 != 0 || b.itemBad p then b.itemRefused else b.takeItem15 p

/-- ITEM_POST (spec/15 R382): a write of IRING_TAIL. -/
def Blk.itemPost (b : Blk) (tail : Nat) : Blk :=
  let b := b.set CLIENT.IRING_TAIL tail
  if b.active Page.CLIENT then
    b.each (List.range ((b.get CLIENT.IRING_TAIL + 1024 - b.get CLIENT.IRING_HEAD) % 1024)) (fun b _ => b.takePosted)
  else b

/-! ### Messages from a client (spec/15 R371, R374, R375, R379) -/

/-- The context a message names: the node's own, or a foster context of its ORIGIN. -/
def Blk.ctxNamed (b : Blk) (m : IcpMsg) : Option Nat :=
  if m.origin == b.get XROUTE.NODE_ID then some (m.client % 64)
  else if (b.cl (64 + m.client % 64)).state == csFoster && (b.cl (64 + m.client % 64)).origin == m.origin then some (64 + m.client % 64)
  else none

/-- The message comes from the context's binding, an enabled one. -/
def Blk.bound (b : Blk) (k : Nat) (m : IcpMsg) : Bool :=
  b.clEnabled k && m.mac == b.clMac k && m.src == b.binding k

def Blk.unbound (b : Blk) : Blk := b.bumpSat CLIENT.RX_UNBOUND

/-- CLIENT takes messages from a MAC; in MAINTENANCE Hamada serves HOST0 alone (spec/15 R379). -/
def Blk.icpTakes (b : Blk) (m : IcpMsg) : Bool :=
  m.mac < 2 && b.active Page.CLIENT && b.active (Page.HOST + m.mac) && !(b.inMaintenance && m.mac != 0)

/-- A malformed datagram is discarded and counted (spec/15 R370). -/
def Blk.rxBad (b : Blk) : Blk := b.when (b.active Page.CLIENT) (fun b => (b.bumpSat CLIENT.RX_BAD).captureOwnFree Page.CLIENT 0x02)

/-- The fields of Table 2 that make a datagram malformed, as a message's fields show them (spec/15 R370). -/
def icpMalformed (m : IcpMsg) : Bool := 63 < m.client || m.fragCnt ≤ m.fragIdx || 1400 < m.payload.length

/-- The buddy's UDP port and address as OPENED carries them, from the plan's buddy table (spec/13 R306). -/
def Blk.buddyHost (b : Blk) : Option (List Byte) :=
  (b.fleet.plan.bind (fun p => p.buddies.find? (fun x => x.1 == b.get JOURNAL.BUDDY_NODE))).map (fun x =>
    natLe 2 x.2.port ++ ((x.2.addr.flatMap (natLe 4)) ++ List.replicate 16 0).take 16)

/-- OPENED (spec/15 Table 3). Where the plan names no host address of the buddy, its 18 bytes are a free value
(notes/assumptions/39). -/
def Blk.openedBytes (b : Blk) (k buddy : Nat) : List Byte :=
  natLe 8 ((b.cl k).lastReq + 1) ++ natLe 2 (b.cl k).era ++ natLe 1 (b.permOf k) ++ natLe 1 b.healthState ++
  natLe 1 (b.get JOURNAL.BUDDY_NODE) ++ natLe 1 0 ++ b.buddyHost.getD (natLe 18 buddy) ++ List.replicate 32 0

/-- A context whose source's binding words are set (client 0 rebound, spec/15 R375). -/
def Blk.bindTo (b : Blk) (k mac : Nat) (a : HostAddr) : Blk :=
  let b := ((b.conf (CLIENT.CFG_MAC k) mac).conf (CLIENT.CFG_IPV6 k) (bitNat a.ipv6)).conf (CLIENT.CFG_PORT k) a.port
  let b := (b.conf (CLIENT.ADDR0 k) (nth a.addr 0 0)).conf (CLIENT.ADDR1 k) (nth a.addr 1 0)
  ((b.conf (CLIENT.ADDR2 k) (nth a.addr 2 0)).conf (CLIENT.ADDR3 k) (nth a.addr 3 0)).markChanged Page.CLIENT

/-- CLOSED to a context's client (spec/15 Table 3). -/
def Blk.sendClosed (b : Blk) (k reason : Nat) : Blk := b.icpSend k 0x87 (b.cl k).nextSeq (natLe 1 reason ++ natLe 3 0)

/-- A context closes: its buffer keeps completions and wake events (spec/15 R375). -/
def Blk.closeClient (b : Blk) (k reason : Nat) : Blk :=
  let b := b.sendClosed k reason
  b.setCl k { b.cl k with state := csClosed, buf := (b.cl k).buf.filter (fun i => i.keep), slow := none, frag := none }

/-- Items above a seq go out again (spec/15 R374). -/
def Blk.resendFrom (b : Blk) (k seq : Nat) : Blk :=
  let x := b.cl k
  (b.setCl k { x with buf := x.buf.map (fun i => if seq < i.seq then { i with sent := false } else i), timer := b.ep.line }).pump k

/-- ICP_OPEN (spec/15 R375, R379). -/
def Blk.icpOpen (b : Blk) (m : IcpMsg) : Blk :=
  if !b.icpTakes m then b
  else
    let refuse := fun (b : Blk) =>
      b.icpTo m.mac m.src (m.client % 64) m.origin 0 0x85 0 (natLe 2 (b.get TALLY.CONTENT_FAULT) ++ natLe 1 (b.get LIFE.STATE) ++ natLe 1 0)
    match b.ctxNamed m with
    | none => b.unbound
    | some k =>
      if (b.inMaintenance && k != 0) || (!b.inMaintenance && !b.flag CLIENT.CL_CTRL_SERVICE) then refuse b
      else
        let rebind := k == 0 && b.clEnabled 0 && !b.bound 0 m && b.flag OASIS.STATUS_PRES_WINDOW
        let b := if rebind then (b.sendClosed 0 5).bindTo 0 m.mac m.src else b
        if !b.bound k m then b.unbound
        else
          let x := b.cl k
          let b := b.setCl k { x with state := if x.state == csFoster then csFoster else csOpen }
          let (buddy, b) := b.free 144
          let b := (b.raise CLIENT.IRQ_RAW_OPENED).icpSend k 0x81 x.nextSeq (b.openedBytes k buddy)
          b.resendFrom k m.seq

/-- ICP_CLOSE (spec/15 R375). -/
def Blk.icpClose (b : Blk) (m : IcpMsg) : Blk :=
  if !b.icpTakes m then b
  else match b.ctxNamed m with
    | none => b.unbound
    | some k => if !b.bound k m then b.unbound else if b.clOpen k then b.closeClient k 1 else b

/-- ICP_PING (spec/15 R371). -/
def Blk.icpPing (b : Blk) (m : IcpMsg) : Blk :=
  if !b.icpTakes m then b
  else match b.ctxNamed m with
    | none => b.unbound
    | some k => if b.bound k m then b.icpSend k 0x86 m.seq [] else b.unbound

/-- The seqs an ACK names (spec/15 Table 3). -/
def ackNames (m : IcpMsg) (seq : Nat) : Bool :=
  (seq / 2 ^ 48 == m.seq / 2 ^ 48 && seq ≤ m.seq) ||
    (List.range (min 32 (m.payload.length / 8))).any (fun i => leAt m.payload (8 * i) 8 == seq)

/-- The items an ACK frees are freed (spec/15 R374); journal entries follow in Machine/Journal.lean. -/
def Blk.ackFree (b : Blk) (k : Nat) (m : IcpMsg) : Blk :=
  let x := b.cl k
  let left := x.buf.filter (fun i => !(i.sent && ackNames m i.seq))
  let b := b.setCl k { x with buf := left, timer := if left.length == x.buf.length then x.timer else b.ep.line }
  (b.roomBack k).pump k

/-- RESEND_TIMEOUT (spec/15 R374): no item freed for RESEND_T line periods. -/
def Blk.resendTimeout (b : Blk) (k : Nat) : Blk :=
  let x := b.cl k
  if b.active Page.CLIENT && b.clOpen k && 0 < x.unacked && b.get CLIENT.RESEND_T ≤ b.linesSince x.timer then b.resendFrom k 0
  else b

/-- Fragments that cannot be made whole are discarded (spec/15 R372). -/
def Blk.fragLost (b : Blk) (k : Nat) : Blk :=
  ((b.setCl k { b.cl k with frag := none }).bumpSat CLIENT.RX_FRAG_LOST).captureOwnFree Page.CLIENT 0x04

/-- FRAG_TIMEOUT (spec/15 R372): 30,000 line periods since the first fragment. -/
def Blk.fragTimeout (b : Blk) (k : Nat) : Blk :=
  match (b.cl k).frag with
  | some f =>
    if 30000 ≤ b.linesSince f.since then b.fragLost k else b
  | none => b

/-- The reassembly of a context that a fragment joins goes on: one of another REQUEST, or one past its 30,000 line periods, is
discarded first (spec/15 R372; notes/assumptions/86). -/
def Blk.fragOlder (b : Blk) (k : Nat) (m : IcpMsg) : Blk :=
  match (b.cl k).frag with
  | some f => if f.seq == m.seq && f.cnt == m.fragCnt && b.linesSince f.since < 30000 then b else b.fragLost k
  | none => b

/-- A REQUEST's payload once it is whole, and the context's reassembly (spec/15 R372). -/
def Blk.reassemble (b : Blk) (k : Nat) (m : IcpMsg) : Option (List Byte) × Blk :=
  if m.fragCnt ≤ 1 then (some m.payload, b)
  else
    let b := b.fragOlder k m
    let f := (b.cl k).frag.getD ⟨m.seq, m.fragCnt, [], b.ep.line⟩
    let parts := f.parts.filter (fun p => p.1 != m.fragIdx) ++ [(m.fragIdx, m.payload)]
    if (List.range f.cnt).all (fun i => parts.any (fun p => p.1 == i)) then
      let whole := (List.range f.cnt).flatMap (fun i => ((parts.find? (fun p => p.1 == i)).map (fun p => p.2)).getD [])
      (some whole, b.setCl k { b.cl k with frag := none })
    else (none, b.setCl k { b.cl k with frag := some { f with parts := parts } })

/-- MAP to every open context (spec/15 Table 3). -/
def Blk.mapSend (b : Blk) : Blk :=
  let bytes := (List.range 10).flatMap (fun i => natLe 4 (b.get (EPOCH.MAP i)))
  b.each b.openClients (fun b k => b.icpSend k 0x88 0 bytes)

/-- What reads as a context's own registers (spec/15 R400 +28h to +3Ch). -/
def Blk.clState (b : Blk) (k off : Nat) : Word :=
  let x := b.cl k
  if off == 0x28 then BitVec.ofNat 32 (x.state + x.unacked % 512 * 2 ^ 16)
  else if off == 0x2C then BitVec.ofNat 32 (x.era % 2 ^ 16)
  else if off == 0x30 then BitVec.ofNat 32 ((x.count + 1) % 2 ^ 32)
  else if off == 0x34 then BitVec.ofNat 32 ((x.count + 1) % 2 ^ 48 / 2 ^ 32)
  else if off == 0x38 then BitVec.ofNat 32 (x.lastReq % 2 ^ 32)
  else BitVec.ofNat 32 (x.lastReq / 2 ^ 32)

end Sys2Proof.Machine
end

