-- ==== Sys2Proof/Machine/Rma.lean ====
section
/-! DEFINITION. Machine/Rma.lean: remote memory access (spec/12): windows, queue pairs and their states, work requests, the send
engine, go-back-N at both ends, access checks, placement, completions, Wadi entries. -/

namespace Sys2Proof.Machine

/-! ### Memory behind a fabric address (spec/12 R277) -/

/-- Causes (spec/12 Table 9, R305). -/
def fcBadWindow : Nat := 0x01
def fcBadKey : Nat := 0x02
def fcWinPeer : Nat := 0x03
def fcWinPerm : Nat := 0x04
def fcWinRange : Nat := 0x05
def fcAlign : Nat := 0x06
def fcTagTimeout : Nat := 0x07
def fcPoison : Nat := 0x08
def fcMappedOut : Nat := 0x09
def fcPower : Nat := 0x0A
def fcDeadPage : Nat := 0x0B
def fcBadWadi : Nat := 0x0C
def fcRetry : Nat := 0x10
def fcCqOverflow : Nat := 0x11
def fcNodeMismatch : Nat := 0x12
def fcBadWr : Nat := 0x13

/-- Fields of a fabric address. -/
def fabSpace (a : Nat) : Nat := bitsAt a 52 4
def fabTile (a : Nat) : Nat := bitsAt a 48 4
def fabOff (a : Nat) : Nat := a % 2 ^ 48
def fabNode (a : Nat) : Nat := bitsAt a 56 8

/-- Why a place cannot be reached: a cause of Table 9, 0, or `bkWait` (spec/12 R284, Table 8). -/
def Blk.placeCause (b : Blk) (space tile off n : Nat) : Nat :=
  if space == 0 then
    if spmBytes < off + n then fcWinRange
    else if !b.powered (tilePage tile) then fcPower
    else if b.tstate tile == tsMappedOut then fcMappedOut
    else 0
  else if space == 1 then
    if bulkTop < off + n then fcWinRange else if !b.powered Page.BULK then fcPower else 0
  else fcWinRange

/-- A bulk cause as Table 9 has it. -/
def fabCauseOfBulk (c : Nat) : Nat :=
  if c == bkPoison then fcPoison else if c == bkDead then fcDeadPage else if c == causePower then fcPower
  else if c == bkRange then fcWinRange else c

/-- The engines of bulk class FAB (spec/10 R246): a queue pair's send engine, its receive side, a completion queue. -/
def sendEng (q : Nat) : Nat := 5 + 8 * q
def recvEng (q : Nat) : Nat := 5 + 8 * (1024 + q)
def complEng (c : Nat) : Nat := 5 + 8 * (2048 + c)

/-- A read by the fabric endpoint (requester 10), for one of its engines. -/
def Blk.placeRead (b : Blk) (eng space tile off n : Nat) : Nat × List Byte × Blk :=
  let c := b.placeCause space tile off n
  if c != 0 then (c, [], b)
  else if space == 0 then
    let (c, bs, b) := b.spmRead tile off n 10
    (if c == 0 then 0 else fcPoison, bs, b)
  else
    let (c, bs, b) := b.bulkRead eng off n
    (fabCauseOfBulk c, bs, b)

/-- A write by the fabric endpoint. -/
def Blk.placeWrite (b : Blk) (eng space tile off : Nat) (bs : List Byte) : Nat × Blk :=
  let c := b.placeCause space tile off bs.length
  if c != 0 then (c, b)
  else if space == 0 then
    let (c, b) := b.spmWrite tile off bs 10
    (if c == 0 then 0 else fcPoison, b)
  else
    let (c, b) := b.bulkWrite eng off bs
    (fabCauseOfBulk c, b)

/-- Slots that [off, off + n) touches. -/
def slotsTouched (off n : Nat) : List Nat := spanOf 256 off n

/-- The port of a wait that a work request's own source makes: no requester has code 14 (spec/07 R149). -/
def portLocal : Nat := 14

/-! ### Queue pairs -/

def qsReset : Nat := 0
def qsInit : Nat := 1
def qsReady : Nat := 2
def qsError : Nat := 3

def noQp : QpSt := ⟨[], [], [], [], [], 0, false, none, false, false⟩
def Blk.qp (b : Blk) (q : Nat) : QpSt := Tbl.get (dflt noQp) b.fab.qps q
def Blk.setQp (b : Blk) (q : Nat) (x : QpSt) : Blk := { b with fab := { b.fab with qps := Tbl.put (dflt noQp) b.fab.qps q x } }

/-- The number under which accepted packets stand whose queue pair has been reset since. -/
def noQueue : Nat := 256

def Blk.qstate (b : Blk) (q : Nat) : Nat := if q < noQueue then b.get (XQP.QCTX0_STATE q) else qsReset

/-- Entries of a queue pair's send ring. -/
def Blk.sqSize (b : Blk) (q : Nat) : Nat := 2 ^ b.get (XQP.QCTX5_SQ_LOG2 q)
def Blk.sqBase (b : Blk) (q : Nat) : Nat := b.get (XQP.QCTX4_SQ_BASE_LO q) + 2 ^ 32 * b.get (XQP.QCTX5_SQ_BASE_HI q)

def psnMod : Nat := 2 ^ 24
def psnAdd (p n : Nat) : Nat := (p + n) % psnMod
def psnSub (p n : Nat) : Nat := (p + psnMod - n % psnMod) % psnMod

/-- A packet of a queue pair to its peer. -/
def Blk.qpPacket (b : Blk) (q type rflags psn addr win key imm : Nat) (payload : List Byte) : Packet :=
  { cls := b.get (XQP.QCTX0_CLASS q), loc := false, xver := 1, type := type, dst := b.get (XQP.QCTX0_PEER_NODE q)
    src := b.get XROUTE.NODE_ID, hops := 0, rflags := rflags, addr := addr, psn := psn, dqp := b.get (XQP.QCTX0_PEER_QP q)
    win := win, key := key, imm := imm, payload := payload, hcrc := 0, crc := 0 }

/-- ACK and NAK (spec/12 R278, R294, R295): a NAK's syndrome 1 SEQ, 2 ACCESS, 3 ERR_NOTIFY. -/
def Blk.sendAck (b : Blk) (q psn : Nat) : Blk := b.sendRouted (b.qpPacket q 4 0 psn 0 0 0 0 [])
def Blk.sendNak (b : Blk) (q syndrome psn cause : Nat) : Blk :=
  b.sendRouted (b.qpPacket q 5 0 psn 0 0 0 (syndrome + 256 * cause) [])

/-- A completion entry (spec/12 Table 6). -/
def Blk.completionBytes (b : Blk) (status kind q cause index op data psn : Nat) : List Byte :=
  natLe 1 status ++ natLe 1 kind ++ natLe 1 q ++ natLe 1 cause ++ natLe 2 index ++ natLe 1 op ++
  natLe 1 (b.get (XQP.QCTX0_PEER_NODE q)) ++ natLe 4 data ++ natLe 3 psn ++ natLe 1 0

/-- A completion waits to be written to a queue pair's completion queue. -/
def Blk.queueCompletion (b : Blk) (q : Nat) (bytes : List Byte) : Blk :=
  { b with fab := { b.fab with completions := b.fab.completions ++ [⟨b.get (XQP.QCTX0_CQ q), bytes⟩] } }

/-- How a FAB descriptor ends (spec/10 R245). -/
def mcQp : Nat := 0x07
def mcSoftReset : Nat := 0x0B

/-- A FAB descriptor's writes have ended, with a cause or 0, `n` of its bytes acknowledged. -/
def Blk.endFab (b : Blk) (ch cause n : Nat) : Blk :=
  { b with mover := b.mover.modify ch (fun m => { m with fabEnd := some (cause, n) }) }

/-- Completion of a work request, or of a mover descriptor's writes (spec/12 R285, R286). -/
def Blk.completeJob (b : Blk) (q : Nat) (j : SendJob) (status cause psn : Nat) : Blk :=
  match j.from_ with
  | .request i =>
    if status == 0 && !j.wr.signal then b
    else b.queueCompletion q (b.completionBytes status 0 q cause i j.wr.op j.acked psn)
  | .mover ch => b.endFab ch (if status == 0 then 0 else mcQp) j.acked

/-- A queue-pair error log entry (spec/12 R297, QLOG_HEAD). -/
def Blk.logQp (b : Blk) (cause q src : Nat) (asTarget : Bool) (psn : Nat) : Blk :=
  let at_ := b.get XQP.QLOG_HEAD_NEXT
  let used := (Tbl.get (dflt none) b.fab.qlog at_).isSome
  let e : QlogEntry := ⟨cause, q, src, asTarget, psn, coordNat b.now⟩
  { b with fab := { b.fab with qlog := Tbl.put (dflt none) b.fab.qlog at_ (some e) } }.ringStep XQP.QLOG_HEAD_NEXT XQP.QLOG_HEAD_OVF used

/-- Ring indices of an errored queue pair's untaken work requests, each completing with FLUSHED (spec/12 R286, R297): its OP is in
the ring, and one whose page is held waits for it. A PSN it never got is open, as is an OP that cannot be read: free values
(notes/assumptions/34). -/
def Blk.flushRing : List Nat → Blk → Nat → Blk
  | [], b, q => b.setQp q { b.qp q with flush := [] }
  | i :: rest, b, q =>
    let (c, d, b) := b.bulkRead (sendEng q) (b.get (XQP.QCTX4_SQ_BASE_LO q) + 2 ^ 32 * b.get (XQP.QCTX5_SQ_BASE_HI q) + 32 * i) 32
    if c == bkWait then b.setQp q { b.qp q with flush := i :: rest }
    else
      let (op, b) := if c == 0 then (leAt d 0 1, b) else b.free 8
      let (psn, b) := b.free 24
      Blk.flushRing rest (b.queueCompletion q (b.completionBytes 1 0 q 0 i op 0 psn)) q

/-- What an errored queue pair still has to complete, as far as it can be now. -/
def Blk.flushMore (b : Blk) (q : Nat) : Blk := Blk.flushRing (b.qp q).flush b q

/-- The job of a queue pair whose unacknowledged packet covers a PSN. -/
def Blk.jobAt (b : Blk) (q psn : Nat) : Option Nat :=
  ((b.qp q).out.find? (fun o => psnSub psn o.pkt.psn < (if o.pkt.type == 2 then max 1 (ceilDiv o.pkt.imm 512) else 1))).map (fun o => o.job)

/-- Error entry (spec/12 R297): `owner` is the job whose cause it is. The queue pair flushes: what is in progress, and everything
later in the send queue, completes. What it has accepted as a target stays at the endpoint (R290). -/
def Blk.qpError (b : Blk) (q status cause : Nat) (owner : Option Nat) (asTarget : Bool) (psn : Nat) : Blk :=
  if b.qstate q != qsReady then b
  else
    let b := ((b.conf (XQP.QCTX0_STATE q) qsError).set (XQP.QCTX9_STATUS q) status).set (XQP.QCTX9_CAUSE q) cause
    let b := (b.set (XQP.QCTX9_FLUSHING q) 1).raise XQP.IRQ_RAW_QP_ERROR
    let b := b.logQp cause q (b.get (XQP.QCTX0_PEER_NODE q)) asTarget psn
    let b := if cause == 0 then b else b.captureOwn Page.XQP cause q
    let b := b.queueCompletion q (b.completionBytes status 2 q cause 0 0 0 psn)
    let b := b.endEngineWaits (sendEng q)
    let b := b.when (cause != 0) (fun b => b.failQueue q cause)
    let x := b.qp q
    let b := b.each x.jobs (fun b j =>
      if owner == some j.id then b.completeJob q j status cause psn else b.completeJob q j 1 0 psn)
    let b := b.each x.queue (fun b i => match i with | .request _ => b | .mover ch _ _ _ => b.endFab ch mcQp 0)
    let rest := x.queue.filterMap (fun i => match i with | .request k => some k | .mover .. => none)
    let b := b.set (XQP.QCTX8_SQ_HEAD q) (b.get (XQP.QCTX8_SQ_TAIL q))
    (b.setQp q { x with queue := [], jobs := [], out := [], resend := [], flush := rest, ackDue := false }).flushMore q

/-- Error entry for a local cause, told to the peer (spec/12 Table 4). -/
def Blk.qpErrorNotify (b : Blk) (q status cause : Nat) (owner : Option Nat) (psn : Nat) : Blk :=
  if b.qstate q != qsReady then b else (b.sendNak q 3 psn cause).qpError q status cause owner false psn

/-! ### Completion queues (spec/12 R286, R287) -/

def Blk.cqSize (b : Blk) (c : Nat) : Nat := 2 ^ b.get (XQP.CQ_CFG_LOG2 c)

/-- A full completion queue puts every queue pair bound to it in ERROR; the STATUS of that entry is not stated: a free value
(notes/assumptions/34). -/
def Blk.cqOverflow (b : Blk) (c : Nat) : Blk :=
  let b := (b.set (XQP.CQ_STATUS_OVERFLOW c) 1).raise XQP.IRQ_RAW_CQ_OVERFLOW
  b.each (indicesWhere 256 (fun q => b.qstate q == qsReady && b.get (XQP.QCTX0_CQ q) == c)) (fun b q =>
    let (v, b) := b.free 8
    b.qpErrorNotify q v fcCqOverflow none (b.get (XQP.QCTX1_SQ_PSN q)))

/-- Completions are written while their queues have room, in order. -/
def Blk.drainCompletions (b : Blk) : Blk :=
  let cs := b.fab.completions
  let keep := fun (b : Blk) (x : Completion) => { b with fab := { b.fab with completions := b.fab.completions ++ [x] } }
  cs.foldl (fun b x =>
    let c := x.cq
    let tail := b.get (XQP.CQ_TAIL c)
    if b.flag (XQP.CQ_STATUS_OVERFLOW c) || !b.flag (XQP.CQ_CFG_EN c) || b.fab.completions.any (fun y => y.cq == c) then keep b x
    else if (tail + 1) % b.cqSize c == b.get (XQP.CQ_HEAD c) then (keep b x).cqOverflow c
    else
      let (r, b) := b.bulkWrite (complEng c) (b.get (XQP.CQ_BASE_LO c) + 2 ^ 32 * b.get (XQP.CQ_BASE_HI c) + 16 * tail) x.bytes
      if r != 0 then keep b x
      else
        let b := b.set (XQP.CQ_TAIL c) ((tail + 1) % b.cqSize c)
        b.set XQP.IRQ_RAW_CQ0_3 (putBits (b.get XQP.IRQ_RAW_CQ0_3) c 1 1))
    { b with fab := { b.fab with completions := [] } }

/-- CQ_OVERFLOW_CLEAR (spec/12 R287). -/
def Blk.cqOverflowClear (b : Blk) (c v : Nat) : Blk :=
  if bitAt v 0 then (b.set (XQP.CQ_STATUS_OVERFLOW c) 0).drainCompletions else b

/-! ### State requests (spec/12 R282, R283) -/

/-- Packets a queue pair has accepted as a target stay at the endpoint when it is reset (spec/12 R290), and so do their waits. -/
def Blk.leaveRx (b : Blk) (q : Nat) : Blk :=
  let rx := b.fab.rx.map (fun (r : RxPkt) => if r.qp == q then { r with qp := noQueue } else r)
  let moved := fun (w : Wait) => if w.src == q && w.port == 10 then { w with src := noQueue } else w
  { b with fab := { b.fab with rx := rx }, tiles := b.tiles.map (fun (x : TileSt) => { x with waits := x.waits.map moved }) }

/-- The queue pair is in RESET: its queues are empty, its indices and first cause 0 (notes/assumptions/33). -/
def Blk.qpToReset (b : Blk) (q : Nat) : Blk :=
  let b := ((b.leaveRx q).conf (XQP.QCTX0_STATE q) qsReset).setWord (XQP.QCTX8_SQ_HEAD q).key 0
  let b := (b.setWord (XQP.QCTX9_STATUS q).key 0).setWord (XQP.QCTX10_OLDEST q).key 0
  b.setQp q noQp

/-- A context valid for READY (spec/12 R283). -/
def Blk.qpValid (b : Blk) (q : Nat) : Bool :=
  1 ≤ b.get (XQP.QCTX0_CLASS q) && b.flag (XQP.CQ_CFG_EN (b.get (XQP.QCTX0_CQ q))) && b.get (XQP.QCTX5_SQ_LOG2 q) ≤ 12

/-- STATE written with a code (spec/12 Table 4): a code that the table does not list for the state is captured; in INIT the code
shown goes with a write of context fields. -/
def Blk.qpRequest (b : Blk) (q : Nat) (a : Agent) (code : Nat) : Blk :=
  let st := b.qstate q
  if st == qsReset && code == qsInit then b.conf (XQP.QCTX0_STATE q) qsInit
  else if st == qsInit && code == qsInit then b
  else if st == qsInit && code == qsReady then
    (if b.qpValid q then
      (b.conf (XQP.QCTX0_STATE q) qsReady).set (XQP.QCTX10_OLDEST q) (b.get (XQP.QCTX1_SQ_PSN q))
    else b.capture Page.XQP 0x16 (agentCode a) q)
  else if st == qsInit && code == qsReset then b.qpToReset q
  else if st == qsReady && code == qsError then
    (b.qpErrorNotify q 1 0 none (b.get (XQP.QCTX1_SQ_PSN q))).drainCompletions
  else if st == qsError && code == qsReset then
    (if b.flag (XQP.QCTX9_FLUSHING q) then b.setQp q { b.qp q with resetWaits := true } else b.qpToReset q)
  else b.capture Page.XQP 0x17 (agentCode a) q

/-- A write of QCTX0 (spec/12 R282, R305): with a STATE code that Table 4 lists for INIT its other fields take effect there. -/
def Blk.writeQctx0 (b : Blk) (q : Nat) (a : Agent) (v : Nat) : Blk :=
  let st := b.qstate q
  let code := bitsAt v 0 3
  let b := if st == qsInit && code ≤ qsReady then
      (b.setWord (XQP.QCTX0_STATE q).key (BitVec.ofNat 32 (Nat.land (putBits v 0 3 st) 0xFFFF1F37))).markChanged Page.XQP
    else b
  b.qpRequest q a code

/-- A write of one of QCTX1 to QCTX7, whose table row is `key`'s (spec/12 R283). -/
def Blk.writeQctx (b : Blk) (q : Nat) (a : Agent) (key : Nat) (v : Word) : Blk :=
  if b.qstate q == qsInit then b.storeKey key v else b.capture Page.XQP 0x17 (agentCode a) q

/-- QP_FLUSH_DONE (spec/12 R297): every completion of the queue pair has been posted. -/
def Blk.qpFlushDone (b : Blk) (q : Nat) : Blk :=
  let b := (if q < 256 && b.flag (XQP.QCTX9_FLUSHING q) then b.flushMore q else b).drainCompletions
  if q < 256 && b.flag (XQP.QCTX9_FLUSHING q) && (b.qp q).flush.isEmpty && !b.fab.completions.any (fun c => leAt c.bytes 2 1 == q) then
    let b := b.set (XQP.QCTX9_FLUSHING q) 0
    if (b.qp q).resetWaits then b.qpToReset q else b
  else b

/-! ### The send queue (spec/12 R284, R285, R292) -/

/-- The indices from `h` up to but not `t` in a ring of `n`. -/
def ringIndices (h t n : Nat) : List Nat := (List.range ((t + n - h % n) % n)).map (fun i => (h + i) % n)

/-- A write of DOORBELL: work requests up to the new tail reach the send engine. -/
def Blk.doorbell (b : Blk) (q tail : Nat) : Blk :=
  if b.qstate q != qsReady then b
  else
    let n := b.sqSize q
    let new := ringIndices (b.get (XQP.QCTX8_SQ_TAIL q)) (tail % n) n
    let b := b.set (XQP.QCTX8_SQ_TAIL q) (tail % n)
    b.setQp q { b.qp q with queue := (b.qp q).queue ++ new.map SendItem.request }

/-- The work request that 32 bytes spell (spec/12 Table 5). -/
def workReq (d : List Byte) : WorkReq :=
  { op := leAt d 0 1, final := bitAt (leAt d 1 1) 0, signal := bitAt (leAt d 1 1) 1, ltag := bitAt (leAt d 1 1) 2
    win := leAt d 2 2 % 1024, len := leAt d 4 4, localAddr := leAt d 8 8, remote := leAt d 16 8, key := leAt d 24 4
    imm := leAt d 28 4 }

/-- A work request the engine takes; else BAD_WR (spec/12 Table 5). -/
def workReqOk (d : List Byte) : Bool :=
  let w := workReq d
  w.op ≤ 2 && leAt d 1 1 < 8 && leAt d 2 2 < 1024 && w.len % 4 == 0 &&
  (if w.op == 0 then 4 ≤ w.len && w.len ≤ 16777212 else if w.op == 1 then w.len ≤ 16777212 else 4 ≤ w.len && w.len ≤ 65536)

/-- The number under which the search path posts writes: one more channel of the mover's engine (spec/14 R342, R356). -/
def searchPath : Nat := 8

/-- The send engine takes the next item of the queue, if there is one and it need not wait (spec/12 R284, R285). -/
def Blk.takeItem (b : Blk) (q : Nat) : Blk :=
  let x := b.qp q
  match x.queue with
  | [] => b
  | .mover ch writes final imm :: rest =>
    let search := ch == searchPath
    let win := if search then b.get SEARCH.INBOX_WIN else b.get (XQP.QCTX6_DEF_WIN q)
    let key := if search then b.get SEARCH.INBOX_KEY else b.get (XQP.QCTX7_DEF_KEY q)
    let wr : WorkReq := ⟨0, final, false, false, win, 0, 0, 0, key, imm⟩
    b.setQp q { x with queue := rest, nextJob := x.nextJob + 1
                       jobs := x.jobs ++ [⟨x.nextJob, .mover ch, wr, 0, 0, writes.isEmpty, writes⟩] }
  | .request i :: rest =>
    let psn := b.get (XQP.QCTX1_SQ_PSN q)
    let (c, d, b) := b.bulkRead (sendEng q) (b.sqBase q + 32 * i) 32
    if c == bkWait then b
    else
      let x := b.qp q
      let wr := workReq d
      let b := b.set (XQP.QCTX8_SQ_HEAD q) ((i + 1) % b.sqSize q)
      let b := b.setQp q { x with queue := rest, nextJob := x.nextJob + 1
                                  jobs := x.jobs ++ [⟨x.nextJob, .request i, wr, 0, 0, false, []⟩] }
      let mine := some x.nextJob
      if c != 0 then b.qpErrorNotify q 4 (fabCauseOfBulk c) mine psn
      else if !workReqOk d then b.qpErrorNotify q 4 fcBadWr mine psn
      else if fabNode wr.remote != b.get (XQP.QCTX0_PEER_NODE q) then b.qpErrorNotify q 6 fcNodeMismatch mine psn
      else b

/-- Packets may go out: the next PSN is less than MAX_OUT past the oldest unacknowledged one (spec/12 R292). -/
def Blk.withinWindow (b : Blk) (q : Nat) : Bool :=
  (b.qp q).out.isEmpty ||
    psnSub (b.get (XQP.QCTX1_SQ_PSN q)) (b.get (XQP.QCTX10_OLDEST q)) < b.get (XQP.QCTX3_MAX_OUT_M1 q) + 1

/-- A job's bits in RFLAGS: FINAL, ACKREQ, LAST. -/
def lastFlags (final last : Bool) : Nat := if last then (if final then 1 else 0) + 2 + 8 else 0

/-- The job replaced in its list. -/
def putJob (l : List SendJob) (j : SendJob) : List SendJob := l.map (fun x => if x.id == j.id then j else x)

/-- A new packet goes out: kept until acknowledged, SQ_PSN advances (spec/12 R292). -/
def Blk.emitNew (b : Blk) (q : Nat) (j : SendJob) (o : OutPkt) (consumes : Nat) : Blk :=
  let x := b.qp q
  let b := if x.out.isEmpty then b.set (XQP.QCTX10_OLDEST q) o.pkt.psn else b
  let b := b.setQp q { x with jobs := putJob x.jobs j, out := x.out ++ [o] }
  (b.conf (XQP.QCTX1_SQ_PSN q) (psnAdd o.pkt.psn consumes)).sendRouted o.pkt

/-- The next new packet of a job (spec/12 R284, R285). -/
def Blk.sendNext (b : Blk) (q : Nat) (j : SendJob) : Blk :=
  let psn := b.get (XQP.QCTX1_SQ_PSN q)
  match j.from_ with
  | .mover _ =>
    match j.writes with
    | [] => b
    | (addr, bs) :: rest =>
      let last := rest.isEmpty
      let type := if last && j.wr.final then 1 else 0
      let pkt := b.qpPacket q type (lastFlags j.wr.final last) psn addr j.wr.win j.wr.key (if last && j.wr.final then j.wr.imm else 0) bs
      b.emitNew q { j with writes := rest, sent := j.sent + bs.length, allSent := last } ⟨j.id, bs.length, last, pkt⟩ 1
  | .request _ =>
    let w := j.wr
    if w.op == 2 then
      let pkt := b.qpPacket q 2 (lastFlags w.final true) psn w.remote w.win w.key w.len []
      b.emitNew q { j with sent := w.len, allSent := true } ⟨j.id, w.len, true, pkt⟩ (ceilDiv w.len 512)
    else
      let n := min 512 (w.len - j.sent)
      let last := j.sent + n == w.len
      let tile := fabTile w.localAddr
      let off := fabOff w.localAddr + j.sent
      let space := fabSpace w.localAddr
      let slots := if w.ltag && space == 0 then
          (slotsTouched off n).filter (fun s => j.sent == 0 || off ≤ s * 256) else []
      let unreached := if n == 0 then 0 else b.placeCause space tile off n
      if unreached != 0 then b.qpErrorNotify q 4 unreached (some j.id) psn
      else match slots.find? (fun s => !b.foundFull tile s && !b.unitGranted tile q portLocal s) with
      | some s => b.unitWait tile q portLocal 10 s .readFull
      | none =>
        let b := (b.tagVotes tile slots).when (!slots.isEmpty) (fun b => b.clearUnitWaits tile q portLocal)
        let (c, bs, b) := if n == 0 then (0, [], b) else b.placeRead (sendEng q) space tile off n
        if c == bkWait then b
        else if c != 0 then b.qpErrorNotify q 4 c (some j.id) psn
        else
          let type := if last && w.op == 1 then 1 else 0
          let addr := if type == 1 && n == 0 then 0 else w.remote + j.sent
          let pkt := b.qpPacket q type (lastFlags w.final last) psn addr w.win w.key (if type == 1 then w.imm else 0) bs
          b.emitNew q { j with sent := j.sent + n, allSent := last } ⟨j.id, n, last, pkt⟩ 1

/-- A packet is sent again (spec/12 R295). -/
def Blk.sendAgain (b : Blk) (q : Nat) (o : OutPkt) (rest : List OutPkt) : Blk :=
  let b := b.setQp q { b.qp q with resend := rest }
  (b.bumpSat XQP.RESENT).sendRouted { o.pkt with rflags := Nat.lor o.pkt.rflags 4 }

/-- QP_SEND_PACKET (spec/12 R284, R285, R292, R295): the next packet of a READY queue pair. -/
def Blk.qpSend (b : Blk) (q : Nat) : Blk :=
  if !(q < 256 && b.active Page.XQP && b.qstate q == qsReady) then b
  else match (b.qp q).resend with
    | o :: rest => b.sendAgain q o rest
    | [] =>
      let b := if (b.qp q).jobs.any (fun j => !j.allSent) then b else b.takeItem q
      if b.qstate q != qsReady then b.drainCompletions
      else match (b.qp q).jobs.find? (fun j => !j.allSent) with
        | some j => if b.withinWindow q then (b.sendNext q j).drainCompletions else b
        | none => b

/-! ### Acknowledgement (spec/12 R294, R295) -/

/-- PSNs a packet consumes. -/
def psnsOf (p : Packet) : Nat := if p.type == 2 then max 1 (ceilDiv p.imm 512) else 1

/-- Jobs wholly acknowledged complete, a read once its data are placed (spec/12 R284, R286). -/
def Blk.settleJobs (b : Blk) (q : Nat) (psn : Nat) : Blk :=
  let x := b.qp q
  let whole := fun (j : SendJob) => j.allSent && !x.out.any (fun o => o.job == j.id) &&
    !b.fab.rx.any (fun r => r.qp == q && r.job == some j.id)
  let done := x.jobs.filter whole
  let b := b.setQp q { x with jobs := x.jobs.filter (fun j => !whole j) }
  b.each done (fun b j =>
    let b := b.when (j.wr.op == 2 && j.wr.ltag && fabSpace j.wr.localAddr == 0) (fun b =>
      b.setTags (fabTile j.wr.localAddr) (slotsTouched (fabOff j.wr.localAddr) j.wr.len) true)
    b.completeJob q j 0 0 psn)

/-- The acknowledged PSN advanced: OLDEST, RETRIES 0 (spec/12 R295). -/
def Blk.advanced (b : Blk) (q : Nat) : Blk :=
  let oldest := match (b.qp q).out with | o :: _ => o.pkt.psn | [] => b.get (XQP.QCTX1_SQ_PSN q)
  (b.set (XQP.QCTX10_OLDEST q) oldest).set (XQP.QCTX9_RETRIES q) 0

/-- Packets an ACK up to a PSN frees: a READ_REQ is acknowledged by its responses only (spec/12 R294). -/
def freedBy (psn : Nat) (o : OutPkt) : Bool := o.pkt.type != 2 && psnSub psn o.pkt.psn < 2 ^ 23

/-- The packet counts for the queue pair it names: else it is STRAY or LATE (spec/12 R296). -/
def Blk.qpAccepts (b : Blk) (q : Nat) (p : Packet) : Option Blk :=
  let st := b.qstate q
  if st == qsError then some (b.bumpSat XQP.LATE)
  else if st != qsReady || p.src != b.get (XQP.QCTX0_PEER_NODE q) then some (b.bumpSat XQP.STRAY)
  else none

/-- RMA_ACK_RECEIVE (spec/12 R294): frees acknowledged packets. -/
def Blk.rmaAck (b : Blk) (p : Packet) : Blk :=
  let q := p.dqp
  if !b.active Page.XQP then b
  else match b.qpAccepts q p with
  | some b' => b'
  | none =>
    let x := b.qp q
    if psnSub (b.get (XQP.QCTX1_SQ_PSN q)) p.psn == 0 || 2 ^ 23 ≤ psnSub (b.get (XQP.QCTX1_SQ_PSN q)) p.psn then b
    else
      let freed := x.out.filter (freedBy p.psn)
      if freed.isEmpty then b
      else
        let mine := fun (j : SendJob) => ((freed.filter (fun o => o.job == j.id)).map (fun o => o.bytes)).foldl (· + ·) 0
        let b := b.setQp q { x with
          out := x.out.filter (fun o => !freedBy p.psn o), resend := x.resend.filter (fun o => !freedBy p.psn o)
          jobs := x.jobs.map (fun j => { j with acked := j.acked + mine j }) }
        ((b.advanced q).settleJobs q p.psn).drainCompletions

/-- A resend from a PSN, or of everything (spec/12 R295); one retry too many is RETRY_EXCEEDED. -/
def Blk.beginResend (b : Blk) (q : Nat) (from_ : Option Nat) : Blk :=
  let x := b.qp q
  let r := b.get (XQP.QCTX9_RETRIES q)
  if x.out.isEmpty then b
  else if b.get (XQP.QCTX0_RETRY_MAX q) < r + 1 then
    (b.qpErrorNotify q 2 fcRetry (x.out.head?.map (fun o => o.job)) (b.get (XQP.QCTX10_OLDEST q))).drainCompletions
  else
    let again := match from_ with
      | none => x.out
      | some p => x.out.filter (fun o => psnSub o.pkt.psn p < 2 ^ 23 || (o.pkt.type == 2 && psnSub p o.pkt.psn < psnsOf o.pkt))
    (b.setQp q { x with resend := again }).set (XQP.QCTX9_RETRIES q) (r + 1)

/-- RETRY_TIMEOUT (spec/12 R295): the retry timer expires. -/
def Blk.retryTimeout (b : Blk) (q : Nat) : Blk :=
  if q < 256 && b.active Page.XQP && b.qstate q == qsReady then b.beginResend q none else b

/-- RMA_NAK_RECEIVE (spec/12 R295, R297). -/
def Blk.rmaNak (b : Blk) (p : Packet) : Blk :=
  let q := p.dqp
  if !b.active Page.XQP then b
  else match b.qpAccepts q p with
  | some b' => b'
  | none =>
    let syn := p.imm % 256
    let cause := bitsAt p.imm 8 8
    if syn == 1 then b.beginResend q (some p.psn)
    else if syn == 2 then (b.qpError q 3 cause (b.jobAt q p.psn) false p.psn).drainCompletions
    else if syn == 3 then (b.qpError q 5 cause none false p.psn).drainCompletions
    else b

/-! ### Wadi entries (spec/12 R300 to R303) -/

/-- VALID, and ACTION is issued. -/
def Blk.wadiValid (b : Blk) (e : Nat) : Bool := b.flag (XQP.WD_CTRL_VALID e) && b.get (XQP.WD_CTRL_ACTION e) != 3

/-- A dropped fire. -/
def Blk.wadiDrop (b : Blk) (e : Nat) : Blk := (b.raise XQP.IRQ_RAW_WADI_DROP).captureOwn Page.XQP 0x19 (e % 256)

/-- The work request stored in an entry. -/
def Blk.wadiWr (b : Blk) (e : Nat) : List Byte := (List.range 8).flatMap (fun i => natLe 4 (b.get (XQP.WD_WR e i)))

/-- A work request appended to a queue pair's send queue. -/
def Blk.appendWr (b : Blk) (q : Nat) (bytes : List Byte) : Blk :=
  let t := b.get (XQP.QCTX8_SQ_TAIL q)
  let b := b.bulkPost (sendEng q) (b.sqBase q + 32 * t) bytes
  let b := b.set (XQP.QCTX8_SQ_TAIL q) ((t + 1) % b.sqSize q)
  b.setQp q { b.qp q with queue := (b.qp q).queue ++ [.request t] }

/-- The send queue is full. -/
def Blk.sqFull (b : Blk) (q : Nat) : Bool := (b.get (XQP.QCTX8_SQ_TAIL q) + 1) % b.sqSize q == b.get (XQP.QCTX8_SQ_HEAD q)

/-- A POST fire (spec/12 R303). -/
def Blk.wadiPost (b : Blk) (e : Nat) : Blk :=
  let q := b.get (XQP.WD_CTRL_QP e)
  if b.qstate q != qsReady then b.wadiDrop e
  else if b.sqFull q || b.fab.fires.any (fun f => f.qp == q) then
    (if b.get (XQP.WD_STAT_PENDING e) == 255 then b.wadiDrop e
    else
      let b := b.bump (XQP.WD_STAT_PENDING e)
      { b with fab := { b.fab with fires := b.fab.fires ++ [⟨e, q, b.wadiWr e⟩] } })
  else b.appendWr q (b.wadiWr e)

/-- COUNT with an increment; past FF_FFFFh it stays there (spec/12 R302). -/
def Blk.wadiCount (b : Blk) (e inc : Nat) : Blk :=
  let c := b.get (XQP.WD_COUNT e) + inc
  if c ≤ 0xFFFFFF then b.set (XQP.WD_COUNT e) c
  else
    let b := ((b.set (XQP.WD_COUNT e) 0xFFFFFF).set (XQP.WD_STAT_OVF e) 1).raise XQP.IRQ_RAW_WADI_OVF
    b.captureOwn Page.XQP 0x18 (e % 256)

/-- THRESHOLD; 0 acts as 1. -/
def Blk.wadiThreshold (b : Blk) (e : Nat) : Nat := max 1 (b.get (XQP.WD_THRESH e))

/-- The fires an entry owes, one by one (spec/12 R302, R303); `chain` adds to another entry. -/
def Blk.wadiFires (b : Blk) (e : Nat) (chain : Blk → Nat → Nat → Blk) : Blk :=
  b.each (List.range (b.get (XQP.WD_COUNT e) / b.wadiThreshold e)) (fun b _ =>
    if b.flag (XQP.WD_CTRL_ARMED e) && b.wadiThreshold e ≤ b.get (XQP.WD_COUNT e) then
      let b := (b.set (XQP.WD_COUNT e) (b.get (XQP.WD_COUNT e) - b.wadiThreshold e)).bump (XQP.WD_STAT_FIRES e)
      let b := if b.flag (XQP.WD_CTRL_AUTO e) then b else b.conf (XQP.WD_CTRL_ARMED e) 0
      let arg := (b.word (XQP.WD_ARG e).key).toNat
      let action := b.get (XQP.WD_CTRL_ACTION e)
      if action == 0 then b.wadiPost e
      else if action == 1 then b.fireGroup (bitsAt arg 0 16)
      else chain b (bitsAt arg 0 9) (bitsAt arg 16 16)
    else b)

/-- An increment of an entry, `depth` chain links being left (spec/12 R302, R303): the ninth link is not applied. -/
def Blk.wadiIncAt : Nat → Blk → Nat → Nat → Blk
  | 0, b, e, _ => b.captureOwn Page.XQP 0x1A (e % 256)
  | depth + 1, b, e, inc =>
    if b.wadiValid e then (b.wadiCount e inc).wadiFires e (fun b e inc => Blk.wadiIncAt depth b e inc) else b

/-- An increment by an immediate or by WADI_BUMP: 8 chain links may follow it. -/
def Blk.wadiInc (b : Blk) (e inc : Nat) : Blk := Blk.wadiIncAt 9 b e inc

/-- A write of WD_CTRL (spec/12 R300, R302): ARMED set on an entry at its threshold fires it at once. -/
def Blk.writeWdCtrl (b : Blk) (e : Nat) (v : Word) : Blk :=
  let b := b.storeKey (XQP.WD_CTRL_VALID e).key v
  if b.wadiValid e && b.flag (XQP.WD_CTRL_ARMED e) then b.wadiFires e (fun b e inc => Blk.wadiIncAt 8 b e inc) else b

/-- WADI_PENDING_POST (spec/12 R303): the oldest waiting fire whose send queue has room is appended; one whose queue pair has
left READY is dropped. -/
def Blk.wadiPending (b : Blk) : Blk :=
  match b.fab.fires.find? (fun f => b.qstate f.qp != qsReady || !b.sqFull f.qp) with
  | none => b
  | some f =>
    let b := { b with fab := { b.fab with fires := b.fab.fires.erase f } }
    let b := b.set (XQP.WD_STAT_PENDING f.entry) (b.get (XQP.WD_STAT_PENDING f.entry) - 1)
    if b.qstate f.qp != qsReady then b.wadiDrop f.entry else b.appendWr f.qp f.bytes

/-! ### Windows (spec/12 R279, R280) -/

/-- A window's base offset. -/
def Blk.winBase (b : Blk) (w : Nat) : Nat := b.get (XQP.WIN0_BASE_LO w) + 2 ^ 32 * b.get (XQP.WIN1_BASE_HI w)

/-- A window that may be enabled. -/
def Blk.winOk (b : Blk) (w : Nat) : Bool :=
  let base := b.winBase w
  let len := b.get (XQP.WIN2_LENGTH w)
  let tags := b.flag (XQP.WIN1_TAGS w)
  let space := b.get (XQP.WIN1_SPACE w)
  space ≤ 1 && base % 4 == 0 && len % 4 == 0 && (!tags || (space == 0 && base % 256 == 0 && len % 256 == 0)) &&
  base + len ≤ (if space == 0 then spmBytes else bulkTop)

/-- A write of WIN0, WIN2, WIN3 or WIN4: no effect while the window is enabled. -/
def Blk.writeWin (b : Blk) (w : Nat) (a : Agent) (key : Nat) (v : Word) : Blk :=
  if b.flag (XQP.WIN1_EN w) then b.capture Page.XQP 0x15 (agentCode a) (w % 256) else b.storeKey key v

/-- A write of WIN1. -/
def Blk.writeWin1 (b : Blk) (w : Nat) (a : Agent) (v : Nat) : Blk :=
  let key := (XQP.WIN1_EN w).key
  let b := b.markChanged Page.XQP
  let fields := Nat.land v 0x000F0FF1
  if b.flag (XQP.WIN1_EN w) then
    let b := if fields != Nat.land (b.word key).toNat 0x000F0FF1 then b.capture Page.XQP 0x15 (agentCode a) (w % 256) else b
    if bitAt v 31 then b else b.conf (XQP.WIN1_EN w) 0
  else
    let b := b.setWord key (BitVec.ofNat 32 fields)
    if !bitAt v 31 then b
    else if b.winOk w then b.conf (XQP.WIN1_EN w) 1
    else b.capture Page.XQP 0x14 (agentCode a) (w % 256)

/-! ### The target (spec/12 R288 to R291, R293, R296) -/

/-- The access checks in their order: a cause, or 0 (spec/12 Table 8). -/
def Blk.accessCheck (b : Blk) (p : Packet) : Nat :=
  let w := p.win % 1024
  let len := if p.type == 2 then p.imm else p.payload.length
  let off := fabOff p.addr
  let empty := p.type == 1 && len == 0
  if !b.flag (XQP.WIN1_EN w) then fcBadWindow
  else if p.key != b.get (XQP.WIN3_KEY w) then fcBadKey
  else if b.get (XQP.WIN4_PEER w) != 0xFF && b.get (XQP.WIN4_PEER w) != p.src then fcWinPeer
  else if !(if p.type == 2 then b.flag (XQP.WIN1_R w)
      else b.flag (XQP.WIN1_W w) && (p.type == 0 || b.flag (XQP.WIN1_WI w))) then fcWinPerm
  else if !empty && !(fabSpace p.addr == b.get (XQP.WIN1_SPACE w) && fabTile p.addr == b.get (XQP.WIN1_TILE w) &&
      b.winBase w ≤ off && off + len ≤ b.winBase w + b.get (XQP.WIN2_LENGTH w)) then fcWinRange
  else
    let unit := if b.flag (XQP.WIN1_TAGS w) then 256 else 4
    if !empty && !(off % unit == 0 && len % unit == 0) then fcAlign
    else if p.type == 1 && bitAt p.imm 31 && !(bitsAt p.imm 25 6 == 0 && b.wadiValid (bitsAt p.imm 16 9)) then fcBadWadi
    else 0

/-- An access refused with this node as target: NAK ACCESS, error entry (spec/12 R296, R297); a queue pair in error sends
nothing. -/
def Blk.refuseAccess (b : Blk) (q psn cause : Nat) : Blk :=
  let b := if cause == fcBadKey then (b.bumpSat XQP.KEY_FAIL).raise XQP.IRQ_RAW_KEY_FAIL else b
  let b := b.raise XQP.IRQ_RAW_ACCESS_ERR
  if b.qstate q == qsReady then (b.sendNak q 2 psn cause).qpError q 3 cause none true psn else b

/-- An entry of the endpoint may start: no earlier unstarted entry of its class; for a FINAL packet no earlier entry of its queue
pair, for a READ_REQ no earlier write of it (spec/12 R288, R289). -/
def mayStartRx (l : List RxPkt) (k : Nat) (r : RxPkt) : Bool :=
  (l.take k).all (fun o =>
    (o.pkt.cls != r.pkt.cls || o.started) &&
    (o.qp != r.qp || !(bitAt r.pkt.rflags 0 || (r.pkt.type == 2 && o.pkt.type ≤ 1))))

/-- What an entry waits for at a slot: a read for FULL, a placement for EMPTY (spec/12 R290, R284 LTAG). -/
def RxPkt.kind (r : RxPkt) : WaitKind := if r.pkt.type == 2 then .readFull else .writeEmpty

/-- The tag condition of an entry at a slot is met, or has been. -/
def Blk.rxMet (b : Blk) (r : RxPkt) (s : Nat) : Bool :=
  (if r.pkt.type == 2 then b.foundFull r.tile s else !b.foundFull r.tile s) || b.unitGranted r.tile r.qp 10 s

/-- The tag wait that holds an entry, if any: slot and kind. -/
def Blk.rxHold (b : Blk) (r : RxPkt) : Option (Nat × WaitKind) := (r.gate.find? (fun s => !b.rxMet r s)).map (fun s => (s, r.kind))

/-- A remote write waits for all its slots at once; a read, and the placement of a response, take slot after slot (spec/12 R284,
R290): these slots they need not look at again. -/
def Blk.rxPassed (b : Blk) (r : RxPkt) : List Nat := if r.pkt.type ≤ 1 then [] else r.gate.takeWhile (b.rxMet r)

/-- A READ_REQ at a tag window reads the slots it has found FULL (spec/12 R290). -/
def Blk.rxRead (b : Blk) (r : RxPkt) (slots : List Nat) : RxPkt × Blk :=
  match slots.getLast? with
  | none => (r, b)
  | some s =>
    if r.pkt.type != 2 then (r, b)
    else
      let n := min r.len (s * 256 + 256 - r.off) - r.got.length
      let (c, bs, b) := b.placeRead (recvEng r.qp) r.space r.tile (r.off + r.got.length) n
      ({ r with got := r.got ++ bs, cause := c }, b)

/-- One entry tries to start: out of reach it ends with its cause; held at a tag it waits there as requester 10 (spec/12 R288,
R290, R296). -/
def Blk.rxTry (b : Blk) (k : Nat) (r : RxPkt) : Blk :=
  let put := fun (b : Blk) (r : RxPkt) => { b with fab := { b.fab with rx := setNth b.fab.rx k r } }
  let unreached := if r.gate.isEmpty then 0 else b.placeCause r.space r.tile r.off r.len
  if unreached != 0 then put b { r with cause := unreached, started := true }
  else
    let b := b.tagVotes r.tile r.gate
    let passed := b.rxPassed r
    let hold := b.rxHold r
    let (r, b) := b.rxRead { r with gate := r.gate.drop passed.length } passed
    match (if r.cause == 0 then hold else none) with
    | some (s, kind) => (put b r).unitWait r.tile r.qp 10 10 s kind
    | none => put b { r with started := true }

/-- Entries that may start do, in order (spec/12 R288, R290). -/
def Blk.startRx (b : Blk) : Blk :=
  if !b.active Page.XQP then b
  else
    b.each (List.range b.fab.rx.length) (fun b k =>
      match b.fab.rx[k]? with
      | some r => if r.started || !mayStartRx b.fab.rx k r then b else b.rxTry k r
      | none => b)

/-- A packet with a place at the endpoint; `gate` are the slots whose tags it checks, `again` marks a duplicate READ_REQ. -/
def rxEntry (p : Packet) (port : Option Nat) (space tile off len : Nat) (tags : Bool) (gate : List Nat) (job : Option Nat)
    (again : Bool) : RxPkt :=
  { qp := p.dqp, pkt := p, port := port, space := space, tile := tile, off := off, len := len, tags := tags, gate := gate
    got := [], cause := 0, job := job, again := again, started := false }

/-- An entry takes its place at the endpoint. -/
def Blk.enterRx (b : Blk) (r : RxPkt) : Blk := (({ b with fab := { b.fab with rx := b.fab.rx ++ [r] } }).startRx).updatePause

/-- A request packet accepted: it takes its place at the endpoint. -/
def Blk.acceptRx (b : Blk) (port : Option Nat) (p : Packet) (again : Bool) : Blk :=
  let len := if p.type == 2 then p.imm else p.payload.length
  let tags := b.flag (XQP.WIN1_TAGS (p.win % 1024)) && len != 0
  let gate := if tags then slotsTouched (fabOff p.addr) len else []
  b.enterRx (rxEntry p port (fabSpace p.addr) (fabTile p.addr) (fabOff p.addr) len tags gate none again)

/-- RMA_WRITE_RECEIVE, RMA_WRITE_IMM_RECEIVE and RMA_READ_REQ_RECEIVE (spec/12 R293, R296): the sequence check, the access
checks, then the place at the endpoint. -/
def Blk.rmaRequest (b : Blk) (port : Option Nat) (p : Packet) : Blk :=
  let q := p.dqp
  if !b.active Page.XQP then b
  else match b.qpAccepts q p with
  | some b' => b'
  | none =>
    let e := b.get (XQP.QCTX2_RQ_PSN q)
    let d := psnSub p.psn e
    if d == 0 then
      let b := (b.conf (XQP.QCTX2_RQ_PSN q) (psnAdd e (psnsOf p))).setQp q { b.qp q with nakSent := false }
      let c := b.accessCheck p
      if c != 0 then (b.refuseAccess q p.psn c).drainCompletions else b.acceptRx port p false
    else if d < 1024 then
      if (b.qp q).nakSent then b else (b.sendNak q 1 e 0).setQp q { b.qp q with nakSent := true }
    else if psnMod - 1024 ≤ d then
      let b := b.bumpSat XQP.DUP
      if p.type == 2 then b.acceptRx port p true else b.setQp q { b.qp q with ackDue := true }
    else b.bumpSat XQP.STALE

/-- The oldest read moved on by the bytes of a response (spec/12 R294, R295): a resend asks for the rest only. -/
def readOn (n : Nat) (o : OutPkt) : Option OutPkt :=
  if o.pkt.imm ≤ n then none
  else some { o with pkt := { o.pkt with psn := psnAdd o.pkt.psn 1, addr := o.pkt.addr + n, imm := o.pkt.imm - n } }

/-- RMA_READ_RESP_RECEIVE (spec/12 R294): the response next in PSN order acknowledges its PSN and takes its place at the endpoint,
to be written locally; any other is discarded. -/
def Blk.rmaReadResp (b : Blk) (port : Option Nat) (p : Packet) : Blk :=
  let q := p.dqp
  if !b.active Page.XQP then b
  else match b.qpAccepts q p with
  | some b' => b'
  | none =>
    let x := b.qp q
    match x.out.find? (fun o => o.pkt.type == 2) with
    | none => b
    | some o =>
      match x.jobs.find? (fun j => j.id == o.job) with
      | none => b
      | some j =>
        let n := p.payload.length
        if p.psn != o.pkt.psn || o.pkt.imm < n then b
        else
          let a := j.wr.localAddr
          let off := fabOff a + j.acked
          let gate := if j.wr.ltag && fabSpace a == 0 then
              (slotsTouched off n).filter (fun s => j.acked == 0 || off ≤ s * 256) else []
          let on := fun (l : List OutPkt) => l.filterMap (fun y => if y.job == j.id then readOn n y else some y)
          let b := b.setQp q { x with
            jobs := putJob x.jobs { j with acked := j.acked + n }, out := on x.out, resend := on x.resend }
          (b.advanced q).enterRx (rxEntry p port (fabSpace a) (fabTile a) off n false gate (some j.id) false)

/-- The read responses of a read request, packets of 512 bytes (spec/12 R278, R293). -/
def Blk.sendResponses (b : Blk) (q psn : Nat) (data : List Byte) : Blk :=
  (chunks 512 data).foldl (fun b c =>
    let last := c.1 + 512 ≥ data.length
    b.sendRouted (b.qpPacket q 3 (if last then 8 else 0) (psnAdd psn (c.1 / 512)) 0 0 0 0 c.2)) b

/-- An immediate takes effect once its data are placed (spec/12 R286, R301). -/
def Blk.applyImm (b : Blk) (r : RxPkt) : Blk :=
  let p := r.pkt
  if p.type != 1 then b
  else if bitAt p.imm 31 then b.wadiInc (bitsAt p.imm 16 9) (bitsAt p.imm 0 16)
  else if r.qp == noQueue then b
  else b.queueCompletion r.qp (b.completionBytes 0 1 r.qp 0 0 1 p.imm p.psn)

/-- The entry leaves the endpoint; later ones may start. -/
def Blk.dropRx (b : Blk) (r : RxPkt) : Blk :=
  let b := { b with fab := { b.fab with rx := b.fab.rx.erase r } }
  let b := if r.space == 0 then b.clearUnitWaits r.tile r.qp 10 else b
  (b.startRx).updatePause

/-- The PSN an ACK may name: every PSN up to it has finished placement (spec/12 R289). -/
def Blk.ackPsn (b : Blk) (q : Nat) : Nat :=
  match b.fab.rx.find? (fun r => r.qp == q && r.pkt.type != 3 && !r.again) with
  | some r => psnSub r.pkt.psn 1
  | none => psnSub (b.get (XQP.QCTX2_RQ_PSN q)) 1

/-- A request of a queue pair has finished: with nothing unfinished before it, an ACK names the PSNs up to the next unfinished
one, and is due for the writes among them (spec/12 R289, R294). A duplicate READ_REQ changes nothing. -/
def Blk.noteFinished (b : Blk) (r : RxPkt) : Blk :=
  let q := r.qp
  let before := (b.fab.rx.takeWhile (fun o => o != r)).any (fun o => o.qp == q && o.pkt.type != 3 && !o.again)
  let rest := { b with fab := { b.fab with rx := b.fab.rx.erase r } }
  let upTo := rest.ackPsn q
  let last := psnAdd r.pkt.psn (psnsOf r.pkt - 1)
  if b.qstate q != qsReady || r.again || before then b
  else
    let x := b.qp q
    b.setQp q { x with lastPlaced := some upTo, ackDue := x.ackDue || r.pkt.type != 2 || upTo != last }

/-- An entry's access fails with a cause (spec/12 R284, R296): a read response's queue pair has a local error, a request is
refused. -/
def Blk.rxFailed (b : Blk) (r : RxPkt) (cause : Nat) : Blk :=
  let b := b.dropRx r
  (if r.pkt.type == 3 then b.qpErrorNotify r.qp 4 cause r.job r.pkt.psn
    else b.refuseAccess r.qp r.pkt.psn cause).drainCompletions

/-- A started entry's data move, and what follows (spec/12 R289, R290, R294). -/
def Blk.finishRx (b : Blk) (r : RxPkt) : Blk :=
  let q := r.qp
  if r.cause != 0 then b.rxFailed r r.cause
  else if r.pkt.type == 2 then
    let (c, data, b) := if r.tags then (0, r.got, b) else b.placeRead (recvEng q) r.space r.tile r.off r.len
    if c == bkWait then b
    else if c != 0 then b.rxFailed r c
    else
      let b := (b.noteFinished r).dropRx r
      if b.qstate q == qsReady then b.sendResponses q r.pkt.psn data else b
  else
    let (c, b) := if r.len == 0 then (0, b) else b.placeWrite (recvEng q) r.space r.tile r.off r.pkt.payload
    if c == bkWait then b
    else if c != 0 then b.rxFailed r c
    else if r.pkt.type == 3 then ((b.dropRx r).settleJobs q r.pkt.psn).drainCompletions
    else
      let b := if r.tags then b.setTags r.tile (slotsTouched r.off r.len) true else b
      (((b.applyImm r).noteFinished r).dropRx r).drainCompletions

/-- PLACEMENT_DONE (spec/12 R288, R289): the placement, or read, of a queue pair's packet with a PSN finishes; one that had
not begun begins first when it may. -/
def Blk.placementDone (b : Blk) (q psn : Nat) : Blk :=
  let b := b.startRx
  if !b.active Page.XQP then b
  else match b.fab.rx.find? (fun r => r.qp == q && r.pkt.psn == psn && r.started) with
    | some r => b.finishRx r
    | none => b

/-- ACK_SEND (spec/12 R294): the last placed PSN is named. -/
def Blk.ackSend (b : Blk) (q : Nat) : Blk :=
  let x := b.qp q
  match x.lastPlaced with
  | some p =>
    if q < 256 && b.active Page.XQP && b.qstate q == qsReady && x.ackDue then (b.sendAck q p).setQp q { x with ackDue := false } else b
  | none => b

/-- A wait of the fabric at a tile ends with a cause: the held access is refused, or the work request whose source waits ends
with LOCAL_ACCESS (spec/12 R284, R291). -/
def Blk.fabricWaitEnds (b : Blk) (t : Nat) (w : Wait) (cause : Nat) : Blk :=
  let b := b.dropWait t w
  if w.port == portLocal then
    (b.qpErrorNotify w.src 4 cause (((b.qp w.src).jobs.find? (fun j => !j.allSent)).map (fun j => j.id))
      (b.get (XQP.QCTX1_SQ_PSN w.src))).drainCompletions
  else match b.fab.rx.find? (fun r => r.qp == w.src && r.tile == t && !r.started && b.rxHold r == some (w.slot, w.kind)) with
    | some r => b.rxFailed r cause
    | none => b

/-- The target tile captures the fabric's expired wait, which ends (spec/07 R159, spec/12 R291). -/
def Blk.fabricTimeout (b : Blk) (t : Nat) (w : Wait) : Blk :=
  (b.captureTimeout t 10 w.slot w.kind.isWrite).fabricWaitEnds t w fcTagTimeout

/-- REMOTE_HOLD_TIMEOUT (spec/12 R291): the access of a queue pair held past the target tile's watchdog is refused. -/
def Blk.remoteHold (b : Blk) (q psn : Nat) : Blk :=
  match b.fab.rx.find? (fun r => r.qp == q && r.pkt.psn == psn && !r.started) with
  | none => b
  | some r =>
    match b.rxHold r with
    | none => b
    | some (s, kind) =>
      match (b.tile r.tile).waits.find? (fun w => w.src == q && w.port == 10 && w.slot == s && w.kind == kind) with
      | some w => if b.waitExpired r.tile w then b.fabricTimeout r.tile w else b
      | none => b

/-- A soft reset of XQP (spec/12 R304): queue pairs to RESET, pending mover descriptors end with SOFT_RESET, no completion is
posted; the page's registers return to their reset values with the page. -/
def Blk.xqpReset (b : Blk) : Blk :=
  let movers := b.fab.qps.flatMap (fun e =>
    e.2.queue.filterMap (fun i => match i with | .mover ch _ _ _ => some (ch, 0) | _ => none) ++
    e.2.jobs.filterMap (fun j => match j.from_ with | .mover ch => some (ch, j.acked) | _ => none))
  let b := b.each movers (fun b m => b.endFab m.1 mcSoftReset m.2)
  let waits := fun (l : List Wait) => l.filter (fun w => w.req != 10)
  { b with
    fab := { b.fab with qps := [], rx := [], completions := [], fires := [] }
    tiles := b.tiles.map (fun (x : TileSt) => { x with waits := waits x.waits })
    bulk := { b.bulk with waits := b.bulk.waits.filter (fun w => w.cls % 8 != 5 || w.access.isSome) } }

end Sys2Proof.Machine
end

