-- ==== Sys2Proof/Machine/Mover.lean ====
section
/-! DEFINITION. Machine/Mover.lean: the data mover's channels and descriptors (spec/10 R224 to R234, R245); what moves the bytes
stands in Machine/MoverRun.lean. -/

namespace Sys2Proof.Machine

/-- Causes (spec/10 R245). -/
def mcBadDesc : Nat := 0x01
def mcOverlap : Nat := 0x02
def mcRange : Nat := 0x03
def mcTimeout : Nat := 0x04
def mcPoison : Nat := 0x05
def mcMappedOut : Nat := 0x06
def mcFlashErr : Nat := 0x08
def mcFlashProtect : Nat := 0x09
def mcDeadPage : Nat := 0x0A

/-- Channel states: 0 IDLE, 1 RUN, 2 HALTED, 3 WAIT. -/
def msIdle : Nat := 0
def msRun : Nat := 1
def msHalted : Nat := 2
def msWait : Nat := 3

/-- A channel with no descriptor fetched. -/
def noMover : MoverCh := ⟨[], 0, [], [], false, none⟩
def Blk.moverCh (b : Blk) (c : Nat) : MoverCh := nth b.mover c noMover
def Blk.setMover (b : Blk) (c : Nat) (x : MoverCh) : Blk := { b with mover := setNth b.mover c x }
def Blk.mstate (b : Blk) (c : Nat) : Nat := b.get (MOVER.CH_STATE_STATE c)
def Blk.setMstate (b : Blk) (c s : Nat) : Blk := b.set (MOVER.CH_STATE_STATE c) s
/-- A bulk access of channel `c` is of class MOVER (spec/10 R246). -/
def moverCls (c : Nat) : Nat := 3 + 8 * c
def Blk.moverRuns (b : Blk) (c : Nat) : Bool := b.mstate c == msRun || b.mstate c == msWait

/-- Entries of a channel's ring (spec/10 R224); a RING_LOG2 above 12 counts as 12 (notes/assumptions/35). -/
def Blk.ringSize (b : Blk) (c : Nat) : Nat := 2 ^ min 12 (b.get (MOVER.RING_CFG_RING_LOG2 c))

/-- Bulk address of descriptor HEAD. -/
def Blk.descAddr (b : Blk) (c : Nat) : Nat :=
  b.get (MOVER.RING_BASE_LO c) + 2 ^ 32 * b.get (MOVER.RING_BASE_HI c) + 64 * (b.get (MOVER.HEAD c) % b.ringSize c)

/-- Descriptors stand between HEAD and TAIL. -/
def Blk.moverWork (b : Blk) (c : Nat) : Bool := b.get (MOVER.HEAD c) % b.ringSize c != b.get (MOVER.TAIL c) % b.ringSize c

/-- An idle enabled channel with descriptors runs (spec/10 R224). -/
def Blk.moverStart (b : Blk) (c : Nat) : Blk :=
  if b.active Page.MOVER && b.mstate c == msIdle && b.flag (MOVER.RING_CFG_EN c) && b.moverWork c then
    (b.setMover c noMover).setMstate c msRun
  else b

/-- MOVER_TAIL_WRITE (spec/10 R224). -/
def Blk.writeMoverTail (b : Blk) (c v : Nat) : Blk := (b.set (MOVER.TAIL c) v).moverStart c

/-- A write of RING_CFG: none while the channel runs (spec/10 R245). -/
def Blk.writeRingCfg (b : Blk) (c : Nat) (v : Word) : Blk :=
  if b.moverRuns c then b else (b.storeKey (MOVER.RING_CFG_EN c).key v).moverStart c

/-! ### Descriptors -/

/-- A descriptor (spec/10 R227 Table 1). -/
structure MDesc where
  op : Nat
  srcKind : Nat
  dstKind : Nat
  srcTag : Nat
  dstTag : Nat
  flags : Nat
  src : Nat
  dst : Nat
  width : Nat
  height : Nat
  srcStride : Nat
  dstStride : Nat
  fill : List Byte
  qp : Nat
  imm : Nat
  user : Nat
deriving DecidableEq, Repr

def mDesc (d : List Byte) : MDesc :=
  { op := leAt d 0 1, srcKind := leAt d 1 1 % 16, dstKind := leAt d 1 1 / 16, srcTag := leAt d 2 1, dstTag := leAt d 3 1
    flags := leAt d 4 1, src := leAt d 8 8, dst := leAt d 16 8, width := leAt d 24 4, height := leAt d 28 2
    srcStride := leAt d 32 4, dstStride := leAt d 36 4, fill := (d.drop 40).take 4, qp := leAt d 44 2, imm := leAt d 48 4
    user := leAt d 52 4 }

/-- Endpoint kinds (spec/10 R227 Table 2). -/
def mkBulk : Nat := 0
def mkSpm : Nat := 1
def mkFlash : Nat := 2
def mkReg : Nat := 3
def mkFab : Nat := 4

def MDesc.isFill (d : MDesc) : Bool := d.op == 1

/-- Bytes between the first and past the last of a rectangle (spec/10 R232). -/
def MDesc.extent (d : MDesc) (stride : Nat) : Nat := (d.height - 1) * stride + d.width

/-- An address in the form of its kind (spec/10 R227 Table 2). -/
def mAddrOk (kind a : Nat) : Bool :=
  if kind == mkBulk then decide (a < bulkTop)
  else if kind == mkSpm then a == bitsAt a 0 22 + bitsAt a 48 4 * 2 ^ 48
  else if kind == mkFlash then decide (a < 2 ^ 35)
  else if kind == mkReg then decide (0x40000000 ≤ a) && decide (a < 0x40100000)
  else true

/-- The rectangle ends inside its endpoint's range (spec/10 R228). -/
def mRangeOk (kind a extent : Nat) : Bool :=
  if kind == mkBulk then decide (a + extent ≤ bulkTop)
  else if kind == mkSpm then decide (a % 2 ^ 22 + extent ≤ spmBytes)
  else if kind == mkFlash then decide (a + extent ≤ 2 ^ 35)
  else if kind == mkReg then decide (a + extent ≤ 0x40100000)
  else true

/-- A stride as Table 1 has it. -/
def MDesc.strideOk (d : MDesc) (stride : Nat) : Bool := stride % 4 == 0 && (d.height ≤ 1 || d.width ≤ stride)

/-- Reserved bytes and bits are 0 (spec/10 R227 Table 1). -/
def mReservedOk (b : List Byte) : Bool :=
  leAt b 5 3 == 0 && leAt b 30 2 == 0 && leAt b 46 2 == 0 && leAt b 56 4 == 0 &&
  leAt b 2 1 < 4 && leAt b 3 1 < 4 && leAt b 4 1 < 4

/-- The cause a descriptor is refused with before any access, 0 for none (spec/10 R228, R234). A FILL has no source
endpoint: SRC_ADDR takes no form of Table 2, and SRC_TAG is 0 (notes/assumptions/35). -/
def mRefusal (b : List Byte) : Nat :=
  let d := mDesc b
  let tagsOk := (d.srcTag == 0 || (!d.isFill && d.srcKind == mkSpm)) && (d.dstTag == 0 || d.dstKind == mkSpm)
  let fabOk := d.dstKind == mkFab || (d.imm == 0 && !bitAt d.flags 1)
  let sizeOk := d.width % 4 == 0 && 4 ≤ d.width && d.width ≤ 16777212 && 1 ≤ d.height
  if !(mReservedOk b && d.op ≤ 1 && d.dstKind ≤ 4 && (d.isFill || d.srcKind ≤ 3) && tagsOk && fabOk && sizeOk &&
      d.strideOk d.dstStride && d.strideOk d.srcStride && mAddrOk d.dstKind d.dst && (d.isFill || mAddrOk d.srcKind d.src)) then
    mcBadDesc
  else if !(mRangeOk d.dstKind d.dst (d.extent d.dstStride) &&
      (d.isFill || mRangeOk d.srcKind d.src (d.extent d.srcStride))) then mcRange
  else 0

/-- The footprints overlap in one space (spec/10 R232). -/
def MDesc.overlapping (d : MDesc) : Bool :=
  !d.isFill && d.srcKind == d.dstKind && d.dstKind != mkFab &&
    (d.dstKind != mkSpm || bitsAt d.src 48 4 == bitsAt d.dst 48 4) &&
    overlaps d.src (d.extent d.srcStride) d.dst (d.extent d.dstStride)

/-- Refused as OVERLAP_UNSAFE (spec/10 R234). -/
def MDesc.sheared (d : MDesc) : Bool := d.overlapping && d.srcStride != d.dstStride && 1 < d.height

/-- Rows and columns are walked backward (spec/10 R233). -/
def MDesc.backward (d : MDesc) : Bool := d.overlapping && d.src < d.dst

/-- No data access is made (spec/10 R233). -/
def MDesc.still (d : MDesc) : Bool := d.overlapping && d.src == d.dst

def MDesc.total (d : MDesc) : Nat := d.width * d.height

/-- Rows completed after `n` bytes. -/
def MDesc.rowsAt (d : MDesc) (n : Nat) : Nat := if d.width == 0 then 0 else n / d.width

/-- The STATUS word (spec/10 R227 Table 1): the cause, the rows completed, and the order used; `walked` tells whether the
descriptor was accepted, so that one was. -/
def MDesc.status (d : MDesc) (cause : Nat) (done walked : Bool) (rows : Nat) : Nat :=
  let back := if walked && d.backward then 2 ^ 9 + 2 ^ 10 else 0
  cause % 256 + (if done then 2 ^ 8 else 0) + back + (rows % 2 ^ 16) * 2 ^ 16

/-- A chunk: row, first column and number of bytes. -/
structure MChunk where
  row : Nat
  col : Nat
  n : Nat
deriving DecidableEq, Repr

/-- Greatest chunk of a descriptor with memory at both ends: a scratchpad line, else a bulk unit. -/
def MDesc.grain (d : MDesc) : Nat := if d.dstKind == mkSpm || (!d.isFill && d.srcKind == mkSpm) then 32 else 64

/-- A register is reached one word at a time (spec/10 R229). -/
def MDesc.words (d : MDesc) : Bool := d.dstKind == mkReg || (!d.isFill && d.srcKind == mkReg)

/-- The next chunk after `pos` bytes in the walk of R232 and R233, within one row: a register word, at most 512 bytes of a fabric
write (R230), else what reaches to the next boundary of the destination's grain. -/
def MDesc.chunkAt (d : MDesc) (pos : Nat) : MChunk :=
  let k := pos / d.width
  let done := pos % d.width
  let left := d.width - done
  if d.backward then
    let row := d.height - 1 - k
    let r := (d.dst + row * d.dstStride + left) % d.grain
    let n := min left (if d.words then 4 else if r == 0 then d.grain else r)
    ⟨row, left - n, n⟩
  else
    let r := (d.dst + k * d.dstStride + done) % d.grain
    ⟨k, done, min left (if d.words then 4 else if d.dstKind == mkFab then 512 else d.grain - r)⟩

/-- Slots of a rectangle on an SPM endpoint, ascending, each once (spec/10 R231). -/
def MDesc.slots (d : MDesc) (a stride : Nat) : List Nat :=
  (List.range d.height).foldl (fun acc r =>
    (slotsTouched (a % 2 ^ 22 + r * stride) d.width).foldl (fun acc s => insertAsc s acc) acc) []

/-! ### Flash rights -/

/-- Partitions of module flash: offset, size, Erg may read, Erg may write (spec/18 R446 Table 1). The write right of ERG_A and
ERG_B holds for the slot not booted. -/
def flashParts : List (Nat × Nat × Bool × Bool) := [
  (0x00000000, 0x00100000, false, false), (0x00100000, 0x01000000, false, false), (0x01100000, 0x01000000, false, false),
  (0x02100000, 0x00100000, true, false), (0x02200000, 0x00E00000, true, false), (0x03000000, 0x01000000, true, false),
  (0x04000000, 0x10000000, true, true), (0x14000000, 0x10000000, true, true), (0x24000000, 0x01000000, true, true),
  (0x25000000, 0x1F000000, true, true), (0x44000000, 0x3C000000, true, true), (0x80000000, 0x180000000, true, true),
  (0x200000000, 0x600000000, true, true)]

/-- A partition's number, offset and size. -/
def flashPart (k : Nat) : Nat × Nat := let p := nth flashParts k (0, 0, false, false); (p.1, p.2.1)

/-- The Erg slot that was booted: 0 A, 1 B (spec/18 R454 BOOT_STATUS). -/
def Blk.bootedSlot (b : Blk) : Nat := b.get SYS.BOOT_STATUS_ERG_SLOT

/-- Erg may make the access at a flash byte (spec/18 R446). -/
def Blk.flashByteOk (b : Blk) (a : Nat) (write : Bool) : Bool :=
  (List.range 13).any (fun k =>
    match flashParts[k]? with
    | some (o, n, r, w) =>
      o ≤ a && a < o + n && (if write then w && !((k == 6 || k == 7) && k == 6 + b.bootedSlot) else r)
    | none => false)

/-- Erg may make the access to [a, a + n): its first and last byte tell, no partition being shorter (spec/18 R446). -/
def Blk.flashOk (b : Blk) (a n : Nat) (write : Bool) : Bool :=
  n == 0 || (b.flashByteOk a write && b.flashByteOk (a + n - 1) write)

/-! ### Ends of a descriptor -/

/-- The number under which items of a queue pair stand whose mover descriptor has ended: they finish under their own window and
key, and nobody is told (spec/10, "When things fall together"). -/
def orphan : Nat := 9

/-- Items of a queue pair that belong to a channel no longer report to it, and its FINAL is not sent (spec/10, "When things
fall together"). -/
def Blk.orphanMover (b : Blk) (c : Nat) : Blk :=
  let qps := b.fab.qps.map (fun e =>
    let x : QpSt := e.2
    let queue := x.queue.map (fun i => match i with | .mover k w _ imm => if k == c then .mover orphan w false imm else i | _ => i)
    let jobs := x.jobs.map (fun j =>
      if j.from_ == .mover c then { j with from_ := .mover orphan, wr := { j.wr with final := false } } else j)
    (e.1, ({ x with queue := queue, jobs := jobs } : QpSt)))
  { b with fab := { b.fab with qps := qps } }

/-- The descriptor a channel runs, once fetched and accepted. -/
def Blk.moverDesc (b : Blk) (c : Nat) : MDesc := mDesc (b.moverCh c).desc

/-- Bytes of a running descriptor that stand at its destination: for a fabric one those its queue pair has seen acknowledged. -/
def Blk.moverMoved (b : Blk) (c : Nat) (d : MDesc) : Nat :=
  let x := b.moverCh c
  if d.dstKind != mkFab then x.pos
  else match x.fabEnd with
    | some e => e.2
    | none => (((b.qp d.qp).jobs.filter (fun j => j.from_ == .mover c)).map (fun j => j.acked)).foldl (· + ·) 0

/-- A descriptor's STATUS word is written (spec/10 R224, R226). -/
def Blk.putStatus (b : Blk) (c v : Nat) : Blk := b.bulkPost (moverCls c) (b.descAddr c + 60) (natLe 4 v)

/-- A channel gives up every access it waits with. -/
def Blk.endMoverWaits (b : Blk) (c : Nat) : Blk :=
  (b.each (List.range 16) (fun b t => b.clearUnitWaits t c 9)).endEngineWaits (moverCls c)

/-- The channel has done with descriptor HEAD. -/
def Blk.moverLeave (b : Blk) (c state : Nat) : Blk := (((b.endMoverWaits c).orphanMover c).setMover c noMover).setMstate c state

/-- A channel halts (spec/10 R226): on a descriptor refused or in progress, whose STATUS word is written, or with `none` on one
that could not be fetched. -/
def Blk.moverHalt (b : Blk) (c cause : Nat) (d : Option MDesc) : Blk :=
  let b := match d with
    | some d =>
      let walked := !(b.moverCh c).desc.isEmpty
      b.putStatus c (d.status cause false walked (if walked then d.rowsAt (b.moverMoved c d) else 0))
    | none => b
  let b := (b.moverLeave c msHalted).set (MOVER.CH_STATE_LAST_CAUSE c) cause
  (b.raise (hIrq Page.MOVER (8 + c))).captureOwnFree Page.MOVER cause

/-- A running descriptor ends with SOFT_RESET (spec/10 R245). -/
def Blk.moverStop (b : Blk) (c : Nat) : Blk :=
  if b.moverRuns c then
    let d := b.moverDesc c
    let b := b.putStatus c (d.status mcSoftReset false true (d.rowsAt (b.moverMoved c d)))
    (b.moverLeave c msIdle).set (MOVER.CH_STATE_LAST_CAUSE c) mcSoftReset
  else b

/-- A write of CH_CTRL (spec/10 R226, R245): ABORT, else SKIP, else RESUME (notes/assumptions/35). -/
def Blk.writeChCtrl (b : Blk) (c v : Nat) : Blk :=
  if bitAt v 2 then
    let b := b.moverStop c
    (b.setMstate c msIdle).set (MOVER.HEAD c) (b.get (MOVER.TAIL c) % b.ringSize c)
  else if b.mstate c != msHalted then b
  else if bitAt v 1 then
    let b := b.set (MOVER.HEAD c) ((b.get (MOVER.HEAD c) + 1) % b.ringSize c)
    (b.setMstate c msIdle).moverStart c
  else if bitAt v 0 then (b.setMstate c msIdle).moverStart c
  else b

/-- Soft reset of MOVER: every running descriptor ends with SOFT_RESET (spec/10 R245). -/
def Blk.moverSoftReset (b : Blk) : Blk :=
  { (b.each (List.range 8) Blk.moverStop) with mover := List.replicate 8 noMover }

/-- A descriptor completes (spec/10 R224, R231, R245). -/
def Blk.moverDone (b : Blk) (c : Nat) (d : MDesc) : Blk :=
  let b := b.when (!d.isFill && d.srcKind == mkSpm && bitAt d.srcTag 1) (fun b =>
    b.setTags (bitsAt d.src 48 4) (d.slots d.src d.srcStride) false)
  let b := b.when (d.dstKind == mkSpm && bitAt d.dstTag 1) (fun b =>
    b.setTags (bitsAt d.dst 48 4) (d.slots d.dst d.dstStride) true)
  let b := b.putStatus c (d.status 0 true true d.height)
  let b := b.set (MOVER.CH_LAST_USER c) d.user
  let b := b.when (bitAt d.flags 0) (fun b => b.raise (hIrq Page.MOVER c))
  let b := b.set (MOVER.HEAD c) ((b.get (MOVER.HEAD c) + 1) % b.ringSize c)
  (b.moverLeave c msIdle).moverStart c

end Sys2Proof.Machine
end

