-- ==== Sys2Proof/Machine/Journal.lean ====
section
/-! DEFINITION. Machine/Journal.lean: accepted work: requests, the journal, recovery and fostering (spec/15 R389 to R397). -/

namespace Sys2Proof.Machine

def jcMirrorFail : Nat := 0x01
def jcFull : Nat := 0x02
def jcFlashErr : Nat := 0x03

/-! ### Entries (spec/15 R392, R393) -/

def jFree : Nat := 0
def jAccepted : Nat := 1
def jCommitted : Nat := 2

def noEntry : JEntry := ⟨0, 0, 0, 0, 0, [], 0, 0, [], ⟨0, 0⟩, ⟨0, 0⟩, 0, 0, false, 0⟩
def Blk.jent (b : Blk) (e : Nat) : JEntry := Tbl.get (dflt noEntry) b.journal.entries e
def Blk.setJent (b : Blk) (e : Nat) (x : JEntry) : Blk :=
  { b with journal := { b.journal with entries := Tbl.put (dflt noEntry) b.journal.entries e x } }
def Blk.ward (b : Blk) (e : Nat) : JEntry := Tbl.get (dflt noEntry) b.journal.ward e
def Blk.setWard (b : Blk) (e : Nat) (x : JEntry) : Blk :=
  { b with journal := { b.journal with ward := Tbl.put (dflt noEntry) b.journal.ward e x } }

/-- FREE, and no acceptance in progress. -/
def JEntry.isFree (x : JEntry) : Bool := x.state == jFree && x.stage == 0

def jBodyOff (e : Nat) : Nat := 262144 + 2112 * e
def jItemOff (e : Nat) : Nat := 262144 + 8650752 + 16512 * e
def jArea : Nat := 76554240

/-- The 64 bytes of an entry (spec/15 Table 12). -/
def JEntry.bytes (x : JEntry) (index : Nat) : List Byte :=
  let head := natLe 1 x.state ++ natLe 1 x.client ++ natLe 1 x.kind ++ natLe 1 x.origin ++ natLe 2 x.era ++ natLe 2 x.body.length ++
    natLe 8 x.reqSeq ++ natLe 8 x.recSeq ++ natLe 4 x.item.length ++ natLe 8 (coordNat x.accept) ++ natLe 8 (coordNat x.commit) ++
    natLe 2 index ++ natLe 14 0
  head ++ natLe 4 (crc32c head).toNat

/-- The entry that 64 bytes spell, its body and item read by `read`; `none` when its CRC fails or it is FREE. -/
def jentOfBytes (d body item : List Byte) : Option JEntry :=
  if leAt d 60 4 == (crc32c (d.take 60)).toNat && (leAt d 0 1 == 1 || leAt d 0 1 == 2) then
    some { state := leAt d 0 1, client := leAt d 1 1 % 64, kind := leAt d 2 1, origin := leAt d 3 1, era := leAt d 4 2
           body := body.take (leAt d 6 2), reqSeq := leAt d 8 8, recSeq := leAt d 16 8, item := item.take (leAt d 24 4)
           accept := coordOfNat (leAt d 28 8), commit := coordOfNat (leAt d 36 8), stage := 0, since := 0, asked := false
           arrived := 0 }
  else none

/-- JOURNAL makes transitions. -/
def Blk.journalOn (b : Blk) : Bool := b.active Page.JOURNAL && b.flag JOURNAL.J_CTRL_EN

def Blk.jBase (b : Blk) : Nat := b.get JOURNAL.J_BASE_LO + 2 ^ 32 * b.get JOURNAL.J_BASE_HI
def Blk.wardBase (b : Blk) : Nat := b.get JOURNAL.WARD_BASE_LO + 2 ^ 32 * b.get JOURNAL.WARD_BASE_HI
def Blk.flashBase (b : Blk) : Nat := b.get JOURNAL.FLASH_BASE_LO + 2 ^ 32 * b.get JOURNAL.FLASH_BASE_HI

/-- What a transition of an entry writes, in order: body, completion item, entry (spec/15 R394). -/
def JEntry.pieces (x : JEntry) (e : Nat) : List (Nat × List Byte) :=
  let padded := x.body ++ List.replicate ((4 - x.body.length % 4) % 4) 0
  (if x.state == jAccepted then [(jBodyOff e, padded)] else []) ++ (if x.item.isEmpty then [] else [(jItemOff e, x.item)]) ++
    [(64 * e, x.bytes e)]

/-- All that the journal area holds of an entry, as the transition on its way leaves it. -/
def JEntry.whole (x : JEntry) (e : Nat) : List (Nat × List Byte) :=
  let x := if x.stage == 0 then x else { x with state := if x.state == jFree then jAccepted else jCommitted }
  [(jBodyOff e, x.body), (jItemOff e, x.item), (64 * e, x.bytes e)].filter (fun p => !p.2.isEmpty)

/-- The same bytes in the node's own journal area. -/
def Blk.writeLocal (b : Blk) (ps : List (Nat × List Byte)) : Blk :=
  b.each ps (fun b p => b.bulkPost 1 (b.jBase + p.1) p.2)

def Blk.buddyQp (b : Blk) : Nat := b.get JOURNAL.BUDDY_QP

/-- One mirror WRITE (spec/15 R394): the buddy's mirror lies at this node's WARD_BASE (notes/assumptions/40). -/
def Blk.mirrorWr (b : Blk) (off len : Nat) (last : Bool) : List Byte :=
  natLe 1 0 ++ natLe 1 (if last then 3 else 0) ++ natLe 2 (b.get JOURNAL.BUDDY_WIN) ++ natLe 4 len ++
  natLe 8 (2 ^ 52 + b.jBase + off) ++ natLe 8 (b.get JOURNAL.BUDDY_NODE * 2 ^ 56 + 2 ^ 52 + b.wardBase + off) ++
  natLe 4 (b.get JOURNAL.MIRROR_KEY) ++ natLe 4 0

/-- The mirror work requests of a transition, as far as the send queue has room. -/
def Blk.writeMirror (b : Blk) (ps : List (Nat × List Byte)) : Blk :=
  let n := ps.length
  b.each (List.range n) (fun b i =>
    let p := nth ps i (0, [])
    if b.sqFull b.buddyQp then b else b.appendWr b.buddyQp (b.mirrorWr p.1 p.2.length (i + 1 == n)))

/-- Erg's rights let the journal write the bytes to module flash (spec/18 R446). -/
def Blk.jFlashOk (b : Blk) (p : Nat × List Byte) : Bool := b.flashOk (b.flashBase + p.1) p.2.length true

/-- The same bytes in the journal partition of module flash; a piece outside Erg's rights is not written. -/
def Blk.writeJFlash (b : Blk) (ps : List (Nat × List Byte)) : Blk :=
  (ps.filter b.jFlashOk).foldl (fun b p => b.flashPut (b.flashBase + p.1) p.2) b

/-- What the context table holds of a context (spec/15 R393): configuration, ERA, last accepted request seq, item COUNT. -/
def Blk.tableEntry (b : Blk) (k : Nat) : List Nat :=
  (List.range 10).map (b.clWord k) ++ [(b.cl k).era, (b.cl k).lastReq, (b.cl k).count]

def jTableOff (k : Nat) : Nat := 262144 + 8650752 + 67633152 + 128 * k

/-- The context table is mirrored on each change (spec/15 R393, R394): the slot is written and sent to the buddy, or to flash. The
spec gives its 128 bytes no layout: they are free (notes/assumptions/40). -/
def Blk.mirrorTable (b : Blk) : Blk :=
  if !b.journalOn || b.flag JOURNAL.J_CTRL_RECOVERING then b
  else
    b.each ((List.range 64).filter (fun k => Tbl.get (dflt (List.replicate 13 0)) b.client.mirrored k != b.tableEntry k)) (fun b k =>
      let t := Tbl.put (dflt (List.replicate 13 0)) b.client.mirrored k (b.tableEntry k)
      let (v, b) := ({ b with client := { b.client with mirrored := t } } : Blk).free 1024
      let b := b.writeLocal [(jTableOff k, natLe 128 v)]
      if b.flashMode then b.writeJFlash [(jTableOff k, natLe 128 v)]
      else if b.qstate b.buddyQp == qsReady && !b.sqFull b.buddyQp then
        b.appendWr b.buddyQp (b.mirrorWr (jTableOff k) 128 false)
      else b)

/-- Flash mode begins (spec/15 R394). -/
def Blk.mirrorFail (b : Blk) : Blk :=
  let b := ((b.bumpSat JOURNAL.MIRROR_FAILS).raise JOURNAL.IRQ_RAW_MIRROR_FAIL).captureOwnFree Page.JOURNAL jcMirrorFail
  ((b.conf JOURNAL.J_CTRL_MODE 1).markChanged Page.JOURNAL).healthChanged

/-- A transition's bytes are on their way: its state as it will be is `x`, the entry itself keeps `keep` (spec/15 R394). -/
def Blk.beginStage (b : Blk) (e : Nat) (x : JEntry) (keep : Nat) : Blk :=
  let ps := x.pieces e
  let b := b.writeLocal ps
  let flash := fun (b : Blk) => b.setJent e { x with state := keep, stage := 2, since := b.ep.line }
  if b.flashMode then flash b
  else if b.qstate b.buddyQp != qsReady then flash b.mirrorFail
  else (b.setJent e { x with state := keep, stage := 1, since := b.ep.line }).writeMirror ps

/-- HEAD advances past FREE entries (spec/15 R392). -/
def Blk.ringHead (b : Blk) : Blk :=
  b.each (List.range 4096) (fun b _ =>
    let h := b.get JOURNAL.RING_HEAD
    if h != b.get JOURNAL.RING_TAIL && (b.jent h).isFree then b.set JOURNAL.RING_HEAD (h + 1) else b)

/-- Pages of the node's own journal area that are mapped to a spare and still hold a poisoned unit. -/
def Blk.journalHoles (b : Blk) : List Nat :=
  let pages := (b.bulk.poison.map (fun e => e.1 / 64)).eraseDups
  pages.filter (fun p => b.jBase ≤ p * 4096 + 4095 && p * 4096 < b.jBase + jArea && (b.bpage p).spare.isSome && !b.pageHeld p)

/-- A retired page of the own journal area is reloaded from the buddy's mirror (spec/15 R397): the entries that are not FREE as they
were mirrored; the rest of what the mirror's page holds is the buddy's, a free value here (notes/assumptions/40). -/
def Blk.reloadJournalPage (b : Blk) (page : Nat) : Blk :=
  let (v, b) := b.free 32768
  let b := b.bulkPost 1 (page * 4096) (natLe 4096 v)
  let inPage : Nat × List Byte → Bool := fun p => b.jBase + p.1 < page * 4096 + 4096 && page * 4096 < b.jBase + p.1 + p.2.length
  b.each (b.journal.entries.filter (fun e => !e.2.isFree)) (fun b e => b.writeLocal ((e.2.whole e.1).filter inPage))

/-- Erg reloads them while the mirror is in use, before the pages are next used (spec/15 R397). -/
def Blk.reloadJournal (b : Blk) : Blk :=
  if !b.journalOn || b.flashMode || b.qstate b.buddyQp != qsReady then b
  else b.each b.journalHoles Blk.reloadJournalPage

/-! ### Acceptance (spec/15 R389, R391) -/

/-- KIND issued and its parameters well formed (spec/15 Table 10). -/
def requestOk (p : List Byte) : Bool :=
  let n := p.length
  let byte := fun i => leAt p i 1
  4 ≤ n && n ≤ 2080 && leAt p 1 3 == 0 &&
  (match byte 0 with
   | 1 => 44 ≤ n && (n - 12) % 32 == 0 && byte 8 < 2 && byte 9 == 0
   | 2 => n == 16 && byte 4 < 32 && leAt p 5 3 == 0 && leAt p 8 8 < 2 ^ 36
   | 3 => n == 16 && byte 4 < 2 && leAt p 5 3 == 0
   | 4 => n == 44 && 1 ≤ byte 4 && byte 4 ≤ 63 && byte 5 < 2 && byte 6 < 64 && byte 7 < 32 && leAt p 8 8 < 2 ^ 36 && byte 16 < 2 &&
      byte 17 < 2
   | 5 => n == 12 && leAt p 5 7 == 0
   | 6 => 8 ≤ n && n ≤ 72 && leAt p 5 3 == 0
   | 7 => n == 4
   | _ => false)

/-- The permissions a request needs (spec/15 R376 Table 4, Table 10). -/
def requestNeeds (p : List Byte) : Nat :=
  match leAt p 0 1 with
  | 1 => 4
  | 2 => let s := leAt p 4 1; (if bitAt s 0 || bitAt s 1 || bitAt s 3 then 1 else 0) + (if bitAt s 2 then 2 else 0)
  | 3 => 16
  | 4 => 8
  | 5 => 8
  | 6 => 32
  | _ => 0

/-- Refusal NO_SERVICE (spec/15 Table 11, spec/16 R415). -/
def Blk.noService (b : Blk) : Bool :=
  let js := b.get SCHED.JOIN_CTRL_JSTATE
  !b.journalOn || !(js == 3 || ((js == 0 || js == 5) && b.planRuns)) || b.sched.silent || b.flag JOURNAL.J_CTRL_RECOVERING || b.inMaintenance ||
    b.flag OASIS.STATUS_POWER_FAIL

/-- Entries of a context that are not FREE. -/
def Blk.entriesOfCtx (b : Blk) (k : Nat) : List (Nat × JEntry) :=
  b.journal.entries.filter (fun e => e.2.client == k && !e.2.isFree)

/-- The highest request seq accepted or being accepted. -/
def Blk.topSeq (b : Blk) (k : Nat) : Nat := (b.entriesOfCtx k).foldl (fun a e => max a e.2.reqSeq) (b.cl k).lastReq

/-- REFUSE (spec/15 Table 3). -/
def Blk.refuse (b : Blk) (k seq code : Nat) : Blk :=
  b.icpSend k 0x83 seq (natLe 1 code ++ natLe 7 0 ++ natLe 8 (b.topSeq k + 1))

/-- A fresh ACCEPT with the original coordinate; one no longer known is a free value (notes/assumptions/40). -/
def Blk.acceptAgain (b : Blk) (k seq : Nat) : Blk :=
  match b.journal.coords.find? (fun c => c.1 == k && c.2.1 == seq) with
  | some c => b.icpSend k 0x82 seq (natLe 8 (coordNat c.2.2))
  | none => let (v, b) := b.free 64; b.icpSend k 0x82 seq (natLe 8 v)

/-- The token bucket of a context now: what is missing to its depth, in 1/300,000 token (spec/15 R378). -/
def Blk.tokenDebt (b : Blk) (k : Nat) : Nat :=
  (b.cl k).tokens - bitsAt (b.clWord k 8) 0 16 * b.linesSince (b.cl k).tokAt

/-- A token is available. -/
def Blk.hasToken (b : Blk) (k : Nat) : Bool := b.tokenDebt k + 300000 ≤ bitsAt (b.clWord k 8) 16 8 * 300000

/-- A request passes R391: its entry at TAIL is written and mirrored (spec/15 Table 13). -/
def Blk.journalRequest (b : Blk) (k seq : Nat) (p : List Byte) : Blk :=
  let e := b.get JOURNAL.RING_TAIL
  let b := b.setCl k { b.cl k with tokens := b.tokenDebt k + 300000, tokAt := b.ep.line }
  let b := b.set JOURNAL.RING_TAIL (e + 1)
  let x : JEntry := { noEntry with
    state := jAccepted, client := k, kind := leAt p 0 1, origin := b.get XROUTE.NODE_ID, era := (b.cl k).era, body := p, reqSeq := seq
    accept := b.now, arrived := b.ep.line }
  b.beginStage e x jFree

/-- A whole REQUEST of a context, checked in the order of Table 11 (spec/15 R389, R391). -/
def Blk.request (b : Blk) (k seq : Nat) (p : List Byte) : Blk :=
  if b.noService then b.refuse k seq 6
  else if 64 ≤ k then b.refuse k seq 7
  else if seq == 0 then b.refuse k seq 3
  else if seq ≤ (b.cl k).lastReq then b.acceptAgain k seq
  else if seq ≤ b.topSeq k then b
  else if b.topSeq k + 1 < seq then b.refuse k seq 2
  else if !requestOk p then b.refuse k seq 3
  else if requestNeeds p &&& b.permOf k != requestNeeds p then b.refuse k seq 1
  else if !b.hasToken k then b.refuse k seq 5
  else if b.get JOURNAL.JMAX ≤ (b.entriesOfCtx k).length || !(b.jent (b.get JOURNAL.RING_TAIL)).isFree then
    (((b.bumpSat JOURNAL.REFUSED_FULL).raise JOURNAL.IRQ_RAW_FULL).captureOwnFree Page.JOURNAL jcFull).refuse k seq 4
  else b.journalRequest k seq p

/-- The acceptance coordinate of an entry is kept for a fresh ACCEPT (spec/15 R389). -/
def Blk.keepCoord (b : Blk) (x : JEntry) : Blk :=
  { b with journal := { b.journal with coords := b.journal.coords ++ [(x.client, x.reqSeq, x.accept)] } }

/-- ACCEPTED: the client is told (spec/15 R389, R394). -/
def Blk.acceptDone (b : Blk) (e : Nat) : Blk :=
  let x := b.jent e
  let k := x.client
  let b := b.setJent e { x with state := jAccepted, stage := 0 }
  let b := (b.setCl k { b.cl k with lastReq := max (b.cl k).lastReq x.reqSeq }).keepCoord x
  let b := (b.bumpSat JOURNAL.ACCEPTS).raise JOURNAL.IRQ_RAW_ACCEPTED
  let b := b.conf JOURNAL.ACCEPT_MAX (max (b.get JOURNAL.ACCEPT_MAX) (min 65535 (b.linesSince x.arrived)))
  b.icpSend k 0x82 x.reqSeq (natLe 8 (coordNat x.accept))

/-! ### Commit (spec/15 R392) -/

/-- Every earlier entry of the context is COMMITTED or FREE. -/
def Blk.commitTurn (b : Blk) (x : JEntry) : Bool :=
  (b.entriesOfCtx x.client).all (fun e => x.reqSeq ≤ e.2.reqSeq || e.2.state == jCommitted)

/-- A completion item (spec/15 Tables 5, 6 and 9). -/
def Blk.completionItem (b : Blk) (x : JEntry) (status : Nat) (body : List Byte) : List Byte :=
  b.itemBytes 16 0xFF b.now (natLe 8 x.reqSeq ++ natLe 1 x.kind ++ natLe 1 status ++ natLe 2 0 ++ natLe 4 body.length ++
    natLe 8 (coordNat x.accept) ++ body ++ List.replicate (pad8 body.length - body.length) 0)

/-- A completion that CLIENT may append: a COMPLETION item as R382 checks it (spec/15 R382, spec/01 R21). -/
def itemFits (k : Nat) (item : List Byte) : Bool := itemType item == 16 && !itemShapeBad ⟨some k, item⟩

/-- An asked commit begins when its turn has come: the item is checked, takes the next item seq and is held until the entry is
mirrored; one that CLIENT refuses leaves the entry ACCEPTED (notes/assumptions/86). -/
def Blk.startCommit (b : Blk) (e : Nat) : Blk :=
  let x := b.jent e
  if !(b.journalOn && x.asked && x.state == jAccepted && x.stage == 0 && b.commitTurn x) then b
  else
    let b := b.reloadJournal
    let (c, h, b) := b.bulkRead 1 (b.jBase + jItemOff e) 16
    let (c, item, b) := if c == 0 then b.bulkRead 1 (b.jBase + jItemOff e) (min 16512 (leAt h 2 2 * 8)) else (c, [], b)
    let k := x.client
    if c != 0 then b
    else if !itemFits k item then (b.setJent e { x with asked := false }).itemRefused
    else
      let x := { x with state := jCommitted, recSeq := (b.cl k).nextSeq, item := item, commit := b.now, asked := false }
      (b.appendItem k item true true).beginStage e x jAccepted

/-- JOURNAL_COMMIT (spec/15 Table 13): a write of COMMIT. -/
def Blk.commitEntry (b : Blk) (e : Nat) : Blk :=
  let x := b.jent e
  if x.state == jAccepted && x.stage == 0 then (b.setJent e { x with asked := true }).startCommit e else b

/-- Entries of a context that wait for their turn, the oldest request first. -/
def Blk.askedOf (b : Blk) (k : Nat) : List Nat :=
  ((b.entriesOfCtx k).filter (fun e => e.2.asked && e.2.stage == 0)).map (fun e => e.1)

/-- COMMITTED: the item goes out; a later commit that waited may begin. -/
def Blk.commitDone (b : Blk) (e : Nat) : Blk :=
  let x := b.jent e
  let k := x.client
  let b := (b.setJent e { x with state := jCommitted, stage := 0 }).raise JOURNAL.IRQ_RAW_COMMITTED
  let b := b.setCl k { b.cl k with buf := (b.cl k).buf.map (fun i => if i.seq == x.recSeq then { i with held := false } else i) }
  (b.pump k).each (b.askedOf k) (fun b e => b.startCommit e)

/-- What the stage in progress was for is done. -/
def Blk.stageDone (b : Blk) (e : Nat) : Blk := if (b.jent e).state == jFree then b.acceptDone e else b.commitDone e

/-- JOURNAL_MIRROR_DONE (spec/15 R394). -/
def Blk.mirrorDone (b : Blk) (e : Nat) : Blk :=
  if b.powered Page.JOURNAL && (b.jent e).stage == 1 then b.stageDone e else b

/-- MIRROR_TIMEOUT (spec/15 R394): MIRROR_T has passed, or the queue pair has erred: flash mode for every entry on its way. -/
def Blk.mirrorTimeout (b : Blk) (e : Nat) : Blk :=
  let x := b.jent e
  if b.powered Page.JOURNAL && x.stage == 1 && (b.get JOURNAL.MIRROR_T ≤ b.linesSince x.since || b.qstate b.buddyQp == qsError) then
    let b := b.mirrorFail
    let late := b.journal.entries.filter (fun y => y.2.stage == 1)
    b.each (late.map (fun y => y.1)) (fun b i => b.setJent i { b.jent i with stage := 2, since := b.ep.line })
  else b

/-- JOURNAL_FLASH_DONE (spec/15 R394): the flash write ends, or fails, as one outside Erg's rights does (spec/18 R446). -/
def Blk.journalFlashDone (b : Blk) (e : Nat) (flashErr : Bool) : Blk :=
  let x := b.jent e
  let target := { x with state := if x.state == jFree then jAccepted else jCommitted }
  if !(b.powered Page.JOURNAL && x.stage == 2) then b
  else if flashErr || !(target.pieces e).all b.jFlashOk then b.captureOwnFree Page.JOURNAL jcFlashErr
  else
    (b.writeJFlash (target.pieces e)).stageDone e

/-- A write of J_CTRL (spec/15 R394, R395); a MODE that changes shows in HEALTH. -/
def Blk.writeJCtrl (b : Blk) (v : Word) : Blk := (b.storeKey (regKey Page.JOURNAL 0x040) v).healthChanged

/-- An entry whose completion is acknowledged becomes FREE; the freeing is mirrored (spec/15 Table 13). -/
def Blk.freeEntry (b : Blk) (e : Nat) : Blk :=
  let x := { b.jent e with state := jFree, body := [], item := [] }
  let ps := [(64 * e, x.bytes e)]
  let b := (b.writeLocal ps).setJent e noEntry
  let b := if b.flashMode then b.writeJFlash ps else if b.qstate b.buddyQp == qsReady then b.writeMirror ps else b
  b.ringHead

/-- ICP_ACK (spec/15 R374, R392): the items it names are freed, and their journal entries. -/
def Blk.icpAck (b : Blk) (m : IcpMsg) : Blk :=
  if !b.icpTakes m then b
  else match b.ctxNamed m with
    | none => b.unbound
    | some k =>
      if !b.bound k m then b.unbound
      else
        let seqs := ((b.cl k).buf.filter (fun i => i.sent && ackNames m i.seq)).map (fun i => i.seq)
        let done : JEntry → Bool := fun x => x.state == jCommitted && seqs.contains x.recSeq && x.client == k % 64
        let b := b.ackFree k m
        if k < 64 then b.each ((b.journal.entries.filter (fun e => done e.2)).map (fun e => e.1)) Blk.freeEntry
        else b.each ((b.journal.ward.filter (fun e => done e.2)).map (fun e => e.1)) (fun b e => b.setWard e noEntry)

/-! ### Recovery (spec/15 R395) -/

/-- RECOVERING sets after a reset, a power-up or a wake: the journal starts empty. -/
def Blk.journalReset (b : Blk) : Blk :=
  { (b.conf JOURNAL.J_CTRL_RECOVERING 1) with journal := ⟨[], [], [], none, [], false⟩ }

/-- A recovered entry. -/
def recEntry (r : JRecord) (origin : Nat) : JEntry :=
  { noEntry with
    state := if r.committed then jCommitted else jAccepted, client := r.client % 64, kind := r.kind, origin := origin, era := r.era
    body := r.body, reqSeq := r.reqSeq, recSeq := r.recSeq, item := r.item, accept := r.accept, commit := r.commit }

/-- A context taken up again with the next ERA (spec/15 R373, R395). -/
def Blk.resumeCtx (b : Blk) (c : CtxRecord) : Blk :=
  let k := c.client % 64
  b.setCl k { b.cl k with era := (c.era + 1) % 65536, count := 0, lastReq := c.lastReq }

/-- JOURNAL_RECOVERY (spec/15 R395): the entries Erg has merged, in acceptance order, and the context table. -/
def Blk.journalRecover (b : Blk) (recs : List JRecord) (ctxs : List CtxRecord) : Blk :=
  if !b.powered Page.JOURNAL || !b.flag JOURNAL.J_CTRL_RECOVERING then b
  else
    let b := ctxs.foldl (fun b c => b.resumeCtx c) b
    let b := recs.foldl (fun b r =>
      let x := recEntry r (b.get XROUTE.NODE_ID)
      let b := ((b.setJent (r.index % 4096) x).writeLocal (x.pieces (r.index % 4096))).keepCoord x
      if !r.committed then b
      else if !itemFits x.client r.item then b.itemRefused
      else
        let c := b.cl x.client
        b.setCl x.client { c with buf := c.buf ++ [⟨r.recSeq, r.item, true, false, false⟩] }) b
    let b := b.set JOURNAL.RING_HEAD ((recs.head?.map (fun r => r.index)).getD 0)
    let b := b.set JOURNAL.RING_TAIL ((recs.getLast?.map (fun r => r.index + 1)).getD 0)
    ((b.conf JOURNAL.J_CTRL_RECOVERING 0).markChanged Page.JOURNAL).healthChanged

/-! ### Fostering (spec/15 R396) -/

/-- The window of the ward's mirror: enabled, over bulk memory, from WARD_BASE. -/
def Blk.mirrorWindow (b : Blk) (w : Nat) : Bool :=
  b.flag (XQP.WIN1_EN w) && b.get (XQP.WIN1_SPACE w) == 1 &&
    b.get (XQP.WIN0_BASE_LO w) + 2 ^ 32 * b.get (XQP.WIN1_BASE_HI w) == b.wardBase

/-- The ward's entries as its mirror holds them. -/
def Blk.readWard (b : Blk) : Blk :=
  b.each (List.range 4096) (fun b e =>
    let base := b.wardBase
    let (c, d, b) := b.bulkRead 1 (base + 64 * e) 64
    if c != 0 || leAt d 0 1 == 0 then b
    else
      let (c1, body, b) := b.bulkRead 1 (base + jBodyOff e) (min 2112 (leAt d 6 2))
      let (c2, item, b) := b.bulkRead 1 (base + jItemOff e) (min 16512 (leAt d 24 4))
      match if c1 == 0 && c2 == 0 then jentOfBytes d body item else none with
      | some x => b.setWard e x
      | none => b)

/-- COMMITTED items of a fostered context, the oldest item seq first. -/
def Blk.wardItems (b : Blk) (client : Nat) : List ClItem :=
  let xs := (b.journal.ward.filter (fun e =>
    e.2.client == client && e.2.state == jCommitted && itemFits e.2.client e.2.item)).map (fun e => e.2)
  (xs.mergeSort (fun a c => a.recSeq ≤ c.recSeq)).map (fun x => ⟨x.recSeq, x.item, true, false, false⟩)

/-- A foster context opens (spec/15 R396): one HEALTH, one SECTOR_BLIND, then the COMMITTED items. -/
def Blk.openFoster (b : Blk) (c : CtxRecord) : Blk :=
  let k := 64 + c.client % 64
  let b := b.setCl k { noClient with
    state := csFoster, era := (c.era + 1) % 65536, lastReq := c.lastReq, origin := b.get JOURNAL.WARD, words := c.words }
  let b := (b.appendItem k b.healthItem false false).appendItem k (b.blindItem 0xFF) false false
  let bad := b.journal.ward.filter (fun e =>
    e.2.client == c.client % 64 && e.2.state == jCommitted && !itemFits e.2.client e.2.item)
  let b := b.each (List.range bad.length) (fun b _ => b.itemRefused)
  let x := b.cl k
  (b.setCl k { x with buf := x.buf ++ b.wardItems (c.client % 64) }).pump k

/-- FOSTER_START (spec/15 R396): the ward is lost; its mirror window closes and its enabled contexts open here. -/
def Blk.fosterStart (b : Blk) (ctxs : List CtxRecord) : Blk :=
  if !b.powered Page.JOURNAL || b.get JOURNAL.WARD == 0xFF || b.journal.fosterOf.isSome then b
  else
    let b := b.each ((List.range 1024).filter b.mirrorWindow) (fun b w => b.conf (XQP.WIN1_EN w) 0)
    let b := { b with journal := { b.journal with fosterOf := some (b.get JOURNAL.WARD), ward := [] } }
    let b := b.readWard
    (ctxs.filter (fun c => bitAt (nth c.words 0 0) 0)).foldl (fun b c => b.openFoster c) b

/-- Contexts this node fosters. -/
def Blk.fosterCtxs (b : Blk) : List Nat := (b.client.ctxs.map (fun e => e.1)).filter (fun k => (b.cl k).state == csFoster)

/-- A fostered entry commits (spec/15 R396): the completion joins its foster context; `asked` in the order of acceptance. -/
def Blk.commitWard (b : Blk) (e status : Nat) (body : List Byte) : Blk :=
  let x := b.ward e
  let earlier := b.journal.ward.any (fun y => y.2.client == x.client && y.2.state == jAccepted && y.2.reqSeq < x.reqSeq)
  if x.state != jAccepted || earlier then b
  else
    let k := 64 + x.client
    let item := b.completionItem x status body
    let x := { x with state := jCommitted, recSeq := (b.cl k).nextSeq, item := item, commit := b.now }
    let b := (b.setWard e x).appendItem k item true false
    b.each (x.pieces e) (fun b p => b.bulkPost 1 (b.wardBase + p.1) p.2)

/-- FOSTER_END (spec/15 R396): every entry of the ward is FREE (CLOSED reason 3), or its RESTORE takes effect (reason 4). -/
def Blk.fosterEnd (b : Blk) (restored : Bool) : Blk :=
  if b.journal.fosterOf.isNone || (!restored && !b.journal.ward.isEmpty) then b
  else
    let b := b.each b.fosterCtxs (fun b k => (b.sendClosed k (if restored then 4 else 3)).setCl k noClient)
    { b with journal := { b.journal with fosterOf := none, ward := [] } }

/-- The page lies in the ward's mirror. -/
def Blk.inMirror (b : Blk) (page : Nat) : Bool :=
  b.wardBase ≤ page * 4096 + 4095 && page * 4096 < b.wardBase + jArea && b.get JOURNAL.WARD != 0xFF

/-- WARD_DAMAGED (spec/15 R397): a retired page of the mirror; a resync request to the ward, whose contents the spec does not
state (notes/assumptions/40). -/
def Blk.wardDamaged (b : Blk) (page : Nat) : Blk :=
  if !(b.powered Page.JOURNAL && b.inMirror page && (b.bpage page).spare.isSome) then b
  else
    let b := { (b.raise JOURNAL.IRQ_RAW_WARD_DAMAGED) with journal := { b.journal with damaged := true } }
    let toWard : Nat → Bool := fun q =>
      b.qstate q == qsReady && b.get (XQP.QCTX0_CLASS q) == 3 && b.get (XQP.QCTX0_PEER_NODE q) == b.get JOURNAL.WARD
    match (List.range 256).find? toWard with
    | some q =>
      if b.sqFull q then b
      else
        let (v, b) := b.free 32
        b.appendWr q (natLe 1 1 ++ natLe 1 0 ++ natLe 2 0 ++ natLe 4 0 ++ natLe 8 0 ++ natLe 8 (b.get JOURNAL.WARD * 2 ^ 56) ++ natLe 4 0 ++
          natLe 4 v)
    | none => b

/-- J_STATUS as it reads (spec/15 R401). -/
def Blk.jStatus (b : Blk) : Word :=
  BitVec.ofNat 32 (bitNat b.flashMode + 2 * b.get JOURNAL.J_CTRL_RECOVERING + 4 * bitNat b.journal.fosterOf.isSome +
    8 * bitNat b.journal.damaged + 256 * b.journal.fosterOf.getD 0)

end Sys2Proof.Machine
end

