-- ==== Sys2Proof/Machine/HostPorts.lean ====
section
/-! DEFINITION. Machine/HostPorts.lean: the host MACs and the CAN controllers (spec/15 R366 to R369, R398, R399). -/

namespace Sys2Proof.Machine

/-! ### Ethernet (spec/15 R366, R367, R398) -/

def hpLinkDown : Nat := 0x01
def hpOverrun : Nat := 0x02

def noMac : MacSt := ⟨0⟩
def Blk.mac (b : Blk) (m : Nat) : MacSt := nth b.macs m noMac

/-- A PTP time shifted by nanoseconds. -/
def ptpShift (t : PtpTime) (ns : Int) : PtpTime :=
  let total : Int := (t.sec : Int) * 1000000000 + t.nsec + ns
  ⟨(total / 1000000000).toNat, (total % 1000000000).toNat⟩

/-- What a MAC's PTP clock reads when it would read `t` had it not been stepped (spec/15 R367, notes/assumptions/41). -/
def Blk.ptpClock (b : Blk) (m : Nat) (t : PtpTime) : PtpTime := ptpShift t (b.mac m).step

/-- The MAC takes frames. -/
def Blk.macTakes (b : Blk) (m : Nat) : Bool :=
  m < 2 && b.active (Page.HOST + m) && b.flag (HOST.MAC_CTRL_RX_EN m) && b.flag (HOST.STATUS_LINK m) && b.get (HOST.MAC_CTRL_SPEED m) != 3

/-- An address of the MAC (spec/15 R366). -/
def Blk.macAddress (b : Blk) (m : Nat) (a : HostAddr) : Bool :=
  if a.ipv6 then
    a.addr == (List.range 4).map (fun i => b.get (HOST.IP6_LL m i)) || a.addr == (List.range 4).map (fun i => b.get (HOST.IP6_G m i))
  else a.addr == [b.get (HOST.IP4 m)]

/-- The 10-byte timestamp of a received message. -/
def ptpBytes (t : PtpTime) : List Byte := natLe 6 t.sec ++ natLe 4 t.nsec

/-- A PTP message goes to Erg's receive ring; at a full ring it is dropped (spec/15 R398 RXR_TAIL). -/
def Blk.ptpReceive (b : Blk) (m : Nat) (msg : List Byte) (t : PtpTime) : Blk :=
  let tail := b.get (HOST.RXR_TAIL m)
  if !b.flag (HOST.PTP_CTRL_EN m) then b.bumpSat (HOST.RX_DROP m)
  else if (tail + 1) % 64 == b.get (HOST.RXR_HEAD m) then
    (b.raise (HOST.IRQ_RAW_RX_OVERRUN m)).captureOwnFree (Page.HOST + m) hpOverrun
  else
    let slot := (msg.take 240) ++ List.replicate (240 - (msg.take 240).length) 0 ++ ptpBytes (b.ptpClock m t) ++ List.replicate 6 0
    let b := b.bulkPost 1 (b.get (HOST.RXR_BASE_LO m) + 2 ^ 32 * b.get (HOST.RXR_BASE_HI m) + 256 * tail) slot
    (b.set (HOST.RXR_TAIL m) (tail + 1)).raise (HOST.IRQ_RAW_PTP_RX m)

/-- A frame that is no ICP (spec/15 R367): answered by the responder, a PTP message, counted, or discarded. -/
def Blk.etherOther (b : Blk) (m : Nat) (f : EthFrame) : Blk :=
  match f with
  | .badFcs => b.bumpSat (HOST.FCS_ERR m)
  | .pause => (b.bumpSat (HOST.RX_FRAMES m)).bumpSat (HOST.PAUSE_RX m)
  | .resolve target _ | .echo target _ _ =>
    let b := b.bumpSat (HOST.RX_FRAMES m)
    if b.macAddress m target && b.macUp m then (b.bumpSat (HOST.TX_FRAMES m)).emit (.respond m f) else b
  | .ptp msg t => (b.bumpSat (HOST.RX_FRAMES m)).ptpReceive m msg t
  | .udp _ _ _ | .other => (b.bumpSat (HOST.RX_FRAMES m)).bumpSat (HOST.RX_DROP m)

/-- ETH_LINK_CHANGE (spec/15 R398): the external PHY's link comes up at a speed, or goes down. -/
def Blk.ethLink (b : Blk) (m : Nat) (up : Bool) (speed : Nat) : Blk :=
  if m < 2 && b.powered (Page.HOST + m) && b.flag (HOST.STATUS_LINK m) != up then
    let b := (b.set (HOST.STATUS_LINK m) (bitNat up)).set (HOST.STATUS_SPEED m) (if up then speed else 0)
    let b := b.raise (HOST.IRQ_RAW_LINK_CHANGE m)
    if up then b else b.captureOwnFree (Page.HOST + m) hpLinkDown
  else b

/-- A write of PTP_TX (spec/15 R367, R398): the message leaves; an event message (MSG 1 to 3) is timestamped. -/
def Blk.ptpTx (b : Blk) (m v : Nat) (t : PtpTime) : Blk :=
  let msg := bitsAt v 0 4
  let seqId := bitsAt v 16 16
  if msg == 0 || 4 < msg || !b.macUp m || !b.flag (HOST.PTP_CTRL_EN m) then b
  else
    let b := (b.bumpSat (HOST.TX_FRAMES m)).emit (.ptp m msg seqId)
    if msg == 4 then b
    else
      let now := b.ptpClock m t
      let b := ((b.set (HOST.TS_TX_SEC_LO m) now.sec).set (HOST.TS_TX_SEC_HI m) (now.sec / 2 ^ 32)).set (HOST.TS_TX_NSEC m) now.nsec
      (b.set (HOST.TS_TX_SEQ m) seqId).raise (HOST.IRQ_RAW_TS_TX m)

/-- A write of PTP_STEP (spec/15 R367): the PTP clock steps by signed nanoseconds. -/
def Blk.ptpStep (b : Blk) (m v : Nat) : Blk :=
  { b with macs := setNth b.macs m ⟨(b.mac m).step + signedOf 32 v⟩ }

/-! ### CAN (spec/15 R368, R369, R399) -/

def cnBusOff : Nat := 0x01
def cnPassive : Nat := 0x02

def canPage (c : Nat) : Nat := Page.CAN + c
def noCan : CanSt := ⟨false, none, none⟩
def Blk.canSt (b : Blk) (c : Nat) : CanSt := nth b.cans c noCan
def Blk.setCan (b : Blk) (c : Nat) (x : CanSt) : Blk := { b with cans := setNth b.cans c x }

/-- The controller is enabled, FREEZE apart. -/
def Blk.canOn (b : Blk) (c : Nat) : Bool := b.powered (canPage c) && b.flag (hEn (canPage c)) && !b.flag (hResetting (canPage c)) &&
  b.flag (CAN.CAN_CTRL_EN c)

/-- The compact HEALTH record (spec/15 Table 12). -/
def Blk.compactHealth (b : Blk) (state count : Nat) : List Byte :=
  let head := natLe 1 (b.get XROUTE.NODE_ID) ++ natLe 1 state ++ natLe 1 (b.get SCHED.VARIANT_VKIND) ++ natLe 1 (b.get SCHED.VARIANT_VARG) ++
    natLe 4 b.ep.frame.toNat ++ natLe 2 (b.get TALLY.CONTENT_FAULT) ++ natLe 1 (leAt b.healthBody 6 1) ++ natLe 1 b.trunkRate ++
    natLe 2 count
  head ++ natLe 2 (crc16 head).toNat

/-- A frame starts on a controller: identifier base plus node number; classical frames carry 8 bytes. -/
def Blk.canSend (b : Blk) (c base : Nat) (safe : Bool) (bytes : List Byte) : Blk :=
  let bits := if b.flag (CAN.CAN_CTRL_EXT_ID c) then 29 else 11
  let id := (base + b.get XROUTE.NODE_ID) % 2 ^ bits
  (b.setCan c { b.canSt c with sending := some safe }).emit (.can c id (if b.flag (CAN.CAN_CTRL_FD c) then bytes else bytes.take 8))

/-- A safe frame (spec/15 R369): on entry to the safe state, and at every due point while it lasts. -/
def Blk.canSafeFrame (b : Blk) (c : Nat) : Blk :=
  if b.canOn c && b.flag (CAN.CAN_CTRL_SAFE_EN c) && b.get (CAN.STATUS_BUS_STATE c) != 2 then
    b.canSend c (b.get (CAN.SAFE_ID c)) true (b.compactHealth (if b.inMaintenance then 3 else 2) (b.get (CAN.HB_COUNT c)))
  else b

/-- A due point (spec/15 R369): each multiple of HB_PERIOD line periods; 0 acts as 1. -/
def Blk.canDue (b : Blk) (c : Nat) : Bool :=
  b.ep.line.toNat % (max 1 (b.get (CAN.HB_PERIOD c))) == 0 && (b.canSt c).lastDue != some b.ep.line

/-- CAN_HEARTBEAT_DUE (spec/15 R369): a heartbeat, a safe frame, or nothing. -/
def Blk.canHeartbeat (b : Blk) (c : Nat) : Blk :=
  if c < 2 && b.powered (canPage c) && b.canDue c then
    let armed := (b.canSt c).armed
    let b := b.setCan c { b.canSt c with armed := false, lastDue := some b.ep.line }
    let may := b.canOn c && !b.flag (hFrozen (canPage c)) && b.get (CAN.STATUS_BUS_STATE c) != 2 && (b.canSt c).sending.isNone
    if b.inSafe then b.canSafeFrame c
    else if !b.flag (CAN.CAN_CTRL_HB_EN c) then b
    else if armed && may then
      let count := b.get (CAN.HB_COUNT c) + 1
      (b.set (CAN.HB_COUNT c) count).canSend c (b.get (CAN.HB_ID c)) false (b.compactHealth b.healthState count)
    else (b.bumpSat (CAN.HB_SKIPPED c)).raise (CAN.IRQ_RAW_HB_SKIPPED c)
  else b

/-- A write of HB_ARM. -/
def Blk.hbArm (b : Blk) (c v : Nat) : Blk := if bitAt v 0 then b.setCan c { b.canSt c with armed := true } else b

/-- The bus state that the error counters give (spec/15 R368, R399; ISO 11898-1, notes/assumptions/42). -/
def Blk.canErrors (b : Blk) (c tec recv : Nat) : Blk :=
  let old := b.get (CAN.STATUS_BUS_STATE c)
  let state := if 255 < tec then 2 else if 127 < tec || 127 < recv then 1 else 0
  let b := ((b.set (CAN.ERR_CNT_TEC c) (min tec 255)).set (CAN.ERR_CNT_REC c) (min recv 255)).set (CAN.STATUS_BUS_STATE c) state
  if state == 2 && old != 2 then
    let b := b.setCan c { b.canSt c with sending := none }
    ((b.bumpSat (CAN.BUSOFF_COUNT c)).raise (CAN.IRQ_RAW_BUS_OFF c)).captureOwnFree (canPage c) cnBusOff
  else if state == 1 && old == 0 then (b.raise (CAN.IRQ_RAW_ERR_PASSIVE c)).captureOwnFree (canPage c) cnPassive
  else b

/-- CAN_FRAME_TX_DONE (spec/15 R369, R399): the frame in transmission is through, or met a bus error and is sent again. -/
def Blk.canTxDone (b : Blk) (c : Nat) (busError : Bool) : Blk :=
  match (b.canSt c).sending with
  | none => b
  | some safe =>
    let tec := b.get (CAN.ERR_CNT_TEC c)
    let recv := b.get (CAN.ERR_CNT_REC c)
    if !b.canOn c then b
    else if busError then b.canErrors c (tec + 8) recv
    else
      let b := (b.setCan c { b.canSt c with sending := none }).canErrors c (tec - 1) recv
      (b.bumpSat (CAN.TX_COUNT c)).raise (if safe then CAN.IRQ_RAW_SAFE_SENT c else CAN.IRQ_RAW_HB_SENT c)

/-- CAN_RX_FRAME (spec/15 R368): acknowledged, counted and discarded; a frame received in error counts in REC. -/
def Blk.canRx (b : Blk) (c : Nat) (bad : Bool) : Blk :=
  if c < 2 && b.canOn c && b.get (CAN.STATUS_BUS_STATE c) != 2 then
    let tec := b.get (CAN.ERR_CNT_TEC c)
    let recv := b.get (CAN.ERR_CNT_REC c)
    if bad then b.canErrors c tec (recv + 1)
    else (b.canErrors c tec (if 127 < recv then 127 else recv - 1)).bumpSat (CAN.RX_DISCARD c)
  else b

/-- CAN_BUS_OFF_RECOVERY (spec/15 R368): 128 occurrences of 11 recessive bits. -/
def Blk.canRecover (b : Blk) (c : Nat) : Blk :=
  if c < 2 && b.canOn c && b.get (CAN.STATUS_BUS_STATE c) == 2 then b.canErrors c 0 0 else b

/-- STATUS.SAFE_SENDING as it reads. -/
def Blk.safeSending (b : Blk) (c : Nat) : Bool := b.inSafe && b.canOn c && b.flag (CAN.CAN_CTRL_SAFE_EN c)

end Sys2Proof.Machine
end

