-- ==== Sys2Proof/Machine/Tally.lean ====
section
/-! DEFINITION. Machine/Tally.lean: the tally controller (spec/17 R439 to R444). -/

namespace Sys2Proof.Machine

/-- Update states (spec/17 Table 9). -/
def tuIdle : Nat := 0
def tuInterval : Nat := 1
def tuSupply : Nat := 2
def tuErase : Nat := 3
def tuContent : Nat := 4
def tuDraw : Nat := 5

def Blk.ustate (b : Blk) : Nat := b.get TALLY.STATUS_USTATE
def Blk.setUstate (b : Blk) (s : Nat) : Blk := b.set TALLY.STATUS_USTATE s
def Blk.setTally (b : Blk) (x : TallySt) : Blk := { b with tally := x }

/-- Words of CONTENT, SHOWN and PENDING_CONTENT. -/
def Blk.content (b : Blk) : Word := b.word TALLY.CONTENT_NODE.key
def Blk.shown (b : Blk) : Word := b.word TALLY.SHOWN_NODE.key

/-- Oasis ticks of the update interval (spec/17 INTERVAL): minutes, below 10 acting as 10. -/
def Blk.intervalTicks (b : Blk) : Nat := max 10 (b.get TALLY.INTERVAL_MINUTES) * 60 * 32768

/-- GO (spec/17 Table 9). -/
def Blk.tallyGo (b : Blk) : Blk :=
  if !b.powered Page.TALLY then b
  else
    let st := b.ustate
    let pend := fun (b : Blk) => b.setWord TALLY.PENDING_CONTENT_NODE.key b.content
    if st == tuIdle then
      if b.flag TALLY.STATUS_SHOWN_VALID && b.flag TALLY.STATUS_BAR_DRAWN && b.content == b.shown then
        (b.bumpSat TALLY.SKIPPED).raise TALLY.IRQ_RAW_SKIPPED
      else if !b.flag (hEn Page.TALLY) then b
      else (pend b).setUstate (if b.tally.wait == 0 then tuSupply else tuInterval)
    else if st == tuInterval || st == tuSupply then pend b
    else (pend b).set TALLY.STATUS_PENDING 1

/-- A write of CTRL. -/
def Blk.writeTallyCtrl (b : Blk) (v : Nat) : Blk := if bitAt v 0 then b.tallyGo else b

/-- Hamada asks for an update with a fault code (spec/17 R439, R443): NODE, LIFE and FAULT, then GO. -/
def Blk.tallyFault (b : Blk) (code : Nat) : Blk :=
  if !b.powered Page.SYS || !b.powered Page.TALLY then b
  else
    let b := (b.set TALLY.CONTENT_NODE (b.get XROUTE.NODE_ID)).set TALLY.CONTENT_LIFE (b.get LIFE.STATE)
    (b.set TALLY.CONTENT_FAULT code).tallyGo

/-- TALLY_INTERVAL_ELAPSED (spec/17 Table 9). -/
def Blk.tallyInterval (b : Blk) : Blk :=
  if b.powered Page.TALLY && b.ustate == tuInterval && b.tally.wait == 0 then b.setUstate tuSupply else b

/-- TALLY_UPDATE_START (spec/17 R440 to R442): VIN_OK and HOLD_OK set; `cold` is the tally sensor below −10 °C. A frozen
controller starts none. -/
def Blk.tallyStart (b : Blk) (cold : Bool) : Blk :=
  if b.active Page.TALLY && b.ustate == tuSupply && b.flag OASIS.STATUS_VIN_OK && b.flag OASIS.STATUS_HOLD_OK then
    let b := b.setTally { b.tally with wait := b.intervalTicks, showing := b.word TALLY.PENDING_CONTENT_NODE.key }
    let n := (b.get TALLY.UPDATE_COUNT + 1) % 2 ^ 32
    let b := b.set TALLY.UPDATE_COUNT n
    let b := b.when (n == 900000) (fun b => b.raise TALLY.IRQ_RAW_LIFE_WARN)
    let b := b.set TALLY.STATUS_WORN (bitNat (decide (1000000 ≤ n)))
    let b := ((b.set TALLY.STATUS_SHOWN_VALID 0).set TALLY.STATUS_BAR_DRAWN 0).set TALLY.STATUS_PENDING 0
    (b.set TALLY.STATUS_COLD (bitNat cold)).setUstate tuErase
  else b

/-- TALLY_ERASE_BAR_DONE (spec/17 Table 9). -/
def Blk.tallyErased (b : Blk) : Blk := if b.powered Page.TALLY && b.ustate == tuErase then b.setUstate tuContent else b

/-- TALLY_CONTENT_DONE (spec/17 Table 9): SHOWN takes the content of this update. -/
def Blk.tallyWritten (b : Blk) : Blk :=
  if b.powered Page.TALLY && b.ustate == tuContent then
    (b.setWord TALLY.SHOWN_NODE.key b.tally.showing).setUstate tuDraw
  else b

/-- TALLY_DRAW_BAR_DONE (spec/17 Table 9); true when a deferred cold reset takes effect now (R441). Hamada, where it runs,
stores UPDATE_COUNT (R442). -/
def Blk.tallyDrawn (b : Blk) : Bool × Blk :=
  if b.powered Page.TALLY && b.ustate == tuDraw then
    let b := ((b.set TALLY.STATUS_SHOWN_VALID 1).set TALLY.STATUS_BAR_DRAWN 1).raise TALLY.IRQ_RAW_DONE
    let b := b.setUstate (if b.flag TALLY.STATUS_PENDING then tuInterval else tuIdle)
    let kept := if b.powered Page.SYS then b.get TALLY.UPDATE_COUNT else b.tally.stored
    (b.tally.coldWaits, b.setTally { b.tally with coldWaits := false, stored := kept })
  else (false, b)

/-- An update runs. -/
def Blk.tallyRuns (b : Blk) : Bool := tuErase ≤ b.ustate

/-- NEXT_OK as it reads: whole seconds, saturating. -/
def Blk.nextOk (b : Blk) : Word := BitVec.ofNat 32 (min 65535 (ceilDiv b.tally.wait 32768))

/-- Hamada's boot (spec/17 R442): UPDATE_COUNT is loaded from flash where it was reset, else stored there. -/
def Blk.tallyBoot (b : Blk) : Blk :=
  if b.get TALLY.UPDATE_COUNT == 0 then
    (b.set TALLY.UPDATE_COUNT b.tally.stored).set TALLY.STATUS_WORN (bitNat (decide (1000000 ≤ b.tally.stored)))
  else b.setTally { b.tally with stored := b.get TALLY.UPDATE_COUNT }

/-- The controller after a reset that returns its page to reset values: the interval counts as elapsed (spec/17 R442). -/
def Blk.tallyReset (b : Blk) : Blk := b.setTally ⟨0, false, 0, b.tally.stored⟩

end Sys2Proof.Machine
end

