-- ==== Sys2Proof/Machine/Oasis.lean ====
section
/-! DEFINITION. Machine/Oasis.lean: the Oasis (spec/16 R412 to R424, spec/17 R435 to R437): wake sources, supply comparators,
the real-time clock, presence, the flash-pattern detector and its wake records. -/

namespace Sys2Proof.Machine

def oaRecLost : Nat := 1
def oaTrkLost : Nat := 2
def oaPresStuck : Nat := 3

/-- Oasis ticks in a second (spec/16 R417). -/
def ticksPerSec : Nat := 32768

/-- The detector cleared (spec/16 R422). -/
def noDet : DetSt :=
  ⟨false, 0, List.replicate 144 0, List.replicate 144 none, [], [none, none, none, none]⟩

/-- OASIS as it powers up from OFF (spec/16 R407, spec/17 R436). -/
def noOasis : OasisSt := ⟨0, 0, 0, 0, 0, 0, false, 0, 1, noDet, []⟩

def Blk.setOasis (b : Blk) (x : OasisSt) : Blk := { b with oasis := x }
def Blk.setDet (b : Blk) (x : DetSt) : Blk := b.setOasis { b.oasis with det := x }

/-! ### Wake sources -/

/-- The source acts in a mode (spec/16 Table 6). -/
def wakeActs (src mode : Nat) : Bool := (mode == 1 && src != 4) || (mode == 2 && src != 3)

/-- A wake source becomes active (spec/16 R412, R413): in DORMANT or STANDBY, or while the node steps down to one of them, it
stays active until WAKE_START takes it; while a wake is in progress it is recorded only; in WATCH and RUN it changes nothing. -/
def Blk.wakeSource (b : Blk) (src : Nat) : Blk :=
  if !bitAt (b.get OASIS.WAKE_CTRL_WAKE_EN) src then b
  else
    let mark := fun (b : Blk) => b.setOasis { b.oasis with wake := b.oasis.wake ||| 2 ^ src }
    match b.power.trans with
    | some t =>
      if t.wake then b.set OASIS.WAKE_SRC_SRC (b.get OASIS.WAKE_SRC_SRC ||| 2 ^ src)
      else if wakeActs src t.target then mark b else b
    | none => if wakeActs src b.power.mode then mark b else b

/-! ### Supply comparators -/

/-- POWER_FAIL sets (spec/16 R415): reported, journal refusals (the journal reads the bit), the SUPPLY source may wake the
node again. -/
def Blk.powerFail (b : Blk) : Blk :=
  if b.flag OASIS.STATUS_POWER_FAIL then b
  else
    let b := (b.set OASIS.STATUS_POWER_FAIL 1).raise OASIS.IRQ_RAW_POWER_FAIL
    let b := b.setOasis { b.oasis with supply := if b.oasis.supply == 1 then 1 else 2 }
    b.when (b.powered Page.SAFE) (fun b => b.report 0x0A Page.OASIS)

/-- RIDE_T in Oasis ticks. -/
def Blk.rideTicks (b : Blk) : Nat := ceilDiv (b.get OASIS.SUPPLY_THR_RIDE_T * ticksPerSec) 1000

/-- Conditions of Table 7 from VIN (10 mV), the store's usable energy (mJ), and whether the front end draws from the store;
`fail` is the fail line, taken as VIN below VIN_FAIL (spec/16 R414, spec/17 R433). -/
def Blk.supplyTick (b : Blk) (vin hold : Nat) (holdup fail : Bool) : Blk :=
  let low := b.get OASIS.SUPPLY_THR_VIN_LOW * 10
  let least := b.get OASIS.HOLD_MIN
  let b := (b.set OASIS.SUPPLY_STATUS_VIN vin).set OASIS.SUPPLY_STATUS_HOLD hold
  let vinOk := decide (low + 50 ≤ vin) || (b.flag OASIS.STATUS_VIN_OK && decide (low ≤ vin))
  let holdOk := decide (least ≤ hold) || (b.flag OASIS.STATUS_HOLD_OK && decide (least ≤ hold + 50))
  let b := ((b.set OASIS.STATUS_VIN_OK (bitNat vinOk)).set OASIS.STATUS_HOLD_OK (bitNat holdOk)).set OASIS.STATUS_ON_HOLDUP
    (bitNat holdup)
  let o := b.oasis
  let isLow := decide (vin < low)
  let b := b.when (isLow && o.vinLow == 0) (fun b => b.raise OASIS.IRQ_RAW_VIN_LOW)
  let b := b.setOasis { o with
    vinLow := if isLow then o.vinLow + 1 else 0
    good := if vinOk && holdOk then o.good + 1 else 0
    holdLow := if vinOk && decide (hold < least) then o.holdLow + 1 else 0 }
  b.when (fail || decide (vin < b.get OASIS.SUPPLY_THR_VIN_FAIL * 10)) Blk.powerFail

/-- VIN_RIDE_EXPIRY (spec/16 R414). -/
def Blk.vinRideExpiry (b : Blk) : Blk :=
  if b.powered Page.OASIS && 0 < b.oasis.vinLow && b.rideTicks ≤ b.oasis.vinLow then b.powerFail else b

/-! ### Real-time clock -/

/-- The RTC count (spec/16 R417). -/
def Blk.rtc (b : Blk) : Nat := b.get OASIS.RTC_LO + b.get OASIS.RTC_HI * 2 ^ 32
def Blk.setRtc (b : Blk) (v : Nat) : Blk := (b.set OASIS.RTC_LO (v % 2 ^ 32)).set OASIS.RTC_HI (v / 2 ^ 32)

/-- RTC_ALARM (spec/16 R417): RTC equals ALARM with ALARM_EN set. -/
def Blk.rtcAlarm (b : Blk) : Blk :=
  if b.powered Page.OASIS && b.flag OASIS.ALARM_CTRL_ALARM_EN &&
      b.rtc == b.get OASIS.ALARM_LO + b.get OASIS.ALARM_HI * 2 ^ 32 then
    (b.raise OASIS.IRQ_RAW_RTC_ALARM).wakeSource 1
  else b

/-! ### Presence -/

def presSame : Nat := 328
def presHold : Nat := 65536
def presWindow : Nat := 3932160
def presStuckAt : Nat := 983040

/-- A sample of PRES_N (spec/16 R418). -/
def Blk.presTick (b : Blk) (closed : Bool) : Blk :=
  let o := b.oasis
  let now := b.flag OASIS.STATUS_PRES_CLOSED
  b.setOasis { o with
    presSame := if closed == now then 0 else o.presSame + 1
    closedFor := if now then o.closedFor + 1 else 0
    windowLeft := o.windowLeft - 1 }

/-- PRES_DEBOUNCE_CHANGE (spec/16 R418): a release lets a stuck switch open a window again. -/
def Blk.presChange (b : Blk) : Blk :=
  if b.powered Page.OASIS && presSame ≤ b.oasis.presSame then
    let closed := !b.flag OASIS.STATUS_PRES_CLOSED
    let b := b.set OASIS.STATUS_PRES_CLOSED (bitNat closed)
    let b := b.when (!closed) (fun b => b.set OASIS.STATUS_PRES_STUCK 0)
    b.setOasis { b.oasis with presSame := 0, closedFor := 0, opened := false }
  else b

/-- PRESENCE_OPEN (spec/16 R418). -/
def Blk.presOpen (b : Blk) : Blk :=
  if b.powered Page.OASIS && b.flag OASIS.STATUS_PRES_CLOSED && presHold ≤ b.oasis.closedFor && !b.oasis.opened &&
      !b.flag OASIS.STATUS_PRES_STUCK then
    let b := b.setOasis { b.oasis with opened := true, windowLeft := presWindow - (b.oasis.closedFor - presHold) }
    ((b.set OASIS.STATUS_PRES_WINDOW 1).raise OASIS.IRQ_RAW_PRES_OPEN).wakeSource 2
  else b

/-- PRESENCE_CLOSE (spec/16 R418). -/
def Blk.presClose (b : Blk) : Blk :=
  if b.powered Page.OASIS && b.flag OASIS.STATUS_PRES_WINDOW && b.oasis.windowLeft == 0 then b.set OASIS.STATUS_PRES_WINDOW 0
  else b

/-- PRES_STUCK (spec/16 R418). -/
def Blk.presStuck (b : Blk) : Blk :=
  if b.powered Page.OASIS && b.flag OASIS.STATUS_PRES_CLOSED && presStuckAt ≤ b.oasis.closedFor &&
      !b.flag OASIS.STATUS_PRES_STUCK then
    let b := (b.set OASIS.STATUS_PRES_STUCK 1).raise OASIS.IRQ_RAW_PRES_STUCK
    let b := b.setOasis { b.oasis with windowLeft := 0 }
    (b.set OASIS.STATUS_PRES_WINDOW 0).captureOwnFree Page.OASIS oaPresStuck
  else b

/-- PRES_LEFT as it reads: whole seconds left in the window. -/
def Blk.presLeft (b : Blk) : Word := BitVec.ofNat 32 (b.oasis.windowLeft / ticksPerSec)

/-! ### The flash-pattern detector -/

/-- PATp fields with their least values (spec/16 Table 9). -/
def Blk.patFlashes (b : Blk) (p : Nat) : Nat := max 2 (b.get (OASIS.PAT_CTRL_FLASHES p))
def Blk.sentRise (b : Blk) : Int := max 1 (b.get OASIS.SENT_CTRL_RISE)

/-- Macro-pixel `m` is masked. -/
def Blk.sentMasked (b : Blk) (m : Nat) : Bool := bitAt (b.word ((OASIS.SENT_MASK 0).key + 4 * (m / 32))).toNat (m % 32)

/-- Macro-pixels at most one step apart on the 16 × 9 grid. -/
def macroNear (m n : Nat) : Bool :=
  let dx := (Int.ofNat (m % 16) - Int.ofNat (n % 16)).natAbs
  let dy := (Int.ofNat (m / 16) - Int.ofNat (n / 16)).natAbs
  decide (dx ≤ 1) && decide (dy ≤ 1)

/-- WREC_STATUS.COUNT follows the records held. -/
def Blk.setRecs (b : Blk) (rs : List WakeRec) : Blk :=
  (b.setOasis { b.oasis with recs := rs }).set OASIS.WREC_STATUS_COUNT rs.length

/-- A recognition queues its record, or loses it with 4 held (spec/16 R423). -/
def Blk.queueRecord (b : Blk) (r : WakeRec) : Blk :=
  if b.oasis.recs.length < 4 then b.setRecs (b.oasis.recs ++ [r])
  else ((b.bumpSat OASIS.WREC_STATUS_LOST).raise OASIS.IRQ_RAW_WREC_LOST).captureOwnFree Page.OASIS oaRecLost

/-- Pattern `p` is recognised (spec/16 R421). -/
def Blk.recognise (b : Blk) (p : Nat) (t : Tracker) : Blk :=
  let d := b.oasis.det
  let left := b.get (OASIS.PAT_HOLD_HOLDOFF p) * ticksPerSec
  let b := b.setDet { d with trackers := d.trackers.filter (fun x => x.pattern != p), hold := setNth d.hold p (if left == 0 then none else some left) }
  let b := (b.raise OASIS.IRQ_RAW_PAT_HIT).bump OASIS.WREC_STATUS_RECOGNISED
  let rec_ : WakeRec := ⟨t.firstCoord, p + 4 * b.get (OASIS.PAT_HOLD_TAG p), t.macroFirst, b.power.mode, b.patFlashes p, none⟩
  (b.queueRecord rec_).wakeSource 0

/-- The tracker of `p` with the earliest first onset that a flash extends (spec/16 R420), by index. -/
def Blk.extends (b : Blk) (p m onset : Nat) : Option Nat :=
  let near := b.flag OASIS.SENT_CTRL_NEAR
  let ts := b.oasis.det.trackers
  let fits : Nat → Bool := fun i =>
    match ts[i]? with
    | none => false
    | some t =>
      let gap := onset - t.last
      t.pattern == p && decide (t.last < onset) && decide (b.get (OASIS.PAT_INT_INT_MIN p) ≤ gap) &&
        decide (gap ≤ b.get (OASIS.PAT_INT_INT_MAX p)) && (m == t.macroLast || (near && macroNear m t.macroLast))
  (indicesWhere ts.length fits).foldl (fun best i =>
    match best with
    | none => some i
    | some j =>
      match ts[i]?, ts[j]? with
      | some x, some y => if x.first < y.first then some i else some j
      | _, _ => best) none

/-- A valid flash of pattern `p` (spec/16 R420). -/
def Blk.validFlash (b : Blk) (p m onset : Nat) (c : Coord) : Blk :=
  let d := b.oasis.det
  match b.extends p m onset with
  | some i =>
    match d.trackers[i]? with
    | none => b
    | some t =>
      let t := { t with macroLast := m, last := onset, count := t.count + 1 }
      if b.patFlashes p ≤ t.count then b.recognise p t
      else b.setDet { d with trackers := setNth d.trackers i t }
  | none =>
    if (nth d.hold p none).isSome then b
    else
      let t : Tracker := ⟨p, m, onset, c, m, onset, 1⟩
      if d.trackers.length < 8 then b.setDet { d with trackers := d.trackers ++ [t] }
      else
        let oldest := d.trackers.foldl (fun best x => min best x.last) ((d.trackers.head?.map (fun x => x.last)).getD onset)
        let i := (d.trackers.findIdx? (fun x => x.last == oldest)).getD 0
        let b := b.setDet { d with trackers := d.trackers.eraseIdx i ++ [t] }
        ((b.bumpSat OASIS.TRK_LOST).raise OASIS.IRQ_RAW_TRK_LOST).captureOwnFree Page.OASIS oaTrkLost

/-- A flash of macro-pixel `m` ends (spec/16 R419, R420). -/
def Blk.flashEnd (b : Blk) (m onset : Nat) (c : Coord) : Blk :=
  let dur := b.oasis.det.sample - onset
  b.each [0, 1, 2, 3] (fun b p =>
    if b.flag (OASIS.PAT_CTRL_EN p) && b.get (OASIS.PAT_CTRL_ON_MIN p) ≤ dur && dur ≤ b.get (OASIS.PAT_CTRL_ON_MAX p) then
      b.validFlash p m onset c
    else b)

/-- Macro-pixel `m` at this sample (spec/16 R419). -/
def Blk.macroStep (b : Blk) (levels : List Nat) (m : Nat) : Blk :=
  if b.sentMasked m then b
  else
    let d := b.oasis.det
    let x : Int := nth levels m 0 % 16
    let bg : Int := Int.ofNat (nth d.bg m 0)
    let rise := x - bg / 16
    match nth d.flash m none with
    | none =>
      if b.sentRise ≤ rise then b.setDet { d with flash := setNth d.flash m (some (d.sample, b.now)) }
      else
        let bg := bg + (16 * x - bg) / (2 ^ b.get OASIS.SENT_CTRL_BG_SHIFT : Nat)
        b.setDet { d with bg := setNth d.bg m bg.toNat }
    | some (onset, c) =>
      if rise < b.sentRise - 1 then
        (b.setDet { d with flash := setNth d.flash m none }).flashEnd m onset c
      else b

/-- Trackers whose last onset lies more than INT_MAX samples back are freed (spec/16 R420). -/
def Blk.freeTrackers (b : Blk) : Blk :=
  let d := b.oasis.det
  b.setDet { d with trackers := d.trackers.filter (fun t =>
    decide (d.sample ≤ t.last + b.get (OASIS.PAT_INT_INT_MAX t.pattern))) }

/-- SENT_LEVEL0 to 17 take a sample: macro-pixel 8j + k in bits [4k+3:4k] of word j. -/
def Blk.showLevels (b : Blk) (levels : List Nat) : Blk :=
  b.each (List.range 18) (fun b j =>
    let w := (List.range 8).foldl (fun acc k => acc + (nth levels (8 * j + k) 0 % 16) * 16 ^ k) 0
    b.setWord ((OASIS.SENT_LEVEL 0).key + 4 * j) (BitVec.ofNat 32 w))

/-- SENTINEL_SAMPLE (spec/16 R419 to R422): the peak levels of the 144 macro-pixels since the previous sample
(notes/assumptions/45). -/
def Blk.sentinelSample (b : Blk) (levels : List Nat) : Blk :=
  if !b.powered Page.OASIS then b
  else
    let b := b.showLevels levels
    if !b.flag OASIS.SENT_CTRL_EN then b.setDet noDet
    else if !b.active Page.OASIS then b
    else
      let d := b.oasis.det
      let b := if d.on then b.setDet { d with sample := d.sample + 1 }
        else b.setDet { noDet with on := true, bg := (List.range 144).map (fun m => 16 * (nth levels m 0 % 16)) }
      b.freeTrackers.each (List.range 144) (fun b m => b.macroStep levels m)

/-- PATTERN_HOLDOFF_END (spec/16 R421). -/
def Blk.holdoffEnd (b : Blk) (p : Nat) : Blk :=
  let d := b.oasis.det
  if nth d.hold p none == some 0 then b.setDet { d with hold := setNth d.hold p none } else b

/-- A write of a PATp register frees the trackers of p (spec/16 R422). -/
def Blk.patWritten (b : Blk) (p : Nat) : Blk :=
  let d := b.oasis.det
  b.setDet { d with trackers := d.trackers.filter (fun t => t.pattern != p) }

/-- The pattern whose block holds a register of the OASIS page. -/
def patOf (off : Nat) : Option Nat := if 0x100 ≤ off && off < 0x140 && off % 16 < 12 then some ((off - 0x100) / 16) else none

/-! ### The tick -/

/-- OASIS_TICK (spec/16 R414, R417, R418, spec/02 R48): the supply measured, the RTC and the running counts one tick on, PRES_N
sampled; with SYS off the LP accumulator takes 300,000. -/
def Blk.oasisTick (b : Blk) (vin hold : Nat) (holdup fail closed : Bool) : Blk :=
  if !b.powered Page.OASIS then b
  else
    let b := b.setRtc ((b.rtc + 1) % 2 ^ 48)
    let b := b.when b.onLp (fun b => { b with ep := { b.ep with lpAcc := b.ep.lpAcc + 300000 } })
    let d := b.oasis.det
    let b := b.setDet { d with hold := d.hold.map (fun h => h.map (· - 1)) }
    let b := b.setTally { b.tally with wait := b.tally.wait - 1 }
    (b.presTick closed).supplyTick vin hold holdup fail

/-- STORE_WEAK (spec/17 R435): HOLD below HOLD_MIN for 10 s with VIN_OK set; Erg reports 4002h and HEALTH carries it. -/
def Blk.storeWeak (b : Blk) : Blk :=
  if b.powered Page.OASIS && b.ergRuns && 10 * ticksPerSec ≤ b.oasis.holdLow then
    (b.tallyFault 0x4002).healthChanged
  else b

/-! ### Wake records -/

/-- WREC_HEAD0 to 3 as they read: the oldest record. -/
def Blk.recWord (b : Blk) (i : Nat) : Word :=
  match b.oasis.recs with
  | [] => 0
  | r :: _ =>
    if i == 0 then BitVec.ofNat 32 (coordNat r.coord)
    else if i == 1 then BitVec.ofNat 32 (coordNat r.coord / 2 ^ 32)
    else if i == 2 then BitVec.ofNat 32 (r.pattern % 2 ^ 16 + (r.macroPix % 256) * 2 ^ 16 + (r.fromMode % 256) * 2 ^ 24)
    else BitVec.ofNat 32 r.flashes

end Sys2Proof.Machine
end

