-- ==== Sys2Proof/Machine/Search.lean ====
section
/-! DEFINITION. Machine/Search.lean: vector search (spec/14): shards and slots, distances, ranking, the merge tree. -/

namespace Sys2Proof.Machine

def seSlotBad : Nat := 0x01
def seInForce : Nat := 0x02
def seHeld : Nat := 0x03
def seLost : Nat := 0x04
def seCcFail : Nat := 0x05
def seLate : Nat := 0x06

/-- Query status (spec/14 Table 5). -/
def qOk : Nat := 0
def qPartial : Nat := 1
def qShardMissing : Nat := 2
def qListLost : Nat := 3
def qVersion : Nat := 4
def qBadQuery : Nat := 5
def qTimeout : Nat := 6
def qTreeChanged : Nat := 7
def qNoIndex : Nat := 8
def qBusy : Nat := 9

def slEmpty : Nat := 0
def slLoading : Nat := 1
def slValid : Nat := 2
def slBad : Nat := 3

/-! ### Shards (spec/14 R345 to R347) -/

def hMetric (h : List Byte) : Nat := leAt h 6 1
def hElem (h : List Byte) : Nat := leAt h 7 1
def hDims (h : List Byte) : Nat := leAt h 8 2
def hNcent (h : List Byte) : Nat := leAt h 12 4
/-- VS: bytes of a code or vector (spec/14 R346). -/
def hVec (h : List Byte) : Nat := vecBytes (hDims h) (hElem h)

/-- The search tiles, ascending (spec/14 R342). -/
def Blk.searchTiles (b : Blk) : List Nat := indicesWhere 16 (fun t => bitAt (b.get SEARCH.CFG_TILES) t)

/-- Where centroid c lies: tile and offset (spec/14 R342). -/
def Blk.centroidAt (b : Blk) (slot vs c : Nat) : Nat × Nat :=
  let ts := b.searchTiles
  (nth ts (c % ts.length) 0, b.get (SEARCH.SLOT_CENT_OFF slot) + vs * (c / ts.length))

/-- Bytes given as 0 in Table 1. -/
def shardReserved (h : List Byte) : Bool :=
  leAt h 10 2 == 0 && leAt h 45 1 == 0 && leAt h 145 3 == 0 && leAt h 152 100 == 0

/-- A field outside Table 1, or a METRIC that does not go with the ELEM (spec/14 R347 code 2). -/
def shardFields (h : List Byte) : Bool :=
  let m := hMetric h
  let e := hElem h
  m ≤ 3 && e ≤ 2 && 1 ≤ hDims h && hDims h ≤ 1024 && 1 ≤ hNcent h && hNcent h ≤ 65536 && 1 ≤ leAt h 46 2 && leAt h 46 2 ≤ 256 &&
  leAt h 144 1 ≤ 8 && [96, 104, 112, 120].all (fun o => leAt h o 8 % 64 == 0) &&
  (m != 2 || e == 2) && (m != 0 || e == 0) && (m == 0 || e != 0)

/-- The first check of R347 that fails, 0 when the shard is good. -/
def Blk.shardCheck (b : Blk) (slot base : Nat) (h : List Byte) : Nat :=
  let total := leAt h 128 8
  let first := base / 4096
  let last := (base + total - 1) / 4096
  let inRegion := fun i => b.flag (BULK.CR_BASE_AUTO i) && b.get (BULK.CR_BASE_PAGE i) ≤ first &&
    last < b.get (BULK.CR_BASE_PAGE i) + b.get (BULK.CR_PAGES i)
  let ts := b.searchTiles
  let perTile := if ts.isEmpty then 0 else ceilDiv (hNcent h) ts.length
  if leAt h 0 4 != 0x53485844 || leAt h 4 2 != 1 || leAt h 252 4 != (crc32c (h.take 252)).toNat || !shardReserved h then 1
  else if !shardFields h then 2
  else if 6 * 2 ^ 30 < total || bulkTop < base + total then 3
  else if !(List.range 16).any inRegion then 4
  else if leAt h 148 4 != b.get SCHED.FLEET_ID || leAt h 44 1 != b.get XROUTE.NODE_ID then 5
  else if ts.isEmpty || spmBytes < b.get (SEARCH.SLOT_CENT_OFF slot) + hVec h * perTile || b.get (SEARCH.SLOT_CENT_OFF slot) % 32 != 0 ||
      !ts.all (fun t => b.powered (tilePage t) && b.tstate t != tsMappedOut) then 6
  else 0

def Blk.slotBase (b : Blk) (s : Nat) : Nat := b.get (SEARCH.SLOT_BASE_LO s) + 2 ^ 32 * b.get (SEARCH.SLOT_BASE_HI s)
def Blk.slotState (b : Blk) (s : Nat) : Nat := b.get (SEARCH.SLOT_STATE_STATE s)
def Blk.slotHdr (b : Blk) (s : Nat) : List Byte := nth b.search.hdrs s []
def Blk.setSearch (b : Blk) (x : SearchSt) : Blk := { b with search := x }

/-- A slot changes state: its staged lists are discarded (spec/14 R362). -/
def Blk.setSlot (b : Blk) (s st bad : Nat) : Blk :=
  let b := (b.set (SEARCH.SLOT_STATE_STATE s) st).set (SEARCH.SLOT_STATE_BAD_CODE s) bad
  b.setSearch { b.search with staged := b.search.staged.filter (fun l => l.slot != s) }

/-- The slot in force: ACTIVE, when VALID. -/
def Blk.inForce (b : Blk) (s : Nat) : Bool := b.get SEARCH.ACTIVE_SLOT == s && b.slotState s == slValid

/-- A write of SLOTs_CTRL (spec/14 R347, R363): LOAD before UNLOAD. -/
def Blk.writeSlotCtrl (b : Blk) (s : Nat) (a : Agent) (v : Nat) : Blk :=
  if bitAt v 0 then
    (if b.inForce s then b.captureFree Page.SEARCH seInForce (agentCode a)
    else if b.active Page.SEARCH then b.setSlot s slLoading 0 else b)
  else if bitAt v 1 then (b.setSlot s slEmpty 0).set (SEARCH.SLOT_VERSION s) 0
  else b

/-- The centroid table moved onto the search tiles; a read that fails ends it with its cause. -/
def Blk.loadCentroids (b : Blk) (s base vs : Nat) (h : List Byte) : Nat × Blk :=
  (List.range (hNcent h)).foldl (fun (st : Nat × Blk) c =>
    if st.1 != 0 then st
    else
      let (x, bs, b) := st.2.bulkRead 2 (base + leAt h 96 8 + vs * c) vs
      if x != 0 then (x, b)
      else
        let (t, off) := b.centroidAt s vs c
        b.spmWrite t off bs 9) (0, b)

/-- SHARD_LOAD_DONE (spec/14 R347): the checks, then the centroid table. -/
def Blk.shardLoadDone (b : Blk) (s : Nat) : Blk :=
  if s ≥ 2 || !b.active Page.SEARCH || b.slotState s != slLoading then b
  else
    let bad := fun (b : Blk) code => ((b.setSlot s slBad code).raise SEARCH.IRQ_RAW_SLOT_BAD).captureOwnFree Page.SEARCH seSlotBad
    let base := b.slotBase s
    let (c, h, b) := b.bulkRead 2 base 256
    if c == bkWait then b
    else
      let code := if c != 0 then 1 else b.shardCheck s base h
      if code != 0 then bad b code
      else
        let (c, b) := b.loadCentroids s base (hVec h) h
        if c == bkWait then b
        else if c != 0 then bad b 6
        else
          let b := (b.setSlot s slValid 0).set (SEARCH.SLOT_VERSION s) (leAt h 40 4)
          b.setSearch { b.search with hdrs := setNth b.search.hdrs s h }

/-- The VALID slot of a version. -/
def Blk.slotOf (b : Blk) (version : Nat) : Option Nat :=
  [0, 1].find? (fun s => b.slotState s == slValid && b.get (SEARCH.SLOT_VERSION s) == version)

/-! ### Distances (spec/14 R348 to R351) -/

/-- The first `n` elements of a vector: INT8 as signed integers. -/
def int8s (n : Nat) (v : List Byte) : List Int := (v.take n).map (fun x => x.toInt)

/-- The first `n` elements of a vector of E5M10 values. -/
def halfs (n : Nat) (v : List Byte) : List FVal := (List.range n).map (fun i => fDecode fmtE5M10 (leAt v (2 * i) 2))

def fNeg : FVal → FVal
  | .nan => .nan
  | .inf s => .inf (!s)
  | .fin s m e => .fin (!s) m e

/-- Σ x_i q_i, exact. -/
def dotInt (x q : List Int) : Int := ((x.zip q).map (fun p => p.1 * p.2)).sum
def dotF (x q : List FVal) : FVal := fSum ((x.zip q).map (fun p => fMul p.1 p.2))

/-- The query as COS compares it (spec/14 R349): n, and q'. -/
def cosQuery (q : List FVal) : FVal × List FVal :=
  let n := toFp32 (fSum (q.map (fun x => fMul x x)))
  let r := toFp32 (fDiv (.fin false 1 0) (toFp32 (fSqrt n)))
  (n, q.map (fun x => fDecode fmtE5M10 (fEncode fmtE5M10 false (fMul x r))))

/-- BIT query with its padding bits cleared (spec/14 R350). -/
def clearPadding (dims : Nat) (v : List Byte) : List Byte := natLe v.length (leNat v % 2 ^ dims)

/-- D of a stored vector for a query, as its 32 bits (spec/14 Table 2). -/
def distance (metric elem dims : Nat) (q x : List Byte) : Nat :=
  let fp := fun v => fEncode fmtFP32 false v
  if metric == 0 then popCount (8 * x.length) (leNat x ^^^ leNat (clearPadding dims q))
  else if elem == 1 then
    let a := int8s dims x
    let c := int8s dims q
    if metric == 1 then twosOf 32 (-(dotInt a c)) else twosOf 32 (((a.zip c).map (fun p => (p.1 - p.2) * (p.1 - p.2))).sum)
  else
    let a := halfs dims x
    let c := halfs dims q
    if metric == 1 then fp (dotF a (c.map fNeg))
    else if metric == 2 then fp (dotF a ((cosQuery c).2.map fNeg))
    else fp (fSum ((a.zip c).map (fun p => let d := fSum [p.1, fNeg p.2]; fMul d d)))

/-- A distance as the number it is compared as: signed, unsigned, or the order of FP32 encodings (spec/14 R351). -/
def distKey (metric elem d : Nat) : Int :=
  if metric == 0 then (d : Int)
  else if elem == 1 then signedOf 32 d
  else if bitAt d 31 then -((d % 2 ^ 31 : Nat) : Int) else (d : Int)

/-- A query is refused with BAD_QUERY against a shard (spec/14 R350). -/
def queryBad (h : List Byte) (m : QMeta) (q : List Byte) : Bool :=
  let c := halfs (hDims h) q
  let notFinite := fun v => match v with | FVal.fin _ _ _ => false | _ => true
  m.metric != hMetric h || m.k == 0 || 1024 < m.k || m.nprobe == 0 || 256 < m.nprobe ||
    (hElem h == 2 && c.any notFinite) || (hMetric h == 2 && fIsZero (cosQuery c).1)

/-- (D, id) keys in order. -/
def keyLe (a c : Int × Nat) : Bool := a.1 < c.1 || (a.1 == c.1 && a.2 ≤ c.2)

/-- Entries with the smallest keys first, at most `k` (spec/14 R351). -/
def bestEntries (metric elem k : Nat) (es : List QEntry) : List QEntry :=
  (es.mergeSort (fun a c => keyLe (distKey metric elem a.d, a.id) (distKey metric elem c.d, c.id))).take k

/-! ### The scan of a shard (spec/14 R351, R360) -/

/-- What a scan comes to: a part, a read that holds it, a wait inside BULK, or an access of the search path that faults. -/
inductive ScanEnd where
  | part (p : QPart)
  | hold (r : HeldRead)
  | wait
  | fault
deriving DecidableEq, Repr

/-- A search tile that the search path reaches. -/
def Blk.tileThere (b : Blk) (t : Nat) : Bool := b.powered (tilePage t) && b.tstate t != tsMappedOut

/-- Distances of every centroid, until a read fails: with POISON it holds the scan (spec/14 R360), on a tile that is off or mapped out
it faults (spec/03 R58). -/
def Blk.centroidPass (b : Blk) (s : Nat) (h q : List Byte) : Option ScanEnd × List (Int × Nat) × Blk :=
  let vs := hVec h
  (List.range (hNcent h)).foldl (fun (st : Option ScanEnd × List (Int × Nat) × Blk) c =>
    match st with
    | (some r, ks, b) => (some r, ks, b)
    | (none, ks, b) =>
      let (t, off) := b.centroidAt s vs c
      if !b.tileThere t then (some .fault, ks, b)
      else
      let (x, bs, b) := b.spmRead t off vs 9
      if x != 0 then (some (.hold ⟨some t, off, vs, b.ep.line⟩), ks, b)
      else (none, ks ++ [(distKey (hMetric h) (hElem h) (distance (hMetric h) (hElem h) (hDims h) q bs), c)], b)) (none, [], b)

/-- The probe set: the centroids with the smallest keys (spec/14 R351). -/
def probeSet (nprobe : Nat) (ks : List (Int × Nat)) : List Nat := ((ks.mergeSort keyLe).take nprobe).map (fun k => k.2)

/-- Where a list lies: address and entries, from its directory entry. -/
def Blk.listAt (b : Blk) (s c : Nat) (h : List Byte) : Nat × (Nat × Nat) × Blk :=
  let base := b.slotBase s
  let (x, d, b) := b.bulkRead 2 (base + leAt h 104 8 + 16 * c) 16
  (x, (base + leAt h 120 8 + leAt d 0 8, leAt d 8 4), b)

/-- One list: its entries, or how its read ended. -/
def Blk.scanList (b : Blk) (s c : Nat) (h q : List Byte) : (Option ScanEnd) × List QEntry × Blk :=
  let vs := hVec h
  let (x, (a, n), b) := b.listAt s c h
  if x == bkWait then (some .wait, [], b)
  else if x != 0 then (some (.hold ⟨none, b.slotBase s + leAt h 104 8 + 16 * c, 16, b.ep.line⟩), [], b)
  else
    let (x, bs, b) := if n == 0 then (0, [], b) else b.bulkRead 2 a (n * (vs + 8))
    if x == bkWait then (some .wait, [], b)
    else if x != 0 then (some (.hold ⟨none, a, n * (vs + 8), b.ep.line⟩), [], b)
    else
      (none, (List.range n).map (fun i =>
        ⟨leAt bs (n * vs + 8 * i) 8, distance (hMetric h) (hElem h) (hDims h) q ((bs.drop (vs * i)).take vs), leAt h 44 1⟩), b)

/-- What a scan of a Hamming metric leaves on its search tiles (spec/14 R343): CC_DESC as the search path wrote it last, CC_DONE, and
in the staging area codes, results and tags, none of which has a stated value (notes/assumptions/43). -/
def Blk.stagingUsed (b : Blk) : Blk :=
  let at_ := b.get SEARCH.STAGE_OFF
  let n := min (b.get SEARCH.STAGE_BYTES) (spmBytes - at_)
  b.each (b.searchTiles.filter b.tileThere) fun b t =>
    let b := b.each (List.range 8) (fun b i => let (v, b) := b.free 32; b.set (TILE.CC_DESC t i) v)
    let (data, b) := b.free (8 * n)
    let (tags, b) := b.free 16384
    let b := b.spmPut t at_ (natLe n data)
    let b := b.each (slotRange (at_ / 256) (slotsOf n)) (fun b s =>
      { b with spm := { b.spm with full := Tbl.put (dflt false) b.spm.full (slotKey t s) (bitAt tags s) } })
    b.raise (TILE.IRQ_RAW_CC_DONE t)

/-- The first access that faults when the search path writes a descriptor and GO on the search tiles, as (page, offset, cause)
(spec/03 R58, spec/14 R343). -/
def Blk.descFault (b : Blk) : Option (Nat × Nat × Nat) :=
  (b.searchTiles.flatMap (fun t => (List.range 9).map (fun i => (tilePage t, 0x080 + 4 * i)))).findSome? (fun r =>
    let c := b.accessCause .search r.1 r.2 true true 1
    if c == 0 then none else some (r.1, r.2, c))

/-- The whole scan of a query on its slot (spec/14 R351). For a Hamming metric the search path reaches its tiles through their
registers: a faulting access, or a descriptor on a mapped-out tile, ends the scan. -/
def Blk.scanShard (b : Blk) (s : Nat) (m : QMeta) (q : List Byte) : ScanEnd × List Nat × Blk :=
  let h := b.slotHdr s
  let left := fun (b : Blk) => b.when (hMetric h == 0) Blk.stagingUsed
  let denied := if hMetric h == 0 then b.descFault else none
  if queryBad h m q then (.part ⟨qBadQuery, []⟩, [], b)
  else if denied.isSome then
    (.fault, [], match denied with | some (page, off, c) => b.accessFault .search page off c | none => b)
  else
    let (held, ks, b) := b.centroidPass s h q
    match held with
    | some r => (r, [], left b)
    | none =>
      let probes := probeSet m.nprobe ks
      let r := probes.foldl (fun (st : Option ScanEnd × List QEntry × Blk) c =>
        match st with
        | (some e, es, b) => (some e, es, b)
        | (none, es, b) => let (e, more, b) := b.scanList s c h q; (e, bestEntries m.metric (hElem h) m.k (es ++ more), b)) (none, [], b)
      match r with
      | (some .wait, _, b) => (.wait, probes, b)
      | (some e, _, b) => (e, probes, left b)
      | (none, es, b) => (.part ⟨qOk, es⟩, probes, left b)

/-! ### The merge tree (spec/14 R354 to R359) -/

/-- The 256-bit MISSING bitmap in force. -/
def Blk.missing (b : Blk) : Nat := (List.range 8).foldl (fun a i => a + b.get (SEARCH.MISSING i) * 2 ^ (32 * i)) 0

/-- Rank of a node (spec/14 R354). -/
def rankOf (missing n : Nat) : Nat := n - ((List.range n).filter (fun m => bitAt missing m)).length

/-- The child of rank `mine` whose subtree holds `rank`: 0 or 1. -/
def childToward (mine : Nat) : Nat → Nat → Option Nat
  | 0, _ => none
  | fuel + 1, rank =>
    if rank ≤ mine then none
    else if (rank - 1) / 2 == mine then some ((rank - 1) % 2)
    else childToward mine fuel ((rank - 1) / 2)

/-- Bytes of a tree message (spec/14 Table 4). -/
def treeBytes (kind status count : Nat) (m : QMeta) (body : List Byte) : List Byte :=
  natLe 1 kind ++ natLe 1 status ++ natLe 1 m.querier ++ natLe 1 m.metric ++ natLe 4 m.qid ++ natLe 4 m.version ++ natLe 2 m.k ++
  natLe 2 m.nprobe ++ natLe 2 count ++ natLe 1 m.flags ++ natLe 1 0 ++ natLe 2 m.timeout ++ natLe 2 0 ++ natLe 8 (coordNat m.start) ++
  natLe 32 m.missing ++ body

/-- Result entries (spec/14 Table 6). -/
def entryBytes (es : List QEntry) : List Byte := es.flatMap (fun e => natLe 8 e.id ++ natLe 4 e.d ++ natLe 1 e.shard ++ natLe 3 0)
def entriesOfBytes (n : Nat) (bs : List Byte) : List QEntry :=
  (List.range n).map (fun i => ⟨leAt bs (16 * i) 8, leAt bs (16 * i + 8) 4, leAt bs (16 * i + 12) 1⟩)

/-- What a tree message identifies. -/
def metaOfBytes (d : List Byte) : QMeta :=
  ⟨leAt d 2 1, leAt d 3 1, leAt d 4 4, leAt d 8 4, leAt d 12 2, leAt d 14 2, leAt d 18 1, leAt d 20 2, coordOfNat (leAt d 24 8), leAt d 32 32⟩

/-- The queue pair of an edge: 0 parent, 1 and 2 the children. -/
def Blk.edgeQp (b : Blk) (edge : Nat) : Nat :=
  if edge == 0 then b.get SEARCH.TREE0_PARENT_QP else if edge == 1 then b.get SEARCH.TREE0_CHILD0_QP else b.get SEARCH.TREE1_CHILD1_QP
def Blk.hasEdge (b : Blk) (edge : Nat) : Bool :=
  if edge == 0 then b.flag SEARCH.TREE1_HAS_PARENT else if edge == 1 then b.flag SEARCH.TREE1_HAS_C0 else b.flag SEARCH.TREE1_HAS_C1

/-- Bytes of an inbox cell (spec/14 R356). -/
def cellBytes : Nat := 18432
def Blk.inboxBase (b : Blk) : Nat := b.get SEARCH.INBOX_BASE_LO + 2 ^ 32 * b.get SEARCH.INBOX_BASE_HI

/-- A message goes out on an edge, into the next cell of it at the receiver (spec/14 R356); the receiver's inbox lies where
this node's does (notes/assumptions/43). -/
def Blk.sendTree (b : Blk) (edge : Nat) (bytes : List Byte) : Blk :=
  let q := b.edgeQp edge
  if !b.hasEdge edge || b.qstate q != qsReady then b
  else
    let first := if edge != 0 then 0 else if b.get SEARCH.TREE0_RANK % 2 == 1 then 32 else 64
    let turn := nth b.search.rot edge 0
    let cell := first + turn % 32
    let base := b.get (XQP.QCTX0_PEER_NODE q) * 2 ^ 56 + 2 ^ 52 + b.inboxBase + cellBytes * cell
    let b := b.setSearch { b.search with rot := setNth b.search.rot edge ((turn + 1) % 32) }
    let item := SendItem.mover searchPath ((chunks 512 bytes).map (fun c => (base + c.1, c.2))) true cell
    b.setQp q { b.qp q with queue := (b.qp q).queue ++ [item] }

/-- The same query: its querier, QID and START. -/
def sameQuery (a c : QMeta) : Bool := a.querier == c.querier && a.qid == c.qid && a.start == c.start

/-- Queries in flight (spec/14 R353): those posted here, and those served for others. -/
def Blk.inFlight (b : Blk) : Nat :=
  b.search.own.length + (b.search.served.filter (fun s =>
    !b.search.own.any (fun o => sameQuery o.head s.head) && s.own != some ⟨qBusy, []⟩)).length

/-- Line periods since a coordinate, in the frame length in force. -/
def Blk.elapsed (b : Blk) (c : Coord) : Int := frameDiff b.ep.frame c.f * b.frameLen + ((b.curL : Int) - c.l)

/-- A query that this node posted ends (spec/14 R357): its result block is written. -/
def Blk.completeOwn (b : Blk) (o : OwnQuery) (status missing : Nat) (es : List QEntry) : Blk :=
  let b := b.setSearch { b.search with own := b.search.own.filter (fun x => !sameQuery x.head o.head) }
  let es := if 2 ≤ status then [] else es
  let block := natLe 4 o.head.qid ++ natLe 1 status ++ natLe 1 o.head.metric ++ natLe 2 es.length ++ natLe 4 o.head.version ++ natLe 4 0 ++
    natLe 8 (coordNat b.now) ++ natLe 32 missing ++ natLe 8 0 ++ entryBytes es
  let b := b.bulkPost 2 o.result block
  let b := if 2 ≤ status then b.bumpSat SEARCH.FAILS else b
  b.when (bitAt o.head.flags 1) (fun b => b.raise (if 2 ≤ status then SEARCH.IRQ_RAW_FAILED else SEARCH.IRQ_RAW_DONE))

def Blk.lateMsg (b : Blk) : Blk := ((b.bumpSat SEARCH.LATE_MSG).raise SEARCH.IRQ_RAW_LATE_MSG).captureOwnFree Page.SEARCH seLate

/-- The final result goes toward the querier (spec/14 R355 stage 4). -/
def Blk.sendFinal (b : Blk) (m : QMeta) (p : QPart) : Blk :=
  if m.querier == b.get XROUTE.NODE_ID then
    (match b.search.own.find? (fun o => sameQuery o.head m) with
     | some o => b.completeOwn o p.status m.missing p.entries
     | none => b.lateMsg)
  else match childToward (b.get SEARCH.TREE0_RANK) 9 (rankOf m.missing m.querier) with
    | some c => b.sendTree (1 + c) (treeBytes 3 p.status p.entries.length m (entryBytes p.entries))
    | none => b.lateMsg

/-- ELEM of the shard that serves a version. -/
def Blk.elemOf (b : Blk) (version : Nat) : Nat := match b.slotOf version with | some s => hElem (b.slotHdr s) | none => 0

/-- Parts merged (spec/14 R351, R358). -/
def mergeParts (elem : Nat) (m : QMeta) (ps : List QPart) : QPart :=
  let worst := ps.foldl (fun a p => if (2 ≤ p.status && p.status ≤ 5) || p.status == 9 then max a p.status else a) 0
  if worst != 0 then ⟨worst, []⟩
  else ⟨if m.missing == 0 then qOk else qPartial, bestEntries m.metric elem m.k (ps.flatMap (fun p => p.entries))⟩

/-- A served query whose parts are all there is merged and sent on. -/
def Blk.finishServed (b : Blk) (s : ServedQuery) : Blk :=
  let need := fun (edge : Nat) (p : Option QPart) => p.isSome || !b.hasEdge edge
  if s.own.isNone || !need 1 s.child0 || !need 2 s.child1 then b
  else
    let p := mergeParts (b.elemOf s.head.version) s.head (s.own.toList ++ s.child0.toList ++ s.child1.toList)
    let b := b.setSearch { b.search with served := b.search.served.filter (fun x => !sameQuery x.head s.head) }
    if b.hasEdge 0 then b.sendTree 0 (treeBytes 2 p.status p.entries.length s.head (entryBytes p.entries)) else b.sendFinal s.head p

/-- A served query replaced, and finished if it can be. -/
def Blk.putServed (b : Blk) (s : ServedQuery) : Blk :=
  (b.setSearch { b.search with served := b.search.served.map (fun x => if sameQuery x.head s.head then s else x) }).finishServed s

/-- A query comes down to this node (spec/14 R353, R355): on to the children, and into the queue of the own shard. -/
def Blk.serveQuery (b : Blk) (m : QMeta) (vec : List Byte) : Blk :=
  let msg := treeBytes 1 0 0 m vec
  let b := (b.sendTree 1 msg).sendTree 2 msg
  let full := 32 ≤ b.inFlight && !b.search.own.any (fun o => sameQuery o.head m)
  let own : Option QPart := if full then some ⟨qBusy, []⟩ else if (b.slotOf m.version).isNone then some ⟨qVersion, []⟩ else none
  let s : ServedQuery := ⟨m, vec, own, none, none, none⟩
  (b.setSearch { b.search with served := b.search.served ++ [s] }).finishServed s

/-- A query reaches rank 0 (spec/14 R355, R358): SHARD_MISSING is decided here. -/
def Blk.queryAtRoot (b : Blk) (m : QMeta) (vec : List Byte) : Blk :=
  if m.missing != 0 && !bitAt m.flags 0 then b.sendFinal m ⟨qShardMissing, []⟩ else b.serveQuery m vec

/-- A query on its way up: to the parent, or down from here. -/
def Blk.queryUp (b : Blk) (m : QMeta) (vec : List Byte) : Blk :=
  if b.hasEdge 0 then b.sendTree 0 (treeBytes 1 0 0 m vec) else b.queryAtRoot m vec

/-! ### Commands -/

/-- SEARCH takes work. -/
def Blk.searchOn (b : Blk) : Bool := b.active Page.SEARCH && b.flag SEARCH.CFG_EN

/-- One posted descriptor (spec/14 R353, R355). -/
def Blk.postQuery (b : Blk) (d : List Byte) : Blk :=
  let b := b.bumpSat SEARCH.QUERIES
  let asked := leAt d 4 4
  let act := b.get SEARCH.ACTIVE_SLOT
  let version := if asked == 0 && b.inForce act then b.get (SEARCH.SLOT_VERSION act) else asked
  let m : QMeta := ⟨b.get XROUTE.NODE_ID, leAt d 13 1, leAt d 0 4, version, leAt d 8 2, leAt d 10 2, leAt d 12 1, leAt d 14 2, b.now,
    b.missing⟩
  let o : OwnQuery := ⟨m, leAt d 24 8⟩
  let fail := fun (b : Blk) status => b.completeOwn o status m.missing []
  if 32 ≤ b.inFlight then fail b qBusy
  else if !([0, 1].any (fun s => b.slotState s == slValid)) || (asked == 0 && !b.inForce act) then fail b qNoIndex
  else match b.slotOf version with
    | none => fail b qVersion
    | some s =>
      let h := b.slotHdr s
      let (c, vec, b) := b.bulkRead 2 (leAt d 16 8) (hVec h)
      if c != 0 then fail b qListLost
      else if queryBad h m vec then fail b qBadQuery
      else (b.setSearch { b.search with own := b.search.own ++ [o] }).queryUp m vec

/-- The descriptor at QRING_HEAD is taken. -/
def Blk.takeQuery (b : Blk) : Blk :=
  let head := b.get SEARCH.QRING_HEAD
  if head == b.get SEARCH.QRING_TAIL then b
  else
    let (c, d, b) := b.bulkRead 2 (b.get SEARCH.QRING_BASE_LO + 2 ^ 32 * b.get SEARCH.QRING_BASE_HI + 64 * head) 64
    if c != 0 then b else (b.set SEARCH.QRING_HEAD (head + 1)).postQuery d

/-- QUERY_POST (spec/14 R353): a write of QRING_TAIL. -/
def Blk.queryPost (b : Blk) (tail : Nat) : Blk :=
  let b := b.set SEARCH.QRING_TAIL tail
  if b.searchOn then b.each (List.range 64) (fun b _ => b.takeQuery) else b

/-- SEARCH consumes the entry at the head of its completion queue, unless that is the receive completion of another cell (spec/14
R356). -/
def Blk.takeMerge1 (b : Blk) (c cell : Nat) : Blk :=
  let head := b.get (XQP.CQ_HEAD c)
  if head == b.get (XQP.CQ_TAIL c) then b
  else
    let (r, d, b) := b.bulkRead 2 (b.get (XQP.CQ_BASE_LO c) + 2 ^ 32 * b.get (XQP.CQ_BASE_HI c) + 16 * head) 16
    if r != 0 || (leAt d 1 1 == 1 && leAt d 8 4 % 128 != cell) then b
    else (b.set (XQP.CQ_HEAD c) ((head + 1) % b.cqSize c)).drainCompletions

/-- The completions up to that of a cell's message are consumed. -/
def Blk.takeMerge (b : Blk) (cell : Nat) : Blk :=
  let c := b.get SEARCH.TREE1_MERGE_CQ
  let n := (b.get (XQP.CQ_TAIL c) + b.cqSize c - b.get (XQP.CQ_HEAD c)) % b.cqSize c
  if b.powered Page.XQP then b.each (List.range n) (fun b _ => b.takeMerge1 c cell) else b

/-- The message in an inbox cell, of `len` bytes, when its KIND is `kind` (spec/14 R356). -/
def Blk.readCell (b : Blk) (cell len kind : Nat) : Option (List Byte) × Blk :=
  let b := b.takeMerge cell
  let (c, d, b) := b.bulkRead 2 (b.inboxBase + cellBytes * (cell % 96)) (min len cellBytes)
  (if c == 0 && 64 ≤ d.length && leAt d 0 1 == kind then some d else none, b)

/-- TREE_QUERY_RECEIVE (spec/14 R355): from a child on its way up, from the parent on its way down. -/
def Blk.treeQuery (b : Blk) (cell len : Nat) : Blk :=
  if !b.searchOn then b
  else
    let (d, b) := b.readCell cell len 1
    match d with
    | none => b
    | some d => if cell % 96 < 32 then b.serveQuery (metaOfBytes d) (d.drop 64) else b.queryUp (metaOfBytes d) (d.drop 64)

/-- TREE_RESULT_RECEIVE (spec/14 R355, R358): a child's part. -/
def Blk.treeResult (b : Blk) (cell len : Nat) : Blk :=
  if !b.searchOn then b
  else
    let (d, b) := b.readCell cell len 2
    match d with
    | none => b
    | some d =>
      let m := metaOfBytes d
      let p : QPart := ⟨leAt d 1 1, entriesOfBytes (leAt d 16 2) (d.drop 64)⟩
      match b.search.served.find? (fun s => sameQuery s.head m) with
      | none => b.lateMsg
      | some s => b.putServed (if cell % 96 < 64 then { s with child0 := some p } else { s with child1 := some p })

/-- TREE_FINAL_RECEIVE (spec/14 R355, R359). -/
def Blk.treeFinal (b : Blk) (cell len : Nat) : Blk :=
  if !b.searchOn then b
  else
    let (d, b) := b.readCell cell len 3
    match d with
    | none => b
    | some d => b.sendFinal (metaOfBytes d) ⟨leAt d 1 1, entriesOfBytes (leAt d 16 2) (d.drop 64)⟩

/-- The engine prefetched the lists of some centroids for the scan that ends (spec/14 R362): those it read from staging count. -/
def Blk.notePrefetch (b : Blk) (s : Nat) (h : List Byte) (m : QMeta) (probes hits : List Nat) : Blk :=
  if !b.flag SEARCH.CFG_PF_EN || bitAt m.flags 2 then b
  else
    let used := probes.filter (fun c => hits.contains c)
    let pages := fun c => let (_, (a, n), _) := b.listAt s c h; (a / 4096, (a + n * (hVec h + 8)) / 4096)
    let fresh : List StagedList := used.map (fun c => ⟨s, c, (pages c).1, (pages c).2, b.ep.line⟩)
    let old := b.search.staged.filter (fun l => !(l.slot == s && used.contains l.centroid))
    (b.setSearch { b.search with staged := old ++ fresh }).addSat SEARCH.PF_HITS used.length

/-- The query whose turn it is: the oldest one without its own part, one at a time (spec/14 R355). -/
def Blk.scanTurn (b : Blk) : Option ServedQuery := b.search.served.find? (fun s => s.own.isNone)

/-- SHARD_SCAN_DONE (spec/14 R351, R355, R360): the scan of the query whose turn it is. `hits` are the centroids whose lists
were read from staging; `ccFail` a compare-and-count descriptor that ended in an error other than POISON. -/
def Blk.shardScanDone (b : Blk) (hits : List Nat) (ccFail : Bool) : Blk :=
  match b.scanTurn with
  | none => b
  | some s =>
    if !b.searchOn || s.held.isSome then b
    else match b.slotOf s.head.version with
      | none => b.putServed { s with own := some ⟨qVersion, []⟩ }
      | some slot =>
        if ccFail && s.head.metric == 0 then (b.captureOwnFree Page.SEARCH seCcFail).putServed { s with own := some ⟨qListLost, []⟩ }
        else
          let h := b.slotHdr slot
          let (e, probes, b) := b.scanShard slot s.head s.vec
          match e with
          | .wait => b
          | .part p => (b.notePrefetch slot h s.head probes hits).putServed { s with own := some p }
          | .fault => (b.captureOwnFree Page.SEARCH seCcFail).putServed { s with own := some ⟨qListLost, []⟩ }
          | .hold r =>
            (((b.bumpSat SEARCH.HELD).raise SEARCH.IRQ_RAW_LIST_HELD).captureOwnFree Page.SEARCH seHeld).putServed { s with held := some r }

/-- LIST_REREAD (spec/14 R360): every 8 line periods the unit that held a scan is read again. -/
def Blk.listReread (b : Blk) : Blk :=
  match b.search.served.find? (fun s => s.held.isSome && s.own.isNone) with
  | none => b
  | some s =>
    match s.held with
    | none => b
    | some r =>
      if !b.searchOn || b.linesSince r.tried < 8 then b
      else
        let (c, _, b) := match r.tile with
          | some t => if b.tileThere t then b.spmRead t r.addr r.len 9 else (0, [], b)
          | none => b.bulkRead 2 r.addr r.len
        b.putServed (if c == 0 then { s with held := none } else { s with held := some { r with tried := b.ep.line } })

/-- QUERY_TIMEOUT (spec/14 R359): every posted query past START + TIMEOUT. -/
def Blk.queryTimeout (b : Blk) : Blk :=
  if !b.powered Page.SEARCH then b
  else (b.search.own.filter (fun o => (o.head.timeout : Int) ≤ b.elapsed o.head.start)).foldl
    (fun b o => b.completeOwn o qTimeout o.head.missing []) b

/-- QUERY_ABANDON (spec/14 R359, R361): every served query past its abandonment point. A part abandoned without a hold carries
no entries and LIST_LOST too, so that no incomplete result counts as whole (R358; notes/assumptions/43). -/
def Blk.queryAbandon (b : Blk) : Blk :=
  if !b.powered Page.SEARCH then b
  else
    let early : Int := 2 * b.get SEARCH.TREE0_DEPTH * b.get SEARCH.TREE1_H
    let late : ServedQuery → Bool := fun s => s.own.isNone && decide ((s.head.timeout : Int) - early ≤ b.elapsed s.head.start)
    (b.search.served.filter late).foldl (fun b s =>
      let b := b.when s.held.isSome (fun b => b.captureOwnFree Page.SEARCH seLost)
      b.putServed { s with own := some ⟨qListLost, []⟩ }) b

/-- PREFETCH_AGE_EXPIRY (spec/14 R362). -/
def Blk.prefetchAge (b : Blk) : Blk :=
  b.setSearch { b.search with staged := b.search.staged.filter (fun l => b.linesSince l.used < b.get SEARCH.PF_AGE) }

/-- Registers whose SHL copies switch the tree: TREE0, TREE1, MISSING (spec/14 R359). -/
def isTreeKey (key : Nat) : Bool :=
  pageOf key == Page.SEARCH && (offOf key == 0x060 || offOf key == 0x064 || (0x0A0 ≤ offOf key && offOf key ≤ 0x0BC))

/-- The tree has switched (spec/14 R359). -/
def Blk.treeSwitched (b : Blk) : Blk :=
  let b := b.setSearch { b.search with served := [] }
  let own := b.search.own
  let b := own.foldl (fun b o => b.completeOwn o qTreeChanged o.head.missing []) b
  if own.isEmpty then b else b.raise SEARCH.IRQ_RAW_TREE_CHANGED

def noSearch : SearchSt := ⟨[[], []], [], [], [0, 0, 0], []⟩

/-- SEARCH in reset: no shard, no query. -/
def Blk.searchReset (b : Blk) : Blk := b.setSearch noSearch

end Sys2Proof.Machine
end

