-- ==== Sys2Proof/Machine/Reset.lean ====
section
/-! DEFINITION. Machine/Reset.lean: what a reset does to the blocks behind the register pages (spec/03 R62, R63, spec/16
R407, R409). -/

namespace Sys2Proof.Machine

/-! ### Blocks at their start -/

def noPower : PowerSt := ⟨1, false, none, none, none, none, 0⟩
def noSafe : SafeSt := ⟨[], [], [], [], [], [0, 0, 0, 0, 0], 0, none, false, false, [], [], []⟩
def noCores : CoreSt := ⟨0, none, none, 0, false, [], [], none, none⟩
def noFuse : FuseSt := ⟨none, 0, [], false, false, none, [], false⟩
def noSched : SchedSt :=
  ⟨[], [], [], [], [], false, false, [false, false, false, false], [0, 0, 0, 0], none⟩
def noClients : ClientSt := ⟨[], [], [], [], [], 0, none, none, [], 0, 0, [], [], []⟩
def noBulk : BulkSt := ⟨[], [], [], [], 0, [], [], [], []⟩
def noPack : PackSt := ⟨none, ⟨[], [], false⟩, none, [], [], [], []⟩
def noIsp : IspSt := ⟨[], [], [], 0⟩
def noFab : FabSt := ⟨[], [], [], [], []⟩
def noSpm : SpmSt := ⟨[], [], [], [], [], [], []⟩
def noEpoch : EpochSt :=
  { line := 0, frame := 0, base := 0, prevLen := 10000, pendMode := none, pendOwn := false, pendLate := false,
    pendSince := 0, syncMaster := false, ownMaster := false, phase := 0, freq := 0, lpAcc := 0, entered := 0, lastBeat := none, seq := 0,
    latest := [none, none, none, none], delayBad := [false, false, false, false], gotBeat := false, missed := 0,
    aligned := 0, holdLine := 0, holdLen := 0, syncMissed := 0, syncSeen := false, pulse := none, mapPrev := none,
    mapNow := false, stepped := false, haltPending := false }

/-! ### Tiles that are mapped out or lose power -/

/-- Every wait at a tile ends with a cause: a port's access, which halts its group; a mover descriptor; the fabric's; the tile's
own compare-and-count descriptors end with FAULT (spec/07 R171, R172, spec/10 R231, spec/12 R284, R291, spec/16 R409). -/
def Blk.endWaits (b : Blk) (t cause : Nat) : Blk :=
  let ws := (b.tile t).waits
  let b := b.setTile t { b.tile t with waits := ws.filter (fun w => w.req == 10 || w.req == 11) }
  let b := ws.foldl (fun b w =>
    if w.req ≤ 7 then b.portFault w.src w.port cause w.slot
    else if w.req == 9 then b.moverHalt w.src (if cause == tcMappedOut then mcMappedOut else cause) (some (b.moverDesc w.src))
    else if w.req == 10 then b.fabricWaitEnds t w (if cause == tcMappedOut then fcMappedOut else fcPower)
    else b) b
  b.ccFault t (fun _ => true)

/-- TILE_MAP_OUT (spec/07 R172): a running group halts with MAPPED_OUT, and so end the waits of every other requester. -/
def Blk.tileMapOut (b : Blk) (t : Nat) : Blk :=
  let b := b.set (TILE.TCTRL_MAP_OUT t) 1
  if b.tstate t == tsMappedOut then b
  else
    let b := (b.haltGroup t tcMappedOut).set (TILE.STATUS_TSTATE t) tsMappedOut
    (b.setTile t { b.tile t with checking := false }).endWaits t tcMappedOut

/-- A write of TCTRL (spec/07 R172, R173, R174). -/
def Blk.writeTctrl (b : Blk) (t v : Nat) : Blk :=
  let b := if bitAt v 3 then b.tileCancel t else b
  let b := if bitAt v 1 then b.tileRelease t else b
  let b := if bitAt v 0 then b.tileMapOut t else if b.flag (TILE.TCTRL_MAP_OUT t) then b.tileMapIn t else b
  if bitAt v 2 then b.tileSelfCheck t else b

/-- A tile's scratchpad is unpowered: its contents, tags and codes are gone (spec/07 R163, R164). -/
def Blk.dropScratch (b : Blk) (t : Nat) : Blk :=
  let s := b.spm
  { b with spm := { s with
    bytes := Tbl.clear s.bytes (fun k => k / 0x400000 == t), full := Tbl.clear s.full (fun k => k / 0x4000 == t)
    vote := Tbl.clear s.vote (fun k => k / 0x4000 == t), poison := Tbl.clear s.poison (fun k => k / 0x20000 == t)
    flips := Tbl.clear s.flips (fun k => k / 0x20000 == t), init := Tbl.clear s.init (fun k => k == t) } }

/-! ### One page -/

/-- What Erg knows of the fleet when it starts. -/
def noFleet : FleetSt :=
  ⟨none, [false, false, false, false], [0, 0, 0, 0], none, [], [], 0, none, none, false, false, 0, [], [], [], false, none, false, false, none, []⟩

/-- The block of a page after a reset: `off` when its domain has lost power; a cold reset clears the logs as well (STK). Its
registers are reset by themselves. -/
def Blk.unitReset (b : Blk) (kind : ResetKind) (off : Bool) (page : Nat) : Blk :=
  let cold := kind == .cold
  let ep := b.ep
  if page == Page.SAFE then
    { b with safe := { noSafe with slog := if cold then [] else b.safe.slog, windowAt := ep.line }, reports := [] }
  else if page == Page.TALLY then b.tallyReset
  else if page == Page.OASIS then b.setOasis noOasis
  else if page == Page.PWR then
    { b with power := { b.power with request := none, step := if cold then none else b.power.step, hot := 0 } }
  else if page == Page.FUSE then if cold then { b with fuse := { b.fuse with burn := none, resetWaits := 0 } } else b
  else if page == Page.SEN then { b with sen := senReset }
  else if page == Page.EPOCH then
    if cold then { b with ep := noEpoch }
    else
      let ep := { ep with pendMode := none, pendOwn := false, pendLate := false, pulse := none, mapPrev := none }
      { b with ep := { ep with mapNow := false, syncMissed := 0, syncSeen := false } }
  else if page == Page.CROUTE then b.crouteReset
  else if page == Page.ISP then if cold then { b with isp := noIsp } else b.ispSoftReset
  else if page == Page.ISPSTAT then { b with isp := { b.isp with published := [] } }
  else if 0x20 ≤ page && page < 0x30 then
    let t := page - 0x20
    if off then (((b.endGroupWaits t causePower).endWaits t causePower).dropScratch t).setTile t noTile
    else
      let b := b.tileSoftReset t
      if cold then b.setTile t noTile else b
  else if page == Page.SPM then { b with spm := { b.spm with plog := if cold then [] else b.spm.plog } }
  else if page == Page.MOVER then b.moverSoftReset
  else if page == Page.PACK then { b with pack := noPack }
  else if page == Page.BULK then
    if off then { b with bulk := noBulk }
    else if cold then { b with bulk := { noBulk with bytes := b.bulk.bytes, poison := b.bulk.poison, flips := b.bulk.flips } }
    else { b with bulk := { b.bulk with waits := [] } }
  else if 0x40 ≤ page && page < 0x44 then
    let p := page - 0x40
    let b := if lsIdent ≤ b.get (XPORT.STATUS_LSTATE p) && !off then b.portDown p else b
    { b with ports := setNth b.ports p noPort, ep := { b.ep with latest := setNth b.ep.latest p none
                                                                 delayBad := setNth b.ep.delayBad p false } }
  else if page == Page.XROUTE then
    { b with route := { b.route with tables := if cold then [] else b.route.tables, pending := none, held := [], own := [] } }
  else if page == Page.XQP then
    let b := b.xqpReset
    { b with fab := { b.fab with qlog := if cold then [] else b.fab.qlog } }
  else if page == Page.XEPOCH then
    { b with ep := { b.ep with entered := ep.line, lastBeat := none, gotBeat := false, missed := 0, aligned := 0,
                               latest := [none, none, none, none] } }
  else if page == Page.SEARCH then b.searchReset
  else if page == Page.HOST || page == Page.HOST + 1 then { b with macs := setNth b.macs (page - Page.HOST) noMac }
  else if page == Page.CAN || page == Page.CAN + 1 then { b with cans := setNth b.cans (page - Page.CAN) noCan }
  else if page == Page.CLIENT then { b with client := { noClients with healthAt := ep.line } }
  else if page == Page.SCHED then
    { b with sched := if cold then noSched else { noSched with words := b.sched.words, evt := b.sched.evt } }
  else if page == Page.CORE then
    { b with cores := { b.cores with kernels := [] }, fleet := if kind == .soft then b.fleet else noFleet }
  else if page == Page.JOURNAL then b.journalReset
  else b

/-- A reset of a kind of the pages that `p` picks: blocks first, as their ends read the registers, then registers. JOURNAL
starts recovering (spec/15 R395). Holding registers are cleared by a cold reset alone (spec/02 R36), staging registers by that
and with their page's domain (notes/assumptions/6). -/
def Blk.resetPages (b : Blk) (kind : ResetKind) (off : Bool) (p : Nat → Bool) : Blk :=
  let pages := assignedPages.filter p
  let b := b.each pages (fun b g => b.unitReset kind off g)
  let b := b.resetRegs kind p
  let gone := fun (k : Nat) => kind == .cold && p (k % 256)
  let b := { b with pages := Tbl.clear b.pages p, hold := Tbl.clear b.hold (fun k => gone k && !off), stage := Tbl.clear b.stage gone }
  let b := b.each (pages.filter (fun g => 0x20 ≤ g && g < 0x30 && !off)) (fun b g =>
    b.set (TILE.STATUS_TSTATE (g - 0x20)) (if b.flag (TILE.TCTRL_MAP_OUT (g - 0x20)) then tsMappedOut else tsIdle))
  b.when (pages.contains Page.JOURNAL && !off) (fun b => b.conf JOURNAL.J_CTRL_RECOVERING 1)

/-- The pages of a domain. -/
def inDomain (d page : Nat) : Bool := domainOf page == some d

/-- A domain loses power: work in progress ends with POWER for its requesters, its state is gone (spec/16 R402, R409). With SYS
the generator goes over to LP at this line-period boundary, with nothing accumulated (spec/02 R48), and SYNC_OUT is pulled low
(spec/17 R432). -/
def Blk.domainOff (b : Blk) (d : Nat) : Blk :=
  if !b.domainOn d then b
  else
    let b := { b with domOn := b.domOn - 2 ^ d }
    let b := b.when (d == 1) (fun b =>
      let b := { b with ep := { b.ep with lpAcc := 0, pulse := none } }
      b.emit (.syncOut b.syncOutLevel))
    b.resetPages .cold true (inDomain d)

/-- A domain becomes ON with its pages at their reset values (spec/16 R407); every granule of its tiles is re-initialised
(spec/07 R163). -/
def Blk.domainUp (b : Blk) (d : Nat) : Blk :=
  if b.domainOn d then b
  else
    let b := { b with domOn := b.domOn + 2 ^ d }
    let b := b.each (indicesWhere 16 (fun t => inDomain d (tilePage t))) (fun b t => b.setInit t (2 ^ 48 - 1))
    b.when (d == 1) (fun b =>
      let b := b.emit (.syncOut b.syncOutLevel)
      { b.conf JOURNAL.J_CTRL_RECOVERING 1 with safe := { b.safe with windowAt := b.ep.line } })

/-- SOFT_RESET of a page (spec/03 R62, R63): RESETTING until the block is idle; `en` leaves it enabled. SAFE takes none
(spec/20). -/
def Blk.softReset (b : Blk) (page : Nat) (en : Bool) : Blk :=
  if page == Page.SAFE then b
  else
    let b := b.resetPages .soft false (· == page)
    let b := b.when en (fun b => b.set (hEn page) 1)
    b.raise (hResetting page)

/-- SOFT_RESET_DONE (spec/03 R62). -/
def Blk.softResetDone (b : Blk) (page : Nat) : Blk := b.set (hResetting page) 0

end Sys2Proof.Machine
end

