-- ==== Sys2Proof/Machine/Power.lean ====
section
/-! DEFINITION. Machine/Power.lean: power modes, requests, steps, wakes and the loss of supply (spec/16 R402 to R416, R424). The
boot that follows a power-up of SYS stands in Machine/Boot.lean. -/

namespace Sys2Proof.Machine

def pwRefused : Nat := 1
def pwRailUv : Nat := 2
def pwResetPriv : Nat := 3

def Blk.setPower (b : Blk) (x : PowerSt) : Blk := { b with power := x }

/-- Domains that are ON in a mode (spec/16 Table 2); BULK of STANDBY apart. -/
def modeDomains (m : Nat) : Nat :=
  if m == 0 then 0 else if m == 1 then 0x01 else if m == 2 then 0x03 else if m == 3 then 0x9F else 0xFF

/-- Domains of a number, in the order they power up: SYS, BULK, PIX, ISP, TW, TE, FAB (spec/16 R409). -/
def powerOrder : List Nat := [0, 1, 7, 2, 3, 4, 5, 6]

/-! ### Requests -/

/-- The refusal of a request, 0 when it is accepted (spec/16 Table 4). -/
def Blk.modeRefusal (b : Blk) (target fmode : Nat) (atF : BitVec 32) : Nat :=
  if target == 0 || 4 < target || (target == 1 && b.power.mode < 1) then 1
  else if target == b.power.mode then 2
  else if b.power.trans.isSome then 3
  else if frameDiff atF b.ep.frame < 2 then 4
  else if target == 4 && 2 ≤ fmode then 5
  else 0

/-- GO (spec/16 R408). A request accepted earlier and not begun is replaced. With a step below WATCH every client learns that the
node will not be watching (spec/16 R404). -/
def Blk.modeGo (b : Blk) : Blk :=
  let target := b.get PWR.MODE_REQ_TARGET
  let fmode := b.get PWR.MODE_REQ_FMODE
  let atF := BitVec.ofNat 32 (b.get PWR.MODE_AT_F)
  let code := b.modeRefusal target fmode atF
  let b := (b.set PWR.REQ_STATUS_LAST_TARGET target).set PWR.REQ_STATUS_CODE code
  if code == 0 then
    let b := b.setPower { b.power with request := some ⟨target, fmode, atF⟩ }
    b.when (target < 3 && b.active Page.CLIENT) Blk.healthChanged
  else (b.raise PWR.IRQ_RAW_REQ_REFUSED).captureOwnFree Page.PWR pwRefused

/-- A write of MODE_REQ; a disabled PWR takes no request (spec/03 R62); the latest accepted one stands (notes/assumptions/46). -/
def Blk.writeModeReq (b : Blk) (v : Nat) : Blk :=
  let b := (b.set PWR.MODE_REQ_TARGET (bitsAt v 0 3)).set PWR.MODE_REQ_FMODE (bitsAt v 4 2)
  if bitAt v 31 && b.flag (hEn Page.PWR) then b.modeGo else b

/-- Once Erg runs after a wake it requests WAKE_TO, above STANDBY, 2 frames ahead (spec/16 R412, spec/17 R436,
notes/assumptions/103). -/
def Blk.wakeRequest (b : Blk) : Blk :=
  let target := b.get OASIS.WAKE_CTRL_WAKE_TO
  let fmode := if b.get OASIS.WAKE_CTRL_WAKE_FMODE == 1 then 1 else 0
  if !((target == 3 || target == 4) && b.ergRuns && b.power.mode == 2) then b
  else (b.set PWR.MODE_AT_F (b.ep.frame + 2).toNat).writeModeReq (target + 16 * (if target == 4 then fmode else 0) + 2 ^ 31)

/-! ### Steps -/

/-- PWR changes the frame mode (spec/16 R409, spec/02 R30). -/
def Blk.pwrFrameMode (b : Blk) (m : Nat) : Blk :=
  let b := { b with ep := { b.ep with pendMode := none, pendOwn := false, pendLate := false } }
  (b.set EPOCH.FRAME_MODE_MODE m).markChanged Page.EPOCH

/-- The node leaves its fleet at a step below RUN (spec/16 R409, spec/13 R333): FREE without epoch fault, its own master. -/
def Blk.stepOutOfFleet (b : Blk) : Blk :=
  let b := b.leaveFleet.setEpoch stFree
  { b with ep := { b.ep with ownMaster := true, pendMode := none, pendOwn := false, pendLate := false } }

/-- A frame mode that PWR has chosen: taken at once at an L0, else at the next (spec/16 R409, spec/02 R30). -/
def Blk.frameModeAtL0 (b : Blk) (m : Nat) : Blk :=
  if b.curL == 0 then b.pwrFrameMode m else b.setPower { b.power with frameAtL0 := some m }

/-- A step starts (spec/16 R409): a node in RUN leaves its fleet; the frame mode goes to 2, or to the request's for RUN, at this
L0 or the next; domains not in the target power down in their order, BULK to RET for STANDBY. -/
def Blk.startStep (b : Blk) (target fmode : Nat) : Blk :=
  let mode := b.power.mode
  let b :=
    if mode == 4 && target < 4 then b.stepOutOfFleet.frameModeAtL0 2
    else if target == 4 then b.frameModeAtL0 fmode
    else b
  let b := b.setPower { b.power with trans := some ⟨mode, target, b.ep.line, false⟩, step := none }
  let keep := modeDomains target
  let ret := target == 2 && 3 ≤ mode && b.domainOn 7
  let b := b.each powerOrder.reverse (fun b d =>
    if bitAt keep d then b
    else if d == 7 && target == 2 then
      if ret then
        { b.setPower { b.power with bulkRet := true } with
          domOn := b.domOn - 128, cores := { b.cores with stoppedAt := some b.ep.line } }
      else b
    else b.domainOff d)
  if target == 1 then (b.setPower { b.power with bulkRet := false }).resetPages .cold true (inDomain 7) else b

/-- MODE_STEP (spec/16 R409, R415): a step with no AT_F first, else a request whose AT_F:L0 is reached, which a frozen PWR does
not start (spec/16). -/
def Blk.modeStep (b : Blk) : Blk :=
  if b.power.trans.isSome then b
  else
    match b.power.step, b.power.request with
    | some target, _ => if target < b.power.mode then b.startStep target 2 else b.setPower { b.power with step := none }
    | none, some r =>
      if coordReached b.now ⟨r.atF, 0⟩ && b.active Page.PWR then
        (b.setPower { b.power with request := none }).startStep r.target r.fmode
      else b
    | none, none => b

/-- The Erg cores go on where they stopped: what was counted while they ran goes on with them (spec/16 R403, spec/18 R466). -/
def Blk.ergResume (b : Blk) : Blk :=
  match b.cores.stoppedAt with
  | none => b
  | some l =>
    let c := b.cores
    let gap := BitVec.ofNat 48 (b.linesSince l)
    { b with cores := { c with stoppedAt := none, kickedAt := c.kickedAt + gap, startedAt := c.startedAt.map (· + gap)
                               readyAt := c.readyAt.map (· + gap) } }

/-- MODE_DONE (spec/16 R409): the target's domains are ON, a wake's BULK included. With it whether SYS has powered up. -/
def Blk.modeDone (b : Blk) : Bool × Blk :=
  match b.power.trans with
  | none => (false, b)
  | some t =>
    let sysWas := b.domainOn 1
    let want := if t.wake then modeDomains t.target ||| 128 else modeDomains t.target
    let fabWas := b.domainOn 6
    let b := b.each powerOrder (fun b d => if bitAt want d then b.domainUp d else b)
    let b := b.setPower { b.power with mode := t.target, trans := none, bulkRet := b.power.bulkRet && !b.domainOn 7 }
    let b := b.when (!fabWas && b.domainOn 6) (fun b => { b with ep := { b.ep with ownMaster := false, entered := b.ep.line } })
    let b := b.when (b.powered Page.PWR) (fun b =>
      (b.raise PWR.IRQ_RAW_MODE_DONE).set PWR.TRANS_LAST (b.linesSince t.since % 2 ^ 24))
    let up := !sysWas && b.domainOn 1
    let b := b.when (b.domainOn 7) Blk.ergResume
    (up, b.when (t.wake && !up) Blk.wakeRequest)

/-- PWR.STATUS[31:16] as it reads. -/
def Blk.pwrStatus (b : Blk) : Nat :=
  b.power.mode + 8 * bitNat b.power.trans.isSome + 16 * b.domOn

/-! ### Waking -/

/-- WAKE_START (spec/16 R412, R413): the active sources are recorded with the mode left; from DORMANT, and from STANDBY with
BULK in RET, the up-steps towards STANDBY begin; in STANDBY with BULK ON Erg runs already and requests WAKE_TO. RESET_CAUSE tells why SYS will power up (spec/16 Table 3, spec/17 R436). -/
def Blk.wakeStart (b : Blk) : Blk :=
  let o := b.oasis
  if b.power.trans.isSome || o.wake == 0 then b
  else if b.power.mode == 1 || b.power.mode == 2 then
    let m := b.power.mode
    let b := (b.set OASIS.WAKE_SRC_SRC o.wake).set OASIS.WAKE_SRC_FROM_MODE m
    let b := b.set OASIS.STATUS_POWER_FAIL 0
    let why := if bitAt o.wake 3 && o.supply == 1 then 0 else if bitAt o.wake 3 && o.supply == 2 then 5 else 4
    let b := b.when (m == 1) (fun b => b.set OASIS.RESET_CAUSE why)
    let b := b.setOasis { b.oasis with wake := 0, supply := 0 }
    if m == 1 || b.power.bulkRet then b.setPower { b.power with trans := some ⟨m, 2, b.ep.line, true⟩ } else b.wakeRequest
  else b.setOasis { o with wake := 0 }

/-- SUPPLY_GOOD (spec/16 R415, spec/17 R436): VIN_OK and HOLD_OK have held for 1 s, after a start from OFF or a power fail. -/
def Blk.supplyGood (b : Blk) : Blk :=
  if b.powered Page.OASIS && ticksPerSec ≤ b.oasis.good && b.oasis.supply != 0 then
    let b := if b.oasis.supply == 1 then b.setOasis { b.oasis with wake := b.oasis.wake ||| 8 } else b.wakeSource 3
    b.wakeStart
  else b

/-! ### Supply loss, rails, temperature -/

/-- POWER_FAIL_SHUTDOWN (spec/16 R415): with POWER_FAIL set PWR steps to DORMANT, whatever step was in progress. -/
def Blk.powerFailShutdown (b : Blk) : Blk :=
  let down := match b.power.trans with | some t => t.target ≤ 1 | none => b.power.mode ≤ 1
  if b.powered Page.OASIS && b.flag OASIS.STATUS_POWER_FAIL && !down then
    (b.setPower { b.power with trans := none }).startStep 1 2
  else b

/-- OASIS_POWER_LOSS (spec/16 R415, R422, spec/17 R441): the node is OFF. -/
def Blk.oasisLoss (b : Blk) : Blk :=
  if !b.powered Page.OASIS then b
  else
    let b := b.each powerOrder.reverse Blk.domainOff
    let kept := b.tally.stored
    { b with power := { noPower with mode := 0 }, bulk := noBulk, tally := ⟨0, false, 0, kept⟩ }

/-- POWER_ON (spec/17 R436): OASIS powers up from OFF with a cold reset and RESET_CAUSE 0. -/
def Blk.powerOn (b : Blk) : Blk :=
  if b.power.mode != 0 || b.powered Page.OASIS then b
  else
    let b := b.resetPages .cold true (fun _ => true)
    { b with domOn := 1, power := noPower, oasis := noOasis }

/-- RAIL_UNDERVOLTAGE (spec/16 R416). -/
def Blk.railLow (b : Blk) (d : Nat) : Blk :=
  if d < 8 && b.domainOn d && b.powered Page.PWR then
    let b := b.set PWR.RAIL_UV (b.get PWR.RAIL_UV ||| 2 ^ d)
    ((b.raise PWR.IRQ_RAW_RAIL_UV).captureOwnFree Page.PWR pwRailUv).report 0x0B Page.PWR
  else b

/-- TEMP_MAX at an L0 (spec/17 R438): consecutive samples at 125 °C or more, in 0.25 °C. -/
def Blk.countHot (b : Blk) : Blk :=
  let hot := b.powered Page.SEN && decide (500 ≤ signedOf 16 (b.get SEN.TEMP_MAX))
  b.setPower { b.power with hot := if hot then b.power.hot + 1 else 0 }

/-- THERMAL_TRIP (spec/17 R438): reported, tally 4001h, and a step to STANDBY with no AT_F at the next line period. -/
def Blk.thermalTrip (b : Blk) : Blk :=
  if 4 ≤ b.power.hot && 2 < b.power.mode then
    let b := b.report 0x0C Page.SEN
    (b.setPower { b.power with step := some 2, hot := 0 }).tallyFault 0x4001
  else b

/-! ### Wake records -/

/-- WAKE_EVENT_APPEND (spec/16 R424, spec/15 R388): the oldest record, once, to every context that subscribes. -/
def Blk.wakeEvent (b : Blk) : Blk :=
  match b.oasis.recs with
  | r :: rest =>
    if b.active Page.CLIENT && b.flag CLIENT.CL_CTRL_SERVICE && r.sentTo.isNone then
      let body := natLe 2 r.pattern ++ natLe 1 r.macroPix ++ natLe 1 r.fromMode ++ natLe 2 r.flashes ++ natLe 10 0
      let item := b.itemBytes 8 0xFF r.coord body
      let ks := b.openClients.filter (fun k => b.subscribes k item)
      if ks.isEmpty then b.setRecs rest
      else
        let seqs := ks.map (fun k => (k, (b.cl k).nextSeq))
        let b := b.each ks (fun b k => b.appendItem k item true false)
        b.setRecs ({ r with sentTo := some seqs } :: rest)
    else b
  | [] => b

/-- The oldest record is freed when every context has acknowledged its item (spec/16 R424). -/
def Blk.wakeAcked (b : Blk) : Blk :=
  match b.oasis.recs with
  | r :: rest =>
    match r.sentTo with
    | some seqs => if seqs.any (fun e => (b.cl e.1).buf.any (fun i => i.seq == e.2)) then b else b.setRecs rest
    | none => b
  | [] => b

/-- A reset of CLIENT: held records are appended again (spec/16 R424). -/
def Blk.wakeAgain (b : Blk) : Blk :=
  b.setOasis { b.oasis with recs := b.oasis.recs.map (fun r => { r with sentTo := none }) }

end Sys2Proof.Machine
end

