-- ==== Sys2Proof/Machine/Monitor.lean ====
section
/-! DEFINITION. Machine/Monitor.lean: the safety monitor (spec/20): causes, the safe state, canaries and walks, the ready gate,
clocks and liveness. -/

namespace Sys2Proof.Machine

def ssNotReady : Nat := 0
def ssWatching : Nat := 1
def ssSafe : Nat := 2

/-- Release kinds (spec/20 R506). -/
inductive ReleaseKind where
  | c | s | h | r
deriving DecidableEq, Repr

/-- Release kind of a cause code (spec/20 Table 2). -/
def kindOf (code : Nat) : ReleaseKind :=
  if code == 0x07 || code == 0x0A || code == 0x11 then .h
  else if code == 0x08 || code == 0x09 then .r
  else if code == 0x03 || code == 0x0F then .s
  else .c

/-- A cause's release kind: forced ones are released as S unless their own kind is H or R (spec/20 R504). -/
def SafeCause.kind (c : SafeCause) : ReleaseKind :=
  match kindOf c.code with
  | .h => .h
  | .r => .r
  | k => if c.forced then .s else k

def Blk.setSafe (b : Blk) (x : SafeSt) : Blk := { b with safe := x }
def Blk.sstate (b : Blk) : Nat := b.get SAFE.STATUS_SSTATE

/-- SSTATE, and SAFE_N open in WATCHING only (spec/20 R501). -/
def Blk.setSstate (b : Blk) (s : Nat) : Blk :=
  (b.set SAFE.STATUS_SSTATE s).set SAFE.STATUS_SAFE_N_OPEN (bitNat (s == ssWatching))

/-- CAUSE_ACTIVE and CAUSE_FORCED follow the causes in force. -/
def Blk.setCauses (b : Blk) (cs : List SafeCause) : Blk :=
  let b := b.setSafe { b.safe with causes := cs }
  let b := b.set SAFE.CAUSE_ACTIVE (maskOf 17 (fun i => cs.any (fun c => c.code == i + 1)))
  let b := b.set SAFE.CAUSE_FORCED (maskOf 17 (fun i => cs.any (fun c => c.code == i + 1 && c.forced)))
  b.set SAFE.STATUS_FORCED_ACTIVE (bitNat (cs.any (fun c => c.forced)))

/-- An entry of the safety log (spec/20 SLOG_HEAD). -/
def Blk.safeLog (b : Blk) (e : SlogEntry) : Blk :=
  let at_ := b.get SAFE.SLOG_HEAD_NEXT
  let used := (Tbl.get (dflt none) b.safe.slog at_).isSome
  (b.setSafe { b.safe with slog := Tbl.put (dflt none) b.safe.slog at_ (some e) }).ringStep SAFE.SLOG_HEAD_NEXT SAFE.SLOG_HEAD_OVF used

/-- FIRST and FIRST_AT of an entry. -/
def Blk.setFirst (b : Blk) (c : SafeCause) : Blk :=
  let b := ((b.set SAFE.FIRST_CAUSE c.code).set SAFE.FIRST_SOURCE_PAGE c.page).set SAFE.FIRST_FORCED (bitNat c.forced)
  let n := coordNat b.now
  (b.set SAFE.FIRST_AT_LO (n % 2 ^ 32)).set SAFE.FIRST_AT_HI (n / 2 ^ 32)

/-- Entry to SAFE (spec/20 R502): SAFE_N closes, HEALTH to every OPEN context, safe frames on CAN, FIRST, the log, ENTRY_COUNT,
and a tally update with 3000h + the cause. -/
def Blk.enterSafe (b : Blk) (c : SafeCause) : Blk :=
  let b := (b.setSstate ssSafe).setFirst c
  let b := (b.safeLog ⟨c.code, c.page, c.forced, false, 0xFF, coordNat b.now⟩).bumpSat SAFE.ENTRY_COUNT
  let b := b.raise SAFE.IRQ_RAW_ENTERED
  let b := b.when (b.powered Page.CLIENT) (fun b =>
    let b := b.appendHealth
    { b with client := { b.client with safeAt := some b.ep.line } })
  ((b.canSafeFrame 0).canSafeFrame 1).tallyFault (0x3000 + c.code)

/-- A cause becomes active, or its source is raised again (spec/20 R501, R504, R505). A real source takes the place of a forced
one. -/
def Blk.causeOn (b : Blk) (code page : Nat) (forced : Bool) (tile : Nat) : Blk :=
  match b.safe.causes.findIdx? (fun c => c.code == code) with
  | some i =>
    b.setCauses (b.safe.causes.modify i (fun c => { c with again := true, forced := c.forced && forced }))
  | none =>
    let c : SafeCause := ⟨code, page, forced, tile, b.ep.line, 0, true⟩
    let b := b.setCauses (b.safe.causes ++ [c])
    if b.sstate != ssSafe then b.enterSafe c
    else
      let n := coordNat b.now
      let same := b.get SAFE.FIRST_AT_LO == n % 2 ^ 32 && b.get SAFE.FIRST_AT_HI == n / 2 ^ 32
      if same && code < b.get SAFE.FIRST_CAUSE then (b.setFirst c).tallyFault (0x3000 + code) else b

/-- A report is taken up. TC_OFF counts in RUN and WATCH only (spec/20 Table 2); a tile condemned by its self-check fails its
evaluations (R510), and so does one whose IRQ bit is forced; code 0 is logged and is no cause (spec/11 R274). -/
def Blk.takeReport (b : Blk) (r : SafeReport) : Blk :=
  if r.cause == 0x02 && b.power.mode < 3 && !r.forced then b
  else if r.cause == 0x00 then b.safeLog ⟨0, r.page, r.forced, false, 0xFF, coordNat b.now⟩
  else if r.cause == 0x04 && r.tile < 16 then
    let others := b.safe.condemnedForced.filter (· != r.tile)
    let real := b.safe.condemned.contains r.tile && !b.safe.condemnedForced.contains r.tile
    b.setSafe { b.safe with
      condemned := r.tile :: b.safe.condemned.filter (· != r.tile)
      condemnedForced := if r.forced && !real then r.tile :: others else others }
  else b.causeOn r.cause r.page r.forced r.tile

/-- Reports in ascending code (spec/20 R504: FIRST takes the lowest). -/
def insertReport (r : SafeReport) : List SafeReport → List SafeReport
  | [] => [r]
  | x :: xs => if r.cause < x.cause then r :: x :: xs else x :: insertReport r xs

/-- SAFE_CAUSE_ACTIVE (spec/20 R501, R504): the monitor takes up what the blocks have reported. -/
def Blk.causesActive (b : Blk) : Blk :=
  let rs := b.reports.foldl (fun acc r => insertReport r acc) []
  let b := { b with reports := [] }
  if b.powered Page.SAFE then rs.foldl Blk.takeReport b else b

/-! ### Canary and walks (spec/20 R507 to R510) -/

/-- A tile is eligible: domain ON, not mapped out. -/
def Blk.eligible (b : Blk) (t : Nat) : Bool := b.powered (tilePage t) && b.tstate t != tsMappedOut

def noWalk : WalkSt := ⟨0, 0, false, false, 0⟩
def Blk.walk (b : Blk) (t step : Nat) : WalkSt := Tbl.get (dflt noWalk) b.safe.walks (t * 64 + step)

/-- A canary or walk group's signature is latched at GROUP_DONE (spec/20 R507, R510). -/
def Blk.latchSignature (b : Blk) (t group : Nat) (sig : Word) : Blk :=
  let b := b.setSafe { b.safe with sigs := if group == 0xFFFF then Tbl.put (dflt none) b.safe.sigs t (some sig) else b.safe.sigs }
  if group == 0xFFFF then b.setWord (SAFE.CANARY_SIG t).key sig
  else
    let step := group - 0xFF00
    let w := b.walk t step
    let f := b.ep.frame.toNat % 65536
    let fail := w.learned && sig != w.last
    let w' : WalkSt := if w.learned then { w with last := sig, fail := fail, f := f } else ⟨sig, sig, true, false, f⟩
    b.setSafe { b.safe with
      walks := Tbl.put (dflt noWalk) b.safe.walks (t * 64 + step) w'
      walkBad := if fail then t :: b.safe.walkBad else b.safe.walkBad }

/-- GROUP_END (spec/07 R172, spec/20 R507): the tile is IDLE, GROUP_DONE, its signature latched, SCHED told. -/
def Blk.groupEnd (b : Blk) (t : Nat) : Blk :=
  if t < 16 && b.powered (tilePage t) && b.tstate t == tsRun then
    let g := b.get (TILE.GROUP_STATUS_GROUP t)
    let sig := (b.tile t).canary
    let b := (b.set (TILE.STATUS_TSTATE t) tsIdle).raise (TILE.IRQ_RAW_GROUP_DONE t)
    let b := b.setTile t { b.tile t with canary := none }
    let b := match sig with
      | some c => if b.powered Page.SAFE then b.latchSignature t g (c ^^^ 0xFFFFFFFF#32) else b
      | none => b
    if b.powered Page.SCHED then b.groupDone t g else b
  else b

/-- Consecutive failing evaluations of a tile (FAIL_RUN). -/
def failRun (t : Nat) : Fld := ⟨(if t < 8 then SAFE.FAIL_RUN_LO.key else SAFE.FAIL_RUN_HI.key), 4 * (t % 8), 4⟩

/-- The value held by more than half of the eligible tiles (spec/20 R510). -/
def majority (n : Nat) (sigs : List Word) : Option Word := sigs.find? (fun v => n < 2 * (sigs.filter (· == v)).length)

/-- The evaluation at an L0 (spec/20 R510, notes/assumptions/44). -/
def Blk.canaryEval (b : Blk) : Blk :=
  let el := indicesWhere 16 b.eligible
  let sig := fun t => Tbl.get (dflt none) b.safe.sigs t
  let m := majority el.length (el.filterMap sig)
  let valid := b.flag SAFE.STATUS_REF_VALID
  let ref := b.word SAFE.CANARY_REF.key
  let b :=
    if !valid then
      match m with
      | some v => (b.setWord SAFE.CANARY_REF.key v).set SAFE.STATUS_REF_VALID 1
      | none => b
    else if m == some ref then b
    else b.causeOn 0x03 Page.SAFE false 0xFF
  let valid := b.flag SAFE.STATUS_REF_VALID
  let ref := b.word SAFE.CANARY_REF.key
  let condemned := b.safe.condemned.filter (fun t => el.contains t)
  let forced := b.safe.condemnedForced.filter (fun t => el.contains t)
  let wrong := fun (t : Nat) => b.safe.walkBad.contains t || (match sig t with | none => true | some v => valid && v != ref)
  let bad := fun (t : Nat) => condemned.contains t || wrong t
  let fails := el.filter bad
  let pass := el.filter (fun t => !bad t)
  let b := (b.set SAFE.CANARY_STATUS_PASS (maskOf 16 pass.contains)).set SAFE.CANARY_STATUS_FAIL (maskOf 16 fails.contains)
  let b := b.set SAFE.CANARY_MISSING (maskOf 16 (fun t => el.contains t && (sig t).isNone))
  let b := b.each (List.range 16) (fun b t => if fails.contains t then b.bumpSat (failRun t) else b.set (failRun t) 0)
  let b := b.each fails (fun b t =>
    (b.safeLog ⟨0, Page.SAFE, false, false, t, Tbl.get (dflt 0) b.safe.passed t⟩).raise SAFE.IRQ_RAW_TILE_FAIL)
  let now := coordNat b.now
  let b := b.when fails.isEmpty (fun b => b.set SAFE.LAST_PASS_F b.ep.frame.toNat)
  let b := b.setSafe { b.safe with
    sigs := [], walkBad := [], condemned := condemned, condemnedForced := forced, canaryOk := valid && fails.isEmpty
    passed := pass.foldl (fun tb t => Tbl.put (dflt 0) tb t now) b.safe.passed }
  let late := el.filter (fun t => 3 ≤ b.get (failRun t))
  b.when (!late.isEmpty) (fun b => b.causeOn 0x04 Page.SAFE (late.all (fun t => forced.contains t && !wrong t)) 0xFF)

/-- A SCHED bank switch clears REF and the learned walk values after the evaluation of its L0 (spec/20 R510, R517). -/
def Blk.forgetRef (b : Blk) : Blk :=
  ((b.set SAFE.STATUS_REF_VALID 0).setWord SAFE.CANARY_REF.key 0).setSafe { b.safe with walks := [] }

/-- SCHED has switched banks (spec/20 R506, R510). -/
def Blk.noteSwitch (b : Blk) : Blk :=
  if b.powered Page.SAFE then
    let b := b.setSafe { b.safe with switchedAt := some b.ep.line }
    b.when (b.curL != 0) Blk.forgetRef
  else b

/-! ### L0 -/

/-- The frame's reference rows passed both checks (spec/20 R503). -/
def Blk.refPassed (b : Blk) : Bool :=
  b.powered Page.SEN && b.get SEN.REF_STATUS_F == (b.ep.frame - 1).toNat && !b.flag SEN.REF_STATUS_TC_FAIL &&
    !b.flag SEN.REF_STATUS_OB_FAIL && b.flag SEN.TC_CTRL_EN

/-- A kind-C cause's condition at this L0 (spec/20 R505). -/
def Blk.causeHolds (b : Blk) (c : SafeCause) : Bool :=
  c.again || (c.code == 0x01 && !c.forced && b.flag SEN.STATUS_REF_FAULT)

/-- A cause is released at this L0 (spec/20 R506). -/
def Blk.causeReleased (b : Blk) (c : SafeCause) : Bool :=
  match c.kind with
  | .c => max 1 (b.get SAFE.SAFE_CTRL_RELEASE_FRAMES) ≤ c.quiet
  | .s => b.safe.switchedAt.isSome && !c.again && b.frameLen ≤ b.linesSince c.since
  | _ => false

/-- Releases at an L0 (spec/20 R505, R506); with none left the state is NOT_READY. -/
def Blk.releaseCauses (b : Blk) : Blk :=
  let cs := b.safe.causes.map (fun c => { c with quiet := if b.causeHolds c then 0 else c.quiet + 1 })
  let gone := cs.filter b.causeReleased
  let stay := (cs.filter (fun c => !b.causeReleased c)).map (fun c => { c with again := false })
  let b := b.setCauses stay
  let b := gone.foldl (fun b c =>
    (b.safeLog ⟨c.code, c.page, c.forced, true, 0xFF, coordNat b.now⟩).raise SAFE.IRQ_RAW_RELEASED) b
  if b.sstate == ssSafe && stay.isEmpty then
    let b := b.setSstate ssNotReady
    let b := { b with client := { b.client with safeAt := none } }
    b.when (b.powered Page.CLIENT) Blk.healthChanged
  else b

/-- The ready gate but for "no cause active" (spec/20 R503). -/
def Blk.readyGate (b : Blk) : Bool :=
  decide (3 ≤ b.power.mode) && b.flag SCHED.SCHED_CTRL_RUN && b.flag CLIENT.CL_CTRL_SERVICE && b.refPassed && b.safe.canaryOk

/-- NOT_READY and WATCHING (spec/20 Table 1). At the L0 of a bank switch no node becomes WATCHING: REF is cleared there. -/
def Blk.watchGate (b : Blk) : Blk :=
  if b.sstate == ssNotReady && b.readyGate && b.safe.causes.isEmpty && b.flag SAFE.STATUS_REF_VALID then b.setSstate ssWatching
  else if b.sstate == ssWatching && !b.readyGate then b.setSstate ssNotReady
  else b

/-- Erg liveness (spec/20 R513): ALIVE written since (F − 2):L0. -/
def Blk.livenessL0 (b : Blk) : Blk :=
  if 3 ≤ b.power.mode && b.flag SCHED.SCHED_CTRL_RUN &&
      decide (frameDiff (BitVec.ofNat 32 (b.get SAFE.ALIVE_STATUS_F)) b.ep.frame < -2) then
    (b.raise SAFE.IRQ_RAW_ERG_SILENT).causeOn 0x0D Page.SAFE false 0xFF
  else b

/-- What the monitor does at each L0 (spec/20 R503, R505, R506, R510, R513). A canary is due where SCHED ran at the previous
L0. -/
def Blk.safetyL0 (b : Blk) : Blk :=
  if !b.powered Page.SAFE || b.curL != 0 then b
  else
    let b := b.livenessL0
    let b := if b.safe.runBefore && 3 ≤ b.power.mode then b.canaryEval
      else b.setSafe { b.safe with sigs := [], walkBad := [], canaryOk := false }
    let b := b.causesActive
    let b := b.when (b.safe.switchedAt == some b.ep.line) Blk.forgetRef
    let b := b.releaseCauses
    let b := b.watchGate
    b.setSafe { b.safe with switchedAt := none, runBefore := b.flag SCHED.SCHED_CTRL_RUN }

/-! ### Clocks (spec/20 R512) -/

/-- Expected counts of a window: TW, TE, SYS, ISP, REF (spec/20 Table 3). -/
def clockExpected : List Nat := [1953125, 1953125, 976562, 1171875, 97656]

/-- Domain of a clock of the list. -/
def clockDomain (i : Nat) : Nat := if i == 0 then 4 else if i == 1 then 5 else if i == 3 then 3 else 1

/-- A count outside ±2 %. -/
def clockOut (i count : Nat) : Bool :=
  let e := nth clockExpected i 0
  decide (50 * (Int.ofNat count - Int.ofNat e).natAbs > e)

/-- CLOCK is raised. -/
def Blk.clockFault (b : Blk) : Blk := (b.raise SAFE.IRQ_RAW_CLOCK).causeOn 0x08 Page.SAFE false 0xFF

/-- CLOCK_WINDOW (spec/20 R512): the counts of a window, in the order TW, TE, SYS, ISP, REF. -/
def Blk.clockWindow (b : Blk) (counts : List Nat) : Blk :=
  if !b.powered Page.SAFE then b
  else
    let out := fun i => b.domainOn (clockDomain i) && clockOut i (nth counts i 0)
    let bad := (List.range 5).map (fun i => if out i then nth b.safe.clockBad i 0 + 1 else 0)
    let b := b.setSafe { b.safe with clockBad := bad, windowAt := b.ep.line }
    let b := b.setWord SAFE.CLOCK_STATUS_TW.key (BitVec.ofNat 32 (maskOf 5 out))
    let b := match (List.range 5).find? out with
      | some i => b.set SAFE.CLOCK_LAST (nth counts i 0)
      | none => b
    b.when (bad.any (2 ≤ ·)) Blk.clockFault

/-- CLOCK_STALL (spec/20 R512): no window has ended within 4.0 ms, 1,200 line periods. -/
def Blk.clockStall (b : Blk) : Blk :=
  if b.powered Page.SAFE && 1200 ≤ b.linesSince b.safe.windowAt then (b.set SAFE.CLOCK_STATUS_OASIS 1).clockFault else b

/-! ### The safety reset (spec/20 R506) -/

/-- SAFETY_WARM_RESET: WARM_DELAY after a kind-R entry. True when the monitor warm-resets now. -/
def Blk.safetyReset (b : Blk) : Bool × Blk :=
  let due := fun (c : SafeCause) => c.kind == .r && decide (b.get SAFE.SAFE_CTRL_WARM_DELAY ≤ b.linesSince c.since)
  match b.safe.causes.find? due with
  | none => (false, b)
  | some c =>
    if b.get SAFE.SAFE_CTRL_RESET_MAX ≤ b.get SAFE.SAFETY_RESETS then (false, b.raise SAFE.IRQ_RAW_RESET_HELD)
    else (true, (b.bumpSat SAFE.SAFETY_RESETS).safeLog ⟨c.code, Page.PWR, c.forced, false, 0xFF, coordNat b.now⟩)

/-! ### Views -/

/-- WALK_REF, WALK_LAST and WALK_STATUS of the step selected. -/
def Blk.walkWord (b : Blk) (i : Nat) : Word :=
  let w := b.walk (b.get SAFE.WALK_SEL_TILE) (b.get SAFE.WALK_SEL_STEP)
  if i == 0 then w.ref else if i == 1 then w.last
  else BitVec.ofNat 32 (bitNat w.learned + 2 * bitNat w.fail + w.f * 65536)

/-- SLOG_DATA0 to 2 of the entry selected. -/
def Blk.slogWord (b : Blk) (i : Nat) : Word :=
  let e := (Tbl.get (dflt none) b.safe.slog (b.get SAFE.SLOG_SEL)).getD ⟨0, 0, false, false, 0, 0⟩
  if i == 0 then
    BitVec.ofNat 32 (e.cause + e.page * 256 + bitNat e.forced * 65536 + bitNat e.release * 131072 + e.tile * 2 ^ 24)
  else if i == 1 then BitVec.ofNat 32 e.coord else BitVec.ofNat 32 (e.coord / 2 ^ 32)

end Sys2Proof.Machine
end

