-- ==== Sys2Proof/Machine/Otp.lean ====
section
/-! DEFINITION. Machine/Otp.lean: the OTP array (spec/19 R474 to R477): its code, its word map, what it says of the life
cycle, of keys and of the anti-rollback counts. -/

namespace Sys2Proof.Machine

/-- An OTP word: data bits [31:0], check bits 0 to 6 in [38:32] (spec/19 R474). -/
abbrev OtpWord := BitVec 39

/-- The array; an unlisted word is blank. -/
abbrev Otp := Tbl OtpWord

def otpWord (o : Otp) (w : Nat) : OtpWord := Tbl.get (dflt 0) o w

/-! ### The code (R474) -/

/-- Positions 1 to 38 that hold data, ascending: all but the powers of 2. -/
def dataPositions : List Nat := (List.range 39).filter (fun p => !([0, 1, 2, 4, 8, 16, 32].contains p))

/-- Check bit `i`, 0 to 5, of 32 data bits. -/
def checkBit (d : BitVec 32) (i : Nat) : Bool :=
  (List.range 32).foldl (fun acc j => acc ^^ (bitAt (nth dataPositions j 0) i && d.getLsbD j)) false

/-- The codeword of data. -/
def otpEncode (d : BitVec 32) : OtpWord :=
  let cs := (List.range 6).map (checkBit d)
  let all := (List.range 32).foldl (fun acc j => acc ^^ d.getLsbD j) false
  let last := cs.foldl (· ^^ ·) all
  let checks := maskOf 7 (fun i => if i < 6 then nth cs i false else last)
  BitVec.ofNat 39 (d.toNat + checks * 2 ^ 32)

/-- What a value word reads as (R476). -/
inductive OtpRead where
  | good (data : BitVec 32)
  | corrected (data : BitVec 32)
  | bad
deriving DecidableEq, Repr

/-- Value of the bit at a position of a codeword. -/
def positionBit (w : OtpWord) (p : Nat) : Bool :=
  match dataPositions.findIdx? (· == p) with
  | some j => w.getLsbD j
  | none => w.getLsbD (32 + Nat.log2 p)

/-- A value word read through the code (R476). -/
def otpRead (w : OtpWord) : OtpRead :=
  let syn := (List.range 38).foldl (fun acc k => if positionBit w (k + 1) then acc ^^^ (k + 1) else acc) 0
  let par := (List.range 39).foldl (fun acc k => acc ^^ w.getLsbD k) false
  let d := w.setWidth 32
  if syn == 0 then (if par then .corrected d else .good d)
  else if par && syn ≤ 38 then
    match dataPositions.findIdx? (· == syn) with
    | some j => .corrected (d ^^^ BitVec.twoPow 32 j)
    | none => .corrected d
  else .bad

/-- Corrected data; a free value where the word is uncorrectable (notes/assumptions/52). -/
def otpData (w : OtpWord) : BitVec 32 :=
  match otpRead w with | .good d => d | .corrected d => d | .bad => BitVec.ofNat 32 (Config.ueData w.toNat)
def otpUe (w : OtpWord) : Bool := otpRead w == .bad
def otpCe (w : OtpWord) : Bool := match otpRead w with | .corrected _ => true | _ => false

/-- A state word is set when any of its bits is 1 (R476); a word is blank when none is. -/
def otpSet (o : Otp) (w : Nat) : Bool := otpWord o w != 0

/-! ### The word map (Table 1) -/

def wLcMaker : Nat := 0
def wLcReturn : Nat := 2
def wLcScrap : Nat := 3
def wClean : Nat := 4
def wUnitId : Nat := 5
def wMakerCfg : Nat := 7
def wFeature : Nat := 8
def wSecret : Nat := 9
def wModomRevoke : Nat := 21
def wOwnerRevoke : Nat := 25
def wOwnerKey (k : Nat) : Nat := 29 + 12 * k
def wHamadaArb : Nat := 77
def wErgArb : Nat := 141
def wCanary : Nat := 1020

/-- Words 205 to 1,019 are never programmed. -/
def otpReserved (w : Nat) : Bool := 205 ≤ w && w ≤ 1019 || 1024 ≤ w

/-- Words read through the code. -/
def isValueWord (w : Nat) : Bool := (5 ≤ w && w ≤ 20) || (29 ≤ w && w ≤ 76) || (1020 ≤ w && w ≤ 1023)

def isSecretWord (w : Nat) : Bool := 9 ≤ w && w ≤ 20

/-- Words whose burns need no presence window in RETURN and SCRAP (R478). -/
def isErasureWord (w : Nat) : Bool := w == wClean || (25 ≤ w && w ≤ 28)

/-- Life-cycle states (R489). -/
def lcRaw : Nat := 0
def lcMaker : Nat := 1
def lcField : Nat := 2
def lcReturn : Nat := 3
def lcScrap : Nat := 4

/-- The state of the highest-numbered set word among words 0 to 3 (R489). -/
def lifeState (o : Otp) : Nat :=
  if otpSet o 3 then 4 else if otpSet o 2 then 3 else if otpSet o 1 then 2 else if otpSet o 0 then 1 else 0

/-- Count of an anti-rollback counter (R477). -/
def arbCount (o : Otp) (first : Nat) : Nat := ((List.range 64).filter (fun i => otpSet o (first + i))).length

/-- Its lowest-numbered blank word. -/
def arbNext (o : Otp) (first : Nat) : Option Nat := ((List.range 64).find? (fun i => !otpSet o (first + i))).map (first + ·)

/-- The data of `n` words, in little-endian bytes. -/
def otpBytes (o : Otp) (first n : Nat) : List Byte := (List.range n).flatMap (fun i => natLe 4 (otpData (otpWord o (first + i))).toNat)

/-- Owner key slot k: burned when every word is set, unusable with an uncorrectable word (R448, R485). -/
def keyBurned (o : Otp) (k : Nat) : Bool := (List.range 12).all (fun i => otpSet o (wOwnerKey k + i))
def keyBlank (o : Otp) (k : Nat) : Bool := (List.range 12).all (fun i => !otpSet o (wOwnerKey k + i))
def keyUnusable (o : Otp) (k : Nat) : Bool := (List.range 12).any (fun i => otpUe (otpWord o (wOwnerKey k + i)))

def canaryValues : List (BitVec 32) := [0x5A5A0F0F, 0xA5A5F0F0, 0x3C3CC3C3, 0xC3C33C3C]

/-- Integrity conditions (R484): CANARY, a UE among words 5 to 8, SENS_CLASS 0, TIER 3. -/
def canaryBad (o : Otp) : Bool :=
  (List.range 4).any (fun i => otpUe (otpWord o (wCanary + i)) || otpData (otpWord o (wCanary + i)) != nth canaryValues i 0)
def cfgUe (o : Otp) : Bool := [5, 6, 7, 8].any (fun w => otpUe (otpWord o w))
def makerCfg (o : Otp) : Nat := (otpData (otpWord o wMakerCfg)).toNat
def featureWord (o : Otp) : Nat := (otpData (otpWord o wFeature)).toNat
def sensBad (o : Otp) : Bool := bitsAt (makerCfg o) 4 2 == 0
def tierBad (o : Otp) : Bool := bitsAt (featureWord o) 2 2 == 3
def integrityFails (o : Otp) : Bool := canaryBad o || cfgUe o || sensBad o || tierBad o

/-- DEVICE_SECRET has an uncorrectable word (R482). -/
def secretUe (o : Otp) : Bool := (List.range 12).any (fun i => otpUe (otpWord o (wSecret + i)))

/-! ### Burning (R479) -/

/-- A word after an attempt: bits of the code word are set, but for those that do not take; no bit is ever cleared. -/
def burnBits (o : Otp) (w : Nat) (code weak : OtpWord) : Otp := Tbl.put (dflt 0) o w (otpWord o w ||| (code &&& ~~~weak))

end Sys2Proof.Machine
end

