-- ==== Sys2Proof/Machine/Node.lean ====
section
/-! DEFINITION. Machine/Node.lean: the node: its OTP array and its blocks. -/

namespace Sys2Proof.Machine

/-- The node (spec/01): the OTP array (spec/19), and everything else. -/
structure Node where
  otp : Otp
  b : Blk
deriving DecidableEq, Repr

/-- A change of the blocks alone. -/
def Node.on (n : Node) (f : Blk → Blk) : Node := { n with b := f n.b }

end Sys2Proof.Machine
end

