-- ==== Sys2Proof/Machine/Image.lean ====
section
/-! DEFINITION. Machine/Image.lean: images, their manifest and checks, the boot record (spec/18 R447 to R457). -/

namespace Sys2Proof.Machine

/-! ### Flash partitions (spec/18 Table 1) -/

def ptBoot : Nat := 0
def ptPatchA : Nat := 1
def ptOwner : Nat := 3
def ptCalib : Nat := 4
def ptErgA : Nat := 6
def ptJournal : Nat := 9
def ptLog : Nat := 10
def ptPlans : Nat := 11
def ptData : Nat := 12

/-- Offset and size of a partition. -/
def partOff (k : Nat) : Nat := (flashPart k).1
def partSize (k : Nat) : Nat := (flashPart k).2

/-- A partition is erased: every byte reads as erased flash. -/
def Blk.eraseFlash (b : Blk) (k : Nat) : Blk :=
  { b with flash := Tbl.clear b.flash (fun a => partOff k ≤ a && a < partOff k + partSize k) }

/-! ### The manifest (spec/18 Table 2) -/

def mfSigner (m : List Byte) : Nat := leAt m 7 1
def mfSvn (m : List Byte) : Nat := leAt m 10 2
def mfVersion (m : List Byte) : Nat := leAt m 12 4
def mfHif (m : List Byte) : Nat := leAt m 16 2
def mfEntry (m : List Byte) : Nat := leAt m 28 4
def mfBody (m : List Byte) : Nat := leAt m 32 4
def mfMem (m : List Byte) : Nat := leAt m 36 4
def mfKtab (m : List Byte) : Nat := leAt m 40 4
def mfKcount (m : List Byte) : Nat := leAt m 44 2
def mfPubkey (m : List Byte) : List Byte := (m.drop 160).take 96

/-- Bytes [at, at + n) are 0. -/
def zeroAt (m : List Byte) (at_ n : Nat) : Bool := leAt m at_ n == 0

/-- Row 1: MAGIC, MF_FMT, KIND, reserved bytes. -/
def mfShape (kind : Nat) (m : List Byte) : Bool :=
  leAt m 0 4 == 0x4D465649 && leAt m 4 2 == 1 && leAt m 6 1 == kind && leAt m 8 1 < 4 && zeroAt m 9 1 && zeroAt m 46 2 &&
    zeroAt m 256 160 &&
    (if kind == 1 then zeroAt m 18 10 && zeroAt m 36 12 && zeroAt m 96 64 else zeroAt m 16 2)

/-- Signers by life-cycle state (spec/18 Table 3). -/
def signerAllowed (state kind signer : Nat) : Bool :=
  if kind == 1 then signer == 0
  else if state == lcMaker || state == lcReturn then signer == 0
  else if state == lcField then signer ≤ 4
  else false

/-- SHA-384 of a Modom ROM key. -/
def modomHash (k : Nat) : List Byte :=
  let q := Config.modomKey k
  sha384 (natBe 48 q.1 ++ natBe 48 q.2)

/-- The Modom keys that are not revoked. -/
def modomKeys (o : Otp) : List Nat := [0, 1, 2, 3].filter (fun k => !otpSet o (wModomRevoke + k))

/-- A trial override of slot k is in use (spec/19 R487). -/
def Node.trialOf (n : Node) (k : Nat) : Bool :=
  n.b.flag FUSE.TRIAL_CTRL_EN && n.b.get FUSE.TRIAL_CTRL_SLOT == k && !n.b.flag FUSE.LOCK_TRIAL &&
    lifeState n.otp == lcField && keyBlank n.otp k && !otpSet n.otp (wOwnerRevoke + k)

/-- The hash of owner key k as an image check takes it: burned, usable, not revoked, or a trial override (spec/18 R448,
spec/19 R485, R487). -/
def Node.ownerHash (n : Node) (k : Nat) : Option (List Byte) :=
  if otpSet n.otp (wOwnerRevoke + k) then none
  else if n.trialOf k then some ((List.range 12).flatMap (fun i => natLe 4 (n.b.get (FUSE.TRIAL_HASH i))))
  else if keyBurned n.otp k && !keyUnusable n.otp k then some (otpBytes n.otp (wOwnerKey k) 12)
  else none

/-- Row 2: the signer, its key and the signature (spec/18 R448, R449). -/
def Node.signed (n : Node) (kind : Nat) (m : List Byte) : Bool :=
  let pub := mfPubkey m
  let h := sha384 pub
  let s := mfSigner m
  let keyOk := if s == 0 then (modomKeys n.otp).any (fun k => modomHash k == h) else n.ownerHash (s - 1) == some h
  signerAllowed (lifeState n.otp) kind s && keyOk &&
    ecdsaOk (beNat (pub.take 48), beNat (pub.drop 48)) (m.take 416) (beNat ((m.drop 416).take 48)) (beNat ((m.drop 464).take 48))

/-- Row 3: the node's stepping. -/
def Node.steppingOk (n : Node) (m : List Byte) : Bool := bitAt (leAt m 8 1) (if n.b.unit.stepping == 0x0A then 0 else 1)

/-- A kernel descriptor (spec/18 R468). -/
def kernelOk (bodyBytes : Nat) (d : List Byte) : Bool :=
  leAt d 2 1 == 1 && leAt d 3 1 ≤ 6 && leAt d 4 4 + leAt d 8 4 ≤ bodyBytes && 4096 ≤ leAt d 12 4 && leAt d 12 4 ≤ 1048576 &&
    leAt d 16 4 ≤ 4096 && zeroAt d 20 44

/-- Row 6: sizes, ENTRY and the kernel table. -/
def Node.sizesOk (n : Node) (kind base : Nat) (m : List Byte) : Bool :=
  let body := mfBody m
  if kind == 1 then 1 ≤ body && body ≤ 524288 && mfEntry m < body
  else
    let mem := mfMem m
    let kc := mfKcount m
    let kt := mfKtab m
    let ks := (List.range (if kc ≤ 256 then kc else 0)).map (fun i => n.b.flashGet (base + 4096 + kt + 64 * i) 64)
    1 ≤ body && body ≤ 134217728 && mem % 4096 == 0 && (body + 4095) / 4096 * 4096 ≤ mem && mem ≤ 536870912 &&
      mfEntry m < body && kc ≤ 256 && kt % 64 == 0 && kt + 64 * kc ≤ body && ks.all (kernelOk body) &&
      decide ((ks.map (fun d => leAt d 0 2)).Nodup)

/-- Row 7: the body's hash. -/
def Node.bodyOk (n : Node) (base : Nat) (m : List Byte) : Bool :=
  sha384 (n.b.flashGet (base + 4096) (mfBody m)) == (m.drop 48).take 48

/-- The code of the first failing row of Table 4, 0 when the image at a flash offset passes (spec/18 R450). A patch's rows 5 is
none; row 6 binds it where `full`. -/
def Node.imageCode (n : Node) (kind base : Nat) (full : Bool) : Nat :=
  let m := n.b.flashGet base 512
  if !mfShape kind m then 0x1001
  else if !n.signed kind m then 0x1005
  else if !n.steppingOk m then 0x1002
  else if mfSvn m < arbCount n.otp (if kind == 1 then wHamadaArb else wErgArb) then 0x1004
  else if kind == 2 && !(leAt m 18 2 ≤ n.b.get SYS.HIF && n.b.get SYS.HIF ≤ leAt m 20 2) then 0x1003
  else if full && !n.sizesOk kind base m then 0x1001
  else if !n.bodyOk base m then 0x1001
  else 0

/-- Flash offset of an Erg slot's or of a patch slot's image. -/
def ergBase (slot : Nat) : Nat := partOff (ptErgA + slot)
def patchBase (slot : Nat) : Nat := partOff (ptPatchA + slot)

/-- The code of an Erg slot. -/
def Node.slotCode (n : Node) (slot : Nat) : Nat := n.imageCode 2 (ergBase slot) true

/-- The patch the ROM uses: the valid slot with the higher SVN, then the higher VERSION, then slot A (spec/18 R456). -/
def Node.patchSlot (n : Node) : Option Nat :=
  let ok := fun s => n.imageCode 1 (patchBase s) false == 0
  let head := fun s => n.b.flashGet (patchBase s) 512
  match ok 0, ok 1 with
  | false, false => none
  | true, false => some 0
  | false, true => some 1
  | true, true =>
    let a := head 0
    let c := head 1
    if mfSvn a < mfSvn c || (mfSvn a == mfSvn c && mfVersion a < mfVersion c) then some 1 else some 0

/-! ### The boot record (spec/18 R457) -/

/-- A boot record. -/
structure BootRec where
  seq : Nat
  active : Nat
  confirmed : Nat
  trial : Nat
  failsA : Nat
  failsB : Nat
deriving DecidableEq, Repr

/-- Offset of copy 0 and 1 in the BOOT partition (notes/assumptions/48). -/
def bootCopy (i : Nat) : Nat := 0x1000 * i

def Blk.bootCopyAt (b : Blk) (i : Nat) : Option BootRec :=
  let d := b.flashGet (bootCopy i) 64
  if (crc32c (d.take 60)).toNat == leAt d 60 4 then
    some ⟨leAt d 0 4, leAt d 4 1, leAt d 5 1, leAt d 6 1, leAt d 7 1, leAt d 8 1⟩
  else none

/-- The record in force, and the copy that holds it. -/
def Blk.bootRecAt (b : Blk) : BootRec × Nat :=
  match b.bootCopyAt 0, b.bootCopyAt 1 with
  | none, none => (⟨0, 0, 0, 0, 0, 0⟩, 1)
  | some r, none => (r, 0)
  | none, some r => (r, 1)
  | some r, some s =>
    if frameDiff (BitVec.ofNat 32 s.seq) (BitVec.ofNat 32 r.seq) ≤ 0 then (r, 0) else (s, 1)

def Blk.bootRec (b : Blk) : BootRec := b.bootRecAt.1

/-- FAILS of a slot. -/
def BootRec.fails (r : BootRec) (slot : Nat) : Nat := if slot == 0 then r.failsA else r.failsB
def BootRec.setFails (r : BootRec) (slot v : Nat) : BootRec := if slot == 0 then { r with failsA := v } else { r with failsB := v }

def BootRec.bytes (r : BootRec) : List Byte :=
  let d := natLe 4 r.seq ++ natLe 1 r.active ++ natLe 1 r.confirmed ++ natLe 1 r.trial ++ natLe 1 r.failsA ++ natLe 1 r.failsB ++
    natLe 51 0
  d ++ natLe 4 (crc32c d).toNat

/-- SYS shows FAILS and TRIAL of the record. -/
def Blk.showBootRec (b : Blk) (r : BootRec) : Blk :=
  ((b.conf SYS.FAILS_A (min 15 r.failsA)).conf SYS.FAILS_B (min 15 r.failsB)).conf SYS.BOOT_STATUS_TRIAL r.trial

/-- A change of the record goes to the other copy with SEQ + 1. -/
def Blk.writeBootRec (b : Blk) (r : BootRec) : Blk :=
  let cur := b.bootRecAt
  let r := { r with seq := (cur.1.seq + 1) % 2 ^ 32 }
  (b.flashPut (bootCopy (1 - cur.2)) r.bytes).showBootRec r

/-- One more failure of a slot (spec/18 R458). -/
def Blk.failSlot (b : Blk) (slot : Nat) : Blk :=
  let r := b.bootRec
  b.writeBootRec (r.setFails slot (min 255 (r.fails slot + 1)))

end Sys2Proof.Machine
end

