-- ==== Sys2Proof/Machine/Admission.lean ====
section
/-! DEFINITION. Machine/Admission.lean: the admission of a plan (spec/13 R306, R327, R328). -/

namespace Sys2Proof.Machine

/-- A failing check: code, variant kind and argument, node, item (R327). -/
structure AdmFail where
  code : Nat
  kind : Nat
  arg : Nat
  node : Nat
  item : Nat
deriving DecidableEq, Repr

/-- T_P of a variant (R307, R327). -/
def periodOf (p : Plan) (v : PlanVariant) : Nat := (if v.kind == 2 then 2 else 1) * frameLenOf (planMode p)

/-- S_c on a port of a node (R327): 1,302.08 × 15/16 × W_c over the sum of the weights. -/
def linkShare (v : PlanVariant) (node port c : Nat) : Nat :=
  let ws := match v.nodes.find? (fun x => x.node == node) with | some x => nth x.weights port (0, 0, 0) | none => (0, 0, 0)
  let w := if c == 1 then ws.1 else if c == 2 then ws.2.1 else ws.2.2
  130208 * 15 * w / (1600 * max 1 (ws.1 + ws.2.1 + ws.2.2))

/-! ### The checks of Table 5 -/

/-- 03h TOPOLOGY. -/
def topologyOk (p : Plan) : Bool :=
  let n := planN p
  let t := planTopo p
  let sized :=
    if t == topoSingle then n == 1 && planX p == 1 && planY p == 1
    else if t == topoLine then 2 ≤ n && n ≤ 8 && planX p == n && planY p == 1
    else if t == topoRing then 3 ≤ n && n ≤ 32 && planX p == n && planY p == 1
    else t == topoTorus && 3 ≤ planX p && planX p ≤ 16 && 3 ≤ planY p && planY p ≤ 16 && n == planX p * planY p
  let listed := match planVariant p 0 0 with
    | some v => (List.range n).all (fun i => (v.nodes.filter (fun x => x.node == i)).length == 1) && v.nodes.length == n
    | none => false
  sized && !(planShadow p && t == topoLine) && listed

/-- 04h VARIANTS: the variants of Table 2 that are absent for a node. -/
def variantFails (p : Plan) : List AdmFail :=
  let n := planN p
  let wanted := (0, 0) :: (List.range 16).map (fun t => (1, t)) ++ (if planRound p then (List.range n).map (fun i => (2, i)) else [])
  wanted.flatMap (fun w => ((List.range n).filter (fun i => !(w.1 == 2 && w.2 == i) && (planNode p w.1 w.2 i).isNone)).map
    (fun i => ⟨4, w.1, w.2, i, 0⟩))

/-- The channels that slices hold as one range, the slices in ascending order and each a multiple of `grain` (R310). -/
def sliceRange (grain : Nat) (l : List PlanSlice) : Option (Nat × Nat) :=
  match l with
  | [] => none
  | s :: _ =>
    let total := (l.map (fun x => x.count)).sum
    let ok := (List.range l.length).all (fun i =>
      match l[i]? with
      | some x => x.first == s.first + ((l.take i).map (fun y => y.count)).sum && x.count % grain == 0 && x.count != 0
      | none => true)
    if ok then some (s.first, total) else none

/-- The range of a layer that a node holds, its own or as a shadow. -/
def heldRange (x : PlanNode) (grain layer : Nat) (shadow : Bool) : Option (Nat × Nat) :=
  sliceRange grain (x.slices.filter (fun s => s.layer == layer && s.shadow == shadow))

/-- The range of a layer that is node `i`'s when `sizes` are the nodes' channel counts in ascending node order (R310). -/
def rangeOfNode (sizes : List Nat) (i : Nat) : Nat × Nat := ((sizes.take i).sum, nth sizes i 0)

/-- A node of FULL or TILE_OUT holds a layer as R310 and R311 lay it out: a stem layer complete; of a trunk or scene layer its own
range, and as a shadow its successor's when the plan has shadows. -/
def layerHeld (p : Plan) (v : PlanVariant) (x : PlanNode) (layer : Nat) : Bool :=
  let (part, cout) := nth p.layers layer (.other, 0)
  let node := fun (i : Nat) => v.nodes.find? (fun y => y.node == i)
  match part with
  | .stem => heldRange x 1 layer false == some (0, cout) && (heldRange x 1 layer true).isNone
  | .other => true
  | _ =>
    let sizes := (List.range (planN p)).map (fun i => match (node i).bind (fun y => heldRange y 32 layer false) with | some r => r.2 | none => 0)
    let even := sizes.all (fun a => sizes.all (fun c => a ≤ c + 32))
    even && sizes.sum == cout && heldRange x 32 layer false == some (rangeOfNode sizes x.node) &&
      (match (if planShadow p then planSuccessor p x.node else none) with
       | some n => heldRange x 32 layer true == some (rangeOfNode sizes n)
       | none => (heldRange x 32 layer true).isNone)

/-- Nodes whose slices are not those of R310 and R311; in NODE_OUT a node holds what it holds in FULL (spec/09 R221). DESIGN CHOICE:
they are reported under VARIANTS (notes/assumptions/99). -/
def sliceFails (p : Plan) (v : PlanVariant) : List AdmFail :=
  let bad := fun (x : PlanNode) =>
    if v.kind == 2 then (planNode p 0 0 x.node).map (fun y => y.slices) != some x.slices
    else (List.range p.layers.length).any (fun i => !layerHeld p v x i)
  (v.nodes.filter bad).map (fun x => ⟨4, v.kind, v.arg, x.node, 1⟩)

/-- Bulk pages that Erg and the journal's mirror leave, less those of the index shard (05h). -/
def Blk.pagesLeft (b : Blk) (x : PlanNode) : Nat :=
  let erg := if b.get SYS.BOOT_STATUS_ERG_SLOT < 2 then mfMem (b.flashGet (ergBase (b.get SYS.BOOT_STATUS_ERG_SLOT)) 512) else 0
  bulkPages - erg / 4096 - 76554240 / 4096 - x.shardPages

/-- 05h CAPACITY: the failing items: a tile, or 16 to 20 for queue pairs, windows, Wadi entries, entries, bulk. -/
def Blk.capacityFails (b : Blk) (x : PlanNode) : List Nat :=
  indicesWhere x.tiles.length (fun t => let g := nth x.tiles t (0, 0); 48 < g.1 + g.2) ++
  (if 256 < x.queuePairs then [16] else []) ++ (if 1024 < x.windows then [17] else []) ++
  (if 256 < x.wadis.length then [18] else []) ++ (if 1024 < x.entries.length then [19] else []) ++
  (if b.pagesLeft x < x.bulkPages then [20] else [])

/-- W_own: the pixel positions read by all own windows in one frame (spec/05 R107). -/
def ownPix (x : PlanNode) : Nat := (x.ownWindows.map (fun w => w.cols * w.rows * w.reps)).sum

/-- A window's last line period, one past it (spec/04 R88). -/
def windowEnd (w : PlanWindow) : Nat := w.startL + w.rows * w.reps

/-- PK_own: the largest sum of COLS over own windows that read in one line period; it is reached where some window starts. -/
def ownPeak (x : PlanNode) : Nat :=
  x.ownWindows.foldl (fun m v =>
    max m (((x.ownWindows.filter (fun w => w.startL ≤ v.startL && v.startL < windowEnd w)).map (fun w => w.cols)).sum)) 0

/-- S: line periods from the first to the last in which any own window reads. -/
def ownSpan (x : PlanNode) : Nat :=
  match x.ownWindows with
  | [] => 0
  | w :: ws => ws.foldl (fun m v => max m (windowEnd v)) (windowEnd w) - ws.foldl (fun m v => min m v.startL) w.startL

/-- 06h ISP: LINE_MIN16 0 acts as 16 (spec/05 Table 6). R107 (a) item 0, (b) item 1. -/
def ispFails (p : Plan) (x : PlanNode) : List Nat :=
  let t := frameLenOf (planMode p)
  let rate := (x.externals.map (fun e => (t / max 1 e.2.2.1 + 1) * (e.1 * e.2.1))).sum
  let peak := (x.externals.map (fun e => ceilDiv (16 * e.1) (if e.2.2.2 == 0 then 16 else e.2.2.2))).sum
  (if 8000 * t < ownPix x + rate || x.externals.any (fun e => e.2.2.1 == 0) then [0] else []) ++
  (if 786432 < (ownPeak x + peak - 8000) * ownSpan x then [1] else [])

/-- 07h GROUP: the failing entries. -/
def groupFails (tp : Nat) (x : PlanNode) : List Nat :=
  indicesWhere x.entries.length (fun i =>
    let e := nth x.entries i noPlanEntry
    e.timeout < ceilDiv (3 * e.cycles) 10000 || tp < e.latest - e.start + e.timeout)

/-- Two busy spans, repeated every `tp`, never meet. -/
def spansApart (tp a la c lc : Nat) : Bool :=
  let d := ((((c : Int) - a) % (tp : Int)).toNat)
  (la == 0 || lc == 0) || (decide (la ≤ d) && decide (d + lc ≤ tp))

/-- Two lists of (tile, mask) have a granule in common. -/
def granulesMeet (l m : List (Nat × Nat)) : Bool := l.any (fun x => m.any (fun y => x.1 == y.1 && Nat.land x.2 y.2 != 0))

/-- A group takes what a search window reserves (spec/14 R344): compare-and-count on a search tile, or the staging area. -/
def takesSearch (e : PlanEntry) (w : PlanSearch) : Bool := Nat.land e.ccTiles w.tiles != 0 || granulesMeet e.granules w.staging

/-- 08h TILE, the reservation of R344: entries that may run in a search window whose tiles or staging area they take, as
e + 1,024 × (1,024 + window). -/
def searchTileFails (tp : Nat) (x : PlanNode) : List Nat :=
  (List.range x.entries.length).flatMap (fun i => (List.range x.searches.length).filterMap (fun k =>
    let e := nth x.entries i noPlanEntry
    match x.searches[k]? with
    | none => none
    | some w =>
      if takesSearch e w && !spansApart tp e.start (e.latest + e.timeout - e.start) w.a (w.b - w.a) then some (i + 1024 * (1024 + k))
      else none))

/-- 08h TILE: pairs of entries that share a tile and may run at once, as e + 1,024 × h. -/
def tileFails (tp : Nat) (x : PlanNode) : List Nat :=
  (List.range x.entries.length).flatMap (fun i => (List.range i).filterMap (fun j =>
    let e := nth x.entries i noPlanEntry
    let h := nth x.entries j noPlanEntry
    if Nat.land e.mask h.mask != 0 &&
        !spansApart tp e.start (e.latest + e.timeout - e.start) h.start (h.latest + h.timeout - h.start) then some (i + 1024 * j)
    else none))

/-- G_pe of a transfer (09h). -/
def transferTime (v : PlanVariant) (t : PlanTransfer) : Nat :=
  let slow := t.links.foldl (fun m l => max m (ceilDiv l.2.2 (max 1 (linkShare v l.1 l.2.1 t.cls)))) 0
  slow + ceilDiv (360 * (t.hops + 1) + 10 * t.cableNs + 24 * v.depth) 33333 + 1

/-- 09h DEPEND: the failing transfers by number, with their destination node. -/
def dependFails (v : PlanVariant) : List (Nat × Nat) :=
  (List.range v.transfers.length).filterMap (fun i =>
    match v.transfers[i]? with
    | none => none
    | some t =>
      let s := entryAt v t.srcNode t.src
      let e := entryAt v t.dstNode t.dst
      let by_ := if bitAt e.flags 1 then e.latest else e.start
      if by_ < s.latest + s.timeout + transferTime v t then some (i, t.dstNode) else none)

/-- Some interval holds more of `need` than `rate` per line period lets through; windows are (from, to, amount). -/
def overfull (rate : Nat) (ws : List (Nat × Nat × Nat)) : Bool :=
  ws.any (fun x => ws.any (fun y =>
    let inside := ws.filter (fun w => x.1 ≤ w.1 && w.2.1 ≤ y.2.1)
    rate * (y.2.1 - x.1) < (inside.map (fun w => w.2.2)).sum))

/-- 0Ah LINK: the overfull (node, port, class). -/
def linkFails (v : PlanVariant) : List (Nat × Nat) :=
  v.nodes.flatMap (fun x => (List.range 4).flatMap (fun port => [1, 2, 3].filterMap (fun c =>
    let ws := v.transfers.filterMap (fun t =>
      if t.cls != c then none
      else match t.links.find? (fun l => l.1 == x.node && l.2.1 == port) with
        | some l => some ((entryAt v t.srcNode t.src).start, (entryAt v t.dstNode t.dst).latest, l.2.2)
        | none => none)
    if overfull (linkShare v x.node port c) ws then some (x.node, c + 4 * port) else none)))

/-- 0Bh BULK: the overfull (node, class). -/
def bulkFails (v : PlanVariant) : List (Nat × Nat) :=
  v.nodes.flatMap (fun x => (List.range 5).filterMap (fun k =>
    let ws := (v.bulks.filter (fun t => t.node == x.node && t.cls == k)).map (fun t =>
      ((entryAt v t.node t.src).start, (entryAt v t.node t.dst).latest, t.units))
    if overfull (39 * nth x.shares k 0) ws then some (x.node, k) else none))

/-- 0Ch TIMEOUT (spec/12 R298): the failing queue pairs of entries. A line period is 10,000/3 ns, STALL.LIMIT counts them. -/
def timeoutFails (x : PlanNode) : List Nat :=
  (x.qps.filter (fun q =>
    let e := nth x.entries q.entry noPlanEntry
    e.timeout * 10000 < 2 * 3 * (q.retryMax + 1) * q.retryT * 256 || 3 * q.retryT * 256 < q.stall * 10000 + 6000)).map (fun q => q.qp)

/-- Δ_D of a frame mode (spec/02 R29). -/
def deadlineOf (mode : Nat) : Nat := if mode == 0 then 3520 else 1760

/-- 0Dh DEADLINE: the failing entries; 1,024 for DL_OFFSET itself. -/
def deadlineFails (p : Plan) (v : PlanVariant) (x : PlanNode) : List Nat :=
  let dl := bitsAt x.dlCtrl 0 14
  let most := deadlineOf (planMode p) + (if v.kind == 2 then frameLenOf (planMode p) else 0)
  indicesWhere x.entries.length (fun i =>
    let e := nth x.entries i noPlanEntry
    e.commits && dl < e.latest + e.timeout + 2) ++ (if most < dl then [1024] else [])

/-- Flits of a message sent as packets of 512 bytes (spec/11 R254). -/
def messageFlits (n : Nat) : Nat := n / 512 * 9 + (if n % 512 == 0 then 0 else ceilDiv (36 + n % 512) 64)

/-- A_q of a query in a search window (spec/14 R364). -/
def queryCost (sSearch : Nat) (w : PlanSearch) (nprobe : Nat) : Nat :=
  let bc := if w.hamming then 2 * w.ncent else 32 * w.lines * w.ncent
  ceilDiv bc 106666 + ceilDiv (w.ncent + nprobe * w.eMax) 13333 + ceilDiv (nprobe * w.uMax) (max 1 (min (39 * sSearch) 1666))

/-- H of a search window: QUERY is 64 + VS bytes, RESULT 64 + 16 × K. -/
def hopCost (s2 : Nat) (w : PlanSearch) : Nat :=
  let k := w.queries.foldl (fun m q => max m q.1) 0
  2 + ceilDiv (max (messageFlits (64 + w.vecBytes)) (messageFlits (64 + 16 * k))) (max 1 s2)

/-- 0Eh QUERY (spec/14 R364): the failing windows. -/
def queryFails (v : PlanVariant) (x : PlanNode) : List Nat :=
  let s2 := (List.range 4).foldl (fun m port => min m (linkShare v x.node port 2)) (linkShare v x.node 1 2)
  let sSearch := nth x.shares 1 0
  indicesWhere x.searches.length (fun i =>
    match x.searches[i]? with
    | none => false
    | some w =>
      let h := 4 * w.depth * hopCost s2 w
      let cost := fun (q : Nat × Nat × Nat) => queryCost sSearch w q.2.1
      w.b - w.a < h + (w.queries.map cost).sum || w.queries.any (fun q => q.2.2 < h + cost q))

/-- 0Fh PACK (spec/09 R213): the packed tensors of this node, by destination, whose pass has not ended with the plan's PACKED_CRC. -/
def Blk.packFails (b : Blk) (x : PlanNode) : List Nat :=
  if x.node != b.get XROUTE.NODE_ID then []
  else indicesWhere x.packs.length (fun i => let t := nth x.packs i (0, 0); Tbl.get (dflt none) b.fleet.packed t.1 != some t.2)

/-- The failing checks of one variant for every node. -/
def Blk.variantChecks (b : Blk) (p : Plan) (v : PlanVariant) : List AdmFail :=
  let tp := periodOf p v
  let mk := fun (code node : Nat) (items : List Nat) => items.map (fun i => (⟨code, v.kind, v.arg, node, i⟩ : AdmFail))
  v.nodes.flatMap (fun x =>
    mk 5 x.node (b.capacityFails x) ++ mk 6 x.node (ispFails p x) ++ mk 7 x.node (groupFails tp x) ++ mk 8 x.node (tileFails tp x ++ searchTileFails tp x)) ++
  (dependFails v).map (fun f => ⟨9, v.kind, v.arg, f.2, f.1⟩) ++ (linkFails v).map (fun f => ⟨10, v.kind, v.arg, f.1, f.2⟩) ++
  (bulkFails v).map (fun f => ⟨11, v.kind, v.arg, f.1, f.2⟩) ++
  v.nodes.flatMap (fun x =>
    mk 12 x.node (timeoutFails x) ++ mk 13 x.node (deadlineFails p v x) ++ mk 14 x.node (queryFails v x) ++ mk 15 x.node (b.packFails x))

/-- The header describes the file it stands in (R306): BODY_BYTES, PLAN_HASH. DESIGN CHOICE: a file whose header does not is refused
under FORMAT (notes/assumptions/99). -/
def planWhole (p : Plan) : Bool := planBytes p == p.body.length && planHash p == sha384 p.body

/-- 01h FORMAT. -/
def Blk.planFormatOk (b : Blk) (p : Plan) : Bool :=
  planWhole p && planMagic p == 0x4E414C50 && b.get SYS.PLAN_FMT_MIN ≤ planFmt p && planFmt p ≤ b.get SYS.PLAN_FMT_MAX &&
    planErgIf p == b.get SYS.ERG_IDS_ERG_IF

/-- CFA and stepping fit this node (02h, R330). -/
def Blk.planUnitOk (b : Blk) (p : Plan) : Bool :=
  planCfa p == b.unit.tier && bitAt (planSteppings p) (if b.unit.stepping == 0x0A then 0 else 1)

/-- Nodes that TIER allows (spec/19 R486). -/
def tierNodes (tier : Nat) : Nat := if tier == 0 then 1 else if tier == 1 then 32 else 256

/-- 02h VARIANT. -/
def Blk.planVariantOk (b : Blk) (p : Plan) : Bool :=
  b.planUnitOk p && planN p ≤ tierNodes (b.get LIFE.FEATURE_EFF_TIER) && (planN p ≤ 1 || b.flag LIFE.FEATURE_EFF_FLEET_EN)

/-- Admission (R327, R328): the failing checks, none when the plan is admitted. -/
def Blk.admission (b : Blk) (p : Plan) : List AdmFail :=
  let self := b.get XROUTE.NODE_ID
  (if b.planFormatOk p then [] else [⟨1, 0, 0, self, 0⟩]) ++ (if b.planVariantOk p then [] else [⟨2, 0, 0, self, 0⟩]) ++
  (if topologyOk p then [] else [⟨3, 0, 0, self, 0⟩]) ++ variantFails p ++ p.variants.flatMap (sliceFails p) ++
    p.variants.flatMap (b.variantChecks p)

/-- The report (spec/15 Table 10): verdict, COUNT, up to 64 entries of 8 bytes. -/
def admissionReport (fs : List AdmFail) : List Byte :=
  let fs := fs.take 64
  natLe 1 (if fs.isEmpty then 0 else 1) ++ natLe 1 fs.length ++ natLe 6 0 ++
    fs.flatMap (fun f => natLe 1 f.code ++ natLe 1 f.kind ++ natLe 1 f.arg ++ natLe 1 f.node ++ natLe 4 f.item)

end Sys2Proof.Machine
end

