-- ==== Sys2Proof/Machine/Boot.lean ====
section
/-! DEFINITION. Machine/Boot.lean: resets of the node and its boot (spec/16 R407, spec/18 R454 to R461, spec/19 R482 to R491). -/

namespace Sys2Proof.Machine

/-! ### Views of the OTP array -/

/-- Debug access is open (spec/19 Table 6). -/
def Node.debugOpen (n : Node) : Bool :=
  let st := lifeState n.otp
  !n.b.flag FUSE.LOCK_DEBUG && (st == lcRaw || st == lcMaker || (st == lcReturn && otpSet n.otp wClean))

/-- The owner erasure is due (spec/19 R491). -/
def Node.erasureDue (n : Node) : Bool := lcReturn ≤ lifeState n.otp && !otpSet n.otp wClean

/-- LIFE, and the live counts and keys of FUSE, follow the array (spec/19 R489, R499, R500). -/
def Node.lifeSync (n : Node) : Node :=
  let o := n.otp
  n.on fun b =>
    if !b.powered Page.LIFE then b
    else
      let b := ((b.set LIFE.STATE (lifeState o)).set LIFE.STATUS_STATE (lifeState o)).set LIFE.STATUS_CLEAN (bitNat (otpSet o wClean))
      let b := (b.set LIFE.STATUS_CLEANUP_PENDING (bitNat n.erasureDue)).set LIFE.STATUS_DEBUG_OPEN (bitNat n.debugOpen)
      let b := b.set LIFE.STATUS_RESTRICTIVE (bitNat (integrityFails o))
      let b := (b.setWord LIFE.UNIT_ID_LO.key (otpData (otpWord o wUnitId))).setWord LIFE.UNIT_ID_HI.key
        (otpData (otpWord o (wUnitId + 1)))
      let b := b.set LIFE.STATUS_TRIAL_IN_USE (bitNat ([0, 1, 2, 3].any n.trialOf))
      let b := (b.set LIFE.ARB_HAMADA (arbCount o wHamadaArb)).set LIFE.ARB_ERG (arbCount o wErgArb)
      let b := (b.set FUSE.SH_COUNTS_HAMADA_ARB (arbCount o wHamadaArb)).set FUSE.SH_COUNTS_ERG_ARB (arbCount o wErgArb)
      let b := (b.set FUSE.SH_KEYS_BURNED (maskOf 4 (keyBurned o))).set FUSE.SH_KEYS_REVOKED (maskOf 4 (fun k => otpSet o (wOwnerRevoke + k)))
      let b := (b.set FUSE.SH_KEYS_UNUSABLE (maskOf 4 (keyUnusable o))).set FUSE.SH_KEYS_MODOM_REVOKED
        (maskOf 4 (fun k => otpSet o (wModomRevoke + k)))
      b.tapLifeCheck

/-! ### Hamada's burns (spec/19 R477 to R481, R495) -/

/-- How a burn ends. -/
inductive BurnEnd where
  | done | noPresence | locked | supply | notBlank | failed
deriving DecidableEq, Repr

/-- Burns need no window for the erasure's words in RETURN and SCRAP (R478). -/
def Node.presenceFor (n : Node) (w : Nat) : Bool :=
  n.b.flag OASIS.STATUS_PRES_WINDOW || (isErasureWord w && lcReturn ≤ lifeState n.otp)

/-- A burn's codeword takes but for the bits `weak` names; the burn is OK when the word then equals it. -/
def Node.burnCode (n : Node) (w : Nat) (code weak : OtpWord) : Bool × Node :=
  let o := burnBits n.otp w code weak
  let ok := otpWord o w == code
  let n : Node := { n with otp := o }
  let n := n.on fun b =>
    let b := (b.set FUSE.PROG_ADDR w).set FUSE.PROG_STATUS_RETRIES (if ok then 0 else 3)
    if ok then b.raise FUSE.IRQ_RAW_PROG_DONE
    else ((b.set FUSE.PROG_STATUS_LAST_ERR 2).raise FUSE.IRQ_RAW_PROG_ERR).captureOwnFree Page.FUSE 2
  let n := if w < 4 then n.on (fun b => b.raise LIFE.IRQ_RAW_LC_BURNED) else n
  (ok, n.lifeSync)

/-- Hamada burns a word with data through the FUSE page (R478, R479). -/
def Node.burnWord (n : Node) (w : Nat) (data : BitVec 32) (weak : OtpWord) : BurnEnd × Node :=
  if n.b.flag FUSE.LOCK_PROG then (.locked, n)
  else if otpSet n.otp w then (.notBlank, n)
  else if !n.b.flag OASIS.STATUS_VIN_OK || !n.b.flag OASIS.STATUS_HOLD_OK then (.supply, n)
  else if !n.presenceFor w then (.noPresence, n)
  else
    let (ok, n) := n.burnCode w (otpEncode data) weak
    (if ok then .done else .failed, n)

/-- Bits of a word that do not take. -/
def weakOf (e : BurnEnv) (w : Nat) : OtpWord := ((e.weak.find? (fun x => x.1 == w)).map (fun x => x.2)).getD 0

/-- A word of a request: skipped where it already holds the data, else burned (R481); a window that has closed stops it (R495). -/
def Node.fieldWord (n : Node) (e : BurnEnv) (w : Nat) (data : BitVec 32) : BurnEnd × BurnEnv × Node :=
  if isValueWord w && otpSet n.otp w && !otpUe (otpWord n.otp w) && otpData (otpWord n.otp w) == data then (.done, e, n)
  else if !isValueWord w && otpSet n.otp w then (.done, e, n)
  else if e.words == some 0 && !otpSet n.otp w then (.noPresence, e, n)
  else
    let (r, n) := n.burnWord w data (weakOf e w)
    (r, { e with words := e.words.map (· - 1) }, n)

/-- Words in ascending order, up to the first that stops (R481). -/
def Node.fieldWords (n : Node) (e : BurnEnv) : List (Nat × BitVec 32) → BurnEnd × Node
  | [] => (.done, n)
  | (w, d) :: rest =>
    match n.fieldWord e w d with
    | (.done, e, n) => n.fieldWords e rest
    | (r, _, n) => (r, n)

/-- The data Hamada burns into a state word that no rule gives data for: a free value that is not blank (notes/assumptions/49). -/
def Node.stateData (n : Node) : BitVec 32 × Node :=
  let (v, b) := n.b.free 32
  (BitVec.ofNat 32 v ||| 1, { n with b := b })

/-! ### Boot: what is loaded -/

/-- A lock register of FUSE is set by the ROM or Hamada (spec/19 R488). -/
def Blk.setFuseLock (b : Blk) (f : Fld) : Blk :=
  { b.set f 1 with locked := Tbl.put (dflt false) b.locked f.key true }

/-- Restrictive defaults are in force (spec/19 R484). -/
def Node.restrictive (n : Node) : Bool := integrityFails n.otp

/-- Phase 0 (spec/19 R482, R484, R488): shadows, integrity, locks. -/
def Node.loadOtp (n : Node) : Node :=
  let o := n.otp
  let values := (List.range 1024).filter isValueWord
  let ces := (values.filter (fun w => otpCe (otpWord o w))).length
  let ues := values.filter (fun w => otpUe (otpWord o w))
  let st := lifeState o
  let rs := n.restrictive
  let n := n.on fun b =>
    let b := (b.setWord FUSE.SH_MAKER_CFG.key (otpData (otpWord o wMakerCfg))).setWord FUSE.SH_FEATURE.key
      (otpData (otpWord o wFeature))
    let b := ((b.set FUSE.INTEGRITY_FAIL (bitNat rs)).set FUSE.INTEGRITY_CANARY (bitNat (canaryBad o))).set FUSE.INTEGRITY_CFG_UE
      (bitNat (cfgUe o))
    let b := ((b.set FUSE.INTEGRITY_SENS0 (bitNat (sensBad o))).set FUSE.INTEGRITY_TIER3 (bitNat (tierBad o))).set
      FUSE.INTEGRITY_SECRET_UE (bitNat (secretUe o))
    let b := b.set FUSE.INTEGRITY_CE_LOAD ces
    let b := b.when (0 < ces) (fun b => b.raise FUSE.IRQ_RAW_CE_LOAD)
    let b := b.when (!ues.isEmpty) (fun b => (b.raise FUSE.IRQ_RAW_UE_LOAD).captureOwnFree Page.FUSE 8)
    let b := (b.set FUSE.STATUS_LOADED 1).set FUSE.STATUS_RESTRICTIVE (bitNat rs)
    let b := b.when (rs || (st == lcScrap && otpSet o wClean)) (fun b => b.setFuseLock FUSE.LOCK_PROG)
    let b := b.when (rs || st != lcField) (fun b => b.setFuseLock FUSE.LOCK_TRIAL)
    b.when (rs || st == lcField || st == lcScrap) (fun b => b.setFuseLock FUSE.LOCK_DEBUG)
  n.lifeSync

/-- Phase 0: the patch in use, and the HIF that runs (spec/18 R452, R456). -/
def Node.choosePatch (n : Node) : Node :=
  match n.patchSlot with
  | some s =>
    let m := n.b.flashGet (patchBase s) 512
    n.on fun b =>
      let b := ((b.conf SYS.BOOT_STATUS_PATCH_IN_USE 1).conf SYS.BOOT_STATUS_PATCH_SLOT s).conf SYS.HIF (mfHif m)
      b.conf SYS.SVN_HAMADA (mfSvn m)
  | none =>
    n.on fun b =>
      let b := (b.conf SYS.BOOT_STATUS_PATCH_IN_USE 0).conf SYS.HIF (if b.unit.stepping == 0x0A then 0x0100 else 0x0102)
      (b.conf SYS.SVN_HAMADA 0).tallyFault 0x1009

/-- The calibration check (spec/19 R482); LOCK_SECRET is set once it has run. -/
def Node.checkCalib (n : Node) : Node :=
  let base := partOff ptCalib
  let len := leAt (n.b.flashGet base 4) 0 4
  let key := otpBytes n.otp wSecret 12
  let ok := !secretUe n.otp && len ≤ 1048576 && hmac384 key (n.b.flashGet base len) == n.b.flashGet (base + len) 48
  n.on fun b => { b.setFuseLock FUSE.LOCK_SECRET with fuse := { b.fuse with calibOk := ok } }

/-- The owner erasure (spec/19 R491); it waits while VIN_OK or HOLD_OK is clear. Its burns take. -/
def Node.ownerErasure (n : Node) : Node :=
  if !n.erasureDue then n
  else
    let n := n.on (fun b => b.tallyFault 0x2004)
    if !n.b.flag OASIS.STATUS_VIN_OK || !n.b.flag OASIS.STATUS_HOLD_OK || n.b.flag FUSE.LOCK_PROG then n
    else
      let burn := fun (n : Node) (w : Nat) => if otpSet n.otp w then n else
        let (d, n) := n.stateData
        (n.burnCode w (otpEncode d) 0).2
      let n := [0, 1, 2, 3].foldl (fun n k => burn n (wOwnerRevoke + k)) n
      let n := n.on fun b =>
        let b := b.each [ptOwner, ptErgA, ptErgA + 1, ptJournal, ptLog, ptPlans, ptData, ptBoot] Blk.eraseFlash
        { b with fuse := { b.fuse with owner := none } }
      let n := burn n wClean
      n.on (fun b => b.when (lifeState n.otp == lcScrap) (fun b => b.setFuseLock FUSE.LOCK_PROG))

/-- A pending factory reset (spec/19 R498). -/
def Blk.factoryErase (b : Blk) : Blk :=
  if b.fuse.factory then
    let b := b.each [ptOwner, ptJournal, ptLog, ptPlans, ptData] Blk.eraseFlash
    { b with fuse := { b.fuse with owner := none, factory := false } }
  else b

/-! ### MAINTENANCE (spec/18 R460) -/

/-- STANDBY with BULK ON, every other domain off. -/
def Blk.standbyHeld (b : Blk) : Blk :=
  let b := b.each [6, 5, 4, 3, 2] Blk.domainOff
  let b := b.domainUp 7
  let b := if b.power.mode == 2 then b else b.pwrFrameMode 2
  b.setPower { b.power with mode := 2, bulkRet := false, trans := none, request := none, step := none, frameAtL0 := none }

/-- Entry to MAINTENANCE with a tally code: the safe state's cause 11h, HOST0 served from the OWNER partition, safe frames on
CAN (spec/18 R460, spec/15 R379). -/
def Blk.enterMaintenance (b : Blk) (code : Nat) : Blk :=
  let b := b.standbyHeld
  let b := ((b.conf SYS.BOOT_STATUS_PHASE 4).conf SYS.BOOT_STATUS_MAINT_CODE code).conf SYS.BOOT_STATUS_ERG_SLOT 3
  let b := b.conf SYS.ERG_RUN 0
  let b := [Page.CLIENT, Page.HOST, Page.CAN, Page.CAN + 1].foldl (fun b p => b.set (hEn p) 1) b
  let b := (b.conf (HOST.MAC_CTRL_RX_EN 0) 1).conf (HOST.MAC_CTRL_TX_EN 0) 1
  let b := [0, 1].foldl (fun b c => (b.conf (CAN.CAN_CTRL_EN c) 1).conf (CAN.CAN_CTRL_SAFE_EN c) 1) b
  let b := match b.fuse.owner with
    | some (mac, a) => (b.bindTo 0 mac a).conf (CLIENT.CFG_EN 0) 1
    | none => b
  (b.report 0x11 Page.SYS).tallyFault code

/-! ### Slots (spec/18 R457) -/

/-- The slot Hamada boots, or the code of MAINTENANCE; with it the record as it then stands, and whether 100Ah is shown. -/
def Node.selectSlot (n : Node) : Option Nat × Nat × BootRec × Bool :=
  let r0 := n.b.bootRec
  let reverted := r0.trial == 1 && 3 ≤ r0.fails (r0.active % 2)
  let r := if reverted then { r0 with active := r0.confirmed, trial := 0 } else r0
  let a := r.active % 2
  if r.trial == 0 && 3 ≤ r.fails a then (none, 0x1007, r, reverted)
  else
    let code := n.slotCode a
    if code == 0 then (some a, 0, r, reverted)
    else if n.slotCode (1 - a) == 0 then
      (some (1 - a), 0, { r with active := 1 - a, confirmed := 1 - a, trial := 0 }, true)
    else (none, code, r, reverted)

/-- A slot is to be booted: SYS shows its image (spec/18 Table 9), phase 2. -/
def Blk.bootSlot (b : Blk) (slot : Nat) : Blk :=
  let m := b.flashGet (ergBase slot) 512
  let b := ((b.conf SYS.BOOT_STATUS_PHASE 2).conf SYS.BOOT_STATUS_ERG_SLOT slot).conf SYS.ERG_VERSION (mfVersion m)
  let b := ((b.conf SYS.ERG_IDS_ERG_IF (leAt m 22 2)).conf SYS.ERG_IDS_SIGNER (mfSigner m)).conf SYS.SVN_ERG (mfSvn m)
  (b.conf SYS.PLAN_FMT_MIN (leAt m 24 2)).conf SYS.PLAN_FMT_MAX (leAt m 26 2)

/-- Slot selection and what follows it. -/
def Node.selectAndBoot (n : Node) : Node :=
  let (slot, code, r, shown) := n.selectSlot
  n.on fun b =>
    let b := if r == b.bootRec then b.showBootRec r else b.writeBootRec r
    let b := b.when shown (fun b => b.tallyFault 0x100A)
    match slot with
    | some s => b.bootSlot s
    | none => b.enterMaintenance code

/-- A tier code of spec/00 Table 1; 0h and 4h to Fh are not issued (spec/00 R5). -/
def tierIssued (tier : Nat) : Bool := 1 ≤ tier && tier ≤ 3

/-- Phase 1 (spec/00 R5, spec/18 Table 5, spec/19 R482, R491, R498). An erasure that waits for supply holds the boot here. -/
def Node.bootPhase1 (n : Node) : Node :=
  let n := n.on (fun b => b.conf SYS.BOOT_STATUS_PHASE 1)
  let n := n.ownerErasure
  if n.erasureDue then n
  else
    let n := n.on Blk.factoryErase
    let o := n.otp
    let st := lifeState o
    let cfaUnknown := canaryBad o || otpUe (otpWord o wMakerCfg)
    if cfaUnknown || bitsAt (makerCfg o) 0 4 != n.b.unit.tier || !tierIssued n.b.unit.tier then n.on (fun b => b.enterMaintenance 0x1006)
    else if st == lcRaw || st == lcScrap then n.on (fun b => b.enterMaintenance 0x1008)
    else if !n.b.fuse.calibOk then n.on (fun b => b.enterMaintenance 0x2002)
    else (n.on Blk.loadRetired).selectAndBoot

/-- The boot of the node, up to the start of Erg (spec/18 R454). -/
def Node.boot (n : Node) : Node :=
  if !n.b.powered Page.SYS then n
  else
    let n := n.on fun b =>
      let b := { b with cores := { noCores with bootAt := b.ep.line, log := b.cores.log } }
      ((b.bump SYS.BOOT_COUNT).conf SYS.BOOT_STATUS_PHASE 0).tallyBoot
    let n := n.loadOtp.choosePatch
    let n := if n.restrictive then n.on (fun b => b.tallyFault 0x2001) else n
    let eff := if n.restrictive then 0 else featureWord n.otp % 16
    let n := n.on (fun b => b.setWord LIFE.FEATURE_EFF_FLEET_EN.key (BitVec.ofNat 32 eff))
    n.checkCalib.bootPhase1.lifeSync

/-- A boot held in phase 1 by the supply goes on (spec/19 R491). -/
def Node.bootResume (n : Node) : Node :=
  if n.b.powered Page.SYS && n.b.get SYS.BOOT_STATUS_PHASE == 1 && n.erasureDue && n.b.flag OASIS.STATUS_VIN_OK &&
      n.b.flag OASIS.STATUS_HOLD_OK then n.bootPhase1.lifeSync
  else n

/-! ### Resets (spec/16 R407) -/

/-- A warm reset takes place: FAILS of a trial slot that runs (spec/18 R458) when `counts`; every page but OASIS and EPOCH, and
TALLY while an update runs (spec/17 R440); wake records are appended again; the node boots. -/
def Node.warmNow (n : Node) (cause : Nat) (counts : Bool) : Node :=
  if !n.b.powered Page.SYS then n
  else
    let n := n.on fun b =>
      let r := b.bootRec
      let running := b.get SYS.BOOT_STATUS_ERG_SLOT
      let b := b.when (counts && r.trial == 1 && 2 ≤ b.get SYS.BOOT_STATUS_PHASE && running == r.active) (fun b => b.failSlot running)
      let keepTally := b.tallyRuns
      let b := b.resetPages .warm false (fun p => p != Page.OASIS && p != Page.EPOCH && !(p == Page.TALLY && keepTally))
      (b.wakeAgain).set OASIS.RESET_CAUSE cause
    n.boot

/-- A warm reset, which waits for a burn attempt's end (spec/19 R480); a cold reset that waits already takes its place. -/
def Node.warmReset (n : Node) (cause : Nat) (counts : Bool) : Node :=
  if n.b.fuse.burn.isSome && n.b.powered Page.FUSE then
    n.on (fun b => { b with fuse := { b.fuse with
      resetWaits := if b.fuse.resetWaits == 2 then 2 else if cause == 3 then 3 else if counts then 1 else 4 } })
  else n.warmNow cause counts

/-- A commanded cold reset takes place (spec/16 R407): every page, the counters, the RTC, the presence window, the wake records;
the domains keep their power; the node boots. -/
def Node.coldNow (n : Node) : Node :=
  if !n.b.powered Page.SYS then n
  else
    let n := n.on fun b =>
      let b := b.resetPages .cold false (fun _ => true)
      let b := b.setOasis { b.oasis with supply := 0 }
      let b := b.setPower { b.power with request := none, step := none, frameAtL0 := none, hot := 0 }
      b.set OASIS.RESET_CAUSE 1
    n.boot

/-- A commanded cold reset, which waits for the tally's bar (spec/17 R441) and for a burn attempt's end (spec/19 R480). -/
def Node.coldReset (n : Node) : Node :=
  if n.b.powered Page.TALLY && n.b.tallyRuns then n.on (fun b => b.setTally { b.tally with coldWaits := true })
  else if n.b.fuse.burn.isSome && n.b.powered Page.FUSE then n.on (fun b => { b with fuse := { b.fuse with resetWaits := 2 } })
  else n.coldNow

/-- MODE_DONE with the boot that a power-up of SYS starts (spec/18 R454). -/
def Node.modeDone (n : Node) : Node :=
  let (up, b) := n.b.modeDone
  let n := { n with b := b }
  if up then n.boot else n

/-- TALLY_DRAW_BAR_DONE with a deferred cold reset (spec/17 R441). -/
def Node.tallyDrawn (n : Node) : Node :=
  let (cold, b) := n.b.tallyDrawn
  let n := { n with b := b }
  if cold then n.coldReset else n

/-- SAFETY_WARM_RESET (spec/20 R506). -/
def Node.safetyReset (n : Node) : Node :=
  let (now, b) := n.b.safetyReset
  let n := { n with b := b }
  if now then n.warmReset 3 true else n

/-- A write of PWR.RESET (spec/16 R407): Hamada only. -/
def Node.writeReset (n : Node) (a : Agent) (kind : Nat) : Node :=
  if a != .hamada then n.on (fun b => b.captureFree Page.PWR pwResetPriv (agentCode a))
  else if kind == 1 then n.warmReset 2 true
  else if kind == 2 then n.coldReset
  else n

/-- PRESENCE_OPEN: with MAINTENANCE code 1007h Hamada clears FAILS and warm-resets (spec/18 R461). -/
def Node.presOpen (n : Node) : Node :=
  let was := n.b.flag OASIS.STATUS_PRES_WINDOW
  let n := n.on Blk.presOpen
  if !was && n.b.flag OASIS.STATUS_PRES_WINDOW && n.b.inMaintenance && n.b.get SYS.BOOT_STATUS_MAINT_CODE == 0x1007 then
    (n.on (fun b => b.writeBootRec { b.bootRec with failsA := 0, failsB := 0 })).warmReset 2 true
  else n

/-! ### Erg (spec/18 R455, R458, R466) -/

/-- ERG_START (spec/18 R455): body, copy region 15, locks, watchdog, SERVICE, then the four cores; EN of CORE is set here
(notes/assumptions/50). -/
def Blk.ergStart (b : Blk) : Blk :=
  if !b.powered Page.SYS || b.get SYS.BOOT_STATUS_PHASE != 2 then b
  else
    let base := ergBase (b.get SYS.BOOT_STATUS_ERG_SLOT)
    let m := b.flashGet base 512
    let b := b.bulkPut 0 (b.flashGet (base + 4096) (mfBody m))
    let pages := ceilDiv (mfBody m) 4096
    let b := ((b.conf (BULK.CR_BASE_PAGE 15) 0).conf (BULK.CR_BASE_AUTO 15) 1).conf (BULK.CR_PAGES 15) pages
    let b := (b.conf (BULK.CR_FLASH_LO 15) ((base + 4096) % 2 ^ 32)).conf (BULK.CR_FLASH_HI 15) ((base + 4096) / 2 ^ 32)
    let lockOf := fun (p : Nat) => bitNat (bitAt (leAt m 96 32) p) + 2 * bitNat (bitAt (leAt m 128 32) p)
    let b := b.each (assignedPages.filter (fun p => b.powered p && lockOf p != 0)) (fun b p => b.writeLock p (BitVec.ofNat 32 (lockOf p)))
    let b := (b.conf SYS.ERG_WDT_LIMIT 0x2DC6C0).conf SYS.ERG_WDT_EN 1
    let b := ((b.conf CLIENT.CL_CTRL_SERVICE 0).conf SYS.ERG_ENTRY_LO (mfEntry m)).conf SYS.ERG_ENTRY_HI 0
    let b := ((b.conf SYS.ERG_RUN 0xF).conf SYS.BOOT_STATUS_PHASE 3).set (hEn Page.CORE) 1
    { b with cores := { b.cores with startedAt := some b.ep.line, readyAt := none, kickedAt := b.ep.line, settled := false } }

/-- Hamada counts a failure of the slot running and warm-resets (spec/18 R458). -/
def Node.failAndReset (n : Node) : Node := (n.on (fun b => b.failSlot (b.get SYS.BOOT_STATUS_ERG_SLOT))).warmReset 2 false

/-- Line periods since an event, where it happened. -/
def Blk.after (b : Blk) (since : Option (BitVec 48)) (lines : Nat) : Bool :=
  match since with | some l => decide (lines ≤ b.linesSince l) | none => false

/-- ERG_READY_TIMEOUT (spec/18 R458). -/
def Node.readyTimeout (n : Node) : Node :=
  if n.b.ergRuns && n.b.cores.readyAt.isNone && n.b.after n.b.cores.startedAt 600000 then n.failAndReset else n

/-- ERG_CONFIRM_TIMEOUT (spec/18 R458). -/
def Node.confirmTimeout (n : Node) : Node :=
  if n.b.ergRuns && n.b.bootRec.trial == 1 && n.b.after n.b.cores.readyAt 180000000 then n.failAndReset else n

/-- ERG_STABLE (spec/18 R458). -/
def Blk.ergStable (b : Blk) : Blk :=
  let r := b.bootRec
  if b.ergRuns && r.trial == 0 && b.after b.cores.readyAt 180000000 && !b.cores.settled then
    let b := { b with cores := { b.cores with settled := true } }
    b.when (r.fails (r.active % 2) != 0) (fun b => b.writeBootRec (r.setFails (r.active % 2) 0))
  else b

/-- Line periods the Erg watchdog has left (spec/18 R466); it pauses outside phase 3 and while the Erg cores are stopped. -/
def Blk.wdtLeft (b : Blk) : Nat :=
  let still := (b.cores.stoppedAt.map b.linesSince).getD 0
  if b.powered Page.SYS && b.get SYS.BOOT_STATUS_PHASE == 3 then
    b.get SYS.ERG_WDT_LIMIT - (b.linesSince b.cores.kickedAt - still)
  else b.get SYS.ERG_WDT_LIMIT

/-- ERG_WATCHDOG_EXPIRY (spec/18 R458, R466). -/
def Node.watchdogExpiry (n : Node) : Node :=
  if n.b.ergRuns && n.b.flag SYS.ERG_WDT_EN && n.b.wdtLeft == 0 then
    (n.on (fun b => b.raise CORE.IRQ_RAW_WDT)).failAndReset
  else n

/-- ERG_KICK (spec/18 R466). -/
def Blk.ergKick (b : Blk) (v : Nat) : Blk :=
  if bitAt v 0 then { b with cores := { b.cores with kickedAt := b.ep.line } } else b

/-- LOCKSTEP_ERROR (spec/18 R445, R473). -/
def Blk.lockstep (b : Blk) : Blk :=
  if b.powered Page.CORE then
    (((b.bumpSat CORE.LOCKSTEP_ERR).raise CORE.IRQ_RAW_LOCKSTEP).captureOwnFree Page.CORE 2).report 0x09 Page.CORE
  else b

/-- IPI (spec/18 R473). -/
def Blk.ipi (b : Blk) (v : Nat) : Blk := b.emit (.ipi (bitsAt v 0 4))

/-- XCAP_CLEAR (spec/18 R472). -/
def Blk.xcapClear (b : Blk) (v : Nat) : Blk :=
  if bitAt v 0 then (b.setWord SYS.XCAP0_CAUSE.key 0).setWord SYS.XCAP1_L.key 0 else b

/-- The warm reset that follows an answer within 300,000 line periods (spec/19 R491, R498). -/
def Node.resetIfDue (n : Node) : Node :=
  if n.b.after n.b.cores.resetDue 300000 then n.warmReset 2 true else n

end Sys2Proof.Machine
end

