-- ==== Sys2Proof/Machine/Fleet.lean ====
section
/-! DEFINITION. Machine/Fleet.lean: what Erg does to form a fleet and to keep it (spec/13 R309, R326 to R340). -/

namespace Sys2Proof.Machine

def jsAlone : Nat := 0
def jsProbing : Nat := 1
def jsReady : Nat := 2
def jsJoined : Nat := 3
def jsLeft : Nat := 4
def jsIsolated : Nat := 5

def Blk.setFleet (b : Blk) (x : FleetSt) : Blk := { b with fleet := x }
def Blk.jstate (b : Blk) : Nat := b.get SCHED.JOIN_CTRL_JSTATE
def Blk.setJstate (b : Blk) (s : Nat) : Blk := b.conf SCHED.JOIN_CTRL_JSTATE s
def Blk.self (b : Blk) : Nat := b.get XROUTE.NODE_ID

/-- The fleet's safe state (spec/13 R340, spec/20 R506): trunk and scene groups start no more, stems go on (notes/assumptions/100),
and Erg forces OVERRUN. -/
def Blk.fleetSafe (b : Blk) : Blk :=
  let b := b.setFleet { b.fleet with blind := true }
  let b := b.setInsts (b.sched.insts.filter (fun i => b.partRuns i.part || !i.unstarted))
  if b.powered Page.SCHED then b.writeIrqForce Page.SCHED 4 else b

/-- A notice goes out on every TRAINED or OPEN port but one (R329). -/
def Blk.floodJoin (b : Blk) (except : Option Nat) (payload : List Byte) : Blk :=
  b.joinOnPorts (b.fleetPorts.filter (fun p => except != some p)) payload

/-- A notice of this node's own: its SEQ is the next notice number. -/
def Blk.ownNotice (b : Blk) (kind node epoch at_ : Nat) : Blk :=
  let seq := (b.fleet.seq + 1) % 65536
  let b := b.setFleet { b.fleet with seq := seq, seen := b.fleet.seen ++ [(kind, node, seq)] }
  b.floodJoin none (b.joinBytes kind node epoch seq at_ 1)

/-- A notice of another node: forwarded the first time (R329); with it whether it is the first. -/
def Blk.takeNotice (b : Blk) (port : Nat) (d : List Byte) : Bool × Blk :=
  let k := (leAt d 0 1, leAt d 1 1, leAt d 14 2)
  if b.fleet.seen.contains k then (false, b)
  else (true, (b.setFleet { b.fleet with seen := b.fleet.seen ++ [k] }).floodJoin (some port) d)

/-! ### Variants -/

def planEntryBytes (e : PlanEntry) : List Byte :=
  natLe 2 e.group ++ natLe 2 e.mask ++ natLe 2 e.start ++ natLe 2 e.latest ++ natLe 2 e.timeout ++ natLe 2 e.retryBy ++
    natLe 1 e.flags ++ natLe 3 0

/-- The spare Wadi half takes a variant's entries with ARMED 0 (R336); a control word's bits are WD_CTRL's. -/
def Blk.loadWadis (b : Blk) (ws : List (Nat × Nat × Nat)) : Blk :=
  let base := 256 * (1 - b.fleet.half)
  b.when (b.powered Page.XQP) fun b => b.each (List.range 256) (fun b i =>
    let w := nth ws i (0, 0, 0)
    let e := base + i
    let b := (b.setWord (XQP.WD_CTRL_VALID e).key (BitVec.ofNat 32 w.2.1)).conf (XQP.WD_CTRL_ARMED e) 0
    ((b.conf (XQP.WD_THRESH e) w.1).setWord (XQP.WD_ARG e).key (BitVec.ofNat 32 w.2.2)).set (XQP.WD_COUNT e) 0)

/-- The new half is armed, the old one disarmed (R336). -/
def Blk.swapWadis (b : Blk) : Blk :=
  let old := 256 * b.fleet.half
  let new := 256 - old
  let b := b.when (b.powered Page.XQP) fun b => b.each (List.range 256) (fun b i =>
    let b := b.conf (XQP.WD_CTRL_ARMED (old + i)) 0
    if b.flag (XQP.WD_CTRL_VALID (new + i)) then
      b.writeWdCtrl (new + i) ((b.conf (XQP.WD_CTRL_ARMED (new + i)) 1).word (XQP.WD_CTRL_VALID (new + i)).key)
    else b)
  b.setFleet { b.fleet with half := 1 - b.fleet.half }

/-- The spare routing table takes a variant's words and is armed for an epoch (R336, spec/11 R270). -/
def Blk.loadRoutes (b : Blk) (words : List Nat) (epoch : Nat) : Blk :=
  b.when (b.powered Page.XROUTE) fun b =>
  let bank := 1 - b.get XROUTE.STATUS_TABLE_ACTIVE
  let b := b.each (List.range 32) (fun b i =>
    { b with route := { b.route with tables := Tbl.put (dflt 0) b.route.tables (bank * 32 + i) (BitVec.ofNat 32 (nth words i 0)) } })
  (b.set XROUTE.RT_ARM_EPOCH epoch).set XROUTE.RT_ARM_ARMED 1

/-- The spare SCHED bank holds a variant, SWITCH_AT its coordinate, SCHED_CTRL and the deadline registers their copies. -/
def Blk.prepareVariant (b : Blk) (kind arg : Nat) (at_ : Coord) : Blk :=
  match b.fleet.plan.bind (fun p => planNode p kind arg b.self) with
  | none => b
  | some x =>
    let bank := 1 - b.get SCHED.SCHED_CTRL_BANK
    let b := { b with sched := { b.sched with words := Tbl.clear b.sched.words (fun k => k / 4096 == bank) } }
    let b := b.each (List.range x.entries.length) (fun b i =>
      match x.entries[i]? with | some e => b.loadEntry bank i (planEntryBytes e) | none => b)
    let n := coordNat at_
    let b := (b.conf SCHED.SWITCH_AT_LO (n % 2 ^ 32)).conf SCHED.SWITCH_AT_HI (n / 2 ^ 32)
    let b := b.storeKey SCHED.SCHED_CTRL_RUN.key (BitVec.ofNat 32 (1 + 2 * bank))
    let b := b.storeKey SCHED.DL_CTRL_EN.key (BitVec.ofNat 32 x.dlCtrl)
    let b := (b.storeKey SCHED.DL_VIEWS_LO.key (BitVec.ofNat 32 x.dlViews)).storeKey SCHED.DL_VIEWS_HI.key (BitVec.ofNat 32 (x.dlViews / 2 ^ 32))
    let b := if kind == 1 then b else b.loadWadis x.wadis
    b.setFleet { b.fleet with switch := some (at_, kind, arg) }

/-- The bank switch of a prepared variant has taken place (R330, R336, R339): the variant in force, JOINED, the Wadi halves, the
absent node. -/
def Blk.fleetSwitched (b : Blk) : Blk :=
  match b.fleet.switch with
  | none => b
  | some (at_, kind, arg) =>
    if !b.reached at_ || (b.copyOf SCHED.SCHED_CTRL_RUN.key).isSome then b
    else
      let b := (b.conf SCHED.VARIANT_VKIND kind).conf SCHED.VARIANT_VARG arg
      let b := b.when (b.jstate == jsReady) (fun b => b.setJstate jsJoined)
      let b := if kind == 1 then b else b.swapWadis
      let why := if b.fleet.loss.isSome then 1 else 2
      let b := { b with client := { b.client with
        missing := if kind == 2 then [arg] else [], blindWhy := if kind == 2 then why else 0
        blindSince := if kind == 2 then b.ep.frame else 0 } }
      let started := b.fleet.starting
      let b := b.setFleet { b.fleet with
        switch := none, loss := none, gone := false, fault := b.fleet.fault && kind != 0, starting := false
        runMode := b.fleet.plan.map planMode, stopped := b.fleet.stopped && !started, blind := b.fleet.blind && !started
        lastSwitch := if started then none else some (b.ep.frame, kind) }
      b.when (b.active Page.CLIENT) Blk.healthChanged

/-- SCHED clears RUN at an L0 where the mode in force is not the plan's; no group of that plan starts again, and every frame of
every view is lost until a plan for the mode in force is admitted (R309). -/
def Blk.planModeCheck (b : Blk) : Blk :=
  let off := match b.fleet.runMode with | some m => b.flag SCHED.SCHED_CTRL_RUN && m != b.mode | none => false
  if b.curL == 0 && b.powered Page.SCHED && (off || b.fleet.stopped) then
    ((b.conf SCHED.SCHED_CTRL_RUN 0).setFleet { b.fleet with stopped := true }).loseViews b.ep.frame gapMode b.mode
  else b

/-! ### Installing a plan -/

/-- The queue pairs of a variant start with PSNs 0 (R326). -/
def Blk.zeroPsns (b : Blk) (x : PlanNode) : Blk :=
  b.each (x.qps.map (fun q => q.qp % 256)) (fun b q =>
    if b.qstate q == qsReady then b else (b.conf (XQP.QCTX1_SQ_PSN q) 0).conf (XQP.QCTX2_RQ_PSN q) 0)

/-- A variant is loaded for a START: the plan's first, which ends a safe state or a stop (R309, R340). -/
def Blk.startVariant (b : Blk) (kind arg : Nat) (at_ : Coord) : Blk :=
  match b.fleet.plan.bind (fun p => planNode p kind arg b.self) with
  | none => b
  | some x =>
    let b := (b.zeroPsns x).prepareVariant kind arg at_
    b.setFleet { b.fleet with starting := true }

/-- An admitted plan is installed (R330, R333): another plan makes the node leave its fleet; a single node starts by itself at the
next L0 (notes/assumptions/56), under the restrictive defaults too, where it is shown ISOLATED (spec/19 R484). -/
def Blk.installPlan (b : Blk) (p : Plan) : Blk :=
  if b.fleet.plan == some p && !b.fleet.stopped then b
  else
    let b := b.leaveFleet
    let b := (b.conf SCHED.FLEET_ID (planFleet p)).conf SCHED.IDS_ERG_IF (planErgIf p)
    let b := b.conf SCHED.IDS_PLAN_FMT (planFmt p)
    let b := b.each [0, 1, 2, 3] (fun b i => b.conf (SCHED.PLAN_HASH i) (leAt (planHash p) (4 * i) 4))
    let now := b.ep.line
    let b := b.setFleet { noFleet with
                               plan := some p, seq := b.fleet.seq, half := b.fleet.half, heardAt := [now, now, now, now]
                               runMode := b.fleet.runMode, stopped := b.fleet.stopped && planMode p != b.mode
                               blind := b.fleet.blind, packed := b.fleet.packed }
    let b := match planBuddy p b.self with | some n => b.conf JOURNAL.BUDDY_NODE n | none => b
    let b := b.setJstate (if b.flag FUSE.STATUS_RESTRICTIVE then jsIsolated else jsAlone)
    if planN p == 1 then b.startVariant 0 0 ⟨b.ep.frame + 1, 0⟩
    else if b.flag FUSE.STATUS_RESTRICTIVE then b
    else if (List.range 4).any (fun d => b.lstate d != lsDisabled) then b.setJstate jsProbing
    else b

/-- A plan is offered (R327): admission, and its installation when no check fails. A node whose CFA or stepping is refused with no
plan in force is ISOLATED (R330). -/
def Blk.planOffer (b : Blk) (p : Plan) : List Byte × Blk :=
  let fs := b.admission p
  let b :=
    if fs.isEmpty then b.installPlan p
    else if b.fleet.plan.isNone && !b.planUnitOk p then b.setJstate jsIsolated
    else b
  (admissionReport fs, b)

/-! ### HELLO (R330) -/

/-- Ports the plan cables on this node, with their partner. -/
def Blk.cabled (b : Blk) : List (Nat × Nat) :=
  match b.fleet.plan with
  | some p => (List.range 4).filterMap (fun d => (planNeighbour p b.self d).map (fun n => (d, n)))
  | none => []

/-- Erg opens a port. -/
def Blk.openPort (b : Blk) (p : Nat) : Blk :=
  b.writePortCtrl p (.erg 0) ((b.word (XPORT.PORT_CTRL_OPEN p).key).toNat ||| 1)

/-- READY: ports opened, READY flooded (Table 8). -/
def Blk.fleetReady (b : Blk) : Blk :=
  let b := b.each (b.cabled.map (fun x => x.1)) Blk.openPort
  let b := b.setJstate jsReady
  let b := b.setFleet { b.fleet with readyAt := some b.ep.line, ready := b.self :: b.fleet.ready.filter (· != b.self) }
  b.ownNotice 3 b.self 0 (coordNat b.now)

def Blk.helloOn (b : Blk) (ports : List Nat) : Blk :=
  b.joinOnPorts ports (b.joinBytes 1 b.self 0 b.fleet.seq (coordNat b.now) 1)

/-- HELLO_SEND: ALONE with a plan and LEFT in RUN with a LOCKED epoch become PROBING; a PROBING node sends on its TRAINED ports. -/
def Blk.helloSend (b : Blk) : Blk :=
  if !b.powered Page.SCHED then b
  else if b.flag FUSE.STATUS_RESTRICTIVE then b.setJstate jsIsolated
  else
    let now := b.ep.line
    let many := match b.fleet.plan with | some p => 1 < planN p | none => false
    let st := b.epochState
    let again := (b.jstate == jsAlone && (List.range 4).any (fun d => b.lstate d != lsDisabled)) ||
      (b.jstate == jsLeft && b.power.mode == 4 && (st == stLocked || st == stMaster))
    let b := if many && again then
        (b.setJstate jsProbing).setFleet { b.fleet with agreed := [false, false, false, false], heardAt := [now, now, now, now], readyAt := none }
      else b
    if b.jstate == jsProbing then b.helloOn b.fleetPorts else b

/-- The first field of a HELLO that differs, as ISO_FIELD; 0 when it agrees (R330, spec/15 Table 6). -/
def Blk.helloDiffers (b : Blk) (port : Nat) (d : List Byte) : Nat :=
  let mine := b.joinBytes 1 b.self 0 0 0 1
  if leAt d 4 4 != leAt mine 4 4 then 1
  else if leAt d 8 2 != leAt mine 8 2 then 2
  else if leAt d 10 2 != leAt mine 10 2 then 3
  else if (d.drop 24).take 16 != (mine.drop 24).take 16 then 4
  else if (b.cabled.find? (fun x => x.1 == port)).map (fun x => x.2) != some (leAt d 1 1) then 5
  else 0

/-- A partner is reported isolated in HEALTH, or no longer. -/
def Blk.reportIso (b : Blk) (iso : Option (Nat × Nat × Nat)) : Blk :=
  let b := { b with client := { b.client with iso := iso } }
  b.when (b.active Page.CLIENT) Blk.healthChanged

/-- HELLO_RECEIVE (R330): Erg takes a partner's HELLO. Once every cabled port has an agreeing partner the node is READY; a node
READY or JOINED opens the port of a partner that agrees and answers it (notes/assumptions/57). -/
def Blk.helloReceive (b : Blk) (port : Nat) (d : List Byte) : Blk :=
  let st := b.jstate
  if 4 ≤ port || leAt d 0 1 != 1 || !b.fleetPort port || !(st == jsProbing || st == jsReady || st == jsJoined) then b
  else
    let b := b.setFleet { b.fleet with heardAt := setNth b.fleet.heardAt port b.ep.line }
    let f := b.helloDiffers port d
    if f != 0 then
      (b.setFleet { b.fleet with agreed := setNth b.fleet.agreed port false }).reportIso (some (leAt d 1 1, port, f))
    else
      let b := b.setFleet { b.fleet with agreed := setNth b.fleet.agreed port true }
      let b := match b.client.iso with | some (_, q, _) => if q == port then b.reportIso none else b | none => b
      if st == jsProbing then (if b.cabled.all (fun x => nth b.fleet.agreed x.1 false) then b.fleetReady else b)
      else if b.portOpen port then b
      else (b.openPort port).helloOn [port]

/-- HELLO_TIMEOUT (R330): a cabled port of a PROBING node heard none for 1 s. -/
def Blk.helloTimeout (b : Blk) (port : Nat) : Blk :=
  match b.cabled.find? (fun x => x.1 == port) with
  | none => b
  | some (_, n) =>
    if b.jstate == jsProbing && 300000 ≤ b.linesSince (nth b.fleet.heardAt port 0) then
      let b := b.setFleet { b.fleet with agreed := setNth b.fleet.agreed port false }
      b.reportIso (some (n, port, if b.powered (portPage port) && b.flag (XPORT.STATUS_MISCABLED port) then 7 else 6))
    else b

/-! ### START and RESTORE (R330 to R332) -/

/-- START with a variant: loaded for AT, unless it leaves this node out. -/
def Blk.takeStart (b : Blk) (kind arg : Nat) (at_ : Coord) : Blk :=
  if b.jstate != jsReady || (kind == 2 && arg == b.self) then b else b.startVariant kind arg at_

/-- RESTORE of a node: FULL is loaded for AT, the routes of FULL armed. -/
def Blk.takeRestore (b : Blk) (n : Nat) (at_ : Coord) : Blk :=
  if !(b.jstate == jsJoined || (b.jstate == jsReady && n == b.self)) then b
  else
    match b.fleet.plan.bind (fun p => planNode p 0 0 b.self) with
    | none => b
    | some x => (b.loadRoutes x.routes ((b.get XROUTE.RS_STATUS_LAST_EPOCH + 1) % 65536)).prepareVariant 0 0 at_

/-- START_RECEIVE: Erg takes a START or RESTORE notice. -/
def Blk.startReceive (b : Blk) (port : Nat) (d : List Byte) : Blk :=
  let kind := leAt d 0 1
  if !b.powered Page.SCHED || !(kind == 4 || kind == 5) then b
  else
    let (first, b) := b.takeNotice port d
    let at_ := coordOfNat (leAt d 16 8)
    if !first then b
    else if kind == 4 then b.takeStart (leAt d 40 1) (leAt d 41 1) at_
    else b.takeRestore (leAt d 1 1) at_

/-- The nodes of the plan in ascending order. -/
def Blk.planNodes (b : Blk) : List Nat := match b.fleet.plan with | some p => List.range (planN p) | none => []

/-- Nodes of the plan absent in the variant in force or by a loss held. -/
def Blk.gone (b : Blk) : List Nat :=
  (match b.fleet.loss with | some (n, _) => [n] | none => []) ++ (if b.get SCHED.VARIANT_VKIND == 2 then [b.get SCHED.VARIANT_VARG] else [])

/-- This node is the lowest-numbered of a list. -/
def Blk.lowest (b : Blk) (l : List Nat) : Bool := l.all (fun n => b.self ≤ n)

/-- The first L0 at least 4 frames ahead, and `extra` frames later. -/
def Blk.leadFrames (b : Blk) (extra : Nat) : Coord := ⟨b.ep.frame + BitVec.ofNat 32 ((if b.curL == 0 then 4 else 5) + extra), 0⟩

/-- A notice of the coordinator carries the variant it starts. -/
def Blk.startNotice (b : Blk) (kind node vkind varg : Nat) (at_ : Coord) : Blk :=
  let was := b.word SCHED.VARIANT_VKIND.key
  let b := ((b.conf SCHED.VARIANT_VKIND vkind).conf SCHED.VARIANT_VARG varg).ownNotice kind node 0 (coordNat at_)
  b.setWord SCHED.VARIANT_VKIND.key was

/-- COORDINATOR_DECIDE (R331, R332): `extra` frames beyond the four that START and RESTORE leave. -/
def Blk.coordinatorDecide (b : Blk) (extra : Nat) : Blk :=
  match b.fleet.plan with
  | none => b
  | some p =>
    let at_ := b.leadFrames extra
    if b.jstate == jsReady then
      if !b.after b.fleet.readyAt 600000 || b.fleet.switch.isSome then b
      else
        let missing := b.planNodes.filter (fun n => !b.fleet.ready.contains n)
        let chief := b.lowest b.fleet.ready
        if missing.isEmpty then (if chief then (b.startNotice 4 b.self 0 0 at_).takeStart 0 0 at_ else b)
        else if missing.length == 1 && planRound p && planDegraded p then
          let n := missing.headD 0
          if chief then (b.startNotice 4 b.self 2 n at_).takeStart 2 n at_ else b
        else
          let b := { b with client := { b.client with missing := missing, blindWhy := 2 } }
          b.when (b.active Page.CLIENT) Blk.healthChanged
    else if b.jstate == jsJoined && b.get SCHED.VARIANT_VKIND == 2 && b.fleet.switch.isNone then
      let n := b.get SCHED.VARIANT_VARG
      if b.fleet.ready.contains n && b.lowest (b.planNodes.filter (fun m => m != n)) then
        let b := (b.startNotice 5 n 0 0 at_).takeRestore n at_
        let c := coordNat at_
        let b := (b.set XROUTE.RS_AT_LO (c % 2 ^ 32)).set XROUTE.RS_AT_HI (c / 2 ^ 32)
        b.writeRsCtrl (.erg 0) (1 + 65536 * b.get XROUTE.RT_ARM_EPOCH)
      else b
    else b

/-- What Erg does at once with a JOIN that SCHED has put into the ring: a READY notice is forwarded and noted (R329, R331); a
heartbeat that reports a tile fault under a fault variant is the fleet's safe state (R340). -/
def Blk.joinHandled (b : Blk) (port : Nat) (d : List Byte) : Blk :=
  let kind := leAt d 0 1
  if !b.active Page.SCHED then b
  else if kind == 3 then
    let (_, b) := b.takeNotice port d
    let n := leAt d 1 1
    b.setFleet { b.fleet with ready := n :: b.fleet.ready.filter (· != n) }
  else if kind == 2 && bitAt (leAt d 3 1) 1 && b.jstate == jsJoined then b.fleetSafe
  else b

/-! ### Loss of a node (R335 to R340) -/

/-- Everything by DET + 40 (R336): routes armed, the variant in the spare bank, SWITCH_AT for F_s. -/
def Blk.prepareLoss (b : Blk) (n : Nat) (det : Coord) (epoch : Nat) : Blk :=
  match b.fleet.plan.bind (fun p => planNode p 2 n b.self) with
  | none => b
  | some x =>
    let fs := (b.coordPlus det 100).f + 1
    ((b.loadRoutes x.routes epoch).prepareVariant 2 n ⟨fs, 0⟩).loseUntil (fs - 1) gapSwitch 2

/-- A lost node that no variant replaces (R26, R340): the safe state, with the node named in HEALTH and SECTOR_BLIND. -/
def Blk.lossSafe (b : Blk) (n : Nat) : Blk :=
  let b := { b with client := { b.client with
    missing := n :: b.client.missing.filter (· != n), blindWhy := 1
    blindSince := if b.client.missing.isEmpty then b.ep.frame else b.client.blindSince } }
  let b := b.fleetSafe
  b.when (b.active Page.CLIENT) Blk.healthChanged

/-- A loss is known with a DET (R335, R337, R340; notes/assumptions/59): `send` floods it. -/
def Blk.takeLoss (b : Blk) (n : Nat) (det : Coord) (epoch : Nat) (send : Blk → Blk) : Blk :=
  match b.fleet.plan with
  | none => b
  | some p =>
    let kind := b.get SCHED.VARIANT_VKIND
    let held := b.fleet.loss
    let other := match held with | some (m, _) => m != n | none => false
    let later := match held with | some (_, d) => coordReached det d | none => false
    if b.jstate != jsJoined || n == b.self || (kind == 2 && b.get SCHED.VARIANT_VARG == n) then b
    else if kind != 0 || other then (if b.fleet.blind && b.client.missing.contains n then b else (send b).lossSafe n)
    else if later then b
    else
      let b := send (b.setFleet { b.fleet with loss := some (n, det), gone := false, ready := b.fleet.ready.filter (· != n) })
      if planRound p then b.prepareLoss n det epoch else b.lossSafe n

/-- LOSS_DETECT (R335): the port facing n is down, or shows HB_LOST. -/
def Blk.lossDetect (b : Blk) (port : Nat) : Blk :=
  match b.cabled.find? (fun x => x.1 == port) with
  | none => b
  | some (_, n) =>
    if b.jstate == jsJoined && (!b.trained port || bitAt (b.get SCHED.HB_STATUS_LOST) port) then
      let epoch := (b.get XROUTE.RS_STATUS_LAST_EPOCH + 1) % 65536
      b.takeLoss n b.now epoch (fun b => b.ownNotice 6 n epoch (coordNat b.now))
    else b

/-- LOSS_RECEIVE (R337). -/
def Blk.lossReceive (b : Blk) (port : Nat) (d : List Byte) : Blk :=
  if !b.powered Page.SCHED || leAt d 0 1 != 6 then b
  else b.takeLoss (leAt d 1 1) (coordOfNat (leAt d 16 8)) (leAt d 12 2) (fun b => b.floodJoin (some port) d)

/-- LOSS_ROUTE_GO (R338): at DET + 41 the lowest-numbered survivor writes RS_AT and GO. -/
def Blk.lossRouteGo (b : Blk) : Blk :=
  match b.fleet.loss with
  | none => b
  | some (_, det) =>
    if b.fleet.gone || !b.reached (b.coordPlus det 41) || !b.lowest (b.planNodes.filter (fun m => !b.gone.contains m)) then b
    else
      let c := coordNat (b.coordPlus det 50)
      let b := (b.set XROUTE.RS_AT_LO (c % 2 ^ 32)).set XROUTE.RS_AT_HI (c / 2 ^ 32)
      (b.writeRsCtrl (.erg 0) (1 + 65536 * b.get XROUTE.RT_ARM_EPOCH)).setFleet { b.fleet with gone := true }

/-- A ROUTE_EPOCH that finds this node unarmed while a loss is held: the fleet's safe state (R340). -/
def Blk.unarmedCheck (b : Blk) (wasUnarmed : Bool) : Blk :=
  b.when (!wasUnarmed && b.flag XROUTE.RS_STATUS_UNARMED && b.jstate == jsJoined && (b.fleet.loss.isSome || b.fleet.switch.isSome)) Blk.fleetSafe

/-- TILE_CONDEMN (R334, R340): a tile the canary target or its self-check condemns; TILE_OUT comes into force `lead` frames after
the next L0. -/
def Blk.tileCondemn (b : Blk) (t lead : Nat) : Blk :=
  if !(t < 16 && b.powered (tilePage t) && (bitAt (b.get SAFE.CANARY_STATUS_FAIL) t || b.safe.condemned.contains t)) then b
  else
    let b := b.tileMapOut t
    if b.get SCHED.VARIANT_VKIND != 0 || b.fleet.loss.isSome then
      (b.setFleet { b.fleet with fault := true }).fleetSafe
    else
      let f := b.ep.frame + BitVec.ofNat 32 (1 + lead)
      (b.prepareVariant 1 t ⟨f, 0⟩).loseUntil (f - 1) gapSwitch 1

/-! ### QP_SYNC (R326) -/

def qpSyncBytes (b : Blk) (x : QpSync) (me other : Nat) (ack : Bool) : List Byte :=
  let at_ := x.send + 2 ^ 24 * (me % 256) + 2 ^ 32 * (x.recv + 2 ^ 24 * (other % 256))
  b.joinBytes 7 b.self 0 b.fleet.seq at_ (1 + 4 * bitNat ack)

def Blk.sendSync (b : Blk) (x : QpSync) (ack : Bool) : Blk :=
  b.sendRouted (controlPacket 0x44 false x.node b.self (qpSyncBytes b x x.qp x.peer ack))

/-- A queue pair goes through RESET and INIT with new PSNs to READY; while its flush lasts it waits. -/
def Blk.syncQp (b : Blk) (q send recv : Nat) : Blk :=
  let a : Agent := .erg 0
  let b := if b.qstate q == qsReady then b.qpRequest q a qsError else b
  let b := b.qpRequest q a qsReset
  if b.qstate q != qsReset then b.setFleet { b.fleet with waits := b.fleet.waits ++ [⟨q, 0, 0, send, recv, b.ep.line⟩] }
  else
    let b := (b.qpRequest q a qsInit).conf (XQP.QCTX1_SQ_PSN q) send
    (b.conf (XQP.QCTX2_RQ_PSN q) recv).qpRequest q a qsReady

/-- A queue pair whose flush has ended takes the PSNs that wait for it. -/
def Blk.syncResume (b : Blk) (q : Nat) : Blk :=
  match b.fleet.waits.find? (fun x => x.qp == q) with
  | some x =>
    if b.qstate q == qsReset then (b.setFleet { b.fleet with waits := b.fleet.waits.erase x }).syncQp q x.send x.recv else b
  | none => b

/-- QP_SYNC_RESEND (R326): an unanswered proposal is sent again after 300 line periods; a queue pair in ERROR without one is
proposed for the first time (notes/assumptions/58). -/
def Blk.qpSyncResend (b : Blk) (q : Nat) : Blk :=
  match b.fleet.offers.find? (fun x => x.qp == q) with
  | some x =>
    if 300 ≤ b.linesSince x.sentAt then
      (b.setFleet { b.fleet with offers := b.fleet.offers.map (fun y => if y.qp == q then { y with sentAt := b.ep.line } else y) }).sendSync x false
    else b
  | none =>
    if q < 256 && b.powered Page.XQP && b.qstate q == qsError && !b.fleet.waits.any (fun x => x.qp == q) then
      let x : QpSync := ⟨q, b.get (XQP.QCTX0_PEER_NODE q), b.get (XQP.QCTX0_PEER_QP q), psnAdd (b.get (XQP.QCTX1_SQ_PSN q)) (2 ^ 23),
        psnAdd (b.get (XQP.QCTX2_RQ_PSN q)) (2 ^ 23), b.ep.line⟩
      (b.setFleet { b.fleet with offers := b.fleet.offers ++ [x] }).sendSync x false
    else b

/-- QP_SYNC_RECEIVE (R326): an answer to the proposal outstanding, or a proposal, which is answered, kept or discarded. -/
def Blk.qpSyncReceive (b : Blk) (d : List Byte) : Blk :=
  let node := leAt d 1 1
  let theirs := leAt d 19 1
  let q := leAt d 23 1
  let send := leAt d 16 3
  let recv := leAt d 20 3
  let mine := b.fleet.offers.find? (fun x => x.qp == q)
  let drop := fun (b : Blk) => b.setFleet { b.fleet with offers := b.fleet.offers.filter (fun x => x.qp != q) }
  if leAt d 0 1 != 7 || !b.powered Page.XQP || b.get (XQP.QCTX0_PEER_NODE q) != node || b.get (XQP.QCTX0_PEER_QP q) != theirs then b
  else if bitAt (leAt d 3 1) 2 then
    match mine with
    | some x => if x.send == send && x.recv == recv then (drop b).syncQp q send recv else b
    | none => b
  else
    let wins := mine.isSome && (b.self < node || (b.self == node && q < theirs))
    if wins then b
    else
      let t : QpSync := ⟨q, node, theirs, send, recv, b.ep.line⟩
      let same := b.fleet.taken.any (fun x => x.qp == q && x.send == send && x.recv == recv) && mine.isNone
      let b := (drop b).sendSync t true
      if same then b
      else
        let b := b.setFleet { b.fleet with taken := t :: b.fleet.taken.filter (fun x => x.qp != q) }
        b.syncQp q recv send

end Sys2Proof.Machine
end

