-- ==== Sys2Proof/Machine/Fabric.lean ====
section
/-! DEFINITION. Machine/Fabric.lean: a packet that arrives at a Xanar port (spec/11 R250, R253, R256, R257, R268): its checks, and
where it goes. -/

namespace Sys2Proof.Machine

/-- The port carries the packet in its state (spec/11 R250 Table 1), a tap port IDENT alone (R274); what it does not carry is discarded
(notes/assumptions/62). -/
def Blk.carries (b : Blk) (p : Nat) (k : Packet) : Bool :=
  let st := b.lstate p
  if b.flag (XPORT.STATUS_TAP_MODE p) then k.type == 0x42
  else if st == lsOpen then true
  else if st == lsTrained then k.cls == 0
  else if st == lsMeasure then k.type == 0x42 || k.type == 0x43
  else if st == lsIdent then k.type == 0x42
  else false

/-- A packet whose CRC fails or that is stomped is counted (spec/11 R257). -/
def Blk.countCrc (b : Blk) (p state : Nat) : Blk :=
  if state == 1 then ((b.bumpSat (XPORT.CRC_ERR p)).raise (XPORT.IRQ_RAW_CRC_ERR p)).captureOwnFree (portPage p) 0x03
  else if state == 2 then b.bumpSat (XPORT.STOMPED p)
  else b

/-- ROUTE_EPOCH_RECEIVE with what Erg does when the node is found unarmed (spec/11 R272, spec/13 R340). -/
def Blk.routeEpochTaken (b : Blk) (p : Nat) (d : RouteEpochIn) : Blk :=
  let was := b.flag XROUTE.RS_STATUS_UNARMED
  (b.routeEpochReceive p d).unarmedCheck was

/-- JOIN_RECEIVE with Erg's part in it (spec/13 R329, R332). -/
def Blk.joinTaken (b : Blk) (p : Nat) (d : List Byte) : Blk := (b.joinReceive p d).joinHandled p d

/-- A packet for this node or its link partner, whose CRC holds, reaches what it is for (spec/11 Table 3, spec/12 R278); `p` is none
for one from the node's own endpoint. A TAP packet is for a test station (spec/11 R275; notes/assumptions/32). -/
def Blk.deliver (b : Blk) (p : Option Nat) (k : Packet) (offset : Int) : Blk :=
  let port := p.getD ownInput
  if k.type ≤ 2 then b.rmaRequest p k
  else if k.type == 3 then b.rmaReadResp p k
  else if k.type == 4 then b.rmaAck k
  else if k.type == 5 then b.rmaNak k
  else if k.type == 0x44 then b.joinTaken port k.payload
  else if !k.loc then b
  else if k.type == 0x40 then b.beatReceive port (beatOfBytes k.payload) offset
  else if k.type == 0x41 then b.routeEpochTaken port ⟨k.src, k.hops, k.payload⟩
  else if k.type == 0x42 then b.identReceive port k.xver k.payload
  else if k.type == 0x43 then b.probeReceive port k.payload
  else b

/-- Packets on their way from the node's own endpoint to itself arrive, and what they bring forth of that kind, at most `fuel` times
over (spec/11 R268). -/
def Blk.arriveOwnAt : Nat → Blk → Blk
  | 0, b => b
  | fuel + 1, b =>
    let ks := b.route.own
    if ks.isEmpty then b
    else Blk.arriveOwnAt fuel ({ b with route := { b.route with own := [] } }.each ks (fun b k => b.deliver none k 0))

/-- No exchange of a node with itself is longer than a request and its answer. -/
def Blk.arriveOwn (b : Blk) : Blk := Blk.arriveOwnAt 16 b

/-- A failed header (spec/11 R256). -/
def Blk.countHeader (b : Blk) (p : Nat) : Blk :=
  ((b.bumpSat (XPORT.HDR_ERR p)).raise (XPORT.IRQ_RAW_HDR_ERR p)).captureOwnFree (portPage p) 0x02

/-- What a packet's header decides when its head arrives (spec/11 R256, R262, R273): an output port, 4 the own endpoint, 5 that it is
discarded, 6 that a stopped XROUTE has not routed it yet. -/
def Blk.headFate (b : Blk) (a : Arrival) : Nat × Blk :=
  let p := a.port
  let k := a.pkt
  if headerFails a then (5, b.countHeader p)
  else if !b.carries p k then (5, b)
  else if k.loc then (4, b)
  else if !b.active Page.XROUTE then (6, b)
  else if k.dst == b.get XROUTE.NODE_ID then (4, b)
  else match b.routeOf p k with
    | .inl e => (e, b)
    | .inr d => (5, b.dropPacket d k.dst)

/-- A packet's tail has arrived: it goes where its header sent it, unless that port has gone down meanwhile (spec/11 R253, R257). -/
def Blk.tailArrives (b : Blk) (a : Arrival) (fate : Nat) : Blk :=
  let p := a.port
  let k := a.pkt
  if fate == 5 then b
  else
    let state := crcState k a.badLater
    let b := b.countCrc p state
    if fate == 4 then (if state == 0 then b.deliver (some p) k a.offset else b)
    else if fate == 6 then
      let kept := if state == 0 then k else stomp (sealed k)
      { b with route := { b.route with held := b.route.held ++ [(some p, kept)] } }.updatePause
    else if b.portTakes fate k then b.sendOn fate p k state
    else b.dropPacket 1 k.dst

/-- XANAR_PACKET_RECEIVE (spec/11 R256, R257, R268): a whole packet; or its head, and its tail when the same class of the port brings
the packet again. -/
def Blk.packetReceive (b : Blk) (a : Arrival) : Blk :=
  let p := a.port
  if 4 ≤ p || b.lstate p < lsIdent then b
  else
    let b := (b.addSat (XPORT.FEC_CORR p) a.corrected).addSat (XPORT.FEC_UNCORR p) a.uncorrectable
    let b := b.when a.tail (fun b => b.addWide (XPORT.RX_FLITS_LO p) (XPORT.RX_FLITS_HI p) (flitsOf a.pkt))
    let x := b.port p
    match x.arriving.find? (fun e => e.1.cls == a.sideCls) with
    | some e => if a.tail then (b.setPort p { x with arriving := x.arriving.erase e }).tailArrives a e.2 else b
    | none =>
      let (fate, b) := b.headFate a
      if a.tail then b.tailArrives a fate
      else b.setPort p { b.port p with arriving := (b.port p).arriving ++ [({ a.pkt with cls := a.sideCls }, fate)] }

end Sys2Proof.Machine
end

