-- ==== Sys2Proof/Machine/Fuse.lean ====
section
/-! DEFINITION. Machine/Fuse.lean: burns through the FUSE page, privileged actions, the return authorisation and the test pads
(spec/19 R478 to R500). -/

namespace Sys2Proof.Machine

/-! ### Burns (R478 to R480) -/

def fcNotBlank : Nat := 1
def fcProgFail : Nat := 2
def fcNoPresence : Nat := 3
def fcSupply : Nat := 4
def fcLocked : Nat := 5
def fcBadWord : Nat := 6
def fcBusy : Nat := 7

/-- PROG_STATUS.LAST_ERR, captured. -/
def Blk.progErr (b : Blk) (code : Nat) : Blk :=
  ((b.set FUSE.PROG_STATUS_LAST_ERR code).raise FUSE.IRQ_RAW_PROG_ERR).captureOwnFree Page.FUSE code

/-- The refusal of a GO for PROG_ADDR, in the order of R478's table; 0 accepts it. -/
def Node.progRefusal (n : Node) : Nat :=
  let w := n.b.get FUSE.PROG_ADDR
  if n.b.fuse.burn.isSome then fcBusy
  else if n.b.flag FUSE.LOCK_PROG then fcLocked
  else if otpReserved w then fcBadWord
  else if otpSet n.otp w then fcNotBlank
  else if !n.b.flag OASIS.STATUS_VIN_OK || !n.b.flag OASIS.STATUS_HOLD_OK then fcSupply
  else if !n.presenceFor w then fcNoPresence
  else 0

/-- PROG_CMD.GO (R478, R479). -/
def Blk.progGo (b : Blk) (refusal : Nat) : Blk :=
  if !b.active Page.FUSE then b
  else if refusal != 0 then b.progErr refusal
  else
    let code := otpEncode (BitVec.ofNat 32 (b.get FUSE.PROG_DATA))
    let b := (((b.set FUSE.STATUS_BURNING 1).set FUSE.PROG_STATUS_STATE 1).set FUSE.PROG_STATUS_RETRIES 0)
    { b with fuse := { b.fuse with burn := some ⟨b.get FUSE.PROG_ADDR, code.toNat, 0⟩ } }

/-- A burn ends. -/
def Blk.burnEnds (b : Blk) : Blk :=
  { (b.set FUSE.STATUS_BURNING 0).set FUSE.PROG_STATUS_STATE 0 with fuse := { b.fuse with burn := none } }

/-- A reset that waited for an attempt takes effect (R480). -/
def Node.resetAfterBurn (n : Node) : Node :=
  let k := n.b.fuse.resetWaits
  let n := n.on (fun b => { b with fuse := { b.fuse with resetWaits := 0 } })
  if k == 1 then n.warmNow 2 true else if k == 2 then n.coldNow else if k == 3 then n.warmNow 3 true
  else if k == 4 then n.warmNow 2 false else n

/-- FUSE_ATTEMPT_DONE: a pulse and its margin read (R479); `weak` names the bits that have not taken. A retry needs that no reset
waits (R480) and that FREEZE has not stopped the block. -/
def Node.attemptDone (n : Node) (weak : OtpWord) : Node :=
  match n.b.fuse.burn with
  | none => n
  | some r =>
    if !n.b.active Page.FUSE then n
    else
      let code := BitVec.ofNat 39 r.code
      let n : Node := { n with otp := burnBits n.otp r.word code weak }
      let n := n.on fun b => (b.set FUSE.PROG_STATUS_RETRIES r.tries).when (decide (r.word < 4)) (fun b => b.raise LIFE.IRQ_RAW_LC_BURNED)
      let n :=
        if otpWord n.otp r.word == code then n.on (fun b => b.burnEnds.raise FUSE.IRQ_RAW_PROG_DONE)
        else if n.b.fuse.resetWaits != 0 then n.on Blk.burnEnds
        else if 3 ≤ r.tries then n.on (fun b => b.burnEnds.progErr fcProgFail)
        else n.on (fun b => { b with fuse := { b.fuse with burn := some { r with tries := r.tries + 1 } } })
      let n := n.lifeSync
      if n.b.fuse.resetWaits != 0 then n.resetAfterBurn else n

/-- Offset of a lock register of FUSE (R488). -/
def fuseLockAt (which : Nat) : Nat := 0x070 + 4 * (which % 4)

/-- FUSE_LOCK_WRITE (R488): the first write since cold reset or SYS power-up takes effect at once. -/
def Blk.writeFuseLock (b : Blk) (which v : Nat) : Blk :=
  let key := regKey Page.FUSE (fuseLockAt which)
  if Tbl.get (dflt false) b.locked key then b
  else
    let b := b.markChanged Page.FUSE
    { b.setWord key (BitVec.ofNat 32 (v % 2)) with locked := Tbl.put (dflt false) b.locked key true }

/-- What READ_DATA reads (R476, R483, Table 9): a state word is never decoded. -/
def Node.readOtp (n : Node) (w : Nat) : Word :=
  if isSecretWord w && n.b.flag FUSE.LOCK_SECRET then 0
  else if isValueWord w then otpData (otpWord n.otp w) else (otpWord n.otp w).setWidth 32

/-- What READ_INFO reads. -/
def Node.readOtpInfo (n : Node) (w : Nat) : Word :=
  let x := otpWord n.otp w
  let secret := isSecretWord w && n.b.flag FUSE.LOCK_SECRET
  let check := if secret then 0 else (x.toNat / 2 ^ 32)
  BitVec.ofNat 32 (check + 256 * bitNat (!otpSet n.otp w) + 512 * bitNat (isValueWord w && otpCe x) +
    1024 * bitNat (isValueWord w && otpUe x))

/-! ### Privileged actions (R495 to R498) -/

def psOk : Nat := 0
def psBadArgs : Nat := 2
def psDenied : Nat := 3
def psFailed : Nat := 6

/-- The answer to a privileged action: STATUS, RESULT, DETAIL. -/
structure PrivAnswer where
  status : Nat
  result : Nat
  detail : Nat
deriving DecidableEq, Repr

def privOk : PrivAnswer := ⟨psOk, 0, 0⟩
def privBadArgs : PrivAnswer := ⟨psBadArgs, 0, 0⟩
def privDenied : PrivAnswer := ⟨psDenied, 0, 0⟩
def privFailed (r : Nat) : PrivAnswer := ⟨psFailed, r, 0⟩

/-- What the end of a burn answers (R497); a failed verify shows 2003h. -/
def Node.burnAnswer (n : Node) (r : BurnEnd) : PrivAnswer × Node :=
  match r with
  | .done => (privOk, n)
  | .noPresence => (privDenied, n)
  | .locked => (privFailed 7, n)
  | .supply => (privFailed 6, n)
  | .notBlank => (privFailed 2, n)
  | .failed => (privFailed 3, n.on (fun b => b.tallyFault 0x2003))

/-- A state word is burned. -/
def Node.burnState (n : Node) (e : BurnEnv) (w : Nat) : PrivAnswer × Node :=
  let (d, n) := n.stateData
  let (r, n) := n.fieldWords e [(w, d)]
  n.burnAnswer r

/-- A word that holds no data, or cannot be read, keeps MAKER from FIELD (R490). -/
def Node.fieldReady (n : Node) : Bool :=
  let held := fun (w : Nat) => otpSet n.otp w && !otpUe (otpWord n.otp w)
  held wMakerCfg && held wFeature && (List.range 12).all (fun i => held (wSecret + i)) && !integrityFails n.otp && n.b.fuse.calibOk

/-- A warm reset follows the answer within 300,000 line periods (R491, R498). -/
def Blk.resetFollows (b : Blk) : Blk := { b with cores := { b.cores with resetDue := some b.ep.line } }

/-- LC_ADVANCE (R490, R491). -/
def Node.lcAdvance (n : Node) (target : Nat) (e : BurnEnv) : PrivAnswer × Node :=
  let st := lifeState n.otp
  if 4 < target then (privBadArgs, n)
  else if st == target then (privOk, n)
  else
    let allowed := (st == lcMaker && target == lcField && n.fieldReady) || (st == lcField && target == lcReturn) ||
      (lcMaker ≤ st && st ≤ lcReturn && target == lcScrap)
    if !allowed then (privFailed 1, n)
    else
      let (a, n) := n.burnState e (target - 1)
      (a, if a.status == psOk && lcReturn ≤ target then n.on Blk.resetFollows else n)

/-- The words and data of a FUSE_BURN field, `none` where FIELD or slot is malformed. -/
def burnField (field slot : Nat) (value : List Byte) : Option (List (Nat × BitVec 32)) :=
  let words := fun (first n : Nat) => (List.range n).map (fun i => (first + i, BitVec.ofNat 32 (leAt value (4 * i) 4)))
  if field == 1 && slot < 4 then some (words (wOwnerKey slot) 12)
  else if field == 2 then some (words wMakerCfg 1)
  else if field == 3 then some (words wFeature 1)
  else if field == 4 then some (words wSecret 12)
  else none

/-- A value word already holds this data (R481). -/
def Node.holds (n : Node) (w : Nat) (d : BitVec 32) : Bool :=
  otpSet n.otp w && !otpUe (otpWord n.otp w) && otpData (otpWord n.otp w) == d

/-- FUSE_BURN (Table 8). -/
def Node.fuseBurn (n : Node) (field slot : Nat) (value : List Byte) (e : BurnEnv) : PrivAnswer × Node :=
  let st := lifeState n.otp
  match burnField field slot value with
  | none => (privBadArgs, n)
  | some ws =>
    let allowed := if field == 1 then st == lcField && !otpSet n.otp (wOwnerRevoke + slot) else st == lcMaker
    if ws.all (fun x => n.holds x.1 x.2) then (privOk, n)
    else if !allowed then (privFailed 1, n)
    else
      let n := if field == 1 && n.b.get FUSE.TRIAL_CTRL_SLOT == slot then (n.on (fun b => b.conf FUSE.TRIAL_CTRL_EN 0)).lifeSync else n
      let (r, n) := n.fieldWords e ws
      n.burnAnswer r

/-- KEY_REVOKE (Table 8). -/
def Node.keyRevoke (n : Node) (kind index : Nat) (e : BurnEnv) : PrivAnswer × Node :=
  let st := lifeState n.otp
  if 1 < kind || 3 < index then (privBadArgs, n)
  else
    let w := (if kind == 0 then wModomRevoke else wOwnerRevoke) + index
    let allowed := if kind == 0 then st == lcMaker || st == lcReturn else st == lcField
    if otpSet n.otp w then (privOk, n)
    else if !allowed then (privFailed 1, n)
    else if kind == 0 && modomKeys n.otp == [index] then (privFailed 9, n)
    else n.burnState e w

/-- Increments of a counter until its count reaches `t`, with at most `fuel` of them (R477). -/
def Node.arbRaise (n : Node) (first t : Nat) (e : BurnEnv) : Nat → PrivAnswer × Node
  | 0 => (privOk, n)
  | fuel + 1 =>
    if t ≤ arbCount n.otp first then (privOk, n)
    else
      match arbNext n.otp first with
      | none => (privFailed 5, n)
      | some w =>
        let (r, e, n) := n.fieldWord e w (BitVec.ofNat 32 (arbCount n.otp first + 1))
        match r with
        | .done => n.arbRaise first t e fuel
        | r => n.burnAnswer r

/-- ARB_COMMIT (Table 8). -/
def Node.arbCommit (n : Node) (kind t : Nat) (e : BurnEnv) : PrivAnswer × Node :=
  let st := lifeState n.otp
  let first := if kind == 1 then wHamadaArb else wErgArb
  let svn := if kind == 1 then (if n.b.flag SYS.BOOT_STATUS_PATCH_IN_USE then n.b.get SYS.SVN_HAMADA else 0) else n.b.get SYS.SVN_ERG
  if !(kind == 1 || kind == 2) || 64 < t then (privBadArgs, n)
  else if t ≤ arbCount n.otp first then (privOk, n)
  else if !(lcMaker ≤ st && st ≤ lcReturn) then (privFailed 1, n)
  else if svn < t then (privFailed 4, n)
  else n.arbRaise first t e 65

/-- The override that FUSE_TRIAL asks for is the one held. -/
def Blk.trialHolds (b : Blk) (slot : Nat) (en : Bool) (hash : List Byte) : Bool :=
  if en then b.flag FUSE.TRIAL_CTRL_EN && b.get FUSE.TRIAL_CTRL_SLOT == slot &&
    (List.range 12).all (fun i => b.get (FUSE.TRIAL_HASH i) == leAt hash (4 * i) 4)
  else !b.flag FUSE.TRIAL_CTRL_EN

/-- FUSE_TRIAL (R487). -/
def Node.fuseTrial (n : Node) (slot : Nat) (en : Bool) (hash : List Byte) : PrivAnswer × Node :=
  if 3 < slot then (privBadArgs, n)
  else if n.b.trialHolds slot en hash then (privOk, n)
  else if lifeState n.otp != lcField then (privFailed 1, n)
  else if n.b.flag FUSE.LOCK_TRIAL then (privFailed 7, n)
  else if !en then (privOk, (n.on (fun b => b.conf FUSE.TRIAL_CTRL_EN 0)).lifeSync)
  else if !keyBlank n.otp slot || otpSet n.otp (wOwnerRevoke + slot) then (privFailed 2, n)
  else
    let n := n.on fun b =>
      let b := b.each (List.range 12) (fun b i => b.conf (FUSE.TRIAL_HASH i) (leAt hash (4 * i) 4))
      (b.conf FUSE.TRIAL_CTRL_SLOT slot).conf FUSE.TRIAL_CTRL_EN 1
    (privOk, n.lifeSync)

/-- PATCH_INSTALL (R456): the staged image in DATA is checked and written to the slot not in use. `flashErr`: the write to flash
fails. -/
def Node.patchInstall (n : Node) (off len : Nat) (flashErr : Bool) : PrivAnswer × Node :=
  let base := partOff ptData + off
  if 528384 < len || len < 4096 || partSize ptData < off + len then (privBadArgs, n)
  else if lifeState n.otp == lcScrap then (privFailed 1, n)
  else
    let code := n.imageCode 1 base true
    let code := if code == 0 && len < 4096 + mfBody (n.b.flashGet base 512) then 0x1001 else code
    if code != 0 then (⟨psFailed, 8, code % 256⟩, n)
    else if flashErr then (⟨5, 0, 0⟩, n)
    else
      let inUse := n.b.flag SYS.BOOT_STATUS_PATCH_IN_USE
      let slot := if inUse then 1 - n.b.get SYS.BOOT_STATUS_PATCH_SLOT else 0
      let image := n.b.flashGet base len
      (privOk, n.on (fun b => (b.eraseFlash (ptPatchA + slot)).flashPut (patchBase slot) image))

/-- FACTORY_RESET (R498). -/
def Node.factoryReset (n : Node) : PrivAnswer × Node :=
  if lifeState n.otp != lcField then (privFailed 1, n)
  else (privOk, n.on (fun b => ({ b with fuse := { b.fuse with factory := true } }).resetFollows))

/-- The arguments a privileged action comes with (spec/19 Table 8). -/
inductive PrivArgs where
  | lcAdvance (target : Nat)
  | fuseBurn (field slot : Nat) (value : List Byte)
  | keyRevoke (kind index : Nat)
  | arbCommit (kind target : Nat)
  | fuseTrial (slot : Nat) (en : Bool) (hash : List Byte)
  | patchInstall (off len : Nat)
  | factoryReset
  | unknown (action : Nat)
deriving DecidableEq, Repr

/-- The arguments in a 64-byte argument block. -/
def privArgs (action : Nat) (d : List Byte) : PrivArgs :=
  if action == 1 then .lcAdvance (leAt d 0 1)
  else if action == 2 then .fuseBurn (leAt d 0 1) (leAt d 1 1) ((d.drop 8).take 48)
  else if action == 3 then .keyRevoke (leAt d 0 1) (leAt d 1 1)
  else if action == 4 then .arbCommit (leAt d 0 1) (leAt d 1 1)
  else if action == 5 then .fuseTrial (leAt d 0 1) (bitAt (leAt d 1 1) 0) ((d.drop 8).take 48)
  else if action == 6 then .patchInstall (leAt d 0 8) (leAt d 8 4)
  else if action == 7 then .factoryReset
  else .unknown action

/-- ACTION code. -/
def PrivArgs.action : PrivArgs → Nat
  | .lcAdvance _ => 1
  | .fuseBurn _ _ _ => 2
  | .keyRevoke _ _ => 3
  | .arbCommit _ _ => 4
  | .fuseTrial _ _ _ => 5
  | .patchInstall _ _ => 6
  | .factoryReset => 7
  | .unknown a => a

/-- An action whose start presence allows. -/
def Node.privRun (n : Node) (a : PrivArgs) (e : BurnEnv) (flashErr : Bool) : PrivAnswer × Node :=
  match a with
  | .lcAdvance t => n.lcAdvance t e
  | .fuseBurn f s v => n.fuseBurn f s v e
  | .keyRevoke k i => n.keyRevoke k i e
  | .arbCommit k t => n.arbCommit k t e
  | .fuseTrial s en h => n.fuseTrial s en h
  | .patchInstall o l => n.patchInstall o l flashErr
  | .factoryReset => n.factoryReset
  | .unknown _ => (privBadArgs, n)

/-- Hamada executes a privileged action (R495, R497): only while PRES_LEFT is at least 1; LAST_PRIV records it. -/
def Node.priv (n : Node) (a : PrivArgs) (e : BurnEnv) (flashErr : Bool) : PrivAnswer × Node :=
  let (r, n) := if n.b.presLeft == 0 then (privDenied, n) else n.privRun a e flashErr
  (r, n.on (fun b => ((b.set LIFE.LAST_PRIV_ACTION a.action).set LIFE.LAST_PRIV_RESULT r.result).set LIFE.LAST_PRIV_STATUS r.status))

/-- A PRIV_ command: the action, and the warm reset that follows it at once (R491, R498; notes/assumptions/51). -/
def Node.privNow (n : Node) (a : PrivArgs) (e : BurnEnv) (flashErr : Bool) : Node :=
  let (r, n) := n.priv a e flashErr
  if r.status == psOk && n.b.cores.resetDue.isSome then n.warmReset 2 true else n

/-! ### The return authorisation (R492) -/

/-- CODE of RTN_STATUS for an authorisation, 0 when it is accepted. -/
def Node.returnCode (n : Node) (auth : List Byte) : Nat :=
  if lifeState n.otp != lcField then 5
  else if leAt auth 0 4 != 0x52544E52 then 1
  else if leAt auth 4 4 != (otpData (otpWord n.otp wUnitId)).toNat || leAt auth 8 4 != (otpData (otpWord n.otp (wUnitId + 1))).toNat then 2
  else if !(modomKeys n.otp).any (fun k => ecdsaOk (Config.modomKey k) (auth.take 160) (beNat ((auth.drop 160).take 48))
      (beNat ((auth.drop 208).take 48))) then 3
  else if !n.b.flag OASIS.STATUS_PRES_WINDOW then 4
  else 0

/-- RETURN_REQ (R492): the authorisation shifted in. -/
def Node.returnReq (n : Node) (auth : List Byte) (e : BurnEnv) : Node :=
  if !n.b.powered Page.LIFE then n
  else
    let n := n.on (fun b => ((b.set LIFE.RTN_STATUS_LOADED 1).set LIFE.RTN_STATUS_ACCEPTED 0).raise LIFE.IRQ_RAW_RTN_REQ)
    let code := n.returnCode auth
    if code != 0 then
      n.on (fun b => ((b.set LIFE.RTN_STATUS_CODE code).raise LIFE.IRQ_RAW_RTN_BAD).captureOwnFree Page.LIFE 1)
    else
      let n := n.on (fun b => (b.set LIFE.RTN_STATUS_CODE 0).set LIFE.RTN_STATUS_ACCEPTED 1)
      (n.lcAdvance lcReturn e).2

/-! ### The test pads (R493) -/

/-- IDCODE of a stepping. -/
def idcode (stepping : Nat) : Nat := if stepping == 0x0A then 0xA3624A1B else 0xB3624A1B

/-- BYPASS: the one-bit register, which captures 0 (IEEE 1149.1), delays what is shifted in. -/
def Blk.jtagBypass (b : Blk) (bits : List Bool) : Blk :=
  b.emit (.testPads (some (maskOf (bits.length + 1) (fun i => nth (false :: bits) i false))))

/-- SAMPLE/PRELOAD: the pins sampled shift out while the scan register is preloaded. -/
def Blk.jtagSample (b : Blk) (pins preload : List Bool) : Blk :=
  let b := { b with fuse := { b.fuse with scan := preload, driven := false } }
  b.emit (.testPads (some (maskOf pins.length (fun i => nth pins i false))))

/-- EXTEST: the cells drive what was preloaded, and take what is shifted in. -/
def Blk.jtagExtest (b : Blk) (pins shifted : List Bool) : Blk :=
  let b := { b with fuse := { b.fuse with scan := shifted, driven := true } }
  b.emit (.testPads (some (maskOf pins.length (fun i => nth pins i false))))

/-- IDCODE. -/
def Blk.jtagIdcode (b : Blk) : Blk := b.emit (.testPads (some (idcode b.unit.stepping)))

/-- DEBUG_ACCESS (Table 6): a raw read of an OTP word is served where the gate is open; another access answers a free value
(notes/assumptions/70). -/
def Node.debugAccess (n : Node) (r : DebugReq) : Node :=
  if !n.debugOpen then n.on (fun b => b.emit (.testPads none))
  else
    match r with
    | .otpWord w =>
      let v := if isSecretWord w && n.b.flag FUSE.LOCK_SECRET then 0 else (otpWord n.otp w).toNat
      n.on (fun b => b.emit (.testPads (some v)))
    | .other =>
      n.on fun b =>
        let (v, b) := b.free 64
        b.emit (.testPads (some v))

end Sys2Proof.Machine
end

