-- ==== Sys2Proof/Machine/Mailbox.lean ====
section
/-! DEFINITION. Machine/Mailbox.lean: the mailbox (spec/18 R463 to R465) and the kernel ABI (spec/18 R468 to R471). -/

namespace Sys2Proof.Machine

/-! ### The mailbox -/

def mbBadOp : Nat := 1
def mbImageBad : Nat := 4
def mbFlashErr : Nat := 5

/-- Hamada's answer to a request. -/
structure MbAnswer where
  status : Nat
  detail : Nat
  result : List Byte
deriving DecidableEq, Repr

def mbOk : MbAnswer := ⟨psOk, 0, []⟩
def mbBadArgs : MbAnswer := ⟨psBadArgs, 0, []⟩
def mbDenied : MbAnswer := ⟨psDenied, 0, []⟩

/-- The 256 bytes of the request. -/
def Blk.mbRequest (b : Blk) : List Byte := (List.range 64).flatMap (fun i => natLe 4 (b.get (CORE.MB_REQ i)))

/-- A write to the doorbell (R463). -/
def Blk.mbDoorbell (b : Blk) (a : Agent) (v : Nat) : Blk :=
  if b.flag CORE.MB_STATUS_BUSY then b.captureFree Page.CORE 1 (agentCode a)
  else if bitAt v 0 && b.active Page.CORE then (b.set CORE.MB_STATUS_BUSY 1).raise CORE.IRQ_RAW_MB_REQ
  else b

/-- A write to MB_REQ (R463). -/
def Blk.writeMbReq (b : Blk) (a : Agent) (key : Nat) (v : Word) : Blk :=
  if b.flag CORE.MB_STATUS_BUSY then b.captureFree Page.CORE 1 (agentCode a) else b.setWord key v

/-- The cores the mailbox's completion interrupts (R467). -/
def Blk.mbCores (b : Blk) : Nat := b.irqCores 0x5C

/-- Hamada writes a response (R463). -/
def Blk.mbRespond (b : Blk) (seq : Nat) (a : MbAnswer) : Blk :=
  let d := natLe 4 seq ++ natLe 1 a.status ++ natLe 1 a.detail ++ natLe 2 a.result.length ++ natLe 8 0 ++ a.result
  let b := b.each (List.range (ceilDiv d.length 4)) (fun b i => b.conf (CORE.MB_RESP i) (leAt d (4 * i) 4))
  ((b.set CORE.MB_RESP_STATUS_VALID 1).set CORE.MB_STATUS_BUSY 0).emit (.ipi b.mbCores)

/-- Operations the running HIF offers (R452, R464). -/
def Blk.mbOffered (b : Blk) (op : Nat) : Bool := (1 ≤ op && op ≤ 6) || ((op == 7 || op == 8) && 0x0102 ≤ b.get SYS.HIF)

/-- Hamada takes the outstanding request, when it is of operation `op` or none it offers (R463, R464): the answer, or
nothing where there is no such request (notes/assumptions/54). -/
def Node.mbServe (n : Node) (op : Nat) (f : Node → List Byte → MbAnswer × Node) : Node :=
  if !(n.b.active Page.CORE && n.b.flag CORE.MB_STATUS_BUSY) then n
  else
    let d := n.b.mbRequest
    let o := leAt d 4 2
    if !n.b.mbOffered o then n.on (fun b => b.mbRespond (leAt d 0 4) ⟨mbBadOp, 0, []⟩)
    else if o != op then n
    else if 240 < leAt d 6 2 then n.on (fun b => b.mbRespond (leAt d 0 4) mbBadArgs)
    else
      let (a, n) := f n (d.drop 16)
      n.on (fun b => b.mbRespond (leAt d 0 4) a)

/-- READY (R464): BOOT_TIME is the first one's. Erg now runs: after a start from OFF, a wake or a power fail it requests WAKE_TO
(spec/16 R412, spec/17 R436). -/
def Node.mbReady (n : Node) : Node :=
  n.mbServe 1 fun n _ =>
    let n := if n.b.cores.readyAt.isSome then n else n.on fun b =>
      let b := { b.conf SYS.BOOT_TIME (min (2 ^ 24 - 1) (b.linesSince b.cores.bootAt)) with
                 cores := { b.cores with readyAt := some b.ep.line } }
      b.when ([0, 4, 5].contains (b.get OASIS.RESET_CAUSE)) Blk.wakeRequest
    (⟨psOk, 0, natLe 2 (n.b.get SYS.HIF) ++ natLe 2 0 ++ natLe 4 (n.b.word SYS.BOOT_STATUS_PHASE.key).toNat⟩, n)

/-- A changed boot record is written, unless flash fails. -/
def Node.mbRecord (n : Node) (flashErr : Bool) (r : BootRec) : MbAnswer × Node :=
  if r == n.b.bootRec then (mbOk, n)
  else if flashErr then (⟨mbFlashErr, 0, []⟩, n)
  else (mbOk, n.on (fun b => b.writeBootRec r))

/-- CONFIRM (R458, R464). -/
def Node.mbConfirm (n : Node) (flashErr : Bool) : Node :=
  n.mbServe 2 fun n _ =>
    let r := n.b.bootRec
    let r := { r with trial := 0, confirmed := r.active }
    n.mbRecord flashErr (r.setFails (r.active % 2) 0)

/-- ACTIVATE (R459). -/
def Node.mbActivate (n : Node) (flashErr : Bool) : Node :=
  n.mbServe 3 fun n d =>
    let s := leAt d 0 1
    if 1 < s || s == n.b.get SYS.BOOT_STATUS_ERG_SLOT then (mbBadArgs, n)
    else
      let code := n.slotCode s
      if code != 0 then (⟨mbImageBad, code % 256, []⟩, n)
      else
        let r := { n.b.bootRec with active := s, trial := 1 }
        n.mbRecord flashErr (r.setFails s 0)

/-- RESET (R464): the warm reset follows the response. -/
def Node.mbReset (n : Node) : Node :=
  let d := n.b.mbRequest
  let ours := n.b.active Page.CORE && n.b.flag CORE.MB_STATUS_BUSY && leAt d 4 2 == 4 && leAt d 6 2 ≤ 240 && leAt d 16 1 == 1
  let n := n.mbServe 4 (fun n d => (if leAt d 0 1 == 1 then mbOk else mbBadArgs, n))
  if ours then n.warmReset 2 true else n

/-- TALLY (R464, spec/17 R443). -/
def Node.mbTally (n : Node) : Node :=
  n.mbServe 5 fun n d => (mbOk, n.on (fun b => (b.set TALLY.CONTENT_NODE_BLANK (leAt d 0 1)).tallyFault (leAt d 2 2)))

/-- FUSE_READ (R464, spec/19 R483). -/
def Node.mbFuseRead (n : Node) : Node :=
  n.mbServe 6 fun n d =>
    let first := leAt d 0 2
    let count := leAt d 2 1
    let ws := (List.range count).map (first + ·)
    if count == 0 || 32 < count || 1024 < first + count then (mbBadArgs, n)
    else if ws.any isSecretWord then (mbDenied, n)
    else (⟨psOk, 0, ws.flatMap (fun w => natLe 4 (n.readOtp w).toNat)⟩, n)

/-- The payload of a PRIV request: REQ_SEQ, ACTION, the argument block. -/
def Node.privPayload (n : Node) (d : List Byte) (e : BurnEnv) (flashErr : Bool) : MbAnswer × Node :=
  let (a, n) := n.priv (privArgs (leAt d 8 1) ((d.drop 16).take 64)) e flashErr
  (⟨a.status, a.detail, natLe 1 a.result⟩, n)

/-- PRIV (R464, spec/19 R496). -/
def Node.mbPriv (n : Node) (e : BurnEnv) (flashErr : Bool) : Node := n.mbServe 7 (fun n d => n.privPayload d e flashErr)

/-- OWNER_BIND (R464, spec/19 R494). -/
def Node.mbOwnerBind (n : Node) (flashErr : Bool) : Node :=
  n.mbServe 8 fun n d =>
    let mac := leAt d 0 1
    let v6 := leAt d 1 1
    if 1 < mac || 1 < v6 then (mbBadArgs, n)
    else if !n.b.flag OASIS.STATUS_PRES_WINDOW then (mbDenied, n)
    else if flashErr then (⟨mbFlashErr, 0, []⟩, n)
    else
      let words := (List.range (if v6 == 1 then 4 else 1)).map (fun i => leAt d (4 + 4 * i) 4)
      (mbOk, n.on (fun b => { b with fuse := { b.fuse with owner := some (mac, ⟨v6 == 1, words, leAt d 2 2⟩) } }))

/-! ### Kernels -/

def Blk.kernel (b : Blk) (core : Nat) : Option KernelRun := Tbl.get (dflt none) b.cores.kernels core
def Blk.setKernel (b : Blk) (core : Nat) (k : Option KernelRun) : Blk :=
  { b with cores := { b.cores with kernels := Tbl.put (dflt none) b.cores.kernels core k } }

/-- KERNEL_INVOKE (R469, R471): a running core without a kernel. -/
def Blk.kernelInvoke (b : Blk) (core : Nat) (r : List Byte) : Blk :=
  if core < 4 && b.ergRuns && bitAt (b.get SYS.ERG_RUN) core && (b.kernel core).isNone then
    (b.set (CORE.KBUDGET core) (leAt r 12 4)).setKernel core (some ⟨r.take 128, []⟩)
  else b

/-- The batch of a failed job's view is replaced by one GAP with cause JOB (R471, spec/15 R383, R386). -/
def Blk.gapForJob (b : Blk) (view : Nat) (c : Coord) (detail : Nat) : Blk :=
  if 36 ≤ view then b
  else
    let f := b.frameOfItem (b.gapItem view c gapJob detail 1)
    let b := if b.viewClosed view f then b else b.setBatch view f []
    b.takeItem15 ⟨none, b.gapItem view c gapJob detail 1⟩

/-- A kernel ends (R470, R471): its emitted items are posted when it ended well (`detail` 0), else a GAP replaces them. -/
def Blk.kernelEnd (b : Blk) (core detail : Nat) : Blk :=
  match b.kernel core with
  | none => b
  | some k =>
    let b := (b.set (CORE.KSPENT core) (leAt k.record 12 4 - b.get (CORE.KBUDGET core))).setKernel core none
    if detail == 0 then
      k.emitted.foldl (fun b i =>
        let p : PostedItem := ⟨i.1, i.2⟩
        if b.itemBad p then b.itemRefused else b.takeItem15 p) b
    else b.gapForJob (leAt k.record 3 1) (coordOfNat (leAt k.record 4 8)) detail

/-- Cycles are charged (R470, R471); at 0 the kernel ends with KERNEL_BUDGET and `f` is not done (notes/assumptions/53). -/
def Blk.kernelCharge (b : Blk) (core cycles : Nat) (f : Blk → KernelRun → Blk) : Blk :=
  match b.kernel core with
  | none => b
  | some k =>
    let left := b.get (CORE.KBUDGET core) - cycles
    let b := b.set (CORE.KBUDGET core) left
    if left == 0 then b.kernelEnd core 0x42 else f b k

/-- Window `w` of the record: address, length, rights. -/
def KernelRun.window (k : KernelRun) (w : Nat) : Nat × Nat × Nat :=
  (leAt k.record (32 + 16 * w) 8, leAt k.record (40 + 16 * w) 4, leAt k.record (44 + 16 * w) 1)

/-- `n` bytes at `off` of window `w` lie in it, with the right of bit `right` (R469). -/
def KernelRun.reach (k : KernelRun) (w off n right : Nat) : Bool :=
  let (_, len, rights) := k.window w
  w < 6 && off + n ≤ len && bitAt rights right

/-- The bulk address `a` lies in a window with a right. -/
def KernelRun.inWindow (k : KernelRun) (a right : Nat) : Bool :=
  (List.range 6).any (fun w => let (base, len, rights) := k.window w; base ≤ a && a < base + len && bitAt rights right)

/-- KERNEL_EXIT (R470): the cycles the kernel ran beside its calls. -/
def Blk.kernelExit (b : Blk) (core status cycles : Nat) : Blk :=
  b.kernelCharge core cycles (fun b _ => b.kernelEnd core (if status == 0 then 0 else 0x40))

/-- KERNEL_EMIT (R470): an item at an offset of a window, for every subscriber or one context. -/
def Blk.kernelEmit (b : Blk) (core w off : Nat) (target : Option Nat) : Blk :=
  b.kernelCharge core 2000 fun b k =>
    let at_ := (k.window w).1 + off
    if !k.reach w off 16 0 then b.kernelEnd core 0x41
    else
      let (c, h, b) := b.bulkRead 1 at_ 16
      let len := leAt h 2 2 * 8
      if !k.reach w off len 0 then b.kernelEnd core 0x41
      else
        let (c2, i, b) := b.bulkRead 1 at_ len
        if c != 0 || c2 != 0 then b.kernelEnd core 0x41
        else b.setKernel core (some { k with emitted := k.emitted ++ [(target, i)] })

/-- KERNEL_QUERY (R470): a query descriptor at an offset of a window, whose VEC and RESULT lie in windows; the QID is returned. -/
def Blk.kernelQuery (b : Blk) (core w off : Nat) : Blk :=
  b.kernelCharge core 3000 fun b k =>
    if !k.reach w off 64 0 then b.kernelEnd core 0x41
    else
      let (c, d, b) := b.bulkRead 1 ((k.window w).1 + off) 64
      if c != 0 || !k.inWindow (leAt d 16 8) 0 || !k.inWindow (leAt d 24 8) 1 then b.kernelEnd core 0x41
      else
        let b := if b.searchOn then b.postQuery d else b
        b.emit (.kernel core 2 (leAt d 0 4))

/-- KERNEL_NOW (R470). -/
def Blk.kernelNow (b : Blk) (core : Nat) : Blk := b.kernelCharge core 100 (fun b _ => b.emit (.kernel core 3 (coordNat b.now)))

/-- KERNEL_LOG (R470). -/
def Blk.kernelLog (b : Blk) (core code : Nat) (bytes : List Byte) : Blk :=
  b.kernelCharge core 1000 (fun b _ => { b with cores := { b.cores with log := b.cores.log ++ [(code, bytes.take 16)] } })

/-- KERNEL_FAULT (R469). -/
def Blk.kernelFault (b : Blk) (core : Nat) : Blk := b.kernelEnd core 0x41

/-- KERNEL_BUDGET (R471): the count has reached 0. -/
def Blk.kernelBudget (b : Blk) (core : Nat) : Blk :=
  if (b.kernel core).isSome then (b.set (CORE.KBUDGET core) 0).kernelEnd core 0x42 else b

end Sys2Proof.Machine
end

