-- ==== Sys2Proof/Machine/Codec.lean ====
section
/-! DEFINITION. Machine/Codec.lean: the packed tensor (spec/09): elements and lanes, the canonical prefix code, segment and
tensor headers, decoding a segment, and the pack pass. Numbers stand for element codes; lanes are lists of bits. -/

namespace Sys2Proof.Machine

/-! ### Elements and bits -/

/-- Element codes of `w` bits of a plain image in storage order (spec/09 R199, spec/08 R176). -/
def elemsOf (w : Nat) : List Byte → List Nat
  | [] => []
  | x :: xs =>
    if w == 4 then x.toNat % 16 :: x.toNat / 16 :: elemsOf w xs
    else if w == 8 then x.toNat :: elemsOf w xs
    else match xs with
      | [] => []
      | y :: ys => (x.toNat + 256 * y.toNat) :: elemsOf w ys

/-- Bytes of element codes. -/
def bytesOfElems (w : Nat) : List Nat → List Byte
  | [] => []
  | e :: es =>
    if w == 4 then match es with
      | [] => [BitVec.ofNat 8 e]
      | e' :: es' => BitVec.ofNat 8 (e % 16 + 16 * e') :: bytesOfElems w es'
    else if w == 8 then BitVec.ofNat 8 e :: bytesOfElems w es
    else BitVec.ofNat 8 e :: BitVec.ofNat 8 (e / 256) :: bytesOfElems w es

/-- The low `n` bits of a number, most significant first (spec/09 R204). -/
def bitsMsb (n v : Nat) : List Bool := (List.range n).map (fun i => v.testBit (n - 1 - i))

/-- The bits of a lane (spec/09 R204). -/
def laneBits (bs : List Byte) : List Bool := bs.flatMap (fun x => bitsMsb 8 x.toNat)

/-- The number that bits spell, most significant first. -/
def msbNat (l : List Bool) : Nat := l.foldl (fun a x => 2 * a + bitNat x) 0

/-- `n` bits off the front; a bit past the end is 0 (spec/09 R214). -/
def takeBits : Nat → List Bool → Nat → Nat × List Bool
  | 0, l, acc => (acc, l)
  | n + 1, [], acc => takeBits n [] (2 * acc)
  | n + 1, x :: l, acc => takeBits n l (2 * acc + bitNat x)

/-- Bits cut into bytes, the last padded with 0; `n` bytes of them. -/
def packBits : Nat → List Bool → List Byte
  | 0, _ => []
  | n + 1, l => let (v, r) := takeBits 8 l 0; BitVec.ofNat 8 v :: packBits n r

/-! ### The canonical prefix code (spec/09 R208, R209) -/

/-- A node of the tree: count, id, and its leaves with their depths below it. -/
structure CodeNode where
  count : Nat
  id : Nat
  leaves : List (Nat × Nat)
deriving DecidableEq, Repr

/-- Keys compared as pairs. -/
def CodeNode.before (a b : CodeNode) : Bool := a.count < b.count || (a.count == b.count && a.id ≤ b.id)

/-- A node in its place by key. -/
def CodeNode.place (n : CodeNode) : List CodeNode → List CodeNode
  | [] => [n]
  | m :: ms => if n.before m then n :: m :: ms else m :: CodeNode.place n ms

/-- Step 1: join the two nodes with the smallest keys until one remains; `made` is how many were joined before. -/
def joinNodes : Nat → Nat → List CodeNode → List CodeNode
  | 0, _, ns => ns
  | fuel + 1, made, a :: b :: rest =>
    let leaves := (a.leaves ++ b.leaves).map (fun x => (x.1, x.2 + 1))
    joinNodes fuel (made + 1) (CodeNode.place ⟨a.count + b.count, 256 + made, leaves⟩ rest)
  | _, _, ns => ns

/-- Symbols with a count above 0, as leaves sorted by key. -/
def leafNodes (hist : List Nat) : List CodeNode :=
  ((List.range hist.length).filterMap (fun s =>
    let c := nth hist s 0
    if c == 0 then none else some (⟨c, s, [(s, 0)]⟩ : CodeNode))).foldl (fun acc n => CodeNode.place n acc) []

/-- How many symbols have each length, from 0 up to 255. -/
def lengthCounts (leaves : List (Nat × Nat)) : List Nat :=
  (List.range 256).map (fun l => (leaves.filter (fun x => x.2 == l)).length)

/-- The greatest j ≤ `n` with BITS[j] above 0. -/
def greatestUsed (bits : List Nat) : Nat → Nat
  | 0 => 0
  | n + 1 => if 0 < nth bits (n + 1) 0 then n + 1 else greatestUsed bits n

/-- Step 2 at length `l`, while BITS[l] is above 0. -/
def limitAt : Nat → Nat → List Nat → List Nat
  | 0, _, bits => bits
  | fuel + 1, l, bits =>
    if nth bits l 0 == 0 then bits
    else
      let j := greatestUsed bits (l - 2)
      let bits := setNth bits l (nth bits l 0 - 2)
      let bits := setNth bits (l - 1) (nth bits (l - 1) 0 + 1)
      let bits := setNth bits (j + 1) (nth bits (j + 1) 0 + 2)
      limitAt fuel l (setNth bits j (nth bits j 0 - 1))

/-- Step 2: lengths above 15 are taken down, from the greatest. -/
def limitBits (bits : List Nat) : List Nat :=
  (List.range 240).foldl (fun bs i => limitAt 256 (255 - i) bs) bits

/-- Sort by count descending, then symbol ascending. -/
def placeSymbol (e : Nat × Nat) : List (Nat × Nat) → List (Nat × Nat)
  | [] => [e]
  | x :: xs => if x.2 < e.2 || (x.2 == e.2 && e.1 < x.1) then e :: x :: xs else x :: placeSymbol e xs

/-- Step 3: lengths handed out along the sorted symbols. -/
def handOut : List Nat → Nat → List (Nat × Nat) → List (Nat × Nat)
  | [], _, _ => []
  | n :: ns, l, syms => ((syms.take n).map (fun s => (s.1, l))) ++ handOut ns (l + 1) (syms.drop n)

/-- Code lengths by symbol from a histogram (spec/09 R208, steps 1 to 3). -/
def codeLengths (hist : List Nat) : List Nat :=
  let leaves := leafNodes hist
  let pairs : List (Nat × Nat) :=
    match leaves with
    | [] => []
    | [n] => [(n.id, 1)]
    | _ =>
      let tree := (joinNodes 256 0 leaves).flatMap (fun n => n.leaves)
      let bits := limitBits (lengthCounts tree)
      let syms := (leaves.map (fun n => (n.id, n.count))).foldl (fun acc e => placeSymbol e acc) []
      handOut (bits.drop 1) 1 syms
  (List.range hist.length).map (fun s => ((pairs.find? (fun p => p.1 == s)).map (fun p => p.2)).getD 0)

/-- Symbols with a length, by (length, symbol). -/
def codedSymbols (lens : List Nat) : List (Nat × Nat) :=
  (List.range 16).flatMap (fun l =>
    if l == 0 then []
    else ((List.range lens.length).filter (fun s => nth lens s 0 == l)).map (fun s => (s, l)))

/-- Step 4: canonical codes (symbol, length, code). -/
def canonFrom (prevLen prevCode : Nat) : List (Nat × Nat) → List (Nat × Nat × Nat)
  | [] => []
  | (s, l) :: rest =>
    let c := (prevCode + 1) <<< (l - prevLen)
    (s, l, c) :: canonFrom l c rest
def canonCodes (lens : List Nat) : List (Nat × Nat × Nat) :=
  match codedSymbols lens with
  | [] => []
  | (s, l) :: rest => (s, l, 0) :: canonFrom l 0 rest

/-- A table of lengths is valid (spec/09 R209). -/
def tableValid (lens : List Nat) (delta : Bool) : Bool :=
  let used := lens.filter (fun l => l != 0)
  (used.map (fun l => 2 ^ (15 - l))).foldl (· + ·) 0 == 2 ^ 15 || used == [1] || (used.isEmpty && delta)

/-- One symbol off a lane: the code so far has `len` bits. -/
def symbolFrom (codes : List (Nat × Nat × Nat)) : Nat → Nat → Nat → List Bool → Nat × List Bool
  | 0, _, _, l => (0, l)
  | fuel + 1, len, code, l =>
    let (v, r) := takeBits 1 l code
    match codes.find? (fun c => c.2.1 == len + 1 && c.2.2 == v) with
    | some c => (c.1, r)
    | none => symbolFrom codes fuel (len + 1) v r

/-- The next symbol of a lane under a valid table (spec/09 R209). -/
def nextSymbol (codes : List (Nat × Nat × Nat)) (l : List Bool) : Nat × List Bool :=
  match codes with
  | [] => (0, l)
  | [(s, _, _)] => (s, (takeBits 1 l 0).2)
  | _ => symbolFrom codes 15 0 0 l

/-! ### Elements of a lane -/

/-- Exponent width and mantissa width of a weight format (spec/09 Table 4), 0 for an integer one. -/
def expWidth (fmt : Nat) : Nat := if fmt == 2 then 4 else if fmt == 3 || fmt == 5 then 5 else if fmt == 4 then 8 else 0
def manWidth (fmt : Nat) : Nat := if fmt == 2 then 3 else if fmt == 3 then 2 else if fmt == 4 then 7 else if fmt == 5 then 10 else 0

/-- Bit length of a number. -/
def bitLen (n : Nat) : Nat := if n == 0 then 0 else Nat.log2 n + 1

/-- One EXP element (spec/09 R205). -/
def expElem (fmt : Nat) (codes : List (Nat × Nat × Nat)) (l : List Bool) : Nat × List Bool :=
  let (e, l) := nextSymbol codes l
  let (s, l) := takeBits 1 l 0
  let (m, l) := takeBits (manWidth fmt) l 0
  (s <<< (expWidth fmt + manWidth fmt) + e <<< manWidth fmt + m, l)

/-- One DELTA element over its base value (spec/09 R206). -/
def deltaElem (w : Nat) (codes : List (Nat × Nat × Nat)) (base : Nat) (l : List Bool) : Nat × List Bool :=
  let (ch, l) := takeBits 1 l 0
  if ch == 0 then (base, l)
  else
    let (c, l) := nextSymbol codes l
    let (v, l) := takeBits c l 0
    let d : Int := if c == 0 then 0 else if 2 ^ (c - 1) ≤ v then v else (v : Int) - 2 ^ c + 1
    (twosOf w (base + d), l)

/-- The elements of a lane, one per base value (the base values count them; EXP ignores their value). -/
def laneElems (fmt w : Nat) (delta : Bool) (codes : List (Nat × Nat × Nat)) : List Nat → List Bool → List Nat
  | [], _ => []
  | x :: xs, l =>
    let (e, l) := if delta then deltaElem w codes x l else expElem fmt codes l
    e :: laneElems fmt w delta codes xs l

/-- Every 16th element from element `d` on (spec/09 R200). -/
def laneOf (es : List Nat) (d : Nat) : List Nat :=
  let a := es.toArray
  (List.range ((es.length + 15 - d) / 16)).map (fun i => a.getD (16 * i + d) 0)

/-- Sixteen lanes of `n` elements put back in order. -/
def interleave (lanes : List (List Nat)) (n : Nat) : List Nat :=
  let a := (lanes.map List.toArray).toArray
  (List.range (16 * n)).map (fun i => (a.getD (i % 16) #[]).getD (i / 16) 0)

/-! ### Headers (spec/09 R202, R203, R216) -/

/-- A tensor header that passes its check. -/
structure TensorHead where
  fmt : Nat
  plain : Nat
  segments : Nat
  shadow : Bool
  base : Nat
deriving DecidableEq, Repr

/-- The tensor header's check (spec/09 R216); the bits Table 2 fixes at 0 count with the reserved bytes (notes/assumptions/24). -/
def tensorHead (h : List Byte) (wFmt : Option Nat) : Option TensorHead :=
  let fmt := leAt h 3 1
  let plain := leAt h 4 4
  let segs := leAt h 8 2
  if leAt h 0 2 == 0x5057 && leAt h 2 1 == 1 && fmt ≤ 5 && wFmt.all (fun f => f == fmt) &&
      leAt h 10 1 < 4 && leAt h 11 1 == 0 && leNat ((h.drop 24).take 36) == 0 &&
      plain % 32 == 0 && 32 ≤ plain && plain ≤ 3145728 && segs == ceilDiv plain 65536 then
    some ⟨fmt, plain, segs, bitAt (leAt h 10 1) 0, leAt h 12 4⟩
  else none

/-- A segment header that passes its check: method, lines, code lengths, header size, lane lengths in lines. -/
structure SegHead where
  method : Nat
  lines : Nat
  lens : List Nat
  size : Nat
  lanes : List Nat
deriving DecidableEq, Repr

/-- Symbol width of a method (spec/09 Table 3). -/
def symBits (method fmt : Nat) : Nat := if method == 1 then expWidth fmt else if method == 2 then 5 else 0

/-- Bytes of TABLE and of the header (spec/09 R203). -/
def tableBytes (method fmt : Nat) : Nat := if method == 0 then 0 else 2 ^ (symBits method fmt - 1)
def headBytes (method fmt : Nat) : Nat := 32 * ceilDiv (40 + tableBytes method fmt) 32

/-- The segment header's check (spec/09 R216); `lines` is what the segment must hold. -/
def segHead (t : TensorHead) (h : List Byte) (lines : Nat) : Option SegHead :=
  let m := leAt h 0 1
  let hs := headBytes m t.fmt
  let tb := tableBytes m t.fmt
  let lanes := (List.range 16).map (fun d => leAt h (8 + 2 * d) 2)
  let lens := (List.range (2 * tb)).map (fun s => leAt h (40 + s / 2) 1 / (if s % 2 == 0 then 1 else 16) % 16)
  let sum := lanes.foldl (· + ·) 0
  let w := fmtBits t.fmt
  if m ≤ 2 && (m != 1 || expWidth t.fmt != 0) &&
      (m != 2 || (t.base != 0xFFFFFFFF && !t.shadow && t.base + t.plain ≤ 0x300000)) &&
      leAt h 1 1 == symBits m t.fmt && leAt h 2 2 == lines &&
      (if m == 0 then lanes.all (fun l => l == 0) && leAt h 4 4 == hs + 32 * lines
       else lanes.all (fun l => 1 ≤ l && l ≤ 128) && leAt h 4 4 == hs + 32 * sum && tableValid lens (m == 2)) &&
      (m != 2 || (lens.drop (w + 1)).all (fun l => l == 0)) &&
      leNat ((h.take hs).drop (40 + tb)) == 0 then
    some ⟨m, lines, lens, hs, lanes⟩
  else none

/-- The plain bytes of a segment from its content and its base bytes (spec/09 R205, R206, R214). -/
def segPlain (fmt : Nat) (s : SegHead) (content base : List Byte) : List Byte :=
  if s.method == 0 then content.take (32 * s.lines)
  else
    let w := fmtBits fmt
    let n := 32 * s.lines * 8 / w / 16
    let codes := canonCodes s.lens
    let starts := (List.range 16).map (fun d => 32 * (s.lanes.take d).foldl (· + ·) 0)
    let baseE := if s.method == 2 then elemsOf w base else List.replicate (16 * n) 0
    let lanes := (List.range 16).map (fun d =>
      let bits := laneBits ((content.drop (nth starts d 0)).take (32 * nth s.lanes d 0))
      laneElems fmt w (s.method == 2) codes (laneOf baseE d) bits)
    bytesOfElems w (interleave lanes n)

/-! ### Packing (spec/09 R208 to R211) -/

/-- The change category and extra bits of a changed element (spec/09 R206). -/
def deltaCode (w x base : Nat) : Nat × Nat :=
  let d := signedOf w (twosOf w ((x : Int) - base))
  let c := bitLen d.natAbs
  (c, (if 0 < d then d else d + 2 ^ c - 1).toNat)

/-- The symbol an element counts in the histogram, if it counts one (spec/09 R208). -/
def elemSymbol (fmt w method x base : Nat) : Option Nat :=
  if method == 1 then some (bitsAt x (manWidth fmt) (expWidth fmt))
  else if x == base then none else some (deltaCode w x base).1

/-- The histogram of a list of elements. -/
def histogram (n : Nat) (syms : List Nat) : List Nat :=
  (syms.foldl (fun (a : Array Nat) s => a.set! s (a.getD s 0 + 1)) (Array.replicate n 0)).toList

/-- The bits of one element. -/
def elemBits (fmt w method : Nat) (codes : List (Nat × Nat × Nat)) (x base : Nat) : List Bool :=
  let word := fun s => match codes.find? (fun c => c.1 == s) with
    | some c => bitsMsb c.2.1 c.2.2
    | none => []
  if method == 1 then
    let m := manWidth fmt
    word (bitsAt x m (expWidth fmt)) ++ bitsMsb (1 + m) (bitsAt x (m + expWidth fmt) 1 * 2 ^ m + x % 2 ^ m)
  else if x == base then [false]
  else
    let (c, v) := deltaCode w x base
    true :: (word c ++ bitsMsb c v)

/-- A segment coded under EXP or DELTA: histogram, lengths, lanes as bytes. -/
structure CodedSeg where
  hist : List Nat
  lens : List Nat
  lanes : List (List Byte)
deriving DecidableEq, Repr

/-- The segment coded under a method. -/
def codeSegment (fmt method : Nat) (plain base : List Byte) : CodedSeg :=
  let w := fmtBits fmt
  let es := elemsOf w plain
  let bs := if method == 2 then elemsOf w base else List.replicate es.length 0
  let pairs := es.zip bs
  let hist := histogram (2 ^ symBits method fmt) (pairs.filterMap (fun p => elemSymbol fmt w method p.1 p.2))
  let lens := codeLengths hist
  let codes := canonCodes lens
  let lane := fun d =>
    let bits := ((laneOf es d).zip (laneOf bs d)).flatMap (fun p => elemBits fmt w method codes p.1 p.2)
    packBits (32 * ceilDiv bits.length 256) bits
  ⟨hist, lens, (List.range 16).map lane⟩

/-- A coded segment whose lanes all keep to 128 lines (spec/09 R210). -/
def CodedSeg.fits (c : CodedSeg) : Bool := c.lanes.all (fun l => l.length ≤ 4096)

/-- Bytes of a coded segment with its header. -/
def CodedSeg.bytes (c : CodedSeg) (fmt method : Nat) : Nat :=
  headBytes method fmt + (c.lanes.map List.length).foldl (· + ·) 0

/-- The stored segment (spec/09 Table 3): `c` is `none` for RAW. -/
def storeSegment (fmt method : Nat) (plain : List Byte) (c : Option CodedSeg) : List Byte :=
  let lines := plain.length / 32
  match c with
  | none => natLe 1 0 ++ natLe 1 0 ++ natLe 2 lines ++ natLe 4 (64 + 32 * lines) ++ List.replicate 56 0 ++ plain
  | some c =>
    let hs := headBytes method fmt
    let pairs := (List.range (c.lens.length / 2)).map (fun i =>
      (BitVec.ofNat 8 (nth c.lens (2 * i) 0 + 16 * nth c.lens (2 * i + 1) 0) : Byte))
    let head := natLe 1 method ++ natLe 1 (symBits method fmt) ++ natLe 2 lines ++ natLe 4 (c.bytes fmt method) ++
      c.lanes.flatMap (fun l => natLe 2 (l.length / 32)) ++ pairs
    head ++ List.replicate (hs - head.length) 0 ++ c.lanes.flatten

/-- The method the pack pass chooses, with its coding (spec/09 R210, R211): the smallest; ties to RAW, EXP, DELTA. -/
def chooseMethod (fmt : Nat) (expOn deltaOn : Bool) (plain base : List Byte) : Nat × Option CodedSeg × List (Option CodedSeg) :=
  let ce := if expOn && expWidth fmt != 0 then some (codeSegment fmt 1 plain base) else none
  let cd := if deltaOn then some (codeSegment fmt 2 plain base) else none
  let raw := 64 + plain.length
  let better := fun (best : Nat × Nat × Option CodedSeg) (m : Nat) (c : Option CodedSeg) =>
    match c with
    | some x => if x.fits && x.bytes fmt m < best.2.1 then (m, x.bytes fmt m, some x) else best
    | none => best
  let r := better (better (0, raw, none) 1 ce) 2 cd
  (r.1, r.2.2, [ce, cd])

end Sys2Proof.Machine
end

