-- ==== Sys2Proof/Machine/Engine.lean ====
section
/-! DEFINITION. Machine/Engine.lean: the matrix engine and the vector unit of a tile (spec/08), and the expansion of packed
weights they use (spec/09 R214 to R219). -/

namespace Sys2Proof.Machine

/-! ### Expansion of a packed tensor -/

/-- Reads of a memory: a cause or 0, the bytes, and the block after the read. -/
abbrev Reader := Blk → Nat → Nat → Nat × List Byte × Blk

/-- Reads of a tile's scratchpad by a requester; past its end RANGE. -/
def tileReader (t req : Nat) : Reader := fun b a n =>
  if spmBytes < a + n then (tcRange, [], b) else b.spmRead t a n req

/-- The bytes as they stand in a tile's scratchpad, for what a requester has read already. -/
def storedReader (t : Nat) : Reader := fun b a n =>
  if spmBytes < a + n then (tcRange, [], b) else (0, b.spmGet t a n, b)

/-- An expansion's outcome: cause (0 none; RANGE for a failed header), plain bytes, bytes of the image touched. -/
structure Expanded where
  cause : Nat
  plain : List Byte
  touched : Nat
deriving DecidableEq, Repr

/-- The segments from number `k` on, at offset `off` (spec/09 R202, R216). -/
def expandSegs (rd : Reader) (t : TensorHead) : Nat → Nat → Nat → List (List Byte) → Blk → Expanded × Blk
  | 0, _, _, acc, b => (⟨0, acc.reverse.flatten, t.plain⟩, b)
  | fuel + 1, k, off, acc, b =>
    let lines := min 2048 ((t.plain - 65536 * k) / 32)
    let done := 65536 * k
    let (c, h, b) := rd b off 64
    if c != 0 then (⟨c, acc.reverse.flatten, done⟩, b)
    else
      let hs := headBytes (leAt h 0 1) t.fmt
      let (c, h, b) := if 64 < hs && leAt h 0 1 == 1 then rd b off hs else (0, h, b)
      if c != 0 then (⟨c, acc.reverse.flatten, done⟩, b)
      else match segHead t h lines with
        | none => (⟨tcRange, acc.reverse.flatten, done⟩, b)
        | some s =>
          let size := leAt h 4 4
          let (c, content, b) := rd b (off + s.size) (size - s.size)
          if c != 0 then (⟨c, acc.reverse.flatten, done + 32 * lines⟩, b)
          else
            let (c, base, b) := if s.method == 2 then rd b (t.base + done) (32 * lines) else (0, [], b)
            if c != 0 then (⟨c, acc.reverse.flatten, done + 32 * lines⟩, b)
            else expandSegs rd t fuel (k + 1) (off + size) (segPlain t.fmt s content base :: acc) b

/-- A packed tensor read from `src` (spec/09 R214 to R217): `wFmt` when read at use, and then the bytes it must hold. -/
def expandTensor (rd : Reader) (src : Nat) (wFmt need : Option Nat) (b : Blk) : Expanded × Blk :=
  let (c, h, b) := rd b src 64
  if c != 0 then (⟨c, [], 0⟩, b)
  else match tensorHead h wFmt with
    | none => (⟨tcRange, [], 0⟩, b)
    | some t =>
      if need.any (fun n => n != t.plain) then (⟨tcRange, [], 0⟩, b)
      else expandSegs rd t t.segments 0 (src + 64) [] b

/-! ### The operator descriptor (spec/08 R187, R188) -/

/-- The fields of an operator descriptor (spec/08 Table 3). -/
structure OpDesc where
  op : Nat
  wFmt : Nat
  aFmt : Nat
  oFmt : Nat
  relu : Bool
  sat : Bool
  release : Bool
  atUse : Bool
  gLog : Nat
  kh : Nat
  kw : Nat
  sh : Nat
  sw : Nat
  dh : Nat
  dw : Nat
  pt : Nat
  pb : Nat
  pl : Nat
  pr : Nat
  cin : Nat
  cout : Nat
  h : Nat
  w : Nat
  inBase : Nat
  inStride : Nat
  inRing : Nat
  outBase : Nat
  outStride : Nat
  outRing : Nat
  rowFirst : Nat
  rowCount : Nat
  zpIn : Int
  zpOut : Int
  weights : Nat
  bias : Nat
  scale : Nat
  reqM : Int
  reqShift : Nat
deriving DecidableEq, Repr

/-- The descriptor that 64 bytes spell. -/
def opDesc (d : List Byte) : OpDesc :=
  let f := fun i lo w => bitsAt (leAt d i 1) lo w
  let aFmt := f 1 4 4
  { op := f 0 0 8, wFmt := f 1 0 4, aFmt := aFmt, oFmt := f 2 0 4, relu := f 2 4 1 == 1, sat := f 2 5 1 == 1
    release := f 2 6 1 == 1, atUse := f 2 7 1 == 1, gLog := f 3 0 8, kh := f 4 0 8, kw := f 5 0 8
    sh := f 6 0 4, sw := f 6 4 4, dh := f 7 0 4, dw := f 7 4 4, pt := f 8 0 4, pb := f 8 4 4, pl := f 9 0 4, pr := f 9 4 4
    cin := leAt d 10 2, cout := leAt d 12 2, h := leAt d 14 2, w := leAt d 16 2
    inBase := leAt d 18 2, inStride := leAt d 20 2, inRing := leAt d 22 2
    outBase := leAt d 24 2, outStride := leAt d 26 2, outRing := leAt d 28 2
    rowFirst := leAt d 30 2, rowCount := leAt d 32 2
    zpIn := if aFmt == 0 then signedOf 4 (f 34 0 4) else signedOf 8 (f 34 0 8)
    zpOut := signedOf 8 (f 35 0 8)
    weights := leAt d 36 4, bias := leAt d 40 4, scale := leAt d 44 4
    reqM := signedOf 32 (leAt d 48 4), reqShift := f 52 0 8 }

def OpDesc.isPool (o : OpDesc) : Bool := o.op == 2 || o.op == 3

/-- The accumulator is INT32 (spec/08 Table 2). -/
def OpDesc.intAcc (o : OpDesc) : Bool := o.wFmt ≤ 1

/-- The operand pair stands in Table 2 (spec/08 R178). -/
def pairOk (w a : Nat) : Bool :=
  (w == 1 && a == 1) || (w == 0 && a == 0) || (w == 0 && a == 1) ||
  ((w == 2 || w == 3) && (a == 2 || a == 3 || a == 4 || a == 5)) || (w == 4 && a == 4) || (w == 5 && a == 5)

/-- K lanes of a pair (spec/08 Table 2). -/
def OpDesc.kl (o : OpDesc) : Nat := if o.wFmt == 0 && o.aFmt == 0 then 64 else 32

def OpDesc.eh (o : OpDesc) : Nat := (o.kh - 1) * o.dh + 1
def OpDesc.ew (o : OpDesc) : Nat := (o.kw - 1) * o.dw + 1
def OpDesc.ho (o : OpDesc) : Nat := if o.h + o.pt + o.pb < o.eh then 0 else (o.h + o.pt + o.pb - o.eh) / o.sh + 1
def OpDesc.wo (o : OpDesc) : Nat := if o.w + o.pl + o.pr < o.ew then 0 else (o.w + o.pl + o.pr - o.ew) / o.sw + 1

/-- Channels of an output row: pooling keeps the input's (notes/assumptions/25). -/
def OpDesc.outChannels (o : OpDesc) : Nat := if o.isPool then o.cin else o.cout

/-- Slots of an input and of an output row (spec/08 R189). -/
def OpDesc.inSlots (o : OpDesc) : Nat := slotsOf (ceilDiv (o.w * o.cin * fmtBits o.aFmt) 8)
def OpDesc.outSlots (o : OpDesc) : Nat := slotsOf (ceilDiv (o.wo * o.outChannels * fmtBits o.oFmt) 8)

/-- First slot after a ring's last row. -/
def ringEnd (base stride ring slots : Nat) : Nat := base + (ring - 1) * stride + slots

/-- First slots of input row `j` and of output row `r` (spec/08 R189). -/
def OpDesc.inSlot (o : OpDesc) (j : Nat) : Nat := o.inBase + (j % o.inRing) * o.inStride
def OpDesc.outSlot (o : OpDesc) (r : Nat) : Nat := o.outBase + (r % o.outRing) * o.outStride

def inRange (lo hi n : Nat) : Bool := lo ≤ n && n ≤ hi

/-- Every field keeps Table 3 (spec/08 R187). -/
def OpDesc.fieldsOk (o : OpDesc) (d : List Byte) : Bool :=
  d.length == 64 && o.op ≤ 3 && o.oFmt ≤ 7 && o.wFmt ≤ 7 && o.aFmt ≤ 7 &&
  (if o.op == 1 then o.gLog ≤ 5 else o.gLog == 0) && inRange 1 15 o.kh && inRange 1 15 o.kw &&
  inRange 1 8 o.sh && inRange 1 8 o.sw && inRange 1 8 o.dh && inRange 1 8 o.dw &&
  inRange 1 4096 o.cin && inRange 1 4096 o.cout && inRange 1 4096 o.h && inRange 1 4096 o.w && 1 ≤ o.rowCount &&
  o.weights % 32 == 0 && (o.bias % 32 == 0 || o.bias == 0xFFFFFFFF) && (o.scale % 32 == 0 || o.scale == 0xFFFFFFFF) &&
  o.reqShift ≤ 47 && leNat (d.drop 53) == 0

/-- The pair and the output format fit the unit (spec/08 R178, R188, R195). -/
def OpDesc.formatsOk (o : OpDesc) : Bool :=
  if o.isPool then o.oFmt == o.aFmt
  else pairOk o.wFmt o.aFmt && !(o.op == 1 && o.wFmt == 0 && o.aFmt == 0) &&
    (if o.intAcc then o.oFmt == 0 || o.oFmt == 1 || o.oFmt == 6 else (floatFmt o.oFmt).isSome)

/-- A descriptor the unit accepts (spec/08 R188). -/
def OpDesc.accepted (o : OpDesc) (d : List Byte) : Bool :=
  let inEnd := ringEnd o.inBase o.inStride o.inRing o.inSlots
  let outEnd := ringEnd o.outBase o.outStride o.outRing o.outSlots
  o.fieldsOk d && o.formatsOk && 1 ≤ o.ho && 1 ≤ o.wo && o.rowFirst + o.rowCount ≤ o.ho &&
  o.pt < o.eh && o.pb < o.eh && o.pl < o.ew && o.pr < o.ew && o.eh ≤ o.inRing && o.outRing != 0 &&
  o.inSlots ≤ o.inStride && o.outSlots ≤ o.outStride && inEnd ≤ 12288 && outEnd ≤ 12288 &&
  (inEnd ≤ o.outBase || outEnd ≤ o.inBase) &&
  (o.op != 1 || (o.cin == o.cout && o.cin % 32 == 0))

/-- Input rows that output row `r` needs: first, and one past the last (spec/08 R190). -/
def OpDesc.rowLo (o : OpDesc) (r : Nat) : Nat := r * o.sh - o.pt
def OpDesc.rowHi (o : OpDesc) (r : Nat) : Nat := min o.h (r * o.sh + o.eh - o.pt)

/-! ### Computing one output row -/

/-- A value of a format from its code: integers for codes 0, 1, 6. -/
def elemInt (fmt n : Nat) : Int := signedOf (fmtBits fmt) n
def elemFloat (fmt n : Nat) : FVal :=
  match floatFmt fmt with | some f => fDecode f n | none => fInt (elemInt fmt n)

/-- Elements of up to 32 bits from bytes. -/
def elems (bits : Nat) (bs : List Byte) : List Nat :=
  if bits == 32 then (List.range (bs.length / 4)).map (fun i => leAt bs (4 * i) 4) else elemsOf bits bs
def packElems (bits : Nat) (es : List Nat) : List Byte :=
  if bits == 32 then es.flatMap (fun e => natLe 4 e) else bytesOfElems bits es

/-- What the outputs of one N-block are computed from (spec/08 R184): input rows by number, and the block's plain weights,
biases and scales. -/
structure RowInputs where
  rows : List (Nat × Array Nat)
  weights : Array Nat
  bias : Array Nat
  scale : List Byte

/-- The stored code of input element (row `y`, column `x`, channel `c`), `none` in the padding (spec/08 R191). -/
def RowInputs.at (i : RowInputs) (o : OpDesc) (y x : Int) (c : Nat) : Option Nat :=
  if y < 0 || (o.h : Int) ≤ y || x < 0 || (o.w : Int) ≤ x then none
  else match i.rows.find? (fun e => e.1 == y.toNat) with
    | some e => some (e.2.getD (x.toNat * o.cin + c) 0)
    | none => none

/-- Input coordinates of a kernel tap for an output pixel. -/
def OpDesc.tapY (o : OpDesc) (r ky : Nat) : Int := (r * o.sh + ky * o.dh : Nat) - (o.pt : Int)
def OpDesc.tapX (o : OpDesc) (x kx : Nat) : Int := (x * o.sw + kx * o.dw : Nat) - (o.pl : Int)

/-- The products of output pixel `x`, channel `c`, K-step by K-step: pairs of activation (`none`: padding) and weight code
(spec/08 R185, R190, R194). -/
def RowInputs.steps (i : RowInputs) (o : OpDesc) (r x c : Nat) : List (List (Option Nat × Nat)) :=
  if o.op == 1 then
    let B := 32 / 2 ^ o.gLog
    let taps := o.kh * o.kw
    let g := (c % 32) / B
    (List.range taps).map (fun tap =>
      (List.range B).map (fun l =>
        let a := i.at o (o.tapY r (tap / o.kw)) (o.tapX x (tap % o.kw)) (c / 32 * 32 + g * B + l)
        (a, i.weights.getD (tap * 32 * B + g * B * B + l * B + c % B) 0)))
  else
    let k := o.kh * o.kw * o.cin
    let ks := ceilDiv k o.kl
    (List.range ks).map (fun s =>
      ((List.range o.kl).filter (fun l => s * o.kl + l < k)).map (fun l =>
        let kk := s * o.kl + l
        let a := i.at o (o.tapY r (kk / o.cin / o.kw)) (o.tapX x (kk / o.cin % o.kw)) (kk % o.cin)
        (a, i.weights.getD ((s * o.kl + l) * 32 + c % 32) 0)))

/-- The INT32 accumulator of an output (spec/08 R180, R181). -/
def RowInputs.accInt (i : RowInputs) (o : OpDesc) (r x c : Nat) : Int :=
  let start : Int := signedOf 32 (i.bias.getD (c % 32) 0)
  wrap32 ((i.steps o r x c).foldl (fun acc st => st.foldl (fun acc p =>
    acc + (match p.1 with | some a => elemInt o.aFmt a | none => o.zpIn) * elemInt o.wFmt p.2) acc) start)

/-- The FP32 accumulator of an output: each K-step rounded once (spec/08 R179, R181). The padding lanes of K multiply zero
weights and add nothing. -/
def RowInputs.accFloat (i : RowInputs) (o : OpDesc) (r x c : Nat) : FVal :=
  (i.steps o r x c).foldl (fun acc st =>
    toFp32 (fSum (acc :: st.map (fun p =>
      fMul (match p.1 with | some a => elemFloat o.aFmt a | none => .fin false 0 0) (elemFloat o.wFmt p.2)))))
    (fDecode fmtFP32 (i.bias.getD (c % 32) 0))

/-- An FP32 value converted to an output format (spec/08 R183 step 3). -/
def floatOut (oFmt : Nat) (sat : Bool) (v : FVal) : Nat :=
  match floatFmt oFmt with | some f => fEncode f sat v | none => 0

/-- An integer output's bounds (spec/08 R182). -/
def intLo (oFmt : Nat) : Int := if oFmt == 0 then -8 else -128
def intHi (oFmt : Nat) : Int := if oFmt == 0 then 7 else 127

/-- The stored code of an output (spec/08 R182, R183). -/
def RowInputs.convOut (i : RowInputs) (o : OpDesc) (r x c : Nat) : Nat :=
  if o.intAcc then
    let a := i.accInt o r x c
    if o.oFmt == 6 then twosOf 32 (if o.relu && a < 0 then 0 else a)
    else
      let m := if o.scale == 0xFFFFFFFF then o.reqM else signedOf 32 (leAt i.scale (8 * (c % 32)) 4)
      let n := if o.scale == 0xFFFFFFFF then o.reqShift else leAt i.scale (8 * (c % 32) + 4) 1
      twosOf (fmtBits o.oFmt) (requant a m n o.zpOut o.relu (intLo o.oFmt) (intHi o.oFmt))
  else
    let v := i.accFloat o r x c
    let v := if o.scale == 0xFFFFFFFF then v else toFp32 (fMul v (fDecode fmtFP32 (leAt i.scale (4 * (c % 32)) 4)))
    let v := if o.relu then (if v == .nan then .nan else fMaxV v (.fin false 0 0)) else v
    floatOut o.oFmt o.sat v

/-- The stored code of a pooled output (spec/08 R197). -/
def RowInputs.poolOut (i : RowInputs) (o : OpDesc) (r x c : Nat) : Nat :=
  let real := (List.range (o.kh * o.kw)).filterMap (fun t => i.at o (o.tapY r (t / o.kw)) (o.tapX x (t % o.kw)) c)
  let n := real.length
  match floatFmt o.aFmt with
  | none =>
    let vs := real.map (elemInt o.aFmt)
    let v : Int := if o.op == 2 then
        (match vs with | [] => 0 | v :: rest => rest.foldl (fun a x => if a < x then x else a) v)
      else (2 * vs.foldl (· + ·) 0 + n) / (2 * n)
    twosOf (fmtBits o.oFmt) v
  | some f =>
    let vs := real.map (fDecode f)
    let v := if o.op == 2 then (match vs with | [] => .nan | v :: rest => rest.foldl fMaxV v)
      else
        let sum := match vs with | [] => .fin false 0 0 | v :: rest => rest.foldl (fun a x => toFp32 (fSum [a, x])) (toFp32 v)
        toFp32 (fDiv sum (fInt n))
    fEncode f o.sat v

/-- The stored code of output (row `r`, pixel `x`, channel `c`). -/
def RowInputs.out (i : RowInputs) (o : OpDesc) (r x c : Nat) : Nat := if o.isPool then i.poolOut o r x c else i.convOut o r x c

/-! ### Running an operator -/

/-- Requesters of a unit: (gate and input reads, output writes). -/
def unitReads (vector : Bool) : Nat := if vector then 3 else 1
def unitWrites (vector : Bool) : Nat := if vector then 3 else 2

/-- Bytes of the weight image a matrix operator reads (spec/09 R217). -/
def OpDesc.weightBytes (o : OpDesc) : Nat :=
  if o.op == 1 then o.cout / 32 * (o.kh * o.kw) * 32 * (32 / 2 ^ o.gLog) * fmtBits o.wFmt / 8
  else ceilDiv o.cout 32 * ceilDiv (o.kh * o.kw * o.cin) o.kl * o.kl * 32 * fmtBits o.wFmt / 8

/-! The pass groups of a row: one per chunk of up to 512 output pixels and N-block of 32 output channels, chunks outermost
(spec/08 R184). A pool is one group. -/

def OpDesc.nBlocks (o : OpDesc) : Nat := if o.isPool then 1 else ceilDiv o.cout 32
def OpDesc.groups (o : OpDesc) : Nat := (if o.isPool then 1 else ceilDiv o.wo 512) * o.nBlocks
/-- First output pixel and number of them, first channel and number of them, of pass group `u`. -/
def OpDesc.pixels (o : OpDesc) (u : Nat) : Nat × Nat :=
  let k := u / o.nBlocks
  if o.isPool then (0, o.wo) else (512 * k, min 512 (o.wo - 512 * k))
def OpDesc.channels (o : OpDesc) (u : Nat) : Nat × Nat :=
  let k := u % o.nBlocks
  if o.isPool then (0, o.cin) else (32 * k, min 32 (o.cout - 32 * k))

/-- The plain weights of a pass group's N-block (spec/08 R185, R186, R194, spec/09 R217): a cause or 0. At use, the whole packed
tensor is read once per chunk. -/
def Blk.blockWeights (b : Blk) (t : Nat) (o : OpDesc) (u : Nat) : Nat × List Byte × Blk :=
  let n := o.weightBytes / o.nBlocks
  let k := u % o.nBlocks
  if o.atUse then
    let (e, b) := expandTensor (if k == 0 then tileReader t 0 else storedReader t) o.weights (some o.wFmt) (some o.weightBytes) b
    (e.cause, (e.plain.drop (n * k)).take n, b)
  else tileReader t 0 b (o.weights + n * k) n

/-- The weights, biases and scales of a pass group (spec/08 R181, R182, R183, R186): a cause or 0. -/
def Blk.blockParams (b : Blk) (t : Nat) (o : OpDesc) (u : Nat) : Nat × RowInputs × Blk :=
  let none_ : RowInputs := ⟨[], #[], #[], []⟩
  if o.isPool then (0, none_, b)
  else
    let (c0, nc) := o.channels u
    let (c, ws, b) := b.blockWeights t o u
    if c != 0 then (c, none_, b)
    else
      let (c, bias, b) := if o.bias == 0xFFFFFFFF then (0, [], b) else tileReader t 0 b (o.bias + 4 * c0) (4 * nc)
      if c != 0 then (c, none_, b)
      else
        let n := if o.intAcc then 8 else 4
        let (c, sc, b) :=
          if o.scale == 0xFFFFFFFF || o.oFmt == 6 then (0, [], b) else tileReader t 0 b (o.scale + n * c0) (n * nc)
        (c, ⟨[], (elems (fmtBits o.wFmt) ws).toArray, (elems 32 bias).toArray, sc⟩, b)

/-- Input rows that the kernel taps of output row `r` meet, ascending (spec/08 R191). -/
def OpDesc.tapRows (o : OpDesc) (r : Nat) : List Nat :=
  ((List.range o.kh).map (o.tapY r)).filterMap (fun y => if 0 ≤ y && y < (o.h : Int) then some y.toNat else none)

/-- Input columns that the kernel taps of `n` output pixels from `x0` meet. -/
def OpDesc.tapCols (o : OpDesc) (x0 n : Nat) : List Nat :=
  ((List.range n).flatMap (fun i => (List.range o.kw).filterMap (fun kx =>
    let x := o.tapX (x0 + i) kx
    if 0 ≤ x && x < (o.w : Int) then some x.toNat else none))).eraseDups

/-- The scratchpad lines that hold channels [c0, c0 + nc) of the given columns of input row `j`. -/
def OpDesc.inLines (o : OpDesc) (j : Nat) (cols : List Nat) (c0 nc : Nat) : List Nat :=
  let bits := fmtBits o.aFmt
  (cols.flatMap (fun x =>
    let lo := (x * o.cin + c0) * bits / 8
    linesOf (o.inSlot j * 256 + lo) (ceilDiv ((x * o.cin + c0 + nc) * bits) 8 - lo))).eraseDups

/-- The input rows of a pass group (spec/08 R184, R190): a cause or 0, the slot it was met at, the rows. -/
def Blk.groupRows (b : Blk) (t req : Nat) (o : OpDesc) (r u : Nat) : Nat × Nat × List (Nat × Array Nat) × Blk :=
  let (x0, n) := o.pixels u
  let cols := o.tapCols x0 n
  let (c0, nc) := if o.op == 1 then o.channels u else (0, o.cin)
  let bytes := ceilDiv (o.w * o.cin * fmtBits o.aFmt) 8
  (o.tapRows r).foldl (fun (st : Nat × Nat × List (Nat × Array Nat) × Blk) j =>
    if st.1 != 0 then st
    else
      let (ok, b) := st.2.2.2.linesCheck t req (o.inLines j cols c0 nc)
      if ok then (0, 0, st.2.2.1 ++ [(j, (elems (fmtBits o.aFmt) (b.spmGet t (o.inSlot j * 256) bytes)).toArray)], b)
      else (tcPoison, o.inSlot j, [], b)) (0, 0, [], b)

/-- Elements that one slot holds. -/
def OpDesc.slotElems (o : OpDesc) : Nat := 2048 / fmtBits o.oFmt

/-- A run of output elements cut where slots begin. -/
def cutRun (per : Nat) : Nat → Nat → List Nat → List (Nat × List Nat)
  | 0, _, _ => []
  | fuel + 1, e, codes =>
    if codes.isEmpty then []
    else
      let n := per - e % per
      (e, codes.take n) :: cutRun per fuel (e + n) (codes.drop n)

/-- The output elements of pass group `u`, in runs within a slot; with the last group the row's padding to whole slots
(spec/08 R184, R189). -/
def RowInputs.runs (i : RowInputs) (o : OpDesc) (r u : Nat) : List (Nat × List Nat) :=
  let (x0, n) := o.pixels u
  let (c0, nc) := o.channels u
  let per := o.slotElems
  let outs := (slotRange x0 n).flatMap (fun x =>
    cutRun per (nc + 1) (x * o.outChannels + c0) ((slotRange c0 nc).map (i.out o r x)))
  let used := o.wo * o.outChannels
  if u + 1 == o.groups then outs ++ cutRun per (o.outSlots + 1) used (List.replicate (o.outSlots * per - used) 0) else outs

/-- A tile's operators of one unit, and the tile with them replaced. -/
def TileSt.ops (x : TileSt) (vector : Bool) : List OpRun := if vector then x.vector else x.matrix
def TileSt.setOps (x : TileSt) (vector : Bool) (l : List OpRun) : TileSt :=
  if vector then { x with vector := l } else { x with matrix := l }

/-- OPERATOR_ISSUE (spec/08 R187, R188): the descriptor at a local offset joins its unit's queue; a refused one halts the
group with RANGE before any access. -/
def Blk.operatorIssue (b : Blk) (t offset : Nat) : Blk :=
  if !(t < 16 && b.active (tilePage t) && b.tstate t == tsRun) then b
  else if offset % 32 != 0 || spmBytes < offset + 64 then b.portFault t 0 tcRange 0
  else
    let (c, d, b) := b.spmRead t offset 64 0
    if c != 0 then b.portFault t 0 c (offset / 256)
    else
      let o := opDesc d
      if !o.accepted d then b.portFault t (if o.isPool then 3 else 0) tcRange 0
      else
        let x := b.tile t
        b.setTile t (x.setOps o.isPool (x.ops o.isPool ++ [⟨d, 0, 0, 0, [], 0, 0, 0⟩]))

/-- What a unit's work on a row comes to. -/
inductive UnitStep where
  | go
  /-- a slot is not as the port needs it -/
  | wait (port slot : Nat) (kind : WaitKind)
  /-- an access of the port ended with a cause -/
  | fault (port cause slot : Nat)
deriving DecidableEq, Repr

/-- The slots an output row's gate reads go to, in order: those of the needed input rows not gated before (spec/08 R190). -/
def OpDesc.gateSlots (o : OpDesc) (r gated : Nat) : List Nat :=
  let lo := max (o.rowLo r) gated
  (slotRange lo (o.rowHi r - lo)).flatMap (fun j => slotRange (o.inSlot j) o.inSlots)

/-- Gate reads in order, each with WAIT_FULL on the first line of its slot (spec/08 R190); how many have been made. -/
def Blk.gateReads (t rd : Nat) : List Nat → Nat → Blk → Nat × UnitStep × Blk
  | [], n, b => (n, .go, b)
  | s :: rest, n, b =>
    let b := b.tagVote t s
    if b.foundFull t s || b.unitGranted t t rd s then
      let (c, _, b) := b.spmRead t (s * 256) 32 rd
      if c == 0 then Blk.gateReads t rd rest (n + 1) b else (n, .fault rd c s, b)
    else (n, .wait rd s .readFull, b)

/-- Accesses of a port of its own stand before the unit's next one (spec/07 R152). -/
def Blk.portTaken (b : Blk) (t port : Nat) : Bool :=
  b.tiles.any (fun x => x.waits.any (fun w => w.src == t && w.port == port && w.access.isSome)) ||
    (b.tile t).held.any (fun a => a.req == port)

/-- Input row `j` was gated for some output row up to `r` of the operator. -/
def OpDesc.gatedBy (o : OpDesc) (r j : Nat) : Bool :=
  (slotRange o.rowFirst (r + 1 - o.rowFirst)).any (fun r' => o.rowLo r' ≤ j && j < o.rowHi r')

/-- A run of output elements as bytes: its offset in the row, and a 4-bit neighbour in its first or last byte as it stands. -/
def Blk.runBytes (b : Blk) (t base bits e : Nat) (codes : List Nat) : Nat × List Byte :=
  if bits == 4 then
    let end_ := e + codes.length
    let pre := if e % 2 == 1 then [(b.spmByte t (base + e / 2)).toNat % 16] else []
    let post := if end_ % 2 == 1 then [(b.spmByte t (base + end_ / 2)).toNat / 16] else []
    (e / 2, packElems 4 (pre ++ codes ++ post))
  else (e * (bits / 8), packElems bits codes)

/-- Runs written to output row's slots from `slot` on, each slot once found EMPTY (spec/08 R192): the runs left, the slots found
EMPTY. -/
def Blk.drainRuns (t wr slot bits : Nat) : List (Nat × List Nat) → Nat → Blk → List (Nat × List Nat) × Nat × UnitStep × Blk
  | [], w, b => ([], w, .go, b)
  | (e, codes) :: rest, w, b =>
    let (off, bs) := b.runBytes t (slot * 256) bits e codes
    let s := slot + off / 256
    let b := b.tagVote t s
    if w ≤ off / 256 && b.foundFull t s && !b.unitGranted t t wr s then ((e, codes) :: rest, w, .wait wr s .writeEmpty, b)
    else
      let (c, b) := b.spmWrite t (slot * 256 + off) bs wr
      if c == 0 then Blk.drainRuns t wr slot bits rest (max w (off / 256 + 1)) (if wr == 2 then b.canaryBytes t bs else b)
      else ((e, codes) :: rest, w, .fault wr c s, b)

/-- The pass groups of output row `r` one after another, each drained before the next (spec/08 R184, R192,
notes/assumptions/94). -/
def Blk.passGroups (t rd wr : Nat) (o : OpDesc) (r : Nat) : Nat → Blk → OpRun → OpRun × UnitStep × Blk
  | 0, b, q => (q, .go, b)
  | fuel + 1, b, q =>
    match Blk.drainRuns t wr (o.outSlot r) (fmtBits o.oFmt) q.drain q.written b with
    | (left, w, .go, b) =>
      let q := { q with drain := left, written := w }
      if o.groups ≤ q.passes then (q, .go, b)
      else
        let (c, par, b) := b.blockParams t o q.passes
        if c != 0 then (q, .fault 0 c (o.weights / 256), b)
        else
          let (c, s, rows, b) := b.groupRows t rd o r q.passes
          if c != 0 then (q, .fault rd c s, b)
          else
            let runs := ({ par with rows := rows } : RowInputs).runs o r q.passes
            Blk.passGroups t rd wr o r fuel b { q with passes := q.passes + 1, drain := runs }
    | (left, w, step, b) => ({ q with drain := left, written := w }, step, b)

/-- Row `r` is complete: FULL on its slots, releases under RELEASE_IN, the operator advances or leaves (spec/08 R192,
R193). -/
def Blk.rowComplete (b : Blk) (t : Nat) (o : OpDesc) (q : OpRun) (rest : List OpRun) (r : Nat) : Blk :=
  let b := b.setTags t (slotRange (o.outSlot r) o.outSlots) true
  let last := q.done + 1 == o.rowCount
  let upTo := if last then o.rowHi r else (r + 1) * o.sh - o.pt
  let rows := (slotRange q.released (upTo - q.released)).filter (fun j => o.gatedBy r j)
  let b := if o.release then b.setTags t (rows.flatMap (fun j => slotRange (o.inSlot j) o.inSlots)) false else b
  let q := { q with
    done := q.done + 1, gates := 0, passes := 0, drain := [], written := 0
    gated := max q.gated (o.rowHi r), released := max q.released upTo }
  let x := b.tile t
  b.setTile t (x.setOps o.isPool (if last then rest else q :: rest))

/-- The gate reads, then the pass groups, of the next output row of an operator. -/
def Blk.rowStep (b : Blk) (t rd wr : Nat) (o : OpDesc) (q : OpRun) (r : Nat) : OpRun × UnitStep × Blk :=
  match Blk.gateReads t rd ((o.gateSlots r q.gated).drop q.gates) q.gates b with
  | (n, .go, b) => Blk.passGroups t rd wr o r (o.groups + 1) (b.clearUnitWaits t t rd) { q with gates := n }
  | (n, step, b) => ({ q with gates := n }, step, b)

/-- OUTPUT_ROW_DONE (spec/08 R184, R189 to R193): the next output row of a unit's running operator, as far as its gate reads and
its writes go without waiting; when neither has to wait the row is marked FULL. -/
def Blk.outputRow (b : Blk) (t : Nat) (vector : Bool) : Blk :=
  let rd := unitReads vector
  let wr := unitWrites vector
  if !(t < 16 && b.active (tilePage t) && b.tstate t == tsRun) || b.portTaken t rd || b.portTaken t wr then b
  else match (b.tile t).ops vector with
    | [] => b
    | q :: rest =>
      let o := opDesc q.desc
      let r := o.rowFirst + q.done
      match b.rowStep t rd wr o q r with
      | (q, .go, b) => (((b.clearUnitWaits t t wr).rowComplete t o q rest r).portGoesOn t rd).portGoesOn t wr
      | (q, .wait port s kind, b) => (b.setTile t ((b.tile t).setOps vector (q :: rest))).unitWait t t port port s kind
      | (_, .fault port c s, b) => b.portFault t port c s

/-! ### The vector unit (spec/08 R196) -/

/-- Lane width of a vector format; 8 stands for 16-bit integers (notes/assumptions/26). -/
def laneBitsOf (fmt : Nat) : Nat := if fmt == 8 then 16 else fmtBits fmt

/-- A wrapped or saturated integer lane. -/
def laneInt (w : Nat) (sat : Bool) (v : Int) : Nat :=
  twosOf w (if sat then clampInt (-(2 ^ (w - 1) : Nat)) ((2 ^ (w - 1) : Nat) - 1) v else v)

/-- One integer lane: `none` where the spec states no result. -/
def intLane (k : VecKind) (w : Nat) (sat : Bool) (x y z : Nat) : Option Nat :=
  let sx := signedOf w x
  let sy := signedOf w y
  match k with
  | .add => some (laneInt w sat (sx + sy))
  | .sub => some (laneInt w sat (sx - sy))
  | .mul => some (laneInt w sat (sx * sy))
  | .min => some (if sx < sy then x else y)
  | .max => some (if sx < sy then y else x)
  | .cmpEq => some (Config.compareLane w (x == y) % 2 ^ w)
  | .cmpLt => some (Config.compareLane w (decide (sx < sy)) % 2 ^ w)
  | .cmpLe => some (Config.compareLane w (decide (sx ≤ sy)) % 2 ^ w)
  | .select => some (if z == Config.compareLane w true % 2 ^ w then x else y)
  | .shiftLeft => if y < w then some (laneInt w sat (sx * 2 ^ y)) else none
  | .shiftRight => if y < w then some (x >>> y) else none
  | .shiftRightArith => if y < w then some (twosOf w (sx / 2 ^ y)) else none
  | .and => some (Nat.land x y)
  | .or => some (Nat.lor x y)
  | .xor => some (Nat.xor x y)
  | .popCount => some (popCount w x)
  | _ => none

/-- One floating lane, computed in FP32 and converted (spec/08 R196). -/
def floatLane (k : VecKind) (fmt : Nat) (sat : Bool) (x y z : FVal) : Option Nat :=
  let w := fmtBits fmt
  let out := fun v => some (floatOut fmt sat (toFp32 v))
  match k with
  | .add => out (fSum [x, y])
  | .mul => out (fMul x y)
  | .fma => out (fSum [fMul x y, z])
  | .min => out (fMinV x y)
  | .max => out (fMaxV x y)
  | .div => out (fDiv x y)
  | .sqrt => out (fSqrt x)
  | .cmpEq => some (Config.compareLane w (!fLt x y && !fLt y x && x != .nan && y != .nan) % 2 ^ w)
  | .cmpLt => some (Config.compareLane w (fLt x y) % 2 ^ w)
  | .cmpLe => some (Config.compareLane w (!fLt y x && x != .nan && y != .nan) % 2 ^ w)
  | _ => none

/-- An element converted to another format (spec/08 R196 Conversion): to an integer format through R182; a floating value
that is no INT32 integer has no stated result there. -/
def convertLane (fmt toFmt : Nat) (sat : Bool) (m : Int) (n : Nat) (zp : Int) (x : Nat) : Option Nat :=
  let src := if fmt == 8 then fInt (signedOf 16 x) else elemFloat fmt x
  match floatFmt toFmt with
  | some f => some (fEncode f sat src)
  | none =>
    let asInt : Option Int := match src with
      | .fin s mag e =>
        let v : Int := if 0 ≤ e then ((mag <<< e.toNat : Nat) : Int) else ((mag >>> (-e).toNat : Nat) : Int)
        let exact := 0 ≤ e || mag % 2 ^ (-e).toNat == 0
        let v := if s then -v else v
        if exact && -(2 ^ 31 : Nat) ≤ v && v < (2 ^ 31 : Nat) then some v else none
      | _ => none
    asInt.map (fun a => if toFmt == 6 then twosOf 32 a
      else twosOf (fmtBits toFmt) (requant a m n zp false (intLo toFmt) (intHi toFmt)))

/-- Neighbouring lanes joined: 0 with 1, 2 with 3, and so on. -/
def pairLanes {α : Type} (f : α → α → α) : List α → List α
  | x :: y :: rest => f x y :: pairLanes f rest
  | l => l

/-- A pairwise tree over lanes: lanes 2i and 2i + 1 first, then pairs of pairs (spec/08 R196). -/
def pairTree {α : Type} (f : α → α → α) : Nat → List α → List α
  | 0, l => l
  | fuel + 1, l => pairTree f fuel (pairLanes f l)

/-- A reduction over lanes. -/
def reduceLanes (k : VecKind) (fmt : Nat) (sat : Bool) (xs : List Nat) : Option Nat :=
  let w := laneBitsOf fmt
  match floatFmt fmt with
  | some f =>
    let g : FVal → FVal → FVal := match k with
      | .reduceMin => fMinV
      | .reduceMax => fMaxV
      | _ => fun a c => toFp32 (fSum [a, c])
    ((pairTree g 6 (xs.map (fDecode f))).head?).map (fun v => fEncode f sat (toFp32 v))
  | none =>
    let g : Int → Int → Int := match k with
      | .reduceMin => fun a c => if a < c then a else c
      | .reduceMax => fun a c => if a < c then c else a
      | _ => fun a c => signedOf w (laneInt w sat (a + c))
    ((pairTree g 6 (xs.map (signedOf w))).head?).map (fun v => twosOf w v)

/-- Lanes with no stated result take free values. -/
def Blk.fillFree (b : Blk) (w : Nat) (l : List (Option Nat)) : List Nat × Blk :=
  l.foldl (fun (st : List Nat × Blk) x =>
    match x with
    | some v => (st.1 ++ [v], st.2)
    | none => let (v, b) := st.2.free w; (st.1 ++ [v], b)) ([], b)

/-- Lane formats an operation is offered in (spec/08 Table 5). -/
def vecOffered (v : VectorOp) : Bool :=
  let isInt := v.fmt == 1 || v.fmt == 6 || v.fmt == 8
  let isFp := v.fmt == 4 || v.fmt == 5 || v.fmt == 7
  match v.kind with
  | .add | .mul | .min | .max | .cmpEq | .cmpLt | .cmpLe | .reduceSum | .reduceMin | .reduceMax => isInt || isFp
  | .sub | .select | .shiftLeft | .shiftRight | .shiftRightArith | .and | .or | .xor | .popCount => isInt
  | .mac => v.fmt == 1
  | .fma => isFp
  | .div | .sqrt => v.fmt == 7
  | .convert => v.fmt ≤ 7 && v.toFmt ≤ 7
  | .requantise => v.fmt == 6 && v.toFmt ≤ 1
  | .lookup => true

/-- How many sources an operation has (spec/08 R196 Table 5): the lines at A, then B, then C. -/
def vecSources (k : VecKind) : Nat :=
  match k with
  | .sqrt | .popCount | .convert | .requantise | .reduceSum | .reduceMin | .reduceMax => 1
  | .select | .fma => 3
  | _ => 2

/-- A vector operation's source read through the tile's window it names (spec/07 R150, spec/08 R196). -/
def Blk.vecRead (b : Blk) (t addr n : Nat) : Nat × List Byte × Blk :=
  let (c, u, a) := b.spmTarget t addr
  if c != 0 then (c, [], b) else tileReader u (arrivalReq t u 3) b a n

/-- Its result written. -/
def Blk.vecWrite (b : Blk) (t addr : Nat) (bs : List Byte) : Nat × Blk :=
  let (c, u, a) := b.spmTarget t addr
  if c != 0 then (c, b) else b.spmWrite u a bs (arrivalReq t u 3)

/-- The first of some places whose tag the operation has to wait for (spec/07 R153); its tile, slot and kind. -/
def Blk.vecUnmet (b : Blk) (t : Nat) (full : Bool) (places : List Nat) : Option (Nat × Nat) :=
  (places.map (b.spmTarget t)).findSome? (fun p =>
    let s := p.2.2 / 256
    if p.1 == 0 && b.foundFull p.2.1 s != full && !b.unitGranted p.2.1 t 3 s then some (p.2.1, s) else none)

/-- The after actions of an operation's accesses (spec/07 R153). -/
def Blk.vecTags (b : Blk) (t : Nat) (full : Bool) (places : List Nat) : Blk :=
  (places.map (b.spmTarget t)).foldl (fun b p => if p.1 == 0 then b.setTag p.2.1 (p.2.2 / 256) full else b) b

/-- The copies of the tags an operation consults are compared (spec/07 R157). -/
def Blk.vecVotes (b : Blk) (t : Nat) (places : List Nat) : Blk :=
  (places.map (b.spmTarget t)).foldl (fun b p => if p.1 == 0 then b.tagVote p.2.1 (p.2.2 / 256) else b) b

/-- What an operation makes of its sources: the elements of its result and their width, `none` for the accumulators alone. -/
def Blk.vecResult (b : Blk) (v : VectorOp) (xa xb xc : List Byte) : Option (Nat × List (Option Nat)) × Blk :=
  let t := v.tile
  let w := laneBitsOf v.fmt
  let as_ := elems w xa
  let bs := elems w xb
  let cs := elems w xc
  let zip3 := as_.zip (bs.zip cs)
  match v.kind with
  | .mac =>
    let acc0 := (b.tile t).acc
    let acc := (List.range 32).map (fun i =>
      wrap32 ((if v.clear then 0 else nth acc0 i 0) + signedOf 8 (nth as_ i 0) * signedOf 8 (nth bs i 0)))
    (none, b.setTile t { b.tile t with acc := acc })
  | .convert =>
    let tw := fmtBits v.toFmt
    (some (tw, (as_.take (256 / max w tw)).map (convertLane v.fmt v.toFmt v.sat v.m v.n v.zp)), b)
  | .requantise =>
    let tw := fmtBits v.toFmt
    (some (tw, as_.map (fun a => some (twosOf tw (requant (signedOf 32 a) v.m v.n v.zp false (intLo v.toFmt) (intHi v.toFmt))))), b)
  | .lookup => (some (16, (xa.take 16).map (fun i => some (leAt xb (2 * i.toNat) 2))), b)
  | .reduceSum | .reduceMin | .reduceMax =>
    (some (w, reduceLanes v.kind v.fmt v.sat as_ :: List.replicate (32 / w - 1) none), b)
  | k =>
    (some (w, match floatFmt v.fmt with
      | some f => zip3.map (fun p => floatLane k v.fmt v.sat (fDecode f p.1) (fDecode f p.2.1) (fDecode f p.2.2))
      | none => zip3.map (fun p => intLane k w v.sat p.1 p.2.1 p.2.2)), b)

/-- The scratchpad places an operation reads one line of, in order. -/
def vecPlaces (v : VectorOp) : List Nat :=
  (if v.acc.isSome then [] else [v.a]) ++ (if 2 ≤ vecSources v.kind && v.kind != .lookup then [v.b] else []) ++
    (if 3 ≤ vecSources v.kind then [v.c] else [])

/-- An operation's waits at the tiles it reaches end. -/
def Blk.vecGoesOn (b : Blk) (v : VectorOp) : Blk :=
  (b.each (List.range 16) (fun b u => b.clearUnitWaits u v.tile 3)).portGoesOn v.tile 3

/-- The result of an operation written: it waits, ends with a cause, or is made with its after actions. -/
def Blk.vecStore (b : Blk) (v : VectorOp) (w : Nat) (l : List (Option Nat)) : Blk :=
  let b := if v.waitEmpty then b.vecVotes v.tile [v.dst] else b
  match if v.waitEmpty then b.vecUnmet v.tile false [v.dst] else none with
  | some (u, s) => b.unitWait u v.tile 3 (arrivalReq v.tile u 3) s .writeEmpty
  | none =>
    let (l, b) := b.fillFree w l
    let (c, b) := b.vecWrite v.tile v.dst (packElems w l)
    if c != 0 then b.portFault v.tile 3 c (v.dst % 2 ^ 22 / 256)
    else
      let b := if v.setEmpty then b.vecTags v.tile false (vecPlaces v) else b
      (if v.setFull then b.vecTags v.tile true [v.dst] else b).vecGoesOn v

/-- VECTOR_OP (spec/08 R196): the group's code runs one vector operation; sources and result stand in scratchpad lines of the
tile or its neighbours, read and written by requester 3 with the tag checks the operation names. One that waits goes on when the
group's code comes to it again. -/
def Blk.vectorOp (b : Blk) (v : VectorOp) : Blk :=
  let t := v.tile
  if !(t < 16 && b.active (tilePage t) && b.tstate t == tsRun) || !vecOffered v || b.portTaken t 3 then b
  else if ((vecPlaces v) ++ [v.dst]).any (fun a => a % 32 != 0) || (v.kind == .lookup && v.b % 32 != 0) then b.portFault t 3 tcAlign 0
  else
    let b := if v.waitFull then b.vecVotes t (vecPlaces v) else b
    match if v.waitFull then b.vecUnmet t true (vecPlaces v) else none with
    | some (u, s) => b.unitWait u t 3 (arrivalReq t u 3) s .readFull
    | none =>
      let zeros : List Byte := List.replicate 32 0
      let (c1, xa, b) := match v.acc with
        | some i => (0, ((List.range 8).flatMap (fun j => natLe 4 (twosOf 32 (nth (b.tile t).acc (8 * i + j) 0)))), b)
        | none => b.vecRead t v.a 32
      let (c2, xb, b) := if c1 != 0 then (c1, [], b) else if vecSources v.kind < 2 then (0, zeros, b)
        else b.vecRead t v.b (if v.kind == .lookup then 512 else 32)
      let (c3, xc, b) := if c2 != 0 then (c2, [], b) else if vecSources v.kind < 3 then (0, zeros, b) else b.vecRead t v.c 32
      if c3 != 0 then b.portFault t 3 c3 ((if c1 != 0 then v.a else if c2 != 0 then v.b else v.c) % 2 ^ 22 / 256)
      else
        match b.vecResult v xa xb xc with
        | (none, b) => (if v.setEmpty then b.vecTags t false (vecPlaces v) else b).vecGoesOn v
        | (some (w, l), b) => b.vecStore v w l

end Sys2Proof.Machine
end

