-- ==== Sys2Proof/Machine/Pack.lean ====
section
/-! DEFINITION. Machine/Pack.lean: the PACK block (spec/09): the pack pass over bulk memory and expansion at load. -/

namespace Sys2Proof.Machine

/-- Block cause codes of PACK (spec/09 R223). -/
def pkSrcSize : Nat := 0x01
def pkOptBad : Nat := 0x02
def pkDstFull : Nat := 0x03
def pkVerify : Nat := 0x04
def pkBulkErr : Nat := 0x05
def pkHdrBad : Nat := 0x06
def pkTileBusy : Nat := 0x07
def pkExpRange : Nat := 0x08
def pkPoison : Nat := 0x09
def pkBusy : Nat := 0x0A

/-- A number in two register words, low word first. -/
def wide (lo hi : Nat) : Nat := lo + 2 ^ 32 * hi

/-- The pass that the registers describe (spec/09 R210, R220, R223). A shadow tensor carries BASE FFFF_FFFFh. -/
def Blk.packJob (b : Blk) : PackJob :=
  { verify := b.flag PACK.PACK_CTRL_VERIFY, expOn := b.flag PACK.PACK_CTRL_EXP_ALLOW
    deltaOn := b.flag PACK.PACK_CTRL_DELTA_ALLOW && b.get PACK.BASE_OFF != 0xFFFFFFFF
    shadow := b.flag PACK.PACK_CTRL_SHADOW, fmt := b.get PACK.PACK_CTRL_FMT, plain := b.get PACK.PLAIN_BYTES
    src := wide (b.get PACK.SRC_LO) (b.get PACK.SRC_HI)
    baseSrc := wide (b.get PACK.BASE_SRC_LO) (b.get PACK.BASE_SRC_HI)
    baseOff := if b.flag PACK.PACK_CTRL_SHADOW then 0xFFFFFFFF else b.get PACK.BASE_OFF
    dst := wide (b.get PACK.DST_LO) (b.get PACK.DST_HI), limit := b.get PACK.DST_LIMIT }

/-- A pass or its GO ends with a cause (spec/09 R223). -/
def Blk.packError (b : Blk) (cause : Nat) : Blk :=
  let b := (b.set PACK.LAST_ERR cause).raise PACK.IRQ_RAW_PACK_ERR
  let b := (b.captureOwnFree Page.PACK cause).set PACK.STATUS_PSTATE 0
  { b with pack := { b.pack with pass := none } }

/-- 0 to bytes 0 and 1 of the destination (spec/09 R212); on a page that is held the write waits by itself. -/
def Blk.packMagic (b : Blk) (j : PackJob) : Nat × Blk :=
  if (b.heldPage j.dst 2).isSome then (0, b.bulkPost 4 j.dst [0, 0]) else b.bulkWrite 4 j.dst [0, 0]

/-- The pass begins (spec/09 R210, R223). -/
def Blk.packBegin (b : Blk) (j : PackJob) : Blk :=
  let b := ((b.set PACK.STATUS_PSTATE 1).set PACK.SEG_DONE 0).set PACK.METHOD_COUNT_RAW 0
  let b := (b.set PACK.METHOD_COUNT_EXP 0).set PACK.METHOD_COUNT_DELTA 0
  { b with pack := { b.pack with pass := some j, run := ⟨[], [], false⟩ } }

/-- A write of PACK_CTRL (spec/09 R210, R212, R220, R223). A format that no weight has is refused as OPT_BAD
(notes/assumptions/27). -/
def Blk.writePackCtrl (b : Blk) (v : Word) : Blk :=
  let b := b.storeKey (regKey Page.PACK 0x040) v
  if !v.getLsbD 0 then b
  else if b.pack.pass.isSome then b.captureOwnFree Page.PACK pkBusy
  else if !b.active Page.PACK then b
  else
    let n := b.get PACK.PLAIN_BYTES
    if n % 32 != 0 || n < 32 || 3145728 < n then b.packError pkSrcSize
    else if (b.flag PACK.PACK_CTRL_SHADOW && b.flag PACK.PACK_CTRL_DELTA_ALLOW) || 5 < b.get PACK.PACK_CTRL_FMT then
      b.packError pkOptBad
    else
      let j := b.packJob
      let (c, b) := b.packMagic j
      if c != 0 then b.packError pkBulkErr else b.packBegin j

/-- The codings tried for a segment show in HIST_DATA (spec/09 R223). -/
def Blk.packHist (b : Blk) (both : List (Option CodedSeg)) : Blk :=
  let e := (nth both 0 none).getD ⟨[], [], []⟩
  let d := (nth both 1 none).getD ⟨[], [], []⟩
  { b with pack := { b.pack with histExp := e.hist, lensExp := e.lens, histDelta := d.hist, lensDelta := d.lens } }

/-- METHOD_COUNT of a method: 0 RAW, 1 EXP, 2 DELTA. -/
def packCount (m : Nat) : Fld :=
  if m == 0 then PACK.METHOD_COUNT_RAW else if m == 1 then PACK.METHOD_COUNT_EXP else PACK.METHOD_COUNT_DELTA

/-- One segment read, coded and written (spec/09 R210, R211): the cause that ends the pass, `bkWait`, or 0. -/
def Blk.packSeg (b : Blk) (j : PackJob) : Nat × Blk :=
  let r := b.pack.run
  let done := r.plain.length
  let n := min 65536 (j.plain - done)
  let bulkErr := fun (c : Nat) => if c == bkWait then bkWait else pkBulkErr
  let (c, plain, b) := (b.set PACK.STATUS_PSTATE 1).bulkRead 4 (j.src + done) n
  if c != 0 then (bulkErr c, b)
  else
    let (c, base, b) := if j.deltaOn then b.bulkRead 4 (j.baseSrc + done) n else (0, [], b)
    if c != 0 then (bulkErr c, b)
    else
      let (m, coded, both) := chooseMethod j.fmt j.expOn j.deltaOn plain base
      let seg := storeSegment j.fmt m plain coded
      let off := 64 + r.out.length
      let b := (b.packHist both).set PACK.STATUS_PSTATE 2
      if j.limit < off + seg.length then (pkDstFull, b)
      else
        let (c, b) := b.bulkWrite 4 (j.dst + off) seg
        if c != 0 then (bulkErr c, b)
        else
          let b := (b.bump (packCount m)).bump PACK.SEG_DONE
          (0, { b with pack := { b.pack with run := { r with plain := r.plain ++ plain, out := r.out ++ seg } } })

/-- The segments still to be written, at most `fuel` of them. -/
def Blk.packSegs : Nat → Blk → PackJob → Nat × Blk
  | 0, b, _ => (0, b)
  | fuel + 1, b, j =>
    if j.plain ≤ b.pack.run.plain.length then (0, b)
    else match b.packSeg j with
      | (0, b) => Blk.packSegs fuel b j
      | r => r

/-- The tensor header of a pass, with PACKED_CRC (spec/09 Table 2); `delta` tells whether a segment is DELTA. -/
def packHeader (j : PackJob) (r : PackRun) (delta : Bool) : List Byte × Word :=
  let flags := bitNat j.shadow + 2 * bitNat delta
  let h := natLe 2 0x5057 ++ natLe 1 1 ++ natLe 1 j.fmt ++ natLe 4 j.plain ++ natLe 2 (ceilDiv j.plain 65536) ++
    natLe 1 flags ++ natLe 1 0 ++ natLe 4 j.baseOff ++ natLe 4 (64 + r.out.length) ++ natLe 4 (crc32c r.plain).toNat ++
    List.replicate 36 0
  let crc := crc32c (h ++ r.out)
  (h ++ natLe 4 crc.toNat, crc)

/-- The header written, last of all, and what it says in the registers (spec/09 R212, R223). -/
def Blk.packHead (b : Blk) (j : PackJob) : Nat × Blk :=
  let r := b.pack.run
  let (h, crc) := packHeader j r (b.get PACK.METHOD_COUNT_DELTA != 0)
  if j.limit < 64 then (pkDstFull, b)
  else
    let (c, b) := b.bulkWrite 4 j.dst h
    if c != 0 then (if c == bkWait then bkWait else pkBulkErr, b)
    else
      let b := (b.set PACK.OUT_BYTES (64 + r.out.length)).set PACK.PLAIN_CRC (crc32c r.plain).toNat
      let b := b.set PACK.PACKED_CRC crc.toNat
      (0, { b with pack := { b.pack with run := { r with headed := true } } })

/-- A bulk error as a reader of tensors passes it on, apart from a header's. -/
def pkReadErr : Nat := 0x100

/-- Reads of the decoder that verifies a pass: the tensor at 2^40 up, the base image at BASE. -/
def packReader (j : PackJob) : Reader := fun b a n =>
  let (c, bs, b) := if 2 ^ 40 ≤ a then b.bulkRead 4 (j.dst + (a - 2 ^ 40)) n else b.bulkRead 4 (j.baseSrc + (a - j.baseOff)) n
  (if c == 0 || c == bkWait then c else pkReadErr, bs, b)

/-- What a pass wrote is decoded and compared (spec/09 R212): VERIFY_FAIL, BULK_ERR, `bkWait`, or 0. -/
def Blk.packVerify (b : Blk) (j : PackJob) : Nat × Blk :=
  let (e, b) := expandTensor (packReader j) (2 ^ 40) none none (b.set PACK.STATUS_PSTATE 3)
  let same := e.cause == 0 && crc32c e.plain == crc32c b.pack.run.plain
  (if same then 0 else if e.cause == bkWait then bkWait else if e.cause == pkReadErr then pkBulkErr else pkVerify, b)

/-- Erg's record of a pass (spec/09 R213). -/
def Blk.notePacked (b : Blk) (dst : Nat) (crc : Option Nat) : Blk :=
  { b with fleet := { b.fleet with packed := Tbl.put (dflt none) b.fleet.packed dst crc } }

/-- A pass that ended well (spec/09 R213, R223). -/
def Blk.packFinish (b : Blk) (j : PackJob) : Blk :=
  let b := ((b.set PACK.LAST_ERR 0).set PACK.STATUS_PSTATE 0).raise PACK.IRQ_RAW_PACK_DONE
  { b.notePacked j.dst (some (b.get PACK.PACKED_CRC)) with pack := { b.pack with pass := none } }

/-- A pass ends in error, MAGIC 0 (spec/09 R212, R223). Before its header OUT_BYTES and the two CRCs of the pass do not exist:
free values (notes/assumptions/27). -/
def Blk.packFail (b : Blk) (j : PackJob) (cause : Nat) : Blk :=
  let b :=
    if b.pack.run.headed then (b.packMagic j).2
    else
      let (n, b) := b.free 23
      let (p, b) := b.free 32
      let (q, b) := b.free 32
      ((b.set PACK.OUT_BYTES n).set PACK.PLAIN_CRC p).set PACK.PACKED_CRC q
  (b.notePacked j.dst none).packError cause

/-- PACK_DONE (spec/09 R210 to R213, R223): the pass in progress ends. While a page it needs is held it goes on waiting. -/
def Blk.packDone (b : Blk) : Blk :=
  match b.pack.pass with
  | none => b
  | some j =>
    if !b.active Page.PACK then b
    else
      let (c, b) := Blk.packSegs (ceilDiv j.plain 65536) b j
      let (c, b) := if c != 0 || b.pack.run.headed then (c, b) else b.packHead j
      let (c, b) := if c != 0 || !j.verify then (c, b) else b.packVerify j
      if c == 0 then b.packFinish j else if c == bkWait then b else b.packFail j c

/-- An expansion or its GO ends with a cause (spec/09 R219). -/
def Blk.expandError (b : Blk) (cause : Nat) : Blk :=
  ((b.set PACK.EXP_STATUS_LAST_ERR cause).raise PACK.IRQ_RAW_EXPAND_ERR).captureOwnFree Page.PACK cause

/-- A write of EXP_CTRL (spec/09 R219). The sizes are those of the tensor header at the source; a GO while an expansion runs
ends with TILE_BUSY (notes/assumptions/28). -/
def Blk.writeExpCtrl (b : Blk) (v : Word) : Blk :=
  let b := b.storeKey (regKey Page.PACK 0x0C0) v
  if !v.getLsbD 8 || !b.active Page.PACK then b
  else
    let t := b.get PACK.EXP_CTRL_TILE
    let src := b.get PACK.EXP_SRC
    let dst := b.get PACK.EXP_DST
    if !b.tileReady t || b.pack.expand.isSome then b.expandError pkTileBusy
    else
      let h := if src + 64 ≤ spmBytes then b.spmGet t src 64 else []
      let bad := match tensorHead h none with
        | none => false
        | some x => spmBytes < dst + x.plain || overlaps src (leAt h 16 4) dst x.plain
      if bad || spmBytes < dst then b.expandError pkExpRange
      else
        let b := (b.set PACK.EXP_STATUS_STATE 1).set PACK.STATUS_EXPANDING 1
        { b with pack := { b.pack with expand := some ⟨t, src, dst⟩ } }

/-- EXPAND_DONE (spec/09 R219, R223): the expansion in progress ends; FREEZE does not stop it, EN 0 does (spec/03 R62). After an
error the destination lines already written are open: free values. -/
def Blk.expandDone (b : Blk) : Blk :=
  match b.pack.expand with
  | none => b
  | some j =>
    if !b.powered (tilePage j.tile) || !b.enabled Page.PACK then b
    else
      let (e, b) := expandTensor (tileReader j.tile 0) j.src none none b
      let b := (b.set PACK.EXP_STATUS_STATE 0).set PACK.STATUS_EXPANDING 0
      let b := { b with pack := { b.pack with expand := none } }
      if e.cause == 0 then
        let (_, b) := b.spmWrite j.tile j.dst e.plain 2
        (b.set PACK.EXP_STATUS_LAST_ERR 0).raise PACK.IRQ_RAW_EXPAND_DONE
      else
        let (v, b) := b.free (8 * e.touched)
        let b := b.spmPut j.tile j.dst (natLe (min e.touched (spmBytes - j.dst)) v)
        b.expandError (if e.cause == tcPoison then pkPoison else pkHdrBad)

/-- HIST_DATA (spec/09 R223): count and length of the selected symbol. -/
def Blk.histData (b : Blk) : Word :=
  let s := b.get PACK.HIST_SEL_SYMBOL
  let (h, l) := if b.flag PACK.HIST_SEL_KIND then (b.pack.histDelta, b.pack.lensDelta) else (b.pack.histExp, b.pack.lensExp)
  BitVec.ofNat 32 (nth h s 0 % 2 ^ 18 + nth l s 0 * 2 ^ 24)

end Sys2Proof.Machine
end

