-- ==== Sys2Proof/Machine/Access.lean ====
section
/-! DEFINITION. Machine/Access.lean: a register read or write by any agent, as the pages of spec/02 to spec/20 answer it: the
checks (spec/03 R54 to R59), wide pairs (spec/02 R36, R37), the register's own behaviour, and what reads live. -/

namespace Sys2Proof.Machine

/-! ### Where an offset leads -/

/-- Key of a register as an access reaches it: QP_SEL, WIN_SEL, WADI_SEL and CL_SEL pick the block behind (spec/12 The XQP page,
spec/15 R400). -/
def Blk.reachKey (b : Blk) (page off : Nat) : Nat :=
  let at_ := fun (s : Nat) => regKey page off + 0x100000 * (s + 1)
  if page == Page.XQP && 0x050 ≤ off && off < 0x080 then at_ (b.get XQP.QP_SEL)
  else if page == Page.XQP && 0x084 ≤ off && off < 0x098 then at_ (b.get XQP.WIN_SEL)
  else if page == Page.XQP && 0x0A4 ≤ off && off < 0x0E0 then at_ (b.get XQP.WADI_SEL)
  else if page == Page.CLIENT && 0x400 ≤ off && off < 0x440 then at_ (b.get CLIENT.CL_SEL)
  else regKey page off

/-! ### The header as it reads -/

/-- Page of the first block of a page's kind: TYPE (spec/03 R61). -/
def firstPage (page : Nat) : Nat :=
  if page == 0x11 then 0x10 else if 0x20 ≤ page && page < 0x30 then 0x20
  else if 0x40 ≤ page && page < 0x44 then 0x40
  else if page == 0x51 then 0x50 else if page == 0x53 then 0x52 else page

/-- STATUS.BUSY: work in progress in the block (notes/assumptions/60). -/
def Blk.busy (b : Blk) (page : Nat) : Bool :=
  if 0x20 ≤ page && page < 0x30 then
    let t := page - 0x20
    b.tstate t == tsRun || !(b.tile t).cc.isEmpty || (b.tile t).checking
  else if page == Page.MOVER then (List.range 8).any (fun c => b.mstate c == msRun || b.mstate c == msWait)
  else if page == Page.PACK then b.pack.pass.isSome || b.pack.expand.isSome
  else if page == Page.BULK then !b.bulk.reloads.isEmpty || b.bulk.pages.any (fun p => p.2.migrating.isSome)
  else if page == Page.XQP then b.fab.qps.any (fun q => !q.2.jobs.isEmpty) || !b.fab.rx.isEmpty
  else if page == Page.SEARCH then !b.search.served.isEmpty
  else if page == Page.JOURNAL then b.journal.entries.any (fun e => e.2.stage != 0)
  else if page == Page.PWR then b.power.trans.isSome
  else if page == Page.TALLY then b.tallyRuns
  else if page == Page.FUSE then b.flag FUSE.STATUS_BURNING
  else if page == Page.CORE then b.flag CORE.MB_STATUS_BUSY
  else if 0x52 ≤ page && page < 0x54 then (b.canSt (page - 0x52)).sending.isSome
  else if page == Page.ISP then !b.isp.frames.isEmpty
  else if page == Page.SEN then b.reading
  else false

/-- STATUS[31:16] bits that stand behind the block rather than in a stored field, at their places. -/
def Blk.liveStatus (b : Blk) (page : Nat) : Nat :=
  if page == Page.SEN then bitNat b.reading * 2 ^ 16
  else if 0x20 ≤ page && page < 0x30 then bitNat ((b.tile (page - 0x20)).waits.any (fun w => !w.met)) * 2 ^ 18
  else if page == Page.MOVER then
    maskOf 8 (fun c => b.mstate c == msRun || b.mstate c == msWait) * 2 ^ 16 + bitNat (!b.bulk.reloads.isEmpty) * 2 ^ 24
  else if page == Page.BULK then
    2 ^ 16 + bitNat (65536 - b.bulk.used ≤ b.get BULK.SPARE_LOW) * 2 ^ 18 + bitNat (b.bulk.used == 65536) * 2 ^ 19
  else if page == Page.SCHED then
    b.get SCHED.SCHED_CTRL_RUN * 2 ^ 16 + b.get SCHED.SCHED_CTRL_BANK * 2 ^ 17 +
      bitNat (b.copyOf SCHED.SCHED_CTRL_RUN.key).isSome * 2 ^ 18 + b.get SCHED.JOIN_CTRL_JSTATE * 2 ^ 19
  else if page == Page.SEARCH then
    bitNat (b.searchOn && b.scanTurn.isSome) * 2 ^ 16 + bitNat (b.pendingKeys.any (fun k => pageOf k == page)) * 2 ^ 17 +
      b.inFlight % 64 * 2 ^ 18
  else if 0x52 ≤ page && page < 0x54 then bitNat (b.safeSending (page - 0x52)) * 2 ^ 18
  else if page == Page.PWR then b.pwrStatus * 2 ^ 16
  else 0

/-- STATUS as it reads (spec/03 R61). -/
def Blk.statusWord (b : Blk) (page : Nat) : Word :=
  let stored := b.word (regKey page 0x014) &&& 0xFFFF004C
  let head := b.get (hEn page) + 2 * bitNat (b.busy page) + 16 * b.get (hCapValid page) +
    32 * bitNat (b.shadowPending page) + 128 * b.get (hLockCfg page)
  stored ||| BitVec.ofNat 32 (head + b.liveStatus page)

/-- A header register as it reads; `none` for one that reads as stored. -/
def Blk.headerWord (b : Blk) (page off : Nat) : Option Word :=
  if off == 0x000 then some (BitVec.ofNat 32 (firstPage page * 256 + (page - firstPage page)))
  else if off == 0x004 then some (BitVec.ofNat 32 (Config.blockRev page % 256 + b.unit.stepping * 256))
  else if off == 0x014 then some (b.statusWord page)
  else none

/-! ### Registers that read live -/

/-- A word of a coordinate kept as a 64-bit number. -/
def coordWord (hi : Bool) (n : Nat) : Word := BitVec.ofNat 32 (if hi then n / 2 ^ 32 else n)

/-- EPOCH (spec/02 The EPOCH page). -/
def Blk.epochLive (b : Blk) (off : Nat) : Option Word :=
  if off == 0x040 then some (BitVec.ofNat 32 b.ep.line.toNat)
  else if off == 0x044 then some (BitVec.ofNat 32 (b.ep.line.toNat / 2 ^ 32))
  else if off == 0x048 then some (coordWord false (coordNat b.now))
  else if off == 0x04C then some (coordWord true (coordNat b.now))
  else if off == 0x058 then some (BitVec.ofNat 32 b.ep.base.toNat)
  else if off == 0x05C then some (BitVec.ofNat 32 (b.ep.base.toNat / 2 ^ 32))
  else if off == 0x060 then some (b.word (regKey Page.EPOCH 0x060) ||| (if b.domainOn 1 then 0 else 4))
  else if off == 0x084 then
    let held := b.epochState == stHoldover
    some (BitVec.ofNat 32 (if held then 1 + min (b.linesSince b.ep.holdLine) (2 ^ 24 - 1) * 256 else 0))
  else none

/-- The error log of a tile (spec/07 R174). -/
def Blk.elogWord (b : Blk) (t i : Nat) : Word :=
  let e := Tbl.get (dflt ⟨0, 0, 0, 0, 0⟩) (b.tile t).elog (b.get (TILE.ELOG_SEL t))
  if i == 0 then BitVec.ofNat 32 (e.cause % 256 + e.req % 16 * 256 + e.slot % 2 ^ 14 * 4096)
  else if i == 3 then BitVec.ofNat 32 (e.group % 65536)
  else coordWord (i == 2) e.coord

/-- The poison log (spec/07 R175). -/
def Blk.plogWord (b : Blk) (i : Nat) : Word :=
  let e := (Tbl.get (dflt none) b.spm.plog (b.get SPM.POISON_SEL)).getD ⟨0, 0, 0, false, 0, 0, 0⟩
  if i == 0 then
    BitVec.ofNat 32 (e.tile % 16 + e.line % 2 ^ 17 * 16 + e.attr % 4 * 2 ^ 21 + bitNat e.emptySlot * 2 ^ 23 + e.finder % 16 * 2 ^ 24)
  else BitVec.ofNat 32 (e.l % 2 ^ 14 + e.f % 2 ^ 18 * 2 ^ 14)

/-- The retirement log (spec/10 R246). -/
def Blk.rlogWord (b : Blk) (i : Nat) : Word :=
  let e := (Tbl.get (dflt none) b.bulk.rlog (b.get BULK.RLOG_SEL)).getD ⟨0, 0, 0, 0⟩
  if i == 0 then BitVec.ofNat 32 (e.page % 2 ^ 21 + e.kind % 4 * 2 ^ 22 + e.finder % 16 * 2 ^ 24)
  else coordWord (i == 2) e.coord

/-- The queue-pair error log (spec/12 QLOG_DATA0 to 3). -/
def Blk.qlogWord (b : Blk) (i : Nat) : Word :=
  let e := (Tbl.get (dflt none) b.fab.qlog (b.get XQP.QLOG_SEL)).getD ⟨0, 0, 0, false, 0, 0⟩
  if i == 0 then BitVec.ofNat 32 (e.cause % 256 + e.qp % 256 * 256 + e.src % 256 * 65536 + bitNat e.asTarget * 2 ^ 24)
  else if i == 1 then BitVec.ofNat 32 (e.psn % 2 ^ 24)
  else coordWord (i == 3) e.coord

/-- The schedule event log (spec/13 EVT_DATA0 to 2). -/
def Blk.evtWord (b : Blk) (i : Nat) : Word :=
  let e := Tbl.get (dflt ⟨0, 0, 0, 0⟩) b.sched.evt (b.get SCHED.EVT_SEL)
  if i == 0 then BitVec.ofNat 32 (e.entry % 1024 + e.kind % 16 * 4096 + e.tiles % 65536 * 65536)
  else coordWord (i == 2) e.coord

/-- ISP.CTX_STATUS with the rows held and whether a frame is in progress (spec/06 The ISP page). -/
def Blk.ctxStatusWord (b : Blk) (c : Nat) : Word :=
  b.word (regKey Page.ISP (0xD00 + 4 * c)) |||
    BitVec.ofNat 32 (min 3 (b.heldRows c) * 2 ^ 24 + bitNat (b.frameOf c).isSome * 2 ^ 27)

/-- A block's register that reads live for an agent; `none` for one that reads as stored (spec/02 to spec/20). -/
def Blk.liveWord (b : Blk) (a : Agent) (page off : Nat) : Option Word :=
  let word := off / 4
  if page == Page.EPOCH then b.epochLive off
  else if page == Page.SEN && off == 0x008 then some (b.word (regKey page off) ||| BitVec.ofNat 32 (b.unit.tier % 16))
  else if page == Page.SEN && off == 0x044 then some (BitVec.ofNat 32 (b.get FUSE.SH_MAKER_CFG / 16 % 4))
  else if page == Page.CROUTE && off == 0x040 then some (BitVec.ofNat 32 b.storeFill)
  else if page == Page.ISP && 0xD00 ≤ off && off < 0xD90 then some (b.ctxStatusWord ((off - 0xD00) / 4))
  else if page == Page.ISPSTAT && 0x400 ≤ off && off < 0x800 then some (b.statWin ((off - 0x400) / 4))
  else if 0x20 ≤ page && page < 0x30 && 0x108 ≤ off && off ≤ 0x114 then some (b.elogWord (page - 0x20) (word - 0x42))
  else if page == Page.SPM then
    let t := b.get SPM.DBG_ADDR_TILE
    let at_ := b.get SPM.DBG_ADDR_OFFSET
    if off == 0x050 then some (BitVec.ofNat 32 (bitNat (b.isFull t (at_ / 256)) + 256 * bitNat (b.isPoisoned t (at_ / 32))))
    else if off == 0x068 || off == 0x06C then some (b.plogWord (word - 0x1A))
    else if 0x200 ≤ off && off < 0x240 then
      some (BitVec.ofNat 32 (b.initPending ((off - 0x200) / 4)))
    else none
  else if page == Page.PACK && off == 0x084 then some b.histData
  else if page == Page.MOVER && off == 0x080 then
    some (b.word (regKey page off) &&& 0xFFFF0000 ||| BitVec.ofNat 32 (b.bulk.reloads.length % 65536))
  else if page == Page.BULK && off == 0x054 then some (BitVec.ofNat 32 b.bulk.used)
  else if page == Page.BULK && 0x088 ≤ off && off ≤ 0x090 then some (b.rlogWord (word - 0x22))
  else if page == Page.XQP && 0x148 ≤ off && off ≤ 0x154 then some (b.qlogWord (word - 0x52))
  else if page == Page.SCHED && 0x054 ≤ off && off < 0x064 then
    some (b.entWord (b.get SCHED.ENT_SEL_BANK) (b.get SCHED.ENT_SEL_ENTRY) (word - 0x15))
  else if page == Page.SCHED && 0x088 ≤ off && off ≤ 0x090 then some (b.evtWord (word - 0x22))
  else if page == Page.CLIENT && off == 0x400 then
    let k := b.get CLIENT.CL_SEL
    some (BitVec.ofNat 32 (putBits (b.clWord k 0) 1 6 (b.permOf k)))
  else if page == Page.CLIENT && 0x428 ≤ off && off < 0x440 then some (b.clState (b.get CLIENT.CL_SEL) (off - 0x400))
  else if page == Page.JOURNAL && off == 0x074 then some b.jStatus
  else if page == Page.OASIS && off == 0x058 then some b.presLeft
  else if page == Page.OASIS && 0x144 ≤ off && off ≤ 0x150 then some (b.recWord (word - 0x51))
  else if page == Page.TALLY && off == 0x054 then some b.nextOk
  else if page == Page.SYS && off == 0x084 then some (BitVec.ofNat 32 b.wdtLeft)
  else if page == Page.CORE && off == 0x040 then
    some (match a with | .erg c => BitVec.ofNat 32 (c % 4) | _ => 0)
  else if page == Page.SAFE && 0x0C4 ≤ off && off ≤ 0x0CC then some (b.walkWord (word - 0x31))
  else if page == Page.SAFE && 0x108 ≤ off && off ≤ 0x110 then some (b.slogWord (word - 0x42))
  else none

/-- What a register reads, and the block after the read: TABLE_DATA and RT_DATA advance, DBG_DATA reads a scratchpad and
DBG_TAG a tag; the lane state of a D-PHY is a free value (spec/05 The CSI pages, notes/assumptions/61). The first part is a fault of the read's own. -/
def Blk.readLive (b : Blk) (a : Agent) (page off : Nat) : Nat × Word × Blk :=
  if page == Page.ISP && off == 0x048 then (0, b.readTable)
  else if page == Page.XROUTE && off == 0x054 then (0, b.readRtData)
  else if page == Page.SPM && off == 0x04C then b.dbgRead
  else if page == Page.SPM && off == 0x050 && !b.powered (tilePage (b.get SPM.DBG_ADDR_TILE)) then (causePower, 0, b)
  else if (page == 0x10 || page == 0x11) && off == 0x044 then
    let (v, b) := if b.csiOn (page - 0x10) then b.free 10 else (0, b)
    (0, b.word (regKey page off) ||| BitVec.ofNat 32 v, b)
  else
    let b := if page == Page.SPM && off == 0x050 then b.tagVote (b.get SPM.DBG_ADDR_TILE) (b.get SPM.DBG_ADDR_OFFSET / 256) else b
    let key := b.reachKey page off
    match b.headerWord page off with
    | some w => (0, w, b)
    | none =>
      match b.liveWord a page off with
      | some w => (0, w, b)
      | none => (0, match regRow page off with | some _ => b.word key | none => 0, b)

/-! ### Header registers -/

/-- FREEZE cleared: the block resumes where it stopped (spec/03 R62). -/
def Blk.resume (b : Blk) (page : Nat) : Blk :=
  let b := b.set (hFrozen page) 0
  if 0x40 ≤ page && page < 0x44 then b.drainPort (page - 0x40)
  else if page == Page.XROUTE then b.releaseHeld
  else b

/-- Pages whose chapters say that a write of FREEZE has no effect (spec/18 The SYS page, spec/19 The LIFE page, spec/20 The SAFE
page). -/
def noFreeze (page : Nat) : Bool := page == Page.SYS || page == Page.LIFE || page == Page.SAFE

/-- EN as written: a port leaves DISABLED, or goes down (spec/11 R250); routing takes up what it held. -/
def Blk.writeEn (b : Blk) (page : Nat) (en : Bool) : Blk :=
  let was := b.flag (hEn page)
  let b := b.set (hEn page) (bitNat en)
  if was == en then b
  else if 0x40 ≤ page && page < 0x44 then b.portEnable (page - 0x40) en
  else if page == Page.XROUTE && en then b.releaseHeld
  else b

/-- FREEZE as written. -/
def Blk.writeFreeze (b : Blk) (page : Nat) (on : Bool) : Blk :=
  if noFreeze page then b
  else
    let b := b.set (hFreeze page) (bitNat on)
    if on then b else b.when (b.flag (hFrozen page)) (fun b => b.resume page)

/-- A write of CTRL (spec/03 R61, R62, R77). -/
def Blk.writeCtrl (b : Blk) (page v : Nat) : Blk :=
  let b := b.when (bitAt v 3) (fun b => b.set (hErrCount page) 0)
  if bitAt v 1 && page != Page.SAFE then (b.softReset page (bitAt v 0)).markChanged page
  else ((b.writeEn page (bitAt v 0)).writeFreeze page (bitAt v 2)).set (hCrcEn page) (bitsAt v 4 1)

/-- FREEZE_STOP (spec/03 R62): a frozen block has stopped at its unit boundary. -/
def Blk.freezeStop (b : Blk) (page : Nat) : Blk :=
  if b.powered page && b.flag (hFreeze page) then b.raise (hFrozen page) else b

/-- A write of a header register (spec/03 R61). -/
def Blk.writeHeader (b : Blk) (page off : Nat) (v : Word) : Blk :=
  if off == 0x010 then b.writeCtrl page v.toNat
  else if off == 0x018 then b.writeIrqRaw page v
  else if off == 0x020 then b.writeIrqForce page v
  else if off == 0x024 then b.writeErrCap page v
  else if off == 0x030 then b.writeLock page v
  else if off == 0x034 then b.writeShadowCtrl page v.toNat
  else if off == 0x03C then (b.storeKey (regKey page off) v).markChanged page
  else b.storeKey (regKey page off) v

/-! ### Block registers -/

/-- TT_INFO: 1 to VALID clears it (spec/07 R159, R174). -/
def Blk.writeTtInfo (b : Blk) (t : Nat) (v : Word) : Blk :=
  if v.getLsbD 31 then b.setWord (TILE.TT_INFO_VALID t).key 0 else b

/-- XQP (spec/12 The XQP page). -/
def Blk.writeXqp (b : Blk) (a : Agent) (off : Nat) (v : Word) : Blk :=
  let n := v.toNat
  let key := b.reachKey Page.XQP off
  let q := b.get XQP.QP_SEL
  let w := b.get XQP.WIN_SEL
  if off == 0x044 then b.doorbell (bitsAt n 0 8) (bitsAt n 16 12)
  else if off == 0x050 then b.writeQctx0 q a n
  else if 0x054 ≤ off && off ≤ 0x06C then b.writeQctx q a key v
  else if off == 0x088 then b.writeWin1 w a n
  else if 0x084 ≤ off && off ≤ 0x094 then b.writeWin w a key v
  else if off == 0x0A4 then b.writeWdCtrl (b.get XQP.WADI_SEL) v
  else if off == 0x0E0 then b.wadiInc (bitsAt n 0 9) (bitsAt n 16 16)
  else if 0x200 ≤ off && off < 0x280 && off % 0x20 == 0x14 then b.cqOverflowClear ((off - 0x200) / 0x20) n
  else if 0x200 ≤ off && off < 0x280 && off % 0x20 == 0x08 && b.flag (XQP.CQ_CFG_EN ((off - 0x200) / 0x20)) then b
  else b.storeKey key v

/-- SCHED (spec/13 The SCHED page). -/
def Blk.writeSched (b : Blk) (a : Agent) (off : Nat) (v : Word) : Blk :=
  let n := v.toNat
  if 0x054 ≤ off && off < 0x064 then b.writeEnt a ((off - 0x054) / 4) v
  else if off == 0x064 then b.kick a (bitsAt n 0 10) (bitsAt n 16 16)
  else if off == 0x068 then b.writeAlive n
  else if off == 0x110 then b.joinSend n
  else
    let b := b.storeKey (regKey Page.SCHED off) v
    b.when ((off == 0x0C0 || off == 0x0DC) && b.active Page.CLIENT) Blk.healthChanged

/-- MOVER (spec/10 The MOVER page). -/
def Blk.writeMover (b : Blk) (off : Nat) (v : Word) : Blk :=
  let c := (off - 0x100) / 0x20
  let at_ := off % 0x20
  if !(0x100 ≤ off && off < 0x200) then b.storeKey (regKey Page.MOVER off) v
  else if at_ == 0x08 then b.writeRingCfg c v
  else if at_ == 0x0C then b.writeMoverTail c (bitsAt v.toNat 0 12)
  else if at_ == 0x18 then b.writeChCtrl c v.toNat
  else b.storeKey (regKey Page.MOVER off) v

/-- HOST (spec/15 R398): what PTP_TX stamps is a free time here; the PTP_TX command carries the clock's. -/
def Blk.writeHost (b : Blk) (m off : Nat) (v : Word) : Blk :=
  if off == 0x088 then b.ptpStep m v.toNat
  else if off == 0x08C then
    let (sec, b) := b.free 48
    let (ns, b) := b.free 32
    b.ptpTx m v.toNat ⟨sec, ns % 1000000000⟩
  else b.storeKey (regKey (Page.HOST + m) off) v

/-- A write of a block's register; Hamada's writes of PWR.RESET and FUSE.PROG_CMD act at the node (Node.accessWrite). A register
no table defines ignores it. -/
def Blk.writeBlock (b : Blk) (a : Agent) (page off : Nat) (v : Word) : Blk :=
  let n := v.toNat
  let plain := fun (b : Blk) => b.storeKey (b.reachKey page off) v
  if off < 0x040 then b.writeHeader page off v
  else if page != Page.EPOCH && isShlCoord page off then (plain b).touchShl page
  else if page == Page.EPOCH then
    if off == 0x050 then b.writeFrameMode n else if off == 0x054 then b.writeModeAtF n
    else if off == 0x070 then b.writeSyncIn n else if off == 0x088 then b.writeMapCtrl n else plain b
  else if page == Page.XEPOCH && off == 0x044 then b.writeRole n
  else if (page == 0x10 || page == 0x11) && off == 0x040 then b.writePhy (page - 0x10) v
  else if page == Page.ISP && off == 0x048 then b.writeTable a v
  else if 0x20 ≤ page && page < 0x30 then
    let t := page - 0x20
    if off == 0x040 then b.writeTctrl t n
    else if off == 0x050 then b.writeTtInfo t v
    else if off == 0x0A0 then (if bitAt n 0 then b.ccPost t (b.ccDescBytes t) false else b)
    else plain b
  else if page == Page.SPM then
    if off == 0x050 then b.dbgTag (bitAt n 0)
    else if 0x100 ≤ off && off < 0x200 && off % 0x10 < 0x0C then b.writeAttr ((off - 0x100) / 0x10) (off % 0x10 / 4) n
    else plain b
  else if page == Page.MOVER then b.writeMover off v
  else if page == Page.PACK then
    if off == 0x040 then b.writePackCtrl v else if off == 0x0C0 then b.writeExpCtrl v else plain b
  else if page == Page.BULK then
    if off == 0x048 then b.writeShare a n else if off == 0x074 then b.writeRetire n else plain b
  else if 0x40 ≤ page && page < 0x44 && off == 0x040 then b.writePortCtrl (page - 0x40) a n
  else if page == Page.XROUTE then
    if off == 0x040 then b.writeNodeId a (n % 256) else if off == 0x044 then (plain b).expectChanged
    else if off == 0x054 then b.writeRtData a v else if off == 0x068 then b.writeRsCtrl a n else plain b
  else if page == Page.XQP then b.writeXqp a off v
  else if page == Page.SCHED then b.writeSched a off v
  else if page == Page.SEARCH then
    if off == 0x080 then b.queryPost (n % 64)
    else if off == 0x108 || off == 0x128 then b.writeSlotCtrl ((off - 0x108) / 0x20) a n else plain b
  else if page == 0x50 || page == 0x51 then b.writeHost (page - 0x50) off v
  else if (page == 0x52 || page == 0x53) && off == 0x058 then b.hbArm (page - 0x52) n
  else if page == Page.CLIENT && off == 0x058 then b.itemPost (n % 1024)
  else if page == Page.JOURNAL then
    if off == 0x040 then b.writeJCtrl v else if off == 0x078 then b.commitEntry (n % 4096) else plain b
  else if page == Page.PWR && off == 0x040 then b.writeModeReq n
  else if page == Page.PWR && off == 0x050 then
    (if a == .hamada then b else b.captureFree Page.PWR pwResetPriv (agentCode a))
  else if page == Page.OASIS then
    match patOf off with
    | some p => (plain b).patWritten p
    | none => plain b
  else if page == Page.TALLY then
    if off == 0x044 then b.writeTallyCtrl n
    else (plain b).when (off == 0x040 && b.powered Page.CLIENT && b.active Page.CLIENT) Blk.healthChanged
  else if page == Page.SYS && off == 0x068 then b.xcapClear n
  else if page == Page.CORE then
    if off == 0x044 then b.ergKick n else if off == 0x048 then b.mbDoorbell a n else if off == 0x050 then b.ipi n
    else if 0x100 ≤ off && off < 0x200 then b.writeMbReq a (regKey page off) v
    else plain b
  else if page == Page.FUSE && 0x070 ≤ off && off < 0x080 then b.writeFuseLock ((off - 0x070) / 4) n
  else plain b

/-! ### Accesses -/

/-- What comes of an access: the data read, and the fault's cause (0 none). -/
structure Reply where
  cause : Nat
  data : Word
deriving DecidableEq, Repr

/-- A write of the high word of a wide register commits both words, the low one 0 with nothing staged (spec/02 R37); the RTC
becomes valid (spec/16 R417). -/
def Blk.commitWide (b : Blk) (a : Agent) (page off : Nat) (v : Word) : Blk :=
  let k := agentPage a page
  let none_ : Nat → Option Word := dflt none
  let staged := (Tbl.get none_ b.stage k).getD 0
  let b := { b with stage := Tbl.put none_ b.stage k none }
  let b := (b.writeBlock a page (off - 4) staged).writeBlock a page off v
  b.when (page == Page.OASIS && off == 0x044) (fun b => b.set OASIS.STATUS_RTC_VALID 1)

/-- A write of the low word of a wide RW register is staged (spec/02 R37). -/
def Blk.stageLow (b : Blk) (a : Agent) (page : Nat) (v : Word) : Blk :=
  { b with stage := Tbl.put (dflt none) b.stage (agentPage a page) (some v) }

/-- A wide register's words are RW. -/
def wideWrites (page off : Nat) : Bool := match regRow page off with | some r => r.rw != 0 | none => false

/-- A queue pair's send ring outside INIT: each write of either word has no effect and is captured, and nothing is staged
(spec/12 R283). -/
def Blk.ringShut (b : Blk) (page off : Nat) : Bool :=
  page == Page.XQP && (off == 0x060 || off == 0x064) && b.qstate (b.get XQP.QP_SEL) != qsInit

/-- A write that met no fault, through the wide rules. -/
def Blk.writeWord (b : Blk) (a : Agent) (page off : Nat) (v : Word) : Blk :=
  if b.ringShut page off then b.writeBlock a page off v
  else if isWideLow page off && wideWrites page off then b.stageLow a page v
  else if isWideHigh page off && wideWrites page off then b.commitWide a page off v
  else b.writeBlock a page off v

/-- A read of a wide register's high word returns the holding register; of its low word, it fills it (spec/02 R36). A read of
the low word after which the register changes still returns its high word as it stood. -/
def Blk.readWord (b : Blk) (a : Agent) (page off : Nat) : Nat × Word × Blk :=
  let k := agentPage a page
  if a != .safetyScan && isWideHigh page off then (0, Tbl.get (dflt 0) b.hold k, b)
  else
    let (cause, w, b') := b.readLive a page off
    if a != .safetyScan && isWideLow page off then
      let (_, hi, _) := b.readLive a page (off + 4)
      (cause, w, { b' with hold := Tbl.put (dflt 0) b'.hold k hi })
    else (cause, w, b')

/-- The debug window's access to a tile whose domain is off faults with POWER (spec/07 The SPM page). -/
def Blk.dbgOff (b : Blk) (page off : Nat) : Bool :=
  page == Page.SPM && (off == 0x04C || off == 0x050) && !b.powered (tilePage (b.get SPM.DBG_ADDR_TILE))

/-- DBG_DATA as written (spec/07 R175). -/
def Blk.writeDbg (b : Blk) (v : Word) : Blk := (b.dbgWrite v).2

/-- A write by an agent at the block: its fault, or its effect (spec/03 R58). -/
def Blk.accessWrite (b : Blk) (a : Agent) (page off : Nat) (word : Bool) (v : Word) : Reply × Blk :=
  let cause := b.accessCause a page off word true v.toNat
  let cause := if cause == 0 && b.dbgOff page off then causePower else cause
  if cause != 0 then (⟨cause, 0⟩, b.accessFault a page off cause)
  else if page == Page.SPM && off == 0x04C then (⟨0, 0⟩, b.writeDbg v)
  else (⟨0, 0⟩, b.writeWord a page off v)

/-- A read by an agent at the block. -/
def Blk.accessRead (b : Blk) (a : Agent) (page off : Nat) (word : Bool) : Reply × Blk :=
  let cause := b.accessCause a page off word false 0
  if cause != 0 then (⟨cause, 0⟩, b.accessFault a page off cause)
  else
    let (cause, w, b) := b.readWord a page off
    if cause != 0 then (⟨cause, 0⟩, b.accessFault a page off cause) else (⟨0, w⟩, b)

/-! ### At the node -/

/-- A write reaches a register that acts beyond the blocks: PWR.RESET, or FUSE.PROG_CMD. -/
def nodeWrite (page off : Nat) : Bool := (page == Page.PWR && off == 0x050) || (page == Page.FUSE && off == 0x048)

/-- A write that LIFE shows at once: FUSE's locks and trial override, and a SOFT_RESET of FUSE or LIFE, whose live fields follow
the array and the gate whatever is written (spec/19 R488, R499, R500). -/
def lifeGate (page off : Nat) (v : Word) : Bool :=
  (page == Page.FUSE && 0x070 ≤ off) || ((page == Page.FUSE || page == Page.LIFE) && off == 0x010 && v.getLsbD 1)

/-- A write by an agent (spec/03 R57 to R62). -/
def Node.accessWrite (n : Node) (a : Agent) (page off : Nat) (word : Bool) (v : Word) : Reply × Node :=
  if nodeWrite page off then
    let cause := n.b.accessCause a page off word true v.toNat
    if cause != 0 then (⟨cause, 0⟩, n.on (fun b => b.accessFault a page off cause))
    else if page == Page.PWR then (⟨0, 0⟩, n.writeReset a (v.toNat % 4))
    else (⟨0, 0⟩, n.on (fun b => b.when (bitAt v.toNat 0) (fun b => b.progGo n.progRefusal)))
  else
    let (r, b) := n.b.accessWrite a page off word v
    let n := { n with b := b }
    (r, if r.cause == 0 && lifeGate page off v then n.lifeSync else n)

/-- A read by an agent: FUSE.READ_DATA and READ_INFO show the OTP array (spec/19 The FUSE page). -/
def Node.accessRead (n : Node) (a : Agent) (page off : Nat) (word : Bool) : Reply × Node :=
  let (r, b) := n.b.accessRead a page off word
  let w := n.b.get FUSE.READ_ADDR
  let data :=
    if r.cause != 0 || page != Page.FUSE then r.data
    else if off == 0x054 then n.readOtp w else if off == 0x058 then n.readOtpInfo w else r.data
  (⟨r.cause, data⟩, { n with b := b })

/-- A register write as a command: the effect, and the answer to the agent. -/
def Node.writeReg (n : Node) (a : Agent) (page off : Nat) (word : Bool) (v : Word) : Node :=
  let (r, n) := n.accessWrite a page off word v
  n.on (fun b => b.emit (.access a page off true r.cause 0))

/-- A register read as a command. -/
def Node.readReg (n : Node) (a : Agent) (page off : Nat) (word : Bool) : Node :=
  let (r, n) := n.accessRead a page off word
  n.on (fun b => b.emit (.access a page off false r.cause r.data))

end Sys2Proof.Machine
end

