-- ==== Sys2Proof/Machine/MoverRun.lean ====
section
/-! DEFINITION. Machine/MoverRun.lean: a mover descriptor run to its end (spec/10 R225 to R234), and the end of a tag wait at the
stall watchdog (spec/07 R158 to R160). -/

namespace Sys2Proof.Machine

/-- What a step of a descriptor comes to. -/
inductive MStep where
  /-- the bytes moved so far stand -/
  | go
  /-- a tag or a page is not ready: tile, slot and kind of a tag wait -/
  | wait (at_ : Option (Nat × Nat × WaitKind))
  /-- the descriptor ends with a cause -/
  | fail (cause : Nat)
deriving DecidableEq, Repr

/-- A bulk cause as a mover's (spec/10 R245). -/
def moverCauseOfBulk (c : Nat) : Nat :=
  if c == bkPoison then mcPoison else if c == bkDead then mcDeadPage else if c == bkRange then mcRange else c

/-- The address of a chunk in a rectangle. -/
def MChunk.addr (k : MChunk) (a stride : Nat) : Nat := a + k.row * stride + k.col

/-- What stands against an access to a scratchpad: the tile's state, or a tag not yet checked at this slot (spec/10 R231).
`full` is the tag it waits for. -/
def Blk.moverGate (b : Blk) (c tile off n : Nat) (check full : Bool) : MStep :=
  let met := fun (s : Nat) => if full then b.foundFull tile s else !b.foundFull tile s
  if !b.powered (tilePage tile) then .fail causePower
  else if b.tstate tile == tsMappedOut then .fail mcMappedOut
  else if !check then .go
  else match (slotsTouched off n).find? (fun s =>
      !(b.moverCh c).seen.contains (slotKey tile s) && !met s && !b.unitGranted tile c 9 s) with
    | some s => .wait (some (tile, s, if full then .readFull else .writeEmpty))
    | none => .go

/-- The slots of an access are checked once (spec/10 R231); the check is a read of their tags (spec/07 R157). -/
def Blk.moverSeen (b : Blk) (c tile off n : Nat) : Blk :=
  let x := b.moverCh c
  let new := (slotsTouched off n).filter (fun s => !x.seen.contains (slotKey tile s))
  (b.tagVotes tile new).setMover c { x with seen := x.seen ++ new.map (slotKey tile) }

/-- The gate of one side of a chunk, which an SPM endpoint has. -/
def Blk.moverSide (b : Blk) (c kind a at_ n : Nat) (check full : Bool) : MStep × Blk :=
  if kind != mkSpm then (.go, b)
  else
    let tile := bitsAt a 48 4
    match b.moverGate c tile (at_ % 2 ^ 22) n check full with
    | .go => (.go, if check then b.moverSeen c tile (at_ % 2 ^ 22) n else b)
    | r => (r, b)

/-- The words of a register endpoint read in ascending order by the mover (spec/10 R229). -/
def Blk.moverReadRegs (b : Blk) (a n : Nat) : Nat × List Byte × Blk :=
  (List.range (ceilDiv n 4)).foldl (fun (st : Nat × List Byte × Blk) i =>
    if st.1 != 0 then st
    else
      let at_ := a + 4 * i
      let (r, b) := st.2.2.accessRead .mover ((at_ / 4096) % 256) (at_ % 4096) (at_ % 4 == 0)
      (r.cause, st.2.1 ++ natLe 4 r.data.toNat, b)) (0, [], b)

/-- The words of a register endpoint written. -/
def Blk.moverWriteRegs (b : Blk) (a : Nat) (bs : List Byte) : Nat × Blk :=
  (List.range (ceilDiv bs.length 4)).foldl (fun (st : Nat × Blk) i =>
    if st.1 != 0 then st
    else
      let at_ := a + 4 * i
      let (r, b) := st.2.accessWrite .mover ((at_ / 4096) % 256) (at_ % 4096) (at_ % 4 == 0) (BitVec.ofNat 32 (leAt bs (4 * i) 4))
      (r.cause, b)) (0, b)

/-- The bytes of a chunk from its source (spec/10 R227 Table 2, R229); `flashErrs` are the flash bytes that cannot be read. -/
def Blk.moverRead (b : Blk) (c : Nat) (d : MDesc) (k : MChunk) (flashErrs : List Nat) : MStep × List Byte × Blk :=
  if d.isFill then (.go, (List.replicate (ceilDiv k.n 4) d.fill).flatten.take k.n, b)
  else
    let a := k.addr d.src d.srcStride
    if d.srcKind == mkSpm then
      let (cause, bs, b) := b.spmRead (bitsAt d.src 48 4) (a % 2 ^ 22) k.n 9
      (if cause == 0 then .go else .fail mcPoison, bs, b)
    else if d.srcKind == mkBulk then
      let (cause, bs, b) := b.bulkRead (moverCls c) a k.n
      (if cause == 0 then .go else if cause == bkWait then .wait none else .fail (moverCauseOfBulk cause), bs, b)
    else if d.srcKind == mkFlash then
      if !b.flashOk a k.n false then (.fail mcFlashProtect, [], b)
      else if flashErrs.any (fun e => a ≤ e && e < a + k.n) then (.fail mcFlashErr, [], b)
      else (.go, b.flashGet a k.n, b)
    else
      let (cause, bs, b) := b.moverReadRegs a k.n
      (if cause == 0 then .go else .fail cause, bs, b)

/-- The bytes of a chunk to its destination; fabric writes are gathered (spec/10 R229, R230). -/
def Blk.moverWrite (b : Blk) (c : Nat) (d : MDesc) (k : MChunk) (bs : List Byte) : MStep × Blk :=
  let a := k.addr d.dst d.dstStride
  if d.dstKind == mkSpm then
    let (cause, b) := b.spmWrite (bitsAt d.dst 48 4) (a % 2 ^ 22) bs 9
    (if cause == 0 then .go else .fail mcPoison, b)
  else if d.dstKind == mkBulk then
    let (cause, b) := b.bulkWrite (moverCls c) a bs
    (if cause == 0 then .go else if cause == bkWait then .wait none else .fail (moverCauseOfBulk cause), b)
  else if d.dstKind == mkFlash then
    if b.flashOk a k.n true then (.go, b.flashPut a bs) else (.fail mcFlashProtect, b)
  else if d.dstKind == mkReg then
    let (cause, b) := b.moverWriteRegs a bs
    (if cause == 0 then .go else .fail cause, b)
  else
    let x := b.moverCh c
    (.go, b.setMover c { x with writes := x.writes ++ [(a % 2 ^ 64, bs)] })

/-- The channel's position after a chunk; a channel that its own register write has stopped has none. -/
def Blk.moverMove (b : Blk) (c n : Nat) : Blk :=
  let b := b.addWide MOVER.MOVED_LO MOVER.MOVED_HI n
  let x := b.moverCh c
  if x.desc.isEmpty then b else b.setMover c { x with pos := x.pos + n }

/-- One chunk moved: the source's tags, the destination's, then the data (spec/10 R231). -/
def Blk.moverChunk (b : Blk) (c : Nat) (d : MDesc) (flashErrs : List Nat) : MStep × Blk :=
  let k := d.chunkAt (b.moverCh c).pos
  match if d.isFill then (.go, b) else b.moverSide c d.srcKind d.src (k.addr d.src d.srcStride) k.n (bitAt d.srcTag 0) true with
  | (.go, b) =>
    match b.moverSide c d.dstKind d.dst (k.addr d.dst d.dstStride) k.n (bitAt d.dstTag 0) false with
    | (.go, b) =>
      match b.moverRead c d k flashErrs with
      | (.go, bs, b) =>
        match b.moverWrite c d k bs with
        | (.go, b) => (.go, b.moverMove c k.n)
        | r => r
      | (r, _, b) => (r, b)
    | r => r
  | r => r

/-- Chunks moved until `limit` bytes of the descriptor or something stands against it; at most `fuel` of them. -/
def Blk.moverChunks : Nat → Blk → Nat → MDesc → Nat → List Nat → MStep × Blk
  | 0, b, _, _, _, _ => (.go, b)
  | fuel + 1, b, c, d, limit, errs =>
    let x := b.moverCh c
    if x.desc.isEmpty || d.total ≤ x.pos || limit < x.pos + (d.chunkAt x.pos).n then (.go, b)
    else match b.moverChunk c d errs with
      | (.go, b) => Blk.moverChunks fuel b c d limit errs
      | r => r

/-- What serving a channel once comes to. -/
inductive MServed where
  /-- it has more to move -/
  | more
  /-- it waits: for a tag, a page, or its queue pair -/
  | stuck
  /-- its descriptor has ended -/
  | ended
deriving DecidableEq, Repr

/-- The gathered writes of a FAB descriptor go to their queue pair, and its outcome is awaited (spec/10 R230). -/
def Blk.moverFab (b : Blk) (c : Nat) (d : MDesc) : MServed × Blk :=
  let x := b.moverCh c
  if !x.queued then
    if 256 ≤ d.qp || b.qstate d.qp != qsReady then (.ended, b.moverHalt c mcQp (some d))
    else
      let b := b.setQp d.qp { b.qp d.qp with queue := (b.qp d.qp).queue ++ [.mover c x.writes (bitAt d.flags 1) d.imm] }
      (.stuck, b.setMover c { x with queued := true })
  else match x.fabEnd with
    | none => (.stuck, b)
    | some (cause, _) => (.ended, if cause == 0 then b.moverDone c d else b.moverHalt c cause (some d))

/-- The channel waits at one slot, and nowhere else; a wait it is in already goes on being timed (spec/07 R158). -/
def Blk.moverWait (b : Blk) (c t s : Nat) (kind : WaitKind) : Blk :=
  let gone := fun (n : Nat) (w : Wait) => w.src == c && w.port == 9 && !(n == t && w.slot == s)
  let b := b.each (List.range 16) (fun b n => b.setTile n { b.tile n with waits := (b.tile n).waits.filter (fun w => !gone n w) })
  (b.setMstate c msWait).unitWait t c 9 9 s kind

/-- Descriptor HEAD fetched once and checked (spec/10 R224, R226, R228, R234). -/
def Blk.moverFetch (b : Blk) (c : Nat) : MServed × Blk :=
  if !(b.moverCh c).desc.isEmpty then (.more, b)
  else
    let (cause, bs, b) := b.bulkRead (moverCls c) (b.descAddr c) 64
    if cause == bkWait then (.stuck, b)
    else if cause != 0 then (.ended, b.moverHalt c (moverCauseOfBulk cause) none)
    else
      let d := mDesc bs
      let refusal := if mRefusal bs != 0 then mRefusal bs else if d.sheared then mcOverlap else 0
      if refusal != 0 then (.ended, b.moverHalt c refusal (some d))
      else (.more, b.setMover c { noMover with desc := bs })

/-- A descriptor whose rectangles coincide makes no data access; its tile must be in reach all the same (spec/10 R231, R233). -/
def Blk.moverStill (b : Blk) (c : Nat) (d : MDesc) : Blk :=
  match if d.dstKind == mkSpm then b.moverGate c (bitsAt d.dst 48 4) 0 0 false false else .go with
  | .fail e => b.moverHalt c e (some d)
  | _ => b.moverDone c d

/-- A channel served once: at most 4 KiB of one row (spec/10 R225), in the order of R232 and R233; then its end. -/
def Blk.moverServe (b : Blk) (c : Nat) (errs : List Nat) : MServed × Blk :=
  match b.moverFetch c with
  | (.more, b) =>
    let d := b.moverDesc c
    if d.still then (.ended, b.moverStill c d)
    else
      let pos := (b.moverCh c).pos
      match Blk.moverChunks 4096 b c d (pos + min 4096 (d.width - pos % d.width)) errs with
      | (.fail e, b) => (.ended, b.moverHalt c e (some d))
      | (.wait (some (t, s, kind)), b) => (.stuck, b.moverWait c t s kind)
      | (.wait none, b) => (.stuck, b.setMstate c msRun)
      | (.go, b) =>
        if (b.moverCh c).desc.isEmpty then (.ended, b)
        else
          let b := b.setMstate c msRun
          if (b.moverCh c).pos < d.total then (.more, b)
          else
            let b := b.endMoverWaits c
            if d.dstKind == mkFab then b.moverFab c d else (.ended, b.moverDone c d)
  | r => r

/-- The channel served next (spec/10 R225): of those with work that wait for nothing the highest PRIO, and of equal ones the
next in turn. -/
def Blk.moverPick (b : Blk) (stuck : List Nat) : Option Nat :=
  let ready := (List.range 8).filter (fun k => b.moverRuns k && !stuck.contains k)
  let prio := fun (k : Nat) => b.get (MOVER.RING_CFG_PRIO k)
  let top := ready.foldl (fun p k => max p (prio k)) 0
  let best := ready.filter (fun k => prio k == top)
  match best.find? (fun k => b.moverTurn < k) with
  | some k => some k
  | none => best.head?

/-- The channels served in their turns until descriptor HEAD of channel `c` has ended or waits; at most `fuel` turns. -/
def Blk.moverTurns : Nat → Blk → Nat → List Nat → List Nat → Blk
  | 0, b, _, _, _ => b
  | fuel + 1, b, c, stuck, errs =>
    match b.moverPick stuck with
    | none => b
    | some k =>
      let (r, b) := { b with moverTurn := k }.moverServe k errs
      if !b.active Page.MOVER then b
      else if r != .more && k == c then b
      else Blk.moverTurns fuel b c (if r == .stuck then k :: stuck else stuck) errs

/-- Turns that any rings of descriptors need, and more. -/
def moverFuel : Nat := 2 ^ 48

/-- MOVER_DESC_DONE (spec/10 R224 to R234): the mover runs until descriptor HEAD of a running channel completes, halts its
channel, or waits and goes on at the next command; channels that are served before it run on the way. `flashErrs` are the bytes of
flash that cannot be read. -/
def Blk.moverDescDone (b : Blk) (c : Nat) (flashErrs : List Nat) : Blk :=
  if 8 ≤ c || !b.active Page.MOVER || !b.moverRuns c then b else Blk.moverTurns moverFuel b c [] flashErrs

/-! ### The stall watchdog (spec/07 R158 to R160, Table 4) -/

/-- A wait of a group's own or neighbour port expires: the requesting tile halts. -/
def Blk.portTimeout (b : Blk) (w : Wait) : Blk := (b.emit (.spm w.src w.port tcTimeout [])).haltGroup w.src tcTimeout

/-- A compare-and-count descriptor's wait expires: it ends with CC_ERR code 3, TAG_TIMEOUT (spec/07 R171). -/
def Blk.ccTimeout (b : Blk) (t : Nat) : Blk :=
  match (b.tile t).cc with
  | [] => b
  | j :: _ =>
    let (v, b) := b.free (8 * ccResultBytes j.desc)
    let b := b.spmPut t (ccResult j.desc) (natLe (ccResultBytes j.desc) v)
    (b.ccPop t).ccError t 3 j.byGroup

/-- A mover channel's wait expires: its descriptor ends with TAG_TIMEOUT (spec/10 R231). -/
def Blk.moverTimeout (b : Blk) (c : Nat) : Blk := b.moverHalt c mcTimeout (some (b.moverDesc c))

/-- What an expired wait's requester does (spec/07 Table 4). -/
def Blk.waitTimeout (b : Blk) (t : Nat) (w : Wait) : Blk :=
  if w.port ≤ 3 then b.portTimeout w
  else if w.port == 9 then b.moverTimeout w.src
  else if w.port == 11 then b.ccTimeout t
  else b.fabricWaitEnds t w fcTagTimeout

/-- TAG_TIMEOUT: a wait of the requester at a tile expires, and with it all that expire then; the tile captures each, in ascending
requester code, before any requester acts on it (spec/07 R159, R160). Nothing happens while older waits are the next to expire. -/
def Blk.tagTimeout (b : Blk) (t req : Nat) : Blk :=
  let late := b.expiredWaits t
  if !(t < 16 && b.powered (tilePage t) && late.any (fun w => w.req == req)) then b
  else
    let b := b.each late (fun b w => (b.dropWait t w).captureTimeout t w.req w.slot w.kind.isWrite)
    b.each late (fun b w => b.waitTimeout t w)

end Sys2Proof.Machine
end

