-- ==== Sys2Proof/Machine/Load.lean ====
section
/-! DEFINITION. Machine/Load.lean: what Erg loads for a plan (spec/13 R306, R334, spec/07 R168): register settings and the slices of
its layers, from their compressed masters in bulk memory. -/

namespace Sys2Proof.Machine

/-- The bulk accesses of Erg's loads (spec/10 Table 8: class MOVER). -/
def loadEng : Nat := moverCls 0

/-- Bytes of a tile are written from bulk memory, as a mover descriptor does (spec/13 R334); a page that does not answer, or a tile
that is off or mapped out, leaves them as they are. -/
def Blk.loadBytes (b : Blk) (t addr src n : Nat) : Blk :=
  if !b.powered (tilePage t) || b.tstate t == tsMappedOut then b
  else
    let (c, bs, b) := b.bulkRead loadEng src n
    if c != 0 then b else (b.spmWrite t addr bs 9).2

def Blk.loadSlice (b : Blk) (s : PlanSlice) : Blk := b.loadBytes (s.tile % 16) s.addr s.master s.bytes

/-- Erg writes the settings of a variant in their order. -/
def Blk.loadSettings (b : Blk) (x : PlanNode) : Blk := x.loads.foldl (fun b w => (b.accessWrite (.erg 0) w.1 w.2.1 true w.2.2).2) b

/-- What a variant of the plan held needs beyond what FULL has loaded (notes/assumptions/101). -/
def Blk.loadVariant (b : Blk) (kind arg : Nat) : Blk :=
  match b.fleet.plan with
  | none => b
  | some p =>
    match planNode p kind arg b.self with
    | none => b
    | some x =>
      let there := match planNode p 0 0 b.self with | some y => if kind == 0 then [] else y.slices | none => []
      (x.slices.filter (fun s => !there.contains s)).foldl Blk.loadSlice (b.loadSettings x)

/-- PLAN_OFFER with the loads of a plan that is installed (spec/13 R306, R327). -/
def Blk.planTaken (b : Blk) (p : Plan) : List Byte × Blk :=
  let had := b.fleet.plan
  let (report, b) := b.planOffer p
  (report, if b.fleet.plan == some p && had != some p then b.loadVariant 0 0 else b)

/-- TILE_CONDEMN with the loads of TILE_OUT (spec/13 R334). -/
def Blk.tileCondemned (b : Blk) (t lead : Nat) : Blk :=
  let had := b.fleet.switch
  let b := b.tileCondemn t lead
  match b.fleet.switch with
  | some (_, 1, u) => if u == t && had != b.fleet.switch then b.loadVariant 1 t else b
  | _ => b

/-- Tiles that have powered up take their slices again from the bulk master (spec/16 Table 5, notes/assumptions/101). -/
def Blk.reloadTiles (b : Blk) (domBefore : Nat) : Blk :=
  let up : Nat → Bool := fun t => match domainOf (tilePage t) with | some d => b.domainOn d && !bitAt domBefore d | none => false
  if !b.ergRuns then b
  else match b.planHere with
    | none => b
    | some x => (x.slices.filter (fun s => up (s.tile % 16))).foldl Blk.loadSlice b

/-! ### Poisoned weight lines (spec/07 R168) -/

/-- Where a line of a tile has its master: the slice of the variant in force that holds it whole. -/
def masterOf (x : PlanNode) (t line : Nat) : Option Nat :=
  (x.slices.find? (fun s => s.tile == t && s.addr ≤ 32 * line && 32 * line + 32 ≤ s.addr + s.bytes)).map
    (fun s => s.master + (32 * line - s.addr))

/-- Erg reloads the poisoned weight lines whose master it has, at the end of a line period's start (spec/07 R168,
notes/assumptions/101). -/
def Blk.reloadWeights (b : Blk) : Blk :=
  if !b.ergRuns then b
  else match b.planHere with
    | none => b
    | some x =>
      b.each (b.spm.poison.map (fun e => e.1)) (fun b k =>
        let t := k / 0x20000
        let line := k % 0x20000
        match (if b.attr t (line / 2048) == 1 then masterOf x t line else none) with
        | some src => b.loadBytes t (32 * line) src 32
        | none => b)

end Sys2Proof.Machine
end

