-- ==== Sys2Proof/Machine/Requests.lean ====
section
/-! DEFINITION. Machine/Requests.lean: what a REQUEST does when Erg executes it (spec/15 R390, Tables 9 and 10), the client
messages in MAINTENANCE and STANDBY (spec/15 R379, spec/16 R404, R412), and received Ethernet frames (spec/15 R367). -/

namespace Sys2Proof.Machine

/-! ### Execution of accepted work (spec/15 R390) -/

def csOk : Nat := 0
def csFailed : Nat := 1
def csNodeLost : Nat := 2
def csDenied : Nat := 3

/-- The entry a request command names: of the node's own ring, or of the fostered ward's (spec/15 R396). -/
def Blk.reqEntry (b : Blk) (ward : Bool) (e : Nat) : JEntry := if ward then b.ward e else b.jent e

/-- The entry is accepted, of this kind, and not yet done. -/
def Blk.reqReady (b : Blk) (ward : Bool) (e kind : Nat) : Bool :=
  let x := b.reqEntry ward e
  b.journalOn && b.ergRuns && x.state == jAccepted && x.stage == 0 && !x.asked && x.kind == kind

/-- Erg builds the completion item in its slot and asks for the commit; a fostered entry commits at its foster context. -/
def Blk.reqFinish (b : Blk) (ward : Bool) (e status : Nat) (body : List Byte) : Blk :=
  if ward then b.commitWard e status body
  else (b.bulkPost 1 (b.jBase + jItemOff e) (b.completionItem (b.jent e) status body)).commitEntry e

/-- Execution of a kind other than QUERY: NODE_LOST for a fostered entry, DENIED where the permission is withdrawn, else what the
kind does, with the completion's status and body (spec/15 Tables 9 and 10). -/
def Node.reqRun (n : Node) (ward : Bool) (e kind : Nat) (f : Node → JEntry → Nat × List Byte × Node) : Node :=
  let x := n.b.reqEntry ward e
  if !n.b.reqReady ward e kind then n
  else if ward then n.on (fun b => b.reqFinish true e csNodeLost [])
  else if requestNeeds x.body &&& n.b.permOf x.client != requestNeeds x.body then n.on (fun b => b.reqFinish false e csDenied [])
  else
    let (status, body, n) := f n x
    n.on (fun b => b.reqFinish false e status body)

/-! #### QUERY (notes/assumptions/63) -/

/-- Journal area an entry's bytes stand in. -/
def Blk.reqArea (b : Blk) (ward : Bool) : Nat := if ward then b.wardBase else b.jBase

/-- Where Erg has the result block of an entry's query written: in its completion slot, from its second 64 bytes on. -/
def Blk.reqResultAt (b : Blk) (ward : Bool) (e : Nat) : Nat := b.reqArea ward + jItemOff e + 64

/-- The entry's query as a descriptor (spec/14 R353 Table 3). -/
def Blk.reqDescriptor (b : Blk) (ward : Bool) (e : Nat) : List Byte :=
  let x := b.reqEntry ward e
  natLe 4 x.reqSeq ++ natLe 4 0 ++ natLe 2 (leAt x.body 4 2) ++ natLe 2 (leAt x.body 6 2) ++ natLe 1 (leAt x.body 8 1) ++
  natLe 1 (hMetric (b.slotHdr (b.get SEARCH.ACTIVE_SLOT))) ++ natLe 2 (leAt x.body 10 2) ++ natLe 8 (b.reqArea ward + jBodyOff e + 12) ++
  natLe 8 (b.reqResultAt ward e) ++ natLe 32 0

/-- Key of an entry in the list of posted queries. -/
def reqKey (ward : Bool) (e : Nat) : Nat := if ward then 4096 + e else e

/-- The entry's query is posted, once. -/
def Blk.reqPost (b : Blk) (ward : Bool) (e : Nat) : Blk :=
  let k := reqKey ward e
  if b.journal.queries.any (fun q => q.1 == k) || !b.searchOn then b
  else
    let at_ := b.reqResultAt ward e
    { b with journal := { b.journal with queries := b.journal.queries ++ [(k, at_)] } }.postQuery (b.reqDescriptor ward e)

/-- The entry's query has ended: its result block is the completion's body. -/
def Blk.reqResult (b : Blk) (ward : Bool) (e : Nat) : Blk :=
  let k := reqKey ward e
  match b.journal.queries.find? (fun q => q.1 == k) with
  | none => b
  | some (_, at_) =>
    if b.search.own.any (fun o => o.result == at_) then b
    else
      let (c, h, b) := b.bulkRead 1 at_ 64
      let (c, block, b) := if c == 0 then b.bulkRead 1 at_ (64 + 16 * min 1024 (leAt h 6 2)) else (c, [], b)
      if c != 0 then b
      else
        let b := { b with journal := { b.journal with queries := b.journal.queries.filter (fun q => q.1 != k) } }
        b.reqFinish ward e (if leAt block 4 1 ≤ 1 then csOk else csFailed) block

/-- REQ_QUERY (spec/15 R390, R396): the query is posted on the search path; once its result block is written, it is committed. -/
def Blk.reqQuery (b : Blk) (ward : Bool) (e : Nat) : Blk :=
  let x := b.reqEntry ward e
  if !b.reqReady ward e 1 then b
  else if !ward && requestNeeds x.body &&& b.permOf x.client != requestNeeds x.body then b.reqFinish false e csDenied []
  else (b.reqPost ward e).reqResult ward e

/-! #### The other kinds -/

/-- Configuration word `i` of client `k` set. -/
def Blk.setClWord (b : Blk) (k i v : Nat) : Blk :=
  (b.setWord ((CLIENT.CFG_EN k).key + 4 * i) (BitVec.ofNat 32 v)).markChanged Page.CLIENT

/-- REQ_SUBSCRIBE (spec/15 R377). -/
def Node.reqSubscribe (n : Node) (ward : Bool) (e : Nat) : Node :=
  n.reqRun ward e 2 fun n x =>
    let k := x.client
    (csOk, [], n.on fun b =>
      ((b.setClWord k 5 (leAt x.body 4 1)).setClWord k 6 (leAt x.body 8 4)).setClWord k 7 (leAt x.body 12 4))

/-- Page number of a host address: page n lies at 4000_0000h + n × 1000h; an address outside the register space lies in no page
(spec/03 R54). -/
def hostPage (a : Nat) : Nat := if 0x40000000 ≤ a && a < 0x40100000 then (a - 0x40000000) / 4096 else 256

/-- One register access of the host path (spec/03 R54, R78). -/
def Node.hostReg (n : Node) (p : List Byte) : Reply × Node :=
  let a := leAt p 8 4
  if leAt p 4 1 == 1 then n.accessWrite .hostPath (hostPage a) (a % 4096) true (BitVec.ofNat 32 (leAt p 12 4))
  else n.accessRead .hostPath (hostPage a) (a % 4096) true

/-- The completion body of a REG request. -/
def regBody (r : Reply) : List Byte := natLe 4 r.data.toNat ++ natLe 1 r.cause ++ natLe 3 0

/-- REQ_REG (spec/03 R78). -/
def Node.reqReg (n : Node) (ward : Bool) (e : Nat) : Node :=
  n.reqRun ward e 3 fun n x =>
    let (r, n) := n.hostReg x.body
    (if r.cause == 0 then csOk else csFailed, regBody r, n)

/-- Configuration words 0 to 9 that CONFIG_CLIENT sets (spec/15 R376, Table 10). -/
def clientWords (p : List Byte) : List Nat :=
  let byte := fun i => leAt p i 1
  [byte 5 + byte 6 % 8 * 2 + byte 16 * 2 ^ 7 + byte 17 * 2 ^ 8 + leAt p 18 2 * 2 ^ 16, leAt p 20 4, leAt p 24 4, leAt p 28 4, leAt p 32 4,
   byte 7, leAt p 8 4, leAt p 12 4, leAt p 36 4, leAt p 40 4 % 2 ^ 24]

/-- REQ_CONFIG_CLIENT (spec/15 R390): an OPEN context whose binding or PERM changes is told at its old address. -/
def Blk.configClient (b : Blk) (p : List Byte) : Blk :=
  let k := leAt p 4 1
  let set := fun (b : Blk) => b.each (List.range 10) (fun b i => b.setClWord k i (nth (clientWords p) i 0))
  let new := set b
  let same := b.clMac k == new.clMac k && b.binding k == new.binding k && b.permOf k == new.permOf k && b.clEnabled k == new.clEnabled k
  if b.clOpen k && !same then set (b.closeClient k 2) else new

def Node.reqConfig (n : Node) (ward : Bool) (e : Nat) : Node :=
  n.reqRun ward e 4 (fun n x => (csOk, [], n.on (fun b => b.configClient x.body)))

/-- REQ_PLAN_OFFER (spec/13 R327): the plan in the slot of module flash the request names. -/
def Node.reqPlanOffer (n : Node) (ward : Bool) (e : Nat) (p : Plan) : Node :=
  n.reqRun ward e 5 fun n _ =>
    let (report, b) := n.b.planTaken p
    (if leAt report 0 1 == 0 then csOk else csFailed, report, { n with b := b })

/-- REQ_PRIV (spec/18 R464): Erg forwards the action to Hamada; presence counts now. -/
def Node.reqPriv (n : Node) (ward : Bool) (e : Nat) (env : BurnEnv) (flashErr : Bool) : Node :=
  n.reqRun ward e 6 fun n x =>
    let d := natLe 8 x.reqSeq ++ natLe 1 (leAt x.body 4 1) ++ natLe 7 0 ++ x.body.drop 8
    let (a, n) := n.privPayload d env flashErr
    (if a.status == psOk then csOk else if a.status == psDenied then csDenied else csFailed, a.result, n)

/-- REQ_HEALTH_NOW (spec/15 R390). -/
def Node.reqHealth (n : Node) (ward : Bool) (e : Nat) : Node :=
  n.reqRun ward e 7 (fun n _ => (csOk, n.b.healthItem, n))

/-! ### Client messages -/

/-- ICP_OPEN in every mode: in STANDBY each OPEN gets NO_SERVICE with tally fault code 0 (spec/16 R404), and one for client 0 from
its binding is the wake source HOST (spec/16 Table 6). -/
def Blk.icpOpenMsg (b : Blk) (m : IcpMsg) : Blk :=
  if b.power.mode != 2 || b.inMaintenance then b.icpOpen m
  else if !b.icpTakes m then b
  else
    let b := b.icpTo m.mac m.src (m.client % 64) m.origin 0 0x85 0 (natLe 2 0 ++ natLe 1 (b.get LIFE.STATE) ++ natLe 1 0)
    b.when (b.ctxNamed m == some 0 && b.bound 0 m) (fun b => b.wakeSource 4)

/-- ICP_ACK with what waits on it: a wake record that every context has acknowledged is freed (spec/16 R424). -/
def Blk.icpAckMsg (b : Blk) (m : IcpMsg) : Blk := (b.icpAck m).wakeAcked

/-- ICP_CLOSE (spec/15 R375). -/
def Blk.icpCloseMsg (b : Blk) (m : IcpMsg) : Blk := (b.icpClose m).wakeAcked

/-- A client 0 REG read, served in MAINTENANCE (spec/15 R379, spec/03 R79; notes/assumptions/63). -/
def maintReg (k : Nat) (p : List Byte) : Bool := k == 0 && requestOk p && leAt p 0 1 == 3 && leAt p 4 1 == 0

/-- A read served in MAINTENANCE: its completion goes out as one RECORDS item, nothing is journalled. -/
def Node.maintServe (n : Node) (seq : Nat) (p : List Byte) : Node :=
  let (r, n) := n.hostReg p
  n.on fun b =>
    let x : JEntry := { noEntry with client := 0, kind := 3, reqSeq := seq, accept := b.now }
    let b := b.setCl 0 { b.cl 0 with lastReq := max (b.cl 0).lastReq seq }
    b.appendItem 0 (b.completionItem x (if r.cause == 0 then csOk else csFailed) (regBody r)) true false

/-- ICP_REQUEST (spec/15 R372, R379, R391): reassembled, then checked. -/
def Node.icpRequest (n : Node) (m : IcpMsg) : Node :=
  if !n.b.icpTakes m then n
  else match n.b.ctxNamed m with
    | none => n.on Blk.unbound
    | some k =>
      if !n.b.bound k m then n.on Blk.unbound
      else
        let (whole, b) := n.b.reassemble k m
        let n := { n with b := b }
        match whole with
        | none => n
        | some p => if n.b.inMaintenance && maintReg k p then n.maintServe m.seq p else n.on (fun b => b.request k m.seq p)

/-- A client's datagram as a message of one TYPE: malformed, or taken by `f` (spec/15 R370). -/
def Node.icpIn (n : Node) (m : IcpMsg) (f : Node → Node) : Node := if icpMalformed m then n.on Blk.rxBad else f n

/-- A message of a client by its TYPE (spec/15 Table 3); a device's TYPE asks nothing of a device. -/
def Node.icpMessage (n : Node) (type : Nat) (m : IcpMsg) : Node :=
  if type == 1 then n.on (fun b => b.icpOpenMsg m)
  else if type == 2 then n.on (fun b => b.icpCloseMsg m)
  else if type == 3 then n.on (fun b => b.icpAckMsg m)
  else if type == 4 then n.icpRequest m
  else if type == 5 then n.on (fun b => b.icpPing m)
  else n

/-- A datagram to the ICP port: malformed, it is counted in RX_BAD (spec/15 R370). -/
def Node.icpDatagramIn (n : Node) (mac : Nat) (src : HostAddr) (d : List Byte) : Node :=
  match icpParse mac src d with
  | some (type, m) => n.icpMessage type m
  | none => n.on Blk.rxBad

/-- ETH_FRAME_RECEIVE (spec/15 R367). -/
def Node.ethFrame (n : Node) (mac : Nat) (f : EthFrame) : Node :=
  if !n.b.macTakes mac then n
  else match f with
    | .udp target src d =>
      if n.b.macAddress mac target && target.port == n.b.get (HOST.UDP_PORT mac) then
        (n.on (fun b => b.bumpSat (HOST.RX_FRAMES mac))).icpDatagramIn mac src d
      else n.on (fun b => b.etherOther mac f)
    | _ => n.on (fun b => b.etherOther mac f)

end Sys2Proof.Machine
end

