-- ==== Sys2Proof/Machine/LinePeriod.lean ====
section
/-! DEFINITION. Machine/LinePeriod.lean: what the node does at the start of a line period, in the order of spec/02 R35, and the
shared operations the single events of that order have in common. -/

namespace Sys2Proof.Machine

/-! ### Step 2: frame modes and steps between power modes -/

/-- The frame mode of a power-mode step that did not begin at an L0, taken at the next L0 (spec/16 R409). -/
def Blk.modeAtL0 (b : Blk) : Blk :=
  match b.power.frameAtL0 with
  | some m => if b.curL == 0 then (b.pwrFrameMode m).setPower { b.power with frameAtL0 := none } else b
  | none => b

/-! ### Step 4: shadow copies -/

/-- SHL copies whose coordinate is reached come into force, on all pages at once (spec/03 R67), with what switches by them: the
schedule (spec/13 R321), the merge tree (spec/14 R359), the prepared variant (spec/13 R330). -/
def Blk.shlApply (b : Blk) : Blk :=
  let b := b.markHeldShl
  let keys := b.shlKeys
  let b := b.each keys Blk.applyKey
  let b := b.when (keys.contains SCHED.SCHED_CTRL_RUN.key) (fun b => (b.raise SCHED.IRQ_RAW_SWITCHED).noteSwitch)
  let b := b.when (keys.any isTreeKey) Blk.treeSwitched
  b.fleetSwitched

/-- The SHF copies that apply at L0, and what the sensor and the routes of idle contexts take there (spec/03 R66, spec/04 R86 to
R92, spec/05 R102); `temps` are the four sensors' temperatures. -/
def Blk.shfAtL0 (b : Blk) (temps : List Int) : Blk :=
  if b.curL != 0 then b
  else
    let newSet := b.winPending
    let b := ((b.applyShf none).sampleTemps temps).sensorL0 newSet
    (b.countHot).idleStarts

/-- The SHF copies of each own context whose frame starts in this line period (spec/02 R35 step 4, spec/04 R82). -/
def Blk.shfOwn (b : Blk) : Blk :=
  if b.readsNow && b.powered Page.CROUTE then
    b.each ((List.range 4).filter (fun c => b.ownStarts c)) (fun b c => b.applyShf (some c))
  else b

/-! ### Step 5: groups -/

/-- The epoch fault halts the SCHED groups at the next line period (spec/02 R46): RUN clears, what has not started never will,
and what runs is halted as by CANCEL (notes/assumptions/64). -/
def Blk.haltGroups (b : Blk) : Blk :=
  if !b.ep.haltPending then b
  else
    let b := { b with ep := { b.ep with haltPending := false } }
    if !b.powered Page.SCHED then b
    else
      let running := b.sched.insts.filter (fun i => i.state == .running)
      let b := b.conf SCHED.SCHED_CTRL_RUN 0
      let b := b.setInsts (b.sched.insts.filter (fun i => !i.unstarted))
      b.each (running.flatMap (fun i => tilesOf i.mask)) (fun b t => b.haltGroup t tcCancelled)

/-- At L0 the frame's entries have their instances; those whose START is reached open, start or are missed (spec/13 R318,
R319). -/
def Blk.schedLine (b : Blk) : Blk :=
  let b := b.haltGroups
  let b := b.when (b.curL == 0) Blk.makeInstances
  if b.enabled Page.SCHED then b.openInstances.startAll.missInstances else b

/-! ### Step 6: overrun checks (spec/13 R322) -/

/-- The check of one frame: each named view not closed is an overrun. -/
def Blk.overrunFrame (b : Blk) (f : BitVec 32) : Blk :=
  b.each b.dlViews (fun b v =>
    if b.viewClosed v f then b
    else
      let b := (((b.bumpSat SCHED.OVERRUNS).raise SCHED.IRQ_RAW_OVERRUN).captureOwnFree Page.SCHED 0x03).report 0x0E Page.SCHED
      b.when (b.powered Page.CLIENT) (fun b => b.closeLate v f))

/-- OVERRUN_CHECK: the frames whose check is due in this line period. -/
def Blk.overrunCheck (b : Blk) : Blk :=
  if !(b.enabled Page.SCHED && b.flag SCHED.DL_CTRL_EN) then b
  else
    let due := b.sched.frames.filter (fun (f : BitVec 32 × BitVec 48) =>
      b.linesSince f.2 == b.get SCHED.DL_CTRL_DL_OFFSET && phaseOk (b.flag SCHED.DL_CTRL_DIV2) (b.flag SCHED.DL_CTRL_PHASE) f.1)
    due.foldl (fun b f => b.overrunFrame f.1) b

/-! ### The whole line period -/

/-- The line generator's own counts: the slew, the LP accumulator, the ISP's positions, missed beats and edges, paused time. -/
def Blk.generatorLine (b : Blk) : Blk :=
  let b := b.advanceLine
  let b := { b with ep := { b.ep with phase := slewed b.ep.phase } }
  let b := b.when b.onLp (fun b => { b with ep := { b.ep with lpAcc := b.ep.lpAcc - 32768 } })
  let b := { b with isp := { b.isp with used := b.isp.used - 8000 } }
  b.countBeat.countEdge.countPaused

/-- LINE_PERIOD_START (spec/02 R35) at the block: `slot0` and `slot1` are what the pixel tier converts in this line period. -/
def Blk.lineStart (b : Blk) (slot0 slot1 : Option Conversion) (inputs : LineInputs) : Blk :=
  let b := (b.arriveOwn.struck inputs.upsets).countConflicts.generatorLine
  let b := b.modeAtL0.applyFrameMode.modeStep
  let b := b.routeSwitch
  let b := (b.shlApply.shfAtL0 inputs.temps).shfOwn.planModeCheck
  let b := b.schedLine
  let b := b.overrunCheck
  let b := (b.readLine slot0 slot1).countHeartbeats
  b.safetyL0.causesActive.giveUpJobs.postGaps.mirrorTable.reloadJournal.reloadWeights

/-- LINE_PERIOD_START: a warm reset that is due follows. On the LP source no line period passes until the accumulator holds
32,768 (spec/02 R48). -/
def Node.lineStart (n : Node) (slot0 slot1 : Option Conversion) (inputs : LineInputs) : Node :=
  if n.b.linePasses then (n.on (fun b => b.lineStart slot0 slot1 inputs)).resetIfDue else n

/-- MODE_DONE with what follows outside PWR (spec/16 Table 5): the boot, or the weights of the tiles that have come up. -/
def Node.modeArrived (n : Node) : Node := n.modeDone.on (fun b => b.reloadTiles n.b.domOn)

/-! ### Small whole commands over the blocks -/

/-- MAP_BLOCK_BUILD (spec/02 R51, spec/15 Table 3): the block as built goes to every open context. -/
def Blk.mapBlock (b : Blk) (t : PtpTime) : Blk :=
  if b.mapDue && b.active Page.EPOCH then
    let src := b.get EPOCH.MAP_CTRL_SRC
    (b.mapBuild (if b.powered (Page.HOST + src) then b.ptpClock src t else t)).when (b.active Page.CLIENT) Blk.mapSend
  else b

/-- QP_FLUSH_DONE with what Erg then does (spec/12 R297, spec/13 R326). -/
def Blk.flushEnd (b : Blk) (q : Nat) : Blk := (b.qpFlushDone q).syncResume q

end Sys2Proof.Machine
end

