-- ==== Sys2Proof/Machine/State.lean ====
section
/-! DEFINITION. Machine/State.lean: the state of the block: the node (registers and everything behind them, spec/01 to spec/20)
and the queue of waiting commands; why a step can stop; the state after reset. -/

namespace Sys2Proof.Machine

/-- The machine: the commands that wait, the first to come in front, and the node. -/
structure State where
  pending : List Instr
  node : Node
deriving DecidableEq, Repr

/-- Why a command stops. -/
inductive Fault where
  /-- raised by every meaning whose operands do not pass Instr.wf: the command names a port, tile, context, page, word or the like
  that the block does not have, or a value wider than its field. No sender can send such a command. Safe: nothing is said of what
  follows. -/
  | noSuchUnit
deriving DecidableEq, Repr

/-- Why a command has no meaning. -/
inductive Refusal where
  /-- a command not modelled yet; no arm of exec answers it. Safe: nothing is said of what follows. -/
  | notModelled (mnemonic : String)
deriving DecidableEq, Repr

/-- The OTP array of the unit the model starts with (notes/assumptions/4): the words LC_MAKER and LC_FIELD set, UNIT_ID 1,
MAKER_CFG (CFA variant 1, SENS_CLASS 1), FEATURE (FLEET_EN, CROP_EN, TIER 2), the canary; every other word blank (spec/19 R475). -/
def resetOtp : Otp :=
  [(0, otpEncode 1), (1, otpEncode 1), (5, otpEncode 1), (7, otpEncode 0x11), (8, otpEncode 0xB), (1020, otpEncode 0x5A5A0F0F),
   (1021, otpEncode 0xA5A5F0F0), (1022, otpEncode 0x3C3CC3C3), (1023, otpEncode 0xC3C33C3C)]

/-- The blocks right after power-on (spec/17 R436): OASIS powered by a cold reset, every other domain off, every register at its
reset value, frame mode 2 (spec/02 R30), memories with nothing listed. -/
def resetBlk : Blk where
  unit := ⟨0x0B, 1⟩
  regs := []
  shadow := []
  hold := []
  stage := []
  pages := []
  locked := []
  domOn := 1
  ep := noEpoch
  sen := senReset
  cam := ⟨[], List.replicate 32 noCam⟩
  isp := noIsp
  tiles := List.replicate 16 noTile
  spm := noSpm
  bulk := noBulk
  flash := []
  mover := List.replicate 8 noMover
  moverTurn := 0
  pack := noPack
  ports := List.replicate 4 noPort
  route := ⟨[], none, [], []⟩
  fab := noFab
  sched := noSched
  fleet := noFleet
  search := noSearch
  client := noClients
  journal := ⟨[], [], [], none, [], false⟩
  cans := List.replicate 2 noCan
  macs := List.replicate 2 noMac
  power := noPower
  oasis := noOasis
  tally := ⟨0, false, 0, 0⟩
  cores := noCores
  fuse := noFuse
  safe := noSafe
  reports := []
  sent := []
  fresh := 0

/-- The state after reset: an empty queue. -/
def State.reset : State := ⟨[], ⟨resetOtp, resetBlk⟩⟩

end Sys2Proof.Machine
end

