-- ==== Sys2Proof/WellFormed.lean ====
section
/-! DEFINITION. WellFormed.lean: the range every operand of a command lies in: ports, tiles, contexts and the like that the
block has, fields no wider than the spec gives them. A command outside these ranges is none the block can be sent. -/

namespace Sys2Proof

/-- The block has four Erg cores (spec/18 R445). -/
def agentOk (a : Agent) : Bool :=
  match a with
  | .erg c => c < 4
  | _ => true

/-- A page of the register space (spec/03 R54). -/
def pageOk (page : Nat) : Bool := page < 256

/-- An offset in a page (spec/03 R55). -/
def regOk (page off : Nat) : Bool := page < 256 && off < 4096

/-- A CSI-2 port and a virtual channel (spec/05 R103). -/
def csiOk (port vc : Nat) : Bool := port < 2 && vc < 16

/-- A packet of one type at a port, or (port 4) from the node's own endpoint (spec/12 R278). -/
def rmaOk (port : Nat) (p : Packet) (type : Nat) : Bool :=
  port ≤ 4 && p.type == type && p.dqp < 256 && p.psn < 2 ^ 24 && p.payload.length ≤ 512

/-- A MAC of the block, and the widths of the header fields of an ICP datagram (spec/15 R366, R370 Table 2). -/
def icpOk (m : IcpMsg) : Bool :=
  m.mac < 2 && m.client < 256 && m.origin < 256 && m.seq < 2 ^ 64 && m.fragIdx < 256 && m.fragCnt < 256 &&
    m.payload.length < 65536

/-- An OTP word (spec/19 R475). -/
def debugOk (r : DebugReq) : Bool :=
  match r with
  | .otpWord w => w < 1024
  | .other => true

/-- A stored bit that the block has (spec/07 R147, R157, R162, spec/10 R235, R236). -/
def upsetOk (u : Upset) : Bool :=
  match u with
  | .spmBit t line bit => t < 16 && line < 98304 && bit < 288
  | .tagCopy t slot copy => t < 16 && slot < 12288 && copy < 3
  | .bulkBit unit bit => unit < 125829120 && bit < 529

/-- Every operand lies in its range. -/
def Instr.wf (i : Instr) : Bool :=
  match i with
  | .linePeriodStart _ _ inputs => inputs.temps.length == 4 && inputs.upsets.all upsetOk
  | .frameModeApply => true
  | .shlApply => true
  | .thermalTrip => true
  | .beatSend => true
  | .beatReceive port _ _ => port < 4
  | .beatLossLimit => true
  | .backupTakeover => true
  | .holdoverLimitExpiry => true
  | .syncInEdge _ => true
  | .syncInLost => true
  | .syncOutPulseStart => true
  | .syncOutPulseEnd => true
  | .mapBlockBuild t => t.nsec < 1000000000
  | .mapNow a => agentOk a
  | .frameModeWrite a _ => agentOk a
  | .roleMasterWrite a _ => agentOk a
  | .syncinEnableWrite a => agentOk a
  | .wideLowRead a page off => agentOk a && regOk page off
  | .wideLowWrite a page off _ => agentOk a && regOk page off
  | .wideHighWrite a page off _ => agentOk a && regOk page off
  | .registerWrite a page off _ _ => agentOk a && regOk page off
  | .shadowWrite a page off _ => agentOk a && regOk page off
  | .shlCoordWrite a page off _ => agentOk a && regOk page off
  | .shadowHold a page => agentOk a && pageOk page
  | .shadowRelease a page => agentOk a && pageOk page
  | .shadowDiscard a page => agentOk a && pageOk page
  | .blockEnable a page _ => agentOk a && pageOk page
  | .blockFreeze a page _ => agentOk a && pageOk page
  | .freezeStop page => pageOk page
  | .softReset a page => agentOk a && pageOk page
  | .softResetDone page => pageOk page
  | .errCountClear a page => agentOk a && pageOk page
  | .irqClear a page _ _ => agentOk a && pageOk page
  | .irqEnableWrite a page _ => agentOk a && pageOk page
  | .irqForce a page _ => agentOk a && pageOk page
  | .errCaptureClear a page => agentOk a && pageOk page
  | .lockWrite a page _ => agentOk a && pageOk page
  | .crcScanVisit page => pageOk page
  | .sentinelSample levels => levels.length == 144 && levels.all (fun x => x < 256)
  | .patternHoldoffEnd p => p < 4
  | .patternRegWrite a p r _ => agentOk a && p < 4 && r < 3
  | .csiFrameStart port vc fn _ => csiOk port vc && fn < 65536
  | .csiFrameEnd port vc _ => csiOk port vc
  | .csiLongPacket port vc dt _ _ _ => csiOk port vc && dt < 64
  | .csiOtherPacket port vc kind _ => csiOk port vc && kind < 7
  | .csiSotError port => port < 2
  | .lineTimeout j => j < 32
  | .frameTimeout j => j < 32
  | .padLine j => j < 32
  | .ispLineProcess _ => true
  | .ispHoldRelease c => c < 36
  | .ispHoldTimeout c => c < 36
  | .ispFrameEnd c => c < 36
  | .descLost c => c < 36
  | .tableDataAccess a _ error => agentOk a && error < 3
  | .spmAccess x => x.tile < 16 && x.req < 4
  | .tagOnlyOp t slot _ upsets => t < 16 && slot < 0x4000 && upsets.all upsetOk
  | .tagWaitRelease t slot => t < 16 && slot < 0x4000
  | .tagTimeout t req => t < 16 && req < 16
  | .attrWrite a t g v => agentOk a && t < 16 && g < 48 && v < 4
  | .granuleInitDone t g => t < 16 && g < 48
  | .scrubStep upsets => upsets.all upsetOk
  | .ccGo a t byGroup desc => agentOk a && t < 16 && (!byGroup || desc.length == 32)
  | .ccDone t => t < 16
  | .groupStart => true
  | .groupEnd t => t < 16
  | .tileCancel a t => agentOk a && t < 16
  | .tileRelease a t => agentOk a && t < 16
  | .tileMapOut a t => agentOk a && t < 16
  | .tileMapIn a t => agentOk a && t < 16
  | .tileSelfCheck a t => agentOk a && t < 16
  | .selfCheckDone t _ => t < 16
  | .dbgDataAccess a _ _ => agentOk a
  | .dbgTagWrite a _ => agentOk a
  | .operatorIssue t _ => t < 16
  | .outputRowDone t _ => t < 16
  | .vectorOp v => v.tile < 16
  | .packGo a => agentOk a
  | .packDone => true
  | .expandGo a t => agentOk a && t < 16
  | .expandDone => true
  | .moverTailWrite a c tail => agentOk a && c < 8 && tail < 4096
  | .moverDescDone c errs => c < 8 && errs.all (fun e => e < 2 ^ 35)
  | .moverResume a c => agentOk a && c < 8
  | .moverSkip a c => agentOk a && c < 8
  | .moverAbort a c => agentOk a && c < 8
  | .bulkAccess x => 1 ≤ x.cls && x.cls ≤ 5
  | .reloadComplete _ => true
  | .reloadHoldTimeout => true
  | .bulkScrubStep upsets => upsets.all upsetOk
  | .retireLoad a => agentOk a
  | .retireForced a => agentOk a
  | .shareWrite a _ => agentOk a
  | .linkSignalDetect port => port < 4
  | .linkAdapted port => port < 4
  | .linkAligned port => port < 4
  | .identSend port => port < 4
  | .identReceive port xver _ => port < 4 && xver < 16
  | .linkMeasureDone port _ => port < 4
  | .trainTimeout port => port < 4
  | .trainBackoffEnd port => port < 4
  | .portOpen a port => agentOk a && port < 4
  | .portRetrain a port => agentOk a && port < 4
  | .linkDown port _ _ _ => port < 4
  | .xanarPacketReceive x => x.port < 4
  | .pauseLong port c => port < 4 && c < 4
  | .nodeIdWrite a v => agentOk a && v < 256
  | .rtDataAccess a _ _ => agentOk a
  | .routeArm a epoch _ => agentOk a && epoch < 65536
  | .routeGo a epoch => agentOk a && epoch < 65536
  | .routeEpochReceive port d => port < 4 && d.src < 256 && d.hops < 256
  | .routeSwitch => true
  | .tapEnable a port ctx => agentOk a && port < 4 && ctx < 64
  | .windowEnable a => agentOk a
  | .windowDisable a => agentOk a
  | .qpResetReq a => agentOk a
  | .qpInitReq a => agentOk a
  | .qpReadyReq a => agentOk a
  | .qpForceError a => agentOk a
  | .qpFlushDone q => q < 256
  | .qpDoorbell a q tail => agentOk a && q < 256 && tail < 4096
  | .qpSendPacket q => q < 256
  | .rmaWriteReceive port p => rmaOk port p 0
  | .rmaWriteImmReceive port p => rmaOk port p 1
  | .rmaReadReqReceive port p => rmaOk port p 2
  | .rmaReadRespReceive port p => rmaOk port p 3
  | .rmaAckReceive p => rmaOk 4 p 4
  | .rmaNakReceive p => rmaOk 4 p 5
  | .placementDone q psn => q < 256 && psn < 2 ^ 24
  | .ackSend q => q < 256
  | .retryTimeout q => q < 256
  | .remoteHoldTimeout q psn => q < 256 && psn < 2 ^ 24
  | .cqOverflowClear a c => agentOk a && c < 4
  | .wadiBump a e inc => agentOk a && e < 512 && inc < 65536
  | .wadiArm a => agentOk a
  | .wadiPendingPost => true
  | .instanceOpen => true
  | .instanceMissed => true
  | .jobTimeout => true
  | .overrunCheck => true
  | .heartbeatDue => true
  | .heartbeatLost => true
  | .aliveWrite a => agentOk a
  | .schedKick a e f => agentOk a && e < 1024 && f < 65536
  | .entDataWrite a w _ => agentOk a && w < 4
  | .joinSend a _ => agentOk a
  | .joinReceive port _ => port < 4
  | .helloSend => true
  | .helloReceive port _ => port < 4
  | .helloTimeout port => port < 4
  | .coordinatorDecide _ => true
  | .startReceive port _ => port < 4
  | .lossDetect port => port < 4
  | .lossReceive port _ => port < 4
  | .lossRouteGo => true
  | .qpSyncReceive _ => true
  | .qpSyncResend q => q < 256
  | .tileCondemn t _ => t < 16
  | .shardLoad a slot => agentOk a && slot < 2
  | .shardLoadDone slot => slot < 2
  | .shardUnload a slot => agentOk a && slot < 2
  | .queryPost a tail => agentOk a && tail < 64
  | .treeQueryReceive cell len => cell < 96 && len ≤ 18432
  | .treeResultReceive cell len => cell < 96 && len ≤ 18432
  | .treeFinalReceive cell len => cell < 96 && len ≤ 18432
  | .shardScanDone _ _ => true
  | .queryTimeout => true
  | .queryAbandon => true
  | .listReread => true
  | .prefetchAgeExpiry => true
  | .icpOpen m => icpOk m
  | .icpClose m => icpOk m
  | .icpAck m => icpOk m
  | .icpRequest m => icpOk m
  | .icpPing m => icpOk m
  | .fragTimeout k => k < 128
  | .resendTimeout k => k < 128
  | .journalMirrorDone e => e < 4096
  | .journalFlashDone e _ => e < 4096
  | .mirrorTimeout e => e < 4096
  | .journalModeWrite a => agentOk a
  | .journalCommit a e => agentOk a && e < 4096
  | .journalRecovery recs ctxs => recs.all (fun r => r.index < 4096 && r.client < 64) && ctxs.all (fun c => c.client < 64 && c.words.length == 10)
  | .fosterStart ctxs => ctxs.all (fun c => c.client < 64 && c.words.length == 10)
  | .fosterEnd _ => true
  | .wardDamaged page => page < 0x1E0000
  | .reqQuery _ e => e < 4096
  | .reqSubscribe _ e => e < 4096
  | .reqReg _ e => e < 4096
  | .reqConfigClient _ e => e < 4096
  | .reqPlanOffer _ e _ => e < 4096
  | .reqPriv _ e _ _ => e < 4096
  | .reqHealthNow _ e => e < 4096
  | .itemPost a tail => agentOk a && tail < 1024
  | .emptyFrameClose v => v < 36
  | .healthPeriodic => true
  | .safeHealthRepeat => true
  | .maintHealthRepeat => true
  | .wakeEventAppend => true
  | .canHeartbeatDue c => c < 2
  | .hbArm a c => agentOk a && c < 2
  | .canRxFrame c _ => c < 2
  | .canBusOffRecovery c => c < 2
  | .ethFrameReceive m _ => m < 2
  | .ptpTx a m _ t => agentOk a && m < 2 && t.nsec < 1000000000
  | .ptpStep a m _ => agentOk a && m < 2
  | .modeRequest a target fmode => agentOk a && target < 8 && fmode < 4
  | .modeStep => true
  | .modeDone => true
  | .wakeStart => true
  | .oasisTick _ _ _ _ _ => true
  | .vinRideExpiry => true
  | .powerFailShutdown => true
  | .supplyGood => true
  | .powerOn => true
  | .railUndervoltage d => d < 8
  | .rtcWrite a _ => agentOk a
  | .rtcAlarm => true
  | .presDebounceChange => true
  | .presenceOpen => true
  | .presenceClose => true
  | .presStuck => true
  | .storeWeak => true
  | .coldReset => true
  | .warmReset _ => true
  | .pwrResetWarm a => agentOk a
  | .pwrResetCold a => agentOk a
  | .tallyGo a => agentOk a
  | .tallyIntervalElapsed => true
  | .tallyUpdateStart _ => true
  | .tallyEraseBarDone => true
  | .tallyContentDone => true
  | .tallyDrawBarDone => true
  | .ergStart => true
  | .ergReadyTimeout => true
  | .ergConfirmTimeout => true
  | .ergStable => true
  | .ergWatchdogExpiry => true
  | .ergKick a => agentOk a
  | .mbReady => true
  | .mbConfirm _ => true
  | .mbActivate _ => true
  | .mbReset => true
  | .mbTally => true
  | .mbFuseRead => true
  | .mbPriv _ _ => true
  | .mbOwnerBind _ => true
  | .ipi a cores => agentOk a && cores < 16
  | .xcapClear a => agentOk a
  | .lockstepError => true
  | .kernelInvoke core r => core < 4 && r.length == 128
  | .kernelExit core _ _ => core < 4
  | .kernelEmit core _ _ _ => core < 4
  | .kernelQuery core _ _ => core < 4
  | .kernelNow core => core < 4
  | .kernelLog core _ bytes => core < 4 && bytes.length ≤ 16
  | .kernelFault core => core < 4
  | .kernelBudget core => core < 4
  | .fuseProgGo a => agentOk a
  | .fuseAttemptDone _ => true
  | .fuseLockWrite a which => agentOk a && which < 4
  | .privLcAdvance target _ => target < 256
  | .privFuseBurn field slot value _ => field < 256 && slot < 256 && value.length ≤ 48
  | .privKeyRevoke kind index _ => kind < 256 && index < 256
  | .privArbCommit kind target _ => kind < 256 && target < 256
  | .privFuseTrial slot _ hash => slot < 256 && hash.length == 48
  | .privPatchInstall off len _ => off < 2 ^ 32 && len < 2 ^ 32
  | .privFactoryReset => true
  | .returnReq auth _ => auth.length == 256
  | .jtagBypass _ => true
  | .jtagSamplePreload _ _ => true
  | .jtagExtest _ _ => true
  | .jtagIdcode => true
  | .debugAccess r => debugOk r
  | .safeCauseActive => true
  | .safetyWarmReset => true
  | .clockWindow counts => counts.length == 5
  | .clockStall => true
  | .ethLinkChange m _ speed => m < 2 && speed < 4
  | .oasisPowerLoss => true
  | .pageMigrationDone page => page < 0x1E0000
  | .pauseBitChange port c _ => port < 4 && c < 4
  | .canFrameTxDone c _ => c < 2

end Sys2Proof
end

