-- ==== Sys2Proof/Machine/Act.lean ====
section
/-! DEFINITION. Machine/Act.lean: the form every meaning has, and the register accesses that several commands share. -/

namespace Sys2Proof.Machine

/-- A command acts on the node; one whose operands the block does not have stops. -/
def State.act (s : State) (i : Instr) (f : Node → Node) : Host.Outcome State Fault Refusal :=
  if i.wf then .next { s with node := f s.node } else .fault .noSuchUnit

/-- The RW bits of a register as they stand: what a read-modify-write of one field leaves of the others. -/
def Blk.rwWord (b : Blk) (page off : Nat) : Nat :=
  match regRow page off with
  | some r => (b.word (b.reachKey page off) &&& BitVec.ofNat 32 r.rw).toNat
  | none => 0

/-- A register write that sets one field and leaves the others as they stand. -/
def Node.writeBits (n : Node) (a : Agent) (page off lo w v : Nat) : Node :=
  n.writeReg a page off true (BitVec.ofNat 32 (putBits (n.b.rwWord page off) lo w v))

/-- TABLE_DATA_ACCESS (spec/06 R125): a read that is let through meets the table error of its word first. -/
def Node.tableData (n : Node) (a : Agent) (write : Option Word) (error : Nat) : Node :=
  match write with
  | some v => n.writeReg a Page.ISP 0x048 true v
  | none =>
    let n := if n.b.accessCause a Page.ISP 0x048 true false 0 == 0 then n.on (fun b => b.tableMeets error) else n
    n.readReg a Page.ISP 0x048 true

/-- A read or a write of a data window. -/
def Node.dataAccess (n : Node) (a : Agent) (page off : Nat) (write : Bool) (v : Word) : Node :=
  if write then n.writeReg a page off true v else n.readReg a page off true


/-- CC_GO (spec/07 R169): a descriptor posted by the group that runs on the tile, or the one in the tile's registers. -/
def Node.ccGo (n : Node) (a : Agent) (t : Nat) (byGroup : Bool) (desc : List Byte) : Node :=
  if byGroup then n.on (fun b => b.when (b.powered (tilePage t) && b.tstate t == tsRun) (fun b => b.ccPost t desc true))
  else n.writeReg a (tilePage t) 0x0A0 true 1

/-- TAP_ENABLE (spec/11 R274): PORT_CTRL with TAP set, its context, and OPEN as it stands. -/
def Node.tapEnable (n : Node) (a : Agent) (port ctx : Nat) : Node :=
  let w := putBits (putBits (n.b.rwWord (portPage port) 0x040) 2 1 1) 8 6 ctx
  n.writeReg a (portPage port) 0x040 true (BitVec.ofNat 32 w)

/-- The port a packet came by; 4 stands for the node's own endpoint. -/
def rmaPort (port : Nat) : Option Nat := if port < 4 then some port else none

/-- INSTANCE_OPEN (spec/13 R318): instances whose START is reached open and start; a frozen SCHED issues no start. -/
def Blk.openDue (b : Blk) : Blk := if b.enabled Page.SCHED then b.openInstances.startAll else b

/-- INSTANCE_MISSED (spec/13 R319); FREEZE leaves the LATEST checks running. -/
def Blk.missDue (b : Blk) : Blk := if b.enabled Page.SCHED then b.missInstances else b

/-- JOB_TIMEOUT (spec/12 R299, spec/13 R320): Erg puts the job's queue pairs that are still READY into ERROR. -/
def Blk.jobTimeoutsDue (b : Blk) : Blk :=
  if !b.powered Page.SCHED then b
  else
    let qs := (b.sched.insts.filter b.jobExpired).flatMap (fun i => i.qps)
    b.jobTimeouts.each qs (fun b q => if b.qstate q == qsReady then b.qpRequest q (.erg 0) qsError else b)

end Sys2Proof.Machine
end

