-- ==== Sys2Proof/Machine/CmdCamera.lean ====
section
/-! DEFINITION. Machine/CmdCamera.lean: the meanings of the commands of camera inputs and the image pipeline (spec/05, spec/06). -/

namespace Sys2Proof.Machine

/-- CSI_FRAME_START (spec/05 R112). -/
def execCsiFrameStart (port : Nat) (vc : Nat) (fn : Nat) (corrected : Bool) (s : State) : Host.Outcome State Fault Refusal :=
  s.act (.csiFrameStart port vc fn corrected) (fun n => n.on (fun b => b.csiFrameStart port vc fn corrected))

/-- CSI_FRAME_END (spec/05 R112). -/
def execCsiFrameEnd (port : Nat) (vc : Nat) (corrected : Bool) (s : State) : Host.Outcome State Fault Refusal :=
  s.act (.csiFrameEnd port vc corrected) (fun n => n.on (fun b => b.csiFrameEnd port vc corrected))

/-- CSI_LONG_PACKET (spec/05 R112). -/
def execCsiLongPacket (port : Nat) (vc : Nat) (dt : Nat) (corrected : Bool) (bad : Bool) (px : List Nat) (s : State) :
    Host.Outcome State Fault Refusal :=
  s.act (.csiLongPacket port vc dt corrected bad px) (fun n => n.on (fun b => b.csiLong port vc dt corrected bad px))

/-- CSI_OTHER_PACKET (spec/05 R104). -/
def execCsiOtherPacket (port : Nat) (vc : Nat) (kind : Nat) (corrected : Bool) (s : State) : Host.Outcome State Fault Refusal :=
  s.act (.csiOtherPacket port vc kind corrected) (fun n => n.on (fun b => b.csiOther port vc kind corrected))

/-- CSI_SOT_ERROR (spec/05 R104). -/
def execCsiSotError (port : Nat) (s : State) : Host.Outcome State Fault Refusal :=
  s.act (.csiSotError port) (fun n => n.on (fun b => b.csiSot port))

/-- LINE_TIMEOUT (spec/05 R113). -/
def execLineTimeout (j : Nat) (s : State) : Host.Outcome State Fault Refusal :=
  s.act (.lineTimeout j) (fun n => n.on (fun b => b.lineTimeout j))

/-- FRAME_TIMEOUT (spec/05 R113). -/
def execFrameTimeout (j : Nat) (s : State) : Host.Outcome State Fault Refusal :=
  s.act (.frameTimeout j) (fun n => n.on (fun b => b.frameTimeout j))

/-- PAD_LINE (spec/05 R113). -/
def execPadLine (j : Nat) (s : State) : Host.Outcome State Fault Refusal :=
  s.act (.padLine j) (fun n => n.on (fun b => b.padLine j))

/-- ISP_LINE_PROCESS (spec/05 R105). -/
def execIspLineProcess (errors : TableErrors) (s : State) : Host.Outcome State Fault Refusal :=
  s.act (.ispLineProcess errors) (fun n => n.on (fun b => b.ispLine errors))

/-- ISP_HOLD_RELEASE (spec/06 R138). -/
def execIspHoldRelease (c : Nat) (s : State) : Host.Outcome State Fault Refusal :=
  s.act (.ispHoldRelease c) (fun n => n.on (fun b => b.holdRelease c))

/-- ISP_HOLD_TIMEOUT (spec/06 R138). -/
def execIspHoldTimeout (c : Nat) (s : State) : Host.Outcome State Fault Refusal :=
  s.act (.ispHoldTimeout c) (fun n => n.on (fun b => b.holdTimeout c))

/-- ISP_FRAME_END (spec/06 R141). -/
def execIspFrameEnd (c : Nat) (s : State) : Host.Outcome State Fault Refusal :=
  s.act (.ispFrameEnd c) (fun n => n.on (fun b => b.ispFrameEnd c))

/-- DESC_LOST (spec/06 R141). -/
def execDescLost (c : Nat) (s : State) : Host.Outcome State Fault Refusal :=
  s.act (.descLost c) (fun n => n.on (fun b => b.descLost c))

/-- TABLE_DATA_ACCESS (spec/06 R125). -/
def execTableDataAccess (a : Agent) (write : Option Word) (error : Nat) (s : State) : Host.Outcome State Fault Refusal :=
  s.act (.tableDataAccess a write error) (fun n => n.tableData a write error)

end Sys2Proof.Machine
end

