-- ==== Sys2Proof/Machine/CmdClient.lean ====
section
/-! DEFINITION. Machine/CmdClient.lean: the meanings of the commands of clients, journal, CAN, Ethernet and PTP (spec/15). -/

namespace Sys2Proof.Machine

/-- ICP_OPEN (spec/15 R375). -/
def execIcpOpen (m : IcpMsg) (s : State) : Host.Outcome State Fault Refusal :=
  s.act (.icpOpen m) (fun n => n.icpIn m (fun n => n.on (fun b => b.icpOpenMsg m)))

/-- ICP_CLOSE (spec/15 R375). -/
def execIcpClose (m : IcpMsg) (s : State) : Host.Outcome State Fault Refusal :=
  s.act (.icpClose m) (fun n => n.icpIn m (fun n => n.on (fun b => b.icpCloseMsg m)))

/-- ICP_ACK (spec/15 R374). -/
def execIcpAck (m : IcpMsg) (s : State) : Host.Outcome State Fault Refusal :=
  s.act (.icpAck m) (fun n => n.icpIn m (fun n => n.on (fun b => b.icpAckMsg m)))

/-- ICP_REQUEST (spec/15 R391). -/
def execIcpRequest (m : IcpMsg) (s : State) : Host.Outcome State Fault Refusal :=
  s.act (.icpRequest m) (fun n => n.icpIn m (fun n => n.icpRequest m))

/-- ICP_PING (spec/15 R371). -/
def execIcpPing (m : IcpMsg) (s : State) : Host.Outcome State Fault Refusal :=
  s.act (.icpPing m) (fun n => n.icpIn m (fun n => n.on (fun b => b.icpPing m)))

/-- FRAG_TIMEOUT (spec/15 R372). -/
def execFragTimeout (k : Nat) (s : State) : Host.Outcome State Fault Refusal :=
  s.act (.fragTimeout k) (fun n => n.on (fun b => b.fragTimeout k))

/-- RESEND_TIMEOUT (spec/15 R374). -/
def execResendTimeout (k : Nat) (s : State) : Host.Outcome State Fault Refusal :=
  s.act (.resendTimeout k) (fun n => n.on (fun b => b.resendTimeout k))

/-- JOURNAL_MIRROR_DONE (spec/15 R394). -/
def execJournalMirrorDone (e : Nat) (s : State) : Host.Outcome State Fault Refusal :=
  s.act (.journalMirrorDone e) (fun n => n.on (fun b => b.mirrorDone e))

/-- JOURNAL_FLASH_DONE (spec/15 R394). -/
def execJournalFlashDone (e : Nat) (flashErr : Bool) (s : State) : Host.Outcome State Fault Refusal :=
  s.act (.journalFlashDone e flashErr) (fun n => n.on (fun b => b.journalFlashDone e flashErr))

/-- MIRROR_TIMEOUT (spec/15 R394). -/
def execMirrorTimeout (e : Nat) (s : State) : Host.Outcome State Fault Refusal :=
  s.act (.mirrorTimeout e) (fun n => n.on (fun b => b.mirrorTimeout e))

/-- JOURNAL_MODE_WRITE (spec/15 R394). -/
def execJournalModeWrite (a : Agent) (s : State) : Host.Outcome State Fault Refusal :=
  s.act (.journalModeWrite a) (fun n => n.writeBits a Page.JOURNAL 0x040 1 1 0)

/-- JOURNAL_COMMIT (spec/15 R392). -/
def execJournalCommit (a : Agent) (e : Nat) (s : State) : Host.Outcome State Fault Refusal :=
  s.act (.journalCommit a e) (fun n => n.writeReg a Page.JOURNAL 0x078 true (BitVec.ofNat 32 e))

/-- JOURNAL_RECOVERY (spec/15 R395). -/
def execJournalRecovery (recs : List JRecord) (ctxs : List CtxRecord) (s : State) : Host.Outcome State Fault Refusal :=
  s.act (.journalRecovery recs ctxs) (fun n => n.on (fun b => b.journalRecover recs ctxs))

/-- FOSTER_START (spec/15 R396). -/
def execFosterStart (ctxs : List CtxRecord) (s : State) : Host.Outcome State Fault Refusal :=
  s.act (.fosterStart ctxs) (fun n => n.on (fun b => b.fosterStart ctxs))

/-- FOSTER_END (spec/15 R396). -/
def execFosterEnd (restored : Bool) (s : State) : Host.Outcome State Fault Refusal :=
  s.act (.fosterEnd restored) (fun n => n.on (fun b => b.fosterEnd restored))

/-- WARD_DAMAGED (spec/15 R397). -/
def execWardDamaged (page : Nat) (s : State) : Host.Outcome State Fault Refusal :=
  s.act (.wardDamaged page) (fun n => n.on (fun b => b.wardDamaged page))

/-- REQ_QUERY (spec/15 R390). -/
def execReqQuery (ward : Bool) (e : Nat) (s : State) : Host.Outcome State Fault Refusal :=
  s.act (.reqQuery ward e) (fun n => n.on (fun b => b.reqQuery ward e))

/-- REQ_SUBSCRIBE (spec/15 R377). -/
def execReqSubscribe (ward : Bool) (e : Nat) (s : State) : Host.Outcome State Fault Refusal :=
  s.act (.reqSubscribe ward e) (fun n => n.reqSubscribe ward e)

/-- REQ_REG (spec/03 R78). -/
def execReqReg (ward : Bool) (e : Nat) (s : State) : Host.Outcome State Fault Refusal :=
  s.act (.reqReg ward e) (fun n => n.reqReg ward e)

/-- REQ_CONFIG_CLIENT (spec/15 R390). -/
def execReqConfigClient (ward : Bool) (e : Nat) (s : State) : Host.Outcome State Fault Refusal :=
  s.act (.reqConfigClient ward e) (fun n => n.reqConfig ward e)

/-- REQ_PLAN_OFFER (spec/13 R327). -/
def execReqPlanOffer (ward : Bool) (e : Nat) (plan : Plan) (s : State) : Host.Outcome State Fault Refusal :=
  s.act (.reqPlanOffer ward e plan) (fun n => n.reqPlanOffer ward e plan)

/-- REQ_PRIV (spec/18 R464). -/
def execReqPriv (ward : Bool) (e : Nat) (env : BurnEnv) (flashErr : Bool) (s : State) : Host.Outcome State Fault Refusal :=
  s.act (.reqPriv ward e env flashErr) (fun n => n.reqPriv ward e env flashErr)

/-- REQ_HEALTH_NOW (spec/15 R390). -/
def execReqHealthNow (ward : Bool) (e : Nat) (s : State) : Host.Outcome State Fault Refusal :=
  s.act (.reqHealthNow ward e) (fun n => n.reqHealth ward e)

/-- ITEM_POST (spec/15 R382). -/
def execItemPost (a : Agent) (tail : Nat) (s : State) : Host.Outcome State Fault Refusal :=
  s.act (.itemPost a tail) (fun n => n.writeReg a Page.CLIENT 0x058 true (BitVec.ofNat 32 tail))

/-- EMPTY_FRAME_CLOSE (spec/15 R384). -/
def execEmptyFrameClose (v : Nat) (s : State) : Host.Outcome State Fault Refusal :=
  s.act (.emptyFrameClose v) (fun n => n.on (fun b => b.emptyClose v))

/-- HEALTH_PERIODIC (spec/15 R388). -/
def execHealthPeriodic (s : State) : Host.Outcome State Fault Refusal :=
  s.act .healthPeriodic (fun n => n.on (fun b => b.healthPeriodic))

/-- SAFE_HEALTH_REPEAT (spec/15 R388). -/
def execSafeHealthRepeat (s : State) : Host.Outcome State Fault Refusal :=
  s.act .safeHealthRepeat (fun n => n.on (fun b => b.safeHealth))

/-- MAINT_HEALTH_REPEAT (spec/15 R379). -/
def execMaintHealthRepeat (s : State) : Host.Outcome State Fault Refusal :=
  s.act .maintHealthRepeat (fun n => n.on (fun b => b.maintHealth))

/-- WAKE_EVENT_APPEND (spec/16 R424). -/
def execWakeEventAppend (s : State) : Host.Outcome State Fault Refusal :=
  s.act .wakeEventAppend (fun n => n.on (fun b => b.wakeEvent))

/-- CAN_HEARTBEAT_DUE (spec/15 R369). -/
def execCanHeartbeatDue (c : Nat) (s : State) : Host.Outcome State Fault Refusal :=
  s.act (.canHeartbeatDue c) (fun n => n.on (fun b => b.canHeartbeat c))

/-- HB_ARM (spec/15 R369). -/
def execHbArm (a : Agent) (c : Nat) (s : State) : Host.Outcome State Fault Refusal :=
  s.act (.hbArm a c) (fun n => n.writeReg a (canPage c) 0x058 true 1)

/-- CAN_RX_FRAME (spec/15 R368). -/
def execCanRxFrame (c : Nat) (bad : Bool) (s : State) : Host.Outcome State Fault Refusal :=
  s.act (.canRxFrame c bad) (fun n => n.on (fun b => b.canRx c bad))

/-- CAN_BUS_OFF_RECOVERY (spec/15 R368). -/
def execCanBusOffRecovery (c : Nat) (s : State) : Host.Outcome State Fault Refusal :=
  s.act (.canBusOffRecovery c) (fun n => n.on (fun b => b.canRecover c))

/-- ETH_FRAME_RECEIVE (spec/15 R367). -/
def execEthFrameReceive (m : Nat) (f : EthFrame) (s : State) : Host.Outcome State Fault Refusal :=
  s.act (.ethFrameReceive m f) (fun n => n.ethFrame m f)

/-- PTP_TX (spec/15 R367). -/
def execPtpTx (a : Agent) (m : Nat) (v : Word) (t : PtpTime) (s : State) : Host.Outcome State Fault Refusal :=
  s.act (.ptpTx a m v t) (fun n => n.on (fun b => b.guarded a (Page.HOST + m) 0x08C true v.toNat (fun b => b.ptpTx m v.toNat t)))

/-- PTP_STEP (spec/15 R367). -/
def execPtpStep (a : Agent) (m : Nat) (v : Word) (s : State) : Host.Outcome State Fault Refusal :=
  s.act (.ptpStep a m v) (fun n => n.writeReg a (Page.HOST + m) 0x088 true v)

/-- ETH_LINK_CHANGE (spec/15 R398). -/
def execEthLinkChange (m : Nat) (up : Bool) (speed : Nat) (s : State) : Host.Outcome State Fault Refusal :=
  s.act (.ethLinkChange m up speed) (fun n => n.on (fun b => b.ethLink m up speed))

/-- CAN_FRAME_TX_DONE (spec/15 R369). -/
def execCanFrameTxDone (c : Nat) (busError : Bool) (s : State) : Host.Outcome State Fault Refusal :=
  s.act (.canFrameTxDone c busError) (fun n => n.on (fun b => b.canTxDone c busError))

end Sys2Proof.Machine
end

