-- ==== Sys2Proof/Machine/CmdEpoch.lean ====
section
/-! DEFINITION. Machine/CmdEpoch.lean: the meanings of the commands of the line generator, frame modes, beats, SYNC_IN and SYNC_OUT, the map block, wide registers (spec/02). -/

namespace Sys2Proof.Machine

/-- LINE_PERIOD_START (spec/02 R35). -/
def execLinePeriodStart (slot0 : Option Conversion) (slot1 : Option Conversion) (inputs : LineInputs) (s : State) :
    Host.Outcome State Fault Refusal :=
  s.act (.linePeriodStart slot0 slot1 inputs) (fun n => n.lineStart slot0 slot1 inputs)

/-- FRAME_MODE_APPLY (spec/02 R30). -/
def execFrameModeApply (s : State) : Host.Outcome State Fault Refusal :=
  s.act .frameModeApply (fun n => n.on (fun b => b.modeAtL0.applyFrameMode))

/-- SHL_APPLY (spec/03 R67). -/
def execShlApply (s : State) : Host.Outcome State Fault Refusal :=
  s.act .shlApply (fun n => n.on (fun b => b.shlApply))

/-- THERMAL_TRIP (spec/17 R438). -/
def execThermalTrip (s : State) : Host.Outcome State Fault Refusal :=
  s.act .thermalTrip (fun n => n.on (fun b => b.thermalTrip))

/-- BEAT_SEND (spec/02 R41). -/
def execBeatSend (s : State) : Host.Outcome State Fault Refusal :=
  s.act .beatSend (fun n => n.on (fun b => b.beatSend))

/-- BEAT_RECEIVE (spec/02 R44). -/
def execBeatReceive (port : Nat) (beat : Beat) (offset : Int) (s : State) : Host.Outcome State Fault Refusal :=
  s.act (.beatReceive port beat offset) (fun n => n.on (fun b => b.beatReceive port beat offset))

/-- BEAT_LOSS_LIMIT (spec/02 R45). -/
def execBeatLossLimit (s : State) : Host.Outcome State Fault Refusal :=
  s.act .beatLossLimit (fun n => n.on (fun b => b.beatLoss))

/-- BACKUP_TAKEOVER (spec/02 R47). -/
def execBackupTakeover (s : State) : Host.Outcome State Fault Refusal :=
  s.act .backupTakeover (fun n => n.on (fun b => b.backupTakeover))

/-- HOLDOVER_LIMIT_EXPIRY (spec/02 R45). -/
def execHoldoverLimitExpiry (s : State) : Host.Outcome State Fault Refusal :=
  s.act .holdoverLimitExpiry (fun n => n.on (fun b => b.holdoverLimit))

/-- SYNC_IN_EDGE (spec/02 R40). -/
def execSyncInEdge (edge : SyncEdge) (s : State) : Host.Outcome State Fault Refusal :=
  s.act (.syncInEdge edge) (fun n => n.on (fun b => b.syncInEdge edge))

/-- SYNC_IN_LOST (spec/02 R40). -/
def execSyncInLost (s : State) : Host.Outcome State Fault Refusal :=
  s.act .syncInLost (fun n => n.on (fun b => b.syncInLost))

/-- SYNC_OUT_PULSE_START (spec/02 R50). -/
def execSyncOutPulseStart (s : State) : Host.Outcome State Fault Refusal :=
  s.act .syncOutPulseStart (fun n => n.on (fun b => b.syncOutStart))

/-- SYNC_OUT_PULSE_END (spec/02 R50). -/
def execSyncOutPulseEnd (s : State) : Host.Outcome State Fault Refusal :=
  s.act .syncOutPulseEnd (fun n => n.on (fun b => b.syncOutEnd))

/-- MAP_BLOCK_BUILD (spec/02 R51). -/
def execMapBlockBuild (t : PtpTime) (s : State) : Host.Outcome State Fault Refusal :=
  s.act (.mapBlockBuild t) (fun n => n.on (fun b => b.mapBlock t))

/-- MAP_NOW (spec/02 R51). -/
def execMapNow (a : Agent) (s : State) : Host.Outcome State Fault Refusal :=
  s.act (.mapNow a) (fun n => n.writeBits a Page.EPOCH 0x088 10 1 1)

/-- FRAME_MODE_WRITE (spec/02 R30). -/
def execFrameModeWrite (a : Agent) (v : Word) (s : State) : Host.Outcome State Fault Refusal :=
  s.act (.frameModeWrite a v) (fun n => n.writeReg a Page.EPOCH 0x050 true v)

/-- ROLE_MASTER_WRITE (spec/02 R38). -/
def execRoleMasterWrite (a : Agent) (on : Bool) (s : State) : Host.Outcome State Fault Refusal :=
  s.act (.roleMasterWrite a on) (fun n => n.writeBits a Page.XEPOCH 0x044 1 1 (bitNat on))

/-- SYNCIN_ENABLE_WRITE (spec/02 R38). -/
def execSyncinEnableWrite (a : Agent) (s : State) : Host.Outcome State Fault Refusal :=
  s.act (.syncinEnableWrite a) (fun n => n.writeBits a Page.EPOCH 0x070 0 1 1)

/-- WIDE_LOW_READ (spec/02 R36). -/
def execWideLowRead (a : Agent) (page : Nat) (off : Nat) (s : State) : Host.Outcome State Fault Refusal :=
  s.act (.wideLowRead a page off) (fun n => if isWideLow page off then n.readReg a page off true else n)

/-- WIDE_LOW_WRITE (spec/02 R37). -/
def execWideLowWrite (a : Agent) (page : Nat) (off : Nat) (v : Word) (s : State) : Host.Outcome State Fault Refusal :=
  s.act (.wideLowWrite a page off v) (fun n => if isWideLow page off then n.writeReg a page off true v else n)

/-- WIDE_HIGH_WRITE (spec/02 R37). -/
def execWideHighWrite (a : Agent) (page : Nat) (off : Nat) (v : Word) (s : State) : Host.Outcome State Fault Refusal :=
  s.act (.wideHighWrite a page off v) (fun n => if isWideHigh page off then n.writeReg a page off true v else n)

end Sys2Proof.Machine
end

