-- ==== Sys2Proof/Machine/CmdErg.lean ====
section
/-! DEFINITION. Machine/CmdErg.lean: the meanings of the commands of boot, mailbox, kernels (spec/18). -/

namespace Sys2Proof.Machine

/-- ERG_START (spec/18 R455). -/
def execErgStart (s : State) : Host.Outcome State Fault Refusal :=
  s.act .ergStart (fun n => n.on (fun b => b.ergStart))

/-- ERG_READY_TIMEOUT (spec/18 R458). -/
def execErgReadyTimeout (s : State) : Host.Outcome State Fault Refusal :=
  s.act .ergReadyTimeout (fun n => n.readyTimeout)

/-- ERG_CONFIRM_TIMEOUT (spec/18 R458). -/
def execErgConfirmTimeout (s : State) : Host.Outcome State Fault Refusal :=
  s.act .ergConfirmTimeout (fun n => n.confirmTimeout)

/-- ERG_STABLE (spec/18 R458). -/
def execErgStable (s : State) : Host.Outcome State Fault Refusal :=
  s.act .ergStable (fun n => n.on (fun b => b.ergStable))

/-- ERG_WATCHDOG_EXPIRY (spec/18 R466). -/
def execErgWatchdogExpiry (s : State) : Host.Outcome State Fault Refusal :=
  s.act .ergWatchdogExpiry (fun n => n.watchdogExpiry)

/-- ERG_KICK (spec/18 R466). -/
def execErgKick (a : Agent) (s : State) : Host.Outcome State Fault Refusal :=
  s.act (.ergKick a) (fun n => n.writeReg a Page.CORE 0x044 true 1)

/-- MB_READY (spec/18 R464). -/
def execMbReady (s : State) : Host.Outcome State Fault Refusal :=
  s.act .mbReady (fun n => n.mbReady)

/-- MB_CONFIRM (spec/18 R464). -/
def execMbConfirm (flashErr : Bool) (s : State) : Host.Outcome State Fault Refusal :=
  s.act (.mbConfirm flashErr) (fun n => n.mbConfirm flashErr)

/-- MB_ACTIVATE (spec/18 R459). -/
def execMbActivate (flashErr : Bool) (s : State) : Host.Outcome State Fault Refusal :=
  s.act (.mbActivate flashErr) (fun n => n.mbActivate flashErr)

/-- MB_RESET (spec/18 R464). -/
def execMbReset (s : State) : Host.Outcome State Fault Refusal :=
  s.act .mbReset (fun n => n.mbReset)

/-- MB_TALLY (spec/17 R443). -/
def execMbTally (s : State) : Host.Outcome State Fault Refusal :=
  s.act .mbTally (fun n => n.mbTally)

/-- MB_FUSE_READ (spec/18 R464). -/
def execMbFuseRead (s : State) : Host.Outcome State Fault Refusal :=
  s.act .mbFuseRead (fun n => n.mbFuseRead)

/-- MB_PRIV (spec/19 R496). -/
def execMbPriv (env : BurnEnv) (flashErr : Bool) (s : State) : Host.Outcome State Fault Refusal :=
  s.act (.mbPriv env flashErr) (fun n => n.mbPriv env flashErr)

/-- MB_OWNER_BIND (spec/18 R464). -/
def execMbOwnerBind (flashErr : Bool) (s : State) : Host.Outcome State Fault Refusal :=
  s.act (.mbOwnerBind flashErr) (fun n => n.mbOwnerBind flashErr)

/-- IPI (spec/18 R473). -/
def execIpi (a : Agent) (cores : Nat) (s : State) : Host.Outcome State Fault Refusal :=
  s.act (.ipi a cores) (fun n => n.writeReg a Page.CORE 0x050 true (BitVec.ofNat 32 cores))

/-- XCAP_CLEAR (spec/18 R472). -/
def execXcapClear (a : Agent) (s : State) : Host.Outcome State Fault Refusal :=
  s.act (.xcapClear a) (fun n => n.writeReg a Page.SYS 0x068 true 1)

/-- LOCKSTEP_ERROR (spec/18 R445). -/
def execLockstepError (s : State) : Host.Outcome State Fault Refusal :=
  s.act .lockstepError (fun n => n.on (fun b => b.lockstep))

/-- KERNEL_INVOKE (spec/18 R469). -/
def execKernelInvoke (core : Nat) (r : List Byte) (s : State) : Host.Outcome State Fault Refusal :=
  s.act (.kernelInvoke core r) (fun n => n.on (fun b => b.kernelInvoke core r))

/-- KERNEL_EXIT (spec/18 R470). -/
def execKernelExit (core : Nat) (status : Nat) (cycles : Nat) (s : State) : Host.Outcome State Fault Refusal :=
  s.act (.kernelExit core status cycles) (fun n => n.on (fun b => b.kernelExit core status cycles))

/-- KERNEL_EMIT (spec/18 R470). -/
def execKernelEmit (core : Nat) (w : Nat) (off : Nat) (target : Option Nat) (s : State) : Host.Outcome State Fault Refusal :=
  s.act (.kernelEmit core w off target) (fun n => n.on (fun b => b.kernelEmit core w off target))

/-- KERNEL_QUERY (spec/18 R470). -/
def execKernelQuery (core : Nat) (w : Nat) (off : Nat) (s : State) : Host.Outcome State Fault Refusal :=
  s.act (.kernelQuery core w off) (fun n => n.on (fun b => b.kernelQuery core w off))

/-- KERNEL_NOW (spec/18 R470). -/
def execKernelNow (core : Nat) (s : State) : Host.Outcome State Fault Refusal :=
  s.act (.kernelNow core) (fun n => n.on (fun b => b.kernelNow core))

/-- KERNEL_LOG (spec/18 R470). -/
def execKernelLog (core : Nat) (code : Nat) (bytes : List Byte) (s : State) : Host.Outcome State Fault Refusal :=
  s.act (.kernelLog core code bytes) (fun n => n.on (fun b => b.kernelLog core code bytes))

/-- KERNEL_FAULT (spec/18 R469). -/
def execKernelFault (core : Nat) (s : State) : Host.Outcome State Fault Refusal :=
  s.act (.kernelFault core) (fun n => n.on (fun b => b.kernelFault core))

/-- KERNEL_BUDGET (spec/18 R471). -/
def execKernelBudget (core : Nat) (s : State) : Host.Outcome State Fault Refusal :=
  s.act (.kernelBudget core) (fun n => n.on (fun b => b.kernelBudget core))

end Sys2Proof.Machine
end

