-- ==== Sys2Proof/Machine/CmdFleet.lean ====
section
/-! DEFINITION. Machine/CmdFleet.lean: the meanings of the commands of schedules, heartbeats and the fleet (spec/13). -/

namespace Sys2Proof.Machine

/-- INSTANCE_OPEN (spec/13 R318). -/
def execInstanceOpen (s : State) : Host.Outcome State Fault Refusal :=
  s.act .instanceOpen (fun n => n.on (fun b => b.openDue))

/-- INSTANCE_MISSED (spec/13 R319). -/
def execInstanceMissed (s : State) : Host.Outcome State Fault Refusal :=
  s.act .instanceMissed (fun n => n.on (fun b => b.missDue))

/-- JOB_TIMEOUT (spec/13 R320). -/
def execJobTimeout (s : State) : Host.Outcome State Fault Refusal :=
  s.act .jobTimeout (fun n => n.on (fun b => b.jobTimeoutsDue))

/-- OVERRUN_CHECK (spec/13 R322). -/
def execOverrunCheck (s : State) : Host.Outcome State Fault Refusal :=
  s.act .overrunCheck (fun n => n.on (fun b => b.overrunCheck))

/-- HEARTBEAT_DUE (spec/13 R323). -/
def execHeartbeatDue (s : State) : Host.Outcome State Fault Refusal :=
  s.act .heartbeatDue (fun n => n.on (fun b => b.heartbeatDue))

/-- HEARTBEAT_LOST (spec/13 R323). -/
def execHeartbeatLost (s : State) : Host.Outcome State Fault Refusal :=
  s.act .heartbeatLost (fun n => n.on (fun b => b.heartbeatLost))

/-- ALIVE_WRITE (spec/13 R323). -/
def execAliveWrite (a : Agent) (s : State) : Host.Outcome State Fault Refusal :=
  s.act (.aliveWrite a) (fun n => n.writeReg a Page.SCHED 0x068 true 1)

/-- SCHED_KICK (spec/13 R325). -/
def execSchedKick (a : Agent) (e : Nat) (f : Nat) (s : State) : Host.Outcome State Fault Refusal :=
  s.act (.schedKick a e f) (fun n => n.writeReg a Page.SCHED 0x064 true (BitVec.ofNat 32 (e + 65536 * f)))

/-- ENT_DATA_WRITE (spec/13 R317). -/
def execEntDataWrite (a : Agent) (w : Nat) (v : Word) (s : State) : Host.Outcome State Fault Refusal :=
  s.act (.entDataWrite a w v) (fun n => n.writeReg a Page.SCHED (0x054 + 4 * w) true v)

/-- JOIN_SEND (spec/13 R329). -/
def execJoinSend (a : Agent) (v : Word) (s : State) : Host.Outcome State Fault Refusal :=
  s.act (.joinSend a v) (fun n => n.writeReg a Page.SCHED 0x110 true v)

/-- JOIN_RECEIVE (spec/13 R329). -/
def execJoinReceive (port : Nat) (d : List Byte) (s : State) : Host.Outcome State Fault Refusal :=
  s.act (.joinReceive port d) (fun n => n.on (fun b => b.joinTaken port d))

/-- HELLO_SEND (spec/13 R330). -/
def execHelloSend (s : State) : Host.Outcome State Fault Refusal :=
  s.act .helloSend (fun n => n.on (fun b => b.helloSend))

/-- HELLO_RECEIVE (spec/13 R330). -/
def execHelloReceive (port : Nat) (d : List Byte) (s : State) : Host.Outcome State Fault Refusal :=
  s.act (.helloReceive port d) (fun n => n.on (fun b => b.helloReceive port d))

/-- HELLO_TIMEOUT (spec/13 R330). -/
def execHelloTimeout (port : Nat) (s : State) : Host.Outcome State Fault Refusal :=
  s.act (.helloTimeout port) (fun n => n.on (fun b => b.helloTimeout port))

/-- COORDINATOR_DECIDE (spec/13 R331). -/
def execCoordinatorDecide (extra : Nat) (s : State) : Host.Outcome State Fault Refusal :=
  s.act (.coordinatorDecide extra) (fun n => n.on (fun b => b.coordinatorDecide extra))

/-- START_RECEIVE (spec/13 R330). -/
def execStartReceive (port : Nat) (d : List Byte) (s : State) : Host.Outcome State Fault Refusal :=
  s.act (.startReceive port d) (fun n => n.on (fun b => b.startReceive port d))

/-- LOSS_DETECT (spec/13 R335). -/
def execLossDetect (port : Nat) (s : State) : Host.Outcome State Fault Refusal :=
  s.act (.lossDetect port) (fun n => n.on (fun b => b.lossDetect port))

/-- LOSS_RECEIVE (spec/13 R337). -/
def execLossReceive (port : Nat) (d : List Byte) (s : State) : Host.Outcome State Fault Refusal :=
  s.act (.lossReceive port d) (fun n => n.on (fun b => b.lossReceive port d))

/-- LOSS_ROUTE_GO (spec/13 R338). -/
def execLossRouteGo (s : State) : Host.Outcome State Fault Refusal :=
  s.act .lossRouteGo (fun n => n.on (fun b => b.lossRouteGo))

/-- QP_SYNC_RECEIVE (spec/13 R326). -/
def execQpSyncReceive (d : List Byte) (s : State) : Host.Outcome State Fault Refusal :=
  s.act (.qpSyncReceive d) (fun n => n.on (fun b => b.qpSyncReceive d))

/-- QP_SYNC_RESEND (spec/13 R326). -/
def execQpSyncResend (q : Nat) (s : State) : Host.Outcome State Fault Refusal :=
  s.act (.qpSyncResend q) (fun n => n.on (fun b => b.qpSyncResend q))

/-- TILE_CONDEMN (spec/13 R334). -/
def execTileCondemn (t : Nat) (lead : Nat) (s : State) : Host.Outcome State Fault Refusal :=
  s.act (.tileCondemn t lead) (fun n => n.on (fun b => b.tileCondemned t lead))

end Sys2Proof.Machine
end

