-- ==== Sys2Proof/Machine/CmdFuse.lean ====
section
/-! DEFINITION. Machine/CmdFuse.lean: the meanings of the commands of fuses, life cycle, test pads (spec/19). -/

namespace Sys2Proof.Machine

/-- FUSE_PROG_GO (spec/19 R478). -/
def execFuseProgGo (a : Agent) (s : State) : Host.Outcome State Fault Refusal :=
  s.act (.fuseProgGo a) (fun n => n.writeReg a Page.FUSE 0x048 true 1)

/-- FUSE_ATTEMPT_DONE (spec/19 R479). -/
def execFuseAttemptDone (weak : BitVec 39) (s : State) : Host.Outcome State Fault Refusal :=
  s.act (.fuseAttemptDone weak) (fun n => n.attemptDone weak)

/-- FUSE_LOCK_WRITE (spec/19 R488). -/
def execFuseLockWrite (a : Agent) (which : Nat) (s : State) : Host.Outcome State Fault Refusal :=
  s.act (.fuseLockWrite a which) (fun n => n.writeReg a Page.FUSE (0x070 + 4 * which) true 1)

/-- PRIV_LC_ADVANCE (spec/19 R490). -/
def execPrivLcAdvance (target : Nat) (env : BurnEnv) (s : State) : Host.Outcome State Fault Refusal :=
  s.act (.privLcAdvance target env) (fun n => n.privNow (.lcAdvance target) env false)

/-- PRIV_FUSE_BURN (spec/19 R496). -/
def execPrivFuseBurn (field : Nat) (slot : Nat) (value : List Byte) (env : BurnEnv) (s : State) :
    Host.Outcome State Fault Refusal :=
  s.act (.privFuseBurn field slot value env) (fun n => n.privNow (.fuseBurn field slot value) env false)

/-- PRIV_KEY_REVOKE (spec/19 R496). -/
def execPrivKeyRevoke (kind : Nat) (index : Nat) (env : BurnEnv) (s : State) : Host.Outcome State Fault Refusal :=
  s.act (.privKeyRevoke kind index env) (fun n => n.privNow (.keyRevoke kind index) env false)

/-- PRIV_ARB_COMMIT (spec/19 R477). -/
def execPrivArbCommit (kind : Nat) (target : Nat) (env : BurnEnv) (s : State) : Host.Outcome State Fault Refusal :=
  s.act (.privArbCommit kind target env) (fun n => n.privNow (.arbCommit kind target) env false)

/-- PRIV_FUSE_TRIAL (spec/19 R487). -/
def execPrivFuseTrial (slot : Nat) (on : Bool) (hash : List Byte) (s : State) : Host.Outcome State Fault Refusal :=
  s.act (.privFuseTrial slot on hash) (fun n => n.privNow (.fuseTrial slot on hash) ⟨[], none⟩ false)

/-- PRIV_PATCH_INSTALL (spec/18 R456). -/
def execPrivPatchInstall (off : Nat) (len : Nat) (flashErr : Bool) (s : State) : Host.Outcome State Fault Refusal :=
  s.act (.privPatchInstall off len flashErr) (fun n => n.privNow (.patchInstall off len) ⟨[], none⟩ flashErr)

/-- PRIV_FACTORY_RESET (spec/19 R498). -/
def execPrivFactoryReset (s : State) : Host.Outcome State Fault Refusal :=
  s.act .privFactoryReset (fun n => n.privNow .factoryReset ⟨[], none⟩ false)

/-- RETURN_REQ (spec/19 R492). -/
def execReturnReq (auth : List Byte) (env : BurnEnv) (s : State) : Host.Outcome State Fault Refusal :=
  s.act (.returnReq auth env) (fun n => n.returnReq auth env)

/-- JTAG_BYPASS (spec/19 R493). -/
def execJtagBypass (bits : List Bool) (s : State) : Host.Outcome State Fault Refusal :=
  s.act (.jtagBypass bits) (fun n => n.on (fun b => b.jtagBypass bits))

/-- JTAG_SAMPLE_PRELOAD (spec/19 R493). -/
def execJtagSamplePreload (pins : List Bool) (preload : List Bool) (s : State) : Host.Outcome State Fault Refusal :=
  s.act (.jtagSamplePreload pins preload) (fun n => n.on (fun b => b.jtagSample pins preload))

/-- JTAG_EXTEST (spec/19 R493). -/
def execJtagExtest (pins : List Bool) (shifted : List Bool) (s : State) : Host.Outcome State Fault Refusal :=
  s.act (.jtagExtest pins shifted) (fun n => n.on (fun b => b.jtagExtest pins shifted))

/-- JTAG_IDCODE (spec/19 R493). -/
def execJtagIdcode (s : State) : Host.Outcome State Fault Refusal :=
  s.act .jtagIdcode (fun n => n.on (fun b => b.jtagIdcode))

/-- DEBUG_ACCESS (spec/19 R493). -/
def execDebugAccess (r : DebugReq) (s : State) : Host.Outcome State Fault Refusal :=
  s.act (.debugAccess r) (fun n => n.debugAccess r)

end Sys2Proof.Machine
end

