-- ==== Sys2Proof/Machine/CmdLinks.lean ====
section
/-! DEFINITION. Machine/CmdLinks.lean: the meanings of the commands of ports, routing (spec/11). -/

namespace Sys2Proof.Machine

/-- LINK_SIGNAL_DETECT (spec/11 R250). -/
def execLinkSignalDetect (port : Nat) (s : State) : Host.Outcome State Fault Refusal :=
  s.act (.linkSignalDetect port) (fun n => n.on (fun b => b.linkSignal port))

/-- LINK_ADAPTED (spec/11 R250). -/
def execLinkAdapted (port : Nat) (s : State) : Host.Outcome State Fault Refusal :=
  s.act (.linkAdapted port) (fun n => n.on (fun b => b.linkAdapted port))

/-- LINK_ALIGNED (spec/11 R250). -/
def execLinkAligned (port : Nat) (s : State) : Host.Outcome State Fault Refusal :=
  s.act (.linkAligned port) (fun n => n.on (fun b => b.linkAligned port))

/-- IDENT_SEND (spec/11 R250). -/
def execIdentSend (port : Nat) (s : State) : Host.Outcome State Fault Refusal :=
  s.act (.identSend port) (fun n => n.on (fun b => b.identSend port))

/-- IDENT_RECEIVE (spec/11 R252). -/
def execIdentReceive (port : Nat) (xver : Nat) (id : List Byte) (s : State) : Host.Outcome State Fault Refusal :=
  s.act (.identReceive port xver id) (fun n => n.on (fun b => b.identReceive port xver id))

/-- LINK_MEASURE_DONE (spec/02 R43). -/
def execLinkMeasureDone (port : Nat) (delayPs : Int) (s : State) : Host.Outcome State Fault Refusal :=
  s.act (.linkMeasureDone port delayPs) (fun n => n.on (fun b => b.measureDone port delayPs))

/-- TRAIN_TIMEOUT (spec/11 R250). -/
def execTrainTimeout (port : Nat) (s : State) : Host.Outcome State Fault Refusal :=
  s.act (.trainTimeout port) (fun n => n.on (fun b => b.trainTimeout port))

/-- TRAIN_BACKOFF_END (spec/11 R250). -/
def execTrainBackoffEnd (port : Nat) (s : State) : Host.Outcome State Fault Refusal :=
  s.act (.trainBackoffEnd port) (fun n => n.on (fun b => b.trainBackoffEnd port))

/-- PORT_OPEN (spec/11 R250). -/
def execPortOpen (a : Agent) (port : Nat) (s : State) : Host.Outcome State Fault Refusal :=
  s.act (.portOpen a port) (fun n => n.writeBits a (portPage port) 0x040 0 1 1)

/-- PORT_RETRAIN (spec/11 R251). -/
def execPortRetrain (a : Agent) (port : Nat) (s : State) : Host.Outcome State Fault Refusal :=
  s.act (.portRetrain a port) (fun n => n.writeBits a (portPage port) 0x040 1 1 1)

/-- LINK_DOWN (spec/11 R253). -/
def execLinkDown (port : Nat) (uncorr : Nat) (counted : Nat) (lockLost : Bool) (s : State) : Host.Outcome State Fault Refusal :=
  s.act (.linkDown port uncorr counted lockLost) (fun n => n.on (fun b => b.linkDown port uncorr counted lockLost))

/-- XANAR_PACKET_RECEIVE (spec/11 R256). -/
def execXanarPacketReceive (x : Arrival) (s : State) : Host.Outcome State Fault Refusal :=
  s.act (.xanarPacketReceive x) (fun n => n.on (fun b => b.packetReceive x))

/-- PAUSE_LONG (spec/11 R260). -/
def execPauseLong (port : Nat) (c : Nat) (s : State) : Host.Outcome State Fault Refusal :=
  s.act (.pauseLong port c) (fun n => n.on (fun b => b.pauseLong port c))

/-- NODE_ID_WRITE (spec/11 R263). -/
def execNodeIdWrite (a : Agent) (v : Nat) (s : State) : Host.Outcome State Fault Refusal :=
  s.act (.nodeIdWrite a v) (fun n => n.writeReg a Page.XROUTE 0x040 true (BitVec.ofNat 32 v))

/-- RT_DATA_ACCESS (spec/11 R267). -/
def execRtDataAccess (a : Agent) (write : Bool) (v : Word) (s : State) : Host.Outcome State Fault Refusal :=
  s.act (.rtDataAccess a write v) (fun n => n.dataAccess a Page.XROUTE 0x054 write v)

/-- ROUTE_ARM (spec/11 R270). -/
def execRouteArm (a : Agent) (epoch : Nat) (on : Bool) (s : State) : Host.Outcome State Fault Refusal :=
  s.act (.routeArm a epoch on) (fun n => n.writeReg a Page.XROUTE 0x058 true (BitVec.ofNat 32 (epoch * 65536 + bitNat on)))

/-- ROUTE_GO (spec/11 R271). -/
def execRouteGo (a : Agent) (epoch : Nat) (s : State) : Host.Outcome State Fault Refusal :=
  s.act (.routeGo a epoch) (fun n => n.writeReg a Page.XROUTE 0x068 true (BitVec.ofNat 32 (epoch * 65536 + 1)))

/-- ROUTE_EPOCH_RECEIVE (spec/11 R272). -/
def execRouteEpochReceive (port : Nat) (d : RouteEpochIn) (s : State) : Host.Outcome State Fault Refusal :=
  s.act (.routeEpochReceive port d) (fun n => n.on (fun b => b.routeEpochTaken port d))

/-- ROUTE_SWITCH (spec/11 R273). -/
def execRouteSwitch (s : State) : Host.Outcome State Fault Refusal :=
  s.act .routeSwitch (fun n => n.on (fun b => b.routeSwitch))

/-- TAP_ENABLE (spec/11 R274). -/
def execTapEnable (a : Agent) (port : Nat) (ctx : Nat) (s : State) : Host.Outcome State Fault Refusal :=
  s.act (.tapEnable a port ctx) (fun n => n.tapEnable a port ctx)

/-- PAUSE_BIT_CHANGE (spec/11 R259). -/
def execPauseBitChange (port : Nat) (c : Nat) (on : Bool) (s : State) : Host.Outcome State Fault Refusal :=
  s.act (.pauseBitChange port c on) (fun n => n.on (fun b => b.pauseBit port c on))

end Sys2Proof.Machine
end

