-- ==== Sys2Proof/Machine/CmdMemory.lean ====
section
/-! DEFINITION. Machine/CmdMemory.lean: the meanings of the commands of weight packing, the mover, bulk memory (spec/09, spec/10). -/

namespace Sys2Proof.Machine

/-- PACK_GO (spec/09 R210). -/
def execPackGo (a : Agent) (s : State) : Host.Outcome State Fault Refusal :=
  s.act (.packGo a) (fun n => n.writeBits a Page.PACK 0x040 0 1 1)

/-- PACK_DONE (spec/09 R212). -/
def execPackDone (s : State) : Host.Outcome State Fault Refusal :=
  s.act .packDone (fun n => n.on (fun b => b.packDone))

/-- EXPAND_GO (spec/09 R219). -/
def execExpandGo (a : Agent) (t : Nat) (s : State) : Host.Outcome State Fault Refusal :=
  s.act (.expandGo a t) (fun n => n.writeReg a Page.PACK 0x0C0 true (BitVec.ofNat 32 (256 + t)))

/-- EXPAND_DONE (spec/09 R219). -/
def execExpandDone (s : State) : Host.Outcome State Fault Refusal :=
  s.act .expandDone (fun n => n.on (fun b => b.expandDone))

/-- MOVER_TAIL_WRITE (spec/10 R224). -/
def execMoverTailWrite (a : Agent) (c : Nat) (tail : Nat) (s : State) : Host.Outcome State Fault Refusal :=
  s.act (.moverTailWrite a c tail) (fun n => n.writeReg a Page.MOVER (0x10C + 0x20 * c) true (BitVec.ofNat 32 tail))

/-- MOVER_DESC_DONE (spec/10 R224). -/
def execMoverDescDone (c : Nat) (flashErrs : List Nat) (s : State) : Host.Outcome State Fault Refusal :=
  s.act (.moverDescDone c flashErrs) (fun n => n.on (fun b => b.moverDescDone c flashErrs))

/-- MOVER_RESUME (spec/10 R226). -/
def execMoverResume (a : Agent) (c : Nat) (s : State) : Host.Outcome State Fault Refusal :=
  s.act (.moverResume a c) (fun n => n.writeReg a Page.MOVER (0x118 + 0x20 * c) true 1)

/-- MOVER_SKIP (spec/10 R226). -/
def execMoverSkip (a : Agent) (c : Nat) (s : State) : Host.Outcome State Fault Refusal :=
  s.act (.moverSkip a c) (fun n => n.writeReg a Page.MOVER (0x118 + 0x20 * c) true 2)

/-- MOVER_ABORT (spec/10 R226). -/
def execMoverAbort (a : Agent) (c : Nat) (s : State) : Host.Outcome State Fault Refusal :=
  s.act (.moverAbort a c) (fun n => n.writeReg a Page.MOVER (0x118 + 0x20 * c) true 4)

/-- BULK_ACCESS (spec/10 R236). -/
def execBulkAccess (x : BulkAccess) (s : State) : Host.Outcome State Fault Refusal :=
  s.act (.bulkAccess x) (fun n => n.on (fun b => b.bulkAccess x))

/-- RELOAD_COMPLETE (spec/10 R239). -/
def execReloadComplete (flashErr : Bool) (s : State) : Host.Outcome State Fault Refusal :=
  s.act (.reloadComplete flashErr) (fun n => n.on (fun b => b.reloadComplete flashErr))

/-- RELOAD_HOLD_TIMEOUT (spec/10 R239). -/
def execReloadHoldTimeout (s : State) : Host.Outcome State Fault Refusal :=
  s.act .reloadHoldTimeout (fun n => n.on (fun b => b.reloadHoldTimeout))

/-- BULK_SCRUB_STEP (spec/10 R243). -/
def execBulkScrubStep (upsets : List Upset) (s : State) : Host.Outcome State Fault Refusal :=
  s.act (.bulkScrubStep upsets) (fun n => n.on (fun b => (b.struck upsets).bulkScrub))

/-- RETIRE_LOAD (spec/10 R242). -/
def execRetireLoad (a : Agent) (s : State) : Host.Outcome State Fault Refusal :=
  s.act (.retireLoad a) (fun n => n.writeReg a Page.BULK 0x074 true 3)

/-- RETIRE_FORCED (spec/10 R246). -/
def execRetireForced (a : Agent) (s : State) : Host.Outcome State Fault Refusal :=
  s.act (.retireForced a) (fun n => n.writeReg a Page.BULK 0x074 true 7)

/-- SHARE_WRITE (spec/10 R244). -/
def execShareWrite (a : Agent) (v : Word) (s : State) : Host.Outcome State Fault Refusal :=
  s.act (.shareWrite a v) (fun n => n.writeReg a Page.BULK 0x048 true v)

/-- PAGE_MIGRATION_DONE (spec/10 R237). -/
def execPageMigrationDone (page : Nat) (s : State) : Host.Outcome State Fault Refusal :=
  s.act (.pageMigrationDone page) (fun n => n.on (fun b => b.migrationDone page))

end Sys2Proof.Machine
end

