-- ==== Sys2Proof/Machine/CmdPages.lean ====
section
/-! DEFINITION. Machine/CmdPages.lean: the meanings of the commands of the register protocol every page shares (spec/03). -/

namespace Sys2Proof.Machine

/-- REGISTER_WRITE (spec/03 R60). -/
def execRegisterWrite (a : Agent) (page : Nat) (off : Nat) (word : Bool) (v : Word) (s : State) :
    Host.Outcome State Fault Refusal :=
  s.act (.registerWrite a page off word v) (fun n => n.writeReg a page off word v)

/-- SHADOW_WRITE (spec/03 R64). -/
def execShadowWrite (a : Agent) (page : Nat) (off : Nat) (v : Word) (s : State) : Host.Outcome State Fault Refusal :=
  s.act (.shadowWrite a page off v) (fun n => if isShf (regKey page off) || isShl (regKey page off) then n.writeReg a page off true v else n)

/-- SHL_COORD_WRITE (spec/03 R67). -/
def execShlCoordWrite (a : Agent) (page : Nat) (off : Nat) (v : Word) (s : State) : Host.Outcome State Fault Refusal :=
  s.act (.shlCoordWrite a page off v) (fun n => if isShlCoord page off then n.writeReg a page off true v else n)

/-- SHADOW_HOLD (spec/03 R68). -/
def execShadowHold (a : Agent) (page : Nat) (s : State) : Host.Outcome State Fault Refusal :=
  s.act (.shadowHold a page) (fun n => n.writeBits a page 0x034 0 1 1)

/-- SHADOW_RELEASE (spec/03 R68). -/
def execShadowRelease (a : Agent) (page : Nat) (s : State) : Host.Outcome State Fault Refusal :=
  s.act (.shadowRelease a page) (fun n => n.writeBits a page 0x034 0 1 0)

/-- SHADOW_DISCARD (spec/03 R68). -/
def execShadowDiscard (a : Agent) (page : Nat) (s : State) : Host.Outcome State Fault Refusal :=
  s.act (.shadowDiscard a page) (fun n => n.writeBits a page 0x034 1 1 1)

/-- BLOCK_ENABLE (spec/03 R62). -/
def execBlockEnable (a : Agent) (page : Nat) (on : Bool) (s : State) : Host.Outcome State Fault Refusal :=
  s.act (.blockEnable a page on) (fun n => n.writeBits a page 0x010 0 1 (bitNat on))

/-- BLOCK_FREEZE (spec/03 R62). -/
def execBlockFreeze (a : Agent) (page : Nat) (on : Bool) (s : State) : Host.Outcome State Fault Refusal :=
  s.act (.blockFreeze a page on) (fun n => n.writeBits a page 0x010 2 1 (bitNat on))

/-- FREEZE_STOP (spec/03 R62). -/
def execFreezeStop (page : Nat) (s : State) : Host.Outcome State Fault Refusal :=
  s.act (.freezeStop page) (fun n => n.on (fun b => b.freezeStop page))

/-- SOFT_RESET (spec/03 R62). -/
def execSoftReset (a : Agent) (page : Nat) (s : State) : Host.Outcome State Fault Refusal :=
  s.act (.softReset a page) (fun n => n.writeBits a page 0x010 1 1 1)

/-- SOFT_RESET_DONE (spec/03 R62). -/
def execSoftResetDone (page : Nat) (s : State) : Host.Outcome State Fault Refusal :=
  s.act (.softResetDone page) (fun n => n.on (fun b => b.softResetDone page))

/-- ERR_COUNT_CLEAR (spec/03 R61). -/
def execErrCountClear (a : Agent) (page : Nat) (s : State) : Host.Outcome State Fault Refusal :=
  s.act (.errCountClear a page) (fun n => n.writeBits a page 0x010 3 1 1)

/-- IRQ_CLEAR (spec/03 R69). -/
def execIrqClear (a : Agent) (page : Nat) (v : Word) (same : Word) (s : State) : Host.Outcome State Fault Refusal :=
  s.act (.irqClear a page v same) (fun n => n.writeReg a page 0x018 true (v &&& ~~~same))

/-- IRQ_ENABLE_WRITE (spec/03 R69). -/
def execIrqEnableWrite (a : Agent) (page : Nat) (v : Word) (s : State) : Host.Outcome State Fault Refusal :=
  s.act (.irqEnableWrite a page v) (fun n => n.writeReg a page 0x01C true v)

/-- IRQ_FORCE (spec/03 R70). -/
def execIrqForce (a : Agent) (page : Nat) (v : Word) (s : State) : Host.Outcome State Fault Refusal :=
  s.act (.irqForce a page v) (fun n => n.writeReg a page 0x020 true v)

/-- ERR_CAPTURE_CLEAR (spec/03 R72). -/
def execErrCaptureClear (a : Agent) (page : Nat) (s : State) : Host.Outcome State Fault Refusal :=
  s.act (.errCaptureClear a page) (fun n => n.writeReg a page 0x024 true 0x80000000#32)

/-- LOCK_WRITE (spec/03 R74). -/
def execLockWrite (a : Agent) (page : Nat) (v : Word) (s : State) : Host.Outcome State Fault Refusal :=
  s.act (.lockWrite a page v) (fun n => n.writeReg a page 0x030 true v)

/-- CRC_SCAN_VISIT (spec/03 R77). -/
def execCrcScanVisit (page : Nat) (s : State) : Host.Outcome State Fault Refusal :=
  s.act (.crcScanVisit page) (fun n => n.on (fun b => b.scanVisit page))

end Sys2Proof.Machine
end

