-- ==== Sys2Proof/Machine/CmdPower.lean ====
section
/-! DEFINITION. Machine/CmdPower.lean: the meanings of the commands of power modes, supply, presence, resets, the tally (spec/16, spec/17). -/

namespace Sys2Proof.Machine

/-- MODE_REQUEST (spec/16 R408). -/
def execModeRequest (a : Agent) (target : Nat) (fmode : Nat) (s : State) : Host.Outcome State Fault Refusal :=
  s.act (.modeRequest a target fmode) (fun n => n.writeReg a Page.PWR 0x040 true (BitVec.ofNat 32 (target + 16 * fmode + 2 ^ 31)))

/-- MODE_STEP (spec/16 R409). -/
def execModeStep (s : State) : Host.Outcome State Fault Refusal :=
  s.act .modeStep (fun n => n.on (fun b => b.modeStep))

/-- MODE_DONE (spec/16 R409). -/
def execModeDone (s : State) : Host.Outcome State Fault Refusal :=
  s.act .modeDone (fun n => n.modeArrived)

/-- WAKE_START (spec/16 R412). -/
def execWakeStart (s : State) : Host.Outcome State Fault Refusal :=
  s.act .wakeStart (fun n => n.on (fun b => b.wakeStart))

/-- OASIS_TICK (spec/16 R414). -/
def execOasisTick (vin : Nat) (hold : Nat) (holdup : Bool) (fail : Bool) (closed : Bool) (s : State) :
    Host.Outcome State Fault Refusal :=
  s.act (.oasisTick vin hold holdup fail closed) (fun n => (n.on (fun b => b.oasisTick vin hold holdup fail closed)).bootResume)

/-- VIN_RIDE_EXPIRY (spec/16 R414). -/
def execVinRideExpiry (s : State) : Host.Outcome State Fault Refusal :=
  s.act .vinRideExpiry (fun n => n.on (fun b => b.vinRideExpiry))

/-- POWER_FAIL_SHUTDOWN (spec/16 R415). -/
def execPowerFailShutdown (s : State) : Host.Outcome State Fault Refusal :=
  s.act .powerFailShutdown (fun n => n.on (fun b => b.powerFailShutdown))

/-- SUPPLY_GOOD (spec/17 R436). -/
def execSupplyGood (s : State) : Host.Outcome State Fault Refusal :=
  s.act .supplyGood (fun n => n.on (fun b => b.supplyGood))

/-- POWER_ON (spec/17 R436). -/
def execPowerOn (s : State) : Host.Outcome State Fault Refusal :=
  s.act .powerOn (fun n => n.on (fun b => b.powerOn))

/-- RAIL_UNDERVOLTAGE (spec/16 R416). -/
def execRailUndervoltage (d : Nat) (s : State) : Host.Outcome State Fault Refusal :=
  s.act (.railUndervoltage d) (fun n => n.on (fun b => b.railLow d))

/-- RTC_WRITE (spec/16 R417). -/
def execRtcWrite (a : Agent) (v : Word) (s : State) : Host.Outcome State Fault Refusal :=
  s.act (.rtcWrite a v) (fun n => n.writeReg a Page.OASIS 0x044 true v)

/-- RTC_ALARM (spec/16 R417). -/
def execRtcAlarm (s : State) : Host.Outcome State Fault Refusal :=
  s.act .rtcAlarm (fun n => n.on (fun b => b.rtcAlarm))

/-- PRES_DEBOUNCE_CHANGE (spec/16 R418). -/
def execPresDebounceChange (s : State) : Host.Outcome State Fault Refusal :=
  s.act .presDebounceChange (fun n => n.on (fun b => b.presChange))

/-- PRESENCE_OPEN (spec/16 R418). -/
def execPresenceOpen (s : State) : Host.Outcome State Fault Refusal :=
  s.act .presenceOpen (fun n => n.presOpen)

/-- PRESENCE_CLOSE (spec/16 R418). -/
def execPresenceClose (s : State) : Host.Outcome State Fault Refusal :=
  s.act .presenceClose (fun n => n.on (fun b => b.presClose))

/-- PRES_STUCK (spec/16 R418). -/
def execPresStuck (s : State) : Host.Outcome State Fault Refusal :=
  s.act .presStuck (fun n => n.on (fun b => b.presStuck))

/-- STORE_WEAK (spec/17 R435). -/
def execStoreWeak (s : State) : Host.Outcome State Fault Refusal :=
  s.act .storeWeak (fun n => n.on (fun b => b.storeWeak))

/-- COLD_RESET (spec/16 R407). -/
def execColdReset (s : State) : Host.Outcome State Fault Refusal :=
  s.act .coldReset (fun n => n.coldReset)

/-- WARM_RESET (spec/16 R407). -/
def execWarmReset (safety : Bool) (s : State) : Host.Outcome State Fault Refusal :=
  s.act (.warmReset safety) (fun n => n.warmReset (if safety then 3 else 2) true)

/-- PWR_RESET_WARM (spec/16 R407). -/
def execPwrResetWarm (a : Agent) (s : State) : Host.Outcome State Fault Refusal :=
  s.act (.pwrResetWarm a) (fun n => n.writeReg a Page.PWR 0x050 true 1)

/-- PWR_RESET_COLD (spec/16 R407). -/
def execPwrResetCold (a : Agent) (s : State) : Host.Outcome State Fault Refusal :=
  s.act (.pwrResetCold a) (fun n => n.writeReg a Page.PWR 0x050 true 2)

/-- TALLY_GO (spec/17 R440). -/
def execTallyGo (a : Agent) (s : State) : Host.Outcome State Fault Refusal :=
  s.act (.tallyGo a) (fun n => n.writeReg a Page.TALLY 0x044 true 1)

/-- TALLY_INTERVAL_ELAPSED (spec/17 R440). -/
def execTallyIntervalElapsed (s : State) : Host.Outcome State Fault Refusal :=
  s.act .tallyIntervalElapsed (fun n => n.on (fun b => b.tallyInterval))

/-- TALLY_UPDATE_START (spec/17 R440). -/
def execTallyUpdateStart (cold : Bool) (s : State) : Host.Outcome State Fault Refusal :=
  s.act (.tallyUpdateStart cold) (fun n => n.on (fun b => b.tallyStart cold))

/-- TALLY_ERASE_BAR_DONE (spec/17 R440). -/
def execTallyEraseBarDone (s : State) : Host.Outcome State Fault Refusal :=
  s.act .tallyEraseBarDone (fun n => n.on (fun b => b.tallyErased))

/-- TALLY_CONTENT_DONE (spec/17 R440). -/
def execTallyContentDone (s : State) : Host.Outcome State Fault Refusal :=
  s.act .tallyContentDone (fun n => n.on (fun b => b.tallyWritten))

/-- TALLY_DRAW_BAR_DONE (spec/17 R440). -/
def execTallyDrawBarDone (s : State) : Host.Outcome State Fault Refusal :=
  s.act .tallyDrawBarDone (fun n => n.tallyDrawn)

/-- OASIS_POWER_LOSS (spec/16 R415). -/
def execOasisPowerLoss (s : State) : Host.Outcome State Fault Refusal :=
  s.act .oasisPowerLoss (fun n => n.on (fun b => b.oasisLoss))

end Sys2Proof.Machine
end

