-- ==== Sys2Proof/Machine/CmdRma.lean ====
section
/-! DEFINITION. Machine/CmdRma.lean: the meanings of the commands of windows, queue pairs, packets at the endpoint, Wadi entries (spec/12). -/

namespace Sys2Proof.Machine

/-- WINDOW_ENABLE (spec/12 R279). -/
def execWindowEnable (a : Agent) (s : State) : Host.Outcome State Fault Refusal :=
  s.act (.windowEnable a) (fun n => n.writeBits a Page.XQP 0x088 31 1 1)

/-- WINDOW_DISABLE (spec/12 R280). -/
def execWindowDisable (a : Agent) (s : State) : Host.Outcome State Fault Refusal :=
  s.act (.windowDisable a) (fun n => n.writeBits a Page.XQP 0x088 31 1 0)

/-- QP_RESET_REQ (spec/12 R282). -/
def execQpResetReq (a : Agent) (s : State) : Host.Outcome State Fault Refusal :=
  s.act (.qpResetReq a) (fun n => n.writeBits a Page.XQP 0x050 0 3 0)

/-- QP_INIT_REQ (spec/12 R282). -/
def execQpInitReq (a : Agent) (s : State) : Host.Outcome State Fault Refusal :=
  s.act (.qpInitReq a) (fun n => n.writeBits a Page.XQP 0x050 0 3 1)

/-- QP_READY_REQ (spec/12 R283). -/
def execQpReadyReq (a : Agent) (s : State) : Host.Outcome State Fault Refusal :=
  s.act (.qpReadyReq a) (fun n => n.writeBits a Page.XQP 0x050 0 3 2)

/-- QP_FORCE_ERROR (spec/12 R299). -/
def execQpForceError (a : Agent) (s : State) : Host.Outcome State Fault Refusal :=
  s.act (.qpForceError a) (fun n => n.writeBits a Page.XQP 0x050 0 3 3)

/-- QP_FLUSH_DONE (spec/12 R297). -/
def execQpFlushDone (q : Nat) (s : State) : Host.Outcome State Fault Refusal :=
  s.act (.qpFlushDone q) (fun n => n.on (fun b => b.arriveOwn.flushEnd q))

/-- QP_DOORBELL (spec/12 R284). -/
def execQpDoorbell (a : Agent) (q : Nat) (tail : Nat) (s : State) : Host.Outcome State Fault Refusal :=
  s.act (.qpDoorbell a q tail) (fun n => n.writeReg a Page.XQP 0x044 true (BitVec.ofNat 32 (q + 65536 * tail)))

/-- QP_SEND_PACKET (spec/12 R292). -/
def execQpSendPacket (q : Nat) (s : State) : Host.Outcome State Fault Refusal :=
  s.act (.qpSendPacket q) (fun n => n.on (fun b => b.arriveOwn.qpSend q))

/-- RMA_WRITE_RECEIVE (spec/12 R293). -/
def execRmaWriteReceive (port : Nat) (p : Packet) (s : State) : Host.Outcome State Fault Refusal :=
  s.act (.rmaWriteReceive port p) (fun n => n.on (fun b => b.arriveOwn.rmaRequest (rmaPort port) p))

/-- RMA_WRITE_IMM_RECEIVE (spec/12 R301). -/
def execRmaWriteImmReceive (port : Nat) (p : Packet) (s : State) : Host.Outcome State Fault Refusal :=
  s.act (.rmaWriteImmReceive port p) (fun n => n.on (fun b => b.arriveOwn.rmaRequest (rmaPort port) p))

/-- RMA_READ_REQ_RECEIVE (spec/12 R289). -/
def execRmaReadReqReceive (port : Nat) (p : Packet) (s : State) : Host.Outcome State Fault Refusal :=
  s.act (.rmaReadReqReceive port p) (fun n => n.on (fun b => b.arriveOwn.rmaRequest (rmaPort port) p))

/-- RMA_READ_RESP_RECEIVE (spec/12 R294). -/
def execRmaReadRespReceive (port : Nat) (p : Packet) (s : State) : Host.Outcome State Fault Refusal :=
  s.act (.rmaReadRespReceive port p) (fun n => n.on (fun b => b.arriveOwn.rmaReadResp (rmaPort port) p))

/-- RMA_ACK_RECEIVE (spec/12 R294). -/
def execRmaAckReceive (p : Packet) (s : State) : Host.Outcome State Fault Refusal :=
  s.act (.rmaAckReceive p) (fun n => n.on (fun b => b.arriveOwn.rmaAck p))

/-- RMA_NAK_RECEIVE (spec/12 R295). -/
def execRmaNakReceive (p : Packet) (s : State) : Host.Outcome State Fault Refusal :=
  s.act (.rmaNakReceive p) (fun n => n.on (fun b => b.arriveOwn.rmaNak p))

/-- PLACEMENT_DONE (spec/12 R288). -/
def execPlacementDone (q : Nat) (psn : Nat) (s : State) : Host.Outcome State Fault Refusal :=
  s.act (.placementDone q psn) (fun n => n.on (fun b => b.arriveOwn.placementDone q psn))

/-- ACK_SEND (spec/12 R294). -/
def execAckSend (q : Nat) (s : State) : Host.Outcome State Fault Refusal :=
  s.act (.ackSend q) (fun n => n.on (fun b => b.arriveOwn.ackSend q))

/-- RETRY_TIMEOUT (spec/12 R295). -/
def execRetryTimeout (q : Nat) (s : State) : Host.Outcome State Fault Refusal :=
  s.act (.retryTimeout q) (fun n => n.on (fun b => b.arriveOwn.retryTimeout q))

/-- REMOTE_HOLD_TIMEOUT (spec/12 R291). -/
def execRemoteHoldTimeout (q : Nat) (psn : Nat) (s : State) : Host.Outcome State Fault Refusal :=
  s.act (.remoteHoldTimeout q psn) (fun n => n.on (fun b => b.arriveOwn.remoteHold q psn))

/-- CQ_OVERFLOW_CLEAR (spec/12 R287). -/
def execCqOverflowClear (a : Agent) (c : Nat) (s : State) : Host.Outcome State Fault Refusal :=
  s.act (.cqOverflowClear a c) (fun n => n.writeReg a Page.XQP (0x214 + 0x20 * c) true 1)

/-- WADI_BUMP (spec/12 R301). -/
def execWadiBump (a : Agent) (e : Nat) (inc : Nat) (s : State) : Host.Outcome State Fault Refusal :=
  s.act (.wadiBump a e inc) (fun n => n.writeReg a Page.XQP 0x0E0 true (BitVec.ofNat 32 (e + 65536 * inc)))

/-- WADI_ARM (spec/12 R302). -/
def execWadiArm (a : Agent) (s : State) : Host.Outcome State Fault Refusal :=
  s.act (.wadiArm a) (fun n => n.writeBits a Page.XQP 0x0A4 1 1 1)

/-- WADI_PENDING_POST (spec/12 R303). -/
def execWadiPendingPost (s : State) : Host.Outcome State Fault Refusal :=
  s.act .wadiPendingPost (fun n => n.on (fun b => b.wadiPending))

end Sys2Proof.Machine
end

