-- ==== Sys2Proof/Machine/CmdSafety.lean ====
section
/-! DEFINITION. Machine/CmdSafety.lean: the meanings of the commands of the safety monitor (spec/20). -/

namespace Sys2Proof.Machine

/-- SAFE_CAUSE_ACTIVE (spec/20 R504). -/
def execSafeCauseActive (s : State) : Host.Outcome State Fault Refusal :=
  s.act .safeCauseActive (fun n => n.on (fun b => b.causesActive))

/-- SAFETY_WARM_RESET (spec/20 R506). -/
def execSafetyWarmReset (s : State) : Host.Outcome State Fault Refusal :=
  s.act .safetyWarmReset (fun n => n.safetyReset)

/-- CLOCK_WINDOW (spec/20 R512). -/
def execClockWindow (counts : List Nat) (s : State) : Host.Outcome State Fault Refusal :=
  s.act (.clockWindow counts) (fun n => n.on (fun b => b.clockWindow counts))

/-- CLOCK_STALL (spec/20 R512). -/
def execClockStall (s : State) : Host.Outcome State Fault Refusal :=
  s.act .clockStall (fun n => n.on (fun b => b.clockStall))

end Sys2Proof.Machine
end

