-- ==== Sys2Proof/Machine/CmdSearch.lean ====
section
/-! DEFINITION. Machine/CmdSearch.lean: the meanings of the commands of vector search (spec/14). -/

namespace Sys2Proof.Machine

/-- SHARD_LOAD (spec/14 R347). -/
def execShardLoad (a : Agent) (slot : Nat) (s : State) : Host.Outcome State Fault Refusal :=
  s.act (.shardLoad a slot) (fun n => n.writeReg a Page.SEARCH (0x108 + 0x20 * slot) true 1)

/-- SHARD_LOAD_DONE (spec/14 R347). -/
def execShardLoadDone (slot : Nat) (s : State) : Host.Outcome State Fault Refusal :=
  s.act (.shardLoadDone slot) (fun n => n.on (fun b => b.shardLoadDone slot))

/-- SHARD_UNLOAD (spec/14 R363). -/
def execShardUnload (a : Agent) (slot : Nat) (s : State) : Host.Outcome State Fault Refusal :=
  s.act (.shardUnload a slot) (fun n => n.writeReg a Page.SEARCH (0x108 + 0x20 * slot) true 2)

/-- QUERY_POST (spec/14 R353). -/
def execQueryPost (a : Agent) (tail : Nat) (s : State) : Host.Outcome State Fault Refusal :=
  s.act (.queryPost a tail) (fun n => n.writeReg a Page.SEARCH 0x080 true (BitVec.ofNat 32 tail))

/-- TREE_QUERY_RECEIVE (spec/14 R355). -/
def execTreeQueryReceive (cell : Nat) (len : Nat) (s : State) : Host.Outcome State Fault Refusal :=
  s.act (.treeQueryReceive cell len) (fun n => n.on (fun b => b.treeQuery cell len))

/-- TREE_RESULT_RECEIVE (spec/14 R358). -/
def execTreeResultReceive (cell : Nat) (len : Nat) (s : State) : Host.Outcome State Fault Refusal :=
  s.act (.treeResultReceive cell len) (fun n => n.on (fun b => b.treeResult cell len))

/-- TREE_FINAL_RECEIVE (spec/14 R355). -/
def execTreeFinalReceive (cell : Nat) (len : Nat) (s : State) : Host.Outcome State Fault Refusal :=
  s.act (.treeFinalReceive cell len) (fun n => n.on (fun b => b.treeFinal cell len))

/-- SHARD_SCAN_DONE (spec/14 R351). -/
def execShardScanDone (hits : List Nat) (ccFail : Bool) (s : State) : Host.Outcome State Fault Refusal :=
  s.act (.shardScanDone hits ccFail) (fun n => n.on (fun b => b.shardScanDone hits ccFail))

/-- QUERY_TIMEOUT (spec/14 R359). -/
def execQueryTimeout (s : State) : Host.Outcome State Fault Refusal :=
  s.act .queryTimeout (fun n => n.on (fun b => b.queryTimeout))

/-- QUERY_ABANDON (spec/14 R359). -/
def execQueryAbandon (s : State) : Host.Outcome State Fault Refusal :=
  s.act .queryAbandon (fun n => n.on (fun b => b.queryAbandon))

/-- LIST_REREAD (spec/14 R360). -/
def execListReread (s : State) : Host.Outcome State Fault Refusal :=
  s.act .listReread (fun n => n.on (fun b => b.listReread))

/-- PREFETCH_AGE_EXPIRY (spec/14 R362). -/
def execPrefetchAgeExpiry (s : State) : Host.Outcome State Fault Refusal :=
  s.act .prefetchAgeExpiry (fun n => n.on (fun b => b.prefetchAge))

end Sys2Proof.Machine
end

