-- ==== Sys2Proof/Machine/CmdSentinel.lean ====
section
/-! DEFINITION. Machine/CmdSentinel.lean: the meanings of the commands of the flash-pattern detector (spec/16). -/

namespace Sys2Proof.Machine

/-- SENTINEL_SAMPLE (spec/16 R419). -/
def execSentinelSample (levels : List Nat) (s : State) : Host.Outcome State Fault Refusal :=
  s.act (.sentinelSample levels) (fun n => n.on (fun b => b.sentinelSample levels))

/-- PATTERN_HOLDOFF_END (spec/16 R421). -/
def execPatternHoldoffEnd (p : Nat) (s : State) : Host.Outcome State Fault Refusal :=
  s.act (.patternHoldoffEnd p) (fun n => n.on (fun b => b.holdoffEnd p))

/-- PATTERN_REG_WRITE (spec/16 R422). -/
def execPatternRegWrite (a : Agent) (p : Nat) (r : Nat) (v : Word) (s : State) : Host.Outcome State Fault Refusal :=
  s.act (.patternRegWrite a p r v) (fun n => n.writeReg a Page.OASIS (0x100 + 0x10 * p + 4 * r) true v)

end Sys2Proof.Machine
end

