-- ==== Sys2Proof/Machine/CmdTiles.lean ====
section
/-! DEFINITION. Machine/CmdTiles.lean: the meanings of the commands of scratchpads, tags, groups, operators (spec/07, spec/08, spec/13). -/

namespace Sys2Proof.Machine

/-- SPM_ACCESS (spec/07 R151). -/
def execSpmAccess (x : SpmAccess) (s : State) : Host.Outcome State Fault Refusal :=
  s.act (.spmAccess x) (fun n => n.on (fun b => b.spmAccess x))

/-- TAG_ONLY_OP (spec/07 R153). -/
def execTagOnlyOp (t : Nat) (slot : Nat) (full : Bool) (upsets : List Upset) (s : State) : Host.Outcome State Fault Refusal :=
  s.act (.tagOnlyOp t slot full upsets) (fun n => n.on (fun b => (b.struck upsets).tagOnly t slot full))

/-- TAG_WAIT_RELEASE (spec/07 R156). -/
def execTagWaitRelease (t : Nat) (slot : Nat) (s : State) : Host.Outcome State Fault Refusal :=
  s.act (.tagWaitRelease t slot) (fun n => n.on (fun b => b.releaseWaits t slot))

/-- TAG_TIMEOUT (spec/07 R159). -/
def execTagTimeout (t : Nat) (req : Nat) (s : State) : Host.Outcome State Fault Refusal :=
  s.act (.tagTimeout t req) (fun n => n.on (fun b => b.tagTimeout t req))

/-- ATTR_WRITE (spec/07 R163). -/
def execAttrWrite (a : Agent) (t : Nat) (g : Nat) (v : Nat) (s : State) : Host.Outcome State Fault Refusal :=
  s.act (.attrWrite a t g v) (fun n => n.writeBits a Page.SPM (0x100 + 0x10 * t + 4 * (g / 16)) (2 * (g % 16)) 2 v)

/-- GRANULE_INIT_DONE (spec/07 R163). -/
def execGranuleInitDone (t : Nat) (g : Nat) (s : State) : Host.Outcome State Fault Refusal :=
  s.act (.granuleInitDone t g) (fun n => n.on (fun b => b.initDone t g))

/-- SCRUB_STEP (spec/07 R167). -/
def execScrubStep (upsets : List Upset) (s : State) : Host.Outcome State Fault Refusal :=
  s.act (.scrubStep upsets) (fun n => n.on (fun b => (b.struck upsets).scrubStep))

/-- CC_GO (spec/07 R169). -/
def execCcGo (a : Agent) (t : Nat) (byGroup : Bool) (desc : List Byte) (s : State) : Host.Outcome State Fault Refusal :=
  s.act (.ccGo a t byGroup desc) (fun n => n.ccGo a t byGroup desc)

/-- CC_DONE (spec/07 R171). -/
def execCcDone (t : Nat) (s : State) : Host.Outcome State Fault Refusal :=
  s.act (.ccDone t) (fun n => n.on (fun b => b.ccDone t))

/-- GROUP_START (spec/13 R319). -/
def execGroupStart (s : State) : Host.Outcome State Fault Refusal :=
  s.act .groupStart (fun n => n.on (fun b => b.startAll))

/-- GROUP_END (spec/07 R172). -/
def execGroupEnd (t : Nat) (s : State) : Host.Outcome State Fault Refusal :=
  s.act (.groupEnd t) (fun n => n.on (fun b => b.groupEnd t))

/-- TILE_CANCEL (spec/07 R172). -/
def execTileCancel (a : Agent) (t : Nat) (s : State) : Host.Outcome State Fault Refusal :=
  s.act (.tileCancel a t) (fun n => n.writeBits a (tilePage t) 0x040 3 1 1)

/-- TILE_RELEASE (spec/07 R172). -/
def execTileRelease (a : Agent) (t : Nat) (s : State) : Host.Outcome State Fault Refusal :=
  s.act (.tileRelease a t) (fun n => n.writeBits a (tilePage t) 0x040 1 1 1)

/-- TILE_MAP_OUT (spec/07 R172). -/
def execTileMapOut (a : Agent) (t : Nat) (s : State) : Host.Outcome State Fault Refusal :=
  s.act (.tileMapOut a t) (fun n => n.writeBits a (tilePage t) 0x040 0 1 1)

/-- TILE_MAP_IN (spec/07 R172). -/
def execTileMapIn (a : Agent) (t : Nat) (s : State) : Host.Outcome State Fault Refusal :=
  s.act (.tileMapIn a t) (fun n => n.writeBits a (tilePage t) 0x040 0 1 0)

/-- TILE_SELF_CHECK (spec/07 R173). -/
def execTileSelfCheck (a : Agent) (t : Nat) (s : State) : Host.Outcome State Fault Refusal :=
  s.act (.tileSelfCheck a t) (fun n => n.writeBits a (tilePage t) 0x040 2 1 1)

/-- SELF_CHECK_DONE (spec/07 R173). -/
def execSelfCheckDone (t : Nat) (fail : Bool) (s : State) : Host.Outcome State Fault Refusal :=
  s.act (.selfCheckDone t fail) (fun n => n.on (fun b => b.selfCheckDone t fail))

/-- DBG_DATA_ACCESS (spec/07 R175). -/
def execDbgDataAccess (a : Agent) (write : Bool) (v : Word) (s : State) : Host.Outcome State Fault Refusal :=
  s.act (.dbgDataAccess a write v) (fun n => n.dataAccess a Page.SPM 0x04C write v)

/-- DBG_TAG_WRITE (spec/07 R175). -/
def execDbgTagWrite (a : Agent) (full : Bool) (s : State) : Host.Outcome State Fault Refusal :=
  s.act (.dbgTagWrite a full) (fun n => n.writeBits a Page.SPM 0x050 0 1 (bitNat full))

/-- OPERATOR_ISSUE (spec/08 R188). -/
def execOperatorIssue (t : Nat) (offset : Nat) (s : State) : Host.Outcome State Fault Refusal :=
  s.act (.operatorIssue t offset) (fun n => n.on (fun b => b.operatorIssue t offset))

/-- OUTPUT_ROW_DONE (spec/08 R192). -/
def execOutputRowDone (t : Nat) (vector : Bool) (s : State) : Host.Outcome State Fault Refusal :=
  s.act (.outputRowDone t vector) (fun n => n.on (fun b => b.outputRow t vector))

/-- VECTOR_OP (spec/08 R196). -/
def execVectorOp (v : VectorOp) (s : State) : Host.Outcome State Fault Refusal :=
  s.act (.vectorOp v) (fun n => n.on (fun b => b.vectorOp v))

end Sys2Proof.Machine
end

