-- ==== Sys2Proof/Machine/Dispatch.lean ====
section
/-! DEFINITION. Machine/Dispatch.lean: the meaning of each command. -/

namespace Sys2Proof.Machine

/-- What a command does to everything but the queue. -/
def exec (i : Instr) (s : State) : Host.Outcome State Fault Refusal :=
  match i with
  | .linePeriodStart slot0 slot1 inputs => Sys2Proof.Machine.execLinePeriodStart slot0 slot1 inputs s
  | .frameModeApply => Sys2Proof.Machine.execFrameModeApply s
  | .shlApply => Sys2Proof.Machine.execShlApply s
  | .thermalTrip => Sys2Proof.Machine.execThermalTrip s
  | .beatSend => Sys2Proof.Machine.execBeatSend s
  | .beatReceive port beat offset => Sys2Proof.Machine.execBeatReceive port beat offset s
  | .beatLossLimit => Sys2Proof.Machine.execBeatLossLimit s
  | .backupTakeover => Sys2Proof.Machine.execBackupTakeover s
  | .holdoverLimitExpiry => Sys2Proof.Machine.execHoldoverLimitExpiry s
  | .syncInEdge edge => Sys2Proof.Machine.execSyncInEdge edge s
  | .syncInLost => Sys2Proof.Machine.execSyncInLost s
  | .syncOutPulseStart => Sys2Proof.Machine.execSyncOutPulseStart s
  | .syncOutPulseEnd => Sys2Proof.Machine.execSyncOutPulseEnd s
  | .mapBlockBuild t => Sys2Proof.Machine.execMapBlockBuild t s
  | .mapNow a => Sys2Proof.Machine.execMapNow a s
  | .frameModeWrite a v => Sys2Proof.Machine.execFrameModeWrite a v s
  | .roleMasterWrite a on => Sys2Proof.Machine.execRoleMasterWrite a on s
  | .syncinEnableWrite a => Sys2Proof.Machine.execSyncinEnableWrite a s
  | .wideLowRead a page off => Sys2Proof.Machine.execWideLowRead a page off s
  | .wideLowWrite a page off v => Sys2Proof.Machine.execWideLowWrite a page off v s
  | .wideHighWrite a page off v => Sys2Proof.Machine.execWideHighWrite a page off v s
  | .registerWrite a page off word v => Sys2Proof.Machine.execRegisterWrite a page off word v s
  | .shadowWrite a page off v => Sys2Proof.Machine.execShadowWrite a page off v s
  | .shlCoordWrite a page off v => Sys2Proof.Machine.execShlCoordWrite a page off v s
  | .shadowHold a page => Sys2Proof.Machine.execShadowHold a page s
  | .shadowRelease a page => Sys2Proof.Machine.execShadowRelease a page s
  | .shadowDiscard a page => Sys2Proof.Machine.execShadowDiscard a page s
  | .blockEnable a page on => Sys2Proof.Machine.execBlockEnable a page on s
  | .blockFreeze a page on => Sys2Proof.Machine.execBlockFreeze a page on s
  | .freezeStop page => Sys2Proof.Machine.execFreezeStop page s
  | .softReset a page => Sys2Proof.Machine.execSoftReset a page s
  | .softResetDone page => Sys2Proof.Machine.execSoftResetDone page s
  | .errCountClear a page => Sys2Proof.Machine.execErrCountClear a page s
  | .irqClear a page v same => Sys2Proof.Machine.execIrqClear a page v same s
  | .irqEnableWrite a page v => Sys2Proof.Machine.execIrqEnableWrite a page v s
  | .irqForce a page v => Sys2Proof.Machine.execIrqForce a page v s
  | .errCaptureClear a page => Sys2Proof.Machine.execErrCaptureClear a page s
  | .lockWrite a page v => Sys2Proof.Machine.execLockWrite a page v s
  | .crcScanVisit page => Sys2Proof.Machine.execCrcScanVisit page s
  | .sentinelSample levels => Sys2Proof.Machine.execSentinelSample levels s
  | .patternHoldoffEnd p => Sys2Proof.Machine.execPatternHoldoffEnd p s
  | .patternRegWrite a p r v => Sys2Proof.Machine.execPatternRegWrite a p r v s
  | .csiFrameStart port vc fn corrected => Sys2Proof.Machine.execCsiFrameStart port vc fn corrected s
  | .csiFrameEnd port vc corrected => Sys2Proof.Machine.execCsiFrameEnd port vc corrected s
  | .csiLongPacket port vc dt corrected bad px => Sys2Proof.Machine.execCsiLongPacket port vc dt corrected bad px s
  | .csiOtherPacket port vc kind corrected => Sys2Proof.Machine.execCsiOtherPacket port vc kind corrected s
  | .csiSotError port => Sys2Proof.Machine.execCsiSotError port s
  | .lineTimeout j => Sys2Proof.Machine.execLineTimeout j s
  | .frameTimeout j => Sys2Proof.Machine.execFrameTimeout j s
  | .padLine j => Sys2Proof.Machine.execPadLine j s
  | .ispLineProcess errors => Sys2Proof.Machine.execIspLineProcess errors s
  | .ispHoldRelease c => Sys2Proof.Machine.execIspHoldRelease c s
  | .ispHoldTimeout c => Sys2Proof.Machine.execIspHoldTimeout c s
  | .ispFrameEnd c => Sys2Proof.Machine.execIspFrameEnd c s
  | .descLost c => Sys2Proof.Machine.execDescLost c s
  | .tableDataAccess a write error => Sys2Proof.Machine.execTableDataAccess a write error s
  | .spmAccess x => Sys2Proof.Machine.execSpmAccess x s
  | .tagOnlyOp t slot full upsets => Sys2Proof.Machine.execTagOnlyOp t slot full upsets s
  | .tagWaitRelease t slot => Sys2Proof.Machine.execTagWaitRelease t slot s
  | .tagTimeout t req => Sys2Proof.Machine.execTagTimeout t req s
  | .attrWrite a t g v => Sys2Proof.Machine.execAttrWrite a t g v s
  | .granuleInitDone t g => Sys2Proof.Machine.execGranuleInitDone t g s
  | .scrubStep upsets => Sys2Proof.Machine.execScrubStep upsets s
  | .ccGo a t byGroup desc => Sys2Proof.Machine.execCcGo a t byGroup desc s
  | .ccDone t => Sys2Proof.Machine.execCcDone t s
  | .groupStart => Sys2Proof.Machine.execGroupStart s
  | .groupEnd t => Sys2Proof.Machine.execGroupEnd t s
  | .tileCancel a t => Sys2Proof.Machine.execTileCancel a t s
  | .tileRelease a t => Sys2Proof.Machine.execTileRelease a t s
  | .tileMapOut a t => Sys2Proof.Machine.execTileMapOut a t s
  | .tileMapIn a t => Sys2Proof.Machine.execTileMapIn a t s
  | .tileSelfCheck a t => Sys2Proof.Machine.execTileSelfCheck a t s
  | .selfCheckDone t fail => Sys2Proof.Machine.execSelfCheckDone t fail s
  | .dbgDataAccess a write v => Sys2Proof.Machine.execDbgDataAccess a write v s
  | .dbgTagWrite a full => Sys2Proof.Machine.execDbgTagWrite a full s
  | .operatorIssue t offset => Sys2Proof.Machine.execOperatorIssue t offset s
  | .outputRowDone t vector => Sys2Proof.Machine.execOutputRowDone t vector s
  | .vectorOp v => Sys2Proof.Machine.execVectorOp v s
  | .packGo a => Sys2Proof.Machine.execPackGo a s
  | .packDone => Sys2Proof.Machine.execPackDone s
  | .expandGo a t => Sys2Proof.Machine.execExpandGo a t s
  | .expandDone => Sys2Proof.Machine.execExpandDone s
  | .moverTailWrite a c tail => Sys2Proof.Machine.execMoverTailWrite a c tail s
  | .moverDescDone c flashErrs => Sys2Proof.Machine.execMoverDescDone c flashErrs s
  | .moverResume a c => Sys2Proof.Machine.execMoverResume a c s
  | .moverSkip a c => Sys2Proof.Machine.execMoverSkip a c s
  | .moverAbort a c => Sys2Proof.Machine.execMoverAbort a c s
  | .bulkAccess x => Sys2Proof.Machine.execBulkAccess x s
  | .reloadComplete flashErr => Sys2Proof.Machine.execReloadComplete flashErr s
  | .reloadHoldTimeout => Sys2Proof.Machine.execReloadHoldTimeout s
  | .bulkScrubStep upsets => Sys2Proof.Machine.execBulkScrubStep upsets s
  | .retireLoad a => Sys2Proof.Machine.execRetireLoad a s
  | .retireForced a => Sys2Proof.Machine.execRetireForced a s
  | .shareWrite a v => Sys2Proof.Machine.execShareWrite a v s
  | .linkSignalDetect port => Sys2Proof.Machine.execLinkSignalDetect port s
  | .linkAdapted port => Sys2Proof.Machine.execLinkAdapted port s
  | .linkAligned port => Sys2Proof.Machine.execLinkAligned port s
  | .identSend port => Sys2Proof.Machine.execIdentSend port s
  | .identReceive port xver id => Sys2Proof.Machine.execIdentReceive port xver id s
  | .linkMeasureDone port delayPs => Sys2Proof.Machine.execLinkMeasureDone port delayPs s
  | .trainTimeout port => Sys2Proof.Machine.execTrainTimeout port s
  | .trainBackoffEnd port => Sys2Proof.Machine.execTrainBackoffEnd port s
  | .portOpen a port => Sys2Proof.Machine.execPortOpen a port s
  | .portRetrain a port => Sys2Proof.Machine.execPortRetrain a port s
  | .linkDown port uncorr counted lockLost => Sys2Proof.Machine.execLinkDown port uncorr counted lockLost s
  | .xanarPacketReceive x => Sys2Proof.Machine.execXanarPacketReceive x s
  | .pauseLong port c => Sys2Proof.Machine.execPauseLong port c s
  | .nodeIdWrite a v => Sys2Proof.Machine.execNodeIdWrite a v s
  | .rtDataAccess a write v => Sys2Proof.Machine.execRtDataAccess a write v s
  | .routeArm a epoch on => Sys2Proof.Machine.execRouteArm a epoch on s
  | .routeGo a epoch => Sys2Proof.Machine.execRouteGo a epoch s
  | .routeEpochReceive port d => Sys2Proof.Machine.execRouteEpochReceive port d s
  | .routeSwitch => Sys2Proof.Machine.execRouteSwitch s
  | .tapEnable a port ctx => Sys2Proof.Machine.execTapEnable a port ctx s
  | .windowEnable a => Sys2Proof.Machine.execWindowEnable a s
  | .windowDisable a => Sys2Proof.Machine.execWindowDisable a s
  | .qpResetReq a => Sys2Proof.Machine.execQpResetReq a s
  | .qpInitReq a => Sys2Proof.Machine.execQpInitReq a s
  | .qpReadyReq a => Sys2Proof.Machine.execQpReadyReq a s
  | .qpForceError a => Sys2Proof.Machine.execQpForceError a s
  | .qpFlushDone q => Sys2Proof.Machine.execQpFlushDone q s
  | .qpDoorbell a q tail => Sys2Proof.Machine.execQpDoorbell a q tail s
  | .qpSendPacket q => Sys2Proof.Machine.execQpSendPacket q s
  | .rmaWriteReceive port p => Sys2Proof.Machine.execRmaWriteReceive port p s
  | .rmaWriteImmReceive port p => Sys2Proof.Machine.execRmaWriteImmReceive port p s
  | .rmaReadReqReceive port p => Sys2Proof.Machine.execRmaReadReqReceive port p s
  | .rmaReadRespReceive port p => Sys2Proof.Machine.execRmaReadRespReceive port p s
  | .rmaAckReceive p => Sys2Proof.Machine.execRmaAckReceive p s
  | .rmaNakReceive p => Sys2Proof.Machine.execRmaNakReceive p s
  | .placementDone q psn => Sys2Proof.Machine.execPlacementDone q psn s
  | .ackSend q => Sys2Proof.Machine.execAckSend q s
  | .retryTimeout q => Sys2Proof.Machine.execRetryTimeout q s
  | .remoteHoldTimeout q psn => Sys2Proof.Machine.execRemoteHoldTimeout q psn s
  | .cqOverflowClear a c => Sys2Proof.Machine.execCqOverflowClear a c s
  | .wadiBump a e inc => Sys2Proof.Machine.execWadiBump a e inc s
  | .wadiArm a => Sys2Proof.Machine.execWadiArm a s
  | .wadiPendingPost => Sys2Proof.Machine.execWadiPendingPost s
  | .instanceOpen => Sys2Proof.Machine.execInstanceOpen s
  | .instanceMissed => Sys2Proof.Machine.execInstanceMissed s
  | .jobTimeout => Sys2Proof.Machine.execJobTimeout s
  | .overrunCheck => Sys2Proof.Machine.execOverrunCheck s
  | .heartbeatDue => Sys2Proof.Machine.execHeartbeatDue s
  | .heartbeatLost => Sys2Proof.Machine.execHeartbeatLost s
  | .aliveWrite a => Sys2Proof.Machine.execAliveWrite a s
  | .schedKick a e f => Sys2Proof.Machine.execSchedKick a e f s
  | .entDataWrite a w v => Sys2Proof.Machine.execEntDataWrite a w v s
  | .joinSend a v => Sys2Proof.Machine.execJoinSend a v s
  | .joinReceive port d => Sys2Proof.Machine.execJoinReceive port d s
  | .helloSend => Sys2Proof.Machine.execHelloSend s
  | .helloReceive port d => Sys2Proof.Machine.execHelloReceive port d s
  | .helloTimeout port => Sys2Proof.Machine.execHelloTimeout port s
  | .coordinatorDecide extra => Sys2Proof.Machine.execCoordinatorDecide extra s
  | .startReceive port d => Sys2Proof.Machine.execStartReceive port d s
  | .lossDetect port => Sys2Proof.Machine.execLossDetect port s
  | .lossReceive port d => Sys2Proof.Machine.execLossReceive port d s
  | .lossRouteGo => Sys2Proof.Machine.execLossRouteGo s
  | .qpSyncReceive d => Sys2Proof.Machine.execQpSyncReceive d s
  | .qpSyncResend q => Sys2Proof.Machine.execQpSyncResend q s
  | .tileCondemn t lead => Sys2Proof.Machine.execTileCondemn t lead s
  | .shardLoad a slot => Sys2Proof.Machine.execShardLoad a slot s
  | .shardLoadDone slot => Sys2Proof.Machine.execShardLoadDone slot s
  | .shardUnload a slot => Sys2Proof.Machine.execShardUnload a slot s
  | .queryPost a tail => Sys2Proof.Machine.execQueryPost a tail s
  | .treeQueryReceive cell len => Sys2Proof.Machine.execTreeQueryReceive cell len s
  | .treeResultReceive cell len => Sys2Proof.Machine.execTreeResultReceive cell len s
  | .treeFinalReceive cell len => Sys2Proof.Machine.execTreeFinalReceive cell len s
  | .shardScanDone hits ccFail => Sys2Proof.Machine.execShardScanDone hits ccFail s
  | .queryTimeout => Sys2Proof.Machine.execQueryTimeout s
  | .queryAbandon => Sys2Proof.Machine.execQueryAbandon s
  | .listReread => Sys2Proof.Machine.execListReread s
  | .prefetchAgeExpiry => Sys2Proof.Machine.execPrefetchAgeExpiry s
  | .icpOpen m => Sys2Proof.Machine.execIcpOpen m s
  | .icpClose m => Sys2Proof.Machine.execIcpClose m s
  | .icpAck m => Sys2Proof.Machine.execIcpAck m s
  | .icpRequest m => Sys2Proof.Machine.execIcpRequest m s
  | .icpPing m => Sys2Proof.Machine.execIcpPing m s
  | .fragTimeout k => Sys2Proof.Machine.execFragTimeout k s
  | .resendTimeout k => Sys2Proof.Machine.execResendTimeout k s
  | .journalMirrorDone e => Sys2Proof.Machine.execJournalMirrorDone e s
  | .journalFlashDone e flashErr => Sys2Proof.Machine.execJournalFlashDone e flashErr s
  | .mirrorTimeout e => Sys2Proof.Machine.execMirrorTimeout e s
  | .journalModeWrite a => Sys2Proof.Machine.execJournalModeWrite a s
  | .journalCommit a e => Sys2Proof.Machine.execJournalCommit a e s
  | .journalRecovery recs ctxs => Sys2Proof.Machine.execJournalRecovery recs ctxs s
  | .fosterStart ctxs => Sys2Proof.Machine.execFosterStart ctxs s
  | .fosterEnd restored => Sys2Proof.Machine.execFosterEnd restored s
  | .wardDamaged page => Sys2Proof.Machine.execWardDamaged page s
  | .reqQuery ward e => Sys2Proof.Machine.execReqQuery ward e s
  | .reqSubscribe ward e => Sys2Proof.Machine.execReqSubscribe ward e s
  | .reqReg ward e => Sys2Proof.Machine.execReqReg ward e s
  | .reqConfigClient ward e => Sys2Proof.Machine.execReqConfigClient ward e s
  | .reqPlanOffer ward e plan => Sys2Proof.Machine.execReqPlanOffer ward e plan s
  | .reqPriv ward e env flashErr => Sys2Proof.Machine.execReqPriv ward e env flashErr s
  | .reqHealthNow ward e => Sys2Proof.Machine.execReqHealthNow ward e s
  | .itemPost a tail => Sys2Proof.Machine.execItemPost a tail s
  | .emptyFrameClose v => Sys2Proof.Machine.execEmptyFrameClose v s
  | .healthPeriodic => Sys2Proof.Machine.execHealthPeriodic s
  | .safeHealthRepeat => Sys2Proof.Machine.execSafeHealthRepeat s
  | .maintHealthRepeat => Sys2Proof.Machine.execMaintHealthRepeat s
  | .wakeEventAppend => Sys2Proof.Machine.execWakeEventAppend s
  | .canHeartbeatDue c => Sys2Proof.Machine.execCanHeartbeatDue c s
  | .hbArm a c => Sys2Proof.Machine.execHbArm a c s
  | .canRxFrame c bad => Sys2Proof.Machine.execCanRxFrame c bad s
  | .canBusOffRecovery c => Sys2Proof.Machine.execCanBusOffRecovery c s
  | .ethFrameReceive m f => Sys2Proof.Machine.execEthFrameReceive m f s
  | .ptpTx a m v t => Sys2Proof.Machine.execPtpTx a m v t s
  | .ptpStep a m v => Sys2Proof.Machine.execPtpStep a m v s
  | .modeRequest a target fmode => Sys2Proof.Machine.execModeRequest a target fmode s
  | .modeStep => Sys2Proof.Machine.execModeStep s
  | .modeDone => Sys2Proof.Machine.execModeDone s
  | .wakeStart => Sys2Proof.Machine.execWakeStart s
  | .oasisTick vin hold holdup fail closed => Sys2Proof.Machine.execOasisTick vin hold holdup fail closed s
  | .vinRideExpiry => Sys2Proof.Machine.execVinRideExpiry s
  | .powerFailShutdown => Sys2Proof.Machine.execPowerFailShutdown s
  | .supplyGood => Sys2Proof.Machine.execSupplyGood s
  | .powerOn => Sys2Proof.Machine.execPowerOn s
  | .railUndervoltage d => Sys2Proof.Machine.execRailUndervoltage d s
  | .rtcWrite a v => Sys2Proof.Machine.execRtcWrite a v s
  | .rtcAlarm => Sys2Proof.Machine.execRtcAlarm s
  | .presDebounceChange => Sys2Proof.Machine.execPresDebounceChange s
  | .presenceOpen => Sys2Proof.Machine.execPresenceOpen s
  | .presenceClose => Sys2Proof.Machine.execPresenceClose s
  | .presStuck => Sys2Proof.Machine.execPresStuck s
  | .storeWeak => Sys2Proof.Machine.execStoreWeak s
  | .coldReset => Sys2Proof.Machine.execColdReset s
  | .warmReset safety => Sys2Proof.Machine.execWarmReset safety s
  | .pwrResetWarm a => Sys2Proof.Machine.execPwrResetWarm a s
  | .pwrResetCold a => Sys2Proof.Machine.execPwrResetCold a s
  | .tallyGo a => Sys2Proof.Machine.execTallyGo a s
  | .tallyIntervalElapsed => Sys2Proof.Machine.execTallyIntervalElapsed s
  | .tallyUpdateStart cold => Sys2Proof.Machine.execTallyUpdateStart cold s
  | .tallyEraseBarDone => Sys2Proof.Machine.execTallyEraseBarDone s
  | .tallyContentDone => Sys2Proof.Machine.execTallyContentDone s
  | .tallyDrawBarDone => Sys2Proof.Machine.execTallyDrawBarDone s
  | .ergStart => Sys2Proof.Machine.execErgStart s
  | .ergReadyTimeout => Sys2Proof.Machine.execErgReadyTimeout s
  | .ergConfirmTimeout => Sys2Proof.Machine.execErgConfirmTimeout s
  | .ergStable => Sys2Proof.Machine.execErgStable s
  | .ergWatchdogExpiry => Sys2Proof.Machine.execErgWatchdogExpiry s
  | .ergKick a => Sys2Proof.Machine.execErgKick a s
  | .mbReady => Sys2Proof.Machine.execMbReady s
  | .mbConfirm flashErr => Sys2Proof.Machine.execMbConfirm flashErr s
  | .mbActivate flashErr => Sys2Proof.Machine.execMbActivate flashErr s
  | .mbReset => Sys2Proof.Machine.execMbReset s
  | .mbTally => Sys2Proof.Machine.execMbTally s
  | .mbFuseRead => Sys2Proof.Machine.execMbFuseRead s
  | .mbPriv env flashErr => Sys2Proof.Machine.execMbPriv env flashErr s
  | .mbOwnerBind flashErr => Sys2Proof.Machine.execMbOwnerBind flashErr s
  | .ipi a cores => Sys2Proof.Machine.execIpi a cores s
  | .xcapClear a => Sys2Proof.Machine.execXcapClear a s
  | .lockstepError => Sys2Proof.Machine.execLockstepError s
  | .kernelInvoke core r => Sys2Proof.Machine.execKernelInvoke core r s
  | .kernelExit core status cycles => Sys2Proof.Machine.execKernelExit core status cycles s
  | .kernelEmit core w off target => Sys2Proof.Machine.execKernelEmit core w off target s
  | .kernelQuery core w off => Sys2Proof.Machine.execKernelQuery core w off s
  | .kernelNow core => Sys2Proof.Machine.execKernelNow core s
  | .kernelLog core code bytes => Sys2Proof.Machine.execKernelLog core code bytes s
  | .kernelFault core => Sys2Proof.Machine.execKernelFault core s
  | .kernelBudget core => Sys2Proof.Machine.execKernelBudget core s
  | .fuseProgGo a => Sys2Proof.Machine.execFuseProgGo a s
  | .fuseAttemptDone weak => Sys2Proof.Machine.execFuseAttemptDone weak s
  | .fuseLockWrite a which => Sys2Proof.Machine.execFuseLockWrite a which s
  | .privLcAdvance target env => Sys2Proof.Machine.execPrivLcAdvance target env s
  | .privFuseBurn field slot value env => Sys2Proof.Machine.execPrivFuseBurn field slot value env s
  | .privKeyRevoke kind index env => Sys2Proof.Machine.execPrivKeyRevoke kind index env s
  | .privArbCommit kind target env => Sys2Proof.Machine.execPrivArbCommit kind target env s
  | .privFuseTrial slot on hash => Sys2Proof.Machine.execPrivFuseTrial slot on hash s
  | .privPatchInstall off len flashErr => Sys2Proof.Machine.execPrivPatchInstall off len flashErr s
  | .privFactoryReset => Sys2Proof.Machine.execPrivFactoryReset s
  | .returnReq auth env => Sys2Proof.Machine.execReturnReq auth env s
  | .jtagBypass bits => Sys2Proof.Machine.execJtagBypass bits s
  | .jtagSamplePreload pins preload => Sys2Proof.Machine.execJtagSamplePreload pins preload s
  | .jtagExtest pins shifted => Sys2Proof.Machine.execJtagExtest pins shifted s
  | .jtagIdcode => Sys2Proof.Machine.execJtagIdcode s
  | .debugAccess r => Sys2Proof.Machine.execDebugAccess r s
  | .safeCauseActive => Sys2Proof.Machine.execSafeCauseActive s
  | .safetyWarmReset => Sys2Proof.Machine.execSafetyWarmReset s
  | .clockWindow counts => Sys2Proof.Machine.execClockWindow counts s
  | .clockStall => Sys2Proof.Machine.execClockStall s
  | .ethLinkChange m up speed => Sys2Proof.Machine.execEthLinkChange m up speed s
  | .oasisPowerLoss => Sys2Proof.Machine.execOasisPowerLoss s
  | .pageMigrationDone page => Sys2Proof.Machine.execPageMigrationDone page s
  | .pauseBitChange port c on => Sys2Proof.Machine.execPauseBitChange port c on s
  | .canFrameTxDone c busError => Sys2Proof.Machine.execCanFrameTxDone c busError s

end Sys2Proof.Machine
end

