-- ==== Sys2Proof/Safety.lean ====
section
/-! DEFINITION. Safety.lean: the terms in which claims about the block are stated: the conditions under which an access meets
no fault, what two states have in common, the canonical form of the memories, and what the OTP array never loses. -/

namespace Sys2Proof.Machine

/-- The blocks of a state. -/
def State.blk (s : State) : Blk := s.node.b

/-- The state with other blocks; the OTP array and the queue as they stand. -/
def State.withBlk (s : State) (b : Blk) : State := { s with node := { s.node with b := b } }

/-- An aligned one-word write of `v` meets no fault: its page is assigned and ON, the agent may write there, LOCK does not
refuse it, the page is not in reset (spec/03 R54 to R59, R62, R74). -/
def Blk.granted (b : Blk) (a : Agent) (page off : Nat) (v : Word) : Prop := b.accessCause a page off true true v.toNat = 0

/-- The word a command writes that sets one field of a register and leaves the others. -/
def Blk.fieldWord (b : Blk) (page off lo w v : Nat) : Word := BitVec.ofNat 32 (putBits (b.rwWord page off) lo w v)

/-- The blocks after the answer to a write that met no fault has gone out. -/
def Blk.answered (b : Blk) (a : Agent) (page off : Nat) : Blk := b.emit (.access a page off true 0 0)

/-- The memories of two nodes hold the same bytes: OTP, module flash, bulk memory, scratchpads. -/
def Node.sameMemory (n n' : Node) : Prop :=
  n'.otp = n.otp ∧ n'.b.flash = n.b.flash ∧ n'.b.bulk.bytes = n.b.bulk.bytes ∧ n'.b.spm.bytes = n.b.spm.bytes

/-- Every scratchpad byte but the `n` from address `a` of tile `t` is the same. -/
def Blk.scratchKept (b b' : Blk) (t a n : Nat) : Prop :=
  ∀ k, (k < byteKey t a ∨ byteKey t a + n ≤ k) → Tbl.get (dflt 0) b'.spm.bytes k = Tbl.get (dflt 0) b.spm.bytes k

/-- Every byte of bulk memory but the `n` from address `a` is the same. -/
def Blk.bulkKept (b b' : Blk) (a n : Nat) : Prop :=
  ∀ k, (k < a ∨ a + n ≤ k) → Tbl.get bulkDflt b'.bulk.bytes k = Tbl.get bulkDflt b.bulk.bytes k

/-- OTP, module flash and bulk memory hold the same bytes. -/
def Node.sameButScratch (n n' : Node) : Prop :=
  n'.otp = n.otp ∧ n'.b.flash = n.b.flash ∧ n'.b.bulk.bytes = n.b.bulk.bytes

/-- OTP, module flash and the scratchpads hold the same bytes. -/
def Node.sameButBulk (n n' : Node) : Prop :=
  n'.otp = n.otp ∧ n'.b.flash = n.b.flash ∧ n'.b.spm.bytes = n.b.spm.bytes

/-- A scratchpad line whose data can be used: not poisoned, no standing code error (spec/07 R165). -/
def Blk.lineClean (b : Blk) (t line : Nat) : Prop := b.isPoisoned t line = false ∧ b.lineFlips t line = []

/-- Every register but those of the listed keys holds what it held. -/
def Blk.keepsRegs (b b' : Blk) (changed : List Nat) : Prop := ∀ k, k ∉ changed → b'.word k = b.word k

/-- Every register of the other pages holds what it held. -/
def Blk.keepsOtherPages (b b' : Blk) (pages : List Nat) : Prop := ∀ k, pageOf k ∉ pages → b'.word k = b.word k

/-- The command answers a next state of which `P` holds, and the commands that wait still wait. -/
def completes (i : Instr) (s : State) (P : State → Prop) : Prop :=
  ∃ t, exec i s = .next t ∧ t.pending = s.pending ∧ P t

/-- The memories in their one canonical form: addresses rising, no byte listed that reads the same unlisted. -/
def Node.memWf (n : Node) : Bool :=
  Tbl.wf (dflt 0) n.otp && Tbl.wf flashDflt n.b.flash && Tbl.wf bulkDflt n.b.bulk.bytes && Tbl.wf (dflt 0) n.b.spm.bytes

/-- No OTP bit that is set in `o` is clear in `o'` (spec/19 R479). -/
def Otp.kept (o o' : Otp) : Prop := ∀ w, otpWord o w &&& otpWord o' w = otpWord o w

end Sys2Proof.Machine
end

