-- ==== Sys2Proof/Certificates/Slice0/Obligations.lean ====
section
/-! DEFINITION. Certificates/Slice0/Obligations.lean: the statements for the provers. A statement about a command gives the next
state whole, as the state before with the named updates made, or says of the next state what it holds and what it leaves. -/

section

open Sys2Proof Sys2Proof.Machine

/-! ### The queue and the operands -/

/-- One step runs the command at the front of the queue on the state with the queue's rest; an empty queue idles (the model's
choice, notes/assumptions/1). -/
def Obligations.StepRunsTheFrontCommand : Prop :=
  ∀ s : State,
    (∀ (c : Instr) (rest : List Instr), s.pending = c :: rest → step s = exec c { s with pending := rest }) ∧
    (s.pending = [] → step s = .next s)

/-- A command whose operands the block has answers a next state and leaves the queue as it is; one whose operands it does not
have stops, for every command (the model's choice, notes/assumptions/1). -/
def Obligations.CommandStopsExactlyOnOperandsTheBlockLacks : Prop :=
  ∀ (i : Instr) (s : State),
    (i.wf = true → ∃ n, exec i s = .next { s with node := n }) ∧ (i.wf = false → exec i s = .fault .noSuchUnit)

/-! ### The line epoch (spec/02) -/

/-- The stages of a line period, in the order of R35, as LINE_PERIOD_START runs them: stored bits that changed and own packets come
first (the model's choice, notes/assumptions/5 and 32), then the counters, frame modes and steps, routing tables, SHL copies, SHF copies at
L0 and at the own contexts' frame starts, groups, overrun checks, reading, and Erg's own work (notes/assumptions/84 and 101). On the LP
source no line period passes below 32,768 (R48). The line counter advances, the frame counter past the last line period (R31). -/
def Obligations.LinePeriodTakesItsStagesInOrder : Prop :=
  (∀ (s : State) (c0 c1 : Option Conversion) (x : LineInputs),
    (x.temps.length == 4 && x.upsets.all upsetOk) = true → s.blk.linePasses = true →
    let struck := x.upsets.foldl Blk.strike s.blk.arriveOwn
    let counted := struck.countConflicts.generatorLine
    let moded := counted.modeAtL0.applyFrameMode.modeStep
    let routed := moded.routeSwitch
    let copied := (routed.shlApply.shfAtL0 x.temps).shfOwn.planModeCheck
    let started := copied.schedLine
    let checked := started.overrunCheck
    let watched := (checked.readLine c0 c1).countHeartbeats.safetyL0.causesActive
    let worked := watched.giveUpJobs.postGaps.mirrorTable.reloadJournal.reloadWeights
    exec (.linePeriodStart c0 c1 x) s = .next { s with node := ({ s.node with b := worked } : Node).resetIfDue }) ∧
  (∀ (s : State) (c0 c1 : Option Conversion) (x : LineInputs),
    (x.temps.length == 4 && x.upsets.all upsetOk) = true → s.blk.powered Page.EPOCH = true → s.blk.powered Page.SYS = false →
    s.blk.ep.lpAcc < 32768 → exec (.linePeriodStart c0 c1 x) s = .next s) ∧
  (∀ b : Blk, b.generatorLine.ep.line = b.ep.line + 1 ∧
    (if b.curL + 1 < b.frameLen then
      b.generatorLine.ep.frame = b.ep.frame ∧ b.generatorLine.curL = b.curL + 1
    else b.generatorLine.ep.frame = b.ep.frame + 1 ∧ b.generatorLine.curL = 0))

/-- Frame-mode changes (R30). A granted write of FRAME_MODE: on a node that is neither MASTER nor acts as its own master by R406 it sets
MODE_IGNORED, with a target frame less than 2 ahead MODE_LATE, and nothing else; else the change is pending for the frame in MODE_AT_F,
and the mode in force stands (the value 3, which no table issues, is not taken: the model's choice, notes/assumptions/8). A change that
was pending before this line period takes effect at L0 of its target frame and at no other line period (one moved to a reached frame waits
for L0: the model's choice, notes/assumptions/74): the mode in force is the pending one, nothing is pending, the counters, the other
pages and the memories stay. Under HOLD this node's own change waits and becomes late (R68). -/
def Obligations.FrameModeIsPendingAndChangesAtLineZero : Prop :=
  (∀ (s : State) (m : Nat) (f : BitVec 32), s.blk.ep.pendMode = some (m, f) → m < 4 → s.blk.power.frameAtL0 = none →
    s.blk.curL = 0 → coordReached s.blk.now ⟨f, 0⟩ = true → (s.blk.ep.pendOwn && s.blk.flag (hHold Page.EPOCH)) = false →
    (s.blk.ep.pendOwn && s.blk.ep.pendSince == s.blk.ep.line) = false →
    completes .frameModeApply s (fun t =>
      t.blk.mode = m ∧ t.blk.ep.pendMode = none ∧ t.blk.ep.line = s.blk.ep.line ∧ t.blk.ep.frame = s.blk.ep.frame ∧
      s.blk.keepsOtherPages t.blk [Page.EPOCH] ∧ s.node.sameMemory t.node ∧ t.blk.sent = s.blk.sent)) ∧
  (∀ s : State, s.blk.curL ≠ 0 → exec .frameModeApply s = .next s) ∧
  (∀ (s : State) (m : Nat) (f : BitVec 32), s.blk.ep.pendMode = some (m, f) → s.blk.ep.pendOwn = true → s.blk.power.frameAtL0 = none →
    s.blk.curL = 0 → coordReached s.blk.now ⟨f, 0⟩ = true → s.blk.flag (hHold Page.EPOCH) = true → s.blk.ep.pendSince ≠ s.blk.ep.line →
    exec .frameModeApply s = .next (s.withBlk { s.blk with ep := { s.blk.ep with pendLate := true } })) ∧
  (∀ (s : State) (a : Agent) (v : Word), agentOk a = true → s.blk.granted a Page.EPOCH 0x050 v →
      let target := BitVec.ofNat 32 (s.blk.get EPOCH.MODE_AT_F)
      let written := s.blk.markChanged Page.EPOCH
      let after : Blk :=
        if ¬(s.blk.epochState = stMaster ∨ s.blk.ownMaster = true) then written.raise EPOCH.STATUS_MODE_IGNORED
        else if frameDiff target s.blk.ep.frame < 2 then written.raise EPOCH.STATUS_MODE_LATE
        else if v.toNat % 4 = 3 then written
        else { written with ep := { s.blk.ep with
          pendMode := some (v.toNat % 4, target), pendOwn := true, pendLate := false, pendSince := s.blk.ep.line } }
      exec (.frameModeWrite a v) s = .next (s.withBlk (after.answered a Page.EPOCH 0x050)) ∧ after.mode = s.blk.mode)

/-- ROLE_MASTER and SYNCIN_CTRL.EN take effect in their states only (R38, R45): 1 to ROLE_MASTER makes a FREE node MASTER with DEPTH 0
and its own number as MASTER, and leaves the state of any other; 0 returns a MASTER by role to FREE; 1 to SYNCIN_CTRL.EN takes in
MASTER and else sets SYNCIN_IGNORED alone. -/
def Obligations.EpochRolesTakeEffectInTheirStatesOnly : Prop :=
  (∀ (s : State) (a : Agent) (on : Bool), agentOk a = true →
    s.blk.granted a Page.XEPOCH 0x044 (s.blk.fieldWord Page.XEPOCH 0x044 1 1 (bitNat on)) →
    completes (.roleMasterWrite a on) s (fun t =>
      (on = true → s.blk.epochState = stFree →
        t.blk.epochState = stMaster ∧ t.blk.get XEPOCH.STATE_DEPTH = 0 ∧ t.blk.get XEPOCH.STATE_MASTER = s.blk.get XROUTE.NODE_ID) ∧
      (on = true → s.blk.epochState ≠ stFree → t.blk.epochState = s.blk.epochState) ∧
      (on = false → s.blk.flag XEPOCH.CTRL_ROLE_MASTER = true → s.blk.epochState = stMaster → t.blk.epochState = stFree) ∧
      t.blk.ep.line = s.blk.ep.line ∧ t.blk.ep.frame = s.blk.ep.frame ∧
      s.blk.keepsRegs t.blk [XEPOCH.CTRL_ROLE_MASTER.key, XEPOCH.STATE_STATE.key] ∧ s.node.sameMemory t.node)) ∧
  (∀ (s : State) (a : Agent), agentOk a = true →
    s.blk.granted a Page.EPOCH 0x070 (s.blk.fieldWord Page.EPOCH 0x070 0 1 1) →
    completes (.syncinEnableWrite a) s (fun t =>
      (s.blk.epochState = stMaster → t.blk.flag EPOCH.SYNCIN_CTRL_EN = true ∧
        t.blk.get EPOCH.STATUS_SYNCIN_IGNORED = s.blk.get EPOCH.STATUS_SYNCIN_IGNORED) ∧
      (s.blk.epochState ≠ stMaster → t.blk.get EPOCH.SYNCIN_CTRL_EN = s.blk.get EPOCH.SYNCIN_CTRL_EN ∧
        t.blk.flag EPOCH.STATUS_SYNCIN_IGNORED = true) ∧
      t.blk.ep = s.blk.ep ∧ s.blk.keepsRegs t.blk [EPOCH.SYNCIN_CTRL_EN.key, EPOCH.STATUS_SYNCIN_IGNORED.key] ∧
      s.node.sameMemory t.node))

/-- SYNC_IN and SYNC_OUT (R40, R50). A MASTER with SYNC_IN enabled takes an edge of the kind EDGE names, within 2 µs, as its phase and
counts one further off as missed, once a frame; an edge of the other kind does nothing. MISS_LIMIT missed edges set LOST. A due pulse, that
of frame F at F:L or, with L past the frame's last, at the next frame's L0 (R32), drives the pin to its active level, its end drives it
back. -/
def Obligations.SyncPinsFollowTheirEdges : Prop :=
  (∀ (s : State) (err : Int), s.blk.active Page.EPOCH = true → s.blk.powered Page.SYS = true →
    s.blk.flag EPOCH.SYNCIN_CTRL_EN = true → s.blk.epochState = stMaster →
    let falling := s.blk.flag EPOCH.SYNCIN_CTRL_EDGE
    exec (.syncInEdge ⟨!falling, err⟩) s = .next s ∧
    (err.natAbs ≤ 2000 →
      exec (.syncInEdge ⟨falling, err⟩) s =
        .next (s.withBlk { (s.blk.set EPOCH.SYNCIN_STATUS_PHASE (twosOf 16 err)).set EPOCH.SYNCIN_STATUS_LOCKED 1 with
          ep := { s.blk.ep with syncMissed := 0, syncSeen := true, phase := err * 1000 } })) ∧
    (2000 < err.natAbs →
      exec (.syncInEdge ⟨falling, err⟩) s = .next (if s.blk.ep.syncSeen then s else
        s.withBlk { s.blk with ep := { s.blk.ep with syncMissed := s.blk.ep.syncMissed + 1, syncSeen := true } }))) ∧
  (∀ s : State, s.blk.flag EPOCH.SYNCIN_CTRL_EN = true → s.blk.epochState = stMaster →
    max 1 (s.blk.get EPOCH.SYNCIN_CTRL_MISS_LIMIT) ≤ s.blk.ep.syncMissed →
    exec .syncInLost s = .next (s.withBlk ((s.blk.raise EPOCH.SYNCIN_STATUS_LOST).set EPOCH.SYNCIN_STATUS_LOCKED 0))) ∧
  (∀ s : State, s.blk.active Page.EPOCH = true → s.blk.powered Page.SYS = true → s.blk.flag EPOCH.SYNCOUT_CTRL_EN = true →
    let div := s.blk.get EPOCH.SYNCOUT_CTRL_DIV_M1 + 1
    let l := s.blk.get EPOCH.SYNCOUT_AT_L
    (s.blk.curL = l ∧ s.blk.ep.frame.toNat % div = 0 ∨
      s.blk.curL = 0 ∧ s.blk.ep.prevLen ≤ l ∧ (s.blk.ep.frame - 1).toNat % div = 0) →
    s.blk.ep.pulse ≠ some s.blk.ep.line →
    exec .syncOutPulseStart s =
      .next (s.withBlk ({ s.blk with ep := { s.blk.ep with pulse := some s.blk.ep.line } }.emit
        (.syncOut (!s.blk.flag EPOCH.SYNCOUT_CTRL_POL))))) ∧
  (∀ (s : State) (start : BitVec 48), s.blk.ep.pulse = some start →
    (max 1 (s.blk.get EPOCH.SYNCOUT_CTRL_WIDTH) ≤ s.blk.linesSince start ∨ (s.blk.curL = 0 ∧ start ≠ s.blk.ep.line)) →
    exec .syncOutPulseEnd s =
      .next (s.withBlk ({ s.blk with ep := { s.blk.ep with pulse := none } }.emit
        (.syncOut (s.blk.powered Page.SYS && s.blk.flag EPOCH.SYNCOUT_CTRL_POL)))))

/-- Beats as sent and as a FREE node takes them (R41, R45). In a line period in which one is due, each of the ports of R41 gets the beat
of the node's own counters and the sequence number advances by one. A FREE node takes the counters, the mode and the pending change of
a beat at once, names the beat's master and port, and enters ACQUIRE; OFFSET becomes 0 (the model's choice, notes/assumptions/75). -/
def Obligations.BeatsCarryTheSendersCounters : Prop :=
  (∀ s : State, s.blk.beatDue = true →
    let sentOut := s.blk.each s.blk.beatPorts
      (fun b p => b.sendLocal p (controlPacket 0x40 true 0 (s.blk.get XROUTE.NODE_ID) (beatBytes s.blk.ownBeat)))
    exec .beatSend s =
      .next (s.withBlk { sentOut with ep := { sentOut.ep with seq := sentOut.ep.seq + 1, lastBeat := some sentOut.ep.line } }) ∧
    s.blk.ownBeat.line = s.blk.ep.line ∧ s.blk.ownBeat.f = s.blk.ep.frame ∧ s.blk.ownBeat.l = s.blk.curL ∧
    s.blk.ownBeat.sender = s.blk.get XROUTE.NODE_ID ∧ s.blk.ownBeat.mode = s.blk.mode ∧
    (s.blk.ownBeat.inHoldover = true ↔ s.blk.epochState = stHoldover)) ∧
  (∀ (s : State) (port : Nat) (bt : Beat) (late : Int), port < 4 → s.blk.active Page.XEPOCH = true → s.blk.fleetPort port = true →
    s.blk.ep.ownMaster = false → bt.depth ≤ 254 → bt.mode < 3 → bt.l < frameLenOf bt.mode → bt.master < 256 → bt.inHoldover = false →
    s.blk.epochState = stFree → s.blk.portFit port = true →
    completes (.beatReceive port bt late) s (fun t =>
      t.blk.ep.line = bt.line ∧ t.blk.ep.frame = bt.f ∧ t.blk.ep.base = bt.line - BitVec.ofNat 48 bt.l ∧ t.blk.mode = bt.mode ∧
      t.blk.ep.pendMode = (if bt.pendValid && bt.pendMode != 3 then some (bt.pendMode, bt.modeAtF) else none) ∧
      t.blk.epochState = stAcquire ∧ t.blk.get XEPOCH.STATE_PARENT = port ∧ t.blk.get XEPOCH.STATE_MASTER = bt.master ∧
      t.blk.get XEPOCH.STATE_DEPTH = bt.depth + 1 ∧ t.blk.get XEPOCH.OFFSET = 0 ∧
      s.blk.keepsOtherPages t.blk [Page.EPOCH, Page.XEPOCH] ∧ s.node.sameMemory t.node))

/-- The losses of Table 4 (R45, R47). LOSS_LIMIT missed beats set BEAT_LOST and take ACQUIRE to FREE and LOCKED to HOLDOVER; backup k,
with (k + 2) × LOSS_LIMIT of them in HOLDOVER, becomes MASTER; a holdover longer than HOLD_LIMIT frames is the epoch fault to FREE:
STEP_NEEDED, SCHED groups to halt, a report with cause 0Fh. -/
def Obligations.LostBeatsMoveTheEpochState : Prop :=
  (∀ s : State, s.blk.lossLimit ≤ s.blk.ep.missed →
    (s.blk.epochState = stAcquire → completes .beatLossLimit s (fun t =>
      t.blk.epochState = stFree ∧ t.blk.flag XEPOCH.FAULT_BEAT_LOST = true ∧ t.blk.ep.line = s.blk.ep.line ∧
      s.blk.keepsOtherPages t.blk [Page.XEPOCH] ∧ s.node.sameMemory t.node)) ∧
    (s.blk.epochState = stLocked → completes .beatLossLimit s (fun t =>
      t.blk.epochState = stHoldover ∧ t.blk.flag XEPOCH.FAULT_BEAT_LOST = true ∧ t.blk.ep.line = s.blk.ep.line ∧
      t.blk.ep.holdLine = s.blk.ep.line ∧ s.blk.keepsOtherPages t.blk [Page.XEPOCH] ∧ s.node.sameMemory t.node))) ∧
  (∀ (s : State) (k : Nat), s.blk.backupIndex = some k → s.blk.epochState = stHoldover →
    (k + 2) * s.blk.lossLimit ≤ s.blk.ep.missed →
    completes .backupTakeover s (fun t =>
      t.blk.epochState = stMaster ∧ t.blk.get XEPOCH.STATE_DEPTH = 0 ∧ t.blk.get XEPOCH.STATE_MASTER = s.blk.get XROUTE.NODE_ID ∧
      t.blk.ep.line = s.blk.ep.line ∧ t.blk.ep.frame = s.blk.ep.frame ∧
      s.blk.keepsOtherPages t.blk [Page.XEPOCH] ∧ s.node.sameMemory t.node)) ∧
  (∀ s : State, s.blk.epochState = stHoldover →
    s.blk.get EPOCH.HOLD_CTRL_HOLD_LIMIT * s.blk.ep.holdLen < s.blk.linesSince s.blk.ep.holdLine →
    completes .holdoverLimitExpiry s (fun t =>
      t.blk.epochState = stFree ∧ t.blk.flag XEPOCH.FAULT_STEP_NEEDED = true ∧ t.blk.ep.haltPending = true ∧
      t.blk.reports = s.blk.reports ++ [⟨0x0F, Page.XEPOCH, false, 0xFF⟩] ∧ t.blk.ep.line = s.blk.ep.line ∧
      s.node.sameMemory t.node))

/-- The map block (R51): at an L0 where one is due (PERIOD 0 names no periodic one: the model's choice, notes/assumptions/76) the ten MAP
words hold its forty bytes and the sample is kept; with no previous sample its PERIOD is a free value and VALID is 0 (notes/assumptions/11);
where none is due nothing happens. A write of NOW asks for one and changes nothing else of the epoch. -/
def Obligations.MapBlockHoldsTheSampledTime : Prop :=
  (∀ (s : State) (t : PtpTime), t.nsec < 1000000000 → s.blk.mapDue = false → exec (.mapBlockBuild t) s = .next s) ∧
  (∀ (s : State) (t : PtpTime), t.nsec < 1000000000 → s.blk.mapDue = true → s.blk.active Page.EPOCH = true →
    let src := s.blk.get EPOCH.MAP_CTRL_SRC
    let time := if s.blk.powered (Page.HOST + src) then s.blk.ptpClock src t else t
    exec (.mapBlockBuild t) s =
      .next (s.withBlk (if s.blk.active Page.CLIENT then (s.blk.mapBuild time).mapSend else s.blk.mapBuild time)) ∧
    (∀ m, s.blk.ep.mapPrev = some m →
      let dom := s.blk.get EPOCH.MAP_CTRL_DOMAIN
      let bytes := mapBytes s.blk time (m.domain == dom && m.src == src) (mapPeriod (s.blk.linesSince m.line) m.time time)
      (∀ i, i < 10 → (s.blk.mapBuild time).get (EPOCH.MAP i) = leAt bytes (4 * i) 4)) ∧
    (s.blk.ep.mapPrev = none →
      let bytes := mapBytes s.blk time false (Config.freeValue s.blk.fresh % 2 ^ 64)
      (∀ i, i < 10 → (s.blk.mapBuild time).get (EPOCH.MAP i) = leAt bytes (4 * i) 4)) ∧
    (s.blk.mapBuild time).ep.mapPrev =
      some ⟨s.blk.ep.line, time, s.blk.get EPOCH.MAP_CTRL_DOMAIN, src⟩ ∧
    (s.blk.mapBuild time).ep.line = s.blk.ep.line) ∧
  (∀ (s : State) (a : Agent), agentOk a = true →
    s.blk.granted a Page.EPOCH 0x088 (s.blk.fieldWord Page.EPOCH 0x088 10 1 1) →
    completes (.mapNow a) s (fun t =>
      t.blk.ep = { s.blk.ep with mapNow := true } ∧ s.node.sameMemory t.node ∧ s.blk.keepsRegs t.blk [EPOCH.MAP_CTRL_DOMAIN.key]))

/-- Wide registers (R36, R37). A granted read of a low word answers the live low word and puts the high word into the agent's holding
register of the page; a write of a low word is staged for the agent, no register changing; a write of the high word commits both words,
the low one as staged or 0, and empties the staging register. A queue pair's send ring outside INIT is written word by word (R283). -/
def Obligations.WideRegistersHoldAndStage : Prop :=
  (∀ (s : State) (a : Agent) (page off : Nat), (agentOk a && regOk page off) = true → a ≠ .safetyScan → isWideLow page off = true →
    s.blk.accessCause a page off true false 0 = 0 →
    completes (.wideLowRead a page off) s (fun t =>
      t.blk.sent = s.blk.sent ++ [.access a page off false 0 (s.blk.readLive a page off).2.1] ∧
      Tbl.get (dflt 0) t.blk.hold (agentPage a page) = (s.blk.readLive a page (off + 4)).2.1 ∧
      t.blk.regs = s.blk.regs ∧ s.node.sameMemory t.node)) ∧
  (∀ (s : State) (a : Agent) (page off : Nat) (v : Word), (agentOk a && regOk page off) = true → isWideLow page off = true →
    wideWrites page off = true → s.blk.granted a page off v → s.blk.ringShut page off = false →
    exec (.wideLowWrite a page off v) s =
      .next (s.withBlk ({ s.blk with stage := Tbl.put (dflt none) s.blk.stage (agentPage a page) (some v) }.answered a page off))) ∧
  (∀ (s : State) (a : Agent) (page off : Nat) (v : Word), (agentOk a && regOk page off) = true → isWideHigh page off = true →
    wideWrites page off = true → s.blk.granted a page off v → s.blk.ringShut page off = false →
    let low := (Tbl.get (dflt none) s.blk.stage (agentPage a page)).getD 0
    let emptied : Blk := { s.blk with stage := Tbl.put (dflt none) s.blk.stage (agentPage a page) none }
    let both := (emptied.writeBlock a page (off - 4) low).writeBlock a page off v
    exec (.wideHighWrite a page off v) s =
      .next (s.withBlk ((if page = Page.OASIS ∧ off = 0x044 then both.set OASIS.STATUS_RTC_VALID 1 else both).answered a page off))) ∧
  (∀ (s : State) (a : Agent) (v : Word), agentOk a = true → s.blk.qstate (s.blk.get XQP.QP_SEL) ≠ qsInit →
    (s.blk.granted a Page.XQP 0x060 v →
      exec (.wideLowWrite a Page.XQP 0x060 v) s =
        .next (s.withBlk ((s.blk.writeBlock a Page.XQP 0x060 v).answered a Page.XQP 0x060))) ∧
    (s.blk.granted a Page.XQP 0x064 v →
      exec (.wideHighWrite a Page.XQP 0x064 v) s =
        .next (s.withBlk ((s.blk.writeBlock a Page.XQP 0x064 v).answered a Page.XQP 0x064))))

/-! ### Register pages (spec/03) -/

/-- A write that meets a fault changes nothing but the capture of the fault and answers its cause (R58): an unassigned page with
UNMAPPED, a page whose domain is off with POWER (both recorded in SYS alone, R54, R59), then WIDTH, PRIV, LOCKED and BUSY in the page
(the order is the model's choice, notes/assumptions/12). A granted write takes the register's own effect: SCRATCH stores the word and
nothing else (R75), a register of SEN, CROUTE or ISPSTAT that takes no copy stores its RW bits, every other register does what its page
says of it, PWR.RESET, FUSE and LIFE apart, which act at the node. -/
def Obligations.RegisterWritesFaultOrTakeEffect : Prop :=
  (∀ (s : State) (a : Agent) (page off : Nat) (word : Bool) (v : Word), (agentOk a && regOk page off) = true →
    let cause := s.blk.accessCause a page off word true v.toNat
    cause ≠ 0 →
    exec (.registerWrite a page off word v) s =
      .next (s.withBlk ((s.blk.accessFault a page off cause).emit (.access a page off true cause 0))) ∧
    (domainOf page = none → cause = causeUnmapped) ∧
    ((domainOf page).isSome = true → s.blk.powered page = false → cause = causePower) ∧
    (s.blk.powered page = true → (word = false ∨ off % 4 ≠ 0) → cause = causeWidth) ∧
    (s.blk.powered page = true → word = true → off % 4 = 0 → s.blk.classAllows a page off true = false → cause = causePriv) ∧
    (s.blk.powered page = true → word = true → off % 4 = 0 → s.blk.classAllows a page off true = true →
      s.blk.lockAllows a page off v.toNat = false → cause = causeLocked) ∧
    (s.blk.powered page = true → word = true → off % 4 = 0 → s.blk.classAllows a page off true = true →
      s.blk.lockAllows a page off v.toNat = true → cause = causeBusy) ∧
    (cause = causeUnmapped ∨ cause = causePower →
      s.blk.keepsOtherPages (s.blk.accessFault a page off cause) [Page.SYS] ∧
      (s.blk.powered Page.SYS = false → s.blk.accessFault a page off cause = s.blk))) ∧
  (∀ (s : State) (a : Agent) (page : Nat) (v : Word), (agentOk a && pageOk page) = true → s.blk.granted a page 0x038 v →
    exec (.registerWrite a page 0x038 true v) s =
      .next (s.withBlk ((s.blk.setWord (regKey page 0x038) v).answered a page 0x038))) ∧
  (∀ (s : State) (a : Agent) (page off : Nat) (v : Word), (agentOk a && regOk page off) = true → s.blk.granted a page off v →
    page ≠ Page.FUSE → page ≠ Page.LIFE → nodeWrite page off = false → (page = Page.SPM → off ≠ 0x04C ∧ off ≠ 0x050) →
    exec (.registerWrite a page off true v) s = .next (s.withBlk ((s.blk.writeWord a page off v).answered a page off))) ∧
  (∀ (s : State) (a : Agent) (page off : Nat) (v : Word) (r : RegRow), (agentOk a && regOk page off) = true → s.blk.granted a page off v →
    page = Page.SEN ∨ page = Page.CROUTE ∨ page = Page.ISPSTAT → 0x040 ≤ off → isWideLow page off = false → isWideHigh page off = false →
    regRow page off = some r → r.shadow = .none →
    completes (.registerWrite a page off true v) s (fun t =>
      t.blk.word (regKey page off) = maskedWrite r (s.blk.word (regKey page off)) v ∧ s.blk.keepsRegs t.blk [regKey page off] ∧
      s.node.sameMemory t.node))

/-- Shadow copies as written, held and discarded (R64, R67, R68): a write of an SHF or SHL register other than FRAME_MODE makes the RW bits
the one pending copy and leaves the value in force; a write of a coordinate register is a register write, and that of MODE_AT_F moves this
node's pending frame-mode change. HOLD is set as written; cleared, it puts the page's held copies off to the next line period and does
nothing else; DISCARD drops every pending copy of the page and no other. -/
def Obligations.ShadowCopiesAsWrittenHeldAndDiscarded : Prop :=
  (∀ (s : State) (a : Agent) (page off : Nat) (v : Word) (r : RegRow), (agentOk a && regOk page off) = true →
    (isShf (regKey page off) || isShl (regKey page off)) = true → page ≠ Page.EPOCH → regRow page off = some r →
    s.blk.granted a page off v →
    completes (.shadowWrite a page off v) s (fun t =>
      t.blk.copyOf (regKey page off) = some ⟨v &&& BitVec.ofNat 32 r.rw, false, s.blk.ep.line⟩ ∧
      (∀ k, k ≠ regKey page off → t.blk.copyOf k = s.blk.copyOf k) ∧
      t.blk.regs = s.blk.regs ∧ t.blk.ep = s.blk.ep ∧ s.node.sameMemory t.node)) ∧
  (∀ (s : State) (a : Agent) (v : Word), exec (.shadowWrite a Page.EPOCH 0x050 v) s = exec (.frameModeWrite a v) s) ∧
  (∀ (s : State) (a : Agent) (page off : Nat) (v : Word), isShlCoord page off = true →
    exec (.shlCoordWrite a page off v) s = exec (.registerWrite a page off true v) s) ∧
  (∀ (s : State) (a : Agent) (v : Word), agentOk a = true → s.blk.granted a Page.EPOCH 0x054 v →
    completes (.shlCoordWrite a Page.EPOCH 0x054 v) s (fun t =>
      t.blk.get EPOCH.MODE_AT_F = v.toNat ∧
      t.blk.ep.pendMode = (match s.blk.ep.pendMode, s.blk.ep.pendOwn with
        | some (m, _), true => some (m, v)
        | p, _ => p) ∧
      s.blk.keepsRegs t.blk [EPOCH.MODE_AT_F.key] ∧ s.node.sameMemory t.node)) ∧
  (∀ (s : State) (a : Agent) (page : Nat), (agentOk a && pageOk page) = true →
      (s.blk.granted a page 0x034 (s.blk.fieldWord page 0x034 0 1 1) →
        exec (.shadowHold a page) s = .next (s.withBlk ((s.blk.set (hHold page) 1).answered a page 0x034))) ∧
      (s.blk.granted a page 0x034 (s.blk.fieldWord page 0x034 0 1 0) →
        exec (.shadowRelease a page) s = .next (s.withBlk
          (((if s.blk.flag (hHold page) then s.blk.releaseHold page else s.blk).set (hHold page) 0).answered a page 0x034)) ∧
        (∀ k, (s.blk.releaseHold page).word k = s.blk.word k ∧
          (s.blk.releaseHold page).copyOf k = (s.blk.copyOf k).map (fun c =>
            if pageOf k = page ∧ isShl k = true then { c with since := s.blk.ep.line } else c))) ∧
      (s.blk.granted a page 0x034 (s.blk.fieldWord page 0x034 1 1 1) →
        completes (.shadowDiscard a page) s (fun t =>
          (∀ k, pageOf k = page → t.blk.copyOf k = none) ∧ (∀ k, pageOf k ≠ page → t.blk.copyOf k = s.blk.copyOf k) ∧
          t.blk.get (hHold page) = s.blk.get (hHold page) ∧ s.blk.keepsRegs t.blk [regKey page 0x034] ∧
          (page = Page.EPOCH → s.blk.ep.pendOwn = true → t.blk.ep.pendMode = none) ∧
          t.blk.ep.line = s.blk.ep.line ∧ s.node.sameMemory t.node)))

/-- The target rule and the application of SHL copies (R33, R67, R68). With d the difference of the frame numbers as a signed 32-bit number,
a target is reached when d < 0, or d = 0 and its line is not above the current one, else it lies ahead. Copies as they stood before this
line period whose coordinate is reached come into force on every page at once, but for pages under HOLD; each takes its copied value and is
pending no more. -/
def Obligations.ReachedShlCopiesComeIntoForce : Prop :=
  (∀ now target : Coord,
    let d := (target.f - now.f).toInt
    (coordReached now target = true ↔ d < 0 ∨ d = 0 ∧ target.l ≤ now.l) ∧
    (coordReached now target = false ↔ 0 < d ∨ d = 0 ∧ now.l < target.l)) ∧
  (∀ s : State,
    let held := s.blk.markHeldShl
    let applied := held.each held.shlKeys Blk.applyKey
    let noted := if held.shlKeys.contains SCHED.SCHED_CTRL_RUN.key then (applied.raise SCHED.IRQ_RAW_SWITCHED).noteSwitch else applied
    exec .shlApply s =
      .next (s.withBlk (if held.shlKeys.any isTreeKey then noted.treeSwitched else noted).fleetSwitched)) ∧
  (∀ (b : Blk) (k : Nat) (c : Shadow), b.copyOf k = some c → 0x040 ≤ offOf k → k < 0x100000 →
    (b.applyKey k).word k = c.value ∧ (b.applyKey k).copyOf k = none ∧
    (∀ j, j ≠ k → (b.applyKey k).copyOf j = b.copyOf j) ∧ (∀ j, pageOf j ≠ pageOf k → (b.applyKey k).word j = b.word j)) ∧
  (∀ (b : Blk) (k : Nat), k ∈ b.shlKeys ↔ b.flag (hHold (pageOf k)) = false ∧ isShl k = true ∧ b.reached (b.shlTarget k) = true ∧
    ∃ c, b.copyOf k = some c ∧ c.since ≠ b.ep.line)

/-- CTRL (R62): EN, FREEZE and SOFT_RESET as one field of the word is written and the others stand. EN is set and a port leaves or enters
DISABLED, XROUTE takes up what it held; FREEZE is set, or cleared and the block resumes, but on the pages whose chapters give it no
effect; a block with FREEZE set stops; SOFT_RESET resets the page and shows RESETTING, SAFE apart, until it is done; LIFE's live fields follow the array (spec/19 R500). -/
def Obligations.ControlBitsEnableFreezeAndReset : Prop :=
  ∀ (s : State) (a : Agent) (page : Nat), (agentOk a && pageOk page) = true →
    let en := s.blk.flag (hEn page)
    let frozen := s.blk.flag (hFreeze page)
    let crc := s.blk.get (hCrcEn page)
    (∀ on, s.blk.granted a page 0x010 (s.blk.fieldWord page 0x010 0 1 (bitNat on)) →
      exec (.blockEnable a page on) s =
        .next (s.withBlk ((((s.blk.writeEn page on).writeFreeze page frozen).set (hCrcEn page) crc).answered a page 0x010)) ∧
      ((0x40 ≤ page ∧ page < 0x44 ∨ page = Page.XROUTE) ∨ s.blk.writeEn page on = s.blk.set (hEn page) (bitNat on))) ∧
    (∀ on, s.blk.granted a page 0x010 (s.blk.fieldWord page 0x010 2 1 (bitNat on)) →
      exec (.blockFreeze a page on) s =
        .next (s.withBlk ((((s.blk.writeEn page en).writeFreeze page on).set (hCrcEn page) crc).answered a page 0x010)) ∧
      (noFreeze page = true → s.blk.writeFreeze page on = s.blk) ∧
      (noFreeze page = false → s.blk.writeFreeze page true = s.blk.set (hFreeze page) 1)) ∧
    (s.blk.powered page = true → frozen = true →
      exec (.freezeStop page) s = .next (s.withBlk (s.blk.raise (hFrozen page)))) ∧
    (page ≠ Page.SAFE → page ≠ Page.FUSE → page ≠ Page.LIFE → s.blk.granted a page 0x010 (s.blk.fieldWord page 0x010 1 1 1) →
      completes (.softReset a page) s (fun t => t.blk.flag (hResetting page) = true ∧
        t.blk = ((s.blk.softReset page en).markChanged page).answered a page 0x010)) ∧
    (page = Page.FUSE ∨ page = Page.LIFE → s.blk.granted a page 0x010 (s.blk.fieldWord page 0x010 1 1 1) →
      let reset := (s.node.on (fun b => (b.softReset page en).markChanged page)).lifeSync
      exec (.softReset a page) s = .next { s with node := reset.on (fun b => b.answered a page 0x010) }) ∧
    exec (.softResetDone page) s = .next (s.withBlk (s.blk.set (hResetting page) 0)) ∧
    (s.blk.granted a page 0x010 (s.blk.fieldWord page 0x010 3 1 1) →
      exec (.errCountClear a page) s =
        .next (s.withBlk (((((s.blk.set (hErrCount page) 0).writeEn page en).writeFreeze page frozen).set (hCrcEn page) crc).answered
          a page 0x010)))

/-- Interrupt and capture registers (R61, R69, R70, R72). A 1 clears its IRQ_RAW bit, unless an event sets it in the same cycle; IRQ_EN
is stored; a 1 to a defined IRQ_FORCE bit sets its IRQ_RAW bit and reports to the safety monitor as forced, and nothing else; a 1 to VALID
clears both capture words. The interrupt output is a level over RAW and EN. -/
def Obligations.InterruptRegistersAsWritten : Prop :=
  ∀ (s : State) (a : Agent) (page : Nat), (agentOk a && pageOk page) = true →
    let raw := s.blk.word (regKey page 0x018)
    (∀ v same, s.blk.granted a page 0x018 (v &&& ~~~same) →
      exec (.irqClear a page v same) s =
        .next (s.withBlk ((s.blk.setWord (regKey page 0x018) (raw &&& ~~~(v &&& ~~~same))).answered a page 0x018))) ∧
    (∀ v, s.blk.granted a page 0x01C v →
      completes (.irqEnableWrite a page v) s (fun t =>
        t.blk.word (regKey page 0x01C) = v ∧ s.blk.keepsRegs t.blk [regKey page 0x01C] ∧
        t.blk.irqOut page = ((raw &&& v) != 0) ∧ s.node.sameMemory t.node ∧ t.blk.reports = s.blk.reports)) ∧
    (∀ v, s.blk.granted a page 0x020 v →
      completes (.irqForce a page v) s (fun t =>
        t.blk.word (regKey page 0x018) = raw ||| (v &&& irqDefined page) ∧ s.blk.keepsRegs t.blk [regKey page 0x018] ∧
        t.blk.reports = s.blk.reports ++ ((List.range 32).filterMap (fun i =>
          if (v &&& irqDefined page).getLsbD i then irqCause page i else none)).map (fun c =>
            ⟨c, page, true, if c == 0x04 then page - 0x20 else 0xFF⟩) ∧
        s.node.sameMemory t.node)) ∧
    (s.blk.granted a page 0x024 0x80000000#32 →
      exec (.errCaptureClear a page) s =
        .next (s.withBlk (((s.blk.setWord (regKey page 0x024) 0).setWord (regKey page 0x028) 0).answered a page 0x024)))

/-- LOCK (R74): the first granted write by Hamada since cold reset takes effect, a later one does not; one by another agent faults
with PRIV on a page that is ON. -/
def Obligations.LockIsWrittenOnceByHamada : Prop :=
  (∀ (s : State) (page : Nat) (v : Word), pageOk page = true → s.blk.granted .hamada page 0x030 v →
    (Tbl.get (dflt false) s.blk.locked (regKey page 0x030) = false →
      completes (.lockWrite .hamada page v) s (fun t =>
        t.blk.word (regKey page 0x030) = v &&& 3 ∧ Tbl.get (dflt false) t.blk.locked (regKey page 0x030) = true ∧
        s.blk.keepsRegs t.blk [regKey page 0x030] ∧ s.node.sameMemory t.node)) ∧
    (Tbl.get (dflt false) s.blk.locked (regKey page 0x030) = true →
      exec (.lockWrite .hamada page v) s = .next (s.withBlk (s.blk.answered .hamada page 0x030)))) ∧
  (∀ (s : State) (a : Agent) (page : Nat) (v : Word), (agentOk a && pageOk page) = true → a ≠ .hamada →
    s.blk.powered page = true →
    exec (.lockWrite a page v) s =
      .next (s.withBlk ((s.blk.accessFault a page 0x030 causePriv).emit (.access a page 0x030 true causePriv 0))))

/-- The safety scan's visit (R77, spec/20 R519): SAFE names the page; a page whose checksum is PAGE_CRC has CRC_BAD clear; a mismatch on a
page that did not change since the last visit, or with the same checksum as then, sets CRC_BAD and the CRC interrupt and reports cause
05h; another mismatch is only kept for the next visit (what makes a mismatch the same, and that a first visit confirms, are the model's
choices, notes/assumptions/77). -/
def Obligations.ScanVisitComparesThePageChecksum : Prop :=
  ∀ (s : State) (page : Nat), pageOk page = true → s.blk.powered page = true → s.blk.flag (hCrcEn page) = true →
    s.blk.powered Page.SAFE = true →
    let sum := s.blk.pageChecksum page
    let same := sum = BitVec.ofNat 32 (s.blk.get (hPageCrc page))
    let sure := (s.blk.pageSt page).changed = false ∨ (s.blk.pageSt page).mismatch = some sum
    completes (.crcScanVisit page) s (fun t =>
      t.blk.get SAFE.SCAN_STATUS_LAST_PAGE = page ∧ (t.blk.pageSt page).changed = false ∧ s.node.sameMemory t.node ∧
      (same → t.blk.flag (hCrcBad page) = false ∧ t.blk.reports = s.blk.reports) ∧
      (¬same → sure → t.blk.flag (hCrcBad page) = true ∧ t.blk.flag (hIrqCrc page) = true ∧
        t.blk.reports = s.blk.reports ++ [⟨0x05, page, false, 0xFF⟩]) ∧
      (¬same → ¬sure → t.blk.get (hCrcBad page) = s.blk.get (hCrcBad page) ∧ t.blk.reports = s.blk.reports ∧
        (t.blk.pageSt page).mismatch = some sum) ∧
      s.blk.keepsOtherPages t.blk [page, Page.SAFE])

/-! ### The flash-pattern detector (spec/16) -/

/-- The detector (R419, R420, R421, R422). A sample shows its levels, macro-pixel 8j + k in bits [4k+3:4k] of SENT_LEVEL word j; with EN 0
the detector starts anew; else the sample count advances, or the first sample sets the backgrounds, trackers out of reach are freed and
each macro-pixel is looked at; one without a flash and below the threshold moves its background only. A hold-off that has run out ends;
a write of a pattern's register takes effect under its masks and frees the pattern's trackers. -/
def Obligations.DetectorSamplesAndPatterns : Prop :=
  (∀ (s : State) (levels : List Nat), (levels.length == 144 && levels.all (fun x => x < 256)) = true → s.blk.powered Page.OASIS = true →
    let shown := s.blk.showLevels levels
    let d := shown.oasis.det
    let counted := if d.on then shown.setDet { d with sample := d.sample + 1 }
      else shown.setDet { noDet with on := true, bg := (List.range 144).map (fun m => 16 * (nth levels m 0 % 16)) }
    exec (.sentinelSample levels) s =
      .next (s.withBlk (if s.blk.flag OASIS.SENT_CTRL_EN = false then shown.setDet noDet
        else if s.blk.active Page.OASIS = false then shown
        else counted.freeTrackers.each (List.range 144) (fun b m => b.macroStep levels m))) ∧
    (∀ j, j < 18 → shown.word ((OASIS.SENT_LEVEL 0).key + 4 * j) =
      BitVec.ofNat 32 ((List.range 8).foldl (fun acc k => acc + (nth levels (8 * j + k) 0 % 16) * 16 ^ k) 0))) ∧
  (∀ (b : Blk) (levels : List Nat) (m : Nat), b.sentMasked m = false → nth b.oasis.det.flash m none = none →
    ((nth levels m 0 % 16 : Nat) : Int) - ((nth b.oasis.det.bg m 0 : Nat) : Int) / 16 < b.sentRise →
    b.macroStep levels m =
      b.setDet { b.oasis.det with
        bg := setNth b.oasis.det.bg m (((nth b.oasis.det.bg m 0 : Nat) : Int) +
          (16 * ((nth levels m 0 % 16 : Nat) : Int) - ((nth b.oasis.det.bg m 0 : Nat) : Int)) / (2 ^ b.get OASIS.SENT_CTRL_BG_SHIFT : Nat)).toNat }) ∧
  (∀ (s : State) (p : Nat), p < 4 → nth s.blk.oasis.det.hold p none = some 0 →
    exec (.patternHoldoffEnd p) s =
      .next (s.withBlk (s.blk.setDet { s.blk.oasis.det with hold := setNth s.blk.oasis.det.hold p none }))) ∧
  (∀ (s : State) (a : Agent) (p r : Nat) (v : Word), (agentOk a && p < 4 && r < 3) = true →
    let off := 0x100 + 0x10 * p + 4 * r
    s.blk.granted a Page.OASIS off v →
    let stored := s.blk.storeKey (regKey Page.OASIS off) v
    exec (.patternRegWrite a p r v) s =
      .next (s.withBlk ((stored.setDet { stored.oasis.det with
        trackers := stored.oasis.det.trackers.filter (fun t => t.pattern != p) }).answered a Page.OASIS off)))

/-! ### Camera inputs (spec/05) -/

/-- Packets at a CSI-2 port that is on (R104, R108, R112, R114): the channel is seen, a corrected header counted, and each context the
packet concerns takes it, or UNROUTED counts it where its port and channel are in force on none. A Frame Start is accepted by an IDLE
context whose route accepts frames, cuts an ACTIVE one, and is dropped else; a Frame End ends a whole frame and pads a short one; a long
packet is delivered, of another RAW type counted, without a frame an orphan. Packets that no context takes and packet errors count as
R104 says. A frozen port discards what comes as UNROUTED (R118). -/
def Obligations.CameraPacketsReachTheirContexts : Prop :=
  (∀ (s : State) (port vc : Nat), csiOk port vc = true → s.blk.csiOn port = true → s.blk.flag (hFrozen (csiPage port)) = true →
    let seen := s.blk.set (CSI.VC_SEEN port) (putBits (s.blk.get (CSI.VC_SEEN port)) vc 1 1)
    (∀ fn corrected, fn < 65536 → exec (.csiFrameStart port vc fn corrected) s = .next (s.withBlk (seen.unrouted port))) ∧
    (∀ corrected, exec (.csiFrameEnd port vc corrected) s = .next (s.withBlk (seen.unrouted port))) ∧
    (∀ dt corrected bad px, dt < 64 → exec (.csiLongPacket port vc dt corrected bad px) s = .next (s.withBlk (seen.unrouted port))) ∧
    (∀ kind corrected, kind < 7 → exec (.csiOtherPacket port vc kind corrected) s =
      .next (s.withBlk ((if kind = 6 then s.blk else seen).unrouted port)))) ∧
  (∀ (s : State) (port vc : Nat), csiOk port vc = true → s.blk.csiOn port = true → s.blk.flag (hFrozen (csiPage port)) = false →
    s.blk.powered Page.CROUTE = true →
    let seen := fun corrected : Bool =>
      let b := s.blk.set (CSI.VC_SEEN port) (putBits (s.blk.get (CSI.VC_SEEN port)) vc 1 1)
      if corrected then b.bumpSat (CSI.ECC_CORR port) else b
    let taken := fun (corrected : Bool) (first : Blk → Blk) (f : Blk → Nat → Blk) =>
      if (seen corrected).sourceInForce port vc = true then (first (seen corrected)).each ((seen corrected).concerned port vc) f
      else (seen corrected).unrouted port
    (∀ fn corrected, fn < 65536 → exec (.csiFrameStart port vc fn corrected) s =
      .next (s.withBlk (taken corrected id (fun b j =>
        if b.ctxState j = ctxIdle then
          (if b.routeValid j = true ∧ b.flag (hEn Page.CROUTE) = true ∧
              (∀ l, (b.camCtx j).lastFs = some l → b.get (CROUTE.FRAME_TIMING_MIN_INTERVAL j) ≤ b.linesSince l)
            then b.acceptFrame j fn else b.dropFrame j)
        else if b.ctxState j = ctxActive then (b.cutFrame j 2).dropFrame j
        else b.dropFrame j)))) ∧
    (∀ corrected, exec (.csiFrameEnd port vc corrected) s =
      .next (s.withBlk (taken corrected id (fun b j =>
        if b.ctxState j = ctxActive then
          let b := b.modCam j (fun x => { x with lastPkt := b.ep.line })
          if (b.camCtx j).height ≤ (b.camCtx j).delivered then b.endCamFrame j else (b.camFlag j 1 1 1).startPadding j
        else b)))) ∧
    (∀ dt corrected bad px, dt < 64 → rawType dt = false → exec (.csiLongPacket port vc dt corrected bad px) s =
      .next (s.withBlk (if dt = 0x10 ∨ dt = 0x11 then seen corrected
        else ((seen corrected).bumpSat (CSI.DT_DROPPED port)).raise (CSI.IRQ_RAW_DT_DROPPED port)))) ∧
    (∀ dt corrected bad px, dt < 64 → rawType dt = true → exec (.csiLongPacket port vc dt corrected bad px) s =
      .next (s.withBlk (taken corrected
        (fun b => if bad then ((b.bumpSat (CSI.CRC_ERR port)).raise (CSI.IRQ_RAW_CRC_ERR port)).captureOwn (csiPage port) 0x02
          (vc + dt * 16) else b)
        (fun b j =>
          if b.ctxState j = ctxActive then
            if (b.camCtx j).src.dt = dt then b.deliverLine j dt bad px
            else (b.bumpSat (CSI.DT_DROPPED port)).raise (CSI.IRQ_RAW_DT_DROPPED port)
          else b.bumpSat (CROUTE.ORPHAN_LINES j))))) ∧
    (∀ kind corrected, kind < 2 → exec (.csiOtherPacket port vc kind corrected) s =
      .next (s.withBlk (taken corrected id (fun b j =>
        if b.ctxState j = ctxActive then b.modCam j (fun x => { x with lastPkt := b.ep.line }) else b)))) ∧
    (∀ kind corrected, 2 ≤ kind → kind < 4 → exec (.csiOtherPacket port vc kind corrected) s = .next (s.withBlk (seen corrected))) ∧
    (∀ kind corrected, 4 ≤ kind → kind < 6 → exec (.csiOtherPacket port vc kind corrected) s =
      .next (s.withBlk (((seen corrected).bumpSat (CSI.DT_DROPPED port)).raise (CSI.IRQ_RAW_DT_DROPPED port)))) ∧
    (∀ corrected, exec (.csiOtherPacket port vc 6 corrected) s = .next (s.withBlk
      (((s.blk.bumpSat (CSI.ECC_UNCORR port)).raise (CSI.IRQ_RAW_ECC_UNCORR port)).captureOwnFree (csiPage port) 0x01))) ∧
    exec (.csiSotError port) s =
      .next (s.withBlk (((s.blk.bumpSat (CSI.SOT_ERR port)).raise (CSI.IRQ_RAW_SOT_ERR port)).captureOwnFree (csiPage port) 0x03)))

/-- Timeouts and padding (R112, R113): an ACTIVE context without a packet for LINE_TIMEOUT line periods, or FRAME_TIMEOUT after its frame
start, has its frame cut: TRUNC, a capture with cause 02h for the context, PADDING. A due pad line enters the store and counts as
delivered; a frame with HEIGHT lines delivered ends at the start of the next line period. -/
def Obligations.TimeoutsCutFramesAndPadThem : Prop :=
  (∀ (s : State) (j : Nat), j < 32 → s.blk.powered Page.CROUTE = true → s.blk.ctxState j = ctxActive →
    (max 1 (s.blk.get (CROUTE.LINE_TIMING_LINE_TIMEOUT j)) ≤ s.blk.linesSince (s.blk.camCtx j).lastPkt →
      exec (.lineTimeout j) s = .next (s.withBlk (s.blk.cutFrame j 1))) ∧
    (s.blk.get (CROUTE.FRAME_TIMING_FRAME_TIMEOUT j) ≠ 0 →
      s.blk.get (CROUTE.FRAME_TIMING_FRAME_TIMEOUT j) ≤ s.blk.linesSince (s.blk.camCtx j).fsLine →
      exec (.frameTimeout j) s = .next (s.withBlk (s.blk.cutFrame j 3)))) ∧
  (∀ (b : Blk) (j cause : Nat), j < 32 →
    (b.cutFrame j cause).ctxState j = ctxPadding ∧ (b.cutFrame j cause).flag CROUTE.IRQ_RAW_TRUNC = true ∧
    (b.cutFrame j cause).get (hErrCount Page.CROUTE) = satInc 32 (b.get (hErrCount Page.CROUTE)) ∧
    (b.flag (hCapValid Page.CROUTE) = false →
      (b.cutFrame j cause).word (regKey Page.CROUTE 0x024) = BitVec.ofNat 32 (capWord 0x02 7 (j + 4))) ∧
    b.keepsOtherPages (b.cutFrame j cause) [Page.CROUTE] ∧ (b.cutFrame j cause).spm = b.spm ∧
    (b.cutFrame j cause).cam.store = b.cam.store) ∧
  (∀ (s : State) (j : Nat), j < 32 → s.blk.powered Page.CROUTE = true → s.blk.ctxState j = ctxPadding →
    ((s.blk.camCtx j).delivered < (s.blk.camCtx j).height → (s.blk.ep.line - (s.blk.camCtx j).padAt).toNat < 2 ^ 47 →
      completes (.padLine j) s (fun t =>
        t.blk.cam.store = s.blk.cam.store ++ [⟨j + 4, (s.blk.camCtx j).width, ⟨(s.blk.camCtx j).delivered, 0, 0⟩, .fill (s.blk.camCtx j).pad⟩] ∧
        (j < s.blk.cam.ctx.length → (t.blk.camCtx j).delivered = (s.blk.camCtx j).delivered + 1) ∧
        t.blk.ctxState j = ctxPadding ∧ s.blk.keepsRegs t.blk [CROUTE.STORE_PEAK.key] ∧ s.node.sameMemory t.node)) ∧
    ((s.blk.camCtx j).height ≤ (s.blk.camCtx j).delivered → s.blk.ep.line ≠ (s.blk.camCtx j).lastPkt →
      completes (.padLine j) s (fun t =>
        t.blk.ctxState j = ctxIdle ∧ t.blk.get (CROUTE.STATE_FLAGS j) = (s.blk.camCtx j).flags % 256 ∧
        t.blk.cam.store = s.blk.cam.store ++ [⟨j + 4, 0, ⟨0, 0, 0⟩, .endOfFrame (s.blk.camCtx j).flags⟩] ∧
        s.blk.keepsOtherPages t.blk [Page.CROUTE] ∧ s.node.sameMemory t.node)))

/-! ### The image pipeline (spec/06) -/

/-- A line at the store's front leaves it and takes its positions; without a frame of its context it is gone, an end closes its frame, a
line of a live frame meets its table errors and, with the frame still live, enters it (spec/05 R105, spec/06 R120 to R142). Correctable
table errors are each counted and change nothing else; a frame that uses no table meets none (R125). -/
def Obligations.PipelineTakesTheStoresFrontLine : Prop :=
  ∀ (s : State) (l : StoreLine) (rest : List StoreLine), s.blk.active Page.ISP = true → s.blk.active Page.CROUTE = true →
    s.blk.isp.used < 8000 → s.blk.cam.store = l :: rest →
    let taken : Blk := { s.blk with
      cam := { s.blk.cam with store := rest }, isp := { s.blk.isp with used := s.blk.isp.used + l.positions } }
    (∀ x, s.blk.frameOf l.ctx = none → exec (.ispLineProcess x) s = .next (s.withBlk taken)) ∧
    (∀ k f, s.blk.frameOf l.ctx = some k → s.blk.isp.frames[k]? = some f →
      (∀ x flags, l.kind = .endOfFrame flags →
        exec (.ispLineProcess x) s =
          .next (s.withBlk ((taken.setFrame k { f with ended := some flags }).markFrame f.ctx f.coord))) ∧
      (∀ x, (∀ flags, l.kind ≠ .endOfFrame flags) → f.live = true →
        let met := taken.tableUpset k f x
        (f.usesTables = false → met = taken) ∧
        (f.usesTables = true → x.uncorrectable = false → met.isp = taken.isp ∧ taken.keepsRegs met [ISP.TABLE_ECC_COUNT.key] ∧
          met.get ISP.TABLE_ECC_COUNT = min (taken.get ISP.TABLE_ECC_COUNT + x.corrected) (2 ^ 32 - 1)) ∧
        (f.usesTables = true → x.uncorrectable = true → met.flag ISP.IRQ_RAW_TABLE_ECC = true ∧
          ∃ g, met.isp.frames[k]? = some g ∧ g.abandoned = true) ∧
        ∃ g, met.isp.frames[k]? = some g ∧
          exec (.ispLineProcess x) s = .next (s.withBlk (if g.live then met.frameLine k g l.kind else met))) ∧
      (∀ x, (∀ flags, l.kind ≠ .endOfFrame flags) → f.live = false →
        exec (.ispLineProcess x) s = .next (s.withBlk taken)))

/-- Held rows and descriptors (R138, R139, R141, R143). The first held row of a context whose slots are empty is written, or its frame
abandoned where its tile faults; one held longer than its tile's watchdog abandons the frame; a complete frame publishes its statistics, raises FRAME_DONE and writes its descriptor,
and is gone once that is written; a descriptor whose slot stays full until the watchdog is dropped. -/
def Obligations.HeldRowsAndDescriptorsEnd : Prop :=
  ∀ (s : State) (c k : Nat) (f : IspFrame), c < 36 → s.blk.isp.frames[k]? = some f → s.blk.active Page.ISP = true →
    (∀ h : HeldRow,
      let ready : IspFrame → Option HeldRow := fun g => if g.ctx == c then
        g.held.find? (fun x => s.blk.rowFree (g.place x.row).1 (g.place x.row).2 (slotsOf x.bytes.length)) else none
      s.blk.isp.frames.findIdx? (fun g => (ready g).isSome) = some k → ready f = some h →
      let left := { f with held := f.held.erase h }
      exec (.ispHoldRelease c) s = .next (s.withBlk
        (if s.blk.ispFault (left.place h.row).1 (left.place h.row).2 (slotsOf h.bytes.length) then s.blk.abandon k left icOutFault
         else s.blk.putRow k left h.row h.bytes))) ∧
    (s.blk.isp.frames.findIdx? (fun g =>
        g.ctx == c && g.held.any (fun h => decide (s.blk.stallLimit (g.place h.row).1 < s.blk.linesSince h.since))) = some k →
      exec (.ispHoldTimeout c) s = .next (s.withBlk (s.blk.abandon k f icOutHeld))) ∧
    (s.blk.isp.frames.findIdx? (fun g => g.ctx == c) = some k →
      f.complete = true → f.live = true → f.descAt = none → f.descDone = false →
      let shown := (s.blk.publish f).2.raise ISP.IRQ_RAW_FRAME_DONE
      let wrote := shown.writeDesc k (s.blk.publish f).1
      ∃ g, wrote.isp.frames[k]? = some g ∧
        exec (.ispFrameEnd c) s = .next (s.withBlk
          (if g.complete = true ∧ (g.descDone = true ∨ g.en = false) then wrote.setFrames (wrote.isp.frames.eraseIdx k) else wrote))) ∧
    (∀ at_, s.blk.isp.frames.findIdx? (fun g => g.ctx == c && (match g.descAt with
          | some x => decide (s.blk.stallLimit g.descTile ≤ s.blk.linesSince x) && s.blk.isFull g.descTile g.descSlot
          | none => false)) = some k →
      f.descAt = some at_ → f.complete = true →
      completes (.descLost c) s (fun t =>
        t.blk.isp.frames = s.blk.isp.frames.eraseIdx k ∧ t.blk.flag ISP.IRQ_RAW_DESC_LOST = true ∧
        t.blk.get (hErrCount Page.ISP) = satInc 32 (s.blk.get (hErrCount Page.ISP)) ∧ s.node.sameMemory t.node))

/-- TABLE_DATA (R125): a granted read answers the word TABLE_SEL and TABLE_ADDR name and TABLE_ADDR advances; a write stores it in the
bank not in force, and to the bank in force only sets TABLE_IN_FORCE and captures cause 03h; TABLE_ADDR advances. A correctable error
that the read meets is counted and the word read as it stands; a word with an uncorrectable one reads as a free value
(notes/assumptions/85), one that does not exist as 0 (the model's choice, notes/assumptions/37). -/
def Obligations.TableDataGoesToTheBankNotInForce : Prop :=
  (∀ (s : State) (a : Agent), agentOk a = true → s.blk.accessCause a Page.ISP 0x048 true false 0 = 0 →
    completes (.tableDataAccess a none 0) s (fun t =>
      t.blk.sent = s.blk.sent ++ [.access a Page.ISP 0x048 false 0
        (match s.blk.tableSel with | some k => Tbl.get (dflt 0) s.blk.isp.tables k | none => 0)] ∧
      t.blk.get ISP.TABLE_ADDR = (s.blk.get ISP.TABLE_ADDR + 1) % 2 ^ ISP.TABLE_ADDR.w ∧ t.blk.isp = s.blk.isp ∧
      s.blk.keepsRegs t.blk [ISP.TABLE_ADDR.key] ∧ s.node.sameMemory t.node)) ∧
  (∀ (s : State) (a : Agent) (k : Nat), agentOk a = true → s.blk.accessCause a Page.ISP 0x048 true false 0 = 0 → s.blk.tableSel = some k →
    completes (.tableDataAccess a none 1) s (fun t =>
      t.blk.sent = s.blk.sent ++ [.access a Page.ISP 0x048 false 0 (Tbl.get (dflt 0) s.blk.isp.tables k)] ∧
      t.blk.get ISP.TABLE_ECC_COUNT = satInc 32 (s.blk.get ISP.TABLE_ECC_COUNT) ∧
      t.blk.get ISP.TABLE_ADDR = (s.blk.get ISP.TABLE_ADDR + 1) % 2 ^ ISP.TABLE_ADDR.w ∧ t.blk.isp = s.blk.isp) ∧
    completes (.tableDataAccess a none 2) s (fun t =>
      t.blk.sent = s.blk.sent ++ [.access a Page.ISP 0x048 false 0 (BitVec.ofNat 32 (Config.freeValue s.blk.fresh % 2 ^ 32))] ∧
      t.blk.get ISP.TABLE_ADDR = (s.blk.get ISP.TABLE_ADDR + 1) % 2 ^ ISP.TABLE_ADDR.w ∧
      ∀ j, j ≠ k → Tbl.get (dflt 0) t.blk.isp.tables j = Tbl.get (dflt 0) s.blk.isp.tables j)) ∧
  (∀ (s : State) (a : Agent) (v : Word) (k : Nat), agentOk a = true → s.blk.granted a Page.ISP 0x048 v → s.blk.tableSel = some k →
    let inForce := s.blk.tableBank (s.blk.get ISP.TABLE_SEL_CONTEXT) (s.blk.get ISP.TABLE_SEL_TABLE)
    (s.blk.get ISP.TABLE_SEL_BANK ≠ inForce →
      completes (.tableDataAccess a (some v) 0) s (fun t =>
        Tbl.get (dflt 0) t.blk.isp.tables k = v ∧
        (∀ j, j ≠ k → Tbl.get (dflt 0) t.blk.isp.tables j = Tbl.get (dflt 0) s.blk.isp.tables j) ∧
        t.blk.get ISP.TABLE_ADDR = (s.blk.get ISP.TABLE_ADDR + 1) % 2 ^ ISP.TABLE_ADDR.w ∧
        s.blk.keepsRegs t.blk [ISP.TABLE_ADDR.key] ∧ s.node.sameMemory t.node)) ∧
    (s.blk.get ISP.TABLE_SEL_BANK = inForce →
      completes (.tableDataAccess a (some v) 0) s (fun t =>
        t.blk.isp = s.blk.isp ∧ t.blk.flag ISP.IRQ_RAW_TABLE_IN_FORCE = true ∧
        t.blk.get ISP.TABLE_ADDR = (s.blk.get ISP.TABLE_ADDR + 1) % 2 ^ ISP.TABLE_ADDR.w ∧
        s.blk.keepsOtherPages t.blk [Page.ISP] ∧ s.node.sameMemory t.node)))

/-! ### Tiles and scratchpads (spec/07, spec/08, spec/13) -/

/-- An access of a port of a running group (R148 to R153, R165, R166). Behind an earlier one of its port that waits it is held back; one
that has no target or a bad shape ends with its cause at the requesting tile; one whose tag condition does not hold, or whose granule is
being re-initialised, waits at the target. Else a read of a clean line answers the bytes and changes no byte, with SET_EMPTY the slot's
tag, one of a poisoned line ends with POISON, and a write stores its bytes at the target's local address and nowhere else, with SET_FULL
sets the slot's tag. -/
def Obligations.ScratchpadAccessesReadAndStoreAtTheirTarget : Prop :=
  ∀ (s : State) (x : SpmAccess) (t addr : Nat), x.tile < 16 → x.req < 4 →
    s.blk.active (tilePage x.tile) = true → s.blk.tstate x.tile = tsRun →
    (s.blk.portBusy x.tile x.req = true → exec (.spmAccess x) s =
      .next (s.withBlk (s.blk.setTile x.tile { s.blk.tile x.tile with held := (s.blk.tile x.tile).held ++ [x] }))) ∧
    (s.blk.portBusy x.tile x.req = false →
      (∀ cause, cause ≠ 0 → s.blk.spmTarget x.tile x.addr = (cause, t, addr) →
        exec (.spmAccess x) s = .next (s.withBlk (s.blk.portFault x.tile x.req cause (addr / 256)))) ∧
      (s.blk.spmTarget x.tile x.addr = (0, t, addr) → spmShape addr x.size = false →
        exec (.spmAccess x) s = .next (s.withBlk (s.blk.portFault x.tile x.req tcAlign (addr / 256)))) ∧
      (s.blk.spmTarget x.tile x.addr = (0, t, addr) → spmShape addr x.size = true →
        let voted := if x.check = .none then s.blk else s.blk.tagVote t (addr / 256)
        ((s.blk.inInit t addr = true ∨ s.blk.tagMet t (addr / 256) x = false) →
          exec (.spmAccess x) s = .next (s.withBlk (voted.addWait t
            ⟨x.tile, x.req, arrivalReq x.tile t x.req, addr / 256, waitKindOf x, s.blk.ep.line, false, some x⟩))) ∧
        (s.blk.inInit t addr = false → s.blk.tagMet t (addr / 256) x = true → x.data = none → s.blk.isPoisoned t (addr / 32) = true →
          exec (.spmAccess x) s = .next (s.withBlk (voted.portFault x.tile x.req tcPoison (addr / 256)))) ∧
        (s.blk.inInit t addr = false → s.blk.tagMet t (addr / 256) x = true → s.blk.lineClean t (addr / 32) →
          (x.data = none →
            completes (.spmAccess x) s (fun u =>
              u.blk.sent = s.blk.sent ++ [.spm x.tile x.req 0 (s.blk.spmGet t addr x.size)] ∧ s.node.sameMemory u.node ∧
              (x.after = .setEmpty → u.blk.isFull t (addr / 256) = false) ∧
              (x.after ≠ .setEmpty → u.blk.spm.full = s.blk.spm.full) ∧
              s.blk.keepsOtherPages u.blk [tilePage t, Page.SPM])) ∧
          (∀ bytes, x.data = some bytes → bytes.length = x.size →
            completes (.spmAccess x) s (fun u =>
              u.blk.spmGet t addr x.size = bytes ∧ s.blk.scratchKept u.blk t addr x.size ∧ s.node.sameButScratch u.node ∧
              u.blk.sent = s.blk.sent ++ [.spm x.tile x.req 0 []] ∧
              (x.after = .setFull → u.blk.isFull t (addr / 256) = true) ∧
              (x.after ≠ .setFull → u.blk.spm.full = s.blk.spm.full) ∧
              s.blk.keepsOtherPages u.blk [tilePage t, Page.SPM])))))

/-- Tags (R153, R155 to R160). A tag-only operation sets the tag, or counts it as redundant; the accesses waiting on a slot whose
condition has become true go on together, as far as their groups still run; with a wait of the requester named among them, the waits that
expire next end, each captured at the target, which sets TAG_TIMEOUT and, with TT_INFO not yet valid, holds its slot, requester and kind,
before any requester acts on it: the group of a port halts with TAG_TIMEOUT (waits begun in one line period expire together: the model's
choice, notes/assumptions/92). -/
def Obligations.TagsWaitReleaseAndTimeOut : Prop :=
  (∀ (s : State) (t slot : Nat) (full : Bool) (upsets : List Upset), t < 16 → slot < 12288 → upsets.all upsetOk = true →
    let b := upsets.foldl Blk.strike s.blk
    b.active (tilePage t) = true → b.tstate t ≠ tsMappedOut →
    let read := (b.finishInit t (slot / 256)).tagVote t slot
    exec (.tagOnlyOp t slot full upsets) s = .next (s.withBlk (b.setTag t slot full)) ∧ (b.setTag t slot full).isFull t slot = full ∧
    (read.isFull t slot = full →
      b.setTag t slot full = (read.bumpSat (TILE.TAG_REDUNDANT t)).raise (TILE.IRQ_RAW_TAG_REDUNDANT t))) ∧
  (∀ (s : State) (t slot : Nat), (t < 16 && slot < 0x4000) = true →
    let marked := s.blk.markMet t
    let go := marked.releasable t slot
    let freed := marked.setTile t { marked.tile t with waits := (marked.tile t).waits.filter (fun w => !go.contains w) }
    exec (.tagWaitRelease t slot) s =
      .next (s.withBlk ((go.filterMap (fun w => w.access)).foldl (fun b a => b.waitGoesOn t a) freed)) ∧
    (∀ w, w ∈ (s.blk.tile t).waits → w.slot = slot → w.access.isSome = true → (w.met || s.blk.waitCond t w) = true →
      { w with met := true } ∈ go) ∧
    (∀ w, w ∈ go → w.slot = slot ∧ w.met = true)) ∧
  (∀ (s : State) (t req : Nat), t < 16 → req < 16 → s.blk.powered (tilePage t) = true →
    let late := s.blk.expiredWaits t
    let named := late.any (fun w => w.req == req)
    let captured := s.blk.each late (fun b w => (b.dropWait t w).captureTimeout t w.req w.slot w.kind.isWrite)
    exec (.tagTimeout t req) s = .next (if named then s.withBlk (captured.each late (fun b w => b.waitTimeout t w)) else s) ∧
    (∀ w, w ∈ late → w ∈ (s.blk.tile t).waits ∧ s.blk.waitExpired t w = true)) ∧
  (∀ (b : Blk) (t : Nat) (w : Wait), w.port ≤ 3 →
    b.waitTimeout t w = (b.emit (.spm w.src w.port tcTimeout [])).haltGroup w.src tcTimeout) ∧
  (∀ (b : Blk) (t req slot : Nat) (isWrite : Bool), t < 16 →
    let captured := b.captureTimeout t req slot isWrite
    captured.flag (TILE.IRQ_RAW_TAG_TIMEOUT t) = true ∧
    (b.flag (TILE.TT_INFO_VALID t) = false →
      captured.flag (TILE.TT_INFO_VALID t) = true ∧ captured.get (TILE.TT_INFO_SLOT t) = slot % 2 ^ 14 ∧
      captured.get (TILE.TT_INFO_REQUESTER t) = req % 16 ∧ captured.get (TILE.TT_INFO_KIND t) = bitNat isWrite) ∧
    (b.flag (TILE.TT_INFO_VALID t) = true → captured.flag (TILE.TT_INFO_OVERFLOW t) = true ∧
      captured.get (TILE.TT_INFO_SLOT t) = b.get (TILE.TT_INFO_SLOT t)))

/-- Granules (R162, R163, R165, R167). A changed attribute stands at once and re-initialises its granule, those of the other granules
stay; codes 2 and 3 are refused with ATTR_BAD. When re-initialisation ends the granule is zero, EMPTY and without poison, every other byte
as it was, and the accesses that waited on it go on. A scrub step, after the stored bits that its operand names have changed (the model's
choice, notes/assumptions/5), looks at the row's lines of every powered tile that is not mapped out, advances the row and counts a pass
past the last: a correctable line is corrected, an uncorrectable one zeroed where its granule is ACT and its slot EMPTY, else poisoned;
over lines without a wrong bit it changes nothing else. -/
def Obligations.GranulesAreReinitialisedAndScrubbed : Prop :=
  (∀ (s : State) (a : Agent) (t g v : Nat), (agentOk a && t < 16 && g < 48 && v < 4) = true → s.blk.attr t g ≠ v →
    s.blk.granted a Page.SPM (0x100 + 0x10 * t + 4 * (g / 16))
      (s.blk.fieldWord Page.SPM (0x100 + 0x10 * t + 4 * (g / 16)) (2 * (g % 16)) 2 v) →
    completes (.attrWrite a t g v) s (fun u =>
      (v < 2 → u.blk.attr t g = v ∧ (s.blk.powered (tilePage t) = true → u.blk.inInit t (g * 0x10000) = true)) ∧
      (2 ≤ v → u.blk.attr t g = s.blk.attr t g ∧ u.blk.flag SPM.IRQ_RAW_ATTR_BAD = true ∧ u.blk.spm = s.blk.spm) ∧
      (∀ h, h < 48 → h ≠ g → u.blk.attr t h = s.blk.attr t h) ∧
      s.blk.keepsOtherPages u.blk [Page.SPM] ∧ s.node.sameMemory u.node)) ∧
  (∀ (s : State) (t g : Nat), (t < 16 && g < 48) = true →
    let done := s.blk.finishInit t g
    let slots := ((done.tile t).waits.filter (fun w => w.met && w.access.isSome && w.slot / 256 == g)).map (fun w => w.slot)
    exec (.granuleInitDone t g) s = .next (s.withBlk (done.each slots.eraseDups (fun b x => b.releaseWaits t x))) ∧
    (s.blk.inInit t (g * 0x10000) = false → done = s.blk) ∧
    (s.blk.inInit t (g * 0x10000) = true → done.inInit t (g * 0x10000) = false ∧
      (∀ i, i < 0x10000 → done.spmByte t (g * 0x10000 + i) = 0) ∧ s.blk.scratchKept done t (g * 0x10000) 0x10000 ∧
      (∀ i, i < 256 → done.isFull t (g * 256 + i) = false) ∧ (∀ i, i < 2048 → done.lineClean t (g * 2048 + i)))) ∧
  (∀ (s : State) (upsets : List Upset), upsets.all upsetOk = true →
    let b := upsets.foldl Blk.strike s.blk
    b.active Page.SPM = true → b.flag SPM.SCRUB_CTRL_EN = true →
    let row := b.get SPM.SCRUB_STATUS_ROW
    let tiles := indicesWhere 16 (fun t => b.powered (tilePage t) && b.tstate t != tsMappedOut)
    let seen := b.each tiles (fun b t => b.each (slotRange (row * 32) 32) (fun b line => b.scrubLine t line))
    exec (.scrubStep upsets) s = .next (s.withBlk (if row + 1 < 3072 then seen.set SPM.SCRUB_STATUS_ROW (row + 1)
      else ((seen.set SPM.SCRUB_STATUS_ROW 0).bump SPM.SCRUB_STATUS_PASSES).raise SPM.IRQ_RAW_SCRUB_PASS)) ∧
    (b.spm.flips = [] → seen = b)) ∧
  (∀ (b : Blk) (t line : Nat), b.isPoisoned t line = false → b.inInit t (line * 32) = false →
    (b.lineFinding t line = 1 → b.scrubLine t line = b.correctLine t line) ∧
    (b.lineFinding t line = 2 →
      let voted := b.tagVote t (line / 8)
      (voted.attr t (line / 2048) = 0 ∧ voted.isFull t (line / 8) = false →
        (b.scrubLine t line).spmGet t (line * 32) 32 = List.replicate 32 0 ∧ (b.scrubLine t line).lineClean t line ∧
        (b.scrubLine t line).flag SPM.IRQ_RAW_UE_EMPTY = true ∧ b.scratchKept (b.scrubLine t line) t (line * 32) 32) ∧
      (¬(voted.attr t (line / 2048) = 0 ∧ voted.isFull t (line / 8) = false) → b.scrubLine t line = voted.poisonLine t line 12)))

/-- Compare-and-count (R169 to R172). A good descriptor, from the registers or from the group, is queued behind at most four and shown in
CC_STATUS; a bad one sets LAST_ERR 1, one too many LAST_ERR 2, one at a mapped-out tile LAST_ERR 5, and none of these is queued. The running
descriptor waits at its first unmet tag. One whose tags are met and whose source and key can be read leaves its result, rounded up to whole
slots, and CC_DONE; COUNT writes no matches, MATCH its count. -/
def Obligations.CompareAndCountQueuesAndCompletes : Prop :=
  (∀ (s : State) (a : Agent) (t : Nat) (byGroup : Bool) (desc : List Byte),
    (agentOk a && t < 16 && (!byGroup || desc.length == 32)) = true →
    (byGroup = true → s.blk.powered (tilePage t) = true ∧ s.blk.tstate t = tsRun) →
    (byGroup = false → s.blk.granted a (tilePage t) 0x0A0 1) →
    let d := if byGroup then desc else s.blk.ccDescBytes t
    let ends := fun b : Blk => if byGroup then b else b.answered a (tilePage t) 0x0A0
    ((s.blk.tile t).cc.length < 5 → ccGood d = true →
      exec (.ccGo a t byGroup desc) s = .next (s.withBlk
        (ends (if s.blk.tstate t = tsMappedOut then s.blk.ccError t 5 byGroup
          else (s.blk.setTile t { s.blk.tile t with cc := (s.blk.tile t).cc ++ [⟨d, byGroup⟩] }).ccShow t)))) ∧
    ((s.blk.tile t).cc.length < 5 → ccGood d = false →
      exec (.ccGo a t byGroup desc) s = .next (s.withBlk (ends (s.blk.ccError t 1 byGroup)))) ∧
    (5 ≤ (s.blk.tile t).cc.length →
      exec (.ccGo a t byGroup desc) s = .next (s.withBlk (ends (s.blk.ccError t 2 byGroup))))) ∧
  (∀ (s : State) (t : Nat) (j : CcJob) (rest : List CcJob), t < 16 →
    s.blk.active (tilePage t) = true → (s.blk.tile t).cc = j :: rest →
    let voted := s.blk.tagVotes t (ccSlots j.desc)
    (∀ slot kind, voted.ccUnmet t j.desc = some (slot, kind) →
      exec (.ccDone t) s = .next (s.withBlk (voted.unitWait t t 11 11 slot kind))) ∧
    (∀ (key src : List Byte) (b1 b2 : Blk), voted.ccUnmet t j.desc = none →
      (voted.clearUnitWaits t t 11).spmRead t (ccKey j.desc) (ccKeyBytes j.desc) 11 = (0, key, b1) →
      b1.spmRead t (ccSrc j.desc) (ccSrcBytes j.desc) 11 = (0, src, b2) →
      let res := ccCompute j.desc src key
      let wrote := (b2.spmWrite t (ccResult j.desc) (res.1 ++ List.replicate (ccResultBytes j.desc - res.1.length) 0) 11).2
      let counted := if ccOp j.desc = 1 then wrote.set (TILE.CC_MATCHES t) res.2 else wrote
      let tagged := if bitAt (ccTags j.desc) 1 then
        counted.setTags t (slotRange (ccResult j.desc / 256) (ccResultBytes j.desc / 256)) true else counted
      exec (.ccDone t) s = .next (s.withBlk ((tagged.raise (TILE.IRQ_RAW_CC_DONE t)).ccPop t))))

/-- Groups (R172, spec/13 R319). Every schedule instance that may start does, in order: one whose tiles are all IDLE and ready starts on all
of them at once, each then RUN with the group's number and no halt cause; one with a tile that refuses is missed. A group that ends leaves
its tile IDLE with GROUP_DONE set, its signature latched, SCHED told. -/
def Obligations.GroupsStartTogetherAndEnd : Prop :=
  (∀ s : State, exec .groupStart s = .next (s.withBlk (s.blk.each (List.range s.blk.sched.insts.length) Blk.startInst))) ∧
  (∀ (b : Blk) (k : Nat) (i : Inst), b.sched.insts[k]? = some i → mayStartInst b.sched.insts k i = true →
    b.active Page.SCHED = true → b.instAge i ≤ i.lastStart →
    (∀ t, t ∈ tilesOf i.mask → b.powered (tilePage t) = true ∧ b.tstate t = tsIdle) →
    ((∀ t, t ∈ tilesOf i.mask → b.tileReady t = true) →
      b.startInst k = (b.each (tilesOf i.mask) (fun b t => b.startTile t i.group)).setInsts
        (setNth b.sched.insts k { i with state := .running, startedAt := b.ep.line, done := 0 })) ∧
    ((∃ t, t ∈ tilesOf i.mask ∧ b.tileReady t = false) →
      b.startInst k = (b.missInst i).setInsts (setNth b.sched.insts k { i with state := .missed, why := (gapJob, 0x01) }))) ∧
  (∀ (b : Blk) (t g : Nat), t < 16 → (b.startTile t g).tstate t = tsRun ∧ (b.startTile t g).get (TILE.GROUP_STATUS_GROUP t) = g % 65536 ∧
    (b.startTile t g).get (TILE.GROUP_STATUS_HALT_CAUSE t) = 0 ∧ b.keepsOtherPages (b.startTile t g) [tilePage t]) ∧
  (∀ (s : State) (t : Nat), t < 16 → s.blk.powered (tilePage t) = true → s.blk.tstate t = tsRun →
    let g := s.blk.get (TILE.GROUP_STATUS_GROUP t)
    let idle := (s.blk.set (TILE.STATUS_TSTATE t) tsIdle).raise (TILE.IRQ_RAW_GROUP_DONE t)
    let ended := idle.setTile t { idle.tile t with canary := none }
    let signed := match (s.blk.tile t).canary with
      | some c => if s.blk.powered Page.SAFE then ended.latchSignature t g (c ^^^ 0xFFFFFFFF#32) else ended
      | none => ended
    exec (.groupEnd t) s = .next (s.withBlk (if signed.powered Page.SCHED then signed.groupDone t g else signed)) ∧
    ended.tstate t = tsIdle ∧ ended.flag (TILE.IRQ_RAW_GROUP_DONE t) = true)

/-- Tile states (R172, R173). On a tile not mapped out CANCEL halts a running group with cause CANCELLED, RELEASE makes a halted tile
IDLE, SELF_CHECK starts on an idle one; MAP_OUT makes any tile MAPPED_OUT, a running group halting first and the waits at the tile ending
with MAPPED_OUT, and 0 makes it IDLE. A self check that ends shows its outcome and counts the run; a failing one raises SELF_CHECK_FAIL and reports the tile with cause 04h. -/
def Obligations.TileControlMovesTheTileState : Prop :=
  (∀ (s : State) (a : Agent) (t : Nat), (agentOk a && t < 16) = true →
    let w := fun lo v => s.blk.fieldWord (tilePage t) 0x040 lo 1 v
    (s.blk.flag (TILE.TCTRL_MAP_OUT t) = false → s.blk.tstate t = tsRun → s.blk.granted a (tilePage t) 0x040 (w 3 1) →
      completes (.tileCancel a t) s (fun u => u.blk.tstate t = tsHalted ∧ u.blk.flag (TILE.IRQ_RAW_GROUP_HALTED t) = true ∧
        u.blk.get (TILE.GROUP_STATUS_HALT_CAUSE t) = tcCancelled ∧ (u.blk.tile t).matrix = [] ∧
        s.blk.keepsOtherPages u.blk [tilePage t] ∧ s.node.sameMemory u.node)) ∧
    (s.blk.flag (TILE.TCTRL_MAP_OUT t) = false → s.blk.tstate t = tsHalted → s.blk.granted a (tilePage t) 0x040 (w 1 1) →
      exec (.tileRelease a t) s =
        .next (s.withBlk ((s.blk.set (TILE.STATUS_TSTATE t) tsIdle).answered a (tilePage t) 0x040))) ∧
    (s.blk.tstate t ≠ tsMappedOut → s.blk.granted a (tilePage t) 0x040 (w 0 1) →
      let out := ((s.blk.set (TILE.TCTRL_MAP_OUT t) 1).haltGroup t tcMappedOut).set (TILE.STATUS_TSTATE t) tsMappedOut
      exec (.tileMapOut a t) s = .next (s.withBlk
        (((out.setTile t { out.tile t with checking := false }).endWaits t tcMappedOut).answered a (tilePage t) 0x040)) ∧
      out.tstate t = tsMappedOut) ∧
    (s.blk.flag (TILE.TCTRL_MAP_OUT t) = true → s.blk.tstate t = tsMappedOut → s.blk.granted a (tilePage t) 0x040 (w 0 0) →
      completes (.tileMapIn a t) s (fun u => u.blk.tstate t = tsIdle ∧ u.blk.flag (TILE.TCTRL_MAP_OUT t) = false ∧
        s.blk.keepsOtherPages u.blk [tilePage t] ∧ s.node.sameMemory u.node)) ∧
    (s.blk.flag (TILE.TCTRL_MAP_OUT t) = false → s.blk.tstate t = tsIdle → s.blk.active (tilePage t) = true →
      (s.blk.tile t).checking = false → s.blk.granted a (tilePage t) 0x040 (w 2 1) →
      exec (.tileSelfCheck a t) s = .next (s.withBlk (((s.blk.set (TILE.SELF_CHECK_DONE t) 0).setTile t
        { s.blk.tile t with checking := true }).answered a (tilePage t) 0x040)))) ∧
  (∀ (s : State) (t : Nat) (fail : Bool), t < 16 → (s.blk.tile t).checking = true →
    completes (.selfCheckDone t fail) s (fun u =>
      (t < s.blk.tiles.length → (u.blk.tile t).checking = false) ∧ u.blk.flag (TILE.SELF_CHECK_DONE t) = true ∧
      u.blk.flag (TILE.SELF_CHECK_FAIL t) = fail ∧
      u.blk.get (TILE.SELF_CHECK_RUNS t) = (s.blk.get (TILE.SELF_CHECK_RUNS t) + 1) % 65536 ∧
      (fail = true → u.blk.flag (TILE.IRQ_RAW_SELF_CHECK_FAIL t) = true) ∧
      u.blk.reports = s.blk.reports ++ (if fail then [⟨0x04, tilePage t, false, t⟩] else []) ∧
      s.blk.keepsOtherPages u.blk [tilePage t] ∧ s.node.sameMemory u.node))

/-- The debug window (R148, R175): a granted read answers the four bytes DBG_ADDR names, little-endian, a write stores them and no other byte,
neither with a tag action; an address that is no multiple of 4 or lies beyond the scratchpad is captured at the tile for requester 13,
the read answering 0 and the write doing nothing; a write of DBG_TAG sets the tag of the slot that holds the address. -/
def Obligations.DebugWindowReachesAPoweredTile : Prop :=
  ∀ (s : State) (a : Agent), agentOk a = true →
    let t := s.blk.get SPM.DBG_ADDR_TILE
    let addr := s.blk.get SPM.DBG_ADDR_OFFSET
    s.blk.powered (tilePage t) = true →
    (addr % 4 ≠ 0 ∨ spmBytes ≤ addr →
      let faulted := s.blk.tileError t (if addr % 4 ≠ 0 then tcAlign else tcRange) 13 (addr / 256 % 2 ^ 14)
      (∀ v, s.blk.accessCause a Page.SPM 0x04C true false 0 = 0 →
        exec (.dbgDataAccess a false v) s = .next (s.withBlk (faulted.emit (.access a Page.SPM 0x04C false 0 0)))) ∧
      (∀ v, s.blk.granted a Page.SPM 0x04C v →
        exec (.dbgDataAccess a true v) s = .next (s.withBlk (faulted.answered a Page.SPM 0x04C)))) ∧
    (addr % 4 = 0 → addr < spmBytes → s.blk.inInit t addr = false → s.blk.lineClean t (addr / 32) →
      (∀ v, s.blk.accessCause a Page.SPM 0x04C true false 0 = 0 →
        exec (.dbgDataAccess a false v) s = .next (s.withBlk (s.blk.emit
          (.access a Page.SPM 0x04C false 0 (BitVec.ofNat 32 (leNat (s.blk.spmGet t addr 4))))))) ∧
      (∀ v, s.blk.granted a Page.SPM 0x04C v →
        completes (.dbgDataAccess a true v) s (fun u =>
          leNat (u.blk.spmGet t addr 4) = v.toNat ∧ s.blk.scratchKept u.blk t addr 4 ∧ s.node.sameButScratch u.node ∧
          u.blk.spm.full = s.blk.spm.full ∧ u.blk.regs = s.blk.regs))) ∧
    (∀ full, addr < spmBytes → s.blk.granted a Page.SPM 0x050 (s.blk.fieldWord Page.SPM 0x050 0 1 (bitNat full)) →
      exec (.dbgTagWrite a full) s = .next (s.withBlk ((s.blk.setTag t (addr / 256) full).answered a Page.SPM 0x050)))

/-- Operators and vector operations (spec/08 R184, R187, R188, R190, R192, R196). A descriptor that can be read joins its unit's queue, a
refused one halts the group with RANGE. The running operator waits at its next gate read whose slot is not FULL; with its gate reads and
the writes of its row made, the row is complete; a slot that is not as it must be makes it wait, a read or a write that fails halts the group
with the cause. An integer ADD stores the lanes' sums, wrapped or saturated, with its tag actions. -/
def Obligations.OperatorsQueueWaitAndWriteTheirRows : Prop :=
  (∀ (s : State) (t offset : Nat), t < 16 → s.blk.active (tilePage t) = true → s.blk.tstate t = tsRun →
    (offset % 32 ≠ 0 ∨ spmBytes < offset + 64 → exec (.operatorIssue t offset) s = .next (s.withBlk (s.blk.portFault t 0 tcRange 0))) ∧
    (∀ c d b1, offset % 32 = 0 → offset + 64 ≤ spmBytes → s.blk.spmRead t offset 64 0 = (c, d, b1) →
      let o := opDesc d
      exec (.operatorIssue t offset) s = .next (s.withBlk (if c ≠ 0 then b1.portFault t 0 c (offset / 256)
        else if o.accepted d = true then
          b1.setTile t ((b1.tile t).setOps o.isPool ((b1.tile t).ops o.isPool ++ [⟨d, 0, 0, 0, [], 0, 0, 0⟩]))
        else b1.portFault t (if o.isPool then 3 else 0) tcRange 0)))) ∧
  (∀ (s : State) (t : Nat) (vector : Bool) (q : OpRun) (rest : List OpRun), t < 16 → s.blk.active (tilePage t) = true →
    s.blk.tstate t = tsRun → (s.blk.tile t).ops vector = q :: rest →
    let rd := unitReads vector
    let wr := unitWrites vector
    s.blk.portTaken t rd = false → s.blk.portTaken t wr = false →
    let o := opDesc q.desc
    let r := o.rowFirst + q.done
    (∀ slot slots, (o.gateSlots r q.gated).drop q.gates = slot :: slots →
      let voted := s.blk.tagVote t slot
      voted.foundFull t slot = false → voted.unitGranted t t rd slot = false →
      exec (.outputRowDone t vector) s = .next (s.withBlk
        ((voted.setTile t ((voted.tile t).setOps vector (q :: rest))).unitWait t t rd rd slot .readFull))) ∧
    (∀ q' b', s.blk.rowStep t rd wr o q r = (q', .go, b') →
      exec (.outputRowDone t vector) s = .next (s.withBlk
        ((((b'.clearUnitWaits t t wr).rowComplete t o q' rest r).portGoesOn t rd).portGoesOn t wr))) ∧
    (∀ q' b' port slot kind, s.blk.rowStep t rd wr o q r = (q', .wait port slot kind, b') →
      exec (.outputRowDone t vector) s = .next (s.withBlk
        ((b'.setTile t ((b'.tile t).setOps vector (q' :: rest))).unitWait t t port port slot kind))) ∧
    (∀ q' b' port cause slot, s.blk.rowStep t rd wr o q r = (q', .fault port cause slot, b') →
      exec (.outputRowDone t vector) s = .next (s.withBlk (b'.portFault t port cause slot)))) ∧
  (∀ (s : State) (v : VectorOp) (xa xb : List Byte) (b1 b2 : Blk), v.tile < 16 → s.blk.active (tilePage v.tile) = true →
    s.blk.tstate v.tile = tsRun → s.blk.portTaken v.tile 3 = false →
    v.kind = .add → (v.fmt = 1 ∨ v.fmt = 6 ∨ v.fmt = 8) → v.acc = none → v.a % 32 = 0 → v.b % 32 = 0 → v.dst % 32 = 0 →
    let voted := if v.waitFull then s.blk.vecVotes v.tile [v.a, v.b] else s.blk
    (v.waitFull = true → voted.vecUnmet v.tile true [v.a, v.b] = none) →
    voted.vecRead v.tile v.a 32 = (0, xa, b1) → b1.vecRead v.tile v.b 32 = (0, xb, b2) →
    let w := laneBitsOf v.fmt
    let sums := ((elems w xa).zip (elems w xb)).map (fun p => laneInt w v.sat (signedOf w p.1 + signedOf w p.2))
    exec (.vectorOp v) s = .next (s.withBlk (b2.vecStore v w (sums.map some))) ∧
    (∀ b3, v.waitEmpty = false → b2.vecWrite v.tile v.dst (packElems w sums) = (0, b3) →
      let emptied := if v.setEmpty then b3.vecTags v.tile false [v.a, v.b] else b3
      b2.vecStore v w (sums.map some) = (if v.setFull then emptied.vecTags v.tile true [v.dst] else emptied).vecGoesOn v))

/-! ### Bulk memory, the mover, weight packing (spec/09, spec/10) -/

/-- BULK_ACCESS (R236 to R239, R241): out of reach it ends with its cause; on a page that is RELOADING or migrating it waits; else a read of
clean units answers their bytes and a write stores its bytes and no other; a first unit that is poisoned ends a read with POISON. A check
that finds one correctable error corrects and counts it, one that finds an uncorrectable error retires the page and ends with POISON, on a
page then DEAD with DEAD_PAGE. -/
def Obligations.BulkAccessesReadAndStoreAtTheirAddress : Prop :=
  (∀ (s : State) (x : BulkAccess), (1 ≤ x.cls && x.cls ≤ 5) = true →
    let n := match x.data with | none => x.size | some bs => (bs.take x.size).length
    let outcome := fun c bs => s.withBlk (s.blk.emit (.bulk x.cls x.addr c bs))
    (s.blk.bulkReach x.addr n ≠ 0 → exec (.bulkAccess x) s = .next (outcome (s.blk.bulkReach x.addr n) [])) ∧
    (∀ p, s.blk.bulkReach x.addr n = 0 → (pagesOf x.addr n).find? (fun p => s.blk.pageHeld p) = some p →
      exec (.bulkAccess x) s = .next (s.withBlk { s.blk with
        bulk := { s.blk.bulk with waits := s.blk.bulk.waits ++ [⟨x.cls, p, s.blk.ep.line, some x, false⟩] } })) ∧
    (s.blk.bulkReach x.addr n = 0 → (pagesOf x.addr n).find? (fun p => s.blk.pageHeld p) = none →
      ((∀ u ∈ unitsOf x.addr n, u < bulkUnits ∧ (s.blk.bpage (u / 64)).dead = false ∧ s.blk.unitPoisoned u = false ∧
          s.blk.unitFlips u = []) →
        (x.data = none → exec (.bulkAccess x) s = .next (outcome 0 (s.blk.bulkGet x.addr n))) ∧
        (∀ bs, x.data = some bs → completes (.bulkAccess x) s (fun t =>
          t.blk.bulkGet x.addr n = bs.take x.size ∧ s.blk.bulkKept t.blk x.addr n ∧ s.node.sameButBulk t.node ∧
          t.blk.regs = s.blk.regs ∧ t.blk.sent = s.blk.sent ++ [.bulk x.cls x.addr 0 []]))) ∧
      (∀ u rest, x.data = none → unitsOf x.addr n = u :: rest → u < bulkUnits → (s.blk.bpage (u / 64)).dead = false →
        s.blk.unitPoisoned u = true → exec (.bulkAccess x) s = .next (outcome bkPoison [])) ∧
      (∃ b, exec (.bulkAccess x) s = .next (s.withBlk b)))) ∧
  (∀ (b : Blk) (cls u : Nat), u < bulkUnits → (b.bpage (u / 64)).dead = false → b.unitPoisoned u = false →
    (unitFinding (b.unitFlips u) = 0 → b.unitCheck cls u = (0, b)) ∧
    (unitFinding (b.unitFlips u) = 1 →
      let c := b.unitCheck cls u
      c.1 = 0 ∧ c.2.unitFlips u = [] ∧ c.2.flag BULK.IRQ_RAW_CE = true ∧
      c.2.get BULK.ECC_CE_COUNT = satInc BULK.ECC_CE_COUNT.w (b.get BULK.ECC_CE_COUNT) ∧ c.2.bulk.bytes = b.bulk.bytes) ∧
    (unitFinding (b.unitFlips u) = 2 →
      let r := b.retire (u / 64) 0 (cls % 8)
      b.unitCheck cls u = (if (r.bpage (u / 64)).dead = true then bkDead else bkPoison, r)))

/-- A reload ends (R239): the page holds the bytes of its flash region, clean, RELOAD_DONE is raised and the accesses that waited are made;
with a failing flash read or no region that reloads it, the page stays poisoned and RELOAD_FAIL is captured. Accesses that waited past
HOLD_LIMIT end with POISON. A migration that is done maps the page to the next spare, its bytes kept and its code corrected, a unit that
cannot be corrected poisoned there (R237; notes/assumptions/95); with no spare left the page stays where it is (notes/assumptions/22). -/
def Obligations.ReloadsAndMigrationsEnd : Prop :=
  (∀ (s : State) (page : Nat) (rest : List Nat), s.blk.bulk.reloads = page :: rest → s.blk.powered Page.BULK = true →
    s.blk.powered Page.MOVER = true →
    let freed := ({ s.blk with bulk := { s.blk.bulk with reloads := rest } } : Blk).setBpage page { s.blk.bpage page with reloading := false }
    let failed := Host.Outcome.next (s.withBlk ((((freed.raise BULK.IRQ_RAW_RELOAD_FAIL).captureOwnFree Page.BULK 0x04).raise
      MOVER.IRQ_RAW_RELOAD_ERR).releasePage page))
    (∀ off, s.blk.reloadFrom page = some off →
      let stored := (freed.each (slotRange (page * 64) 64) (fun b u => b.markUnit u false)).bulkPut (page * 4096)
        (s.blk.flashGet off 4096)
      exec (.reloadComplete false) s = .next (s.withBlk ((((stored.raise BULK.IRQ_RAW_RELOAD_DONE).raise
        MOVER.IRQ_RAW_RELOAD_DONE).bump MOVER.RELOAD_STATUS_DONE).releasePage page)) ∧
      stored.bulkGet (page * 4096) 4096 = s.blk.flashGet off 4096 ∧ s.blk.bulkKept stored (page * 4096) 4096 ∧
      (∀ u, page * 64 ≤ u → u < page * 64 + 64 → stored.unitPoisoned u = false ∧ stored.unitFlips u = []) ∧
      stored.pageHeld page = (s.blk.bpage page).migrating.isSome) ∧
    (s.blk.reloadFrom page = none → exec (.reloadComplete false) s = failed) ∧
    exec (.reloadComplete true) s = failed) ∧
  (∀ (s : State) (e : Bool), (s.blk.bulk.reloads = [] ∨ s.blk.powered Page.BULK = false ∨ s.blk.powered Page.MOVER = false) →
    exec (.reloadComplete e) s = .next s) ∧
  (∀ s : State,
    let late := fun w : BulkWait => (s.blk.bpage w.page).reloading && decide (s.blk.get BULK.HOLD_LIMIT < s.blk.linesSince w.since) &&
      w.access.isSome
    completes .reloadHoldTimeout s (fun t =>
      t.blk.bulk.waits = s.blk.bulk.waits.filter (fun w => !late w) ∧
      t.blk.sent = s.blk.sent ++ (s.blk.bulk.waits.filter (fun w => late w && !w.own)).filterMap
        (fun w => w.access.map (fun x => .bulk x.cls x.addr bkPoison [])) ∧
      t.blk.regs = s.blk.regs ∧ s.node.sameMemory t.node)) ∧
  (∀ (s : State) (page : Nat), page < bulkPages →
    ((s.blk.bpage page).migrating = none → exec (.pageMigrationDone page) s = .next s) ∧
    (∀ finder, (s.blk.bpage page).migrating = some finder →
      let ended := s.blk.setBpage page { s.blk.bpage page with migrating := none }
      (65536 ≤ s.blk.bulk.used → exec (.pageMigrationDone page) s = .next (s.withBlk (ended.releasePage page))) ∧
      (s.blk.bulk.used < 65536 →
        ∃ moved : Blk, exec (.pageMigrationDone page) s = .next (s.withBlk (moved.releasePage page)) ∧
          moved.bpage page = { s.blk.bpage page with migrating := none, spare := some s.blk.bulk.used } ∧
          moved.bulk.used = s.blk.bulk.used + 1 ∧ moved.bulk.bytes = s.blk.bulk.bytes ∧
          (∀ u, page * 64 ≤ u → u < page * 64 + 64 → moved.unitFlips u = [] ∧
            moved.unitPoisoned u = (s.blk.unitPoisoned u || decide (2 ≤ unitFinding (s.blk.unitFlips u)))) ∧
          (∀ u, ¬ (page * 64 ≤ u ∧ u < page * 64 + 64) → moved.unitFlips u = s.blk.unitFlips u ∧
            moved.unitPoisoned u = s.blk.unitPoisoned u) ∧
          page ∈ moved.fuse.retired ∧ moved.flag BULK.IRQ_RAW_RETIRED = true ∧
          s.blk.keepsRegs moved [BULK.IRQ_RAW_RETIRED.key, BULK.IRQ_RAW_SPARES_LOW.key, BULK.RLOG_HEAD_NEXT.key] ∧
          moved.flash = s.blk.flash ∧ moved.spm = s.blk.spm)))

/-- Retirement (R238, R241, R242): while a spare is left the page takes the next one, its units poisoned, and joins the list of retired
pages; without one it is DEAD and is reported with cause 07h. RETIRE_CTRL loads or forces RETIRE_PAGE. SHARE is stored while its five
shares make at most 60 (R244). The scrub, after the stored bits that its operand names have changed (the model's choice,
notes/assumptions/5), looks at the unit at SCRUB_POS and goes on to the next, or wraps with SCRUB_PASS (R243); with SCRUB_CTRL.EN 0 it
does nothing else. -/
def Obligations.RetirementSharesAndScrub : Prop :=
  (∀ (b : Blk) (page kind finder : Nat), page < bulkPages → kind < 4 →
    let r := b.retire page kind finder
    r.bulk.bytes = b.bulk.bytes ∧ b.keepsOtherPages r [Page.BULK] ∧
    (b.bulk.used < 65536 →
      r.bulk.used = b.bulk.used + 1 ∧ (r.bpage page).spare = some b.bulk.used ∧ (r.bpage page).migrating = none ∧
      page ∈ r.fuse.retired ∧
      (∀ u, page * 64 ≤ u → u < page * 64 + 64 → r.unitPoisoned u = true) ∧ (kind ≠ 2 → r.flag BULK.IRQ_RAW_RETIRED = true) ∧
      (kind ≠ 2 → (b.reloadFrom page).isSome = true → (b.bpage page).reloading = false →
        (r.bpage page).reloading = true ∧ r.bulk.reloads = b.bulk.reloads ++ [page]) ∧ r.reports = b.reports) ∧
    (65536 ≤ b.bulk.used → (r.bpage page).dead = true ∧ r.pageHeld page = false ∧ r.flag BULK.IRQ_RAW_DEAD_PAGE = true ∧
      r.bulk.used = b.bulk.used ∧ r.bulk.reloads = b.bulk.reloads.filter (fun p => p != page) ∧
      r.reports = b.reports ++ [⟨0x07, Page.BULK, false, 0xFF⟩])) ∧
  (∀ (s : State) (a : Agent), agentOk a = true →
    let page := s.blk.get BULK.RETIRE_PAGE
    let x := s.blk.bpage page
    let kind := fun k => s.blk.set BULK.RETIRE_CTRL_KIND k
    let ends := fun b : Blk => Host.Outcome.next (s.withBlk (b.answered a Page.BULK 0x074))
    let forced := (kind 3).retire page 3 1
    (s.blk.granted a Page.BULK 0x074 3 →
      exec (.retireLoad a) s =
        (if bulkPages ≤ page then ends ((kind 1).captureOwnFree Page.BULK 0x05)
         else if x.spare.isSome ∨ x.dead = true then ends (kind 1) else ends ((kind 1).retire page 2 1))) ∧
    (s.blk.granted a Page.BULK 0x074 7 →
      exec (.retireForced a) s =
        (if bulkPages ≤ page then ends ((kind 3).captureOwnFree Page.BULK 0x05)
         else if x.dead = true then ends (kind 3)
         else ends (if forced.pageHeld page = true then forced else forced.releasePage page))) ∧
    (∀ v : Word, s.blk.granted a Page.BULK 0x048 v →
      let n := v.toNat
      exec (.shareWrite a v) s = .next (s.withBlk (
        (if bitsAt n 0 6 + bitsAt n 6 6 + bitsAt n 12 6 + bitsAt n 18 6 + bitsAt n 24 6 ≤ 60
          then s.blk.storeKey (regKey Page.BULK 0x048) v else s.blk.captureFree Page.BULK 0x03 (agentCode a)).answered a Page.BULK 0x048)))) ∧
  (∀ (s : State) (upsets : List Upset), upsets.all upsetOk = true →
    let b := upsets.foldl Blk.strike s.blk
    let pos := b.get BULK.SCRUB_POS
    let ends := fun seen : Blk => exec (.bulkScrubStep upsets) s = .next (s.withBlk
      (if pos + 1 < bulkUnits + 64 * seen.bulk.used then seen.set BULK.SCRUB_POS (pos + 1)
       else (seen.set BULK.SCRUB_POS 0).raise BULK.IRQ_RAW_SCRUB_PASS))
    ((b.active Page.BULK = false ∨ b.flag BULK.SCRUB_CTRL_EN = false) → exec (.bulkScrubStep upsets) s = .next (s.withBlk b)) ∧
    (b.active Page.BULK = true → b.flag BULK.SCRUB_CTRL_EN = true →
      (∀ u, (if pos < bulkUnits then u = pos
          else ∃ p, b.spareOwner ((pos - bulkUnits) / 64) = some p ∧ u = p * 64 + (pos - bulkUnits) % 64) →
        ends (if b.pageHeld (u / 64) = true ∨ (b.bpage (u / 64)).dead = true then b else (b.unitCheck 0 u).2)) ∧
      (bulkUnits ≤ pos → b.spareOwner ((pos - bulkUnits) / 64) = none → ends b)))

/-- The mover's rings (R224 to R226, R228 to R234, R245). TAIL is set and an idle enabled channel with descriptors runs; on a halted
channel RESUME runs descriptor HEAD again, SKIP the next one; ABORT ends what runs and empties the ring. The channel served next is one that
waits for nothing and has the highest PRIO (in what turns channels are served while MOVER_DESC_DONE runs is the model's reading,
notes/assumptions/35). Descriptor HEAD of the channel served is fetched; one refused, sheared or failing halts the channel, one that cannot
go on waits, one whose chunks are all moved completes or goes to its queue pair; a chunk moved advances the position by its bytes. -/
def Obligations.MoverChannelsRunTheirDescriptors : Prop :=
  (∀ (s : State) (a : Agent) (c : Nat), (agentOk a && c < 8) = true →
    let at_ := 0x118 + 0x20 * c
    let ends := fun b : Blk => Host.Outcome.next (s.withBlk (b.answered a Page.MOVER at_))
    (∀ tail, tail < 4096 → s.blk.granted a Page.MOVER (0x10C + 0x20 * c) (BitVec.ofNat 32 tail) →
      exec (.moverTailWrite a c tail) s =
        .next (s.withBlk (((s.blk.set (MOVER.TAIL c) tail).moverStart c).answered a Page.MOVER (0x10C + 0x20 * c)))) ∧
    (s.blk.granted a Page.MOVER at_ 1 →
      exec (.moverResume a c) s =
        (if s.blk.mstate c = msHalted then ends ((s.blk.setMstate c msIdle).moverStart c) else ends s.blk)) ∧
    (s.blk.granted a Page.MOVER at_ 2 →
      exec (.moverSkip a c) s =
        (if s.blk.mstate c = msHalted then
          ends (((s.blk.set (MOVER.HEAD c) ((s.blk.get (MOVER.HEAD c) + 1) % s.blk.ringSize c)).setMstate c msIdle).moverStart c)
         else ends s.blk)) ∧
    (s.blk.granted a Page.MOVER at_ 4 →
      let stopped := s.blk.moverStop c
      exec (.moverAbort a c) s =
        ends ((stopped.setMstate c msIdle).set (MOVER.HEAD c) (stopped.get (MOVER.TAIL c) % stopped.ringSize c)))) ∧
  (∀ (b : Blk) (c : Nat), c < 8 → b.active Page.MOVER = true → b.mstate c = msIdle → b.flag (MOVER.RING_CFG_EN c) = true →
    ((b.moverStart c).mstate c = if b.moverWork c then msRun else msIdle) ∧ b.keepsRegs (b.moverStart c) [(MOVER.CH_STATE_STATE c).key]) ∧
  (∀ (b : Blk) (stuck : List Nat),
    (∀ k, b.moverPick stuck = some k → k < 8 ∧ b.moverRuns k = true ∧ k ∉ stuck ∧
      ∀ j, j < 8 → b.moverRuns j = true → j ∉ stuck → b.get (MOVER.RING_CFG_PRIO j) ≤ b.get (MOVER.RING_CFG_PRIO k)) ∧
    (b.moverPick stuck = none → ∀ j, j < 8 → b.moverRuns j = true → j ∈ stuck)) ∧
  (∀ (s : State) (c : Nat) (errs : List Nat), c < 8 →
    ((s.blk.active Page.MOVER = false ∨ s.blk.moverRuns c = false) → exec (.moverDescDone c errs) s = .next s) ∧
    (s.blk.active Page.MOVER = true → s.blk.moverRuns c = true → s.blk.moverPick [] = some c →
      let turn : Blk := { s.blk with moverTurn := c }
      ∀ r b, turn.moverServe c errs = (r, b) → r ≠ .more → exec (.moverDescDone c errs) s = .next (s.withBlk b)) ∧
    completes (.moverDescDone c errs) s (fun _ => True)) ∧
  (∀ (b b1 : Blk) (c : Nat) (errs : List Nat) (cause : Nat) (bs : List Byte), c < b.mover.length → (b.moverCh c).desc = [] →
    b.bulkRead (moverCls c) (b.descAddr c) 64 = (cause, bs, b1) →
    (cause = bkWait → b.moverServe c errs = (.stuck, b1)) ∧
    (cause ≠ 0 → cause ≠ bkWait → b.moverServe c errs = (.ended, b1.moverHalt c (moverCauseOfBulk cause) none)) ∧
    (cause = 0 → mRefusal bs ≠ 0 → b.moverServe c errs = (.ended, b1.moverHalt c (mRefusal bs) (some (mDesc bs)))) ∧
    (cause = 0 → mRefusal bs = 0 → (mDesc bs).sheared = true →
      b.moverServe c errs = (.ended, b1.moverHalt c mcOverlap (some (mDesc bs)))) ∧
    (cause = 0 → mRefusal bs = 0 → (mDesc bs).sheared = false →
      b.moverServe c errs = (b1.setMover c { noMover with desc := bs }).moverServe c errs)) ∧
  (∀ (b : Blk) (c : Nat) (errs : List Nat), (b.moverCh c).desc ≠ [] →
    let d := b.moverDesc c
    let pos := (b.moverCh c).pos
    let moved := Blk.moverChunks 4096 b c d (pos + min 4096 (d.width - pos % d.width)) errs
    (d.still = true → d.dstKind ≠ mkSpm → b.moverServe c errs = (.ended, b.moverDone c d)) ∧
    (∀ e, d.still = true → d.dstKind = mkSpm → b.moverGate c (bitsAt d.dst 48 4) 0 0 false false = .fail e →
      b.moverServe c errs = (.ended, b.moverHalt c e (some d))) ∧
    (d.still = true → d.dstKind = mkSpm → b.moverGate c (bitsAt d.dst 48 4) 0 0 false false = .go →
      b.moverServe c errs = (.ended, b.moverDone c d)) ∧
    (d.still = false →
      (∀ e b2, moved = (.fail e, b2) → b.moverServe c errs = (.ended, b2.moverHalt c e (some d))) ∧
      (∀ t slot kind b2, moved = (.wait (some (t, slot, kind)), b2) → b.moverServe c errs = (.stuck, b2.moverWait c t slot kind)) ∧
      (∀ b2, moved = (.wait none, b2) → b.moverServe c errs = (.stuck, b2.setMstate c msRun)) ∧
      (∀ b2, moved = (.go, b2) → (b2.moverCh c).desc ≠ [] →
        (let on := b2.setMstate c msRun
         (on.moverCh c).pos < d.total → b.moverServe c errs = (.more, on)) ∧
        (let on := b2.setMstate c msRun
         d.total ≤ (on.moverCh c).pos →
          b.moverServe c errs = (if d.dstKind = mkFab then (on.endMoverWaits c).moverFab c d
            else (.ended, (on.endMoverWaits c).moverDone c d)))))) ∧
  (∀ (b b1 b2 : Blk) (c : Nat) (d : MDesc) (errs : List Nat) (bs : List Byte), c < b.mover.length → (b2.moverCh c).desc ≠ [] →
    d.srcKind = mkBulk → d.dstKind = mkBulk → d.isFill = false →
    let k := d.chunkAt (b.moverCh c).pos
    b.bulkRead (moverCls c) (k.addr d.src d.srcStride) k.n = (0, bs, b1) →
    b1.bulkWrite (moverCls c) (k.addr d.dst d.dstStride) bs = (0, b2) →
    b.moverChunk c d errs = (.go, (b2.addWide MOVER.MOVED_LO MOVER.MOVED_HI k.n).setMover c
      { b2.moverCh c with pos := (b2.moverCh c).pos + k.n }))

/-- PACK (spec/09 R210 to R213, R219, R220, R223). GO refuses a bad size or bad options, and while a pass runs; else the header's magic is
cleared and the pass runs. Each segment is read, coded by the method chosen and written after the ones before it; the header is written
last, with its counts and checksums, and with VERIFY what was written is decoded and compared; a pass that meets nothing on the way is
done, one on a page that is held goes on waiting, any other ends with its cause. Expansion starts on a ready tile; a tensor that decodes
well is written as its plain bytes, another ends with EXPAND_ERR and free bytes at its destination (notes/assumptions/28). -/
def Obligations.PackAndExpandRunToTheirEnd : Prop :=
  (∀ (s : State) (a : Agent), agentOk a = true → s.blk.granted a Page.PACK 0x040 (s.blk.fieldWord Page.PACK 0x040 0 1 1) →
    let stored := s.blk.storeKey (regKey Page.PACK 0x040) (s.blk.fieldWord Page.PACK 0x040 0 1 1)
    let n := stored.get PACK.PLAIN_BYTES
    let size := n % 32 = 0 ∧ 32 ≤ n ∧ n ≤ 3145728
    let options := ¬(stored.flag PACK.PACK_CTRL_SHADOW = true ∧ stored.flag PACK.PACK_CTRL_DELTA_ALLOW = true) ∧ stored.get PACK.PACK_CTRL_FMT ≤ 5
    let ends := fun b : Blk => exec (.packGo a) s = .next (s.withBlk (b.answered a Page.PACK 0x040))
    (s.blk.pack.pass.isSome = true → ends (stored.captureOwnFree Page.PACK pkBusy)) ∧
    (s.blk.pack.pass = none → stored.active Page.PACK = false → ends stored) ∧
    (s.blk.pack.pass = none → stored.active Page.PACK = true →
      (¬size → ends (stored.packError pkSrcSize)) ∧ (size → ¬options → ends (stored.packError pkOptBad)) ∧
      (∀ c b1, size → options → stored.packMagic stored.packJob = (c, b1) →
        (c ≠ 0 → ends (b1.packError pkBulkErr)) ∧
        (c = 0 → ends (b1.packBegin stored.packJob))))) ∧
  (∀ s : State, (s.blk.pack.pass = none ∨ s.blk.active Page.PACK = false) → exec .packDone s = .next s) ∧
  (∀ (s : State) (j : PackJob) (c : Nat) (b1 : Blk), s.blk.pack.pass = some j → s.blk.active Page.PACK = true →
    Blk.packSegs (ceilDiv j.plain 65536) s.blk j = (c, b1) →
    let ends := fun b : Blk => exec .packDone s = .next (s.withBlk b)
    let stops := fun (c : Nat) (b : Blk) => (c = bkWait → ends b) ∧ (c ≠ 0 → c ≠ bkWait → ends (b.packFail j c))
    stops c b1 ∧
    (∀ c2 b2, c = 0 → (if b1.pack.run.headed = true then (0, b1) else b1.packHead j) = (c2, b2) →
      stops c2 b2 ∧ (c2 = 0 → j.verify = false → ends (b2.packFinish j)) ∧
      (∀ c3 b3, c2 = 0 → j.verify = true → b2.packVerify j = (c3, b3) → stops c3 b3 ∧ (c3 = 0 → ends (b3.packFinish j))))) ∧
  (∀ (b b1 b2 : Blk) (j : PackJob) (plain base : List Byte),
    let r := b.pack.run
    let n := min 65536 (j.plain - r.plain.length)
    (b.set PACK.STATUS_PSTATE 1).bulkRead 4 (j.src + r.plain.length) n = (0, plain, b1) →
    (if j.deltaOn = true then b1.bulkRead 4 (j.baseSrc + r.plain.length) n else (0, [], b1)) = (0, base, b2) →
    let chosen := chooseMethod j.fmt j.expOn j.deltaOn plain base
    let seg := storeSegment j.fmt chosen.1 plain chosen.2.1
    let off := 64 + r.out.length
    (j.limit < off + seg.length → (b.packSeg j).1 = pkDstFull ∧ (b.packSeg j).2.bulk = b2.bulk) ∧
    (∀ b3, off + seg.length ≤ j.limit → ((b2.packHist chosen.2.2).set PACK.STATUS_PSTATE 2).bulkWrite 4 (j.dst + off) seg = (0, b3) →
      let u := b.packSeg j
      u.1 = 0 ∧ u.2.pack.run = ⟨r.plain ++ plain, r.out ++ seg, r.headed⟩ ∧
      u.2.bulk = b3.bulk ∧ u.2.get PACK.SEG_DONE = (b3.get PACK.SEG_DONE + 1) % 2 ^ PACK.SEG_DONE.w)) ∧
  (∀ (b : Blk) (j : PackJob),
    let r := b.pack.run
    let head := packHeader j r (b.get PACK.METHOD_COUNT_DELTA != 0)
    (j.limit < 64 → b.packHead j = (pkDstFull, b)) ∧
    (∀ b1, 64 ≤ j.limit → b.bulkWrite 4 j.dst head.1 = (0, b1) →
      let u := b.packHead j
      u.1 = 0 ∧ u.2.bulk = b1.bulk ∧ u.2.pack.run.headed = true ∧
      u.2.get PACK.OUT_BYTES = (64 + r.out.length) % 2 ^ PACK.OUT_BYTES.w ∧
      u.2.get PACK.PLAIN_CRC = (crc32c r.plain).toNat ∧ u.2.get PACK.PACKED_CRC = head.2.toNat)) ∧
  (∀ (b : Blk) (j : PackJob), (b.packFinish j).get PACK.LAST_ERR = 0 ∧ (b.packFinish j).get PACK.STATUS_PSTATE = 0 ∧
    (b.packFinish j).flag PACK.IRQ_RAW_PACK_DONE = true ∧ (b.packFinish j).pack.pass = none ∧
    (b.packFinish j).get PACK.PACKED_CRC = b.get PACK.PACKED_CRC) ∧
  (∀ (b : Blk) (j : PackJob) (cause : Nat), cause < 16 → (b.packFail j cause).get PACK.LAST_ERR = cause ∧
    (b.packFail j cause).get PACK.STATUS_PSTATE = 0 ∧ (b.packFail j cause).flag PACK.IRQ_RAW_PACK_ERR = true ∧
    (b.packFail j cause).pack.pass = none) ∧
  (∀ (s : State) (a : Agent) (t : Nat), (agentOk a && t < 16) = true → s.blk.granted a Page.PACK 0x0C0 (BitVec.ofNat 32 (256 + t)) →
    let stored := s.blk.storeKey (regKey Page.PACK 0x0C0) (BitVec.ofNat 32 (256 + t))
    let src := stored.get PACK.EXP_SRC
    let dst := stored.get PACK.EXP_DST
    let ends := fun b : Blk => exec (.expandGo a t) s = .next (s.withBlk (b.answered a Page.PACK 0x0C0))
    let head := if src + 64 ≤ spmBytes then stored.spmGet t src 64 else []
    let outside := spmBytes < dst ∨ ∃ x, tensorHead head none = some x ∧
      (spmBytes < dst + x.plain ∨ overlaps src (leAt head 16 4) dst x.plain = true)
    (stored.active Page.PACK = false → ends stored) ∧
    (stored.active Page.PACK = true →
      (stored.tileReady t = false ∨ stored.pack.expand.isSome = true → ends (stored.expandError pkTileBusy)) ∧
      (stored.tileReady t = true → stored.pack.expand = none →
        (outside → ends (stored.expandError pkExpRange)) ∧
        (¬outside →
          let runs := (stored.set PACK.EXP_STATUS_STATE 1).set PACK.STATUS_EXPANDING 1
          ends { runs with pack := { runs.pack with expand := some ⟨t, src, dst⟩ } })))) ∧
  (∀ s : State, (s.blk.pack.expand = none → exec .expandDone s = .next s) ∧
    ∀ t src dst, s.blk.pack.expand = some ⟨t, src, dst⟩ →
      ((s.blk.powered (tilePage t) = false ∨ s.blk.enabled Page.PACK = false) → exec .expandDone s = .next s) ∧
      (∀ e b1, s.blk.powered (tilePage t) = true → s.blk.enabled Page.PACK = true →
        expandTensor (tileReader t 0) src none none s.blk = (e, b1) →
        let ended := (b1.set PACK.EXP_STATUS_STATE 0).set PACK.STATUS_EXPANDING 0
        let idle : Blk := { ended with pack := { ended.pack with expand := none } }
        (e.cause = 0 → exec .expandDone s = .next (s.withBlk
          (((idle.spmWrite t dst e.plain 2).2.set PACK.EXP_STATUS_LAST_ERR 0).raise PACK.IRQ_RAW_EXPAND_DONE))) ∧
        (e.cause ≠ 0 →
          let open_ := idle.free (8 * e.touched)
          exec .expandDone s = .next (s.withBlk ((open_.2.spmPut t dst (natLe (min e.touched (spmBytes - dst)) open_.1)).expandError
            (if e.cause = tcPoison then pkPoison else pkHdrBad))))))

/-! ### Ports and routing (spec/11) -/

/-- Link training (R250 to R253, R259, spec/02 R43). Signal, adaptation and alignment move a port through its states; IDENT goes out with the
node, port and stepping, but not on a tap port (notes/assumptions/67); a partner that matches EXPECT leads to MEASURE and its probes,
another holds the port in IDENT as MISCABLED, and one that changes takes the port down; the measured delay sets PORTn_DELAY and the pause
thresholds and the port is TRAINED; a timeout records the state and the cause and after three failures the port waits; OPEN opens a TRAINED
port; RETRAIN takes any port down that is in IDENT or later. -/
def Obligations.PortsTrainThroughTheirStates : Prop :=
  (∀ (s : State) (p : Nat), p < 4 →
    let st := s.blk.lstate p
    ((st ≠ lsDetect ∨ (s.blk.port p).backoff.isSome = true) → exec (.linkSignalDetect p) s = .next s) ∧
    (st ≠ lsEqualise → exec (.linkAdapted p) s = .next s) ∧ (st ≠ lsAlign → exec (.linkAligned p) s = .next s) ∧
    ((st < lsIdent ∨ s.blk.flag (XPORT.STATUS_TAP_MODE p) = true) → exec (.identSend p) s = .next s) ∧
    (∀ id xver, st < lsIdent → xver < 16 → exec (.identReceive p xver id) s = .next s) ∧
    (∀ d : Int, st ≠ lsMeasure → exec (.linkMeasureDone p d) s = .next s) ∧
    (¬(lsEqualise ≤ st ∧ st ≤ lsMeasure) ∨ (st = lsIdent ∧ s.blk.flag (XPORT.STATUS_MISCABLED p) = true) →
      exec (.trainTimeout p) s = .next s) ∧
    ((∀ from_, (s.blk.port p).backoff = some from_ → s.blk.linesSince from_ < 300000) → exec (.trainBackoffEnd p) s = .next s)) ∧
  (∀ (s : State) (p : Nat), p < 4 → s.blk.powered (portPage p) = true →
    let st := s.blk.lstate p
    let pages := [portPage 0, portPage 1, portPage 2, portPage 3, Page.XROUTE]
    (st = lsDetect → (s.blk.port p).backoff = none → exec (.linkSignalDetect p) s = .next (s.withBlk (s.blk.setLstate p lsEqualise))) ∧
    (st = lsEqualise → exec (.linkAdapted p) s = .next (s.withBlk (s.blk.setLstate p lsAlign))) ∧
    (st = lsAlign → exec (.linkAligned p) s = .next (s.withBlk (s.blk.setLstate p lsIdent))) ∧
    (lsIdent ≤ st → s.blk.flag (XPORT.STATUS_TAP_MODE p) = false →
      exec (.identSend p) s = .next (s.withBlk (s.blk.sendLocal p (controlPacket 0x42 true 0 (s.blk.get XROUTE.NODE_ID)
        (natLe 1 (s.blk.get XROUTE.NODE_ID) ++ natLe 1 p ++ natLe 1 s.blk.unit.stepping ++ List.replicate 13 0))))) ∧
    (∀ id xver, lsIdent ≤ st → xver < 16 →
      completes (.identReceive p xver id) s (fun t =>
        t.blk.get (XPORT.PARTNER_NODE p) = leAt id 0 1 ∧ t.blk.get (XPORT.PARTNER_PORT p) = leAt id 1 1 % 4 ∧
        t.blk.get (XPORT.PARTNER_XVER p) = xver ∧ t.blk.flag (XPORT.PARTNER_VALID p) = true ∧
        (((s.blk.port p).ident = none ∨ (s.blk.port p).ident = some id) →
          (st = lsIdent → xver = 1 → s.blk.identFits p id = true →
            t.blk.lstate p = lsMeasure ∧ t.blk.flag (XPORT.STATUS_MISCABLED p) = false) ∧
          (st = lsIdent → xver = 1 → s.blk.identFits p id = false →
            t.blk.lstate p = lsIdent ∧ t.blk.flag (XPORT.STATUS_MISCABLED p) = true) ∧
          ((lsMeasure ≤ st ∨ xver ≠ 1) → t.blk.lstate p = st)) ∧
        (∀ old, (s.blk.port p).ident = some old → old ≠ id →
          t.blk.lstate p = lsDetect ∧ t.blk.flag (XPORT.IRQ_RAW_LINK_DOWN p) = true) ∧
        s.blk.keepsOtherPages t.blk pages ∧ s.node.sameMemory t.node)) ∧
    (∀ d : Int, st = lsMeasure → 0 ≤ d → d ≤ 1000000 →
      completes (.linkMeasureDone p d) s (fun t =>
        t.blk.lstate p = lsTrained ∧ t.blk.flag (XPORT.IRQ_RAW_LINK_UP p) = true ∧ t.blk.flag (XEPOCH.PORT_DELAY_VALID p) = true ∧
        (t.blk.get (XEPOCH.PORT_DELAY_DELAY_PS p) : Int) =
          (if s.blk.flag (XEPOCH.PORT_DELAY_OVR p) then (s.blk.get (XEPOCH.PORT_DELAY_DELAY_PS p) : Int) else d) ∧
        (t.blk.get (XPORT.PAUSE_THR_XOFF p) : Int) = 1024 - ((2 * d + 40000 + 2559) / 2560) - 9 ∧
        (t.blk.get (XPORT.PAUSE_THR_XON p) : Int) = t.blk.get (XPORT.PAUSE_THR_XOFF p) - 64 ∧
        s.blk.keepsOtherPages t.blk [portPage p, Page.XEPOCH] ∧ s.node.sameMemory t.node)) ∧
    (∀ d : Int, st = lsMeasure → (d < 0 ∨ 1000000 < d) →
      completes (.linkMeasureDone p d) s (fun t =>
        t.blk.lstate p = lsTrained ∧ t.blk.flag (XEPOCH.PORT_DELAY_VALID p) = false ∧ t.blk.flag XEPOCH.FAULT_DELAY_RANGE = true)) ∧
    (lsEqualise ≤ st → st ≤ lsMeasure → ¬(st = lsIdent ∧ s.blk.flag (XPORT.STATUS_MISCABLED p) = true) → p < s.blk.ports.length →
      completes (.trainTimeout p) s (fun t =>
        t.blk.lstate p = lsDetect ∧ t.blk.flag (XPORT.IRQ_RAW_TRAIN_FAIL p) = true ∧
        t.blk.get (XPORT.TRAIN_STATUS_FAIL_STATE p) = st ∧
        t.blk.get (XPORT.TRAIN_STATUS_FAIL_CAUSE p) =
          (if st = lsIdent ∧ (s.blk.port p).ident.isSome = true ∧ s.blk.get (XPORT.PARTNER_XVER p) ≠ 1 then 2 else 1) ∧
        (t.blk.port p).backoff = (if 2 ≤ (s.blk.port p).fails then some s.blk.ep.line else none) ∧
        s.blk.keepsOtherPages t.blk [portPage p] ∧ s.node.sameMemory t.node)) ∧
    (∀ from_, (s.blk.port p).backoff = some from_ → 300000 ≤ s.blk.linesSince from_ →
      exec (.trainBackoffEnd p) s = .next (s.withBlk (s.blk.setPort p { s.blk.port p with backoff := none }))) ∧
    (∀ a w, agentOk a = true → w = s.blk.fieldWord (portPage p) 0x040 0 1 1 → s.blk.granted a (portPage p) 0x040 w → w.getLsbD 2 = false →
      st = lsTrained →
      completes (.portOpen a p) s (fun t =>
        t.blk.lstate p = lsOpen ∧ t.blk.flag (XPORT.PORT_CTRL_OPEN p) = true ∧ t.blk.flag (XPORT.IRQ_RAW_OPENED p) = true ∧
        s.blk.keepsOtherPages t.blk [portPage p] ∧ s.node.sameMemory t.node)) ∧
    (∀ a w, agentOk a = true → w = s.blk.fieldWord (portPage p) 0x040 0 1 1 → s.blk.granted a (portPage p) 0x040 w → w.getLsbD 2 = false →
      st ≠ lsTrained → st ≠ lsOpen →
      completes (.portOpen a p) s (fun t => t.blk.lstate p = st ∧
        t.blk.flag (XPORT.PORT_CTRL_OPEN p) = s.blk.flag (XPORT.PORT_CTRL_OPEN p) ∧
        s.blk.keepsOtherPages t.blk [portPage p] ∧ s.node.sameMemory t.node)) ∧
    (∀ a w, agentOk a = true → w = s.blk.fieldWord (portPage p) 0x040 1 1 1 → s.blk.granted a (portPage p) 0x040 w → w.getLsbD 2 = false →
      lsIdent ≤ st →
      completes (.portRetrain a p) s (fun t =>
        t.blk.lstate p = lsDetect ∧ t.blk.flag (XPORT.PORT_CTRL_OPEN p) = false ∧ t.blk.get (XPORT.STATUS_PAUSE_TX p) = 0 ∧
        t.blk.get (XPORT.TRAIN_STATUS_RETRAINS p) = (s.blk.get (XPORT.TRAIN_STATUS_RETRAINS p) + 1) % 65536 ∧
        t.blk.flag (XPORT.IRQ_RAW_LINK_DOWN p) = true ∧ (t.blk.port p).waiting = [] ∧
        s.blk.keepsOtherPages t.blk pages ∧ s.node.sameMemory t.node)) ∧
    (∀ a w, agentOk a = true → w = s.blk.fieldWord (portPage p) 0x040 1 1 1 → s.blk.granted a (portPage p) 0x040 w → w.getLsbD 2 = false →
      st < lsIdent → completes (.portRetrain a p) s (fun t => t.blk.lstate p = st ∧
        s.blk.keepsOtherPages t.blk [portPage p] ∧ s.node.sameMemory t.node)))

/-- Packets at a port, pause and the link's loss (R251, R253, R256 to R260, R268, R269, R274). A whole packet, or its head and later its
tail, takes the course its header decides: one that fails is counted and captured; one for this node or its partner is delivered when its
CRC holds and discarded when it fails or is stomped; one for another node takes its table's port with HOPS one more, stomped when its CRC
fails, or is dropped under the first case that holds. A packet leaves when its class may start, else it waits. A PAUSE bit starts or ends a
class, and what may start then leaves; a class paused for long is captured and reported once. Too many uncorrectable codewords, or the
lock's loss, take the port down. TAP is taken in MAKER and RETURN with the presence window open, else refused without effect. -/
def Obligations.PacketsAreCheckedRoutedAndPaused : Prop :=
  (∀ (s : State) (x : Arrival), x.port < 4 →
    let p := x.port
    let arriving := (s.blk.port p).arriving.find? (fun e => e.1.cls == x.sideCls)
    let fec := (s.blk.addSat (XPORT.FEC_CORR p) x.corrected).addSat (XPORT.FEC_UNCORR p) x.uncorrectable
    let flits := fec.addWide (XPORT.RX_FLITS_LO p) (XPORT.RX_FLITS_HI p) (flitsOf x.pkt)
    let ends := fun b : Blk => exec (.xanarPacketReceive x) s = .next (s.withBlk b)
    (s.blk.lstate p < lsIdent → exec (.xanarPacketReceive x) s = .next s) ∧
    (lsIdent ≤ s.blk.lstate p →
      (∀ fate b, arriving = none → x.tail = true → flits.headFate x = (fate, b) → ends (b.tailArrives x fate)) ∧
      (∀ fate b, arriving = none → x.tail = false → fec.headFate x = (fate, b) →
        ends (b.setPort p { b.port p with arriving := (b.port p).arriving ++ [({ x.pkt with cls := x.sideCls }, fate)] })) ∧
      (∀ e, arriving = some e → x.tail = true →
        ends ((flits.setPort p { s.blk.port p with arriving := (s.blk.port p).arriving.erase e }).tailArrives x e.2)) ∧
      (∀ e, arriving = some e → x.tail = false → ends fec))) ∧
  (∀ (b : Blk) (x : Arrival),
    let p := x.port
    let k := x.pkt
    let self := k.dst = b.get XROUTE.NODE_ID
    (headerFails x = true → b.headFate x =
      (5, ((b.bumpSat (XPORT.HDR_ERR p)).raise (XPORT.IRQ_RAW_HDR_ERR p)).captureOwnFree (portPage p) 0x02)) ∧
    (headerFails x = false → b.carries p k = false → b.headFate x = (5, b)) ∧
    (headerFails x = false → b.carries p k = true →
      (k.loc = true → b.headFate x = (4, b)) ∧
      (k.loc = false → b.active Page.XROUTE = false → b.headFate x = (6, b)) ∧
      (k.loc = false → b.active Page.XROUTE = true →
        (self → b.headFate x = (4, b)) ∧
        (∀ e, ¬self → b.routeOf p k = .inl e → b.headFate x = (e, b)) ∧
        (∀ d, ¬self → b.routeOf p k = .inr d → b.headFate x = (5, b.dropPacket d k.dst))))) ∧
  (∀ (b : Blk) (x : Arrival) (fate : Nat),
    let p := x.port
    let k := x.pkt
    let state := crcState k x.badLater
    let seen := b.countCrc p state
    b.tailArrives x 5 = b ∧
    (state ≠ 0 → b.tailArrives x 4 = seen) ∧ (state = 0 → b.tailArrives x 4 = seen.deliver (some p) k x.offset) ∧
    (fate < 4 → b.tailArrives x fate = if seen.portTakes fate k = true then seen.sendOn fate p k state else seen.dropPacket 1 k.dst) ∧
    b.tailArrives x 6 = ({ seen with route := { seen.route with
      held := seen.route.held ++ [(some p, if state = 0 then k else stomp (sealed k))] } } : Blk).updatePause) ∧
  (∀ (b : Blk) (from_ : Nat) (k : Packet) (state : Nat),
    let e := b.rtEntry k.dst
    let takes := (if k.cls = 0 ∧ k.type = 0x44 then b.trained e else b.portOpen e) && !b.flag (XPORT.STATUS_TAP_MODE e)
    let drop := fun (f : Fld) (case_ : Nat) => ((b.bumpSat f).raise XROUTE.IRQ_RAW_DROP).captureOwn Page.XROUTE 0x05
      (k.dst % 256 + 256 * case_)
    b.forward from_ k state =
      if 4 ≤ e then drop XROUTE.DROP_NOROUTE 0 else if takes = false then drop XROUTE.DROP_PORTDOWN 1
      else if from_ = e then drop XROUTE.DROP_UTURN 2
      else if max 1 (b.get XROUTE.HOP_LIMIT) < k.hops + 1 then drop XROUTE.DROP_HOPS 3
      else b.sendOn e from_ k state) ∧
  (∀ (b : Blk) (p from_ : Nat) (k : Packet) (state : Nat),
    let out := sealed { k with hops := k.hops + 1 }
    let out := if state = 0 then out else stomp out
    let n := flitsOf k
    (b.mayStart p k.cls = true → k.type ≠ 0x40 → b.sendOn p from_ k state =
      (b.addWide (XPORT.TX_FLITS_LO p) (XPORT.TX_FLITS_HI p) n).emit (.packet p out
        ((List.range n).map (fun i => ⟨k.cls, i == 0, i + 1 == n,
          (b.addWide (XPORT.TX_FLITS_LO p) (XPORT.TX_FLITS_HI p) n).get (XPORT.STATUS_PAUSE_RX p), 0⟩)))) ∧
    (b.mayStart p k.cls = true → ∃ side, (b.sendOn p from_ k state).sent = b.sent ++ [.packet p out side]) ∧
    (b.mayStart p k.cls = false → b.sendOn p from_ k state =
      (b.setPort p { b.port p with waiting := (b.port p).waiting ++ [(from_, out)] }).updatePause)) ∧
  (∀ k : Packet, crcState (sealed k) false = 0 ∧ crcState (stomp (sealed k)) false = 2 ∧ (sealed k).hcrc = goodHcrc (sealed k)) ∧
  (∀ (s : State) (p c : Nat) (on : Bool), p < 4 → c < 4 →
    ((s.blk.trained p = false ∨ s.blk.classPaused p c = on) → exec (.pauseBitChange p c on) s = .next s) ∧
    (s.blk.trained p = true → s.blk.classPaused p c ≠ on → p < s.blk.ports.length →
      (∀ e ∈ (s.blk.port p).waiting, e.1 ≤ 4 ∧ e.2.cls < 4) →
      completes (.pauseBitChange p c on) s (fun t =>
        t.blk.classPaused p c = on ∧ (∀ d, d < 4 → d ≠ c → t.blk.classPaused p d = s.blk.classPaused p d) ∧
        (t.blk.port p).waiting = (s.blk.port p).waiting.filter (fun e => !t.blk.mayStart p e.2.cls) ∧
        (∀ e ∈ (s.blk.port p).waiting, t.blk.mayStart p e.2.cls = true → ∃ side, .packet p e.2 side ∈ t.blk.sent) ∧
        s.blk.keepsOtherPages t.blk [portPage 0, portPage 1, portPage 2, portPage 3] ∧ s.node.sameMemory t.node))) ∧
  (∀ (s : State) (p c : Nat), p < 4 → c < 4 →
    let x := s.blk.port p
    (∀ from_, nth x.pausedAt c none = some from_ → s.blk.get (XPORT.PAUSE_WARN p) ≤ s.blk.linesSince from_ → nth x.warned c false = false →
      exec (.pauseLong p c) s = .next (s.withBlk (((((s.blk.setPort p { x with warned := setNth x.warned c true }).set
        (XPORT.STATUS_PAUSE_LONG p) 1).raise (XPORT.IRQ_RAW_PAUSE_LONG p)).captureOwnFree (portPage p) 0x07).report 0x10 (portPage p)))) ∧
    ((nth x.warned c false = true ∨ ∀ from_, nth x.pausedAt c none = some from_ → s.blk.linesSince from_ < s.blk.get (XPORT.PAUSE_WARN p)) →
      exec (.pauseLong p c) s = .next s)) ∧
  (∀ (s : State) (p uncorr counted : Nat) (lockLost : Bool), p < 4 →
    (s.blk.lstate p < lsIdent → exec (.linkDown p uncorr counted lockLost) s = .next s) ∧
    (lsIdent ≤ s.blk.lstate p →
      let b := s.blk.addSat (XPORT.FEC_UNCORR p) (uncorr - counted)
      (lockLost = false → uncorr ≤ b.get (XPORT.UNCORR_LIMIT p) → exec (.linkDown p uncorr counted lockLost) s = .next (s.withBlk b)) ∧
      (lockLost = true ∨ b.get (XPORT.UNCORR_LIMIT p) < uncorr →
        completes (.linkDown p uncorr counted lockLost) s (fun t =>
          t.blk.lstate p = lsDetect ∧ t.blk.flag (XPORT.IRQ_RAW_LINK_DOWN p) = true ∧ (t.blk.port p).waiting = [] ∧
          s.blk.keepsOtherPages t.blk [portPage 0, portPage 1, portPage 2, portPage 3, Page.XROUTE] ∧ s.node.sameMemory t.node)))) ∧
  (∀ (s : State) (a : Agent) (p ctx : Nat), (agentOk a && p < 4 && ctx < 64) = true →
    let w := putBits (putBits (s.blk.rwWord (portPage p) 0x040) 2 1 1) 8 6 ctx
    s.blk.granted a (portPage p) 0x040 (BitVec.ofNat 32 w) →
    let life := s.blk.get LIFE.STATE
    let may := (life = 1 ∨ life = 3) ∧ s.blk.flag OASIS.STATUS_PRES_WINDOW = true
    (may →
      completes (.tapEnable a p ctx) s (fun t =>
        t.blk.get (XPORT.PORT_CTRL_TAP_CTX p) = ctx ∧ t.blk.flag (XPORT.PORT_CTRL_TAP p) = true ∧
        t.blk.flag (XPORT.STATUS_TAP_MODE p) = true ∧ s.blk.keepsOtherPages t.blk [portPage p] ∧ s.node.sameMemory t.node)) ∧
    (¬may →
      completes (.tapEnable a p ctx) s (fun t =>
        t.blk.get (XPORT.PORT_CTRL_TAP_CTX p) = s.blk.get (XPORT.PORT_CTRL_TAP_CTX p) ∧
        t.blk.flag (XPORT.PORT_CTRL_TAP p) = s.blk.flag (XPORT.PORT_CTRL_TAP p) ∧ t.blk.lstate p = s.blk.lstate p ∧
        t.blk.flag (XPORT.IRQ_RAW_TAP_REFUSED p) = true ∧ t.blk.reports = s.blk.reports ++ [⟨0, portPage p, false, 0xFF⟩] ∧
        s.blk.keepsOtherPages t.blk [portPage p] ∧ s.node.sameMemory t.node)))

/-- Node number, tables and route epochs (R263, R267, R270 to R273). NODE_ID is written while no port is in IDENT or later; RT_DATA reads and,
in the table not in force, writes the word RT_SEL names, which advances; RT_ARM arms an epoch; GO for an armed epoch more than three line
periods ahead schedules the switch and tells every trained port; an epoch newer than the one in force or than one pending is passed on with
the SRC and HOPS it came with and, when armed for, scheduled, at the next line period when its coordinate is past; unarmed it is captured,
and an older switch that is pending is given up; at its coordinate the other table comes into force. -/
def Obligations.RoutingTablesSwitchAtTheirEpoch : Prop :=
  (∀ (s : State) (a : Agent), agentOk a = true →
    (∀ v, v < 256 → s.blk.granted a Page.XROUTE 0x040 (BitVec.ofNat 32 v) →
      exec (.nodeIdWrite a v) s = .next (s.withBlk (
        (if (List.range 4).any (fun p => lsIdent ≤ s.blk.lstate p) then s.blk.captureFree Page.XROUTE 0x04 (agentCode a)
         else (s.blk.conf XROUTE.NODE_ID v).markChanged Page.XROUTE).answered a Page.XROUTE 0x040))) ∧
    (∀ v, s.blk.accessCause a Page.XROUTE 0x054 true false 0 = 0 →
      exec (.rtDataAccess a false v) s = .next (s.withBlk ((s.blk.set XROUTE.RT_SEL_WORD (s.blk.get XROUTE.RT_SEL_WORD + 1)).emit
        (.access a Page.XROUTE 0x054 false 0 (s.blk.rtWord (s.blk.get XROUTE.RT_SEL_BANK) (s.blk.get XROUTE.RT_SEL_WORD)))))) ∧
    (∀ v, s.blk.granted a Page.XROUTE 0x054 v →
      let bank := s.blk.get XROUTE.RT_SEL_BANK
      let at_ := s.blk.get XROUTE.RT_SEL_WORD
      completes (.rtDataAccess a true v) s (fun t =>
        t.blk.get XROUTE.RT_SEL_WORD = (at_ + 1) % 32 ∧
        (bank ≠ s.blk.get XROUTE.STATUS_TABLE_ACTIVE → t.blk.rtWord bank at_ = v ∧
          (∀ k, k ≠ bank * 32 + at_ → Tbl.get (dflt 0) t.blk.route.tables k = Tbl.get (dflt 0) s.blk.route.tables k) ∧
          s.blk.keepsRegs t.blk [XROUTE.RT_SEL_WORD.key]) ∧
        (bank = s.blk.get XROUTE.STATUS_TABLE_ACTIVE → t.blk.route = s.blk.route ∧
          t.blk.get (hErrCount Page.XROUTE) = satInc 32 (s.blk.get (hErrCount Page.XROUTE))) ∧
        s.blk.keepsOtherPages t.blk [Page.XROUTE] ∧ s.node.sameMemory t.node)) ∧
    (∀ epoch on, epoch < 65536 → s.blk.granted a Page.XROUTE 0x058 (BitVec.ofNat 32 (epoch * 65536 + bitNat on)) →
      completes (.routeArm a epoch on) s (fun t =>
        t.blk.flag XROUTE.RT_ARM_ARMED = on ∧ t.blk.get XROUTE.RT_ARM_EPOCH = epoch ∧ t.blk.route = s.blk.route ∧
        s.blk.keepsRegs t.blk [XROUTE.RT_ARM_EPOCH.key] ∧ s.node.sameMemory t.node)) ∧
    (∀ epoch, epoch < 65536 → s.blk.granted a Page.XROUTE 0x068 (BitVec.ofNat 32 (epoch * 65536 + 1)) →
      let named := s.blk.set XROUTE.RS_CTRL_EPOCH epoch
      let at_ := coordOfNat (s.blk.get XROUTE.RS_AT_LO + 2 ^ 32 * s.blk.get XROUTE.RS_AT_HI)
      let near := coordReached (s.blk.coordPlus s.blk.now 3) (s.blk.normal at_)
      let armed := s.blk.flag XROUTE.RT_ARM_ARMED = true ∧ s.blk.get XROUTE.RT_ARM_EPOCH = epoch
      let ends := fun b : Blk => exec (.routeGo a epoch) s = .next (s.withBlk (b.answered a Page.XROUTE 0x068))
      (near = true → ends (named.captureFree Page.XROUTE 0x02 (agentCode a))) ∧
      (near = false → ¬armed → ends (named.captureFree Page.XROUTE 0x03 (agentCode a))) ∧
      (near = false → armed →
        let due := named.scheduleSwitch epoch at_
        let self := due.get XROUTE.NODE_ID
        ends (due.each due.fleetPorts (fun b p => b.sendLocal p (controlPacket 0x41 true 0 self
          (natLe 2 epoch ++ natLe 1 self ++ natLe 1 0 ++
            natLe 8 (s.blk.get XROUTE.RS_AT_LO + 2 ^ 32 * s.blk.get XROUTE.RS_AT_HI) ++ natLe 4 0))))))) ∧
  (∀ (s : State) (p : Nat) (d : RouteEpochIn), p < 4 → d.src < 256 → d.hops < 256 →
    exec (.routeEpochReceive p d) s =
      .next (s.withBlk ((s.blk.routeEpochReceive p d).unarmedCheck (s.blk.flag XROUTE.RS_STATUS_UNARMED)))) ∧
  (∀ (b : Blk) (p : Nat) (d : RouteEpochIn),
    let e := leAt d.payload 0 2
    let at_ := coordOfNat (leAt d.payload 4 8)
    let overPending := ∃ pe c, b.route.pending = some (pe, c) ∧ newerEpoch e pe = true
    let underPending := ∃ pe c, b.route.pending = some (pe, c) ∧ newerEpoch pe e = true
    let newer := newerEpoch e (b.get XROUTE.RS_STATUS_LAST_EPOCH) = true ∨ overPending
    let passed := b.each (b.fleetPorts.filter (fun q => q != p)) (fun b q =>
      b.sendLocal q { controlPacket 0x41 true 0 d.src d.payload with hops := d.hops })
    let armed := passed.flag XROUTE.RT_ARM_ARMED = true ∧ passed.get XROUTE.RT_ARM_EPOCH = e
    let late := (passed.set XROUTE.RS_STATUS_LATE 1).raise XROUTE.IRQ_RAW_LATE
    let unarmed := fun b : Blk => ((b.set XROUTE.RS_STATUS_UNARMED 1).raise XROUTE.IRQ_RAW_UNARMED).captureOwnFree Page.XROUTE 0x03
    (¬(b.enabled Page.XROUTE = true ∧ b.fleetPort p = true ∧ newer) → b.routeEpochReceive p d = b) ∧
    (b.enabled Page.XROUTE = true → b.fleetPort p = true → newer →
      (armed → underPending → b.routeEpochReceive p d = passed) ∧
      (armed → ¬underPending → passed.reached at_ = false → b.routeEpochReceive p d = passed.scheduleSwitch e at_) ∧
      (armed → ¬underPending → passed.reached at_ = true →
        b.routeEpochReceive p d = late.scheduleSwitch e (late.coordPlus late.now 1)) ∧
      (¬armed → ¬overPending → b.routeEpochReceive p d = unarmed passed) ∧
      (¬armed → overPending → b.routeEpochReceive p d = unarmed passed.dropSwitch ∧ passed.dropSwitch.route.pending = none))) ∧
  (∀ s : State,
    ((∀ e at_, s.blk.route.pending = some (e, at_) → s.blk.powered Page.XROUTE = false ∨ s.blk.reached at_ = false) →
      exec .routeSwitch s = .next s) ∧
    (∀ e at_, s.blk.route.pending = some (e, at_) → s.blk.powered Page.XROUTE = true → s.blk.reached at_ = true →
      completes .routeSwitch s (fun t =>
        t.blk.get XROUTE.STATUS_TABLE_ACTIVE = 1 - s.blk.get XROUTE.STATUS_TABLE_ACTIVE ∧ t.blk.flag XROUTE.RT_ARM_ARMED = false ∧
        t.blk.get XROUTE.RS_STATUS_LAST_EPOCH = e % 65536 ∧
        t.blk.get XROUTE.SWITCH_COUNT = (s.blk.get XROUTE.SWITCH_COUNT + 1) % 2 ^ XROUTE.SWITCH_COUNT.w ∧
        t.blk.flag XROUTE.RS_STATUS_PENDING = false ∧ t.blk.flag XROUTE.IRQ_RAW_SWITCHED = true ∧
        t.blk.route = { s.blk.route with pending := none } ∧ s.blk.keepsOtherPages t.blk [Page.XROUTE] ∧ s.node.sameMemory t.node)))

/-! ### Remote memory access (spec/12) -/

/-- Windows and queue pair states (R279, R280, R282, R283, R287, R297). A window that may be enabled is, its fields standing, another is
refused with cause 14h; one is disabled at once. STATE requests move the queue pair of QP_SEL from RESET to INIT to READY, which needs a
valid context, from READY to ERROR and back to RESET, once flushed; in INIT the code INIT changes nothing, and any other request is refused
with cause 17h. In ERROR the queue pair shows its first cause and its send queue is empty. -/
def Obligations.WindowsAndQueuePairStatesAsRequested : Prop :=
  (∀ (s : State) (a : Agent), agentOk a = true →
    let w := s.blk.get XQP.WIN_SEL
    let q := s.blk.get XQP.QP_SEL
    let st := s.blk.qstate q
    (s.blk.granted a Page.XQP 0x088 (s.blk.fieldWord Page.XQP 0x088 31 1 1) →
      (s.blk.flag (XQP.WIN1_EN w) = true → completes (.windowEnable a) s (fun t => t.blk.flag (XQP.WIN1_EN w) = true ∧
        t.blk.winBase w = s.blk.winBase w ∧ s.node.sameMemory t.node)) ∧
      (s.blk.flag (XQP.WIN1_EN w) = false → s.blk.winOk w = true →
        completes (.windowEnable a) s (fun t => t.blk.flag (XQP.WIN1_EN w) = true ∧
        t.blk.get (XQP.WIN1_SPACE w) = s.blk.get (XQP.WIN1_SPACE w) ∧ t.blk.get (XQP.WIN1_TILE w) = s.blk.get (XQP.WIN1_TILE w) ∧
        t.blk.winBase w = s.blk.winBase w ∧ s.blk.keepsRegs t.blk [(XQP.WIN1_EN w).key] ∧ s.node.sameMemory t.node)) ∧
      (s.blk.flag (XQP.WIN1_EN w) = false → s.blk.winOk w = false →
        completes (.windowEnable a) s (fun t => t.blk.flag (XQP.WIN1_EN w) = false ∧
        t.blk.get (hErrCount Page.XQP) = satInc 32 (s.blk.get (hErrCount Page.XQP)) ∧
        (s.blk.flag (hCapValid Page.XQP) = false →
          t.blk.word (regKey Page.XQP 0x024) = BitVec.ofNat 32 (capWord 0x14 (agentCode a) (w % 256))) ∧
        s.blk.keepsOtherPages t.blk [Page.XQP] ∧ s.node.sameMemory t.node))) ∧
    (s.blk.granted a Page.XQP 0x088 (s.blk.fieldWord Page.XQP 0x088 31 1 0) →
      completes (.windowDisable a) s (fun t => t.blk.flag (XQP.WIN1_EN w) = false ∧ t.blk.winBase w = s.blk.winBase w ∧
        s.blk.keepsRegs t.blk [(XQP.WIN1_EN w).key] ∧ s.node.sameMemory t.node)) ∧
    (∀ (c : Instr) (code : Nat),
      (c = .qpResetReq a ∧ code = qsReset ∨ c = .qpInitReq a ∧ code = qsInit ∨ c = .qpReadyReq a ∧ code = qsReady ∨
        c = .qpForceError a ∧ code = qsError) →
      s.blk.granted a Page.XQP 0x050 (s.blk.fieldWord Page.XQP 0x050 0 3 code) →
      (st = qsReset → code = qsInit → completes c s (fun t => t.blk.qstate q = qsInit ∧
        s.blk.keepsRegs t.blk [(XQP.QCTX0_STATE q).key] ∧ t.blk.fab = s.blk.fab ∧ s.node.sameMemory t.node)) ∧
      (st = qsInit → code = qsInit → completes c s (fun t => t.blk.qstate q = qsInit ∧
        s.blk.keepsRegs t.blk [(XQP.QCTX0_STATE q).key] ∧ t.blk.fab = s.blk.fab ∧ s.node.sameMemory t.node)) ∧
      (st = qsInit → code = qsReady → s.blk.qpValid q = true → completes c s (fun t => t.blk.qstate q = qsReady ∧
        t.blk.get (XQP.QCTX10_OLDEST q) = s.blk.get (XQP.QCTX1_SQ_PSN q) ∧
        s.blk.keepsRegs t.blk [(XQP.QCTX0_STATE q).key, (XQP.QCTX10_OLDEST q).key] ∧ s.node.sameMemory t.node)) ∧
      (st = qsInit → code = qsReady → s.blk.qpValid q = false → completes c s (fun t => t.blk.qstate q = qsInit ∧
        t.blk.get (hErrCount Page.XQP) = satInc 32 (s.blk.get (hErrCount Page.XQP)) ∧ s.node.sameMemory t.node)) ∧
      ((st = qsInit ∨ st = qsError ∧ s.blk.flag (XQP.QCTX9_FLUSHING q) = false) → code = qsReset →
        completes c s (fun t => t.blk.qstate q = qsReset ∧ t.blk.qp q = noQp ∧ t.blk.word (XQP.QCTX9_STATUS q).key = 0 ∧
          t.blk.word (XQP.QCTX8_SQ_HEAD q).key = 0 ∧ (∀ r ∈ t.blk.fab.rx, r.qp ≠ q) ∧
          t.blk.fab.rx.length = s.blk.fab.rx.length ∧ s.blk.keepsOtherPages t.blk [Page.XQP] ∧ s.node.sameMemory t.node)) ∧
      (st = qsError → s.blk.flag (XQP.QCTX9_FLUSHING q) = true → code = qsReset →
        exec c s = .next (s.withBlk ((s.blk.setQp q { s.blk.qp q with resetWaits := true }).answered a Page.XQP 0x050))) ∧
      (st = qsReady → code = qsError → exec c s = .next (s.withBlk
        (((s.blk.qpErrorNotify q 1 0 none (s.blk.get (XQP.QCTX1_SQ_PSN q))).drainCompletions).answered a Page.XQP 0x050))) ∧
      (¬(st = qsReset ∧ code = qsInit) → ¬(st = qsInit ∧ code ≤ qsReady) → ¬(st = qsReady ∧ code = qsError) →
        ¬(st = qsError ∧ code = qsReset) →
        exec c s = .next (s.withBlk ((s.blk.capture Page.XQP 0x17 (agentCode a) q).answered a Page.XQP 0x050)))) ∧
    (∀ c, c < 4 → s.blk.granted a Page.XQP (0x214 + 0x20 * c) 1 →
      exec (.cqOverflowClear a c) s = .next (s.withBlk
        (((s.blk.set (XQP.CQ_STATUS_OVERFLOW c) 0).drainCompletions).answered a Page.XQP (0x214 + 0x20 * c))))) ∧
  (∀ (b : Blk) (q status cause psn : Nat) (owner : Option Nat) (asTarget : Bool), q < 256 → b.qstate q = qsReady →
    let e := b.qpError q status cause owner asTarget psn
    e.qstate q = qsError ∧ e.get (XQP.QCTX9_STATUS q) = status % 256 ∧ e.get (XQP.QCTX9_CAUSE q) = cause % 256 ∧
    e.flag (XQP.QCTX9_FLUSHING q) = true ∧ e.flag XQP.IRQ_RAW_QP_ERROR = true ∧
    e.get (XQP.QCTX8_SQ_HEAD q) = e.get (XQP.QCTX8_SQ_TAIL q) ∧ e.fab.rx = b.fab.rx ∧
    (e.qp q).queue = [] ∧ (e.qp q).jobs = [] ∧ (e.qp q).out = [] ∧ (e.qp q).resend = [] ∧ (e.qp q).ackDue = false ∧
    b.keepsOtherPages e [Page.XQP, Page.BULK]) ∧
  (∀ (s : State) (q : Nat), q < 256 →
    let b := s.blk.arriveOwn
    let drained := (if b.flag (XQP.QCTX9_FLUSHING q) = true then b.flushMore q else b).drainCompletions
    let posted := drained.flag (XQP.QCTX9_FLUSHING q) = true ∧ (drained.qp q).flush = [] ∧
      ∀ c ∈ drained.fab.completions, leAt c.bytes 2 1 ≠ q
    let done := drained.set (XQP.QCTX9_FLUSHING q) 0
    (¬posted → exec (.qpFlushDone q) s = .next (s.withBlk (drained.syncResume q))) ∧
    (posted → exec (.qpFlushDone q) s = .next (s.withBlk
      ((if (drained.qp q).resetWaits = true then done.qpToReset q else done).syncResume q))))

/-- Sending (R284, R285, R292, R294, R295). DOORBELL gives the send engine the entries up to the new tail. A READY queue pair sends again what is
to be resent, first in order, else the next packet of its job in progress while the window allows, else takes the next entry; a packet of a
write carries up to 512 bytes read from the local place. An ACK frees the packets up to its PSN but no READ_REQ; a NAK or the retry timer
begins a resend, or ends the queue pair's service; the highest placed PSN is acknowledged once. Packets the node sends itself arrive before
each command (notes/assumptions/32). -/
def Obligations.QueuePairsSendResendAndAcknowledge : Prop :=
  (∀ (s : State) (a : Agent) (q tail : Nat), (agentOk a && q < 256 && tail < 4096) = true →
    s.blk.granted a Page.XQP 0x044 (BitVec.ofNat 32 (q + 65536 * tail)) →
    let n := 2 ^ s.blk.get (XQP.QCTX5_SQ_LOG2 q)
    let new := (ringIndices (s.blk.get (XQP.QCTX8_SQ_TAIL q)) (tail % n) n).map SendItem.request
    exec (.qpDoorbell a q tail) s = .next (s.withBlk ((if s.blk.qstate q = qsReady then
      (s.blk.set (XQP.QCTX8_SQ_TAIL q) (tail % n)).setQp q { s.blk.qp q with queue := (s.blk.qp q).queue ++ new }
      else s.blk).answered a Page.XQP 0x044))) ∧
  (∀ b : Blk, b.route.own = [] → b.arriveOwn = b) ∧
  (∀ (s : State) (q : Nat), q < 256 →
    let b0 := s.blk.arriveOwn
    let x := b0.qp q
    let ends := fun b : Blk => exec (.qpSendPacket q) s = .next (s.withBlk b)
    let again := fun o : OutPkt => { o.pkt with rflags := Nat.lor o.pkt.rflags 4 }
    ((b0.active Page.XQP = false ∨ b0.qstate q ≠ qsReady) → ends b0) ∧
    (b0.active Page.XQP = true → b0.qstate q = qsReady →
      (∀ o rest, x.resend = o :: rest → ends (((b0.setQp q { x with resend := rest }).bumpSat XQP.RESENT).sendRouted (again o))) ∧
      (x.resend = [] →
        (∀ j, x.jobs.find? (fun j => !j.allSent) = some j →
          ends (if b0.withinWindow q = true then (b0.sendNext q j).drainCompletions else b0)) ∧
        (x.jobs.find? (fun j => !j.allSent) = none →
          let taken := b0.takeItem q
          (taken.qstate q ≠ qsReady → ends taken.drainCompletions) ∧
          (taken.qstate q = qsReady →
            (∀ j, (taken.qp q).jobs.find? (fun j => !j.allSent) = some j →
              ends (if taken.withinWindow q = true then (taken.sendNext q j).drainCompletions else taken)) ∧
            ((taken.qp q).jobs.find? (fun j => !j.allSent) = none → ends taken)))))) ∧
  (∀ (b b1 : Blk) (q i : Nat) (j : SendJob) (bs : List Byte), j.from_ = .request i → j.wr.op ≤ 1 → j.wr.ltag = false → j.sent < j.wr.len →
    let w := j.wr
    let n := min 512 (w.len - j.sent)
    let last := j.sent + n == w.len
    b.placeRead (sendEng q) (fabSpace w.localAddr) (fabTile w.localAddr) (fabOff w.localAddr + j.sent) n = (0, bs, b1) →
    let type := if last && w.op == 1 then 1 else 0
    let pkt := b1.qpPacket q type (lastFlags w.final last) (b.get (XQP.QCTX1_SQ_PSN q)) (w.remote + j.sent) w.win w.key
      (if type = 1 then w.imm else 0) bs
    b.sendNext q j = b1.emitNew q { j with sent := j.sent + n, allSent := last } ⟨j.id, n, last, pkt⟩ 1) ∧
  (∀ (b : Blk) (q i : Nat) (j : SendJob), j.from_ = .request i → j.wr.op ≤ 1 → j.sent < j.wr.len →
    let w := j.wr
    let n := min 512 (w.len - j.sent)
    let cause := b.placeCause (fabSpace w.localAddr) (fabTile w.localAddr) (fabOff w.localAddr + j.sent) n
    cause ≠ 0 → b.sendNext q j = b.qpErrorNotify q 4 cause (some j.id) (b.get (XQP.QCTX1_SQ_PSN q))) ∧
  (∀ (s : State) (p : Packet), rmaOk 4 p 4 = true →
    let b := s.blk.arriveOwn
    let q := p.dqp
    let x := b.qp q
    let ends := fun b : Blk => exec (.rmaAckReceive p) s = .next (s.withBlk b)
    let ahead := psnSub (b.get (XQP.QCTX1_SQ_PSN q)) p.psn
    (b.active Page.XQP = false → ends b) ∧
    (b.active Page.XQP = true →
      (∀ b1, b.qpAccepts q p = some b1 → ends b1) ∧
      (b.qpAccepts q p = none →
        ((ahead = 0 ∨ 2 ^ 23 ≤ ahead) → ends b) ∧
        (1 ≤ ahead → ahead < 2 ^ 23 →
          let freed := x.out.filter (freedBy p.psn)
          let mine := fun (j : SendJob) => ((freed.filter (fun o => o.job == j.id)).map (fun o => o.bytes)).foldl (· + ·) 0
          let left := { x with
            out := x.out.filter (fun o => !freedBy p.psn o), resend := x.resend.filter (fun o => !freedBy p.psn o)
            jobs := x.jobs.map (fun j => { j with acked := j.acked + mine j }) }
          (freed = [] → ends b) ∧
          (freed ≠ [] → ends ((((b.setQp q left).advanced q).settleJobs q p.psn).drainCompletions)))))) ∧
  (∀ (psn : Nat) (o : OutPkt), o.pkt.type = 2 → freedBy psn o = false) ∧
  (∀ (s : State) (p : Packet), rmaOk 4 p 5 = true →
    let b := s.blk.arriveOwn
    let ends := fun b : Blk => exec (.rmaNakReceive p) s = .next (s.withBlk b)
    let cause := bitsAt p.imm 8 8
    (b.active Page.XQP = false → ends b) ∧
    (∀ b1, b.active Page.XQP = true → b.qpAccepts p.dqp p = some b1 → ends b1) ∧
    (b.active Page.XQP = true → b.qpAccepts p.dqp p = none →
      ends (if p.imm % 256 = 1 then b.beginResend p.dqp (some p.psn)
        else if p.imm % 256 = 2 then (b.qpError p.dqp 3 cause (b.jobAt p.dqp p.psn) false p.psn).drainCompletions
        else if p.imm % 256 = 3 then (b.qpError p.dqp 5 cause none false p.psn).drainCompletions else b))) ∧
  (∀ (s : State) (q : Nat), q < 256 →
    let b := s.blk.arriveOwn
    let x := b.qp q
    let r := b.get (XQP.QCTX9_RETRIES q)
    let runs := b.active Page.XQP = true ∧ b.qstate q = qsReady
    (¬(runs ∧ x.out ≠ []) → exec (.retryTimeout q) s = .next (s.withBlk b)) ∧
    (runs → x.out ≠ [] → r < b.get (XQP.QCTX0_RETRY_MAX q) →
      completes (.retryTimeout q) s (fun t => t.blk.qp q = { x with resend := x.out } ∧ t.blk.get (XQP.QCTX9_RETRIES q) = r + 1 ∧
        b.keepsRegs t.blk [(XQP.QCTX9_RETRIES q).key] ∧ (s.withBlk b).node.sameMemory t.node)) ∧
    (∀ o rest, runs → x.out = o :: rest → b.get (XQP.QCTX0_RETRY_MAX q) ≤ r →
      exec (.retryTimeout q) s = .next (s.withBlk
        (b.qpErrorNotify q 2 fcRetry (some o.job) (b.get (XQP.QCTX10_OLDEST q))).drainCompletions)) ∧
    (∀ psn, runs → x.ackDue = true → x.lastPlaced = some psn →
      exec (.ackSend q) s = .next (s.withBlk
        (let sent := b.sendRouted (b.qpPacket q 4 0 psn 0 0 0 0 [])
         sent.setQp q { x with ackDue := false }))) ∧
    (¬(runs ∧ x.ackDue = true ∧ x.lastPlaced.isSome = true) → exec (.ackSend q) s = .next (s.withBlk b)))

/-- The target and Wadi entries (R288 to R291, R293, R294, R296, R300 to R303). A request packet with the expected PSN is checked and takes its
place, or is refused; one behind is counted and acknowledged again, or read again; one ahead gets one NAK; a packet for no READY queue pair of
its sender is STRAY or LATE. A placement that ends stores its data, sets its tags, lets its immediate take effect, and is acknowledged; an
access held at a tag past the watchdog is refused. An increment adds to COUNT, which fires the armed entry at its threshold. -/
def Obligations.RequestsArePlacedAndWadiEntriesFire : Prop :=
  (∀ (s : State) (c : Instr) (port : Nat) (p : Packet),
    (c = .rmaWriteReceive port p ∧ rmaOk port p 0 = true ∨ c = .rmaWriteImmReceive port p ∧ rmaOk port p 1 = true ∨
      c = .rmaReadReqReceive port p ∧ rmaOk port p 2 = true) →
    let b := s.blk.arriveOwn
    let q := p.dqp
    let e := b.get (XQP.QCTX2_RQ_PSN q)
    let d := psnSub p.psn e
    let ends := fun b : Blk => exec c s = .next (s.withBlk b)
    (b.active Page.XQP = false → ends b) ∧
    (b.active Page.XQP = true →
      (b.qstate q = qsError → ends (b.bumpSat XQP.LATE)) ∧
      (b.qstate q ≠ qsError → (b.qstate q ≠ qsReady ∨ p.src ≠ b.get (XQP.QCTX0_PEER_NODE q)) → ends (b.bumpSat XQP.STRAY)) ∧
      (b.qstate q = qsReady → p.src = b.get (XQP.QCTX0_PEER_NODE q) →
        (d = 0 →
          let took := (b.conf (XQP.QCTX2_RQ_PSN q) (psnAdd e (psnsOf p))).setQp q { b.qp q with nakSent := false }
          ends (if took.accessCheck p = 0 then took.acceptRx (rmaPort port) p false
            else (took.refuseAccess q p.psn (took.accessCheck p)).drainCompletions)) ∧
        (0 < d → d < 1024 → (b.qp q).nakSent = true → ends b) ∧
        (0 < d → d < 1024 → (b.qp q).nakSent = false →
          let told := b.sendRouted (b.qpPacket q 5 0 e 0 0 0 1 [])
          ends (told.setQp q { b.qp q with nakSent := true })) ∧
        (2 ^ 24 - 1024 ≤ d → p.type ≠ 2 → ends ((b.bumpSat XQP.DUP).setQp q { b.qp q with ackDue := true })) ∧
        (2 ^ 24 - 1024 ≤ d → p.type = 2 → ends ((b.bumpSat XQP.DUP).acceptRx (rmaPort port) p true)) ∧
        (1024 ≤ d → d < 2 ^ 24 - 1024 → ends (b.bumpSat XQP.STALE))))) ∧
  (∀ (b : Blk) (p : Packet),
    let w := p.win % 1024
    (b.flag (XQP.WIN1_EN w) = false → b.accessCheck p = fcBadWindow) ∧
    (b.flag (XQP.WIN1_EN w) = true → p.key ≠ b.get (XQP.WIN3_KEY w) → b.accessCheck p = fcBadKey) ∧
    (b.accessCheck p = 0 → p.type = 0 → b.flag (XQP.WIN1_W w) = true ∧ fabSpace p.addr = b.get (XQP.WIN1_SPACE w) ∧
      fabTile p.addr = b.get (XQP.WIN1_TILE w) ∧
      b.winBase w ≤ fabOff p.addr ∧ fabOff p.addr + p.payload.length ≤ b.winBase w + b.get (XQP.WIN2_LENGTH w)) ∧
    (b.accessCheck p = 0 → p.type = 2 → b.flag (XQP.WIN1_R w) = true ∧ fabTile p.addr = b.get (XQP.WIN1_TILE w) ∧
      b.winBase w ≤ fabOff p.addr ∧ fabOff p.addr + p.imm ≤ b.winBase w + b.get (XQP.WIN2_LENGTH w))) ∧
  (∀ (s : State) (port : Nat) (p : Packet), rmaOk port p 3 = true →
    let b := s.blk.arriveOwn
    let x := b.qp p.dqp
    let ends := fun b : Blk => exec (.rmaReadRespReceive port p) s = .next (s.withBlk b)
    (b.active Page.XQP = false → ends b) ∧
    (∀ b1, b.active Page.XQP = true → b.qpAccepts p.dqp p = some b1 → ends b1) ∧
    (b.active Page.XQP = true → b.qpAccepts p.dqp p = none →
      (x.out.find? (fun o => o.pkt.type == 2) = none → ends b) ∧
      (∀ o, x.out.find? (fun o => o.pkt.type == 2) = some o →
        (x.jobs.find? (fun j => j.id == o.job) = none → ends b) ∧
        ((p.psn ≠ o.pkt.psn ∨ o.pkt.imm < p.payload.length) → ends b) ∧
        (∀ j, x.jobs.find? (fun j => j.id == o.job) = some j → p.psn = o.pkt.psn → p.payload.length ≤ o.pkt.imm →
          let n := p.payload.length
          let a := j.wr.localAddr
          let off := fabOff a + j.acked
          let gate := if j.wr.ltag && fabSpace a == 0 then (slotsTouched off n).filter (fun s => j.acked == 0 || off ≤ s * 256) else []
          let on := fun (l : List OutPkt) => l.filterMap (fun y => if y.job == j.id then readOn n y else some y)
          let moved := b.setQp p.dqp { x with
            jobs := putJob x.jobs { j with acked := j.acked + n }, out := on x.out, resend := on x.resend }
          ends ((moved.advanced p.dqp).enterRx
            (rxEntry p (rmaPort port) (fabSpace a) (fabTile a) off n false gate (some j.id) false)))))) ∧
  (∀ (s : State) (q psn : Nat), q < 256 → psn < 2 ^ 24 →
    let b := s.blk.arriveOwn.startRx
    let found := b.fab.rx.find? (fun r => r.qp == q && r.pkt.psn == psn && r.started)
    (∀ r, b.active Page.XQP = true → found = some r → exec (.placementDone q psn) s = .next (s.withBlk (b.finishRx r))) ∧
    ((b.active Page.XQP = false ∨ found = none) → exec (.placementDone q psn) s = .next (s.withBlk b))) ∧
  (∀ (b b1 : Blk) (r : RxPkt), r.cause = 0 → (r.pkt.type = 0 ∨ r.pkt.type = 1) → 0 < r.len →
    b.placeWrite (recvEng r.qp) r.space r.tile r.off r.pkt.payload = (0, b1) →
    let tagged := if r.tags then b1.setTags r.tile (slotsTouched r.off r.len) true else b1
    b.finishRx r = (((tagged.applyImm r).noteFinished r).dropRx r).drainCompletions) ∧
  (∀ (b : Blk) (r : RxPkt) (rest : List RxPkt), b.qstate r.qp = qsReady → r.again = false → r.pkt.type ≠ 2 → b.fab.rx = r :: rest →
    b.noteFinished r = b.setQp r.qp { b.qp r.qp with
      lastPlaced := some (({ b with fab := { b.fab with rx := rest } } : Blk).ackPsn r.qp), ackDue := true }) ∧
  (∀ (b : Blk) (r : RxPkt) (cause : Nat),
    (r.pkt.type ≠ 3 → b.rxFailed r cause = ((b.dropRx r).refuseAccess r.qp r.pkt.psn cause).drainCompletions) ∧
    (r.pkt.type = 3 → b.rxFailed r cause = ((b.dropRx r).qpErrorNotify r.qp 4 cause r.job r.pkt.psn).drainCompletions) ∧
    (r.cause ≠ 0 → b.finishRx r = b.rxFailed r r.cause)) ∧
  (∀ (s : State) (q psn : Nat), q < 256 → psn < 2 ^ 24 →
    let b := s.blk.arriveOwn
    let ends := fun b : Blk => exec (.remoteHoldTimeout q psn) s = .next (s.withBlk b)
    let found := b.fab.rx.find? (fun r => r.qp == q && r.pkt.psn == psn && !r.started)
    let mine := fun (slot : Nat) (kind : WaitKind) (w : Wait) => w.src == q && w.port == 10 && w.slot == slot && w.kind == kind
    (found = none → ends b) ∧
    (∀ r, found = some r → b.rxHold r = none → ends b) ∧
    (∀ r slot kind, found = some r → b.rxHold r = some (slot, kind) →
      ((b.tile r.tile).waits.find? (mine slot kind) = none → ends b) ∧
      (∀ w, (b.tile r.tile).waits.find? (mine slot kind) = some w →
        (b.waitExpired r.tile w = false → ends b) ∧
        (b.waitExpired r.tile w = true → ends (b.fabricTimeout r.tile w))))) ∧
  (∀ (b : Blk) (t : Nat) (w : Wait) (r : RxPkt), w.port ≠ portLocal →
    let seen := (b.captureTimeout t 10 w.slot w.kind.isWrite).dropWait t w
    seen.fab.rx.find? (fun r => r.qp == w.src && r.tile == t && !r.started && seen.rxHold r == some (w.slot, w.kind)) = some r →
    b.fabricTimeout t w = seen.rxFailed r fcTagTimeout) ∧
  (∀ (s : State) (a : Agent), agentOk a = true →
    (∀ e inc, e < 512 → inc < 65536 → s.blk.granted a Page.XQP 0x0E0 (BitVec.ofNat 32 (e + 65536 * inc)) →
      let c := s.blk.get (XQP.WD_COUNT e) + inc
      (s.blk.wadiValid e = false → exec (.wadiBump a e inc) s = .next (s.withBlk (s.blk.answered a Page.XQP 0x0E0))) ∧
      (s.blk.wadiValid e = true → (c < s.blk.wadiThreshold e ∨ s.blk.flag (XQP.WD_CTRL_ARMED e) = false) → c ≤ 0xFFFFFF →
        completes (.wadiBump a e inc) s (fun t => t.blk.get (XQP.WD_COUNT e) = c ∧ s.blk.keepsRegs t.blk [(XQP.WD_COUNT e).key] ∧
          t.blk.fab = s.blk.fab ∧ s.node.sameMemory t.node)) ∧
      (s.blk.wadiValid e = true → exec (.wadiBump a e inc) s = .next (s.withBlk
        (((s.blk.wadiCount e inc).wadiFires e (fun b e inc => Blk.wadiIncAt 8 b e inc)).answered a Page.XQP 0x0E0)))) ∧
    (let w := s.blk.fieldWord Page.XQP 0x0A4 1 1 1
     let e := s.blk.get XQP.WADI_SEL
     let stored := s.blk.storeKey (XQP.WD_CTRL_VALID e).key w
     s.blk.granted a Page.XQP 0x0A4 w →
     stored.flag (XQP.WD_CTRL_ARMED e) = true ∧
     exec (.wadiArm a) s = .next (s.withBlk ((if stored.wadiValid e = true
       then stored.wadiFires e (fun b e inc => Blk.wadiIncAt 8 b e inc) else stored).answered a Page.XQP 0x0A4)))) ∧
  (∀ s : State,
    let b := s.blk.arriveOwn
    let first := b.fab.fires.find? (fun f => b.qstate f.qp != qsReady || !b.sqFull f.qp)
    (first = none → exec .wadiPendingPost s = .next (s.withBlk b)) ∧
    (∀ f, first = some f →
      let out : Blk := { b with fab := { b.fab with fires := b.fab.fires.erase f } }
      let left := out.set (XQP.WD_STAT_PENDING f.entry) (out.get (XQP.WD_STAT_PENDING f.entry) - 1)
      exec .wadiPendingPost s =
        .next (s.withBlk (if left.qstate f.qp = qsReady then left.appendWr f.qp f.bytes else left.wadiDrop f.entry))))

/-! ### Schedules and the fleet (spec/13) -/

/-- Schedules (R317 to R325, R329, R341). At its START an instance opens and what may start does; past LATEST one is missed, past TIMEOUT it
times out; an overrun check closes each view that is not closed and reports it; a due point clears ALIVE and a JOINED node that is alive
sends its heartbeat; HB_MISS silent due points set a port's LOST; a kick restarts its instance; ENT_DATA goes to the bank not in force;
JOIN packets go out as JOIN_SEND names them, and come into the ring while it has room. With SCHED off or EN 0 nothing opens or is missed. -/
def Obligations.ScheduleInstancesOpenRunAndEnd : Prop :=
  (∀ s : State,
    (s.blk.enabled Page.SCHED = false → exec .instanceOpen s = .next s ∧ exec .instanceMissed s = .next s ∧ exec .overrunCheck s = .next s) ∧
    (s.blk.powered Page.SCHED = false → exec .jobTimeout s = .next s ∧ exec .heartbeatDue s = .next s)) ∧
  (∀ s : State, s.blk.enabled Page.SCHED = true →
    exec .instanceOpen s = .next (s.withBlk s.blk.openInstances.startAll) ∧
    (∀ (k : Nat) (i : Inst), s.blk.sched.insts[k]? = some i → i.unstarted = true → i.lastStart < s.blk.instAge i →
      completes .instanceMissed s (fun t => t.blk.sched.insts[k]? = some { i with state := .missed, why := (gapJob, 0x01) } ∧
        t.blk.sched.insts.length = s.blk.sched.insts.length ∧ t.blk.flag SCHED.IRQ_RAW_MISSED = true ∧
        s.blk.keepsOtherPages t.blk [Page.SCHED] ∧ s.node.sameMemory t.node)) ∧
    ((∀ i ∈ s.blk.sched.insts, i.unstarted = true → s.blk.instAge i ≤ i.lastStart) → exec .instanceMissed s = .next s) ∧
    (s.blk.flag SCHED.DL_CTRL_EN = false → exec .overrunCheck s = .next s) ∧
    (s.blk.flag SCHED.DL_CTRL_EN = true →
      exec .overrunCheck s = .next (s.withBlk ((s.blk.sched.frames.filter (fun (f : BitVec 32 × BitVec 48) =>
        s.blk.linesSince f.2 == s.blk.get SCHED.DL_CTRL_DL_OFFSET &&
          phaseOk (s.blk.flag SCHED.DL_CTRL_DIV2) (s.blk.flag SCHED.DL_CTRL_PHASE) f.1)).foldl (fun b f => b.overrunFrame f.1) s.blk)))) ∧
  (∀ (b : Blk) (k : Nat) (i : Inst), b.sched.insts[k]? = some i → i.state = .waiting → i.opened = false → i.data = false →
    (i.start ≤ b.instAge i → b.openInstances.sched.insts[k]? = some { i with opened := true, state := .due }) ∧
    (b.instAge i < i.start → b.openInstances.sched.insts[k]? = some i)) ∧
  (∀ s : State, s.blk.powered Page.SCHED = true →
    completes .jobTimeout s (fun t =>
      (∀ (k : Nat) (i : Inst), s.blk.sched.insts[k]? = some i → i.state = .running → i.timeout ≤ s.blk.linesSince i.startedAt →
        t.blk.sched.insts[k]? = some { i with state := .timedOut, why := (gapJob, 0x02) } ∧ t.blk.flag SCHED.IRQ_RAW_TIMEOUT = true) ∧
      t.blk.sched.insts.length = s.blk.sched.insts.length ∧
      ((∀ i ∈ s.blk.sched.insts, s.blk.jobExpired i = true → i.qps = []) →
        s.blk.keepsOtherPages t.blk [Page.SCHED] ∧ s.node.sameMemory t.node))) ∧
  (∀ s : State,
    ((s.blk.dueNow = false ∨ s.blk.sched.lastDue = some s.blk.ep.line) → exec .heartbeatDue s = .next s) ∧
    (s.blk.dueNow = true → s.blk.powered Page.SCHED = true → s.blk.sched.lastDue ≠ some s.blk.ep.line →
      let noted : Blk := { s.blk with sched := { s.blk.sched with
        alive := false, silent := !s.blk.sched.alive, lastDue := some s.blk.ep.line } }
      exec .heartbeatDue s = .next (s.withBlk
        (if s.blk.get SCHED.JOIN_CTRL_JSTATE = jsJoined ∧ s.blk.flag SCHED.HB_CTRL_EN = true ∧ s.blk.sched.alive = true then
          noted.joinOnPorts (indicesWhere 4 (fun p => noted.portOpen p && !noted.flag (XPORT.STATUS_TAP_MODE p)))
            (noted.joinBytes 2 (noted.get XROUTE.NODE_ID) 0 0 (coordNat noted.now) (1 + 2 * bitNat noted.fleet.fault))
         else noted)))) ∧
  (∀ s : State,
    completes .heartbeatLost s (fun t =>
      (∀ p, p < 4 → bitAt (t.blk.get SCHED.HB_STATUS_LOST) p =
        (bitAt (s.blk.get SCHED.HB_STATUS_LOST) p || ((s.blk.curL == 1 || s.blk.curL == s.blk.frameLen / 2 + 1) &&
          decide (max 1 (s.blk.get SCHED.HB_CTRL_HB_MISS) ≤ nth s.blk.sched.missedHb p 0)))) ∧
      t.blk.sched = s.blk.sched ∧ s.blk.keepsOtherPages t.blk [Page.SCHED] ∧ s.node.sameMemory t.node)) ∧
  (∀ (s : State) (a : Agent), agentOk a = true →
    (s.blk.granted a Page.SCHED 0x068 1 →
      completes (.aliveWrite a) s (fun t => t.blk.sched = { s.blk.sched with alive := true, silent := false } ∧
        (s.blk.powered Page.SAFE = true → t.blk.get SAFE.ALIVE_STATUS_F = s.blk.ep.frame.toNat % 2 ^ SAFE.ALIVE_STATUS_F.w) ∧
        (s.blk.powered Page.SAFE = false → t.blk.regs = s.blk.regs) ∧
        s.blk.keepsRegs t.blk [SAFE.ALIVE_STATUS_F.key] ∧ s.node.sameMemory t.node)) ∧
    (∀ e f, e < 1024 → f < 65536 → s.blk.granted a Page.SCHED 0x064 (BitVec.ofNat 32 (e + 65536 * f)) →
      let mine : Inst → Bool := fun i => i.entry == e && i.frame.toNat % 65536 == f && !i.unstarted
      let ends := fun b : Blk => exec (.schedKick a e f) s = .next (s.withBlk (b.answered a Page.SCHED 0x064))
      let late := (s.blk.raise SCHED.IRQ_RAW_KICK_LATE).captureFree Page.SCHED 0x06 (agentCode a)
      (s.blk.sched.insts.findIdx? mine = none → ends late) ∧
      (∀ (k : Nat) (i : Inst), s.blk.sched.insts.findIdx? mine = some k → s.blk.sched.insts[k]? = some i →
        ((i.retryBy = 0 ∨ i.kicked = true ∨ i.retryBy < s.blk.instAge i) → ends late) ∧
        (i.retryBy ≠ 0 → i.kicked = false → s.blk.instAge i ≤ i.retryBy →
          ends ((s.blk.setInsts (setNth s.blk.sched.insts k
            { i with kicked := true, opened := true, state := .due, done := 0, why := (0, 0) })).startInst k)))) ∧
    (∀ w v, w < 4 → s.blk.granted a Page.SCHED (0x054 + 4 * w) v →
      let bank := s.blk.get SCHED.ENT_SEL_BANK
      let k := (bank * 1024 + s.blk.get SCHED.ENT_SEL_ENTRY) * 4 + w
      (bank ≠ s.blk.get SCHED.SCHED_CTRL_BANK →
        completes (.entDataWrite a w v) s (fun t => t.blk.entWord bank (s.blk.get SCHED.ENT_SEL_ENTRY) w = v ∧
          (∀ j, j ≠ k → Tbl.get (dflt 0) t.blk.sched.words j = Tbl.get (dflt 0) s.blk.sched.words j) ∧ t.blk.regs = s.blk.regs ∧
          s.node.sameMemory t.node)) ∧
      (bank = s.blk.get SCHED.SCHED_CTRL_BANK →
        exec (.entDataWrite a w v) s = .next (s.withBlk
          ((s.blk.captureFree Page.SCHED 0x05 (agentCode a)).answered a Page.SCHED (0x054 + 4 * w))))) ∧
    (∀ v : Word, s.blk.granted a Page.SCHED 0x110 v →
      let n := v.toNat
      let self := s.blk.get XROUTE.NODE_ID
      exec (.joinSend a v) s = .next (s.withBlk ((if bitAt n 4 = true then s.blk.sendRouted (controlPacket 0x44 false (bitsAt n 8 8) self s.blk.joinTx)
        else s.blk.joinOnPorts (s.blk.fleetPorts.filter (fun p => bitAt n p)) s.blk.joinTx).answered a Page.SCHED 0x110)))) ∧
  (∀ (s : State) (p : Nat) (d : List Byte), p < 4 →
    exec (.joinReceive p d) s = .next (s.withBlk ((s.blk.joinReceive p d).joinHandled p d))) ∧
  (∀ (b : Blk) (p : Nat) (d : List Byte),
    let kind := leAt d 0 1
    let tail := b.get SCHED.JRX_TAIL
    let entry := (d ++ List.replicate 48 0).take 48 ++ natLe 1 p ++ List.replicate 7 0 ++ natLe 8 (coordNat b.now)
    let stored := b.bulkPost 1 (b.get SCHED.JRX_BASE_LO + 2 ^ 32 * b.get SCHED.JRX_BASE_HI + 64 * tail) entry
    ((b.active Page.SCHED = false ∨ kind = 0 ∨ 7 < kind) → b.joinReceive p d = b) ∧
    (b.active Page.SCHED = true → kind = 2 → b.joinReceive p d = { b with sched := { b.sched with heard := setNth b.sched.heard p true } }) ∧
    (b.active Page.SCHED = true → 1 ≤ kind → kind ≤ 7 → kind ≠ 2 →
      b.joinReceive p d = if (tail + 1) % 64 = b.get SCHED.JRX_HEAD then b.captureOwnFree Page.SCHED 0x08
        else (stored.set SCHED.JRX_TAIL (tail + 1)).raise SCHED.IRQ_RAW_JOIN_RX))

/-- The fleet (R326, R330 to R340). A node PROBING sends HELLO on its trained ports; an agreeing partner on every cabled port makes it READY;
one that differs, or is silent for 1 s, is reported; 600,000 line periods after READY the lowest node starts the plan, one node missing with
its degraded variant, and takes a returned node in; a START or RESTORE seen the first time is taken. A lost partner is flooded, the degraded
variant prepared and the routes switched at DET + 50; where no variant replaces it the fleet is in its safe state and names it. QP_SYNC
gives a queue pair in ERROR new PSNs with its peer. A condemned tile is mapped out, its variant prepared and loaded. -/
def Obligations.FleetFormsLosesAndRestoresNodes : Prop :=
  (∀ s : State,
    (s.blk.powered Page.SCHED = false → exec .helloSend s = .next s) ∧
    (s.blk.powered Page.SCHED = true → s.blk.flag FUSE.STATUS_RESTRICTIVE = true →
      exec .helloSend s = .next (s.withBlk (s.blk.setJstate jsIsolated))) ∧
    (s.blk.powered Page.SCHED = true → s.blk.flag FUSE.STATUS_RESTRICTIVE = false →
      let now := s.blk.ep.line
      let probing := (s.blk.setJstate jsProbing).setFleet { s.blk.fleet with
        agreed := [false, false, false, false], heardAt := [now, now, now, now], readyAt := none }
      (s.blk.jstate = jsProbing → exec .helloSend s = .next (s.withBlk (s.blk.helloOn s.blk.fleetPorts))) ∧
      (s.blk.jstate = jsReady ∨ s.blk.jstate = jsJoined ∨ s.blk.jstate = jsIsolated → exec .helloSend s = .next s) ∧
      (∀ p, s.blk.fleet.plan = some p → 1 < planN p →
        ((s.blk.jstate = jsAlone ∧ (List.range 4).any (fun d => s.blk.lstate d != lsDisabled) = true) ∨
          (s.blk.jstate = jsLeft ∧ s.blk.power.mode = 4 ∧ (s.blk.epochState = stLocked ∨ s.blk.epochState = stMaster))) →
        exec .helloSend s = .next (s.withBlk (probing.helloOn probing.fleetPorts)) ∧ probing.jstate = jsProbing))) ∧
  (∀ (s : State) (port : Nat) (d : List Byte), port < 4 →
    let st := s.blk.jstate
    let takes := leAt d 0 1 = 1 ∧ s.blk.fleetPort port = true ∧ (st = jsProbing ∨ st = jsReady ∨ st = jsJoined)
    let heard := s.blk.setFleet { s.blk.fleet with heardAt := setNth s.blk.fleet.heardAt port s.blk.ep.line }
    let f := heard.helloDiffers port d
    let agree := heard.setFleet { heard.fleet with agreed := setNth heard.fleet.agreed port true }
    let clear := if agree.client.iso.map (fun x => x.2.1) = some port then agree.reportIso none else agree
    let ends := fun b : Blk => exec (.helloReceive port d) s = .next (s.withBlk b)
    (¬takes → ends s.blk) ∧
    (takes → f ≠ 0 → ends ((heard.setFleet { heard.fleet with agreed := setNth heard.fleet.agreed port false }).reportIso
      (some (leAt d 1 1, port, f)))) ∧
    (takes → f = 0 →
      (st = jsProbing → ends (if clear.cabled.all (fun x => nth clear.fleet.agreed x.1 false) then clear.fleetReady else clear)) ∧
      (st ≠ jsProbing → ends (if clear.portOpen port then clear else (clear.openPort port).helloOn [port])))) ∧
  (∀ (s : State) (port : Nat), port < 4 →
    let late := s.blk.jstate = jsProbing ∧ 300000 ≤ s.blk.linesSince (nth s.blk.fleet.heardAt port 0)
    ((¬late ∨ s.blk.cabled.find? (fun x => x.1 == port) = none) → exec (.helloTimeout port) s = .next s) ∧
    (∀ n, s.blk.cabled.find? (fun x => x.1 == port) = some (port, n) → late →
      exec (.helloTimeout port) s = .next (s.withBlk ((s.blk.setFleet { s.blk.fleet with
        agreed := setNth s.blk.fleet.agreed port false }).reportIso (some (n, port,
          if s.blk.powered (portPage port) = true ∧ s.blk.flag (XPORT.STATUS_MISCABLED port) = true then 7 else 6)))))) ∧
  (∀ (s : State) (extra : Nat),
    let at_ := s.blk.leadFrames extra
    let ends := fun b : Blk => exec (.coordinatorDecide extra) s = .next (s.withBlk b)
    ((s.blk.fleet.plan = none ∨ (s.blk.jstate ≠ jsReady ∧ s.blk.jstate ≠ jsJoined)) → ends s.blk) ∧
    (∀ p, s.blk.fleet.plan = some p → s.blk.jstate = jsReady →
      let missing := s.blk.planNodes.filter (fun n => !s.blk.fleet.ready.contains n)
      let due := s.blk.after s.blk.fleet.readyAt 600000 = true ∧ s.blk.fleet.switch = none
      (¬due → ends s.blk) ∧
      (due → missing = [] → ends (if s.blk.lowest s.blk.fleet.ready = true
        then (s.blk.startNotice 4 s.blk.self 0 0 at_).takeStart 0 0 at_ else s.blk)) ∧
      (∀ n, due → missing = [n] → planRound p = true → planDegraded p = true → ends (if s.blk.lowest s.blk.fleet.ready = true
        then (s.blk.startNotice 4 s.blk.self 2 n at_).takeStart 2 n at_ else s.blk)) ∧
      (due → missing ≠ [] → ¬(missing.length = 1 ∧ planRound p = true ∧ planDegraded p = true) →
        completes (.coordinatorDecide extra) s (fun t => t.blk.client.missing = missing ∧ t.blk.fleet = s.blk.fleet))) ∧
    (∀ p, s.blk.fleet.plan = some p → s.blk.jstate = jsJoined →
      let n := s.blk.get SCHED.VARIANT_VARG
      let returns := s.blk.get SCHED.VARIANT_VKIND = 2 ∧ s.blk.fleet.switch = none ∧ s.blk.fleet.ready.contains n = true ∧
        s.blk.lowest (s.blk.planNodes.filter (fun m => m != n)) = true
      let taken := (s.blk.startNotice 5 n 0 0 at_).takeRestore n at_
      let timed := (taken.set XROUTE.RS_AT_LO (coordNat at_ % 2 ^ 32)).set XROUTE.RS_AT_HI (coordNat at_ / 2 ^ 32)
      (¬returns → ends s.blk) ∧
      (returns → ends (timed.writeRsCtrl (.erg 0) (1 + 65536 * timed.get XROUTE.RT_ARM_EPOCH))))) ∧
  (∀ (s : State) (port : Nat) (d : List Byte), port < 4 →
    let takes := s.blk.powered Page.SCHED = true ∧ (leAt d 0 1 = 4 ∨ leAt d 0 1 = 5)
    let at_ := coordOfNat (leAt d 16 8)
    let known := s.blk.fleet.seen.contains (leAt d 0 1, leAt d 1 1, leAt d 14 2)
    let passed := (s.blk.takeNotice port d).2
    ((¬takes ∨ known = true) → exec (.startReceive port d) s = .next s) ∧
    (takes → known = false → leAt d 0 1 = 4 →
      exec (.startReceive port d) s = .next (s.withBlk (passed.takeStart (leAt d 40 1) (leAt d 41 1) at_))) ∧
    (takes → known = false → leAt d 0 1 = 5 →
      exec (.startReceive port d) s = .next (s.withBlk (passed.takeRestore (leAt d 1 1) at_)))) ∧
  (∀ (s : State) (port : Nat), port < 4 →
    let lost := s.blk.jstate = jsJoined ∧ (s.blk.trained port = false ∨ bitAt (s.blk.get SCHED.HB_STATUS_LOST) port = true)
    let epoch := (s.blk.get XROUTE.RS_STATUS_LAST_EPOCH + 1) % 65536
    ((¬lost ∨ s.blk.cabled.find? (fun x => x.1 == port) = none) → exec (.lossDetect port) s = .next s) ∧
    (∀ n, s.blk.cabled.find? (fun x => x.1 == port) = some (port, n) → lost →
      exec (.lossDetect port) s = .next (s.withBlk (s.blk.takeLoss n s.blk.now epoch
        (fun b => b.ownNotice 6 n epoch (coordNat b.now)))))) ∧
  (∀ (s : State) (port : Nat) (d : List Byte), port < 4 →
    (¬(s.blk.powered Page.SCHED = true ∧ leAt d 0 1 = 6) → exec (.lossReceive port d) s = .next s) ∧
    (s.blk.powered Page.SCHED = true → leAt d 0 1 = 6 →
      exec (.lossReceive port d) s = .next (s.withBlk (s.blk.takeLoss (leAt d 1 1) (coordOfNat (leAt d 16 8)) (leAt d 12 2)
        (fun b => b.floodJoin (some port) d))))) ∧
  (∀ (b : Blk) (p : Plan) (n : Nat) (det : Coord) (epoch : Nat) (send : Blk → Blk), b.fleet.plan = some p → b.jstate = jsJoined → n ≠ b.self →
    let held := send (b.setFleet { b.fleet with loss := some (n, det), gone := false, ready := b.fleet.ready.filter (· != n) })
    (b.get SCHED.VARIANT_VKIND = 0 → b.fleet.loss = none →
      b.takeLoss n det epoch send = if planRound p then held.prepareLoss n det epoch else held.lossSafe n) ∧
    (b.get SCHED.VARIANT_VKIND ≠ 0 → ¬(b.get SCHED.VARIANT_VKIND = 2 ∧ b.get SCHED.VARIANT_VARG = n) → b.fleet.blind = false →
      b.takeLoss n det epoch send = (send b).lossSafe n)) ∧
  (∀ (b : Blk) (n : Nat), (b.lossSafe n).fleet.blind = true ∧ n ∈ (b.lossSafe n).client.missing ∧
    ∀ i ∈ (b.lossSafe n).sched.insts, i.unstarted = true → i.part ≠ .trunk ∧ i.part ≠ .scene) ∧
  (∀ s : State,
    let may := fun det : Coord => s.blk.fleet.gone = false ∧ s.blk.reached (s.blk.coordPlus det 41) = true ∧
      s.blk.lowest (s.blk.planNodes.filter (fun m => !s.blk.gone.contains m)) = true
    ((∀ n det, s.blk.fleet.loss = some (n, det) → ¬may det) → exec .lossRouteGo s = .next s) ∧
    (∀ n det, s.blk.fleet.loss = some (n, det) → may det →
      let c := coordNat (s.blk.coordPlus det 50)
      let timed := (s.blk.set XROUTE.RS_AT_LO (c % 2 ^ 32)).set XROUTE.RS_AT_HI (c / 2 ^ 32)
      exec .lossRouteGo s = .next (s.withBlk ((timed.writeRsCtrl (.erg 0) (1 + 65536 * timed.get XROUTE.RT_ARM_EPOCH)).setFleet
        { timed.fleet with gone := true })))) ∧
  (∀ (s : State) (d : List Byte),
    let q := leAt d 23 1
    let send := leAt d 16 3
    let recv := leAt d 20 3
    let offer := s.blk.fleet.offers.find? (fun x => x.qp == q)
    let left := s.blk.setFleet { s.blk.fleet with offers := s.blk.fleet.offers.filter (fun x => x.qp != q) }
    let mine := leAt d 0 1 = 7 ∧ s.blk.powered Page.XQP = true ∧ s.blk.get (XQP.QCTX0_PEER_NODE q) = leAt d 1 1 ∧
      s.blk.get (XQP.QCTX0_PEER_QP q) = leAt d 19 1
    let answer := bitAt (leAt d 3 1) 2
    let t : QpSync := ⟨q, leAt d 1 1, leAt d 19 1, send, recv, s.blk.ep.line⟩
    let answered := left.sendSync t true
    let repeated := s.blk.fleet.taken.any (fun x => x.qp == q && x.send == send && x.recv == recv)
    let wins := s.blk.self < leAt d 1 1 ∨ (s.blk.self = leAt d 1 1 ∧ q < leAt d 19 1)
    (¬mine → exec (.qpSyncReceive d) s = .next s) ∧
    (∀ x, mine → answer = true → offer = some x → x.send = send → x.recv = recv →
      exec (.qpSyncReceive d) s = .next (s.withBlk (left.syncQp q send recv))) ∧
    (mine → answer = true → (∀ x, offer = some x → ¬(x.send = send ∧ x.recv = recv)) → exec (.qpSyncReceive d) s = .next s) ∧
    (mine → answer = false → offer.isSome = true → wins → exec (.qpSyncReceive d) s = .next s) ∧
    (mine → answer = false → offer = none → repeated = true → exec (.qpSyncReceive d) s = .next (s.withBlk answered)) ∧
    (mine → answer = false → ((offer = none ∧ repeated = false) ∨ (offer.isSome = true ∧ ¬wins)) →
      exec (.qpSyncReceive d) s = .next (s.withBlk ((answered.setFleet { answered.fleet with
        taken := t :: answered.fleet.taken.filter (fun x => x.qp != q) }).syncQp q recv send)))) ∧
  (∀ (s : State) (q : Nat), q < 256 →
    let offer := s.blk.fleet.offers.find? (fun x => x.qp == q)
    let first := s.blk.powered Page.XQP = true ∧ s.blk.qstate q = qsError ∧ s.blk.fleet.waits.any (fun x => x.qp == q) = false
    (∀ x, offer = some x → s.blk.linesSince x.sentAt < 300 → exec (.qpSyncResend q) s = .next s) ∧
    (∀ x, offer = some x → 300 ≤ s.blk.linesSince x.sentAt →
      exec (.qpSyncResend q) s = .next (s.withBlk ((s.blk.setFleet { s.blk.fleet with
        offers := s.blk.fleet.offers.map (fun y => if y.qp == q then { y with sentAt := s.blk.ep.line } else y) }).sendSync x false))) ∧
    (offer = none → ¬first → exec (.qpSyncResend q) s = .next s) ∧
    (offer = none → first →
      let x : QpSync := ⟨q, s.blk.get (XQP.QCTX0_PEER_NODE q), s.blk.get (XQP.QCTX0_PEER_QP q),
        (s.blk.get (XQP.QCTX1_SQ_PSN q) + 2 ^ 23) % 2 ^ 24, (s.blk.get (XQP.QCTX2_RQ_PSN q) + 2 ^ 23) % 2 ^ 24, s.blk.ep.line⟩
      exec (.qpSyncResend q) s = .next (s.withBlk ((s.blk.setFleet { s.blk.fleet with
        offers := s.blk.fleet.offers ++ [x] }).sendSync x false)))) ∧
  (∀ (s : State) (t lead : Nat), t < 16 →
    let may := s.blk.powered (tilePage t) = true ∧ (bitAt (s.blk.get SAFE.CANARY_STATUS_FAIL) t = true ∨ s.blk.safe.condemned.contains t = true)
    let out := s.blk.tileMapOut t
    let f := out.ep.frame + BitVec.ofNat 32 (1 + lead)
    let ready := (out.prepareVariant 1 t ⟨f, 0⟩).loseUntil (f - 1) gapSwitch 1
    (¬may → exec (.tileCondemn t lead) s = .next s) ∧
    (may → (out.get SCHED.VARIANT_VKIND ≠ 0 ∨ out.fleet.loss.isSome = true) →
      exec (.tileCondemn t lead) s = .next (s.withBlk (out.setFleet { out.fleet with fault := true }).fleetSafe)) ∧
    (may → out.get SCHED.VARIANT_VKIND = 0 → out.fleet.loss = none →
      (ready.fleet.switch = some (⟨f, 0⟩, 1, t) → s.blk.fleet.switch ≠ ready.fleet.switch →
        exec (.tileCondemn t lead) s = .next (s.withBlk (ready.loadVariant 1 t))) ∧
      (s.blk.fleet.switch = ready.fleet.switch → exec (.tileCondemn t lead) s = .next (s.withBlk ready))))

/-! ### Vector search (spec/14) -/

/-- Search (R347, R350, R351, R353 to R363). LOAD of a slot not in force makes it LOADING and its end VALID, or BAD with the check that failed;
UNLOAD empties it. QRING_TAIL gives the posted descriptors in order. Queries, results and final results of the tree go on as their cell says;
a scan's part is merged by the k smallest keys; a read that fails holds the scan and is made again after 8 line periods, an access that
faults ends it with LIST_LOST (notes/assumptions/102); queries past their timeout or abandonment point end; staged lists age. -/
def Obligations.SearchLoadsScansAndMerges : Prop :=
  (∀ (s : State) (a : Agent) (slot : Nat), (agentOk a && slot < 2) = true →
    let off := 0x108 + 0x20 * slot
    let inForce := s.blk.get SEARCH.ACTIVE_SLOT = slot ∧ s.blk.slotState slot = slValid
    (s.blk.granted a Page.SEARCH off 1 →
      (inForce → exec (.shardLoad a slot) s = .next (s.withBlk
        ((s.blk.captureFree Page.SEARCH seInForce (agentCode a)).answered a Page.SEARCH off))) ∧
      (¬inForce → s.blk.active Page.SEARCH = false → exec (.shardLoad a slot) s = .next (s.withBlk (s.blk.answered a Page.SEARCH off))) ∧
      (¬inForce → s.blk.active Page.SEARCH = true →
        completes (.shardLoad a slot) s (fun t => t.blk.slotState slot = slLoading ∧
          t.blk.search.staged = s.blk.search.staged.filter (fun l => l.slot != slot) ∧
          s.blk.keepsRegs t.blk [(SEARCH.SLOT_STATE_STATE slot).key] ∧ s.node.sameMemory t.node))) ∧
    (s.blk.granted a Page.SEARCH off 2 →
      completes (.shardUnload a slot) s (fun t => t.blk.slotState slot = slEmpty ∧ t.blk.get (SEARCH.SLOT_VERSION slot) = 0 ∧
        t.blk.search.staged = s.blk.search.staged.filter (fun l => l.slot != slot) ∧
        s.blk.keepsRegs t.blk [(SEARCH.SLOT_STATE_STATE slot).key, (SEARCH.SLOT_VERSION slot).key] ∧ s.node.sameMemory t.node))) ∧
  (∀ (s : State) (slot : Nat), slot < 2 → (s.blk.active Page.SEARCH = false ∨ s.blk.slotState slot ≠ slLoading) →
    exec (.shardLoadDone slot) s = .next s) ∧
  (∀ (s : State) (slot c : Nat) (h : List Byte) (b1 : Blk), slot < 2 → s.blk.active Page.SEARCH = true → s.blk.slotState slot = slLoading →
    s.blk.bulkRead 2 (s.blk.slotBase slot) 256 = (c, h, b1) →
    let ends := fun b : Blk => exec (.shardLoadDone slot) s = .next (s.withBlk b)
    let code := if c = 0 then b1.shardCheck slot (s.blk.slotBase slot) h else 1
    let bad := fun (b : Blk) k => ((b.setSlot slot slBad k).raise SEARCH.IRQ_RAW_SLOT_BAD).captureOwnFree Page.SEARCH seSlotBad
    (c = bkWait → ends b1) ∧ (c ≠ bkWait → code ≠ 0 → ends (bad b1 code)) ∧
    (∀ c2 b2, c ≠ bkWait → code = 0 → b1.loadCentroids slot (s.blk.slotBase slot) (hVec h) h = (c2, b2) →
      (c2 = bkWait → ends b2) ∧ (c2 ≠ 0 → c2 ≠ bkWait → ends (bad b2 6)) ∧
      (c2 = 0 → completes (.shardLoadDone slot) s (fun t => t.blk.slotState slot = slValid ∧
        t.blk.get (SEARCH.SLOT_VERSION slot) = leAt h 40 4 ∧ (slot < b2.search.hdrs.length → t.blk.slotHdr slot = h) ∧
        b2.keepsOtherPages t.blk [Page.SEARCH] ∧ t.blk.spm = b2.spm ∧ t.blk.bulk = b2.bulk ∧ t.blk.flash = b2.flash)))) ∧
  (∀ (s : State) (a : Agent) (tail : Nat), agentOk a = true → tail < 64 → s.blk.granted a Page.SEARCH 0x080 (BitVec.ofNat 32 tail) →
    let posted := s.blk.set SEARCH.QRING_TAIL tail
    exec (.queryPost a tail) s = .next (s.withBlk
      ((if posted.searchOn then posted.each (List.range 64) (fun b _ => b.takeQuery) else posted).answered a Page.SEARCH 0x080))) ∧
  (∀ (b b1 : Blk) (d : List Byte), b.get SEARCH.QRING_HEAD ≠ b.get SEARCH.QRING_TAIL →
    b.bulkRead 2 (b.get SEARCH.QRING_BASE_LO + 2 ^ 32 * b.get SEARCH.QRING_BASE_HI + 64 * b.get SEARCH.QRING_HEAD) 64 = (0, d, b1) →
    b.takeQuery = (b1.set SEARCH.QRING_HEAD (b.get SEARCH.QRING_HEAD + 1)).postQuery d) ∧
  (∀ (s : State) (cell len : Nat), cell < 96 → len ≤ 18432 → s.blk.searchOn = false →
    exec (.treeQueryReceive cell len) s = .next s ∧ exec (.treeResultReceive cell len) s = .next s ∧
    exec (.treeFinalReceive cell len) s = .next s) ∧
  (∀ (s : State) (cell len : Nat) (b1 : Blk), cell < 96 → len ≤ 18432 → s.blk.searchOn = true →
    (s.blk.readCell cell len 1 = (none, b1) → exec (.treeQueryReceive cell len) s = .next (s.withBlk b1)) ∧
    (s.blk.readCell cell len 2 = (none, b1) → exec (.treeResultReceive cell len) s = .next (s.withBlk b1)) ∧
    (s.blk.readCell cell len 3 = (none, b1) → exec (.treeFinalReceive cell len) s = .next (s.withBlk b1))) ∧
  (∀ (s : State) (cell len : Nat) (d : List Byte) (b1 : Blk), cell < 96 → len ≤ 18432 → s.blk.searchOn = true →
    let m := metaOfBytes d
    let p : QPart := ⟨leAt d 1 1, entriesOfBytes (leAt d 16 2) (d.drop 64)⟩
    (s.blk.readCell cell len 1 = (some d, b1) → exec (.treeQueryReceive cell len) s = .next (s.withBlk
      (if cell < 32 then b1.serveQuery m (d.drop 64) else b1.queryUp m (d.drop 64)))) ∧
    (s.blk.readCell cell len 2 = (some d, b1) →
      (b1.search.served.find? (fun x => sameQuery x.head m) = none →
        exec (.treeResultReceive cell len) s = .next (s.withBlk b1.lateMsg)) ∧
      (∀ x, b1.search.served.find? (fun x => sameQuery x.head m) = some x → exec (.treeResultReceive cell len) s = .next (s.withBlk
        (b1.putServed (if cell < 64 then { x with child0 := some p } else { x with child1 := some p }))))) ∧
    (s.blk.readCell cell len 3 = (some d, b1) → exec (.treeFinalReceive cell len) s = .next (s.withBlk (b1.sendFinal m p)))) ∧
  (∀ (s : State) (hits : List Nat) (ccFail : Bool),
    let ends := fun b : Blk => exec (.shardScanDone hits ccFail) s = .next (s.withBlk b)
    let lost := fun (b : Blk) (x : ServedQuery) => (b.captureOwnFree Page.SEARCH seCcFail).putServed { x with own := some ⟨qListLost, []⟩ }
    ((s.blk.scanTurn = none ∨ s.blk.searchOn = false) → ends s.blk) ∧
    (∀ x, s.blk.scanTurn = some x → s.blk.searchOn = true →
      (x.held.isSome = true → ends s.blk) ∧
      (x.held = none →
        (s.blk.slotOf x.head.version = none → ends (s.blk.putServed { x with own := some ⟨qVersion, []⟩ })) ∧
        (∀ slot, s.blk.slotOf x.head.version = some slot →
          (ccFail = true → x.head.metric = 0 → ends (lost s.blk x)) ∧
          (∀ e probes b1, ¬(ccFail = true ∧ x.head.metric = 0) → s.blk.scanShard slot x.head x.vec = (e, probes, b1) →
            (e = .wait → ends b1) ∧ (e = .fault → ends (lost b1 x)) ∧
            (∀ p, e = .part p → ends ((b1.notePrefetch slot (s.blk.slotHdr slot) x.head probes hits).putServed { x with own := some p })) ∧
            (∀ r, e = .hold r → ends ((((b1.bumpSat SEARCH.HELD).raise SEARCH.IRQ_RAW_LIST_HELD).captureOwnFree Page.SEARCH
              seHeld).putServed { x with held := some r }))))))) ∧
  (∀ (metric elem k : Nat) (es : List QEntry),
    let key := fun e : QEntry => (distKey metric elem e.d, e.id)
    let best := bestEntries metric elem k es
    best.length = min k es.length ∧ best.Pairwise (fun x y => keyLe (key x) (key y) = true) ∧ (∀ x ∈ best, x ∈ es) ∧
    (∀ x ∈ es, x ∉ best → ∀ y ∈ best, keyLe (key y) (key x) = true)) ∧
  (∀ s : State,
    (s.blk.powered Page.SEARCH = false → exec .queryTimeout s = .next s ∧ exec .queryAbandon s = .next s) ∧
    (s.blk.powered Page.SEARCH = true →
      exec .queryTimeout s = .next (s.withBlk
        ((s.blk.search.own.filter (fun o => decide ((o.head.timeout : Int) ≤ s.blk.elapsed o.head.start))).foldl
          (fun b o => b.completeOwn o qTimeout o.head.missing []) s.blk)) ∧
      (let early : Int := 2 * s.blk.get SEARCH.TREE0_DEPTH * s.blk.get SEARCH.TREE1_H
       exec .queryAbandon s = .next (s.withBlk
        ((s.blk.search.served.filter (fun x => x.own.isNone && decide ((x.head.timeout : Int) - early ≤ s.blk.elapsed x.head.start))).foldl
          (fun b x => (b.when x.held.isSome (fun b => b.captureOwnFree Page.SEARCH seLost)).putServed { x with own := some ⟨qListLost, []⟩ })
          s.blk))))) ∧
  (∀ s : State,
    let first := s.blk.search.served.find? (fun x => x.held.isSome && x.own.isNone)
    let ends := fun b : Blk => exec .listReread s = .next (s.withBlk b)
    ((first = none ∨ s.blk.searchOn = false) → ends s.blk) ∧
    (∀ x r, first = some x → x.held = some r →
      (s.blk.linesSince r.tried < 8 → ends s.blk) ∧
      (∀ c bs b1, s.blk.searchOn = true → 8 ≤ s.blk.linesSince r.tried →
        ((r.tile = none ∧ s.blk.bulkRead 2 r.addr r.len = (c, bs, b1)) ∨
          (∃ t, r.tile = some t ∧ s.blk.tileThere t = true ∧ s.blk.spmRead t r.addr r.len 9 = (c, bs, b1))) →
        (c = 0 → ends (b1.putServed { x with held := none })) ∧
        (c ≠ 0 → ends (b1.putServed { x with held := some { r with tried := b1.ep.line } }))) ∧
      (∀ t, s.blk.searchOn = true → 8 ≤ s.blk.linesSince r.tried → r.tile = some t → s.blk.tileThere t = false →
        ends (s.blk.putServed { x with held := none })))) ∧
  (∀ s : State, exec .prefetchAgeExpiry s = .next (s.withBlk { s.blk with search := { s.blk.search with
    staged := s.blk.search.staged.filter (fun l => s.blk.linesSince l.used < s.blk.get SEARCH.PF_AGE) } }))

/-! ### Clients, requests and the journal, host ports (spec/15) -/

/-- Clients and their items (R370 to R375, R377 to R379, R382 to R388, spec/16 R404, R424). A malformed message counts in RX_BAD; a message
that CLIENT takes counts for the context it names, from its binding; any other counts in RX_UNBOUND. OPEN opens, answers OPENED and sends
again what is not acknowledged, or gets NO_SERVICE; in STANDBY it may wake the node; CLOSE closes; ACK frees what it names; PING is answered.
Fragments and acknowledgements have their timeouts. Posted items are checked in ring order and join the batch of their view and frame, which
closes with its last item; a frame of no context closes empty; HEALTH and wake records go out when due. Closing at a GAP that stands for the
whole frame, and the free 18 bytes of a buddy the plan names no address for, are the model's (notes/assumptions/84, 39). -/
def Obligations.ClientsOpenAcknowledgeAndAreServed : Prop :=
  (∀ (s : State) (m : IcpMsg), icpOk m = true →
    let ends := fun (c : IcpMsg → Instr) (b : Blk) => exec (c m) s = .next (s.withBlk b)
    let counted := s.blk.bumpSat CLIENT.RX_UNBOUND
    let refused := fun code : Nat => s.blk.icpTo m.mac m.src (m.client % 64) m.origin 0 0x85 0
      (natLe 2 code ++ natLe 1 (s.blk.get LIFE.STATE) ++ natLe 1 0)
    let standby := s.blk.power.mode = 2 ∧ s.blk.inMaintenance = false
    (icpMalformed m = true → ∀ c ∈ [Instr.icpOpen, .icpClose, .icpAck, .icpRequest, .icpPing], ends c
      (if s.blk.active Page.CLIENT = true then (s.blk.bumpSat CLIENT.RX_BAD).captureOwnFree Page.CLIENT 0x02 else s.blk)) ∧
    (icpMalformed m = false → s.blk.icpTakes m = false →
      (∀ c ∈ [Instr.icpOpen, .icpRequest, .icpPing], ends c s.blk) ∧ (∀ c ∈ [Instr.icpClose, .icpAck], ends c s.blk.wakeAcked)) ∧
    (icpMalformed m = false → s.blk.icpTakes m = true →
      (standby → ends .icpOpen (if (refused 0).ctxNamed m = some 0 ∧ (refused 0).bound 0 m = true then (refused 0).wakeSource 4 else refused 0)) ∧
      ((s.blk.ctxNamed m = none ∨ ∃ k, s.blk.ctxNamed m = some k ∧ s.blk.bound k m = false) →
        (∀ c ∈ [Instr.icpRequest, .icpPing], ends c counted) ∧ (∀ c ∈ [Instr.icpClose, .icpAck], ends c counted.wakeAcked)) ∧
      (s.blk.ctxNamed m = none → ¬standby → ends .icpOpen counted) ∧
      (∀ k, s.blk.ctxNamed m = some k → ¬standby →
        let turnedAway := s.blk.inMaintenance = true ∧ k ≠ 0 ∨ s.blk.inMaintenance = false ∧ s.blk.flag CLIENT.CL_CTRL_SERVICE = false
        let rebinds := k = 0 ∧ s.blk.clEnabled 0 = true ∧ s.blk.bound 0 m = false ∧ s.blk.flag OASIS.STATUS_PRES_WINDOW = true
        (turnedAway → ends .icpOpen (refused (s.blk.get TALLY.CONTENT_FAULT))) ∧
        (¬turnedAway → ∀ b, b = (if rebinds then (s.blk.sendClosed 0 5).bindTo 0 m.mac m.src else s.blk) →
          let opened := ((b.setCl k { b.cl k with state := if (b.cl k).state == csFoster then csFoster else csOpen }).free 144).2
          (b.bound k m = false → ends .icpOpen (b.bumpSat CLIENT.RX_UNBOUND)) ∧
          (b.bound k m = true → opened.clOpen k = true ∧
            ends .icpOpen (((opened.raise CLIENT.IRQ_RAW_OPENED).icpSend k 0x81 (b.cl k).nextSeq
              (opened.openedBytes k (Config.freeValue b.fresh % 2 ^ 144))).resendFrom k m.seq)))) ∧
      (∀ k, s.blk.ctxNamed m = some k → s.blk.bound k m = true →
        let x := s.blk.cl k
        let seqs := (x.buf.filter (fun i => i.sent && ackNames m i.seq)).map (fun i => i.seq)
        let left := x.buf.filter (fun i => !(i.sent && ackNames m i.seq))
        let freed := ((s.blk.setCl k { x with
          buf := left, timer := if left.length == x.buf.length then x.timer else s.blk.ep.line }).roomBack k).pump k
        let done := fun y : JEntry => y.state == jCommitted && seqs.contains y.recSeq && y.client == k % 64
        ends .icpPing (s.blk.icpSend k 0x86 m.seq []) ∧
        ends .icpClose (if s.blk.clOpen k = true then s.blk.closeClient k 1 else s.blk).wakeAcked ∧
        (k < 64 → ends .icpAck (freed.each ((freed.journal.entries.filter (fun e => done e.2)).map (fun e => e.1)) Blk.freeEntry).wakeAcked) ∧
        (64 ≤ k → ends .icpAck (freed.each ((freed.journal.ward.filter (fun e => done e.2)).map (fun e => e.1))
          (fun b e => b.setWard e noEntry)).wakeAcked)))) ∧
  (∀ (s : State) (k : Nat), k < 128 →
    (∀ f, (s.blk.cl k).frag = some f → 30000 ≤ s.blk.linesSince f.since →
      exec (.fragTimeout k) s = .next (s.withBlk (((s.blk.setCl k { s.blk.cl k with frag := none }).bumpSat
        CLIENT.RX_FRAG_LOST).captureOwnFree Page.CLIENT 0x04))) ∧
    ((∀ f, (s.blk.cl k).frag = some f → s.blk.linesSince f.since < 30000) → exec (.fragTimeout k) s = .next s) ∧
    (let due := s.blk.active Page.CLIENT = true ∧ s.blk.clOpen k = true ∧ 0 < (s.blk.cl k).unacked ∧
      s.blk.get CLIENT.RESEND_T ≤ s.blk.linesSince (s.blk.cl k).timer
     (due → exec (.resendTimeout k) s = .next (s.withBlk (s.blk.resendFrom k 0))) ∧ (¬due → exec (.resendTimeout k) s = .next s))) ∧
  (∀ (s : State) (a : Agent) (tail : Nat), agentOk a = true → tail < 1024 → s.blk.granted a Page.CLIENT 0x058 (BitVec.ofNat 32 tail) →
    let posted := s.blk.set CLIENT.IRING_TAIL tail
    exec (.itemPost a tail) s = .next (s.withBlk ((if posted.active Page.CLIENT
      then posted.each (List.range ((posted.get CLIENT.IRING_TAIL + 1024 - posted.get CLIENT.IRING_HEAD) % 1024)) (fun b _ => b.takePosted)
      else posted).answered a Page.CLIENT 0x058))) ∧
  (∀ (b b1 b2 b3 : Blk) (d h i : List Byte),
    b.bulkRead 1 (b.get CLIENT.IRING_BASE_LO + 2 ^ 32 * b.get CLIENT.IRING_BASE_HI + 16 * b.get CLIENT.IRING_HEAD) 16 = (0, d, b1) →
    b1.bulkRead 1 (leAt d 0 8) 16 = (0, h, b2) → b2.bulkRead 1 (leAt d 0 8) (leAt h 2 2 * 8) = (0, i, b3) →
    let p : PostedItem := ⟨if leAt d 8 1 == 1 then some (leAt d 9 1) else none, i⟩
    let moved := b3.set CLIENT.IRING_HEAD ((b.get CLIENT.IRING_HEAD + 1) % 1024)
    b.takePosted = if moved.itemBad p = true
      then ((moved.bumpSat CLIENT.ITEM_BAD).raise CLIENT.IRQ_RAW_ITEM_BAD).captureOwnFree Page.CLIENT 0x01 else moved.takeItem15 p) ∧
  (∀ (b : Blk) (p : PostedItem),
    let v := itemView p.bytes
    let t := itemType p.bytes
    let f := b.frameOfItem p.bytes
    let closes := itemLast p.bytes = true ∨ t = 5 ∧ b.batch v f = [] ∧ b.framesOf v f ≤ max 1 (leAt p.bytes 20 4)
    (36 ≤ v ∨ t = 7 ∨ t = 8 ∨ t = 16 → b.takeItem15 p = b.each b.openClients (fun b k =>
      if b.itemFor k p = true
        then (b.capCrops k [p.bytes]).1.foldl (fun b i => b.appendItem k i (t == 8 || t == 16) false) (b.capCrops k [p.bytes]).2 else b)) ∧
    (v < 36 → t ≠ 7 → t ≠ 8 → t ≠ 16 →
      (b.viewClosed v f = true → b.takeItem15 p = (b.bumpSat CLIENT.LATE_ITEMS).captureOwnFree Page.CLIENT 0x03) ∧
      (b.viewClosed v f = false → closes → b.takeItem15 p = (b.deliverBatch v (b.batch v f ++ [p])).closeView v f) ∧
      (b.viewClosed v f = false → ¬closes →
        (b.takeItem15 p).batch v f = b.batch v f ++ [p] ∧ (b.takeItem15 p).regs = b.regs))) ∧
  (∀ (b : Blk) (v : Nat) (f g : BitVec 32), v < 36 →
    let closed := b.closeView v f
    closed.viewClosed v f = true ∧ (frameDiff g f ≤ 0 → closed.batch v g = []) ∧ (0 < frameDiff g f → closed.batch v g = b.batch v g) ∧
    (∀ w, w < 36 → w ≠ v → closed.batch w g = b.batch w g) ∧ b.keepsRegs closed [(CLIENT.COMMITTED_F v).key]) ∧
  (∀ (s : State) (v : Nat), v < 36 →
    let due := s.blk.active Page.CLIENT = true ∧ s.blk.curL = lastActive s.blk.mode ∧ s.blk.viewClosed v s.blk.ep.frame = false ∧
      ∀ m ∈ s.blk.client.marks, ¬(m.view = v ∧ m.frame = s.blk.ep.frame)
    (due → exec (.emptyFrameClose v) s = .next (s.withBlk (s.blk.closeView v s.blk.ep.frame))) ∧
    (¬due → exec (.emptyFrameClose v) s = .next s)) ∧
  (∀ s : State,
    (s.blk.active Page.CLIENT = false → exec .healthPeriodic s = .next s) ∧
    (s.blk.active Page.CLIENT = true → exec .healthPeriodic s = .next (s.withBlk
      (if 300000 ≤ s.blk.linesSince s.blk.client.healthAt ∨ healthKey s.blk.client.lastHealth ≠ healthKey s.blk.healthBody
        then s.blk.appendHealth else s.blk))) ∧
    (∀ c state, (c = .safeHealthRepeat ∧ state = s.blk.inSafe ∨ c = .maintHealthRepeat ∧ state = s.blk.inMaintenance) →
      let due := state = true ∧ s.blk.powered Page.CLIENT = true ∧ ∀ l, s.blk.client.safeAt = some l → 30000 ≤ s.blk.linesSince l
      (due → exec c s = .next (s.withBlk { s.blk.appendHealth with
        client := { s.blk.appendHealth.client with safeAt := some s.blk.ep.line } })) ∧
      (¬due → exec c s = .next s)) ∧
    ((s.blk.active Page.CLIENT = false ∨ s.blk.flag CLIENT.CL_CTRL_SERVICE = false ∨ ∀ r ∈ s.blk.oasis.recs.head?, r.sentTo.isSome = true) →
      exec .wakeEventAppend s = .next s) ∧
    (∀ r rest, s.blk.oasis.recs = r :: rest → s.blk.active Page.CLIENT = true → s.blk.flag CLIENT.CL_CTRL_SERVICE = true → r.sentTo = none →
      let item := s.blk.itemBytes 8 0xFF r.coord (natLe 2 r.pattern ++ natLe 1 r.macroPix ++ natLe 1 r.fromMode ++ natLe 2 r.flashes ++ natLe 10 0)
      let ks := s.blk.openClients.filter (fun k => s.blk.subscribes k item)
      (ks = [] → exec .wakeEventAppend s = .next (s.withBlk (s.blk.setRecs rest))) ∧
      (ks ≠ [] → exec .wakeEventAppend s = .next (s.withBlk ((s.blk.each ks (fun b k => b.appendItem k item true false)).setRecs
        ({ r with sentTo := some (ks.map (fun k => (k, (s.blk.cl k).nextSeq))) } :: rest))))))

/-- Accepted work (R372, R376, R379, R389 to R397, spec/03 R54, R78). A request is reassembled and checked in the order of Table 11; one that
passes every check is journalled; a mirrored or flashed acceptance is ACCEPTED and told, a commit COMMITTED; a mirror that fails or is late
leads to flash mode; a flash write that fails, or that Erg's rights do not allow, is captured. Recovery and fostering take the entries given,
but for items that CLIENT refuses (that an entry whose completion is refused stays ACCEPTED is the model's, notes/assumptions/86). A request is
executed by its kind: a fostered one but a QUERY ends NODE_LOST, one whose permission is gone DENIED; one not ready is left. -/
def Obligations.RequestsAreJournalledExecutedAndCommitted : Prop :=
  (∀ (s : State) (m : IcpMsg) (k : Nat), icpOk m = true → icpMalformed m = false → s.blk.icpTakes m = true → s.blk.ctxNamed m = some k →
    s.blk.bound k m = true →
    (m.fragCnt ≤ 1 → s.blk.reassemble k m = (some m.payload, s.blk)) ∧
    (1 < m.fragCnt → (s.blk.cl k).frag = none → s.blk.reassemble k m = (none, s.blk.setCl k { s.blk.cl k with
      frag := some ⟨m.seq, m.fragCnt, [(m.fragIdx, m.payload)], s.blk.ep.line⟩ })) ∧
    (∀ b1, s.blk.reassemble k m = (none, b1) → exec (.icpRequest m) s = .next (s.withBlk b1)) ∧
    (∀ p b1, s.blk.reassemble k m = (some p, b1) →
      ((b1.inMaintenance && maintReg k p) = false → exec (.icpRequest m) s = .next (s.withBlk (b1.request k m.seq p))) ∧
      ((b1.inMaintenance && maintReg k p) = true →
        let read := ({ s.node with b := b1 } : Node).hostReg p
        exec (.icpRequest m) s = .next { s with node := read.2.on (fun b =>
          let b := b.setCl 0 { b.cl 0 with lastReq := max (b.cl 0).lastReq m.seq }
          b.appendItem 0 (b.completionItem { noEntry with client := 0, kind := 3, reqSeq := m.seq, accept := b.now }
            (if read.1.cause = 0 then csOk else csFailed)
            (natLe 4 read.1.data.toNat ++ natLe 1 read.1.cause ++ natLe 3 0)) true false) }))) ∧
  (∀ (b : Blk) (k seq : Nat) (p : List Byte),
    let may := requestNeeds p &&& b.permOf k = requestNeeds p
    let room := (b.entriesOfCtx k).length < b.get JOURNAL.JMAX ∧ (b.jent (b.get JOURNAL.RING_TAIL)).isFree = true
    (b.noService = true → b.request k seq p = b.refuse k seq 6) ∧
    (b.noService = false → 64 ≤ k → b.request k seq p = b.refuse k seq 7) ∧
    (b.noService = false → k < 64 →
      (seq = 0 → b.request k seq p = b.refuse k seq 3) ∧
      (0 < seq → seq ≤ (b.cl k).lastReq → b.request k seq p = b.acceptAgain k seq) ∧
      ((b.cl k).lastReq < seq → seq ≤ b.topSeq k → b.request k seq p = b) ∧
      ((b.cl k).lastReq < seq → b.topSeq k + 1 < seq → b.request k seq p = b.refuse k seq 2) ∧
      ((b.cl k).lastReq < seq → seq = b.topSeq k + 1 →
        (requestOk p = false → b.request k seq p = b.refuse k seq 3) ∧
        (requestOk p = true → ¬may → b.request k seq p = b.refuse k seq 1) ∧
        (requestOk p = true → may → b.hasToken k = false → b.request k seq p = b.refuse k seq 5) ∧
        (requestOk p = true → may → b.hasToken k = true → ¬room → b.request k seq p =
          (((b.bumpSat JOURNAL.REFUSED_FULL).raise JOURNAL.IRQ_RAW_FULL).captureOwnFree Page.JOURNAL jcFull).refuse k seq 4) ∧
        (requestOk p = true → may → b.hasToken k = true → room → b.request k seq p = b.journalRequest k seq p)))) ∧
  (∀ (s : State) (e : Nat), e < 4096 →
    let x := s.blk.jent e
    let target : JEntry := { x with state := if x.state == jFree then jAccepted else jCommitted }
    let on := s.blk.powered Page.JOURNAL = true
    let late := s.blk.get JOURNAL.MIRROR_T ≤ s.blk.linesSince x.since ∨ s.blk.qstate s.blk.buddyQp = qsError
    (on → x.stage = 1 → exec (.journalMirrorDone e) s = .next (s.withBlk (s.blk.stageDone e))) ∧
    (¬(on ∧ x.stage = 1) → exec (.journalMirrorDone e) s = .next s) ∧
    (∀ flashErr, ¬(on ∧ x.stage = 2) → exec (.journalFlashDone e flashErr) s = .next s) ∧
    (∀ flashErr, on → x.stage = 2 →
      let failed := flashErr = true ∨ ∃ p ∈ target.pieces e, s.blk.jFlashOk p = false
      (¬failed → exec (.journalFlashDone e flashErr) s = .next (s.withBlk ((s.blk.writeJFlash (target.pieces e)).stageDone e))) ∧
      (failed → exec (.journalFlashDone e flashErr) s = .next (s.withBlk (s.blk.captureOwnFree Page.JOURNAL jcFlashErr)))) ∧
    (on → x.stage = 1 → late →
      let failed := s.blk.mirrorFail
      exec (.mirrorTimeout e) s = .next (s.withBlk (failed.each ((failed.journal.entries.filter (fun y => y.2.stage == 1)).map (fun y => y.1))
        (fun b i => b.setJent i { b.jent i with stage := 2, since := b.ep.line })))) ∧
    (¬(on ∧ x.stage = 1 ∧ late) → exec (.mirrorTimeout e) s = .next s)) ∧
  (∀ (b : Blk) (e : Nat),
    let x := b.jent e
    (x.state = jFree → b.stageDone e = b.acceptDone e ∧ (b.acceptDone e).jent e = { x with state := jAccepted, stage := 0 } ∧
      ((b.acceptDone e).cl x.client).lastReq = max (b.cl x.client).lastReq x.reqSeq ∧
      (b.acceptDone e).flag JOURNAL.IRQ_RAW_ACCEPTED = true) ∧
    (x.state ≠ jFree → b.stageDone e = b.commitDone e)) ∧
  (∀ (s : State) (a : Agent), agentOk a = true →
    (s.blk.granted a Page.JOURNAL 0x040 (s.blk.fieldWord Page.JOURNAL 0x040 1 1 0) →
      let stored := s.blk.storeKey (regKey Page.JOURNAL 0x040) (s.blk.fieldWord Page.JOURNAL 0x040 1 1 0)
      stored.flag JOURNAL.J_CTRL_MODE = false ∧
      exec (.journalModeWrite a) s = .next (s.withBlk (stored.healthChanged.answered a Page.JOURNAL 0x040))) ∧
    (∀ e, e < 4096 → s.blk.granted a Page.JOURNAL 0x078 (BitVec.ofNat 32 e) →
      exec (.journalCommit a e) s = .next (s.withBlk (
        (if (s.blk.jent e).state = jAccepted ∧ (s.blk.jent e).stage = 0
          then (s.blk.setJent e { s.blk.jent e with asked := true }).startCommit e else s.blk).answered a Page.JOURNAL 0x078)))) ∧
  (∀ (s : State) (recs : List JRecord) (ctxs : List CtxRecord), (Instr.journalRecovery recs ctxs).wf = true →
    let stored := recs.foldl (fun b r =>
      let x := recEntry r (b.get XROUTE.NODE_ID)
      let b := ((b.setJent (r.index % 4096) x).writeLocal (x.pieces (r.index % 4096))).keepCoord x
      if r.committed = false then b
      else if itemFits x.client r.item = false then b.itemRefused
      else b.setCl x.client { b.cl x.client with buf := (b.cl x.client).buf ++ [⟨r.recSeq, r.item, true, false, false⟩] })
      (ctxs.foldl Blk.resumeCtx s.blk)
    let ring := (stored.set JOURNAL.RING_HEAD ((recs.head?.map (fun r => r.index)).getD 0)).set JOURNAL.RING_TAIL
      ((recs.getLast?.map (fun r => r.index + 1)).getD 0)
    let recovers := s.blk.powered Page.JOURNAL = true ∧ s.blk.flag JOURNAL.J_CTRL_RECOVERING = true
    (recovers → exec (.journalRecovery recs ctxs) s = .next (s.withBlk
      ((ring.conf JOURNAL.J_CTRL_RECOVERING 0).markChanged Page.JOURNAL).healthChanged)) ∧
    (¬recovers → exec (.journalRecovery recs ctxs) s = .next s)) ∧
  (∀ (s : State) (ctxs : List CtxRecord), (Instr.fosterStart ctxs).wf = true →
    let starts := s.blk.powered Page.JOURNAL = true ∧ s.blk.get JOURNAL.WARD ≠ 0xFF ∧ s.blk.journal.fosterOf = none
    let closed := s.blk.each ((List.range 1024).filter s.blk.mirrorWindow) (fun b w => b.conf (XQP.WIN1_EN w) 0)
    let taken : Blk := { closed with journal := { closed.journal with fosterOf := some (closed.get JOURNAL.WARD), ward := [] } }
    (starts → exec (.fosterStart ctxs) s = .next (s.withBlk
      ((ctxs.filter (fun c => bitAt (nth c.words 0 0) 0)).foldl Blk.openFoster taken.readWard))) ∧
    (¬starts → exec (.fosterStart ctxs) s = .next s)) ∧
  (∀ (s : State) (restored : Bool),
    let ended := s.blk.journal.fosterOf.isSome = true ∧ (restored = true ∨ s.blk.journal.ward = [])
    let told := s.blk.each s.blk.fosterCtxs (fun b k => (b.sendClosed k (if restored then 4 else 3)).setCl k noClient)
    (ended → exec (.fosterEnd restored) s = .next (s.withBlk { told with journal := { told.journal with fosterOf := none, ward := [] } })) ∧
    (¬ended → exec (.fosterEnd restored) s = .next s)) ∧
  (∀ (s : State) (page : Nat), page < bulkPages →
    let hit := s.blk.powered Page.JOURNAL = true ∧ s.blk.inMirror page = true ∧ (s.blk.bpage page).spare.isSome = true
    (hit → completes (.wardDamaged page) s (fun t => t.blk.journal = { s.blk.journal with damaged := true } ∧
      t.blk.flag JOURNAL.IRQ_RAW_WARD_DAMAGED = true)) ∧
    (¬hit → exec (.wardDamaged page) s = .next s)) ∧
  (∀ (s : State) (e : Nat) (plan : Plan) (env : BurnEnv) (flashErr : Bool), e < 4096 →
    let x := s.blk.jent e
    let may := requestNeeds x.body &&& s.blk.permOf x.client = requestNeeds x.body
    let ends := fun (c : Instr) (b : Blk) (status : Nat) (body : List Byte) => exec c s = .next (s.withBlk (b.reqFinish false e status body))
    (∀ ward (c : Instr) kind,
      (c = .reqSubscribe ward e ∧ kind = 2 ∨ c = .reqReg ward e ∧ kind = 3 ∨ c = .reqConfigClient ward e ∧ kind = 4 ∨
        c = .reqPlanOffer ward e plan ∧ kind = 5 ∨ c = .reqPriv ward e env flashErr ∧ kind = 6 ∨ c = .reqHealthNow ward e ∧ kind = 7) →
      (s.blk.reqReady ward e kind = false → exec c s = .next s) ∧
      (s.blk.reqReady ward e kind = true →
        (ward = true → exec c s = .next (s.withBlk (s.blk.reqFinish true e csNodeLost []))) ∧
        (ward = false → ¬may → ends c s.blk csDenied []))) ∧
    (s.blk.reqReady false e 2 = true → may → ends (.reqSubscribe false e)
      (((s.blk.setClWord x.client 5 (leAt x.body 4 1)).setClWord x.client 6 (leAt x.body 8 4)).setClWord x.client 7 (leAt x.body 12 4))
      csOk []) ∧
    (s.blk.reqReady false e 3 = true → may →
      let done := s.node.hostReg x.body
      exec (.reqReg false e) s = .next { s with node := done.2.on (fun b => b.reqFinish false e
        (if done.1.cause = 0 then csOk else csFailed) (natLe 4 done.1.data.toNat ++ natLe 1 done.1.cause ++ natLe 3 0)) }) ∧
    (s.blk.reqReady false e 4 = true → may → ends (.reqConfigClient false e) (s.blk.configClient x.body) csOk []) ∧
    (s.blk.reqReady false e 5 = true → may →
      let r := s.blk.planTaken plan
      ends (.reqPlanOffer false e plan) r.2 (if leAt r.1 0 1 = 0 then csOk else csFailed) r.1) ∧
    (s.blk.reqReady false e 6 = true → may →
      let done := s.node.privPayload (natLe 8 x.reqSeq ++ natLe 1 (leAt x.body 4 1) ++ natLe 7 0 ++ x.body.drop 8) env flashErr
      exec (.reqPriv false e env flashErr) s = .next { s with node := done.2.on (fun b => b.reqFinish false e
        (if done.1.status = psOk then csOk else if done.1.status = psDenied then csDenied else csFailed) done.1.result) }) ∧
    (s.blk.reqReady false e 7 = true → may → ends (.reqHealthNow false e) s.blk csOk s.blk.healthItem) ∧
    (∀ ward,
      (s.blk.reqReady ward e 1 = false → exec (.reqQuery ward e) s = .next s) ∧
      (s.blk.reqReady ward e 1 = true → ward = false → ¬may → ends (.reqQuery false e) s.blk csDenied []) ∧
      (s.blk.reqReady ward e 1 = true → (ward = true ∨ may) →
        exec (.reqQuery ward e) s = .next (s.withBlk ((s.blk.reqPost ward e).reqResult ward e)))))

/-- Host ports (R366 to R370, R398, R399). A frame at a MAC that takes frames is counted: an ICP datagram is parsed and taken or counted in
RX_BAD, any other takes its way. PTP_TX sends, and stamps an event message; PTP_STEP shifts the clock; a link change shows and is raised. A CAN
due point sends a heartbeat that was armed, or counts it as skipped, and in the safe state sends a safe frame; frames received and sent move
the error counters as ISO 11898-1 does (the model's reading, notes/assumptions/42). -/
def Obligations.HostPortsAndCanCarryTheirFrames : Prop :=
  (∀ (s : State) (m : Nat) (f : EthFrame), m < 2 → s.blk.macTakes m = false → exec (.ethFrameReceive m f) s = .next s) ∧
  (∀ (s : State) (m : Nat), m < 2 → s.blk.macTakes m = true →
    let ends := fun (f : EthFrame) (b : Blk) => exec (.ethFrameReceive m f) s = .next (s.withBlk b)
    let got := s.blk.bumpSat (HOST.RX_FRAMES m)
    (∀ target src d,
      (s.blk.macAddress m target = true → target.port = s.blk.get (HOST.UDP_PORT m) →
        (∀ type msg, icpParse m src d = some (type, msg) →
          exec (.ethFrameReceive m (.udp target src d)) s = .next { s with node := ({ s.node with b := got } : Node).icpMessage type msg }) ∧
        (icpParse m src d = none → ends (.udp target src d)
          (if got.active Page.CLIENT = true then (got.bumpSat CLIENT.RX_BAD).captureOwnFree Page.CLIENT 0x02 else got))) ∧
      (¬(s.blk.macAddress m target = true ∧ target.port = s.blk.get (HOST.UDP_PORT m)) →
        ends (.udp target src d) (got.bumpSat (HOST.RX_DROP m)))) ∧
    ends .badFcs (s.blk.bumpSat (HOST.FCS_ERR m)) ∧ ends .other (got.bumpSat (HOST.RX_DROP m)) ∧ ends .pause (got.bumpSat (HOST.PAUSE_RX m)) ∧
    (∀ target f, ((∃ src, f = .resolve target src) ∨ ∃ src d, f = .echo target src d) → ends f
      (if got.macAddress m target = true ∧ got.macUp m = true then (got.bumpSat (HOST.TX_FRAMES m)).emit (.respond m f) else got)) ∧
    (∀ msg t, ends (.ptp msg t) (got.ptpReceive m msg t))) ∧
  (∀ (s : State) (a : Agent) (m : Nat) (v : Word), (agentOk a && m < 2) = true →
    (∀ t : PtpTime, t.nsec < 1000000000 → s.blk.granted a (Page.HOST + m) 0x08C v →
      let kind := bitsAt v.toNat 0 4
      let sends := 1 ≤ kind ∧ kind ≤ 4 ∧ s.blk.macUp m = true ∧ s.blk.flag (HOST.PTP_CTRL_EN m) = true
      let out : OutEvent := .ptp m kind (bitsAt v.toNat 16 16)
      (¬sends → exec (.ptpTx a m v t) s = .next (s.withBlk (s.blk.answered a (Page.HOST + m) 0x08C))) ∧
      (sends → kind = 4 → exec (.ptpTx a m v t) s =
        .next (s.withBlk (((s.blk.bumpSat (HOST.TX_FRAMES m)).emit out).answered a (Page.HOST + m) 0x08C))) ∧
      (sends → kind ≤ 3 → completes (.ptpTx a m v t) s (fun u =>
        u.blk.sent = s.blk.sent ++ [out, .access a (Page.HOST + m) 0x08C true 0 0] ∧
        u.blk.get (HOST.TS_TX_NSEC m) = (s.blk.ptpClock m t).nsec % 2 ^ (HOST.TS_TX_NSEC m).w ∧
        u.blk.get (HOST.TS_TX_SEQ m) = bitsAt v.toNat 16 16 ∧ u.blk.flag (HOST.IRQ_RAW_TS_TX m) = true ∧
        s.blk.keepsOtherPages u.blk [Page.HOST + m] ∧ s.node.sameMemory u.node))) ∧
    (s.blk.granted a (Page.HOST + m) 0x088 v →
      exec (.ptpStep a m v) s = .next (s.withBlk ((s.blk.ptpStep m v.toNat).answered a (Page.HOST + m) 0x088)) ∧
      (m < s.blk.macs.length → ((s.blk.ptpStep m v.toNat).mac m).step = (s.blk.mac m).step + signedOf 32 v.toNat))) ∧
  (∀ (s : State) (m speed : Nat) (up : Bool), m < 2 → speed < 4 →
    let changes := s.blk.powered (Page.HOST + m) = true ∧ s.blk.flag (HOST.STATUS_LINK m) ≠ up
    (¬changes → exec (.ethLinkChange m up speed) s = .next s) ∧
    (changes → completes (.ethLinkChange m up speed) s (fun u => u.blk.flag (HOST.STATUS_LINK m) = up ∧
      u.blk.get (HOST.STATUS_SPEED m) = (if up then speed else 0) ∧ u.blk.flag (HOST.IRQ_RAW_LINK_CHANGE m) = true ∧
      (up = false → u.blk.get (hErrCount (Page.HOST + m)) = satInc 32 (s.blk.get (hErrCount (Page.HOST + m)))) ∧
      s.blk.keepsOtherPages u.blk [Page.HOST + m] ∧ s.node.sameMemory u.node))) ∧
  (∀ (s : State) (c : Nat), c < 2 →
    let x := s.blk.canSt c
    let noted := s.blk.setCan c { x with armed := false, lastDue := some s.blk.ep.line }
    let due := s.blk.powered (canPage c) = true ∧ s.blk.canDue c = true
    let beats := fun b : Blk => exec (.canHeartbeatDue c) s = .next (s.withBlk b)
    let may := x.armed = true ∧ noted.canOn c = true ∧ noted.flag (hFrozen (canPage c)) = false ∧ noted.get (CAN.STATUS_BUS_STATE c) ≠ 2 ∧
      (noted.canSt c).sending = none
    let count := noted.get (CAN.HB_COUNT c) + 1
    let tec := s.blk.get (CAN.ERR_CNT_TEC c)
    let r := s.blk.get (CAN.ERR_CNT_REC c)
    let busOff := s.blk.get (CAN.STATUS_BUS_STATE c) = 2
    (¬due → exec (.canHeartbeatDue c) s = .next s) ∧
    (due → s.blk.inSafe = true → beats
      (if noted.canOn c = true ∧ noted.flag (CAN.CAN_CTRL_SAFE_EN c) = true ∧ noted.get (CAN.STATUS_BUS_STATE c) ≠ 2
        then noted.canSend c (noted.get (CAN.SAFE_ID c)) true
          (noted.compactHealth (if noted.inMaintenance then 3 else 2) (noted.get (CAN.HB_COUNT c))) else noted)) ∧
    (due → s.blk.inSafe = false → s.blk.flag (CAN.CAN_CTRL_HB_EN c) = false → beats noted) ∧
    (due → s.blk.inSafe = false → s.blk.flag (CAN.CAN_CTRL_HB_EN c) = true →
      (may → beats ((noted.set (CAN.HB_COUNT c) count).canSend c (noted.get (CAN.HB_ID c)) false
        (noted.compactHealth noted.healthState count))) ∧
      (¬may → beats ((noted.bumpSat (CAN.HB_SKIPPED c)).raise (CAN.IRQ_RAW_HB_SKIPPED c)))) ∧
    (∀ a, agentOk a = true → s.blk.granted a (canPage c) 0x058 1 →
      exec (.hbArm a c) s = .next (s.withBlk ((s.blk.setCan c { x with armed := true }).answered a (canPage c) 0x058))) ∧
    (∀ bad, (s.blk.canOn c = false ∨ busOff) → exec (.canRxFrame c bad) s = .next s) ∧
    (s.blk.canOn c = true → ¬busOff →
      exec (.canRxFrame c true) s = .next (s.withBlk (s.blk.canErrors c tec (r + 1))) ∧
      exec (.canRxFrame c false) s = .next (s.withBlk ((s.blk.canErrors c tec (if 127 < r then 127 else r - 1)).bumpSat (CAN.RX_DISCARD c)))) ∧
    ((s.blk.canOn c = false ∨ ¬busOff) → exec (.canBusOffRecovery c) s = .next s) ∧
    (s.blk.canOn c = true → busOff →
      completes (.canBusOffRecovery c) s (fun u => u.blk.get (CAN.STATUS_BUS_STATE c) = 0 ∧ u.blk.get (CAN.ERR_CNT_TEC c) = 0 ∧
        u.blk.get (CAN.ERR_CNT_REC c) = 0 ∧ s.blk.keepsOtherPages u.blk [canPage c] ∧ s.node.sameMemory u.node)) ∧
    (∀ busError, (x.sending = none ∨ s.blk.canOn c = false) → exec (.canFrameTxDone c busError) s = .next s) ∧
    (∀ safe, x.sending = some safe → s.blk.canOn c = true →
      exec (.canFrameTxDone c true) s = .next (s.withBlk (s.blk.canErrors c (tec + 8) r)) ∧
      exec (.canFrameTxDone c false) s = .next (s.withBlk ((((s.blk.setCan c { x with sending := none }).canErrors c (tec - 1) r).bumpSat
        (CAN.TX_COUNT c)).raise (if safe then CAN.IRQ_RAW_SAFE_SENT c else CAN.IRQ_RAW_HB_SENT c)))))

/-! ### Power modes, the Oasis, resets and the tally (spec/16, spec/17) -/

/-- Steps between power modes (R402 to R404, R408, R409, R412, R413, R415, R416, R438). GO accepts a request or records why not (Table 4); a step
starts at its coordinate, the domains its target has not power down in their order and BULK goes to RET for STANDBY; it ends with the target's
domains ON, and a SYS that has powered up boots. Wakes, the supply's return and loss, a low rail and a thermal trip do what R412 to R416 and
R438 say. That Erg makes its WAKE_TO request and its loads at MODE_DONE is the model's (notes/assumptions/103, 101). -/
def Obligations.NodesStepBetweenPowerModes : Prop :=
  (∀ (s : State) (a : Agent) (target fmode : Nat), agentOk a = true → target < 8 → fmode < 4 →
    s.blk.granted a Page.PWR 0x040 (BitVec.ofNat 32 (target + 16 * fmode + 2 ^ 31)) →
    let posted := (s.blk.set PWR.MODE_REQ_TARGET target).set PWR.MODE_REQ_FMODE fmode
    exec (.modeRequest a target fmode) s =
      .next (s.withBlk ((if s.blk.flag (hEn Page.PWR) then posted.modeGo else posted).answered a Page.PWR 0x040))) ∧
  (∀ b : Blk,
    let target := b.get PWR.MODE_REQ_TARGET
    let fmode := b.get PWR.MODE_REQ_FMODE
    let atF := BitVec.ofNat 32 (b.get PWR.MODE_AT_F)
    let code := b.modeRefusal target fmode atF
    let unknown := target = 0 ∨ 4 < target ∨ target = 1 ∧ b.power.mode = 0
    let noted := (b.set PWR.REQ_STATUS_LAST_TARGET target).set PWR.REQ_STATUS_CODE code
    let taken := noted.setPower { noted.power with request := some ⟨target, fmode, atF⟩ }
    (unknown → code = 1) ∧ (¬unknown → target = b.power.mode → code = 2) ∧
    (¬unknown → target ≠ b.power.mode →
      (b.power.trans.isSome = true → code = 3) ∧
      (b.power.trans = none → frameDiff atF b.ep.frame < 2 → code = 4) ∧
      (b.power.trans = none → 2 ≤ frameDiff atF b.ep.frame → code = if target = 4 ∧ 2 ≤ fmode then 5 else 0)) ∧
    (code = 0 → b.modeGo = if target < 3 ∧ taken.active Page.CLIENT = true then taken.healthChanged else taken) ∧
    (code ≠ 0 → b.modeGo = (noted.raise PWR.IRQ_RAW_REQ_REFUSED).captureOwnFree Page.PWR pwRefused)) ∧
  (∀ s : State,
    let steps := fun b : Blk => exec .modeStep s = .next (s.withBlk b)
    ((s.blk.power.trans.isSome = true ∨ s.blk.power.step = none ∧ s.blk.power.request = none) → steps s.blk) ∧
    (∀ target, s.blk.power.trans = none → s.blk.power.step = some target → steps
      (if target < s.blk.power.mode then s.blk.startStep target 2 else s.blk.setPower { s.blk.power with step := none })) ∧
    (∀ r, s.blk.power.trans = none → s.blk.power.step = none → s.blk.power.request = some r → steps
      (if coordReached s.blk.now ⟨r.atF, 0⟩ = true ∧ s.blk.active Page.PWR = true
        then (s.blk.setPower { s.blk.power with request := none }).startStep r.target r.fmode else s.blk))) ∧
  (∀ (b : Blk) (fmode : Nat),
    let starts := fun (x : Blk) (target : Nat) =>
      x.setPower { x.power with trans := some ⟨b.power.mode, target, x.ep.line, false⟩, step := none }
    let out := if b.power.mode = 4 then b.stepOutOfFleet.frameModeAtL0 2 else b
    let front := fun target => (((((starts out target).domainOff 6).domainOff 5).domainOff 4).domainOff 3).domainOff 2
    b.startStep 4 fmode = starts (b.frameModeAtL0 fmode) 4 ∧
    b.startStep 3 fmode = ((starts out 3).domainOff 6).domainOff 5 ∧
    b.startStep 2 fmode = (if 3 ≤ b.power.mode ∧ (starts out 2).domainOn 7 = true then
      { (front 2).setPower { (front 2).power with bulkRet := true } with
        domOn := (front 2).domOn - 128, cores := { (front 2).cores with stoppedAt := some (front 2).ep.line } } else front 2) ∧
    (let dark := ((front 1).domainOff 7).domainOff 1
     b.startStep 1 fmode = (dark.setPower { dark.power with bulkRet := false }).resetPages .cold true (inDomain 7)) ∧
    (∀ m, (b.curL = 0 → b.frameModeAtL0 m = b.pwrFrameMode m) ∧
      (b.curL ≠ 0 → b.frameModeAtL0 m = b.setPower { b.power with frameAtL0 := some m }))) ∧
  (∀ s : State, s.blk.power.trans = none → exec .modeDone s = .next s) ∧
  (∀ (s : State) (t : ModeTrans) (up : Bool) (done : Blk), s.blk.power.trans = some t → s.blk.modeDone = (up, done) →
    let want := if t.wake then modeDomains t.target ||| 128 else modeDomains t.target
    (up = true ↔ s.blk.domainOn 1 = false ∧ bitAt want 1 = true) ∧ done.power.mode = t.target ∧ done.power.trans = none ∧
    (∀ d, d < 8 → (bitAt want d = true ∨ s.blk.domainOn d = true) → done.domainOn d = true) ∧
    (s.blk.powered Page.PWR = true → done.flag PWR.IRQ_RAW_MODE_DONE = true ∧ done.get PWR.TRANS_LAST = s.blk.linesSince t.since % 2 ^ 24) ∧
    (up = false → s.blk.keepsOtherPages done [Page.PWR] ∧ s.node.sameMemory { s.node with b := done } ∧
      exec .modeDone s = .next (s.withBlk (done.reloadTiles s.blk.domOn))) ∧
    (up = true → exec .modeDone s =
      .next { s with node := ({ s.node with b := done } : Node).boot.on (fun b => b.reloadTiles s.blk.domOn) })) ∧
  (∀ s : State,
    let o := s.blk.oasis
    let m := s.blk.power.mode
    let why := if bitAt o.wake 3 = true ∧ o.supply = 1 then 0 else if bitAt o.wake 3 = true ∧ o.supply = 2 then 5 else 4
    let recorded := ((s.blk.set OASIS.WAKE_SRC_SRC o.wake).set OASIS.WAKE_SRC_FROM_MODE m).set OASIS.STATUS_POWER_FAIL 0
    let noted := (if m = 1 then recorded.set OASIS.RESET_CAUSE why else recorded).setOasis { o with wake := 0, supply := 0 }
    let wakes := s.blk.power.trans = none ∧ o.wake ≠ 0
    (¬wakes → exec .wakeStart s = .next s) ∧
    (wakes → (m = 1 ∨ m = 2) → exec .wakeStart s = .next (s.withBlk (if m = 1 ∨ s.blk.power.bulkRet = true
      then noted.setPower { s.blk.power with trans := some ⟨m, 2, s.blk.ep.line, true⟩ } else noted.wakeRequest))) ∧
    (wakes → m ≠ 1 → m ≠ 2 → exec .wakeStart s = .next (s.withBlk (s.blk.setOasis { o with wake := 0 })))) ∧
  (∀ b : Blk,
    let target := b.get OASIS.WAKE_CTRL_WAKE_TO
    let fmode := if target = 4 ∧ b.get OASIS.WAKE_CTRL_WAKE_FMODE = 1 then 1 else 0
    let asks := (target = 3 ∨ target = 4) ∧ b.ergRuns = true ∧ b.power.mode = 2
    (¬asks → b.wakeRequest = b) ∧
    (asks → b.wakeRequest = (b.set PWR.MODE_AT_F (b.ep.frame + 2).toNat).writeModeReq (target + 16 * fmode + 2 ^ 31))) ∧
  (∀ s : State,
    let good := s.blk.powered Page.OASIS = true ∧ ticksPerSec ≤ s.blk.oasis.good ∧ s.blk.oasis.supply ≠ 0
    let down := match s.blk.power.trans with | some t => t.target ≤ 1 | none => s.blk.power.mode ≤ 1
    let fails := s.blk.powered Page.OASIS = true ∧ s.blk.flag OASIS.STATUS_POWER_FAIL = true ∧ ¬down
    let dark := s.blk.each powerOrder.reverse Blk.domainOff
    (¬good → exec .supplyGood s = .next s) ∧
    (good → exec .supplyGood s = .next (s.withBlk (if s.blk.oasis.supply = 1
      then s.blk.setOasis { s.blk.oasis with wake := s.blk.oasis.wake ||| 8 } else s.blk.wakeSource 3).wakeStart)) ∧
    (¬fails → exec .powerFailShutdown s = .next s) ∧
    (fails → exec .powerFailShutdown s = .next (s.withBlk ((s.blk.setPower { s.blk.power with trans := none }).startStep 1 2))) ∧
    (s.blk.powered Page.OASIS = false → exec .oasisPowerLoss s = .next s) ∧
    (s.blk.powered Page.OASIS = true → exec .oasisPowerLoss s = .next (s.withBlk
      { dark with power := { noPower with mode := 0 }, bulk := noBulk, tally := ⟨0, false, 0, dark.tally.stored⟩ })) ∧
    (¬(s.blk.power.mode = 0 ∧ s.blk.powered Page.OASIS = false) → exec .powerOn s = .next s) ∧
    (s.blk.power.mode = 0 → s.blk.powered Page.OASIS = false →
      completes .powerOn s (fun t => t.blk.domOn = 1 ∧ t.blk.power.mode = 1 ∧ t.blk.oasis = noOasis ∧ t.node.otp = s.node.otp ∧
        t.blk = { s.blk.resetPages .cold true (fun _ => true) with domOn := 1, power := noPower, oasis := noOasis })) ∧
    (¬(4 ≤ s.blk.power.hot ∧ 2 < s.blk.power.mode) → exec .thermalTrip s = .next s) ∧
    (4 ≤ s.blk.power.hot → 2 < s.blk.power.mode →
      exec .thermalTrip s = .next (s.withBlk (((s.blk.report 0x0C Page.SEN).setPower
        { s.blk.power with step := some 2, hot := 0 }).tallyFault 0x4001)))) ∧
  (∀ (s : State) (d : Nat), d < 8 →
    let low := s.blk.domainOn d = true ∧ s.blk.powered Page.PWR = true
    (¬low → exec (.railUndervoltage d) s = .next s) ∧
    (low → completes (.railUndervoltage d) s (fun t => t.blk.get PWR.RAIL_UV = (s.blk.get PWR.RAIL_UV ||| 2 ^ d) ∧
      t.blk.flag PWR.IRQ_RAW_RAIL_UV = true ∧ t.blk.reports = s.blk.reports ++ [⟨0x0B, Page.PWR, false, 0xFF⟩] ∧
      t.blk.domOn = s.blk.domOn ∧ s.blk.keepsOtherPages t.blk [Page.PWR] ∧ s.node.sameMemory t.node)))

/-- The Oasis (R414, R417, R418, R435, spec/02 R48, spec/19 R491). A tick advances the RTC by one, wrapping at 48 bits, and with SYS off the
line accumulator; it samples PRES_N and the supply, and a boot that waited for the supply goes on. VIN_OK and HOLD_OK have their hystereses;
VIN below VIN_LOW for RIDE_T is a power fail. The high word of the RTC commits it and sets RTC_VALID; the alarm, presence and a weak store act
at their moments, and do nothing before. -/
def Obligations.OasisKeepsTimeSupplyAndPresence : Prop :=
  (∀ (s : State) (vin hold : Nat) (holdup fail closed : Bool),
    let ticked := s.blk.setRtc ((s.blk.rtc + 1) % 2 ^ 48)
    let held := if s.blk.powered Page.SYS = true then ticked else { ticked with ep := { ticked.ep with lpAcc := ticked.ep.lpAcc + 300000 } }
    let counted := held.setDet { held.oasis.det with hold := held.oasis.det.hold.map (fun h => h.map (· - 1)) }
    let sampled := ((counted.setTally { counted.tally with wait := counted.tally.wait - 1 }).presTick closed).supplyTick vin hold holdup fail
    (s.blk.powered Page.OASIS = true → held.rtc = (s.blk.rtc + 1) % 2 ^ 48 ∧
      exec (.oasisTick vin hold holdup fail closed) s = .next { s with node := ({ s.node with b := sampled } : Node).bootResume }) ∧
    (s.blk.powered Page.OASIS = false → exec (.oasisTick vin hold holdup fail closed) s = .next { s with node := s.node.bootResume })) ∧
  (∀ n : Node,
    let waits := n.b.powered Page.SYS = true ∧ n.b.get SYS.BOOT_STATUS_PHASE = 1 ∧ n.erasureDue = true ∧ n.b.flag OASIS.STATUS_VIN_OK = true ∧
      n.b.flag OASIS.STATUS_HOLD_OK = true
    (waits → n.bootResume = n.bootPhase1.lifeSync) ∧ (¬waits → n.bootResume = n)) ∧
  (∀ (b : Blk) (vin hold : Nat) (holdup : Bool),
    let low := b.get OASIS.SUPPLY_THR_VIN_LOW * 10
    let least := b.get OASIS.HOLD_MIN
    let t := b.supplyTick vin hold holdup false
    (t.flag OASIS.STATUS_VIN_OK = true ↔ low + 50 ≤ vin ∨ b.flag OASIS.STATUS_VIN_OK = true ∧ low ≤ vin) ∧
    (t.flag OASIS.STATUS_HOLD_OK = true ↔ least ≤ hold ∨ b.flag OASIS.STATUS_HOLD_OK = true ∧ least ≤ hold + 50) ∧
    t.flag OASIS.STATUS_ON_HOLDUP = holdup ∧ t.oasis.vinLow = (if vin < low then b.oasis.vinLow + 1 else 0) ∧
    (b.get OASIS.SUPPLY_THR_VIN_FAIL * 10 ≤ vin → t.get OASIS.STATUS_POWER_FAIL = b.get OASIS.STATUS_POWER_FAIL) ∧
    (vin < b.get OASIS.SUPPLY_THR_VIN_FAIL * 10 → t.flag OASIS.STATUS_POWER_FAIL = true)) ∧
  (∀ s : State,
    let on := s.blk.powered Page.OASIS = true
    let o := s.blk.oasis
    let closedNow := s.blk.flag OASIS.STATUS_PRES_CLOSED = true
    let ridden := on ∧ 0 < o.vinLow ∧ s.blk.rideTicks ≤ o.vinLow
    let rings := on ∧ s.blk.flag OASIS.ALARM_CTRL_ALARM_EN = true ∧ s.blk.rtc = s.blk.get OASIS.ALARM_LO + s.blk.get OASIS.ALARM_HI * 2 ^ 32
    let settled := on ∧ presSame ≤ o.presSame
    let opens := on ∧ closedNow ∧ presHold ≤ o.closedFor ∧ o.opened = false ∧ s.blk.flag OASIS.STATUS_PRES_STUCK = false
    let opened := ((((s.blk.setOasis { o with opened := true, windowLeft := presWindow - (o.closedFor - presHold) }).set
      OASIS.STATUS_PRES_WINDOW 1).raise OASIS.IRQ_RAW_PRES_OPEN).wakeSource 2)
    let heals := s.blk.flag OASIS.STATUS_PRES_WINDOW = false ∧ opened.inMaintenance = true ∧ opened.get SYS.BOOT_STATUS_MAINT_CODE = 0x1007
    let closes := on ∧ s.blk.flag OASIS.STATUS_PRES_WINDOW = true ∧ o.windowLeft = 0
    let sticks := on ∧ closedNow ∧ presStuckAt ≤ o.closedFor ∧ s.blk.flag OASIS.STATUS_PRES_STUCK = false
    let weak := on ∧ s.blk.ergRuns = true ∧ 10 * ticksPerSec ≤ o.holdLow
    (¬ridden → exec .vinRideExpiry s = .next s) ∧
    (ridden → exec .vinRideExpiry s = .next (s.withBlk s.blk.powerFail) ∧ s.blk.powerFail.flag OASIS.STATUS_POWER_FAIL = true) ∧
    (¬rings → exec .rtcAlarm s = .next s) ∧
    (rings → exec .rtcAlarm s = .next (s.withBlk ((s.blk.raise OASIS.IRQ_RAW_RTC_ALARM).wakeSource 1))) ∧
    (¬settled → exec .presDebounceChange s = .next s) ∧
    (settled →
      let closed := !s.blk.flag OASIS.STATUS_PRES_CLOSED
      completes .presDebounceChange s (fun t => t.blk.flag OASIS.STATUS_PRES_CLOSED = closed ∧
        t.blk.get OASIS.STATUS_PRES_STUCK = (if closed then s.blk.get OASIS.STATUS_PRES_STUCK else 0) ∧
        t.blk.oasis = { o with presSame := 0, closedFor := 0, opened := false } ∧
        s.blk.keepsRegs t.blk [OASIS.STATUS_PRES_CLOSED.key] ∧ s.node.sameMemory t.node)) ∧
    (¬opens → exec .presenceOpen s = .next s) ∧
    (opens → ¬heals → exec .presenceOpen s = .next (s.withBlk opened)) ∧
    (opens → heals → exec .presenceOpen s = .next { s with node :=
      ({ s.node with b := opened.writeBootRec { opened.bootRec with failsA := 0, failsB := 0 } } : Node).warmReset 2 true }) ∧
    (¬closes → exec .presenceClose s = .next s) ∧
    (closes → exec .presenceClose s = .next (s.withBlk (s.blk.set OASIS.STATUS_PRES_WINDOW 0))) ∧
    (¬sticks → exec .presStuck s = .next s) ∧
    (sticks → completes .presStuck s (fun t => t.blk.flag OASIS.STATUS_PRES_STUCK = true ∧ t.blk.flag OASIS.STATUS_PRES_WINDOW = false ∧
        t.blk.flag OASIS.IRQ_RAW_PRES_STUCK = true ∧ t.blk.presLeft = 0 ∧ s.blk.keepsOtherPages t.blk [Page.OASIS] ∧
        s.node.sameMemory t.node)) ∧
    (¬weak → exec .storeWeak s = .next s) ∧
    (weak → exec .storeWeak s = .next (s.withBlk (s.blk.tallyFault 0x4002).healthChanged))) ∧
  (∀ (s : State) (a : Agent) (v : Word), agentOk a = true → s.blk.granted a Page.OASIS 0x044 v →
    let low := (Tbl.get (dflt none) s.blk.stage (agentPage a Page.OASIS)).getD 0
    completes (.rtcWrite a v) s (fun t => t.blk.rtc = low.toNat + v.toNat % 2 ^ 16 * 2 ^ 32 ∧
      t.blk.flag OASIS.STATUS_RTC_VALID = true ∧ s.blk.keepsOtherPages t.blk [Page.OASIS] ∧ t.blk.ep.line = s.blk.ep.line ∧
      s.node.sameMemory t.node))

/-- Resets and the tally (R407, R439 to R442, spec/18 R458, spec/19 R480). A warm or cold reset that meets a burn attempt waits for it, a cold
one for the tally's bar too; a warm one counts against a trial slot that runs and resets every page but OASIS and EPOCH, and TALLY while an
update runs; a cold one resets every page; then the node boots. PWR.RESET acts for Hamada alone. The tally goes through its states; equal
content is skipped; a deferred cold reset follows its bar. -/
def Obligations.ResetsAndTheTallyTakeTheirCourse : Prop :=
  (∀ s : State,
    let burns := s.blk.fuse.burn.isSome = true ∧ s.blk.powered Page.FUSE = true
    let draws := s.blk.powered Page.TALLY = true ∧ s.blk.tallyRuns = true
    let waits := fun k => s.withBlk { s.blk with fuse := { s.blk.fuse with resetWaits := k } }
    let running := s.blk.get SYS.BOOT_STATUS_ERG_SLOT
    let trial := s.blk.bootRec.trial = 1 ∧ 2 ≤ s.blk.get SYS.BOOT_STATUS_PHASE ∧ running = s.blk.bootRec.active
    let counted := if trial then s.blk.failSlot running else s.blk
    let warm := counted.resetPages .warm false (fun p => p != Page.OASIS && p != Page.EPOCH && !(p == Page.TALLY && counted.tallyRuns))
    let cold := s.blk.resetPages .cold false (fun _ => true)
    let quiet := cold.setOasis { cold.oasis with supply := 0 }
    let still := quiet.setPower { quiet.power with request := none, step := none, frameAtL0 := none, hot := 0 }
    let boots := fun b : Blk => ({ s with node := ({ s.node with b := b } : Node).boot } : State)
    (∀ safety,
      (burns → exec (.warmReset safety) s = .next (waits (if s.blk.fuse.resetWaits = 2 then 2 else if safety then 3 else 1))) ∧
      (¬burns → s.blk.powered Page.SYS = false → exec (.warmReset safety) s = .next s) ∧
      (¬burns → s.blk.powered Page.SYS = true →
        exec (.warmReset safety) s = .next (boots (warm.wakeAgain.set OASIS.RESET_CAUSE (if safety then 3 else 2))))) ∧
    (draws → exec .coldReset s = .next (s.withBlk (s.blk.setTally { s.blk.tally with coldWaits := true }))) ∧
    (¬draws → burns → exec .coldReset s = .next (waits 2)) ∧
    (¬draws → ¬burns → s.blk.powered Page.SYS = false → exec .coldReset s = .next s) ∧
    (¬draws → ¬burns → s.blk.powered Page.SYS = true → exec .coldReset s = .next (boots (still.set OASIS.RESET_CAUSE 1)))) ∧
  (∀ (s : State) (a : Agent), agentOk a = true →
    (∀ (c : Instr) kind, (c = .pwrResetWarm a ∧ kind = 1 ∨ c = .pwrResetCold a ∧ kind = 2) →
      s.blk.granted a Page.PWR 0x050 (BitVec.ofNat 32 kind) →
      (a ≠ .hamada → exec c s = .next (s.withBlk ((s.blk.captureFree Page.PWR pwResetPriv (agentCode a)).answered a Page.PWR 0x050))) ∧
      (a = .hamada → exec c s = .next { s with
        node := (if kind = 1 then s.node.warmReset 2 true else s.node.coldReset).on (fun b => b.answered a Page.PWR 0x050) })) ∧
    (s.blk.granted a Page.TALLY 0x044 1 →
      exec (.tallyGo a) s = .next (s.withBlk (s.blk.tallyGo.answered a Page.TALLY 0x044)))) ∧
  (∀ b : Blk, b.powered Page.TALLY = true →
    let shownNow := b.flag TALLY.STATUS_SHOWN_VALID = true ∧ b.flag TALLY.STATUS_BAR_DRAWN = true ∧ b.content = b.shown
    let kept := b.setWord TALLY.PENDING_CONTENT_NODE.key b.content
    (b.ustate = tuIdle →
      (shownNow → b.tallyGo = (b.bumpSat TALLY.SKIPPED).raise TALLY.IRQ_RAW_SKIPPED) ∧
      (¬shownNow → b.flag (hEn Page.TALLY) = false → b.tallyGo = b) ∧
      (¬shownNow → b.flag (hEn Page.TALLY) = true → b.tallyGo = kept.setUstate (if b.tally.wait = 0 then tuSupply else tuInterval))) ∧
    ((b.ustate = tuInterval ∨ b.ustate = tuSupply) → b.tallyGo = kept) ∧
    (tuErase ≤ b.ustate → b.tallyGo = kept.set TALLY.STATUS_PENDING 1)) ∧
  (∀ s : State,
    let on := s.blk.powered Page.TALLY = true
    let at_ := fun u => on ∧ s.blk.ustate = u
    let starts := s.blk.active Page.TALLY = true ∧ s.blk.ustate = tuSupply ∧ s.blk.flag OASIS.STATUS_VIN_OK = true ∧
      s.blk.flag OASIS.STATUS_HOLD_OK = true
    let count := (s.blk.get TALLY.UPDATE_COUNT + 1) % 2 ^ 32
    (at_ tuInterval ∧ s.blk.tally.wait = 0 → exec .tallyIntervalElapsed s = .next (s.withBlk (s.blk.setUstate tuSupply))) ∧
    (¬(at_ tuInterval ∧ s.blk.tally.wait = 0) → exec .tallyIntervalElapsed s = .next s) ∧
    (∀ cold, ¬starts → exec (.tallyUpdateStart cold) s = .next s) ∧
    (∀ cold, starts → completes (.tallyUpdateStart cold) s (fun t => t.blk.ustate = tuErase ∧
        t.blk.get TALLY.UPDATE_COUNT = count ∧ t.blk.flag TALLY.STATUS_SHOWN_VALID = false ∧
        t.blk.flag TALLY.STATUS_BAR_DRAWN = false ∧ t.blk.flag TALLY.STATUS_PENDING = false ∧ t.blk.flag TALLY.STATUS_COLD = cold ∧
        (t.blk.flag TALLY.STATUS_WORN = true ↔ 1000000 ≤ count) ∧ (count = 900000 → t.blk.flag TALLY.IRQ_RAW_LIFE_WARN = true) ∧
        t.blk.tally.wait = s.blk.intervalTicks ∧ t.blk.tally.showing = s.blk.word TALLY.PENDING_CONTENT_NODE.key ∧
        s.blk.keepsOtherPages t.blk [Page.TALLY] ∧ s.node.sameMemory t.node)) ∧
    (at_ tuErase → exec .tallyEraseBarDone s = .next (s.withBlk (s.blk.setUstate tuContent))) ∧
    (¬at_ tuErase → exec .tallyEraseBarDone s = .next s) ∧
    (at_ tuContent → exec .tallyContentDone s =
      .next (s.withBlk ((s.blk.setWord TALLY.SHOWN_NODE.key s.blk.tally.showing).setUstate tuDraw))) ∧
    (¬at_ tuContent → exec .tallyContentDone s = .next s) ∧
    (¬at_ tuDraw → exec .tallyDrawBarDone s = .next s) ∧
    (at_ tuDraw → ∀ cold drawn, s.blk.tallyDrawn = (cold, drawn) →
      cold = s.blk.tally.coldWaits ∧ drawn.flag TALLY.STATUS_SHOWN_VALID = true ∧ drawn.flag TALLY.STATUS_BAR_DRAWN = true ∧
      drawn.flag TALLY.IRQ_RAW_DONE = true ∧ drawn.ustate = (if s.blk.flag TALLY.STATUS_PENDING then tuInterval else tuIdle) ∧
      drawn.tally.coldWaits = false ∧ s.blk.keepsOtherPages drawn [Page.TALLY] ∧ s.node.sameMemory { s.node with b := drawn } ∧
      (cold = false → exec .tallyDrawBarDone s = .next (s.withBlk drawn)) ∧
      (cold = true → exec .tallyDrawBarDone s = .next { s with node := ({ s.node with b := drawn } : Node).coldReset })))

/-! ### Boot, the mailbox and kernels (spec/18) -/

/-- Erg starts, is watched and reset (R445, R455, R458, R466, R472, R473, spec/16 R403). ERG_START in phase 2 places the body, sets the
watchdog, clears SERVICE and runs the four cores. No READY in 600,000 line periods, no CONFIRM of a trial in 180,000,000, or the watchdog's end
counts a failure of the slot and warm-resets; a slot that has been stable loses its failures. ERG_WDT reads the line periods left; KICK
restarts it, its expiry interrupts Hamada, and it pauses in boot phases 0 to 2, in MAINTENANCE and while the Erg cores are stopped. KICK, IPI,
XCAP_CLEAR and a lockstep error act alone. -/
def Obligations.ErgStartsAndIsWatched : Prop :=
  (∀ s : State, ¬(s.blk.powered Page.SYS = true ∧ s.blk.get SYS.BOOT_STATUS_PHASE = 2) → exec .ergStart s = .next s) ∧
  (∀ s : State, s.blk.powered Page.SYS = true → s.blk.get SYS.BOOT_STATUS_PHASE = 2 →
    let base := ergBase (s.blk.get SYS.BOOT_STATUS_ERG_SLOT)
    let m := s.blk.flashGet base 512
    completes .ergStart s (fun t => t.blk.get SYS.BOOT_STATUS_PHASE = 3 ∧ t.blk.get SYS.ERG_RUN = 0xF ∧ t.blk.flag SYS.ERG_WDT_EN = true ∧
      t.blk.get SYS.ERG_WDT_LIMIT = 0x2DC6C0 ∧ t.blk.flag CLIENT.CL_CTRL_SERVICE = false ∧ t.blk.flag (hEn Page.CORE) = true ∧
      t.blk.get SYS.ERG_ENTRY_LO = mfEntry m % 2 ^ 32 ∧ t.blk.get (BULK.CR_PAGES 15) = ceilDiv (mfBody m) 4096 % 2 ^ 21 ∧
      t.blk.cores = { s.blk.cores with startedAt := some s.blk.ep.line, readyAt := none, kickedAt := s.blk.ep.line, settled := false } ∧
      t.blk.bulk.bytes = (s.blk.bulkPut 0 (s.blk.flashGet (base + 4096) (mfBody m))).bulk.bytes ∧ s.node.sameButBulk t.node)) ∧
  (∀ s : State,
    let c := s.blk.cores
    let after := fun (since : Option (BitVec 48)) lines => ∃ l, since = some l ∧ lines ≤ s.blk.linesSince l
    let noReady := s.blk.ergRuns = true ∧ c.readyAt = none ∧ after c.startedAt 600000
    let noConfirm := s.blk.ergRuns = true ∧ s.blk.bootRec.trial = 1 ∧ after c.readyAt 180000000
    let stable := s.blk.ergRuns = true ∧ s.blk.bootRec.trial = 0 ∧ after c.readyAt 180000000 ∧ c.settled = false
    let settled := { s.blk with cores := { c with settled := true } }
    let slot := s.blk.bootRec.active % 2
    let runsOut := s.blk.ergRuns = true ∧ s.blk.flag SYS.ERG_WDT_EN = true ∧ s.blk.wdtLeft = 0
    (noReady → exec .ergReadyTimeout s = .next { s with node := s.node.failAndReset }) ∧ (¬noReady → exec .ergReadyTimeout s = .next s) ∧
    (noConfirm → exec .ergConfirmTimeout s = .next { s with node := s.node.failAndReset }) ∧
    (¬noConfirm → exec .ergConfirmTimeout s = .next s) ∧
    (stable → exec .ergStable s = .next (s.withBlk
      (if s.blk.bootRec.fails slot = 0 then settled else settled.writeBootRec (s.blk.bootRec.setFails slot 0)))) ∧
    (¬stable → exec .ergStable s = .next s) ∧
    (runsOut → exec .ergWatchdogExpiry s = .next { s with node := (s.node.on (fun b => b.raise CORE.IRQ_RAW_WDT)).failAndReset }) ∧
    (¬runsOut → exec .ergWatchdogExpiry s = .next s)) ∧
  (∀ b : Blk,
    let still := match b.cores.stoppedAt with | some l => b.linesSince l | none => 0
    (b.powered Page.SYS = true → b.get SYS.BOOT_STATUS_PHASE = 3 →
      b.wdtLeft = b.get SYS.ERG_WDT_LIMIT - (b.linesSince b.cores.kickedAt - still)) ∧
    (¬(b.powered Page.SYS = true ∧ b.get SYS.BOOT_STATUS_PHASE = 3) → b.wdtLeft = b.get SYS.ERG_WDT_LIMIT) ∧
    (b.ergRuns = true ↔ b.powered Page.SYS = true ∧ b.get SYS.BOOT_STATUS_PHASE = 3 ∧ b.power.bulkRet = false)) ∧
  (∀ (b : Blk) (a : Agent), (b.readLive a Page.SYS 0x084).2.1 = BitVec.ofNat 32 b.wdtLeft) ∧
  (∀ n : Node, n.failAndReset = (n.on (fun b => b.writeBootRec (b.bootRec.setFails (b.get SYS.BOOT_STATUS_ERG_SLOT)
    (min 255 (b.bootRec.fails (b.get SYS.BOOT_STATUS_ERG_SLOT) + 1))))).warmReset 2 false) ∧
  (∀ (s : State) (a : Agent), agentOk a = true →
    (s.blk.granted a Page.CORE 0x044 1 → exec (.ergKick a) s = .next (s.withBlk
      ({ s.blk with cores := { s.blk.cores with kickedAt := s.blk.ep.line } }.answered a Page.CORE 0x044))) ∧
    (∀ cores, cores < 16 → s.blk.granted a Page.CORE 0x050 (BitVec.ofNat 32 cores) →
      exec (.ipi a cores) s = .next (s.withBlk ((s.blk.emit (.ipi cores)).answered a Page.CORE 0x050))) ∧
    (s.blk.granted a Page.SYS 0x068 1 → exec (.xcapClear a) s = .next (s.withBlk
      (((s.blk.setWord SYS.XCAP0_CAUSE.key 0).setWord SYS.XCAP1_L.key 0).answered a Page.SYS 0x068)))) ∧
  (∀ s : State,
    (s.blk.powered Page.CORE = false → exec .lockstepError s = .next s) ∧
    (s.blk.powered Page.CORE = true →
      completes .lockstepError s (fun t => t.blk.flag CORE.IRQ_RAW_LOCKSTEP = true ∧
        t.blk.reports = s.blk.reports ++ [⟨0x09, Page.CORE, false, 0xFF⟩] ∧ s.blk.keepsOtherPages t.blk [Page.CORE] ∧
        s.node.sameMemory t.node)))

/-- The mailbox (R463 to R465, spec/16 R412, spec/17 R436, R443, spec/19 R483, R494, R496). Hamada takes the outstanding request: an operation
the HIF does not offer gets BAD_OP, a LEN above 240 BAD_ARGS; the others are done with their checks, the response carries SEQ, STATUS, DETAIL,
LEN and the result, VALID is set and BUSY clear. RESET is answered, then the node warm-resets. A command of another operation leaves the
request to its own (notes/assumptions/54); that Erg requests WAKE_TO at READY is the model's (notes/assumptions/103). -/
def Obligations.MailboxRequestsAreServedAndAnswered : Prop :=
  (∀ (s : State) (env : BurnEnv) (flashErr : Bool) (c : Instr × Nat), c ∈ [(.mbReady, 1), (.mbConfirm flashErr, 2),
      (.mbActivate flashErr, 3), (.mbReset, 4), (.mbTally, 5), (.mbFuseRead, 6), (.mbPriv env flashErr, 7), (.mbOwnerBind flashErr, 8)] →
    let d := s.blk.mbRequest
    let op := leAt d 4 2
    let asked := s.blk.active Page.CORE = true ∧ s.blk.flag CORE.MB_STATUS_BUSY = true
    (¬asked → exec c.1 s = .next s) ∧
    (asked → s.blk.mbOffered op = false → exec c.1 s = .next (s.withBlk (s.blk.mbRespond (leAt d 0 4) ⟨mbBadOp, 0, []⟩))) ∧
    (asked → s.blk.mbOffered op = true → op ≠ c.2 → exec c.1 s = .next s) ∧
    (asked → s.blk.mbOffered op = true → op = c.2 → 240 < leAt d 6 2 →
      exec c.1 s = .next (s.withBlk (s.blk.mbRespond (leAt d 0 4) mbBadArgs)))) ∧
  (∀ (b : Blk) (op : Nat), b.mbOffered op = true ↔ 1 ≤ op ∧ (op ≤ 6 ∨ op ≤ 8 ∧ 0x0102 ≤ b.get SYS.HIF)) ∧
  (∀ s : State, s.blk.active Page.CORE = true → s.blk.flag CORE.MB_STATUS_BUSY = true →
    let d := s.blk.mbRequest
    let op := leAt d 4 2
    let args := d.drop 16
    let reply := fun (a : MbAnswer) (n : Node) => n.on (fun b => b.mbRespond (leAt d 0 4) a)
    (leAt d 6 2 ≤ 240 → s.blk.mbOffered op = true →
      (op = 1 →
        let timed := { s.blk.conf SYS.BOOT_TIME (min (2 ^ 24 - 1) (s.blk.linesSince s.blk.cores.bootAt)) with
          cores := { s.blk.cores with readyAt := some s.blk.ep.line } }
        let first := if s.blk.cores.readyAt.isSome = true then s.blk
          else if timed.get OASIS.RESET_CAUSE ∈ [0, 4, 5] then timed.wakeRequest else timed
        exec .mbReady s = .next (s.withBlk (first.mbRespond (leAt d 0 4) ⟨psOk, 0,
          natLe 2 (first.get SYS.HIF) ++ natLe 2 0 ++ natLe 4 (first.word SYS.BOOT_STATUS_PHASE.key).toNat⟩))) ∧
      (op = 2 → ∀ flashErr,
        let active := s.blk.bootRec.active
        let record := s.node.mbRecord flashErr (({ s.blk.bootRec with trial := 0, confirmed := active } : BootRec).setFails (active % 2) 0)
        exec (.mbConfirm flashErr) s = .next { s with node := reply record.1 record.2 }) ∧
      (op = 3 → ∀ flashErr,
        let slot := leAt args 0 1
        (1 < slot ∨ slot = s.blk.get SYS.BOOT_STATUS_ERG_SLOT →
          exec (.mbActivate flashErr) s = .next { s with node := reply mbBadArgs s.node }) ∧
        (slot ≤ 1 → slot ≠ s.blk.get SYS.BOOT_STATUS_ERG_SLOT → s.node.slotCode slot ≠ 0 →
          exec (.mbActivate flashErr) s = .next { s with node := reply ⟨mbImageBad, s.node.slotCode slot % 256, []⟩ s.node }) ∧
        (slot ≤ 1 → slot ≠ s.blk.get SYS.BOOT_STATUS_ERG_SLOT → s.node.slotCode slot = 0 →
          let record := s.node.mbRecord flashErr (({ s.blk.bootRec with active := slot, trial := 1 } : BootRec).setFails slot 0)
          exec (.mbActivate flashErr) s = .next { s with node := reply record.1 record.2 })) ∧
      (op = 4 →
        (leAt args 0 1 = 1 → exec .mbReset s = .next { s with node := (reply mbOk s.node).warmReset 2 true }) ∧
        (leAt args 0 1 ≠ 1 → exec .mbReset s = .next { s with node := reply mbBadArgs s.node })) ∧
      (op = 5 →
        let shown := s.node.on (fun b => (b.set TALLY.CONTENT_NODE_BLANK (leAt args 0 1)).tallyFault (leAt args 2 2))
        exec .mbTally s = .next { s with node := reply mbOk shown }) ∧
      (op = 6 →
        let first := leAt args 0 2
        let count := leAt args 2 1
        let ws := (List.range count).map (fun i => first + i)
        let read := if ws.any isSecretWord then mbDenied else ⟨psOk, 0, ws.flatMap (fun w => natLe 4 (s.node.readOtp w).toNat)⟩
        (1 ≤ count → count ≤ 32 → first + count ≤ 1024 → exec .mbFuseRead s = .next { s with node := reply read s.node }) ∧
        (count = 0 ∨ 32 < count ∨ 1024 < first + count → exec .mbFuseRead s = .next { s with node := reply mbBadArgs s.node })) ∧
      (op = 7 → ∀ env flashErr,
        let done := s.node.privPayload args env flashErr
        exec (.mbPriv env flashErr) s = .next { s with node := reply done.1 done.2 }) ∧
      (op = 8 → ∀ flashErr,
        let ipv6 := leAt args 1 1
        let words := (List.range (if ipv6 = 1 then 4 else 1)).map (fun i => leAt args (4 + 4 * i) 4)
        let owner := some (leAt args 0 1, (⟨ipv6 == 1, words, leAt args 2 2⟩ : HostAddr))
        let bound := s.node.on (fun b => { b with fuse := { b.fuse with owner := owner } })
        let after := if 1 < leAt args 0 1 ∨ 1 < ipv6 then reply mbBadArgs s.node
          else if s.blk.flag OASIS.STATUS_PRES_WINDOW = false then reply mbDenied s.node
          else if flashErr then reply ⟨mbFlashErr, 0, []⟩ s.node else reply mbOk bound
        exec (.mbOwnerBind flashErr) s = .next { s with node := after }))) ∧
  (∀ (n : Node) (flashErr : Bool) (r : BootRec),
    (r = n.b.bootRec → n.mbRecord flashErr r = (mbOk, n)) ∧
    (r ≠ n.b.bootRec → n.mbRecord true r = (⟨mbFlashErr, 0, []⟩, n)) ∧
    (r ≠ n.b.bootRec → n.mbRecord false r = (mbOk, n.on (fun b => b.writeBootRec r)))) ∧
  (∀ (b : Blk) (seq : Nat) (a : MbAnswer),
    let d := natLe 4 seq ++ natLe 1 a.status ++ natLe 1 a.detail ++ natLe 2 a.result.length ++ natLe 8 0 ++ a.result
    let t := b.mbRespond seq a
    (∀ i, i < 64 → 4 * i < d.length → t.get (CORE.MB_RESP i) = leAt d (4 * i) 4) ∧
    t.flag CORE.MB_RESP_STATUS_VALID = true ∧ t.flag CORE.MB_STATUS_BUSY = false ∧ t.sent = b.sent ++ [.ipi t.mbCores])

/-- Kernels (R469 to R471, spec/15 R382). A core of Erg's without a kernel is given a record and its budget. Each call charges its cost first: at
0 the kernel ends with KERNEL_BUDGET and the call is not done (the model's order, notes/assumptions/53); what the call does, and how EXIT, a
fault and the budget's end end the kernel, follows. A kernel that ends well has its items posted, each checked; one that ends badly leaves one
GAP. -/
def Obligations.KernelsAreChargedAndEnd : Prop :=
  (∀ (s : State) (core : Nat) (r : List Byte), core < 4 → r.length = 128 →
    let free := s.blk.ergRuns = true ∧ bitAt (s.blk.get SYS.ERG_RUN) core = true ∧ s.blk.kernel core = none
    (free → exec (.kernelInvoke core r) s =
      .next (s.withBlk ((s.blk.set (CORE.KBUDGET core) (leAt r 12 4)).setKernel core (some ⟨r, []⟩)))) ∧
    (¬free → exec (.kernelInvoke core r) s = .next s)) ∧
  (∀ (s : State) (core : Nat), core < 4 → s.blk.kernel core = none → ∀ c : Instr,
    (c = .kernelNow core ∨ (∃ code bytes, c = .kernelLog core code bytes ∧ bytes.length ≤ 16) ∨
      (∃ w off target, c = .kernelEmit core w off target) ∨ (∃ w off, c = .kernelQuery core w off) ∨
      (∃ status cycles, c = .kernelExit core status cycles) ∨ c = .kernelFault core ∨ c = .kernelBudget core) →
    exec c s = .next s) ∧
  (∀ (s : State) (core : Nat) (k : KernelRun), core < 4 → s.blk.kernel core = some k →
    let charged := fun cost => s.blk.set (CORE.KBUDGET core) (s.blk.get (CORE.KBUDGET core) - cost)
    (∀ (c : Instr) cost, (c = .kernelNow core ∧ cost = 100 ∨
        (∃ code bytes, c = .kernelLog core code bytes ∧ bytes.length ≤ 16 ∧ cost = 1000) ∨
        (∃ w off target, c = .kernelEmit core w off target ∧ cost = 2000) ∨
        (∃ w off, c = .kernelQuery core w off ∧ cost = 3000) ∨ (∃ status, c = .kernelExit core status cost)) →
      s.blk.get (CORE.KBUDGET core) ≤ cost → exec c s = .next (s.withBlk ((charged cost).kernelEnd core 0x42))) ∧
    (100 < s.blk.get (CORE.KBUDGET core) →
      exec (.kernelNow core) s = .next (s.withBlk ((charged 100).emit (.kernel core 3 (coordNat s.blk.now))))) ∧
    (∀ code bytes, bytes.length ≤ 16 → 1000 < s.blk.get (CORE.KBUDGET core) →
      exec (.kernelLog core code bytes) s = .next (s.withBlk { charged 1000 with
        cores := { s.blk.cores with log := s.blk.cores.log ++ [(code, bytes)] } })) ∧
    (∀ status cycles, cycles < s.blk.get (CORE.KBUDGET core) →
      exec (.kernelExit core status cycles) s =
        .next (s.withBlk ((charged cycles).kernelEnd core (if status = 0 then 0 else 0x40)))) ∧
    (∀ w off target, 2000 < s.blk.get (CORE.KBUDGET core) →
      let at_ := (k.window w).1 + off
      let ends := fun b : Blk => exec (.kernelEmit core w off target) s = .next (s.withBlk b)
      (k.reach w off 16 0 = false → ends ((charged 2000).kernelEnd core 0x41)) ∧
      (∀ c h b1, k.reach w off 16 0 = true → (charged 2000).bulkRead 1 at_ 16 = (c, h, b1) →
        (k.reach w off (leAt h 2 2 * 8) 0 = false → ends (b1.kernelEnd core 0x41)) ∧
        (∀ c2 i b2, k.reach w off (leAt h 2 2 * 8) 0 = true → b1.bulkRead 1 at_ (leAt h 2 2 * 8) = (c2, i, b2) →
          (c ≠ 0 ∨ c2 ≠ 0 → ends (b2.kernelEnd core 0x41)) ∧
          (c = 0 → c2 = 0 → ends (b2.setKernel core (some { k with emitted := k.emitted ++ [(target, i)] })))))) ∧
    (∀ w off, 3000 < s.blk.get (CORE.KBUDGET core) →
      let ends := fun b : Blk => exec (.kernelQuery core w off) s = .next (s.withBlk b)
      (k.reach w off 64 0 = false → ends ((charged 3000).kernelEnd core 0x41)) ∧
      (∀ c d b1, k.reach w off 64 0 = true → (charged 3000).bulkRead 1 ((k.window w).1 + off) 64 = (c, d, b1) →
        let ok := c = 0 ∧ k.inWindow (leAt d 16 8) 0 = true ∧ k.inWindow (leAt d 24 8) 1 = true
        (¬ok → ends (b1.kernelEnd core 0x41)) ∧
        (ok → ends ((if b1.searchOn = true then b1.postQuery d else b1).emit (.kernel core 2 (leAt d 0 4)))))) ∧
    exec (.kernelFault core) s = .next (s.withBlk (s.blk.kernelEnd core 0x41)) ∧
    exec (.kernelBudget core) s = .next (s.withBlk ((s.blk.set (CORE.KBUDGET core) 0).kernelEnd core 0x42))) ∧
  (∀ (b : Blk) (core detail : Nat) (k : KernelRun), core < 4 → b.kernel core = some k →
    let ended := (b.set (CORE.KSPENT core) (leAt k.record 12 4 - b.get (CORE.KBUDGET core))).setKernel core none
    (detail ≠ 0 → b.kernelEnd core detail = ended.gapForJob (leAt k.record 3 1) (coordOfNat (leAt k.record 4 8)) detail) ∧
    (detail = 0 → b.kernelEnd core detail = k.emitted.foldl (fun b i =>
      if b.itemBad ⟨i.1, i.2⟩ = true then b.itemRefused else b.takeItem15 ⟨i.1, i.2⟩) ended) ∧ ended.kernel core = none) ∧
  (∀ (b : Blk) (view : Nat) (c : Coord) (detail : Nat),
    let gap := b.gapItem view c gapJob detail 1
    let f := b.frameOfItem gap
    let emptied := if b.viewClosed view f = true then b else b.setBatch view f []
    (36 ≤ view → b.gapForJob view c detail = b) ∧
    (view < 36 → b.gapForJob view c detail = emptied.takeItem15 ⟨none, emptied.gapItem view c gapJob detail 1⟩))

/-! ### Fuses, privileged actions, the return authorisation and the test pads (spec/19) -/

/-- Burns, locks and privileged actions (R474, R478 to R480, R488, R490, R495 to R498). GO is refused, with nothing burned, in the cases of
R478, else starts a burn; an attempt sets bits of the codeword and clears none, and ends the burn OK, tries again, or fails after the
fourth; a reset that waits stops it and then takes place. A lock takes its first write. A privileged action needs PRES_LEFT of at least 1 and is
recorded; the warm reset it leads to follows at once (the model's moment, notes/assumptions/51). -/
def Obligations.FusesBurnUnderTheirGuards : Prop :=
  (∀ (s : State) (a : Agent), agentOk a = true →
    (s.blk.granted a Page.FUSE 0x048 1 →
      exec (.fuseProgGo a) s = .next (s.withBlk ((s.blk.progGo s.node.progRefusal).answered a Page.FUSE 0x048))) ∧
    (∀ which, which < 4 → s.blk.granted a Page.FUSE (0x070 + 4 * which) 1 →
      let key := regKey Page.FUSE (0x070 + 4 * which)
      exec (.fuseLockWrite a which) s = .next { s with node :=
        ((s.node.on (fun b => b.writeFuseLock which 1)).lifeSync).on (fun b => b.answered a Page.FUSE (0x070 + 4 * which)) } ∧
      (Tbl.get (dflt false) s.blk.locked key = true → s.blk.writeFuseLock which 1 = s.blk) ∧
      (Tbl.get (dflt false) s.blk.locked key = false → (s.blk.writeFuseLock which 1).word key = 1 ∧
        Tbl.get (dflt false) (s.blk.writeFuseLock which 1).locked key = true ∧
        s.blk.keepsRegs (s.blk.writeFuseLock which 1) [key]))) ∧
  (∀ n : Node, n.progRefusal = 0 ↔ n.b.fuse.burn = none ∧ n.b.flag FUSE.LOCK_PROG = false ∧ otpReserved (n.b.get FUSE.PROG_ADDR) = false ∧
    otpSet n.otp (n.b.get FUSE.PROG_ADDR) = false ∧ n.b.flag OASIS.STATUS_VIN_OK = true ∧ n.b.flag OASIS.STATUS_HOLD_OK = true ∧
    n.presenceFor (n.b.get FUSE.PROG_ADDR) = true) ∧
  (∀ (b : Blk) (code : Nat), b.active Page.FUSE = false → b.progGo code = b) ∧
  (∀ (b : Blk) (code : Nat), b.active Page.FUSE = true →
    (code ≠ 0 → (b.progGo code).get FUSE.PROG_STATUS_LAST_ERR = code % 2 ^ FUSE.PROG_STATUS_LAST_ERR.w ∧
      (b.progGo code).flag FUSE.IRQ_RAW_PROG_ERR = true ∧ (b.progGo code).fuse = b.fuse) ∧
    (code = 0 → (b.progGo code).flag FUSE.STATUS_BURNING = true ∧ (b.progGo code).fuse.burn =
      some ⟨b.get FUSE.PROG_ADDR, (otpEncode (BitVec.ofNat 32 (b.get FUSE.PROG_DATA))).toNat, 0⟩)) ∧
  (∀ (s : State) (weak : OtpWord), (s.blk.fuse.burn = none ∨ s.blk.active Page.FUSE = false) → exec (.fuseAttemptDone weak) s = .next s) ∧
  (∀ (s : State) (weak : OtpWord) (r : Burn), s.blk.fuse.burn = some r → s.blk.active Page.FUSE = true →
    let code := BitVec.ofNat 39 r.code
    let array := burnBits s.node.otp r.word code weak
    let noted := s.blk.set FUSE.PROG_STATUS_RETRIES r.tries
    let pulsed : Node := ⟨array, if r.word < 4 then noted.raise LIFE.IRQ_RAW_LC_BURNED else noted⟩
    let waits := s.blk.fuse.resetWaits
    let after := if otpWord array r.word = code then pulsed.on (fun b => b.burnEnds.raise FUSE.IRQ_RAW_PROG_DONE)
      else if waits ≠ 0 then pulsed.on Blk.burnEnds
      else if r.tries < 3 then pulsed.on (fun b => { b with fuse := { b.fuse with burn := some { r with tries := r.tries + 1 } } })
      else pulsed.on (fun b => b.burnEnds.progErr fcProgFail)
    let quiet := after.lifeSync.on (fun b => { b with fuse := { b.fuse with resetWaits := 0 } })
    let reset := if waits = 1 then quiet.warmNow 2 true else if waits = 2 then quiet.coldNow else if waits = 3 then quiet.warmNow 3 true
      else if waits = 4 then quiet.warmNow 2 false else quiet
    otpWord array r.word = otpWord s.node.otp r.word ||| (code &&& ~~~weak) ∧
    (∀ w, w ≠ r.word → otpWord array w = otpWord s.node.otp w) ∧
    (waits = 0 → exec (.fuseAttemptDone weak) s = .next { s with node := after.lifeSync }) ∧
    (waits ≠ 0 → exec (.fuseAttemptDone weak) s = .next { s with node := reset })) ∧
  (∀ (s : State) (c : Instr) (args : PrivArgs) (env : BurnEnv) (flashErr : Bool), c.wf = true →
    (c = .privFactoryReset ∧ args = .factoryReset ∨ (∃ t, c = .privLcAdvance t env ∧ args = .lcAdvance t) ∨
      (∃ f slot v, c = .privFuseBurn f slot v env ∧ args = .fuseBurn f slot v) ∨
      (∃ k i, c = .privKeyRevoke k i env ∧ args = .keyRevoke k i) ∨ (∃ k t, c = .privArbCommit k t env ∧ args = .arbCommit k t) ∨
      (∃ slot on h, c = .privFuseTrial slot on h ∧ args = .fuseTrial slot on h) ∨
      (∃ off len, c = .privPatchInstall off len flashErr ∧ args = .patchInstall off len)) →
    (env = ⟨[], none⟩ ∨ ¬(c = .privFactoryReset ∨ (∃ slot on h, c = .privFuseTrial slot on h) ∨
      (∃ off len, c = .privPatchInstall off len flashErr))) →
    let noted := fun (a : PrivAnswer) (n : Node) => n.on (fun b =>
      ((b.set LIFE.LAST_PRIV_ACTION args.action).set LIFE.LAST_PRIV_RESULT a.result).set LIFE.LAST_PRIV_STATUS a.status)
    let done := s.node.privRun args env flashErr
    (s.blk.presLeft = 0 → exec c s = .next { s with node := noted privDenied s.node }) ∧
    (s.blk.presLeft ≠ 0 → done.1.status ≠ psOk ∨ done.2.b.cores.resetDue = none →
      exec c s = .next { s with node := noted done.1 done.2 }) ∧
    (s.blk.presLeft ≠ 0 → done.1.status = psOk → done.2.b.cores.resetDue.isSome = true →
      exec c s = .next { s with node := (noted done.1 done.2).warmReset 2 true })) ∧
  (∀ (n : Node) (env : BurnEnv) (flashErr : Bool),
    (∀ target, target ≤ 4 → lifeState n.otp = target → n.privRun (.lcAdvance target) env flashErr = (privOk, n)) ∧
    (∀ target, target ≤ 4 → lifeState n.otp ≠ target →
      ¬(lifeState n.otp = lcMaker ∧ target = lcField ∧ n.fieldReady = true ∨ lifeState n.otp = lcField ∧ target = lcReturn ∨
        lcMaker ≤ lifeState n.otp ∧ lifeState n.otp ≤ lcReturn ∧ target = lcScrap) →
      n.privRun (.lcAdvance target) env flashErr = (privFailed 1, n)) ∧
    (∀ index, index ≤ 3 → otpSet n.otp (wModomRevoke + index) = false → (lifeState n.otp = lcMaker ∨ lifeState n.otp = lcReturn) →
      modomKeys n.otp = [index] → n.privRun (.keyRevoke 0 index) env flashErr = (privFailed 9, n)) ∧
    (∀ target, target ≤ 64 → arbCount n.otp wErgArb < target → lcMaker ≤ lifeState n.otp → lifeState n.otp ≤ lcReturn →
      n.b.get SYS.SVN_ERG < target → n.privRun (.arbCommit 2 target) env flashErr = (privFailed 4, n)) ∧
    (lifeState n.otp ≠ lcField → n.privRun .factoryReset env flashErr = (privFailed 1, n)) ∧
    (lifeState n.otp = lcField → n.privRun .factoryReset env flashErr = (privOk,
      n.on (fun b => ({ b with fuse := { b.fuse with factory := true } }).resetFollows))))

/-- The return authorisation and the test pads (R492, R493). RETURN_REQ is accepted when every condition of R492 holds and then advances to
RETURN, else the first that fails is its code. The mandatory IEEE 1149.1 instructions work in every state; a debug access is served where
the gate is open only: an OTP word raw, DEVICE_SECRET as 0 under LOCK_SECRET, another as a free value (notes/assumptions/2, 70). A unit has
stepping A or B; any other number held as the stepping reads IDCODE as B, which no run reaches. -/
def Obligations.ReturnAndTestPadsKeepTheirGates : Prop :=
  (∀ (s : State) (auth : List Byte) (env : BurnEnv), auth.length = 256 → s.blk.powered Page.LIFE = false →
    exec (.returnReq auth env) s = .next s) ∧
  (∀ (s : State) (auth : List Byte) (env : BurnEnv), auth.length = 256 → s.blk.powered Page.LIFE = true →
    let loaded := s.node.on (fun b => ((b.set LIFE.RTN_STATUS_LOADED 1).set LIFE.RTN_STATUS_ACCEPTED 0).raise LIFE.IRQ_RAW_RTN_REQ)
    let code := loaded.returnCode auth
    (code ≠ 0 → exec (.returnReq auth env) s = .next { s with node := loaded.on (fun b =>
      ((b.set LIFE.RTN_STATUS_CODE code).raise LIFE.IRQ_RAW_RTN_BAD).captureOwnFree Page.LIFE 1) }) ∧
    (code = 0 → exec (.returnReq auth env) s = .next { s with node :=
      ((loaded.on (fun b => (b.set LIFE.RTN_STATUS_CODE 0).set LIFE.RTN_STATUS_ACCEPTED 1)).lcAdvance lcReturn env).2 })) ∧
  (∀ (n : Node) (auth : List Byte),
    let signed := (modomKeys n.otp).any (fun k => ecdsaOk (Config.modomKey k) (auth.take 160) (beNat ((auth.drop 160).take 48))
      (beNat ((auth.drop 208).take 48)))
    let ours := leAt auth 4 4 = (otpData (otpWord n.otp wUnitId)).toNat ∧ leAt auth 8 4 = (otpData (otpWord n.otp (wUnitId + 1))).toNat
    (n.returnCode auth = 0 ↔ lifeState n.otp = lcField ∧ leAt auth 0 4 = 0x52544E52 ∧ ours ∧ signed = true ∧
      n.b.flag OASIS.STATUS_PRES_WINDOW = true) ∧
    (lifeState n.otp ≠ lcField → n.returnCode auth = 5)) ∧
  (∀ (s : State) (bits pins shifted : List Bool),
    let shown := maskOf pins.length (fun i => nth pins i false)
    exec (.jtagBypass bits) s =
      .next (s.withBlk (s.blk.emit (.testPads (some (maskOf (bits.length + 1) (fun i => nth (false :: bits) i false)))))) ∧
    exec (.jtagSamplePreload pins shifted) s = .next (s.withBlk
      ({ s.blk with fuse := { s.blk.fuse with scan := shifted, driven := false } }.emit (.testPads (some shown)))) ∧
    exec (.jtagExtest pins shifted) s = .next (s.withBlk
      ({ s.blk with fuse := { s.blk.fuse with scan := shifted, driven := true } }.emit (.testPads (some shown)))) ∧
    (s.blk.unit.stepping = 0x0A → exec .jtagIdcode s = .next (s.withBlk (s.blk.emit (.testPads (some 0xA3624A1B))))) ∧
    (s.blk.unit.stepping ≠ 0x0A → exec .jtagIdcode s = .next (s.withBlk (s.blk.emit (.testPads (some 0xB3624A1B)))))) ∧
  (∀ s : State,
    (∀ r, debugOk r = true → s.node.debugOpen = false → exec (.debugAccess r) s = .next (s.withBlk (s.blk.emit (.testPads none)))) ∧
    (∀ w, w < 1024 → s.node.debugOpen = true → exec (.debugAccess (.otpWord w)) s = .next (s.withBlk (s.blk.emit (.testPads (some
      (if isSecretWord w = true ∧ s.blk.flag FUSE.LOCK_SECRET = true then 0 else (otpWord s.node.otp w).toNat)))))) ∧
    (s.node.debugOpen = true → exec (.debugAccess .other) s = .next (s.withBlk
      ({ s.blk with fresh := s.blk.fresh + 1 }.emit (.testPads (some (Config.freeValue s.blk.fresh % 2 ^ 64))))))) ∧
  (∀ n : Node, n.debugOpen = true ↔ n.b.flag FUSE.LOCK_DEBUG = false ∧
    (lifeState n.otp = lcRaw ∨ lifeState n.otp = lcMaker ∨ lifeState n.otp = lcReturn ∧ otpSet n.otp wClean = true))

/-! ### The safety monitor (spec/20) -/

/-- The safety monitor's causes and its reset (R501, R502, R504, R506). The reports that wait are taken up in ascending code; a cause not in
force becomes so, and outside SAFE it is the entry. SAFE_N is open in WATCHING alone. WARM_DELAY after a kind-R cause the node warm-resets
with cause 3, counted and logged, but for one that RESET_MAX holds. -/
def Obligations.SafetyCausesEnterSafeAndReset : Prop :=
  (∀ s : State,
    let sorted := s.blk.reports.foldl (fun acc r => insertReport r acc) []
    let emptied := { s.blk with reports := [] }
    (s.blk.powered Page.SAFE = true → exec .safeCauseActive s = .next (s.withBlk (sorted.foldl Blk.takeReport emptied))) ∧
    (s.blk.powered Page.SAFE = false → exec .safeCauseActive s = .next (s.withBlk emptied)) ∧
    sorted.Pairwise (fun x y => x.cause ≤ y.cause) ∧ sorted.Perm s.blk.reports) ∧
  (∀ (b : Blk) (code page tile : Nat) (forced : Bool), b.safe.causes.all (fun c => c.code != code) = true → b.sstate ≠ ssSafe →
    let c : SafeCause := ⟨code, page, forced, tile, b.ep.line, 0, true⟩
    b.causeOn code page forced tile = (b.setCauses (b.safe.causes ++ [c])).enterSafe c ∧
    (b.setCauses (b.safe.causes ++ [c])).safe.causes = b.safe.causes ++ [c] ∧
    (code = 0 ∨ 17 < code ∨ bitAt ((b.setCauses (b.safe.causes ++ [c])).get SAFE.CAUSE_ACTIVE) (code - 1) = true)) ∧
  (∀ (b : Blk) (x : Nat), x < 4 → (b.setSstate x).sstate = x ∧ ((b.setSstate x).flag SAFE.STATUS_SAFE_N_OPEN = true ↔ x = ssWatching)) ∧
  (∀ s : State,
    let due := fun (c : SafeCause) => c.kind == .r && decide (s.blk.get SAFE.SAFE_CTRL_WARM_DELAY ≤ s.blk.linesSince c.since)
    (s.blk.safe.causes.find? due = none → exec .safetyWarmReset s = .next s) ∧
    (∀ c, s.blk.safe.causes.find? due = some c → s.blk.get SAFE.SAFE_CTRL_RESET_MAX ≤ s.blk.get SAFE.SAFETY_RESETS →
      exec .safetyWarmReset s = .next (s.withBlk (s.blk.raise SAFE.IRQ_RAW_RESET_HELD))) ∧
    (∀ c, s.blk.safe.causes.find? due = some c → s.blk.get SAFE.SAFETY_RESETS < s.blk.get SAFE.SAFE_CTRL_RESET_MAX →
      exec .safetyWarmReset s = .next { s with node := (s.node.on (fun b => (b.bumpSat SAFE.SAFETY_RESETS).safeLog
        ⟨c.code, Page.PWR, c.forced, false, 0xFF, coordNat s.blk.now⟩)).warmReset 3 true }))

/-- The clock monitor (R512, with the expected counts of Table 3). A count of a clock that runs outside ±2 % of its expected value in two
consecutive windows raises CLOCK; so does no window within 4.0 ms, 1,200 line periods; clocks of domains that are not ON are not counted. -/
def Obligations.ClockMonitorRaisesClock : Prop :=
  (∀ (s : State) (counts : List Nat), counts.length = 5 → s.blk.powered Page.SAFE = true →
    let expected : List Nat := [1953125, 1953125, 976562, 1171875, 97656]
    let domain : List Nat := [4, 5, 1, 3, 1]
    let out := fun i => s.blk.domainOn (nth domain i 0) = true ∧
      nth expected i 0 < 50 * (Int.ofNat (nth counts i 0) - Int.ofNat (nth expected i 0)).natAbs
    let before := fun i => nth s.blk.safe.clockBad i 0
    ((∃ i, i < 5 ∧ out i ∧ 1 ≤ before i) →
      ∃ b, exec (.clockWindow counts) s = .next (s.withBlk b.clockFault) ∧ b.safe.windowAt = s.blk.ep.line ∧
        (∀ i, i < 5 → (out i → nth b.safe.clockBad i 0 = before i + 1) ∧ (¬out i → nth b.safe.clockBad i 0 = 0)) ∧
        s.blk.keepsRegs b [SAFE.CLOCK_STATUS_TW.key, SAFE.CLOCK_LAST.key] ∧ s.node.sameMemory { s.node with b := b }) ∧
    ((∀ i, i < 5 → out i → before i = 0) →
      completes (.clockWindow counts) s (fun t => t.blk.safe.windowAt = s.blk.ep.line ∧ t.blk.safe.causes = s.blk.safe.causes ∧
        (∀ i, i < 5 → (out i → nth t.blk.safe.clockBad i 0 = 1) ∧ (¬out i → nth t.blk.safe.clockBad i 0 = 0)) ∧
        (∀ i, i < 5 → (bitAt (t.blk.word SAFE.CLOCK_STATUS_TW.key).toNat i = true ↔ out i)) ∧
        s.blk.keepsRegs t.blk [SAFE.CLOCK_STATUS_TW.key, SAFE.CLOCK_LAST.key] ∧ s.node.sameMemory t.node))) ∧
  (∀ s : State, s.blk.powered Page.SAFE = true →
    (1200 ≤ s.blk.linesSince s.blk.safe.windowAt →
      exec .clockStall s = .next (s.withBlk (s.blk.set SAFE.CLOCK_STATUS_OASIS 1).clockFault)) ∧
    (s.blk.linesSince s.blk.safe.windowAt < 1200 → exec .clockStall s = .next s)) ∧
  (∀ b : Blk, b.clockFault = (b.raise SAFE.IRQ_RAW_CLOCK).causeOn 0x08 Page.SAFE false 0xFF)

/-! ### What every step keeps -/

/-- No step ever clears an OTP bit (spec/19 R474: a bit can be burned from 0 to 1 once and never returns to 0), and every step keeps the
array in its one canonical form: whatever command waits at the front, in whatever state. -/
def Obligations.EveryStepKeepsBurnedOtpBits : Prop :=
  ∀ s t : State, step s = .next t →
    Otp.kept s.node.otp t.node.otp ∧ (Tbl.wf (dflt 0) s.node.otp = true → Tbl.wf (dflt 0) t.node.otp = true)

/-- The state after reset: no command waits, the memories are in their canonical form and, but for the array of the unit the model starts
with (notes/assumptions/4), list nothing; OASIS alone is powered, in DORMANT; every register reads its reset value. -/
def Obligations.ResetStateIsAsStated : Prop :=
  State.reset.pending = [] ∧ State.reset.node.memWf = true ∧ State.reset.node.otp = resetOtp ∧ State.reset.blk.flash = [] ∧
  State.reset.blk.bulk.bytes = [] ∧ State.reset.blk.spm.bytes = [] ∧ State.reset.blk.domOn = 1 ∧ State.reset.blk.power.mode = 1 ∧
  State.reset.blk.sstate = 0 ∧ State.reset.blk.mode = 2 ∧
  (∀ k, State.reset.blk.word k = regReset k) ∧ (∀ k, State.reset.blk.copyOf k = none) ∧
  lifeState State.reset.node.otp = lcField

end
end

