-- ==== Sys2Proof/Laws/Tbl.lean ====
section
/-! SUPPORT. Laws/Tbl.lean: the small laws of the sparse maps: a read after a write, and the canonical form every operation
keeps. -/

namespace Sys2Proof.Machine

variable {α : Type}

@[simp] theorem Tbl.get_nil (d : Nat → α) (k : Nat) : Tbl.get d [] k = d k := rfl

theorem Tbl.get_drop_same (d : Nat → α) (t : Tbl α) (k : Nat) : Tbl.get d (Tbl.drop t k) k = d k := by
  induction t with
  | nil => rfl
  | cons e rest ih =>
    obtain ⟨k', v⟩ := e
    by_cases h : k' = k <;> simp [Tbl.drop, Tbl.get, h, ih]

theorem Tbl.get_drop_ne (d : Nat → α) (t : Tbl α) {k j : Nat} (h : j ≠ k) : Tbl.get d (Tbl.drop t k) j = Tbl.get d t j := by
  induction t with
  | nil => rfl
  | cons e rest ih =>
    obtain ⟨k', v⟩ := e
    by_cases hk : k' = k
    · subst hk
      simp [Tbl.drop, Tbl.get, ih, Ne.symm h]
    · rw [Tbl.drop, if_neg hk]
      by_cases hj : k' = j <;> simp [Tbl.get, hj, ih]

theorem Tbl.get_insert_same (d : Nat → α) (t : Tbl α) (k : Nat) (v : α) : Tbl.get d (Tbl.insert t k v) k = v := by
  induction t with
  | nil => simp [Tbl.insert, Tbl.get]
  | cons e rest ih =>
    obtain ⟨k', v'⟩ := e
    by_cases h1 : k < k'
    · simp [Tbl.insert, Tbl.get, h1]
    · by_cases h2 : k' = k <;> simp [Tbl.insert, Tbl.get, h1, h2, ih]

theorem Tbl.get_insert_ne (d : Nat → α) (t : Tbl α) {k j : Nat} (v : α) (h : j ≠ k) :
    Tbl.get d (Tbl.insert t k v) j = Tbl.get d t j := by
  induction t with
  | nil => simp [Tbl.insert, Tbl.get, Ne.symm h]
  | cons e rest ih =>
    obtain ⟨k', v'⟩ := e
    by_cases h1 : k < k'
    · simp [Tbl.insert, Tbl.get, h1, Ne.symm h]
    · by_cases h2 : k' = k
      · subst h2
        simp [Tbl.insert, Tbl.get, Ne.symm h]
      · rw [Tbl.insert, if_neg h1, if_neg h2]
        by_cases hj : k' = j <;> simp [Tbl.get, hj, ih]

variable [DecidableEq α]

/-- A read of the key just written gives the value written. -/
@[simp] theorem Tbl.get_put_same (d : Nat → α) (t : Tbl α) (k : Nat) (v : α) : Tbl.get d (Tbl.put d t k v) k = v := by
  unfold Tbl.put
  split
  · next h => rw [Tbl.get_drop_same, h]
  · exact Tbl.get_insert_same d t k v

/-- A write leaves every other key alone. -/
theorem Tbl.get_put_ne (d : Nat → α) (t : Tbl α) {k j : Nat} (v : α) (h : j ≠ k) :
    Tbl.get d (Tbl.put d t k v) j = Tbl.get d t j := by
  unfold Tbl.put
  split
  · exact Tbl.get_drop_ne d t h
  · exact Tbl.get_insert_ne d t v h

/-- Both in one, for rewriting. -/
theorem Tbl.get_put (d : Nat → α) (t : Tbl α) (k j : Nat) (v : α) :
    Tbl.get d (Tbl.put d t k v) j = if j = k then v else Tbl.get d t j := by
  split
  · next h => subst h; simp
  · next h => exact Tbl.get_put_ne d t v h

/-! ### The canonical form -/

theorem Tbl.wfFrom_mono (d : Nat → α) {lo lo' : Nat} (t : Tbl α) (h : lo' ≤ lo) (w : Tbl.wfFrom d lo t = true) :
    Tbl.wfFrom d lo' t = true := by
  cases t with
  | nil => rfl
  | cons e rest =>
    obtain ⟨k, v⟩ := e
    simp only [Tbl.wfFrom, Bool.and_eq_true, decide_eq_true_eq] at w ⊢
    exact ⟨⟨by omega, w.1.2⟩, w.2⟩

theorem Tbl.wfFrom_drop (d : Nat → α) (k lo : Nat) (t : Tbl α) (w : Tbl.wfFrom d lo t = true) :
    Tbl.wfFrom d lo (Tbl.drop t k) = true := by
  induction t generalizing lo with
  | nil => rfl
  | cons e rest ih =>
    obtain ⟨k', v⟩ := e
    simp only [Tbl.wfFrom, Bool.and_eq_true, decide_eq_true_eq] at w
    by_cases h : k' = k
    · simp only [Tbl.drop, h, if_true]
      exact ih lo (Tbl.wfFrom_mono d rest (by omega) w.2)
    · simp only [Tbl.drop, h, if_false, Tbl.wfFrom, Bool.and_eq_true, decide_eq_true_eq]
      exact ⟨w.1, ih _ w.2⟩

theorem Tbl.wfFrom_insert (d : Nat → α) (k lo : Nat) (v : α) (t : Tbl α) (hv : v ≠ d k) (hk : lo ≤ k)
    (w : Tbl.wfFrom d lo t = true) : Tbl.wfFrom d lo (Tbl.insert t k v) = true := by
  induction t generalizing lo with
  | nil => simp [Tbl.insert, Tbl.wfFrom, hv, hk]
  | cons e rest ih =>
    obtain ⟨k', v'⟩ := e
    simp only [Tbl.wfFrom, Bool.and_eq_true, decide_eq_true_eq] at w
    by_cases h1 : k < k'
    · simp only [Tbl.insert, h1, if_true, Tbl.wfFrom, Bool.and_eq_true, decide_eq_true_eq]
      exact ⟨⟨hk, hv⟩, ⟨by omega, w.1.2⟩, w.2⟩
    · by_cases h2 : k' = k
      · subst h2
        simp only [Tbl.insert, h1, if_false, if_true, Tbl.wfFrom, Bool.and_eq_true, decide_eq_true_eq]
        exact ⟨⟨hk, hv⟩, w.2⟩
      · simp only [Tbl.insert, h1, h2, if_false, Tbl.wfFrom, Bool.and_eq_true, decide_eq_true_eq]
        exact ⟨w.1, ih _ (by omega) w.2⟩

/-- Every write keeps the canonical form. -/
theorem Tbl.wf_put (d : Nat → α) (t : Tbl α) (k : Nat) (v : α) (w : Tbl.wf d t = true) : Tbl.wf d (Tbl.put d t k v) = true := by
  unfold Tbl.wf Tbl.put at *
  split
  · exact Tbl.wfFrom_drop d k 0 t w
  · next h => exact Tbl.wfFrom_insert d k 0 v t h (by omega) w

theorem Tbl.wf_putMany (d : Nat → α) (vs : List α) (t : Tbl α) (k : Nat) (w : Tbl.wf d t = true) :
    Tbl.wf d (Tbl.putMany d t k vs) = true := by
  induction vs generalizing t k with
  | nil => exact w
  | cons v vs ih => exact ih _ _ (Tbl.wf_put d t k v w)

theorem Tbl.wfFrom_filter (d : Nat → α) (p : Nat × α → Bool) (t : Tbl α) (lo : Nat) (w : Tbl.wfFrom d lo t = true) :
    Tbl.wfFrom d lo (t.filter p) = true := by
  induction t generalizing lo with
  | nil => rfl
  | cons e rest ih =>
    obtain ⟨k, v⟩ := e
    simp only [Tbl.wfFrom, Bool.and_eq_true, decide_eq_true_eq] at w
    by_cases h : p (k, v) = true
    · simp only [List.filter, h, Tbl.wfFrom, Bool.and_eq_true, decide_eq_true_eq]
      exact ⟨w.1, ih _ w.2⟩
    · simp only [List.filter, h]
      exact Tbl.wfFrom_mono d _ (by omega) (ih _ w.2)

theorem Tbl.wf_clear (d : Nat → α) (t : Tbl α) (p : Nat → Bool) (w : Tbl.wf d t = true) : Tbl.wf d (Tbl.clear t p) = true :=
  Tbl.wfFrom_filter d _ t 0 w

theorem Tbl.wf_nil (d : Nat → α) : Tbl.wf d ([] : Tbl α) = true := rfl

/-- The `i`-th byte of a run just written. -/
theorem Tbl.get_putMany (d : Nat → α) (vs : List α) (t : Tbl α) (k j : Nat) :
    Tbl.get d (Tbl.putMany d t k vs) j =
      if k ≤ j ∧ j < k + vs.length then (vs[j - k]?).getD (d j) else Tbl.get d t j := by
  induction vs generalizing t k with
  | nil =>
    have : ¬ (k ≤ j ∧ j < k + ([] : List α).length) := by simp
    rw [Tbl.putMany, if_neg this]
  | cons v vs ih =>
    simp only [Tbl.putMany, ih, List.length_cons, Tbl.get_put]
    by_cases h : j = k
    · subst h
      simp
    · by_cases h2 : k + 1 ≤ j ∧ j < k + 1 + vs.length
      · have h3 : k ≤ j ∧ j < k + (vs.length + 1) := by omega
        have h4 : j - k = (j - (k + 1)) + 1 := by omega
        simp [h2, h3, h4]
      · have h3 : ¬ (k ≤ j ∧ j < k + (vs.length + 1)) := by omega
        rw [if_neg h2, if_neg h3, if_neg h]

end Sys2Proof.Machine
end

