-- ==== Sys2Proof/Laws/Fields.lean ====
section
/-! SUPPORT. Laws/Fields.lean: bit fields and register fields: a read after a write of the same field, and every other field and
register left alone. -/

namespace Sys2Proof.Machine

/-! ### Bit fields of numbers -/

/-- A number split at a field: what stands above it, the field, what stands below it. -/
theorem split_at_field (n lo w : Nat) :
    n = 2 ^ lo * (2 ^ w * (n / 2 ^ (lo + w)) + bitsAt n lo w) + n % 2 ^ lo := by
  have h1 := Nat.div_add_mod n (2 ^ lo)
  have h2 := Nat.div_add_mod (n / 2 ^ lo) (2 ^ w)
  rw [Nat.div_div_eq_div_mul, ← pow_add] at h2
  simp only [bitsAt, Nat.shiftRight_eq_div_pow]
  rw [h2, h1]

/-- What setting a field leaves and puts. -/
theorem putBits_eq (n lo w v : Nat) :
    putBits n lo w v = 2 ^ lo * (2 ^ w * (n / 2 ^ (lo + w)) + v % 2 ^ w) + n % 2 ^ lo := by
  have h := split_at_field n lo w
  generalize hq : n / 2 ^ (lo + w) = q at *
  generalize hr : n % 2 ^ lo = r at *
  generalize hm : bitsAt n lo w = m at *
  simp only [putBits, hm, Nat.shiftLeft_eq]
  rw [h]
  have e1 : 2 ^ lo * (2 ^ w * q + m) + r = 2 ^ lo * (2 ^ w * q) + r + m * 2 ^ lo := by ring
  rw [e1, Nat.add_sub_cancel]
  ring

theorem bitsAt_lt (n lo w : Nat) : bitsAt n lo w < 2 ^ w := Nat.mod_lt _ (by positivity)

theorem bitsAt_putBits_same (n lo w v : Nat) : bitsAt (putBits n lo w v) lo w = v % 2 ^ w := by
  rw [putBits_eq, bitsAt, Nat.shiftRight_eq_div_pow, Nat.mul_add_div (by positivity),
    Nat.div_eq_of_lt (Nat.mod_lt n (by positivity)), Nat.add_zero, Nat.mul_add_mod, Nat.mod_mod]

theorem bitsAt_putBits_above (n lo w v lo' w' : Nat) (h : lo + w ≤ lo') :
    bitsAt (putBits n lo w v) lo' w' = bitsAt n lo' w' := by
  have hd : putBits n lo w v / 2 ^ (lo + w) = n / 2 ^ (lo + w) := by
    rw [putBits_eq, pow_add, ← Nat.div_div_eq_div_mul, Nat.mul_add_div (by positivity),
      Nat.div_eq_of_lt (Nat.mod_lt n (by positivity)), Nat.add_zero, Nat.mul_add_div (by positivity),
      Nat.div_eq_of_lt (Nat.mod_lt v (by positivity)), Nat.add_zero]
  obtain ⟨k, rfl⟩ := Nat.exists_eq_add_of_le h
  simp only [bitsAt, Nat.shiftRight_eq_div_pow, pow_add _ (lo + w) k, ← Nat.div_div_eq_div_mul, hd]

theorem bitsAt_putBits_below (n lo w v lo' w' : Nat) (h : lo' + w' ≤ lo) :
    bitsAt (putBits n lo w v) lo' w' = bitsAt n lo' w' := by
  have hm : ∀ m : Nat, bitsAt m lo' w' = m % 2 ^ lo / 2 ^ lo' % 2 ^ w' := by
    intro m
    obtain ⟨k, rfl⟩ := Nat.exists_eq_add_of_le h
    rw [bitsAt, Nat.shiftRight_eq_div_pow, Nat.add_assoc, pow_add, Nat.mod_mul_right_div_self, pow_add,
      Nat.mod_mul_right_mod]
  rw [hm, hm, putBits_eq, Nat.mul_add_mod, Nat.mod_mod]

/-- Setting one field leaves a field that does not overlap it. -/
theorem bitsAt_putBits_ne (n lo w v lo' w' : Nat) (h : lo + w ≤ lo' ∨ lo' + w' ≤ lo) :
    bitsAt (putBits n lo w v) lo' w' = bitsAt n lo' w' :=
  h.elim (bitsAt_putBits_above n lo w v lo' w') (bitsAt_putBits_below n lo w v lo' w')

theorem bitsAt_mod_word (n lo w : Nat) (h : lo + w ≤ 32) : bitsAt (n % 2 ^ 32) lo w = bitsAt n lo w := by
  obtain ⟨k, hk⟩ := Nat.exists_eq_add_of_le h
  simp only [bitsAt, Nat.shiftRight_eq_div_pow]
  rw [hk, Nat.add_assoc, pow_add, Nat.mod_mul_right_div_self, pow_add, Nat.mod_mul_right_mod]

/-! ### Register words -/

@[simp] theorem Blk.word_setWord_same (b : Blk) (k : Nat) (v : Word) : (b.setWord k v).word k = v := by
  simp [Blk.word, Blk.setWord]

theorem Blk.word_setWord_ne (b : Blk) {k j : Nat} (v : Word) (h : j ≠ k) : (b.setWord k v).word j = b.word j :=
  Tbl.get_put_ne _ _ _ h

theorem Blk.word_setWord (b : Blk) (k j : Nat) (v : Word) : (b.setWord k v).word j = if j = k then v else b.word j := by
  simp [Blk.word, Blk.setWord, Tbl.get_put]

/-! ### Register fields -/

/-- A field lies in its 32-bit word. -/
def Fld.fits (f : Fld) : Prop := f.lo + f.w ≤ 32

/-- Two fields share no bit. -/
def Fld.apart (f g : Fld) : Prop := f.key ≠ g.key ∨ f.lo + f.w ≤ g.lo ∨ g.lo + g.w ≤ f.lo

/-- A field reads as it was set, cut to its width. -/
theorem Blk.get_set_same (b : Blk) (f : Fld) (v : Nat) (h : f.fits) : (b.set f v).get f = v % 2 ^ f.w := by
  unfold Fld.fits at h
  rw [Blk.get, Blk.set, Blk.word_setWord_same, BitVec.toNat_ofNat, bitsAt_mod_word _ _ _ h, bitsAt_putBits_same]

/-- Setting a field leaves every field that shares no bit with it. -/
theorem Blk.get_set_apart (b : Blk) (f g : Fld) (v : Nat) (hg : g.fits) (h : f.apart g) : (b.set f v).get g = b.get g := by
  unfold Fld.fits at hg
  by_cases hk : g.key = f.key
  · have h' : f.lo + f.w ≤ g.lo ∨ g.lo + g.w ≤ f.lo := by
      rcases h with h | h
      · exact absurd hk.symm h
      · exact h
    rw [Blk.get, Blk.set, hk, Blk.word_setWord_same, BitVec.toNat_ofNat, bitsAt_mod_word _ _ _ hg,
      bitsAt_putBits_ne _ _ _ _ _ _ h', Blk.get, hk]
  · rw [Blk.get, Blk.set, Blk.word_setWord_ne _ _ hk, Blk.get]

/-- Setting a field leaves every other register. -/
theorem Blk.word_set_ne (b : Blk) (f : Fld) (v : Nat) {k : Nat} (h : k ≠ f.key) : (b.set f v).word k = b.word k :=
  Blk.word_setWord_ne _ _ h

theorem Blk.get_raise_same (b : Blk) (f : Fld) (h : f.fits) (hw : 0 < f.w) : (b.raise f).get f = 1 := by
  rw [Blk.raise, Blk.get_set_same _ _ _ h, Nat.mod_eq_of_lt (Nat.one_lt_two_pow (by omega))]

/-- A saturating counter counts one more, or stays at its top. -/
theorem Blk.get_bumpSat_same (b : Blk) (f : Fld) (h : f.fits) : (b.bumpSat f).get f = satInc f.w (b.get f) := by
  rw [Blk.bumpSat, Blk.get_set_same _ _ _ h, Nat.mod_eq_of_lt]
  unfold satInc
  have := Nat.two_pow_pos f.w
  split <;> omega

/-- A wrapping counter counts one more at its width. -/
theorem Blk.get_bump_same (b : Blk) (f : Fld) (h : f.fits) : (b.bump f).get f = (b.get f + 1) % 2 ^ f.w :=
  Blk.get_set_same b f _ h

theorem Blk.get_lt (b : Blk) (f : Fld) : b.get f < 2 ^ f.w := bitsAt_lt _ _ _

end Sys2Proof.Machine
end

