-- ==== Sys2Proof/Laws/State.lean ====
section
/-! SUPPORT. Laws/State.lean: what each small update of the state leaves alone, one lemma per field and update, so that no later
proof unfolds a record update. -/

namespace Sys2Proof.Machine

@[simp] theorem State.blk_mk (q : List Instr) (n : Node) : (State.mk q n).blk = n.b := rfl
@[simp] theorem State.withBlk_blk (s : State) (b : Blk) : (s.withBlk b).blk = b := rfl
@[simp] theorem State.withBlk_b (s : State) (b : Blk) : (s.withBlk b).node.b = b := rfl
@[simp] theorem State.withBlk_otp (s : State) (b : Blk) : (s.withBlk b).node.otp = s.node.otp := rfl
@[simp] theorem State.withBlk_pending (s : State) (b : Blk) : (s.withBlk b).pending = s.pending := rfl
@[simp] theorem State.withBlk_withBlk (s : State) (b b' : Blk) : (s.withBlk b).withBlk b' = s.withBlk b' := rfl
@[simp] theorem State.withBlk_self (s : State) : s.withBlk s.blk = s := rfl
@[simp] theorem Node.on_b (n : Node) (f : Blk → Blk) : (n.on f).b = f n.b := rfl
@[simp] theorem Node.on_otp (n : Node) (f : Blk → Blk) : (n.on f).otp = n.otp := rfl
@[simp] theorem Blk.when_true (b : Blk) (f : Blk → Blk) : b.when true f = f b := rfl
@[simp] theorem Blk.when_false (b : Blk) (f : Blk → Blk) : b.when false f = b := rfl
@[simp] theorem Blk.each_nil {α : Type} (b : Blk) (f : Blk → α → Blk) : b.each [] f = b := rfl
@[simp] theorem Blk.each_cons {α : Type} (b : Blk) (i : α) (l : List α) (f : Blk → α → Blk) : b.each (i :: l) f = (f b i).each l f :=
  rfl
@[simp] theorem Blk.free_fresh (b : Blk) (w : Nat) : (b.free w).2 = { b with fresh := b.fresh + 1 } := rfl
@[simp] theorem Blk.emit_sent (b : Blk) (e : OutEvent) : (b.emit e).sent = b.sent ++ [e] := rfl
@[simp] theorem Blk.report_reports (b : Blk) (c p : Nat) : (b.report c p).reports = b.reports ++ [⟨c, p, false, 0xFF⟩] := rfl

/-! ### setWord -/

@[simp] theorem Blk.setWord_unit (b : Blk) (k : Nat) (v : Word) : (b.setWord k v).unit = b.unit := rfl
@[simp] theorem Blk.setWord_shadow (b : Blk) (k : Nat) (v : Word) : (b.setWord k v).shadow = b.shadow := rfl
@[simp] theorem Blk.setWord_hold (b : Blk) (k : Nat) (v : Word) : (b.setWord k v).hold = b.hold := rfl
@[simp] theorem Blk.setWord_stage (b : Blk) (k : Nat) (v : Word) : (b.setWord k v).stage = b.stage := rfl
@[simp] theorem Blk.setWord_pages (b : Blk) (k : Nat) (v : Word) : (b.setWord k v).pages = b.pages := rfl
@[simp] theorem Blk.setWord_locked (b : Blk) (k : Nat) (v : Word) : (b.setWord k v).locked = b.locked := rfl
@[simp] theorem Blk.setWord_domOn (b : Blk) (k : Nat) (v : Word) : (b.setWord k v).domOn = b.domOn := rfl
@[simp] theorem Blk.setWord_ep (b : Blk) (k : Nat) (v : Word) : (b.setWord k v).ep = b.ep := rfl
@[simp] theorem Blk.setWord_sen (b : Blk) (k : Nat) (v : Word) : (b.setWord k v).sen = b.sen := rfl
@[simp] theorem Blk.setWord_cam (b : Blk) (k : Nat) (v : Word) : (b.setWord k v).cam = b.cam := rfl
@[simp] theorem Blk.setWord_isp (b : Blk) (k : Nat) (v : Word) : (b.setWord k v).isp = b.isp := rfl
@[simp] theorem Blk.setWord_tiles (b : Blk) (k : Nat) (v : Word) : (b.setWord k v).tiles = b.tiles := rfl
@[simp] theorem Blk.setWord_spm (b : Blk) (k : Nat) (v : Word) : (b.setWord k v).spm = b.spm := rfl
@[simp] theorem Blk.setWord_bulk (b : Blk) (k : Nat) (v : Word) : (b.setWord k v).bulk = b.bulk := rfl
@[simp] theorem Blk.setWord_flash (b : Blk) (k : Nat) (v : Word) : (b.setWord k v).flash = b.flash := rfl
@[simp] theorem Blk.setWord_mover (b : Blk) (k : Nat) (v : Word) : (b.setWord k v).mover = b.mover := rfl
@[simp] theorem Blk.setWord_moverTurn (b : Blk) (k : Nat) (v : Word) : (b.setWord k v).moverTurn = b.moverTurn := rfl
@[simp] theorem Blk.setWord_pack (b : Blk) (k : Nat) (v : Word) : (b.setWord k v).pack = b.pack := rfl
@[simp] theorem Blk.setWord_ports (b : Blk) (k : Nat) (v : Word) : (b.setWord k v).ports = b.ports := rfl
@[simp] theorem Blk.setWord_route (b : Blk) (k : Nat) (v : Word) : (b.setWord k v).route = b.route := rfl
@[simp] theorem Blk.setWord_fab (b : Blk) (k : Nat) (v : Word) : (b.setWord k v).fab = b.fab := rfl
@[simp] theorem Blk.setWord_sched (b : Blk) (k : Nat) (v : Word) : (b.setWord k v).sched = b.sched := rfl
@[simp] theorem Blk.setWord_fleet (b : Blk) (k : Nat) (v : Word) : (b.setWord k v).fleet = b.fleet := rfl
@[simp] theorem Blk.setWord_search (b : Blk) (k : Nat) (v : Word) : (b.setWord k v).search = b.search := rfl
@[simp] theorem Blk.setWord_client (b : Blk) (k : Nat) (v : Word) : (b.setWord k v).client = b.client := rfl
@[simp] theorem Blk.setWord_journal (b : Blk) (k : Nat) (v : Word) : (b.setWord k v).journal = b.journal := rfl
@[simp] theorem Blk.setWord_cans (b : Blk) (k : Nat) (v : Word) : (b.setWord k v).cans = b.cans := rfl
@[simp] theorem Blk.setWord_macs (b : Blk) (k : Nat) (v : Word) : (b.setWord k v).macs = b.macs := rfl
@[simp] theorem Blk.setWord_power (b : Blk) (k : Nat) (v : Word) : (b.setWord k v).power = b.power := rfl
@[simp] theorem Blk.setWord_oasis (b : Blk) (k : Nat) (v : Word) : (b.setWord k v).oasis = b.oasis := rfl
@[simp] theorem Blk.setWord_tally (b : Blk) (k : Nat) (v : Word) : (b.setWord k v).tally = b.tally := rfl
@[simp] theorem Blk.setWord_cores (b : Blk) (k : Nat) (v : Word) : (b.setWord k v).cores = b.cores := rfl
@[simp] theorem Blk.setWord_fuse (b : Blk) (k : Nat) (v : Word) : (b.setWord k v).fuse = b.fuse := rfl
@[simp] theorem Blk.setWord_safe (b : Blk) (k : Nat) (v : Word) : (b.setWord k v).safe = b.safe := rfl
@[simp] theorem Blk.setWord_reports (b : Blk) (k : Nat) (v : Word) : (b.setWord k v).reports = b.reports := rfl
@[simp] theorem Blk.setWord_sent (b : Blk) (k : Nat) (v : Word) : (b.setWord k v).sent = b.sent := rfl
@[simp] theorem Blk.setWord_fresh (b : Blk) (k : Nat) (v : Word) : (b.setWord k v).fresh = b.fresh := rfl

/-! ### set -/

@[simp] theorem Blk.set_unit (b : Blk) (f : Fld) (v : Nat) : (b.set f v).unit = b.unit := rfl
@[simp] theorem Blk.set_shadow (b : Blk) (f : Fld) (v : Nat) : (b.set f v).shadow = b.shadow := rfl
@[simp] theorem Blk.set_hold (b : Blk) (f : Fld) (v : Nat) : (b.set f v).hold = b.hold := rfl
@[simp] theorem Blk.set_stage (b : Blk) (f : Fld) (v : Nat) : (b.set f v).stage = b.stage := rfl
@[simp] theorem Blk.set_pages (b : Blk) (f : Fld) (v : Nat) : (b.set f v).pages = b.pages := rfl
@[simp] theorem Blk.set_locked (b : Blk) (f : Fld) (v : Nat) : (b.set f v).locked = b.locked := rfl
@[simp] theorem Blk.set_domOn (b : Blk) (f : Fld) (v : Nat) : (b.set f v).domOn = b.domOn := rfl
@[simp] theorem Blk.set_ep (b : Blk) (f : Fld) (v : Nat) : (b.set f v).ep = b.ep := rfl
@[simp] theorem Blk.set_sen (b : Blk) (f : Fld) (v : Nat) : (b.set f v).sen = b.sen := rfl
@[simp] theorem Blk.set_cam (b : Blk) (f : Fld) (v : Nat) : (b.set f v).cam = b.cam := rfl
@[simp] theorem Blk.set_isp (b : Blk) (f : Fld) (v : Nat) : (b.set f v).isp = b.isp := rfl
@[simp] theorem Blk.set_tiles (b : Blk) (f : Fld) (v : Nat) : (b.set f v).tiles = b.tiles := rfl
@[simp] theorem Blk.set_spm (b : Blk) (f : Fld) (v : Nat) : (b.set f v).spm = b.spm := rfl
@[simp] theorem Blk.set_bulk (b : Blk) (f : Fld) (v : Nat) : (b.set f v).bulk = b.bulk := rfl
@[simp] theorem Blk.set_flash (b : Blk) (f : Fld) (v : Nat) : (b.set f v).flash = b.flash := rfl
@[simp] theorem Blk.set_mover (b : Blk) (f : Fld) (v : Nat) : (b.set f v).mover = b.mover := rfl
@[simp] theorem Blk.set_moverTurn (b : Blk) (f : Fld) (v : Nat) : (b.set f v).moverTurn = b.moverTurn := rfl
@[simp] theorem Blk.set_pack (b : Blk) (f : Fld) (v : Nat) : (b.set f v).pack = b.pack := rfl
@[simp] theorem Blk.set_ports (b : Blk) (f : Fld) (v : Nat) : (b.set f v).ports = b.ports := rfl
@[simp] theorem Blk.set_route (b : Blk) (f : Fld) (v : Nat) : (b.set f v).route = b.route := rfl
@[simp] theorem Blk.set_fab (b : Blk) (f : Fld) (v : Nat) : (b.set f v).fab = b.fab := rfl
@[simp] theorem Blk.set_sched (b : Blk) (f : Fld) (v : Nat) : (b.set f v).sched = b.sched := rfl
@[simp] theorem Blk.set_fleet (b : Blk) (f : Fld) (v : Nat) : (b.set f v).fleet = b.fleet := rfl
@[simp] theorem Blk.set_search (b : Blk) (f : Fld) (v : Nat) : (b.set f v).search = b.search := rfl
@[simp] theorem Blk.set_client (b : Blk) (f : Fld) (v : Nat) : (b.set f v).client = b.client := rfl
@[simp] theorem Blk.set_journal (b : Blk) (f : Fld) (v : Nat) : (b.set f v).journal = b.journal := rfl
@[simp] theorem Blk.set_cans (b : Blk) (f : Fld) (v : Nat) : (b.set f v).cans = b.cans := rfl
@[simp] theorem Blk.set_macs (b : Blk) (f : Fld) (v : Nat) : (b.set f v).macs = b.macs := rfl
@[simp] theorem Blk.set_power (b : Blk) (f : Fld) (v : Nat) : (b.set f v).power = b.power := rfl
@[simp] theorem Blk.set_oasis (b : Blk) (f : Fld) (v : Nat) : (b.set f v).oasis = b.oasis := rfl
@[simp] theorem Blk.set_tally (b : Blk) (f : Fld) (v : Nat) : (b.set f v).tally = b.tally := rfl
@[simp] theorem Blk.set_cores (b : Blk) (f : Fld) (v : Nat) : (b.set f v).cores = b.cores := rfl
@[simp] theorem Blk.set_fuse (b : Blk) (f : Fld) (v : Nat) : (b.set f v).fuse = b.fuse := rfl
@[simp] theorem Blk.set_safe (b : Blk) (f : Fld) (v : Nat) : (b.set f v).safe = b.safe := rfl
@[simp] theorem Blk.set_reports (b : Blk) (f : Fld) (v : Nat) : (b.set f v).reports = b.reports := rfl
@[simp] theorem Blk.set_sent (b : Blk) (f : Fld) (v : Nat) : (b.set f v).sent = b.sent := rfl
@[simp] theorem Blk.set_fresh (b : Blk) (f : Fld) (v : Nat) : (b.set f v).fresh = b.fresh := rfl

/-! ### conf -/

@[simp] theorem Blk.conf_unit (b : Blk) (f : Fld) (v : Nat) : (b.conf f v).unit = b.unit := rfl
@[simp] theorem Blk.conf_shadow (b : Blk) (f : Fld) (v : Nat) : (b.conf f v).shadow = b.shadow := rfl
@[simp] theorem Blk.conf_hold (b : Blk) (f : Fld) (v : Nat) : (b.conf f v).hold = b.hold := rfl
@[simp] theorem Blk.conf_stage (b : Blk) (f : Fld) (v : Nat) : (b.conf f v).stage = b.stage := rfl
@[simp] theorem Blk.conf_locked (b : Blk) (f : Fld) (v : Nat) : (b.conf f v).locked = b.locked := rfl
@[simp] theorem Blk.conf_domOn (b : Blk) (f : Fld) (v : Nat) : (b.conf f v).domOn = b.domOn := rfl
@[simp] theorem Blk.conf_ep (b : Blk) (f : Fld) (v : Nat) : (b.conf f v).ep = b.ep := rfl
@[simp] theorem Blk.conf_sen (b : Blk) (f : Fld) (v : Nat) : (b.conf f v).sen = b.sen := rfl
@[simp] theorem Blk.conf_cam (b : Blk) (f : Fld) (v : Nat) : (b.conf f v).cam = b.cam := rfl
@[simp] theorem Blk.conf_isp (b : Blk) (f : Fld) (v : Nat) : (b.conf f v).isp = b.isp := rfl
@[simp] theorem Blk.conf_tiles (b : Blk) (f : Fld) (v : Nat) : (b.conf f v).tiles = b.tiles := rfl
@[simp] theorem Blk.conf_spm (b : Blk) (f : Fld) (v : Nat) : (b.conf f v).spm = b.spm := rfl
@[simp] theorem Blk.conf_bulk (b : Blk) (f : Fld) (v : Nat) : (b.conf f v).bulk = b.bulk := rfl
@[simp] theorem Blk.conf_flash (b : Blk) (f : Fld) (v : Nat) : (b.conf f v).flash = b.flash := rfl
@[simp] theorem Blk.conf_mover (b : Blk) (f : Fld) (v : Nat) : (b.conf f v).mover = b.mover := rfl
@[simp] theorem Blk.conf_moverTurn (b : Blk) (f : Fld) (v : Nat) : (b.conf f v).moverTurn = b.moverTurn := rfl
@[simp] theorem Blk.conf_pack (b : Blk) (f : Fld) (v : Nat) : (b.conf f v).pack = b.pack := rfl
@[simp] theorem Blk.conf_ports (b : Blk) (f : Fld) (v : Nat) : (b.conf f v).ports = b.ports := rfl
@[simp] theorem Blk.conf_route (b : Blk) (f : Fld) (v : Nat) : (b.conf f v).route = b.route := rfl
@[simp] theorem Blk.conf_fab (b : Blk) (f : Fld) (v : Nat) : (b.conf f v).fab = b.fab := rfl
@[simp] theorem Blk.conf_sched (b : Blk) (f : Fld) (v : Nat) : (b.conf f v).sched = b.sched := rfl
@[simp] theorem Blk.conf_fleet (b : Blk) (f : Fld) (v : Nat) : (b.conf f v).fleet = b.fleet := rfl
@[simp] theorem Blk.conf_search (b : Blk) (f : Fld) (v : Nat) : (b.conf f v).search = b.search := rfl
@[simp] theorem Blk.conf_client (b : Blk) (f : Fld) (v : Nat) : (b.conf f v).client = b.client := rfl
@[simp] theorem Blk.conf_journal (b : Blk) (f : Fld) (v : Nat) : (b.conf f v).journal = b.journal := rfl
@[simp] theorem Blk.conf_cans (b : Blk) (f : Fld) (v : Nat) : (b.conf f v).cans = b.cans := rfl
@[simp] theorem Blk.conf_macs (b : Blk) (f : Fld) (v : Nat) : (b.conf f v).macs = b.macs := rfl
@[simp] theorem Blk.conf_power (b : Blk) (f : Fld) (v : Nat) : (b.conf f v).power = b.power := rfl
@[simp] theorem Blk.conf_oasis (b : Blk) (f : Fld) (v : Nat) : (b.conf f v).oasis = b.oasis := rfl
@[simp] theorem Blk.conf_tally (b : Blk) (f : Fld) (v : Nat) : (b.conf f v).tally = b.tally := rfl
@[simp] theorem Blk.conf_cores (b : Blk) (f : Fld) (v : Nat) : (b.conf f v).cores = b.cores := rfl
@[simp] theorem Blk.conf_fuse (b : Blk) (f : Fld) (v : Nat) : (b.conf f v).fuse = b.fuse := rfl
@[simp] theorem Blk.conf_safe (b : Blk) (f : Fld) (v : Nat) : (b.conf f v).safe = b.safe := rfl
@[simp] theorem Blk.conf_reports (b : Blk) (f : Fld) (v : Nat) : (b.conf f v).reports = b.reports := rfl
@[simp] theorem Blk.conf_sent (b : Blk) (f : Fld) (v : Nat) : (b.conf f v).sent = b.sent := rfl
@[simp] theorem Blk.conf_fresh (b : Blk) (f : Fld) (v : Nat) : (b.conf f v).fresh = b.fresh := rfl
@[simp] theorem Blk.conf_regs (b : Blk) (f : Fld) (v : Nat) : (b.conf f v).regs = (b.set f v).regs := rfl
@[simp] theorem Blk.conf_word (b : Blk) (f : Fld) (v : Nat) (j : Nat) : (b.conf f v).word j = (b.set f v).word j := rfl
@[simp] theorem Blk.conf_get (b : Blk) (f : Fld) (v : Nat) (g : Fld) : (b.conf f v).get g = (b.set f v).get g := rfl
@[simp] theorem Blk.conf_flag (b : Blk) (f : Fld) (v : Nat) (g : Fld) : (b.conf f v).flag g = (b.set f v).flag g := rfl

/-! ### raise -/

@[simp] theorem Blk.raise_unit (b : Blk) (f : Fld) : (b.raise f).unit = b.unit := rfl
@[simp] theorem Blk.raise_shadow (b : Blk) (f : Fld) : (b.raise f).shadow = b.shadow := rfl
@[simp] theorem Blk.raise_hold (b : Blk) (f : Fld) : (b.raise f).hold = b.hold := rfl
@[simp] theorem Blk.raise_stage (b : Blk) (f : Fld) : (b.raise f).stage = b.stage := rfl
@[simp] theorem Blk.raise_pages (b : Blk) (f : Fld) : (b.raise f).pages = b.pages := rfl
@[simp] theorem Blk.raise_locked (b : Blk) (f : Fld) : (b.raise f).locked = b.locked := rfl
@[simp] theorem Blk.raise_domOn (b : Blk) (f : Fld) : (b.raise f).domOn = b.domOn := rfl
@[simp] theorem Blk.raise_ep (b : Blk) (f : Fld) : (b.raise f).ep = b.ep := rfl
@[simp] theorem Blk.raise_sen (b : Blk) (f : Fld) : (b.raise f).sen = b.sen := rfl
@[simp] theorem Blk.raise_cam (b : Blk) (f : Fld) : (b.raise f).cam = b.cam := rfl
@[simp] theorem Blk.raise_isp (b : Blk) (f : Fld) : (b.raise f).isp = b.isp := rfl
@[simp] theorem Blk.raise_tiles (b : Blk) (f : Fld) : (b.raise f).tiles = b.tiles := rfl
@[simp] theorem Blk.raise_spm (b : Blk) (f : Fld) : (b.raise f).spm = b.spm := rfl
@[simp] theorem Blk.raise_bulk (b : Blk) (f : Fld) : (b.raise f).bulk = b.bulk := rfl
@[simp] theorem Blk.raise_flash (b : Blk) (f : Fld) : (b.raise f).flash = b.flash := rfl
@[simp] theorem Blk.raise_mover (b : Blk) (f : Fld) : (b.raise f).mover = b.mover := rfl
@[simp] theorem Blk.raise_moverTurn (b : Blk) (f : Fld) : (b.raise f).moverTurn = b.moverTurn := rfl
@[simp] theorem Blk.raise_pack (b : Blk) (f : Fld) : (b.raise f).pack = b.pack := rfl
@[simp] theorem Blk.raise_ports (b : Blk) (f : Fld) : (b.raise f).ports = b.ports := rfl
@[simp] theorem Blk.raise_route (b : Blk) (f : Fld) : (b.raise f).route = b.route := rfl
@[simp] theorem Blk.raise_fab (b : Blk) (f : Fld) : (b.raise f).fab = b.fab := rfl
@[simp] theorem Blk.raise_sched (b : Blk) (f : Fld) : (b.raise f).sched = b.sched := rfl
@[simp] theorem Blk.raise_fleet (b : Blk) (f : Fld) : (b.raise f).fleet = b.fleet := rfl
@[simp] theorem Blk.raise_search (b : Blk) (f : Fld) : (b.raise f).search = b.search := rfl
@[simp] theorem Blk.raise_client (b : Blk) (f : Fld) : (b.raise f).client = b.client := rfl
@[simp] theorem Blk.raise_journal (b : Blk) (f : Fld) : (b.raise f).journal = b.journal := rfl
@[simp] theorem Blk.raise_cans (b : Blk) (f : Fld) : (b.raise f).cans = b.cans := rfl
@[simp] theorem Blk.raise_macs (b : Blk) (f : Fld) : (b.raise f).macs = b.macs := rfl
@[simp] theorem Blk.raise_power (b : Blk) (f : Fld) : (b.raise f).power = b.power := rfl
@[simp] theorem Blk.raise_oasis (b : Blk) (f : Fld) : (b.raise f).oasis = b.oasis := rfl
@[simp] theorem Blk.raise_tally (b : Blk) (f : Fld) : (b.raise f).tally = b.tally := rfl
@[simp] theorem Blk.raise_cores (b : Blk) (f : Fld) : (b.raise f).cores = b.cores := rfl
@[simp] theorem Blk.raise_fuse (b : Blk) (f : Fld) : (b.raise f).fuse = b.fuse := rfl
@[simp] theorem Blk.raise_safe (b : Blk) (f : Fld) : (b.raise f).safe = b.safe := rfl
@[simp] theorem Blk.raise_reports (b : Blk) (f : Fld) : (b.raise f).reports = b.reports := rfl
@[simp] theorem Blk.raise_sent (b : Blk) (f : Fld) : (b.raise f).sent = b.sent := rfl
@[simp] theorem Blk.raise_fresh (b : Blk) (f : Fld) : (b.raise f).fresh = b.fresh := rfl

/-! ### bump -/

@[simp] theorem Blk.bump_unit (b : Blk) (f : Fld) : (b.bump f).unit = b.unit := rfl
@[simp] theorem Blk.bump_shadow (b : Blk) (f : Fld) : (b.bump f).shadow = b.shadow := rfl
@[simp] theorem Blk.bump_hold (b : Blk) (f : Fld) : (b.bump f).hold = b.hold := rfl
@[simp] theorem Blk.bump_stage (b : Blk) (f : Fld) : (b.bump f).stage = b.stage := rfl
@[simp] theorem Blk.bump_pages (b : Blk) (f : Fld) : (b.bump f).pages = b.pages := rfl
@[simp] theorem Blk.bump_locked (b : Blk) (f : Fld) : (b.bump f).locked = b.locked := rfl
@[simp] theorem Blk.bump_domOn (b : Blk) (f : Fld) : (b.bump f).domOn = b.domOn := rfl
@[simp] theorem Blk.bump_ep (b : Blk) (f : Fld) : (b.bump f).ep = b.ep := rfl
@[simp] theorem Blk.bump_sen (b : Blk) (f : Fld) : (b.bump f).sen = b.sen := rfl
@[simp] theorem Blk.bump_cam (b : Blk) (f : Fld) : (b.bump f).cam = b.cam := rfl
@[simp] theorem Blk.bump_isp (b : Blk) (f : Fld) : (b.bump f).isp = b.isp := rfl
@[simp] theorem Blk.bump_tiles (b : Blk) (f : Fld) : (b.bump f).tiles = b.tiles := rfl
@[simp] theorem Blk.bump_spm (b : Blk) (f : Fld) : (b.bump f).spm = b.spm := rfl
@[simp] theorem Blk.bump_bulk (b : Blk) (f : Fld) : (b.bump f).bulk = b.bulk := rfl
@[simp] theorem Blk.bump_flash (b : Blk) (f : Fld) : (b.bump f).flash = b.flash := rfl
@[simp] theorem Blk.bump_mover (b : Blk) (f : Fld) : (b.bump f).mover = b.mover := rfl
@[simp] theorem Blk.bump_moverTurn (b : Blk) (f : Fld) : (b.bump f).moverTurn = b.moverTurn := rfl
@[simp] theorem Blk.bump_pack (b : Blk) (f : Fld) : (b.bump f).pack = b.pack := rfl
@[simp] theorem Blk.bump_ports (b : Blk) (f : Fld) : (b.bump f).ports = b.ports := rfl
@[simp] theorem Blk.bump_route (b : Blk) (f : Fld) : (b.bump f).route = b.route := rfl
@[simp] theorem Blk.bump_fab (b : Blk) (f : Fld) : (b.bump f).fab = b.fab := rfl
@[simp] theorem Blk.bump_sched (b : Blk) (f : Fld) : (b.bump f).sched = b.sched := rfl
@[simp] theorem Blk.bump_fleet (b : Blk) (f : Fld) : (b.bump f).fleet = b.fleet := rfl
@[simp] theorem Blk.bump_search (b : Blk) (f : Fld) : (b.bump f).search = b.search := rfl
@[simp] theorem Blk.bump_client (b : Blk) (f : Fld) : (b.bump f).client = b.client := rfl
@[simp] theorem Blk.bump_journal (b : Blk) (f : Fld) : (b.bump f).journal = b.journal := rfl
@[simp] theorem Blk.bump_cans (b : Blk) (f : Fld) : (b.bump f).cans = b.cans := rfl
@[simp] theorem Blk.bump_macs (b : Blk) (f : Fld) : (b.bump f).macs = b.macs := rfl
@[simp] theorem Blk.bump_power (b : Blk) (f : Fld) : (b.bump f).power = b.power := rfl
@[simp] theorem Blk.bump_oasis (b : Blk) (f : Fld) : (b.bump f).oasis = b.oasis := rfl
@[simp] theorem Blk.bump_tally (b : Blk) (f : Fld) : (b.bump f).tally = b.tally := rfl
@[simp] theorem Blk.bump_cores (b : Blk) (f : Fld) : (b.bump f).cores = b.cores := rfl
@[simp] theorem Blk.bump_fuse (b : Blk) (f : Fld) : (b.bump f).fuse = b.fuse := rfl
@[simp] theorem Blk.bump_safe (b : Blk) (f : Fld) : (b.bump f).safe = b.safe := rfl
@[simp] theorem Blk.bump_reports (b : Blk) (f : Fld) : (b.bump f).reports = b.reports := rfl
@[simp] theorem Blk.bump_sent (b : Blk) (f : Fld) : (b.bump f).sent = b.sent := rfl
@[simp] theorem Blk.bump_fresh (b : Blk) (f : Fld) : (b.bump f).fresh = b.fresh := rfl

/-! ### bumpSat -/

@[simp] theorem Blk.bumpSat_unit (b : Blk) (f : Fld) : (b.bumpSat f).unit = b.unit := rfl
@[simp] theorem Blk.bumpSat_shadow (b : Blk) (f : Fld) : (b.bumpSat f).shadow = b.shadow := rfl
@[simp] theorem Blk.bumpSat_hold (b : Blk) (f : Fld) : (b.bumpSat f).hold = b.hold := rfl
@[simp] theorem Blk.bumpSat_stage (b : Blk) (f : Fld) : (b.bumpSat f).stage = b.stage := rfl
@[simp] theorem Blk.bumpSat_pages (b : Blk) (f : Fld) : (b.bumpSat f).pages = b.pages := rfl
@[simp] theorem Blk.bumpSat_locked (b : Blk) (f : Fld) : (b.bumpSat f).locked = b.locked := rfl
@[simp] theorem Blk.bumpSat_domOn (b : Blk) (f : Fld) : (b.bumpSat f).domOn = b.domOn := rfl
@[simp] theorem Blk.bumpSat_ep (b : Blk) (f : Fld) : (b.bumpSat f).ep = b.ep := rfl
@[simp] theorem Blk.bumpSat_sen (b : Blk) (f : Fld) : (b.bumpSat f).sen = b.sen := rfl
@[simp] theorem Blk.bumpSat_cam (b : Blk) (f : Fld) : (b.bumpSat f).cam = b.cam := rfl
@[simp] theorem Blk.bumpSat_isp (b : Blk) (f : Fld) : (b.bumpSat f).isp = b.isp := rfl
@[simp] theorem Blk.bumpSat_tiles (b : Blk) (f : Fld) : (b.bumpSat f).tiles = b.tiles := rfl
@[simp] theorem Blk.bumpSat_spm (b : Blk) (f : Fld) : (b.bumpSat f).spm = b.spm := rfl
@[simp] theorem Blk.bumpSat_bulk (b : Blk) (f : Fld) : (b.bumpSat f).bulk = b.bulk := rfl
@[simp] theorem Blk.bumpSat_flash (b : Blk) (f : Fld) : (b.bumpSat f).flash = b.flash := rfl
@[simp] theorem Blk.bumpSat_mover (b : Blk) (f : Fld) : (b.bumpSat f).mover = b.mover := rfl
@[simp] theorem Blk.bumpSat_moverTurn (b : Blk) (f : Fld) : (b.bumpSat f).moverTurn = b.moverTurn := rfl
@[simp] theorem Blk.bumpSat_pack (b : Blk) (f : Fld) : (b.bumpSat f).pack = b.pack := rfl
@[simp] theorem Blk.bumpSat_ports (b : Blk) (f : Fld) : (b.bumpSat f).ports = b.ports := rfl
@[simp] theorem Blk.bumpSat_route (b : Blk) (f : Fld) : (b.bumpSat f).route = b.route := rfl
@[simp] theorem Blk.bumpSat_fab (b : Blk) (f : Fld) : (b.bumpSat f).fab = b.fab := rfl
@[simp] theorem Blk.bumpSat_sched (b : Blk) (f : Fld) : (b.bumpSat f).sched = b.sched := rfl
@[simp] theorem Blk.bumpSat_fleet (b : Blk) (f : Fld) : (b.bumpSat f).fleet = b.fleet := rfl
@[simp] theorem Blk.bumpSat_search (b : Blk) (f : Fld) : (b.bumpSat f).search = b.search := rfl
@[simp] theorem Blk.bumpSat_client (b : Blk) (f : Fld) : (b.bumpSat f).client = b.client := rfl
@[simp] theorem Blk.bumpSat_journal (b : Blk) (f : Fld) : (b.bumpSat f).journal = b.journal := rfl
@[simp] theorem Blk.bumpSat_cans (b : Blk) (f : Fld) : (b.bumpSat f).cans = b.cans := rfl
@[simp] theorem Blk.bumpSat_macs (b : Blk) (f : Fld) : (b.bumpSat f).macs = b.macs := rfl
@[simp] theorem Blk.bumpSat_power (b : Blk) (f : Fld) : (b.bumpSat f).power = b.power := rfl
@[simp] theorem Blk.bumpSat_oasis (b : Blk) (f : Fld) : (b.bumpSat f).oasis = b.oasis := rfl
@[simp] theorem Blk.bumpSat_tally (b : Blk) (f : Fld) : (b.bumpSat f).tally = b.tally := rfl
@[simp] theorem Blk.bumpSat_cores (b : Blk) (f : Fld) : (b.bumpSat f).cores = b.cores := rfl
@[simp] theorem Blk.bumpSat_fuse (b : Blk) (f : Fld) : (b.bumpSat f).fuse = b.fuse := rfl
@[simp] theorem Blk.bumpSat_safe (b : Blk) (f : Fld) : (b.bumpSat f).safe = b.safe := rfl
@[simp] theorem Blk.bumpSat_reports (b : Blk) (f : Fld) : (b.bumpSat f).reports = b.reports := rfl
@[simp] theorem Blk.bumpSat_sent (b : Blk) (f : Fld) : (b.bumpSat f).sent = b.sent := rfl
@[simp] theorem Blk.bumpSat_fresh (b : Blk) (f : Fld) : (b.bumpSat f).fresh = b.fresh := rfl

/-! ### emit -/

@[simp] theorem Blk.emit_unit (b : Blk) (e : OutEvent) : (b.emit e).unit = b.unit := rfl
@[simp] theorem Blk.emit_regs (b : Blk) (e : OutEvent) : (b.emit e).regs = b.regs := rfl
@[simp] theorem Blk.emit_shadow (b : Blk) (e : OutEvent) : (b.emit e).shadow = b.shadow := rfl
@[simp] theorem Blk.emit_hold (b : Blk) (e : OutEvent) : (b.emit e).hold = b.hold := rfl
@[simp] theorem Blk.emit_stage (b : Blk) (e : OutEvent) : (b.emit e).stage = b.stage := rfl
@[simp] theorem Blk.emit_pages (b : Blk) (e : OutEvent) : (b.emit e).pages = b.pages := rfl
@[simp] theorem Blk.emit_locked (b : Blk) (e : OutEvent) : (b.emit e).locked = b.locked := rfl
@[simp] theorem Blk.emit_domOn (b : Blk) (e : OutEvent) : (b.emit e).domOn = b.domOn := rfl
@[simp] theorem Blk.emit_ep (b : Blk) (e : OutEvent) : (b.emit e).ep = b.ep := rfl
@[simp] theorem Blk.emit_sen (b : Blk) (e : OutEvent) : (b.emit e).sen = b.sen := rfl
@[simp] theorem Blk.emit_cam (b : Blk) (e : OutEvent) : (b.emit e).cam = b.cam := rfl
@[simp] theorem Blk.emit_isp (b : Blk) (e : OutEvent) : (b.emit e).isp = b.isp := rfl
@[simp] theorem Blk.emit_tiles (b : Blk) (e : OutEvent) : (b.emit e).tiles = b.tiles := rfl
@[simp] theorem Blk.emit_spm (b : Blk) (e : OutEvent) : (b.emit e).spm = b.spm := rfl
@[simp] theorem Blk.emit_bulk (b : Blk) (e : OutEvent) : (b.emit e).bulk = b.bulk := rfl
@[simp] theorem Blk.emit_flash (b : Blk) (e : OutEvent) : (b.emit e).flash = b.flash := rfl
@[simp] theorem Blk.emit_mover (b : Blk) (e : OutEvent) : (b.emit e).mover = b.mover := rfl
@[simp] theorem Blk.emit_moverTurn (b : Blk) (e : OutEvent) : (b.emit e).moverTurn = b.moverTurn := rfl
@[simp] theorem Blk.emit_pack (b : Blk) (e : OutEvent) : (b.emit e).pack = b.pack := rfl
@[simp] theorem Blk.emit_ports (b : Blk) (e : OutEvent) : (b.emit e).ports = b.ports := rfl
@[simp] theorem Blk.emit_route (b : Blk) (e : OutEvent) : (b.emit e).route = b.route := rfl
@[simp] theorem Blk.emit_fab (b : Blk) (e : OutEvent) : (b.emit e).fab = b.fab := rfl
@[simp] theorem Blk.emit_sched (b : Blk) (e : OutEvent) : (b.emit e).sched = b.sched := rfl
@[simp] theorem Blk.emit_fleet (b : Blk) (e : OutEvent) : (b.emit e).fleet = b.fleet := rfl
@[simp] theorem Blk.emit_search (b : Blk) (e : OutEvent) : (b.emit e).search = b.search := rfl
@[simp] theorem Blk.emit_client (b : Blk) (e : OutEvent) : (b.emit e).client = b.client := rfl
@[simp] theorem Blk.emit_journal (b : Blk) (e : OutEvent) : (b.emit e).journal = b.journal := rfl
@[simp] theorem Blk.emit_cans (b : Blk) (e : OutEvent) : (b.emit e).cans = b.cans := rfl
@[simp] theorem Blk.emit_macs (b : Blk) (e : OutEvent) : (b.emit e).macs = b.macs := rfl
@[simp] theorem Blk.emit_power (b : Blk) (e : OutEvent) : (b.emit e).power = b.power := rfl
@[simp] theorem Blk.emit_oasis (b : Blk) (e : OutEvent) : (b.emit e).oasis = b.oasis := rfl
@[simp] theorem Blk.emit_tally (b : Blk) (e : OutEvent) : (b.emit e).tally = b.tally := rfl
@[simp] theorem Blk.emit_cores (b : Blk) (e : OutEvent) : (b.emit e).cores = b.cores := rfl
@[simp] theorem Blk.emit_fuse (b : Blk) (e : OutEvent) : (b.emit e).fuse = b.fuse := rfl
@[simp] theorem Blk.emit_safe (b : Blk) (e : OutEvent) : (b.emit e).safe = b.safe := rfl
@[simp] theorem Blk.emit_reports (b : Blk) (e : OutEvent) : (b.emit e).reports = b.reports := rfl
@[simp] theorem Blk.emit_fresh (b : Blk) (e : OutEvent) : (b.emit e).fresh = b.fresh := rfl
@[simp] theorem Blk.emit_word (b : Blk) (e : OutEvent) (j : Nat) : (b.emit e).word j = b.word j := rfl
@[simp] theorem Blk.emit_get (b : Blk) (e : OutEvent) (g : Fld) : (b.emit e).get g = b.get g := rfl
@[simp] theorem Blk.emit_flag (b : Blk) (e : OutEvent) (g : Fld) : (b.emit e).flag g = b.flag g := rfl

/-! ### setPageSt -/

@[simp] theorem Blk.setPageSt_unit (b : Blk) (p : Nat) (x : PageSt) : (b.setPageSt p x).unit = b.unit := rfl
@[simp] theorem Blk.setPageSt_regs (b : Blk) (p : Nat) (x : PageSt) : (b.setPageSt p x).regs = b.regs := rfl
@[simp] theorem Blk.setPageSt_shadow (b : Blk) (p : Nat) (x : PageSt) : (b.setPageSt p x).shadow = b.shadow := rfl
@[simp] theorem Blk.setPageSt_hold (b : Blk) (p : Nat) (x : PageSt) : (b.setPageSt p x).hold = b.hold := rfl
@[simp] theorem Blk.setPageSt_stage (b : Blk) (p : Nat) (x : PageSt) : (b.setPageSt p x).stage = b.stage := rfl
@[simp] theorem Blk.setPageSt_locked (b : Blk) (p : Nat) (x : PageSt) : (b.setPageSt p x).locked = b.locked := rfl
@[simp] theorem Blk.setPageSt_domOn (b : Blk) (p : Nat) (x : PageSt) : (b.setPageSt p x).domOn = b.domOn := rfl
@[simp] theorem Blk.setPageSt_ep (b : Blk) (p : Nat) (x : PageSt) : (b.setPageSt p x).ep = b.ep := rfl
@[simp] theorem Blk.setPageSt_sen (b : Blk) (p : Nat) (x : PageSt) : (b.setPageSt p x).sen = b.sen := rfl
@[simp] theorem Blk.setPageSt_cam (b : Blk) (p : Nat) (x : PageSt) : (b.setPageSt p x).cam = b.cam := rfl
@[simp] theorem Blk.setPageSt_isp (b : Blk) (p : Nat) (x : PageSt) : (b.setPageSt p x).isp = b.isp := rfl
@[simp] theorem Blk.setPageSt_tiles (b : Blk) (p : Nat) (x : PageSt) : (b.setPageSt p x).tiles = b.tiles := rfl
@[simp] theorem Blk.setPageSt_spm (b : Blk) (p : Nat) (x : PageSt) : (b.setPageSt p x).spm = b.spm := rfl
@[simp] theorem Blk.setPageSt_bulk (b : Blk) (p : Nat) (x : PageSt) : (b.setPageSt p x).bulk = b.bulk := rfl
@[simp] theorem Blk.setPageSt_flash (b : Blk) (p : Nat) (x : PageSt) : (b.setPageSt p x).flash = b.flash := rfl
@[simp] theorem Blk.setPageSt_mover (b : Blk) (p : Nat) (x : PageSt) : (b.setPageSt p x).mover = b.mover := rfl
@[simp] theorem Blk.setPageSt_moverTurn (b : Blk) (p : Nat) (x : PageSt) : (b.setPageSt p x).moverTurn = b.moverTurn := rfl
@[simp] theorem Blk.setPageSt_pack (b : Blk) (p : Nat) (x : PageSt) : (b.setPageSt p x).pack = b.pack := rfl
@[simp] theorem Blk.setPageSt_ports (b : Blk) (p : Nat) (x : PageSt) : (b.setPageSt p x).ports = b.ports := rfl
@[simp] theorem Blk.setPageSt_route (b : Blk) (p : Nat) (x : PageSt) : (b.setPageSt p x).route = b.route := rfl
@[simp] theorem Blk.setPageSt_fab (b : Blk) (p : Nat) (x : PageSt) : (b.setPageSt p x).fab = b.fab := rfl
@[simp] theorem Blk.setPageSt_sched (b : Blk) (p : Nat) (x : PageSt) : (b.setPageSt p x).sched = b.sched := rfl
@[simp] theorem Blk.setPageSt_fleet (b : Blk) (p : Nat) (x : PageSt) : (b.setPageSt p x).fleet = b.fleet := rfl
@[simp] theorem Blk.setPageSt_search (b : Blk) (p : Nat) (x : PageSt) : (b.setPageSt p x).search = b.search := rfl
@[simp] theorem Blk.setPageSt_client (b : Blk) (p : Nat) (x : PageSt) : (b.setPageSt p x).client = b.client := rfl
@[simp] theorem Blk.setPageSt_journal (b : Blk) (p : Nat) (x : PageSt) : (b.setPageSt p x).journal = b.journal := rfl
@[simp] theorem Blk.setPageSt_cans (b : Blk) (p : Nat) (x : PageSt) : (b.setPageSt p x).cans = b.cans := rfl
@[simp] theorem Blk.setPageSt_macs (b : Blk) (p : Nat) (x : PageSt) : (b.setPageSt p x).macs = b.macs := rfl
@[simp] theorem Blk.setPageSt_power (b : Blk) (p : Nat) (x : PageSt) : (b.setPageSt p x).power = b.power := rfl
@[simp] theorem Blk.setPageSt_oasis (b : Blk) (p : Nat) (x : PageSt) : (b.setPageSt p x).oasis = b.oasis := rfl
@[simp] theorem Blk.setPageSt_tally (b : Blk) (p : Nat) (x : PageSt) : (b.setPageSt p x).tally = b.tally := rfl
@[simp] theorem Blk.setPageSt_cores (b : Blk) (p : Nat) (x : PageSt) : (b.setPageSt p x).cores = b.cores := rfl
@[simp] theorem Blk.setPageSt_fuse (b : Blk) (p : Nat) (x : PageSt) : (b.setPageSt p x).fuse = b.fuse := rfl
@[simp] theorem Blk.setPageSt_safe (b : Blk) (p : Nat) (x : PageSt) : (b.setPageSt p x).safe = b.safe := rfl
@[simp] theorem Blk.setPageSt_reports (b : Blk) (p : Nat) (x : PageSt) : (b.setPageSt p x).reports = b.reports := rfl
@[simp] theorem Blk.setPageSt_sent (b : Blk) (p : Nat) (x : PageSt) : (b.setPageSt p x).sent = b.sent := rfl
@[simp] theorem Blk.setPageSt_fresh (b : Blk) (p : Nat) (x : PageSt) : (b.setPageSt p x).fresh = b.fresh := rfl
@[simp] theorem Blk.setPageSt_word (b : Blk) (p : Nat) (x : PageSt) (j : Nat) : (b.setPageSt p x).word j = b.word j := rfl
@[simp] theorem Blk.setPageSt_get (b : Blk) (p : Nat) (x : PageSt) (g : Fld) : (b.setPageSt p x).get g = b.get g := rfl
@[simp] theorem Blk.setPageSt_flag (b : Blk) (p : Nat) (x : PageSt) (g : Fld) : (b.setPageSt p x).flag g = b.flag g := rfl

/-! ### report -/

@[simp] theorem Blk.report_unit (b : Blk) (c p : Nat) : (b.report c p).unit = b.unit := rfl
@[simp] theorem Blk.report_regs (b : Blk) (c p : Nat) : (b.report c p).regs = b.regs := rfl
@[simp] theorem Blk.report_shadow (b : Blk) (c p : Nat) : (b.report c p).shadow = b.shadow := rfl
@[simp] theorem Blk.report_hold (b : Blk) (c p : Nat) : (b.report c p).hold = b.hold := rfl
@[simp] theorem Blk.report_stage (b : Blk) (c p : Nat) : (b.report c p).stage = b.stage := rfl
@[simp] theorem Blk.report_pages (b : Blk) (c p : Nat) : (b.report c p).pages = b.pages := rfl
@[simp] theorem Blk.report_locked (b : Blk) (c p : Nat) : (b.report c p).locked = b.locked := rfl
@[simp] theorem Blk.report_domOn (b : Blk) (c p : Nat) : (b.report c p).domOn = b.domOn := rfl
@[simp] theorem Blk.report_ep (b : Blk) (c p : Nat) : (b.report c p).ep = b.ep := rfl
@[simp] theorem Blk.report_sen (b : Blk) (c p : Nat) : (b.report c p).sen = b.sen := rfl
@[simp] theorem Blk.report_cam (b : Blk) (c p : Nat) : (b.report c p).cam = b.cam := rfl
@[simp] theorem Blk.report_isp (b : Blk) (c p : Nat) : (b.report c p).isp = b.isp := rfl
@[simp] theorem Blk.report_tiles (b : Blk) (c p : Nat) : (b.report c p).tiles = b.tiles := rfl
@[simp] theorem Blk.report_spm (b : Blk) (c p : Nat) : (b.report c p).spm = b.spm := rfl
@[simp] theorem Blk.report_bulk (b : Blk) (c p : Nat) : (b.report c p).bulk = b.bulk := rfl
@[simp] theorem Blk.report_flash (b : Blk) (c p : Nat) : (b.report c p).flash = b.flash := rfl
@[simp] theorem Blk.report_mover (b : Blk) (c p : Nat) : (b.report c p).mover = b.mover := rfl
@[simp] theorem Blk.report_moverTurn (b : Blk) (c p : Nat) : (b.report c p).moverTurn = b.moverTurn := rfl
@[simp] theorem Blk.report_pack (b : Blk) (c p : Nat) : (b.report c p).pack = b.pack := rfl
@[simp] theorem Blk.report_ports (b : Blk) (c p : Nat) : (b.report c p).ports = b.ports := rfl
@[simp] theorem Blk.report_route (b : Blk) (c p : Nat) : (b.report c p).route = b.route := rfl
@[simp] theorem Blk.report_fab (b : Blk) (c p : Nat) : (b.report c p).fab = b.fab := rfl
@[simp] theorem Blk.report_sched (b : Blk) (c p : Nat) : (b.report c p).sched = b.sched := rfl
@[simp] theorem Blk.report_fleet (b : Blk) (c p : Nat) : (b.report c p).fleet = b.fleet := rfl
@[simp] theorem Blk.report_search (b : Blk) (c p : Nat) : (b.report c p).search = b.search := rfl
@[simp] theorem Blk.report_client (b : Blk) (c p : Nat) : (b.report c p).client = b.client := rfl
@[simp] theorem Blk.report_journal (b : Blk) (c p : Nat) : (b.report c p).journal = b.journal := rfl
@[simp] theorem Blk.report_cans (b : Blk) (c p : Nat) : (b.report c p).cans = b.cans := rfl
@[simp] theorem Blk.report_macs (b : Blk) (c p : Nat) : (b.report c p).macs = b.macs := rfl
@[simp] theorem Blk.report_power (b : Blk) (c p : Nat) : (b.report c p).power = b.power := rfl
@[simp] theorem Blk.report_oasis (b : Blk) (c p : Nat) : (b.report c p).oasis = b.oasis := rfl
@[simp] theorem Blk.report_tally (b : Blk) (c p : Nat) : (b.report c p).tally = b.tally := rfl
@[simp] theorem Blk.report_cores (b : Blk) (c p : Nat) : (b.report c p).cores = b.cores := rfl
@[simp] theorem Blk.report_fuse (b : Blk) (c p : Nat) : (b.report c p).fuse = b.fuse := rfl
@[simp] theorem Blk.report_safe (b : Blk) (c p : Nat) : (b.report c p).safe = b.safe := rfl
@[simp] theorem Blk.report_sent (b : Blk) (c p : Nat) : (b.report c p).sent = b.sent := rfl
@[simp] theorem Blk.report_fresh (b : Blk) (c p : Nat) : (b.report c p).fresh = b.fresh := rfl
@[simp] theorem Blk.report_word (b : Blk) (c p : Nat) (j : Nat) : (b.report c p).word j = b.word j := rfl
@[simp] theorem Blk.report_get (b : Blk) (c p : Nat) (g : Fld) : (b.report c p).get g = b.get g := rfl
@[simp] theorem Blk.report_flag (b : Blk) (c p : Nat) (g : Fld) : (b.report c p).flag g = b.flag g := rfl

end Sys2Proof.Machine
end

