-- ==== Sys2Proof/Laws/Access.lean ====
section
/-! SUPPORT. Laws/Access.lean: what a register write of a command comes to. -/

namespace Sys2Proof.Machine

/-- A granted write of a register that is no half of a wide pair, no debug window and no register that acts at the node: the
register's own behaviour, then the answer. -/
theorem Node.writeReg_granted (n : Node) (a : Agent) (page off : Nat) (v : Word) (hg : n.b.granted a page off v)
    (hn : nodeWrite page off = false) (hd : n.b.dbgOff page off = false) (hw : (page == Page.SPM && off == 0x04C) = false)
    (hl : isWideLow page off = false) (hh : isWideHigh page off = false) (hf : lifeGate page off v = false) :
    n.writeReg a page off true v = { n with b := (n.b.writeBlock a page off v).answered a page off } := by
  unfold Blk.granted at hg
  simp only [Bool.and_eq_false_iff] at hw
  simp [Node.writeReg, Node.accessWrite, hn, Blk.accessWrite, hg, hd, Blk.writeWord, hl, hh, hf, Blk.answered, Node.on]
  rcases hw with hw | hw <;> simp_all

/-- A refused write: the page's capture of the fault, then the answer with the cause (spec/03 R58). -/
theorem Node.writeReg_refused (n : Node) (a : Agent) (page off : Nat) (word : Bool) (v : Word)
    (hg : n.b.accessCause a page off word true v.toNat ≠ 0) :
    n.writeReg a page off word v =
      n.on (fun b => (b.accessFault a page off (b.accessCause a page off word true v.toNat)).emit
        (.access a page off true (b.accessCause a page off word true v.toNat) 0)) := by
  by_cases hn : nodeWrite page off = true
  · simp [Node.writeReg, Node.accessWrite, hn, hg, Node.on]
  · simp [Node.writeReg, Node.accessWrite, hn, Blk.accessWrite, hg, Node.on]

end Sys2Proof.Machine
end

