-- ==== Sys2Proof/Laws/Act.lean ====
section
/-! SUPPORT. Laws/Act.lean: what the form that every meaning has comes to. -/

namespace Sys2Proof.Machine

/-- A well-formed command acts on the node and on nothing else. -/
theorem State.act_next (s : State) {i : Instr} (f : Node → Node) (h : i.wf = true) :
    s.act i f = .next { s with node := f s.node } := by
  simp [State.act, h]

/-- A command whose operands name no unit of the block stops. -/
theorem State.act_fault (s : State) {i : Instr} (f : Node → Node) (h : i.wf = false) : s.act i f = .fault .noSuchUnit := by
  simp [State.act, h]

/-- Everything a meaning can answer. -/
theorem State.act_cases {s t : State} {i : Instr} {f : Node → Node} (h : s.act i f = .next t) :
    i.wf = true ∧ t.pending = s.pending ∧ t.node = f s.node := by
  unfold State.act at h
  split at h
  · next w => cases h; exact ⟨w, rfl, rfl⟩
  · cases h

/-- A command that acts on the blocks alone: the next state. -/
theorem State.act_on (s : State) {i : Instr} (f : Blk → Blk) (h : i.wf = true) :
    s.act i (fun n => n.on f) = .next (s.withBlk (f s.blk)) := by
  simp [State.act, h, State.withBlk, State.blk, Node.on]

/-- A command that acts completes with what holds of the state it leaves. -/
theorem completes_of_act {s : State} {i : Instr} {f : Node → Node} {P : State → Prop} (e : exec i s = s.act i f) (h : i.wf = true)
    (p : P { s with node := f s.node }) : completes i s P :=
  ⟨_, e.trans (s.act_next f h), rfl, p⟩

/-- A command that acts on the blocks alone keeps the OTP array. -/
theorem State.act_on_otp {s t : State} {i : Instr} {f : Blk → Blk} (h : s.act i (fun n => n.on f) = .next t) : t.node.otp = s.node.otp := by
  rw [(State.act_cases h).2.2, Node.on_otp]

end Sys2Proof.Machine
end

