-- ==== Sys2Proof/Laws/Memory.lean ====
section
/-! SUPPORT. Laws/Memory.lean: the canonical form of the memories: every operation that writes one keeps it, and where each
writes. -/

namespace Sys2Proof.Machine

/-! ### The OTP array -/

/-- An attempt on a word sets bits of the codeword there. -/
@[simp] theorem otpWord_burnBits_same (o : Otp) (w : Nat) (code weak : OtpWord) :
    otpWord (burnBits o w code weak) w = otpWord o w ||| (code &&& ~~~weak) := by
  simp [otpWord, burnBits]

/-- It leaves the other words. -/
theorem otpWord_burnBits_ne (o : Otp) {w v : Nat} (code weak : OtpWord) (h : v ≠ w) :
    otpWord (burnBits o w code weak) v = otpWord o v := by
  simp [otpWord, burnBits, Tbl.get_put_ne _ _ _ h]

theorem wf_burnBits (o : Otp) (w : Nat) (code weak : OtpWord) (h : Tbl.wf (dflt 0) o = true) :
    Tbl.wf (dflt 0) (burnBits o w code weak) = true :=
  Tbl.wf_put _ _ _ _ h

theorem Otp.kept_refl (o : Otp) : Otp.kept o o := fun _ => BitVec.and_self

theorem Otp.kept_trans {a b c : Otp} (h : Otp.kept a b) (k : Otp.kept b c) : Otp.kept a c := by
  intro w
  calc otpWord a w &&& otpWord c w = (otpWord a w &&& otpWord b w) &&& otpWord c w := by rw [h w]
    _ = otpWord a w &&& (otpWord b w &&& otpWord c w) := BitVec.and_assoc _ _ _
    _ = otpWord a w := by rw [k w, h w]

/-- An attempt clears no bit (spec/19 R474). -/
theorem Otp.kept_burnBits (o : Otp) (w : Nat) (code weak : OtpWord) : Otp.kept o (burnBits o w code weak) := by
  intro v
  by_cases h : v = w
  · subst h
    rw [otpWord_burnBits_same]
    ext i
    simp only [BitVec.getElem_and, BitVec.getElem_or]
    cases (otpWord o v)[i] <;> simp
  · rw [otpWord_burnBits_ne o code weak h, BitVec.and_self]

/-! ### Module flash -/

theorem wf_flashPut (b : Blk) (a : Nat) (bs : List Byte) (h : Tbl.wf flashDflt b.flash = true) :
    Tbl.wf flashDflt (b.flashPut a bs).flash = true :=
  Tbl.wf_putMany _ _ _ _ h

theorem wf_eraseFlash (b : Blk) (k : Nat) (h : Tbl.wf flashDflt b.flash = true) :
    Tbl.wf flashDflt (b.eraseFlash k).flash = true := by
  simp only [Blk.eraseFlash]
  exact Tbl.wf_clear _ _ _ h

/-! ### Bulk memory -/

theorem wf_bulkPut (b : Blk) (a : Nat) (bs : List Byte) (h : Tbl.wf bulkDflt b.bulk.bytes = true) :
    Tbl.wf bulkDflt (b.bulkPut a bs).bulk.bytes = true :=
  Tbl.wf_putMany _ _ _ _ h

/-- A byte outside those written is kept. -/
theorem get_bulkPut_outside (b : Blk) (a k : Nat) (bs : List Byte) (h : k < a ∨ a + bs.length ≤ k) :
    Tbl.get bulkDflt (b.bulkPut a bs).bulk.bytes k = Tbl.get bulkDflt b.bulk.bytes k := by
  have : ¬(a ≤ k ∧ k < a + bs.length) := by omega
  simp [Blk.bulkPut, Tbl.get_putMany, this]

/-- A byte written is read back. -/
theorem get_bulkPut_inside (b : Blk) (a i : Nat) (bs : List Byte) (h : i < bs.length) :
    Tbl.get bulkDflt (b.bulkPut a bs).bulk.bytes (a + i) = bs[i] := by
  simp [Blk.bulkPut, Tbl.get_putMany, h]

/-! ### The scratchpads -/

theorem wf_spmPut (b : Blk) (t a : Nat) (bs : List Byte) (h : Tbl.wf (dflt 0) b.spm.bytes = true) :
    Tbl.wf (dflt 0) (b.spmPut t a bs).spm.bytes = true :=
  Tbl.wf_putMany _ _ _ _ h

theorem wf_dropScratch (b : Blk) (t : Nat) (h : Tbl.wf (dflt 0) b.spm.bytes = true) :
    Tbl.wf (dflt 0) (b.dropScratch t).spm.bytes = true := by
  simp only [Blk.dropScratch]
  exact Tbl.wf_clear _ _ _ h

theorem wf_wipeGranule (b : Blk) (t g : Nat) (h : Tbl.wf (dflt 0) b.spm.bytes = true) :
    Tbl.wf (dflt 0) (b.wipeGranule t g).spm.bytes = true := by
  simp only [Blk.wipeGranule]
  exact Tbl.wf_clear _ _ _ h

/-- A byte outside those written is kept. -/
theorem get_spmPut_outside (b : Blk) (t a k : Nat) (bs : List Byte) (h : k < byteKey t a ∨ byteKey t a + bs.length ≤ k) :
    Tbl.get (dflt 0) (b.spmPut t a bs).spm.bytes k = Tbl.get (dflt 0) b.spm.bytes k := by
  have : ¬(byteKey t a ≤ k ∧ k < byteKey t a + bs.length) := by omega
  simp [Blk.spmPut, Tbl.get_putMany, this]

/-! ### All of them -/

set_option maxRecDepth 100000 in
/-- The memories right after reset have their canonical form. -/
theorem memWf_reset : State.reset.node.memWf = true := by decide

end Sys2Proof.Machine
end

