-- ==== Sys2Proof/Tests/Slice0.lean ====
section
/-! SUPPORT. Tests/Slice0.lean: the operand checks on terms in and out of range, the spec's own numbers on single commands, and for
the statements with premises states and operands that meet them. -/

namespace Sys2Proof.Tests

open Sys2Proof.Machine

set_option maxRecDepth 100000
set_option Elab.async false

/-! ### Operands in and out of range -/

def testBeat : Beat := ⟨0, 0, 0, 0, 0, 0, 0, 0, false, false, false, 0, 0⟩
def testPacket : Packet := ⟨0, false, 0, 0, 0, 0, 0, 0, 0, 0, 0, 0, 0, 0, [], 0, 0⟩
def testIcp : IcpMsg := ⟨0, ⟨false, [0], 0⟩, 0, 0, 0, 0, 1, []⟩
def testPlan : Plan := ⟨List.replicate 96 0, [], [], [], []⟩
def testRec : JRecord := ⟨0, false, 0, 0, 0, [], 0, 0, [], ⟨0, 0⟩, ⟨0, 0⟩⟩
def spmRd : SpmAccess := ⟨0, 0, 0, 32, none, .none, .none⟩
def bulkRd : BulkAccess := ⟨1, 0, 32, none⟩
def vecAdd : VectorOp := ⟨0, .add, 1, 0, false, 0, 32, 0, 64, none, false, 0, 0, 0, false, false, false, false⟩

theorem test_wf_epoch_refuses :
    ([.linePeriodStart none none ⟨(List.replicate 3 0), []⟩, .linePeriodStart none none ⟨(List.replicate 4 0), [.spmBit 16 0 0]⟩,
     .linePeriodStart none none ⟨(List.replicate 4 0), [.tagCopy 0 12288 0]⟩, .linePeriodStart none none ⟨(List.replicate 4 0), [.bulkBit 0 529]⟩,
     .beatReceive 4 testBeat 0, .mapBlockBuild ⟨0, 1000000000⟩, .mapNow (.erg 4),
     .frameModeWrite (.erg 4) 0, .roleMasterWrite (.erg 4) true, .syncinEnableWrite (.erg 4), .wideLowRead (.erg 4) 0 0,
     .wideLowRead .hamada 256 0, .wideLowRead .hamada 0 4096, .wideLowWrite (.erg 4) 0 0 0, .wideLowWrite .hamada 256 0 0,
     .wideLowWrite .hamada 0 4096 0, .wideHighWrite (.erg 4) 0 0 0, .wideHighWrite .hamada 256 0 0, .wideHighWrite .hamada 0 4096 0]
      : List Instr).all (fun i => !i.wf) = true := by decide

theorem test_wf_epoch_accepts :
    ([.linePeriodStart none none ⟨(List.replicate 4 0), [.spmBit 15 98303 287, .tagCopy 15 12287 2, .bulkBit 125829119 528]⟩, .syncInEdge ⟨true, 0⟩,
     .beatReceive 0 testBeat 0, .mapBlockBuild ⟨0, 0⟩, .mapNow .hamada,
     .frameModeWrite .hamada 0, .roleMasterWrite .hamada true, .syncinEnableWrite .hamada, .wideLowRead .hamada 0 0,
     .wideLowWrite .hamada 0 0 0, .wideHighWrite .hamada 0 0 0]
      : List Instr).all Instr.wf = true := by decide

theorem test_wf_pages_refuses :
    ([.registerWrite (.erg 4) 0 0 true 0, .registerWrite .hamada 256 0 true 0, .registerWrite .hamada 0 4096 true 0,
     .shadowWrite (.erg 4) 0 0 0, .shadowWrite .hamada 256 0 0, .shadowWrite .hamada 0 4096 0, .shlCoordWrite (.erg 4) 0 0 0,
     .shlCoordWrite .hamada 256 0 0, .shlCoordWrite .hamada 0 4096 0, .shadowHold (.erg 4) 0, .shadowHold .hamada 256,
     .shadowRelease (.erg 4) 0, .shadowRelease .hamada 256, .shadowDiscard (.erg 4) 0, .shadowDiscard .hamada 256,
     .blockEnable (.erg 4) 0 true, .blockEnable .hamada 256 true, .blockFreeze (.erg 4) 0 true, .blockFreeze .hamada 256 true,
     .freezeStop 256, .softReset (.erg 4) 0, .softReset .hamada 256, .softResetDone 256, .errCountClear (.erg 4) 0,
     .errCountClear .hamada 256, .irqClear (.erg 4) 0 0 0, .irqClear .hamada 256 0 0, .irqEnableWrite (.erg 4) 0 0,
     .irqEnableWrite .hamada 256 0, .irqForce (.erg 4) 0 0, .irqForce .hamada 256 0, .errCaptureClear (.erg 4) 0,
     .errCaptureClear .hamada 256, .lockWrite (.erg 4) 0 0, .lockWrite .hamada 256 0, .crcScanVisit 256]
      : List Instr).all (fun i => !i.wf) = true := by decide

theorem test_wf_pages_accepts :
    ([.registerWrite .hamada 0 0 true 0, .shadowWrite .hamada 0 0 0, .shlCoordWrite .hamada 0 0 0, .shadowHold .hamada 0,
     .shadowRelease .hamada 0, .shadowDiscard .hamada 0, .blockEnable .hamada 0 true, .blockFreeze .hamada 0 true, .freezeStop 0,
     .softReset .hamada 0, .softResetDone 0, .errCountClear .hamada 0, .irqClear .hamada 0 0 0, .irqEnableWrite .hamada 0 0,
     .irqForce .hamada 0 0, .errCaptureClear .hamada 0, .lockWrite .hamada 0 0, .crcScanVisit 0]
      : List Instr).all Instr.wf = true := by decide

theorem test_wf_sentinel_refuses :
    ([.sentinelSample (List.replicate 143 0), .sentinelSample (List.replicate 144 256), .patternHoldoffEnd 4,
     .patternRegWrite (.erg 4) 0 0 0, .patternRegWrite .hamada 4 0 0, .patternRegWrite .hamada 0 3 0]
      : List Instr).all (fun i => !i.wf) = true := by decide

theorem test_wf_sentinel_accepts :
    ([.sentinelSample (List.replicate 144 0), .patternHoldoffEnd 0, .patternRegWrite .hamada 0 0 0]
      : List Instr).all Instr.wf = true := by decide

theorem test_wf_camera_refuses :
    ([.csiFrameStart 2 0 0 true, .csiFrameStart 0 16 0 true, .csiFrameStart 0 0 65536 true, .csiFrameEnd 2 0 true,
     .csiFrameEnd 0 16 true, .csiLongPacket 2 0 0 true true [], .csiLongPacket 0 16 0 true true [],
     .csiLongPacket 0 0 64 true true [], .csiOtherPacket 2 0 0 true, .csiOtherPacket 0 16 0 true, .csiOtherPacket 0 0 7 true,
     .csiSotError 2, .lineTimeout 32, .frameTimeout 32, .padLine 32, .ispHoldRelease 36, .ispHoldTimeout 36,
     .ispFrameEnd 36, .descLost 36, .tableDataAccess (.erg 4) (some 0) 0, .tableDataAccess .hamada (some 0) 3]
      : List Instr).all (fun i => !i.wf) = true := by decide

theorem test_wf_camera_accepts :
    ([.csiFrameStart 0 0 0 true, .csiFrameEnd 0 0 true, .csiLongPacket 0 0 0 true true [], .csiOtherPacket 1 15 6 true,
     .csiSotError 0, .lineTimeout 0, .frameTimeout 0, .padLine 0, .ispLineProcess ⟨0, false⟩, .ispHoldRelease 0, .ispHoldTimeout 0,
     .ispFrameEnd 0, .descLost 0, .tableDataAccess .hamada (some 0) 2]
      : List Instr).all Instr.wf = true := by decide

theorem test_wf_tiles_refuses :
    ([.spmAccess { spmRd with tile := 16 }, .spmAccess { spmRd with req := 4 }, .tagOnlyOp 16 0 true [],
     .tagOnlyOp 0 0x4000 true [], .tagWaitRelease 16 0, .tagWaitRelease 0 0x4000, .tagTimeout 16 0, .tagTimeout 0 16,
     .attrWrite (.erg 4) 0 0 0, .attrWrite .hamada 16 0 0, .attrWrite .hamada 0 48 0, .attrWrite .hamada 0 0 4,
     .granuleInitDone 16 0, .granuleInitDone 0 48, .ccGo (.erg 4) 0 true (List.replicate 32 0),
     .ccGo .hamada 16 true (List.replicate 32 0), .ccGo .hamada 0 true [], .ccDone 16, .groupEnd 16, .tileCancel (.erg 4) 0,
     .tileCancel .hamada 16, .tileRelease (.erg 4) 0, .tileRelease .hamada 16, .tileMapOut (.erg 4) 0, .tileMapOut .hamada 16,
     .tileMapIn (.erg 4) 0, .tileMapIn .hamada 16, .tileSelfCheck (.erg 4) 0, .tileSelfCheck .hamada 16, .selfCheckDone 16 true,
     .dbgDataAccess (.erg 4) true 0, .dbgTagWrite (.erg 4) true, .operatorIssue 16 0, .outputRowDone 16 true,
     .vectorOp { vecAdd with tile := 16 }]
      : List Instr).all (fun i => !i.wf) = true := by decide

theorem test_wf_tiles_accepts :
    ([.spmAccess spmRd, .tagOnlyOp 0 0 true [], .tagWaitRelease 0 0, .tagTimeout 0 12, .attrWrite .hamada 0 0 0,
     .granuleInitDone 0 0, .ccGo .hamada 0 true (List.replicate 32 0), .ccDone 0, .groupEnd 0, .tileCancel .hamada 0,
     .tileRelease .hamada 0, .tileMapOut .hamada 0, .tileMapIn .hamada 0, .tileSelfCheck .hamada 0, .selfCheckDone 0 true,
     .dbgDataAccess .hamada true 0, .dbgTagWrite .hamada true, .operatorIssue 0 0, .outputRowDone 0 true, .vectorOp vecAdd]
      : List Instr).all Instr.wf = true := by decide

theorem test_wf_memory_refuses :
    ([.packGo (.erg 4), .expandGo (.erg 4) 0, .expandGo .hamada 16, .moverTailWrite (.erg 4) 0 0, .moverTailWrite .hamada 8 0,
     .moverTailWrite .hamada 0 4096, .moverDescDone 8 [], .moverDescDone 0 [2 ^ 35], .moverResume (.erg 4) 0, .moverResume .hamada 8, .moverSkip (.erg 4) 0,
     .moverSkip .hamada 8, .moverAbort (.erg 4) 0, .moverAbort .hamada 8, .bulkAccess { bulkRd with cls := 0 },
     .bulkAccess { bulkRd with cls := 6 }, .retireLoad (.erg 4),
     .retireForced (.erg 4), .shareWrite (.erg 4) 0, .pageMigrationDone bulkPages]
      : List Instr).all (fun i => !i.wf) = true := by decide

theorem test_wf_memory_accepts :
    ([.packGo .hamada, .expandGo .hamada 0, .moverTailWrite .hamada 0 0, .moverDescDone 7 [2 ^ 35 - 1], .moverResume .hamada 0,
     .moverSkip .hamada 0, .moverAbort .hamada 0, .bulkAccess bulkRd, .bulkScrubStep [], .scrubStep [], .retireLoad .hamada, .retireForced .hamada,
     .shareWrite .hamada 0, .pageMigrationDone 0]
      : List Instr).all Instr.wf = true := by decide

theorem test_wf_links_refuses :
    ([.linkSignalDetect 4, .linkAdapted 4, .linkAligned 4, .identSend 4, .identReceive 4 0 [], .identReceive 0 16 [],
     .linkMeasureDone 4 0, .trainTimeout 4, .trainBackoffEnd 4, .portOpen (.erg 4) 0, .portOpen .hamada 4, .portRetrain (.erg 4) 0,
     .portRetrain .hamada 4, .linkDown 4 0 0 true, .xanarPacketReceive ⟨4, true, testPacket, 0, false, false, 0, 0, 0⟩, .pauseLong 4 0,
     .pauseLong 0 4, .nodeIdWrite (.erg 4) 0, .nodeIdWrite .hamada 256, .rtDataAccess (.erg 4) true 0, .routeArm (.erg 4) 0 true,
     .routeArm .hamada 65536 true, .routeGo (.erg 4) 0, .routeGo .hamada 65536, .routeEpochReceive 4 ⟨0, 0, []⟩, .routeEpochReceive 0 ⟨256, 0, []⟩, .routeEpochReceive 0 ⟨0, 256, []⟩, .tapEnable (.erg 4) 0 0,
     .tapEnable .hamada 4 0, .tapEnable .hamada 0 64, .pauseBitChange 4 0 true, .pauseBitChange 0 4 true]
      : List Instr).all (fun i => !i.wf) = true := by decide

theorem test_wf_links_accepts :
    ([.linkSignalDetect 0, .linkAdapted 0, .linkAligned 0, .identSend 0, .identReceive 0 0 [], .linkMeasureDone 0 0, .trainTimeout 0,
     .trainBackoffEnd 0, .portOpen .hamada 0, .portRetrain .hamada 0, .linkDown 0 0 0 true,
     .xanarPacketReceive ⟨0, true, testPacket, 0, false, false, 0, 0, 0⟩, .pauseLong 0 0, .nodeIdWrite .hamada 0,
     .rtDataAccess .hamada true 0, .routeArm .hamada 0 true, .routeGo .hamada 0, .routeEpochReceive 3 ⟨255, 255, []⟩, .tapEnable .hamada 0 0,
     .pauseBitChange 0 0 true]
      : List Instr).all Instr.wf = true := by decide

theorem test_wf_rma_refuses :
    ([.windowEnable (.erg 4), .windowDisable (.erg 4), .qpResetReq (.erg 4), .qpInitReq (.erg 4), .qpReadyReq (.erg 4),
     .qpForceError (.erg 4), .qpFlushDone 256, .qpDoorbell (.erg 4) 0 0, .qpDoorbell .hamada 256 0, .qpDoorbell .hamada 0 4096,
     .qpSendPacket 256, .rmaWriteReceive 0 { testPacket with type := 1 },
     .rmaWriteReceive 0 { testPacket with type := 0, dqp := 256 }, .rmaWriteReceive 0 { testPacket with type := 0, psn := 2 ^ 24 },
     .rmaWriteReceive 0 { testPacket with type := 0, payload := List.replicate 513 0 },
     .rmaWriteReceive 5 { testPacket with type := 0 }, .rmaWriteImmReceive 0 { testPacket with type := 2 },
     .rmaWriteImmReceive 0 { testPacket with type := 1, dqp := 256 },
     .rmaWriteImmReceive 0 { testPacket with type := 1, psn := 2 ^ 24 },
     .rmaWriteImmReceive 0 { testPacket with type := 1, payload := List.replicate 513 0 },
     .rmaWriteImmReceive 5 { testPacket with type := 1 }, .rmaReadReqReceive 0 { testPacket with type := 3 },
     .rmaReadReqReceive 0 { testPacket with type := 2, dqp := 256 },
     .rmaReadReqReceive 0 { testPacket with type := 2, psn := 2 ^ 24 },
     .rmaReadReqReceive 0 { testPacket with type := 2, payload := List.replicate 513 0 },
     .rmaReadReqReceive 5 { testPacket with type := 2 }, .rmaReadRespReceive 0 { testPacket with type := 4 },
     .rmaReadRespReceive 0 { testPacket with type := 3, dqp := 256 },
     .rmaReadRespReceive 0 { testPacket with type := 3, psn := 2 ^ 24 },
     .rmaReadRespReceive 0 { testPacket with type := 3, payload := List.replicate 513 0 },
     .rmaReadRespReceive 5 { testPacket with type := 3 }, .rmaAckReceive { testPacket with type := 5 },
     .rmaAckReceive { testPacket with type := 4, dqp := 256 }, .rmaAckReceive { testPacket with type := 4, psn := 2 ^ 24 },
     .rmaAckReceive { testPacket with type := 4, payload := List.replicate 513 0 }, .rmaNakReceive { testPacket with type := 0 },
     .rmaNakReceive { testPacket with type := 5, dqp := 256 }, .rmaNakReceive { testPacket with type := 5, psn := 2 ^ 24 },
     .rmaNakReceive { testPacket with type := 5, payload := List.replicate 513 0 }, .placementDone 256 0, .placementDone 0 (2 ^ 24),
     .ackSend 256, .retryTimeout 256, .remoteHoldTimeout 256 0, .remoteHoldTimeout 0 (2 ^ 24), .cqOverflowClear (.erg 4) 0,
     .cqOverflowClear .hamada 4, .wadiBump (.erg 4) 0 0, .wadiBump .hamada 512 0, .wadiBump .hamada 0 65536, .wadiArm (.erg 4)]
      : List Instr).all (fun i => !i.wf) = true := by decide

theorem test_wf_rma_accepts :
    ([.windowEnable .hamada, .windowDisable .hamada, .qpResetReq .hamada, .qpInitReq .hamada, .qpReadyReq .hamada,
     .qpForceError .hamada, .qpFlushDone 0, .qpDoorbell .hamada 0 0, .qpSendPacket 0,
     .rmaWriteReceive 0 { testPacket with type := 0 }, .rmaWriteImmReceive 0 { testPacket with type := 1 },
     .rmaReadReqReceive 0 { testPacket with type := 2 }, .rmaReadRespReceive 0 { testPacket with type := 3 },
     .rmaAckReceive { testPacket with type := 4 }, .rmaNakReceive { testPacket with type := 5 }, .placementDone 0 0, .ackSend 0,
     .retryTimeout 0, .remoteHoldTimeout 0 0, .cqOverflowClear .hamada 0, .wadiBump .hamada 0 0, .wadiArm .hamada]
      : List Instr).all Instr.wf = true := by decide

theorem test_wf_fleet_refuses :
    ([.aliveWrite (.erg 4), .schedKick (.erg 4) 0 0, .schedKick .hamada 1024 0, .schedKick .hamada 0 65536,
     .entDataWrite (.erg 4) 0 0, .entDataWrite .hamada 4 0, .joinSend (.erg 4) 0, .joinReceive 4 [], .helloReceive 4 [],
     .helloTimeout 4, .startReceive 4 [], .lossDetect 4, .lossReceive 4 [], .qpSyncResend 256, .tileCondemn 16 0]
      : List Instr).all (fun i => !i.wf) = true := by decide

theorem test_wf_fleet_accepts :
    ([.aliveWrite .hamada, .schedKick .hamada 0 0, .entDataWrite .hamada 0 0, .joinSend .hamada 0, .joinReceive 0 [],
     .helloReceive 0 [], .helloTimeout 0, .startReceive 0 [], .lossDetect 0, .lossReceive 0 [], .qpSyncResend 0, .tileCondemn 0 0]
      : List Instr).all Instr.wf = true := by decide

theorem test_wf_search_refuses :
    ([.shardLoad (.erg 4) 0, .shardLoad .hamada 2, .shardLoadDone 2, .shardUnload (.erg 4) 0, .shardUnload .hamada 2,
     .queryPost (.erg 4) 0, .queryPost .hamada 64, .treeQueryReceive 96 0, .treeQueryReceive 0 18433, .treeResultReceive 96 0,
     .treeResultReceive 0 18433, .treeFinalReceive 96 0, .treeFinalReceive 0 18433]
      : List Instr).all (fun i => !i.wf) = true := by decide

theorem test_wf_search_accepts :
    ([.shardLoad .hamada 0, .shardLoadDone 0, .shardUnload .hamada 0, .queryPost .hamada 0, .treeQueryReceive 0 0,
     .treeResultReceive 0 0, .treeFinalReceive 0 0]
      : List Instr).all Instr.wf = true := by decide

theorem test_wf_client_refuses :
    ([.icpOpen { testIcp with mac := 2 }, .icpOpen { testIcp with client := 256 }, .icpOpen { testIcp with origin := 256 },
     .icpOpen { testIcp with seq := 2 ^ 64 }, .icpOpen { testIcp with fragIdx := 256 }, .icpOpen { testIcp with fragCnt := 256 }, .icpClose { testIcp with mac := 2 },
     .icpClose { testIcp with client := 256 }, .icpClose { testIcp with origin := 256 }, .icpClose { testIcp with seq := 2 ^ 64 },
     .icpClose { testIcp with fragIdx := 256 }, .icpClose { testIcp with fragCnt := 256 },
     .icpAck { testIcp with mac := 2 }, .icpAck { testIcp with client := 256 }, .icpAck { testIcp with origin := 256 },
     .icpAck { testIcp with seq := 2 ^ 64 }, .icpAck { testIcp with fragIdx := 256 }, .icpAck { testIcp with fragCnt := 256 }, .icpRequest { testIcp with mac := 2 },
     .icpRequest { testIcp with client := 256 }, .icpRequest { testIcp with origin := 256 },
     .icpRequest { testIcp with seq := 2 ^ 64 }, .icpRequest { testIcp with fragIdx := 256 }, .icpRequest { testIcp with fragCnt := 256 }, .icpPing { testIcp with mac := 2 },
     .icpPing { testIcp with client := 256 }, .icpPing { testIcp with origin := 256 }, .icpPing { testIcp with seq := 2 ^ 64 },
     .icpPing { testIcp with fragIdx := 256 }, .icpPing { testIcp with fragCnt := 256 }, .fragTimeout 128,
     .resendTimeout 128, .journalMirrorDone 4096, .journalFlashDone 4096 true, .mirrorTimeout 4096, .journalModeWrite (.erg 4),
     .journalCommit (.erg 4) 0, .journalCommit .hamada 4096, .journalRecovery [{ testRec with index := 4096 }] [],
     .journalRecovery [{ testRec with client := 64 }] [], .journalRecovery [] [⟨64, List.replicate 10 0, 0, 0⟩],
     .journalRecovery [] [⟨0, List.replicate 9 0, 0, 0⟩], .fosterStart [⟨64, List.replicate 10 0, 0, 0⟩],
     .fosterStart [⟨0, List.replicate 9 0, 0, 0⟩], .wardDamaged bulkPages, .reqQuery true 4096, .reqSubscribe true 4096,
     .reqReg true 4096, .reqConfigClient true 4096, .reqPlanOffer true 4096 testPlan, .reqPriv true 4096 ⟨[], none⟩ true,
     .reqHealthNow true 4096, .itemPost (.erg 4) 0, .itemPost .hamada 1024, .emptyFrameClose 36, .canHeartbeatDue 2,
     .hbArm (.erg 4) 0, .hbArm .hamada 2, .canRxFrame 2 true, .canBusOffRecovery 2, .ethFrameReceive 2 .other,
     .ptpTx (.erg 4) 0 0 ⟨0, 0⟩, .ptpTx .hamada 2 0 ⟨0, 0⟩, .ptpTx .hamada 0 0 ⟨0, 1000000000⟩, .ptpStep (.erg 4) 0 0,
     .ptpStep .hamada 2 0, .ethLinkChange 2 true 0, .ethLinkChange 0 true 4, .canFrameTxDone 2 true]
      : List Instr).all (fun i => !i.wf) = true := by decide

theorem test_wf_client_accepts :
    ([.icpOpen testIcp, .icpClose testIcp, .icpAck testIcp, .icpRequest testIcp, .icpPing testIcp, .fragTimeout 0, .resendTimeout 0,
     .journalMirrorDone 0, .journalFlashDone 0 true, .mirrorTimeout 0, .journalModeWrite .hamada, .journalCommit .hamada 0,
     .journalRecovery [] [], .fosterStart [], .wardDamaged 0, .reqQuery true 0, .reqSubscribe true 0, .reqReg true 0,
     .reqConfigClient true 0, .reqPlanOffer true 0 testPlan, .reqPriv true 0 ⟨[], none⟩ true, .reqHealthNow true 0,
     .itemPost .hamada 0, .emptyFrameClose 0, .canHeartbeatDue 0, .hbArm .hamada 0, .canRxFrame 0 true, .canBusOffRecovery 0,
     .ethFrameReceive 0 .other, .ptpTx .hamada 0 0 ⟨0, 0⟩, .ptpStep .hamada 0 0, .ethLinkChange 0 true 0, .canFrameTxDone 0 true]
      : List Instr).all Instr.wf = true := by decide

theorem test_wf_power_refuses :
    ([.modeRequest (.erg 4) 0 0, .modeRequest .hamada 8 0, .modeRequest .hamada 0 4, .railUndervoltage 8, .rtcWrite (.erg 4) 0,
     .pwrResetWarm (.erg 4), .pwrResetCold (.erg 4), .tallyGo (.erg 4)]
      : List Instr).all (fun i => !i.wf) = true := by decide

theorem test_wf_power_accepts :
    ([.modeRequest .hamada 0 0, .railUndervoltage 0, .rtcWrite .hamada 0, .pwrResetWarm .hamada, .pwrResetCold .hamada,
     .tallyGo .hamada]
      : List Instr).all Instr.wf = true := by decide

theorem test_wf_erg_refuses :
    ([.ergKick (.erg 4), .ipi (.erg 4) 0, .ipi .hamada 16, .xcapClear (.erg 4), .kernelInvoke 4 (List.replicate 128 0),
     .kernelInvoke 0 (List.replicate 127 0), .kernelExit 4 0 0, .kernelEmit 4 0 0 none, .kernelQuery 4 0 0, .kernelNow 4, .kernelLog 4 0 [], .kernelLog 0 0 (List.replicate 17 0), .kernelFault 4, .kernelBudget 4]
      : List Instr).all (fun i => !i.wf) = true := by decide

theorem test_wf_erg_accepts :
    ([.ergKick .hamada, .ipi .hamada 0, .xcapClear .hamada, .kernelInvoke 0 (List.replicate 128 0), .kernelExit 0 0 0,
     .kernelEmit 0 0 0 none, .kernelQuery 0 0 0, .kernelNow 0, .kernelLog 0 0 [], .kernelFault 0, .kernelBudget 0]
      : List Instr).all Instr.wf = true := by decide

theorem test_wf_fuse_refuses :
    ([.fuseProgGo (.erg 4), .fuseLockWrite (.erg 4) 0, .fuseLockWrite .hamada 4, .privLcAdvance 256 ⟨[], none⟩,
     .privFuseBurn 256 0 [] ⟨[], none⟩, .privFuseBurn 0 256 [] ⟨[], none⟩, .privFuseBurn 0 0 (List.replicate 49 0) ⟨[], none⟩,
     .privKeyRevoke 256 0 ⟨[], none⟩, .privKeyRevoke 0 256 ⟨[], none⟩, .privArbCommit 256 0 ⟨[], none⟩,
     .privArbCommit 0 256 ⟨[], none⟩, .privFuseTrial 256 true (List.replicate 48 0), .privFuseTrial 0 true (List.replicate 47 0),
     .privPatchInstall (2 ^ 32) 0 true, .privPatchInstall 0 (2 ^ 32) true, .returnReq (List.replicate 255 0) ⟨[], none⟩,
     .debugAccess (.otpWord 1024)]
      : List Instr).all (fun i => !i.wf) = true := by decide

theorem test_wf_fuse_accepts :
    ([.fuseProgGo .hamada, .fuseLockWrite .hamada 0, .privLcAdvance 0 ⟨[], none⟩, .privFuseBurn 0 0 [] ⟨[], none⟩,
     .privKeyRevoke 0 0 ⟨[], none⟩, .privArbCommit 0 0 ⟨[], none⟩, .privFuseTrial 0 true (List.replicate 48 0),
     .privPatchInstall 0 0 true, .returnReq (List.replicate 256 0) ⟨[], none⟩, .debugAccess .other]
      : List Instr).all Instr.wf = true := by decide

theorem test_wf_safety_refuses :
    ([.clockWindow (List.replicate 4 0)]
      : List Instr).all (fun i => !i.wf) = true := by decide

theorem test_wf_safety_accepts :
    ([.clockWindow (List.replicate 5 0)]
      : List Instr).all Instr.wf = true := by decide

/-! ### States for the premises -/

/-- After reset, with every domain on and its blocks at reset values. -/
def up : State := State.reset.withBlk { State.reset.blk with domOn := 255 }

/-- `up` with some fields set. -/
def upWith (l : List (Fld × Nat)) : State := up.withBlk (l.foldl (fun b x => b.set x.1 x.2) up.blk)

/-- After reset, with some domains on. -/
def upOnly (domains : Nat) : State := State.reset.withBlk { State.reset.blk with domOn := domains }

def setEp (s : State) (e : EpochSt) : State := s.withBlk { s.blk with ep := e }

/-! ### Premises met: line epoch (spec/02) -/

theorem met_LinePeriodTakesItsStagesInOrder :
    (((List.replicate 4 (0 : Int)).length == 4 && [Upset.spmBit 15 98303 287, .tagCopy 15 12287 2, .bulkBit 125829119 528].all upsetOk) = true ∧
      up.blk.linePasses = true) ∧
    (let s := upOnly (2 ^ 0)
     s.blk.powered Page.EPOCH = true ∧ s.blk.powered Page.SYS = false ∧ s.blk.ep.lpAcc < 32768 ∧ s.blk.linePasses = false) ∧
    up.blk.curL + 1 < up.blk.frameLen ∧
    ¬((setEp up { up.blk.ep with line := 9999 }).blk.curL + 1 < (setEp up { up.blk.ep with line := 9999 }).blk.frameLen) := by decide +kernel

def modePending (own : Bool) (since : BitVec 48) : State :=
  setEp up { up.blk.ep with pendMode := some (1, 0), pendOwn := own, pendSince := since }

theorem met_FrameModeIsPendingAndChangesAtLineZero :
    (∀ own, let s := modePending own 5
      s.blk.ep.pendMode = some (1, 0) ∧ s.blk.power.frameAtL0 = none ∧ s.blk.curL = 0 ∧ coordReached s.blk.now ⟨0, 0⟩ = true ∧
      (s.blk.ep.pendOwn && s.blk.flag (hHold Page.EPOCH)) = false ∧ (s.blk.ep.pendOwn && s.blk.ep.pendSince == s.blk.ep.line) = false) ∧
    ({ up.blk with ep := { up.blk.ep with line := 9999 } } : Blk).curL ≠ 0 ∧
    (let b := (modePending true 5).blk.set (hHold Page.EPOCH) 1
     b.ep.pendOwn = true ∧ b.flag (hHold Page.EPOCH) = true ∧ b.ep.pendSince ≠ b.ep.line ∧ b.curL = 0 ∧ b.power.frameAtL0 = none ∧
     b.ep.pendMode = some (1, 0)) ∧
    up.blk.granted .hamada Page.EPOCH 0x050 2 ∧ up.blk.granted (.erg 3) Page.EPOCH 0x050 3 := by
  unfold Blk.granted; decide +kernel

def asMaster : State := upWith [(XEPOCH.STATE_STATE, stMaster), (XEPOCH.CTRL_ROLE_MASTER, 1)]

theorem met_EpochRolesTakeEffectInTheirStatesOnly :
    (up.blk.epochState = stFree ∧ up.blk.granted .hamada Page.XEPOCH 0x044 (up.blk.fieldWord Page.XEPOCH 0x044 1 1 1) ∧
      up.blk.granted (.erg 0) Page.EPOCH 0x070 (up.blk.fieldWord Page.EPOCH 0x070 0 1 1)) ∧
    (asMaster.blk.epochState = stMaster ∧ asMaster.blk.flag XEPOCH.CTRL_ROLE_MASTER = true ∧
      (∀ on, asMaster.blk.granted .hamada Page.XEPOCH 0x044 (asMaster.blk.fieldWord Page.XEPOCH 0x044 1 1 (bitNat on))) ∧
      asMaster.blk.granted .hamada Page.EPOCH 0x070 (asMaster.blk.fieldWord Page.EPOCH 0x070 0 1 1)) := by
  unfold Blk.granted; decide +kernel

def syncMaster : State :=
  upWith [(XEPOCH.STATE_STATE, stMaster), (hEn Page.EPOCH, 1), (EPOCH.SYNCIN_CTRL_EN, 1), (EPOCH.SYNCOUT_CTRL_EN, 1)]

theorem met_SyncPinsFollowTheirEdges :
    (syncMaster.blk.active Page.EPOCH = true ∧ syncMaster.blk.powered Page.SYS = true ∧ syncMaster.blk.flag EPOCH.SYNCIN_CTRL_EN = true ∧
      syncMaster.blk.epochState = stMaster ∧ (-2000 : Int).natAbs ≤ 2000 ∧ 2000 < (2001 : Int).natAbs ∧ syncMaster.blk.ep.syncSeen = false) ∧
    max 1 (syncMaster.blk.get EPOCH.SYNCIN_CTRL_MISS_LIMIT) ≤
      ({ syncMaster.blk with ep := { syncMaster.blk.ep with syncMissed := 255 } } : Blk).ep.syncMissed ∧
    (syncMaster.blk.flag EPOCH.SYNCOUT_CTRL_EN = true ∧ syncMaster.blk.curL = syncMaster.blk.get EPOCH.SYNCOUT_AT_L ∧
      syncMaster.blk.ep.frame.toNat % (syncMaster.blk.get EPOCH.SYNCOUT_CTRL_DIV_M1 + 1) = 0 ∧
      syncMaster.blk.ep.pulse ≠ some syncMaster.blk.ep.line) ∧
    (let b := ({ syncMaster.blk with ep := { syncMaster.blk.ep with frame := 1, prevLen := 10000 } } : Blk).set EPOCH.SYNCOUT_AT_L 10000
     b.curL = 0 ∧ b.ep.prevLen ≤ b.get EPOCH.SYNCOUT_AT_L ∧ (b.ep.frame - 1).toNat % (b.get EPOCH.SYNCOUT_CTRL_DIV_M1 + 1) = 0) ∧
    (let b : Blk := { syncMaster.blk with ep := { syncMaster.blk.ep with line := 1000, pulse := some 0 } }
     b.ep.pulse = some 0 ∧ max 1 (b.get EPOCH.SYNCOUT_CTRL_WIDTH) ≤ b.linesSince 0) ∧
    (let b : Blk := { syncMaster.blk with ep := { syncMaster.blk.ep with pulse := some 9 } }
     b.curL = 0 ∧ b.ep.pulse = some 9 ∧ (9 : BitVec 48) ≠ b.ep.line) := by decide +kernel

def beatSender : State :=
  setEp (upWith [(XEPOCH.STATE_STATE, stMaster), (hEn Page.XEPOCH, 1), (XEPOCH.CTRL_BEAT_EN, 1)]) { up.blk.ep with line := 10 }
def beatTaker : State := upWith [(hEn Page.XEPOCH, 1), (XPORT.STATUS_LSTATE 3, 6), (hEn (portPage 3), 1), (XEPOCH.PORT_DELAY_OVR 3, 1)]

theorem met_BeatsCarryTheSendersCounters :
    beatSender.blk.beatDue = true ∧
    (beatTaker.blk.active Page.XEPOCH = true ∧ beatTaker.blk.fleetPort 3 = true ∧ beatTaker.blk.ep.ownMaster = false ∧
      beatTaker.blk.epochState = stFree ∧ beatTaker.blk.portFit 3 = true ∧
      (let bt : Beat := ⟨9999, 0, 9999, 255, 0, 254, 2, 3, true, false, false, 0, 0⟩
       bt.depth ≤ 254 ∧ bt.mode < 3 ∧ bt.l < frameLenOf bt.mode ∧ bt.master < 256 ∧ bt.inHoldover = false)) := by decide +kernel

def inState (st : Nat) (missed : Nat) : State :=
  setEp (upWith [(XEPOCH.STATE_STATE, st)]) { up.blk.ep with missed := missed, line := 1000000 }

theorem met_LostBeatsMoveTheEpochState :
    ((inState stAcquire 255).blk.lossLimit ≤ 255 ∧ (inState stAcquire 255).blk.ep.missed = 255 ∧
      (inState stAcquire 255).blk.epochState = stAcquire ∧ (inState stLocked 255).blk.epochState = stLocked) ∧
    (let s := (inState stHoldover 9999).withBlk ((inState stHoldover 9999).blk.setWord 0x46048 (BitVec.ofNat 32 0xFFFFFF00))
     s.blk.backupIndex = some 0 ∧ s.blk.epochState = stHoldover ∧ (0 + 2) * s.blk.lossLimit ≤ s.blk.ep.missed) ∧
    (inState stHoldover 0).blk.get EPOCH.HOLD_CTRL_HOLD_LIMIT * (inState stHoldover 0).blk.ep.holdLen <
      (inState stHoldover 0).blk.linesSince (inState stHoldover 0).blk.ep.holdLine := by decide +kernel

def mapWanted (prev : Option MapSample) : State :=
  setEp (upWith [(hEn Page.EPOCH, 1)]) { up.blk.ep with mapNow := true, mapPrev := prev }

theorem met_MapBlockHoldsTheSampledTime :
    (setEp up { up.blk.ep with line := 1 }).blk.mapDue = false ∧
    (∀ prev ∈ [none, some ⟨1, ⟨0, 0⟩, 0, 0⟩], (mapWanted prev).blk.mapDue = true ∧ (mapWanted prev).blk.active Page.EPOCH = true ∧
      (mapWanted prev).blk.ep.mapPrev = prev) ∧
    up.blk.granted .hamada Page.EPOCH 0x088 (up.blk.fieldWord Page.EPOCH 0x088 10 1 1) := by
  unfold Blk.granted; decide +kernel

theorem met_WideRegistersHoldAndStage :
    (isWideLow Page.OASIS 0x040 = true ∧ up.blk.accessCause (.erg 1) Page.OASIS 0x040 true false 0 = 0) ∧
    (wideWrites Page.OASIS 0x040 = true ∧ up.blk.granted .hamada Page.OASIS 0x040 7 ∧ up.blk.ringShut Page.OASIS 0x040 = false) ∧
    (isWideHigh Page.OASIS 0x044 = true ∧ wideWrites Page.OASIS 0x044 = true ∧ up.blk.granted .hamada Page.OASIS 0x044 7 ∧
      up.blk.ringShut Page.OASIS 0x044 = false) ∧
    (up.blk.qstate (up.blk.get XQP.QP_SEL) ≠ qsInit ∧ up.blk.granted .hamada Page.XQP 0x060 7 ∧ up.blk.granted .hamada Page.XQP 0x064 7) := by
  unfold Blk.granted; decide +kernel

/-! ### Premises met: register pages (spec/03) -/

theorem met_RegisterWritesFaultOrTakeEffect :
    (domainOf 0x07 = none ∧ up.blk.accessCause .hamada 0x07 0x038 true true 0 = causeUnmapped ∧ causeUnmapped ≠ 0) ∧
    ((domainOf Page.SCHED).isSome = true ∧ State.reset.blk.powered Page.SCHED = false ∧ State.reset.blk.powered Page.SYS = false ∧
      State.reset.blk.accessCause .hamada Page.SCHED 0x038 true true 0 = causePower) ∧
    (up.blk.powered Page.SCHED = true ∧ up.blk.accessCause .hamada Page.SCHED 0x038 false true 0 = causeWidth ∧
      up.blk.accessCause .hamada Page.SCHED 0x03A true true 0 = causeWidth) ∧
    (up.blk.classAllows .safetyScan Page.SCHED 0x038 true = false ∧
      up.blk.accessCause .safetyScan Page.SCHED 0x038 true true 0 = causePriv) ∧
    (let b := up.blk.set (hLockCfg Page.ISP) 1
     b.classAllows (.erg 0) Page.ISP 0x040 true = true ∧ b.lockAllows (.erg 0) Page.ISP 0x040 0 = false ∧
     b.accessCause (.erg 0) Page.ISP 0x040 true true 0 = causeLocked) ∧
    (let b := up.blk.set (hResetting Page.ISP) 1
     b.lockAllows .hamada Page.ISP 0x040 0 = true ∧ b.accessCause .hamada Page.ISP 0x040 true true 0 = causeBusy) ∧
    up.blk.granted (.erg 2) Page.ISP 0x038 5 ∧
    (up.blk.granted .hamada Page.SPM 0x048 1 ∧ nodeWrite Page.SPM 0x048 = false) ∧
    (let off := (((List.range 0x3F0).map (fun i => 0x040 + 4 * i)).find? (fun o => !isWideLow Page.SEN o && !isWideHigh Page.SEN o &&
        decide ((regRow Page.SEN o).any (fun r => r.shadow == .none)))).getD 0
     0x040 ≤ off ∧ isWideLow Page.SEN off = false ∧ isWideHigh Page.SEN off = false ∧
     (regRow Page.SEN off).any (fun r => r.shadow == .none) = true ∧ up.blk.granted .hamada Page.SEN off 1) := by
  unfold Blk.granted; decide +kernel

def runKey : Nat := SCHED.SCHED_CTRL_RUN.key
def runPending : State := up.withBlk { up.blk with
  ep := { up.blk.ep with line := 1 }, shadow := [(runKey, some ⟨1, false, 0⟩)] }
def ispShf : Nat := (((List.range 0x200).map (fun i => 4 * i)).find? (fun o => isShf (regKey Page.ISP o))).getD 0

theorem met_ShadowCopiesAsWrittenHeldAndDiscarded :
    (isShf (regKey Page.ISP ispShf) = true ∧ (regRow Page.ISP ispShf).isSome = true ∧ up.blk.granted (.erg 3) Page.ISP ispShf 0) ∧
    (isShl runKey = true ∧ pageOf runKey = Page.SCHED ∧ (regRow Page.SCHED (offOf runKey)).isSome = true ∧
      up.blk.granted .hamada Page.SCHED (offOf runKey) 1) ∧
    isShlCoord Page.SEARCH 0x04C = true ∧
    up.blk.granted .hamada Page.EPOCH 0x054 0xFFFFFFFF ∧
    up.blk.granted .hamada Page.EPOCH 0x034 (up.blk.fieldWord Page.EPOCH 0x034 0 1 1) ∧
    up.blk.granted .hamada Page.ISP 0x034 (up.blk.fieldWord Page.ISP 0x034 0 1 0) ∧
    up.blk.granted .hamada Page.EPOCH 0x034 (up.blk.fieldWord Page.EPOCH 0x034 1 1 1) ∧ (modePending true 5).blk.ep.pendOwn = true := by
  unfold Blk.granted; decide +kernel

theorem met_ReachedShlCopiesComeIntoForce :
    runPending.blk.copyOf runKey = some ⟨1, false, 0⟩ ∧ 0x040 ≤ offOf runKey ∧ runKey < 0x100000 ∧ runKey ∈ runPending.blk.shlKeys := by
  decide +kernel

/-- The target rule of R33 at its edges: half the frame numbers on is behind, one less is ahead. -/
theorem test_coord_edges :
    coordReached ⟨0, 0⟩ ⟨0x80000000, 0⟩ = true ∧ coordReached ⟨0, 9999⟩ ⟨0x7FFFFFFF, 0⟩ = false ∧
    coordReached ⟨5, 7⟩ ⟨5, 7⟩ = true ∧ coordReached ⟨5, 7⟩ ⟨5, 8⟩ = false ∧ coordReached ⟨0, 0⟩ ⟨0xFFFFFFFF, 9999⟩ = true := by decide +kernel

def frozenIsp : State := upWith [(hFreeze Page.ISP, 1)]

theorem met_ControlBitsEnableFreezeAndReset :
    (∀ on, up.blk.granted .hamada Page.XROUTE 0x010 (up.blk.fieldWord Page.XROUTE 0x010 0 1 (bitNat on))) ∧
    (∀ on, up.blk.granted (.erg 0) Page.ISP 0x010 (up.blk.fieldWord Page.ISP 0x010 2 1 (bitNat on))) ∧
    (noFreeze Page.ISP = false ∧ noFreeze Page.SAFE = true) ∧
    (frozenIsp.blk.powered Page.ISP = true ∧ frozenIsp.blk.flag (hFreeze Page.ISP) = true) ∧
    up.blk.granted .hamada Page.ISP 0x010 (up.blk.fieldWord Page.ISP 0x010 1 1 1) ∧
    up.blk.granted .hamada Page.FUSE 0x010 (up.blk.fieldWord Page.FUSE 0x010 1 1 1) ∧
    up.blk.granted .hamada Page.LIFE 0x010 (up.blk.fieldWord Page.LIFE 0x010 1 1 1) ∧
    up.blk.granted .hamada Page.LIFE 0x010 (up.blk.fieldWord Page.LIFE 0x010 3 1 1) := by
  unfold Blk.granted; decide +kernel

theorem met_InterruptRegistersAsWritten :
    up.blk.granted .hamada Page.ISP 0x018 (0xFFFFFFFF &&& ~~~1) ∧ up.blk.granted (.erg 0) Page.ISP 0x01C 0x80000001 ∧
    up.blk.granted (.erg 0) Page.SPM 0x020 1 ∧ up.blk.granted .hamada Page.SAFE 0x024 0x80000000#32 := by
  unfold Blk.granted; decide +kernel

theorem met_LockIsWrittenOnceByHamada :
    (up.blk.granted .hamada Page.ISP 0x030 3 ∧ Tbl.get (dflt false) up.blk.locked (regKey Page.ISP 0x030) = false) ∧
    (let b : Blk := { up.blk with locked := [(regKey Page.ISP 0x030, true)] }
     b.granted .hamada Page.ISP 0x030 0 ∧ Tbl.get (dflt false) b.locked (regKey Page.ISP 0x030) = true) ∧
    up.blk.powered Page.ISP = true := by
  unfold Blk.granted; decide +kernel

def scanned (changed : Bool) : Blk :=
  let b := (upWith [(hCrcEn Page.ISPSTAT, 1)]).blk
  if changed then b.markChanged Page.ISPSTAT else b

theorem met_ScanVisitComparesThePageChecksum :
    (∀ c, (scanned c).powered Page.ISPSTAT = true ∧ (scanned c).flag (hCrcEn Page.ISPSTAT) = true ∧ (scanned c).powered Page.SAFE = true ∧
      ((scanned c).pageSt Page.ISPSTAT).changed = c ∧
      (scanned c).pageChecksum Page.ISPSTAT ≠ BitVec.ofNat 32 ((scanned c).get (hPageCrc Page.ISPSTAT))) ∧
    (let b := scanned false
     let sum := b.pageChecksum Page.ISPSTAT
     (b.set (hPageCrc Page.ISPSTAT) sum.toNat).pageChecksum Page.ISPSTAT = sum) := by decide +kernel

/-! ### Premises met: detector, cameras, pipeline (spec/16, spec/05, spec/06) -/

def withDet (d : DetSt) : State := up.withBlk (up.blk.setDet d)

theorem met_DetectorSamplesAndPatterns :
    (((List.replicate 144 255).length == 144 && (List.replicate 144 255).all (fun x => x < 256)) = true ∧
      up.blk.powered Page.OASIS = true) ∧
    (let d : DetSt := { noDet with on := true, bg := List.replicate 144 16, flash := List.replicate 144 none }
     let b := (withDet d).blk.set OASIS.SENT_CTRL_RISE 4
     b.sentMasked 143 = false ∧ nth b.oasis.det.flash 143 none = none ∧
     ((nth (List.replicate 144 4) 143 0 % 16 : Nat) : Int) - ((nth b.oasis.det.bg 143 0 : Nat) : Int) / 16 < b.sentRise) ∧
    nth (withDet { noDet with hold := [none, none, none, some 0] }).blk.oasis.det.hold 3 none = some 0 ∧
    up.blk.granted .hamada Page.OASIS (0x100 + 0x10 * 3 + 4 * 2) 0xFFFF := by
  unfold Blk.granted; decide +kernel

/-- Port 1 on with one lane, context 31 in a state with its frame from port 0, channel 0. -/
def camOn (state : Nat) : State :=
  let s := upWith [(hEn Page.CROUTE, 1), (hEn (csiPage 1), 1), (CSI.PHY_CTRL_LANES 1, 1), (CROUTE.STATE_STATE 31, state)]
  setEp s { s.blk.ep with line := 70000 }

theorem met_CameraPacketsReachTheirContexts :
    (csiOk 1 15 = true ∧ (camOn ctxIdle).blk.csiOn 1 = true ∧
      ((camOn ctxIdle).blk.set (hFrozen (csiPage 1)) 1).flag (hFrozen (csiPage 1)) = true) ∧
    ((camOn ctxIdle).blk.flag (hFrozen (csiPage 1)) = false ∧ (camOn ctxIdle).blk.powered Page.CROUTE = true ∧
      (65535 < 65536 ∧ 63 < 64) ∧ rawType 0x10 = false ∧ rawType 0x2D = true ∧ (1 < 2 ∧ 2 ≤ 3 ∧ 3 < 4 ∧ 4 ≤ 5 ∧ 5 < 6)) := by decide +kernel

def padding (height : Nat) : State :=
  let s := (camOn ctxPadding).withBlk ((camOn ctxPadding).blk.modCam 31 (fun x => { x with height := height }))
  setEp s { s.blk.ep with line := 1 }

theorem met_TimeoutsCutFramesAndPadThem :
    ((camOn ctxActive).blk.powered Page.CROUTE = true ∧ (camOn ctxActive).blk.ctxState 31 = ctxActive ∧
      max 1 ((camOn ctxActive).blk.get (CROUTE.LINE_TIMING_LINE_TIMEOUT 31)) ≤
        (camOn ctxActive).blk.linesSince ((camOn ctxActive).blk.camCtx 31).lastPkt ∧
      (let b := (camOn ctxActive).blk.set (CROUTE.FRAME_TIMING_FRAME_TIMEOUT 31) 65535
       b.get (CROUTE.FRAME_TIMING_FRAME_TIMEOUT 31) ≠ 0 ∧ b.get (CROUTE.FRAME_TIMING_FRAME_TIMEOUT 31) ≤ b.linesSince (b.camCtx 31).fsLine)) ∧
    up.blk.flag (hCapValid Page.CROUTE) = false ∧
    ((padding 1).blk.powered Page.CROUTE = true ∧ (padding 1).blk.ctxState 31 = ctxPadding ∧
      ((padding 1).blk.camCtx 31).delivered < ((padding 1).blk.camCtx 31).height ∧
      ((padding 1).blk.ep.line - ((padding 1).blk.camCtx 31).padAt).toNat < 2 ^ 47 ∧ 31 < (padding 1).blk.cam.ctx.length) ∧
    (((padding 0).blk.camCtx 31).height ≤ ((padding 0).blk.camCtx 31).delivered ∧
      (padding 0).blk.ep.line ≠ ((padding 0).blk.camCtx 31).lastPkt) := by decide +kernel

/-- A live external frame of context 35 with a descriptor, for tile 15. -/
def testFrame : IspFrame :=
  { ctx := 35, coord := ⟨0, 0⟩, params := [1, 0, 0, 0, 0, 0, 0, 0, 0, 0, 0, 0, 15, 0, 0, 0x1F], width := 32, height := 32, col0 := 0, row0 := 0
    gain := 0, exposure := 0, mode := 0, temp := 0, hot := false, obHcg := [], obLcg := [], banks := 0, statOn := false, srcFn := 0
    check := 0, ispFlags := 0, abandoned := false, rows := [], real := [], formed := 0, written := 0, held := []
    stat := ⟨[], [], [], []⟩, ended := none, descAt := none, descDone := false, statSeq := 0 }
def tableFrame : IspFrame := { testFrame with params := [0x1FFFF] ++ testFrame.params.drop 1 }
def ispOn (l : List StoreLine) (f : IspFrame) : State :=
  let s := upWith [(hEn Page.CROUTE, 1), (hEn Page.ISP, 1)]
  s.withBlk { s.blk with cam := { s.blk.cam with store := l }, isp := { s.blk.isp with frames := [f], used := 7999 },
                         ep := { s.blk.ep with line := 70000 } }
def oneLine (kind : LineKind) : StoreLine := ⟨35, 32, ⟨0, 0, 0⟩, kind⟩

theorem met_PipelineTakesTheStoresFrontLine :
    (let s := ispOn [oneLine (.fill 0)] testFrame
     s.blk.active Page.ISP = true ∧ s.blk.active Page.CROUTE = true ∧ s.blk.isp.used < 8000 ∧ s.blk.cam.store = [oneLine (.fill 0)] ∧
     s.blk.frameOf 34 = none ∧ s.blk.frameOf 35 = some 0 ∧ s.blk.isp.frames[0]? = some testFrame) ∧
    (oneLine (.endOfFrame 7)).kind = .endOfFrame 7 ∧
    (testFrame.live = true ∧ testFrame.usesTables = false ∧ tableFrame.live = true ∧ tableFrame.usesTables = true) ∧
    ({ testFrame with abandoned := true } : IspFrame).live = false := by decide +kernel

def heldFrame : IspFrame := { testFrame with held := [⟨0, [1, 2], 0⟩] }
def endedFrame : IspFrame := { testFrame with ended := some 0 }
def lateFrame : IspFrame := { endedFrame with descAt := some 0 }

theorem met_HeldRowsAndDescriptorsEnd :
    (let b := (ispOn [] heldFrame).blk
     let ready : IspFrame → Option HeldRow := fun g => if g.ctx == 35 then
       g.held.find? (fun x => b.rowFree (g.place x.row).1 (g.place x.row).2 (slotsOf x.bytes.length)) else none
     b.active Page.ISP = true ∧ b.isp.frames.findIdx? (fun g => (ready g).isSome) = some 0 ∧ ready heldFrame = some ⟨0, [1, 2], 0⟩ ∧
     b.isp.frames.findIdx? (fun g =>
        g.ctx == 35 && g.held.any (fun h => decide (b.stallLimit (g.place h.row).1 < b.linesSince h.since))) = some 0) ∧
    (let b := (ispOn [] endedFrame).blk
     b.isp.frames.findIdx? (fun g => g.ctx == 35) = some 0 ∧ endedFrame.complete = true ∧ endedFrame.live = true ∧
     endedFrame.descAt = none ∧ endedFrame.descDone = false) ∧
    (let b := (ispOn [] lateFrame).blk.setTag 15 0 true
     b.isp.frames.findIdx? (fun g => g.ctx == 35 && (match g.descAt with
          | some x => decide (b.stallLimit g.descTile ≤ b.linesSince x) && b.isFull g.descTile g.descSlot
          | none => false)) = some 0 ∧ lateFrame.descAt = some 0 ∧ lateFrame.complete = true) := by decide +kernel

theorem met_TableDataGoesToTheBankNotInForce :
    up.blk.accessCause (.erg 3) Page.ISP 0x048 true false 0 = 0 ∧ up.blk.granted (.erg 3) Page.ISP 0x048 0xFFFFFFFF ∧
    (up.blk.tableSel).isSome = true ∧
    up.blk.get ISP.TABLE_SEL_BANK = up.blk.tableBank (up.blk.get ISP.TABLE_SEL_CONTEXT) (up.blk.get ISP.TABLE_SEL_TABLE) ∧
    (let b := (upWith [(ISP.TABLE_SEL_BANK, 1), (ISP.TABLE_ADDR, 1359)]).blk
     b.granted .hamada Page.ISP 0x048 1 ∧ (b.tableSel).isSome = true ∧
     b.get ISP.TABLE_SEL_BANK ≠ b.tableBank (b.get ISP.TABLE_SEL_CONTEXT) (b.get ISP.TABLE_SEL_TABLE)) := by
  unfold Blk.granted; decide +kernel

/-! ### Premises met: tiles and scratchpads (spec/07, spec/08, spec/13) -/

/-- Tile 15 with its block on and in a state. -/
def tileIn (st : Nat) : State := upWith [(hEn (tilePage 15), 1), (TILE.STATUS_TSTATE 15, st)]
def run15 : State := tileIn tsRun
def withTile (s : State) (t : TileSt) : State := s.withBlk (s.blk.setTile 15 t)
def rd15 : SpmAccess := { spmRd with tile := 15, req := 3, addr := spmBytes - 32, check := .waitEmpty, after := .setEmpty }
def wr15 : SpmAccess := { rd15 with data := some (List.replicate 32 7), after := .setFull }

theorem met_ScratchpadAccessesReadAndStoreAtTheirTarget :
    (run15.blk.active (tilePage 15) = true ∧ run15.blk.tstate 15 = tsRun ∧ rd15.tile < 16 ∧ rd15.req < 4 ∧
      run15.blk.spmTarget 15 rd15.addr = (0, 15, spmBytes - 32) ∧ spmShape (spmBytes - 32) rd15.size = true ∧
      spmShape (spmBytes - 32) 5 = false ∧ run15.blk.portBusy 15 3 = false ∧
      (withTile run15 { noTile with held := [rd15] }).blk.portBusy 15 3 = true) ∧
    ((run15.blk.spmTarget 15 spmBytes).1 = tcRange ∧ (run15.blk.spmTarget 15 0x06000000).1 ≠ 0) ∧
    (run15.blk.inInit 15 (spmBytes - 32) = false ∧ run15.blk.tagMet 15 12287 rd15 = true ∧ run15.blk.tagMet 15 12287 wr15 = true ∧
      run15.blk.tagMet 15 12287 { rd15 with check := .waitFull } = false ∧ (run15.blk.startInit 15 47).inInit 15 (spmBytes - 32) = true ∧
      (run15.blk.setPoison 15 98303 true).isPoisoned 15 ((spmBytes - 32) / 32) = true ∧ run15.blk.lineClean 15 ((spmBytes - 32) / 32) ∧
      (List.replicate 32 (7 : Byte)).length = wr15.size ∧ (wr15.after = .setFull ∧ rd15.after = .setEmpty ∧ spmRd.after = .none)) := by
  unfold Blk.lineClean; decide +kernel

def wait15 : Wait := ⟨15, 3, 3, 12287, .readFull, 0, false, some { rd15 with check := .waitFull }⟩
def waiting15 : State := setEp (withTile run15 { noTile with waits := [wait15] }) { run15.blk.ep with line := 70000 }

theorem met_TagsWaitReleaseAndTimeOut :
    (run15.blk.active (tilePage 15) = true ∧ 12287 < 12288 ∧ run15.blk.tstate 15 ≠ tsMappedOut ∧
      ((run15.blk.finishInit 15 47).tagVote 15 12287).isFull 15 12287 = false) ∧
    (let b := (withTile (run15.withBlk (run15.blk.setTag 15 12287 true)) { noTile with waits := [wait15] }).blk
     wait15 ∈ (b.tile 15).waits ∧ wait15.access.isSome = true ∧ (wait15.met || b.waitCond 15 wait15) = true ∧
     { wait15 with met := true } ∈ (b.markMet 15).releasable 15 12287) ∧
    (waiting15.blk.powered (tilePage 15) = true ∧ wait15 ∈ waiting15.blk.expiredWaits 15 ∧ wait15.port ≤ 3) ∧
    (waiting15.blk.flag (TILE.TT_INFO_VALID 15) = false ∧
      (waiting15.blk.set (TILE.TT_INFO_VALID 15) 1).flag (TILE.TT_INFO_VALID 15) = true) := by decide +kernel

/-- A line with one wrong bit, and one with two in a word. -/
def struck (bits : List Nat) : Blk := up.blk.setFlips 15 98303 bits

theorem met_GranulesAreReinitialisedAndScrubbed :
    (∀ v ∈ [1, 2, 3], up.blk.attr 15 47 ≠ v ∧ up.blk.granted .hamada Page.SPM (0x100 + 0x10 * 15 + 4 * (47 / 16))
        (up.blk.fieldWord Page.SPM (0x100 + 0x10 * 15 + 4 * (47 / 16)) (2 * (47 % 16)) 2 v)) ∧
    up.blk.powered (tilePage 15) = true ∧
    (up.blk.inInit 15 (47 * 0x10000) = false ∧ (up.blk.startInit 15 47).inInit 15 (47 * 0x10000) = true) ∧
    (let b := (upWith [(hEn Page.SPM, 1), (SPM.SCRUB_CTRL_EN, 1), (SPM.SCRUB_STATUS_ROW, 3071)]).blk
     b.active Page.SPM = true ∧ b.flag SPM.SCRUB_CTRL_EN = true ∧ b.spm.flips = [] ∧ ¬(b.get SPM.SCRUB_STATUS_ROW + 1 < 3072) ∧
     up.blk.get SPM.SCRUB_STATUS_ROW + 1 < 3072) ∧
    ((struck [0]).isPoisoned 15 98303 = false ∧ (struck [0]).inInit 15 (98303 * 32) = false ∧ (struck [0]).lineFinding 15 98303 = 1) ∧
    ((struck [0, 1]).lineFinding 15 98303 = 2 ∧ ((struck [0, 1]).tagVote 15 (98303 / 8)).attr 15 (98303 / 2048) = 0 ∧
      ((struck [0, 1]).tagVote 15 (98303 / 8)).isFull 15 (98303 / 8) = false) ∧
    (let b := (struck [0, 1]).setTag 15 12287 true
     b.lineFinding 15 98303 = 2 ∧ (b.tagVote 15 (98303 / 8)).isFull 15 (98303 / 8) = true) := by
  unfold Blk.granted; decide +kernel

/-- COUNT of one 32-byte item at 0 against a key at 20h, the result at 100h, with the tags named. -/
def ccWith (tags : Nat) : List Byte :=
  natLe 4 0 ++ natLe 4 1 ++ natLe 4 32 ++ natLe 4 256 ++ [0, 1, BitVec.ofNat 8 tags] ++ List.replicate 13 0
def ccDesc : List Byte := ccWith 0

theorem met_CompareAndCountQueuesAndCompletes :
    (run15.blk.powered (tilePage 15) = true ∧ run15.blk.tstate 15 = tsRun ∧ run15.blk.granted .hamada (tilePage 15) 0x0A0 1 ∧
      (run15.blk.tile 15).cc.length < 5 ∧ (tileIn tsMappedOut).blk.tstate 15 = tsMappedOut) ∧
    (ccGood ccDesc = true ∧ ccDesc.length = 32 ∧ ccGood (List.replicate 32 0) = false ∧
      ccGood (run15.blk.ccDescBytes 15) = false) ∧
    5 ≤ ((withTile run15 { noTile with cc := List.replicate 5 ⟨ccDesc, true⟩ }).blk.tile 15).cc.length ∧
    (let s := withTile run15 { noTile with cc := [⟨ccDesc, true⟩] }
     s.blk.active (tilePage 15) = true ∧ (s.blk.tile 15).cc = [⟨ccDesc, true⟩] ∧
     (s.blk.tagVotes 15 (ccSlots ccDesc)).ccUnmet 15 ccDesc = none ∧
     (let r := ((s.blk.tagVotes 15 (ccSlots ccDesc)).clearUnitWaits 15 15 11).spmRead 15 (ccKey ccDesc) (ccKeyBytes ccDesc) 11
      r.1 = 0 ∧ (r.2.2.spmRead 15 (ccSrc ccDesc) (ccSrcBytes ccDesc) 11).1 = 0) ∧
     ((s.blk.tagVotes 15 (ccSlots (ccWith 1))).ccUnmet 15 (ccWith 1)).isSome = true) := by
  unfold Blk.granted; decide +kernel

def dueInst : Inst := ⟨0, 0, 0, 65535, 0x8001, 0, 0, 0, 0, false, true, .due, false, 0, 0, .trunk, [35], [255], (0, 0), false⟩
def twoTiles (st : Nat) : State :=
  let s := upWith [(hEn Page.SCHED, 1), (hEn (tilePage 15), 1), (hEn (tilePage 0), 1), (TILE.STATUS_TSTATE 15, st), (TILE.STATUS_TSTATE 0, st)]
  s.withBlk (s.blk.setInsts [dueInst])

theorem met_GroupsStartTogetherAndEnd :
    ((twoTiles tsIdle).blk.sched.insts[0]? = some dueInst ∧ mayStartInst [dueInst] 0 dueInst = true ∧
      (twoTiles tsIdle).blk.active Page.SCHED = true ∧ (twoTiles tsIdle).blk.instAge dueInst ≤ dueInst.lastStart ∧
      tilesOf dueInst.mask = [0, 15]) ∧
    (∀ t ∈ [0, 15], (twoTiles tsIdle).blk.powered (tilePage t) = true ∧ (twoTiles tsIdle).blk.tstate t = tsIdle ∧
      (twoTiles tsIdle).blk.tileReady t = true) ∧
    ((twoTiles tsIdle).blk.set (hFrozen (tilePage 15)) 1).tileReady 15 = false ∧
    (run15.blk.powered (tilePage 15) = true ∧ run15.blk.tstate 15 = tsRun) := by decide +kernel

theorem met_TileControlMovesTheTileState :
    (run15.blk.flag (TILE.TCTRL_MAP_OUT 15) = false ∧ run15.blk.tstate 15 = tsRun ∧
      run15.blk.granted .hamada (tilePage 15) 0x040 (run15.blk.fieldWord (tilePage 15) 0x040 3 1 1)) ∧
    ((tileIn tsHalted).blk.flag (TILE.TCTRL_MAP_OUT 15) = false ∧ (tileIn tsHalted).blk.tstate 15 = tsHalted ∧
      (tileIn tsHalted).blk.granted (.erg 0) (tilePage 15) 0x040 ((tileIn tsHalted).blk.fieldWord (tilePage 15) 0x040 1 1 1)) ∧
    (run15.blk.tstate 15 ≠ tsMappedOut ∧ run15.blk.granted .hamada (tilePage 15) 0x040 (run15.blk.fieldWord (tilePage 15) 0x040 0 1 1)) ∧
    (let b := (tileIn tsMappedOut).blk.set (TILE.TCTRL_MAP_OUT 15) 1
     b.flag (TILE.TCTRL_MAP_OUT 15) = true ∧ b.tstate 15 = tsMappedOut ∧
     b.granted .hamada (tilePage 15) 0x040 (b.fieldWord (tilePage 15) 0x040 0 1 0)) ∧
    (let b := (tileIn tsIdle).blk
     b.flag (TILE.TCTRL_MAP_OUT 15) = false ∧ b.tstate 15 = tsIdle ∧ b.active (tilePage 15) = true ∧ (b.tile 15).checking = false ∧
     b.granted .hamada (tilePage 15) 0x040 (b.fieldWord (tilePage 15) 0x040 2 1 1)) ∧
    (((withTile run15 { noTile with checking := true }).blk.tile 15).checking = true ∧ 15 < run15.blk.tiles.length) := by
  unfold Blk.granted; decide +kernel

def window15 (addr : Nat) : Blk := (upWith [(SPM.DBG_ADDR_TILE, 15), (SPM.DBG_ADDR_OFFSET, addr)]).blk

theorem met_DebugWindowReachesAPoweredTile :
    (∀ addr ∈ [spmBytes - 4, spmBytes - 1, spmBytes], let b := window15 addr
      b.get SPM.DBG_ADDR_OFFSET = addr ∧ b.powered (tilePage (b.get SPM.DBG_ADDR_TILE)) = true ∧
      b.accessCause (.erg 0) Page.SPM 0x04C true false 0 = 0 ∧ b.granted .hamada Page.SPM 0x04C 0xFFFFFFFF) ∧
    ((spmBytes - 1) % 4 ≠ 0 ∧ (spmBytes - 4) % 4 = 0 ∧ spmBytes - 4 < spmBytes ∧
      (window15 (spmBytes - 4)).inInit 15 (spmBytes - 4) = false ∧ (window15 (spmBytes - 4)).lineClean 15 ((spmBytes - 4) / 32)) ∧
    (∀ full, (window15 (spmBytes - 1)).granted .hamada Page.SPM 0x050 ((window15 (spmBytes - 1)).fieldWord Page.SPM 0x050 0 1 (bitNat full))) := by
  unfold Blk.granted Blk.lineClean; decide +kernel

/-- A 1 × 1 INT8 pooling of one row, input in slot 0, output in slot 1. -/
def poolDesc : List Byte :=
  [2, 0x10, 1, 0, 1, 1, 0x11, 0x11, 0, 0, 1, 0, 1, 0, 1, 0, 1, 0, 0, 0, 1, 0, 1, 0, 1, 0, 1, 0, 1, 0, 0, 0, 1, 0] ++ List.replicate 30 0
def issued : State := run15.withBlk (run15.blk.spmPut 15 0x400 poolDesc)
def poolRun : OpRun := ⟨poolDesc, 0, 0, 0, [], 0, 0, 0⟩
def queued (full : Bool) : State :=
  withTile (run15.withBlk (run15.blk.setTag 15 0 full)) { noTile with vector := [poolRun] }
/-- What the row's next step comes to: 0 it is complete, 1 it waits, 2 it fails. -/
def stepOf (b : Blk) : Nat :=
  match b.rowStep 15 (unitReads true) (unitWrites true) (opDesc poolDesc) poolRun 0 with
  | (_, .go, _) => 0
  | (_, .wait _ _ _, _) => 1
  | (_, .fault _ _ _, _) => 2

theorem met_OperatorsQueueWaitAndWriteTheirRows :
    (run15.blk.active (tilePage 15) = true ∧ run15.blk.tstate 15 = tsRun ∧ spmBytes < spmBytes - 32 + 64 ∧ 0x400 % 32 = 0 ∧
      0x400 + 64 ≤ spmBytes ∧ (issued.blk.spmRead 15 0x400 64 0).1 = 0 ∧ (issued.blk.spmRead 15 0x400 64 0).2.1 = poolDesc ∧
      (opDesc poolDesc).accepted poolDesc = true ∧ ((issued.blk.setPoison 15 32 true).spmRead 15 0x400 64 0).1 ≠ 0) ∧
    ((∀ full, ((queued full).blk.tile 15).ops true = [poolRun] ∧ (queued full).blk.portTaken 15 (unitReads true) = false ∧
        (queued full).blk.portTaken 15 (unitWrites true) = false) ∧
      ((opDesc poolDesc).gateSlots 0 0).drop 0 = [0] ∧ ((queued false).blk.tagVote 15 0).foundFull 15 0 = false ∧
      ((queued false).blk.tagVote 15 0).unitGranted 15 15 (unitReads true) 0 = false) ∧
    (stepOf (queued true).blk = 0 ∧ stepOf ((queued true).blk.setTag 15 1 true) = 1 ∧
      stepOf ((queued true).blk.setPoison 15 0 true) = 2) ∧
    ((run15.blk.portTaken 15 3 = false ∧ (vecAdd.fmt = 1) ∧ vecAdd.acc = none ∧ vecAdd.a % 32 = 0 ∧ vecAdd.b % 32 = 0 ∧ vecAdd.dst % 32 = 0 ∧
      (run15.blk.vecRead 15 vecAdd.a 32).1 = 0 ∧ ((run15.blk.vecRead 15 vecAdd.a 32).2.2.vecRead 15 vecAdd.b 32).1 = 0) ∧
      ((run15.blk.setTag 15 0 true).vecVotes 15 [vecAdd.a, vecAdd.b]).vecUnmet 15 true [vecAdd.a, vecAdd.b] = none ∧
      (let b := (run15.blk.vecRead 15 vecAdd.a 32).2.2
       ((b.vecRead 15 vecAdd.b 32).2.2.vecWrite 15 vecAdd.dst (packElems 8 (List.replicate 32 0))).1 = 0)) := by decide +kernel

/-! ### Premises met: bulk memory, the mover, weight packing (spec/09, spec/10) -/

def withBulk (s : State) (x : BulkSt) : State := s.withBlk { s.blk with bulk := x }
/-- The last page RELOADING, an access waiting on it for longer than HOLD_LIMIT. -/
def heldPage : State := setEp (withBulk up { up.blk.bulk with
  pages := [(bulkPages - 1, ⟨none, false, true, none⟩)], reloads := [bulkPages - 1], waits := [⟨1, bulkPages - 1, 0, some bulkRd, false⟩] })
  { up.blk.ep with line := 2 ^ 40 }
def lastUnit (bits : List Nat) : Blk := up.blk.setUnitFlips (bulkUnits - 1) bits

theorem met_BulkAccessesReadAndStoreAtTheirAddress :
    (State.reset.blk.bulkReach 0 32 ≠ 0 ∧ up.blk.bulkReach (bulkTop - 31) 32 ≠ 0 ∧ up.blk.bulkReach (bulkTop - 32) 32 = 0) ∧
    (pagesOf (bulkTop - 32) 32).find? (fun p => heldPage.blk.pageHeld p) = some (bulkPages - 1) ∧
    ((pagesOf (bulkTop - 32) 32).find? (fun p => up.blk.pageHeld p) = none ∧
      unitsOf (bulkTop - 32) 32 = [bulkUnits - 1] ∧ bulkUnits - 1 < bulkUnits ∧ (up.blk.bpage ((bulkUnits - 1) / 64)).dead = false ∧
      up.blk.unitPoisoned (bulkUnits - 1) = false ∧ up.blk.unitFlips (bulkUnits - 1) = []) ∧
    (up.blk.setUnitPoison (bulkUnits - 1) true).unitPoisoned (bulkUnits - 1) = true ∧
    (unitFinding ((lastUnit []).unitFlips (bulkUnits - 1)) = 0 ∧ unitFinding ((lastUnit [527]).unitFlips (bulkUnits - 1)) = 1 ∧
      unitFinding ((lastUnit [0, 527]).unitFlips (bulkUnits - 1)) = 2 ∧ unitFinding ((lastUnit [528]).unitFlips (bulkUnits - 1)) = 2) := by
  decide +kernel

def migrating (used : Nat) : State :=
  withBulk up { up.blk.bulk with pages := [(bulkPages - 1, ⟨none, false, false, some 1⟩)], used := used }

theorem met_ReloadsAndMigrationsEnd :
    (heldPage.blk.bulk.reloads = [bulkPages - 1] ∧ heldPage.blk.powered Page.BULK = true ∧ heldPage.blk.powered Page.MOVER = true ∧
      heldPage.blk.reloadFrom (bulkPages - 1) = none ∧
      (let b := ((heldPage.blk.set (BULK.CR_BASE_PAGE 0) (bulkPages - 1)).set (BULK.CR_BASE_AUTO 0) 1).set (BULK.CR_PAGES 0) 1
       (b.reloadFrom (bulkPages - 1)).isSome = true)) ∧
    (up.blk.bulk.reloads = [] ∧ (upOnly 0).blk.powered Page.BULK = false ∧ (upOnly 0).blk.powered Page.MOVER = false) ∧
    (bulkPages - 1 < bulkPages ∧ (up.blk.bpage (bulkPages - 1)).migrating = none ∧
      ((migrating 65536).blk.bpage (bulkPages - 1)).migrating = some 1 ∧ 65536 ≤ (migrating 65536).blk.bulk.used ∧
      ((migrating 65535).blk.bpage (bulkPages - 1)).migrating = some 1 ∧ (migrating 65535).blk.bulk.used < 65536) := by decide +kernel

theorem met_RetirementSharesAndScrub :
    (bulkPages - 1 < bulkPages ∧ 3 < 4 ∧ up.blk.bulk.used < 65536 ∧ ({ up.blk.bulk with used := 65536 } : BulkSt).used ≥ 65536 ∧
      (let b := ((up.blk.set (BULK.CR_BASE_PAGE 0) (bulkPages - 1)).set (BULK.CR_BASE_AUTO 0) 1).set (BULK.CR_PAGES 0) 1
       (b.reloadFrom (bulkPages - 1)).isSome = true ∧ (b.bpage (bulkPages - 1)).reloading = false)) ∧
    (up.blk.granted .hamada Page.BULK 0x074 3 ∧ up.blk.granted (.erg 0) Page.BULK 0x074 7 ∧ up.blk.granted .hamada Page.BULK 0x048 0x3F) ∧
    (up.blk.active Page.BULK = false ∧ (upWith [(hEn Page.BULK, 1), (BULK.SCRUB_CTRL_EN, 0)]).blk.flag BULK.SCRUB_CTRL_EN = false) ∧
    (let b := (upWith [(hEn Page.BULK, 1), (BULK.SCRUB_CTRL_EN, 1), (BULK.SCRUB_POS, bulkUnits - 1)]).blk
     b.active Page.BULK = true ∧ b.flag BULK.SCRUB_CTRL_EN = true ∧ b.get BULK.SCRUB_POS = bulkUnits - 1 ∧ bulkUnits - 1 < bulkUnits) ∧
    (let b : Blk := { (upWith [(BULK.SCRUB_POS, bulkUnits + 63)]).blk with
       bulk := { up.blk.bulk with used := 1, pages := [(5, ⟨some 0, false, false, none⟩)] } }
     b.get BULK.SCRUB_POS = bulkUnits + 63 ∧ b.spareOwner ((bulkUnits + 63 - bulkUnits) / 64) = some 5 ∧
     ({ b with bulk := { b.bulk with pages := [] } } : Blk).spareOwner ((bulkUnits + 63 - bulkUnits) / 64) = none) := by
  unfold Blk.granted; decide +kernel

/-- Channel 7 with a one-entry ring at 1000h and a descriptor there. -/
def channel (st : Nat) (d : List Byte) : State :=
  let s := upWith [(hEn Page.MOVER, 1), (MOVER.RING_CFG_EN 7, 1), (MOVER.RING_CFG_RING_LOG2 7, 1), (MOVER.RING_BASE_LO 7, 0x1000),
    (MOVER.TAIL 7, 1), (MOVER.CH_STATE_STATE 7, st)]
  s.withBlk (s.blk.bulkPut 0x1000 d)
/-- A copy of `height` rows of `width` bytes in bulk memory. -/
def copyOf (src dst width height : Nat) : List Byte :=
  natLe 8 0 ++ natLe 8 src ++ natLe 8 dst ++ natLe 4 width ++ natLe 4 height ++ natLe 4 width ++ natLe 4 width ++ List.replicate 24 0
def copyDesc : List Byte := copyOf 0 0x100 64 1
/-- The same with source and destination in tile 15. -/
def tileCopy (src dst : Nat) : List Byte :=
  [0, 0x11] ++ natLe 6 0 ++ natLe 8 (15 * 2 ^ 48 + src) ++ natLe 8 (15 * 2 ^ 48 + dst) ++ natLe 4 64 ++ natLe 4 1 ++ natLe 4 64 ++ natLe 4 64 ++
    List.replicate 24 0
/-- The channel with its descriptor fetched. -/
def fetched (d : List Byte) : Blk := (channel msRun d).blk.setMover 7 { noMover with desc := d }
def moved (b : Blk) : MStep :=
  let d := b.moverDesc 7
  (Blk.moverChunks 4096 b 7 d ((b.moverCh 7).pos + min 4096 (d.width - (b.moverCh 7).pos % d.width)) []).1

theorem met_MoverChannelsRunTheirDescriptors :
    (4095 < 4096 ∧ up.blk.granted .hamada Page.MOVER (0x10C + 0x20 * 7) (BitVec.ofNat 32 4095) ∧
      up.blk.granted .hamada Page.MOVER (0x118 + 0x20 * 7) 1 ∧ up.blk.granted .hamada Page.MOVER (0x118 + 0x20 * 7) 2 ∧
      up.blk.granted .hamada Page.MOVER (0x118 + 0x20 * 7) 4) ∧
    ((channel msIdle copyDesc).blk.active Page.MOVER = true ∧ (channel msIdle copyDesc).blk.mstate 7 = msIdle ∧
      (channel msIdle copyDesc).blk.flag (MOVER.RING_CFG_EN 7) = true) ∧
    (up.blk.moverPick [] = none ∧ (channel msRun copyDesc).blk.moverPick [] = some 7) ∧
    (up.blk.active Page.MOVER = false ∧ up.blk.moverRuns 7 = false) ∧
    (let b := (channel msRun copyDesc).blk
     b.active Page.MOVER = true ∧ b.moverRuns 7 = true ∧ (match ({ b with moverTurn := 7 } : Blk).moverServe 7 [] with
       | (.more, _) => false | _ => true) = true ∧ 7 < b.mover.length ∧ (b.moverCh 7).desc = [] ∧
     (b.bulkRead (moverCls 7) (b.descAddr 7) 64).1 = 0 ∧ (b.bulkRead (moverCls 7) (b.descAddr 7) 64).2.1 = copyDesc ∧
     mRefusal copyDesc = 0 ∧ (mDesc copyDesc).sheared = false) := by
  unfold Blk.granted; decide +kernel

theorem met_MoverChannelsRunTheirDescriptors_fetch :
    (let b := (channel msRun copyDesc).blk.set (MOVER.RING_BASE_HI 7) 0xFFFF
     (b.bulkRead (moverCls 7) (b.descAddr 7) 64).1 = bkRange ∧ bkRange ≠ 0 ∧ bkRange ≠ bkWait) ∧
    (let b := (withBulk (channel msRun []) { up.blk.bulk with pages := [(1, ⟨none, false, true, none⟩)] }).blk
     (b.bulkRead (moverCls 7) (b.descAddr 7) 64).1 = bkWait) ∧
    mRefusal (List.replicate 64 0xFF) ≠ 0 ∧
    (let d := tileCopy 0 32
     let e := d.take 24 ++ natLe 4 64 ++ natLe 4 2 ++ natLe 4 96 ++ natLe 4 64 ++ List.replicate 24 0
     mRefusal e = 0 ∧ (mDesc e).sheared = true) := by decide +kernel

theorem met_MoverChannelsRunTheirDescriptors_chunks :
    ((fetched copyDesc).moverCh 7).desc ≠ [] ∧
    (((fetched (copyOf 0x100 0x100 64 1)).moverDesc 7).still = true ∧
      ((fetched (copyOf 0x100 0x100 64 1)).moverDesc 7).dstKind ≠ mkSpm) ∧
    (let b := fetched (tileCopy 0x100 0x100)
     (b.moverDesc 7).still = true ∧ (b.moverDesc 7).dstKind = mkSpm ∧
     b.moverGate 7 (bitsAt (b.moverDesc 7).dst 48 4) 0 0 false false = .go ∧
     (b.set (TILE.STATUS_TSTATE 15) tsMappedOut).moverGate 7 (bitsAt (b.moverDesc 7).dst 48 4) 0 0 false false = .fail mcMappedOut) ∧
    (let b := fetched copyDesc
     (b.moverDesc 7).still = false ∧ moved b = .go ∧
     moved { b with bulk := { b.bulk with poison := [(0, true)] } } = .fail (moverCauseOfBulk bkPoison) ∧
     moved { b with bulk := { b.bulk with pages := [(0, ⟨none, false, true, none⟩)] } } = .wait none) ∧
    (let waitFull := [0, 0x11, 1] ++ (tileCopy 0 0x100).drop 3
     moved (fetched waitFull) = .wait (some (15, 0, .readFull))) ∧
    (let b := (fetched (copyOf 0 0x4000 4096 2))
     (moved b = .go ∧ 4096 < (b.moverDesc 7).total) ∧ (moved (fetched copyDesc) = .go ∧ (mDesc copyDesc).total = 64)) := by decide +kernel

theorem met_MoverChannelsRunTheirDescriptors_chunk :
    let b := fetched copyDesc
    let d := mDesc copyDesc
    let k := d.chunkAt (b.moverCh 7).pos
    let x := b.bulkRead (moverCls 7) (k.addr d.src d.srcStride) k.n
    let y := x.2.2.bulkWrite (moverCls 7) (k.addr d.dst d.dstStride) x.2.1
    7 < b.mover.length ∧ d.srcKind = mkBulk ∧ d.dstKind = mkBulk ∧ d.isFill = false ∧ x.1 = 0 ∧ y.1 = 0 ∧ (y.2.moverCh 7).desc ≠ [] := by
  decide +kernel

def packSetup (n : Nat) : State := upWith [(hEn Page.PACK, 1), (PACK.PLAIN_BYTES, n), (PACK.DST_LO, 0x100000), (PACK.DST_LIMIT, 4096)]
def packWord (s : State) : Word := s.blk.fieldWord Page.PACK 0x040 0 1 1
def testJob (verify deltaOn : Bool) : PackJob := ⟨verify, false, deltaOn, false, 0, 32, 0, 0, 0xFFFFFFFF, 0x100000, 4096⟩
def packing (j : PackJob) : State := (packSetup 32).withBlk { (packSetup 32).blk with pack := { up.blk.pack with pass := some j } }
def segsOf (j : PackJob) (b : Blk) : Nat × Blk := Blk.packSegs (ceilDiv j.plain 65536) b j
/-- The packed form of 32 zero bytes, RAW; CRC-32C of 32 zero bytes is 8A9136AAh. -/
def zeroTensor : List Byte :=
  natLe 2 0x5057 ++ [1, 0] ++ natLe 4 32 ++ natLe 4 1 ++ natLe 4 0xFFFFFFFF ++ natLe 4 160 ++ natLe 4 0x8A9136AA ++ List.replicate 36 0 ++
  [57, 242, 201, 132] ++ [0, 0, 1, 0, 96] ++ List.replicate 91 0
def expanding : State :=
  let s := (upWith [(hEn Page.PACK, 1)]).withBlk ((upWith [(hEn Page.PACK, 1)]).blk.spmPut 15 0 zeroTensor)
  s.withBlk { s.blk with pack := { up.blk.pack with expand := some ⟨15, 0, 0x1000⟩ } }

theorem met_PackAndExpandRunToTheirEnd :
    ((packing (testJob true false)).blk.granted .hamada Page.PACK 0x040 (packWord (packing (testJob true false))) ∧
      (packing (testJob true false)).blk.pack.pass.isSome = true) ∧
    (up.blk.pack.pass = none ∧ up.blk.granted .hamada Page.PACK 0x040 (packWord up) ∧
      (up.blk.storeKey (regKey Page.PACK 0x040) (packWord up)).active Page.PACK = false) ∧
    (let s := packSetup 3145728
     let st := s.blk.storeKey (regKey Page.PACK 0x040) (packWord s)
     s.blk.granted .hamada Page.PACK 0x040 (packWord s) ∧ s.blk.pack.pass = none ∧ st.active Page.PACK = true ∧
     st.get PACK.PLAIN_BYTES = 3145728 ∧ (st.packMagic st.packJob).1 = 0 ∧ st.get PACK.PACK_CTRL_FMT ≤ 5 ∧
     ¬(st.flag PACK.PACK_CTRL_SHADOW = true ∧ st.flag PACK.PACK_CTRL_DELTA_ALLOW = true) ∧
     (let far := st.set PACK.DST_HI 0xFFFF
      (far.packMagic far.packJob).1 ≠ 0) ∧
     ((packSetup 3145760).blk.storeKey (regKey Page.PACK 0x040) (packWord s)).get PACK.PLAIN_BYTES = 3145760) ∧
    (let s := packSetup 32
     let st := (s.blk.set PACK.PACK_CTRL_FMT 6).storeKey (regKey Page.PACK 0x040) ((s.blk.set PACK.PACK_CTRL_FMT 6).fieldWord Page.PACK 0x040 0 1 1)
     ¬ st.get PACK.PACK_CTRL_FMT ≤ 5) := by
  unfold Blk.granted; decide +kernel

theorem met_PackAndExpandRunToTheirEnd_pass :
    (let j := testJob false false
     let b := (packing j).blk
     b.pack.pass = some j ∧ b.active Page.PACK = true ∧ (segsOf j b).1 = 0 ∧ (segsOf j b).2.pack.run.headed = false ∧
     ((segsOf j b).2.packHead j).1 = 0 ∧ j.verify = false) ∧
    (let j := testJob true false
     let b := (packing j).blk
     let x := (segsOf j b).2.packHead j
     x.1 = 0 ∧ (x.2.packVerify j).1 = 0 ∧ (({ x.2 with bulk := { x.2.bulk with bytes := [] } } : Blk).packVerify j).1 ≠ 0) ∧
    (let j := { testJob false false with limit := 63 }
     (segsOf j (packing j).blk).1 = pkDstFull) ∧
    (let j := testJob false false
     let b : Blk := { (packing j).blk with bulk := { up.blk.bulk with pages := [(0, ⟨none, false, true, none⟩)] } }
     (segsOf j b).1 = bkWait) := by decide +kernel

theorem met_PackAndExpandRunToTheirEnd_segment :
    (∀ delta, let j := testJob false delta
      let b := (packing j).blk
      let x := (b.set PACK.STATUS_PSTATE 1).bulkRead 4 (j.src + b.pack.run.plain.length) (min 65536 (j.plain - b.pack.run.plain.length))
      let y := if j.deltaOn = true then x.2.2.bulkRead 4 (j.baseSrc + b.pack.run.plain.length) 32 else (0, [], x.2.2)
      let chosen := chooseMethod j.fmt j.expOn j.deltaOn x.2.1 y.2.1
      let seg := storeSegment j.fmt chosen.1 x.2.1 chosen.2.1
      x.1 = 0 ∧ y.1 = 0 ∧ 64 + b.pack.run.out.length + seg.length ≤ j.limit ∧ 63 < 64 + b.pack.run.out.length + seg.length ∧
      (((y.2.2.packHist chosen.2.2).set PACK.STATUS_PSTATE 2).bulkWrite 4 (j.dst + (64 + b.pack.run.out.length)) seg).1 = 0) ∧
    (let j := testJob false false
     let b := (segsOf j (packing j).blk).2
     64 ≤ j.limit ∧ 63 < 64 ∧ (b.bulkWrite 4 j.dst (packHeader j b.pack.run (b.get PACK.METHOD_COUNT_DELTA != 0)).1).1 = 0) := by decide +kernel

/-- Tile 15 ready to expand the tensor at 0 to an address. -/
def expandTo (dst : Nat) : Blk :=
  ((upWith [(hEn Page.PACK, 1), (hEn (tilePage 15), 1), (PACK.EXP_DST, dst)]).blk.spmPut 15 0 zeroTensor).storeKey
    (regKey Page.PACK 0x0C0) (BitVec.ofNat 32 (256 + 15))

theorem met_PackAndExpandRunToTheirEnd_expand :
    (up.blk.granted .hamada Page.PACK 0x0C0 (BitVec.ofNat 32 (256 + 15)) ∧
      (up.blk.storeKey (regKey Page.PACK 0x0C0) (BitVec.ofNat 32 (256 + 15))).active Page.PACK = false) ∧
    ((expandTo 0x1000).active Page.PACK = true ∧ (expandTo 0x1000).tileReady 15 = true ∧ (expandTo 0x1000).pack.expand = none ∧
      (expandTo 0x1000).get PACK.EXP_SRC + 64 ≤ spmBytes ∧ (tensorHead ((expandTo 0x1000).spmGet 15 0 64) none).map (fun x => x.plain) = some 32 ∧
      ¬ spmBytes < 0x1000 + 32 ∧ overlaps 0 160 0x1000 32 = false ∧ spmBytes < (expandTo (spmBytes - 16)).get PACK.EXP_DST + 32 ∧
      ((expandTo 0x1000).set (TILE.STATUS_TSTATE 15) tsMappedOut).tileReady 15 = false) ∧
    (up.blk.pack.expand = none ∧ expanding.blk.pack.expand = some ⟨15, 0, 0x1000⟩ ∧ expanding.blk.powered (tilePage 15) = true ∧
      expanding.blk.enabled Page.PACK = true ∧ (expandTensor (tileReader 15 0) 0 none none expanding.blk).1.cause = 0 ∧
      (expanding.blk.set (hEn Page.PACK) 0).enabled Page.PACK = false ∧
      (expandTensor (tileReader 15 0) 0 none none (expanding.blk.spmPut 15 64 [9])).1.cause ≠ 0) := by
  unfold Blk.granted; decide +kernel

/-! ### Premises met: ports, routing, remote memory access (spec/11, spec/12) -/

/-- Port 3 in a state. -/
def portIn (st : Nat) (x : PortSt) : State :=
  let s := upWith [(hEn (portPage 3), 1), (hEn Page.XROUTE, 1), (XPORT.STATUS_LSTATE 3, st)]
  setEp (s.withBlk (s.blk.setPort 3 x)) { s.blk.ep with line := 300000 }

theorem met_PortsTrainThroughTheirStates :
    ((portIn lsOpen noPort).blk.lstate 3 = lsOpen ∧ lsOpen ≠ lsDetect ∧ lsOpen ≠ lsEqualise ∧ lsOpen ≠ lsAlign ∧ lsOpen ≠ lsMeasure ∧
      ¬(lsEqualise ≤ lsOpen ∧ lsOpen ≤ lsMeasure) ∧ ((portIn lsDetect { noPort with backoff := some 300000 }).blk.port 3).backoff = some 300000 ∧
      (portIn lsDetect { noPort with backoff := some 300000 }).blk.linesSince 300000 < 300000 ∧
      (portIn lsDetect noPort).blk.lstate 3 < lsIdent ∧ ((portIn lsIdent noPort).blk.set (XPORT.STATUS_TAP_MODE 3) 1).flag (XPORT.STATUS_TAP_MODE 3) = true ∧
      ((portIn lsIdent noPort).blk.set (XPORT.STATUS_MISCABLED 3) 1).flag (XPORT.STATUS_MISCABLED 3) = true) ∧
    (up.blk.powered (portPage 3) = true ∧ (portIn lsDetect noPort).blk.lstate 3 = lsDetect ∧
      ((portIn lsDetect noPort).blk.port 3).backoff = none ∧ (portIn lsEqualise noPort).blk.lstate 3 = lsEqualise ∧
      (portIn lsAlign noPort).blk.lstate 3 = lsAlign) ∧
    (lsIdent ≤ (portIn lsIdent noPort).blk.lstate 3 ∧ (portIn lsIdent noPort).blk.flag (XPORT.STATUS_TAP_MODE 3) = false ∧
      ((portIn lsIdent noPort).blk.port 3).ident = none ∧ (15 < 16 ∧ 15 ≠ 1) ∧ (portIn lsIdent noPort).blk.identFits 3 [0, 0] = true ∧
      (let b := (portIn lsIdent noPort).blk.setWord (regKey Page.XROUTE 0x044) 0x07FFFFFF
       b.lstate 3 = lsIdent ∧ b.identFits 3 [0, 0] = false)) ∧
    (lsMeasure ≤ (portIn lsOpen { noPort with ident := some [1] }).blk.lstate 3 ∧
      ((portIn lsOpen { noPort with ident := some [1] }).blk.port 3).ident = some [1] ∧ [(1 : Byte)] ≠ [2]) ∧
    ((portIn lsMeasure noPort).blk.lstate 3 = lsMeasure ∧ (0 : Int) ≤ 1000000 ∧ (1000000 : Int) ≤ 1000000 ∧ 1000000 < (1000001 : Int)) ∧
    ((portIn lsMeasure { noPort with fails := 2 }).blk.flag (XPORT.STATUS_MISCABLED 3) = false ∧ lsEqualise ≤ lsMeasure ∧
      3 < (portIn lsMeasure noPort).blk.ports.length) ∧
    (((portIn lsDetect { noPort with backoff := some 0 }).blk.port 3).backoff = some 0 ∧
      300000 ≤ (portIn lsDetect { noPort with backoff := some 0 }).blk.linesSince 0) ∧
    (let w := fun (b : Blk) (lo : Nat) => b.fieldWord (portPage 3) 0x040 lo 1 1
     let b := (portIn lsTrained noPort).blk
     let c := (portIn lsDetect noPort).blk
     b.lstate 3 = lsTrained ∧ b.granted .hamada (portPage 3) 0x040 (w b 0) ∧ (w b 0).getLsbD 2 = false ∧
     b.granted .hamada (portPage 3) 0x040 (w b 1) ∧ (w b 1).getLsbD 2 = false ∧
     c.lstate 3 ≠ lsTrained ∧ c.lstate 3 ≠ lsOpen ∧ c.lstate 3 < lsIdent ∧ c.granted .hamada (portPage 3) 0x040 (w c 0) ∧
     (w c 0).getLsbD 2 = false ∧ c.granted .hamada (portPage 3) 0x040 (w c 1) ∧ (w c 1).getLsbD 2 = false) := by
  unfold Blk.granted; decide +kernel

def goodPkt (cls type : Nat) (loc : Bool) : Packet := sealed { testPacket with cls := cls, type := type, loc := loc, xver := 1 }
def arrived (k : Packet) (tail : Bool) : Arrival := ⟨3, tail, k, k.cls, false, false, 0, 0, 0⟩
def forNode9 : Packet := { goodPkt 1 0 false with dst := 9 }
def waitingOut : State :=
  (portIn lsTrained { noPort with waiting := [(4, goodPkt 3 0 false)] }).withBlk
    ((portIn lsTrained { noPort with waiting := [(4, goodPkt 3 0 false)] }).blk.set (XPORT.STATUS_PAUSE_TX 3) 8)

theorem met_PacketsAreCheckedRoutedAndPaused :
    ((portIn lsDetect noPort).blk.lstate 3 < lsIdent ∧ lsIdent ≤ (portIn lsOpen noPort).blk.lstate 3 ∧
      ((portIn lsOpen noPort).blk.port 3).arriving.find? (fun e => e.1.cls == 1) = none ∧
      ((portIn lsOpen { noPort with arriving := [(goodPkt 1 0 false, 4)] }).blk.port 3).arriving.find? (fun e => e.1.cls == 1) =
        some (goodPkt 1 0 false, 4) ∧
      (arrived (goodPkt 1 0 false) true).tail = true ∧ (arrived (goodPkt 1 0 false) false).tail = false) ∧
    (let b := (portIn lsOpen noPort).blk
     headerFails (arrived { goodPkt 1 0 false with hcrc := 0 } true) = true ∧ headerFails (arrived (goodPkt 1 0 false) true) = false ∧
     b.carries 3 (goodPkt 1 0 false) = true ∧ (portIn lsTrained noPort).blk.carries 3 (goodPkt 1 0 false) = false ∧
     headerFails (arrived (goodPkt 0 0x40 true) true) = false ∧ (goodPkt 0 0x40 true).loc = true ∧ b.carries 3 (goodPkt 0 0x40 true) = true ∧
     b.active Page.XROUTE = true ∧ (b.set (hEn Page.XROUTE) 0).active Page.XROUTE = false ∧
     (goodPkt 1 0 false).dst = b.get XROUTE.NODE_ID ∧ forNode9.dst ≠ b.get XROUTE.NODE_ID ∧
     b.routeOf 3 forNode9 = .inr 1 ∧
     (let c : Blk := (b.set (XPORT.STATUS_LSTATE 0) lsOpen)
      c.routeOf 3 forNode9 = .inl 0 ∧ (c.rtEntry forNode9.dst = 0 ∧ c.portTakes 0 forNode9 = true ∧ c.portTakes 1 forNode9 = false))) ∧
    (crcState (goodPkt 1 0 false) false = 0 ∧ crcState { goodPkt 1 0 false with crc := 0 } false ≠ 0) ∧
    ((portIn lsOpen noPort).blk.mayStart 3 1 = true ∧ (goodPkt 1 0 false).type ≠ 0x40 ∧ waitingOut.blk.mayStart 3 3 = false) := by
  decide +kernel

theorem met_PacketsAreCheckedRoutedAndPaused_pause :
    ((portIn lsDetect noPort).blk.trained 3 = false ∧ waitingOut.blk.trained 3 = true ∧ waitingOut.blk.classPaused 3 3 = true ∧
      waitingOut.blk.classPaused 3 3 ≠ false ∧ 3 < waitingOut.blk.ports.length ∧
      (∀ e ∈ (waitingOut.blk.port 3).waiting, e.1 ≤ 4 ∧ e.2.cls < 4) ∧ (waitingOut.blk.port 3).waiting ≠ []) ∧
    (let s := portIn lsOpen { noPort with pausedAt := [none, none, none, some 0] }
     nth (s.blk.port 3).pausedAt 3 none = some 0 ∧ s.blk.get (XPORT.PAUSE_WARN 3) ≤ s.blk.linesSince 0 ∧
     nth (s.blk.port 3).warned 3 false = false ∧ nth ({ noPort with warned := [false, false, false, true] } : PortSt).warned 3 false = true ∧
     nth noPort.pausedAt 3 none = none) ∧
    (let b := (portIn lsOpen noPort).blk
     ((b.addSat (XPORT.FEC_UNCORR 3) (65535 - 0)).get (XPORT.UNCORR_LIMIT 3) < 65535) ∧
     0 ≤ (b.addSat (XPORT.FEC_UNCORR 3) (0 - 0)).get (XPORT.UNCORR_LIMIT 3)) ∧
    (let w := fun b : Blk => BitVec.ofNat 32 (putBits (putBits (b.rwWord (portPage 3) 0x040) 2 1 1) 8 6 63)
     up.blk.granted .hamada (portPage 3) 0x040 (w up.blk) ∧ up.blk.flag OASIS.STATUS_PRES_WINDOW = false ∧
     (let b := (upWith [(LIFE.STATE, 3), (OASIS.STATUS_PRES_WINDOW, 1)]).blk
      b.granted .hamada (portPage 3) 0x040 (w b) ∧ b.get LIFE.STATE = 3 ∧ b.flag OASIS.STATUS_PRES_WINDOW = true)) := by
  unfold Blk.granted; decide +kernel

def armedRoute : State := upWith [(hEn Page.XROUTE, 1), (XROUTE.RT_ARM_ARMED, 1), (XROUTE.RT_ARM_EPOCH, 65535), (XROUTE.RS_AT_LO, 4),
  (hEn (portPage 3), 1), (XPORT.STATUS_LSTATE 3, 6)]
def epochDue (pend : Option (Nat × Coord)) : Blk := { armedRoute.blk with route := { armedRoute.blk.route with pending := pend } }

theorem met_RoutingTablesSwitchAtTheirEpoch :
    (255 < 256 ∧ up.blk.granted .hamada Page.XROUTE 0x040 (BitVec.ofNat 32 255) ∧
      up.blk.accessCause .hamada Page.XROUTE 0x054 true false 0 = 0 ∧
      up.blk.granted .hamada Page.XROUTE 0x054 0x33333333 ∧ up.blk.get XROUTE.RT_SEL_BANK = up.blk.get XROUTE.STATUS_TABLE_ACTIVE ∧
      (upWith [(XROUTE.RT_SEL_BANK, 1)]).blk.get XROUTE.RT_SEL_BANK ≠ (upWith [(XROUTE.RT_SEL_BANK, 1)]).blk.get XROUTE.STATUS_TABLE_ACTIVE ∧
      up.blk.granted .hamada Page.XROUTE 0x058 (BitVec.ofNat 32 (65535 * 65536 + bitNat true))) ∧
    (let b := armedRoute.blk
     let at_ := coordOfNat (b.get XROUTE.RS_AT_LO + 2 ^ 32 * b.get XROUTE.RS_AT_HI)
     b.granted .hamada Page.XROUTE 0x068 (BitVec.ofNat 32 (65535 * 65536 + 1)) ∧ b.flag XROUTE.RT_ARM_ARMED = true ∧
     b.get XROUTE.RT_ARM_EPOCH = 65535 ∧ up.blk.flag XROUTE.RT_ARM_ARMED = false ∧
     coordReached (b.coordPlus b.now 3) (b.normal at_) = false) ∧
    coordReached (up.blk.coordPlus up.blk.now 3) (up.blk.normal ⟨0, 3⟩) = true ∧
    (armedRoute.blk.enabled Page.XROUTE = true ∧ armedRoute.blk.fleetPort 3 = true ∧
      newerEpoch 5 (armedRoute.blk.get XROUTE.RS_STATUS_LAST_EPOCH) = true ∧
      newerEpoch 0 (armedRoute.blk.get XROUTE.RS_STATUS_LAST_EPOCH) = false ∧ (armedRoute.blk.get XROUTE.RT_ARM_EPOCH = 65535) ∧
      (epochDue (some (1, ⟨0, 0⟩))).route.pending = some (1, ⟨0, 0⟩) ∧ newerEpoch 5 1 = true ∧ newerEpoch 1 65535 = true ∧
      (epochDue (some (65534, ⟨0, 0⟩))).route.pending = some (65534, ⟨0, 0⟩) ∧ newerEpoch 65535 65534 = true ∧ newerEpoch 65534 65535 = false ∧
      armedRoute.blk.reached ⟨0, 0⟩ = true ∧ armedRoute.blk.reached ⟨1, 0⟩ = false) ∧
    ((epochDue (some (7, ⟨1, 0⟩))).reached ⟨1, 0⟩ = false ∧
      (epochDue (some (7, ⟨0, 0⟩))).route.pending = some (7, ⟨0, 0⟩) ∧ (epochDue (some (7, ⟨0, 0⟩))).powered Page.XROUTE = true ∧
      (epochDue (some (7, ⟨0, 0⟩))).reached ⟨0, 0⟩ = true) := by
  unfold Blk.granted; decide +kernel

/-- Queue pair 255 in a state, to node 9. -/
def qpIn (st : Nat) (x : QpSt) : State :=
  let s := upWith [(hEn Page.XQP, 1), (XQP.QP_SEL, 255), (XQP.WIN_SEL, 1023), (XQP.QCTX0_STATE 255, st), (XQP.QCTX0_CLASS 255, 1),
    (XQP.QCTX0_PEER_NODE 255, 9), (XQP.CQ_CFG_EN 0, 1), (XQP.QCTX5_SQ_LOG2 255, 12)]
  s.withBlk (s.blk.setQp 255 x)
def stateWord (s : State) (code : Nat) : Word := s.blk.fieldWord Page.XQP 0x050 0 3 code
/-- A request of a state in a state of the queue pair. -/
def asked (st code : Nat) : Prop :=
  let s := qpIn st noQp
  s.blk.granted .hamada Page.XQP 0x050 (stateWord s code) ∧ s.blk.qstate 255 = st ∧ s.blk.get XQP.QP_SEL = 255

theorem met_WindowsAndQueuePairStatesAsRequested :
    (let b := (qpIn qsReset noQp).blk
     b.granted .hamada Page.XQP 0x088 (b.fieldWord Page.XQP 0x088 31 1 1) ∧ b.flag (XQP.WIN1_EN 1023) = false ∧ b.winOk 1023 = true ∧
     b.granted .hamada Page.XQP 0x088 (b.fieldWord Page.XQP 0x088 31 1 0) ∧ b.get XQP.WIN_SEL = 1023 ∧
     (let on := b.set (XQP.WIN1_EN 1023) 1
      on.flag (XQP.WIN1_EN 1023) = true ∧ on.granted .hamada Page.XQP 0x088 (on.fieldWord Page.XQP 0x088 31 1 1)) ∧
     (let bad := b.set (XQP.WIN2_LENGTH 1023) 2
      bad.winOk 1023 = false ∧ bad.flag (XQP.WIN1_EN 1023) = false ∧ bad.flag (hCapValid Page.XQP) = false ∧
      bad.granted .hamada Page.XQP 0x088 (bad.fieldWord Page.XQP 0x088 31 1 1))) ∧
    (asked qsReset qsInit ∧ asked qsInit qsInit ∧ asked qsInit qsReady ∧ asked qsInit qsReset ∧ asked qsError qsReset ∧ asked qsReady qsError ∧
      asked qsReset qsReset ∧ asked qsReady qsReset ∧ asked qsReady qsReady) ∧
    ((qpIn qsInit noQp).blk.qpValid 255 = true ∧ ((qpIn qsInit noQp).blk.set (XQP.CQ_CFG_EN 0) 0).qpValid 255 = false ∧
      (let b := (qpIn qsInit noQp).blk.set (XQP.CQ_CFG_EN 0) 0
       b.qstate 255 = qsInit ∧ b.granted .hamada Page.XQP 0x050 (b.fieldWord Page.XQP 0x050 0 3 qsReady))) ∧
    ((qpIn qsError noQp).blk.flag (XQP.QCTX9_FLUSHING 255) = false ∧
      (let b := (qpIn qsError noQp).blk.set (XQP.QCTX9_FLUSHING 255) 1
       b.flag (XQP.QCTX9_FLUSHING 255) = true ∧ b.qstate 255 = qsError ∧
       b.granted .hamada Page.XQP 0x050 (b.fieldWord Page.XQP 0x050 0 3 qsReset))) ∧
    (3 < 4 ∧ up.blk.granted .hamada Page.XQP (0x214 + 0x20 * 3) 1) := by
  unfold asked Blk.granted; decide +kernel

theorem met_WindowsAndQueuePairStatesAsRequested_flush :
    (let b := (qpIn qsError { noQp with resetWaits := true }).blk.set (XQP.QCTX9_FLUSHING 255) 1
     b.arriveOwn.flag (XQP.QCTX9_FLUSHING 255) = true ∧
     (let d := (b.arriveOwn.flushMore 255).drainCompletions
      d.flag (XQP.QCTX9_FLUSHING 255) = true ∧ (d.qp 255).flush = [] ∧ (∀ c ∈ d.fab.completions, leAt c.bytes 2 1 ≠ 255) ∧
      (d.qp 255).resetWaits = true)) ∧
    (qpIn qsError noQp).blk.arriveOwn.drainCompletions.flag (XQP.QCTX9_FLUSHING 255) = false := by decide +kernel

def writeOf (len : Nat) : WorkReq := ⟨0, true, true, false, 0, len, 0, 0, 0, 0⟩
def oneWrite : SendJob := ⟨0, .request 0, writeOf 513, 0, 0, false, []⟩
def outPkt (psn : Nat) : OutPkt := ⟨0, 4, true, { testPacket with psn := psn }⟩
def ackOf (psn : Nat) : Packet := { testPacket with type := 4, dqp := 255, src := 9, psn := psn }
def nakOf (psn : Nat) : Packet := { ackOf psn with type := 5 }

theorem met_QueuePairsSendResendAndAcknowledge :
    (up.blk.granted .hamada Page.XQP 0x044 (BitVec.ofNat 32 (255 + 65536 * 4095)) ∧ up.blk.route.own = []) ∧
    (let b := (qpIn qsReady noQp).blk.arriveOwn
     b.active Page.XQP = true ∧ b.qstate 255 = qsReady ∧ up.blk.arriveOwn.active Page.XQP = false ∧
     (b.qp 255).resend = [] ∧ (b.qp 255).jobs.find? (fun j => !j.allSent) = none ∧ (b.takeItem 255).qstate 255 = qsReady ∧
     ((b.takeItem 255).qp 255).jobs.find? (fun j => !j.allSent) = none) ∧
    ((qpIn qsReset noQp).blk.arriveOwn.qstate 255 ≠ qsReady ∧
      ((qpIn qsReady { noQp with resend := [outPkt 0] }).blk.arriveOwn.qp 255).resend = [outPkt 0] ∧
      ((qpIn qsReady { noQp with jobs := [oneWrite] }).blk.arriveOwn.qp 255).jobs.find? (fun j => !j.allSent) = some oneWrite) ∧
    (let ring := fun (w : List Byte) => (qpIn qsReady { noQp with queue := [.request 0] }).blk.bulkPut 0 w
     let good : List Byte := [0] ++ List.replicate 11 0 ++ natLe 4 4 ++ List.replicate 16 0
     ((ring (List.replicate 32 0xFF)).takeItem 255).qstate 255 ≠ qsReady ∧
     (((ring good).takeItem 255).qp 255).jobs.length ≤ 1) ∧
    (oneWrite.from_ = .request 0 ∧ oneWrite.wr.op ≤ 1 ∧ oneWrite.wr.ltag = false ∧ oneWrite.sent < oneWrite.wr.len ∧
      (up.blk.placeRead (sendEng 255) (fabSpace 0) (fabTile 0) (fabOff 0 + 0) 512).1 = 0 ∧
      (upOnly 0).blk.placeCause (fabSpace 0) (fabTile 0) (fabOff 0 + 0) 512 ≠ 0) := by
  unfold Blk.granted; decide +kernel

theorem met_QueuePairsSendResendAndAcknowledge_acks :
    (let b := (qpIn qsReady { noQp with out := [outPkt 0xFFFFFF], jobs := [{ oneWrite with allSent := true }] }).blk.arriveOwn
     rmaOk 4 (ackOf 0xFFFFFF) 4 = true ∧ b.qpAccepts 255 (ackOf 0xFFFFFF) = none ∧
     (let ahead := psnSub (b.get (XQP.QCTX1_SQ_PSN 255)) 0xFFFFFF
      1 ≤ ahead ∧ ahead < 2 ^ 23) ∧ psnSub (b.get (XQP.QCTX1_SQ_PSN 255)) 0 = 0 ∧ psnSub (b.get (XQP.QCTX1_SQ_PSN 255)) (2 ^ 23) = 2 ^ 23 ∧
     (b.qp 255).out.filter (freedBy 0xFFFFFF) = [outPkt 0xFFFFFF] ∧ (b.qp 255).out.filter (freedBy 0xFFFFFE) = [] ∧
     b.active Page.XQP = true ∧ b.qstate 255 = qsReady ∧ (b.qp 255).out = [outPkt 0xFFFFFF] ∧
     b.get (XQP.QCTX0_RETRY_MAX 255) ≤ b.get (XQP.QCTX9_RETRIES 255) ∧
     (let t := b.set (XQP.QCTX0_RETRY_MAX 255) 7
      t.get (XQP.QCTX9_RETRIES 255) < t.get (XQP.QCTX0_RETRY_MAX 255))) ∧
    (({ outPkt 0 with pkt := { testPacket with type := 2 } } : OutPkt).pkt.type = 2) ∧
    ((qpIn qsReset noQp).blk.arriveOwn.qpAccepts 255 (ackOf 0)).isSome = true ∧
    (rmaOk 4 (nakOf 0) 5 = true ∧ (qpIn qsReady noQp).blk.arriveOwn.qpAccepts 255 (nakOf 0) = none ∧
      ((qpIn qsReset noQp).blk.arriveOwn.qpAccepts 255 (nakOf 0)).isSome = true) ∧
    (let x := (qpIn qsReady { noQp with ackDue := true, lastPlaced := some 5 }).blk.arriveOwn.qp 255
     x.ackDue = true ∧ x.lastPlaced = some 5 ∧ noQp.ackDue = false) := by decide +kernel

def reqOf (psn type : Nat) : Packet := { testPacket with type := type, dqp := 255, src := 9, psn := psn, payload := [1, 2, 3, 4] }
def rxOf (type : Nat) (tags started : Bool) : RxPkt :=
  ⟨255, reqOf 0 type, some 3, 0, 15, 0, 4, tags, if tags then [0] else [], [], 0, none, false, started⟩
def withFab (s : State) (x : FabSt) : State := s.withBlk { s.blk with fab := x }
def readJob : SendJob := ⟨0, .request 0, ⟨2, true, true, false, 0, 4, 0, 0, 0, 0⟩, 0, 0, true, []⟩
def readOut : OutPkt := ⟨0, 4, true, { testPacket with type := 2, imm := 4 }⟩
def withRx (r : RxPkt) : State := withFab (qpIn qsReady noQp) { (qpIn qsReady noQp).blk.fab with rx := [r] }
def heldWait : Wait := ⟨255, 10, 10, 0, .writeEmpty, 0, false, none⟩
def heldRx (line : BitVec 48) : State :=
  let s := withRx (rxOf 0 true false)
  setEp (s.withBlk ((s.blk.setTag 15 0 true).addWait 15 heldWait)) { s.blk.ep with line := line }

theorem met_RequestsArePlacedAndWadiEntriesFire :
    (let b := (qpIn qsReady noQp).blk.arriveOwn
     rmaOk 4 (reqOf 0 0) 0 = true ∧ rmaOk 3 (reqOf 0 1) 1 = true ∧ rmaOk 0 (reqOf 0 2) 2 = true ∧ b.active Page.XQP = true ∧
     up.blk.arriveOwn.active Page.XQP = false ∧ b.qstate 255 = qsReady ∧
     (reqOf 0 0).src = b.get (XQP.QCTX0_PEER_NODE 255) ∧ psnSub 0 (b.get (XQP.QCTX2_RQ_PSN 255)) = 0 ∧
     psnSub 1023 0 = 1023 ∧ psnSub 1024 0 = 1024 ∧ psnSub (2 ^ 24 - 1025) 0 = 2 ^ 24 - 1025 ∧ psnSub (2 ^ 24 - 1024) 0 = 2 ^ 24 - 1024 ∧
     (b.qp 255).nakSent = false ∧ ((qpIn qsReady { noQp with nakSent := true }).blk.arriveOwn.qp 255).nakSent = true ∧
     (qpIn qsError noQp).blk.arriveOwn.qstate 255 = qsError ∧ (qpIn qsReset noQp).blk.arriveOwn.qstate 255 = qsReset ∧
     b.flag (XQP.WIN1_EN 0) = false) ∧
    (let b := (upWith [(XQP.WIN1_EN 1023, 1), (XQP.WIN1_W 1023, 1), (XQP.WIN1_R 1023, 1), (XQP.WIN4_PEER 1023, 255), (XQP.WIN2_LENGTH 1023, 4)]).blk
     b.flag (XQP.WIN1_EN 1023) = true ∧ b.accessCheck { reqOf 0 0 with win := 1023 } = 0 ∧
     b.accessCheck { reqOf 0 2 with win := 1023, imm := 4, payload := [] } = 0 ∧ 1 ≠ b.get (XQP.WIN3_KEY 1023)) ∧
    (let b := (qpIn qsReady { noQp with out := [readOut], jobs := [readJob] }).blk.arriveOwn
     rmaOk 4 (reqOf 0 3) 3 = true ∧ b.qpAccepts 255 (reqOf 0 3) = none ∧
     (b.qp 255).out.find? (fun o => o.pkt.type == 2) = some readOut ∧
     (b.qp 255).jobs.find? (fun j => j.id == readOut.job) = some readJob ∧ (reqOf 0 3).psn = readOut.pkt.psn ∧
     (reqOf 0 3).payload.length ≤ readOut.pkt.imm ∧ (reqOf 1 3).psn ≠ readOut.pkt.psn ∧
     ((qpIn qsReady { noQp with out := [readOut] }).blk.arriveOwn.qp 255).jobs.find? (fun j => j.id == readOut.job) = none ∧
     ((qpIn qsReady noQp).blk.arriveOwn.qp 255).out.find? (fun o => o.pkt.type == 2) = none ∧
     ((qpIn qsReset noQp).blk.arriveOwn.qpAccepts 255 (reqOf 0 3)).isSome = true) := by decide +kernel

theorem met_RequestsArePlacedAndWadiEntriesFire_place :
    (let b := (withRx (rxOf 0 false false)).blk.arriveOwn.startRx
     (b.fab.rx.find? (fun r => r.qp == 255 && r.pkt.psn == 0 && r.started)).isSome = true ∧ b.active Page.XQP = true ∧
     b.fab.rx.find? (fun r => r.qp == 255 && r.pkt.psn == 1 && r.started) = none) ∧
    (let r := rxOf 0 true true
     let b := (withRx r).blk
     r.cause = 0 ∧ r.pkt.type = 0 ∧ 0 < r.len ∧ (b.placeWrite (recvEng r.qp) r.space r.tile r.off r.pkt.payload).1 = 0 ∧
     b.qstate r.qp = qsReady ∧ r.again = false ∧ r.pkt.type ≠ 2 ∧ b.fab.rx = [r] ∧ r.pkt.type ≠ 3 ∧ (rxOf 3 false true).pkt.type = 3 ∧
     ({ r with cause := fcTagTimeout } : RxPkt).cause ≠ 0) ∧
    (let b := (heldRx 70000).blk.arriveOwn
     let r := rxOf 0 true false
     b.fab.rx.find? (fun r => r.qp == 255 && r.pkt.psn == 0 && !r.started) = some r ∧
     b.fab.rx.find? (fun r => r.qp == 255 && r.pkt.psn == 1 && !r.started) = none ∧
     b.rxHold r = some (0, .writeEmpty) ∧ (withRx r).blk.arriveOwn.rxHold r = none ∧
     (b.tile 15).waits.find? (fun w => w.src == 255 && w.port == 10 && w.slot == 0 && w.kind == .writeEmpty) = some heldWait ∧
     ((withRx r).blk.arriveOwn.tile 15).waits = [] ∧ ((withRx r).blk.setTag 15 0 true).arriveOwn.rxHold r = some (0, .writeEmpty) ∧
     b.waitExpired 15 heldWait = true ∧ (heldRx 1).blk.arriveOwn.waitExpired 15 heldWait = false ∧
     heldWait.port ≠ portLocal ∧
     (let seen := (b.captureTimeout 15 10 0 true).dropWait 15 heldWait
      seen.fab.rx.find? (fun r => r.qp == heldWait.src && r.tile == 15 && !r.started && seen.rxHold r == some (0, .writeEmpty)) = some r)) := by
  decide +kernel

def wadi : State := upWith [(XQP.WADI_SEL, 511), (XQP.WD_CTRL_VALID 511, 1), (XQP.WD_COUNT 511, 0xFF0000)]

theorem met_RequestsArePlacedAndWadiEntriesFire_wadi :
    (511 < 512 ∧ 65535 < 65536 ∧ up.blk.granted .hamada Page.XQP 0x0E0 (BitVec.ofNat 32 (511 + 65536 * 65535)) ∧ up.blk.wadiValid 511 = false ∧
      wadi.blk.granted .hamada Page.XQP 0x0E0 (BitVec.ofNat 32 (511 + 65536 * 65535)) ∧ wadi.blk.wadiValid 511 = true ∧
      wadi.blk.get (XQP.WD_COUNT 511) + 65535 ≤ 0xFFFFFF ∧ wadi.blk.flag (XQP.WD_CTRL_ARMED 511) = false ∧
      wadi.blk.get (XQP.WD_COUNT 511) + 0 < (wadi.blk.set (XQP.WD_THRESH 511) 0xFFFFFF).wadiThreshold 511) ∧
    wadi.blk.granted (.erg 0) Page.XQP 0x0A4 (wadi.blk.fieldWord Page.XQP 0x0A4 1 1 1) ∧
    up.blk.arriveOwn.fab.fires.find? (fun f => up.blk.arriveOwn.qstate f.qp != qsReady || !up.blk.arriveOwn.sqFull f.qp) = none ∧
    (let s := withFab up { up.blk.fab with fires := [⟨511, 0, List.replicate 32 0⟩] }
     let b := s.blk.arriveOwn
     b.fab.fires.find? (fun f => b.qstate f.qp != qsReady || !b.sqFull f.qp) = some ⟨511, 0, List.replicate 32 0⟩) := by
  unfold Blk.granted; decide +kernel

/-! ### Premises met: schedules, the fleet, search (spec/13, spec/14) -/

def withInsts (s : State) (l : List Inst) : State := s.withBlk (s.blk.setInsts l)
def schedOn (l : List Inst) : State := setEp (withInsts (upWith [(hEn Page.SCHED, 1)]) l) { up.blk.ep with line := 5 }
def inst (st : InstState) (data opened : Bool) : Inst :=
  ⟨0, 0, 0, 1, 1, 5, 4, 5, 5, data, opened, st, false, 0, 0, .trunk, [35], [], (0, 0), false⟩

theorem met_ScheduleInstancesOpenRunAndEnd :
    (up.blk.enabled Page.SCHED = false ∧ State.reset.blk.powered Page.SCHED = false) ∧
    ((schedOn [inst .due true true]).blk.enabled Page.SCHED = true ∧ (schedOn [inst .due true true]).blk.sched.insts[0]? = some (inst .due true true) ∧
      (inst .due true true).unstarted = true ∧ (inst .due true true).lastStart < (schedOn [inst .due true true]).blk.instAge (inst .due true true) ∧
      (∀ i ∈ (withInsts up [inst .due true true]).blk.sched.insts, i.unstarted = true → up.blk.instAge i ≤ i.lastStart) ∧
      (schedOn []).blk.flag SCHED.DL_CTRL_EN = false ∧ (upWith [(SCHED.DL_CTRL_EN, 1)]).blk.flag SCHED.DL_CTRL_EN = true) ∧
    ((schedOn [inst .waiting false false]).blk.sched.insts[0]? = some (inst .waiting false false) ∧
      (inst .waiting false false).start ≤ (schedOn [inst .waiting false false]).blk.instAge (inst .waiting false false) ∧
      up.blk.instAge (inst .waiting false false) < (inst .waiting false false).start) ∧
    ((inst .running true true).timeout ≤ (schedOn [inst .running true true]).blk.linesSince 0 ∧ (inst .running true true).state = .running ∧
      (inst .running true true).qps = [] ∧ (schedOn []).blk.powered Page.SCHED = true) ∧
    (up.blk.dueNow = true ∧ up.blk.powered Page.SCHED = true ∧ up.blk.sched.lastDue ≠ some up.blk.ep.line ∧ (schedOn []).blk.dueNow = false) ∧
    (up.blk.granted .hamada Page.SCHED 0x068 1 ∧ up.blk.powered Page.SAFE = true) ∧
    (up.blk.granted (.erg 3) Page.SCHED 0x064 (BitVec.ofNat 32 (1023 + 65536 * 65535)) ∧
      up.blk.sched.insts.findIdx? (fun i => i.entry == 1023 && i.frame.toNat % 65536 == 65535 && !i.unstarted) = none ∧
      (let s := schedOn [inst .missed true true]
       s.blk.granted .hamada Page.SCHED 0x064 (BitVec.ofNat 32 0) ∧
       s.blk.sched.insts.findIdx? (fun i => i.entry == 0 && i.frame.toNat % 65536 == 0 && !i.unstarted) = some 0 ∧
       s.blk.sched.insts[0]? = some (inst .missed true true) ∧ ({ inst .missed true true with kicked := true } : Inst).kicked = true ∧
       (inst .missed true true).retryBy ≠ 0 ∧ (inst .missed true true).kicked = false ∧
       s.blk.instAge (inst .missed true true) ≤ (inst .missed true true).retryBy)) ∧
    (3 < 4 ∧ up.blk.granted .hamada Page.SCHED (0x054 + 4 * 3) 9 ∧ up.blk.get SCHED.ENT_SEL_BANK = up.blk.get SCHED.SCHED_CTRL_BANK ∧
      (upWith [(SCHED.ENT_SEL_BANK, 1)]).blk.get SCHED.ENT_SEL_BANK ≠ (upWith [(SCHED.ENT_SEL_BANK, 1)]).blk.get SCHED.SCHED_CTRL_BANK) ∧
    up.blk.granted .hamada Page.SCHED 0x110 0xFF1F ∧
    ((schedOn []).blk.active Page.SCHED = true ∧ up.blk.active Page.SCHED = false ∧ leAt (natLe 1 2) 0 1 = 2 ∧ leAt (natLe 1 7) 0 1 = 7 ∧
      leAt (natLe 1 8) 0 1 = 8) := by
  unfold Blk.granted; decide +kernel

/-- What a variant holds for node 0, with nothing in it. -/
def bareNode : PlanNode :=
  ⟨0, [], [], [], 0, 0, [], 0, 0, [], [], 0, 0, [], [], [], [], [], [], []⟩
/-- A plan of two nodes in a line (1) or a ring (2), with a variant for tile 15 out. -/
def twoNodes (topo : Nat) : Plan :=
  ⟨List.replicate 8 0 ++ natLe 1 topo ++ List.replicate 3 0 ++ natLe 2 2 ++ List.replicate 54 0 ++ [2] ++ List.replicate 27 0, [], [], [],
    [⟨1, 15, 1, [bareNode], [], []⟩]⟩
def fleet (js : Nat) (f : FleetSt) : State :=
  let s := upWith [(hEn Page.SCHED, 1), (SCHED.JOIN_CTRL_JSTATE, js), (XPORT.STATUS_LSTATE 1, 6), (hEn (portPage 1), 1)]
  setEp (s.withBlk (s.blk.setFleet f)) { s.blk.ep with line := 600000 }
def planned : FleetSt := { noFleet with plan := some (twoNodes 2) }
def inLine : FleetSt := { noFleet with plan := some (twoNodes 1) }
def helloFrom1 : List Byte := (fleet jsProbing inLine).blk.joinBytes 1 1 0 0 0 1

theorem met_FleetFormsLosesAndRestoresNodes :
    (State.reset.blk.powered Page.SCHED = false ∧ (upWith [(FUSE.STATUS_RESTRICTIVE, 1)]).blk.flag FUSE.STATUS_RESTRICTIVE = true ∧
      (fleet jsProbing planned).blk.powered Page.SCHED = true ∧ (fleet jsProbing planned).blk.flag FUSE.STATUS_RESTRICTIVE = false ∧
      (fleet jsProbing planned).blk.jstate = jsProbing ∧ (fleet jsReady planned).blk.jstate = jsReady ∧ (fleet jsAlone planned).blk.jstate = jsAlone ∧
      (fleet jsAlone planned).blk.fleet.plan = some (twoNodes 2) ∧ 1 < planN (twoNodes 2) ∧
      (List.range 4).any (fun d => (fleet jsAlone planned).blk.lstate d != lsDisabled) = true ∧
      (let b : Blk := { ((fleet jsLeft planned).blk.set XEPOCH.STATE_STATE stLocked) with power := { up.blk.power with mode := 4 } }
       b.jstate = jsLeft ∧ b.power.mode = 4 ∧ b.epochState = stLocked)) ∧
    (leAt helloFrom1 0 1 = 1 ∧ (fleet jsProbing inLine).blk.fleetPort 1 = true ∧ (fleet jsReady inLine).blk.fleetPort 1 = true ∧
      (let heard := (fleet jsProbing inLine).blk.setFleet { inLine with heardAt := setNth inLine.heardAt 1 600000 }
       heard.helloDiffers 1 helloFrom1 = 0 ∧ heard.helloDiffers 3 helloFrom1 ≠ 0)) ∧
    ((fleet jsProbing inLine).blk.cabled.find? (fun x => x.1 == 1) = some (1, 1) ∧
      (fleet jsProbing inLine).blk.cabled.find? (fun x => x.1 == 3) = none ∧
      300000 ≤ (fleet jsProbing inLine).blk.linesSince (nth inLine.heardAt 1 0)) ∧
    (let d := natLe 1 4 ++ List.replicate 47 0
     let e := natLe 1 5 ++ List.replicate 47 0
     leAt d 0 1 = 4 ∧ leAt e 0 1 = 5 ∧ up.blk.fleet.seen.contains (leAt d 0 1, leAt d 1 1, leAt d 14 2) = false ∧
     [(4, 0, 0)].contains (leAt d 0 1, leAt d 1 1, leAt d 14 2) = true ∧ leAt (natLe 1 6) 0 1 = 6) := by decide +kernel

theorem met_FleetFormsLosesAndRestoresNodes_coordinator :
    (up.blk.fleet.plan = none ∧ (fleet jsProbing planned).blk.jstate ≠ jsReady ∧ (fleet jsProbing planned).blk.jstate ≠ jsJoined) ∧
    (let at0 := fun (ready : List Nat) (f : FleetSt) => (fleet jsReady { f with readyAt := some 0, ready := ready }).blk
     let missing := fun b : Blk => b.planNodes.filter (fun n => !b.fleet.ready.contains n)
     (at0 [0, 1] planned).jstate = jsReady ∧ (at0 [0, 1] planned).after (some 0) 600000 = true ∧ (at0 [0, 1] planned).fleet.switch = none ∧
     missing (at0 [0, 1] planned) = [] ∧ missing (at0 [0] planned) = [1] ∧ planRound (twoNodes 2) = true ∧ planDegraded (twoNodes 2) = true ∧
     missing (at0 [0] inLine) = [1] ∧ planRound (twoNodes 1) = false ∧ (fleet jsReady planned).blk.after none 600000 = false) ∧
    (let b := ((fleet jsJoined { planned with ready := [0, 1] }).blk.set SCHED.VARIANT_VKIND 2).set SCHED.VARIANT_VARG 1
     b.jstate = jsJoined ∧ b.get SCHED.VARIANT_VKIND = 2 ∧ b.fleet.switch = none ∧ b.fleet.ready.contains (b.get SCHED.VARIANT_VARG) = true ∧
     b.lowest (b.planNodes.filter (fun m => m != b.get SCHED.VARIANT_VARG)) = true ∧
     (fleet jsJoined planned).blk.get SCHED.VARIANT_VKIND = 0) := by decide +kernel

theorem met_FleetFormsLosesAndRestoresNodes_loss :
    (let b := (fleet jsJoined planned).blk.set SCHED.HB_STATUS_LOST 2
     b.jstate = jsJoined ∧ bitAt (b.get SCHED.HB_STATUS_LOST) 1 = true ∧ b.cabled.find? (fun x => x.1 == 1) = some (1, 1) ∧
     b.cabled.find? (fun x => x.1 == 0) = none ∧ (fleet jsAlone planned).blk.jstate ≠ jsJoined) ∧
    (1 ≠ (fleet jsJoined planned).blk.self ∧ (fleet jsJoined planned).blk.fleet.plan = some (twoNodes 2) ∧
      (fleet jsJoined planned).blk.get SCHED.VARIANT_VKIND = 0 ∧ planned.loss = none ∧
      ((fleet jsJoined planned).blk.set SCHED.VARIANT_VKIND 1).get SCHED.VARIANT_VKIND = 1 ∧ planned.blind = false) ∧
    (let s := fleet jsJoined { planned with loss := some (1, ⟨0xFFFFFF00, 0⟩) }
     s.blk.fleet.loss = some (1, ⟨0xFFFFFF00, 0⟩) ∧ s.blk.fleet.gone = false ∧ s.blk.reached (s.blk.coordPlus ⟨0xFFFFFF00, 0⟩ 41) = true ∧
     s.blk.lowest (s.blk.planNodes.filter (fun m => !s.blk.gone.contains m)) = true ∧ up.blk.fleet.loss = none) ∧
    (let b := (fleet jsJoined planned).blk.set SAFE.CANARY_STATUS_FAIL 0x8000
     let out := b.tileMapOut 15
     let f := out.ep.frame + BitVec.ofNat 32 (1 + 0)
     let ready := (out.prepareVariant 1 15 ⟨f, 0⟩).loseUntil (f - 1) gapSwitch 1
     bitAt (b.get SAFE.CANARY_STATUS_FAIL) 15 = true ∧ b.powered (tilePage 15) = true ∧ up.blk.safe.condemned.contains 15 = false ∧
     up.blk.get SAFE.CANARY_STATUS_FAIL = 0 ∧ out.get SCHED.VARIANT_VKIND = 0 ∧ out.fleet.loss = none ∧
     ready.fleet.switch = some (⟨f, 0⟩, 1, 15) ∧ b.fleet.switch ≠ ready.fleet.switch ∧
     ((b.set SCHED.VARIANT_VKIND 1).tileMapOut 15).get SCHED.VARIANT_VKIND ≠ 0 ∧
     (let c := b.setFleet noFleet
      c.fleet.switch = (((c.tileMapOut 15).prepareVariant 1 15 ⟨f, 0⟩).loseUntil (f - 1) gapSwitch 1).fleet.switch)) := by decide +kernel

def syncOf (flags : Nat) : List Byte :=
  natLe 1 7 ++ natLe 1 9 ++ natLe 1 0 ++ natLe 1 flags ++ List.replicate 12 0 ++ natLe 3 0 ++ natLe 1 0 ++ natLe 3 0 ++ natLe 1 255
def offering (l taken : List QpSync) (at_ : BitVec 48) : State :=
  let s := qpIn qsError noQp
  setEp (s.withBlk (s.blk.setFleet { noFleet with offers := l, taken := taken })) { s.blk.ep with line := at_ }

theorem met_FleetFormsLosesAndRestoresNodes_sync :
    (let b := (offering [⟨255, 9, 0, 0, 0, 0⟩] [] 300).blk
     leAt (syncOf 4) 0 1 = 7 ∧ leAt [6] 0 1 ≠ 7 ∧ b.powered Page.XQP = true ∧ leAt (syncOf 4) 23 1 = 255 ∧
     b.get (XQP.QCTX0_PEER_NODE 255) = leAt (syncOf 4) 1 1 ∧ b.get (XQP.QCTX0_PEER_QP 255) = leAt (syncOf 4) 19 1 ∧
     bitAt (leAt (syncOf 4) 3 1) 2 = true ∧ bitAt (leAt (syncOf 0) 3 1) 2 = false ∧ leAt (syncOf 4) 16 3 = 0 ∧ leAt (syncOf 4) 20 3 = 0 ∧
     b.fleet.offers.find? (fun x => x.qp == 255) = some ⟨255, 9, 0, 0, 0, 0⟩ ∧ 300 ≤ b.linesSince 0 ∧
     (offering [] [] 299).blk.linesSince 0 < 300 ∧ b.self < leAt (syncOf 0) 1 1 ∧ ¬(b.set XROUTE.NODE_ID 10).self < leAt (syncOf 0) 1 1 ∧
     (b.set XROUTE.NODE_ID 10).self ≠ leAt (syncOf 0) 1 1) ∧
    (let b := (offering [] [] 300).blk
     b.fleet.offers.find? (fun x => x.qp == 255) = none ∧ b.qstate 255 = qsError ∧ b.fleet.waits.any (fun x => x.qp == 255) = false ∧
     b.fleet.taken.any (fun x => x.qp == 255 && x.send == 0 && x.recv == 0) = false ∧
     (offering [] [⟨255, 9, 0, 0, 0, 0⟩] 300).blk.fleet.taken.any (fun x => x.qp == 255 && x.send == 0 && x.recv == 0) = true ∧
     up.blk.qstate 255 ≠ qsError) := by decide +kernel


/-- A BIT shard of one centroid, 8 dimensions, at bulk address 0, its centroid table at `cent`. -/
def shardWith (cent : Nat) : List Byte :=
  let h := natLe 4 0x53485844 ++ natLe 2 1 ++ natLe 2 0 ++ natLe 2 8 ++ natLe 2 0 ++ natLe 4 1 ++ List.replicate 28 0 ++ natLe 2 0 ++ natLe 2 1 ++
    List.replicate 48 0 ++ natLe 8 cent ++ List.replicate 24 0 ++ natLe 8 256 ++ List.replicate 116 0
  h ++ natLe 4 (crc32c h).toNat
def shardHead : List Byte := shardWith 0
def loading (h : List Byte) : State :=
  let s := upWith [(hEn Page.SEARCH, 1), (SEARCH.CFG_EN, 1), (SEARCH.CFG_TILES, 0x8000), (SEARCH.SLOT_STATE_STATE 1, slLoading),
    (BULK.CR_BASE_AUTO 0, 1), (BULK.CR_PAGES 0, 1), (SEARCH.QRING_TAIL, 1), (SEARCH.SLOT_BASE_LO 1, 0)]
  s.withBlk (s.blk.bulkPut 0 h)
def query : QMeta := ⟨0, 0, 0, 0, 1, 1, 0, 8, ⟨0, 0⟩, 0⟩
def serving (x : ServedQuery) (hdr : List Byte) : State :=
  let s := loading []
  s.withBlk { s.blk with search := { s.blk.search with served := [x], hdrs := [hdr, hdr] }, ep := { s.blk.ep with line := 8 } }
def served (held : Option HeldRead) : ServedQuery := ⟨query, [1], none, none, none, held⟩

theorem met_SearchLoadsScansAndMerges :
    (up.blk.granted .hamada Page.SEARCH (0x108 + 0x20 * 1) 1 ∧ up.blk.granted .hamada Page.SEARCH (0x108 + 0x20 * 1) 2 ∧
      ¬((loading []).blk.get SEARCH.ACTIVE_SLOT = 1 ∧ (loading []).blk.slotState 1 = slValid) ∧ (loading []).blk.active Page.SEARCH = true ∧
      (let b := ((loading []).blk.set SEARCH.ACTIVE_SLOT 1).set (SEARCH.SLOT_STATE_STATE 1) slValid
       b.get SEARCH.ACTIVE_SLOT = 1 ∧ b.slotState 1 = slValid) ∧ up.blk.active Page.SEARCH = false) ∧
    (let r := (loading shardHead).blk.bulkRead 2 ((loading shardHead).blk.slotBase 1) 256
     r.1 = 0 ∧ r.2.1 = shardHead ∧ r.2.2.shardCheck 1 0 shardHead = 0 ∧ (r.2.2.loadCentroids 1 0 (hVec shardHead) shardHead).1 = 0 ∧
     (loading shardHead).blk.slotState 1 = slLoading ∧ 1 < r.2.2.search.hdrs.length) ∧
    (let h := shardWith 4096
     let held := (loading h).blk.setBpage 1 ⟨none, false, true, none⟩
     let r := held.bulkRead 2 (held.slotBase 1) 256
     let broken := (loading h).blk.setUnitPoison 64 true
     let q := broken.bulkRead 2 (broken.slotBase 1) 256
     let c := q.2.2.loadCentroids 1 0 (hVec h) h
     r.1 = 0 ∧ r.2.1 = h ∧ r.2.2.shardCheck 1 0 h = 0 ∧ (r.2.2.loadCentroids 1 0 (hVec h) h).1 = bkWait ∧
     q.1 = 0 ∧ q.2.1 = h ∧ q.2.2.shardCheck 1 0 h = 0 ∧ c.1 ≠ 0 ∧ c.1 ≠ bkWait) ∧
    (let r := (loading []).blk.bulkRead 2 ((loading []).blk.slotBase 1) 256
     r.1 = 0 ∧ r.2.1.length = 256 ∧ r.2.2.shardCheck 1 0 r.2.1 = 1) ∧
    (((loading []).blk.setBpage 0 ⟨none, false, true, none⟩).bulkRead 2 0 256).1 = bkWait ∧
    (up.blk.granted .hamada Page.SEARCH 0x080 (BitVec.ofNat 32 63) ∧ (loading []).blk.get SEARCH.QRING_HEAD ≠ (loading []).blk.get SEARCH.QRING_TAIL ∧
      ((loading []).blk.bulkRead 2 0 64).1 = 0) := by
  unfold Blk.granted; decide +kernel

theorem met_SearchLoadsScansAndMerges_cells :
    up.blk.searchOn = false ∧ (loading []).blk.searchOn = true ∧ (64 : Nat) ≤ 18432 ∧
    (let at_ := (loading []).blk.inboxBase + cellBytes * 95
     let cell := fun k => ((loading []).blk.bulkPut at_ (natLe 1 k)).readCell 95 64 k
     (cell 1).1.isSome = true ∧ (cell 2).1.isSome = true ∧ (cell 3).1.isSome = true ∧ ((loading []).blk.readCell 95 64 1).1 = none ∧
     ((loading []).blk.readCell 95 64 2).1 = none ∧ ((loading []).blk.readCell 95 64 3).1 = none) ∧
    (loading []).blk.search.served.find? (fun x => sameQuery x.head query) = none ∧
    (serving (served none) []).blk.search.served.find? (fun x => sameQuery x.head query) = some (served none) := by decide +kernel

/-- Each end of a scan, and both metrics: 0 is a Hamming metric, 1 is not. -/
theorem met_SearchLoadsScansAndMerges_scan :
    (let b := (serving (served none) shardHead).blk.set (SEARCH.SLOT_STATE_STATE 1) slValid
     let isPart := fun e : ScanEnd => match e with | .part _ => true | _ => false
     let isHold := fun e : ScanEnd => match e with | .hold _ => true | _ => false
     b.scanTurn = some (served none) ∧ (loading []).blk.scanTurn = none ∧ b.searchOn = true ∧ b.slotOf query.version = some 1 ∧
     (serving (served none) shardHead).blk.slotOf query.version = none ∧
     isPart (b.scanShard 1 query [1]).1 = true ∧ isHold ((b.setUnitPoison 0 true).scanShard 1 query [1]).1 = true ∧
     ((b.setBpage 0 ⟨none, false, true, none⟩).scanShard 1 query [1]).1 = .wait ∧
     (({ b with domOn := 0xDF } : Blk).scanShard 1 query [1]).1 = .fault ∧ query.metric = 0 ∧ { query with metric := 1 }.metric ≠ 0 ∧
     (serving (served (some ⟨none, 0, 16, 0⟩)) []).blk.scanTurn = some (served (some ⟨none, 0, 16, 0⟩))) ∧
    (let x := served (some ⟨none, 0, 16, 0⟩)
     let y := served (some ⟨some 15, 0, 16, 0⟩)
     let first := fun b : Blk => b.search.served.find? (fun x => x.held.isSome && x.own.isNone)
     let b := (serving x shardHead).blk
     let c := (serving y shardHead).blk
     first b = some x ∧ first c = some y ∧ first up.blk = none ∧ 8 ≤ b.linesSince 0 ∧ b.linesSince 1 < 8 ∧ (b.bulkRead 2 0 16).1 = 0 ∧
     ((b.setUnitPoison 0 true).bulkRead 2 0 16).1 ≠ 0 ∧ c.tileThere 15 = true ∧ (c.spmRead 15 0 16 9).1 = 0 ∧
     ({ c with domOn := 0xDF } : Blk).tileThere 15 = false) ∧
    up.blk.powered Page.SEARCH = true ∧ State.reset.blk.powered Page.SEARCH = false := by decide +kernel

/-! ### Premises met: clients, the journal, host ports (spec/15) -/

def icp63 : IcpMsg := { testIcp with client := 63 }
/-- Client 63 enabled, both MACs on and linked, the journal on, SCHED with a running plan, Erg running. -/
def clients (x : ClCtx) : State :=
  let s := upWith [(hEn Page.CLIENT, 1), (hEn Page.HOST, 1), (hEn (Page.HOST + 1), 1), (CLIENT.CFG_EN 63, 1), (CLIENT.CL_CTRL_SERVICE, 1),
    (hEn Page.JOURNAL, 1), (JOURNAL.J_CTRL_EN, 1), (SCHED.SCHED_CTRL_RUN, 1), (SYS.BOOT_STATUS_PHASE, 3), (hEn Page.XQP, 1),
    (HOST.MAC_CTRL_RX_EN 1, 1), (HOST.MAC_CTRL_TX_EN 1, 1), (HOST.STATUS_LINK 1, 1), (HOST.MAC_CTRL_SPEED 1, 1)]
  setEp (s.withBlk (s.blk.setCl 63 x)) { s.blk.ep with line := 300000 }
def open63 : ClCtx := { noClient with state := csOpen }
/-- Client 0 enabled too, inside the presence window. -/
def inWindow : State :=
  (clients noClient).withBlk (((clients noClient).blk.set (CLIENT.CFG_EN 0) 1).set OASIS.STATUS_PRES_WINDOW 1)
def otherMac : IcpMsg := { testIcp with mac := 1 }

theorem met_ClientsOpenAcknowledgeAndAreServed :
    (let c := (clients noClient).blk
     icpOk icp63 = true ∧ icpMalformed icp63 = false ∧ c.icpTakes icp63 = true ∧ c.ctxNamed icp63 = some 63 ∧ c.bound 63 icp63 = true ∧
     c.bound 63 { icp63 with mac := 1 } = false ∧ c.ctxNamed { icp63 with origin := 255 } = none ∧
     [({ testIcp with client := 64 } : IcpMsg), { testIcp with fragIdx := 1 }, { testIcp with payload := List.replicate 1401 0 }].all
       (fun m => icpOk m && icpMalformed m) = true ∧
     icpMalformed { testIcp with payload := List.replicate 1400 0 } = false ∧
     up.blk.icpTakes icp63 = false ∧ up.blk.active Page.CLIENT = false ∧ c.active Page.CLIENT = true ∧
     c.icpTakes { icp63 with mac := 1 } = true ∧ c.power.mode ≠ 2 ∧ c.inMaintenance = false ∧ c.flag CLIENT.CL_CTRL_SERVICE = true ∧
     (c.setPower { c.power with mode := 2 }).power.mode = 2 ∧ (c.set CLIENT.CL_CTRL_SERVICE 0).flag CLIENT.CL_CTRL_SERVICE = false ∧
     (c.set SYS.BOOT_STATUS_PHASE 4).inMaintenance = true ∧ (clients open63).blk.clOpen 63 = true) ∧
    (let c := inWindow.blk
     c.ctxNamed otherMac = some 0 ∧ c.clEnabled 0 = true ∧ c.bound 0 otherMac = false ∧ c.flag OASIS.STATUS_PRES_WINDOW = true ∧
     ((c.sendClosed 0 5).bindTo 0 1 otherMac.src).bound 0 otherMac = true) ∧
    (let s := clients { open63 with frag := some ⟨1, 2, [], 0⟩, buf := [⟨0, [], true, true, false⟩] }
     (s.blk.cl 63).frag = some ⟨1, 2, [], 0⟩ ∧ 30000 ≤ s.blk.linesSince 0 ∧ (clients open63).blk.linesSince 300000 < 30000 ∧
     s.blk.clOpen 63 = true ∧ 0 < (s.blk.cl 63).unacked ∧ s.blk.get CLIENT.RESEND_T ≤ s.blk.linesSince (s.blk.cl 63).timer ∧
     s.blk.active Page.CLIENT = true ∧ ¬(0 < ((clients open63).blk.cl 63).unacked)) := by decide +kernel

/-- Posted items: types at both sides of each range, views 35 and 36, a batch that its last item, or the only frame's EMBED, closes. -/
theorem met_ClientsOpenAcknowledgeAndAreServed_items :
    up.blk.granted .hamada Page.CLIENT 0x058 (BitVec.ofNat 32 1023) ∧
    (let b := up.blk
     let d := b.bulkRead 1 0 16
     let h := d.2.2.bulkRead 1 (leAt d.2.1 0 8) 16
     let i := h.2.2.bulkRead 1 (leAt d.2.1 0 8) (leAt h.2.1 2 2 * 8)
     d.1 = 0 ∧ h.1 = 0 ∧ i.1 = 0 ∧ b.itemBad ⟨none, i.2.1⟩ = true) ∧
    (let item := fun (t v last n : Nat) => natLe 2 t ++ natLe 2 4 ++ natLe 3 v ++ natLe 1 last ++ List.replicate 12 0 ++ natLe 4 n ++ List.replicate 8 0
     let last := item 2 35 1 0
     let more := item 2 35 0 0
     up.blk.itemBad ⟨none, more⟩ = false ∧
     itemView last = 35 ∧ itemType last = 2 ∧ itemLast last = true ∧ itemLast more = false ∧ up.blk.viewClosed 35 0 = false ∧
     itemView (item 1 36 0 0) = 36 ∧ itemType (item 7 0 0 0) = 7 ∧ itemType (item 8 0 0 0) = 8 ∧ itemType (item 16 0 0 0) = 16 ∧
     itemType (item 5 35 0 1) = 5 ∧ up.blk.batch 35 0 = [] ∧ up.blk.framesOf 35 0 ≤ max 1 (leAt (item 5 35 0 1) 20 4) ∧
     ({ up.blk with client := { up.blk.client with closed := [(35, true)] } } : Blk).viewClosed 35 0 = true ∧
     frameDiff 0 0 ≤ 0 ∧ 0 < frameDiff 1 0 ∧ ((34 : Nat) < 36 ∧ (34 : Nat) ≠ 35)) := by
  unfold Blk.granted; decide +kernel

theorem met_ClientsOpenAcknowledgeAndAreServed_times :
    (let s := setEp (clients noClient) { up.blk.ep with line := 1160 }
     s.blk.active Page.CLIENT = true ∧ s.blk.curL = lastActive s.blk.mode ∧ s.blk.viewClosed 35 s.blk.ep.frame = false ∧
     (∀ m ∈ s.blk.client.marks, ¬(m.view = 35 ∧ m.frame = s.blk.ep.frame)) ∧ up.blk.curL ≠ lastActive up.blk.mode) ∧
    ((upWith [(SAFE.STATUS_SSTATE, 2)]).blk.inSafe = true ∧ up.blk.inSafe = false ∧ (upWith [(SYS.BOOT_STATUS_PHASE, 4)]).blk.inMaintenance = true ∧
      up.blk.inMaintenance = false ∧ up.blk.powered Page.CLIENT = true ∧ up.blk.client.safeAt = none ∧
      30000 ≤ (clients noClient).blk.linesSince 270000 ∧ (clients noClient).blk.linesSince 270001 < 30000) ∧
    (let r : WakeRec := ⟨⟨0, 0⟩, 1, 2, 0, 3, none⟩
     let b := (clients open63).blk.setRecs [r]
     let item := b.itemBytes 8 0xFF r.coord (natLe 2 r.pattern ++ natLe 1 r.macroPix ++ natLe 1 r.fromMode ++ natLe 2 r.flashes ++ natLe 10 0)
     b.oasis.recs = [r] ∧ b.active Page.CLIENT = true ∧ b.flag CLIENT.CL_CTRL_SERVICE = true ∧ b.openClients = [63] ∧
     b.openClients.filter (fun k => b.subscribes k item) = [] ∧
     (b.setClWord 63 5 0xFFFFFFFF).openClients.filter (fun k => (b.setClWord 63 5 0xFFFFFFFF).subscribes k item) = [63] ∧
     (let told := (clients open63).blk.setRecs [{ r with sentTo := some [] }]
      ∀ r ∈ told.oasis.recs.head?, r.sentTo.isSome = true) ∧
     (∀ r ∈ up.blk.oasis.recs.head?, r.sentTo.isSome = true)) := by decide +kernel

def journalled (x : JEntry) : State :=
  let s := (clients noClient).withBlk (((clients noClient).blk.setJent 4095 x).setWard 4095 x)
  s.withBlk ((s.blk.set JOURNAL.JMAX 8).set (CLIENT.CFG_EN 63) 1)
def accepted (kind : Nat) : JEntry := { noEntry with state := jAccepted, client := 63, kind := kind, body := [BitVec.ofNat 8 kind] }
def subscribe0 : List Byte := [2] ++ List.replicate 15 0
/-- A read of a register by client 0, which MAINTENANCE serves. -/
def read0 : List Byte := [3] ++ List.replicate 15 0

theorem met_RequestsAreJournalledExecutedAndCommitted :
    (let c := (clients noClient).blk
     icp63.fragCnt ≤ 1 ∧ (c.reassemble 63 icp63).1 = some [] ∧ icpMalformed { icp63 with fragCnt := 2 } = false ∧ (c.cl 63).frag = none ∧
     (c.reassemble 63 { icp63 with fragCnt := 2 }).1 = none ∧ (c.inMaintenance && maintReg 63 []) = false ∧
     ((inWindow.blk.set SYS.BOOT_STATUS_PHASE 4).inMaintenance && maintReg 0 read0) = true ∧
     (inWindow.blk.set SYS.BOOT_STATUS_PHASE 4).icpTakes { testIcp with payload := read0 } = true ∧
     (inWindow.blk.set SYS.BOOT_STATUS_PHASE 4).bound 0 { testIcp with payload := read0 } = true) ∧
    (up.blk.noService = true ∧ (clients noClient).blk.noService = false ∧ (clients noClient).blk.topSeq 63 = 0 ∧ (63 : Nat) < 64 ∧
      ((clients { noClient with lastReq := 5 }).blk.cl 63).lastReq = 5 ∧ requestOk subscribe0 = true ∧ requestOk [] = false ∧
      (let b := (journalled { noEntry with state := 0, stage := 1, client := 63, reqSeq := 5 }).blk
       (b.cl 63).lastReq < 5 ∧ 5 ≤ b.topSeq 63 ∧ b.topSeq 63 + 1 < 7) ∧
      requestNeeds subscribe0 &&& (clients noClient).blk.permOf 63 = requestNeeds subscribe0 ∧
      (clients noClient).blk.hasToken 63 = false ∧
      (let b := (journalled noEntry).blk.setWord ((CLIENT.CFG_EN 63).key + 32) 0x00FF0000
       b.noService = false ∧ (b.cl 63).lastReq < 1 ∧ 1 = b.topSeq 63 + 1 ∧
       b.hasToken 63 = true ∧ (b.entriesOfCtx 63).length < b.get JOURNAL.JMAX ∧ (b.jent (b.get JOURNAL.RING_TAIL)).isFree = true ∧
       (let full := b.set JOURNAL.JMAX 0
        full.hasToken 63 = true ∧ ¬((full.entriesOfCtx 63).length < full.get JOURNAL.JMAX))) ∧
      (let crop : List Byte := [1] ++ List.replicate 43 0
       requestOk crop = true ∧ requestNeeds crop &&& (clients noClient).blk.permOf 63 ≠ requestNeeds crop)) ∧
    (let at_ := fun n : Nat => journalled { noEntry with stage := n }
     let x : JEntry := { noEntry with stage := 2 }
     (at_ 1).blk.powered Page.JOURNAL = true ∧ ((at_ 1).blk.jent 4095).stage = 1 ∧ ((at_ 2).blk.jent 4095).stage = 2 ∧
     (at_ 1).blk.get JOURNAL.MIRROR_T ≤ (at_ 1).blk.linesSince ((at_ 1).blk.jent 4095).since ∧
     ¬((at_ 1).blk.get JOURNAL.MIRROR_T ≤ (setEp (at_ 1) { up.blk.ep with line := 0 }).blk.linesSince 0 ∨
       (setEp (at_ 1) { up.blk.ep with line := 0 }).blk.qstate (setEp (at_ 1) { up.blk.ep with line := 0 }).blk.buddyQp = qsError) ∧
     (at_ 1).blk.linesSince 0 = 300000 ∧ (at_ 2).blk.jent 4095 = x ∧
     (∃ p ∈ ({ x with state := jAccepted } : JEntry).pieces 4095, (at_ 2).blk.jFlashOk p = false) ∧
     (let b := (at_ 2).blk.set JOURNAL.FLASH_BASE_LO 0x80000000
      (b.jent 4095).stage = 2 ∧ ¬∃ p ∈ ({ x with state := jAccepted } : JEntry).pieces 4095, b.jFlashOk p = false) ∧
     (at_ 1).blk.qstate (at_ 1).blk.buddyQp ≠ qsError ∧
     ((at_ 1).blk.jent 4095).state = jFree ∧ ((journalled (accepted 2)).blk.jent 4095).state ≠ jFree) ∧
    (up.blk.granted .hamada Page.JOURNAL 0x040 (up.blk.fieldWord Page.JOURNAL 0x040 1 1 0) ∧
      up.blk.granted .hamada Page.JOURNAL 0x078 (BitVec.ofNat 32 4095) ∧
      ((journalled (accepted 2)).blk.jent 4095).state = jAccepted ∧ ((journalled (accepted 2)).blk.jent 4095).stage = 0 ∧
      (up.blk.jent 4095).state ≠ jAccepted) := by
  unfold Blk.granted; decide +kernel

theorem met_RequestsAreJournalledExecutedAndCommitted_recovery :
    ((Instr.journalRecovery [{ testRec with index := 4095, client := 63 }] [⟨63, List.replicate 10 0, 0, 0⟩]).wf = true ∧
      (let b := (upWith [(JOURNAL.J_CTRL_RECOVERING, 1)]).blk
       b.powered Page.JOURNAL = true ∧ b.flag JOURNAL.J_CTRL_RECOVERING = true) ∧ up.blk.flag JOURNAL.J_CTRL_RECOVERING = false) ∧
    ((Instr.fosterStart [⟨63, List.replicate 10 0, 0, 0⟩]).wf = true ∧ (upWith [(JOURNAL.WARD, 1)]).blk.get JOURNAL.WARD ≠ 0xFF ∧
      up.blk.journal.fosterOf = none ∧ up.blk.powered Page.JOURNAL = true ∧ (upWith [(JOURNAL.WARD, 0xFF)]).blk.get JOURNAL.WARD = 0xFF) ∧
    (let b : Blk := { up.blk with journal := { up.blk.journal with fosterOf := some 1 } }
     b.journal.fosterOf.isSome = true ∧ b.journal.ward = []) ∧
    (let b := ((upWith [(JOURNAL.WARD, 1)]).blk.setBpage 0 ⟨some 0, false, false, none⟩)
     b.powered Page.JOURNAL = true ∧ b.inMirror 0 = true ∧ (b.bpage 0).spare.isSome = true ∧ up.blk.inMirror (bulkPages - 1) = false) ∧
    ((List.range 7).all (fun i => (journalled (accepted (i + 1))).blk.reqReady false 4095 (i + 1) &&
        (journalled (accepted (i + 1))).blk.reqReady true 4095 (i + 1) && !up.blk.reqReady false 4095 (i + 1) &&
        !up.blk.reqReady true 4095 (i + 1)) = true ∧
      (let b := (journalled (accepted 6)).blk
       requestNeeds (b.jent 4095).body &&& b.permOf 63 ≠ requestNeeds (b.jent 4095).body) ∧
      (let b := (journalled (accepted 7)).blk
       requestNeeds (b.jent 4095).body &&& b.permOf 63 = requestNeeds (b.jent 4095).body) ∧
      [1, 2, 3, 4, 5, 6].all (fun k =>
        let s := (journalled { accepted k with client := 0 }).withBlk
          (((journalled { accepted k with client := 0 }).blk.setWord (CLIENT.CFG_EN 0).key 0x7E))
        s.blk.reqReady false 4095 k &&
        requestNeeds (s.blk.jent 4095).body &&& s.blk.permOf (s.blk.jent 4095).client == requestNeeds (s.blk.jent 4095).body) = true) := by
  decide +kernel

/-- The address MAC 1 has after reset. -/
def hostAt : HostAddr := ⟨false, [0], (clients noClient).blk.get (HOST.UDP_PORT 1)⟩
/-- A PING of client 63 as a datagram. -/
def pingBytes : List Byte := icpDatagram 5 63 0 0 0 1 0 1 []
def canIn (x : CanSt) (l : List (Fld × Nat)) : State :=
  let s := upWith ([(hEn (canPage 1), 1), (CAN.CAN_CTRL_EN 1, 1), (CAN.CAN_CTRL_HB_EN 1, 1)] ++ l)
  s.withBlk (s.blk.setCan 1 x)

theorem met_HostPortsAndCanCarryTheirFrames :
    (let c := (clients noClient).blk
     c.macTakes 1 = true ∧ up.blk.macTakes 1 = false ∧ c.macAddress 1 hostAt = true ∧ c.macAddress 1 ⟨false, [1], 0⟩ = false ∧
     hostAt.port = c.get (HOST.UDP_PORT 1) ∧ (icpParse 1 hostAt pingBytes).isSome = true ∧ icpParse 1 hostAt [] = none ∧
     c.active Page.CLIENT = true) ∧
    (let on := (clients noClient).blk.set (HOST.PTP_CTRL_EN 1) 1
     on.granted .hamada (Page.HOST + 1) 0x08C 3 ∧ on.granted .hamada (Page.HOST + 1) 0x08C 4 ∧ on.macUp 1 = true ∧
     on.flag (HOST.PTP_CTRL_EN 1) = true ∧ (⟨0, 999999999⟩ : PtpTime).nsec < 1000000000 ∧ bitsAt (3 : Word).toNat 0 4 = 3 ∧
     bitsAt (4 : Word).toNat 0 4 = 4 ∧ bitsAt (5 : Word).toNat 0 4 = 5 ∧
     up.blk.granted (.erg 0) (Page.HOST + 1) 0x088 0x80000000 ∧ 1 < up.blk.macs.length) ∧
    (up.blk.powered (Page.HOST + 1) = true ∧ up.blk.flag (HOST.STATUS_LINK 1) ≠ true ∧ up.blk.flag (HOST.STATUS_LINK 1) = false) ∧
    (let s := canIn ⟨true, none, none⟩ []
     s.blk.powered (canPage 1) = true ∧ s.blk.canDue 1 = true ∧ s.blk.inSafe = false ∧ s.blk.flag (CAN.CAN_CTRL_HB_EN 1) = true ∧
     (s.blk.canSt 1).armed = true ∧ s.blk.canOn 1 = true ∧ s.blk.flag (hFrozen (canPage 1)) = false ∧
     s.blk.get (CAN.STATUS_BUS_STATE 1) ≠ 2 ∧ (s.blk.canSt 1).sending = none ∧ s.blk.granted .hamada (canPage 1) 0x058 1 ∧
     ((canIn ⟨false, none, none⟩ []).blk.canSt 1).armed = false ∧ up.blk.canOn 1 = false ∧ State.reset.blk.powered (canPage 1) = false ∧
     (canIn ⟨true, none, none⟩ [(SAFE.STATUS_SSTATE, 2)]).blk.inSafe = true ∧ (canIn ⟨true, none, none⟩ [(SAFE.STATUS_SSTATE, 2)]).blk.canDue 1 = true ∧
     (canIn ⟨true, none, none⟩ [(CAN.CAN_CTRL_HB_EN 1, 0)]).blk.flag (CAN.CAN_CTRL_HB_EN 1) = false) ∧
    (canIn ⟨false, none, none⟩ [(CAN.STATUS_BUS_STATE 1, 2)]).blk.canOn 1 = true ∧
    (canIn ⟨false, none, none⟩ [(CAN.STATUS_BUS_STATE 1, 2)]).blk.get (CAN.STATUS_BUS_STATE 1) = 2 ∧
    ((canIn ⟨false, none, some true⟩ []).blk.canSt 1).sending = some true := by
  unfold Blk.granted; decide +kernel

/-! ### Premises met: power modes, the Oasis, resets, the tally (spec/16, spec/17) -/

/-- Erg's cores run. -/
def ergRunning : State := upWith [(SYS.BOOT_STATUS_PHASE, 3), (SYS.ERG_RUN, 15)]
def powered (p : PowerSt) : State := up.withBlk (up.blk.setPower p)

/-- The first frame a request may name is F + 2 (Table 4): 2 is taken, 1 refused. -/
theorem met_NodesStepBetweenPowerModes :
    (up.blk.granted .hamada Page.PWR 0x040 (BitVec.ofNat 32 (7 + 16 * 3 + 2 ^ 31)) ∧ up.blk.granted (.erg 0) Page.PWR 0x040 0) ∧
    (let b := fun target fmode atF : Nat => (upWith [(PWR.MODE_REQ_TARGET, target), (PWR.MODE_REQ_FMODE, fmode), (PWR.MODE_AT_F, atF)]).blk
     up.blk.power.mode = 1 ∧ up.blk.power.trans = none ∧ (b 2 0 2).modeRefusal 2 0 2 = 0 ∧ (b 2 0 1).modeRefusal 2 0 1 = 4 ∧ (b 0 0 2).modeRefusal 0 0 2 = 1 ∧
     (b 5 0 2).modeRefusal 5 0 2 = 1 ∧ (b 1 0 2).modeRefusal 1 0 2 = 2 ∧ (b 4 1 2).modeRefusal 4 1 2 = 0 ∧ (b 4 2 2).modeRefusal 4 2 2 = 5 ∧
     frameDiff 2 0 = 2 ∧ frameDiff 1 0 < 2) ∧
    ((powered { noPower with mode := 4, step := some 2 }).blk.power.trans = none ∧
      (powered { noPower with mode := 4, step := some 2 }).blk.power.step = some 2 ∧ (2 : Nat) < 4 ∧
      (powered { noPower with trans := some ⟨1, 2, 0, true⟩ }).blk.power.trans.isSome = true ∧
      (let s := powered { noPower with request := some ⟨2, 0, 0⟩ }
       s.blk.power.trans = none ∧ s.blk.power.step = none ∧ s.blk.power.request = some ⟨2, 0, 0⟩ ∧ coordReached s.blk.now ⟨0, 0⟩ = true ∧
       coordReached s.blk.now ⟨1, 0⟩ = false) ∧ (upWith [(hEn Page.PWR, 1)]).blk.active Page.PWR = true) ∧
    ((powered { noPower with mode := 3 }).blk.power.mode = 3 ∧ up.blk.domainOn 7 = true ∧ up.blk.curL = 0 ∧
      (setEp up { up.blk.ep with line := 5 }).blk.curL ≠ 0) ∧
    ((powered { noPower with trans := some ⟨1, 2, 0, true⟩ }).blk.power.trans = some ⟨1, 2, 0, true⟩ ∧ up.blk.domainOn 1 = true ∧
      up.blk.powered Page.PWR = true ∧ State.reset.blk.domainOn 1 = false ∧ bitAt (modeDomains 2 ||| 128) 1 = true ∧
      (powered { noPower with trans := some ⟨1, 2, 0, true⟩ }).blk.modeDone.1 = false ∧
      (State.reset.blk.setPower { noPower with trans := some ⟨1, 2, 0, true⟩ }).modeDone.1 = true) := by
  unfold Blk.granted; decide +kernel

theorem met_NodesStepBetweenPowerModes_supply :
    (let s := up.withBlk (up.blk.setOasis { noOasis with wake := 8, supply := 2, good := ticksPerSec })
     s.blk.power.trans = none ∧ s.blk.oasis.wake ≠ 0 ∧ s.blk.power.mode = 1 ∧ ticksPerSec ≤ s.blk.oasis.good ∧ s.blk.oasis.supply ≠ 0 ∧
     s.blk.oasis.supply ≠ 1 ∧ noOasis.supply = 1 ∧ s.blk.powered Page.OASIS = true ∧ up.blk.oasis.wake = 0 ∧
     (powered { noPower with mode := 3 }).blk.power.mode ≠ 1 ∧ (powered { noPower with mode := 3 }).blk.power.mode ≠ 2) ∧
    (let b := ((ergRunning.blk.setPower { noPower with mode := 2 }).set OASIS.WAKE_CTRL_WAKE_TO 4).set OASIS.WAKE_CTRL_WAKE_FMODE 1
     b.get OASIS.WAKE_CTRL_WAKE_TO = 4 ∧ b.get OASIS.WAKE_CTRL_WAKE_FMODE = 1 ∧ b.ergRuns = true ∧ b.power.mode = 2 ∧ up.blk.ergRuns = false) ∧
    (let b := (powered { noPower with mode := 2 }).blk.set OASIS.STATUS_POWER_FAIL 1
     b.powered Page.OASIS = true ∧ b.flag OASIS.STATUS_POWER_FAIL = true ∧ b.power.trans = none ∧ 1 < b.power.mode ∧
     up.blk.flag OASIS.STATUS_POWER_FAIL = false) ∧
    (let b : Blk := { State.reset.blk with domOn := 0, power := { noPower with mode := 0 } }
     b.power.mode = 0 ∧ b.powered Page.OASIS = false ∧ up.blk.power.mode ≠ 0) ∧
    (up.blk.domainOn 7 = true ∧ State.reset.blk.domainOn 7 = false) ∧
    (4 ≤ (powered { noPower with hot := 4, mode := 3 }).blk.power.hot ∧ 2 < (powered { noPower with hot := 4, mode := 3 }).blk.power.mode ∧
      (powered { noPower with hot := 3, mode := 3 }).blk.power.hot < 4) := by decide +kernel

def oasis (x : OasisSt) (l : List (Fld × Nat)) : State := (upWith l).withBlk ((upWith l).blk.setOasis x)
/-- A unit in RETURN whose erasure is due and whose boot waited for the supply (spec/19 R491). -/
def erasing : Node := ⟨[(0, otpEncode 1), (1, otpEncode 1), (2, otpEncode 1)],
  (upWith [(SYS.BOOT_STATUS_PHASE, 1), (OASIS.STATUS_VIN_OK, 1), (OASIS.STATUS_HOLD_OK, 1)]).blk⟩

theorem met_OasisKeepsTimeSupplyAndPresence :
    (State.reset.blk.powered Page.OASIS = true ∧ State.reset.blk.powered Page.SYS = false ∧
      ({ State.reset.blk with domOn := 0 } : Blk).powered Page.OASIS = false) ∧
    (erasing.b.powered Page.SYS = true ∧ erasing.b.get SYS.BOOT_STATUS_PHASE = 1 ∧ erasing.erasureDue = true ∧
      erasing.b.flag OASIS.STATUS_VIN_OK = true ∧ erasing.b.flag OASIS.STATUS_HOLD_OK = true ∧ up.node.erasureDue = false) ∧
    (let b := up.blk
     (b.get OASIS.SUPPLY_THR_VIN_FAIL * 10 - 1) < b.get OASIS.SUPPLY_THR_VIN_FAIL * 10 ∧ b.get OASIS.SUPPLY_THR_VIN_FAIL ≠ 0) ∧
    (let b := (oasis { noOasis with vinLow := 10000000 } []).blk
     b.powered Page.OASIS = true ∧ 0 < b.oasis.vinLow ∧ b.rideTicks ≤ b.oasis.vinLow ∧ up.blk.oasis.vinLow = 0) ∧
    (let b := (oasis noOasis [(OASIS.ALARM_CTRL_ALARM_EN, 1)]).blk
     b.flag OASIS.ALARM_CTRL_ALARM_EN = true ∧ b.rtc = b.get OASIS.ALARM_LO + b.get OASIS.ALARM_HI * 2 ^ 32 ∧
     up.blk.flag OASIS.ALARM_CTRL_ALARM_EN = false) ∧
    (presSame ≤ (oasis { noOasis with presSame := presSame } []).blk.oasis.presSame ∧ up.blk.oasis.presSame < presSame) ∧
    (let b := (oasis { noOasis with closedFor := presStuckAt, windowLeft := 0 } [(OASIS.STATUS_PRES_CLOSED, 1), (OASIS.STATUS_PRES_WINDOW, 1)]).blk
     b.flag OASIS.STATUS_PRES_CLOSED = true ∧ presHold ≤ b.oasis.closedFor ∧ presStuckAt ≤ b.oasis.closedFor ∧ b.oasis.opened = false ∧
     b.flag OASIS.STATUS_PRES_STUCK = false ∧ b.flag OASIS.STATUS_PRES_WINDOW = true ∧ b.oasis.windowLeft = 0 ∧
     up.blk.flag OASIS.STATUS_PRES_CLOSED = false ∧ up.blk.flag OASIS.STATUS_PRES_WINDOW = false) ∧
    (let b := (oasis { noOasis with closedFor := presHold } [(OASIS.STATUS_PRES_CLOSED, 1), (SYS.BOOT_STATUS_PHASE, 4),
        (SYS.BOOT_STATUS_MAINT_CODE, 0x1007)]).blk
     presHold ≤ b.oasis.closedFor ∧ b.flag OASIS.STATUS_PRES_WINDOW = false ∧ b.inMaintenance = true ∧
     b.get SYS.BOOT_STATUS_MAINT_CODE = 0x1007) ∧
    (10 * ticksPerSec ≤ (ergRunning.withBlk (ergRunning.blk.setOasis { noOasis with holdLow := 10 * ticksPerSec })).blk.oasis.holdLow ∧
      ergRunning.blk.ergRuns = true ∧ up.blk.oasis.holdLow = 0) ∧
    up.blk.granted .hamada Page.OASIS 0x044 0xFFFF := by
  unfold Blk.granted; decide +kernel

def tally (st : Nat) : State := upWith [(hEn Page.TALLY, 1), (TALLY.STATUS_USTATE, st), (OASIS.STATUS_VIN_OK, 1), (OASIS.STATUS_HOLD_OK, 1)]
/-- Up, with a burn under way. -/
def midBurn : Blk := { up.blk with fuse := { noFuse with burn := some ⟨0, 0, 0⟩ } }

theorem met_ResetsAndTheTallyTakeTheirCourse :
    (midBurn.powered Page.FUSE = true ∧ midBurn.fuse.burn.isSome = true ∧ midBurn.tallyRuns = false) ∧
    ((tally tuErase).blk.powered Page.TALLY = true ∧ (tally tuErase).blk.tallyRuns = true) ∧
    (up.blk.fuse.burn = none ∧ up.blk.powered Page.SYS = true ∧ State.reset.blk.powered Page.SYS = false ∧ up.blk.tallyRuns = false) ∧
    (up.blk.granted .hamada Page.PWR 0x050 (BitVec.ofNat 32 1) ∧ up.blk.granted (.erg 3) Page.PWR 0x050 (BitVec.ofNat 32 2) ∧
      up.blk.granted .hamada Page.TALLY 0x044 1) ∧
    ((tally tuIdle).blk.ustate = tuIdle ∧ (tally tuIdle).blk.flag (hEn Page.TALLY) = true ∧ (up.blk.set (hEn Page.TALLY) 0).flag (hEn Page.TALLY) = false ∧ up.blk.ustate = tuIdle ∧
      ¬((tally tuIdle).blk.flag TALLY.STATUS_SHOWN_VALID = true) ∧ tuErase ≤ (tally tuDraw).blk.ustate ∧
      (let b := ((tally tuIdle).blk.set TALLY.STATUS_SHOWN_VALID 1).set TALLY.STATUS_BAR_DRAWN 1
       b.powered Page.TALLY = true ∧ b.flag TALLY.STATUS_SHOWN_VALID = true ∧ b.flag TALLY.STATUS_BAR_DRAWN = true ∧
       (b.setWord TALLY.SHOWN_NODE.key b.content).content = (b.setWord TALLY.SHOWN_NODE.key b.content).shown)) ∧
    ((tally tuInterval).blk.ustate = tuInterval ∧ (tally tuInterval).blk.tally.wait = 0 ∧ (tally tuSupply).blk.ustate = tuSupply ∧
      (tally tuSupply).blk.active Page.TALLY = true ∧ (tally tuSupply).blk.flag OASIS.STATUS_VIN_OK = true ∧
      (tally tuSupply).blk.flag OASIS.STATUS_HOLD_OK = true ∧ (tally tuErase).blk.ustate = tuErase ∧ (tally tuContent).blk.ustate = tuContent ∧
      ((tally tuSupply).blk.set TALLY.UPDATE_COUNT 899999).get TALLY.UPDATE_COUNT + 1 = 900000 ∧
      (tally tuDraw).blk.ustate = tuDraw ∧ (tally tuDraw).blk.tally.coldWaits = false ∧
      ((tally tuDraw).blk.setTally { (tally tuDraw).blk.tally with coldWaits := true }).tally.coldWaits = true) := by
  unfold Blk.granted; decide +kernel

/-! ### Premises met: boot, the mailbox, kernels (spec/18) -/

def ergOn (c : CoreSt) : State :=
  let s := upWith [(SYS.BOOT_STATUS_PHASE, 3), (SYS.ERG_RUN, 15), (SYS.ERG_WDT_EN, 1), (SYS.ERG_WDT_LIMIT, 0x2DC6C0), (hEn Page.CORE, 1),
    (CORE.MB_STATUS_BUSY, 1)]
  s.withBlk { s.blk with cores := c, ep := { s.blk.ep with line := 180000000 } }

theorem met_ErgStartsAndIsWatched :
    ((upWith [(SYS.BOOT_STATUS_PHASE, 2)]).blk.get SYS.BOOT_STATUS_PHASE = 2 ∧ up.blk.powered Page.SYS = true ∧ up.blk.get SYS.BOOT_STATUS_PHASE = 0) ∧
    (let b := (ergOn noCores).blk
     b.ergRuns = true ∧ noCores.readyAt = none ∧ 600000 ≤ (ergOn { noCores with startedAt := some 0 }).blk.linesSince 0 ∧
     180000000 ≤ (ergOn { noCores with readyAt := some 0 }).blk.linesSince 0 ∧ b.bootRec.trial = 0 ∧ b.cores.settled = false ∧
     (b.writeBootRec { b.bootRec with trial := 1 }).bootRec.trial = 1 ∧ b.bootRec.fails 0 = 0 ∧
     (b.writeBootRec (b.bootRec.setFails 0 1)).bootRec.fails 0 = 1 ∧
     b.flag SYS.ERG_WDT_EN = true ∧ b.wdtLeft = 0 ∧ b.get SYS.BOOT_STATUS_PHASE = 3 ∧
     (ergOn { noCores with stoppedAt := some 179999999 }).blk.wdtLeft = 0 ∧
     (ergOn { noCores with kickedAt := 179999999 }).blk.wdtLeft = 0x2DC6C0 - 1) ∧
    up.blk.ergRuns = false ∧
    (up.blk.granted (.erg 0) Page.CORE 0x044 1 ∧ up.blk.granted .hamada Page.CORE 0x050 (BitVec.ofNat 32 15) ∧
      up.blk.granted .hamada Page.SYS 0x068 1 ∧ up.blk.powered Page.CORE = true ∧ State.reset.blk.powered Page.CORE = false) := by
  unfold Blk.granted; decide +kernel

/-- A request of operation `op` with the word `arg`; the HIF offers them all. -/
def mail (op arg : Nat) : State :=
  (ergOn noCores).withBlk ((((ergOn noCores).blk.set (CORE.MB_REQ 1) (op + 65536 * 240)).set (CORE.MB_REQ 4) arg).set SYS.HIF 0x0102)

theorem met_MailboxRequestsAreServedAndAnswered :
    ((mail 9 0).blk.active Page.CORE = true ∧ (mail 9 0).blk.flag CORE.MB_STATUS_BUSY = true ∧ (mail 9 0).blk.mbOffered 9 = false ∧
      up.blk.flag CORE.MB_STATUS_BUSY = false ∧ leAt (mail 9 0).blk.mbRequest 4 2 = 9 ∧ leAt (mail 9 0).blk.mbRequest 6 2 ≤ 240 ∧
      240 < leAt ((mail 1 0).blk.set (CORE.MB_REQ 1) (1 + 65536 * 241)).mbRequest 6 2) ∧
    ([1, 2, 3, 4, 5, 6, 7, 8].all (fun op => leAt (mail op 1).blk.mbRequest 4 2 == op && (mail op 1).blk.mbOffered op) = true) ∧
    (leAt ((mail 3 2).blk.mbRequest.drop 16) 0 1 = 2 ∧ leAt ((mail 3 1).blk.mbRequest.drop 16) 0 1 ≠ (mail 3 1).blk.get SYS.BOOT_STATUS_ERG_SLOT ∧
      leAt ((mail 3 1).blk.mbRequest.drop 16) 0 1 ≤ 1 ∧ (mail 3 1).node.slotCode 1 ≠ 0) ∧
    (leAt ((mail 4 1).blk.mbRequest.drop 16) 0 1 = 1 ∧ leAt ((mail 4 2).blk.mbRequest.drop 16) 0 1 ≠ 1) ∧
    (leAt ((mail 6 (992 + 32 * 65536)).blk.mbRequest.drop 16) 0 2 + leAt ((mail 6 (992 + 32 * 65536)).blk.mbRequest.drop 16) 2 1 = 1024 ∧
      leAt ((mail 6 (993 + 32 * 65536)).blk.mbRequest.drop 16) 0 2 + leAt ((mail 6 (993 + 32 * 65536)).blk.mbRequest.drop 16) 2 1 = 1025) ∧
    (leAt ((mail 8 257).blk.mbRequest.drop 16) 0 1 ≤ 1 ∧ leAt ((mail 8 257).blk.mbRequest.drop 16) 1 1 ≤ 1) ∧
    (({ up.blk.bootRec with trial := 1 } : BootRec) ≠ up.blk.bootRec ∧ (63 : Nat) < 64 ∧ 4 * 1 < (natLe 4 0 ++ natLe 4 0).length) := by decide +kernel

/-- A kernel record: its budget, and six windows over the first page with both rights. -/
def kernelRecord : List Byte :=
  natLe 12 0 ++ natLe 4 5000 ++ natLe 16 0 ++ (List.replicate 6 (natLe 8 0 ++ natLe 4 4096 ++ natLe 4 3)).flatten
def kernelOn (budget : Nat) : State :=
  (ergOn noCores).withBlk (((ergOn noCores).blk.set (CORE.KBUDGET 3) budget).setKernel 3 (some ⟨kernelRecord, []⟩))

/-- Budgets at each cost and one above it; an item at the window's end and one past it. -/
theorem met_KernelsAreChargedAndEnd :
    (kernelRecord.length = 128 ∧ (ergOn noCores).blk.ergRuns = true ∧ bitAt ((ergOn noCores).blk.get SYS.ERG_RUN) 3 = true ∧
      (ergOn noCores).blk.kernel 3 = none) ∧
    ((kernelOn 5000).blk.kernel 3 = some ⟨kernelRecord, []⟩ ∧ (kernelOn 100).blk.get (CORE.KBUDGET 3) ≤ 100 ∧
      100 < (kernelOn 101).blk.get (CORE.KBUDGET 3) ∧ 1000 < (kernelOn 1001).blk.get (CORE.KBUDGET 3) ∧
      2000 < (kernelOn 2001).blk.get (CORE.KBUDGET 3) ∧ 3000 < (kernelOn 3001).blk.get (CORE.KBUDGET 3)) ∧
    (let k : KernelRun := ⟨kernelRecord, []⟩
     let z : KernelRun := ⟨List.replicate 128 0, []⟩
     let poisoned := (kernelOn 5000).blk.setUnitPoison 0 true
     z.reach 5 0 16 0 = false ∧ z.reach 5 0 64 0 = false ∧ k.reach 5 4032 64 0 = true ∧ k.reach 5 4033 64 0 = false ∧
     ((kernelOn 5000).blk.bulkRead 1 ((k.window 5).1 + 4032) 64).1 = 0 ∧ k.reach 5 4080 16 0 = true ∧ k.reach 5 4080 (3 * 8) 0 = false ∧
     ((kernelOn 5000).blk.bulkRead 1 ((k.window 5).1 + 4080) 16).1 = 0 ∧ (poisoned.bulkRead 1 (k.window 5).1 16).1 ≠ 0 ∧
     k.inWindow 0 0 = true ∧ k.inWindow 4095 1 = true ∧ k.inWindow 4096 0 = false) := by decide +kernel

/-! ### Premises met: fuses, the return authorisation, the test pads, the safety monitor (spec/19, spec/20) -/

/-- The fuse block on, the supply good, the presence window open for 10 s. -/
def fuses (f : FuseSt) : State :=
  let s := upWith [(hEn Page.FUSE, 1), (OASIS.STATUS_VIN_OK, 1), (OASIS.STATUS_HOLD_OK, 1), (OASIS.STATUS_PRES_WINDOW, 1), (FUSE.PROG_ADDR, 204)]
  s.withBlk ({ s.blk with fuse := f }.setOasis { noOasis with windowLeft := 10 * ticksPerSec })
def burning (waits tries : Nat) : State := fuses { noFuse with burn := some ⟨204, 5, tries⟩, resetWaits := waits }
/-- A unit that is still with the maker. -/
def makerNode : Node := ⟨[(0, otpEncode 1)], up.blk⟩

theorem met_FusesBurnUnderTheirGuards :
    (up.blk.granted .hamada Page.FUSE 0x048 1 ∧ up.blk.granted .hamada Page.FUSE (0x070 + 4 * 3) 1 ∧
      Tbl.get (dflt false) up.blk.locked (regKey Page.FUSE (0x070 + 4 * 3)) = false ∧
      (let key := regKey Page.FUSE (0x070 + 4 * 3)
       Tbl.get (dflt false) ({ up.blk with locked := [(key, true)] } : Blk).locked key = true)) ∧
    ((fuses noFuse).node.progRefusal = 0 ∧ up.node.progRefusal ≠ 0 ∧ (fuses noFuse).blk.active Page.FUSE = true ∧
      (up.blk.set (hEn Page.FUSE) 0).active Page.FUSE = false ∧ up.blk.fuse.burn = none) ∧
    ((burning 0 0).blk.fuse.burn = some ⟨204, 5, 0⟩ ∧ (burning 0 0).blk.active Page.FUSE = true ∧ (burning 0 0).blk.fuse.resetWaits = 0 ∧
      (burning 4 0).blk.fuse.resetWaits = 4 ∧ otpWord (burnBits (burning 1 0).node.otp 204 5 1) 204 ≠ BitVec.ofNat 39 5 ∧
      otpWord (burnBits (burning 1 0).node.otp 204 5 0) 204 = BitVec.ofNat 39 5 ∧ (2 : Nat) < 3 ∧ (burning 0 3).blk.fuse.burn = some ⟨204, 5, 3⟩) ∧
    (up.blk.presLeft = 0 ∧ (fuses noFuse).blk.presLeft ≠ 0 ∧ (Instr.privFuseTrial 255 true (List.replicate 48 0)).wf = true ∧
      (Instr.privFuseBurn 255 255 (List.replicate 48 0) ⟨[], none⟩).wf = true ∧ Instr.privFactoryReset.wf = true ∧
      (Instr.privLcAdvance 4 ⟨[], none⟩).wf = true) ∧
    (let done := (fuses noFuse).node.privRun (.lcAdvance 2) ⟨[], none⟩ false
     lifeState (fuses noFuse).node.otp = 2 ∧ done.1.status = psOk ∧ done.2.b.cores.resetDue = none) ∧
    (let done := (fuses noFuse).node.privRun .factoryReset ⟨[], none⟩ false
     lifeState (fuses noFuse).node.otp = lcField ∧ done.1.status = psOk ∧ done.2.b.cores.resetDue.isSome = true) ∧
    (let o : Otp := [(0, otpEncode 1)] ++ [(wModomRevoke, 1), (wModomRevoke + 1, 1), (wModomRevoke + 2, 1)]
     otpSet o (wModomRevoke + 3) = false ∧ lifeState o = lcMaker ∧ modomKeys o = [3]) ∧
    (lifeState up.node.otp ≠ 1 ∧ ¬(lifeState up.node.otp = lcMaker) ∧ (1 : Nat) ≠ lcReturn ∧ (1 : Nat) ≠ lcScrap ∧ (1 : Nat) ≤ 4) ∧
    (arbCount resetOtp wErgArb < 64 ∧ lcMaker ≤ lifeState resetOtp ∧ lifeState resetOtp ≤ lcReturn ∧ up.blk.get SYS.SVN_ERG < 64 ∧
      lifeState makerNode.otp ≠ lcField) := by
  unfold Blk.granted; decide +kernel

theorem met_ReturnAndTestPadsKeepTheirGates :
    ((List.replicate 256 (0 : Byte)).length = 256 ∧ up.blk.powered Page.LIFE = true ∧ State.reset.blk.powered Page.LIFE = false ∧
      (let loaded := up.node.on (fun b => ((b.set LIFE.RTN_STATUS_LOADED 1).set LIFE.RTN_STATUS_ACCEPTED 0).raise LIFE.IRQ_RAW_RTN_REQ)
       loaded.returnCode (List.replicate 256 0) = 1) ∧
      lifeState makerNode.otp ≠ lcField) ∧
    (up.blk.unit.stepping = 0x0B ∧ ({ up.blk with unit := ⟨0x0A, 0⟩ } : Blk).unit.stepping = 0x0A) ∧
    (up.node.debugOpen = false ∧ makerNode.debugOpen = true ∧ debugOk (.otpWord 1023) = true ∧ debugOk .other = true ∧ (1023 : Nat) < 1024) := by
  decide +kernel

def causes (l : List SafeCause) (resets : Nat) : State :=
  let s := upWith [(SAFE.SAFETY_RESETS, resets)]
  setEp (s.withBlk (s.blk.setCauses l)) { s.blk.ep with line := 2 ^ 40 }
def clockCause : SafeCause := ⟨0x08, Page.SAFE, false, 0xFF, 0, 0, true⟩

theorem met_SafetyCausesEnterSafeAndReset :
    up.blk.powered Page.SAFE = true ∧ State.reset.blk.powered Page.SAFE = false ∧
    (up.blk.safe.causes.all (fun c => c.code != 17) = true ∧ up.blk.sstate ≠ ssSafe) ∧ (3 : Nat) < 4 ∧
    (let due := fun (b : Blk) (c : SafeCause) => c.kind == .r && decide (b.get SAFE.SAFE_CTRL_WARM_DELAY ≤ b.linesSince c.since)
     (causes [clockCause] 255).blk.safe.causes.find? (due (causes [clockCause] 255).blk) = some clockCause ∧
     up.blk.safe.causes.find? (due up.blk) = none ∧
     (causes [clockCause] 0).blk.safe.causes.find? (due (causes [clockCause] 0).blk) = some clockCause ∧
     (causes [clockCause] 255).blk.get SAFE.SAFE_CTRL_RESET_MAX ≤ (causes [clockCause] 255).blk.get SAFE.SAFETY_RESETS ∧
     (causes [clockCause] 0).blk.get SAFE.SAFETY_RESETS < (causes [clockCause] 0).blk.get SAFE.SAFE_CTRL_RESET_MAX) := by decide +kernel

/-- The edge of 2 %: 1,953,125 + 39,062 is inside, one more outside (spec/20 R512, Table 3). -/
theorem met_ClockMonitorRaisesClock :
    let out := fun (counts : List Nat) => up.blk.domainOn 4 = true ∧
      1953125 < 50 * (Int.ofNat (nth counts 0 0) - Int.ofNat 1953125).natAbs
    ([1992187, 1953125, 976562, 1171875, 97656].length = 5 ∧ up.blk.powered Page.SAFE = true) ∧
    ¬out [1992187, 1953125, 976562, 1171875, 97656] ∧ out [1992188, 1953125, 976562, 1171875, 97656] ∧
    (1 ≤ nth ({ noSafe with clockBad := [1, 0, 0, 0, 0] } : SafeSt).clockBad 0 0 ∧ nth noSafe.clockBad 0 0 = 0) ∧
    (1200 ≤ (setEp up { up.blk.ep with line := 1200 }).blk.linesSince 0 ∧ up.blk.linesSince 0 < 1200) := by decide +kernel

/-- Queues for the first statement, both sides of the operands' check, and a step for the invariant. -/
theorem met_StepRunsTheFrontCommand :
    (⟨[.shlApply, .beatSend], up.node⟩ : State).pending = [.shlApply, .beatSend] ∧ up.pending = [] := by decide +kernel
theorem met_CommandStopsExactlyOnOperandsTheBlockLacks :
    Instr.wf .shlApply = true ∧ Instr.wf (.linkAligned 3) = true ∧ Instr.wf (.linkAligned 4) = false := by decide +kernel
theorem met_EveryStepKeepsBurnedOtpBits :
    (match step ⟨[.fuseAttemptDone 0], (burning 0 0).node⟩ with | .next t => otpWord t.node.otp 204 == 5 | _ => false) = true ∧
    Tbl.wf (dflt 0) resetOtp = true := by decide +kernel

/-! ### The spec's own numbers -/

/-- spec/03 R76 and spec/11 R256: the check values of the nine characters "123456789". -/
theorem test_crc_check_values :
    crc32c [0x31, 0x32, 0x33, 0x34, 0x35, 0x36, 0x37, 0x38, 0x39] = 0xE3069283#32 ∧
    crc16 [0x31, 0x32, 0x33, 0x34, 0x35, 0x36, 0x37, 0x38, 0x39] = 0x29B1#16 := by decide +kernel

/-- spec/10, two copies on tile 5. -/
def tile5 : Nat := 5 * 2 ^ 48
def copyOne : MDesc :=
  { op := 0, srcKind := mkSpm, dstKind := mkSpm, srcTag := 0, dstTag := 0, flags := 0, src := tile5 + 0x4000, dst := tile5 + 0x4120
    width := 96, height := 4, srcStride := 256, dstStride := 256, fill := [], qp := 0, imm := 0, user := 0 }
def copyTwo : MDesc := { copyOne with src := tile5 + 0x8000, dst := tile5 + 0x8040, width := 128, height := 3, dstStride := 192 }

/-- The first walks backward from row 3, bytes 64 to 95; the second is refused. -/
theorem test_mover_copies :
    copyOne.backward = true ∧ copyOne.sheared = false ∧ copyOne.chunkAt 0 = ⟨3, 64, 32⟩ ∧
    (copyOne.chunkAt 0).addr copyOne.src copyOne.srcStride = tile5 + 0x4340 ∧
    (copyOne.chunkAt 0).addr copyOne.dst copyOne.dstStride = tile5 + 0x4460 ∧ copyTwo.sheared = true := by decide +kernel

/-- spec/14, a HAMMING query with K = 3: the merged keys of shards 2 and 7, whichever merges first. -/
theorem test_merged_keys :
    let two : List QEntry := [⟨2000017, 41, 2⟩, ⟨2000003, 44, 2⟩]
    let seven : List QEntry := [⟨7000001, 41, 7⟩, ⟨7000900, 43, 7⟩, ⟨7000002, 44, 7⟩]
    (bestEntries 0 0 3 (two ++ seven)).map (fun e => (e.d, e.id)) = [(41, 2000017), (41, 7000001), (43, 7000900)] ∧
    (bestEntries 0 0 3 (seven ++ two)).map (fun e => (e.d, e.id)) = [(41, 2000017), (41, 7000001), (43, 7000900)] := by
  simp [bestEntries, distKey, keyLe, List.mergeSort, List.MergeSort.Internal.splitInTwo, List.splitAt, List.splitAt.go]

/-- spec/09 R206: INT8 base 37 and new value 29 are category 4 with v = 7. -/
theorem test_delta_code : deltaCode 8 29 37 = (4, 7) := by decide +kernel

/-- spec/02 R51: at the nominal PERIOD 1,200 line periods are 4,000,000.0 ns. -/
theorem test_map_period : (mapPeriod 1200 ⟨7, 0⟩ ⟨7, 4000000⟩ * 1200 + 2 ^ 31) / 2 ^ 32 = 4000000 := by decide +kernel

/-- spec/02 R50, a thermal camera: DIV_M1 3 pulses at L0 of frames 400 and 404, not of 401. -/
theorem test_sync_out :
    let at_ := fun f : BitVec 32 => setEp (upWith [(EPOCH.SYNCOUT_CTRL_EN, 1), (EPOCH.SYNCOUT_CTRL_DIV_M1, 3), (EPOCH.SYNCOUT_CTRL_WIDTH, 3)])
      { up.blk.ep with frame := f }
    (at_ 400).blk.syncOutStart.ep.pulse = some 0 ∧ (at_ 404).blk.syncOutStart.ep.pulse = some 0 ∧
    (at_ 401).blk.syncOutStart.ep.pulse = none := by decide +kernel

/-- spec/19, an interrupted increment: five words set count 5; word 146 burned, and word 147 with some of its bits, count 7. -/
theorem test_interrupted_increment :
    let five : Otp := (List.range 5).map (fun i => (141 + i, otpEncode (BitVec.ofNat 32 (i + 1))))
    let six := burnBits five 146 (otpEncode 6) 0
    let cut := burnBits six 147 (otpEncode 7) 0b101
    wErgArb + 5 = 146 ∧ arbCount five wErgArb = 5 ∧ arbCount six wErgArb = 6 ∧ arbCount cut wErgArb = 7 ∧ otpEncode 0 = 0 := by decide +kernel

/-- spec/03 R75: SCRATCH keeps the word written; the answer goes out without a cause. -/
theorem test_scratch :
    (match exec (.registerWrite (.erg 0) Page.ISP 0x038 true 0xDEADBEEF) up with
      | .next t => t.blk.word (regKey Page.ISP 0x038) == 0xDEADBEEF && t.blk.sent == [.access (.erg 0) Page.ISP 0x038 true 0 0]
      | _ => false) = true := by decide +kernel

/-- spec/03 R54, R59: after reset only OASIS answers; another page's domain is off. -/
theorem test_reset_access :
    State.reset.blk.accessCause .hamada Page.OASIS 0x038 true true 0 = 0 ∧
    State.reset.blk.accessCause .hamada Page.SYS 0x038 true true 0 = causePower := by decide +kernel

/-- spec/07 R155: a tag set twice is counted once as redundant. -/
theorem test_tag_redundant :
    (match exec (.tagOnlyOp 15 12287 true []) run15 with
      | .next t => (match exec (.tagOnlyOp 15 12287 true []) t with
        | .next u => u.blk.isFull 15 12287 && u.blk.get (TILE.TAG_REDUNDANT 15) == 1
        | _ => false)
      | _ => false) = true := by decide +kernel

/-- spec/11 R250: a partner that matches leads from IDENT to MEASURE, the measured delay to TRAINED, OPEN to OPEN. -/
theorem test_training :
    (match exec (.identReceive 3 1 ([0, 1] ++ List.replicate 14 0)) (portIn lsIdent noPort) with
      | .next t => t.blk.lstate 3 == lsMeasure
      | _ => false) = true ∧
    (match exec (.linkMeasureDone 3 10000) (portIn lsMeasure noPort) with
      | .next t => t.blk.lstate 3 == lsTrained && t.blk.get (XPORT.PAUSE_THR_XOFF 3) == 991
      | _ => false) = true := by decide +kernel

/-- spec/08 R196: an INT8 add saturates where SAT is set and wraps where it is not. -/
theorem test_vector_add :
    laneInt 8 true (100 + 100) = 127 ∧ laneInt 8 false (100 + 100) = 200 ∧ laneInt 8 true (-100 + -100) = 128 := by decide +kernel
end Sys2Proof.Tests
end

section
/-! PROOFS. Shadow copies that come into force at their coordinate (spec/02 R33, spec/03 R67, R68). -/

namespace Sys2Proof.Machine

/-! ### Keys -/

theorem pageOf_regKey {page off : Nat} (hp : page < 256) (ho : off < 4096) : pageOf (regKey page off) = page := by
  unfold pageOf regKey; omega

theorem offOf_regKey (page : Nat) {off : Nat} (ho : off < 4096) : offOf (regKey page off) = off := by
  unfold offOf regKey; omega

theorem pageOf_lt (k : Nat) : pageOf k < 256 := Nat.mod_lt _ (by decide)

/-- A register of a block is none of the header's (spec/03 R61). -/
theorem ne_headerKey {k page off : Nat} (hk : 0x040 ≤ offOf k) (ho : off < 0x040) : k ≠ regKey page off := by
  rintro rfl
  rw [offOf_regKey page (by omega)] at hk
  omega

theorem ne_regKey_of_pageOf_ne {j page off : Nat} (hp : page < 256) (ho : off < 4096) (h : pageOf j ≠ page) :
    j ≠ regKey page off := by
  rintro rfl
  exact h (pageOf_regKey hp ho)

/-! ### The target rule -/

/-- A target is reached, by the signed difference of the frame numbers (spec/02 R33). -/
theorem coordReached_iff (now target : Coord) :
    coordReached now target = true ↔
      (target.f - now.f).toInt < 0 ∨ (target.f - now.f).toInt = 0 ∧ target.l ≤ now.l := by
  simp [coordReached, frameDiff]

theorem not_coordReached_iff (now target : Coord) :
    coordReached now target = false ↔
      0 < (target.f - now.f).toInt ∨ (target.f - now.f).toInt = 0 ∧ now.l < target.l := by
  rw [← Bool.not_eq_true, coordReached_iff]
  omega

/-! ### One copy takes effect -/

theorem Blk.noteApplied_eq (b : Blk) (page : Nat) :
    ∃ x, b.noteApplied page =
      ((if (b.pageSt page).appliedAt == some b.ep.line then b else b.bump (hApplyCount page)).raise
        (hIrqShdApplied page)).setPageSt page x :=
  ⟨_, rfl⟩

@[simp] theorem Blk.noteApplied_shadow (b : Blk) (page : Nat) : (b.noteApplied page).shadow = b.shadow := by
  obtain ⟨x, hx⟩ := b.noteApplied_eq page
  rw [hx, Blk.setPageSt_shadow, Blk.raise_shadow]
  split
  · rfl
  · rw [Blk.bump_shadow]

theorem Blk.word_raise_ne (b : Blk) (f : Fld) {j : Nat} (h : j ≠ f.key) : (b.raise f).word j = b.word j :=
  Blk.word_set_ne b f 1 h

theorem Blk.word_bump_ne (b : Blk) (f : Fld) {j : Nat} (h : j ≠ f.key) : (b.bump f).word j = b.word j :=
  Blk.word_set_ne b f _ h

/-- Noting an application writes SHADOW_CTRL and IRQ_RAW of the page alone (spec/03 R68). -/
theorem Blk.word_noteApplied_ne (b : Blk) (page : Nat) {j : Nat} (hc : j ≠ regKey page 0x034) (hi : j ≠ regKey page 0x018) :
    (b.noteApplied page).word j = b.word j := by
  obtain ⟨x, hx⟩ := b.noteApplied_eq page
  rw [hx, Blk.setPageSt_word, Blk.word_raise_ne _ (hIrqShdApplied page) hi]
  split
  · rfl
  · rw [Blk.word_bump_ne _ (hApplyCount page) hc]

theorem Blk.applyKey_eq {b : Blk} {k : Nat} {c : Shadow} (h : b.copyOf k = some c) :
    b.applyKey k =
      (({ b.setWord k c.value with shadow := Tbl.put noShadow b.shadow k none } : Blk).noteApplied (pageOf k)).when c.late
        (fun b => (b.raise (hLate (pageOf k))).raise (hIrqShdLate (pageOf k))) := by
  simp only [Blk.applyKey, h, Blk.setWord_shadow]

theorem Blk.shadow_applyKey {b : Blk} {k : Nat} {c : Shadow} (h : b.copyOf k = some c) :
    (b.applyKey k).shadow = Tbl.put noShadow b.shadow k none := by
  rw [Blk.applyKey_eq h]
  cases c.late
  · rw [Blk.when_false, Blk.noteApplied_shadow]
  · rw [Blk.when_true, Blk.raise_shadow, Blk.raise_shadow, Blk.noteApplied_shadow]

/-- A copy that takes effect is pending no more; the others are as they were. -/
theorem Blk.copyOf_applyKey {b : Blk} {k : Nat} {c : Shadow} (h : b.copyOf k = some c) (j : Nat) :
    (b.applyKey k).copyOf j = if j = k then none else b.copyOf j := by
  simp only [Blk.copyOf, Blk.shadow_applyKey h, Tbl.get_put]

/-- A copy that takes effect writes its own register, and beside it SHADOW_CTRL and IRQ_RAW of its page alone. -/
theorem Blk.word_applyKey {b : Blk} {k : Nat} {c : Shadow} (h : b.copyOf k = some c) {j : Nat}
    (hc : j ≠ regKey (pageOf k) 0x034) (hi : j ≠ regKey (pageOf k) 0x018) :
    (b.applyKey k).word j = if j = k then c.value else b.word j := by
  rw [Blk.applyKey_eq h, ← Blk.word_setWord b k j c.value]
  cases c.late
  · rw [Blk.when_false, Blk.word_noteApplied_ne _ _ hc hi]
    rfl
  · rw [Blk.when_true, Blk.word_raise_ne _ (hIrqShdLate (pageOf k)) hi, Blk.word_raise_ne _ (hLate (pageOf k)) hc,
      Blk.word_noteApplied_ne _ _ hc hi]
    rfl

/-! ### Which copies are due -/

/-- Only a listed key reads as anything but the default. -/
theorem Tbl.mem_keys_of_get_ne {α : Type} (d : Nat → α) {t : Tbl α} {k : Nat} (h : Tbl.get d t k ≠ d k) :
    k ∈ t.map (fun e => e.1) := by
  induction t with
  | nil => exact absurd rfl h
  | cons e rest ih =>
    obtain ⟨k', v⟩ := e
    by_cases hk : k' = k
    · simp [hk]
    · rw [Tbl.get, if_neg hk] at h
      exact List.mem_cons_of_mem _ (ih h)

theorem Blk.mem_pendingKeys {b : Blk} {k : Nat} {c : Shadow} (h : b.copyOf k = some c) : k ∈ b.pendingKeys :=
  Tbl.mem_keys_of_get_ne noShadow (fun e => Option.some_ne_none c (h.symm.trans e))

/-- A copy is due when it stood before this line period and its coordinate is reached (spec/03 R65, R67). -/
theorem Blk.shlDue_iff (b : Blk) (k : Nat) :
    b.shlDue k = true ↔
      isShl k = true ∧ b.reached (b.shlTarget k) = true ∧ ∃ c, b.copyOf k = some c ∧ c.since ≠ b.ep.line := by
  cases h : b.copyOf k with
  | none => simp [Blk.shlDue, h]
  | some c =>
    simp only [Blk.shlDue, h, Bool.and_eq_true, bne_iff_ne, Option.some.injEq, exists_eq_left']
    tauto

/-- The copies that apply are those due on a page that HOLD does not hold (spec/03 R67, R68). -/
theorem Blk.mem_shlKeys_iff (b : Blk) (k : Nat) :
    k ∈ b.shlKeys ↔ b.flag (hHold (pageOf k)) = false ∧ b.shlDue k = true := by
  simp only [Blk.shlKeys, List.mem_filter, Bool.and_eq_true, Bool.not_eq_true']
  constructor
  · rintro ⟨-, due, free⟩
    exact ⟨free, due⟩
  · rintro ⟨free, due⟩
    obtain ⟨-, -, c, copy, -⟩ := (b.shlDue_iff k).mp due
    exact ⟨Blk.mem_pendingKeys copy, due, free⟩

/-! ### The statement -/

/-- Settles O13: the target rule by the sign of the frame difference; the command as its definition orders it; what one
copy writes and leaves by `word_applyKey` and `copyOf_applyKey`; which copies are due by `mem_shlKeys_iff`. -/
theorem reachedShlCopiesComeIntoForce : Obligations.ReachedShlCopiesComeIntoForce := by
  unfold Obligations.ReachedShlCopiesComeIntoForce
  refine ⟨fun now target => ⟨coordReached_iff now target, not_coordReached_iff now target⟩, fun s => ?_,
    fun b k c copy hoff _ => ⟨?_, ?_, fun j hj => ?_, fun j hj => ?_⟩, fun b k => ?_⟩
  · exact State.act_on s (i := .shlApply) Blk.shlApply rfl
  · rw [Blk.word_applyKey copy (ne_headerKey hoff (by decide)) (ne_headerKey hoff (by decide)), if_pos rfl]
  · rw [Blk.copyOf_applyKey copy, if_pos rfl]
  · rw [Blk.copyOf_applyKey copy, if_neg hj]
  · have other (off : Nat) (ho : off < 4096) : j ≠ regKey (pageOf k) off := ne_regKey_of_pageOf_ne (pageOf_lt k) ho hj
    have jk : j ≠ k := fun e => hj (congrArg pageOf e)
    rw [Blk.word_applyKey copy (other _ (by decide)) (other _ (by decide)), if_neg jk]
  · rw [Blk.mem_shlKeys_iff, Blk.shlDue_iff]

end Sys2Proof.Machine
end

section
/-! PROOFS. Wide registers (spec/02 R36, R37): where their words stand, the holding register of a low read, the staged low word. -/

namespace Sys2Proof.Machine

/-! ### Where the words of wide registers stand -/

/-- A row of the table of wide registers has the low word of one of its registers at this page and offset. -/
def WideRow.holds (r : WideRow) (page off : Nat) : Prop :=
  (r.page ≤ page ∧ page < r.page + r.pages) ∧ ∃ i < r.count, off = r.off + i * r.stride

/-- The low words are those of the table's rows. -/
theorem exists_wideRow {page off : Nat} (h : isWideLow page off = true) : ∃ r ∈ wideRows, r.holds page off := by
  simp only [isWideLow, List.any_eq_true, Bool.and_eq_true, decide_eq_true_eq] at h
  obtain ⟨r, hr, hpage, hoff⟩ := h
  refine ⟨r, hr, hpage, ?_⟩
  split at hoff
  · next one =>
    simp only [beq_iff_eq] at one hoff
    exact ⟨0, by omega, by omega⟩
  · simp only [Bool.and_eq_true, decide_eq_true_eq, beq_iff_eq] at hoff
    obtain ⟨⟨above, aligned⟩, index⟩ := hoff
    refine ⟨_, index, ?_⟩
    have := Nat.div_mul_cancel (Nat.dvd_of_mod_eq_zero aligned)
    omega

/-- No word is the low one of one wide register and the high one of another. -/
theorem wideRows_apart :
    ∀ r ∈ wideRows, ∀ r' ∈ wideRows, r.page < r'.page + r'.pages → r'.page < r.page + r.pages →
      ∀ i < r.count, ∀ j < r'.count, r.off + i * r.stride ≠ r'.off + j * r'.stride + 4 := by
  decide +kernel

theorem isWideHigh_of_isWideLow {page off : Nat} (h : isWideLow page off = true) : isWideHigh page off = false := by
  by_contra high
  rw [Bool.not_eq_false, isWideHigh, Bool.and_eq_true, decide_eq_true_eq] at high
  obtain ⟨four, below⟩ := high
  obtain ⟨r, hr, hpage, i, hi, place⟩ := exists_wideRow h
  obtain ⟨r', hr', hpage', j, hj, place'⟩ := exists_wideRow below
  exact wideRows_apart r hr r' hr' (by omega) (by omega) i hi j hj (by omega)

/-- SPM and FUSE have no wide register. -/
theorem wideRows_pages :
    ∀ r ∈ wideRows, ∀ page ∈ [Page.SPM, Page.FUSE], ¬(r.page ≤ page ∧ page < r.page + r.pages) := by
  decide

theorem page_ne_of_isWideLow {page off p : Nat} (h : isWideLow page off = true) (hp : p ∈ [Page.SPM, Page.FUSE]) : page ≠ p := by
  rintro rfl
  obtain ⟨r, hr, hpage, -⟩ := exists_wideRow h
  exact wideRows_pages r hr page hp hpage

/-- Of two places of which one alone has a property, neither is the other. -/
theorem place_ne (p : Nat → Nat → Bool) {page off page' off' : Nat} (h : p page off = true) (h' : p page' off' = false) :
    (page == page' && off == off') = false := by
  by_contra same
  rw [Bool.not_eq_false, Bool.and_eq_true, beq_iff_eq, beq_iff_eq] at same
  obtain ⟨rfl, rfl⟩ := same
  exact Bool.noConfusion (h.symm.trans h')

/-- A place that is a word of some wide register. -/
def isWide (page off : Nat) : Bool := isWideLow page off || isWideHigh page off

theorem isWide_of_low {page off : Nat} (h : isWideLow page off = true) : isWide page off = true := by simp [isWide, h]
theorem isWide_of_high {page off : Nat} (h : isWideHigh page off = true) : isWide page off = true := by simp [isWide, h]

theorem page_ne_of_isWide {page off p : Nat} (h : isWide page off = true) (hp : p ∈ [Page.SPM, Page.FUSE]) : page ≠ p := by
  rw [isWide, Bool.or_eq_true] at h
  rcases h with low | high
  · exact page_ne_of_isWideLow low hp
  · rw [isWideHigh, Bool.and_eq_true] at high
    exact page_ne_of_isWideLow high.2 hp

/-- No wide register acts at the node. -/
theorem nodeWrite_of_isWide {page off : Nat} (h : isWide page off = true) : nodeWrite page off = false := by
  rw [nodeWrite, place_ne isWide h (by decide), place_ne isWide h (by decide), Bool.or_false]

theorem dbgOff_of_isWide (b : Blk) {page off : Nat} (h : isWide page off = true) : b.dbgOff page off = false := by
  simp [Blk.dbgOff, page_ne_of_isWide h (p := Page.SPM) (by decide)]

theorem lifeGate_of_isWide {page off : Nat} (v : Word) (h : isWide page off = true) : lifeGate page off v = false := by
  have life : (page == Page.LIFE && off == 0x010) = false := place_ne isWide h (by decide)
  have fuse : (page == Page.FUSE) = false := beq_false_of_ne (page_ne_of_isWide h (by decide))
  rw [lifeGate, fuse, Bool.false_and, Bool.false_or, Bool.false_or, life, Bool.false_and]

/-! ### Writes -/

/-- A granted write of a word of a wide register comes to what the wide rules make of it, and the answer. -/
theorem Node.writeReg_wide (n : Node) (a : Agent) {page off : Nat} (v : Word) (w : isWide page off = true)
    (hg : n.b.granted a page off v) :
    n.writeReg a page off true v = n.on (fun b => (b.writeWord a page off v).answered a page off) := by
  have hs : (page == Page.SPM && off == 0x04C) = false := place_ne isWide w (by decide)
  unfold Blk.granted at hg
  simp [Node.writeReg, Node.accessWrite, nodeWrite_of_isWide w, Blk.accessWrite, hg, dbgOff_of_isWide n.b w, hs,
    lifeGate_of_isWide v w, Node.on, Blk.answered]

theorem Blk.writeWord_shut {b : Blk} {page off : Nat} (a : Agent) (v : Word) (h : b.ringShut page off = true) :
    b.writeWord a page off v = b.writeBlock a page off v := by
  rw [Blk.writeWord, if_pos h]

theorem Blk.writeWord_low {b : Blk} {page off : Nat} (a : Agent) (v : Word) (ring : b.ringShut page off = false)
    (low : isWideLow page off = true) (writes : wideWrites page off = true) :
    b.writeWord a page off v = b.stageLow a page v := by
  simp [Blk.writeWord, ring, low, writes]

theorem Blk.writeWord_high {b : Blk} {page off : Nat} (a : Agent) (v : Word) (ring : b.ringShut page off = false)
    (high : isWideHigh page off = true) (writes : wideWrites page off = true) :
    b.writeWord a page off v = b.commitWide a page off v := by
  have notLow : isWideLow page off = false := by
    by_contra low
    rw [Bool.not_eq_false] at low
    exact Bool.noConfusion (high.symm.trans (isWideHigh_of_isWideLow low))
  simp [Blk.writeWord, ring, notLow, high, writes]

/-- WIDE_LOW_WRITE, granted. -/
theorem exec_wideLowWrite {s : State} {a : Agent} {page off : Nat} {v : Word} (wf : (agentOk a && regOk page off) = true)
    (low : isWideLow page off = true) (hg : s.blk.granted a page off v) :
    exec (.wideLowWrite a page off v) s = .next (s.withBlk ((s.blk.writeWord a page off v).answered a page off)) := by
  refine (State.act_next s (i := .wideLowWrite a page off v) _ wf).trans ?_
  rw [if_pos low, Node.writeReg_wide _ a v (isWide_of_low low) hg]
  rfl

/-- WIDE_HIGH_WRITE, granted. -/
theorem exec_wideHighWrite {s : State} {a : Agent} {page off : Nat} {v : Word} (wf : (agentOk a && regOk page off) = true)
    (high : isWideHigh page off = true) (hg : s.blk.granted a page off v) :
    exec (.wideHighWrite a page off v) s = .next (s.withBlk ((s.blk.writeWord a page off v).answered a page off)) := by
  refine (State.act_next s (i := .wideHighWrite a page off v) _ wf).trans ?_
  rw [if_pos high, Node.writeReg_wide _ a v (isWide_of_high high) hg]
  rfl

/-! ### Reads -/

/-- The low word of a wide register reads without a fault of its own, and the read changes nothing. -/
theorem Blk.readLive_wideLow (b : Blk) (a : Agent) {page off : Nat} (low : isWideLow page off = true) :
    ∃ w, b.readLive a page off = (0, w, b) := by
  have isp : (page == Page.ISP && off == 0x048) = false := place_ne isWideLow low (by decide)
  have xroute : (page == Page.XROUTE && off == 0x054) = false := place_ne isWideLow low (by decide)
  have csi0 : (page == 0x10 && off == 0x044) = false := place_ne isWideLow low (by decide)
  have csi1 : (page == 0x11 && off == 0x044) = false := place_ne isWideLow low (by decide)
  have spm : (page == Page.SPM) = false := beq_false_of_ne (page_ne_of_isWideLow low (by decide))
  simp only [Blk.readLive, isp, xroute, spm, Bool.and_or_distrib_right, csi0, csi1, Bool.false_and, Bool.or_false,
    Bool.false_eq_true, if_false]
  cases b.headerWord page off with
  | some w => exact ⟨w, rfl⟩
  | none =>
    cases b.liveWord a page off with
    | some w => exact ⟨w, rfl⟩
    | none => exact ⟨_, rfl⟩

/-- A granted read of a low word: the live word, and the high word into the agent's holding register of the page. -/
theorem Node.readReg_wideLow (n : Node) {a : Agent} {page off : Nat} (scan : a ≠ .safetyScan) (low : isWideLow page off = true)
    (hg : n.b.accessCause a page off true false 0 = 0) :
    n.readReg a page off true =
      n.on (fun b => ({ b with
        hold := Tbl.put (dflt 0) b.hold (agentPage a page) (b.readLive a page (off + 4)).2.1 } : Blk).emit
          (.access a page off false 0 (b.readLive a page off).2.1)) := by
  obtain ⟨w, live⟩ := n.b.readLive_wideLow a low
  have fuse : (page == Page.FUSE) = false := beq_false_of_ne (page_ne_of_isWideLow low (by decide))
  simp [Node.readReg, Node.accessRead, Blk.accessRead, hg, Blk.readWord, scan, isWideHigh_of_isWideLow low, low, live, fuse,
    Node.on, bne]

/-! ### The statement -/

/-- Settles O10: each command is the wide rule for its word (`readReg_wideLow`, `writeWord_low`, `writeWord_high`,
`writeWord_shut`), since no word of a wide register stands where an access has an effect beyond it (`writeReg_wide`). -/
theorem wideRegistersHoldAndStage : Obligations.WideRegistersHoldAndStage := by
  unfold Obligations.WideRegistersHoldAndStage
  refine ⟨fun s a page off wf scan low hg => ?_, fun s a page off v wf low writes hg ring => ?_,
    fun s a page off v wf high writes hg ring => ?_, fun s a v ha shut => ⟨fun hg => ?_, fun hg => ?_⟩⟩
  · refine completes_of_act (i := .wideLowRead a page off) rfl wf ?_
    rw [if_pos low, Node.readReg_wideLow s.node scan low hg]
    exact ⟨rfl, Tbl.get_put_same _ _ _ _, rfl, rfl, rfl, rfl, rfl⟩
  · rw [exec_wideLowWrite wf low hg, Blk.writeWord_low a v ring low writes]
    rfl
  · rw [exec_wideHighWrite wf high hg, Blk.writeWord_high a v ring high writes]
    simp [Blk.commitWide, Blk.when]
  · have ring : s.blk.ringShut Page.XQP 0x060 = true := by simpa [Blk.ringShut] using shut
    rw [exec_wideLowWrite (by rw [ha]; rfl) (by decide) hg, Blk.writeWord_shut a v ring]
  · have ring : s.blk.ringShut Page.XQP 0x064 = true := by simpa [Blk.ringShut] using shut
    rw [exec_wideHighWrite (by rw [ha]; rfl) (by decide) hg, Blk.writeWord_shut a v ring]

end Sys2Proof.Machine
end

section
/-! PROOFS. Erg's start, its watchdog and the deadlines of its slot (spec/18 R445, R455, R458, R466, R472, R473). -/

namespace Sys2Proof.Machine

/-! ### What an error capture leaves (spec/03 R72) -/

/-- A capture counts and raises ERR, then notes an overflow or fills the two capture words. -/
theorem Blk.capture_cases (b : Blk) (page cause agent off : Nat) :
    b.capture page cause agent off = ((b.bumpSat (hErrCount page)).raise (hIrqErr page)).raise (hCapOverflow page) ∨
    ∃ w v, b.capture page cause agent off =
      (((b.bumpSat (hErrCount page)).raise (hIrqErr page)).setWord (regKey page 0x024) w).setWord (regKey page 0x028) v := by
  simp only [Blk.capture]
  split
  · exact .inl rfl
  · exact .inr ⟨_, _, rfl⟩

/-- A field reads alike where its register does. -/
theorem Blk.get_of_word_eq {b b' : Blk} {f : Fld} (h : b'.word f.key = b.word f.key) : b'.get f = b.get f := by
  rw [Blk.get, Blk.get, h]

/-- A capture writes the two capture words, and beside them what counting and raising ERR write. -/
theorem Blk.word_capture_ne (b : Blk) {page j : Nat} (cause agent off : Nat) (h0 : j ≠ regKey page 0x024)
    (h1 : j ≠ regKey page 0x028) :
    (b.capture page cause agent off).word j = ((b.bumpSat (hErrCount page)).raise (hIrqErr page)).word j := by
  obtain full | ⟨w, v, free⟩ := b.capture_cases page cause agent off
  · rw [full, Blk.word_raise_ne _ (hCapOverflow page) h0]
  · rw [free, Blk.word_setWord_ne _ _ h1, Blk.word_setWord_ne _ _ h0]

/-- A capture of a page writes registers of that page alone. -/
theorem Blk.word_capture_of_page_ne (b : Blk) {page j : Nat} (cause agent off : Nat) (hp : page < 256) (h : pageOf j ≠ page) :
    (b.capture page cause agent off).word j = b.word j := by
  have other (o : Nat) (ho : o < 4096) : j ≠ regKey page o := ne_regKey_of_pageOf_ne hp ho h
  rw [Blk.word_capture_ne _ _ _ _ (other 0x024 (by decide)) (other 0x028 (by decide)),
    Blk.word_raise_ne _ (hIrqErr page) (other 0x018 (by decide))]
  exact Blk.word_set_ne b (hErrCount page) _ (other 0x02C (by decide))

/-- A capture keeps every bit of IRQ_RAW but ERR. -/
theorem Blk.get_capture_hIrq (b : Blk) (page cause agent off : Nat) {bit : Nat} (h : bit < 31) :
    (b.capture page cause agent off).get (hIrq page bit) = b.get (hIrq page bit) := by
  have apart (o : Nat) (ho : 0x018 ≠ o) : (hIrq page bit).key ≠ regKey page o := fun e => ho (Nat.add_left_cancel e)
  have fits : (hIrq page bit).fits := show bit + 1 ≤ 32 by omega
  calc (b.capture page cause agent off).get (hIrq page bit)
      = ((b.bumpSat (hErrCount page)).raise (hIrqErr page)).get (hIrq page bit) :=
        Blk.get_of_word_eq (Blk.word_capture_ne _ _ _ _ (apart 0x024 (by decide)) (apart 0x028 (by decide)))
    _ = (b.bumpSat (hErrCount page)).get (hIrq page bit) :=
        Blk.get_set_apart _ (hIrqErr page) _ _ fits (.inr (.inr (show bit + 1 ≤ 31 by omega)))
    _ = b.get (hIrq page bit) := Blk.get_set_apart _ (hErrCount page) _ _ fits (.inl (apart 0x02C (by decide)).symm)

/-- A capture is of registers alone. (`-implicitDefEqProofs`, here and below: the steps are written out, since the kernel
would otherwise unfold the blocks of a whole chain of updates to compare them.) -/
theorem Blk.capture_keeps (b : Blk) (page cause agent off : Nat) :
    (b.capture page cause agent off).reports = b.reports ∧ (b.capture page cause agent off).flash = b.flash ∧
      (b.capture page cause agent off).bulk = b.bulk ∧ (b.capture page cause agent off).spm = b.spm := by
  obtain full | ⟨w, v, free⟩ := b.capture_cases page cause agent off
  · simp -implicitDefEqProofs [full]
  · simp -implicitDefEqProofs [free]

/-! The block's own capture is one with a free OFFSET, after that free value is taken. -/

theorem Blk.captureOwnFree_keeps (b : Blk) (page cause : Nat) :
    (b.captureOwnFree page cause).reports = b.reports ∧ (b.captureOwnFree page cause).flash = b.flash ∧
      (b.captureOwnFree page cause).bulk = b.bulk ∧ (b.captureOwnFree page cause).spm = b.spm :=
  Blk.capture_keeps { b with fresh := b.fresh + 1 } page cause 7 (b.free 12).1

theorem Blk.word_captureOwnFree_of_page_ne (b : Blk) {page j : Nat} (cause : Nat) (hp : page < 256) (h : pageOf j ≠ page) :
    (b.captureOwnFree page cause).word j = b.word j :=
  Blk.word_capture_of_page_ne { b with fresh := b.fresh + 1 } cause 7 (b.free 12).1 hp h

theorem Blk.get_captureOwnFree_hIrq (b : Blk) (page cause : Nat) {bit : Nat} (h : bit < 31) :
    (b.captureOwnFree page cause).get (hIrq page bit) = b.get (hIrq page bit) :=
  Blk.get_capture_hIrq { b with fresh := b.fresh + 1 } page cause 7 (b.free 12).1 h

/-! ### A lockstep error (R445, R473) -/

theorem Blk.lockstep_of_unpowered {b : Blk} (off : b.powered Page.CORE = false) : b.lockstep = b := by
  simp [Blk.lockstep, off]

/-- LOCKSTEP_ERROR while CORE is ON. -/
theorem Blk.lockstep_of_powered {b : Blk} (on : b.powered Page.CORE = true) :
    b.lockstep = (((b.bumpSat CORE.LOCKSTEP_ERR).raise CORE.IRQ_RAW_LOCKSTEP).captureOwnFree Page.CORE 2).report 0x09 Page.CORE := by
  rw [Blk.lockstep, if_pos on]

theorem Blk.flag_lockstep {b : Blk} (on : b.powered Page.CORE = true) : b.lockstep.flag CORE.IRQ_RAW_LOCKSTEP = true := by
  let counted : Blk := b.bumpSat CORE.LOCKSTEP_ERR
  have raised : (counted.raise CORE.IRQ_RAW_LOCKSTEP).get CORE.IRQ_RAW_LOCKSTEP = 1 :=
    Blk.get_raise_same counted CORE.IRQ_RAW_LOCKSTEP (show 1 + 1 ≤ 32 by decide) (by decide)
  have kept : ((counted.raise CORE.IRQ_RAW_LOCKSTEP).captureOwnFree Page.CORE 2).get CORE.IRQ_RAW_LOCKSTEP = _ :=
    (counted.raise CORE.IRQ_RAW_LOCKSTEP).get_captureOwnFree_hIrq Page.CORE 2 (bit := 1) (by decide)
  rw [Blk.lockstep_of_powered on, Blk.report_flag, Blk.flag, kept.trans raised]
  rfl

/-- LOCKSTEP_ERROR writes registers of CORE alone. -/
theorem Blk.keepsOtherPages_lockstep {b : Blk} (on : b.powered Page.CORE = true) :
    b.keepsOtherPages b.lockstep [Page.CORE] := by
  intro k hk
  have page : pageOf k ≠ Page.CORE := fun e => hk (List.mem_singleton.mpr e)
  have key (o : Nat) (ho : o < 4096) : k ≠ regKey Page.CORE o := ne_regKey_of_pageOf_ne (by decide) ho page
  rw [Blk.lockstep_of_powered on, Blk.report_word, Blk.word_captureOwnFree_of_page_ne _ _ (by decide) page,
    Blk.word_raise_ne _ CORE.IRQ_RAW_LOCKSTEP (key 0x018 (by decide)), Blk.bumpSat,
    Blk.word_set_ne _ CORE.LOCKSTEP_ERR _ (key 0xA00 (by decide))]

/-- LOCKSTEP_ERROR reports cause 09h and leaves the memories. -/
theorem Blk.lockstep_reports_keeps {b : Blk} (on : b.powered Page.CORE = true) :
    b.lockstep.reports = b.reports ++ [⟨0x09, Page.CORE, false, 0xFF⟩] ∧ b.lockstep.flash = b.flash ∧
      b.lockstep.bulk = b.bulk ∧ b.lockstep.spm = b.spm := by
  obtain ⟨reports, flash, bulk, spm⟩ :=
    ((b.bumpSat CORE.LOCKSTEP_ERR).raise CORE.IRQ_RAW_LOCKSTEP).captureOwnFree_keeps Page.CORE 2
  rw [Blk.lockstep_of_powered on]
  simp -implicitDefEqProofs [reports, flash, bulk, spm]

theorem exec_lockstepError (s : State) : exec .lockstepError s = .next (s.withBlk s.blk.lockstep) :=
  State.act_on s (i := .lockstepError) Blk.lockstep rfl

/-! ### Erg's start (R455) -/

/-- The body of the image in bulk memory, with its copy region. -/
def Blk.placeBody (b : Blk) (base : Nat) (m : List Byte) : Blk :=
  let b := b.bulkPut 0 (b.flashGet (base + 4096) (mfBody m))
  let b := ((b.conf (BULK.CR_BASE_PAGE 15) 0).conf (BULK.CR_BASE_AUTO 15) 1).conf (BULK.CR_PAGES 15) (ceilDiv (mfBody m) 4096)
  (b.conf (BULK.CR_FLASH_LO 15) ((base + 4096) % 2 ^ 32)).conf (BULK.CR_FLASH_HI 15) ((base + 4096) / 2 ^ 32)

/-- The LOCK value that the image asks for a page. -/
def lockOf (m : List Byte) (p : Nat) : Nat := bitNat (bitAt (leAt m 96 32) p) + 2 * bitNat (bitAt (leAt m 128 32) p)

/-- The pages that the image locks. -/
def Blk.lockedBy (b : Blk) (m : List Byte) : List Nat := assignedPages.filter (fun p => b.powered p && lockOf m p != 0)

/-- The locks that the image asks for, written. -/
def Blk.lockPages (b : Blk) (m : List Byte) (l : List Nat) : Blk := b.each l (fun b p => b.writeLock p (BitVec.ofNat 32 (lockOf m p)))

/-- The watchdog set, SERVICE clear, the entry point, and the four cores released. -/
def Blk.releaseCores (b : Blk) (m : List Byte) : Blk :=
  let b := (b.conf SYS.ERG_WDT_LIMIT 0x2DC6C0).conf SYS.ERG_WDT_EN 1
  let b := ((b.conf CLIENT.CL_CTRL_SERVICE 0).conf SYS.ERG_ENTRY_LO (mfEntry m)).conf SYS.ERG_ENTRY_HI 0
  ((b.conf SYS.ERG_RUN 0xF).conf SYS.BOOT_STATUS_PHASE 3).set (hEn Page.CORE) 1

/-- The course of a start is new. -/
def Blk.startCourse (b : Blk) : Blk :=
  { b with cores := { b.cores with startedAt := some b.ep.line, readyAt := none, kickedAt := b.ep.line, settled := false } }

/-- What two block states share that no register write touches. -/
def Blk.sameBehind (b b' : Blk) : Prop :=
  b'.flash = b.flash ∧ b'.bulk = b.bulk ∧ b'.spm = b.spm ∧ b'.ep = b.ep ∧ b'.cores = b.cores

/-- A write of LOCK is a write of LOCK alone. -/
theorem Blk.word_writeLock_ne (b : Blk) {page k : Nat} (v : Word) (h : k ≠ regKey page 0x030) :
    (b.writeLock page v).word k = b.word k := by
  simp only [Blk.writeLock]
  split
  · rfl
  · exact Blk.word_setWord_ne _ _ h

/-- Locking pages leaves a register that is no page's LOCK. -/
theorem Blk.word_lockPages_ne (m : List Byte) (l : List Nat) (b : Blk) {k : Nat} (h : offOf k ≠ 0x030) :
    (b.lockPages m l).word k = b.word k := by
  have key (p : Nat) : k ≠ regKey p 0x030 := fun e => h (e ▸ offOf_regKey p (by decide))
  induction l generalizing b with
  | nil => rfl
  | cons p l ih => exact (ih (b.writeLock p (BitVec.ofNat 32 (lockOf m p)))).trans (b.word_writeLock_ne _ (key p))

theorem Blk.get_lockPages (m : List Byte) (l : List Nat) (b : Blk) {f : Fld} (h : offOf f.key ≠ 0x030) :
    (b.lockPages m l).get f = b.get f :=
  Blk.get_of_word_eq (Blk.word_lockPages_ne m l b h)

theorem Blk.sameBehind_writeLock (b : Blk) (page : Nat) (v : Word) : b.sameBehind (b.writeLock page v) := by
  simp only [Blk.writeLock]
  split <;> exact ⟨rfl, rfl, rfl, rfl, rfl⟩

theorem Blk.sameBehind.trans {a b c : Blk} (h : a.sameBehind b) (k : b.sameBehind c) : a.sameBehind c := by
  obtain ⟨flash, bulk, spm, ep, cores⟩ := h
  obtain ⟨flash', bulk', spm', ep', cores'⟩ := k
  exact ⟨flash'.trans flash, bulk'.trans bulk, spm'.trans spm, ep'.trans ep, cores'.trans cores⟩

theorem Blk.sameBehind_lockPages (m : List Byte) (l : List Nat) (b : Blk) : b.sameBehind (b.lockPages m l) := by
  induction l generalizing b with
  | nil => exact ⟨rfl, rfl, rfl, rfl, rfl⟩
  | cons p l ih => exact (b.sameBehind_writeLock p _).trans (ih _)

theorem Blk.sameBehind_releaseCores (b : Blk) (m : List Byte) : b.sameBehind (b.releaseCores m) := by
  simp -implicitDefEqProofs [Blk.releaseCores, Blk.sameBehind]

theorem Blk.sameBehind_placeBody (b : Blk) (base : Nat) (m : List Byte) :
    (b.bulkPut 0 (b.flashGet (base + 4096) (mfBody m))).sameBehind (b.placeBody base m) := by
  simp -implicitDefEqProofs [Blk.placeBody, Blk.sameBehind]

theorem Blk.get_placeBody_pages (b : Blk) (base : Nat) (m : List Byte) :
    (b.placeBody base m).get (BULK.CR_PAGES 15) = ceilDiv (mfBody m) 4096 % 2 ^ 21 := by
  simp -implicitDefEqProofs (disch := simp only [Fld.fits, Fld.apart]; decide) only [Blk.placeBody, Blk.conf_get,
    Blk.get_set_apart, Blk.get_set_same]
  rfl

/-- What SYS, CORE and CLIENT read once the cores run. -/
theorem Blk.get_releaseCores (b : Blk) (m : List Byte) :
    (b.releaseCores m).get SYS.BOOT_STATUS_PHASE = 3 ∧ (b.releaseCores m).get SYS.ERG_RUN = 0xF ∧
      (b.releaseCores m).get SYS.ERG_WDT_EN = 1 ∧ (b.releaseCores m).get SYS.ERG_WDT_LIMIT = 0x2DC6C0 ∧
      (b.releaseCores m).get CLIENT.CL_CTRL_SERVICE = 0 ∧ (b.releaseCores m).get (hEn Page.CORE) = 1 ∧
      (b.releaseCores m).get SYS.ERG_ENTRY_LO = mfEntry m % 2 ^ 32 := by
  simp -implicitDefEqProofs (disch := simp only [Fld.fits, Fld.apart]; decide) only [Blk.releaseCores, Blk.conf_get,
    Blk.get_set_apart, Blk.get_set_same]
  exact ⟨rfl, rfl, rfl, rfl, rfl, rfl, rfl⟩

/-- Releasing the cores leaves the copy region. -/
theorem Blk.get_releaseCores_pages (b : Blk) (m : List Byte) :
    (b.releaseCores m).get (BULK.CR_PAGES 15) = b.get (BULK.CR_PAGES 15) := by
  simp -implicitDefEqProofs (disch := simp only [Fld.fits, Fld.apart]; decide) only [Blk.releaseCores, Blk.conf_get,
    Blk.get_set_apart]

theorem Blk.startCourse_get (b : Blk) (f : Fld) : b.startCourse.get f = b.get f := rfl

theorem Blk.bulkPut_flash (b : Blk) (a : Nat) (bs : List Byte) : (b.bulkPut a bs).flash = b.flash := rfl
theorem Blk.bulkPut_spm (b : Blk) (a : Nat) (bs : List Byte) : (b.bulkPut a bs).spm = b.spm := rfl
theorem Blk.bulkPut_ep (b : Blk) (a : Nat) (bs : List Byte) : (b.bulkPut a bs).ep = b.ep := rfl
theorem Blk.bulkPut_cores (b : Blk) (a : Nat) (bs : List Byte) : (b.bulkPut a bs).cores = b.cores := rfl

/-- A new course of the same block. -/
theorem Blk.sameBehind.startCourse {b b' : Blk} (h : b.sameBehind b') :
    b'.startCourse.flash = b.flash ∧ b'.startCourse.bulk = b.bulk ∧ b'.startCourse.spm = b.spm ∧
      b'.startCourse.cores =
        { b.cores with startedAt := some b.ep.line, readyAt := none, kickedAt := b.ep.line, settled := false } := by
  obtain ⟨flash, bulk, spm, ep, cores⟩ := h
  exact ⟨flash, bulk, spm, by simp only [Blk.startCourse, ep, cores]⟩

/-- The image that ERG_START finds in the slot. -/
def Blk.ergManifest (b : Blk) : List Byte := b.flashGet (ergBase (b.get SYS.BOOT_STATUS_ERG_SLOT)) 512

/-- The body of that image placed, its pages locked and the cores released. -/
def Blk.ergReleased (b : Blk) : Blk :=
  let placed := b.placeBody (ergBase (b.get SYS.BOOT_STATUS_ERG_SLOT)) b.ergManifest
  (placed.lockPages b.ergManifest (placed.lockedBy b.ergManifest)).releaseCores b.ergManifest

theorem Blk.ergStart_of_phase {b : Blk} (on : b.powered Page.SYS = true) (phase : b.get SYS.BOOT_STATUS_PHASE = 2) :
    b.ergStart = b.ergReleased.startCourse := by
  have go : ¬((!b.powered Page.SYS || b.get SYS.BOOT_STATUS_PHASE != 2) = true) := by simp [on, phase]
  rw [Blk.ergStart, if_neg go]
  rfl

theorem Blk.ergStart_of_not_phase {b : Blk} (h : ¬(b.powered Page.SYS = true ∧ b.get SYS.BOOT_STATUS_PHASE = 2)) :
    b.ergStart = b := by
  rw [Blk.ergStart, if_pos (by simpa [Decidable.imp_iff_not_or] using h)]

theorem Blk.get_ergReleased (b : Blk) :
    b.ergReleased.get SYS.BOOT_STATUS_PHASE = 3 ∧ b.ergReleased.get SYS.ERG_RUN = 0xF ∧
      b.ergReleased.get SYS.ERG_WDT_EN = 1 ∧ b.ergReleased.get SYS.ERG_WDT_LIMIT = 0x2DC6C0 ∧
      b.ergReleased.get CLIENT.CL_CTRL_SERVICE = 0 ∧ b.ergReleased.get (hEn Page.CORE) = 1 ∧
      b.ergReleased.get SYS.ERG_ENTRY_LO = mfEntry b.ergManifest % 2 ^ 32 :=
  Blk.get_releaseCores _ _

theorem Blk.get_ergReleased_pages (b : Blk) :
    b.ergReleased.get (BULK.CR_PAGES 15) = ceilDiv (mfBody b.ergManifest) 4096 % 2 ^ 21 := by
  rw [Blk.ergReleased, Blk.get_releaseCores_pages, Blk.get_lockPages _ _ _ (by decide), Blk.get_placeBody_pages]

/-- Beside registers, a start writes the body into bulk memory and begins the course. -/
theorem Blk.started_behind (b : Blk) :
    b.ergReleased.startCourse.flash = b.flash ∧
      b.ergReleased.startCourse.bulk =
        (b.bulkPut 0 (b.flashGet (ergBase (b.get SYS.BOOT_STATUS_ERG_SLOT) + 4096) (mfBody b.ergManifest))).bulk ∧
      b.ergReleased.startCourse.spm = b.spm ∧
      b.ergReleased.startCourse.cores =
        { b.cores with startedAt := some b.ep.line, readyAt := none, kickedAt := b.ep.line, settled := false } := by
  have same : (b.bulkPut 0 (b.flashGet (ergBase (b.get SYS.BOOT_STATUS_ERG_SLOT) + 4096) (mfBody b.ergManifest))).sameBehind
      b.ergReleased :=
    (b.sameBehind_placeBody _ _).trans ((Blk.sameBehind_lockPages _ _ _).trans (Blk.sameBehind_releaseCores _ _))
  obtain ⟨flash, bulk, spm, cores⟩ := same.startCourse
  rw [Blk.bulkPut_flash] at flash
  rw [Blk.bulkPut_spm] at spm
  rw [Blk.bulkPut_cores, Blk.bulkPut_ep] at cores
  exact ⟨flash, bulk, spm, cores⟩

theorem exec_ergStart (s : State) : exec .ergStart s = .next (s.withBlk s.blk.ergStart) :=
  State.act_on s (i := .ergStart) Blk.ergStart rfl

/-! ### Deadlines of the slot that runs, and the watchdog (R458, R466) -/

theorem Blk.after_iff (b : Blk) (since : Option (BitVec 48)) (lines : Nat) :
    b.after since lines = true ↔ ∃ l, since = some l ∧ lines ≤ b.linesSince l := by
  cases since <;> simp [Blk.after]

theorem Blk.ergRuns_iff (b : Blk) :
    b.ergRuns = true ↔ b.powered Page.SYS = true ∧ b.get SYS.BOOT_STATUS_PHASE = 3 ∧ b.power.bulkRet = false := by
  simp [Blk.ergRuns, and_assoc]

/-- The watchdog pauses in boot phases 0 to 2 and in MAINTENANCE (R466). -/
theorem Blk.wdtLeft_paused {b : Blk} (h : ¬(b.powered Page.SYS = true ∧ b.get SYS.BOOT_STATUS_PHASE = 3)) :
    b.wdtLeft = b.get SYS.ERG_WDT_LIMIT := by
  have shut : (b.powered Page.SYS && b.get SYS.BOOT_STATUS_PHASE == 3) = false := by simpa using h
  rw [Blk.wdtLeft, shut]
  rfl

/-- In phase 3 the line periods since the last KICK count, but for those the Erg cores have been stopped (R466). -/
theorem Blk.wdtLeft_running {b : Blk} (on : b.powered Page.SYS = true) (phase : b.get SYS.BOOT_STATUS_PHASE = 3) :
    b.wdtLeft = b.get SYS.ERG_WDT_LIMIT -
      (b.linesSince b.cores.kickedAt - (match b.cores.stoppedAt with | some l => b.linesSince l | none => 0)) := by
  cases stopped : b.cores.stoppedAt <;> simp [Blk.wdtLeft, on, phase, stopped]

/-- ERG_WDT.LEFT reads live. -/
theorem Blk.readLive_ergWdt (b : Blk) (a : Agent) : (b.readLive a Page.SYS 0x084).2.1 = BitVec.ofNat 32 b.wdtLeft := rfl

/-- Hamada counts a failure of the slot running, up to 255, and warm-resets (R458). -/
theorem Node.failAndReset_eq (n : Node) :
    n.failAndReset = (n.on (fun b => b.writeBootRec (b.bootRec.setFails (b.get SYS.BOOT_STATUS_ERG_SLOT)
      (min 255 (b.bootRec.fails (b.get SYS.BOOT_STATUS_ERG_SLOT) + 1))))).warmReset 2 false := rfl

/-- A command that acts when a condition holds and otherwise changes nothing. -/
theorem exec_guarded {s : State} {i : Instr} {f : Node → Node} {n : Node} {c : Bool} {p : Prop} (act : exec i s = s.act i f)
    (wf : i.wf = true) (guard : f s.node = if c then n else s.node) (holds : c = true ↔ p) :
    (p → exec i s = .next { s with node := n }) ∧ (¬p → exec i s = .next s) := by
  rw [act, State.act_next s f wf, guard]
  constructor
  · intro h
    rw [if_pos (holds.mpr h)]
  · intro h
    rw [if_neg (fun yes => h (holds.mp yes))]

/-- ERG_READY_TIMEOUT: no READY in 600,000 line periods. -/
theorem exec_ergReadyTimeout (s : State) :
    let due := s.blk.ergRuns = true ∧ s.blk.cores.readyAt = none ∧
      ∃ l, s.blk.cores.startedAt = some l ∧ 600000 ≤ s.blk.linesSince l
    (due → exec .ergReadyTimeout s = .next { s with node := s.node.failAndReset }) ∧
      (¬due → exec .ergReadyTimeout s = .next s) :=
  exec_guarded (i := .ergReadyTimeout) (f := Node.readyTimeout) rfl rfl rfl
    (by simp only [Bool.and_eq_true, Option.isNone_iff_eq_none, Blk.after_iff, and_assoc]; rfl)

/-- ERG_CONFIRM_TIMEOUT: a trial without CONFIRM in 180,000,000 line periods. -/
theorem exec_ergConfirmTimeout (s : State) :
    let due := s.blk.ergRuns = true ∧ s.blk.bootRec.trial = 1 ∧ ∃ l, s.blk.cores.readyAt = some l ∧ 180000000 ≤ s.blk.linesSince l
    (due → exec .ergConfirmTimeout s = .next { s with node := s.node.failAndReset }) ∧
      (¬due → exec .ergConfirmTimeout s = .next s) :=
  exec_guarded (i := .ergConfirmTimeout) (f := Node.confirmTimeout) rfl rfl rfl
    (by simp only [Bool.and_eq_true, beq_iff_eq, Blk.after_iff, and_assoc]; rfl)

/-- ERG_WATCHDOG_EXPIRY: the interrupt to Hamada, then the failure of the slot. -/
theorem exec_ergWatchdogExpiry (s : State) :
    let due := s.blk.ergRuns = true ∧ s.blk.flag SYS.ERG_WDT_EN = true ∧ s.blk.wdtLeft = 0
    (due → exec .ergWatchdogExpiry s = .next { s with node := (s.node.on (fun b => b.raise CORE.IRQ_RAW_WDT)).failAndReset }) ∧
      (¬due → exec .ergWatchdogExpiry s = .next s) :=
  exec_guarded (i := .ergWatchdogExpiry) (f := Node.watchdogExpiry) rfl rfl rfl
    (by simp only [Bool.and_eq_true, beq_iff_eq, and_assoc]; rfl)

/-- ERG_STABLE counts once, and writes the boot record only where there are failures to clear. -/
theorem Blk.ergStable_eq (b : Blk) :
    b.ergStable =
      if b.ergRuns && b.bootRec.trial == 0 && b.after b.cores.readyAt 180000000 && !b.cores.settled then
        if b.bootRec.fails (b.bootRec.active % 2) = 0 then { b with cores := { b.cores with settled := true } }
        else ({ b with cores := { b.cores with settled := true } } : Blk).writeBootRec (b.bootRec.setFails (b.bootRec.active % 2) 0)
      else b := by
  by_cases clean : b.bootRec.fails (b.bootRec.active % 2) = 0 <;> simp [Blk.ergStable, Blk.when, clean]

/-- ERG_STABLE: a slot that is no trial, READY for 180,000,000 line periods, loses its failures. -/
theorem exec_ergStable (s : State) :
    let due := s.blk.ergRuns = true ∧ s.blk.bootRec.trial = 0 ∧
      (∃ l, s.blk.cores.readyAt = some l ∧ 180000000 ≤ s.blk.linesSince l) ∧ s.blk.cores.settled = false
    let settled := { s.blk with cores := { s.blk.cores with settled := true } }
    let slot := s.blk.bootRec.active % 2
    (due → exec .ergStable s = .next (s.withBlk
      (if s.blk.bootRec.fails slot = 0 then settled else settled.writeBootRec (s.blk.bootRec.setFails slot 0)))) ∧
    (¬due → exec .ergStable s = .next s) :=
  exec_guarded (i := .ergStable) (f := fun n => n.on Blk.ergStable) rfl rfl
    ((congrArg (Node.mk s.node.otp) s.blk.ergStable_eq).trans (apply_ite _ _ _ _))
    (by simp only [Bool.and_eq_true, beq_iff_eq, Bool.not_eq_true', Blk.after_iff, and_assoc])

/-! ### Writes that act alone (R466, R472, R473) -/

/-- A command that is a register write, granted. -/
theorem exec_of_writeReg {s : State} {i : Instr} {a : Agent} {page off : Nat} {v : Word} {b : Blk}
    (act : exec i s = s.act i (fun n => n.writeReg a page off true v)) (wf : i.wf = true)
    (write : s.node.writeReg a page off true v = { s.node with b := (s.blk.writeBlock a page off v).answered a page off })
    (effect : s.blk.writeBlock a page off v = b) : exec i s = .next (s.withBlk (b.answered a page off)) := by
  rw [act, State.act_next s _ wf, write, effect]
  rfl

/-- ERG_KICK: the watchdog counts from this line period again. -/
theorem exec_ergKick {s : State} {a : Agent} (ha : agentOk a = true) (hg : s.blk.granted a Page.CORE 0x044 1) :
    exec (.ergKick a) s = .next (s.withBlk
      ({ s.blk with cores := { s.blk.cores with kickedAt := s.blk.ep.line } }.answered a Page.CORE 0x044)) :=
  exec_of_writeReg rfl ha (Node.writeReg_granted s.node a Page.CORE 0x044 1 hg rfl rfl rfl rfl rfl rfl) rfl

/-- IPI: the cores of the mask are interrupted. -/
theorem exec_ipi {s : State} {a : Agent} {cores : Nat} (ha : agentOk a = true) (hc : cores < 16)
    (hg : s.blk.granted a Page.CORE 0x050 (BitVec.ofNat 32 cores)) :
    exec (.ipi a cores) s = .next (s.withBlk ((s.blk.emit (.ipi cores)).answered a Page.CORE 0x050)) := by
  have mask : bitsAt (BitVec.ofNat 32 cores).toNat 0 4 = cores := by
    rw [BitVec.toNat_ofNat, bitsAt_mod_word _ _ _ (by decide)]
    exact Nat.mod_eq_of_lt hc
  have effect : s.blk.writeBlock a Page.CORE 0x050 (BitVec.ofNat 32 cores) = s.blk.emit (.ipi cores) :=
    congrArg (fun m => s.blk.emit (.ipi m)) mask
  exact exec_of_writeReg rfl (by simp [Instr.wf, ha, hc])
    (Node.writeReg_granted s.node a Page.CORE 0x050 _ hg rfl rfl rfl rfl rfl rfl) effect

/-- XCAP_CLEAR: both words of the capture read 0. -/
theorem exec_xcapClear {s : State} {a : Agent} (ha : agentOk a = true) (hg : s.blk.granted a Page.SYS 0x068 1) :
    exec (.xcapClear a) s = .next (s.withBlk
      (((s.blk.setWord SYS.XCAP0_CAUSE.key 0).setWord SYS.XCAP1_L.key 0).answered a Page.SYS 0x068)) :=
  exec_of_writeReg rfl ha (Node.writeReg_granted s.node a Page.SYS 0x068 1 hg rfl rfl rfl rfl rfl rfl) rfl

/-! ### The statement -/

/-- Settles O52: a start by its stages (`ergStart_of_phase`), the deadlines by the condition each command checks
(`exec_guarded`), the granted writes by their registers' own effects, the lockstep error by what a capture can write
(`capture_cases`). -/
theorem ergStartsAndIsWatched : Obligations.ErgStartsAndIsWatched := by
  unfold Obligations.ErgStartsAndIsWatched
  refine ⟨fun s early => ?_, fun s on phase => ?_, fun s => ?_,
    fun b => ⟨Blk.wdtLeft_running, Blk.wdtLeft_paused, b.ergRuns_iff⟩, Blk.readLive_ergWdt, Node.failAndReset_eq,
    fun s a ha => ⟨exec_ergKick ha, fun _ => exec_ipi ha, exec_xcapClear ha⟩, fun s => ⟨fun shut => ?_, fun on => ?_⟩⟩
  · rw [exec_ergStart, Blk.ergStart_of_not_phase early, State.withBlk_self]
  · obtain ⟨flash, bulk, spm, cores⟩ := s.blk.started_behind
    obtain ⟨phase3, run, wdtEn, wdtLimit, service, coreEn, entry⟩ := s.blk.get_ergReleased
    refine ⟨s.withBlk s.blk.ergReleased.startCourse, ?_, rfl, ?_⟩
    · rw [exec_ergStart, Blk.ergStart_of_phase on phase]
    · simp -implicitDefEqProofs [Blk.startCourse_get, Blk.flag, phase3, run, wdtEn, wdtLimit, service, coreEn, entry,
        s.blk.get_ergReleased_pages, bulk, cores, Blk.ergManifest]
      exact ⟨rfl, flash, congrArg _ spm⟩
  · obtain ⟨ready, notReady⟩ := exec_ergReadyTimeout s
    obtain ⟨confirm, notConfirm⟩ := exec_ergConfirmTimeout s
    obtain ⟨stable, notStable⟩ := exec_ergStable s
    obtain ⟨expiry, notExpiry⟩ := exec_ergWatchdogExpiry s
    exact ⟨ready, notReady, confirm, notConfirm, stable, notStable, expiry, notExpiry⟩
  · rw [exec_lockstepError, Blk.lockstep_of_unpowered shut, State.withBlk_self]
  · obtain ⟨reports, flash, bulk, spm⟩ := Blk.lockstep_reports_keeps on
    exact ⟨_, exec_lockstepError s, rfl, Blk.flag_lockstep on, reports, Blk.keepsOtherPages_lockstep on, rfl, flash,
      congrArg _ bulk, congrArg _ spm⟩

end Sys2Proof.Machine
end

section
/-! PROOFS. The clock monitor (spec/20 R512): what a window of counts marks in SAFE, when it raises CLOCK, and when a missing
window does. -/

namespace Sys2Proof.Machine

/-! ### Bits of a mask -/

theorem bitAt_eq_testBit (n i : Nat) : bitAt n i = n.testBit i := by
  rw [bitAt, bitsAt, Nat.testBit_eq_decide_div_mod_eq, Nat.shiftRight_eq_div_pow, pow_one]
  rfl

theorem maskOf_succ (n : Nat) (p : Nat → Bool) :
    maskOf (n + 1) p = if p n then maskOf n p + 2 ^ n else maskOf n p := by
  simp [maskOf, List.range_succ]

theorem maskOf_lt (n : Nat) (p : Nat → Bool) : maskOf n p < 2 ^ n := by
  induction n with
  | zero => exact Nat.one_pos
  | succ n ih =>
    rw [maskOf_succ, pow_succ]
    split <;> omega

/-- Bit `i` of a mask is `p i`. -/
theorem testBit_maskOf {n i : Nat} (p : Nat → Bool) (h : i < n) : (maskOf n p).testBit i = p i := by
  induction n with
  | zero => exact absurd h (Nat.not_lt_zero i)
  | succ n ih =>
    rw [maskOf_succ, Nat.add_comm]
    obtain lower | rfl := Nat.lt_succ_iff_lt_or_eq.mp h
    · split
      · rw [Nat.testBit_two_pow_add_gt lower, ih lower]
      · exact ih lower
    · have clear : (maskOf i p).testBit i = false := Nat.testBit_lt_two_pow (maskOf_lt i p)
      cases top : p i <;> simp [Nat.testBit_two_pow_add_eq, clear]

/-- So it is in a register word, for masks that fit one. -/
theorem bitAt_maskOf_word {n i : Nat} (p : Nat → Bool) (fits : n ≤ 32) (h : i < n) :
    bitAt (BitVec.ofNat 32 (maskOf n p)).toNat i = p i := by
  have word : maskOf n p < 2 ^ 32 := (maskOf_lt n p).trans_le (Nat.pow_le_pow_right (by decide) fits)
  rw [BitVec.toNat_ofNat, Nat.mod_eq_of_lt word, bitAt_eq_testBit, testBit_maskOf p h]

/-! ### The counts of one window -/

/-- Clock `i` runs, its domain being ON, and its count is outside ±2 %. -/
def Blk.clockStrays (b : Blk) (counts : List Nat) (i : Nat) : Bool :=
  b.domainOn (clockDomain i) && clockOut i (nth counts i 0)

/-- How many windows in a row each clock has been out, once this one is counted. -/
def Blk.clockRuns (b : Blk) (counts : List Nat) : List Nat :=
  (List.range 5).map (fun i => if b.clockStrays counts i then nth b.safe.clockBad i 0 + 1 else 0)

/-- The clocks of the list lie in these domains. -/
theorem clockDomain_eq : ∀ i < 5, clockDomain i = nth [4, 5, 1, 3, 1] i 0 := by decide

theorem Blk.clockStrays_iff (b : Blk) (counts : List Nat) {i : Nat} (h : i < 5) :
    b.clockStrays counts i = true ↔
      b.domainOn (nth [4, 5, 1, 3, 1] i 0) = true ∧
        nth clockExpected i 0 < 50 * (Int.ofNat (nth counts i 0) - Int.ofNat (nth clockExpected i 0)).natAbs := by
  rw [Blk.clockStrays, clockDomain_eq i h, Bool.and_eq_true, clockOut, decide_eq_true_eq]

theorem Blk.nth_clockRuns (b : Blk) (counts : List Nat) {i : Nat} (h : i < 5) :
    nth (b.clockRuns counts) i 0 = if b.clockStrays counts i then nth b.safe.clockBad i 0 + 1 else 0 := by
  simp [Blk.clockRuns, nth, h]

/-- Some clock has now been out twice in a row: it was out before and is out again. -/
theorem Blk.any_clockRuns_iff (b : Blk) (counts : List Nat) :
    (b.clockRuns counts).any (2 ≤ ·) = true ↔
      ∃ i, i < 5 ∧ b.clockStrays counts i = true ∧ 1 ≤ nth b.safe.clockBad i 0 := by
  simp only [Blk.clockRuns, List.any_map, List.any_eq_true, List.mem_range, Function.comp_apply, decide_eq_true_eq]
  refine exists_congr fun i => and_congr_right fun _ => ?_
  cases b.clockStrays counts i <;> simp

/-! ### What a window marks -/

/-- The runs, the moment of the window, and CLOCK_STATUS. -/
def Blk.clockMarked (b : Blk) (counts : List Nat) : Blk :=
  (b.setSafe { b.safe with clockBad := b.clockRuns counts, windowAt := b.ep.line }).setWord SAFE.CLOCK_STATUS_TW.key
    (BitVec.ofNat 32 (maskOf 5 (b.clockStrays counts)))

/-- With the first count that is out in CLOCK_LAST: the window before CLOCK is raised. -/
def Blk.clockCounted (b : Blk) (counts : List Nat) : Blk :=
  match (List.range 5).find? (b.clockStrays counts) with
  | some i => (b.clockMarked counts).set SAFE.CLOCK_LAST (nth counts i 0)
  | none => b.clockMarked counts

/-- A window counts, and raises CLOCK for a clock that has been out twice in a row. -/
theorem Blk.clockWindow_of_powered {b : Blk} (on : b.powered Page.SAFE = true) (counts : List Nat) :
    b.clockWindow counts = (b.clockCounted counts).when ((b.clockRuns counts).any (2 ≤ ·)) Blk.clockFault := by
  have go : ¬((!b.powered Page.SAFE) = true) := by simp [on]
  rw [Blk.clockWindow, if_neg go]
  rfl

theorem Blk.clockCounted_cases (b : Blk) (counts : List Nat) :
    b.clockCounted counts = b.clockMarked counts ∨ ∃ v, b.clockCounted counts = (b.clockMarked counts).set SAFE.CLOCK_LAST v := by
  unfold Blk.clockCounted
  split
  · exact .inr ⟨_, rfl⟩
  · exact .inl rfl

@[simp] theorem Blk.clockCounted_safe (b : Blk) (counts : List Nat) :
    (b.clockCounted counts).safe = { b.safe with clockBad := b.clockRuns counts, windowAt := b.ep.line } := by
  obtain e | ⟨v, e⟩ := b.clockCounted_cases counts <;> rw [e] <;> rfl

/-- CLOCK_STATUS reads the mask of the clocks that are out. -/
theorem Blk.word_clockCounted_status (b : Blk) (counts : List Nat) :
    (b.clockCounted counts).word SAFE.CLOCK_STATUS_TW.key = BitVec.ofNat 32 (maskOf 5 (b.clockStrays counts)) := by
  have marked : (b.clockMarked counts).word SAFE.CLOCK_STATUS_TW.key = BitVec.ofNat 32 (maskOf 5 (b.clockStrays counts)) :=
    Blk.word_setWord_same _ _ _
  obtain e | ⟨v, e⟩ := b.clockCounted_cases counts
  · rw [e, marked]
  · rw [e, Blk.word_set_ne _ SAFE.CLOCK_LAST v (by decide), marked]

theorem Blk.keepsRegs_clockCounted (b : Blk) (counts : List Nat) :
    b.keepsRegs (b.clockCounted counts) [SAFE.CLOCK_STATUS_TW.key, SAFE.CLOCK_LAST.key] := by
  intro k hk
  simp only [List.mem_cons, List.not_mem_nil, or_false, not_or] at hk
  obtain ⟨status, last⟩ := hk
  have marked : (b.clockMarked counts).word k = b.word k := Blk.word_setWord_ne _ _ status
  obtain e | ⟨v, e⟩ := b.clockCounted_cases counts
  · rw [e, marked]
  · rw [e, Blk.word_set_ne _ SAFE.CLOCK_LAST v last, marked]

theorem Node.sameMemory_clockCounted (n : Node) (counts : List Nat) :
    n.sameMemory { n with b := n.b.clockCounted counts } := by
  obtain e | ⟨v, e⟩ := n.b.clockCounted_cases counts <;> rw [e] <;> exact ⟨rfl, rfl, rfl, rfl⟩

/-! ### The commands -/

theorem exec_clockWindow {s : State} {counts : List Nat} (len : counts.length = 5) (on : s.blk.powered Page.SAFE = true) :
    exec (.clockWindow counts) s =
      .next (s.withBlk ((s.blk.clockCounted counts).when ((s.blk.clockRuns counts).any (2 ≤ ·)) Blk.clockFault)) := by
  rw [← Blk.clockWindow_of_powered on]
  exact State.act_on s (i := .clockWindow counts) (fun b => b.clockWindow counts) (beq_iff_eq.mpr len)

/-- CLOCK_STALL: 1,200 line periods without a window. -/
theorem exec_clockStall {s : State} (on : s.blk.powered Page.SAFE = true) :
    let late := 1200 ≤ s.blk.linesSince s.blk.safe.windowAt
    (late → exec .clockStall s = .next (s.withBlk (s.blk.set SAFE.CLOCK_STATUS_OASIS 1).clockFault)) ∧
      (¬late → exec .clockStall s = .next s) :=
  exec_guarded (i := .clockStall) (f := fun n => n.on Blk.clockStall) rfl rfl (apply_ite (Node.mk s.node.otp) _ _ _)
    (Bool.and_eq_true_iff.trans ((and_iff_right on).trans decide_eq_true_iff))

/-! ### The statement -/

/-- Settles O58: a window comes to `clockCounted`, and to CLOCK when a run reaches two (`any_clockRuns_iff`); a stall to its one
condition. -/
theorem clockMonitorRaisesClock : Obligations.ClockMonitorRaisesClock := by
  unfold Obligations.ClockMonitorRaisesClock
  refine ⟨fun s counts len on => ?_, fun s on => ?_, fun b => rfl⟩
  · intro expected domain out before
    have strays (i : Nat) (h : i < 5) : s.blk.clockStrays counts i = true ↔ out i := s.blk.clockStrays_iff counts h
    have run (i : Nat) (h : i < 5) : (out i → nth (s.blk.clockRuns counts) i 0 = before i + 1) ∧
        (¬out i → nth (s.blk.clockRuns counts) i 0 = 0) := by
      rw [s.blk.nth_clockRuns counts h, ← strays i h]
      exact ⟨fun isOut => if_pos isOut, fun inside => if_neg inside⟩
    have again : (s.blk.clockRuns counts).any (2 ≤ ·) = true ↔ ∃ i, i < 5 ∧ out i ∧ 1 ≤ before i := by
      rw [Blk.any_clockRuns_iff]
      exact exists_congr fun i => and_congr_right fun h => and_congr_left' (strays i h)
    have ran := exec_clockWindow len on
    refine ⟨fun twice => ?_, fun once => ?_⟩
    · rw [again.mpr twice, Blk.when_true] at ran
      refine ⟨s.blk.clockCounted counts, ran, ?_⟩
      rw [Blk.clockCounted_safe]
      exact ⟨rfl, run, s.blk.keepsRegs_clockCounted counts, s.node.sameMemory_clockCounted counts⟩
    · have quiet : (s.blk.clockRuns counts).any (2 ≤ ·) = false := by
        rw [← Bool.not_eq_true, again]
        rintro ⟨i, h, isOut, was⟩
        exact absurd (once i h isOut) (Nat.one_le_iff_ne_zero.mp was)
      rw [quiet, Blk.when_false] at ran
      refine ⟨_, ran, rfl, ?_⟩
      beta_reduce
      rw [State.withBlk_blk, Blk.clockCounted_safe, Blk.word_clockCounted_status]
      refine ⟨rfl, rfl, fun i h => ⟨fun isOut => ?_, (run i h).2⟩, fun i h => ?_,
        s.blk.keepsRegs_clockCounted counts, s.node.sameMemory_clockCounted counts⟩
      · exact ((run i h).1 isOut).trans (congrArg (· + 1) (once i h isOut))
      · rw [bitAt_maskOf_word _ (by decide) h, strays i h]
  · obtain ⟨stalled, inTime⟩ := exec_clockStall on
    exact ⟨stalled, fun early => inTime (Nat.not_le.mpr early)⟩

end Sys2Proof.Machine
end

section
/-! PROOFS. What every step keeps of the OTP array (spec/19 R474): a burn sets bits and clears none; every other operation leaves
the array as it is. -/

namespace Sys2Proof.Machine

/-! ### Arrays that only gain bits -/

/-- The array of `m` has every bit that `n`'s has, and the canonical form where `n`'s has it. -/
def Node.otpGrows (n m : Node) : Prop :=
  Otp.kept n.otp m.otp ∧ (Tbl.wf (dflt 0) n.otp = true → Tbl.wf (dflt 0) m.otp = true)

theorem Node.otpGrows_of_eq {n m : Node} (h : m.otp = n.otp) : n.otpGrows m := by
  rw [Node.otpGrows, h]
  exact ⟨Otp.kept_refl _, id⟩

theorem Node.otpGrows_refl (n : Node) : n.otpGrows n := otpGrows_of_eq rfl

theorem Node.otpGrows_on (n : Node) (f : Blk → Blk) : n.otpGrows (n.on f) := otpGrows_of_eq rfl

theorem Node.otpGrows.trans {a b c : Node} (h : a.otpGrows b) (k : b.otpGrows c) : a.otpGrows c :=
  ⟨Otp.kept_trans h.1 k.1, k.2 ∘ h.2⟩

theorem Node.otpGrows.on {n m : Node} (h : n.otpGrows m) (f : Blk → Blk) : n.otpGrows (m.on f) := h.trans (m.otpGrows_on f)

theorem Node.otpGrows_ite {n a b : Node} {c : Prop} [Decidable c] (ha : n.otpGrows a) (hb : n.otpGrows b) :
    n.otpGrows (if c then a else b) := by
  split
  · exact ha
  · exact hb

/-- The same for an operation that answers beside its effect. -/
theorem Node.otpGrows_snd_ite {α : Type} {n : Node} {a b : α × Node} {c : Prop} [Decidable c] (ha : n.otpGrows a.2)
    (hb : n.otpGrows b.2) : n.otpGrows (if c then a else b).2 := by
  split
  · exact ha
  · exact hb

/-- An attempt on a word, whatever then happens to the blocks. -/
theorem Node.otpGrows_burnBits (n : Node) (w : Nat) (code weak : OtpWord) (b : Blk) :
    n.otpGrows ⟨burnBits n.otp w code weak, b⟩ :=
  ⟨Otp.kept_burnBits _ w code weak, wf_burnBits _ w code weak⟩

/-! ### Hamada's burns -/

theorem Node.otpGrows_lifeSync (n : Node) : n.otpGrows n.lifeSync := otpGrows_of_eq rfl

theorem Node.otpGrows.lifeSync {n m : Node} (h : n.otpGrows m) : n.otpGrows m.lifeSync := h.trans m.otpGrows_lifeSync

theorem Node.otpGrows_burnCode (n : Node) (w : Nat) (code weak : OtpWord) : n.otpGrows (n.burnCode w code weak).2 := by
  have burned := n.otpGrows_burnBits w code weak n.b
  exact (otpGrows_ite ((burned.on _).on _) (burned.on _)).lifeSync

theorem Node.otpGrows_burnWord (n : Node) (w : Nat) (data : BitVec 32) (weak : OtpWord) :
    n.otpGrows (n.burnWord w data weak).2 :=
  otpGrows_snd_ite n.otpGrows_refl (otpGrows_snd_ite n.otpGrows_refl (otpGrows_snd_ite n.otpGrows_refl
    (otpGrows_snd_ite n.otpGrows_refl (n.otpGrows_burnCode w (otpEncode data) weak))))

theorem Node.otpGrows_fieldWord (n : Node) (e : BurnEnv) (w : Nat) (data : BitVec 32) :
    n.otpGrows (n.fieldWord e w data).2.2 := by
  unfold Node.fieldWord
  split_ifs
  iterate 3 exact n.otpGrows_refl
  exact n.otpGrows_burnWord w data (weakOf e w)

theorem Node.otpGrows_fieldWords (n : Node) (e : BurnEnv) (ws : List (Nat × BitVec 32)) : n.otpGrows (n.fieldWords e ws).2 := by
  induction ws generalizing n e with
  | nil => exact n.otpGrows_refl
  | cons x rest ih =>
    have first := n.otpGrows_fieldWord e x.1 x.2
    rw [Node.fieldWords]
    split
    · next e' n' word =>
      rw [word] at first
      exact first.trans (ih n' e')
    · next word =>
      rw [word] at first
      exact first

/-! ### Resets and the boot -/

/-- A fold whose every turn only adds bits. -/
theorem Node.otpGrows_foldl {α : Type} (f : Node → α → Node) (hf : ∀ n a, Node.otpGrows n (f n a)) (l : List α) (n : Node) :
    n.otpGrows (l.foldl f n) := by
  induction l generalizing n with
  | nil => exact n.otpGrows_refl
  | cons a l ih => exact (hf n a).trans (ih _)

theorem Node.otpGrows_choosePatch (n : Node) : n.otpGrows n.choosePatch := by
  unfold Node.choosePatch
  split
  · exact n.otpGrows_on _
  · exact n.otpGrows_on _

/-- A word that the erasure burns where it is blank (spec/19 R491). -/
theorem Node.otpGrows_burnBlank (n : Node) (w : Nat) :
    n.otpGrows (if otpSet n.otp w then n else (n.stateData.2.burnCode w (otpEncode n.stateData.1) 0).2) :=
  otpGrows_ite n.otpGrows_refl ((otpGrows_of_eq rfl : n.otpGrows n.stateData.2).trans (otpGrows_burnCode _ w _ 0))

theorem Node.otpGrows_ownerErasure (n : Node) : n.otpGrows n.ownerErasure := by
  unfold Node.ownerErasure
  extract_lets faulted burn revoked erased cleaned
  refine otpGrows_ite n.otpGrows_refl (otpGrows_ite (n.otpGrows_on _) ?_)
  have keys : n.otpGrows revoked :=
    (n.otpGrows_on _).trans (otpGrows_foldl _ (fun m k => m.otpGrows_burnBlank (wOwnerRevoke + k)) [0, 1, 2, 3] _)
  have all : n.otpGrows cleaned := (keys.on _).trans (otpGrows_burnBlank _ wClean)
  exact all.on _

theorem Node.otpGrows_bootPhase1 (n : Node) : n.otpGrows n.bootPhase1 := by
  unfold Node.bootPhase1
  extract_lets phased erased cleared
  have h : n.otpGrows erased := (n.otpGrows_on _).trans phased.otpGrows_ownerErasure
  have cleaned : n.otpGrows cleared := h.on _
  have selected : n.otpGrows (cleared.on Blk.loadRetired).selectAndBoot := cleaned.trans (otpGrows_of_eq rfl)
  exact otpGrows_ite h (otpGrows_ite (cleaned.on _) (otpGrows_ite (cleaned.on _) (otpGrows_ite (cleaned.on _) selected)))

theorem Node.otpGrows_loadOtp (n : Node) : n.otpGrows n.loadOtp := otpGrows_of_eq rfl

theorem Node.otpGrows_checkCalib (n : Node) : n.otpGrows n.checkCalib := otpGrows_of_eq rfl

theorem Node.otpGrows_boot (n : Node) : n.otpGrows n.boot := by
  unfold Node.boot
  extract_lets _ counted chosen defaulted eff shown
  have started : n.otpGrows counted := otpGrows_of_eq rfl
  have loaded : n.otpGrows chosen := (started.trans counted.otpGrows_loadOtp).trans counted.loadOtp.otpGrows_choosePatch
  have set : n.otpGrows defaulted := otpGrows_ite (loaded.on _) loaded
  have checked : n.otpGrows shown.checkCalib := (set.on _).trans shown.otpGrows_checkCalib
  exact otpGrows_ite n.otpGrows_refl (checked.trans shown.checkCalib.otpGrows_bootPhase1).lifeSync

theorem Node.otpGrows_bootResume (n : Node) : n.otpGrows n.bootResume :=
  otpGrows_ite n.otpGrows_bootPhase1.lifeSync n.otpGrows_refl

theorem Node.otpGrows_warmNow (n : Node) (cause : Nat) (counts : Bool) : n.otpGrows (n.warmNow cause counts) := by
  unfold Node.warmNow
  extract_lets reset
  exact otpGrows_ite n.otpGrows_refl ((otpGrows_of_eq rfl : n.otpGrows reset).trans reset.otpGrows_boot)

theorem Node.otpGrows_warmReset (n : Node) (cause : Nat) (counts : Bool) : n.otpGrows (n.warmReset cause counts) :=
  otpGrows_ite (n.otpGrows_on _) (n.otpGrows_warmNow cause counts)

theorem Node.otpGrows.warmReset {n m : Node} (h : n.otpGrows m) (cause : Nat) (counts : Bool) :
    n.otpGrows (m.warmReset cause counts) :=
  h.trans (m.otpGrows_warmReset cause counts)

theorem Node.otpGrows_coldNow (n : Node) : n.otpGrows n.coldNow := by
  unfold Node.coldNow
  extract_lets reset
  exact otpGrows_ite n.otpGrows_refl ((otpGrows_of_eq rfl : n.otpGrows reset).trans reset.otpGrows_boot)

theorem Node.otpGrows_coldReset (n : Node) : n.otpGrows n.coldReset :=
  otpGrows_ite (n.otpGrows_on _) (otpGrows_ite (n.otpGrows_on _) n.otpGrows_coldNow)

theorem Node.otpGrows.coldReset {n m : Node} (h : n.otpGrows m) : n.otpGrows m.coldReset := h.trans m.otpGrows_coldReset

theorem Node.otpGrows_modeDone (n : Node) : n.otpGrows n.modeDone := by
  have done : n.otpGrows { n with b := n.b.modeDone.2 } := otpGrows_of_eq rfl
  exact otpGrows_ite (done.trans (otpGrows_boot _)) done

theorem Node.otpGrows_tallyDrawn (n : Node) : n.otpGrows n.tallyDrawn := by
  have drawn : n.otpGrows { n with b := n.b.tallyDrawn.2 } := otpGrows_of_eq rfl
  exact otpGrows_ite drawn.coldReset drawn

theorem Node.otpGrows_safetyReset (n : Node) : n.otpGrows n.safetyReset := by
  have logged : n.otpGrows { n with b := n.b.safetyReset.2 } := otpGrows_of_eq rfl
  exact otpGrows_ite (logged.warmReset 3 true) logged

theorem Node.otpGrows_writeReset (n : Node) (a : Agent) (kind : Nat) : n.otpGrows (n.writeReset a kind) :=
  otpGrows_ite (n.otpGrows_on _) (otpGrows_ite (n.otpGrows_warmReset 2 true) (otpGrows_ite n.otpGrows_coldReset n.otpGrows_refl))

theorem Node.otpGrows_presOpen (n : Node) : n.otpGrows n.presOpen :=
  otpGrows_ite (((n.otpGrows_on _).on _).warmReset 2 true) (n.otpGrows_on _)

theorem Node.otpGrows_failAndReset (n : Node) : n.otpGrows n.failAndReset := (n.otpGrows_on _).warmReset 2 false

theorem Node.otpGrows_readyTimeout (n : Node) : n.otpGrows n.readyTimeout := otpGrows_ite n.otpGrows_failAndReset n.otpGrows_refl

theorem Node.otpGrows_confirmTimeout (n : Node) : n.otpGrows n.confirmTimeout := otpGrows_ite n.otpGrows_failAndReset n.otpGrows_refl

theorem Node.otpGrows_watchdogExpiry (n : Node) : n.otpGrows n.watchdogExpiry :=
  otpGrows_ite ((n.otpGrows_on _).trans (otpGrows_failAndReset _)) n.otpGrows_refl

theorem Node.otpGrows_resetIfDue (n : Node) : n.otpGrows n.resetIfDue := otpGrows_ite (n.otpGrows_warmReset 2 true) n.otpGrows_refl

theorem Node.otpGrows_lineStart (n : Node) (c0 c1 : Option Conversion) (x : LineInputs) : n.otpGrows (n.lineStart c0 c1 x) :=
  otpGrows_ite ((n.otpGrows_on _).trans (otpGrows_resetIfDue _)) n.otpGrows_refl

/-! ### The FUSE page and privileged actions -/

theorem Node.otpGrows_resetAfterBurn (n : Node) : n.otpGrows n.resetAfterBurn := by
  unfold Node.resetAfterBurn
  extract_lets k quiet
  have h : n.otpGrows quiet := n.otpGrows_on _
  exact otpGrows_ite (h.trans (quiet.otpGrows_warmNow 2 true)) (otpGrows_ite (h.trans quiet.otpGrows_coldNow)
    (otpGrows_ite (h.trans (quiet.otpGrows_warmNow 3 true)) (otpGrows_ite (h.trans (quiet.otpGrows_warmNow 2 false)) h)))

theorem Node.otpGrows_attemptDone (n : Node) (weak : OtpWord) : n.otpGrows (n.attemptDone weak) := by
  unfold Node.attemptDone
  split
  · exact n.otpGrows_refl
  · next r _ =>
    extract_lets code burned pulsed after synced
    have attempt : n.otpGrows pulsed := (n.otpGrows_burnBits r.word code weak n.b).on _
    have ended : n.otpGrows synced :=
      (otpGrows_ite (attempt.on _) (otpGrows_ite (attempt.on _) (otpGrows_ite (attempt.on _) (attempt.on _)))).lifeSync
    exact otpGrows_ite n.otpGrows_refl (otpGrows_ite (ended.trans synced.otpGrows_resetAfterBurn) ended)

theorem Node.otpGrows_burnAnswer (n : Node) (r : BurnEnd) : n.otpGrows (n.burnAnswer r).2 := by
  cases r with
  | failed => exact n.otpGrows_on _
  | _ => exact n.otpGrows_refl

theorem Node.otpGrows.burnAnswer {n m : Node} (h : n.otpGrows m) (r : BurnEnd) : n.otpGrows (m.burnAnswer r).2 :=
  h.trans (m.otpGrows_burnAnswer r)

theorem Node.otpGrows_burnState (n : Node) (e : BurnEnv) (w : Nat) : n.otpGrows (n.burnState e w).2 := by
  have drawn : n.otpGrows n.stateData.2 := otpGrows_of_eq rfl
  exact (drawn.trans (otpGrows_fieldWords _ e [(w, n.stateData.1)])).burnAnswer _

theorem Node.otpGrows_lcAdvance (n : Node) (target : Nat) (e : BurnEnv) : n.otpGrows (n.lcAdvance target e).2 := by
  have burned := n.otpGrows_burnState e (target - 1)
  exact otpGrows_snd_ite n.otpGrows_refl (otpGrows_snd_ite n.otpGrows_refl (otpGrows_snd_ite n.otpGrows_refl
    (otpGrows_ite (burned.on _) burned)))

theorem Node.otpGrows_fuseBurn (n : Node) (field slot : Nat) (value : List Byte) (e : BurnEnv) :
    n.otpGrows (n.fuseBurn field slot value e).2 := by
  unfold Node.fuseBurn
  extract_lets st allowed ready
  split
  · exact n.otpGrows_refl
  · next ws _ =>
    have cleared : n.otpGrows ready := otpGrows_ite (n.otpGrows_on _).lifeSync n.otpGrows_refl
    exact otpGrows_snd_ite n.otpGrows_refl (otpGrows_snd_ite n.otpGrows_refl
      ((cleared.trans (ready.otpGrows_fieldWords e ws)).burnAnswer _))

theorem Node.otpGrows_keyRevoke (n : Node) (kind index : Nat) (e : BurnEnv) : n.otpGrows (n.keyRevoke kind index e).2 :=
  otpGrows_snd_ite n.otpGrows_refl (otpGrows_snd_ite n.otpGrows_refl (otpGrows_snd_ite n.otpGrows_refl
    (otpGrows_snd_ite n.otpGrows_refl (n.otpGrows_burnState e _))))

theorem Node.otpGrows_arbRaise (n : Node) (first t : Nat) (e : BurnEnv) (fuel : Nat) :
    n.otpGrows (n.arbRaise first t e fuel).2 := by
  induction fuel generalizing n e with
  | zero => exact n.otpGrows_refl
  | succ fuel ih =>
    rw [Node.arbRaise]
    refine otpGrows_snd_ite n.otpGrows_refl ?_
    split
    · exact n.otpGrows_refl
    · next w _ =>
      have burned := n.otpGrows_fieldWord e w (BitVec.ofNat 32 (arbCount n.otp first + 1))
      dsimp only
      split
      · exact burned.trans (ih _ _)
      · exact burned.burnAnswer _

theorem Node.otpGrows_arbCommit (n : Node) (kind t : Nat) (e : BurnEnv) : n.otpGrows (n.arbCommit kind t e).2 :=
  otpGrows_snd_ite n.otpGrows_refl (otpGrows_snd_ite n.otpGrows_refl (otpGrows_snd_ite n.otpGrows_refl
    (otpGrows_snd_ite n.otpGrows_refl (n.otpGrows_arbRaise _ t e 65))))

theorem Node.otpGrows_fuseTrial (n : Node) (slot : Nat) (en : Bool) (hash : List Byte) : n.otpGrows (n.fuseTrial slot en hash).2 :=
  otpGrows_snd_ite n.otpGrows_refl (otpGrows_snd_ite n.otpGrows_refl (otpGrows_snd_ite n.otpGrows_refl
    (otpGrows_snd_ite n.otpGrows_refl (otpGrows_snd_ite (n.otpGrows_on _).lifeSync
      (otpGrows_snd_ite n.otpGrows_refl (n.otpGrows_on _).lifeSync)))))

theorem Node.otpGrows_patchInstall (n : Node) (off len : Nat) (flashErr : Bool) : n.otpGrows (n.patchInstall off len flashErr).2 :=
  otpGrows_snd_ite n.otpGrows_refl (otpGrows_snd_ite n.otpGrows_refl (otpGrows_snd_ite n.otpGrows_refl
    (otpGrows_snd_ite n.otpGrows_refl (n.otpGrows_on _))))

theorem Node.otpGrows_factoryReset (n : Node) : n.otpGrows n.factoryReset.2 :=
  otpGrows_snd_ite n.otpGrows_refl (n.otpGrows_on _)

theorem Node.otpGrows_privRun (n : Node) (a : PrivArgs) (e : BurnEnv) (flashErr : Bool) : n.otpGrows (n.privRun a e flashErr).2 := by
  cases a with
  | lcAdvance t => exact n.otpGrows_lcAdvance t e
  | fuseBurn f s v => exact n.otpGrows_fuseBurn f s v e
  | keyRevoke k i => exact n.otpGrows_keyRevoke k i e
  | arbCommit k t => exact n.otpGrows_arbCommit k t e
  | fuseTrial s en h => exact n.otpGrows_fuseTrial s en h
  | patchInstall o l => exact n.otpGrows_patchInstall o l flashErr
  | factoryReset => exact n.otpGrows_factoryReset
  | unknown _ => exact n.otpGrows_refl

theorem Node.otpGrows_priv (n : Node) (a : PrivArgs) (e : BurnEnv) (flashErr : Bool) : n.otpGrows (n.priv a e flashErr).2 :=
  (otpGrows_snd_ite n.otpGrows_refl (n.otpGrows_privRun a e flashErr)).on _

theorem Node.otpGrows_privNow (n : Node) (a : PrivArgs) (e : BurnEnv) (flashErr : Bool) : n.otpGrows (n.privNow a e flashErr) := by
  have done := n.otpGrows_priv a e flashErr
  exact otpGrows_ite (done.warmReset 2 true) done

theorem Node.otpGrows_returnReq (n : Node) (auth : List Byte) (e : BurnEnv) : n.otpGrows (n.returnReq auth e) :=
  otpGrows_ite n.otpGrows_refl (otpGrows_ite ((n.otpGrows_on _).on _) (((n.otpGrows_on _).on _).trans (otpGrows_lcAdvance _ lcReturn e)))

theorem Node.otpGrows_debugAccess (n : Node) (r : DebugReq) : n.otpGrows (n.debugAccess r) := by
  cases r with
  | otpWord w => exact otpGrows_ite (n.otpGrows_on _) (n.otpGrows_on _)
  | other => exact otpGrows_ite (n.otpGrows_on _) (n.otpGrows_on _)

/-! ### The mailbox -/

theorem Node.otpGrows_mbServe (n : Node) (op : Nat) (f : Node → List Byte → MbAnswer × Node)
    (hf : ∀ m d, Node.otpGrows m (f m d).2) : n.otpGrows (n.mbServe op f) :=
  otpGrows_ite n.otpGrows_refl (otpGrows_ite (n.otpGrows_on _) (otpGrows_ite n.otpGrows_refl (otpGrows_ite (n.otpGrows_on _)
    ((hf n _).on _))))

theorem Node.otpGrows_mbRecord (n : Node) (flashErr : Bool) (r : BootRec) : n.otpGrows (n.mbRecord flashErr r).2 :=
  otpGrows_snd_ite n.otpGrows_refl (otpGrows_snd_ite n.otpGrows_refl (n.otpGrows_on _))

theorem Node.otpGrows_mbReady (n : Node) : n.otpGrows n.mbReady := by
  unfold Node.mbReady
  refine n.otpGrows_mbServe 1 _ fun m d => ?_
  split
  · exact m.otpGrows_refl
  · exact m.otpGrows_on _

theorem Node.otpGrows_mbConfirm (n : Node) (flashErr : Bool) : n.otpGrows (n.mbConfirm flashErr) :=
  n.otpGrows_mbServe 2 _ fun m _ => m.otpGrows_mbRecord flashErr _

theorem Node.otpGrows_mbActivate (n : Node) (flashErr : Bool) : n.otpGrows (n.mbActivate flashErr) :=
  n.otpGrows_mbServe 3 _ fun m _ => otpGrows_snd_ite m.otpGrows_refl (otpGrows_snd_ite m.otpGrows_refl (m.otpGrows_mbRecord flashErr _))

theorem Node.otpGrows_mbReset (n : Node) : n.otpGrows n.mbReset := by
  have served := n.otpGrows_mbServe 4 (fun n d => (if leAt d 0 1 == 1 then mbOk else mbBadArgs, n)) (fun m _ => m.otpGrows_refl)
  exact otpGrows_ite (served.warmReset 2 true) served

theorem Node.otpGrows_mbTally (n : Node) : n.otpGrows n.mbTally := n.otpGrows_mbServe 5 _ fun m _ => m.otpGrows_on _

theorem Node.otpGrows_mbFuseRead (n : Node) : n.otpGrows n.mbFuseRead :=
  n.otpGrows_mbServe 6 _ fun m _ => otpGrows_snd_ite m.otpGrows_refl (otpGrows_snd_ite m.otpGrows_refl m.otpGrows_refl)

theorem Node.otpGrows_privPayload (n : Node) (d : List Byte) (e : BurnEnv) (flashErr : Bool) :
    n.otpGrows (n.privPayload d e flashErr).2 :=
  n.otpGrows_priv _ e flashErr

theorem Node.otpGrows_mbPriv (n : Node) (e : BurnEnv) (flashErr : Bool) : n.otpGrows (n.mbPriv e flashErr) :=
  n.otpGrows_mbServe 7 _ fun m d => m.otpGrows_privPayload d e flashErr

theorem Node.otpGrows_mbOwnerBind (n : Node) (flashErr : Bool) : n.otpGrows (n.mbOwnerBind flashErr) :=
  n.otpGrows_mbServe 8 _ fun m _ => otpGrows_snd_ite m.otpGrows_refl (otpGrows_snd_ite m.otpGrows_refl
    (otpGrows_snd_ite m.otpGrows_refl (m.otpGrows_on _)))

/-! ### Register accesses -/

theorem Node.otpGrows_accessWrite (n : Node) (a : Agent) (page off : Nat) (word : Bool) (v : Word) :
    n.otpGrows (n.accessWrite a page off word v).2 := by
  have written : n.otpGrows { n with b := (n.b.accessWrite a page off word v).2 } := otpGrows_of_eq rfl
  exact otpGrows_snd_ite
    (otpGrows_snd_ite (n.otpGrows_on _) (otpGrows_snd_ite (n.otpGrows_writeReset a _) (otpGrows_of_eq rfl)))
    (otpGrows_ite written.lifeSync written)

theorem Node.otpGrows_accessRead (n : Node) (a : Agent) (page off : Nat) (word : Bool) :
    n.otpGrows (n.accessRead a page off word).2 :=
  otpGrows_of_eq rfl

theorem Node.otpGrows_writeReg (n : Node) (a : Agent) (page off : Nat) (word : Bool) (v : Word) :
    n.otpGrows (n.writeReg a page off word v) :=
  (n.otpGrows_accessWrite a page off word v).on _

theorem Node.otpGrows_readReg (n : Node) (a : Agent) (page off : Nat) (word : Bool) : n.otpGrows (n.readReg a page off word) :=
  (n.otpGrows_accessRead a page off word).on _

theorem Node.otpGrows_tableData (n : Node) (a : Agent) (write : Option Word) (error : Nat) :
    n.otpGrows (n.tableData a write error) := by
  cases write with
  | some v => exact n.otpGrows_writeReg a Page.ISP 0x048 true v
  | none => exact (otpGrows_ite (n.otpGrows_on _) n.otpGrows_refl).trans (otpGrows_readReg _ a Page.ISP 0x048 true)

theorem Node.otpGrows_dataAccess (n : Node) (a : Agent) (page off : Nat) (write : Bool) (v : Word) :
    n.otpGrows (n.dataAccess a page off write v) :=
  otpGrows_ite (n.otpGrows_writeReg a page off true v) (n.otpGrows_readReg a page off true)

theorem Node.otpGrows_ccGo (n : Node) (a : Agent) (t : Nat) (byGroup : Bool) (desc : List Byte) :
    n.otpGrows (n.ccGo a t byGroup desc) :=
  otpGrows_ite (n.otpGrows_on _) (n.otpGrows_writeReg a (tilePage t) 0x0A0 true 1)

/-! ### Requests and messages of clients -/

theorem Node.otpGrows_reqRun (n : Node) (ward : Bool) (e kind : Nat) (f : Node → JEntry → Nat × List Byte × Node)
    (hf : ∀ m x, Node.otpGrows m (f m x).2.2) : n.otpGrows (n.reqRun ward e kind f) :=
  otpGrows_ite n.otpGrows_refl (otpGrows_ite (n.otpGrows_on _) (otpGrows_ite (n.otpGrows_on _) ((hf n _).on _)))

theorem Node.otpGrows_hostReg (n : Node) (p : List Byte) : n.otpGrows (n.hostReg p).2 :=
  otpGrows_snd_ite (n.otpGrows_accessWrite .hostPath _ _ true _) (n.otpGrows_accessRead .hostPath _ _ true)

theorem Node.otpGrows_maintServe (n : Node) (seq : Nat) (p : List Byte) : n.otpGrows (n.maintServe seq p) := by
  unfold Node.maintServe
  exact (n.otpGrows_hostReg p).on _

theorem Node.otpGrows_icpRequest (n : Node) (m : IcpMsg) : n.otpGrows (n.icpRequest m) := by
  unfold Node.icpRequest
  refine otpGrows_ite n.otpGrows_refl ?_
  split
  · exact n.otpGrows_on _
  · next k _ =>
    refine otpGrows_ite (n.otpGrows_on _) ?_
    have joined : n.otpGrows { n with b := (n.b.reassemble k m).2 } := otpGrows_of_eq rfl
    dsimp only
    split
    · exact joined
    · exact otpGrows_ite (joined.trans (otpGrows_maintServe _ m.seq _)) (joined.on _)

theorem Node.otpGrows_icpIn (n : Node) (m : IcpMsg) (f : Node → Node) (h : n.otpGrows (f n)) : n.otpGrows (n.icpIn m f) :=
  otpGrows_ite (n.otpGrows_on _) h

theorem Node.otpGrows_icpMessage (n : Node) (type : Nat) (m : IcpMsg) : n.otpGrows (n.icpMessage type m) :=
  otpGrows_ite (n.otpGrows_on _) (otpGrows_ite (n.otpGrows_on _) (otpGrows_ite (n.otpGrows_on _)
    (otpGrows_ite (n.otpGrows_icpRequest m) (otpGrows_ite (n.otpGrows_on _) n.otpGrows_refl))))

theorem Node.otpGrows_icpDatagramIn (n : Node) (mac : Nat) (src : HostAddr) (d : List Byte) :
    n.otpGrows (n.icpDatagramIn mac src d) := by
  unfold Node.icpDatagramIn
  split
  · exact n.otpGrows_icpMessage _ _
  · exact n.otpGrows_on _

theorem Node.otpGrows_ethFrame (n : Node) (mac : Nat) (f : EthFrame) : n.otpGrows (n.ethFrame mac f) := by
  refine otpGrows_ite n.otpGrows_refl ?_
  cases f with
  | udp target src d => exact otpGrows_ite ((n.otpGrows_on _).trans (otpGrows_icpDatagramIn _ mac src d)) (n.otpGrows_on _)
  | _ => exact n.otpGrows_on _

/-! ### Every command -/

/-- Every command acts on the node by an operation that only adds bits to the array: register writes through `writeReg`, what acts
on the blocks alone by leaving it, the others as shown above. -/
theorem exists_act_otpGrows (i : Instr) : ∃ f : Node → Node, (∀ s, exec i s = s.act i f) ∧ ∀ n, Node.otpGrows n (f n) := by
  unfold exec
  cases i with
  | journalCommit | itemPost | hbArm | ptpStep | frameModeWrite | ergKick | ipi | xcapClear | aliveWrite | schedKick
  | entDataWrite | joinSend | fuseProgGo | fuseLockWrite | nodeIdWrite | routeArm | routeGo | expandGo | moverTailWrite
  | moverResume | moverSkip | moverAbort | retireLoad | retireForced | shareWrite | registerWrite | irqClear
  | irqEnableWrite | irqForce | errCaptureClear | lockWrite | modeRequest | rtcWrite | pwrResetWarm | pwrResetCold
  | tallyGo | qpDoorbell | cqOverflowClear | wadiBump | shardLoad | shardUnload | queryPost | patternRegWrite
  | journalModeWrite | mapNow | roleMasterWrite | syncinEnableWrite | portOpen | portRetrain | packGo | shadowHold
  | shadowRelease | shadowDiscard | blockEnable | blockFreeze | softReset | errCountClear | windowEnable | windowDisable
  | qpResetReq | qpInitReq | qpReadyReq | qpForceError | wadiArm | attrWrite | tileCancel | tileRelease | tileMapOut
  | tileMapIn | tileSelfCheck | dbgTagWrite =>
    exact ⟨_, fun _ => rfl, fun n => n.otpGrows_writeReg _ _ _ _ _⟩
  | wideLowWrite | wideHighWrite | shadowWrite | shlCoordWrite =>
    exact ⟨_, fun _ => rfl, fun n => Node.otpGrows_ite (n.otpGrows_writeReg _ _ _ _ _) n.otpGrows_refl⟩
  | wideLowRead => exact ⟨_, fun _ => rfl, fun n => Node.otpGrows_ite (n.otpGrows_readReg _ _ _ _) n.otpGrows_refl⟩
  | tapEnable => exact ⟨_, fun _ => rfl, fun n => n.otpGrows_writeReg _ _ _ _ _⟩
  | rtDataAccess | dbgDataAccess => exact ⟨_, fun _ => rfl, fun n => n.otpGrows_dataAccess _ _ _ _ _⟩
  | tableDataAccess => exact ⟨_, fun _ => rfl, fun n => n.otpGrows_tableData _ _ _⟩
  | ccGo => exact ⟨_, fun _ => rfl, fun n => n.otpGrows_ccGo _ _ _ _⟩
  | icpOpen m | icpClose m | icpAck m | icpPing m => exact ⟨_, fun _ => rfl, fun n => n.otpGrows_icpIn m _ (n.otpGrows_on _)⟩
  | icpRequest m => exact ⟨_, fun _ => rfl, fun n => n.otpGrows_icpIn m _ (n.otpGrows_icpRequest m)⟩
  | ethFrameReceive => exact ⟨_, fun _ => rfl, fun n => n.otpGrows_ethFrame _ _⟩
  | reqSubscribe => exact ⟨_, fun _ => rfl, fun n => n.otpGrows_reqRun _ _ 2 _ fun m _ => m.otpGrows_on _⟩
  | reqReg => exact ⟨_, fun _ => rfl, fun n => n.otpGrows_reqRun _ _ 3 _ fun m x => m.otpGrows_hostReg x.body⟩
  | reqConfigClient => exact ⟨_, fun _ => rfl, fun n => n.otpGrows_reqRun _ _ 4 _ fun m _ => m.otpGrows_on _⟩
  | reqPlanOffer => exact ⟨_, fun _ => rfl, fun n => n.otpGrows_reqRun _ _ 5 _ fun _ _ => Node.otpGrows_of_eq rfl⟩
  | reqPriv => exact ⟨_, fun _ => rfl, fun n => n.otpGrows_reqRun _ _ 6 _ fun m _ => m.otpGrows_privPayload _ _ _⟩
  | reqHealthNow => exact ⟨_, fun _ => rfl, fun n => n.otpGrows_reqRun _ _ 7 _ fun m _ => m.otpGrows_refl⟩
  | linePeriodStart => exact ⟨_, fun _ => rfl, fun n => n.otpGrows_lineStart _ _ _⟩
  | ergReadyTimeout => exact ⟨_, fun _ => rfl, Node.otpGrows_readyTimeout⟩
  | ergConfirmTimeout => exact ⟨_, fun _ => rfl, Node.otpGrows_confirmTimeout⟩
  | ergWatchdogExpiry => exact ⟨_, fun _ => rfl, Node.otpGrows_watchdogExpiry⟩
  | mbReady => exact ⟨_, fun _ => rfl, Node.otpGrows_mbReady⟩
  | mbConfirm => exact ⟨_, fun _ => rfl, fun n => n.otpGrows_mbConfirm _⟩
  | mbActivate => exact ⟨_, fun _ => rfl, fun n => n.otpGrows_mbActivate _⟩
  | mbReset => exact ⟨_, fun _ => rfl, Node.otpGrows_mbReset⟩
  | mbTally => exact ⟨_, fun _ => rfl, Node.otpGrows_mbTally⟩
  | mbFuseRead => exact ⟨_, fun _ => rfl, Node.otpGrows_mbFuseRead⟩
  | mbPriv => exact ⟨_, fun _ => rfl, fun n => n.otpGrows_mbPriv _ _⟩
  | mbOwnerBind => exact ⟨_, fun _ => rfl, fun n => n.otpGrows_mbOwnerBind _⟩
  | fuseAttemptDone => exact ⟨_, fun _ => rfl, fun n => n.otpGrows_attemptDone _⟩
  | privLcAdvance | privFuseBurn | privKeyRevoke | privArbCommit | privFuseTrial | privPatchInstall | privFactoryReset =>
    exact ⟨_, fun _ => rfl, fun n => n.otpGrows_privNow _ _ _⟩
  | returnReq => exact ⟨_, fun _ => rfl, fun n => n.otpGrows_returnReq _ _⟩
  | debugAccess => exact ⟨_, fun _ => rfl, fun n => n.otpGrows_debugAccess _⟩
  | modeDone => exact ⟨_, fun _ => rfl, fun n => n.otpGrows_modeDone.on _⟩
  | oasisTick => exact ⟨_, fun _ => rfl, fun n => (n.otpGrows_on _).trans (Node.otpGrows_bootResume _)⟩
  | presenceOpen => exact ⟨_, fun _ => rfl, Node.otpGrows_presOpen⟩
  | coldReset => exact ⟨_, fun _ => rfl, Node.otpGrows_coldReset⟩
  | warmReset => exact ⟨_, fun _ => rfl, fun n => n.otpGrows_warmReset _ true⟩
  | tallyDrawBarDone => exact ⟨_, fun _ => rfl, Node.otpGrows_tallyDrawn⟩
  | safetyWarmReset => exact ⟨_, fun _ => rfl, Node.otpGrows_safetyReset⟩
  | _ => exact ⟨_, fun _ => rfl, fun n => n.otpGrows_on _⟩

/-! ### The statement -/

/-- Settles O59: an idle step changes nothing; any other is one command, which only adds bits (`exists_act_otpGrows`). -/
theorem everyStepKeepsBurnedOtpBits : Obligations.EveryStepKeepsBurnedOtpBits := by
  unfold Obligations.EveryStepKeepsBurnedOtpBits
  intro s t h
  rw [step] at h
  split at h
  · obtain rfl := Host.Outcome.next.inj h
    exact s.node.otpGrows_refl
  · next i rest _ =>
    obtain ⟨f, acts, grows⟩ := exists_act_otpGrows i
    rw [acts] at h
    obtain ⟨-, -, node⟩ := State.act_cases h
    rw [node]
    exact grows s.node

end Sys2Proof.Machine
end

section
/-! PROOFS. The queue and the operands (spec/98): one step runs one command, and a command acts on the node alone. -/

namespace Sys2Proof.Machine

/-- Every meaning has the one form: it acts on the node. -/
theorem exists_act (i : Instr) : ∃ f : Node → Node, ∀ s, exec i s = s.act i f := by
  unfold exec
  cases i <;> exact ⟨_, fun _ => rfl⟩

/-- Settles O1: by the two branches of `step`. -/
theorem stepRunsTheFrontCommand : Obligations.StepRunsTheFrontCommand := by
  unfold Obligations.StepRunsTheFrontCommand
  refine fun s => ⟨fun c rest waits => ?_, fun idle => ?_⟩
  · rw [step, waits]
  · rw [step, idle]

/-- Settles O2: every meaning is an `act` (`exists_act`), which stops exactly on operands that are not well formed. -/
theorem commandStopsExactlyOnOperandsTheBlockLacks : Obligations.CommandStopsExactlyOnOperandsTheBlockLacks := by
  unfold Obligations.CommandStopsExactlyOnOperandsTheBlockLacks
  intro i s
  obtain ⟨f, acts⟩ := exists_act i
  rw [acts s]
  exact ⟨fun has => ⟨f s.node, s.act_next f has⟩, s.act_fault f⟩

end Sys2Proof.Machine
end

section
/-! PROOFS. The state after reset (spec/17 R436). -/

namespace Sys2Proof.Machine

/-- The unit the model starts with is in FIELD (notes/assumptions/4). -/
theorem lifeState_resetOtp : lifeState resetOtp = lcField := by decide +kernel

/-- Settles O60: the reset state lists nothing, so that every memory is in its canonical form and every register reads its reset value;
its OTP array says FIELD. -/
theorem resetStateIsAsStated : Obligations.ResetStateIsAsStated := by
  unfold Obligations.ResetStateIsAsStated
  exact ⟨rfl, memWf_reset, rfl, rfl, rfl, rfl, rfl, rfl, rfl, rfl, fun _ => rfl, fun _ => rfl, lifeState_resetOtp⟩

end Sys2Proof.Machine
end

section
/-! PROOFS. What register updates and error captures leave (spec/03 R61, R69, R72): the state behind the registers, every other
register, every other field. -/

namespace Sys2Proof.Machine

/-! ### A command by what it does -/

/-- A command that leaves this node. -/
theorem exec_next {s : State} {i : Instr} {f : Node → Node} {n : Node} (act : exec i s = s.act i f) (wf : i.wf = true)
    (effect : f s.node = n) : exec i s = .next { s with node := n } := by
  rw [act, State.act_next s f wf, effect]

/-- A command that leaves these blocks. -/
theorem exec_blk {s : State} {i : Instr} {f : Blk → Blk} {b : Blk} (act : exec i s = s.act i (fun n => n.on f)) (wf : i.wf = true)
    (effect : f s.blk = b) : exec i s = .next (s.withBlk b) := by
  rw [act, State.act_on s f wf, effect]

/-- A command that leaves the blocks as they are. -/
theorem exec_blk_same {s : State} {i : Instr} {f : Blk → Blk} (act : exec i s = s.act i (fun n => n.on f)) (wf : i.wf = true)
    (effect : f s.blk = s.blk) : exec i s = .next s := by
  rw [exec_blk act wf effect, State.withBlk_self]

/-- A command that leaves the node as it is. -/
theorem exec_same {s : State} {i : Instr} {f : Node → Node} (act : exec i s = s.act i f) (wf : i.wf = true)
    (effect : f s.node = s.node) : exec i s = .next s :=
  exec_next act wf effect

/-- A command on the blocks completes with what holds of the blocks it leaves. -/
theorem completes_of_blk {s : State} {i : Instr} {f : Blk → Blk} {b : Blk} {P : State → Prop}
    (act : exec i s = s.act i (fun n => n.on f)) (wf : i.wf = true) (effect : f s.blk = b) (p : P (s.withBlk b)) : completes i s P :=
  ⟨s.withBlk b, exec_blk act wf effect, rfl, p⟩

/-! ### Nothing behind the registers moves -/

/-- `b'` differs from `b` in registers, page notes, reports, outputs and drawn free values alone. -/
def Blk.keepsBehind (b b' : Blk) : Prop :=
  ∃ r p q s n, b' = { b with regs := r, pages := p, reports := q, sent := s, fresh := n }

theorem Blk.keepsBehind_refl (b : Blk) : b.keepsBehind b := ⟨_, _, _, _, _, rfl⟩

theorem Blk.keepsBehind.trans {a b c : Blk} (h : a.keepsBehind b) (k : b.keepsBehind c) : a.keepsBehind c := by
  obtain ⟨r, p, q, s, n, rfl⟩ := h
  obtain ⟨r', p', q', s', n', rfl⟩ := k
  exact ⟨r', p', q', s', n', rfl⟩

/-- What does not read those parts reads alike. -/
theorem Blk.keepsBehind.proj {α : Type} {b b' : Blk} (h : b.keepsBehind b') (f : Blk → α)
    (hf : ∀ r p q s n, f { b with regs := r, pages := p, reports := q, sent := s, fresh := n } = f b) : f b' = f b := by
  obtain ⟨r, p, q, s, n, rfl⟩ := h
  exact hf r p q s n

theorem Blk.keepsBehind_setWord (b : Blk) (k : Nat) (v : Word) : b.keepsBehind (b.setWord k v) := ⟨_, _, _, _, _, rfl⟩
theorem Blk.keepsBehind_set (b : Blk) (f : Fld) (v : Nat) : b.keepsBehind (b.set f v) := ⟨_, _, _, _, _, rfl⟩
theorem Blk.keepsBehind_raise (b : Blk) (f : Fld) : b.keepsBehind (b.raise f) := ⟨_, _, _, _, _, rfl⟩
theorem Blk.keepsBehind_bump (b : Blk) (f : Fld) : b.keepsBehind (b.bump f) := ⟨_, _, _, _, _, rfl⟩
theorem Blk.keepsBehind_bumpSat (b : Blk) (f : Fld) : b.keepsBehind (b.bumpSat f) := ⟨_, _, _, _, _, rfl⟩
theorem Blk.keepsBehind_addSat (b : Blk) (f : Fld) (n : Nat) : b.keepsBehind (b.addSat f n) := ⟨_, _, _, _, _, rfl⟩
theorem Blk.keepsBehind_markChanged (b : Blk) (page : Nat) : b.keepsBehind (b.markChanged page) := ⟨_, _, _, _, _, rfl⟩
theorem Blk.keepsBehind_emit (b : Blk) (e : OutEvent) : b.keepsBehind (b.emit e) := ⟨_, _, _, _, _, rfl⟩
theorem Blk.keepsBehind_report (b : Blk) (c p : Nat) : b.keepsBehind (b.report c p) := ⟨_, _, _, _, _, rfl⟩
theorem Blk.keepsBehind_free (b : Blk) (w : Nat) : b.keepsBehind (b.free w).2 := ⟨_, _, _, _, _, rfl⟩

theorem Blk.keepsBehind.setWord {b b' : Blk} (h : b.keepsBehind b') (k : Nat) (v : Word) : b.keepsBehind (b'.setWord k v) :=
  h.trans (b'.keepsBehind_setWord k v)
theorem Blk.keepsBehind.set {b b' : Blk} (h : b.keepsBehind b') (f : Fld) (v : Nat) : b.keepsBehind (b'.set f v) :=
  h.trans (b'.keepsBehind_set f v)
theorem Blk.keepsBehind.raise {b b' : Blk} (h : b.keepsBehind b') (f : Fld) : b.keepsBehind (b'.raise f) :=
  h.trans (b'.keepsBehind_raise f)
theorem Blk.keepsBehind.bumpSat {b b' : Blk} (h : b.keepsBehind b') (f : Fld) : b.keepsBehind (b'.bumpSat f) :=
  h.trans (b'.keepsBehind_bumpSat f)
theorem Blk.keepsBehind.markChanged {b b' : Blk} (h : b.keepsBehind b') (page : Nat) : b.keepsBehind (b'.markChanged page) :=
  h.trans (b'.keepsBehind_markChanged page)
theorem Blk.keepsBehind.conf {b b' : Blk} (h : b.keepsBehind b') (f : Fld) (v : Nat) : b.keepsBehind (b'.conf f v) :=
  (h.set f v).markChanged _
theorem Blk.keepsBehind.emit {b b' : Blk} (h : b.keepsBehind b') (e : OutEvent) : b.keepsBehind (b'.emit e) :=
  h.trans (b'.keepsBehind_emit e)
theorem Blk.keepsBehind.report {b b' : Blk} (h : b.keepsBehind b') (c p : Nat) : b.keepsBehind (b'.report c p) :=
  h.trans (b'.keepsBehind_report c p)

theorem Blk.keepsBehind_capture (b : Blk) (page cause agent off : Nat) : b.keepsBehind (b.capture page cause agent off) := by
  have counted := (b.keepsBehind_bumpSat (hErrCount page)).raise (hIrqErr page)
  obtain full | ⟨w, v, free⟩ := b.capture_cases page cause agent off
  · rw [full]
    exact counted.raise _
  · rw [free]
    exact (counted.setWord _ _).setWord _ _

theorem Blk.keepsBehind_captureFree (b : Blk) (page cause agent : Nat) : b.keepsBehind (b.captureFree page cause agent) :=
  (b.keepsBehind_free 12).trans (Blk.keepsBehind_capture _ page cause agent _)

theorem Blk.keepsBehind_captureOwnFree (b : Blk) (page cause : Nat) : b.keepsBehind (b.captureOwnFree page cause) :=
  b.keepsBehind_captureFree page cause 7

theorem Blk.keepsBehind.capture {b b' : Blk} (h : b.keepsBehind b') (page cause agent off : Nat) :
    b.keepsBehind (b'.capture page cause agent off) :=
  h.trans (b'.keepsBehind_capture page cause agent off)
theorem Blk.keepsBehind.captureFree {b b' : Blk} (h : b.keepsBehind b') (page cause agent : Nat) :
    b.keepsBehind (b'.captureFree page cause agent) :=
  h.trans (b'.keepsBehind_captureFree page cause agent)
theorem Blk.keepsBehind.captureOwnFree {b b' : Blk} (h : b.keepsBehind b') (page cause : Nat) :
    b.keepsBehind (b'.captureOwnFree page cause) :=
  h.trans (b'.keepsBehind_captureOwnFree page cause)

/-- A step for each number of a list. -/
theorem Blk.keepsBehind_each {α : Type} (f : Blk → α → Blk) (hf : ∀ b i, Blk.keepsBehind b (f b i)) (l : List α) (b : Blk) :
    b.keepsBehind (b.each l f) := by
  induction l generalizing b with
  | nil => exact b.keepsBehind_refl
  | cons i l ih => exact (hf b i).trans (ih (f b i))

theorem Blk.keepsBehind_when {b b' : Blk} (h : b.keepsBehind b') {c : Bool} {f : Blk → Blk} (hf : b.keepsBehind (f b')) :
    b.keepsBehind (b'.when c f) := by
  cases c
  · exact h
  · exact hf

theorem Blk.keepsBehind_ite {b x y : Blk} {c : Prop} [Decidable c] (hx : b.keepsBehind x) (hy : b.keepsBehind y) :
    b.keepsBehind (if c then x else y) := by
  split
  · exact hx
  · exact hy

/-- Nothing behind the registers moves: the memories among it. -/
theorem Node.sameMemory_of_keepsBehind {n : Node} {b : Blk} (h : n.b.keepsBehind b) : n.sameMemory { n with b := b } :=
  ⟨rfl, h.proj (·.flash) (fun _ _ _ _ _ => rfl), h.proj (·.bulk.bytes) (fun _ _ _ _ _ => rfl),
    h.proj (·.spm.bytes) (fun _ _ _ _ _ => rfl)⟩

/-! ### Registers that an update leaves -/

theorem Blk.keepsRegs_refl (b : Blk) (l : List Nat) : b.keepsRegs b l := fun _ _ => rfl

theorem Blk.keepsRegs.trans {a b c : Blk} {l : List Nat} (h : a.keepsRegs b l) (k : b.keepsRegs c l) : a.keepsRegs c l :=
  fun j hj => (k j hj).trans (h j hj)

theorem Blk.keepsRegs.setWord {b b' : Blk} {l : List Nat} (h : b.keepsRegs b' l) {k : Nat} (v : Word) (hk : k ∈ l) :
    b.keepsRegs (b'.setWord k v) l :=
  fun j hj => (Blk.word_setWord_ne b' v (show j ≠ k from fun e => hj (e ▸ hk))).trans (h j hj)

theorem Blk.keepsRegs.set {b b' : Blk} {l : List Nat} (h : b.keepsRegs b' l) {f : Fld} (v : Nat) (hk : f.key ∈ l) :
    b.keepsRegs (b'.set f v) l :=
  h.setWord _ hk

theorem Blk.keepsOtherPages_refl (b : Blk) (l : List Nat) : b.keepsOtherPages b l := fun _ _ => rfl

theorem Blk.keepsOtherPages.trans {a b c : Blk} {l : List Nat} (h : a.keepsOtherPages b l) (k : b.keepsOtherPages c l) :
    a.keepsOtherPages c l :=
  fun j hj => (k j hj).trans (h j hj)

theorem Blk.keepsOtherPages.setWord {b b' : Blk} {l : List Nat} (h : b.keepsOtherPages b' l) {k : Nat} (v : Word) (hk : pageOf k ∈ l) :
    b.keepsOtherPages (b'.setWord k v) l :=
  fun j hj => (Blk.word_setWord_ne b' v (show j ≠ k from fun e => hj (e ▸ hk))).trans (h j hj)

theorem Blk.keepsOtherPages.set {b b' : Blk} {l : List Nat} (h : b.keepsOtherPages b' l) {f : Fld} (v : Nat) (hk : pageOf f.key ∈ l) :
    b.keepsOtherPages (b'.set f v) l :=
  h.setWord _ hk

/-- Registers kept but for those of some keys are kept on the pages that have none of them. -/
theorem Blk.keepsRegs.otherPages {b b' : Blk} {keys pages : List Nat} (h : b.keepsRegs b' keys) (hp : ∀ k ∈ keys, pageOf k ∈ pages) :
    b.keepsOtherPages b' pages :=
  fun j hj => h j (fun hk => hj (hp j hk))

/-! ### Registers that a capture leaves -/

/-- The header registers that an error capture of a page writes: IRQ_RAW, the two capture words, ERR_COUNT. -/
def captureKeys (page : Nat) : List Nat := [regKey page 0x018, regKey page 0x024, regKey page 0x028, regKey page 0x02C]

theorem Blk.keepsRegs_capture (b : Blk) (page cause agent off : Nat) :
    b.keepsRegs (b.capture page cause agent off) (captureKeys page) := by
  intro j hj
  simp only [captureKeys, List.mem_cons, List.not_mem_nil, or_false, not_or] at hj
  obtain ⟨irq, cap0, cap1, count⟩ := hj
  rw [Blk.word_capture_ne b cause agent off cap0 cap1, Blk.word_raise_ne _ (hIrqErr page) irq]
  exact Blk.word_set_ne b (hErrCount page) _ count

theorem Blk.keepsRegs_captureFree (b : Blk) (page cause agent : Nat) :
    b.keepsRegs (b.captureFree page cause agent) (captureKeys page) :=
  Blk.keepsRegs_capture { b with fresh := b.fresh + 1 } page cause agent (b.free 12).1

theorem Blk.keepsRegs_captureOwnFree (b : Blk) (page cause : Nat) :
    b.keepsRegs (b.captureOwnFree page cause) (captureKeys page) :=
  b.keepsRegs_captureFree page cause 7

theorem pageOf_captureKeys {page k : Nat} (hp : page < 256) (hk : k ∈ captureKeys page) : pageOf k = page := by
  simp only [captureKeys, List.mem_cons, List.not_mem_nil, or_false] at hk
  obtain rfl | rfl | rfl | rfl := hk <;> exact pageOf_regKey hp (by decide)

/-- A capture of a page writes registers of that page alone. -/
theorem Blk.keepsOtherPages_capture (b : Blk) {page : Nat} (cause agent off : Nat) (hp : page < 256) :
    b.keepsOtherPages (b.capture page cause agent off) [page] :=
  (b.keepsRegs_capture page cause agent off).otherPages (fun _ hk => List.mem_singleton.mpr (pageOf_captureKeys hp hk))

theorem Blk.keepsOtherPages_captureFree (b : Blk) {page : Nat} (cause agent : Nat) (hp : page < 256) :
    b.keepsOtherPages (b.captureFree page cause agent) [page] :=
  (b.keepsRegs_captureFree page cause agent).otherPages (fun _ hk => List.mem_singleton.mpr (pageOf_captureKeys hp hk))

theorem Blk.keepsOtherPages_captureOwnFree (b : Blk) {page : Nat} (cause : Nat) (hp : page < 256) :
    b.keepsOtherPages (b.captureOwnFree page cause) [page] :=
  b.keepsOtherPages_captureFree cause 7 hp

/-- A field reads alike where its register is kept. -/
theorem Blk.keepsRegs.get {b b' : Blk} {l : List Nat} (h : b.keepsRegs b' l) {f : Fld} (hf : f.key ∉ l) : b'.get f = b.get f :=
  Blk.get_of_word_eq (h f.key hf)

theorem Blk.keepsRegs.flag {b b' : Blk} {l : List Nat} (h : b.keepsRegs b' l) {f : Fld} (hf : f.key ∉ l) : b'.flag f = b.flag f := by
  rw [Blk.flag, h.get hf, Blk.flag]

theorem Blk.flag_raise_same (b : Blk) (f : Fld) (h : f.fits) (hw : 0 < f.w) : (b.raise f).flag f = true := by
  rw [Blk.flag, b.get_raise_same f h hw]
  rfl

theorem Blk.flag_set_one (b : Blk) (f : Fld) (h : f.fits) (hw : 0 < f.w) : (b.set f 1).flag f = true := b.flag_raise_same f h hw

/-- An interrupt raised before a capture stands after it. -/
theorem Blk.flag_captureOwnFree_hIrq (b : Blk) (page cause : Nat) {bit : Nat} (h : bit < 31) :
    (b.captureOwnFree page cause).flag (hIrq page bit) = b.flag (hIrq page bit) := by
  rw [Blk.flag, Blk.get_captureOwnFree_hIrq b page cause h, Blk.flag]

end Sys2Proof.Machine
end

section
/-! PROOFS. Burns, locks and privileged actions under their guards (spec/19 R474, R478 to R480, R488, R490, R495 to R498). -/

namespace Sys2Proof.Machine

/-! ### Writes of the FUSE page -/

/-- A granted write that LIFE shows at once: the register's own behaviour, LIFE as the array and the gate then stand, the answer. -/
theorem Node.writeReg_granted_life (n : Node) (a : Agent) (page off : Nat) (v : Word) (hg : n.b.granted a page off v)
    (hn : nodeWrite page off = false) (hd : n.b.dbgOff page off = false) (hw : (page == Page.SPM && off == 0x04C) = false)
    (hr : n.b.ringShut page off = false) (hl : isWideLow page off = false) (hh : isWideHigh page off = false)
    (hf : lifeGate page off v = true) :
    n.writeReg a page off true v = (n.on (fun b => b.writeBlock a page off v)).lifeSync.on (fun b => b.answered a page off) := by
  unfold Blk.granted at hg
  simp [Node.writeReg, Node.accessWrite, hn, Blk.accessWrite, hg, hd, hw, Blk.writeWord, hr, hl, hh, hf, Blk.answered, Node.on]

/-- FUSE has no wide register. -/
theorem isWideLow_fuse (off : Nat) : isWideLow Page.FUSE off = false := by
  by_contra low
  rw [Bool.not_eq_false] at low
  exact page_ne_of_isWideLow low (p := Page.FUSE) (by decide) rfl

theorem isWideHigh_fuse (off : Nat) : isWideHigh Page.FUSE off = false := by
  rw [isWideHigh, isWideLow_fuse, Bool.and_false]

/-- A lock register of FUSE, granted: LOCK_SECRET, LOCK_PROG, LOCK_TRIAL, LOCK_DEBUG in this order. -/
theorem Node.writeReg_fuseLock (n : Node) (a : Agent) {which : Nat} (h : which < 4)
    (hg : n.b.granted a Page.FUSE (0x070 + 4 * which) 1) :
    n.writeReg a Page.FUSE (0x070 + 4 * which) true 1 =
      (n.on (fun b => b.writeFuseLock which 1)).lifeSync.on (fun b => b.answered a Page.FUSE (0x070 + 4 * which)) := by
  have block : n.on (fun b => b.writeBlock a Page.FUSE (0x070 + 4 * which) 1) = n.on (fun b => b.writeFuseLock which 1) :=
    congrArg (Node.mk n.otp) (by interval_cases which <;> rfl)
  rw [n.writeReg_granted_life a Page.FUSE _ 1 hg (by interval_cases which <;> rfl) rfl rfl rfl (isWideLow_fuse _) (isWideHigh_fuse _)
    (by interval_cases which <;> rfl), block]

/-- PROG_CMD.GO, granted: it acts on what the array says of the word. -/
theorem Node.writeReg_progGo (n : Node) (a : Agent) (hg : n.b.granted a Page.FUSE 0x048 1) :
    n.writeReg a Page.FUSE 0x048 true 1 = n.on (fun b => (b.progGo n.progRefusal).answered a Page.FUSE 0x048) := by
  have access : n.accessWrite a Page.FUSE 0x048 true 1 = (⟨0, 0⟩, n.on (fun b => b.progGo n.progRefusal)) := by
    have here : nodeWrite Page.FUSE 0x048 = true := rfl
    unfold Blk.granted at hg
    rw [Node.accessWrite, if_pos here]
    simp only [hg, bne_self_eq_false, Bool.false_eq_true, if_false]
    rfl
  rw [Node.writeReg, access]
  rfl

/-- What a write of a lock register comes to: the first one alone takes effect (R488). -/
theorem Blk.writeFuseLock_cases (b : Blk) {which : Nat} (h : which < 4) :
    let key := regKey Page.FUSE (0x070 + 4 * which)
    (Tbl.get (dflt false) b.locked key = true → b.writeFuseLock which 1 = b) ∧
    (Tbl.get (dflt false) b.locked key = false → b.writeFuseLock which 1 =
      { (b.markChanged Page.FUSE).setWord key 1 with locked := Tbl.put (dflt false) b.locked key true }) := by
  have offset : fuseLockAt which = 0x070 + 4 * which := by rw [fuseLockAt, Nat.mod_eq_of_lt h]
  rw [Blk.writeFuseLock, offset]
  exact ⟨fun once => if_pos once, fun never => if_neg (by simp [never])⟩

/-- GO is accepted for a word that R478's table does not refuse. -/
theorem Node.progRefusal_eq_zero_iff (n : Node) :
    n.progRefusal = 0 ↔ n.b.fuse.burn = none ∧ n.b.flag FUSE.LOCK_PROG = false ∧ otpReserved (n.b.get FUSE.PROG_ADDR) = false ∧
      otpSet n.otp (n.b.get FUSE.PROG_ADDR) = false ∧ n.b.flag OASIS.STATUS_VIN_OK = true ∧ n.b.flag OASIS.STATUS_HOLD_OK = true ∧
      n.presenceFor (n.b.get FUSE.PROG_ADDR) = true := by
  simp [Node.progRefusal, fcBusy, fcLocked, fcBadWord, fcNotBlank, fcSupply, fcNoPresence, ite_eq_iff, and_assoc]

/-! ### Burns -/

theorem Blk.progGo_of_inactive {b : Blk} (off : b.active Page.FUSE = false) (code : Nat) : b.progGo code = b := by
  simp [Blk.progGo, off]

theorem Blk.progGo_refused {b : Blk} (on : b.active Page.FUSE = true) {code : Nat} (bad : code ≠ 0) : b.progGo code = b.progErr code := by
  simp [Blk.progGo, on, bad]

/-- A burn as it starts. -/
theorem Blk.progGo_accepted {b : Blk} (on : b.active Page.FUSE = true) :
    b.progGo 0 =
      { ((b.set FUSE.STATUS_BURNING 1).set FUSE.PROG_STATUS_STATE 1).set FUSE.PROG_STATUS_RETRIES 0 with
        fuse := { b.fuse with burn := some ⟨b.get FUSE.PROG_ADDR, (otpEncode (BitVec.ofNat 32 (b.get FUSE.PROG_DATA))).toNat, 0⟩ } } := by
  have word : (((b.set FUSE.STATUS_BURNING 1).set FUSE.PROG_STATUS_STATE 1).set FUSE.PROG_STATUS_RETRIES 0).get FUSE.PROG_ADDR =
      b.get FUSE.PROG_ADDR := by
    simp -implicitDefEqProofs (disch := simp only [Fld.fits, Fld.apart]; decide) only [Blk.get_set_apart]
  have go : ¬((!b.active Page.FUSE) = true) := by simp [on]
  have none : ¬((0 != 0) = true) := by decide
  rw [Blk.progGo, if_neg go, if_neg none]
  dsimp only
  rw [word, Blk.set_fuse, Blk.set_fuse, Blk.set_fuse]

/-- A refused GO or failed burn shows its code, raises PROG_ERR and leaves the burns as they are. -/
theorem Blk.progErr_shows (b : Blk) (code : Nat) :
    (b.progErr code).get FUSE.PROG_STATUS_LAST_ERR = code % 2 ^ FUSE.PROG_STATUS_LAST_ERR.w ∧
      (b.progErr code).flag FUSE.IRQ_RAW_PROG_ERR = true ∧ (b.progErr code).fuse = b.fuse := by
  have shown : ((b.set FUSE.PROG_STATUS_LAST_ERR code).raise FUSE.IRQ_RAW_PROG_ERR).get FUSE.PROG_STATUS_LAST_ERR =
      code % 2 ^ FUSE.PROG_STATUS_LAST_ERR.w :=
    (Blk.get_set_apart _ FUSE.IRQ_RAW_PROG_ERR FUSE.PROG_STATUS_LAST_ERR 1 (by decide : 8 + 8 ≤ 32) (.inl (by decide))).trans
      (Blk.get_set_same b _ code (by decide : 8 + 8 ≤ 32))
  refine ⟨?_, ?_, ?_⟩
  · exact ((Blk.keepsRegs_captureOwnFree _ Page.FUSE code).get (by decide)).trans shown
  · exact (Blk.flag_captureOwnFree_hIrq _ Page.FUSE code (bit := 1) (by decide)).trans
      (Blk.flag_raise_same _ FUSE.IRQ_RAW_PROG_ERR (by decide : 1 + 1 ≤ 32) (by decide))
  · exact (((b.keepsBehind_set _ _).raise _).captureOwnFree _ _).proj (·.fuse) (fun _ _ _ _ _ => rfl)

/-- LIFE follows the array by registers alone. -/
theorem Node.keepsBehind_lifeSync (n : Node) : n.b.keepsBehind n.lifeSync.b := by
  have tap (b : Blk) : b.keepsBehind b.tapLifeCheck :=
    Blk.keepsBehind_ite b.keepsBehind_refl (Blk.keepsBehind_each _ (fun b p => (b.keepsBehind_set _ _).set _ _) _ b)
  unfold Node.lifeSync
  extract_lets o
  rw [Node.on_b]
  refine Blk.keepsBehind_ite n.b.keepsBehind_refl ?_
  extract_lets b1 b2 b3 b4 b5 b6 b7 b8 b9
  have h1 : n.b.keepsBehind b1 := ((n.b.keepsBehind_set _ _).set _ _).set _ _
  have h2 : n.b.keepsBehind b2 := (h1.set _ _).set _ _
  have h4 : n.b.keepsBehind b4 := ((h2.set _ _).setWord _ _).setWord _ _
  have h6 : n.b.keepsBehind b6 := ((h4.set _ _).set _ _).set _ _
  have h8 : n.b.keepsBehind b8 := (((h6.set _ _).set _ _).set _ _).set _ _
  exact ((h8.set _ _).set _ _).trans (tap _)

/-- The node right after a pulse of the burn `r`: the bits that took, the tries, and LC_BURNED for a life-cycle word. -/
def Node.pulsed (n : Node) (r : Burn) (weak : OtpWord) : Node :=
  ⟨burnBits n.otp r.word (BitVec.ofNat 39 r.code) weak,
    if r.word < 4 then (n.b.set FUSE.PROG_STATUS_RETRIES r.tries).raise LIFE.IRQ_RAW_LC_BURNED
    else n.b.set FUSE.PROG_STATUS_RETRIES r.tries⟩

/-- The node after the attempt: the burn OK, given up for a reset, tried again, or failed. -/
def Node.attempted (n : Node) (r : Burn) (weak : OtpWord) : Node :=
  if otpWord (n.pulsed r weak).otp r.word = BitVec.ofNat 39 r.code then
    (n.pulsed r weak).on (fun b => b.burnEnds.raise FUSE.IRQ_RAW_PROG_DONE)
  else if n.b.fuse.resetWaits ≠ 0 then (n.pulsed r weak).on Blk.burnEnds
  else if r.tries < 3 then (n.pulsed r weak).on (fun b => { b with fuse := { b.fuse with burn := some { r with tries := r.tries + 1 } } })
  else (n.pulsed r weak).on (fun b => b.burnEnds.progErr fcProgFail)

theorem Node.pulsed_fuse (n : Node) (r : Burn) (weak : OtpWord) : (n.pulsed r weak).b.fuse = n.b.fuse :=
  (Blk.keepsBehind_ite ((n.b.keepsBehind_set _ _).raise _) (n.b.keepsBehind_set _ _)).proj (·.fuse) (fun _ _ _ _ _ => rfl)

theorem Blk.burnEnds_resetWaits (b : Blk) : b.burnEnds.fuse.resetWaits = b.fuse.resetWaits := rfl

/-- An attempt leaves the reset that waits for it. -/
theorem Node.attempted_resetWaits (n : Node) (r : Burn) (weak : OtpWord) :
    (n.attempted r weak).b.fuse.resetWaits = n.b.fuse.resetWaits := by
  have pulsed : (n.pulsed r weak).b.fuse.resetWaits = n.b.fuse.resetWaits := by rw [n.pulsed_fuse]
  unfold Node.attempted
  split_ifs
  · rw [Node.on_b, Blk.raise_fuse, Blk.burnEnds_resetWaits, pulsed]
  · rw [Node.on_b, Blk.burnEnds_resetWaits, pulsed]
  · rw [Node.on_b, pulsed]
  · rw [Node.on_b, (Blk.progErr_shows _ _).2.2, Blk.burnEnds_resetWaits, pulsed]

theorem Node.lifeSync_fuse (n : Node) : n.lifeSync.b.fuse = n.b.fuse := n.keepsBehind_lifeSync.proj (·.fuse) (fun _ _ _ _ _ => rfl)

/-- FUSE_ATTEMPT_DONE of a burn that runs: the attempt, LIFE as the array then stands, and the reset that waited. -/
theorem Node.attemptDone_eq {n : Node} {r : Burn} (burns : n.b.fuse.burn = some r) (on : n.b.active Page.FUSE = true) (weak : OtpWord) :
    n.attemptDone weak =
      if n.b.fuse.resetWaits ≠ 0 then (n.attempted r weak).lifeSync.resetAfterBurn else (n.attempted r weak).lifeSync := by
  have pulsed : (⟨burnBits n.otp r.word (BitVec.ofNat 39 r.code) weak, n.b⟩ : Node).on (fun b =>
      (b.set FUSE.PROG_STATUS_RETRIES r.tries).when (decide (r.word < 4)) (fun b => b.raise LIFE.IRQ_RAW_LC_BURNED)) = n.pulsed r weak := by
    simp only [Node.on, Node.pulsed, Blk.when, decide_eq_true_eq]
  have waits : (n.attempted r weak).lifeSync.b.fuse.resetWaits = n.b.fuse.resetWaits := by
    rw [Node.lifeSync_fuse, n.attempted_resetWaits]
  rw [← waits]
  unfold Node.attemptDone
  rw [burns]
  dsimp only
  rw [if_neg (by simp [on]), pulsed]
  have attempt : (if otpWord (n.pulsed r weak).otp r.word == BitVec.ofNat 39 r.code then
        (n.pulsed r weak).on (fun b => b.burnEnds.raise FUSE.IRQ_RAW_PROG_DONE)
      else if (n.pulsed r weak).b.fuse.resetWaits != 0 then (n.pulsed r weak).on Blk.burnEnds
      else if 3 ≤ r.tries then (n.pulsed r weak).on (fun b => b.burnEnds.progErr fcProgFail)
      else (n.pulsed r weak).on (fun b => { b with fuse := { b.fuse with burn := some { r with tries := r.tries + 1 } } })) =
      n.attempted r weak := by
    rw [n.pulsed_fuse, Node.attempted, ← ite_not (p := r.tries < 3)]
    simp only [beq_iff_eq, bne_iff_ne, Nat.not_lt]
  rw [attempt]
  simp only [bne_iff_ne]

theorem Node.attemptDone_of_idle {n : Node} (idle : n.b.fuse.burn = none ∨ n.b.active Page.FUSE = false) (weak : OtpWord) :
    n.attemptDone weak = n := by
  unfold Node.attemptDone
  split
  · rfl
  · next r burns =>
    obtain none | off := idle
    · exact absurd (none.symm.trans burns) (Option.some_ne_none r).symm
    · rw [if_pos (by simp [off])]

/-- The reset that waited, by its number. -/
theorem Node.resetAfterBurn_eq (n : Node) :
    n.resetAfterBurn =
      let quiet := n.on (fun b => { b with fuse := { b.fuse with resetWaits := 0 } })
      if n.b.fuse.resetWaits = 1 then quiet.warmNow 2 true else if n.b.fuse.resetWaits = 2 then quiet.coldNow
      else if n.b.fuse.resetWaits = 3 then quiet.warmNow 3 true else if n.b.fuse.resetWaits = 4 then quiet.warmNow 2 false else quiet := by
  simp only [Node.resetAfterBurn, beq_iff_eq]

/-! ### Privileged actions -/

/-- LAST_PRIV as the answer to an action leaves it. -/
def Node.privNoted (n : Node) (a : PrivArgs) (r : PrivAnswer) : Node :=
  n.on (fun b => ((b.set LIFE.LAST_PRIV_ACTION a.action).set LIFE.LAST_PRIV_RESULT r.result).set LIFE.LAST_PRIV_STATUS r.status)

theorem Node.privNoted_cores (n : Node) (a : PrivArgs) (r : PrivAnswer) : (n.privNoted a r).b.cores = n.b.cores := by
  rw [Node.privNoted, Node.on_b, Blk.set_cores, Blk.set_cores, Blk.set_cores]

/-- Without presence an action is denied. -/
theorem Node.privNow_denied {n : Node} (absent : n.b.presLeft = 0) (a : PrivArgs) (e : BurnEnv) (flashErr : Bool) :
    n.privNow a e flashErr = n.privNoted a privDenied := by
  simp only [Node.privNow, Node.priv, absent, beq_self_eq_true, if_true]
  rfl

/-- With presence it runs, and a warm reset follows it where it asks for one. -/
theorem Node.privNow_present {n : Node} (here : n.b.presLeft ≠ 0) (a : PrivArgs) (e : BurnEnv) (flashErr : Bool) :
    n.privNow a e flashErr =
      if (n.privRun a e flashErr).1.status = psOk ∧ (n.privRun a e flashErr).2.b.cores.resetDue.isSome = true then
        ((n.privRun a e flashErr).2.privNoted a (n.privRun a e flashErr).1).warmReset 2 true
      else (n.privRun a e flashErr).2.privNoted a (n.privRun a e flashErr).1 := by
  have go : ¬((n.b.presLeft == 0) = true) := by simpa using here
  have ran : n.priv a e flashErr = ((n.privRun a e flashErr).1, (n.privRun a e flashErr).2.privNoted a (n.privRun a e flashErr).1) := by
    rw [Node.priv, if_neg go]
    rfl
  simp only [Node.privNow, ran, Bool.and_eq_true, beq_iff_eq, Node.privNoted_cores]

/-- Two runs of an action that come to the same. -/
theorem Node.privNow_congr {a : PrivArgs} {e e' : BurnEnv} {f f' : Bool} (h : ∀ n : Node, n.privRun a e f = n.privRun a e' f') (n : Node) :
    n.privNow a e f = n.privNow a e' f' := by
  unfold Node.privNow Node.priv
  rw [h n]

/-- The command of an action, whose operands that the command does not carry the action does not read. -/
theorem exec_priv {s : State} {c : Instr} {args : PrivArgs} {env : BurnEnv} {flashErr : Bool} (wf : c.wf = true)
    (cmd : c = .privFactoryReset ∧ args = .factoryReset ∨ (∃ t, c = .privLcAdvance t env ∧ args = .lcAdvance t) ∨
      (∃ f slot v, c = .privFuseBurn f slot v env ∧ args = .fuseBurn f slot v) ∨
      (∃ k i, c = .privKeyRevoke k i env ∧ args = .keyRevoke k i) ∨ (∃ k t, c = .privArbCommit k t env ∧ args = .arbCommit k t) ∨
      (∃ slot on h, c = .privFuseTrial slot on h ∧ args = .fuseTrial slot on h) ∨
      (∃ off len, c = .privPatchInstall off len flashErr ∧ args = .patchInstall off len)) :
    exec c s = .next { s with node := s.node.privNow args env flashErr } := by
  obtain ⟨rfl, rfl⟩ | ⟨t, rfl, rfl⟩ | ⟨f, slot, v, rfl, rfl⟩ | ⟨k, i, rfl, rfl⟩ | ⟨k, t, rfl, rfl⟩ | ⟨slot, on, h, rfl, rfl⟩ |
    ⟨off, len, rfl, rfl⟩ := cmd
  · exact exec_next (f := fun n => n.privNow .factoryReset ⟨[], none⟩ false) rfl wf (Node.privNow_congr (fun _ => rfl) s.node)
  · exact exec_next (f := fun n => n.privNow (.lcAdvance t) env false) rfl wf (Node.privNow_congr (fun _ => rfl) s.node)
  · exact exec_next (f := fun n => n.privNow (.fuseBurn f slot v) env false) rfl wf (Node.privNow_congr (fun _ => rfl) s.node)
  · exact exec_next (f := fun n => n.privNow (.keyRevoke k i) env false) rfl wf (Node.privNow_congr (fun _ => rfl) s.node)
  · exact exec_next (f := fun n => n.privNow (.arbCommit k t) env false) rfl wf (Node.privNow_congr (fun _ => rfl) s.node)
  · exact exec_next (f := fun n => n.privNow (.fuseTrial slot on h) ⟨[], none⟩ false) rfl wf (Node.privNow_congr (fun _ => rfl) s.node)
  · exact exec_next (f := fun n => n.privNow (.patchInstall off len) ⟨[], none⟩ flashErr) rfl wf
      (Node.privNow_congr (fun _ => rfl) s.node)

/-- LC_ADVANCE to the state held. -/
theorem Node.lcAdvance_held {n : Node} {target : Nat} (le : target ≤ 4) (held : lifeState n.otp = target) (e : BurnEnv) :
    n.lcAdvance target e = (privOk, n) := by
  simp [Node.lcAdvance, Nat.not_lt.mpr le, held]

/-- LC_ADVANCE along no edge of R490. -/
theorem Node.lcAdvance_barred {n : Node} {target : Nat} (le : target ≤ 4) (other : lifeState n.otp ≠ target)
    (barred : ¬(lifeState n.otp = lcMaker ∧ target = lcField ∧ n.fieldReady = true ∨ lifeState n.otp = lcField ∧ target = lcReturn ∨
      lcMaker ≤ lifeState n.otp ∧ lifeState n.otp ≤ lcReturn ∧ target = lcScrap)) (e : BurnEnv) :
    n.lcAdvance target e = (privFailed 1, n) := by
  have shut : (!((lifeState n.otp == lcMaker && target == lcField && n.fieldReady) || (lifeState n.otp == lcField && target == lcReturn) ||
      (lcMaker ≤ lifeState n.otp && lifeState n.otp ≤ lcReturn && target == lcScrap))) = true := by
    rw [Bool.not_eq_true', ← Bool.not_eq_true]
    simpa only [Bool.or_eq_true, Bool.and_eq_true, beq_iff_eq, decide_eq_true_eq, and_assoc, or_assoc] using barred
  have ne : ¬((lifeState n.otp == target) = true) := by simpa using other
  unfold Node.lcAdvance
  rw [if_neg (Nat.not_lt.mpr le)]
  dsimp only
  rw [if_neg ne, if_pos shut]

/-- KEY_REVOKE of the last Modom key. -/
theorem Node.keyRevoke_last {n : Node} {index : Nat} (le : index ≤ 3) (blank : otpSet n.otp (wModomRevoke + index) = false)
    (state : lifeState n.otp = lcMaker ∨ lifeState n.otp = lcReturn) (last : modomKeys n.otp = [index]) (e : BurnEnv) :
    n.keyRevoke 0 index e = (privFailed 9, n) := by
  have range : ¬((decide (1 < 0) || decide (3 < index)) = true) := by simpa using le
  have allowed : (lifeState n.otp == lcMaker || lifeState n.otp == lcReturn) = true := by simpa using state
  simp [Node.keyRevoke, Nat.not_lt.mpr le, blank, allowed, last]

/-- ARB_COMMIT beyond the SVN of the Erg image that runs. -/
theorem Node.arbCommit_beyond {n : Node} {target : Nat} (le : target ≤ 64) (more : arbCount n.otp wErgArb < target)
    (maker : lcMaker ≤ lifeState n.otp) (ret : lifeState n.otp ≤ lcReturn) (svn : n.b.get SYS.SVN_ERG < target) (e : BurnEnv) :
    n.arbCommit 2 target e = (privFailed 4, n) := by
  simp [Node.arbCommit, Nat.not_lt.mpr le, Nat.not_le.mpr more, maker, ret, svn]

theorem Node.factoryReset_barred {n : Node} (other : lifeState n.otp ≠ lcField) : n.factoryReset = (privFailed 1, n) := by
  simp [Node.factoryReset, other]

theorem Node.factoryReset_field {n : Node} (field : lifeState n.otp = lcField) :
    n.factoryReset = (privOk, n.on (fun b => ({ b with fuse := { b.fuse with factory := true } }).resetFollows)) := by
  simp [Node.factoryReset, field]

/-- A field's value lies in the registers, not in the fuse block's own state. -/
theorem Blk.get_withFuse (b : Blk) (u : FuseSt) (f : Fld) : ({ b with fuse := u } : Blk).get f = b.get f := rfl

/-! ### The statement -/

/-- Settles O55: GO by the refusals in their order (`progRefusal_eq_zero_iff`), a lock by its first write
(`writeFuseLock_cases`), an attempt by its ends (`attemptDone_eq`), an action by the presence it needs (`privNow_denied`,
`privNow_present`). -/
theorem fusesBurnUnderTheirGuards : Obligations.FusesBurnUnderTheirGuards := by
  unfold Obligations.FusesBurnUnderTheirGuards
  refine ⟨fun s a ha => ⟨fun hg => ?_, fun which hw hg => ?_⟩, Node.progRefusal_eq_zero_iff,
    fun b code off => Blk.progGo_of_inactive off code, fun b code on => ⟨fun bad => ?_, fun ok => ?_⟩,
    fun s weak idle => ?_, fun s weak r burns on => ?_, fun s c args env flashErr wf cmd _ => ?_,
    fun n env flashErr => ⟨fun t le held => n.lcAdvance_held le held env, fun t le other barred => n.lcAdvance_barred le other barred env,
      fun i le blank state last => n.keyRevoke_last le blank state last env,
      fun t le more maker ret svn => n.arbCommit_beyond le more maker ret svn env, Node.factoryReset_barred, Node.factoryReset_field⟩⟩
  · exact exec_next (f := fun n => n.writeReg a Page.FUSE 0x048 true 1) rfl ha (s.node.writeReg_progGo a hg)
  · obtain ⟨again, first⟩ := s.blk.writeFuseLock_cases hw
    refine ⟨?_, again, fun never => ?_⟩
    · exact exec_next (f := fun n => n.writeReg a Page.FUSE (0x070 + 4 * which) true 1) rfl (by simp [Instr.wf, ha, hw])
        (s.node.writeReg_fuseLock a hw hg)
    · rw [first never]
      exact ⟨Blk.word_setWord_same _ _ _, Tbl.get_put_same (dflt false) s.blk.locked _ true,
        fun k hk => Blk.word_setWord_ne _ _ (fun e => hk (List.mem_singleton.mpr e))⟩
  · rw [Blk.progGo_refused on bad]
    exact b.progErr_shows code
  · subst ok
    rw [Blk.progGo_accepted on]
    have burning : (((b.set FUSE.STATUS_BURNING 1).set FUSE.PROG_STATUS_STATE 1).set FUSE.PROG_STATUS_RETRIES 0).get FUSE.STATUS_BURNING = 1 := by
      simp -implicitDefEqProofs (disch := simp only [Fld.fits, Fld.apart]; decide) only [Blk.get_set_apart, Blk.get_set_same]
      rfl
    refine ⟨?_, rfl⟩
    rw [Blk.flag, bne_iff_ne, Blk.get_withFuse]
    exact fun zero => Nat.one_ne_zero (burning.symm.trans zero)
  · exact exec_same (f := fun n => n.attemptDone weak) rfl rfl (s.node.attemptDone_of_idle idle weak)
  · have done := Node.attemptDone_eq burns on weak
    refine ⟨otpWord_burnBits_same _ _ _ _, fun w hw => otpWord_burnBits_ne _ _ _ hw, fun free => ?_, fun waits => ?_⟩
    · have free : ¬(s.node.b.fuse.resetWaits ≠ 0) := not_not.mpr free
      exact exec_next (f := fun n => n.attemptDone weak) rfl rfl (done.trans (if_neg free))
    · have waits : s.node.b.fuse.resetWaits ≠ 0 := waits
      refine exec_next (f := fun n => n.attemptDone weak) rfl rfl ((done.trans (if_pos waits)).trans ?_)
      rw [Node.resetAfterBurn_eq, Node.lifeSync_fuse, Node.attempted_resetWaits]
      rfl
  · have ran := exec_priv (s := s) wf cmd
    refine ⟨fun absent => ?_, fun here quiet => ?_, fun here ok due => ?_⟩
    · rw [ran, Node.privNow_denied absent]
      rfl
    · have stays : ¬((s.node.privRun args env flashErr).1.status = psOk ∧ (s.node.privRun args env flashErr).2.b.cores.resetDue.isSome = true) := by
        rintro ⟨ok, due⟩
        obtain bad | none := quiet
        · exact bad ok
        · rw [none] at due
          exact Bool.noConfusion due
      rw [ran, Node.privNow_present here, if_neg stays]
      rfl
    · rw [ran, Node.privNow_present here, if_pos ⟨ok, due⟩]
      rfl

end Sys2Proof.Machine
end

section
/-! PROOFS. The line epoch (spec/02): what entering an epoch state sets and leaves, and the statements about roles, pins, beats,
losses and the map block. -/

namespace Sys2Proof.Machine

/-! ### The epoch's own part of the state -/

/-- `b'` differs from `b` in the epoch's part and in what `keepsBehind` leaves free. -/
def Blk.keepsBesideEp (b b' : Blk) : Prop := ∃ e, Blk.keepsBehind { b with ep := e } b'

theorem Blk.keepsBehind.besideEp {b b' : Blk} (h : b.keepsBehind b') : b.keepsBesideEp b' := ⟨b.ep, h⟩

theorem Blk.keepsBesideEp_ep (b : Blk) (e : EpochSt) : b.keepsBesideEp { b with ep := e } := ⟨e, Blk.keepsBehind_refl _⟩

theorem Blk.keepsBesideEp.trans {a b c : Blk} (h : a.keepsBesideEp b) (k : b.keepsBesideEp c) : a.keepsBesideEp c := by
  obtain ⟨e, r, p, q, s, n, rfl⟩ := h
  obtain ⟨e', r', p', q', s', n', rfl⟩ := k
  exact ⟨e', r', p', q', s', n', rfl⟩

theorem Blk.keepsBesideEp.behind {a b c : Blk} (h : a.keepsBesideEp b) (k : b.keepsBehind c) : a.keepsBesideEp c := h.trans k.besideEp

/-- What reads neither the epoch's part nor the registers and notes reads alike. -/
theorem Blk.keepsBesideEp.proj {α : Type} {b b' : Blk} (h : b.keepsBesideEp b') (f : Blk → α)
    (hf : ∀ e r p q s n, f { b with ep := e, regs := r, pages := p, reports := q, sent := s, fresh := n } = f b) : f b' = f b := by
  obtain ⟨e, r, p, q, s, n, rfl⟩ := h
  exact hf e r p q s n

theorem Node.sameMemory_of_keepsBesideEp {n : Node} {b : Blk} (h : n.b.keepsBesideEp b) : n.sameMemory { n with b := b } :=
  ⟨rfl, h.proj (·.flash) (fun _ _ _ _ _ _ => rfl), h.proj (·.bulk.bytes) (fun _ _ _ _ _ _ => rfl),
    h.proj (·.spm.bytes) (fun _ _ _ _ _ _ => rfl)⟩

theorem Blk.keepsBesideEp.powered {b b' : Blk} (h : b.keepsBesideEp b') (page : Nat) : b'.powered page = b.powered page :=
  h.proj (·.powered page) (fun _ _ _ _ _ _ => rfl)

/-- The block with the epoch's part updated. -/
def Blk.onEp (b : Blk) (f : EpochSt → EpochSt) : Blk := { b with ep := f b.ep }

theorem Blk.keepsBesideEp_onEp (b : Blk) (f : EpochSt → EpochSt) : b.keepsBesideEp (b.onEp f) := b.keepsBesideEp_ep (f b.ep)
theorem Blk.onEp_word (b : Blk) (f : EpochSt → EpochSt) (k : Nat) : (b.onEp f).word k = b.word k := rfl
theorem Blk.onEp_get (b : Blk) (g : EpochSt → EpochSt) (f : Fld) : (b.onEp g).get f = b.get f := rfl
theorem Blk.onEp_flag (b : Blk) (g : EpochSt → EpochSt) (f : Fld) : (b.onEp g).flag f = b.flag f := rfl

/-- What an update of the epoch's part leaves of it. -/
theorem Blk.onEp_part {α : Type} (b : Blk) {f : EpochSt → EpochSt} (part : EpochSt → α) (h : ∀ e, part (f e) = part e) :
    part (b.onEp f).ep = part b.ep := h b.ep

theorem Blk.keepsRegs.onEp {b b' : Blk} {l : List Nat} (h : b.keepsRegs b' l) (f : EpochSt → EpochSt) : b.keepsRegs (b'.onEp f) l := h

/-! ### Entering an epoch state -/

/-- The epoch's part on entering HOLDOVER with a frame length in force. -/
def EpochSt.hold (e : EpochSt) (len : Nat) : EpochSt := { e with holdLine := e.line, holdLen := len, latest := [none, none, none, none] }

/-- STATE and the line noted, as every entry of a state begins. -/
def Blk.enterEpoch (b : Blk) (st : Nat) : Blk := (b.set XEPOCH.STATE_STATE st).onEp (fun e => { e with entered := e.line })

theorem Blk.setEpoch_eq (b : Blk) (st : Nat) : b.setEpoch st =
    if st = stFree then
      ((((b.enterEpoch st).set XEPOCH.STATE_PARENT 0).set XEPOCH.STATE_DEPTH 0xFF).set XEPOCH.STATE_MASTER 0xFF).onEp
        (fun e => { e with missed := 0, aligned := 0 })
    else if st = stMaster then
      (((b.enterEpoch st).set XEPOCH.STATE_DEPTH 0).set XEPOCH.STATE_MASTER ((b.enterEpoch st).get XROUTE.NODE_ID)).onEp
        (fun e => { e with ownMaster := false })
    else if st = stHoldover then (b.enterEpoch st).onEp (fun e => e.hold (b.enterEpoch st).frameLen)
    else (b.enterEpoch st).onEp (fun e => { e with ownMaster := false, missed := 0 }) := by
  simp only [← beq_iff_eq (b := stFree), ← beq_iff_eq (b := stMaster), ← beq_iff_eq (b := stHoldover)]
  rfl

theorem Blk.keepsBesideEp_enterEpoch (b : Blk) (st : Nat) : b.keepsBesideEp (b.enterEpoch st) :=
  (b.keepsBehind_set _ _).besideEp.trans (Blk.keepsBesideEp_onEp _ _)

theorem Blk.keepsBesideEp_setEpoch (b : Blk) (st : Nat) : b.keepsBesideEp (b.setEpoch st) := by
  have h := b.keepsBesideEp_enterEpoch st
  rw [Blk.setEpoch_eq]
  split_ifs
  · exact (h.behind (((Blk.keepsBehind_set _ _ _).set _ _).set _ _)).trans (Blk.keepsBesideEp_onEp _ _)
  · exact (h.behind ((Blk.keepsBehind_set _ _ _).set _ _)).trans (Blk.keepsBesideEp_onEp _ _)
  · exact h.trans (Blk.keepsBesideEp_onEp _ _)
  · exact h.trans (Blk.keepsBesideEp_onEp _ _)

/-- Entering a state writes XEPOCH.STATE alone. -/
theorem Blk.keepsRegs_setEpoch (b : Blk) (st : Nat) : b.keepsRegs (b.setEpoch st) [XEPOCH.STATE_STATE.key] := by
  have put (x : Blk) (f : Fld) (v : Nat) (hx : b.keepsRegs x [XEPOCH.STATE_STATE.key]) (hf : f.key = XEPOCH.STATE_STATE.key) :
      b.keepsRegs (x.set f v) [XEPOCH.STATE_STATE.key] := hx.set v (List.mem_singleton.mpr hf)
  have entered : b.keepsRegs (b.enterEpoch st) [XEPOCH.STATE_STATE.key] :=
    Blk.keepsRegs.onEp (put b XEPOCH.STATE_STATE st (b.keepsRegs_refl _) rfl) _
  rw [Blk.setEpoch_eq]
  split_ifs
  · exact Blk.keepsRegs.onEp (put _ XEPOCH.STATE_MASTER _ (put _ XEPOCH.STATE_DEPTH _ (put _ XEPOCH.STATE_PARENT _ entered rfl) rfl) rfl) _
  · exact Blk.keepsRegs.onEp (put _ XEPOCH.STATE_MASTER _ (put _ XEPOCH.STATE_DEPTH _ entered rfl) rfl) _
  · exact Blk.keepsRegs.onEp entered _
  · exact Blk.keepsRegs.onEp entered _

/-- A part of the epoch's state that no entry of a state touches. -/
def EpochSt.besideEntry {α : Type} (part : EpochSt → α) : Prop :=
  (∀ e, part { e with entered := e.line } = part e) ∧ (∀ e, part { e with missed := 0, aligned := 0 } = part e) ∧
  (∀ e, part { e with ownMaster := false } = part e) ∧ (∀ e n, part (e.hold n) = part e) ∧
  (∀ e, part { e with ownMaster := false, missed := 0 } = part e)

theorem Blk.setEpoch_part {α : Type} (b : Blk) (st : Nat) {part : EpochSt → α} (h : EpochSt.besideEntry part) :
    part (b.setEpoch st).ep = part b.ep := by
  obtain ⟨entered, free, master, hold, other⟩ := h
  have start : part (b.enterEpoch st).ep = part b.ep := Blk.onEp_part _ part entered
  rw [← start, Blk.setEpoch_eq]
  split_ifs
  · exact Blk.onEp_part _ part free
  · exact Blk.onEp_part _ part master
  · exact Blk.onEp_part _ part (fun e => hold e _)
  · exact Blk.onEp_part _ part other

theorem Blk.setEpoch_line (b : Blk) (st : Nat) : (b.setEpoch st).ep.line = b.ep.line :=
  b.setEpoch_part st (part := fun e => e.line) ⟨fun _ => rfl, fun _ => rfl, fun _ => rfl, fun _ _ => rfl, fun _ => rfl⟩

theorem Blk.setEpoch_frame (b : Blk) (st : Nat) : (b.setEpoch st).ep.frame = b.ep.frame :=
  b.setEpoch_part st (part := fun e => e.frame) ⟨fun _ => rfl, fun _ => rfl, fun _ => rfl, fun _ _ => rfl, fun _ => rfl⟩

theorem Blk.setEpoch_haltPending (b : Blk) (st : Nat) : (b.setEpoch st).ep.haltPending = b.ep.haltPending :=
  b.setEpoch_part st (part := fun e => e.haltPending) ⟨fun _ => rfl, fun _ => rfl, fun _ => rfl, fun _ _ => rfl, fun _ => rfl⟩

theorem Blk.setEpoch_holdLine (b : Blk) : (b.setEpoch stHoldover).ep.holdLine = b.ep.line := by
  have start : (b.enterEpoch stHoldover).ep.line = b.ep.line := Blk.onEp_part _ (fun e => e.line) (fun _ => rfl)
  rw [Blk.setEpoch_eq, if_neg (by decide), if_neg (by decide), if_pos rfl, ← start]
  rfl

theorem Blk.get_setEpoch_state (b : Blk) (st : Nat) : (b.setEpoch st).get XEPOCH.STATE_STATE = st % 8 := by
  have set : (b.enterEpoch st).get XEPOCH.STATE_STATE = st % 8 := by
    rw [Blk.enterEpoch, Blk.onEp_get, Blk.get_set_same _ _ _ (by unfold Fld.fits; decide)]
    rfl
  rw [Blk.setEpoch_eq]
  split_ifs <;>
    simp -implicitDefEqProofs (disch := simp only [Fld.fits, Fld.apart]; decide) only [Blk.onEp_get, Blk.get_set_apart, set]

/-- The epoch state after entering one, where FAB is ON. -/
theorem Blk.epochState_setEpoch {b : Blk} (on : b.powered Page.XEPOCH = true) {st : Nat} (hs : st < 8) : (b.setEpoch st).epochState = st := by
  rw [Blk.epochState, (b.keepsBesideEp_setEpoch st).powered, if_pos on, Blk.get_setEpoch_state, Nat.mod_eq_of_lt hs]

theorem Blk.epochState_setEpoch_free (b : Blk) : (b.setEpoch stFree).epochState = stFree := by
  by_cases on : b.powered Page.XEPOCH = true
  · exact Blk.epochState_setEpoch on (by decide)
  · rw [Blk.epochState, (b.keepsBesideEp_setEpoch stFree).powered, if_neg on]

/-- A node in another state than FREE has FAB ON. -/
theorem Blk.powered_of_epochState {b : Blk} {st : Nat} (h : b.epochState = st) (ne : st ≠ stFree) : b.powered Page.XEPOCH = true := by
  rw [Blk.epochState] at h
  split at h
  · assumption
  · exact absurd h.symm ne

theorem Blk.setEpoch_master (b : Blk) :
    (b.setEpoch stMaster).get XEPOCH.STATE_DEPTH = 0 ∧ (b.setEpoch stMaster).get XEPOCH.STATE_MASTER = b.get XROUTE.NODE_ID := by
  have node : (b.enterEpoch stMaster).get XROUTE.NODE_ID = b.get XROUTE.NODE_ID := by
    rw [Blk.enterEpoch, Blk.onEp_get, Blk.get_set_apart _ _ _ _ (by unfold Fld.fits; decide) (by unfold Fld.apart; decide)]
  rw [Blk.setEpoch_eq, if_neg (by decide), if_pos rfl, Blk.onEp_get, Blk.onEp_get, node]
  constructor
  · simp -implicitDefEqProofs (disch := simp only [Fld.fits, Fld.apart]; decide) only [Blk.get_set_apart, Blk.get_set_same]
    rfl
  · rw [Blk.get_set_same _ _ _ (by unfold Fld.fits; decide)]
    exact Nat.mod_eq_of_lt (b.get_lt XROUTE.NODE_ID)

theorem Blk.onEp_reports (b : Blk) (f : EpochSt → EpochSt) : (b.onEp f).reports = b.reports := rfl

theorem Blk.setEpoch_reports (b : Blk) (st : Nat) : (b.setEpoch st).reports = b.reports := by
  have entered : (b.enterEpoch st).reports = b.reports := by rw [Blk.enterEpoch, Blk.onEp_reports, Blk.set_reports]
  rw [Blk.setEpoch_eq]
  split_ifs <;> simp -implicitDefEqProofs only [Blk.onEp_reports, Blk.set_reports, entered]

/-! ### The epoch fault -/

/-- The registers that leaving the fleet writes: JOIN_CTRL, and PORT_CTRL and STATUS of the four ports. -/
def leaveKeys : List Nat :=
  [SCHED.JOIN_CTRL_JSTATE.key, (XPORT.PORT_CTRL_OPEN 0).key, (XPORT.STATUS_LSTATE 0).key, (XPORT.PORT_CTRL_OPEN 1).key,
    (XPORT.STATUS_LSTATE 1).key, (XPORT.PORT_CTRL_OPEN 2).key, (XPORT.STATUS_LSTATE 2).key, (XPORT.PORT_CTRL_OPEN 3).key,
    (XPORT.STATUS_LSTATE 3).key]

theorem Blk.keepsBehind_closePort (b : Blk) (p : Nat) : b.keepsBehind (b.closePort p) := by
  have shut := b.keepsBehind_set (XPORT.PORT_CTRL_OPEN p) 0
  unfold Blk.closePort
  exact Blk.keepsBehind_ite (shut.set _ _) shut

theorem Blk.keepsRegs_closePort (b : Blk) {p : Nat} (hp : p < 4) : b.keepsRegs (b.closePort p) leaveKeys := by
  have ctrl : (XPORT.PORT_CTRL_OPEN p).key ∈ leaveKeys := by interval_cases p <;> decide
  have status : (XPORT.STATUS_LSTATE p).key ∈ leaveKeys := by interval_cases p <;> decide
  have shut := (b.keepsRegs_refl leaveKeys).set (f := XPORT.PORT_CTRL_OPEN p) 0 ctrl
  unfold Blk.closePort
  extract_lets closed
  split
  · exact shut.set (f := XPORT.STATUS_LSTATE p) 6 status
  · exact shut

theorem Blk.closePort_reports (b : Blk) (p : Nat) : (b.closePort p).reports = b.reports := by
  unfold Blk.closePort
  extract_lets closed
  have shut : closed.reports = b.reports := Blk.set_reports _ _ _
  split
  · rw [Blk.set_reports, shut]
  · exact shut

theorem Blk.keepsBehind_leaveFleet (b : Blk) : b.keepsBehind b.leaveFleet := by
  unfold Blk.leaveFleet
  exact Blk.keepsBehind_ite ((b.keepsBehind_refl.conf _ _).trans (Blk.keepsBehind_each _ Blk.keepsBehind_closePort _ _)) b.keepsBehind_refl

theorem Blk.keepsRegs_leaveFleet (b : Blk) : b.keepsRegs b.leaveFleet leaveKeys := by
  unfold Blk.leaveFleet
  split
  · have left : b.keepsRegs (b.conf SCHED.JOIN_CTRL_JSTATE 4) leaveKeys :=
      (b.keepsRegs_refl leaveKeys).set (f := SCHED.JOIN_CTRL_JSTATE) 4 (by decide)
    simp only [Blk.each_cons, Blk.each_nil]
    exact (((left.trans (Blk.keepsRegs_closePort _ (by decide))).trans (Blk.keepsRegs_closePort _ (by decide))).trans
      (Blk.keepsRegs_closePort _ (by decide))).trans (Blk.keepsRegs_closePort _ (by decide))
  · exact b.keepsRegs_refl _

theorem Blk.leaveFleet_reports (b : Blk) : b.leaveFleet.reports = b.reports := by
  unfold Blk.leaveFleet
  split
  · simp only [Blk.each_cons, Blk.each_nil, Blk.closePort_reports, Blk.conf_reports]
  · rfl

theorem Blk.epochFault_eq (b : Blk) (st : Nat) : b.epochFault st =
    (((((b.raise XEPOCH.FAULT_STEP_NEEDED).onEp (fun e => { e with haltPending := true })).report 0x0F Page.XEPOCH).leaveFleet).setEpoch st) :=
  rfl

/-- What an epoch fault shows and leaves. -/
theorem Blk.epochFault_shows (b : Blk) (st : Nat) :
    (b.epochFault st).flag XEPOCH.FAULT_STEP_NEEDED = true ∧ (b.epochFault st).ep.haltPending = true ∧
    (b.epochFault st).reports = b.reports ++ [⟨0x0F, Page.XEPOCH, false, 0xFF⟩] ∧ (b.epochFault st).ep.line = b.ep.line ∧
    b.keepsBesideEp (b.epochFault st) := by
  rw [Blk.epochFault_eq]
  generalize raised : b.raise XEPOCH.FAULT_STEP_NEEDED = r
  have flagged : r.flag XEPOCH.FAULT_STEP_NEEDED = true := by
    rw [← raised]
    exact b.flag_raise_same _ (by unfold Fld.fits; decide) (by decide)
  have rep : r.ep = b.ep := by rw [← raised, Blk.raise_ep]
  have rrep : r.reports = b.reports := by rw [← raised, Blk.raise_reports]
  have behind : b.keepsBehind r := raised ▸ b.keepsBehind_raise _
  generalize halting : r.onEp (fun e => { e with haltPending := true }) = h
  have left : ((h.report 0x0F Page.XEPOCH).leaveFleet).ep = h.ep :=
    ((h.keepsBehind_report _ _).trans (Blk.keepsBehind_leaveFleet _)).proj (·.ep) (fun _ _ _ _ _ => rfl)
  refine ⟨?_, ?_, ?_, ?_, ?_⟩
  · rw [(Blk.keepsRegs_setEpoch _ st).flag (by decide), (Blk.keepsRegs_leaveFleet _).flag (by decide), Blk.report_flag, ← halting,
      Blk.onEp_flag, flagged]
  · rw [Blk.setEpoch_haltPending, left, ← halting]
    rfl
  · rw [Blk.setEpoch_reports, Blk.leaveFleet_reports, Blk.report_reports, ← halting, Blk.onEp_reports, rrep]
  · have kept : h.ep.line = r.ep.line := halting ▸ Blk.onEp_part r (fun e => e.line) (fun _ => rfl)
    rw [Blk.setEpoch_line, left, kept, rep]
  · exact (((behind.besideEp.trans (halting ▸ r.keepsBesideEp_onEp _)).behind
      ((h.keepsBehind_report _ _).trans (Blk.keepsBehind_leaveFleet _)))).trans (Blk.keepsBesideEp_setEpoch _ _)

theorem Blk.epochState_epochFault_free (b : Blk) : (b.epochFault stFree).epochState = stFree := by
  rw [Blk.epochFault_eq]
  exact Blk.epochState_setEpoch_free _

/-! ### Losses -/

theorem Blk.beatLoss_eq {b : Blk} {st : Nat} (lost : b.lossLimit ≤ b.ep.missed) (state : b.epochState = st)
    (hst : st = stAcquire ∨ st = stLocked) :
    b.beatLoss = (b.raise XEPOCH.FAULT_BEAT_LOST).setEpoch (if st == stAcquire then stFree else stHoldover) := by
  subst state
  unfold Blk.beatLoss
  exact if_pos (by simpa [lost] using hst)

/-- What a loss shows and leaves, whatever state it leads to. -/
theorem Blk.lost_shows (b : Blk) (st : Nat) :
    ((b.raise XEPOCH.FAULT_BEAT_LOST).setEpoch st).flag XEPOCH.FAULT_BEAT_LOST = true ∧
    ((b.raise XEPOCH.FAULT_BEAT_LOST).setEpoch st).ep.line = b.ep.line ∧
    b.keepsOtherPages ((b.raise XEPOCH.FAULT_BEAT_LOST).setEpoch st) [Page.XEPOCH] ∧
    b.keepsBesideEp ((b.raise XEPOCH.FAULT_BEAT_LOST).setEpoch st) := by
  refine ⟨?_, ?_, ?_, ?_⟩
  · rw [(Blk.keepsRegs_setEpoch _ st).flag (by decide)]
    exact b.flag_raise_same _ (by unfold Fld.fits; decide) (by decide)
  · rw [Blk.setEpoch_line, Blk.raise_ep]
  · exact Blk.keepsOtherPages.trans ((b.keepsOtherPages_refl _).set (f := XEPOCH.FAULT_BEAT_LOST) 1 (by decide))
      ((Blk.keepsRegs_setEpoch _ st).otherPages (by decide))
  · exact (b.keepsBehind_raise _).besideEp.trans (Blk.keepsBesideEp_setEpoch _ st)

/-- Settles O8: each loss is an entry of a state (`lost_shows`, `setEpoch_master`) or the epoch fault (`epochFault_shows`). -/
theorem lostBeatsMoveTheEpochState : Obligations.LostBeatsMoveTheEpochState := by
  unfold Obligations.LostBeatsMoveTheEpochState
  refine ⟨fun s lost => ⟨fun state => ?_, fun state => ?_⟩, fun s k backup state missed => ?_, fun s state expired => ?_⟩
  · obtain ⟨flagged, line, pages, beside⟩ := s.blk.lost_shows stFree
    have left : s.blk.beatLoss = (s.blk.raise XEPOCH.FAULT_BEAT_LOST).setEpoch stFree := Blk.beatLoss_eq lost state (.inl rfl)
    exact completes_of_blk (f := fun b => b.beatLoss) rfl rfl left
      ⟨Blk.epochState_setEpoch_free _, flagged, line, pages, Node.sameMemory_of_keepsBesideEp beside⟩
  · obtain ⟨flagged, line, pages, beside⟩ := s.blk.lost_shows stHoldover
    have on : (s.blk.raise XEPOCH.FAULT_BEAT_LOST).powered Page.XEPOCH = true :=
      ((s.blk.keepsBehind_raise _).besideEp.powered _).trans (Blk.powered_of_epochState state (by decide))
    have since : ((s.blk.raise XEPOCH.FAULT_BEAT_LOST).setEpoch stHoldover).ep.holdLine = s.blk.ep.line := by
      rw [Blk.setEpoch_holdLine, Blk.raise_ep]
    have entered := Blk.epochState_setEpoch on (st := stHoldover) (by decide)
    have held : s.blk.beatLoss = (s.blk.raise XEPOCH.FAULT_BEAT_LOST).setEpoch stHoldover := Blk.beatLoss_eq lost state (.inr rfl)
    exact completes_of_blk (f := fun b => b.beatLoss) rfl rfl held
      ⟨entered, flagged, line, since, pages, Node.sameMemory_of_keepsBesideEp beside⟩
  · have taken : s.blk.backupTakeover = s.blk.setEpoch stMaster := by
      unfold Blk.backupTakeover
      rw [backup]
      exact if_pos (by simp [state, missed])
    obtain ⟨depth, master⟩ := s.blk.setEpoch_master
    have entered := Blk.epochState_setEpoch (Blk.powered_of_epochState state (by decide)) (st := stMaster) (by decide)
    exact completes_of_blk (f := fun b => b.backupTakeover) rfl rfl taken
      ⟨entered, depth, master,
        s.blk.setEpoch_line stMaster, s.blk.setEpoch_frame stMaster, (s.blk.keepsRegs_setEpoch stMaster).otherPages (by decide),
        Node.sameMemory_of_keepsBesideEp (s.blk.keepsBesideEp_setEpoch stMaster)⟩
  · have fault : s.blk.holdoverLimit = s.blk.epochFault stFree := if_pos (by simp [Blk.holdExpired, state, expired])
    obtain ⟨flagged, halt, reports, line, beside⟩ := s.blk.epochFault_shows stFree
    exact completes_of_blk (f := fun b => b.holdoverLimit) rfl rfl fault
      ⟨s.blk.epochState_epochFault_free, flagged, halt, reports, line, Node.sameMemory_of_keepsBesideEp beside⟩

end Sys2Proof.Machine
end

section
/-! PROOFS. Writes of one field (spec/03 R57), and the statements about the line period, the epoch's roles, its pins, its beats and the
map block (spec/02). -/

namespace Sys2Proof.Machine

/-! ### The word that sets one field -/

theorem bitsAt_ofNat_putBits (n lo w v : Nat) (h : lo + w ≤ 32) : bitsAt (BitVec.ofNat 32 (putBits n lo w v)).toNat lo w = v % 2 ^ w := by
  rw [BitVec.toNat_ofNat, bitsAt_mod_word _ _ _ h, bitsAt_putBits_same]

theorem Blk.bitsAt_fieldWord (b : Blk) (page off : Nat) {lo w : Nat} (v : Nat) (h : lo + w ≤ 32) :
    bitsAt (b.fieldWord page off lo w v).toNat lo w = v % 2 ^ w :=
  bitsAt_ofNat_putBits _ lo w v h

theorem Blk.bitAt_fieldWord (b : Blk) (page off : Nat) {lo : Nat} (on : Bool) (h : lo < 32) :
    bitAt (b.fieldWord page off lo 1 (bitNat on)).toNat lo = on := by
  rw [bitAt, b.bitsAt_fieldWord page off _ h]
  cases on <;> rfl

/-- A command that sets one field of a register with nothing of its own behind it: the block's own behaviour, then the answer. -/
theorem Node.writeBits_granted (n : Node) (a : Agent) (page off lo w v : Nat) (hg : n.b.granted a page off (n.b.fieldWord page off lo w v))
    (hn : nodeWrite page off = false) (hd : n.b.dbgOff page off = false) (hw : (page == Page.SPM && off == 0x04C) = false)
    (hl : isWideLow page off = false) (hh : isWideHigh page off = false) (hf : lifeGate page off (n.b.fieldWord page off lo w v) = false) :
    n.writeBits a page off lo w v =
      { n with b := (n.b.writeBlock a page off (n.b.fieldWord page off lo w v)).answered a page off } :=
  n.writeReg_granted a page off _ hg hn hd hw hl hh hf

/-- A granted access finds its page's domain ON. -/
theorem Blk.powered_of_granted {b : Blk} {a : Agent} {page off : Nat} {v : Word} (hg : b.granted a page off v) : b.powered page = true := by
  unfold Blk.granted Blk.accessCause at hg
  by_contra off
  rw [Bool.not_eq_true] at off
  split at hg
  · exact absurd hg (by decide)
  · exact absurd hg (by simp [off, causePower])

theorem Blk.keepsBehind_answered (b : Blk) (a : Agent) (page off : Nat) : b.keepsBehind (b.answered a page off) := b.keepsBehind_emit _

theorem Blk.keepsRegs.answered {b b' : Blk} {l : List Nat} (h : b.keepsRegs b' l) (a : Agent) (page off : Nat) :
    b.keepsRegs (b'.answered a page off) l := h

theorem Blk.keepsRegs.markChanged {b b' : Blk} {l : List Nat} (h : b.keepsRegs b' l) (page : Nat) : b.keepsRegs (b'.markChanged page) l := h

/-! ### The generator's counts -/

theorem Blk.keepsBehind_selectParent (b : Blk) : b.keepsBehind b.selectParent := by
  unfold Blk.selectParent
  split
  · exact b.keepsBehind_refl
  · exact (b.keepsBehind_set _ _).set _ _

/-- Parts of the epoch's state that counting missed beats and edges leaves. -/
def EpochSt.sameCounters (e e' : EpochSt) : Prop := e'.line = e.line ∧ e'.frame = e.frame ∧ e'.base = e.base

theorem Blk.countBeat_counters (b : Blk) : b.ep.sameCounters b.countBeat.ep := by
  have parent : b.selectParent.ep = b.ep := b.keepsBehind_selectParent.proj (·.ep) (fun _ _ _ _ _ => rfl)
  unfold Blk.countBeat
  extract_lets st chosen
  split
  · exact ⟨congrArg (·.line) parent, congrArg (·.frame) parent, congrArg (·.base) parent⟩
  · exact ⟨rfl, rfl, rfl⟩

theorem Blk.countEdge_counters (b : Blk) : b.ep.sameCounters b.countEdge.ep := by
  unfold Blk.countEdge
  split_ifs <;> exact ⟨rfl, rfl, rfl⟩

theorem Blk.keepsBehind_countPaused (b : Blk) : b.keepsBehind b.countPaused :=
  Blk.keepsBehind_each _ (fun b _ => Blk.keepsBehind_ite (Blk.keepsBehind_each _ (fun b _ => b.keepsBehind_bumpSat _) _ b) b.keepsBehind_refl)
    _ b

/-- The generator counts one line period, and what it counts besides leaves the counters. -/
theorem Blk.generatorLine_counters (b : Blk) : b.advanceLine.ep.sameCounters b.generatorLine.ep := by
  unfold Blk.generatorLine
  extract_lets line ep slewed lp isp used
  have kept : used.ep = lp.ep := rfl
  have counted : line.ep.sameCounters lp.ep := by
    cases h : slewed.onLp <;> (simp only [lp, h]; exact ⟨rfl, rfl, rfl⟩)
  obtain ⟨l1, f1, b1⟩ := counted
  obtain ⟨l2, f2, b2⟩ := used.countBeat_counters
  obtain ⟨l3, f3, b3⟩ := used.countBeat.countEdge_counters
  have paused : used.countBeat.countEdge.countPaused.ep = used.countBeat.countEdge.ep :=
    (Blk.keepsBehind_countPaused _).proj (·.ep) (fun _ _ _ _ _ => rfl)
  rw [EpochSt.sameCounters, paused, l3, l2, kept, l1, f3, f2, kept, f1, b3, b2, kept, b1]
  exact ⟨rfl, rfl, rfl⟩

theorem Blk.advanceLine_within {b : Blk} (h : b.curL + 1 < b.frameLen) :
    b.advanceLine = b.onEp (fun e => { e with line := e.line + 1 }) := if_pos h

theorem Blk.advanceLine_past {b : Blk} (h : ¬b.curL + 1 < b.frameLen) :
    b.advanceLine = b.onEp (fun e => { e with line := e.line + 1, frame := e.frame + 1, base := e.line + 1, prevLen := b.frameLen }) :=
  if_neg h

theorem Blk.frameLen_le (b : Blk) : b.frameLen ≤ 10000 := by
  unfold Blk.frameLen frameLenOf
  split_ifs <;> decide

/-- Settles O3: the command is the stages in their order, and of the generator's work only `advanceLine` moves the counters. -/
theorem linePeriodTakesItsStagesInOrder : Obligations.LinePeriodTakesItsStagesInOrder := by
  unfold Obligations.LinePeriodTakesItsStagesInOrder
  refine ⟨fun s c0 c1 x wf passes => ?_, fun s c0 c1 x wf on sys acc => ?_, fun b => ?_⟩
  · exact exec_next (f := fun n => n.lineStart c0 c1 x) rfl wf (if_pos passes)
  · have stays : s.blk.linePasses = false := by simp [Blk.linePasses, Blk.onLp, on, sys, acc]
    exact exec_same (f := fun n => n.lineStart c0 c1 x) rfl wf (if_neg (by simpa [State.blk] using stays))
  · obtain ⟨line, frame, base⟩ := b.generatorLine_counters
    have place : b.generatorLine.curL = (b.advanceLine.ep.line - b.advanceLine.ep.base).toNat := by rw [Blk.curL, line, base]
    rw [line, frame, place]
    split_ifs with h
    · rw [Blk.advanceLine_within h]
      refine ⟨rfl, rfl, ?_⟩
      have within := Nat.lt_of_lt_of_le h b.frameLen_le
      rw [Blk.curL] at within ⊢
      show (b.ep.line + 1 - b.ep.base).toNat = _
      bv_omega
    · rw [Blk.advanceLine_past h]
      refine ⟨rfl, rfl, ?_⟩
      show (b.ep.line + 1 - (b.ep.line + 1)).toNat = 0
      simp

/-! ### Roles -/

theorem Blk.epochState_congr {b b' : Blk} (beside : b.keepsBesideEp b') (state : b'.get XEPOCH.STATE_STATE = b.get XEPOCH.STATE_STATE) :
    b'.epochState = b.epochState := by
  rw [Blk.epochState, beside.powered, state, Blk.epochState]

/-- XEPOCH.CTRL as a write of it leaves the register, before any state is entered. -/
def Blk.roleStored (b : Blk) (v : Nat) : Blk :=
  (((b.set XEPOCH.CTRL_BEAT_EN (bitsAt v 0 1)).set XEPOCH.CTRL_LOSS_LIMIT (bitsAt v 8 8)).set XEPOCH.CTRL_ROLE_MASTER
    (bitNat (if bitAt v 1 && b.epochState != stFree then b.flag XEPOCH.CTRL_ROLE_MASTER else bitAt v 1))).markChanged Page.XEPOCH

theorem Blk.keepsBehind_roleStored (b : Blk) (v : Nat) : b.keepsBehind (b.roleStored v) :=
  (((b.keepsBehind_set _ _).set _ _).set _ _).markChanged _

theorem Blk.keepsRegs_roleStored (b : Blk) (v : Nat) : b.keepsRegs (b.roleStored v) [XEPOCH.CTRL_ROLE_MASTER.key] :=
  Blk.keepsRegs.markChanged
    ((((b.keepsRegs_refl _).set (f := XEPOCH.CTRL_BEAT_EN) _ (by decide)).set (f := XEPOCH.CTRL_LOSS_LIMIT) _ (by decide)).set
      (f := XEPOCH.CTRL_ROLE_MASTER) _ (by decide)) _

theorem Blk.writeRole_eq (b : Blk) (v : Nat) :
    b.writeRole v =
      if (bitAt v 1 && b.epochState == stFree) = true then (b.roleStored v).setEpoch stMaster
      else if (b.flag XEPOCH.CTRL_ROLE_MASTER && !bitAt v 1 && b.epochState == stMaster) = true then (b.roleStored v).setEpoch stFree
      else b.roleStored v := rfl

/-- Whatever a write of XEPOCH.CTRL does, it stores the register and may enter a state. -/
theorem Blk.writeRole_cases (b : Blk) (v : Nat) : b.writeRole v = b.roleStored v ∨ ∃ st, b.writeRole v = (b.roleStored v).setEpoch st := by
  rw [Blk.writeRole_eq]
  split_ifs
  · exact .inr ⟨stMaster, rfl⟩
  · exact .inr ⟨stFree, rfl⟩
  · exact .inl rfl

/-- What a write of XEPOCH.CTRL leaves. -/
theorem Blk.writeRole_keeps (b : Blk) (v : Nat) :
    (b.writeRole v).ep.line = b.ep.line ∧ (b.writeRole v).ep.frame = b.ep.frame ∧
    b.keepsRegs (b.writeRole v) [XEPOCH.CTRL_ROLE_MASTER.key, XEPOCH.STATE_STATE.key] ∧ b.keepsBesideEp (b.writeRole v) := by
  have ep : (b.roleStored v).ep = b.ep := (b.keepsBehind_roleStored v).proj (·.ep) (fun _ _ _ _ _ => rfl)
  have stored : b.keepsRegs (b.roleStored v) [XEPOCH.CTRL_ROLE_MASTER.key, XEPOCH.STATE_STATE.key] :=
    fun k hk => b.keepsRegs_roleStored v k (fun h => hk (List.mem_cons.mpr (.inl (List.mem_singleton.mp h))))
  obtain same | ⟨st, entered⟩ := b.writeRole_cases v
  · rw [same, ep]
    exact ⟨rfl, rfl, stored, (b.keepsBehind_roleStored v).besideEp⟩
  · rw [entered, Blk.setEpoch_line, Blk.setEpoch_frame, ep]
    exact ⟨rfl, rfl, stored.trans fun k hk => Blk.keepsRegs_setEpoch _ st k (fun h => hk (List.mem_cons_of_mem _ h)),
      (b.keepsBehind_roleStored v).besideEp.trans (Blk.keepsBesideEp_setEpoch _ st)⟩

theorem Blk.epochState_roleStored (b : Blk) (v : Nat) : (b.roleStored v).epochState = b.epochState :=
  Blk.epochState_congr (b.keepsBehind_roleStored v).besideEp ((b.keepsRegs_roleStored v).get (by decide))

/-- 1 to ROLE_MASTER in FREE. -/
theorem Blk.writeRole_master {b : Blk} {v : Nat} (on : b.powered Page.XEPOCH = true) (want : bitAt v 1 = true) (free : b.epochState = stFree) :
    (b.writeRole v).epochState = stMaster ∧ (b.writeRole v).get XEPOCH.STATE_DEPTH = 0 ∧
    (b.writeRole v).get XEPOCH.STATE_MASTER = b.get XROUTE.NODE_ID := by
  have master : b.writeRole v = (b.roleStored v).setEpoch stMaster := by
    rw [Blk.writeRole_eq]
    exact if_pos (by simp [want, free])
  have powered : (b.roleStored v).powered Page.XEPOCH = true := ((b.keepsBehind_roleStored v).besideEp.powered _).trans on
  have node : (b.roleStored v).get XROUTE.NODE_ID = b.get XROUTE.NODE_ID := (b.keepsRegs_roleStored v).get (by decide)
  obtain ⟨depth, name⟩ := (b.roleStored v).setEpoch_master
  rw [master]
  exact ⟨Blk.epochState_setEpoch (st := stMaster) powered (by decide), depth, name.trans node⟩

/-- 1 to ROLE_MASTER in another state. -/
theorem Blk.writeRole_ignored {b : Blk} {v : Nat} (want : bitAt v 1 = true) (other : b.epochState ≠ stFree) :
    (b.writeRole v).epochState = b.epochState := by
  have stored : b.writeRole v = b.roleStored v := by
    rw [Blk.writeRole_eq, if_neg (by simp [other]), if_neg (by simp [want])]
  rw [stored, Blk.epochState_roleStored]

/-- 0 to ROLE_MASTER in MASTER by role. -/
theorem Blk.writeRole_released {b : Blk} {v : Nat} (clear : bitAt v 1 = false) (role : b.flag XEPOCH.CTRL_ROLE_MASTER = true)
    (master : b.epochState = stMaster) : (b.writeRole v).epochState = stFree := by
  have left : b.writeRole v = (b.roleStored v).setEpoch stFree := by
    rw [Blk.writeRole_eq, if_neg (by simp [clear]), if_pos (by simp [clear, role, master])]
  rw [left]
  exact Blk.epochState_setEpoch_free _

/-- SYNCIN_CTRL but for EN as a write of it leaves the register. -/
def Blk.syncInStored (b : Blk) (v : Nat) : Blk :=
  ((b.set EPOCH.SYNCIN_CTRL_EDGE (bitsAt v 1 1)).set EPOCH.SYNCIN_CTRL_MISS_LIMIT (bitsAt v 4 4)).markChanged Page.EPOCH

theorem Blk.keepsBehind_syncInStored (b : Blk) (v : Nat) : b.keepsBehind (b.syncInStored v) :=
  ((b.keepsBehind_set _ _).set _ _).markChanged _

theorem Blk.keepsRegs_syncInStored (b : Blk) (v : Nat) :
    b.keepsRegs (b.syncInStored v) [EPOCH.SYNCIN_CTRL_EN.key, EPOCH.STATUS_SYNCIN_IGNORED.key] :=
  Blk.keepsRegs.markChanged
    (((b.keepsRegs_refl _).set (f := EPOCH.SYNCIN_CTRL_EDGE) _ (by decide)).set (f := EPOCH.SYNCIN_CTRL_MISS_LIMIT) _ (by decide)) _

theorem Blk.get_syncInStored_en (b : Blk) (v : Nat) : (b.syncInStored v).get EPOCH.SYNCIN_CTRL_EN = b.get EPOCH.SYNCIN_CTRL_EN := by
  unfold Blk.syncInStored Blk.markChanged
  simp -implicitDefEqProofs (disch := simp only [Fld.fits, Fld.apart]; decide) only [Blk.setPageSt_get, Blk.get_set_apart]

theorem Blk.get_syncInStored_ignored (b : Blk) (v : Nat) :
    (b.syncInStored v).get EPOCH.STATUS_SYNCIN_IGNORED = b.get EPOCH.STATUS_SYNCIN_IGNORED := by
  unfold Blk.syncInStored Blk.markChanged
  simp -implicitDefEqProofs (disch := simp only [Fld.fits, Fld.apart]; decide) only [Blk.setPageSt_get, Blk.get_set_apart]

theorem Blk.writeSyncIn_eq (b : Blk) (v : Nat) :
    b.writeSyncIn v = if (bitAt v 0 && b.epochState != stMaster) = true then (b.syncInStored v).raise EPOCH.STATUS_SYNCIN_IGNORED
      else (b.syncInStored v).set EPOCH.SYNCIN_CTRL_EN (bitsAt v 0 1) := rfl

/-- 1 to SYNCIN_CTRL.EN by the state it finds, and what it leaves. -/
theorem Blk.writeSyncIn_enable (b : Blk) {v : Nat} (want : bitAt v 0 = true) (one : bitsAt v 0 1 = 1) :
    (b.epochState = stMaster → (b.writeSyncIn v).flag EPOCH.SYNCIN_CTRL_EN = true ∧
      (b.writeSyncIn v).get EPOCH.STATUS_SYNCIN_IGNORED = b.get EPOCH.STATUS_SYNCIN_IGNORED) ∧
    (b.epochState ≠ stMaster → (b.writeSyncIn v).get EPOCH.SYNCIN_CTRL_EN = b.get EPOCH.SYNCIN_CTRL_EN ∧
      (b.writeSyncIn v).flag EPOCH.STATUS_SYNCIN_IGNORED = true) ∧
    b.keepsBehind (b.writeSyncIn v) ∧ b.keepsRegs (b.writeSyncIn v) [EPOCH.SYNCIN_CTRL_EN.key, EPOCH.STATUS_SYNCIN_IGNORED.key] := by
  have behind := b.keepsBehind_syncInStored v
  have regs := b.keepsRegs_syncInStored v
  have ignored := b.get_syncInStored_ignored v
  have en := b.get_syncInStored_en v
  rw [Blk.writeSyncIn_eq, want, one, Bool.true_and]
  generalize b.syncInStored v = stored at behind regs ignored en
  by_cases master : b.epochState = stMaster
  · rw [if_neg (by simp [master])]
    refine ⟨fun _ => ⟨stored.flag_set_one _ (by unfold Fld.fits; decide) (by decide), ?_⟩, fun other => absurd master other, behind.set _ _,
      regs.set (f := EPOCH.SYNCIN_CTRL_EN) 1 (by decide)⟩
    rw [Blk.get_set_apart _ _ _ _ (by unfold Fld.fits; decide) (by unfold Fld.apart; decide), ignored]
  · rw [if_pos (by simp [master])]
    refine ⟨fun is => absurd is master, fun _ => ⟨?_, stored.flag_raise_same _ (by unfold Fld.fits; decide) (by decide)⟩, behind.raise _,
      regs.set (f := EPOCH.STATUS_SYNCIN_IGNORED) 1 (by decide)⟩
    rw [Blk.raise, Blk.get_set_apart _ _ _ _ (by unfold Fld.fits; decide) (by unfold Fld.apart; decide), en]

/-- Settles O5: a write of CTRL by the state it finds (`writeRole_master`, `writeRole_ignored`, `writeRole_released`), one of
SYNCIN_CTRL likewise. -/
theorem epochRolesTakeEffectInTheirStatesOnly : Obligations.EpochRolesTakeEffectInTheirStatesOnly := by
  unfold Obligations.EpochRolesTakeEffectInTheirStatesOnly
  refine ⟨fun s a on ha hg => ?_, fun s a ha hg => ?_⟩
  · generalize word : s.blk.fieldWord Page.XEPOCH 0x044 1 1 (bitNat on) = v at hg
    have want : bitAt v.toNat 1 = on := word ▸ s.blk.bitAt_fieldWord Page.XEPOCH 0x044 on (by decide)
    have powered : s.blk.powered Page.XEPOCH = true := Blk.powered_of_granted hg
    obtain ⟨line, frame, regs, beside⟩ := s.blk.writeRole_keeps v.toNat
    have written := s.node.writeReg_granted a Page.XEPOCH 0x044 v hg rfl rfl rfl (by decide) (by decide) rfl
    refine ⟨_, exec_next (f := fun n => n.writeBits a Page.XEPOCH 0x044 1 1 (bitNat on)) rfl ha
      ((congrArg (fun w => s.node.writeReg a Page.XEPOCH 0x044 true w) word).trans written), rfl, ?_⟩
    refine ⟨fun yes free => ?_, fun yes other => ?_, fun no role master => ?_, line, frame, regs, ?_⟩
    · exact Blk.writeRole_master powered (want.trans yes) free
    · exact Blk.writeRole_ignored (want.trans yes) other
    · exact Blk.writeRole_released (want.trans no) role master
    · exact Node.sameMemory_of_keepsBesideEp (beside.behind (Blk.keepsBehind_answered _ a Page.XEPOCH 0x044))
  · generalize word : s.blk.fieldWord Page.EPOCH 0x070 0 1 1 = v at hg
    have want : bitAt v.toNat 0 = true := word ▸ s.blk.bitAt_fieldWord Page.EPOCH 0x070 true (by decide)
    have one : bitsAt v.toNat 0 1 = 1 := word ▸ s.blk.bitsAt_fieldWord Page.EPOCH 0x070 1 (by decide)
    have written := s.node.writeReg_granted a Page.EPOCH 0x070 v hg rfl rfl rfl (by decide) (by decide) rfl
    refine ⟨_, exec_next (f := fun n => n.writeBits a Page.EPOCH 0x070 0 1 1) rfl ha
      ((congrArg (fun w => s.node.writeReg a Page.EPOCH 0x070 true w) word).trans written), rfl, ?_⟩
    obtain ⟨taken, ignored, behind, regs⟩ := s.blk.writeSyncIn_enable want one
    exact ⟨taken, ignored, behind.proj (·.ep) (fun _ _ _ _ _ => rfl), regs,
      Node.sameMemory_of_keepsBehind (behind.trans (Blk.keepsBehind_answered _ a Page.EPOCH 0x070))⟩

/-! ### SYNC_IN and SYNC_OUT -/

/-- Settles O6, by the kind and size of the edge and by what is due of a pulse. -/
theorem syncPinsFollowTheirEdges : Obligations.SyncPinsFollowTheirEdges := by
  unfold Obligations.SyncPinsFollowTheirEdges
  refine ⟨fun s err on sys en master => ⟨?_, fun near => ?_, fun far => ?_⟩, fun s en master missed => ?_,
    fun s on sys en due fresh => ?_, fun s start pulse ended => ?_⟩
  · refine exec_blk_same (f := fun b => b.syncInEdge ⟨!s.blk.flag EPOCH.SYNCIN_CTRL_EDGE, err⟩) rfl rfl ?_
    exact if_pos (by simp)
  · refine exec_blk (f := fun b => b.syncInEdge ⟨s.blk.flag EPOCH.SYNCIN_CTRL_EDGE, err⟩) rfl rfl ?_
    unfold Blk.syncInEdge
    rw [if_neg (by simp [on, sys, en, master]), if_neg (Nat.not_lt.mpr near)]
    rfl
  · have counted : s.blk.syncInEdge ⟨s.blk.flag EPOCH.SYNCIN_CTRL_EDGE, err⟩ = if s.blk.ep.syncSeen then s.blk else
        { s.blk with ep := { s.blk.ep with syncMissed := s.blk.ep.syncMissed + 1, syncSeen := true } } := by
      unfold Blk.syncInEdge
      rw [if_neg (by simp [on, sys, en, master]), if_pos far]
    rw [exec_blk (f := fun b => b.syncInEdge ⟨s.blk.flag EPOCH.SYNCIN_CTRL_EDGE, err⟩) rfl rfl counted]
    cases s.blk.ep.syncSeen <;> rfl
  · refine exec_blk (f := fun b => b.syncInLost) rfl rfl ?_
    exact if_pos (by simpa [en, master] using missed)
  · have isDue : s.blk.pulseDue = true := by simpa [Blk.pulseDue, and_assoc] using due
    refine exec_blk (f := fun b => b.syncOutStart) rfl rfl ?_
    unfold Blk.syncOutStart
    rw [if_pos (by simp [on, sys, en, isDue, fresh])]
    have level : (s.blk.onEp (fun e => { e with pulse := some s.blk.ep.line })).syncOutLevel = !s.blk.flag EPOCH.SYNCOUT_CTRL_POL := by
      have kept := (s.blk.keepsBesideEp_onEp (fun e => { e with pulse := some s.blk.ep.line })).powered Page.SYS
      rw [Blk.syncOutLevel, kept, sys, Blk.onEp_flag]
      cases s.blk.flag EPOCH.SYNCOUT_CTRL_POL <;> rfl
    exact congrArg (fun l => (s.blk.onEp (fun e => { e with pulse := some s.blk.ep.line })).emit (.syncOut l)) level
  · have isOver : s.blk.pulseOver = true := by simpa [Blk.pulseOver, pulse] using ended
    refine exec_blk (f := fun b => b.syncOutEnd) rfl rfl ?_
    unfold Blk.syncOutEnd
    rw [if_pos isOver]
    have level : (s.blk.onEp (fun e => { e with pulse := none })).syncOutLevel =
        (s.blk.powered Page.SYS && s.blk.flag EPOCH.SYNCOUT_CTRL_POL) := by
      have kept := (s.blk.keepsBesideEp_onEp (fun e => { e with pulse := none })).powered Page.SYS
      rw [Blk.syncOutLevel, kept, Blk.onEp_flag]
      cases s.blk.flag EPOCH.SYNCOUT_CTRL_POL <;> rfl
    exact congrArg (fun l => (s.blk.onEp (fun e => { e with pulse := none })).emit (.syncOut l)) level

/-! ### The map block -/

theorem leNat_lt (l : List Byte) : leNat l < 256 ^ l.length := by
  induction l with
  | nil => exact Nat.one_pos
  | cons x xs ih =>
    have byte := x.isLt
    rw [leNat, List.length_cons, pow_succ]
    omega

theorem leAt_word_lt (l : List Byte) (at_ : Nat) : leAt l at_ 4 < 2 ^ 32 := by
  have le : ((l.drop at_).take 4).length ≤ 4 := List.length_take_le _ _
  calc leAt l at_ 4 < 256 ^ ((l.drop at_).take 4).length := leNat_lt _
    _ ≤ 256 ^ 4 := Nat.pow_le_pow_right (by decide) le
    _ = 2 ^ 32 := by norm_num

/-- Fields set in turn leave a field apart from them all. -/
theorem Blk.get_each_set_ne {α : Type} (g : α → Fld) (v : α → Nat) (f : Fld) (hf : f.fits) (l : List α) (b : Blk)
    (ne : ∀ i ∈ l, (g i).apart f) : (b.each l (fun b i => b.set (g i) (v i))).get f = b.get f := by
  induction l generalizing b with
  | nil => rfl
  | cons i l ih =>
    rw [Blk.each_cons, ih _ (fun j hj => ne j (List.mem_cons_of_mem _ hj)), Blk.get_set_apart _ _ _ _ hf (ne i List.mem_cons_self)]

/-- Of fields that are set in turn each reads as it was set. -/
theorem Blk.get_each_set {α : Type} [DecidableEq α] (g : α → Fld) (v : α → Nat) {i : α} (fits : (g i).fits)
    (ne : ∀ j, j ≠ i → (g j).apart (g i)) (l : List α) (b : Blk) (hi : i ∈ l) :
    (b.each l (fun b i => b.set (g i) (v i))).get (g i) = v i % 2 ^ (g i).w := by
  induction l generalizing b with
  | nil => exact absurd hi List.not_mem_nil
  | cons j l ih =>
    rw [Blk.each_cons]
    by_cases later : i ∈ l
    · exact ih _ later
    · have head : i = j := (List.mem_cons.mp hi).resolve_right later
      subst head
      rw [Blk.get_each_set_ne g v _ fits l _ (fun k hk => ne k (fun e => later (e ▸ hk))), Blk.get_set_same _ _ _ fits]

/-- The ten words of a map block stored. -/
def Blk.mapStored (b : Blk) (bytes : List Byte) : Blk := b.each (List.range 10) (fun b i => b.set (EPOCH.MAP i) (leAt bytes (4 * i) 4))

theorem Blk.get_mapStored (b : Blk) (bytes : List Byte) {i : Nat} (hi : i < 10) :
    (b.mapStored bytes).get (EPOCH.MAP i) = leAt bytes (4 * i) 4 := by
  have word := Blk.get_each_set EPOCH.MAP (fun i => leAt bytes (4 * i) 4) (i := i) (show 0 + 32 ≤ 32 by decide)
    (fun j hj => .inl (by show 0x0C090 + 0x4 * j ≠ 0x0C090 + 0x4 * i; omega)) (List.range 10) b (List.mem_range.mpr hi)
  exact word.trans (Nat.mod_eq_of_lt (leAt_word_lt _ _))

theorem Blk.keepsBehind_mapStored (b : Blk) (bytes : List Byte) : b.keepsBehind (b.mapStored bytes) :=
  Blk.keepsBehind_each _ (fun b _ => b.keepsBehind_set _ _) _ b

/-- The sample kept when a block has been built of it. -/
def EpochSt.sampled (e : EpochSt) (t : PtpTime) (dom src : Nat) : EpochSt :=
  { e with mapPrev := some ⟨e.line, t, dom, src⟩, mapNow := false, stepped := false }

theorem Blk.mapBuild_again {b : Blk} {t : PtpTime} (due : b.mapDue = true) {m : MapSample} (prev : b.ep.mapPrev = some m) :
    b.mapBuild t = (b.mapStored (mapBytes b t (m.domain == b.get EPOCH.MAP_CTRL_DOMAIN && m.src == b.get EPOCH.MAP_CTRL_SRC)
      (mapPeriod (b.linesSince m.line) m.time t))).onEp (fun e => e.sampled t (b.get EPOCH.MAP_CTRL_DOMAIN) (b.get EPOCH.MAP_CTRL_SRC)) := by
  unfold Blk.mapBuild
  rw [if_pos due]
  simp only [prev]
  rfl

theorem Blk.mapBuild_first {b : Blk} {t : PtpTime} (due : b.mapDue = true) (prev : b.ep.mapPrev = none) :
    b.mapBuild t = ((b.free 64).2.mapStored (mapBytes b t false (Config.freeValue b.fresh % 2 ^ 64))).onEp
      (fun e => e.sampled t (b.get EPOCH.MAP_CTRL_DOMAIN) (b.get EPOCH.MAP_CTRL_SRC)) := by
  unfold Blk.mapBuild
  rw [if_pos due]
  simp only [prev]
  rfl

/-- A block as built keeps the sample, and of the epoch's part nothing else moves. -/
theorem Blk.mapBuild_ep {b : Blk} {t : PtpTime} (due : b.mapDue = true) :
    (b.mapBuild t).ep = b.ep.sampled t (b.get EPOCH.MAP_CTRL_DOMAIN) (b.get EPOCH.MAP_CTRL_SRC) := by
  have stored {x y : Blk} (h : x.keepsBehind y) : y.ep = x.ep := h.proj (·.ep) (fun _ _ _ _ _ => rfl)
  cases prev : b.ep.mapPrev with
  | none =>
    rw [Blk.mapBuild_first due prev]
    exact congrArg (fun e : EpochSt => e.sampled t _ _) (stored ((b.keepsBehind_free 64).trans (Blk.keepsBehind_mapStored _ _)))
  | some m =>
    rw [Blk.mapBuild_again due prev]
    exact congrArg (fun e : EpochSt => e.sampled t _ _) (stored (b.keepsBehind_mapStored _))

/-- MAP_CTRL as a write of it leaves the register. -/
def Blk.mapCtrlStored (b : Blk) (v : Nat) : Blk :=
  ((((b.set EPOCH.MAP_CTRL_DOMAIN (bitsAt v 0 8)).set EPOCH.MAP_CTRL_SRC (bitsAt v 8 1)).set
    EPOCH.MAP_CTRL_PTP_LOCKED (bitsAt v 9 1)).set EPOCH.MAP_CTRL_PERIOD (bitsAt v 16 16)).markChanged Page.EPOCH

theorem Blk.keepsBehind_mapCtrlStored (b : Blk) (v : Nat) : b.keepsBehind (b.mapCtrlStored v) :=
  ((((b.keepsBehind_set _ _).set _ _).set _ _).set _ _).markChanged _

theorem Blk.keepsRegs_mapCtrlStored (b : Blk) (v : Nat) : b.keepsRegs (b.mapCtrlStored v) [EPOCH.MAP_CTRL_DOMAIN.key] :=
  Blk.keepsRegs.markChanged ((((b.keepsRegs_refl _).set (f := EPOCH.MAP_CTRL_DOMAIN) _ (by decide)).set (f := EPOCH.MAP_CTRL_SRC) _
    (by decide)).set (f := EPOCH.MAP_CTRL_PTP_LOCKED) _ (by decide) |>.set (f := EPOCH.MAP_CTRL_PERIOD) _ (by decide)) _

/-- Settles O9, by the two cases of an earlier sample. -/
theorem mapBlockHoldsTheSampledTime : Obligations.MapBlockHoldsTheSampledTime := by
  unfold Obligations.MapBlockHoldsTheSampledTime
  refine ⟨fun s t wf idle => ?_, fun s t wf due on => ?_, fun s a ha hg => ?_⟩
  · exact exec_blk_same (f := fun b => b.mapBlock t) rfl (decide_eq_true wf) (if_neg (by simp [idle]))
  · intro src time
    refine ⟨exec_blk (f := fun b => b.mapBlock t) rfl (decide_eq_true wf) (if_pos (by simp [due, on])), fun m prev i hi => ?_,
      fun prev i hi => ?_, ?_, ?_⟩
    · rw [Blk.mapBuild_again due prev, Blk.onEp_get, Blk.get_mapStored _ _ hi]
    · rw [Blk.mapBuild_first due prev, Blk.onEp_get, Blk.get_mapStored _ _ hi]
    · exact congrArg (·.mapPrev) (Blk.mapBuild_ep due)
    · exact congrArg (·.line) (Blk.mapBuild_ep due)
  · generalize word : s.blk.fieldWord Page.EPOCH 0x088 10 1 1 = v at hg
    have now : bitAt v.toNat 10 = true := word ▸ s.blk.bitAt_fieldWord Page.EPOCH 0x088 true (by decide)
    have wanted : s.blk.writeMapCtrl v.toNat = (s.blk.mapCtrlStored v.toNat).onEp (fun e => { e with mapNow := true }) := if_pos now
    have written := s.node.writeReg_granted a Page.EPOCH 0x088 v hg rfl rfl rfl (by decide) (by decide) rfl
    have behind := s.blk.keepsBehind_mapCtrlStored v.toNat
    have ep : (s.blk.mapCtrlStored v.toNat).ep = s.blk.ep := behind.proj (·.ep) (fun _ _ _ _ _ => rfl)
    have regs := s.blk.keepsRegs_mapCtrlStored v.toNat
    generalize s.blk.mapCtrlStored v.toNat = stored at wanted behind ep regs
    have block : s.node.b.writeBlock a Page.EPOCH 0x088 v = stored.onEp (fun e => { e with mapNow := true }) := wanted
    rw [block] at written
    refine ⟨_, exec_next (f := fun n => n.writeBits a Page.EPOCH 0x088 10 1 1) rfl ha
      ((congrArg (fun w => s.node.writeReg a Page.EPOCH 0x088 true w) word).trans written), rfl, ?_⟩
    refine ⟨congrArg (fun e : EpochSt => { e with mapNow := true }) ep, ?_, regs⟩
    exact Node.sameMemory_of_keepsBesideEp ((behind.besideEp.trans (stored.keepsBesideEp_onEp _)).behind
      (Blk.keepsBehind_answered _ a Page.EPOCH 0x088))

/-! ### Beats -/

/-- The epoch's part as a beat that a FREE node takes leaves it, before ACQUIRE is entered. -/
def EpochSt.taken (e : EpochSt) (bt : Beat) : EpochSt :=
  { e with
    line := bt.line, frame := bt.f, base := bt.line - BitVec.ofNat 48 bt.l, prevLen := frameLenOf bt.mode, stepped := true, phase := 0
    gotBeat := true, missed := 0, aligned := 0
    pendMode := if bt.pendValid && bt.pendMode != 3 then some (bt.pendMode, bt.modeAtF) else none
    pendOwn := false, pendLate := false, syncMaster := bt.syncInDriven }

/-- The registers of EPOCH and XEPOCH that such a beat sets, and the counters taken. -/
def Blk.beatTaken (b : Blk) (port : Nat) (bt : Beat) : Blk :=
  let taken := ((b.set EPOCH.FRAME_MODE_MODE bt.mode).onEp (fun e => e.taken bt)).markChanged Page.EPOCH
  let named := ((taken.set XEPOCH.STATE_MASTER bt.master).set XEPOCH.STATE_PARENT port).set XEPOCH.STATE_DEPTH (bt.depth + 1)
  (named.bump XEPOCH.BEAT_COUNT).setOffset 0

theorem Blk.acquireFrom_eq (b : Blk) (port : Nat) (bt : Beat) : b.acquireFrom port bt = (b.beatTaken port bt).setEpoch stAcquire := rfl

theorem Blk.keepsBesideEp_beatTaken (b : Blk) (port : Nat) (bt : Beat) : b.keepsBesideEp (b.beatTaken port bt) := by
  unfold Blk.beatTaken
  extract_lets taken named
  have h : b.keepsBesideEp taken := ((b.keepsBehind_set _ _).besideEp.trans (Blk.keepsBesideEp_onEp _ _)).behind (Blk.keepsBehind_markChanged _ _)
  exact h.behind (((((taken.keepsBehind_set _ _).set _ _).set _ _).trans (Blk.keepsBehind_bump _ _)).set _ _)

theorem Blk.keepsOtherPages_beatTaken (b : Blk) (port : Nat) (bt : Beat) :
    b.keepsOtherPages (b.beatTaken port bt) [Page.EPOCH, Page.XEPOCH] := by
  unfold Blk.beatTaken
  extract_lets taken named
  have h : b.keepsOtherPages taken [Page.EPOCH, Page.XEPOCH] := (b.keepsOtherPages_refl _).set (f := EPOCH.FRAME_MODE_MODE) bt.mode (by decide)
  have n : b.keepsOtherPages named [Page.EPOCH, Page.XEPOCH] :=
    ((h.set (f := XEPOCH.STATE_MASTER) _ (by decide)).set (f := XEPOCH.STATE_PARENT) _ (by decide)).set (f := XEPOCH.STATE_DEPTH) _ (by decide)
  have c : b.keepsOtherPages (named.bump XEPOCH.BEAT_COUNT) [Page.EPOCH, Page.XEPOCH] :=
    n.set (f := XEPOCH.BEAT_COUNT) _ (by decide)
  exact c.set (f := XEPOCH.OFFSET) _ (by decide)

theorem Blk.beatTaken_ep (b : Blk) (port : Nat) (bt : Beat) : (b.beatTaken port bt).ep = b.ep.taken bt := by
  unfold Blk.beatTaken Blk.setOffset
  simp -implicitDefEqProofs only [Blk.set_ep, Blk.bump_ep, Blk.markChanged, Blk.setPageSt_ep]
  exact congrArg (fun e : EpochSt => e.taken bt) (b.set_ep _ _)

theorem Blk.beatTaken_shows (b : Blk) {port : Nat} {bt : Beat} (hp : port < 4) (depth : bt.depth ≤ 254) (mode : bt.mode < 3)
    (master : bt.master < 256) :
    (b.beatTaken port bt).get EPOCH.FRAME_MODE_MODE = bt.mode ∧ (b.beatTaken port bt).get XEPOCH.STATE_PARENT = port ∧
    (b.beatTaken port bt).get XEPOCH.STATE_MASTER = bt.master ∧ (b.beatTaken port bt).get XEPOCH.STATE_DEPTH = bt.depth + 1 ∧
    (b.beatTaken port bt).get XEPOCH.OFFSET = 0 := by
  unfold Blk.beatTaken Blk.setOffset Blk.bump Blk.markChanged
  refine ⟨?_, ?_, ?_, ?_, ?_⟩ <;>
    simp -implicitDefEqProofs (disch := simp only [Fld.fits, Fld.apart]; decide) only
      [Blk.get_set_apart, Blk.get_set_same, Blk.setPageSt_get, Blk.onEp_get]
  · exact Nat.mod_eq_of_lt (by show bt.mode < 2 ^ 2; omega)
  · exact Nat.mod_eq_of_lt hp
  · exact Nat.mod_eq_of_lt master
  · exact Nat.mod_eq_of_lt (by show bt.depth + 1 < 2 ^ 8; omega)
  · decide

/-- Entering ACQUIRE leaves every field but the state itself. -/
theorem Blk.get_setEpoch_acquire (b : Blk) {f : Fld} (fits : f.fits) (ne : XEPOCH.STATE_STATE.apart f) :
    (b.setEpoch stAcquire).get f = b.get f := by
  rw [Blk.setEpoch_eq, if_neg (by decide), if_neg (by decide), if_neg (by decide), Blk.onEp_get, Blk.enterEpoch, Blk.onEp_get,
    Blk.get_set_apart _ _ _ _ fits ne]

theorem Blk.powered_of_active {b : Blk} {page : Nat} (on : b.active page = true) : b.powered page = true := by
  unfold Blk.active at on
  simp only [Bool.and_eq_true] at on
  obtain ⟨⟨⟨powered, _⟩, _⟩, _⟩ := on
  exact powered

theorem Blk.beatReceive_free {b : Blk} {port : Nat} {bt : Beat} (late : Int) (hp : port < 4) (on : b.active Page.XEPOCH = true)
    (fleet : b.fleetPort port = true) (own : b.ep.ownMaster = false) (depth : bt.depth ≤ 254) (mode : bt.mode < 3)
    (line : bt.l < frameLenOf bt.mode) (held : bt.inHoldover = false) (free : b.epochState = stFree) (fit : b.portFit port = true) :
    b.beatReceive port bt late = (b.onEp (fun e => { e with latest := setNth e.latest port (some bt) })).acquireFrom port bt := by
  have kept : (b.onEp (fun e => { e with latest := setNth e.latest port (some bt) })).portFit port = true := fit
  unfold Blk.beatReceive
  extract_lets st src noted
  have stFree' : st = stFree := free
  rw [if_neg (by simp [on, fleet, own]; omega), if_neg (by rw [stFree']; decide), if_neg (by rw [stFree', held]; decide),
    if_pos (by rw [stFree']; decide)]
  exact if_pos (by rw [held, Bool.not_false, Bool.true_and]; exact kept)

/-- Settles O7: the beat sent is `beatSend`'s own; the beat taken is the counters and names set (`beatTaken_shows`), then ACQUIRE. -/
theorem beatsCarryTheSendersCounters : Obligations.BeatsCarryTheSendersCounters := by
  unfold Obligations.BeatsCarryTheSendersCounters
  refine ⟨fun s due => ⟨exec_blk (f := fun b => b.beatSend) rfl rfl (if_pos due), rfl, rfl, rfl, rfl, rfl, beq_iff_eq⟩,
    fun s port bt late hp on fleet own depth mode line master held free fit => ?_⟩
  have received := Blk.beatReceive_free late hp on fleet own depth mode line held free fit
  have noted := s.blk.keepsBesideEp_onEp (fun e => { e with latest := setNth e.latest port (some bt) })
  have words : s.blk.keepsOtherPages (s.blk.onEp (fun e => { e with latest := setNth e.latest port (some bt) }))
      [Page.EPOCH, Page.XEPOCH] := s.blk.keepsOtherPages_refl _
  have powered := Blk.powered_of_active on
  generalize s.blk.onEp (fun e => { e with latest := setNth e.latest port (some bt) }) = b at received noted words
  rw [Blk.acquireFrom_eq] at received
  obtain ⟨modeOf, parent, name, deep, offset⟩ := b.beatTaken_shows hp depth mode master
  have ep := b.beatTaken_ep port bt
  have beside := b.keepsBesideEp_beatTaken port bt
  have pages := b.keepsOtherPages_beatTaken port bt
  generalize b.beatTaken port bt = taken at received modeOf parent name deep offset ep beside pages
  have base := taken.setEpoch_part stAcquire (part := fun e => e.base)
    ⟨fun _ => rfl, fun _ => rfl, fun _ => rfl, fun _ _ => rfl, fun _ => rfl⟩
  have pend := taken.setEpoch_part stAcquire (part := fun e => e.pendMode)
    ⟨fun _ => rfl, fun _ => rfl, fun _ => rfl, fun _ _ => rfl, fun _ => rfl⟩
  have state := Blk.epochState_setEpoch ((noted.trans beside).powered Page.XEPOCH |>.trans powered) (st := stAcquire) (by decide)
  have get {f : Fld} {v : Nat} (h : taken.get f = v) (fits : f.fits) (ne : XEPOCH.STATE_STATE.apart f) :
      (taken.setEpoch stAcquire).get f = v := (taken.get_setEpoch_acquire fits ne).trans h
  refine completes_of_blk (f := fun b => b.beatReceive port bt late) rfl (decide_eq_true hp) received
    ⟨?_, ?_, ?_, ?_, ?_, state, ?_, ?_, ?_, ?_, ?_, ?_⟩
  · exact (taken.setEpoch_line stAcquire).trans (congrArg (·.line) ep)
  · exact (taken.setEpoch_frame stAcquire).trans (congrArg (·.frame) ep)
  · exact base.trans (congrArg (·.base) ep)
  · exact get modeOf (by unfold Fld.fits; decide) (by unfold Fld.apart; decide)
  · exact pend.trans (congrArg (·.pendMode) ep)
  · exact get parent (by unfold Fld.fits; decide) (by unfold Fld.apart; decide)
  · exact get name (by unfold Fld.fits; decide) (by unfold Fld.apart; decide)
  · exact get deep (by unfold Fld.fits; decide) (by unfold Fld.apart; decide)
  · exact get offset (by unfold Fld.fits; decide) (by unfold Fld.apart; decide)
  · exact (words.trans pages).trans ((taken.keepsRegs_setEpoch stAcquire).otherPages (by decide))
  · exact Node.sameMemory_of_keepsBesideEp ((noted.trans beside).trans (taken.keepsBesideEp_setEpoch stAcquire))

end Sys2Proof.Machine
end

section
/-! PROOFS. Writes of the header registers (spec/03 R61 to R77): what a granted one does on every page, and the statements about
interrupts, LOCK, CTRL and the safety scan. -/

namespace Sys2Proof.Machine

/-! ### Header registers are no wide ones and act at their page -/

theorem wideRows_beyond_header : ∀ r ∈ wideRows, 0x040 ≤ r.off := by decide

theorem isWideLow_header (page : Nat) {off : Nat} (h : off < 0x040) : isWideLow page off = false := by
  by_contra low
  rw [Bool.not_eq_false] at low
  obtain ⟨r, hr, -, i, -, place⟩ := exists_wideRow low
  have beyond := wideRows_beyond_header r hr
  omega

theorem isWideHigh_header (page : Nat) {off : Nat} (h : off < 0x040) : isWideHigh page off = false := by
  rw [isWideHigh, isWideLow_header page (by omega), Bool.and_false]

theorem nodeWrite_header (page : Nat) {off : Nat} (h : off < 0x040) : nodeWrite page off = false := by
  have reset : (off == 0x050) = false := beq_false_of_ne (by omega)
  have prog : (off == 0x048) = false := beq_false_of_ne (by omega)
  rw [nodeWrite, reset, prog, Bool.and_false, Bool.and_false, Bool.or_false]

theorem Blk.dbgOff_header (b : Blk) (page : Nat) {off : Nat} (h : off < 0x040) : b.dbgOff page off = false := by
  have data : (off == 0x04C) = false := beq_false_of_ne (by omega)
  have tag : (off == 0x050) = false := beq_false_of_ne (by omega)
  rw [Blk.dbgOff, data, tag, Bool.or_false, Bool.and_false, Bool.false_and]

theorem dbgData_header (page : Nat) {off : Nat} (h : off < 0x040) : (page == Page.SPM && off == 0x04C) = false := by
  rw [beq_false_of_ne (show off ≠ 0x04C by omega), Bool.and_false]

theorem Blk.ringShut_header (b : Blk) (page : Nat) {off : Nat} (h : off < 0x040) : b.ringShut page off = false := by
  have low : (off == 0x060) = false := beq_false_of_ne (by omega)
  have high : (off == 0x064) = false := beq_false_of_ne (by omega)
  rw [Blk.ringShut, low, high, Bool.or_false, Bool.and_false, Bool.false_and]

theorem Blk.reachKey_header (b : Blk) (page : Nat) {off : Nat} (h : off < 0x040) : b.reachKey page off = regKey page off := by
  unfold Blk.reachKey
  simp only [Bool.and_eq_true, decide_eq_true_eq]
  rw [if_neg (by omega), if_neg (by omega), if_neg (by omega), if_neg (by omega)]

/-- Only a SOFT_RESET of FUSE or LIFE among the header's writes moves LIFE's live fields. -/
theorem lifeGate_header (page : Nat) {off : Nat} (v : Word) (h : off < 0x040)
    (plain : off ≠ 0x010 ∨ v.getLsbD 1 = false ∨ page ≠ Page.FUSE ∧ page ≠ Page.LIFE) : lifeGate page off v = false := by
  have locks : decide (0x070 ≤ off) = false := decide_eq_false (by omega)
  rw [lifeGate, locks, Bool.and_false, Bool.false_or]
  obtain other | clear | ⟨fuse, life⟩ := plain
  · rw [beq_false_of_ne other, Bool.and_false, Bool.false_and]
  · rw [clear, Bool.and_false]
  · rw [beq_false_of_ne fuse, beq_false_of_ne life, Bool.or_false, Bool.false_and, Bool.false_and]

theorem Blk.writeBlock_header (b : Blk) (a : Agent) (page : Nat) {off : Nat} (v : Word) (h : off < 0x040) :
    b.writeBlock a page off v = b.writeHeader page off v := if_pos h

/-- A granted write of a header register: the header's own behaviour, then the answer. -/
theorem Node.writeReg_header (n : Node) (a : Agent) (page : Nat) {off : Nat} (v : Word) (h : off < 0x040) (hg : n.b.granted a page off v)
    (plain : off ≠ 0x010 ∨ v.getLsbD 1 = false ∨ page ≠ Page.FUSE ∧ page ≠ Page.LIFE) :
    n.writeReg a page off true v = n.on (fun b => (b.writeHeader page off v).answered a page off) := by
  rw [n.writeReg_granted a page off v hg (nodeWrite_header page h) (n.b.dbgOff_header page h) (dbgData_header page h)
    (isWideLow_header page h) (isWideHigh_header page h) (lifeGate_header page v h plain), Blk.writeBlock_header _ _ _ _ h]
  rfl

/-- A command on the node completes with what holds of the blocks it leaves. -/
theorem completes_of_node {s : State} {i : Instr} {f : Node → Node} {b : Blk} {P : State → Prop} (act : exec i s = s.act i f)
    (wf : i.wf = true) (effect : f s.node = { s.node with b := b }) (p : P (s.withBlk b)) : completes i s P :=
  ⟨s.withBlk b, exec_next act wf effect, rfl, p⟩

/-! ### Interrupt and capture registers -/

/-- The header's plain registers IRQ_EN and SCRATCH, on every page: all bits RW, no copy. -/
theorem regRow_irqEn : ∀ page < 256, regRow page 0x01C = headerRows.find? (fun r => r.covers 0x01C) := by decide +kernel
theorem regRow_scratch : ∀ page < 256, regRow page 0x038 = headerRows.find? (fun r => r.covers 0x038) := by decide +kernel

theorem maskedWrite_all {r : RegRow} (rw : BitVec.ofNat 32 r.rw = BitVec.allOnes 32) (w1c : r.w1c = 0) (old v : Word) : maskedWrite r old v = v := by
  simp only [maskedWrite, rw, w1c, BitVec.not_allOnes, BitVec.and_zero, BitVec.zero_or, BitVec.and_allOnes,
    BitVec.zero_and, BitVec.not_zero]

/-- A write of a register that takes no copy. -/
theorem Blk.storeKey_direct (b : Blk) {k : Nat} {r : RegRow} (v : Word) (row : regRow (pageOf k) (offOf k) = some r) (direct : r.shadow = .none) :
    b.storeKey k v = (if r.inCrc then b.markChanged (pageOf k) else b).setWord k (maskedWrite r (b.word k) v) := by
  have word : (if r.inCrc then b.markChanged (pageOf k) else b).word k = b.word k := by split <;> rfl
  unfold Blk.storeKey
  rw [row]
  dsimp only
  rw [direct, word]
  rfl

theorem Blk.storeKey_irqEn (b : Blk) {page : Nat} (hp : page < 256) (v : Word) :
    b.storeKey (regKey page 0x01C) v = (b.markChanged page).setWord (regKey page 0x01C) v := by
  have page' : pageOf (regKey page 0x01C) = page := pageOf_regKey hp (by decide)
  rw [b.storeKey_direct (r := ⟨0x01C, 1, 0, .none, 0, 0xFFFFFFFF, 0, 0, true⟩) v
    (by rw [page', offOf_regKey page (by decide), regRow_irqEn page hp]; rfl) rfl, page', maskedWrite_all (by decide) rfl]
  rfl

theorem Blk.storeKey_scratch (b : Blk) {page : Nat} (hp : page < 256) (v : Word) :
    b.storeKey (regKey page 0x038) v = b.setWord (regKey page 0x038) v := by
  have page' : pageOf (regKey page 0x038) = page := pageOf_regKey hp (by decide)
  rw [b.storeKey_direct (r := ⟨0x038, 1, 0, .none, 0, 0xFFFFFFFF, 0, 0xFFFFFFFF, false⟩) v
    (by rw [page', offOf_regKey page (by decide), regRow_scratch page hp]; rfl) rfl, maskedWrite_all (by decide) rfl]
  rfl

theorem Blk.keepsRegs_setWord (b : Blk) (k : Nat) (v : Word) : b.keepsRegs (b.setWord k v) [k] :=
  (b.keepsRegs_refl _).setWord v (List.mem_singleton.mpr rfl)

/-- The operands of a command on a page. -/
theorem page_lt_of_wf {a : Agent} {page : Nat} (wf : (agentOk a && pageOk page) = true) : page < 256 := by
  simp only [Bool.and_eq_true, pageOk, decide_eq_true_eq] at wf
  exact wf.2

/-- Settles O15, register by register. -/
theorem interruptRegistersAsWritten : Obligations.InterruptRegistersAsWritten := by
  unfold Obligations.InterruptRegistersAsWritten
  intro s a page wf raw
  have hp := page_lt_of_wf wf
  refine ⟨fun v same hg => ?_, fun v hg => ?_, fun v hg => ?_, fun hg => ?_⟩
  · exact exec_next (f := fun n => n.writeReg a page 0x018 true (v &&& ~~~same)) rfl wf
      (s.node.writeReg_header a page _ (by decide) hg (.inl (by decide)))
  · have stored : s.blk.writeHeader page 0x01C v = (s.blk.markChanged page).setWord (regKey page 0x01C) v := s.blk.storeKey_irqEn hp v
    have written := s.node.writeReg_header a page v (off := 0x01C) (by decide) hg (.inl (by decide))
    have same : ((s.blk.markChanged page).setWord (regKey page 0x01C) v).word (regKey page 0x01C) = v := Blk.word_setWord_same _ _ _
    have other : ((s.blk.markChanged page).setWord (regKey page 0x01C) v).word (regKey page 0x018) = raw :=
      Blk.word_setWord_ne _ _ (by unfold regKey; omega)
    have behind : s.blk.keepsBehind ((s.blk.markChanged page).setWord (regKey page 0x01C) v) := (s.blk.keepsBehind_markChanged page).setWord _ _
    refine completes_of_node (f := fun n => n.writeReg a page 0x01C true v) (b := ((s.blk.markChanged page).setWord (regKey page 0x01C) v).answered
      a page 0x01C) rfl wf (written.trans (congrArg (fun b => { s.node with b := b.answered a page 0x01C }) stored)) ⟨same,
        (s.blk.markChanged page).keepsRegs_setWord _ _, ?_, Node.sameMemory_of_keepsBehind (behind.trans (Blk.keepsBehind_answered _ a page 0x01C)), rfl⟩
    exact congrArg₂ (fun x y : Word => (x &&& y) != 0) other same
  · have written := s.node.writeReg_header a page v (off := 0x020) (by decide) hg (.inl (by decide))
    exact completes_of_node (f := fun n => n.writeReg a page 0x020 true v) rfl wf written ⟨Blk.word_setWord_same _ _ _,
      s.blk.keepsRegs_setWord _ _, rfl, ⟨rfl, rfl, rfl, rfl⟩⟩
  · exact exec_next (f := fun n => n.writeReg a page 0x024 true 0x80000000#32) rfl wf
      (s.node.writeReg_header a page _ (by decide) hg (.inl (by decide)))

/-! ### LOCK -/

/-- LOCK belongs to Hamada. -/
theorem Blk.classAllows_lock (b : Blk) {a : Agent} (page : Nat) (other : a ≠ .hamada) : b.classAllows a page 0x030 true = false := by
  cases a <;> simp_all [Blk.classAllows]

theorem Blk.accessCause_lock (b : Blk) {a : Agent} {page : Nat} (v : Nat) (other : a ≠ .hamada) (on : b.powered page = true) :
    b.accessCause a page 0x030 true true v = causePriv := by
  have assigned : (domainOf page).isNone = false := by
    unfold Blk.powered at on
    split at on
    · next d h => rw [h]; rfl
    · exact Bool.noConfusion on
  simp [Blk.accessCause, assigned, on, b.classAllows_lock page other]

/-- The block with a page's LOCK taken. -/
def Blk.lockTaken (b : Blk) (page : Nat) : Blk := { b with locked := Tbl.put (dflt false) b.locked (regKey page 0x030) true }

theorem Blk.writeLock_first {b : Blk} {page : Nat} (v : Word) (never : Tbl.get (dflt false) b.locked (regKey page 0x030) = false) :
    b.writeLock page v = ((b.lockTaken page).setWord (regKey page 0x030) (v &&& 3)).markChanged page := by
  unfold Blk.writeLock
  exact if_neg (by rw [never]; decide)

theorem Blk.writeLock_again {b : Blk} {page : Nat} (v : Word) (locked : Tbl.get (dflt false) b.locked (regKey page 0x030) = true) :
    b.writeLock page v = b := if_pos locked

/-- Settles O16: Hamada's write by whether LOCK has been written (`writeLock_first`, `writeLock_again`), another's by its class. -/
theorem lockIsWrittenOnceByHamada : Obligations.LockIsWrittenOnceByHamada := by
  unfold Obligations.LockIsWrittenOnceByHamada
  refine ⟨fun s page v hp hg => ⟨fun never => ?_, fun locked => ?_⟩, fun s a page v wf other on => ?_⟩
  · have written := s.node.writeReg_header .hamada page v (off := 0x030) (by decide) hg (.inl (by decide))
    have first : s.blk.writeHeader page 0x030 v = ((s.blk.lockTaken page).setWord (regKey page 0x030) (v &&& 3)).markChanged page :=
      Blk.writeLock_first v never
    exact completes_of_node (f := fun n => n.writeReg .hamada page 0x030 true v)
      (b := (((s.blk.lockTaken page).setWord (regKey page 0x030) (v &&& 3)).markChanged page).answered .hamada page 0x030) rfl hp
      (written.trans (congrArg (fun b => { s.node with b := b.answered .hamada page 0x030 }) first))
      ⟨Blk.word_setWord_same _ _ _, Tbl.get_put_same (dflt false) s.blk.locked (regKey page 0x030) true,
        (s.blk.lockTaken page).keepsRegs_setWord (regKey page 0x030) (v &&& 3), rfl, rfl, rfl, rfl⟩
  · have written := s.node.writeReg_header .hamada page v (off := 0x030) (by decide) hg (.inl (by decide))
    have again : s.blk.writeHeader page 0x030 v = s.blk := Blk.writeLock_again v locked
    exact exec_next (f := fun n => n.writeReg .hamada page 0x030 true v) rfl hp
      (written.trans (congrArg (fun b => { s.node with b := b.answered .hamada page 0x030 }) again))
  · have cause := s.blk.accessCause_lock v.toNat other on
    have refused := s.node.writeReg_refused a page 0x030 true v (fun none => absurd (cause.symm.trans none) (by decide))
    have faulted : s.node.writeReg a page 0x030 true v =
        { s.node with b := (s.blk.accessFault a page 0x030 causePriv).emit (.access a page 0x030 true causePriv 0) } :=
      refused.trans (congrArg (fun c => { s.node with b := (s.blk.accessFault a page 0x030 c).emit (.access a page 0x030 true c 0) }) cause)
    exact exec_next (f := fun n => n.writeReg a page 0x030 true v) rfl wf faulted

/-! ### CTRL -/

/-- CTRL's RW bits on every page: EN, FREEZE, CRC_EN (spec/03 R61). -/
theorem regRow_ctrl : ∀ page < 256, (regRow page 0x010).map (fun r => r.rw) = some 0x15 := by decide +kernel

theorem Blk.rwWord_ctrl (b : Blk) {page : Nat} (hp : page < 256) : b.rwWord page 0x010 = (b.word (regKey page 0x010) &&& 0x15).toNat := by
  have row := regRow_ctrl page hp
  rw [Option.map_eq_some_iff] at row
  obtain ⟨r, row, rw'⟩ := row
  unfold Blk.rwWord
  rw [row, b.reachKey_header page (by decide)]
  dsimp only
  rw [rw']
  rfl

/-- A bit of a word under a mask. -/
theorem bitAt_and_toNat (w m : Word) (i : Nat) : bitAt (w &&& m).toNat i = (bitAt w.toNat i && bitAt m.toNat i) := by
  rw [bitAt_eq_testBit, bitAt_eq_testBit, bitAt_eq_testBit, BitVec.toNat_and, Nat.testBit_land]

/-- Another bit of the word that sets one field is the register's own, as far as it is RW. -/
theorem bitAt_ofNat_putBits_ne (n : Nat) {lo w i : Nat} (v : Nat) (hi : i < 32) (ne : i < lo ∨ lo + w ≤ i) :
    bitAt (BitVec.ofNat 32 (putBits n lo w v)).toNat i = bitAt n i := by
  rw [bitAt, BitVec.toNat_ofNat, bitsAt_mod_word _ _ _ (by omega), bitsAt_putBits_ne _ _ _ _ _ _ (by omega), bitAt]

theorem Blk.bitAt_fieldWord_ctrl (b : Blk) {page : Nat} (hp : page < 256) (v : Nat) {lo i : Nat} (hi : i < 32) (ne : i ≠ lo) :
    bitAt (b.fieldWord page 0x010 lo 1 v).toNat i = (bitAt (b.word (regKey page 0x010)).toNat i && bitAt 0x15 i) := by
  rw [Blk.fieldWord, bitAt_ofNat_putBits_ne _ _ hi (by omega), b.rwWord_ctrl hp, bitAt_and_toNat]
  rfl

/-- A one-bit field as a flag is its bit. -/
theorem Blk.flag_eq_bitAt (b : Blk) (k lo : Nat) : b.flag ⟨k, lo, 1⟩ = bitAt (b.word k).toNat lo := by
  have lt := bitsAt_lt (b.word k).toNat lo 1
  rw [Blk.flag, Blk.get, bitAt]
  generalize bitsAt (b.word k).toNat lo 1 = n at lt ⊢
  have : n = 0 ∨ n = 1 := by omega
  obtain rfl | rfl := this <;> rfl

theorem bitsAt_one (n i : Nat) : bitsAt n i 1 = bitNat (bitAt n i) := by
  have lt := bitsAt_lt n i 1
  rw [bitAt]
  generalize bitsAt n i 1 = x at lt ⊢
  have : x = 0 ∨ x = 1 := by omega
  obtain rfl | rfl := this <;> rfl

/-- The word of a command that sets one bit of CTRL carries the others as they stand. -/
theorem Blk.ctrlWord_bits (b : Blk) {page lo : Nat} (hp : page < 256) (on : Bool) :
    (lo ≠ 0 → bitAt (b.fieldWord page 0x010 lo 1 (bitNat on)).toNat 0 = b.flag (hEn page)) ∧
    (lo ≠ 1 → bitAt (b.fieldWord page 0x010 lo 1 (bitNat on)).toNat 1 = false) ∧
    (lo ≠ 2 → bitAt (b.fieldWord page 0x010 lo 1 (bitNat on)).toNat 2 = b.flag (hFreeze page)) ∧
    (lo ≠ 3 → bitAt (b.fieldWord page 0x010 lo 1 (bitNat on)).toNat 3 = false) ∧
    (lo ≠ 4 → bitsAt (b.fieldWord page 0x010 lo 1 (bitNat on)).toNat 4 1 = b.get (hCrcEn page)) := by
  have kept (i : Nat) (hi : i < 32) (ne : lo ≠ i) := b.bitAt_fieldWord_ctrl hp (bitNat on) hi ne.symm
  refine ⟨fun ne => ?_, fun ne => ?_, fun ne => ?_, fun ne => ?_, fun ne => ?_⟩
  · rw [kept 0 (by decide) ne, hEn, hdr, Blk.flag_eq_bitAt, show bitAt 0x15 0 = true from rfl, Bool.and_true]
  · rw [kept 1 (by decide) ne, show bitAt 0x15 1 = false from rfl, Bool.and_false]
  · rw [kept 2 (by decide) ne, hFreeze, hdr, Blk.flag_eq_bitAt, show bitAt 0x15 2 = true from rfl, Bool.and_true]
  · rw [kept 3 (by decide) ne, show bitAt 0x15 3 = false from rfl, Bool.and_false]
  · rw [bitsAt_one, kept 4 (by decide) ne, hCrcEn, hdr, Blk.get, bitsAt_one, show bitAt 0x15 4 = true from rfl, Bool.and_true]

theorem Blk.writeCtrl_plain (b : Blk) (page : Nat) {v : Nat} (clear : bitAt v 3 = false) (soft : bitAt v 1 = false) :
    b.writeCtrl page v = ((b.writeEn page (bitAt v 0)).writeFreeze page (bitAt v 2)).set (hCrcEn page) (bitsAt v 4 1) := by
  unfold Blk.writeCtrl
  rw [clear, soft, Bool.false_and]
  rfl

theorem Blk.writeCtrl_clear (b : Blk) (page : Nat) {v : Nat} (clear : bitAt v 3 = true) (soft : bitAt v 1 = false) :
    b.writeCtrl page v = (((b.set (hErrCount page) 0).writeEn page (bitAt v 0)).writeFreeze page (bitAt v 2)).set (hCrcEn page) (bitsAt v 4 1) := by
  unfold Blk.writeCtrl
  rw [clear, soft, Bool.false_and]
  rfl

theorem Blk.writeCtrl_soft (b : Blk) {page : Nat} {v : Nat} (clear : bitAt v 3 = false) (soft : bitAt v 1 = true) (safe : page ≠ Page.SAFE) :
    b.writeCtrl page v = (b.softReset page (bitAt v 0)).markChanged page := by
  have pageOk : (true && page != Page.SAFE) = true := by simpa using safe
  unfold Blk.writeCtrl
  rw [clear, soft]
  exact if_pos pageOk

theorem getLsbD_of_bitAt {v : Word} {i : Nat} {on : Bool} (h : bitAt v.toNat i = on) : v.getLsbD i = on := by
  rw [bitAt_eq_testBit] at h
  exact h

theorem Blk.writeEn_plain (b : Blk) {page : Nat} (on : Bool) (port : ¬(0x40 ≤ page ∧ page < 0x44)) (route : page ≠ Page.XROUTE) :
    b.writeEn page on = b.set (hEn page) (bitNat on) := by
  have noPort : (decide (0x40 ≤ page) && decide (page < 0x44)) = false := by simpa using port
  have noRoute : (page == Page.XROUTE && on) = false := by rw [beq_false_of_ne route, Bool.false_and]
  unfold Blk.writeEn
  extract_lets was set
  rw [if_neg (c := (decide (0x40 ≤ page) && decide (page < 0x44)) = true) (by simp [noPort]), noRoute]
  split <;> rfl

/-- A page that is reset shows it. -/
theorem Blk.flag_softReset (b : Blk) {page : Nat} (en : Bool) (safe : page ≠ Page.SAFE) : (b.softReset page en).flag (hResetting page) = true := by
  unfold Blk.softReset
  rw [if_neg (by simpa using safe)]
  exact Blk.flag_raise_same _ _ (show 3 + 1 ≤ 32 by decide) (show 0 < 1 by decide)

/-- Settles O14, bit by bit: the command's word carries the other bits (`ctrlWord_bits`). -/
theorem controlBitsEnableFreezeAndReset : Obligations.ControlBitsEnableFreezeAndReset := by
  unfold Obligations.ControlBitsEnableFreezeAndReset
  intro s a page wf en frozen crc
  have hp := page_lt_of_wf wf
  have header {v : Word} (hg : s.blk.granted a page 0x010 v) (soft : bitAt v.toNat 1 = false) :
      s.node.writeReg a page 0x010 true v = { s.node with b := (s.blk.writeCtrl page v.toNat).answered a page 0x010 } :=
    s.node.writeReg_header a page v (off := 0x010) (by decide) hg (.inr (.inl (getLsbD_of_bitAt soft)))
  refine ⟨fun on hg => ⟨?_, ?_⟩, fun on hg => ⟨?_, fun none => if_pos none, fun some => ?_⟩, fun on fr => ?_, fun safe fuse life hg => ?_,
    fun live hg => ?_, ?_, fun hg => ?_⟩
  · obtain ⟨-, soft, freeze, clear, crcEn⟩ := s.blk.ctrlWord_bits (lo := 0) hp on
    have enable := s.blk.bitAt_fieldWord page 0x010 on (lo := 0) (by decide)
    refine exec_next (f := fun n => n.writeBits a page 0x010 0 1 (bitNat on)) rfl wf ((header hg (soft (by decide))).trans ?_)
    rw [Blk.writeCtrl_plain _ _ (clear (by decide)) (soft (by decide)), enable, freeze (by decide), crcEn (by decide)]
  · by_cases port : 0x40 ≤ page ∧ page < 0x44
    · exact .inl (.inl port)
    · by_cases route : page = Page.XROUTE
      · exact .inl (.inr route)
      · exact .inr (s.blk.writeEn_plain on port route)
  · obtain ⟨enable, soft, -, clear, crcEn⟩ := s.blk.ctrlWord_bits (lo := 2) hp on
    have freeze := s.blk.bitAt_fieldWord page 0x010 on (lo := 2) (by decide)
    refine exec_next (f := fun n => n.writeBits a page 0x010 2 1 (bitNat on)) rfl wf ((header hg (soft (by decide))).trans ?_)
    rw [Blk.writeCtrl_plain _ _ (clear (by decide)) (soft (by decide)), enable (by decide), freeze, crcEn (by decide)]
  · unfold Blk.writeFreeze
    rw [if_neg (by rw [some]; decide)]
    rfl
  · refine exec_blk (f := fun b => b.freezeStop page) rfl (decide_eq_true hp) (if_pos ?_)
    rw [on, Bool.true_and]
    exact fr
  · obtain ⟨enable, -, -, clear, -⟩ := s.blk.ctrlWord_bits (lo := 1) hp true
    have soft := s.blk.bitAt_fieldWord page 0x010 true (lo := 1) (by decide)
    have written : s.node.writeReg a page 0x010 true (s.blk.fieldWord page 0x010 1 1 1) =
        { s.node with b := (s.blk.writeCtrl page (s.blk.fieldWord page 0x010 1 1 1).toNat).answered a page 0x010 } :=
      s.node.writeReg_header a page _ (off := 0x010) (by decide) hg (.inr (.inr ⟨fuse, life⟩))
    rw [s.blk.writeCtrl_soft (v := (s.blk.fieldWord page 0x010 1 1 1).toNat) (clear (by decide)) soft safe] at written
    have kept : bitAt (s.blk.fieldWord page 0x010 1 1 1).toNat 0 = en := enable (by decide)
    rw [kept] at written
    exact completes_of_node (f := fun n => n.writeBits a page 0x010 1 1 1) rfl wf written ⟨s.blk.flag_softReset en safe, rfl⟩
  · obtain ⟨enable, -, -, clear, -⟩ := s.blk.ctrlWord_bits (lo := 1) hp true
    have soft : bitAt (s.blk.fieldWord page 0x010 1 1 1).toNat 1 = true := s.blk.bitAt_fieldWord page 0x010 true (by decide)
    have kept : bitAt (s.blk.fieldWord page 0x010 1 1 1).toNat 0 = en := enable (by decide)
    have safe : page ≠ Page.SAFE := by obtain rfl | rfl := live <;> decide
    have gate : lifeGate page 0x010 (s.blk.fieldWord page 0x010 1 1 1) = true := by
      have bit := getLsbD_of_bitAt soft
      obtain rfl | rfl := live <;> exact (by simpa [lifeGate] using bit)
    have written := s.node.writeReg_granted_life a page 0x010 _ hg (nodeWrite_header page (by decide)) (s.blk.dbgOff_header page (by decide))
      (dbgData_header page (by decide)) (s.blk.ringShut_header page (by decide)) (isWideLow_header page (by decide))
      (isWideHigh_header page (by decide)) gate
    have reset : s.blk.writeBlock a page 0x010 (s.blk.fieldWord page 0x010 1 1 1) = (s.blk.softReset page en).markChanged page := by
      rw [← kept, ← s.blk.writeCtrl_soft (v := (s.blk.fieldWord page 0x010 1 1 1).toNat) (clear (by decide)) soft safe]
      rfl
    exact exec_next (f := fun n => n.writeBits a page 0x010 1 1 1) rfl wf (written.trans
      (congrArg (fun b => (Node.lifeSync { s.node with b := b }).on (fun b => b.answered a page 0x010)) reset))
  · exact exec_blk (f := fun b => b.softResetDone page) rfl (decide_eq_true hp) rfl
  · obtain ⟨enable, soft, freeze, -, crcEn⟩ := s.blk.ctrlWord_bits (lo := 3) hp true
    have clear := s.blk.bitAt_fieldWord page 0x010 true (lo := 3) (by decide)
    refine exec_next (f := fun n => n.writeBits a page 0x010 3 1 1) rfl wf ((header hg (soft (by decide))).trans ?_)
    have kept := s.blk.writeCtrl_clear page clear (soft (by decide))
    rw [enable (by decide), freeze (by decide), crcEn (by decide)] at kept
    exact congrArg (fun b => { s.node with b := b.answered a page 0x010 }) kept

/-! ### The safety scan -/

/-- `b'` differs from `b` in registers, tiles' error logs and drawn free values alone. -/
def Blk.keepsBesideLog (b b' : Blk) : Prop := ∃ r t n, b' = { b with regs := r, tiles := t, fresh := n }

theorem Blk.keepsBesideLog_refl (b : Blk) : b.keepsBesideLog b := ⟨_, _, _, rfl⟩

theorem Blk.keepsBesideLog.trans {a b c : Blk} (h : a.keepsBesideLog b) (k : b.keepsBesideLog c) : a.keepsBesideLog c := by
  obtain ⟨r, t, n, rfl⟩ := h
  obtain ⟨r', t', n', rfl⟩ := k
  exact ⟨r', t', n', rfl⟩

theorem Blk.keepsBesideLog.proj {α : Type} {b b' : Blk} (h : b.keepsBesideLog b') (f : Blk → α)
    (hf : ∀ r t n, f { b with regs := r, tiles := t, fresh := n } = f b) : f b' = f b := by
  obtain ⟨r, t, n, rfl⟩ := h
  exact hf r t n

theorem Blk.keepsBesideLog_set (b : Blk) (f : Fld) (v : Nat) : b.keepsBesideLog (b.set f v) := ⟨_, _, _, rfl⟩
theorem Blk.keepsBesideLog_setWord (b : Blk) (k : Nat) (v : Word) : b.keepsBesideLog (b.setWord k v) := ⟨_, _, _, rfl⟩

theorem Blk.keepsBesideLog_capture (b : Blk) (page cause agent off : Nat) : b.keepsBesideLog (b.capture page cause agent off) := by
  have counted := (b.keepsBesideLog_set (hErrCount page) (satInc 32 (b.get (hErrCount page)))).trans (Blk.keepsBesideLog_set _ (hIrqErr page) 1)
  obtain full | ⟨w, v, free⟩ := b.capture_cases page cause agent off
  · rw [full]
    exact counted.trans (Blk.keepsBesideLog_set _ _ _)
  · rw [free]
    exact (counted.trans (Blk.keepsBesideLog_setWord _ _ _)).trans (Blk.keepsBesideLog_setWord _ _ _)

theorem Blk.keepsBesideLog_captureFree (b : Blk) (page cause agent : Nat) : b.keepsBesideLog (b.captureFree page cause agent) :=
  Blk.keepsBesideLog.trans (b := (b.free 12).2) ⟨_, _, _, rfl⟩ (Blk.keepsBesideLog_capture _ page cause agent _)

theorem Blk.keepsBesideLog_ringStep (b : Blk) (next ovf : Fld) (used : Bool) : b.keepsBesideLog (b.ringStep next ovf used) := by
  unfold Blk.ringStep
  cases used
  · exact b.keepsBesideLog_set _ _
  · exact (b.keepsBesideLog_set _ _).trans (Blk.keepsBesideLog_set _ _ _)

theorem Blk.keepsBesideLog_logTile (b : Blk) (t cause req slot : Nat) : b.keepsBesideLog (b.logTile t cause req slot) := by
  unfold Blk.logTile
  extract_lets at_ x dfl used e
  exact Blk.keepsBesideLog.trans (b := b.setTile t { x with elog := Tbl.put dfl x.elog at_ e }) ⟨_, _, _, rfl⟩ (Blk.keepsBesideLog_ringStep _ _ _ _)

theorem Blk.keepsBesideLog_logPage (b : Blk) (page cause : Nat) : b.keepsBesideLog (b.logPage page cause) := by
  unfold Blk.logPage
  split
  · exact Blk.keepsBesideLog.trans (b := { b with fresh := b.fresh + 1 + 1 }) ⟨_, _, _, rfl⟩ (Blk.keepsBesideLog_logTile _ _ _ _ _)
  · exact b.keepsBesideLog_refl

/-- Among registers an error log entry moves the log's head alone. -/
theorem Blk.keepsRegs_logTile (b : Blk) (t cause req slot : Nat) : b.keepsRegs (b.logTile t cause req slot) [(TILE.ELOG_HEAD_NEXT t).key] := by
  unfold Blk.logTile
  extract_lets at_ x dfl used e
  have same : b.keepsRegs (b.setTile t { x with elog := Tbl.put dfl x.elog at_ e }) [(TILE.ELOG_HEAD_NEXT t).key] := fun _ _ => rfl
  unfold Blk.ringStep
  cases used
  · exact same.set (f := TILE.ELOG_HEAD_NEXT t) _ (List.mem_singleton.mpr rfl)
  · exact Blk.keepsRegs.set (f := TILE.ELOG_HEAD_NEXT t) (same.set (f := TILE.ELOG_HEAD_OVF t) _ (List.mem_singleton.mpr rfl)) _
      (List.mem_singleton.mpr rfl)

theorem Blk.keepsRegs_logPage (b : Blk) (page cause : Nat) : b.keepsRegs (b.logPage page cause) [regKey page 0x100] := by
  unfold Blk.logPage
  split
  · next tile =>
    simp only [Bool.and_eq_true, decide_eq_true_eq] at tile
    have key : (TILE.ELOG_HEAD_NEXT (page - 0x20)).key = regKey page 0x100 := by
      show 0x20100 + 0x1000 * (page - 0x20) = page * 4096 + 0x100
      omega
    rw [← key]
    exact Blk.keepsRegs_logTile { b with fresh := b.fresh + 1 + 1 } _ _ _ _
  · exact b.keepsRegs_refl _

/-- SCAN_STATUS as a visit leaves it. -/
def Blk.scanNoted (b : Blk) (page : Nat) : Blk :=
  (if page ≤ b.get SAFE.SCAN_STATUS_LAST_PAGE then b.bump SAFE.SCAN_STATUS_PASSES else b).set SAFE.SCAN_STATUS_LAST_PAGE page

theorem Blk.keepsBesideLog_scanNoted (b : Blk) (page : Nat) : b.keepsBesideLog (b.scanNoted page) := by
  unfold Blk.scanNoted
  split
  · exact (b.keepsBesideLog_set _ _).trans (Blk.keepsBesideLog_set _ _ _)
  · exact b.keepsBesideLog_set _ _

theorem Blk.keepsRegs_scanNoted (b : Blk) (page : Nat) : b.keepsRegs (b.scanNoted page) [SAFE.SCAN_STATUS_LAST_PAGE.key] := by
  unfold Blk.scanNoted
  split
  · exact Blk.keepsRegs.set (f := SAFE.SCAN_STATUS_LAST_PAGE) ((b.keepsRegs_refl _).set (f := SAFE.SCAN_STATUS_PASSES) _ (by decide)) _ (by decide)
  · exact (b.keepsRegs_refl _).set (f := SAFE.SCAN_STATUS_LAST_PAGE) _ (by decide)

theorem Blk.get_scanNoted (b : Blk) {page : Nat} (hp : page < 256) : (b.scanNoted page).get SAFE.SCAN_STATUS_LAST_PAGE = page := by
  rw [Blk.scanNoted, Blk.get_set_same _ _ _ (by unfold Fld.fits; decide)]
  exact Nat.mod_eq_of_lt hp

/-- A header register is none of SCAN_STATUS. -/
theorem headerKey_ne_scan (page : Nat) {off : Nat} (h : off < 0x040) : regKey page off ∉ [SAFE.SCAN_STATUS_LAST_PAGE.key] := by
  rw [List.mem_singleton]
  show page * 4096 + off ≠ 0x050E8
  omega

/-- What a visit leaves of the page: noted as unchanged since, with the checksum found. -/
def Blk.scanKept (b : Blk) (page : Nat) (mismatch : Option Word) : Blk :=
  b.setPageSt page { b.pageSt page with changed := false, mismatch := mismatch }

/-- A confirmed mismatch as the visit shows it. -/
def Blk.crcFound (b : Blk) (page : Nat) : Blk :=
  ((((b.raise (hCrcBad page)).raise (hIrqCrc page)).captureFree page causeCrc 8).logPage page causeCrc).report 0x05 page

theorem Blk.scanVisit_eq {b : Blk} {page : Nat} (on : b.powered page = true) (crc : b.flag (hCrcEn page) = true)
    (safe : b.powered Page.SAFE = true) :
    b.scanVisit page =
      if b.pageChecksum page = BitVec.ofNat 32 (b.get (hPageCrc page)) then ((b.scanNoted page).set (hCrcBad page) 0).scanKept page none
      else if (b.pageSt page).changed = false ∨ (b.pageSt page).mismatch = some (b.pageChecksum page) then
        ((b.scanNoted page).scanKept page (some (b.pageChecksum page))).crcFound page
      else (b.scanNoted page).scanKept page (some (b.pageChecksum page)) := by
  have crcOf : (b.scanNoted page).get (hPageCrc page) = b.get (hPageCrc page) :=
    (b.keepsRegs_scanNoted page).get (headerKey_ne_scan page (by decide))
  have st : (b.scanNoted page).pageSt page = b.pageSt page := (b.keepsBesideLog_scanNoted page).proj (·.pageSt page) (fun _ _ _ => rfl)
  unfold Blk.scanVisit
  rw [if_pos (by rw [on, crc, safe]; rfl)]
  extract_lets sum was last passes noted confirmed found kept shown
  have notedEq : noted = b.scanNoted page := rfl
  have sureIff : confirmed = true ↔ (b.pageSt page).changed = false ∨ (b.pageSt page).mismatch = some (b.pageChecksum page) := by
    simp [confirmed, was, sum]
  rw [notedEq, crcOf]
  simp only [beq_iff_eq, sureIff]
  split
  · have kept : ((b.scanNoted page).set (hCrcBad page) 0).pageSt page = b.pageSt page := st
    rw [Blk.scanKept, kept]
  · rfl

theorem Blk.scanKept_pageSt (b : Blk) (page : Nat) (m : Option Word) :
    (b.scanKept page m).pageSt page = { b.pageSt page with changed := false, mismatch := m } :=
  Tbl.get_put_same pageDflt b.pages page _

theorem headerKey_mem {page off : Nat} (hp : page < 256) (h : off < 0x040) (l : List Nat) : pageOf (regKey page off) ∈ page :: l := by
  rw [pageOf_regKey hp (by omega)]
  exact List.mem_cons_self

/-- Nothing of the memories moves where only registers, error logs and page notes do. -/
theorem Node.sameMemory_of_besideLog {n : Node} {b b' : Blk} (h : n.b.keepsBesideLog b) (k : b'.spm = b.spm ∧ b'.bulk = b.bulk ∧ b'.flash = b.flash) :
    n.sameMemory { n with b := b' } := by
  obtain ⟨spm, bulk, flash⟩ := k
  exact ⟨rfl, flash.trans (h.proj (·.flash) (fun _ _ _ => rfl)),
    (congrArg (·.bytes) bulk).trans (h.proj (·.bulk.bytes) (fun _ _ _ => rfl)),
    (congrArg (·.bytes) spm).trans (h.proj (·.spm.bytes) (fun _ _ _ => rfl))⟩

/-- The registers a confirmed mismatch shows in, all of its page. -/
theorem Blk.keepsOtherPages_crcFound (b : Blk) {page : Nat} (hp : page < 256) : b.keepsOtherPages (b.crcFound page) [page] := by
  have bad : b.keepsOtherPages (b.raise (hCrcBad page)) [page] := (b.keepsOtherPages_refl _).set (f := hCrcBad page) 1 (headerKey_mem hp (by decide) [])
  have raised := bad.set (f := hIrqCrc page) 1 (headerKey_mem hp (off := 0x018) (by decide) [])
  have captured := raised.trans (Blk.keepsOtherPages_captureFree _ causeCrc 8 hp)
  exact captured.trans ((Blk.keepsRegs_logPage _ page causeCrc).otherPages (by
    intro k hk
    rw [List.mem_singleton.mp hk, pageOf_regKey hp (by decide)]
    exact List.mem_singleton.mpr rfl))

theorem Blk.get_captureFree_hIrq (b : Blk) (page cause agent : Nat) {bit : Nat} (h : bit < 31) :
    (b.captureFree page cause agent).get (hIrq page bit) = b.get (hIrq page bit) :=
  Blk.get_capture_hIrq { b with fresh := b.fresh + 1 } page cause agent (b.free 12).1 h

/-- A confirmed mismatch as it shows. -/
theorem Blk.crcFound_shows (b : Blk) (page : Nat) :
    (b.crcFound page).flag (hCrcBad page) = true ∧ (b.crcFound page).flag (hIrqCrc page) = true ∧
    (b.crcFound page).get SAFE.SCAN_STATUS_LAST_PAGE = b.get SAFE.SCAN_STATUS_LAST_PAGE ∧
    (b.crcFound page).reports = b.reports ++ [⟨0x05, page, false, 0xFF⟩] ∧
    (b.crcFound page).pageSt page = b.pageSt page ∧ (b.crcFound page).spm = b.spm ∧ (b.crcFound page).bulk = b.bulk ∧
    (b.crcFound page).flash = b.flash := by
  have bad : (b.raise (hCrcBad page)).flag (hCrcBad page) = true := b.flag_raise_same _ (show 6 + 1 ≤ 32 by decide) (show 0 < 1 by decide)
  have irq : ((b.raise (hCrcBad page)).raise (hIrqCrc page)).flag (hIrqCrc page) = true :=
    Blk.flag_raise_same _ _ (show 28 + 1 ≤ 32 by decide) (show 0 < 1 by decide)
  have raised : b.keepsRegs ((b.raise (hCrcBad page)).raise (hIrqCrc page)) [regKey page 0x014, regKey page 0x018] :=
    Blk.keepsRegs.set (f := hIrqCrc page) ((b.keepsRegs_refl _).set (f := hCrcBad page) 1 List.mem_cons_self) 1
      (List.mem_cons_of_mem _ List.mem_cons_self)
  have badKept : ((b.raise (hCrcBad page)).raise (hIrqCrc page)).flag (hCrcBad page) = true := by
    have apart : (hIrqCrc page).apart (hCrcBad page) := .inl (by show page * 4096 + 0x018 ≠ page * 4096 + 0x014; omega)
    rw [Blk.raise, Blk.flag, Blk.get_set_apart _ (hIrqCrc page) (hCrcBad page) _ (show 6 + 1 ≤ 32 by decide) apart]
    exact bad
  have besideRaised : b.keepsBesideLog ((b.raise (hCrcBad page)).raise (hIrqCrc page)) :=
    (b.keepsBesideLog_set _ 1).trans (Blk.keepsBesideLog_set _ _ 1)
  unfold Blk.crcFound
  generalize (b.raise (hCrcBad page)).raise (hIrqCrc page) = x at irq raised badKept besideRaised
  have captured := x.keepsRegs_captureFree page causeCrc 8
  have irqKept : (x.captureFree page causeCrc 8).get (hIrqCrc page) = x.get (hIrqCrc page) :=
    x.get_captureFree_hIrq page causeCrc 8 (bit := 28) (by decide)
  have besideCaptured := besideRaised.trans (x.keepsBesideLog_captureFree page causeCrc 8)
  generalize x.captureFree page causeCrc 8 = y at captured irqKept besideCaptured
  have logged := y.keepsRegs_logPage page causeCrc
  have besideLogged := besideCaptured.trans (y.keepsBesideLog_logPage page causeCrc)
  generalize y.logPage page causeCrc = z at logged besideLogged
  have apart (f : Nat) (hf : f < 0x040) : regKey page f ∉ [regKey page 0x100] := by
    rw [List.mem_singleton]
    show page * 4096 + f ≠ page * 4096 + 0x100
    omega
  have scan {off : Nat} (h : off ≠ 0x0E8) (lt : off < 4096) : SAFE.SCAN_STATUS_LAST_PAGE.key ≠ regKey page off := by
    show 0x050E8 ≠ page * 4096 + off
    omega
  have reports : z.reports = b.reports := besideLogged.proj (·.reports) (fun _ _ _ => rfl)
  refine ⟨?_, ?_, ?_, ?_, ?_, ?_, ?_, ?_⟩
  · rw [Blk.report_flag, logged.flag (apart 0x014 (by decide)), captured.flag, badKept]
    simp only [captureKeys, List.mem_cons, List.not_mem_nil, or_false, hCrcBad, hdr, regKey]
    omega
  · rw [Blk.report_flag, logged.flag (apart 0x018 (by decide)), Blk.flag, irqKept]
    exact irq
  · rw [Blk.report_get, logged.get (by rw [List.mem_singleton]; exact scan (by decide) (by decide)), captured.get, raised.get]
    · simp only [List.mem_cons, List.not_mem_nil, or_false, not_or]
      exact ⟨scan (by decide) (by decide), scan (by decide) (by decide)⟩
    · simp only [captureKeys, List.mem_cons, List.not_mem_nil, or_false, not_or]
      exact ⟨scan (by decide) (by decide), scan (by decide) (by decide), scan (by decide) (by decide), scan (by decide) (by decide)⟩
  · rw [Blk.report_reports, reports]
  · exact besideLogged.proj (·.pageSt page) (fun _ _ _ => rfl)
  · exact besideLogged.proj (·.spm) (fun _ _ _ => rfl)
  · exact besideLogged.proj (·.bulk) (fun _ _ _ => rfl)
  · exact besideLogged.proj (·.flash) (fun _ _ _ => rfl)

/-- Settles O17, by what the visit finds (`scanVisit_eq`). -/
theorem scanVisitComparesThePageChecksum : Obligations.ScanVisitComparesThePageChecksum := by
  unfold Obligations.ScanVisitComparesThePageChecksum
  intro s page hp on crc safe sum same sure
  have lt : page < 256 := of_decide_eq_true hp
  have visit := Blk.scanVisit_eq on crc safe
  have named := s.blk.get_scanNoted lt
  have noted := s.blk.keepsRegs_scanNoted page
  have beside := s.blk.keepsBesideLog_scanNoted page
  generalize s.blk.scanNoted page = n at visit named noted beside
  have pages : s.blk.keepsOtherPages n [page, Page.SAFE] := noted.otherPages (by
    intro k hk
    rw [List.mem_singleton.mp hk]
    exact List.mem_cons_of_mem _ (by decide))
  have reports : n.reports = s.blk.reports := beside.proj (·.reports) (fun _ _ _ => rfl)
  by_cases eq : same
  · rw [if_pos eq] at visit
    refine completes_of_blk (f := fun b => b.scanVisit page) rfl hp visit
      ⟨?_, ?_, Node.sameMemory_of_besideLog beside ⟨rfl, rfl, rfl⟩, fun _ => ⟨?_, reports⟩, fun ne => absurd eq ne, fun ne => absurd eq ne, ?_⟩
    · exact (Blk.get_set_apart n (hCrcBad page) _ 0 (by unfold Fld.fits; decide)
        (.inl (by show page * 4096 + 0x014 ≠ 0x050E8; omega))).trans named
    · exact congrArg (·.changed) ((n.set (hCrcBad page) 0).scanKept_pageSt page none)
    · exact congrArg (· != 0) (n.get_set_same (hCrcBad page) 0 (show 6 + 1 ≤ 32 by decide))
    · exact pages.set (f := hCrcBad page) 0 (headerKey_mem lt (by decide) _)
  · rw [if_neg eq] at visit
    have kept := n.scanKept_pageSt page (some sum)
    by_cases conf : sure
    · rw [if_pos conf] at visit
      have others := (n.scanKept page (some sum)).keepsOtherPages_crcFound lt
      obtain ⟨bad, irq, last, reported, st, spm, bulk, flash⟩ := (n.scanKept page (some sum)).crcFound_shows page
      refine completes_of_blk (f := fun b => b.scanVisit page) rfl hp visit
        ⟨last.trans named, congrArg (·.changed) (st.trans kept), Node.sameMemory_of_besideLog beside ⟨spm, bulk, flash⟩,
          fun is => absurd is eq, fun _ _ => ⟨bad, irq, reported.trans (congrArg (· ++ _) reports)⟩, fun _ un => absurd conf un, ?_⟩
      exact pages.trans fun k hk => others k (fun h => hk (List.mem_cons.mpr (.inl (List.mem_singleton.mp h))))
    · rw [if_neg conf] at visit
      refine completes_of_blk (f := fun b => b.scanVisit page) rfl hp visit
        ⟨named, congrArg (·.changed) kept, Node.sameMemory_of_besideLog beside ⟨rfl, rfl, rfl⟩, fun is => absurd is eq,
          fun _ is => absurd is conf, fun _ _ => ⟨?_, reports, congrArg (·.mismatch) kept⟩, pages⟩
      exact noted.get (f := hCrcBad page) (headerKey_ne_scan page (by decide))

end Sys2Proof.Machine
end

section
/-! PROOFS. Register accesses and shadow copies (spec/03 R54 to R68, R75): the fault of an access, plain stores, copies as written, held,
released and discarded. -/

namespace Sys2Proof.Machine

/-! ### The fault of an access -/

theorem Blk.powered_assigned {b : Blk} {page : Nat} (on : b.powered page = true) : (domainOf page).isNone = false := by
  unfold Blk.powered at on
  split at on
  · next d h => rw [h]; rfl
  · exact Bool.noConfusion on

/-- The fault of a write to a page that is ON, by the first check it fails. -/
theorem Blk.accessCause_on {b : Blk} {a : Agent} {page : Nat} (off : Nat) (word : Bool) (v : Nat) (on : b.powered page = true) :
    b.accessCause a page off word true v =
      if word = false ∨ off % 4 ≠ 0 then causeWidth
      else if b.classAllows a page off true = false then causePriv
      else if b.lockAllows a page off v = false then causeLocked
      else if 0x040 ≤ off ∧ b.flag (hResetting page) = true then causeBusy else 0 := by
  simp [Blk.accessCause, Blk.powered_assigned on, on, Bool.or_eq_true]

theorem Blk.accessCause_unassigned {b : Blk} (a : Agent) {page : Nat} (off : Nat) (word : Bool) (v : Nat) (none : domainOf page = none) :
    b.accessCause a page off word true v = causeUnmapped := by
  simp [Blk.accessCause, none]

theorem Blk.accessCause_off {b : Blk} (a : Agent) {page : Nat} (off : Nat) (word : Bool) (v : Nat) (some : (domainOf page).isSome = true)
    (dark : b.powered page = false) : b.accessCause a page off word true v = causePower := by
  have assigned : (domainOf page).isNone = false := by rw [← Option.not_isSome, some]; rfl
  simp [Blk.accessCause, assigned, dark]

/-- A fault at a page that is off or unassigned is recorded in SYS, where that is ON. -/
theorem Blk.accessFault_elsewhere (b : Blk) (a : Agent) (page off : Nat) {cause : Nat} (h : cause = causeUnmapped ∨ cause = causePower) :
    b.keepsOtherPages (b.accessFault a page off cause) [Page.SYS] ∧
    (b.powered Page.SYS = false → b.accessFault a page off cause = b) := by
  have taken : (cause == causeUnmapped || cause == causePower) = true := by simpa using h
  unfold Blk.accessFault
  rw [if_pos taken]
  refine ⟨?_, fun dark => if_neg (by rw [dark]; decide)⟩
  have put {x : Blk} (f : Fld) (v : Nat) (hx : b.keepsOtherPages x [Page.SYS]) (hf : pageOf f.key ∈ [Page.SYS]) :
      b.keepsOtherPages (x.set f v) [Page.SYS] := hx.set v hf
  split
  · extract_lets counted c named
    have hc : b.keepsOtherPages counted [Page.SYS] :=
      put (hIrqErr Page.SYS) 1 (put (hErrCount Page.SYS) _ (b.keepsOtherPages_refl _) (by decide)) (by decide)
    split
    · exact hc
    · have hn : b.keepsOtherPages named [Page.SYS] :=
        put SYS.XCAP0_PAGE _ (put SYS.XCAP0_AGENT _ (put SYS.XCAP0_CAUSE _ hc (by decide)) (by decide)) (by decide)
      exact put SYS.XCAP1_F _ (put SYS.XCAP1_L _ (put SYS.XCAP0_OFFSET _ hn (by decide)) (by decide)) (by decide)
  · exact b.keepsOtherPages_refl _

/-! ### Granted writes -/

/-- A granted write that acts at its page: what the wide rules make of it, then the answer. -/
theorem Node.writeReg_word (n : Node) (a : Agent) (page off : Nat) (v : Word) (hg : n.b.granted a page off v) (hn : nodeWrite page off = false)
    (hd : n.b.dbgOff page off = false) (hw : (page == Page.SPM && off == 0x04C) = false) (hf : lifeGate page off v = false) :
    n.writeReg a page off true v = n.on (fun b => (b.writeWord a page off v).answered a page off) := by
  unfold Blk.granted at hg
  simp [Node.writeReg, Node.accessWrite, hn, Blk.accessWrite, hg, hd, hw, hf, Node.on, Blk.answered]

theorem lifeGate_of_page {page : Nat} (off : Nat) (v : Word) (fuse : page ≠ Page.FUSE) (life : page ≠ Page.LIFE) : lifeGate page off v = false := by
  rw [lifeGate, beq_false_of_ne fuse, beq_false_of_ne life, Bool.false_and, Bool.false_or, Bool.or_false, Bool.false_and, Bool.false_and]

theorem Blk.dbgOff_of_page (b : Blk) {page : Nat} (off : Nat) (h : page = Page.SPM → off ≠ 0x04C ∧ off ≠ 0x050) : b.dbgOff page off = false := by
  by_cases spm : page = Page.SPM
  · obtain ⟨data, tag⟩ := h spm
    rw [Blk.dbgOff, beq_false_of_ne data, beq_false_of_ne tag, Bool.or_false, Bool.and_false, Bool.false_and]
  · rw [Blk.dbgOff, beq_false_of_ne spm, Bool.false_and, Bool.false_and]

theorem dbgData_of_page {page off : Nat} (h : page = Page.SPM → off ≠ 0x04C ∧ off ≠ 0x050) : (page == Page.SPM && off == 0x04C) = false := by
  by_cases spm : page = Page.SPM
  · rw [beq_false_of_ne (h spm).1, Bool.and_false]
  · rw [beq_false_of_ne spm, Bool.false_and]

/-! ### Plain registers -/

/-- A register of these pages whose write is a store and nothing else. -/
def plainStore (page off : Nat) : Bool :=
  0x040 ≤ off && (page == Page.SEN || page == Page.CROUTE || page == Page.ISPSTAT || (page == Page.ISP && off != 0x048) ||
    (page == Page.SEARCH && off != 0x048 && off != 0x04C && off != 0x080 && off != 0x108 && off != 0x128) ||
    (page == Page.SCHED && (off == 0x040 || (0x0A0 ≤ off && off < 0x0AC))))

theorem Blk.writeSched_plain (b : Blk) (a : Agent) {off : Nat} (v : Word) (h : off = 0x040 ∨ 0x0A0 ≤ off ∧ off < 0x0AC) :
    b.writeSched a off v = b.storeKey (regKey Page.SCHED off) v := by
  have entry : ¬((decide (0x054 ≤ off) && decide (off < 0x064)) = true) := by simp; omega
  have health : (off == 0x0C0 || off == 0x0DC) = false := by simp; omega
  unfold Blk.writeSched
  simp only [beq_iff_eq]
  rw [if_neg entry, if_neg (by omega), if_neg (by omega), if_neg (by omega), health]
  rfl

theorem Blk.writeBlock_plain (b : Blk) (a : Agent) {page off : Nat} (v : Word) (h : plainStore page off = true) :
    b.writeBlock a page off v = b.storeKey (regKey page off) v := by
  simp only [plainStore, Bool.and_eq_true, Bool.or_eq_true, decide_eq_true_eq, beq_iff_eq, bne_iff_ne] at h
  obtain ⟨body, place⟩ := h
  have head : ¬off < 0x040 := by omega
  unfold Blk.writeBlock
  extract_lets n plain
  have direct {p : Nat} (hx : p ≠ Page.XQP) (hc : p ≠ Page.CLIENT) : b.reachKey p off = regKey p off := by
    unfold Blk.reachKey
    rw [beq_false_of_ne hx, beq_false_of_ne hc]
    rfl
  obtain ((((rfl | rfl) | rfl) | ⟨rfl, table⟩) | ⟨⟨⟨⟨⟨rfl, lo⟩, hi⟩, tail⟩, slot0⟩, slot1⟩) | ⟨rfl, run⟩ := place
  · exact (if_neg head).trans (congrArg (fun k => b.storeKey k v) (direct (by decide) (by decide)))
  · exact (if_neg head).trans (congrArg (fun k => b.storeKey k v) (direct (by decide) (by decide)))
  · exact (if_neg head).trans (congrArg (fun k => b.storeKey k v) (direct (by decide) (by decide)))
  · have other : (off == 0x048) = false := beq_false_of_ne table
    have step : (if (Page.ISP == Page.ISP && off == 0x048) = true then b.writeTable a v else plain b) = plain b := if_neg (by rw [other]; decide)
    exact (if_neg head).trans (step.trans (congrArg (fun k => b.storeKey k v) (direct (by decide) (by decide))))
  · have coord : isShlCoord Page.SEARCH off = false := by simp [isShlCoord, lo, hi, Page.SEARCH, Page.EPOCH, Page.SCHED]
    have step : (if (off == 0x080) = true then b.queryPost (n % 64)
        else if (off == 0x108 || off == 0x128) = true then b.writeSlotCtrl ((off - 0x108) / 0x20) a n else plain b) = plain b := by
      rw [beq_false_of_ne tail, beq_false_of_ne slot0, beq_false_of_ne slot1]
      rfl
    rw [if_neg head, if_neg (by rw [coord, Bool.and_false]; decide)]
    exact step.trans (congrArg (fun k => b.storeKey k v) (direct (by decide) (by decide)))
  · have coord : isShlCoord Page.SCHED off = false := by
      have ne : off ≠ 0x044 ∧ off ≠ 0x048 := by omega
      simp [isShlCoord, ne, Page.SEARCH, Page.EPOCH, Page.SCHED]
    rw [if_neg head, if_neg (by rw [coord, Bool.and_false]; decide)]
    exact b.writeSched_plain a v (by omega)

theorem page_off_lt_of_wf {a : Agent} {page off : Nat} (wf : (agentOk a && regOk page off) = true) : page < 256 ∧ off < 4096 := by
  simp only [Bool.and_eq_true, regOk, decide_eq_true_eq] at wf
  obtain ⟨-, hp, ho⟩ := wf
  exact ⟨hp, ho⟩

/-- Pages of plain registers act at their page. -/
theorem plainStore_page {page off : Nat} (h : plainStore page off = true) :
    page ≠ Page.SPM ∧ page ≠ Page.PWR ∧ page ≠ Page.FUSE ∧ page ≠ Page.LIFE := by
  simp only [plainStore, Bool.and_eq_true, Bool.or_eq_true, decide_eq_true_eq, beq_iff_eq, bne_iff_ne] at h
  obtain ⟨-, ((((rfl | rfl) | rfl) | ⟨rfl, -⟩) | ⟨⟨⟨⟨⟨rfl, -⟩, -⟩, -⟩, -⟩, -⟩) | ⟨rfl, -⟩⟩ := h <;> decide

/-- A granted write of a plain register that is no half of a wide one: the store, then the answer. -/
theorem Node.writeReg_plain (n : Node) (a : Agent) {page off : Nat} (v : Word) (plain : plainStore page off = true)
    (low : isWideLow page off = false) (high : isWideHigh page off = false) (hg : n.b.granted a page off v) :
    n.writeReg a page off true v = { n with b := (n.b.storeKey (regKey page off) v).answered a page off } := by
  obtain ⟨spm, pwr, fuse, life⟩ := plainStore_page plain
  have node : nodeWrite page off = false := by
    rw [nodeWrite, beq_false_of_ne pwr, beq_false_of_ne fuse, Bool.false_and, Bool.false_and, Bool.or_false]
  rw [n.writeReg_granted a page off v hg node (n.b.dbgOff_of_page off (fun h => absurd h spm)) (dbgData_of_page (fun h => absurd h spm)) low high
    (lifeGate_of_page off v fuse life), Blk.writeBlock_plain _ _ _ plain]

/-- Settles O11: a refused write by the first check it fails (`accessCause_on`), a granted one by its register. -/
theorem registerWritesFaultOrTakeEffect : Obligations.RegisterWritesFaultOrTakeEffect := by
  unfold Obligations.RegisterWritesFaultOrTakeEffect
  refine ⟨?_, fun s a page v wf hg => ?_, fun s a page off v wf hg fuse life node spm => ?_,
    fun s a page off v r wf hg pages body low high row direct => ?_⟩
  · intro s a page off word v wf cause fault
    refine ⟨?_, fun none => ?_, fun some dark => ?_, fun on width => ?_, fun on aligned four class_ => ?_, fun on aligned four allowed lock => ?_,
      fun on aligned four allowed unlocked => ?_, s.blk.accessFault_elsewhere a page off⟩
    · exact exec_next (f := fun n => n.writeReg a page off word v) rfl wf (s.node.writeReg_refused a page off word v fault)
    · exact Blk.accessCause_unassigned a off word _ none
    · exact Blk.accessCause_off a off word _ some dark
    · exact (Blk.accessCause_on off word _ on).trans (if_pos width)
    · refine (Blk.accessCause_on off word _ on).trans ?_
      rw [if_neg (by simp [aligned, four]), if_pos class_]
    · refine (Blk.accessCause_on off word _ on).trans ?_
      rw [if_neg (by simp [aligned, four]), if_neg (by simp [allowed]), if_pos lock]
    · have eq := Blk.accessCause_on (a := a) off word v.toNat on
      rw [if_neg (by simp [aligned, four]), if_neg (by simp [allowed]), if_neg (by simp [unlocked])] at eq
      by_cases busy : 0x040 ≤ off ∧ s.blk.flag (hResetting page) = true
      · exact eq.trans (if_pos busy)
      · exact absurd (eq.trans (if_neg busy)) fault
  · have lt := page_lt_of_wf wf
    have written := s.node.writeReg_header a page v (off := 0x038) (by decide) hg (.inl (by decide))
    have regs : (agentOk a && regOk page 0x038) = true := by
      simp only [Bool.and_eq_true, pageOk, regOk, decide_eq_true_eq] at wf ⊢
      exact ⟨wf.1, wf.2, by decide⟩
    exact exec_next (f := fun n => n.writeReg a page 0x038 true v) rfl regs
      (written.trans (congrArg (fun b => { s.node with b := b.answered a page 0x038 }) (s.blk.storeKey_scratch lt v)))
  · exact exec_next (f := fun n => n.writeReg a page off true v) rfl wf (s.node.writeReg_word a page off v hg node (s.blk.dbgOff_of_page off spm)
      (dbgData_of_page spm) (lifeGate_of_page off v fuse life))
  · obtain ⟨hp, ho⟩ := page_off_lt_of_wf wf
    have plain : plainStore page off = true := by
      obtain rfl | rfl | rfl := pages <;> simp [plainStore, body]
    have stored := s.blk.storeKey_direct (k := regKey page off) v (by rw [pageOf_regKey hp ho, offOf_regKey page ho]; exact row) direct
    have written := s.node.writeReg_plain a v plain low high hg
    have noted : s.blk.keepsBehind (if r.inCrc then s.blk.markChanged (pageOf (regKey page off)) else s.blk) :=
      Blk.keepsBehind_ite (s.blk.keepsBehind_markChanged _) s.blk.keepsBehind_refl
    have regs : s.blk.keepsRegs (if r.inCrc then s.blk.markChanged (pageOf (regKey page off)) else s.blk) [regKey page off] := by
      split <;> exact fun _ _ => rfl
    generalize (if r.inCrc then s.blk.markChanged (pageOf (regKey page off)) else s.blk) = m at stored noted regs
    refine completes_of_node (f := fun n => n.writeReg a page off true v)
      (b := (m.setWord (regKey page off) (maskedWrite r (s.blk.word (regKey page off)) v)).answered a page off) rfl wf
      (written.trans (congrArg (fun b => { s.node with b := b.answered a page off }) stored))
      ⟨Blk.word_setWord_same _ _ _, regs.trans (m.keepsRegs_setWord _ _), ?_⟩
    exact Node.sameMemory_of_keepsBehind ((noted.setWord _ _).trans (Blk.keepsBehind_answered _ a page off))

/-! ### Copies as written -/

theorem RegRow.mem_offsets {r : RegRow} {off : Nat} (h : r.covers off = true) : off ∈ r.offsets := by
  unfold RegRow.covers at h
  rw [RegRow.offsets, List.mem_map]
  split at h
  · next one =>
    simp only [beq_iff_eq] at one h
    exact ⟨0, by rw [one]; decide, by omega⟩
  · simp only [Bool.and_eq_true, decide_eq_true_eq, beq_iff_eq] at h
    obtain ⟨⟨above, aligned⟩, index⟩ := h
    refine ⟨_, List.mem_range.mpr index, ?_⟩
    have := Nat.div_mul_cancel (Nat.dvd_of_mod_eq_zero aligned)
    omega

theorem regRow_mem {page off : Nat} {r : RegRow} (h : regRow page off = some r) : r ∈ pageRows page ++ headerRows ∧ off ∈ r.offsets := by
  unfold regRow at h
  rw [List.mem_append]
  split at h
  · next r' found =>
    obtain rfl := Option.some.inj h
    exact ⟨.inl (List.mem_of_find?_eq_some found), RegRow.mem_offsets (by simpa using List.find?_some found)⟩
  · exact ⟨.inr (List.mem_of_find?_eq_some h), RegRow.mem_offsets (by simpa using List.find?_some h)⟩

/-- Registers that take a copy, FRAME_MODE apart, are plain ones of one word (spec/03 R64). -/
theorem shadowed_plain :
    ∀ page < 256, page ≠ Page.EPOCH → ∀ r ∈ pageRows page ++ headerRows, r.shadow ≠ .none → ∀ off ∈ r.offsets,
      plainStore page off = true ∧ isWideLow page off = false ∧ isWideHigh page off = false := by
  decide +kernel

/-- A register's own pending copy replaced. -/
def Blk.putCopy (b : Blk) (k : Nat) (c : Option Shadow) : Blk := { b with shadow := Tbl.put noShadow b.shadow k c }

theorem Blk.copyOf_putCopy_same (b : Blk) (k : Nat) (c : Option Shadow) : (b.putCopy k c).copyOf k = c := Tbl.get_put_same noShadow b.shadow k c

theorem Blk.copyOf_putCopy_ne (b : Blk) {k j : Nat} (c : Option Shadow) (h : j ≠ k) : (b.putCopy k c).copyOf j = b.copyOf j :=
  Tbl.get_put_ne noShadow b.shadow c h

/-- A write of a register that takes a copy. -/
theorem Blk.storeKey_copy (b : Blk) {k : Nat} {r : RegRow} (v : Word) (row : regRow (pageOf k) (offOf k) = some r) (copies : r.shadow ≠ .none) :
    b.storeKey k v =
      (if r.inCrc then b.markChanged (pageOf k) else b).putCopy k (some ⟨v &&& BitVec.ofNat 32 r.rw, false, b.ep.line⟩) := by
  have line : (if r.inCrc then b.markChanged (pageOf k) else b).ep = b.ep := by split <;> rfl
  have other : (r.shadow == .none) = false := by simpa using copies
  unfold Blk.storeKey
  rw [row, Blk.putCopy, ← line]
  dsimp only
  rw [other]
  rfl

theorem isCopied_iff {k : Nat} {r : RegRow} (row : regRow (pageOf k) (offOf k) = some r) :
    (isShf k || isShl k) = true → r.shadow ≠ .none := by
  rw [isShf, isShl, row]
  dsimp only
  cases r.shadow <;> decide

/-! ### HOLD, LATE and DISCARD -/

/-- SHADOW_CTRL's RW bit on every page: HOLD (spec/03 R68). -/
theorem regRow_shadowCtrl : ∀ page < 256, (regRow page 0x034).map (fun r => r.rw) = some 1 := by decide +kernel

theorem Blk.rwWord_shadowCtrl (b : Blk) {page : Nat} (hp : page < 256) : b.rwWord page 0x034 = (b.word (regKey page 0x034) &&& 1).toNat := by
  have row := regRow_shadowCtrl page hp
  rw [Option.map_eq_some_iff] at row
  obtain ⟨r, row, rw'⟩ := row
  unfold Blk.rwWord
  rw [row, b.reachKey_header page (by decide)]
  dsimp only
  rw [rw']
  rfl

/-- The word of a command that sets one bit of SHADOW_CTRL carries HOLD as it stands, and no other bit. -/
theorem Blk.shadowWord_bits (b : Blk) {page lo i : Nat} (hp : page < 256) (v : Nat) (hi : i < 32) (ne : i ≠ lo) :
    bitAt (b.fieldWord page 0x034 lo 1 v).toNat i = (bitAt (b.word (regKey page 0x034)).toNat i && bitAt 1 i) := by
  rw [Blk.fieldWord, bitAt_ofNat_putBits_ne _ _ hi (by omega), b.rwWord_shadowCtrl hp, bitAt_and_toNat]
  rfl

theorem Blk.writeShadowCtrl_hold (b : Blk) (page : Nat) {v : Nat} (hold : bitAt v 0 = true) (drop : bitAt v 1 = false) (late : bitAt v 2 = false) :
    b.writeShadowCtrl page v = b.set (hHold page) 1 := by
  unfold Blk.writeShadowCtrl
  rw [hold, drop, late, bitsAt_one, hold, Bool.not_true, Bool.and_false]
  rfl

theorem Blk.writeShadowCtrl_release (b : Blk) (page : Nat) {v : Nat} (hold : bitAt v 0 = false) (drop : bitAt v 1 = false)
    (late : bitAt v 2 = false) :
    b.writeShadowCtrl page v = (if b.flag (hHold page) then b.releaseHold page else b).set (hHold page) 0 := by
  unfold Blk.writeShadowCtrl
  rw [hold, drop, late, bitsAt_one, hold, Bool.not_false, Bool.and_true]
  rfl

theorem Blk.writeShadowCtrl_discard (b : Blk) (page : Nat) {v : Nat} (hold : bitAt v 0 = b.flag (hHold page)) (drop : bitAt v 1 = true)
    (late : bitAt v 2 = false) :
    b.writeShadowCtrl page v = (b.set (hHold page) (bitNat (b.flag (hHold page)))).discard page := by
  unfold Blk.writeShadowCtrl
  rw [hold, drop, late, bitsAt_one, hold, Bool.and_not_self]
  rfl

/-- A copy whose application point moves to the next line period. -/
def Blk.touchCopy (b : Blk) (k : Nat) : Blk :=
  match b.copyOf k with
  | some s => b.putCopy k (some { s with since := b.ep.line })
  | none => b

theorem Blk.touchShl_eq (b : Blk) (page : Nat) :
    b.touchShl page = b.each (b.pendingKeys.filter (fun k => pageOf k == page && isShl k)) Blk.touchCopy := rfl

theorem Blk.touchCopy_ep (b : Blk) (k : Nat) : (b.touchCopy k).ep = b.ep := by
  unfold Blk.touchCopy
  split <;> rfl

theorem Blk.touchCopy_regs (b : Blk) (k : Nat) : (b.touchCopy k).regs = b.regs := by
  unfold Blk.touchCopy
  split <;> rfl

theorem Blk.copyOf_touchCopy (b : Blk) (k j : Nat) :
    (b.touchCopy k).copyOf j = if j = k then (b.copyOf j).map (fun c => { c with since := b.ep.line }) else b.copyOf j := by
  unfold Blk.touchCopy
  by_cases same : j = k
  · subst same
    rw [if_pos rfl]
    split
    · next s h => rw [Blk.copyOf_putCopy_same, h]; rfl
    · next h => rw [h]; rfl
  · rw [if_neg same]
    split
    · exact Blk.copyOf_putCopy_ne _ _ same
    · rfl

/-- The copies of the listed keys move, the others stand. -/
theorem Blk.copyOf_each_touchCopy (l : List Nat) (b : Blk) (j : Nat) :
    (b.each l Blk.touchCopy).copyOf j = if j ∈ l then (b.copyOf j).map (fun c => { c with since := b.ep.line }) else b.copyOf j := by
  induction l generalizing b with
  | nil => rfl
  | cons k l ih =>
    rw [Blk.each_cons, ih, Blk.touchCopy_ep, Blk.copyOf_touchCopy]
    by_cases same : j = k
    · rw [if_pos same, if_pos (List.mem_cons.mpr (.inl same))]
      split
      · cases b.copyOf j <;> rfl
      · rfl
    · rw [if_neg same]
      simp only [List.mem_cons, same, false_or]

theorem Blk.each_touchCopy_regs (l : List Nat) (b : Blk) : (b.each l Blk.touchCopy).regs = b.regs := by
  induction l generalizing b with
  | nil => rfl
  | cons k l ih => rw [Blk.each_cons, ih, Blk.touchCopy_regs]

theorem Blk.word_releaseHold (b : Blk) (page k : Nat) : (b.releaseHold page).word k = b.word k := by
  have touched : (b.touchShl page).regs = b.regs := by rw [Blk.touchShl_eq, Blk.each_touchCopy_regs]
  unfold Blk.releaseHold
  cases page == Page.EPOCH <;> exact congrArg (fun r => Tbl.get regReset r k) touched

theorem Blk.copyOf_releaseHold (b : Blk) (page k : Nat) :
    (b.releaseHold page).copyOf k = (b.copyOf k).map (fun c => if pageOf k = page ∧ isShl k = true then { c with since := b.ep.line } else c) := by
  have touched : (b.releaseHold page).copyOf k = (b.touchShl page).copyOf k := by
    unfold Blk.releaseHold
    cases page == Page.EPOCH <;> rfl
  rw [touched, Blk.touchShl_eq, Blk.copyOf_each_touchCopy]
  cases copy : b.copyOf k with
  | none => split <;> rfl
  | some c =>
    have pending := Blk.mem_pendingKeys copy
    by_cases here : pageOf k = page ∧ isShl k = true
    · rw [if_pos (List.mem_filter.mpr ⟨pending, by simpa using here⟩), Option.map_some, Option.map_some, if_pos here]
    · rw [if_neg (fun mem => here (by simpa using (List.mem_filter.mp mem).2)), Option.map_some, if_neg here]

theorem Tbl.get_clear {α : Type} (d : Nat → α) (t : Tbl α) (p : Nat → Bool) (k : Nat) :
    Tbl.get d (Tbl.clear t p) k = if p k then d k else Tbl.get d t k := by
  induction t with
  | nil => exact (ite_self _).symm
  | cons e rest ih =>
    obtain ⟨j, v⟩ := e
    rw [Tbl.clear] at ih ⊢
    by_cases gone : p j = true
    · rw [List.filter_cons_of_neg (by simpa using gone), ih]
      by_cases same : j = k
      · rw [if_pos (same ▸ gone), if_pos (same ▸ gone)]
      · simp [Tbl.get, same]
    · rw [List.filter_cons_of_pos (by simpa using gone)]
      by_cases same : j = k
      · rw [if_neg (same ▸ gone)]
        simp [Tbl.get, same]
      · simp [Tbl.get, same, ih]

theorem Blk.copyOf_discard (b : Blk) (page k : Nat) : (b.discard page).copyOf k = if pageOf k = page then none else b.copyOf k := by
  have cleared : (b.discard page).copyOf k = Tbl.get noShadow (Tbl.clear b.shadow (fun k => pageOf k == page)) k := by
    unfold Blk.discard
    extract_lets dropped
    split <;> rfl
  rw [cleared, Tbl.get_clear]
  simp only [beq_iff_eq]
  rfl

theorem Blk.discard_regs (b : Blk) (page : Nat) : (b.discard page).regs = b.regs := by
  unfold Blk.discard
  extract_lets dropped
  split <;> rfl

theorem Blk.discard_line (b : Blk) (page : Nat) : (b.discard page).ep.line = b.ep.line := by
  unfold Blk.discard
  extract_lets dropped
  split <;> rfl

theorem Blk.discard_pendMode {b : Blk} (own : b.ep.pendOwn = true) : (b.discard Page.EPOCH).ep.pendMode = none := by
  unfold Blk.discard
  extract_lets dropped
  rw [if_pos (by simpa using own)]

theorem Node.sameMemory_discard (n : Node) (page v : Nat) (a : Agent) :
    n.sameMemory { n with b := ((n.b.set (hHold page) v).discard page).answered a page 0x034 } := by
  unfold Blk.discard
  extract_lets dropped
  split <;> exact ⟨rfl, rfl, rfl, rfl⟩

theorem Blk.get_of_regs_eq {b b' : Blk} (h : b'.regs = b.regs) (f : Fld) : b'.get f = b.get f :=
  Blk.get_of_word_eq (congrArg (fun r => Tbl.get regReset r f.key) h)

/-- A write of MODE_AT_F stores it and moves this node's pending change. -/
theorem Blk.writeModeAtF_shows (b : Blk) (v : Word) :
    (b.writeModeAtF v.toNat).get EPOCH.MODE_AT_F = v.toNat ∧
    (b.writeModeAtF v.toNat).ep.pendMode = (match b.ep.pendMode, b.ep.pendOwn with
      | some (m, _), true => some (m, v)
      | p, _ => p) ∧
    b.keepsRegs (b.writeModeAtF v.toNat) [EPOCH.MODE_AT_F.key] ∧ b.keepsBesideEp (b.writeModeAtF v.toNat) := by
  have same : (b.set EPOCH.MODE_AT_F v.toNat).get EPOCH.MODE_AT_F = v.toNat :=
    (b.get_set_same EPOCH.MODE_AT_F v.toNat (by unfold Fld.fits; decide)).trans (Nat.mod_eq_of_lt v.isLt)
  have regs : b.keepsRegs (b.set EPOCH.MODE_AT_F v.toNat) [EPOCH.MODE_AT_F.key] :=
    (b.keepsRegs_refl _).set (f := EPOCH.MODE_AT_F) _ (by decide)
  have behind : b.keepsBehind ((b.set EPOCH.MODE_AT_F v.toNat).markChanged Page.EPOCH) := (b.keepsBehind_set _ _).markChanged _
  have target : BitVec.ofNat 32 v.toNat = v := by simp
  unfold Blk.writeModeAtF
  extract_lets stored ep
  have storedEp : stored.ep = b.ep := behind.proj (·.ep) (fun _ _ _ _ _ => rfl)
  rw [storedEp, target]
  cases mode : b.ep.pendMode with
  | none => cases b.ep.pendOwn <;> exact ⟨same, (congrArg (·.pendMode) storedEp).trans mode, regs, behind.besideEp⟩
  | some change =>
    cases b.ep.pendOwn
    · exact ⟨same, (congrArg (·.pendMode) storedEp).trans mode, regs, behind.besideEp⟩
    · exact ⟨same, rfl, regs, behind.besideEp.trans (Blk.keepsBesideEp_ep _ _)⟩

theorem act_congr {s : State} {i j : Instr} {f g : Node → Node} (wf : i.wf = j.wf) (effect : f s.node = g s.node) : s.act i f = s.act j g := by
  rw [State.act, State.act, wf, effect]

/-- Settles O12: a copy by `storeKey_copy`, a release by `copyOf_releaseHold`, a discard by `copyOf_discard`. -/
theorem shadowCopiesAsWrittenHeldAndDiscarded : Obligations.ShadowCopiesAsWrittenHeldAndDiscarded := by
  unfold Obligations.ShadowCopiesAsWrittenHeldAndDiscarded
  refine ⟨fun s a page off v r wf copied epoch row hg => ?_, fun s a v => ?_, fun s a page off v coord => ?_, fun s a v wf hg => ?_,
    fun s a page wf => ⟨fun hg => ?_, fun hg => ⟨?_, fun k => ⟨s.blk.word_releaseHold page k, s.blk.copyOf_releaseHold page k⟩⟩, fun hg => ?_⟩⟩
  · obtain ⟨hp, ho⟩ := page_off_lt_of_wf wf
    have keyRow : regRow (pageOf (regKey page off)) (offOf (regKey page off)) = some r := by
      rw [pageOf_regKey hp ho, offOf_regKey page ho]
      exact row
    have copies := isCopied_iff keyRow copied
    obtain ⟨mem, place⟩ := regRow_mem row
    obtain ⟨plain, low, high⟩ := shadowed_plain page hp epoch r mem copies off place
    have written := s.node.writeReg_plain a v plain low high hg
    have stored := s.blk.storeKey_copy v keyRow copies
    have noted : s.blk.keepsBehind (if r.inCrc then s.blk.markChanged (pageOf (regKey page off)) else s.blk) :=
      Blk.keepsBehind_ite (s.blk.keepsBehind_markChanged _) s.blk.keepsBehind_refl
    have regs : (if r.inCrc then s.blk.markChanged (pageOf (regKey page off)) else s.blk).regs = s.blk.regs := by split <;> rfl
    generalize (if r.inCrc then s.blk.markChanged (pageOf (regKey page off)) else s.blk) = m at stored noted regs
    have copyOf (k : Nat) : m.copyOf k = s.blk.copyOf k := noted.proj (·.copyOf k) (fun _ _ _ _ _ => rfl)
    have own := m.copyOf_putCopy_same (regKey page off) (some ⟨v &&& BitVec.ofNat 32 r.rw, false, s.blk.ep.line⟩)
    have others (k : Nat) (hk : k ≠ regKey page off) :=
      m.copyOf_putCopy_ne (some ⟨v &&& BitVec.ofNat 32 r.rw, false, s.blk.ep.line⟩) hk
    refine completes_of_node (f := fun n => if isShf (regKey page off) || isShl (regKey page off) then n.writeReg a page off true v else n)
      (b := (m.putCopy (regKey page off) (some ⟨v &&& BitVec.ofNat 32 r.rw, false, s.blk.ep.line⟩)).answered a page off) rfl wf
      ((if_pos copied).trans (written.trans (congrArg (fun b => { s.node with b := b.answered a page off }) stored)))
      ⟨own, fun k hk => (others k hk).trans (copyOf k), regs,
        noted.proj (·.ep) (fun _ _ _ _ _ => rfl), rfl, noted.proj (·.flash) (fun _ _ _ _ _ => rfl),
        noted.proj (·.bulk.bytes) (fun _ _ _ _ _ => rfl), noted.proj (·.spm.bytes) (fun _ _ _ _ _ => rfl)⟩
  · have same : (agentOk a && regOk Page.EPOCH 0x050) = agentOk a := Bool.and_true _
    exact act_congr (i := .shadowWrite a Page.EPOCH 0x050 v) (j := .frameModeWrite a v) same rfl
  · exact act_congr (i := .shlCoordWrite a page off v) (j := .registerWrite a page off true v)
      (f := fun n => if isShlCoord page off then n.writeReg a page off true v else n) (g := fun n => n.writeReg a page off true v)
      rfl (if_pos coord)
  · have written := s.node.writeReg_granted a Page.EPOCH 0x054 v hg rfl rfl rfl (by decide) (by decide) rfl
    have regs : (agentOk a && regOk Page.EPOCH 0x054) = true := (Bool.and_true _).trans wf
    refine completes_of_node (f := fun n => if isShlCoord Page.EPOCH 0x054 then n.writeReg a Page.EPOCH 0x054 true v else n) rfl regs
      ((if_pos rfl).trans written) ?_
    obtain ⟨own, moved, kept, beside⟩ := s.blk.writeModeAtF_shows v
    exact ⟨own, moved, kept, Node.sameMemory_of_keepsBesideEp (beside.behind (Blk.keepsBehind_answered _ a Page.EPOCH 0x054))⟩
  · have hp := page_lt_of_wf wf
    have hold : bitAt (s.blk.fieldWord page 0x034 0 1 1).toNat 0 = true := s.blk.bitAt_fieldWord page 0x034 true (by decide)
    have drop : bitAt (s.blk.fieldWord page 0x034 0 1 1).toNat 1 = false :=
      (s.blk.shadowWord_bits hp 1 (by decide) (by decide)).trans (Bool.and_false _)
    have late : bitAt (s.blk.fieldWord page 0x034 0 1 1).toNat 2 = false :=
      (s.blk.shadowWord_bits hp 1 (by decide) (by decide)).trans (Bool.and_false _)
    have written := s.node.writeReg_header a page _ (off := 0x034) (by decide) hg (.inl (by decide))
    exact exec_next (f := fun n => n.writeBits a page 0x034 0 1 1) rfl wf (written.trans
      (congrArg (fun b => { s.node with b := b.answered a page 0x034 }) (s.blk.writeShadowCtrl_hold page hold drop late)))
  · have hp := page_lt_of_wf wf
    have hold : bitAt (s.blk.fieldWord page 0x034 0 1 0).toNat 0 = false := s.blk.bitAt_fieldWord page 0x034 false (by decide)
    have drop : bitAt (s.blk.fieldWord page 0x034 0 1 0).toNat 1 = false :=
      (s.blk.shadowWord_bits hp 0 (by decide) (by decide)).trans (Bool.and_false _)
    have late : bitAt (s.blk.fieldWord page 0x034 0 1 0).toNat 2 = false :=
      (s.blk.shadowWord_bits hp 0 (by decide) (by decide)).trans (Bool.and_false _)
    have written := s.node.writeReg_header a page _ (off := 0x034) (by decide) hg (.inl (by decide))
    exact exec_next (f := fun n => n.writeBits a page 0x034 0 1 0) rfl wf (written.trans
      (congrArg (fun b => { s.node with b := b.answered a page 0x034 }) (s.blk.writeShadowCtrl_release page hold drop late)))
  · have hp := page_lt_of_wf wf
    have hold : bitAt (s.blk.fieldWord page 0x034 1 1 1).toNat 0 = s.blk.flag (hHold page) := by
      rw [s.blk.shadowWord_bits hp 1 (by decide) (by decide), show bitAt 1 0 = true from rfl, Bool.and_true, hHold, hdr, Blk.flag_eq_bitAt]
    have drop : bitAt (s.blk.fieldWord page 0x034 1 1 1).toNat 1 = true := s.blk.bitAt_fieldWord page 0x034 true (by decide)
    have late : bitAt (s.blk.fieldWord page 0x034 1 1 1).toNat 2 = false :=
      (s.blk.shadowWord_bits hp 1 (by decide) (by decide)).trans (Bool.and_false _)
    have written := s.node.writeReg_header a page _ (off := 0x034) (by decide) hg (.inl (by decide))
    have dropped := s.blk.writeShadowCtrl_discard page hold drop late
    have memory : s.node.sameMemory
        { s.node with b := ((s.blk.set (hHold page) (bitNat (s.blk.flag (hHold page)))).discard page).answered a page 0x034 } := s.node.sameMemory_discard page (bitNat (s.blk.flag (hHold page))) a
    have regs := s.blk.keepsRegs_refl [regKey page 0x034] |>.set (f := hHold page) (bitNat (s.blk.flag (hHold page))) (List.mem_singleton.mpr rfl)
    have held := s.blk.get_set_same (hHold page) (bitNat (s.blk.flag (hHold page))) (show 0 + 1 ≤ 32 by decide)
    have same : bitNat (s.blk.flag (hHold page)) % 2 ^ (hHold page).w = s.blk.get (hHold page) := by
      have lt := s.blk.get_lt (hHold page)
      rw [Blk.flag]
      show bitNat (s.blk.get (hHold page) != 0) % 2 ^ 1 = _
      change s.blk.get (hHold page) < 2 ^ 1 at lt
      generalize s.blk.get (hHold page) = n at lt ⊢
      have : n = 0 ∨ n = 1 := by omega
      obtain rfl | rfl := this <;> rfl
    have shadow (k : Nat) : (s.blk.set (hHold page) (bitNat (s.blk.flag (hHold page)))).copyOf k = s.blk.copyOf k := rfl
    have ep : (s.blk.set (hHold page) (bitNat (s.blk.flag (hHold page)))).ep = s.blk.ep := Blk.set_ep _ _ _
    generalize s.blk.set (hHold page) (bitNat (s.blk.flag (hHold page))) = x at dropped regs held shadow ep memory
    refine completes_of_node (f := fun n => n.writeBits a page 0x034 1 1 1) (b := (x.discard page).answered a page 0x034) rfl wf (written.trans
      (congrArg (fun b => { s.node with b := b.answered a page 0x034 }) dropped)) ⟨fun k hk => ?_, fun k hk => ?_, ?_, ?_, ?_, ?_, memory⟩
    · exact (x.copyOf_discard page k).trans (if_pos hk)
    · exact ((x.copyOf_discard page k).trans (if_neg hk)).trans (shadow k)
    · exact (Blk.get_of_regs_eq (x.discard_regs page) _).trans (held.trans same)
    · exact fun k hk => (congrArg (fun r => Tbl.get regReset r k) (x.discard_regs page)).trans (regs k hk)
    · rintro rfl own
      exact Blk.discard_pendMode ((congrArg (·.pendOwn) ep).trans own)
    · exact (x.discard_line page).trans (congrArg (·.line) ep)

end Sys2Proof.Machine
end

section
/-! PROOFS. Scratchpads (spec/07): what a vote over tags and a tag set leave, reads and writes of clean lines, accesses. -/

namespace Sys2Proof.Machine

/-! ### What tags, waits and their registers are apart from -/

/-- The blocks with other registers, tags and tile parts. -/
def Blk.withTags (b : Blk) (r : Tbl Word) (f : Tbl Bool) (v : Tbl Nat) (ts : List TileSt) : Blk :=
  { b with regs := r, spm := { b.spm with full := f, vote := v }, tiles := ts }

/-- `b'` differs from `b` in registers of tile `t`'s page and of SPM, in tags and in the tiles' parts alone. -/
def Blk.keepsBesideTags (b b' : Blk) (t : Nat) : Prop :=
  (∃ r f v ts, b' = b.withTags r f v ts) ∧ b.keepsOtherPages b' [tilePage t, Page.SPM]

theorem Blk.keepsBesideTags_refl (b : Blk) (t : Nat) : b.keepsBesideTags b t := ⟨⟨b.regs, b.spm.full, b.spm.vote, b.tiles, rfl⟩, fun _ _ => rfl⟩

theorem Blk.keepsBesideTags.trans {a b c : Blk} {t : Nat} (h : a.keepsBesideTags b t) (k : b.keepsBesideTags c t) : a.keepsBesideTags c t := by
  obtain ⟨⟨r, f, v, ts, rfl⟩, hp⟩ := h
  obtain ⟨⟨r', f', v', ts', rfl⟩, kp⟩ := k
  exact ⟨⟨r', f', v', ts', rfl⟩, hp.trans kp⟩

/-- What reads neither registers nor tags nor the tiles' parts reads alike. -/
theorem Blk.keepsBesideTags.proj {α : Type} {b b' : Blk} {t : Nat} (h : b.keepsBesideTags b' t) (part : Blk → α)
    (hp : ∀ r f v ts, part (b.withTags r f v ts) = part b) : part b' = part b := by
  obtain ⟨⟨r, f, v, ts, rfl⟩, -⟩ := h
  exact hp r f v ts

theorem Blk.keepsBesideTags.bytes {b b' : Blk} {t : Nat} (h : b.keepsBesideTags b' t) : b'.spm.bytes = b.spm.bytes :=
  h.proj (fun b => b.spm.bytes) (fun _ _ _ _ => rfl)
theorem Blk.keepsBesideTags.init {b b' : Blk} {t : Nat} (h : b.keepsBesideTags b' t) : b'.spm.init = b.spm.init :=
  h.proj (fun b => b.spm.init) (fun _ _ _ _ => rfl)
theorem Blk.keepsBesideTags.sent {b b' : Blk} {t : Nat} (h : b.keepsBesideTags b' t) : b'.sent = b.sent :=
  h.proj (fun b => b.sent) (fun _ _ _ _ => rfl)
theorem Blk.keepsBesideTags.ep {b b' : Blk} {t : Nat} (h : b.keepsBesideTags b' t) : b'.ep = b.ep :=
  h.proj (fun b => b.ep) (fun _ _ _ _ => rfl)
theorem Blk.keepsBesideTags.inInit {b b' : Blk} {t : Nat} (h : b.keepsBesideTags b' t) (u a : Nat) : b'.inInit u a = b.inInit u a :=
  h.proj (fun b => b.inInit u a) (fun _ _ _ _ => rfl)
theorem Blk.keepsBesideTags.isPoisoned {b b' : Blk} {t : Nat} (h : b.keepsBesideTags b' t) (u l : Nat) :
    b'.isPoisoned u l = b.isPoisoned u l :=
  h.proj (fun b => b.isPoisoned u l) (fun _ _ _ _ => rfl)
theorem Blk.keepsBesideTags.lineFlips {b b' : Blk} {t : Nat} (h : b.keepsBesideTags b' t) (u l : Nat) :
    b'.lineFlips u l = b.lineFlips u l :=
  h.proj (fun b => b.lineFlips u l) (fun _ _ _ _ => rfl)
theorem Blk.keepsBesideTags.spmGet {b b' : Blk} {t : Nat} (h : b.keepsBesideTags b' t) (u a n : Nat) : b'.spmGet u a n = b.spmGet u a n :=
  h.proj (fun b => b.spmGet u a n) (fun _ _ _ _ => rfl)

theorem Blk.keepsBesideTags.lineClean {b b' : Blk} {t : Nat} (h : b.keepsBesideTags b' t) {u l : Nat} (clean : b.lineClean u l) :
    b'.lineClean u l :=
  ⟨(h.isPoisoned u l).trans clean.1, (h.lineFlips u l).trans clean.2⟩

theorem Node.sameMemory_of_keepsBesideTags {n : Node} {b : Blk} {t : Nat} (h : n.b.keepsBesideTags b t) : n.sameMemory { n with b := b } :=
  ⟨rfl, h.proj (fun b => b.flash) (fun _ _ _ _ => rfl), h.proj (fun b => b.bulk.bytes) (fun _ _ _ _ => rfl), h.bytes⟩

theorem Node.sameMemory.trans {n m k : Node} (h : n.sameMemory m) (h' : m.sameMemory k) : n.sameMemory k := by
  obtain ⟨otp, flash, bulk, spm⟩ := h
  obtain ⟨otp', flash', bulk', spm'⟩ := h'
  exact ⟨otp'.trans otp, flash'.trans flash, bulk'.trans bulk, spm'.trans spm⟩

/-! ### Steps of tags -/

theorem Blk.keepsBesideTags.set {b b' : Blk} {t : Nat} (h : b.keepsBesideTags b' t) (f : Fld) (v : Nat)
    (hf : pageOf f.key ∈ [tilePage t, Page.SPM]) : b.keepsBesideTags (b'.set f v) t := by
  obtain ⟨⟨r, g, w, ts, rfl⟩, hp⟩ := h
  exact ⟨⟨_, g, w, ts, rfl⟩, hp.set v hf⟩

theorem Blk.keepsBesideTags.setTile {b b' : Blk} {t : Nat} (h : b.keepsBesideTags b' t) (u : Nat) (x : TileSt) :
    b.keepsBesideTags (b'.setTile u x) t := by
  obtain ⟨⟨r, g, w, ts, rfl⟩, hp⟩ := h
  exact ⟨⟨r, g, w, _, rfl⟩, hp⟩

theorem Blk.keepsBesideTags.putTag {b b' : Blk} {t : Nat} (h : b.keepsBesideTags b' t) (u slot : Nat) (v : Bool) :
    b.keepsBesideTags (b'.putTag u slot v) t := by
  obtain ⟨⟨r, g, w, ts, rfl⟩, hp⟩ := h
  exact ⟨⟨r, _, w, ts, rfl⟩, hp⟩

theorem Blk.keepsBesideTags.setTagDiff {b b' : Blk} {t : Nat} (h : b.keepsBesideTags b' t) (u slot k : Nat) :
    b.keepsBesideTags (b'.setTagDiff u slot k) t := by
  obtain ⟨⟨r, g, w, ts, rfl⟩, hp⟩ := h
  exact ⟨⟨r, g, _, ts, rfl⟩, hp⟩

theorem Blk.keepsBesideTags.markMet {b b' : Blk} {t : Nat} (h : b.keepsBesideTags b' t) (u : Nat) : b.keepsBesideTags (b'.markMet u) t := by
  unfold Blk.markMet
  extract_lets ws
  split
  · exact h
  · exact h.setTile _ _

theorem pageOf_tile {t : Nat} (ht : t < 16) {off : Nat} (ho : off < 0x1000) : pageOf (0x20000 + off + 0x1000 * t) = tilePage t := by
  unfold pageOf tilePage
  omega

theorem pageOf_tile_mem {t : Nat} (ht : t < 16) {off : Nat} (ho : off < 0x1000) :
    pageOf (0x20000 + off + 0x1000 * t) ∈ [tilePage t, Page.SPM] :=
  pageOf_tile ht ho ▸ List.mem_cons_self

/-- The registers of SPM that are kept per tile. -/
theorem pageOf_spm_tile {t : Nat} (ht : t < 16) {off : Nat} (ho : off < 0xF00) (u : Nat) :
    pageOf (0x30000 + off + 0x10 * t) ∈ [u, Page.SPM] := by
  have page : pageOf (0x30000 + off + 0x10 * t) = Page.SPM := by
    unfold pageOf
    show _ = 0x30
    omega
  exact page ▸ List.mem_cons_of_mem _ List.mem_cons_self

theorem Blk.keepsBesideTags_tagVote (b : Blk) {t : Nat} (slot : Nat) (ht : t < 16) : b.keepsBesideTags (b.tagVote t slot) t := by
  unfold Blk.tagVote
  split
  · exact b.keepsBesideTags_refl t
  · exact (((b.keepsBesideTags_refl t).setTagDiff t slot 0).set (SPM.TAG_VOTE t) _ (pageOf_spm_tile ht (off := 0x288) (by decide) _)).set
      SPM.IRQ_RAW_TAG_VOTE 1 (List.mem_cons_of_mem _ List.mem_cons_self)

/-- A vote changes no tag and no tile part. -/
theorem Blk.tagVote_full (b : Blk) (t slot : Nat) : (b.tagVote t slot).spm.full = b.spm.full := by
  unfold Blk.tagVote
  split <;> rfl

theorem Blk.tagVote_tiles (b : Blk) (t slot : Nat) : (b.tagVote t slot).tiles = b.tiles := by
  unfold Blk.tagVote
  split <;> rfl

theorem Blk.tagVote_isFull (b : Blk) (t slot u x : Nat) : (b.tagVote t slot).isFull u x = b.isFull u x := by
  unfold Blk.isFull
  rw [b.tagVote_full]

theorem Blk.finishInit_of_ready {b : Blk} {t g : Nat} (h : b.inInit t (g * 0x10000) = false) : b.finishInit t g = b := by
  unfold Blk.finishInit
  rw [if_neg (by simp [h])]

theorem Blk.markMet_spm (b : Blk) (t : Nat) : (b.markMet t).spm = b.spm := by
  unfold Blk.markMet
  extract_lets ws
  split <;> rfl

theorem Blk.isFull_putTag_same (b : Blk) (t slot : Nat) (v : Bool) : (b.putTag t slot v).isFull t slot = v :=
  Tbl.get_put_same (dflt false) b.spm.full (slotKey t slot) v

theorem Blk.isFull_congr {b b' : Blk} (h : b'.spm = b.spm) (t slot : Nat) : b'.isFull t slot = b.isFull t slot := by
  rw [Blk.isFull, h, Blk.isFull]

/-- A slot reads as its tag was set. -/
theorem Blk.isFull_setTag (b : Blk) (t slot : Nat) (v : Bool) : (b.setTag t slot v).isFull t slot = v := by
  unfold Blk.setTag
  extract_lets ready
  split
  · next same => exact (Blk.isFull_congr rfl t slot).trans (eq_of_beq same)
  · exact (Blk.isFull_congr (Blk.markMet_spm _ t) t slot).trans (ready.isFull_putTag_same t slot v)

theorem Blk.keepsBesideTags_setTag (b : Blk) {t slot : Nat} (v : Bool) (ht : t < 16) (ready : b.inInit t (slot / 256 * 0x10000) = false) :
    b.keepsBesideTags (b.setTag t slot v) t := by
  have voted := b.keepsBesideTags_tagVote slot ht
  unfold Blk.setTag
  rw [Blk.finishInit_of_ready ready]
  extract_lets read
  split
  · exact (voted.set (TILE.TAG_REDUNDANT t) _ (pageOf_tile_mem ht (off := 0x064) (by decide))).set (TILE.IRQ_RAW_TAG_REDUNDANT t) 1
      (pageOf_tile_mem ht (off := 0x018) (by decide))
  · exact (voted.putTag t slot v).markMet t

/-! ### Where an access lands -/

/-- An access that has a target lands in a scratchpad of the node. -/
theorem Blk.spmTarget_lands {b : Blk} {x t a addr : Nat} (hx : x < 16) (h : b.spmTarget x a = (0, t, addr)) : t < 16 ∧ addr < spmBytes := by
  have cause {c n m : Nat} (hc : c ≠ 0) (e : (c, n, m) = (0, t, addr)) : t < 16 ∧ addr < spmBytes :=
    absurd (congrArg Prod.fst e) hc
  have lands (n m : Nat) (hn : n < 16) (hm : m < spmBytes) (e : (0, n, m) = (0, t, addr)) : t < 16 ∧ addr < spmBytes := by
    cases e
    exact ⟨hn, hm⟩
  unfold Blk.spmTarget at h
  split at h
  · next own => exact lands x a hx own h
  · split at h
    · exact cause (by decide) h
    · dsimp only at h
      split at h
      · exact cause (by decide) h
      · next inside =>
        split at h
        · exact cause (by decide) h
        · next n side =>
          have near : n < 16 := by
            unfold neighbour at side
            split_ifs at side <;> cases side <;> omega
          split_ifs at h
          · exact cause (by decide) h
          · exact cause (by decide) h
          · exact lands n _ near (Nat.lt_of_not_le inside) h

/-- An access that keeps R148 lies in one line, and so in one granule. -/
theorem span_of_shape {addr size : Nat} (h : spmShape addr size = true) :
    1 ≤ size ∧ size ≤ 32 ∧ addr % 32 + size ≤ 32 ∧ (size = 32 → addr % 32 = 0) ∧ (addr + size - 1) / 32 = addr / 32 := by
  unfold spmShape at h
  simp only [Bool.and_eq_true, Bool.or_eq_true, beq_iff_eq] at h
  obtain ⟨((rfl | rfl) | rfl) | rfl, aligned⟩ := h <;> omega

theorem spanOf_single {size a n : Nat} (hn : 0 < n) (h : (a + n - 1) / size = a / size) : spanOf size a n = [a / size] := by
  rw [spanOf, if_neg (by simp; omega), h, Nat.sub_self]
  rfl

theorem linesOf_shape {addr size : Nat} (h : spmShape addr size = true) : linesOf addr size = [addr / 32] := by
  obtain ⟨pos, -, -, -, last⟩ := span_of_shape h
  exact spanOf_single pos last

theorem granulesOf_shape {addr size : Nat} (h : spmShape addr size = true) : spanOf 0x10000 addr size = [addr / 0x10000] := by
  obtain ⟨pos, small, inside, -⟩ := span_of_shape h
  exact spanOf_single pos (by omega)

theorem Blk.inInit_granule (b : Blk) (t addr : Nat) : b.inInit t (addr / 0x10000 * 0x10000) = b.inInit t addr := by
  unfold Blk.inInit
  rw [Nat.mul_div_cancel _ (by decide)]

/-- An access in a ready granule waits for none. -/
theorem Blk.initFirst_of_ready {b : Blk} {t addr size : Nat} (h : spmShape addr size = true) (ready : b.inInit t addr = false) :
    b.initFirst t addr size = b := by
  rw [Blk.initFirst, granulesOf_shape h]
  exact Blk.finishInit_of_ready ((b.inInit_granule t addr).trans ready)

/-! ### Reads and writes of one line -/

theorem codeFinding_zero (c d : Nat) : codeFinding c d 0 = 0 := rfl

theorem Blk.lineFinding_clean {b : Blk} {t line : Nat} (h : b.lineFlips t line = []) : b.lineFinding t line = 0 := by
  unfold Blk.lineFinding
  rw [h]
  split <;> rfl

theorem Blk.lineFound_clean {b : Blk} {t line : Nat} (h : b.lineFlips t line = []) : b.lineFound t line = (0, b) := by
  unfold Blk.lineFound
  rw [b.lineFinding_clean h]
  rfl

theorem Blk.lineCheck_clean {b : Blk} {t line : Nat} (h : b.lineClean t line) (req : Nat) : b.lineCheck t line req = (true, b) := by
  rw [Blk.lineCheck, if_neg (by simp [h.1]), Blk.lineFound_clean h.2]
  rfl

theorem Blk.lineCheck_poisoned {b : Blk} {t line : Nat} (h : b.isPoisoned t line = true) (req : Nat) : b.lineCheck t line req = (false, b) := by
  rw [Blk.lineCheck, if_pos h]

theorem Blk.spmRead_line {b : Blk} {t addr size : Nat} (shape : spmShape addr size = true) (ready : b.inInit t addr = false) (req : Nat)
    {ok : Bool} (checked : b.lineCheck t (addr / 32) req = (ok, b)) :
    b.spmRead t addr size req = if ok then (0, b.spmGet t addr size, b) else (tcPoison, [], b) := by
  rw [Blk.spmRead, Blk.initFirst_of_ready shape ready, linesOf_shape shape]
  simp only [Blk.linesCheck, List.foldl_cons, List.foldl_nil, if_true, checked]

/-- A line made whole by a write of all its bytes. -/
def Blk.lineRenewed (b : Blk) (t line : Nat) : Blk := (b.setPoison t line false).setFlips t line []

theorem Blk.spmWrite_line {b : Blk} {t addr : Nat} {bs : List Byte} (shape : spmShape addr bs.length = true) (ready : b.inInit t addr = false)
    (req : Nat) (clean : b.lineClean t (addr / 32)) :
    b.spmWrite t addr bs req = (0, (if bs.length == 32 then b.lineRenewed t (addr / 32) else b).spmPut t addr bs) := by
  obtain ⟨pos, small, inside, whole, -⟩ := span_of_shape shape
  have lo : max addr (addr / 32 * 32) = addr := by omega
  have hi : min (addr + bs.length) (addr / 32 * 32 + 32) = addr + bs.length := by omega
  rw [Blk.spmWrite, Blk.initFirst_of_ready shape ready, linesOf_shape shape, List.foldl_cons, List.foldl_nil, if_neg (by simp)]
  simp only [lo, hi, Nat.sub_self, List.drop_zero, Nat.add_sub_cancel_left, List.take_length]
  split
  · rfl
  · rw [Blk.lineCheck_clean clean]
    rfl

theorem Tbl.getMany_putMany {α : Type} [DecidableEq α] (d : Nat → α) (t : Tbl α) (k : Nat) (vs : List α) :
    Tbl.getMany d (Tbl.putMany d t k vs) k vs.length = vs := by
  refine List.ext_getElem (by simp [Tbl.getMany]) (fun i hi hv => ?_)
  simp [Tbl.getMany, Tbl.get_putMany, hv]

theorem Blk.spmGet_spmPut (b : Blk) (t a : Nat) (bs : List Byte) : (b.spmPut t a bs).spmGet t a bs.length = bs :=
  Tbl.getMany_putMany _ _ _ _

/-! ### Accesses of a port -/

/-- An access of a port of a running group is held back or issued. -/
theorem Blk.spmAccess_run {b : Blk} {x : SpmAccess} (ht : x.tile < 16) (act : b.active (tilePage x.tile) = true)
    (run : b.tstate x.tile = tsRun) :
    b.spmAccess x = if b.portBusy x.tile x.req then b.setTile x.tile { b.tile x.tile with held := (b.tile x.tile).held ++ [x] }
      else b.issue x := by
  rw [Blk.spmAccess, if_neg (by simp [ht, act, run])]

/-- The blocks after the vote that an access with a tag check makes. -/
def Blk.votedFor (b : Blk) (x : SpmAccess) (t slot : Nat) : Blk := if x.check = .none then b else b.tagVote t slot

theorem Blk.keepsBesideTags_votedFor (b : Blk) (x : SpmAccess) {t : Nat} (slot : Nat) (ht : t < 16) :
    b.keepsBesideTags (b.votedFor x t slot) t := by
  unfold Blk.votedFor
  split
  · exact b.keepsBesideTags_refl t
  · exact b.keepsBesideTags_tagVote slot ht

theorem Blk.votedFor_full (b : Blk) (x : SpmAccess) (t slot : Nat) : (b.votedFor x t slot).spm.full = b.spm.full := by
  unfold Blk.votedFor
  split
  · rfl
  · exact b.tagVote_full t slot

theorem Blk.tagMet_congr {b b' : Blk} (h : b'.spm.full = b.spm.full) (t slot : Nat) (x : SpmAccess) :
    b'.tagMet t slot x = b.tagMet t slot x := by
  unfold Blk.tagMet Blk.isFull
  rw [h]

theorem Blk.issue_fault {b : Blk} {x : SpmAccess} {cause t addr : Nat} (h : b.spmTarget x.tile x.addr = (cause, t, addr)) (hc : cause ≠ 0) :
    b.issue x = b.portFault x.tile x.req cause (addr / 256) := by
  simp only [Blk.issue, h]
  rw [if_pos (by simpa using hc)]

theorem Blk.issue_misshapen {b : Blk} {x : SpmAccess} {t addr : Nat} (h : b.spmTarget x.tile x.addr = (0, t, addr))
    (shape : spmShape addr x.size = false) : b.issue x = b.portFault x.tile x.req tcAlign (addr / 256) := by
  simp only [Blk.issue, h]
  rw [if_neg (by simp), if_pos (by simp [shape])]

/-- A well-shaped access votes over its tag, then waits or is made. -/
theorem Blk.issue_lands {b : Blk} {x : SpmAccess} {t addr : Nat} (ht : t < 16) (h : b.spmTarget x.tile x.addr = (0, t, addr))
    (shape : spmShape addr x.size = true) :
    b.issue x = if b.inInit t addr || !b.tagMet t (addr / 256) x then (b.votedFor x t (addr / 256)).addWait t
        ⟨x.tile, x.req, arrivalReq x.tile t x.req, addr / 256, waitKindOf x, b.ep.line, false, some x⟩
      else (b.votedFor x t (addr / 256)).doAccess x t addr := by
  have voted := b.keepsBesideTags_votedFor x (addr / 256) ht
  have form : b.issue x = if (b.votedFor x t (addr / 256)).inInit t addr || !(b.votedFor x t (addr / 256)).tagMet t (addr / 256) x then
      (b.votedFor x t (addr / 256)).addWait t
        ⟨x.tile, x.req, arrivalReq x.tile t x.req, addr / 256, waitKindOf x, (b.votedFor x t (addr / 256)).ep.line, false, some x⟩
      else (b.votedFor x t (addr / 256)).doAccess x t addr := by
    simp only [Blk.issue, h]
    rw [if_neg (by simp), if_neg (by simp [shape])]
    unfold Blk.votedFor
    simp only [beq_iff_eq]
  rw [form, voted.inInit, Blk.tagMet_congr (b.votedFor_full x t _), voted.ep]

/-! ### The access made -/

/-- A read of a line that cannot be used ends the access with POISON. -/
theorem Blk.doAccess_poisoned {b : Blk} {x : SpmAccess} {t addr : Nat} (shape : spmShape addr x.size = true) (ready : b.inInit t addr = false)
    (read : x.data = none) (bad : b.isPoisoned t (addr / 32) = true) :
    b.doAccess x t addr = b.portFault x.tile x.req tcPoison (addr / 256) := by
  simp only [Blk.doAccess, read, Blk.spmRead_line shape ready _ (Blk.lineCheck_poisoned bad _), Bool.false_eq_true, if_false]
  exact if_neg (by decide)

/-- A read of a clean line answers the bytes and acts on the tag. -/
theorem Blk.doAccess_read {b : Blk} {x : SpmAccess} {t addr : Nat} (shape : spmShape addr x.size = true) (ready : b.inInit t addr = false)
    (read : x.data = none) (clean : b.lineClean t (addr / 32)) :
    b.doAccess x t addr =
      if x.after == .setEmpty then (b.emit (.spm x.tile x.req 0 (b.spmGet t addr x.size))).setTag t (addr / 256) false
      else b.emit (.spm x.tile x.req 0 (b.spmGet t addr x.size)) := by
  simp only [Blk.doAccess, read, Blk.spmRead_line shape ready _ (Blk.lineCheck_clean clean _)]
  rfl

/-- The blocks after the bytes of a write to a clean line stand and its answer has gone out. -/
def Blk.lineWritten (b : Blk) (x : SpmAccess) (t addr : Nat) (bs : List Byte) : Blk :=
  let stored := (if bs.length == 32 then b.lineRenewed t (addr / 32) else b).spmPut t addr bs
  (if x.req == 2 then stored.canaryBytes x.tile bs else stored).emit (.spm x.tile x.req 0 [])

theorem Blk.doAccess_write {b : Blk} {x : SpmAccess} {t addr : Nat} {bs : List Byte} (shape : spmShape addr x.size = true)
    (ready : b.inInit t addr = false) (write : x.data = some bs) (len : bs.length = x.size) (clean : b.lineClean t (addr / 32)) :
    b.doAccess x t addr =
      if x.after == .setFull then (b.lineWritten x t addr bs).setTag t (addr / 256) true else b.lineWritten x t addr bs := by
  have all : bs.take x.size = bs := by rw [← len, List.take_length]
  simp only [Blk.doAccess, write, all, Blk.spmWrite_line (len ▸ shape) ready _ clean]
  rfl

/-- The blocks with other bytes, poison and wrong bits of the scratchpads, other tile parts and outputs. -/
def Blk.withLines (b : Blk) (bytes : Tbl Byte) (p : Tbl Bool) (l : Tbl (List Nat)) (ts : List TileSt) (out : List OutEvent) : Blk :=
  { b with spm := { b.spm with bytes := bytes, poison := p, flips := l }, tiles := ts, sent := out }

/-- A write to a clean line stores its bytes and answers. -/
theorem Blk.lineWritten_eq (b : Blk) (x : SpmAccess) (t addr : Nat) (bs : List Byte) :
    ∃ p l ts, b.lineWritten x t addr bs = b.withLines (Tbl.putMany (dflt 0) b.spm.bytes (byteKey t addr) bs) p l ts
      (b.sent ++ [.spm x.tile x.req 0 []]) := by
  have stored : ∃ p l, (if bs.length == 32 then b.lineRenewed t (addr / 32) else b).spmPut t addr bs =
      b.withLines (Tbl.putMany (dflt 0) b.spm.bytes (byteKey t addr) bs) p l b.tiles b.sent := by
    split
    · exact ⟨_, _, rfl⟩
    · exact ⟨b.spm.poison, b.spm.flips, rfl⟩
  obtain ⟨p, l, stored⟩ := stored
  unfold Blk.lineWritten
  rw [stored]
  extract_lets put
  split
  · unfold Blk.canaryBytes
    split
    · exact ⟨p, l, _, rfl⟩
    · exact ⟨p, l, b.tiles, rfl⟩
  · exact ⟨p, l, b.tiles, rfl⟩

/-- A read of a clean line: what it answers, and what stands after its tag action. -/
theorem Blk.read_leaves {b : Blk} {x : SpmAccess} {t addr : Nat} (n : Node) (hn : n.b = b) (ht : t < 16) (shape : spmShape addr x.size = true)
    (ready : b.inInit t addr = false) (read : x.data = none) (clean : b.lineClean t (addr / 32)) :
    let after := (b.votedFor x t (addr / 256)).doAccess x t addr
    after.sent = b.sent ++ [.spm x.tile x.req 0 (b.spmGet t addr x.size)] ∧ n.sameMemory { n with b := after } ∧
    (x.after = .setEmpty → after.isFull t (addr / 256) = false) ∧ (x.after ≠ .setEmpty → after.spm.full = b.spm.full) ∧
    b.keepsOtherPages after [tilePage t, Page.SPM] := by
  subst hn
  intro after
  have voted := n.b.keepsBesideTags_votedFor x (addr / 256) ht
  have full := n.b.votedFor_full x t (addr / 256)
  have made : after = _ := Blk.doAccess_read shape ((voted.inInit t addr).trans ready) read (voted.lineClean clean)
  rw [voted.spmGet] at made
  have memory := Node.sameMemory_of_keepsBesideTags voted
  generalize n.b.votedFor x t (addr / 256) = v at *
  have ready' : v.inInit t (addr / 256 / 256 * 0x10000) = false := by
    rw [Nat.div_div_eq_div_mul, v.inInit_granule, voted.inInit, ready]
  have tag := (v.emit (.spm x.tile x.req 0 (n.b.spmGet t addr x.size))).keepsBesideTags_setTag (slot := addr / 256) false ht ready'
  have out : v.sent ++ [.spm x.tile x.req 0 (n.b.spmGet t addr x.size)] = n.b.sent ++ [.spm x.tile x.req 0 (n.b.spmGet t addr x.size)] := by
    rw [voted.sent]
  rw [made]
  split
  · next act =>
    have empties : x.after = .setEmpty := eq_of_beq act
    exact ⟨tag.sent.trans out, memory.trans
      (Node.sameMemory_of_keepsBesideTags (n := { n with b := v.emit (.spm x.tile x.req 0 (n.b.spmGet t addr x.size)) }) tag),
      fun _ => Blk.isFull_setTag _ _ _ _, fun other => absurd empties other, voted.2.trans tag.2⟩
  · next act => exact ⟨out, memory, fun empties => absurd (beq_iff_eq.mpr empties) act, fun _ => full, voted.2⟩

/-- A write to a clean line: what it stores, and what stands after its tag action. -/
theorem Blk.write_leaves {b : Blk} {x : SpmAccess} {t addr : Nat} {bs : List Byte} (n : Node) (hn : n.b = b) (ht : t < 16)
    (shape : spmShape addr x.size = true) (ready : b.inInit t addr = false) (write : x.data = some bs) (len : bs.length = x.size)
    (clean : b.lineClean t (addr / 32)) :
    let after := (b.votedFor x t (addr / 256)).doAccess x t addr
    after.spmGet t addr x.size = bs ∧ b.scratchKept after t addr x.size ∧ n.sameButScratch { n with b := after } ∧
    after.sent = b.sent ++ [.spm x.tile x.req 0 []] ∧
    (x.after = .setFull → after.isFull t (addr / 256) = true) ∧ (x.after ≠ .setFull → after.spm.full = b.spm.full) ∧
    b.keepsOtherPages after [tilePage t, Page.SPM] := by
  subst hn
  intro after
  have voted := n.b.keepsBesideTags_votedFor x (addr / 256) ht
  have full := n.b.votedFor_full x t (addr / 256)
  have made : after = _ := Blk.doAccess_write shape ((voted.inInit t addr).trans ready) write len (voted.lineClean clean)
  have memory := Node.sameMemory_of_keepsBesideTags voted
  generalize n.b.votedFor x t (addr / 256) = v at *
  obtain ⟨p, l, ts, stored⟩ := v.lineWritten_eq x t addr bs
  rw [stored, voted.bytes, voted.sent] at made
  generalize hw : v.withLines _ p l ts _ = w at made
  have ready' : w.inInit t (addr / 256 / 256 * 0x10000) = false := by
    rw [Nat.div_div_eq_div_mul, w.inInit_granule, ← hw, ← ready, ← voted.inInit]
    rfl
  have bytes : w.spm.bytes = Tbl.putMany (dflt 0) n.b.spm.bytes (byteKey t addr) bs := hw ▸ rfl
  have sent : w.sent = n.b.sent ++ [.spm x.tile x.req 0 []] := hw ▸ rfl
  have fullw : w.spm.full = n.b.spm.full := hw ▸ full
  have pages : n.b.keepsOtherPages w [tilePage t, Page.SPM] := hw ▸ voted.2
  have others : n.sameButScratch { n with b := w } := hw ▸ ⟨rfl, memory.2.1, memory.2.2.1⟩
  have tag := w.keepsBesideTags_setTag (slot := addr / 256) true ht ready'
  have got {c : Blk} (hc : c.spm.bytes = w.spm.bytes) : c.spmGet t addr x.size = bs := by
    rw [Blk.spmGet, hc, bytes, ← len, Tbl.getMany_putMany]
  have kept {c : Blk} (hc : c.spm.bytes = w.spm.bytes) : n.b.scratchKept c t addr x.size := by
    intro k outside
    rw [hc, bytes, Tbl.get_putMany, if_neg (by omega)]
  rw [made]
  split
  · next act =>
    have fills : x.after = .setFull := eq_of_beq act
    obtain ⟨-, flash, bulk, -⟩ := Node.sameMemory_of_keepsBesideTags (n := { n with b := w }) tag
    exact ⟨got tag.bytes, kept tag.bytes, ⟨rfl, flash.trans others.2.1, bulk.trans others.2.2⟩, tag.sent.trans sent,
      fun _ => Blk.isFull_setTag _ _ _ _, fun other => absurd fills other, pages.trans tag.2⟩
  · next act =>
    exact ⟨got rfl, kept rfl, others, sent, fun fills => absurd (beq_iff_eq.mpr fills) act, fun _ => fullw, pages⟩

/-- Settles O24: an access is held back, faulted, waits, or is made at its target, by `issue_lands` and the two forms of `doAccess`. -/
theorem scratchpadAccessesReadAndStoreAtTheirTarget : Obligations.ScratchpadAccessesReadAndStoreAtTheirTarget := by
  unfold Obligations.ScratchpadAccessesReadAndStoreAtTheirTarget
  intro s x t addr hx hr act run
  have wf : Instr.wf (.spmAccess x) = true := by
    show (x.tile < 16 && x.req < 4) = true
    simp [hx, hr]
  have made := Blk.spmAccess_run hx act run
  have done {b : Blk} (effect : s.blk.spmAccess x = b) : exec (.spmAccess x) s = .next (s.withBlk b) :=
    exec_blk (f := fun b => b.spmAccess x) rfl wf effect
  refine ⟨fun busy => done (made.trans (if_pos busy)), fun idle => ?_⟩
  have issued : s.blk.spmAccess x = s.blk.issue x := made.trans (if_neg (by simp [idle]))
  refine ⟨fun cause hc target => done (issued.trans (Blk.issue_fault target hc)),
    fun target shape => done (issued.trans (Blk.issue_misshapen target shape)), ?_⟩
  intro target shape voted
  have ht := (Blk.spmTarget_lands hx target).1
  have kept := s.blk.keepsBesideTags_votedFor x (addr / 256) ht
  have lands := issued.trans (Blk.issue_lands ht target shape)
  have reached (ready : s.blk.inInit t addr = false) (met : s.blk.tagMet t (addr / 256) x = true) :
      s.blk.spmAccess x = (s.blk.votedFor x t (addr / 256)).doAccess x t addr := lands.trans (if_neg (by simp [ready, met]))
  refine ⟨fun waits => done (lands.trans (if_pos (by simpa using waits))), fun ready met read bad => ?_, fun ready met clean => ⟨fun read => ?_,
    fun bytes write len => ?_⟩⟩
  · exact done ((reached ready met).trans (Blk.doAccess_poisoned shape ((kept.inInit t addr).trans ready) read
      ((kept.isPoisoned t _).trans bad)))
  · exact completes_of_blk (f := fun b => b.spmAccess x) rfl wf (reached ready met) (Blk.read_leaves s.node rfl ht shape ready read clean)
  · exact completes_of_blk (f := fun b => b.spmAccess x) rfl wf (reached ready met)
      (Blk.write_leaves s.node rfl ht shape ready write len clean)

end Sys2Proof.Machine
end

section
/-! PROOFS. Granules of the scratchpads: attributes, re-initialisation, the scrubber (spec/07 R162 to R167). -/

namespace Sys2Proof.Machine

/-! ### Granted writes of the blocks' own registers -/

/-- A register whose write acts in its block alone, at once: no half of a wide pair, no debug window, none that acts at the node or
that LIFE shows. -/
def blockRegister (page off : Nat) : Bool :=
  !(nodeWrite page off || (page == Page.SPM && (off == 0x04C || off == 0x050)) || isWideLow page off || isWideHigh page off ||
    (page == Page.FUSE && 0x070 ≤ off) || off == 0x010)

theorem Node.writeReg_block (n : Node) (a : Agent) {page off : Nat} (v : Word) (own : blockRegister page off = true)
    (hg : n.b.granted a page off v) :
    n.writeReg a page off true v = { n with b := (n.b.writeBlock a page off v).answered a page off } := by
  simp only [blockRegister, Bool.not_eq_true', Bool.or_eq_false_iff] at own
  obtain ⟨⟨⟨⟨⟨node, dbg⟩, low⟩, high⟩, fuse⟩, ctrl⟩ := own
  have window : n.b.dbgOff page off = false := by rw [Blk.dbgOff, dbg, Bool.false_and]
  have data : (page == Page.SPM && off == 0x04C) = false := by
    rw [Bool.and_eq_false_iff, Bool.or_eq_false_iff] at dbg
    exact Bool.and_eq_false_iff.mpr (dbg.imp_right And.left)
  exact n.writeReg_granted a page off v hg node window data low high (by rw [lifeGate, fuse, ctrl, Bool.and_false, Bool.false_and]; rfl)

theorem Node.writeBits_block (n : Node) (a : Agent) {page off : Nat} (lo w v : Nat) (own : blockRegister page off = true)
    (hg : n.b.granted a page off (n.b.fieldWord page off lo w v)) :
    n.writeBits a page off lo w v = { n with b := (n.b.writeBlock a page off (n.b.fieldWord page off lo w v)).answered a page off } :=
  n.writeReg_block a _ own hg

/-- A register that is not selected by another and whose bits are all RW: what a command that sets one field of it writes. -/
theorem Blk.rwWord_all (b : Blk) {page off : Nat} (row : (regRow page off).map (fun r => r.rw) = some 0xFFFFFFFF)
    (reach : b.reachKey page off = regKey page off) : b.rwWord page off = (b.word (regKey page off)).toNat := by
  rw [Option.map_eq_some_iff] at row
  obtain ⟨r, row, rw'⟩ := row
  have all : BitVec.ofNat 32 0xFFFFFFFF = BitVec.allOnes 32 := rfl
  unfold Blk.rwWord
  rw [row, reach]
  dsimp only
  rw [rw', all, BitVec.and_allOnes]

/-! ### Attributes -/

theorem attr_row : ∀ t < 16, ∀ j < 3,
    (regRow Page.SPM (0x100 + 0x10 * t + 4 * j)).map (fun r => r.rw) = some 0xFFFFFFFF ∧ blockRegister Page.SPM (0x100 + 0x10 * t + 4 * j) = true := by
  decide +kernel

/-- ATTR's word that holds a granule. -/
def attrKey (t g : Nat) : Nat := 0x30100 + 0x10 * t + 4 * (g / 16)

theorem regKey_attr (t g : Nat) : regKey Page.SPM (0x100 + 0x10 * t + 4 * (g / 16)) = attrKey t g := by
  show 0x30 * 4096 + _ = _
  unfold attrKey
  omega

theorem pageOf_attrKey {t g : Nat} (ht : t < 16) (hg : g < 48) : pageOf (attrKey t g) = Page.SPM := by
  show _ = 0x30
  unfold attrKey pageOf
  omega

/-- The word a write of one granule's ATTR field carries. -/
theorem Blk.fieldWord_attr (b : Blk) {t g : Nat} (v : Nat) (ht : t < 16) (hg : g < 48) :
    b.fieldWord Page.SPM (0x100 + 0x10 * t + 4 * (g / 16)) (2 * (g % 16)) 2 v =
      BitVec.ofNat 32 (putBits (b.word (attrKey t g)).toNat (2 * (g % 16)) 2 v) := by
  have reach : b.reachKey Page.SPM (0x100 + 0x10 * t + 4 * (g / 16)) = regKey Page.SPM (0x100 + 0x10 * t + 4 * (g / 16)) := rfl
  rw [Blk.fieldWord, b.rwWord_all (attr_row t ht (g / 16) (by omega)).1 reach, regKey_attr]

/-- The registers of SPM as written. -/
theorem Blk.writeBlock_spm (b : Blk) (a : Agent) (off : Nat) (v : Word) : b.writeBlock a Page.SPM off v =
    if off < 0x040 then b.writeHeader Page.SPM off v
    else if (off == 0x050) = true then b.dbgTag (bitAt v.toNat 0)
    else if (0x100 ≤ off && off < 0x200 && off % 0x10 < 0x0C) = true then b.writeAttr ((off - 0x100) / 0x10) (off % 0x10 / 4) v.toNat
    else b.storeKey (b.reachKey Page.SPM off) v := rfl

theorem Blk.writeBlock_attr (b : Blk) (a : Agent) {t g : Nat} (v : Word) (ht : t < 16) (hg : g < 48) :
    b.writeBlock a Page.SPM (0x100 + 0x10 * t + 4 * (g / 16)) v = b.writeAttr t (g / 16) v.toNat := by
  have index : (0x100 + 0x10 * t + 4 * (g / 16) - 0x100) / 0x10 = t := by omega
  have word : (0x100 + 0x10 * t + 4 * (g / 16)) % 0x10 / 4 = g / 16 := by omega
  rw [Blk.writeBlock_spm, if_neg (by omega), if_neg (by simp; omega), if_pos (by simp; omega), index, word]

/-- A write for which one step of a list acts. -/
theorem Blk.each_one {α : Type} {f : Blk → α → Blk} {i : α} (l : List α) (once : l.Nodup) (mem : i ∈ l)
    (others : ∀ j ∈ l, j ≠ i → ∀ b, f b j = b) (b : Blk) : b.each l f = f b i := by
  induction l generalizing b with
  | nil => cases mem
  | cons j l ih =>
    obtain ⟨fresh, once⟩ := List.nodup_cons.mp once
    have rest (c : Blk) (h : i ∉ l) : c.each l f = c := by
      have still (l' : List α) (sub : ∀ k ∈ l', k ∈ l) : c.each l' f = c := by
        induction l' with
        | nil => rfl
        | cons k l' ih' =>
          have hk := sub k List.mem_cons_self
          rw [Blk.each_cons, others k (List.mem_cons_of_mem _ hk) (fun e => h (e ▸ hk)),
            ih' (fun k hk => sub k (List.mem_cons_of_mem _ hk))]
      exact still l (fun _ hk => hk)
    rw [Blk.each_cons]
    obtain rfl | later := List.mem_cons.mp mem
    · exact rest _ fresh
    · rw [others j List.mem_cons_self (fun e => fresh (e ▸ later)),
        ih once later (fun k hk => others k (List.mem_cons_of_mem _ hk))]

/-- What a write of ATTR does for one granule whose ATTR field it changes. -/
def Blk.attrStep (b : Blk) (t g v : Nat) : Blk :=
  if 2 ≤ v then (b.raise SPM.IRQ_RAW_ATTR_BAD).captureOwnFree Page.SPM 0x03
  else
    let stored := b.setWord (attrKey t g) (BitVec.ofNat 32 (putBits (b.word (attrKey t g)).toNat (2 * (g % 16)) 2 v))
    if stored.powered (tilePage t) then stored.startInit t g else stored

/-- What a write of ATTR does for the granule of one field, `old` being the word before. -/
def Blk.attrField (t j v old : Nat) (b : Blk) (i : Nat) : Blk :=
  let new := bitsAt v (2 * i) 2
  if new == bitsAt old (2 * i) 2 then b
  else if 2 ≤ new then (b.raise SPM.IRQ_RAW_ATTR_BAD).captureOwnFree Page.SPM 0x03
  else
    let b := b.setWord (0x30100 + 0x10 * t + 4 * j) (BitVec.ofNat 32 (putBits (b.word (0x30100 + 0x10 * t + 4 * j)).toNat (2 * i) 2 new))
    if b.powered (tilePage t) then b.startInit t (16 * j + i) else b

theorem Blk.writeAttr_eq (b : Blk) (t j v : Nat) :
    b.writeAttr t j v = (b.markChanged Page.SPM).each (List.range 16) (Blk.attrField t j v (b.word (0x30100 + 0x10 * t + 4 * j)).toNat) := rfl

/-- A field written with the value it holds. -/
theorem Blk.attrField_same {t j v old i : Nat} (same : bitsAt v (2 * i) 2 = bitsAt old (2 * i) 2) (b : Blk) :
    Blk.attrField t j v old b i = b := if_pos (beq_iff_eq.mpr same)

/-- A field written with another value. -/
theorem Blk.attrField_changed {t g v old new : Nat} (written : bitsAt v (2 * (g % 16)) 2 = new) (ne : bitsAt old (2 * (g % 16)) 2 ≠ new)
    (b : Blk) : Blk.attrField t (g / 16) v old b (g % 16) = b.attrStep t g new := by
  have granule : 16 * (g / 16) + g % 16 = g := Nat.div_add_mod g 16
  unfold Blk.attrField
  extract_lets new' stored
  rw [if_neg (by simpa [new', written] using fun e => ne e.symm), Blk.attrStep, granule]
  subst written
  rfl

/-- A write of one ATTR field that changes it. -/
theorem Blk.writeAttr_one (b : Blk) {t g v : Nat} (hv : v < 4) (ne : b.attr t g ≠ v) :
    b.writeAttr t (g / 16) (BitVec.ofNat 32 (putBits (b.word (attrKey t g)).toNat (2 * (g % 16)) 2 v)).toNat =
      (b.markChanged Page.SPM).attrStep t g v := by
  rw [Blk.writeAttr_eq, Blk.each_one (i := g % 16) _ List.nodup_range (List.mem_range.mpr (Nat.mod_lt _ (by decide)))]
  · exact Blk.attrField_changed ((bitsAt_ofNat_putBits _ _ _ _ (by omega)).trans (Nat.mod_eq_of_lt hv)) ne _
  · intro j hj other c
    have hj := List.mem_range.mp hj
    refine Blk.attrField_same ?_ c
    rw [BitVec.toNat_ofNat, bitsAt_mod_word _ _ _ (by omega), bitsAt_putBits_ne _ _ _ _ _ _ (by omega)]
    rfl

/-- A change to 0 or 1 stands at once and re-initialises the granule. -/
theorem Blk.attrStep_stored {b : Blk} {t g v : Nat} (hv : v < 2) :
    let stored := b.setWord (attrKey t g) (BitVec.ofNat 32 (putBits (b.word (attrKey t g)).toNat (2 * (g % 16)) 2 v))
    b.attrStep t g v = if b.powered (tilePage t) then stored.startInit t g else stored := if_neg (by omega)

/-- 2 and 3 are refused. -/
theorem Blk.attrStep_refused {b : Blk} {t g v : Nat} (hv : 2 ≤ v) :
    b.attrStep t g v = (b.raise SPM.IRQ_RAW_ATTR_BAD).captureOwnFree Page.SPM 0x03 := if_pos hv

theorem bitAt_putBits_one (m g v : Nat) : bitAt (putBits m g 1 v) g = (v % 2 == 1) := by
  rw [bitAt, bitsAt_putBits_same]
  rfl

theorem Blk.inInit_setInit (b : Blk) (t g v : Nat) (m : Nat) : (b.setInit t (putBits m g 1 v)).inInit t (g * 0x10000) = (v % 2 == 1) := by
  unfold Blk.inInit Blk.setInit
  rw [Tbl.get_put_same, Nat.mul_div_cancel _ (by decide), bitAt_putBits_one]

theorem Blk.attr_congr {b b' : Blk} {t g : Nat} (h : b'.word (attrKey t g) = b.word (attrKey t g)) : b'.attr t g = b.attr t g :=
  congrArg (fun w : Word => bitsAt w.toNat (2 * (g % 16)) 2) h

/-- What a write of one ATTR field leaves. -/
theorem Blk.attrStep_shows (b : Blk) {t g v : Nat} (ht : t < 16) (hg : g < 48) (hv : v < 4) :
    (v < 2 → (b.attrStep t g v).attr t g = v ∧ (b.powered (tilePage t) = true → (b.attrStep t g v).inInit t (g * 0x10000) = true)) ∧
    (2 ≤ v → (b.attrStep t g v).attr t g = b.attr t g ∧ (b.attrStep t g v).flag SPM.IRQ_RAW_ATTR_BAD = true ∧
      (b.attrStep t g v).spm = b.spm) ∧
    (∀ h, h < 48 → h ≠ g → (b.attrStep t g v).attr t h = b.attr t h) ∧ b.keepsOtherPages (b.attrStep t g v) [Page.SPM] ∧
    (b.attrStep t g v).flash = b.flash ∧ (b.attrStep t g v).bulk.bytes = b.bulk.bytes ∧ (b.attrStep t g v).spm.bytes = b.spm.bytes := by
  have page := pageOf_attrKey ht hg
  by_cases small : v < 2
  · have step := Blk.attrStep_stored (b := b) (t := t) (g := g) small
    dsimp only at step
    generalize hst : b.setWord (attrKey t g) _ = stored at step
    have same : stored.word (attrKey t g) = BitVec.ofNat 32 (putBits (b.word (attrKey t g)).toNat (2 * (g % 16)) 2 v) :=
      hst ▸ b.word_setWord_same _ _
    have kept : b.keepsRegs stored [attrKey t g] := hst ▸ b.keepsRegs_setWord _ _
    have mem : stored.flash = b.flash ∧ stored.bulk.bytes = b.bulk.bytes ∧ stored.spm.bytes = b.spm.bytes := hst ▸ ⟨rfl, rfl, rfl⟩
    have word : ∀ k, (b.attrStep t g v).word k = stored.word k := by
      intro k
      rw [step]
      split <;> rfl
    have bytes : (b.attrStep t g v).flash = stored.flash ∧ (b.attrStep t g v).bulk.bytes = stored.bulk.bytes ∧
        (b.attrStep t g v).spm.bytes = stored.spm.bytes := by
      rw [step]
      split <;> exact ⟨rfl, rfl, rfl⟩
    obtain ⟨flash, bulk, spm⟩ := bytes
    refine ⟨fun _ => ⟨?_, fun on => ?_⟩, fun large => absurd small (by omega), fun h hh other => ?_,
      fun k hk => (word k).trans (kept k (fun mem => hk ?_)), flash.trans mem.1, bulk.trans mem.2.1, spm.trans mem.2.2⟩
    · show bitsAt ((b.attrStep t g v).word (attrKey t g)).toNat (2 * (g % 16)) 2 = v
      rw [word, same, bitsAt_ofNat_putBits _ _ _ _ (by omega)]
      exact Nat.mod_eq_of_lt hv
    · rw [step, if_pos on]
      exact Blk.inInit_setInit _ _ _ _ _
    · refine (Blk.attr_congr (word _)).trans ?_
      by_cases here : attrKey t h = attrKey t g
      · have apart : h % 16 ≠ g % 16 := by
          unfold attrKey at here
          omega
        show bitsAt (stored.word (attrKey t h)).toNat _ 2 = bitsAt (b.word (attrKey t h)).toNat _ 2
        rw [here, same, BitVec.toNat_ofNat, bitsAt_mod_word _ _ _ (by omega), bitsAt_putBits_ne _ _ _ _ _ _ (by omega)]
      · exact Blk.attr_congr (kept _ (by simpa using here))
    · rw [List.mem_singleton.mp mem, page]
      exact List.mem_singleton.mpr rfl
  · rw [Blk.attrStep_refused (by omega)]
    have behind : b.keepsBehind ((b.raise SPM.IRQ_RAW_ATTR_BAD).captureOwnFree Page.SPM 0x03) := (b.keepsBehind_raise _).captureOwnFree _ _
    have pages : b.keepsOtherPages ((b.raise SPM.IRQ_RAW_ATTR_BAD).captureOwnFree Page.SPM 0x03) [Page.SPM] :=
      ((b.keepsOtherPages_refl _).set (f := SPM.IRQ_RAW_ATTR_BAD) 1 (by decide)).trans (Blk.keepsOtherPages_captureOwnFree _ _ (by decide))
    have regs : b.keepsRegs ((b.raise SPM.IRQ_RAW_ATTR_BAD).captureOwnFree Page.SPM 0x03) (captureKeys Page.SPM) :=
      ((b.keepsRegs_refl _).set (f := SPM.IRQ_RAW_ATTR_BAD) 1 (by decide)).trans (Blk.keepsRegs_captureOwnFree _ _ _)
    have apart (h : Nat) : attrKey t h ∉ captureKeys Page.SPM := by
      have keys : captureKeys Page.SPM = [0x30018, 0x30024, 0x30028, 0x3002C] := rfl
      simp only [keys, attrKey, List.mem_cons, List.not_mem_nil, or_false]
      omega
    refine ⟨fun s => absurd s small, fun _ => ⟨Blk.attr_congr (regs _ (apart g)), ?_, behind.proj (·.spm) (fun _ _ _ _ _ => rfl)⟩,
      fun h _ _ => Blk.attr_congr (regs _ (apart h)), pages, behind.proj (·.flash) (fun _ _ _ _ _ => rfl),
      behind.proj (·.bulk.bytes) (fun _ _ _ _ _ => rfl), behind.proj (·.spm.bytes) (fun _ _ _ _ _ => rfl)⟩
    exact ((b.raise SPM.IRQ_RAW_ATTR_BAD).flag_captureOwnFree_hIrq Page.SPM 0x03 (bit := 5) (by decide)).trans
      (b.flag_raise_same SPM.IRQ_RAW_ATTR_BAD (by unfold Fld.fits; decide) (by decide))

/-! ### Re-initialisation -/

/-- A granule whose re-initialisation ends: what it holds, and that no other byte moves. -/
theorem Blk.finishInit_shows {b : Blk} {t g : Nat} (init : b.inInit t (g * 0x10000) = true) :
    (b.finishInit t g).inInit t (g * 0x10000) = false ∧ (∀ i, i < 0x10000 → (b.finishInit t g).spmByte t (g * 0x10000 + i) = 0) ∧
    b.scratchKept (b.finishInit t g) t (g * 0x10000) 0x10000 ∧ (∀ i, i < 256 → (b.finishInit t g).isFull t (g * 256 + i) = false) ∧
    (∀ i, i < 2048 → (b.finishInit t g).lineClean t (g * 2048 + i)) := by
  have spm : (b.finishInit t g).spm = ((b.wipeGranule t g).setInit t (putBits (Tbl.get (dflt 0) b.spm.init t) g 1 0)).spm := by
    rw [Blk.finishInit, if_pos init, Blk.markMet_spm]
  have bytes : (b.finishInit t g).spm.bytes = Tbl.clear b.spm.bytes (fun k => k / 0x10000 == byteKey t (g * 0x10000) / 0x10000) :=
    congrArg (·.bytes) spm
  have full : (b.finishInit t g).spm.full = Tbl.clear b.spm.full (fun k => k / 256 == slotKey t (g * 256) / 256) := congrArg (·.full) spm
  have poison : (b.finishInit t g).spm.poison = Tbl.clear b.spm.poison (fun k => k / 2048 == lineKey t (g * 2048) / 2048) :=
    congrArg (·.poison) spm
  have flips : (b.finishInit t g).spm.flips = Tbl.clear b.spm.flips (fun k => k / 2048 == lineKey t (g * 2048) / 2048) :=
    congrArg (·.flips) spm
  refine ⟨?_, fun i hi => ?_, fun k outside => ?_, fun i hi => ?_, fun i hi => ⟨?_, ?_⟩⟩
  · have ended := (b.wipeGranule t g).inInit_setInit t g 0 (Tbl.get (dflt 0) b.spm.init t)
    unfold Blk.inInit at ended ⊢
    rw [spm]
    exact ended
  · rw [Blk.spmByte, bytes, Tbl.get_clear, if_pos (by simp only [beq_iff_eq, byteKey]; omega)]
    rfl
  · rw [bytes, Tbl.get_clear, if_neg (by simp only [beq_iff_eq, byteKey] at outside ⊢; omega)]
  · rw [Blk.isFull, full, Tbl.get_clear, if_pos (by simp only [beq_iff_eq, slotKey]; omega)]
    rfl
  · rw [Blk.isPoisoned, poison, Tbl.get_clear, if_pos (by simp only [beq_iff_eq, lineKey]; omega)]
    rfl
  · rw [Blk.lineFlips, flips, Tbl.get_clear, if_pos (by simp only [beq_iff_eq, lineKey]; omega)]
    rfl

/-! ### The scrubber -/

theorem Blk.lineFound_of_finding {b : Blk} {t line : Nat} {e : Nat} (h : b.lineFinding t line = e) (ne : e ≠ 3) :
    b.lineFound t line = (e, b) := by
  rw [Blk.lineFound]
  simp only [h]
  rw [if_pos (by simpa using ne)]

/-- A line without a wrong bit is left. -/
theorem Blk.scrubLine_clean {b : Blk} {t line : Nat} (h : b.lineFlips t line = []) : b.scrubLine t line = b := by
  unfold Blk.scrubLine
  rw [Blk.lineFound_clean h]
  split <;> rfl

theorem Blk.scrubLine_correctable {b : Blk} {t line : Nat} (good : b.isPoisoned t line = false) (ready : b.inInit t (line * 32) = false)
    (found : b.lineFinding t line = 1) : b.scrubLine t line = b.correctLine t line := by
  rw [Blk.scrubLine, if_neg (by simp [good, ready]), Blk.lineFound_of_finding found (by decide)]
  dsimp only
  rw [if_neg (by decide), if_pos (by decide)]

/-- A line zeroed and its finding counted and captured. -/
def Blk.lineZeroed (b : Blk) (t line : Nat) : Blk :=
  ((((b.spmPut t (line * 32) (List.replicate 32 0)).setFlips t line []).bumpSat (SPM.UE_EMPTY t)).raise
    SPM.IRQ_RAW_UE_EMPTY).captureOwnFree Page.SPM 0x02

theorem Blk.scrubLine_uncorrectable {b : Blk} {t line : Nat} (good : b.isPoisoned t line = false) (ready : b.inInit t (line * 32) = false)
    (found : b.lineFinding t line = 2) :
    b.scrubLine t line =
      if (b.tagVote t (line / 8)).attr t (line / 2048) == 0 && !(b.tagVote t (line / 8)).isFull t (line / 8) then
        (b.tagVote t (line / 8)).lineZeroed t line
      else (b.tagVote t (line / 8)).poisonLine t line 12 := by
  rw [Blk.scrubLine, if_neg (by simp [good, ready]), Blk.lineFound_of_finding found (by decide)]
  dsimp only
  rw [if_neg (by decide), if_neg (by decide)]
  rfl

/-- The memories' parts that a vote leaves. -/
theorem Blk.tagVote_lines (b : Blk) (t slot : Nat) :
    (b.tagVote t slot).spm.bytes = b.spm.bytes ∧ (b.tagVote t slot).spm.poison = b.spm.poison := by
  unfold Blk.tagVote
  split <;> exact ⟨rfl, rfl⟩

theorem Blk.raised_ueEmpty (b : Blk) : ((b.raise SPM.IRQ_RAW_UE_EMPTY).captureOwnFree Page.SPM 0x02).flag SPM.IRQ_RAW_UE_EMPTY = true :=
  ((b.raise SPM.IRQ_RAW_UE_EMPTY).flag_captureOwnFree_hIrq Page.SPM 0x02 (bit := 2) (by decide)).trans
    (b.flag_raise_same SPM.IRQ_RAW_UE_EMPTY (by unfold Fld.fits; decide) (by decide))

theorem Blk.setFlips_bytes (b : Blk) (t line : Nat) (l : List Nat) : (b.setFlips t line l).spm.bytes = b.spm.bytes := rfl
theorem Blk.setFlips_poison (b : Blk) (t line : Nat) (l : List Nat) : (b.setFlips t line l).spm.poison = b.spm.poison := rfl
theorem Blk.spmPut_poison (b : Blk) (t a : Nat) (bs : List Byte) : (b.spmPut t a bs).spm.poison = b.spm.poison := rfl
theorem Blk.lineFlips_setFlips (b : Blk) (t line : Nat) (l : List Nat) : (b.setFlips t line l).lineFlips t line = l :=
  Tbl.get_put_same (dflt []) b.spm.flips (lineKey t line) l

theorem Blk.lineZeroed_shows (b : Blk) (t line : Nat) :
    (b.lineZeroed t line).spmGet t (line * 32) 32 = List.replicate 32 0 ∧ (b.lineZeroed t line).lineFlips t line = [] ∧
    (b.lineZeroed t line).spm.poison = b.spm.poison ∧ (b.lineZeroed t line).flag SPM.IRQ_RAW_UE_EMPTY = true ∧
    b.scratchKept (b.lineZeroed t line) t (line * 32) 32 := by
  unfold Blk.lineZeroed
  generalize zeroed : (b.spmPut t (line * 32) (List.replicate 32 0)).setFlips t line [] = z
  have spm : (((z.bumpSat (SPM.UE_EMPTY t)).raise SPM.IRQ_RAW_UE_EMPTY).captureOwnFree Page.SPM 0x02).spm = z.spm :=
    (((z.keepsBehind_bumpSat _).raise _).captureOwnFree _ _).proj (·.spm) (fun _ _ _ _ _ => rfl)
  have bytes : z.spm.bytes = (b.spmPut t (line * 32) (List.replicate 32 0)).spm.bytes := by
    rw [← zeroed, Blk.setFlips_bytes]
  have poison : z.spm.poison = b.spm.poison := by rw [← zeroed, Blk.setFlips_poison, Blk.spmPut_poison]
  have flips : z.lineFlips t line = [] := by rw [← zeroed, Blk.lineFlips_setFlips]
  refine ⟨?_, ?_, (congrArg (·.poison) spm).trans poison, Blk.raised_ueEmpty _, fun k outside => ?_⟩
  · rw [Blk.spmGet, spm, bytes]
    exact b.spmGet_spmPut t (line * 32) (List.replicate 32 0)
  · rw [Blk.lineFlips, spm]
    exact flips
  · rw [spm, bytes]
    exact get_spmPut_outside b t (line * 32) k (List.replicate 32 0) outside

theorem Blk.each_fixed {α : Type} {f : Blk → α → Blk} {b : Blk} (l : List α) (h : ∀ i ∈ l, f b i = b) : b.each l f = b := by
  induction l with
  | nil => rfl
  | cons i l ih => rw [Blk.each_cons, h i List.mem_cons_self, ih (fun j hj => h j (List.mem_cons_of_mem _ hj))]

theorem Blk.lineFlips_of_none {b : Blk} (h : b.spm.flips = []) (t line : Nat) : b.lineFlips t line = [] := by
  rw [Blk.lineFlips, h]
  rfl

/-- Settles O26: attributes, the end of re-initialisation, the scrubber's row and its line. -/
theorem granulesAreReinitialisedAndScrubbed : Obligations.GranulesAreReinitialisedAndScrubbed := by
  unfold Obligations.GranulesAreReinitialisedAndScrubbed
  refine ⟨fun s a t g v wf ne hg => ?_, fun s t g wf => ?_, ?_, fun b t line good ready => ⟨Blk.scrubLine_correctable good ready, ?_⟩⟩
  · have wf' := wf
    simp only [Bool.and_eq_true, decide_eq_true_eq] at wf'
    obtain ⟨⟨⟨-, ht⟩, hgr⟩, hv⟩ := wf'
    have written := s.node.writeBits_block a _ 2 v (attr_row t ht (g / 16) (by omega)).2 hg
    have word : s.node.b.fieldWord Page.SPM (0x100 + 0x10 * t + 4 * (g / 16)) (2 * (g % 16)) 2 v = _ := s.blk.fieldWord_attr v ht hgr
    have one : s.node.b.writeAttr t (g / 16) _ = _ := s.blk.writeAttr_one hv ne
    rw [word, Blk.writeBlock_attr _ _ _ ht hgr, one] at written
    obtain ⟨stored, refused, others, pages, flash, bulk, spm⟩ := (s.blk.markChanged Page.SPM).attrStep_shows ht hgr hv
    exact completes_of_node (f := fun n => n.writeBits a Page.SPM (0x100 + 0x10 * t + 4 * (g / 16)) (2 * (g % 16)) 2 v) rfl wf written ⟨stored, refused, others, pages, rfl, flash, bulk, spm⟩
  · exact ⟨exec_blk (f := fun b => b.initDone t g) rfl wf rfl, Blk.finishInit_of_ready, Blk.finishInit_shows⟩
  · intro s upsets wf b act en row tiles seen
    refine ⟨exec_blk (f := fun b => (b.struck upsets).scrubStep) rfl wf (if_pos ?_), fun none => ?_⟩
    · rw [Bool.and_eq_true]
      exact ⟨act, en⟩
    · exact Blk.each_fixed _ (fun t _ => Blk.each_fixed _ (fun line _ => Blk.scrubLine_clean (Blk.lineFlips_of_none none t line)))
  · intro found voted
    have step := Blk.scrubLine_uncorrectable good ready found
    obtain ⟨bytes, poison⟩ := b.tagVote_lines t (line / 8)
    refine ⟨fun empty => ?_, fun other => step.trans (if_neg (by simpa using other))⟩
    rw [if_pos (by simpa using empty)] at step
    obtain ⟨zero, flips, poison', flagged, kept⟩ := (b.tagVote t (line / 8)).lineZeroed_shows t line
    rw [step]
    refine ⟨zero, ⟨?_, flips⟩, flagged, fun k outside => ?_⟩
    · unfold Blk.isPoisoned
      rw [poison', poison]
      exact good
    · rw [kept k outside, bytes]

end Sys2Proof.Machine
end

section
/-! PROOFS. Tags, waits and their watchdog (spec/07 R153 to R160). -/

namespace Sys2Proof.Machine

/-! ### Tiles -/

theorem Blk.tile_setTile_ne (b : Blk) {t u : Nat} (x : TileSt) (h : u ≠ t) : (b.setTile t x).tile u = b.tile u := by
  show ((b.tiles.set t x)[u]?).getD noTile = _
  rw [List.getElem?_set_ne (Ne.symm h)]
  rfl

/-- A tile of the node reads as it was set; there is no other. -/
theorem Blk.tile_setTile_same {b : Blk} {t : Nat} (x : TileSt) (h : t < b.tiles.length) : (b.setTile t x).tile t = x := by
  show ((b.tiles.set t x)[t]?).getD noTile = _
  rw [List.getElem?_set_self h]
  rfl

theorem Blk.tile_none {b : Blk} {t : Nat} (h : b.tiles.length ≤ t) : b.tile t = noTile := by
  show (b.tiles[t]?).getD noTile = _
  rw [List.getElem?_eq_none h]
  rfl

/-- The waits at a tile once those whose condition holds are met. -/
theorem Blk.markMet_waits (b : Blk) (t : Nat) :
    ((b.markMet t).tile t).waits = (b.tile t).waits.map (fun w => { w with met := w.met || b.waitCond t w }) := by
  unfold Blk.markMet
  extract_lets ws
  split
  · next none =>
    have empty : (b.tile t).waits = [] := List.isEmpty_iff.mp none
    rw [empty]
    rfl
  · next some =>
    have inside : t < b.tiles.length := by
      by_contra out
      exact some (by simp [ws, Blk.tile_none (by omega : b.tiles.length ≤ t), noTile])
    rw [Blk.tile_setTile_same _ inside]

/-- Settles the release of waits. -/
theorem Blk.mem_releasable {b : Blk} {t slot : Nat} {w : Wait} (mem : w ∈ (b.tile t).waits) (here : w.slot = slot)
    (access : w.access.isSome = true) (met : (w.met || b.waitCond t w) = true) :
    { w with met := true } ∈ (b.markMet t).releasable t slot := by
  refine List.mem_filter.mpr ⟨?_, by simp [here, access]⟩
  rw [b.markMet_waits t]
  exact List.mem_map.mpr ⟨w, mem, by rw [met]⟩

theorem Blk.releasable_met {b : Blk} {t slot : Nat} {w : Wait} (h : w ∈ b.releasable t slot) : w.slot = slot ∧ w.met = true := by
  have keeps := (List.mem_filter.mp h).2
  simp only [Bool.and_eq_true, beq_iff_eq] at keeps
  exact keeps.1

theorem Blk.mem_expiredWaits {b : Blk} {t : Nat} {w : Wait} (h : w ∈ b.expiredWaits t) :
    w ∈ (b.tile t).waits ∧ b.waitExpired t w = true := by
  unfold Blk.expiredWaits at h
  obtain ⟨r, -, batch⟩ := List.mem_flatMap.mp h
  exact List.mem_filter.mp (List.mem_filter.mp (List.mem_filter.mp batch).1).1

/-! ### Errors of a tile -/

theorem Blk.keepsRegs.mono {b b' : Blk} {l m : List Nat} (h : b.keepsRegs b' l) (sub : ∀ k ∈ l, k ∈ m) : b.keepsRegs b' m :=
  fun k hk => h k (fun mem => hk (sub k mem))

/-- The registers that an error of a tile writes: those of a capture, and the log's head. -/
def tileErrorKeys (t : Nat) : List Nat := (TILE.ELOG_HEAD_NEXT t).key :: captureKeys (tilePage t)

theorem Blk.keepsRegs_tileError (b : Blk) (t cause req slot : Nat) : b.keepsRegs (b.tileError t cause req slot) (tileErrorKeys t) :=
  ((b.keepsRegs_capture _ _ _ _).mono (fun _ h => List.mem_cons_of_mem _ h)).trans
    ((Blk.keepsRegs_logTile _ t cause req slot).mono (fun _ h => List.mem_singleton.mp h ▸ List.mem_cons_self))

theorem mem_tileErrorKeys {t k : Nat} :
    k ∈ tileErrorKeys t ↔ k = 0x20100 + 0x1000 * t ∨ k = 0x20018 + 0x1000 * t ∨ k = 0x20024 + 0x1000 * t ∨ k = 0x20028 + 0x1000 * t ∨
      k = 0x2002C + 0x1000 * t := by
  simp only [tileErrorKeys, captureKeys, TILE.ELOG_HEAD_NEXT, regKey, tilePage, List.mem_cons, List.not_mem_nil, or_false]
  omega

theorem pageOf_tileErrorKeys {t k : Nat} (ht : t < 16) (hk : k ∈ tileErrorKeys t) : pageOf k = tilePage t := by
  rw [mem_tileErrorKeys] at hk
  unfold pageOf tilePage
  omega

/-- A tile's interrupt fields are those of its page's header. -/
theorem tileIrq_eq (t bit : Nat) : (⟨0x20018 + 0x1000 * t, bit, 1⟩ : Fld) = hIrq (tilePage t) bit := by
  have key : 0x20018 + 0x1000 * t = regKey (tilePage t) 0x018 := by
    unfold regKey tilePage
    omega
  rw [key]
  rfl

/-- An interrupt of the tile stands as it did after an error of the tile. -/
theorem Blk.flag_tileError_irq (b : Blk) (t cause req slot : Nat) {bit : Nat} (h : bit < 31) :
    (b.tileError t cause req slot).flag ⟨0x20018 + 0x1000 * t, bit, 1⟩ = b.flag ⟨0x20018 + 0x1000 * t, bit, 1⟩ := by
  have logged := ((b.captureOwn (tilePage t) cause req).keepsRegs_logTile t cause req slot).flag
    (f := ⟨0x20018 + 0x1000 * t, bit, 1⟩) (by simp [TILE.ELOG_HEAD_NEXT])
  refine logged.trans ?_
  rw [tileIrq_eq, Blk.flag, Blk.captureOwn, Blk.get_capture_hIrq _ _ _ _ _ h, Blk.flag]

/-- What holds an expired wait in TT_INFO and TT_COORD. -/
def Blk.ttNoted (b : Blk) (t req slot : Nat) (isWrite : Bool) : Blk :=
  let b := ((b.set (TILE.TT_INFO_SLOT t) slot).set (TILE.TT_INFO_REQUESTER t) req).set (TILE.TT_INFO_KIND t) (bitNat isWrite)
  let c := coordNat b.now
  ((b.raise (TILE.TT_INFO_VALID t)).set (TILE.TT_COORD_LO t) c).set (TILE.TT_COORD_HI t) (c / 2 ^ 32)

theorem Blk.captureTimeout_eq (b : Blk) (t req slot : Nat) (isWrite : Bool) :
    b.captureTimeout t req slot isWrite =
      (if (b.raise (TILE.IRQ_RAW_TAG_TIMEOUT t)).flag (TILE.TT_INFO_VALID t) then
        (b.raise (TILE.IRQ_RAW_TAG_TIMEOUT t)).raise (TILE.TT_INFO_OVERFLOW t)
      else (b.raise (TILE.IRQ_RAW_TAG_TIMEOUT t)).ttNoted t req slot isWrite).tileError t tcTimeout req slot := rfl

theorem Blk.ttNoted_shows (b : Blk) (t req slot : Nat) (isWrite : Bool) :
    (b.ttNoted t req slot isWrite).get (TILE.TT_INFO_VALID t) = 1 ∧ (b.ttNoted t req slot isWrite).get (TILE.TT_INFO_SLOT t) = slot % 2 ^ 14 ∧
    (b.ttNoted t req slot isWrite).get (TILE.TT_INFO_REQUESTER t) = req % 16 ∧
    (b.ttNoted t req slot isWrite).get (TILE.TT_INFO_KIND t) = bitNat isWrite ∧
    (b.ttNoted t req slot isWrite).get (TILE.IRQ_RAW_TAG_TIMEOUT t) = b.get (TILE.IRQ_RAW_TAG_TIMEOUT t) := by
  have kind : bitNat isWrite % 2 ^ 1 = bitNat isWrite := by cases isWrite <;> rfl
  unfold Blk.ttNoted Blk.raise
  simp -implicitDefEqProofs (disch := (simp only [Fld.fits, Fld.apart, TILE.TT_INFO_SLOT, TILE.TT_INFO_REQUESTER, TILE.TT_INFO_KIND,
    TILE.TT_INFO_VALID, TILE.TT_COORD_LO, TILE.TT_COORD_HI, TILE.IRQ_RAW_TAG_TIMEOUT]; omega)) only [Blk.get_set_apart, Blk.get_set_same]
  exact ⟨rfl, rfl, rfl, kind, trivial⟩

/-- What the capture of an expired wait shows. -/
theorem Blk.captureTimeout_shows (b : Blk) (t req slot : Nat) (isWrite : Bool) :
    (b.captureTimeout t req slot isWrite).flag (TILE.IRQ_RAW_TAG_TIMEOUT t) = true ∧
    (b.flag (TILE.TT_INFO_VALID t) = false →
      (b.captureTimeout t req slot isWrite).flag (TILE.TT_INFO_VALID t) = true ∧
      (b.captureTimeout t req slot isWrite).get (TILE.TT_INFO_SLOT t) = slot % 2 ^ 14 ∧
      (b.captureTimeout t req slot isWrite).get (TILE.TT_INFO_REQUESTER t) = req % 16 ∧
      (b.captureTimeout t req slot isWrite).get (TILE.TT_INFO_KIND t) = bitNat isWrite) ∧
    (b.flag (TILE.TT_INFO_VALID t) = true → (b.captureTimeout t req slot isWrite).flag (TILE.TT_INFO_OVERFLOW t) = true ∧
      (b.captureTimeout t req slot isWrite).get (TILE.TT_INFO_SLOT t) = b.get (TILE.TT_INFO_SLOT t)) := by
  have apart (f : Fld) (hf : f.fits) (key : f.key = 0x20050 + 0x1000 * t) :
      (b.raise (TILE.IRQ_RAW_TAG_TIMEOUT t)).get f = b.get f :=
    b.get_set_apart _ f 1 hf (.inl (by simp [key, TILE.IRQ_RAW_TAG_TIMEOUT]))
  have valid : (b.raise (TILE.IRQ_RAW_TAG_TIMEOUT t)).flag (TILE.TT_INFO_VALID t) = b.flag (TILE.TT_INFO_VALID t) := by
    rw [Blk.flag, apart _ (by simp [Fld.fits, TILE.TT_INFO_VALID]) rfl, Blk.flag]
  have info : b.get (TILE.TT_INFO_SLOT t) = (b.raise (TILE.IRQ_RAW_TAG_TIMEOUT t)).get (TILE.TT_INFO_SLOT t) :=
    (apart _ (by simp [Fld.fits, TILE.TT_INFO_SLOT]) rfl).symm
  have raised : (b.raise (TILE.IRQ_RAW_TAG_TIMEOUT t)).get (TILE.IRQ_RAW_TAG_TIMEOUT t) = 1 :=
    b.get_raise_same _ (by simp [Fld.fits, TILE.IRQ_RAW_TAG_TIMEOUT]) (by simp [TILE.IRQ_RAW_TAG_TIMEOUT])
  rw [Blk.captureTimeout_eq, valid, info]
  generalize b.raise (TILE.IRQ_RAW_TAG_TIMEOUT t) = r at *
  have kept (c : Blk) {f : Fld} (key : f.key = 0x20050 + 0x1000 * t) : (c.tileError t tcTimeout req slot).get f = c.get f :=
    (c.keepsRegs_tileError t tcTimeout req slot).get (by rw [mem_tileErrorKeys, key]; omega)
  have irq (c : Blk) (h : c.get (TILE.IRQ_RAW_TAG_TIMEOUT t) = 1) : (c.tileError t tcTimeout req slot).flag (TILE.IRQ_RAW_TAG_TIMEOUT t) = true :=
    (c.flag_tileError_irq t tcTimeout req slot (bit := 2) (by decide)).trans (by rw [Blk.flag]; exact bne_iff_ne.mpr (h.trans_ne (by decide)))
  cases hv : b.flag (TILE.TT_INFO_VALID t)
  · obtain ⟨one, slot', req', kind, irq'⟩ := r.ttNoted_shows t req slot isWrite
    rw [if_neg (by decide)]
    refine ⟨irq _ (irq'.trans raised), fun _ => ⟨?_, (kept _ rfl).trans slot', (kept _ rfl).trans req', (kept _ rfl).trans kind⟩, fun on => absurd on (by decide)⟩
    rw [Blk.flag, kept _ rfl, one]
    rfl
  · rw [if_pos rfl]
    have still (f : Fld) (hf : f.fits) (h : (TILE.TT_INFO_OVERFLOW t).apart f) : (r.raise (TILE.TT_INFO_OVERFLOW t)).get f = r.get f :=
      r.get_set_apart _ f 1 hf h
    refine ⟨irq _ ((still _ (by simp [Fld.fits, TILE.IRQ_RAW_TAG_TIMEOUT]) (.inl (by simp [TILE.TT_INFO_OVERFLOW, TILE.IRQ_RAW_TAG_TIMEOUT]))).trans raised),
      fun off => absurd off (by decide), fun _ => ⟨?_, (kept _ rfl).trans (still _ (by simp [Fld.fits, TILE.TT_INFO_SLOT])
        (by simp [Fld.apart, TILE.TT_INFO_SLOT, TILE.TT_INFO_OVERFLOW]))⟩⟩
    rw [Blk.flag, kept _ rfl]
    exact r.flag_raise_same _ (by simp [Fld.fits, TILE.TT_INFO_OVERFLOW]) (by simp [TILE.TT_INFO_OVERFLOW])

/-- Settles O25: tag-only operations, releases, and the watchdog's captures, each by the lemma of its part. -/
theorem tagsWaitReleaseAndTimeOut : Obligations.TagsWaitReleaseAndTimeOut := by
  unfold Obligations.TagsWaitReleaseAndTimeOut
  refine ⟨?_, fun s t slot wf => ?_, ?_, fun b t w port => if_pos port, fun b t req slot isWrite _ => b.captureTimeout_shows t req slot isWrite⟩
  · intro s t slot full upsets ht hs ok b act mapped read
    have wf : (t < 16 && slot < 0x4000 && upsets.all upsetOk) = true := by
      rw [ok, decide_eq_true ht, decide_eq_true (by omega : slot < 0x4000)]
      rfl
    refine ⟨exec_blk (f := fun b => (b.struck upsets).tagOnly t slot full) rfl wf (if_pos ?_), Blk.isFull_setTag b t slot full,
      fun same => if_pos (beq_iff_eq.mpr same)⟩
    have on : (upsets.foldl Blk.strike s.blk).active (tilePage t) = true := act
    have out : (upsets.foldl Blk.strike s.blk).tstate t ≠ tsMappedOut := mapped
    simp [Blk.struck, ht, hs, on, out]
  · refine ⟨exec_blk (f := fun b => b.releaseWaits t slot) rfl wf rfl, fun w mem here access met => Blk.mem_releasable mem here access met,
      fun w mem => Blk.releasable_met mem⟩
  · intro s t req ht hr on late named captured
    have wf : (t < 16 && req < 16) = true := by rw [decide_eq_true ht, decide_eq_true hr]; rfl
    refine ⟨?_, fun w mem => Blk.mem_expiredWaits mem⟩
    split
    · next some => exact exec_blk (f := fun b => b.tagTimeout t req) rfl wf (if_neg (by simpa [ht, on, named, late] using some))
    · next none => exact exec_blk_same (f := fun b => b.tagTimeout t req) rfl wf (if_pos (by simpa [ht, on, named, late] using none))

end Sys2Proof.Machine
end

section
/-! PROOFS. Compare-and-count, groups, tile states and the debug window (spec/07 R169 to R175). -/

namespace Sys2Proof.Machine

/-! ### Registers of a tile's page as written -/

theorem Blk.writeBlock_tile (b : Blk) (a : Agent) {t : Nat} (off : Nat) (v : Word) (ht : t < 16) : b.writeBlock a (tilePage t) off v =
    if off < 0x040 then b.writeHeader (tilePage t) off v
    else if (off == 0x040) = true then b.writeTctrl t v.toNat
    else if (off == 0x050) = true then b.writeTtInfo t v
    else if (off == 0x0A0) = true then (if bitAt v.toNat 0 = true then b.ccPost t (b.ccDescBytes t) false else b)
    else b.storeKey (b.reachKey (tilePage t) off) v := by
  interval_cases t <;> rfl

theorem tile_block : ∀ t < 16, blockRegister (tilePage t) 0x0A0 = true ∧ blockRegister (tilePage t) 0x040 = true := by decide

/-! ### Compare-and-count -/

theorem Blk.ccPost_full {b : Blk} {t : Nat} {d : List Byte} {byGroup : Bool} (full : 5 ≤ (b.tile t).cc.length) :
    b.ccPost t d byGroup = b.ccError t 2 byGroup := if_pos full

theorem Blk.ccPost_bad {b : Blk} {t : Nat} {d : List Byte} {byGroup : Bool} (room : (b.tile t).cc.length < 5) (bad : ccGood d = false) :
    b.ccPost t d byGroup = b.ccError t 1 byGroup := by
  rw [Blk.ccPost, if_neg (by omega), if_pos (by simp [bad])]

theorem Blk.ccPost_good {b : Blk} {t : Nat} {d : List Byte} {byGroup : Bool} (room : (b.tile t).cc.length < 5) (good : ccGood d = true) :
    b.ccPost t d byGroup = if b.tstate t = tsMappedOut then b.ccError t 5 byGroup
      else (b.setTile t { b.tile t with cc := (b.tile t).cc ++ [⟨d, byGroup⟩] }).ccShow t := by
  rw [Blk.ccPost, if_neg (by omega), if_neg (by simp [good])]
  simp only [beq_iff_eq]

/-- A descriptor posted by a running group, or by a granted write of CC_GO. -/
theorem exec_ccGo (s : State) (a : Agent) (t : Nat) (byGroup : Bool) (desc : List Byte)
    (wf : (agentOk a && t < 16 && (!byGroup || desc.length == 32)) = true)
    (group : byGroup = true → s.blk.powered (tilePage t) = true ∧ s.blk.tstate t = tsRun)
    (grant : byGroup = false → s.blk.granted a (tilePage t) 0x0A0 1) :
    exec (.ccGo a t byGroup desc) s = .next (s.withBlk (if byGroup then s.blk.ccPost t desc true
      else (s.blk.ccPost t (s.blk.ccDescBytes t) false).answered a (tilePage t) 0x0A0)) := by
  have ht : t < 16 := by
    simp only [Bool.and_eq_true, decide_eq_true_eq] at wf
    exact wf.1.2
  cases byGroup
  · refine exec_next (f := fun n => n.ccGo a t false desc) rfl wf ?_
    refine (s.node.writeReg_block a 1 (tile_block t ht).1 (grant rfl)).trans ?_
    rw [Blk.writeBlock_tile _ _ _ _ ht]
    rfl
  · obtain ⟨on, run⟩ := group rfl
    exact exec_blk (f := fun b => b.when (b.powered (tilePage t) && b.tstate t == tsRun) (fun b => b.ccPost t desc true)) rfl wf
      (if_pos (by simp [on, run]))

/-- Settles O27. -/
theorem compareAndCountQueuesAndCompletes : Obligations.CompareAndCountQueuesAndCompletes := by
  unfold Obligations.CompareAndCountQueuesAndCompletes
  refine ⟨?_, ?_⟩
  · intro s a t byGroup desc wf group grant d ends
    have posted : exec (.ccGo a t byGroup desc) s = .next (s.withBlk (ends (s.blk.ccPost t d byGroup))) := by
      rw [exec_ccGo s a t byGroup desc wf group grant]
      cases byGroup <;> rfl
    refine ⟨fun room good => ?_, fun room bad => ?_, fun full => ?_⟩
    · rw [posted, Blk.ccPost_good room good]
    · rw [posted, Blk.ccPost_bad room bad]
    · rw [posted, Blk.ccPost_full full]
  · intro s t j rest ht act queue voted
    have wf : decide (t < 16) = true := decide_eq_true ht
    have done {b : Blk} (effect : s.blk.ccDone t = b) : exec (.ccDone t) s = .next (s.withBlk b) :=
      exec_blk (f := fun b => b.ccDone t) rfl wf effect
    refine ⟨fun slot kind unmet => done ?_, fun key src b1 b2 met readKey readSrc => ?_⟩
    · simp only [Blk.ccDone, queue, act, Bool.not_true, Bool.false_eq_true, if_false]
      rw [show (s.blk.tagVotes t (ccSlots j.desc)).ccUnmet t j.desc = some (slot, kind) from unmet]
    · intro res wrote counted tagged
      refine done ?_
      simp only [Blk.ccDone, queue, act, Bool.not_true, Bool.false_eq_true, if_false]
      rw [show (s.blk.tagVotes t (ccSlots j.desc)).ccUnmet t j.desc = none from met]
      have readKey : ((s.blk.tagVotes t (ccSlots j.desc)).clearUnitWaits t t 11).spmRead t (ccKey j.desc) (ccKeyBytes j.desc) 11 = (0, key, b1) :=
        readKey
      simp only [readKey, readSrc, beq_self_eq_true, if_true, bne_self_eq_false, Bool.false_eq_true, if_false, beq_iff_eq]
      rfl

/-! ### Groups -/

/-- A part that every step leaves. -/
theorem Blk.each_part {α β : Type} {f : Blk → α → Blk} (part : Blk → β) (hf : ∀ b i, part (f b i) = part b) (l : List α) (b : Blk) :
    part (b.each l f) = part b := by
  induction l generalizing b with
  | nil => rfl
  | cons i l ih => rw [Blk.each_cons, ih, hf]

theorem Blk.setTile_sched (b : Blk) (t : Nat) (x : TileSt) : (b.setTile t x).sched = b.sched := rfl
theorem Blk.setTile_ep (b : Blk) (t : Nat) (x : TileSt) : (b.setTile t x).ep = b.ep := rfl
theorem Blk.setTile_word (b : Blk) (t : Nat) (x : TileSt) (k : Nat) : (b.setTile t x).word k = b.word k := rfl
theorem Blk.setTile_get (b : Blk) (t : Nat) (x : TileSt) (f : Fld) : (b.setTile t x).get f = b.get f := rfl

/-- The registers of a tile that starts a group. -/
def Blk.groupShown (b : Blk) (t g : Nat) : Blk :=
  ((b.set (TILE.STATUS_TSTATE t) tsRun).set (TILE.GROUP_STATUS_GROUP t) g).set (TILE.GROUP_STATUS_HALT_CAUSE t) 0

theorem Blk.startTile_eq (b : Blk) (t g : Nat) : b.startTile t g = (b.groupShown t g).setTile t
    { (b.groupShown t g).tile t with canary := if isCanaryGroup g then some 0xFFFFFFFF else none } := rfl

theorem Blk.startTile_sched (b : Blk) (t g : Nat) : (b.startTile t g).sched = b.sched := by
  rw [Blk.startTile_eq, Blk.setTile_sched, Blk.groupShown, Blk.set_sched, Blk.set_sched, Blk.set_sched]

theorem Blk.startTile_ep (b : Blk) (t g : Nat) : (b.startTile t g).ep = b.ep := by
  rw [Blk.startTile_eq, Blk.setTile_ep, Blk.groupShown, Blk.set_ep, Blk.set_ep, Blk.set_ep]

theorem Blk.startInst_eq {b : Blk} {k : Nat} {i : Inst} (at_ : b.sched.insts[k]? = some i) (may : mayStartInst b.sched.insts k i = true)
    (act : b.active Page.SCHED = true) (early : b.instAge i ≤ i.lastStart)
    (idle : ∀ t, t ∈ tilesOf i.mask → b.powered (tilePage t) = true ∧ b.tstate t = tsIdle) :
    b.startInst k = if (tilesOf i.mask).all (fun t => b.tileReady t) then
        (b.each (tilesOf i.mask) (fun b t => b.startTile t i.group)).setInsts
          (setNth b.sched.insts k { i with state := .running, startedAt := b.ep.line, done := 0 })
      else (b.missInst i).setInsts (setNth b.sched.insts k { i with state := .missed, why := (gapJob, 0x01) }) := by
  have allIdle : (tilesOf i.mask).all (fun t => b.powered (tilePage t) && b.tstate t == tsIdle) = true :=
    List.all_eq_true.mpr (fun t ht => by
      obtain ⟨on, still⟩ := idle t ht
      simp [on, still])
  have sched := Blk.each_part (f := fun b t => b.startTile t i.group) (fun b => b.sched) (fun b t => b.startTile_sched t i.group) (tilesOf i.mask) b
  have ep := Blk.each_part (f := fun b t => b.startTile t i.group) (fun b => b.ep) (fun b t => b.startTile_ep t i.group) (tilesOf i.mask) b
  unfold Blk.startInst
  rw [at_]
  dsimp only at sched ep ⊢
  rw [if_neg (by simp [may, act, early]), if_neg (by rw [allIdle]; decide), sched, ep]

theorem Blk.startTile_shows (b : Blk) {t : Nat} (g : Nat) (ht : t < 16) :
    (b.startTile t g).tstate t = tsRun ∧ (b.startTile t g).get (TILE.GROUP_STATUS_GROUP t) = g % 65536 ∧
    (b.startTile t g).get (TILE.GROUP_STATUS_HALT_CAUSE t) = 0 ∧ b.keepsOtherPages (b.startTile t g) [tilePage t] := by
  have page {off : Nat} (ho : off < 0x1000) : pageOf (0x20000 + off + 0x1000 * t) ∈ [tilePage t] := List.mem_singleton.mpr (pageOf_tile ht ho)
  have regs : b.keepsOtherPages (b.groupShown t g) [tilePage t] :=
    (((b.keepsOtherPages_refl _).set (f := TILE.STATUS_TSTATE t) _ (page (off := 0x014) (by decide))).set (f := TILE.GROUP_STATUS_GROUP t) _
      (page (off := 0x048) (by decide))).set (f := TILE.GROUP_STATUS_HALT_CAUSE t) _ (page (off := 0x048) (by decide))
  unfold Blk.tstate
  rw [Blk.startTile_eq, Blk.setTile_get, Blk.setTile_get, Blk.setTile_get]
  unfold Blk.groupShown at regs ⊢
  simp -implicitDefEqProofs (disch := (simp only [Fld.fits, Fld.apart, TILE.STATUS_TSTATE, TILE.GROUP_STATUS_GROUP, TILE.GROUP_STATUS_HALT_CAUSE]; omega))
    only [Blk.get_set_apart, Blk.get_set_same]
  exact ⟨rfl, rfl, rfl, fun k hk => (Blk.setTile_word _ _ _ _).trans (regs k hk)⟩

/-- The registers of a tile whose group ends. -/
theorem Blk.groupEnded_shows (b : Blk) (t : Nat) (x : TileSt) :
    (((b.set (TILE.STATUS_TSTATE t) tsIdle).raise (TILE.IRQ_RAW_GROUP_DONE t)).setTile t x).tstate t = tsIdle ∧
    (((b.set (TILE.STATUS_TSTATE t) tsIdle).raise (TILE.IRQ_RAW_GROUP_DONE t)).setTile t x).flag (TILE.IRQ_RAW_GROUP_DONE t) = true := by
  rw [Blk.tstate, Blk.setTile_get, Blk.flag, Blk.setTile_get, Blk.raise]
  simp -implicitDefEqProofs (disch := (simp only [Fld.fits, Fld.apart, TILE.STATUS_TSTATE, TILE.IRQ_RAW_GROUP_DONE]; omega))
    only [Blk.get_set_apart, Blk.get_set_same]
  exact ⟨rfl, rfl⟩

theorem Blk.setTile_powered (b : Blk) (t : Nat) (x : TileSt) (page : Nat) : (b.setTile t x).powered page = b.powered page := rfl

theorem Blk.powered_groupEnded (b : Blk) (t : Nat) (x : TileSt) (page : Nat) :
    (((b.set (TILE.STATUS_TSTATE t) tsIdle).raise (TILE.IRQ_RAW_GROUP_DONE t)).setTile t x).powered page = b.powered page :=
  (Blk.setTile_powered _ _ _ _).trans (((b.keepsBehind_set _ _).raise _).proj (fun b => b.powered page) (fun _ _ _ _ _ => rfl))

/-- Settles O28. -/
theorem groupsStartTogetherAndEnd : Obligations.GroupsStartTogetherAndEnd := by
  unfold Obligations.GroupsStartTogetherAndEnd
  refine ⟨fun s => exec_blk (f := fun b => b.startAll) rfl rfl rfl, fun b k i at_ may act early idle => ?_,
    fun b t g ht => b.startTile_shows g ht, ?_⟩
  · have step := Blk.startInst_eq at_ may act early idle
    refine ⟨fun ready => step.trans (if_pos (List.all_eq_true.mpr ready)), fun ⟨t, ht, refuses⟩ => step.trans (if_neg (fun all => ?_))⟩
    exact absurd (List.all_eq_true.mp all t ht) (by simp [refuses])
  · intro s t ht on run g idle ended signed
    have safe : ended.powered Page.SAFE = s.blk.powered Page.SAFE := s.blk.powered_groupEnded t _ Page.SAFE
    refine ⟨exec_blk (f := fun b => b.groupEnd t) rfl (decide_eq_true ht) ((if_pos (by simp [ht, on, run])).trans ?_),
      s.blk.groupEnded_shows t _⟩
    simp only [signed, ← safe]
    rfl

end Sys2Proof.Machine
end

section
/-! PROOFS. Tile states and the debug window (spec/07 R148, R172 to R175). -/

namespace Sys2Proof.Machine

/-! ### Memories that stand -/

/-- Module flash, bulk memory and the scratchpads hold the same bytes. -/
def Blk.keepsMemory (b b' : Blk) : Prop := b'.flash = b.flash ∧ b'.bulk.bytes = b.bulk.bytes ∧ b'.spm.bytes = b.spm.bytes

theorem Blk.keepsMemory_refl (b : Blk) : b.keepsMemory b := ⟨rfl, rfl, rfl⟩

theorem Blk.keepsMemory.trans {a b c : Blk} (h : a.keepsMemory b) (k : b.keepsMemory c) : a.keepsMemory c := by
  obtain ⟨flash, bulk, spm⟩ := h
  obtain ⟨flash', bulk', spm'⟩ := k
  exact ⟨flash'.trans flash, bulk'.trans bulk, spm'.trans spm⟩

theorem Blk.keepsMemory_set (b : Blk) (f : Fld) (v : Nat) : b.keepsMemory (b.set f v) := ⟨rfl, rfl, rfl⟩
theorem Blk.keepsMemory_setTile (b : Blk) (t : Nat) (x : TileSt) : b.keepsMemory (b.setTile t x) := ⟨rfl, rfl, rfl⟩
theorem Blk.keepsMemory_emitAll (b : Blk) (es : List OutEvent) : b.keepsMemory (b.emitAll es) := ⟨rfl, rfl, rfl⟩
theorem Blk.keepsMemory_failJobs (b : Blk) (p : Inst → Bool) (why : Nat × Nat) : b.keepsMemory (b.failJobs p why) := ⟨rfl, rfl, rfl⟩

theorem Blk.keepsMemory.set {b b' : Blk} (h : b.keepsMemory b') (f : Fld) (v : Nat) : b.keepsMemory (b'.set f v) := h.trans (b'.keepsMemory_set f v)
theorem Blk.keepsMemory.setTile {b b' : Blk} (h : b.keepsMemory b') (t : Nat) (x : TileSt) : b.keepsMemory (b'.setTile t x) :=
  h.trans (b'.keepsMemory_setTile t x)

theorem Blk.keepsBehind.memory {b b' : Blk} (h : b.keepsBehind b') : b.keepsMemory b' :=
  ⟨h.proj (·.flash) (fun _ _ _ _ _ => rfl), h.proj (·.bulk.bytes) (fun _ _ _ _ _ => rfl), h.proj (·.spm.bytes) (fun _ _ _ _ _ => rfl)⟩

theorem Blk.keepsBesideLog.memory {b b' : Blk} (h : b.keepsBesideLog b') : b.keepsMemory b' :=
  ⟨h.proj (·.flash) (fun _ _ _ => rfl), h.proj (·.bulk.bytes) (fun _ _ _ => rfl), h.proj (·.spm.bytes) (fun _ _ _ => rfl)⟩

theorem Blk.keepsMemory.node {n : Node} {b : Blk} (h : n.b.keepsMemory b) : n.sameMemory { n with b := b } := ⟨rfl, h⟩

/-! ### The fields of TCTRL -/

theorem regRow_tctrl : ∀ t < 16, (regRow (tilePage t) 0x040).map (fun r => r.rw) = some 1 := by decide

theorem regKey_tctrl (t : Nat) : regKey (tilePage t) 0x040 = (TILE.TCTRL_MAP_OUT t).key := by
  show (0x20 + t) * 4096 + 0x040 = 0x20040 + 0x1000 * t
  omega

theorem Blk.rwWord_tctrl (b : Blk) {t : Nat} (ht : t < 16) : b.rwWord (tilePage t) 0x040 = (b.word (TILE.TCTRL_MAP_OUT t).key &&& 1).toNat := by
  have row := regRow_tctrl t ht
  rw [Option.map_eq_some_iff] at row
  obtain ⟨r, row, rw'⟩ := row
  have reach : b.reachKey (tilePage t) 0x040 = (TILE.TCTRL_MAP_OUT t).key := by
    rw [← regKey_tctrl]
    interval_cases t <;> rfl
  unfold Blk.rwWord
  rw [row, reach]
  dsimp only
  rw [rw']
  rfl

/-- The word of a command that sets one bit of TCTRL carries MAP_OUT as it stands, and no other bit. -/
theorem Blk.bitAt_tctrlWord (b : Blk) {t lo i : Nat} (v : Nat) (ht : t < 16) (hi : i < 32) (ne : i ≠ lo) :
    bitAt (b.fieldWord (tilePage t) 0x040 lo 1 v).toNat i = (decide (i = 0) && b.flag (TILE.TCTRL_MAP_OUT t)) := by
  have map : b.flag (TILE.TCTRL_MAP_OUT t) = bitAt (b.word (TILE.TCTRL_MAP_OUT t).key).toNat 0 := b.flag_eq_bitAt _ 0
  rw [Blk.fieldWord, bitAt_ofNat_putBits_ne _ _ hi (by omega), b.rwWord_tctrl ht, bitAt_and_toNat, map]
  by_cases zero : i = 0
  · subst zero
    simp [bitAt, bitsAt]
  · have none : bitAt (1 : Word).toNat i = false := by
      rw [bitAt_eq_testBit]
      exact Nat.testBit_lt_two_pow (Nat.one_lt_two_pow zero)
    rw [none, decide_eq_false zero, Bool.and_false, Bool.false_and]

theorem Blk.bitAt_tctrlWord_same (b : Blk) {t lo : Nat} (on : Bool) (h : lo < 32) :
    bitAt (b.fieldWord (tilePage t) 0x040 lo 1 (bitNat on)).toNat lo = on := b.bitAt_fieldWord _ _ on h

/-- A granted write of one bit of TCTRL. -/
theorem Node.writeBits_tctrl (n : Node) (a : Agent) {t lo v : Nat} (ht : t < 16)
    (hg : n.b.granted a (tilePage t) 0x040 (n.b.fieldWord (tilePage t) 0x040 lo 1 v)) {b : Blk}
    (effect : n.b.writeTctrl t (n.b.fieldWord (tilePage t) 0x040 lo 1 v).toNat = b) :
    n.writeBits a (tilePage t) 0x040 lo 1 v = { n with b := b.answered a (tilePage t) 0x040 } := by
  rw [n.writeBits_block a lo 1 v (tile_block t ht).2 hg, Blk.writeBlock_tile _ _ _ _ ht, ← effect]
  rfl

/-- TCTRL written with CANCEL alone. -/
theorem Blk.writeTctrl_cancel {b : Blk} {t v : Nat} (h3 : bitAt v 3 = true) (h1 : bitAt v 1 = false) (h0 : bitAt v 0 = false)
    (h2 : bitAt v 2 = false) (stays : (b.tileCancel t).flag (TILE.TCTRL_MAP_OUT t) = false) : b.writeTctrl t v = b.tileCancel t := by
  simp only [Blk.writeTctrl, h3, h1, h0, h2, if_true, Bool.false_eq_true, if_false, stays]

/-- With RELEASE alone. -/
theorem Blk.writeTctrl_release {b : Blk} {t v : Nat} (h3 : bitAt v 3 = false) (h1 : bitAt v 1 = true) (h0 : bitAt v 0 = false)
    (h2 : bitAt v 2 = false) (stays : (b.tileRelease t).flag (TILE.TCTRL_MAP_OUT t) = false) : b.writeTctrl t v = b.tileRelease t := by
  simp only [Blk.writeTctrl, h3, h1, h0, h2, if_true, Bool.false_eq_true, if_false, stays]

/-- With MAP_OUT alone. -/
theorem Blk.writeTctrl_out {b : Blk} {t v : Nat} (h3 : bitAt v 3 = false) (h1 : bitAt v 1 = false) (h0 : bitAt v 0 = true)
    (h2 : bitAt v 2 = false) : b.writeTctrl t v = b.tileMapOut t := by
  simp only [Blk.writeTctrl, h3, h1, h0, h2, if_true, Bool.false_eq_true, if_false]

/-- With MAP_OUT cleared. -/
theorem Blk.writeTctrl_in {b : Blk} {t v : Nat} (h3 : bitAt v 3 = false) (h1 : bitAt v 1 = false) (h0 : bitAt v 0 = false)
    (h2 : bitAt v 2 = false) (out : b.flag (TILE.TCTRL_MAP_OUT t) = true) : b.writeTctrl t v = b.tileMapIn t := by
  simp only [Blk.writeTctrl, h3, h1, h0, h2, Bool.false_eq_true, if_false, out, if_true]

/-- With SELF_CHECK alone. -/
theorem Blk.writeTctrl_check {b : Blk} {t v : Nat} (h3 : bitAt v 3 = false) (h1 : bitAt v 1 = false) (h0 : bitAt v 0 = false)
    (h2 : bitAt v 2 = true) (stays : b.flag (TILE.TCTRL_MAP_OUT t) = false) : b.writeTctrl t v = b.tileSelfCheck t := by
  simp only [Blk.writeTctrl, h3, h1, h0, h2, if_true, Bool.false_eq_true, if_false, stays]

/-! ### A group that halts -/

theorem Blk.failTile_word (b : Blk) (t : Nat) (why : Nat × Nat) (k : Nat) : (b.failTile t why).word k = b.word k := rfl

/-- The registers of a tile whose group halts. -/
def Blk.haltShown (b : Blk) (t cause : Nat) : Blk :=
  ((b.set (TILE.STATUS_TSTATE t) tsHalted).raise (TILE.IRQ_RAW_GROUP_HALTED t)).set (TILE.GROUP_STATUS_HALT_CAUSE t) cause

theorem Blk.haltGroup_run {b : Blk} {t : Nat} (cause : Nat) (run : b.tstate t = tsRun) :
    b.haltGroup t cause =
      ((((b.failTile t (gapJob, cause)).haltShown t cause).endGroupWaits t tcGroupHalted).stopEngines t).ccFault t (fun j => j.byGroup) :=
  if_pos (beq_iff_eq.mpr run)

theorem Blk.haltShown_shows (b : Blk) (t cause : Nat) :
    (b.haltShown t cause).get (TILE.STATUS_TSTATE t) = tsHalted ∧ (b.haltShown t cause).get (TILE.IRQ_RAW_GROUP_HALTED t) = 1 ∧
    (b.haltShown t cause).get (TILE.GROUP_STATUS_HALT_CAUSE t) = cause % 256 ∧
    (b.haltShown t cause).get (TILE.TCTRL_MAP_OUT t) = b.get (TILE.TCTRL_MAP_OUT t) := by
  unfold Blk.haltShown Blk.raise
  simp -implicitDefEqProofs (disch := (simp only [Fld.fits, Fld.apart, TILE.STATUS_TSTATE, TILE.IRQ_RAW_GROUP_HALTED, TILE.GROUP_STATUS_HALT_CAUSE, TILE.TCTRL_MAP_OUT]; omega))
    only [Blk.get_set_apart, Blk.get_set_same]
  exact ⟨rfl, rfl, rfl, trivial⟩

theorem Blk.endGroupWaits_get (b : Blk) (t cause : Nat) (f : Fld) : (b.endGroupWaits t cause).get f = b.get f := rfl
theorem Blk.stopEngines_get (b : Blk) (t : Nat) (f : Fld) : (b.stopEngines t).get f = b.get f := rfl

/-- What CC_STATUS and CC_BUSY show of a tile's queue, its error told. -/
def Blk.ccGone (b : Blk) (t : Nat) : Blk := ((b.ccShow t).set (TILE.CC_STATUS_LAST_ERR t) 5).raise (TILE.IRQ_RAW_CC_ERR t)

theorem Blk.ccFault_cases (b : Blk) (t : Nat) (gone : CcJob → Bool) :
    b.ccFault t gone = b ∨ ∃ ws js, b.ccFault t gone = (b.setTile t { b.tile t with cc := js, waits := ws }).ccGone t := by
  unfold Blk.ccFault
  extract_lets x head ws c
  split
  · exact .inr ⟨_, _, rfl⟩
  · exact .inl rfl

/-- A field that CC_STATUS, CC_BUSY and CC_ERR do not touch. -/
theorem Blk.ccFault_get (b : Blk) (t : Nat) (gone : CcJob → Bool) (f : Fld) (fits : f.fits)
    (apart : f.key ≠ (TILE.CC_STATUS_STATE t).key ∧ (TILE.STATUS_CC_BUSY t).apart f ∧ (TILE.IRQ_RAW_CC_ERR t).apart f) :
    (b.ccFault t gone).get f = b.get f := by
  obtain ⟨status, busy, err⟩ := apart
  have state : (TILE.CC_STATUS_STATE t).apart f := .inl (Ne.symm status)
  have queued : (TILE.CC_STATUS_QUEUED t).apart f := .inl (Ne.symm status)
  have last : (TILE.CC_STATUS_LAST_ERR t).apart f := .inl (Ne.symm status)
  obtain same | ⟨ws, js, h⟩ := b.ccFault_cases t gone
  · rw [same]
  · rw [h, Blk.ccGone, Blk.raise, Blk.get_set_apart _ _ _ _ fits err, Blk.get_set_apart _ _ _ _ fits last, Blk.ccShow,
      Blk.get_set_apart _ _ _ _ fits busy, Blk.get_set_apart _ _ _ _ fits queued, Blk.get_set_apart _ _ _ _ fits state, Blk.setTile_get]

theorem pageOf_tile_singleton {t : Nat} (ht : t < 16) {off : Nat} (ho : off < 0x1000) : pageOf (0x20000 + off + 0x1000 * t) ∈ [tilePage t] :=
  List.mem_singleton.mpr (pageOf_tile ht ho)

theorem Blk.keepsOtherPages_ccFault (b : Blk) {t : Nat} (gone : CcJob → Bool) (ht : t < 16) : b.keepsOtherPages (b.ccFault t gone) [tilePage t] := by
  obtain same | ⟨ws, js, h⟩ := b.ccFault_cases t gone
  · rw [same]
    exact b.keepsOtherPages_refl _
  · rw [h]
    have queue : b.keepsOtherPages (b.setTile t { b.tile t with cc := js, waits := ws }) [tilePage t] := fun k _ => Blk.setTile_word _ _ _ k
    generalize b.setTile t _ = c at queue ⊢
    have page {off : Nat} (ho : off < 0x1000) := pageOf_tile_singleton ht ho
    exact ((((queue.set (f := TILE.CC_STATUS_STATE t) _ (page (off := 0x0A4) (by decide))).set (f := TILE.CC_STATUS_QUEUED t) _
      (page (off := 0x0A4) (by decide))).set (f := TILE.STATUS_CC_BUSY t) _ (page (off := 0x014) (by decide))).set
      (f := TILE.CC_STATUS_LAST_ERR t) _ (page (off := 0x0A4) (by decide))).set (f := TILE.IRQ_RAW_CC_ERR t) 1 (page (off := 0x018) (by decide))

theorem Blk.keepsMemory_ccFault (b : Blk) (t : Nat) (gone : CcJob → Bool) : b.keepsMemory (b.ccFault t gone) := by
  obtain same | ⟨ws, js, h⟩ := b.ccFault_cases t gone
  · rw [same]
    exact b.keepsMemory_refl
  · rw [h]
    exact (((((b.keepsMemory_setTile _ _).set _ _).set _ _).set _ _).set _ _).set _ _

theorem Blk.setTile_part {α : Type} (b : Blk) (t : Nat) (x : TileSt) (part : TileSt → α) {v : α} (set : part x = v) (none : part noTile = v) :
    part ((b.setTile t x).tile t) = v := by
  by_cases h : t < b.tiles.length
  · rw [Blk.tile_setTile_same x h, set]
  · have out : (b.setTile t x).tiles.length ≤ t := by
      show (b.tiles.set t x).length ≤ t
      rw [List.length_set]
      omega
    rw [Blk.tile_none out, none]

theorem Blk.set_tile (b : Blk) (f : Fld) (v t : Nat) : (b.set f v).tile t = b.tile t := rfl

theorem Blk.ccFault_matrix {b : Blk} {t : Nat} (gone : CcJob → Bool) (h : (b.tile t).matrix = []) : ((b.ccFault t gone).tile t).matrix = [] := by
  obtain same | ⟨ws, js, eq⟩ := b.ccFault_cases t gone
  · rw [same, h]
  · rw [eq, Blk.ccGone, Blk.raise, Blk.set_tile, Blk.set_tile, Blk.ccShow, Blk.set_tile, Blk.set_tile, Blk.set_tile]
    exact b.setTile_part t _ (fun x => x.matrix) h rfl

theorem Blk.keepsMemory_endGroupWaits (b : Blk) (t cause : Nat) : b.keepsMemory (b.endGroupWaits t cause) := ⟨rfl, rfl, rfl⟩
theorem Blk.keepsMemory_stopEngines (b : Blk) (t : Nat) : b.keepsMemory (b.stopEngines t) := ⟨rfl, rfl, rfl⟩
theorem Blk.endGroupWaits_word (b : Blk) (t cause k : Nat) : (b.endGroupWaits t cause).word k = b.word k := rfl
theorem Blk.stopEngines_word (b : Blk) (t k : Nat) : (b.stopEngines t).word k = b.word k := rfl
theorem Blk.stopEngines_matrix (b : Blk) (t : Nat) : ((b.stopEngines t).tile t).matrix = [] := b.setTile_part t _ (fun x => x.matrix) rfl rfl

/-- What the halt of a running group shows and leaves. -/
theorem Blk.haltGroup_shows {b : Blk} {t : Nat} (cause : Nat) (ht : t < 16) (run : b.tstate t = tsRun) :
    (b.haltGroup t cause).get (TILE.STATUS_TSTATE t) = tsHalted ∧ (b.haltGroup t cause).get (TILE.IRQ_RAW_GROUP_HALTED t) = 1 ∧
    (b.haltGroup t cause).get (TILE.GROUP_STATUS_HALT_CAUSE t) = cause % 256 ∧
    (b.haltGroup t cause).get (TILE.TCTRL_MAP_OUT t) = b.get (TILE.TCTRL_MAP_OUT t) ∧ ((b.haltGroup t cause).tile t).matrix = [] ∧
    b.keepsOtherPages (b.haltGroup t cause) [tilePage t] ∧ b.keepsMemory (b.haltGroup t cause) := by
  have page {off : Nat} (ho : off < 0x1000) := pageOf_tile_singleton ht ho
  have failed : b.keepsOtherPages (b.failTile t (gapJob, cause)) [tilePage t] := fun k _ => Blk.failTile_word _ _ _ k
  have memory : b.keepsMemory (b.failTile t (gapJob, cause)) := b.keepsMemory_failJobs _ _
  have map : (b.failTile t (gapJob, cause)).get (TILE.TCTRL_MAP_OUT t) = b.get (TILE.TCTRL_MAP_OUT t) := rfl
  rw [Blk.haltGroup_run cause run]
  generalize b.failTile t (gapJob, cause) = f at *
  obtain ⟨state, irq, why, out⟩ := f.haltShown_shows t cause
  have shown : b.keepsOtherPages (f.haltShown t cause) [tilePage t] :=
    ((failed.set (f := TILE.STATUS_TSTATE t) _ (page (off := 0x014) (by decide))).set (f := TILE.IRQ_RAW_GROUP_HALTED t) 1
      (page (off := 0x018) (by decide))).set (f := TILE.GROUP_STATUS_HALT_CAUSE t) _ (page (off := 0x048) (by decide))
  have memory : b.keepsMemory (f.haltShown t cause) := ((memory.set _ _).set _ _).set _ _
  rw [map] at out
  generalize f.haltShown t cause = h at *
  have matrix := (h.endGroupWaits t tcGroupHalted).stopEngines_matrix t
  have stopped (g : Fld) : ((h.endGroupWaits t tcGroupHalted).stopEngines t).get g = h.get g :=
    (Blk.stopEngines_get _ _ _).trans (Blk.endGroupWaits_get _ _ _ _)
  have words : h.keepsOtherPages ((h.endGroupWaits t tcGroupHalted).stopEngines t) [tilePage t] := fun k _ =>
    (Blk.stopEngines_word _ _ _).trans (Blk.endGroupWaits_word _ _ _ _)
  have memory := memory.trans ((h.keepsMemory_endGroupWaits t tcGroupHalted).trans (Blk.keepsMemory_stopEngines _ t))
  generalize (h.endGroupWaits t tcGroupHalted).stopEngines t = s at *
  have kept {g : Fld} (fits : g.fits)
      (apart : g.key ≠ (TILE.CC_STATUS_STATE t).key ∧ (TILE.STATUS_CC_BUSY t).apart g ∧ (TILE.IRQ_RAW_CC_ERR t).apart g) :=
    (s.ccFault_get t (fun j => j.byGroup) g fits apart).trans (stopped g)
  refine ⟨(kept ?_ ?_).trans state, (kept ?_ ?_).trans irq, (kept ?_ ?_).trans why, (kept ?_ ?_).trans out, Blk.ccFault_matrix _ matrix,
    (shown.trans words).trans (s.keepsOtherPages_ccFault _ ht), memory.trans (s.keepsMemory_ccFault t _)⟩ <;>
    simp [Fld.fits, Fld.apart, TILE.STATUS_TSTATE, TILE.IRQ_RAW_GROUP_HALTED, TILE.GROUP_STATUS_HALT_CAUSE, TILE.TCTRL_MAP_OUT,
      TILE.CC_STATUS_STATE, TILE.STATUS_CC_BUSY, TILE.IRQ_RAW_CC_ERR]

theorem Blk.keepsOtherPages_tileError (b : Blk) {t : Nat} (cause req slot : Nat) (ht : t < 16) :
    b.keepsOtherPages (b.tileError t cause req slot) [tilePage t] :=
  (b.keepsRegs_tileError t cause req slot).otherPages (fun _ hk => List.mem_singleton.mpr (pageOf_tileErrorKeys ht hk))

theorem Blk.keepsBesideLog_tileError (b : Blk) (t cause req slot : Nat) : b.keepsBesideLog (b.tileError t cause req slot) :=
  (b.keepsBesideLog_capture _ _ _ _).trans (Blk.keepsBesideLog_logTile _ _ _ _ _)

/-- CANCEL on a tile that runs. -/
theorem Blk.tileCancel_shows {b : Blk} {t : Nat} (ht : t < 16) (run : b.tstate t = tsRun) :
    (b.tileCancel t).tstate t = tsHalted ∧ (b.tileCancel t).flag (TILE.IRQ_RAW_GROUP_HALTED t) = true ∧
    (b.tileCancel t).get (TILE.GROUP_STATUS_HALT_CAUSE t) = tcCancelled ∧ ((b.tileCancel t).tile t).matrix = [] ∧
    (b.tileCancel t).flag (TILE.TCTRL_MAP_OUT t) = b.flag (TILE.TCTRL_MAP_OUT t) ∧
    b.keepsOtherPages (b.tileCancel t) [tilePage t] ∧ b.keepsMemory (b.tileCancel t) := by
  have step : b.tileCancel t = (b.tileError t tcCancelled 0 0).haltGroup t tcCancelled := if_pos (beq_iff_eq.mpr run)
  have regs := b.keepsRegs_tileError t tcCancelled 0 0
  have pages := b.keepsOtherPages_tileError tcCancelled 0 0 ht
  have memory := (b.keepsBesideLog_tileError t tcCancelled 0 0).memory
  have run' : (b.tileError t tcCancelled 0 0).tstate t = tsRun :=
    (regs.get (by rw [mem_tileErrorKeys]; simp [TILE.STATUS_TSTATE])).trans run
  have map := regs.get (f := TILE.TCTRL_MAP_OUT t) (by rw [mem_tileErrorKeys]; simp [TILE.TCTRL_MAP_OUT])
  rw [step]
  generalize b.tileError t tcCancelled 0 0 = e at *
  obtain ⟨state, irq, why, out, matrix, pages', memory'⟩ := Blk.haltGroup_shows tcCancelled ht run'
  refine ⟨state, ?_, why, matrix, ?_, pages.trans pages', memory.trans memory'⟩
  · rw [Blk.flag, irq]
    rfl
  · rw [Blk.flag, out, map, Blk.flag]

theorem Blk.answered_memory (b : Blk) (a : Agent) (page off : Nat) : b.keepsMemory (b.answered a page off) := ⟨rfl, rfl, rfl⟩

/-- MAP_OUT cleared on a tile that is mapped out. -/
theorem Blk.tileMapIn_shows {b : Blk} {t : Nat} (ht : t < 16) (out : b.tstate t = tsMappedOut) :
    (b.tileMapIn t).tstate t = tsIdle ∧ (b.tileMapIn t).flag (TILE.TCTRL_MAP_OUT t) = false ∧ b.keepsOtherPages (b.tileMapIn t) [tilePage t] ∧
    b.keepsMemory (b.tileMapIn t) := by
  have page {off : Nat} (ho : off < 0x1000) := pageOf_tile_singleton ht ho
  have state : (b.set (TILE.TCTRL_MAP_OUT t) 0).tstate t = tsMappedOut :=
    (b.get_set_apart _ _ 0 (by simp [Fld.fits, TILE.STATUS_TSTATE]) (.inl (by simp [TILE.STATUS_TSTATE, TILE.TCTRL_MAP_OUT]))).trans out
  have step : b.tileMapIn t = (b.set (TILE.TCTRL_MAP_OUT t) 0).set (TILE.STATUS_TSTATE t) tsIdle := if_pos (beq_iff_eq.mpr state)
  rw [step, Blk.tstate, Blk.flag]
  simp -implicitDefEqProofs (disch := (simp only [Fld.fits, Fld.apart, TILE.STATUS_TSTATE, TILE.TCTRL_MAP_OUT]; omega))
    only [Blk.get_set_apart, Blk.get_set_same]
  exact ⟨rfl, rfl, ((b.keepsOtherPages_refl _).set (f := TILE.TCTRL_MAP_OUT t) 0 (page (off := 0x040) (by decide))).set (f := TILE.STATUS_TSTATE t) _
    (page (off := 0x014) (by decide)), (b.keepsMemory_set _ _).set _ _⟩

/-- What the end of a self check shows. -/
def Blk.checkShown (b : Blk) (t : Nat) (fail : Bool) : Blk :=
  ((b.set (TILE.SELF_CHECK_DONE t) 1).set (TILE.SELF_CHECK_FAIL t) (bitNat fail)).bump (TILE.SELF_CHECK_RUNS t)

/-- A failing self check reported. -/
def Blk.checkReported (b : Blk) (t : Nat) : Blk := { b with reports := b.reports ++ [⟨0x04, tilePage t, false, t⟩] }

theorem Blk.checkReported_get (b : Blk) (t : Nat) (f : Fld) : (b.checkReported t).get f = b.get f := rfl
theorem Blk.checkReported_flag (b : Blk) (t : Nat) (f : Fld) : (b.checkReported t).flag f = b.flag f := rfl
theorem Blk.checkReported_tile (b : Blk) (t u : Nat) : (b.checkReported t).tile u = b.tile u := rfl
theorem Blk.checkReported_word (b : Blk) (t k : Nat) : (b.checkReported t).word k = b.word k := rfl
theorem Blk.keepsMemory_checkReported (b : Blk) (t : Nat) : b.keepsMemory (b.checkReported t) := ⟨rfl, rfl, rfl⟩
theorem Blk.checkReported_reports (b : Blk) (t : Nat) : (b.checkReported t).reports = b.reports ++ [⟨0x04, tilePage t, false, t⟩] := rfl

theorem Blk.selfCheckDone_eq {b : Blk} {t : Nat} (fail : Bool) (checking : (b.tile t).checking = true) :
    b.selfCheckDone t fail =
      if fail then ((((b.setTile t { b.tile t with checking := false }).checkShown t fail).raise (TILE.IRQ_RAW_SELF_CHECK_FAIL t)).tileError t
        tcSelfCheck 0 0).checkReported t
      else (b.setTile t { b.tile t with checking := false }).checkShown t fail := if_pos checking

theorem Blk.checkShown_shows (b : Blk) (t : Nat) (fail : Bool) :
    (b.checkShown t fail).get (TILE.SELF_CHECK_DONE t) = 1 ∧ (b.checkShown t fail).get (TILE.SELF_CHECK_FAIL t) = bitNat fail ∧
    (b.checkShown t fail).get (TILE.SELF_CHECK_RUNS t) = (b.get (TILE.SELF_CHECK_RUNS t) + 1) % 65536 := by
  unfold Blk.checkShown Blk.bump
  simp -implicitDefEqProofs (disch := (simp only [Fld.fits, Fld.apart, TILE.SELF_CHECK_DONE, TILE.SELF_CHECK_FAIL, TILE.SELF_CHECK_RUNS]; omega))
    only [Blk.get_set_apart, Blk.get_set_same]
  exact ⟨rfl, by cases fail <;> rfl, rfl⟩

theorem Blk.setTile_keeps {α : Type} (b : Blk) (t : Nat) (x : TileSt) (part : TileSt → α) (h : part x = part (b.tile t)) :
    part ((b.setTile t x).tile t) = part (b.tile t) := by
  by_cases inside : t < b.tiles.length
  · rw [Blk.tile_setTile_same x inside, h]
  · have none : b.tile t = noTile := Blk.tile_none (by omega)
    exact b.setTile_part t x part h (by rw [none])

theorem Blk.ringStep_tile (b : Blk) (next ovf : Fld) (used : Bool) (t : Nat) : (b.ringStep next ovf used).tile t = b.tile t := by
  unfold Blk.ringStep
  split
  · exact (Blk.set_tile _ _ _ _).trans (Blk.set_tile _ _ _ _)
  · exact Blk.set_tile _ _ _ _

theorem Blk.logTile_checking (b : Blk) (t cause req slot : Nat) : ((b.logTile t cause req slot).tile t).checking = (b.tile t).checking := by
  unfold Blk.logTile
  extract_lets at_ x dfl used e
  rw [Blk.ringStep_tile]
  exact b.setTile_keeps t _ (fun x => x.checking) rfl

theorem Blk.keepsBehind.tile {b b' : Blk} (h : b.keepsBehind b') (t : Nat) : b'.tile t = b.tile t :=
  h.proj (fun b => b.tile t) (fun _ _ _ _ _ => rfl)

/-- An error of a tile leaves all of it but its log. -/
theorem Blk.tileError_checking (b : Blk) (t cause req slot : Nat) : ((b.tileError t cause req slot).tile t).checking = (b.tile t).checking := by
  rw [Blk.tileError, Blk.captureOwn, Blk.logTile_checking, (b.keepsBehind_capture (tilePage t) cause 7 req).tile]

theorem Blk.checkShown_behind (b : Blk) (t : Nat) (fail : Bool) : b.keepsBehind (b.checkShown t fail) := by
  unfold Blk.checkShown
  exact ((b.keepsBehind_set _ _).set _ _).trans (Blk.keepsBehind_bump _ _)

theorem Blk.keepsOtherPages_checkShown (b : Blk) {t : Nat} (fail : Bool) (ht : t < 16) : b.keepsOtherPages (b.checkShown t fail) [tilePage t] := by
  have page {off : Nat} (ho : off < 0x1000) := pageOf_tile_singleton ht ho
  unfold Blk.checkShown Blk.bump
  exact (((b.keepsOtherPages_refl _).set (f := TILE.SELF_CHECK_DONE t) 1 (page (off := 0x068) (by decide))).set (f := TILE.SELF_CHECK_FAIL t) _
    (page (off := 0x068) (by decide))).set (f := TILE.SELF_CHECK_RUNS t) _ (page (off := 0x068) (by decide))

theorem Blk.checkShown_reports (b : Blk) (t : Nat) (fail : Bool) : (b.checkShown t fail).reports = b.reports := by
  rw [Blk.checkShown, Blk.bump, Blk.set_reports, Blk.set_reports, Blk.set_reports]

/-- A self check that ends: its registers, and what else of the node moves. -/
theorem Blk.selfCheckDone_shows {b : Blk} {t : Nat} (fail : Bool) (ht : t < 16) (checking : (b.tile t).checking = true) :
    (t < b.tiles.length → ((b.selfCheckDone t fail).tile t).checking = false) ∧
    (b.selfCheckDone t fail).flag (TILE.SELF_CHECK_DONE t) = true ∧ (b.selfCheckDone t fail).flag (TILE.SELF_CHECK_FAIL t) = fail ∧
    (b.selfCheckDone t fail).get (TILE.SELF_CHECK_RUNS t) = (b.get (TILE.SELF_CHECK_RUNS t) + 1) % 65536 ∧
    (fail = true → (b.selfCheckDone t fail).flag (TILE.IRQ_RAW_SELF_CHECK_FAIL t) = true) ∧
    (b.selfCheckDone t fail).reports = b.reports ++ (if fail then [⟨0x04, tilePage t, false, t⟩] else []) ∧
    b.keepsOtherPages (b.selfCheckDone t fail) [tilePage t] ∧ b.keepsMemory (b.selfCheckDone t fail) := by
  have page {off : Nat} (ho : off < 0x1000) := pageOf_tile_singleton ht ho
  have ended : t < b.tiles.length → ((b.setTile t { b.tile t with checking := false }).tile t).checking = false := fun inside => by
    rw [Blk.tile_setTile_same _ inside]
  have words : b.keepsOtherPages (b.setTile t { b.tile t with checking := false }) [tilePage t] := fun k _ => Blk.setTile_word _ _ _ k
  have memory := b.keepsMemory_setTile t { b.tile t with checking := false }
  have runs := b.setTile_get t { b.tile t with checking := false } (TILE.SELF_CHECK_RUNS t)
  have reports : (b.setTile t { b.tile t with checking := false }).reports = b.reports := rfl
  rw [Blk.selfCheckDone_eq fail checking]
  generalize b.setTile t { b.tile t with checking := false } = c at *
  obtain ⟨done, failed, counted⟩ := c.checkShown_shows t fail
  rw [runs] at counted
  have shown := words.trans (c.keepsOtherPages_checkShown fail ht)
  have memory := memory.trans (c.checkShown_behind t fail).memory
  have tile := (c.checkShown_behind t fail).tile t
  have reports : (c.checkShown t fail).reports = b.reports := (c.checkShown_reports t fail).trans reports
  generalize c.checkShown t fail = d at *
  cases fail
  · rw [if_neg (by decide), if_neg (by decide), List.append_nil, Blk.flag, Blk.flag, done, failed, tile]
    exact ⟨ended, rfl, rfl, counted, fun no => absurd no (by decide), reports, shown, memory⟩
  · rw [if_pos rfl, if_pos rfl]
    have raised : (d.raise (TILE.IRQ_RAW_SELF_CHECK_FAIL t)).flag (TILE.IRQ_RAW_SELF_CHECK_FAIL t) = true :=
      d.flag_raise_same _ (by simp [Fld.fits, TILE.IRQ_RAW_SELF_CHECK_FAIL]) (by simp [TILE.IRQ_RAW_SELF_CHECK_FAIL])
    have kept (f : Fld) (fits : f.fits) (key : f.key = 0x20068 + 0x1000 * t) : (d.raise (TILE.IRQ_RAW_SELF_CHECK_FAIL t)).get f = d.get f :=
      d.get_set_apart _ f 1 fits (.inl (by simp [key, TILE.IRQ_RAW_SELF_CHECK_FAIL]))
    have done' := (kept (TILE.SELF_CHECK_DONE t) (by simp [Fld.fits, TILE.SELF_CHECK_DONE]) rfl).trans done
    have failed' := (kept (TILE.SELF_CHECK_FAIL t) (by simp [Fld.fits, TILE.SELF_CHECK_FAIL]) rfl).trans failed
    have counted' := (kept (TILE.SELF_CHECK_RUNS t) (by simp [Fld.fits, TILE.SELF_CHECK_RUNS]) rfl).trans counted
    have shown' : b.keepsOtherPages (d.raise (TILE.IRQ_RAW_SELF_CHECK_FAIL t)) [tilePage t] :=
      shown.set (f := TILE.IRQ_RAW_SELF_CHECK_FAIL t) 1 (page (off := 0x018) (by decide))
    have raising := d.keepsBehind_raise (TILE.IRQ_RAW_SELF_CHECK_FAIL t)
    have memory' := memory.trans raising.memory
    have tile' := (raising.tile t).trans tile
    have reports' := (d.raise_reports (TILE.IRQ_RAW_SELF_CHECK_FAIL t)).trans reports
    generalize d.raise (TILE.IRQ_RAW_SELF_CHECK_FAIL t) = r at *
    have regs := r.keepsRegs_tileError t tcSelfCheck 0 0
    have log := r.keepsBesideLog_tileError t tcSelfCheck 0 0
    have irq := r.flag_tileError_irq t tcSelfCheck 0 0 (bit := 8) (by decide)
    have still := (r.tileError_checking t tcSelfCheck 0 0).trans (congrArg (fun x => x.checking) tile')
    have pages := shown'.trans (r.keepsOtherPages_tileError tcSelfCheck 0 0 ht)
    have told : (r.tileError t tcSelfCheck 0 0).reports = b.reports := (log.proj (·.reports) (fun _ _ _ => rfl)).trans reports'
    have reg {f : Fld} (key : f.key = 0x20068 + 0x1000 * t) : (r.tileError t tcSelfCheck 0 0).get f = r.get f :=
      regs.get (by rw [mem_tileErrorKeys, key]; omega)
    have done' := (reg (f := TILE.SELF_CHECK_DONE t) rfl).trans done'
    have failed' := (reg (f := TILE.SELF_CHECK_FAIL t) rfl).trans failed'
    have counted' := (reg (f := TILE.SELF_CHECK_RUNS t) rfl).trans counted'
    have memory' := memory'.trans log.memory
    generalize r.tileError t tcSelfCheck 0 0 = e at *
    have one {f : Fld} (h : e.get f = 1) : e.flag f = true := by
      rw [Blk.flag, h]
      rfl
    rw [Blk.checkReported_flag, Blk.checkReported_flag, Blk.checkReported_flag, Blk.checkReported_get, Blk.checkReported_tile,
      Blk.checkReported_reports, told]
    exact ⟨fun inside => still.trans (ended inside), one done', one failed', counted', fun _ => irq.trans raised, rfl,
      fun k hk => (Blk.checkReported_word _ _ _).trans (pages k hk), memory'.trans (e.keepsMemory_checkReported t)⟩

/-- Settles O29. -/
theorem tileControlMovesTheTileState : Obligations.TileControlMovesTheTileState := by
  unfold Obligations.TileControlMovesTheTileState
  refine ⟨?_, ?_⟩
  · intro s a t wf w
    have ht : t < 16 := by
      simp only [Bool.and_eq_true, decide_eq_true_eq] at wf
      exact wf.2
    have bit {lo v i : Nat} (hi : i < 32) (ne : i ≠ lo) : bitAt (w lo v).toNat i = (decide (i = 0) && s.blk.flag (TILE.TCTRL_MAP_OUT t)) :=
      s.blk.bitAt_tctrlWord v ht hi ne
    have same {lo : Nat} (on : Bool) (h : lo < 32) : bitAt (w lo (bitNat on)).toNat lo = on := s.blk.bitAt_tctrlWord_same on h
    have clear {lo v i : Nat} (hi : i < 32) (ne : i ≠ lo) (ni : i ≠ 0) : bitAt (w lo v).toNat i = false := by
      rw [bit hi ne, decide_eq_false ni, Bool.false_and]
    refine ⟨fun mapped run hg => ?_, fun mapped halted hg => ?_, fun mapped hg => ?_, fun mapped out hg => ?_, fun mapped idle act still hg => ?_⟩
    · obtain ⟨state, irq, why, matrix, map, pages, memory⟩ := Blk.tileCancel_shows ht run
      have left := Blk.writeTctrl_cancel (same true (by decide)) (clear (by decide) (by decide) (by decide))
        ((bit (by decide) (by decide)).trans mapped) (clear (by decide) (by decide) (by decide)) (map.trans mapped)
      have written := s.node.writeBits_tctrl a ht hg (left)
      exact completes_of_node (f := fun n => n.writeBits a (tilePage t) 0x040 3 1 1) rfl wf written
        ⟨state, irq, why, matrix, pages, (memory.trans (Blk.answered_memory _ _ _ _)).node⟩
    · have released : s.blk.tileRelease t = s.blk.set (TILE.STATUS_TSTATE t) tsIdle := if_pos (beq_iff_eq.mpr halted)
      have stays : (s.blk.tileRelease t).flag (TILE.TCTRL_MAP_OUT t) = false := by
        rw [released, Blk.flag, s.blk.get_set_apart _ _ _ (by simp [Fld.fits, TILE.TCTRL_MAP_OUT])
          (.inl (by simp [TILE.STATUS_TSTATE, TILE.TCTRL_MAP_OUT]))]
        exact mapped
      have left := Blk.writeTctrl_release (clear (by decide) (by decide) (by decide)) (same true (by decide))
        ((bit (by decide) (by decide)).trans mapped) (clear (by decide) (by decide) (by decide)) stays
      have written := s.node.writeBits_tctrl a ht hg (left.trans released)
      exact exec_next (f := fun n => n.writeBits a (tilePage t) 0x040 1 1 1) rfl wf written
    · intro out
      have state : (s.blk.set (TILE.TCTRL_MAP_OUT t) 1).tstate t ≠ tsMappedOut := by
        rw [Blk.tstate, s.blk.get_set_apart _ _ _ (by simp [Fld.fits, TILE.STATUS_TSTATE])
          (.inl (by simp [TILE.STATUS_TSTATE, TILE.TCTRL_MAP_OUT]))]
        exact mapped
      have gone : s.blk.tileMapOut t = (out.setTile t { out.tile t with checking := false }).endWaits t tcMappedOut :=
        if_neg (by simpa using state)
      have left := Blk.writeTctrl_out (b := s.blk) (t := t) (clear (by decide) (by decide) (by decide)) (clear (by decide) (by decide) (by decide))
        (same true (by decide)) (clear (by decide) (by decide) (by decide))
      have written := s.node.writeBits_tctrl a ht hg (left.trans gone)
      exact ⟨exec_next (f := fun n => n.writeBits a (tilePage t) 0x040 0 1 1) rfl wf written,
        Blk.get_set_same _ _ _ (by simp [Fld.fits, TILE.STATUS_TSTATE])⟩
    · obtain ⟨state, map, pages, memory⟩ := Blk.tileMapIn_shows ht out
      have left := Blk.writeTctrl_in (clear (by decide) (by decide) (by decide)) (clear (by decide) (by decide) (by decide))
        (same false (by decide)) (clear (by decide) (by decide) (by decide)) mapped
      have written := s.node.writeBits_tctrl a ht hg (left)
      exact completes_of_node (f := fun n => n.writeBits a (tilePage t) 0x040 0 1 0) rfl wf written
        ⟨state, map, pages, (memory.trans (Blk.answered_memory _ _ _ _)).node⟩
    · have started : s.blk.tileSelfCheck t = (s.blk.set (TILE.SELF_CHECK_DONE t) 0).setTile t { s.blk.tile t with checking := true } :=
        if_pos (by simp [idle, act, still])
      have left := Blk.writeTctrl_check (clear (by decide) (by decide) (by decide)) (clear (by decide) (by decide) (by decide))
        ((bit (by decide) (by decide)).trans mapped) (same true (by decide)) mapped
      have written := s.node.writeBits_tctrl a ht hg (left.trans started)
      exact exec_next (f := fun n => n.writeBits a (tilePage t) 0x040 2 1 1) rfl wf written
  · intro s t fail ht checking
    obtain ⟨still, done, failed, counted, irq, reports, pages, memory⟩ := Blk.selfCheckDone_shows fail ht checking
    exact completes_of_blk (f := fun b => b.selfCheckDone t fail) rfl (decide_eq_true ht) rfl
      ⟨still, done, failed, counted, irq, reports, pages, memory.node⟩

end Sys2Proof.Machine
end

section
/-! PROOFS. The debug window (spec/07 R148, R175). -/

namespace Sys2Proof.Machine

theorem leNat_natLe (n v : Nat) : leNat (natLe n v) = v % 256 ^ n := by
  induction n generalizing v with
  | zero => simp [natLe, leNat, Nat.mod_one]
  | succ n ih =>
    have byte : (BitVec.ofNat 8 v).toNat = v % 256 := BitVec.toNat_ofNat ..
    rw [natLe, leNat, ih, byte, Nat.pow_succ', Nat.mod_mul]

theorem natLe_length (n v : Nat) : (natLe n v).length = n := by
  induction n generalizing v with
  | zero => rfl
  | succ n ih => rw [natLe, List.length_cons, ih]

/-- A granted write of DBG_DATA with the tile powered. -/
theorem Node.writeReg_dbgData (n : Node) (a : Agent) (v : Word) (on : n.b.powered (tilePage (n.b.get SPM.DBG_ADDR_TILE)) = true)
    (hg : n.b.granted a Page.SPM 0x04C v) :
    n.writeReg a Page.SPM 0x04C true v = { n with b := (n.b.writeDbg v).answered a Page.SPM 0x04C } := by
  have near : n.b.dbgOff Page.SPM 0x04C = false := by rw [Blk.dbgOff, on]; rfl
  have hg : n.b.accessCause a Page.SPM 0x04C true true v.toNat = 0 := hg
  have node : nodeWrite Page.SPM 0x04C = false := rfl
  have gate : lifeGate Page.SPM 0x04C v = false := rfl
  simp only [Node.writeReg, Node.accessWrite, node, gate, Blk.accessWrite, hg, near, Bool.false_eq_true, if_false, Bool.and_false, bne_self_eq_false]
  rfl

/-- A granted write of DBG_TAG with the tile powered. -/
theorem Node.writeBits_dbgTag (n : Node) (a : Agent) (full : Bool) (on : n.b.powered (tilePage (n.b.get SPM.DBG_ADDR_TILE)) = true)
    (hg : n.b.granted a Page.SPM 0x050 (n.b.fieldWord Page.SPM 0x050 0 1 (bitNat full))) :
    n.writeBits a Page.SPM 0x050 0 1 (bitNat full) = { n with b := (n.b.dbgTag full).answered a Page.SPM 0x050 } := by
  have near : n.b.dbgOff Page.SPM 0x050 = false := by rw [Blk.dbgOff, on]; rfl
  rw [n.writeBits_granted a Page.SPM 0x050 0 1 (bitNat full) hg rfl near rfl rfl rfl rfl, Blk.writeBlock_spm, if_neg (by decide), if_pos (by decide),
    Blk.bitAt_fieldWord _ _ _ _ (by decide)]

/-- A granted read of DBG_DATA. -/
theorem Node.readReg_dbgData (n : Node) (a : Agent) {w : Word} {b : Blk} (hg : n.b.accessCause a Page.SPM 0x04C true false 0 = 0)
    (read : n.b.dbgRead = (0, w, b)) : n.readReg a Page.SPM 0x04C true = { n with b := b.emit (.access a Page.SPM 0x04C false 0 w) } := by
  have low : isWideLow Page.SPM 0x04C = false := rfl
  have high : isWideHigh Page.SPM 0x04C = false := rfl
  have live : n.b.readLive a Page.SPM 0x04C = (0, w, b) := read
  have other : (Page.SPM != Page.FUSE) = true := rfl
  simp only [Node.readReg, Node.accessRead, Blk.accessRead, Blk.readWord, hg, low, high, live, other, Bool.and_false, Bool.false_eq_true, if_false,
    bne_self_eq_false, Bool.or_true, if_true]
  rfl

/-! ### What the window meets -/

theorem Blk.dbgCause_bad {b : Blk} (on : b.powered (tilePage (b.get SPM.DBG_ADDR_TILE)) = true)
    (bad : b.get SPM.DBG_ADDR_OFFSET % 4 ≠ 0 ∨ spmBytes ≤ b.get SPM.DBG_ADDR_OFFSET) :
    b.dbgCause = if b.get SPM.DBG_ADDR_OFFSET % 4 ≠ 0 then tcAlign else tcRange := by
  rw [Blk.dbgCause, on, if_neg (by decide)]
  by_cases odd : b.get SPM.DBG_ADDR_OFFSET % 4 = 0
  · rw [if_neg (by simp [odd]), if_pos (bad.resolve_left (not_not.mpr odd)), if_neg (not_not.mpr odd)]
  · rw [if_pos (by simp [odd]), if_pos odd]

theorem Blk.dbgCause_good {b : Blk} (on : b.powered (tilePage (b.get SPM.DBG_ADDR_TILE)) = true)
    (aligned : b.get SPM.DBG_ADDR_OFFSET % 4 = 0) (inside : b.get SPM.DBG_ADDR_OFFSET < spmBytes) : b.dbgCause = 0 := by
  rw [Blk.dbgCause, on, if_neg (by decide), if_neg (by simp [aligned]), if_neg (by omega)]

/-- A cause that is not POWER: ALIGN or RANGE. -/
theorem Blk.dbg_faulted {b : Blk} {cause : Nat} (found : b.dbgCause = cause) (kind : cause = tcAlign ∨ cause = tcRange) (v : Word) :
    b.dbgRead = (0, 0, b.tileError (b.get SPM.DBG_ADDR_TILE) cause 13 (b.get SPM.DBG_ADDR_OFFSET / 256 % 2 ^ 14)) ∧
    b.writeDbg v = b.tileError (b.get SPM.DBG_ADDR_TILE) cause 13 (b.get SPM.DBG_ADDR_OFFSET / 256 % 2 ^ 14) := by
  have some : cause ≠ 0 := by obtain rfl | rfl := kind <;> decide
  have power : cause ≠ causePower := by obtain rfl | rfl := kind <;> decide
  have fault : b.dbgFault cause = b.tileError (b.get SPM.DBG_ADDR_TILE) cause 13 (b.get SPM.DBG_ADDR_OFFSET / 256 % 2 ^ 14) :=
    if_neg (by simpa using power)
  constructor
  · simp only [Blk.dbgRead, found]
    rw [if_pos (by simpa using some), fault, if_neg (by simpa using power)]
  · simp only [Blk.writeDbg, Blk.dbgWrite, found]
    rw [if_pos (by simpa using some), fault]

theorem spmShape_word {addr : Nat} (aligned : addr % 4 = 0) : spmShape addr 4 = true := by simp [spmShape, aligned]

/-- A word of a clean line in a ready granule, read. -/
theorem Blk.dbgRead_good {b : Blk} (found : b.dbgCause = 0) (aligned : b.get SPM.DBG_ADDR_OFFSET % 4 = 0)
    (ready : b.inInit (b.get SPM.DBG_ADDR_TILE) (b.get SPM.DBG_ADDR_OFFSET) = false)
    (clean : b.lineClean (b.get SPM.DBG_ADDR_TILE) (b.get SPM.DBG_ADDR_OFFSET / 32)) :
    b.dbgRead = (0, BitVec.ofNat 32 (leNat (b.spmGet (b.get SPM.DBG_ADDR_TILE) (b.get SPM.DBG_ADDR_OFFSET) 4)), b) := by
  simp only [Blk.dbgRead, found, Blk.spmRead_line (spmShape_word aligned) ready 13 (Blk.lineCheck_clean clean 13)]
  rfl

/-- And written: its bytes alone. -/
theorem Blk.writeDbg_good {b : Blk} (v : Word) (found : b.dbgCause = 0) (aligned : b.get SPM.DBG_ADDR_OFFSET % 4 = 0)
    (ready : b.inInit (b.get SPM.DBG_ADDR_TILE) (b.get SPM.DBG_ADDR_OFFSET) = false)
    (clean : b.lineClean (b.get SPM.DBG_ADDR_TILE) (b.get SPM.DBG_ADDR_OFFSET / 32)) :
    b.writeDbg v = b.spmPut (b.get SPM.DBG_ADDR_TILE) (b.get SPM.DBG_ADDR_OFFSET) (natLe 4 v.toNat) := by
  have shape : spmShape (b.get SPM.DBG_ADDR_OFFSET) (natLe 4 v.toNat).length = true := by
    rw [natLe_length]
    exact spmShape_word aligned
  have written := Blk.spmWrite_line shape ready 13 clean
  rw [natLe_length, if_neg (by decide)] at written
  simp only [Blk.writeDbg, Blk.dbgWrite, found, written]
  rfl

/-- Settles O30. -/
theorem debugWindowReachesAPoweredTile : Obligations.DebugWindowReachesAPoweredTile := by
  unfold Obligations.DebugWindowReachesAPoweredTile
  intro s a wf t addr on
  have read (v : Word) {w : Word} {b : Blk} (hg : s.blk.accessCause a Page.SPM 0x04C true false 0 = 0) (h : s.blk.dbgRead = (0, w, b)) :
      exec (.dbgDataAccess a false v) s = .next (s.withBlk (b.emit (.access a Page.SPM 0x04C false 0 w))) :=
    exec_next (f := fun n => n.dataAccess a Page.SPM 0x04C false v) rfl wf (s.node.readReg_dbgData a hg h)
  refine ⟨fun bad => ?_, fun aligned inside ready clean => ⟨fun v hg => ?_, fun v hg => ?_⟩, fun full inside hg => ?_⟩
  · intro faulted
    have found := Blk.dbgCause_bad on bad
    have kind : (if addr % 4 ≠ 0 then tcAlign else tcRange) = tcAlign ∨ (if addr % 4 ≠ 0 then tcAlign else tcRange) = tcRange := by
      split
      · exact .inl rfl
      · exact .inr rfl
    refine ⟨fun v hg => read v hg (Blk.dbg_faulted found kind v).1, fun v hg => ?_⟩
    have written := s.node.writeReg_dbgData a v on hg
    rw [show s.node.b.writeDbg v = faulted from (Blk.dbg_faulted found kind v).2] at written
    exact exec_next (f := fun n => n.dataAccess a Page.SPM 0x04C true v) rfl wf written
  · exact read v hg (Blk.dbgRead_good (Blk.dbgCause_good on aligned inside) aligned ready clean)
  · have written := s.node.writeReg_dbgData a v on hg
    have stored : s.node.b.writeDbg v = s.blk.spmPut t addr (natLe 4 v.toNat) :=
      Blk.writeDbg_good v (Blk.dbgCause_good on aligned inside) aligned ready clean
    have bytes := s.blk.spmGet_spmPut t addr (natLe 4 v.toNat)
    rw [natLe_length] at bytes
    rw [stored] at written
    refine completes_of_node (f := fun n => n.dataAccess a Page.SPM 0x04C true v) rfl wf written
      ⟨?_, fun k outside => get_spmPut_outside s.blk t addr k (natLe 4 v.toNat) (by rwa [natLe_length]), ⟨rfl, rfl, rfl⟩, rfl, rfl⟩
    show leNat ((s.blk.spmPut t addr (natLe 4 v.toNat)).spmGet t addr 4) = v.toNat
    rw [bytes, leNat_natLe]
    exact Nat.mod_eq_of_lt v.isLt
  · have slot : addr / 256 < 12288 := by
      unfold spmBytes at inside
      omega
    have tagged : s.node.b.dbgTag full = s.blk.setTag t (addr / 256) full := if_pos (by
      rw [Bool.and_eq_true]
      exact ⟨on, decide_eq_true slot⟩)
    have written := s.node.writeBits_dbgTag a full on hg
    rw [tagged] at written
    exact exec_next (f := fun n => n.writeBits a Page.SPM 0x050 0 1 (bitNat full)) rfl wf written

end Sys2Proof.Machine
end

section
/-! PROOFS. The matrix and vector units (spec/08 R184, R187 to R196): descriptors, rows, an integer ADD. -/

namespace Sys2Proof.Machine

/-! ### Descriptors and rows -/

theorem Blk.operatorIssue_run {b : Blk} {t : Nat} (offset : Nat) (ht : t < 16) (act : b.active (tilePage t) = true) (run : b.tstate t = tsRun)
    (inside : offset % 32 = 0) (room : offset + 64 ≤ spmBytes) {c : Nat} {d : List Byte} {b1 : Blk} (read : b.spmRead t offset 64 0 = (c, d, b1)) :
    b.operatorIssue t offset = if c ≠ 0 then b1.portFault t 0 c (offset / 256)
      else if (opDesc d).accepted d = true then
        b1.setTile t ((b1.tile t).setOps (opDesc d).isPool ((b1.tile t).ops (opDesc d).isPool ++ [⟨d, 0, 0, 0, [], 0, 0, 0⟩]))
      else b1.portFault t (if (opDesc d).isPool then 3 else 0) tcRange 0 := by
  rw [Blk.operatorIssue, if_neg (by simp [ht, act, run]), if_neg (by simp [inside]; omega)]
  simp only [read]
  by_cases hc : c = 0
  · subst hc
    cases ok : (opDesc d).accepted d <;> simp
  · rw [if_pos (by simpa using hc), if_pos hc]

/-- The running operator of a unit goes to its next output row. -/
theorem Blk.outputRow_run {b : Blk} {t : Nat} {vector : Bool} {q : OpRun} {rest : List OpRun} (ht : t < 16)
    (act : b.active (tilePage t) = true) (run : b.tstate t = tsRun) (queue : (b.tile t).ops vector = q :: rest)
    (rd : b.portTaken t (unitReads vector) = false) (wr : b.portTaken t (unitWrites vector) = false) :
    b.outputRow t vector = match b.rowStep t (unitReads vector) (unitWrites vector) (opDesc q.desc) q ((opDesc q.desc).rowFirst + q.done) with
      | (q', .go, b') => (((b'.clearUnitWaits t t (unitWrites vector)).rowComplete t (opDesc q.desc) q' rest
          ((opDesc q.desc).rowFirst + q.done)).portGoesOn t (unitReads vector)).portGoesOn t (unitWrites vector)
      | (q', .wait port s kind, b') => (b'.setTile t ((b'.tile t).setOps vector (q' :: rest))).unitWait t t port port s kind
      | (_, .fault port c s, b') => b'.portFault t port c s := by
  rw [Blk.outputRow, if_neg (by simp [ht, act, run, rd, wr])]
  simp only [queue] <;> rfl

/-- A row whose next gate read finds its slot not FULL waits there. -/
theorem Blk.rowStep_gate {b : Blk} {t rd wr : Nat} {o : OpDesc} {q : OpRun} {r slot : Nat} {slots : List Nat}
    (next : (o.gateSlots r q.gated).drop q.gates = slot :: slots) (empty : (b.tagVote t slot).foundFull t slot = false)
    (waits : (b.tagVote t slot).unitGranted t t rd slot = false) :
    b.rowStep t rd wr o q r = (q, .wait rd slot .readFull, b.tagVote t slot) := by
  simp only [Blk.rowStep, next, Blk.gateReads, empty, waits, Bool.or_self, Bool.false_eq_true, if_false]

/-! ### An integer ADD -/

theorem Blk.vecRead_length {b : Blk} {t addr n : Nat} {xs : List Byte} {b' : Blk} (h : b.vecRead t addr n = (0, xs, b')) : xs.length = n := by
  have fails {c : Nat} {l : List Byte} {d : Blk} (hc : c ≠ 0) (e : (c, l, d) = (0, xs, b')) : xs.length = n := absurd (congrArg Prod.fst e) hc
  unfold Blk.vecRead at h
  dsimp only at h
  split at h
  · next hc => exact fails (by simpa using hc) h
  · unfold tileReader at h
    split at h
    · exact fails (by decide) h
    · unfold Blk.spmRead at h
      dsimp only at h
      split at h
      · have bytes := (congrArg (fun p : Nat × List Byte × Blk => p.2.1) h).symm
        rw [show xs = _ from bytes]
        simp [Blk.spmGet, Tbl.getMany]
      · exact fails (by decide) h

theorem elemsOf_length_byte (l : List Byte) : (elemsOf 8 l).length = l.length := by
  induction l with
  | nil => rfl
  | cons x xs ih =>
    have first : elemsOf 8 (x :: xs) = x.toNat :: elemsOf 8 xs := by rw [elemsOf.eq_def]; rfl
    rw [first, List.length_cons, ih, List.length_cons]

theorem elemsOf_length_pair : ∀ l : List Byte, (elemsOf 16 l).length = l.length / 2
  | [] => rfl
  | [x] => by simp [elemsOf.eq_def 16 [x]]
  | x :: y :: ys => by
    have rest : elemsOf 16 (x :: y :: ys) = (x.toNat + 256 * y.toNat) :: elemsOf 16 ys := by rw [elemsOf.eq_def]; rfl
    rw [rest, List.length_cons, elemsOf_length_pair ys, List.length_cons, List.length_cons]
    omega

/-- As many elements as their bytes make. -/
theorem elems_length {w : Nat} (hw : w = 8 ∨ w = 16 ∨ w = 32) {bs cs : List Byte} (h : bs.length = cs.length) :
    (elems w bs).length = (elems w cs).length := by
  obtain rfl | rfl | rfl := hw
  · exact (elemsOf_length_byte bs).trans (h.trans (elemsOf_length_byte cs).symm)
  · have half : bs.length / 2 = cs.length / 2 := by rw [h]
    exact (elemsOf_length_pair bs).trans (half.trans (elemsOf_length_pair cs).symm)
  · have words (l : List Byte) : (elems 32 l).length = l.length / 4 := by simp [elems]
    rw [words, words, h]

theorem zip_zip_map {α β γ δ : Type} (f : α → β → δ) (as : List α) (bs : List β) (cs : List γ) (h : bs.length = cs.length) :
    (as.zip (bs.zip cs)).map (fun p => f p.1 p.2.1) = (as.zip bs).map (fun p => f p.1 p.2) := by
  have first : (bs.zip cs).map Prod.fst = bs := List.map_fst_zip (Nat.le_of_eq h)
  conv_rhs => rw [← first, List.zip_map_right, List.map_map]
  rfl

theorem Blk.fillFree_some (b : Blk) (w : Nat) (l : List Nat) : b.fillFree w (l.map some) = (l, b) := by
  have go (acc : List Nat) : (l.map some).foldl (fun (st : List Nat × Blk) x =>
      match x with
      | some v => (st.1 ++ [v], st.2)
      | none => let (v, b) := st.2.free w; (st.1 ++ [v], b)) (acc, b) = (acc ++ l, b) := by
    induction l generalizing acc with
    | nil => simp
    | cons x l ih => simpa using ih (acc ++ [x])
  exact go []

/-- An ADD over an integer format: its lanes, wrapped or saturated. -/
theorem Blk.vecResult_add (b : Blk) {v : VectorOp} (kind : v.kind = .add) (fmt : v.fmt = 1 ∨ v.fmt = 6 ∨ v.fmt = 8) (xa : List Byte) {xb : List Byte}
    (len : xb.length = 32) :
    b.vecResult v xa xb (List.replicate 32 0) = (some (laneBitsOf v.fmt,
      (((elems (laneBitsOf v.fmt) xa).zip (elems (laneBitsOf v.fmt) xb)).map (fun p =>
        laneInt (laneBitsOf v.fmt) v.sat (signedOf (laneBitsOf v.fmt) p.1 + signedOf (laneBitsOf v.fmt) p.2))).map some), b) := by
  have width : laneBitsOf v.fmt = 8 ∨ laneBitsOf v.fmt = 16 ∨ laneBitsOf v.fmt = 32 := by
    obtain h | h | h := fmt <;> rw [h] <;> decide
  have int : floatFmt v.fmt = none := by obtain h | h | h := fmt <;> rw [h] <;> rfl
  have lanes := zip_zip_map (fun x y => some (laneInt (laneBitsOf v.fmt) v.sat (signedOf (laneBitsOf v.fmt) x + signedOf (laneBitsOf v.fmt) y)))
    (elems (laneBitsOf v.fmt) xa) _ _ (elems_length width (len.trans (List.length_replicate (a := (0 : Byte))).symm))
  simp only [Blk.vecResult, kind, int, intLane, List.map_map]
  rw [lanes]
  rfl

theorem vecPlaces_add {v : VectorOp} (kind : v.kind = .add) (acc : v.acc = none) : vecPlaces v = [v.a, v.b] := by
  simp [vecPlaces, kind, acc, vecSources]

/-- An integer ADD of two lines, with its gates met and its sources read. -/
theorem Blk.vectorOp_add {b : Blk} {v : VectorOp} (ht : v.tile < 16) (act : b.active (tilePage v.tile) = true) (run : b.tstate v.tile = tsRun)
    (idle : b.portTaken v.tile 3 = false) (kind : v.kind = .add) (fmt : v.fmt = 1 ∨ v.fmt = 6 ∨ v.fmt = 8) (acc : v.acc = none)
    (ha : v.a % 32 = 0) (hb : v.b % 32 = 0) (hd : v.dst % 32 = 0) {c : Blk} (voted : (if v.waitFull then b.vecVotes v.tile [v.a, v.b] else b) = c)
    (met : v.waitFull = true → c.vecUnmet v.tile true [v.a, v.b] = none) {xa xb : List Byte} {b1 b2 : Blk}
    (readA : c.vecRead v.tile v.a 32 = (0, xa, b1)) (readB : b1.vecRead v.tile v.b 32 = (0, xb, b2)) :
    b.vectorOp v = b2.vecStore v (laneBitsOf v.fmt) ((((elems (laneBitsOf v.fmt) xa).zip (elems (laneBitsOf v.fmt) xb)).map (fun p =>
        laneInt (laneBitsOf v.fmt) v.sat (signedOf (laneBitsOf v.fmt) p.1 + signedOf (laneBitsOf v.fmt) p.2))).map some) := by
  have offered : vecOffered v = true := by
    simp only [vecOffered, kind]
    obtain h | h | h := fmt <;> rw [h] <;> rfl
  have sources : vecSources v.kind = 2 := by rw [kind]; rfl
  have plain : (v.kind == .lookup) = false := by rw [kind]; rfl
  have gate : (if v.waitFull then c.vecUnmet v.tile true [v.a, v.b] else none) = none := by
    split
    · next on => exact met on
    · rfl
  rw [Blk.vectorOp, if_neg (by simp [ht, act, run, offered, idle]), vecPlaces_add kind acc, if_neg (by simp [ha, hb, hd, plain])]
  simp -implicitDefEqProofs only [voted, gate, acc, readA, sources, plain, readB, bne_self_eq_false, Bool.false_eq_true, if_false, Nat.lt_irrefl,
    Nat.lt_succ_self, if_true, Blk.vecResult_add b2 kind fmt xa (Blk.vecRead_length readB)]

/-- A result written, and the after actions of its operation. -/
def Blk.vecMade (b : Blk) (v : VectorOp) (w : Nat) (l : List Nat) : Blk :=
  let (c, b) := b.vecWrite v.tile v.dst (packElems w l)
  if c != 0 then b.portFault v.tile 3 c (v.dst % 2 ^ 22 / 256)
  else
    let b := if v.setEmpty then b.vecTags v.tile false (vecPlaces v) else b
    (if v.setFull then b.vecTags v.tile true [v.dst] else b).vecGoesOn v

def Blk.vecFilled (v : VectorOp) (w : Nat) (p : List Nat × Blk) : Blk :=
  let (l, b) := p
  b.vecMade v w l

theorem Blk.vecStore_free {b : Blk} {v : VectorOp} (w : Nat) (l : List (Option Nat)) (free : v.waitEmpty = false) :
    b.vecStore v w l = Blk.vecFilled v w (b.fillFree w l) := by
  unfold Blk.vecStore
  extract_lets c
  have same : c = b := if_neg (by simp [free])
  clear_value c
  subst same
  rw [if_neg (show ¬(v.waitEmpty = true) by simp [free])]
  rfl

/-- A result that waits for no tag and is written: its after actions. -/
theorem Blk.vecStore_written {b b' : Blk} {v : VectorOp} {w : Nat} {l : List Nat} (free : v.waitEmpty = false)
    (written : b.vecWrite v.tile v.dst (packElems w l) = (0, b')) :
    b.vecStore v w (l.map some) = (if v.setFull then (if v.setEmpty then b'.vecTags v.tile false (vecPlaces v) else b').vecTags v.tile true [v.dst]
      else if v.setEmpty then b'.vecTags v.tile false (vecPlaces v) else b').vecGoesOn v := by
  rw [Blk.vecStore_free w _ free, Blk.fillFree_some]
  show b.vecMade v w l = _
  rw [Blk.vecMade, written]
  exact if_neg (by simp)

/-- Settles O31. -/
theorem operatorsQueueWaitAndWriteTheirRows : Obligations.OperatorsQueueWaitAndWriteTheirRows := by
  unfold Obligations.OperatorsQueueWaitAndWriteTheirRows
  refine ⟨?_, ?_, ?_⟩
  · intro s t offset ht act run
    have wf : decide (t < 16) = true := decide_eq_true ht
    refine ⟨fun bad => exec_blk (f := fun b => b.operatorIssue t offset) rfl wf ?_, fun c d b1 inside room read => ?_⟩
    · rw [Blk.operatorIssue, if_neg (by simp [ht, act, run]), if_pos (by simpa using bad)]
    · exact exec_blk (f := fun b => b.operatorIssue t offset) rfl wf (Blk.operatorIssue_run offset ht act run inside room read)
  · intro s t vector q rest ht act run queue rd wr hrd hwr o r
    have wf : decide (t < 16) = true := decide_eq_true ht
    have step := Blk.outputRow_run ht act run queue hrd hwr
    have done {b : Blk} (effect : s.blk.outputRow t vector = b) : exec (.outputRowDone t vector) s = .next (s.withBlk b) :=
      exec_blk (f := fun b => b.outputRow t vector) rfl wf effect
    refine ⟨fun slot slots next => ?_, fun q' b' row => done ?_, fun q' b' port slot kind row => done ?_,
      fun q' b' port cause slot row => done ?_⟩
    · intro voted empty waits
      refine done (step.trans ?_)
      rw [Blk.rowStep_gate next empty waits]
    all_goals
      rw [step, show s.blk.rowStep t (unitReads vector) (unitWrites vector) (opDesc q.desc) q ((opDesc q.desc).rowFirst + q.done) = _ from row]
  · intro s v xa xb b1 b2 ht act run idle kind fmt acc ha hb hd voted met readA readB w sums
    refine ⟨exec_blk (f := fun b => b.vectorOp v) rfl (decide_eq_true ht)
      (Blk.vectorOp_add ht act run idle kind fmt acc ha hb hd rfl met readA readB), ?_⟩
    intro b3 free written emptied
    exact (Blk.vecStore_written free written).trans (by rw [vecPlaces_add kind acc])

end Sys2Proof.Machine
end

section
/-! PROOFS. Accesses of bulk memory (spec/10 R236 to R241). -/

namespace Sys2Proof.Machine

/-! ### Units whose data can be used -/

/-- A unit of the visible space that lies on a live page, is not poisoned and has no wrong bit. -/
def Blk.unitClean (b : Blk) (u : Nat) : Prop :=
  u < bulkUnits ∧ (b.bpage (u / 64)).dead = false ∧ b.unitPoisoned u = false ∧ b.unitFlips u = []

theorem Blk.unitFound_eq (b : Blk) (u : Nat) (h : unitFinding (b.unitFlips u) ≠ 3) : b.unitFound u = (unitFinding (b.unitFlips u), b) := by
  rw [Blk.unitFound, if_pos (by simpa using h)]

/-- The check of a unit that is neither out of range, dead nor poisoned, by what its code finds. -/
theorem Blk.unitCheck_eq {b : Blk} {u : Nat} (cls : Nat) (inside : u < bulkUnits) (live : (b.bpage (u / 64)).dead = false)
    (good : b.unitPoisoned u = false) (h : unitFinding (b.unitFlips u) ≠ 3) :
    b.unitCheck cls u = if unitFinding (b.unitFlips u) = 0 then (0, b)
      else if unitFinding (b.unitFlips u) = 1 then (0, (b.setUnitFlips u []).correctUnit (u / 64) (cls % 8))
      else (if ((b.retire (u / 64) 0 (cls % 8)).bpage (u / 64)).dead = true then bkDead else bkPoison, b.retire (u / 64) 0 (cls % 8)) := by
  unfold Blk.unitCheck
  rw [if_neg (by omega), if_neg (by simp [live]), if_neg (by simp [good]), b.unitFound_eq u h]
  simp only [beq_iff_eq]

theorem Blk.unitCheck_clean {b : Blk} {u : Nat} (h : b.unitClean u) (cls : Nat) : b.unitCheck cls u = (0, b) := by
  obtain ⟨inside, live, good, flips⟩ := h
  have zero : unitFinding (b.unitFlips u) = 0 := by rw [flips]; rfl
  rw [Blk.unitCheck_eq cls inside live good (by omega), if_pos zero]

theorem Blk.unitCheck_poisoned {b : Blk} {u : Nat} (cls : Nat) (inside : u < bulkUnits) (live : (b.bpage (u / 64)).dead = false)
    (bad : b.unitPoisoned u = true) : b.unitCheck cls u = (bkPoison, b) := by
  rw [Blk.unitCheck, if_neg (by omega), if_neg (by simp [live]), if_pos bad]

/-! ### Reads -/

theorem Blk.unitRead_clean {b : Blk} (cls : Nat) {a n : Nat} (h : ∀ u ∈ unitsOf a n, b.unitClean u) :
    b.unitRead cls a n = (0, b.bulkGet a n, b) := by
  have checked : ∀ l : List Nat, (∀ u ∈ l, b.unitClean u) →
      l.foldl (fun (st : Nat × Blk) u => if st.1 != 0 then st else st.2.unitCheck cls u) (0, b) = (0, b) := by
    intro l clean
    induction l with
    | nil => rfl
    | cons u l ih =>
      rw [List.foldl_cons, if_neg (by simp), Blk.unitCheck_clean (clean u List.mem_cons_self)]
      exact ih fun v hv => clean v (List.mem_cons_of_mem _ hv)
  rw [Blk.unitRead, checked _ h]
  rfl

/-- A read whose first unit's check fails ends with its cause. -/
theorem Blk.unitRead_fails {b b' : Blk} {cls a n u c : Nat} {rest : List Nat} (units : unitsOf a n = u :: rest)
    (check : b.unitCheck cls u = (c, b')) (hc : c ≠ 0) : b.unitRead cls a n = (c, [], b') := by
  have stops : ∀ l : List Nat, l.foldl (fun (st : Nat × Blk) u => if st.1 != 0 then st else st.2.unitCheck cls u) (c, b') = (c, b') := by
    intro l
    induction l with
    | nil => rfl
    | cons u l ih => rw [List.foldl_cons, if_pos (by simpa using hc), ih]
  have run : (unitsOf a n).foldl (fun (st : Nat × Blk) u => if st.1 != 0 then st else st.2.unitCheck cls u) (0, b) = (c, b') := by
    rw [units, List.foldl_cons]
    simp only [bne_self_eq_false, Bool.false_eq_true, if_false, check]
    exact stops rest
  rw [Blk.unitRead, run]
  exact if_neg (by simpa using hc)

/-! ### Writes -/

/-- The second block is the first with other bytes of bulk memory; its poison and wrong bits read as they did. -/
def Blk.keepsBesideData (b b' : Blk) : Prop :=
  (∃ bytes poison flips, b' = { b with bulk := { b.bulk with bytes := bytes, poison := poison, flips := flips } }) ∧
    (∀ u, b'.unitPoisoned u = b.unitPoisoned u) ∧ ∀ u, b'.unitFlips u = b.unitFlips u

theorem Blk.keepsBesideData_refl (b : Blk) : b.keepsBesideData b := ⟨⟨_, _, _, rfl⟩, fun _ => rfl, fun _ => rfl⟩

theorem Blk.keepsBesideData.trans {a b c : Blk} (h : a.keepsBesideData b) (k : b.keepsBesideData c) : a.keepsBesideData c := by
  obtain ⟨⟨_, _, _, rfl⟩, poison, flips⟩ := h
  obtain ⟨⟨_, _, _, rfl⟩, poison', flips'⟩ := k
  exact ⟨⟨_, _, _, rfl⟩, fun u => (poison' u).trans (poison u), fun u => (flips' u).trans (flips u)⟩

theorem Blk.keepsBesideData.proj {α : Type} {b b' : Blk} (h : b.keepsBesideData b') (f : Blk → α)
    (same : ∀ bytes poison flips, f { b with bulk := { b.bulk with bytes := bytes, poison := poison, flips := flips } } = f b) : f b' = f b := by
  obtain ⟨⟨_, _, _, rfl⟩, -, -⟩ := h
  exact same _ _ _

theorem Blk.keepsBesideData.unitClean {b b' : Blk} (h : b.keepsBesideData b') {u : Nat} (clean : b.unitClean u) : b'.unitClean u := by
  obtain ⟨inside, live, good, flips⟩ := clean
  have page : b'.bpage (u / 64) = b.bpage (u / 64) := h.proj (fun b => b.bpage (u / 64)) (fun _ _ _ => rfl)
  exact ⟨inside, by rw [page, live], (h.2.1 u).trans good, (h.2.2 u).trans flips⟩

theorem Blk.keepsBesideData_bulkPut (b : Blk) (a : Nat) (bs : List Byte) : b.keepsBesideData (b.bulkPut a bs) :=
  ⟨⟨_, _, _, rfl⟩, fun _ => rfl, fun _ => rfl⟩

theorem Blk.unitPoisoned_markUnit (b : Blk) (u v : Nat) (p : Bool) :
    (b.markUnit u p).unitPoisoned v = if v = u then p else b.unitPoisoned v := Tbl.get_put _ _ _ _ _

theorem Blk.unitFlips_markUnit (b : Blk) (u v : Nat) (p : Bool) :
    (b.markUnit u p).unitFlips v = if v = u then [] else b.unitFlips v := by
  unfold Blk.markUnit Blk.setUnitFlips Blk.unitFlips
  rw [Tbl.get_put]
  rfl

/-- A clean unit marked clean reads as it did. -/
theorem Blk.keepsBesideData_markUnit {b : Blk} {u : Nat} (h : b.unitClean u) : b.keepsBesideData (b.markUnit u false) := by
  obtain ⟨-, -, good, flips⟩ := h
  refine ⟨⟨_, _, _, rfl⟩, fun v => ?_, fun v => ?_⟩
  · rw [b.unitPoisoned_markUnit]
    split
    · next e => rw [e, good]
    · rfl
  · rw [b.unitFlips_markUnit]
    split
    · next e => rw [e, flips]
    · rfl

/-- A byte of bulk memory. -/
def Blk.bulkByte (b : Blk) (k : Nat) : Byte := Tbl.get bulkDflt b.bulk.bytes k

theorem Blk.bulkByte_bulkPut (b : Blk) (a k : Nat) (bs : List Byte) :
    (b.bulkPut a bs).bulkByte k = if a ≤ k ∧ k < a + bs.length then (bs[k - a]?).getD 0 else b.bulkByte k := Tbl.get_putMany _ _ _ _ _

/-- The step of a write at one unit. -/
def Blk.writeUnit (b : Blk) (cls a : Nat) (bs : List Byte) (u : Nat) : Nat × Blk :=
  let lo := max a (u * 64)
  let hi := min (a + bs.length) (u * 64 + 64)
  let part := (bs.drop (lo - a)).take (hi - lo)
  if hi - lo == 64 then
    if (b.bpage (u / 64)).dead then (bkDead, b) else (0, (b.markUnit u false).bulkPut lo part)
  else
    let (c, b) := b.unitCheck cls u
    if c == 0 then (0, b.bulkPut lo part) else (c, b)

theorem Blk.unitWrite_eq (b : Blk) (cls a : Nat) (bs : List Byte) : b.unitWrite cls a bs =
    (unitsOf a bs.length).foldl (fun (st : Nat × Blk) u => if st.1 != 0 then st else st.2.writeUnit cls a bs u) (0, b) := rfl

/-- At a clean unit that it touches, a write stores its bytes there and changes no other byte. -/
theorem Blk.writeUnit_clean {b : Blk} {u : Nat} (clean : b.unitClean u) (cls : Nat) {a : Nat} {bs : List Byte} (after : a < u * 64 + 64)
    (before : u * 64 < a + bs.length) :
    ∃ b', b.writeUnit cls a bs u = (0, b') ∧ b.keepsBesideData b' ∧
      ∀ k, b'.bulkByte k = if max a (u * 64) ≤ k ∧ k < min (a + bs.length) (u * 64 + 64) then (bs[k - a]?).getD 0 else b.bulkByte k := by
  have stored (c : Blk) (same : ∀ k, c.bulkByte k = b.bulkByte k) (k : Nat) :
      (c.bulkPut (max a (u * 64)) ((bs.drop (max a (u * 64) - a)).take (min (a + bs.length) (u * 64 + 64) - max a (u * 64)))).bulkByte k =
        if max a (u * 64) ≤ k ∧ k < min (a + bs.length) (u * 64 + 64) then (bs[k - a]?).getD 0 else b.bulkByte k := by
    have length : ((bs.drop (max a (u * 64) - a)).take (min (a + bs.length) (u * 64 + 64) - max a (u * 64))).length =
        min (a + bs.length) (u * 64 + 64) - max a (u * 64) := by
      rw [List.length_take, List.length_drop]
      omega
    rw [Blk.bulkByte_bulkPut, length, same, show max a (u * 64) + (min (a + bs.length) (u * 64 + 64) - max a (u * 64)) =
      min (a + bs.length) (u * 64 + 64) by omega]
    split
    · next h =>
      rw [List.getElem?_take_of_lt (by omega), List.getElem?_drop, show max a (u * 64) - a + (k - max a (u * 64)) = k - a by omega]
    · rfl
  unfold Blk.writeUnit
  rw [Blk.unitCheck_clean clean]
  by_cases whole : min (a + bs.length) (u * 64 + 64) - max a (u * 64) = 64
  · rw [if_pos (by simpa using whole), if_neg (by simp [clean.2.1])]
    exact ⟨_, rfl, (b.keepsBesideData_markUnit clean).trans (Blk.keepsBesideData_bulkPut _ _ _), stored _ fun _ => rfl⟩
  · rw [if_neg (by simpa using whole)]
    exact ⟨_, rfl, b.keepsBesideData_bulkPut _ _, stored _ fun _ => rfl⟩

theorem slotRange_succ (first n : Nat) : slotRange first (n + 1) = first :: slotRange (first + 1) n := by
  simp only [slotRange, List.range_succ_eq_map, List.map_cons, List.map_map, Nat.add_zero]
  exact congrArg _ (List.map_congr_left fun i _ => by simp only [Function.comp]; omega)

theorem mem_slotRange (first n u : Nat) : u ∈ slotRange first n ↔ first ≤ u ∧ u < first + n := by
  simp only [slotRange, List.mem_map, List.mem_range]
  constructor
  · rintro ⟨i, hi, rfl⟩
    omega
  · rintro ⟨lo, hi⟩
    exact ⟨u - first, by omega, by omega⟩

/-- A write goes from unit to unit while they are clean. -/
theorem Blk.writeUnits_clean (cls a : Nat) (bs : List Byte) (n : Nat) : ∀ (u : Nat) (b : Blk), (∀ v ∈ slotRange u n, b.unitClean v) →
    a < u * 64 + 64 → (u + n) * 64 < a + bs.length + 64 →
    ∃ b', (slotRange u n).foldl (fun (st : Nat × Blk) u => if st.1 != 0 then st else st.2.writeUnit cls a bs u) (0, b) = (0, b') ∧
      b.keepsBesideData b' ∧ ∀ k, b'.bulkByte k =
        if max a (u * 64) ≤ k ∧ k < min (a + bs.length) ((u + n) * 64) then (bs[k - a]?).getD 0 else b.bulkByte k := by
  induction n with
  | zero =>
    intro u b clean after before
    exact ⟨b, rfl, b.keepsBesideData_refl, fun k => by rw [if_neg (by omega)]⟩
  | succ n ih =>
    intro u b clean after before
    rw [slotRange_succ] at clean ⊢
    obtain ⟨b1, step, kept, bytes⟩ := Blk.writeUnit_clean (clean u List.mem_cons_self) cls (bs := bs) after (by omega)
    obtain ⟨b2, steps, kept', bytes'⟩ := ih (u + 1) b1 (fun v hv => kept.unitClean (clean v (List.mem_cons_of_mem _ hv))) (by omega) (by omega)
    refine ⟨b2, ?_, kept.trans kept', fun k => ?_⟩
    · rw [List.foldl_cons, if_neg (by simp)]
      simp only [step]
      exact steps
    · rw [bytes', bytes]
      by_cases first : max a (u * 64) ≤ k ∧ k < min (a + bs.length) (u * 64 + 64)
      · rw [if_pos first, if_pos (show max a (u * 64) ≤ k ∧ k < min (a + bs.length) ((u + (n + 1)) * 64) by omega), ite_self]
      · rw [if_neg first]
        by_cases rest : max a ((u + 1) * 64) ≤ k ∧ k < min (a + bs.length) ((u + 1 + n) * 64)
        · rw [if_pos rest, if_pos (by omega)]
        · rw [if_neg rest, if_neg (by omega)]

/-- A write over clean units stores its bytes and changes no other byte. -/
theorem Blk.unitWrite_clean {b : Blk} (cls a : Nat) (bs : List Byte) (clean : ∀ u ∈ unitsOf a bs.length, b.unitClean u) :
    ∃ b', b.unitWrite cls a bs = (0, b') ∧ b.keepsBesideData b' ∧
      ∀ k, b'.bulkByte k = if a ≤ k ∧ k < a + bs.length then (bs[k - a]?).getD 0 else b.bulkByte k := by
  rw [Blk.unitWrite_eq]
  unfold unitsOf spanOf at clean ⊢
  by_cases none : bs.length = 0
  · rw [if_pos (by simpa using none)]
    exact ⟨b, rfl, b.keepsBesideData_refl, fun k => by rw [if_neg (by omega)]⟩
  · rw [if_neg (by simpa using none)] at clean ⊢
    obtain ⟨b', run, kept, bytes⟩ := Blk.writeUnits_clean cls a bs _ (a / 64) b clean (by omega) (by omega)
    refine ⟨b', run, kept, fun k => (bytes k).trans ?_⟩
    rw [show max a (a / 64 * 64) = a by omega, show min (a + bs.length) ((a / 64 + ((a + bs.length - 1) / 64 - a / 64 + 1)) * 64) =
      a + bs.length by omega]

/-- What a block reads after bytes were stored in it. -/
theorem Blk.bulkGet_of_bytes {b b' : Blk} {a : Nat} {bs : List Byte}
    (h : ∀ k, b'.bulkByte k = if a ≤ k ∧ k < a + bs.length then (bs[k - a]?).getD 0 else b.bulkByte k) :
    b'.bulkGet a bs.length = bs ∧ b.bulkKept b' a bs.length := by
  refine ⟨?_, fun k hk => (h k).trans (if_neg (by omega))⟩
  refine List.ext_getElem (by simp [Blk.bulkGet, Tbl.getMany]) (fun i hi hv => ?_)
  have byte := h (a + i)
  rw [if_pos (by omega), Nat.add_sub_cancel_left, List.getElem?_eq_getElem hv] at byte
  simpa [Blk.bulkGet, Tbl.getMany, Blk.bulkByte] using byte

/-! ### BULK_ACCESS -/

theorem Blk.bulkAccess_refused {b : Blk} {x : BulkAccess} (h : b.bulkReach x.addr (accessBytes x) ≠ 0) :
    b.bulkAccess x = b.emit (.bulk x.cls x.addr (b.bulkReach x.addr (accessBytes x)) []) := by
  rw [Blk.bulkAccess, if_pos (by simpa using h)]

theorem Blk.bulkAccess_waits {b : Blk} {x : BulkAccess} {p : Nat} (h : b.bulkReach x.addr (accessBytes x) = 0)
    (held : b.heldPage x.addr (accessBytes x) = some p) : b.bulkAccess x =
      { b with bulk := { b.bulk with waits := b.bulk.waits ++ [⟨x.cls, p, b.ep.line, some x, false⟩] } } := by
  rw [Blk.bulkAccess, if_neg (by simpa using h), held]

theorem Blk.bulkAccess_made {b : Blk} {x : BulkAccess} (h : b.bulkReach x.addr (accessBytes x) = 0)
    (free : b.heldPage x.addr (accessBytes x) = none) : b.bulkAccess x = b.makeAccess x := by
  rw [Blk.bulkAccess, if_neg (by simpa using h), free]

theorem Blk.makeAccess_read {b b' : Blk} {x : BulkAccess} {c : Nat} {bs : List Byte} (hx : x.data = none)
    (read : b.unitRead x.cls x.addr x.size = (c, bs, b')) : b.makeAccess x = b'.emit (.bulk x.cls x.addr c bs) := by
  simp only [Blk.makeAccess, hx, read]

theorem Blk.makeAccess_write {b b' : Blk} {x : BulkAccess} {c : Nat} {bs : List Byte} (hx : x.data = some bs)
    (write : b.unitWrite x.cls x.addr (bs.take x.size) = (c, b')) : b.makeAccess x = b'.emit (.bulk x.cls x.addr c []) := by
  simp only [Blk.makeAccess, hx, write]

theorem accessBytes_read {x : BulkAccess} (h : x.data = none) : accessBytes x = x.size := by rw [accessBytes, h]
theorem accessBytes_write {x : BulkAccess} {bs : List Byte} (h : x.data = some bs) : accessBytes x = (bs.take x.size).length := by
  rw [accessBytes, h]

/-! ### A correctable error -/

/-- A correctable error is counted and raised; beside that only the tracker and the page map can change. -/
theorem Blk.correctUnit_shows (b : Blk) (page finder : Nat) :
    ((b.correctUnit page finder).regs = ((b.bumpSat BULK.ECC_CE_COUNT).raise BULK.IRQ_RAW_CE).regs) ∧
      (b.correctUnit page finder).bulk.flips = b.bulk.flips ∧ (b.correctUnit page finder).bulk.bytes = b.bulk.bytes := by
  unfold Blk.correctUnit
  extract_lets b1 b2 n lim x
  split
  · exact ⟨rfl, rfl, rfl⟩
  · exact ⟨rfl, rfl, rfl⟩

theorem Blk.correctUnit_counts (b : Blk) (page finder : Nat) :
    (b.correctUnit page finder).flag BULK.IRQ_RAW_CE = true ∧
      (b.correctUnit page finder).get BULK.ECC_CE_COUNT = satInc BULK.ECC_CE_COUNT.w (b.get BULK.ECC_CE_COUNT) := by
  obtain ⟨regs, -, -⟩ := b.correctUnit_shows page finder
  constructor
  · unfold Blk.flag
    rw [Blk.get_of_regs_eq regs]
    exact Blk.flag_raise_same _ _ (by unfold Fld.fits; decide) (by decide)
  · rw [Blk.get_of_regs_eq regs]
    unfold Blk.raise
    rw [Blk.get_set_apart _ _ _ _ (by unfold Fld.fits; decide) (by unfold Fld.apart; decide), Blk.get_bumpSat_same _ _ (by unfold Fld.fits; decide)]

/-- Settles O32: the access by where it lies (`bulkAccess_refused`, `bulkAccess_waits`, `bulkAccess_made`), the data by units
(`unitRead_clean`, `unitRead_fails`, `unitWrite_clean`), a check by what its code finds (`unitCheck_eq`). -/
theorem bulkAccessesReadAndStoreAtTheirAddress : Obligations.BulkAccessesReadAndStoreAtTheirAddress := by
  unfold Obligations.BulkAccessesReadAndStoreAtTheirAddress
  refine ⟨fun s x wf => ?_, fun b cls u inside live good => ⟨fun h => ?_, fun h => ?_, fun h => ?_⟩⟩
  · intro n outcome
    refine ⟨fun h => exec_blk (f := fun b => b.bulkAccess x) rfl wf (Blk.bulkAccess_refused h),
      fun p h held => exec_blk (f := fun b => b.bulkAccess x) rfl wf (Blk.bulkAccess_waits h held), fun h free => ?_⟩
    have made := Blk.bulkAccess_made h free
    refine ⟨fun clean => ⟨fun hx => ?_, fun bs hx => ?_⟩, fun u rest hx units inside live bad => ?_,
      ⟨_, exec_blk (f := fun b => b.bulkAccess x) rfl wf rfl⟩⟩
    · have length : n = x.size := accessBytes_read hx
      rw [length] at clean ⊢
      exact exec_blk (f := fun b => b.bulkAccess x) rfl wf (made.trans (Blk.makeAccess_read hx (Blk.unitRead_clean x.cls clean)))
    · have length : n = (bs.take x.size).length := accessBytes_write hx
      rw [length] at clean ⊢
      obtain ⟨b', write, kept, bytes⟩ := Blk.unitWrite_clean x.cls x.addr (bs.take x.size) clean
      refine completes_of_blk (f := fun b => b.bulkAccess x) rfl wf (made.trans (Blk.makeAccess_write hx write)) ?_
      obtain ⟨read, rest⟩ := Blk.bulkGet_of_bytes bytes
      refine ⟨read, rest, ⟨rfl, kept.proj (·.flash) (fun _ _ _ => rfl), kept.proj (·.spm.bytes) (fun _ _ _ => rfl)⟩,
        kept.proj (·.regs) (fun _ _ _ => rfl), ?_⟩
      show b'.sent ++ _ = _
      rw [kept.proj (·.sent) (fun _ _ _ => rfl)]
    · have length : n = x.size := accessBytes_read hx
      rw [length] at units
      exact exec_blk (f := fun b => b.bulkAccess x) rfl wf
        (made.trans (Blk.makeAccess_read hx (Blk.unitRead_fails units (Blk.unitCheck_poisoned x.cls inside live bad) (by decide))))
  · rw [Blk.unitCheck_eq cls inside live good (by omega), if_pos h]
  · intro c
    have corrected : c = (0, (b.setUnitFlips u []).correctUnit (u / 64) (cls % 8)) := by
      rw [show c = b.unitCheck cls u from rfl, Blk.unitCheck_eq cls inside live good (by omega), if_neg (by omega), if_pos h]
    clear_value c
    subst corrected
    obtain ⟨-, flips, bytes⟩ := (b.setUnitFlips u []).correctUnit_shows (u / 64) (cls % 8)
    obtain ⟨raised, counted⟩ := (b.setUnitFlips u []).correctUnit_counts (u / 64) (cls % 8)
    generalize (b.setUnitFlips u []).correctUnit (u / 64) (cls % 8) = d at flips bytes raised counted
    refine ⟨rfl, ?_, raised, counted, bytes⟩
    unfold Blk.unitFlips
    rw [flips]
    exact Tbl.get_put_same (dflt []) b.bulk.flips u []
  · intro r
    rw [Blk.unitCheck_eq cls inside live good (by omega), if_neg (by omega), if_neg (by omega)]

end Sys2Proof.Machine
end

section
/-! PROOFS. Pages of bulk memory: retirement, reload, migration, the scrubber (spec/10 R237 to R246). -/

namespace Sys2Proof.Machine

/-! ### What a page's course can change -/

/-- `b'` differs from `b` in registers, reports, drawn free values, bulk memory but its bytes, the list of retired pages and the staged
lists of the search alone. -/
def Blk.keepsBesideMap (b b' : Blk) : Prop :=
  ∃ r q n m retired staged, b' = { b with
    regs := r, reports := q, fresh := n, bulk := m, fuse := { b.fuse with retired := retired }, search := { b.search with staged := staged } } ∧
    m.bytes = b.bulk.bytes

theorem Blk.keepsBesideMap_refl (b : Blk) : b.keepsBesideMap b := ⟨_, _, _, _, _, _, rfl, rfl⟩

theorem Blk.keepsBesideMap.trans {a b c : Blk} (h : a.keepsBesideMap b) (k : b.keepsBesideMap c) : a.keepsBesideMap c := by
  obtain ⟨r, q, n, m, l, g, rfl, bytes⟩ := h
  obtain ⟨r', q', n', m', l', g', rfl, bytes'⟩ := k
  exact ⟨r', q', n', m', l', g', rfl, bytes'.trans bytes⟩

theorem Blk.keepsBesideMap.proj {α : Type} {b b' : Blk} (h : b.keepsBesideMap b') (f : Blk → α)
    (same : ∀ r q n m retired staged, f { b with
      regs := r, reports := q, fresh := n, bulk := m, fuse := { b.fuse with retired := retired }, search := { b.search with staged := staged } } =
      f b) : f b' = f b := by
  obtain ⟨r, q, n, m, l, g, rfl, -⟩ := h
  exact same r q n m l g

theorem Blk.keepsBesideMap.bytes {b b' : Blk} (h : b.keepsBesideMap b') : b'.bulk.bytes = b.bulk.bytes := by
  obtain ⟨r, q, n, m, l, g, rfl, bytes⟩ := h
  exact bytes

theorem Blk.keepsBesideMap_set (b : Blk) (f : Fld) (v : Nat) : b.keepsBesideMap (b.set f v) := ⟨_, _, _, _, _, _, rfl, rfl⟩
theorem Blk.keepsBesideMap_setBpage (b : Blk) (p : Nat) (x : BulkPage) : b.keepsBesideMap (b.setBpage p x) := ⟨_, _, _, _, _, _, rfl, rfl⟩
theorem Blk.keepsBesideMap_markUnit (b : Blk) (u : Nat) (p : Bool) : b.keepsBesideMap (b.markUnit u p) := ⟨_, _, _, _, _, _, rfl, rfl⟩
theorem Blk.keepsBesideMap_untrack (b : Blk) (p : Nat) : b.keepsBesideMap (b.untrack p) := ⟨_, _, _, _, _, _, rfl, rfl⟩

theorem Blk.keepsBesideMap.set {b b' : Blk} (h : b.keepsBesideMap b') (f : Fld) (v : Nat) : b.keepsBesideMap (b'.set f v) :=
  h.trans (b'.keepsBesideMap_set f v)

theorem Blk.keepsBesideMap_each {α : Type} (f : Blk → α → Blk) (hf : ∀ b i, Blk.keepsBesideMap b (f b i)) (l : List α) (b : Blk) :
    b.keepsBesideMap (b.each l f) := by
  induction l generalizing b with
  | nil => exact b.keepsBesideMap_refl
  | cons i l ih => exact (hf b i).trans (ih _)

theorem Blk.keepsBesideMap_ringStep (b : Blk) (next ovf : Fld) (used : Bool) : b.keepsBesideMap (b.ringStep next ovf used) := by
  unfold Blk.ringStep
  split
  · exact (b.keepsBesideMap_set _ _).set _ _
  · exact b.keepsBesideMap_set _ _

/-! ### Units marked -/

/-- The units of a page marked, each by what it holds itself. -/
theorem Blk.each_markUnit (g : Bool → List Nat → Bool) (n : Nat) : ∀ (first : Nat) (b : Blk) (u : Nat),
    ((b.each (slotRange first n) (fun b u => b.markUnit u (g (b.unitPoisoned u) (b.unitFlips u)))).unitPoisoned u =
      if first ≤ u ∧ u < first + n then g (b.unitPoisoned u) (b.unitFlips u) else b.unitPoisoned u) ∧
    ((b.each (slotRange first n) (fun b u => b.markUnit u (g (b.unitPoisoned u) (b.unitFlips u)))).unitFlips u =
      if first ≤ u ∧ u < first + n then [] else b.unitFlips u) := by
  induction n with
  | zero =>
    intro first b u
    rw [if_neg (by omega), if_neg (by omega)]
    exact ⟨rfl, rfl⟩
  | succ n ih =>
    intro first b u
    rw [slotRange_succ, Blk.each_cons]
    obtain ⟨poison, flips⟩ := ih (first + 1) (b.markUnit first (g (b.unitPoisoned first) (b.unitFlips first))) u
    rw [poison, flips, Blk.unitPoisoned_markUnit, Blk.unitFlips_markUnit]
    by_cases here : u = first
    · subst here
      simp
    · rw [if_neg here, if_neg here]
      by_cases there : first + 1 ≤ u ∧ u < first + 1 + n
      · rw [if_pos there, if_pos there, if_pos (by omega), if_pos (by omega)]
        exact ⟨rfl, rfl⟩
      · rw [if_neg there, if_neg there, if_neg (by omega), if_neg (by omega)]
        exact ⟨rfl, rfl⟩

/-- Marks leave of bulk memory all but the units' poison and wrong bits, and of the rest everything. -/
theorem Blk.each_markUnit_keeps (f : Blk → Nat → Bool) (l : List Nat) (b : Blk) :
    ∃ poison flips, b.each l (fun b u => b.markUnit u (f b u)) = { b with bulk := { b.bulk with poison := poison, flips := flips } } := by
  induction l generalizing b with
  | nil => exact ⟨_, _, rfl⟩
  | cons u l ih =>
    obtain ⟨poison, flips, run⟩ := ih (b.markUnit u (f b u))
    exact ⟨poison, flips, by rw [Blk.each_cons, run]; rfl⟩

theorem Blk.bpage_setBpage (b : Blk) (p q : Nat) (x : BulkPage) : (b.setBpage p x).bpage q = if q = p then x else b.bpage q :=
  Tbl.get_put _ _ _ _ _

/-! ### A reload's end -/

/-- The page after a reload that did not fail. -/
def Blk.reloaded (b : Blk) (page off : Nat) : Blk :=
  (b.each (slotRange (page * 64) 64) (fun b u => b.markUnit u false)).bulkPut (page * 4096) (b.flashGet off 4096)

theorem Blk.pageHeld_bulkPut (b : Blk) (a : Nat) (bs : List Byte) (p : Nat) : (b.bulkPut a bs).pageHeld p = b.pageHeld p := rfl

theorem Blk.unitPoisoned_bulkPut (b : Blk) (a : Nat) (bs : List Byte) (u : Nat) : (b.bulkPut a bs).unitPoisoned u = b.unitPoisoned u := rfl
theorem Blk.unitFlips_bulkPut (b : Blk) (a : Nat) (bs : List Byte) (u : Nat) : (b.bulkPut a bs).unitFlips u = b.unitFlips u := rfl

theorem Blk.flashGet_page (b : Blk) (off : Nat) : (b.flashGet off 4096).length = 4096 := by
  simp [Blk.flashGet, Tbl.getMany]

theorem Blk.reloaded_shows (b : Blk) (page off : Nat) :
    (b.reloaded page off).bulkGet (page * 4096) 4096 = b.flashGet off 4096 ∧ b.bulkKept (b.reloaded page off) (page * 4096) 4096 ∧
    (∀ u, page * 64 ≤ u → u < page * 64 + 64 → (b.reloaded page off).unitPoisoned u = false ∧ (b.reloaded page off).unitFlips u = []) ∧
    (b.reloaded page off).pageHeld page = b.pageHeld page := by
  have marks := Blk.each_markUnit (fun _ _ => false) 64 (page * 64) b
  obtain ⟨poison, flips, run⟩ := Blk.each_markUnit_keeps (fun _ _ => false) (slotRange (page * 64) 64) b
  unfold Blk.reloaded
  simp only [run] at marks ⊢
  have bytes := Blk.bulkGet_of_bytes (b := b)
    (b' := ({ b with bulk := { b.bulk with poison := poison, flips := flips } } : Blk).bulkPut (page * 4096) (b.flashGet off 4096))
    (fun k => Blk.bulkByte_bulkPut _ _ _ _)
  rw [b.flashGet_page off] at bytes
  refine ⟨bytes.1, bytes.2, fun u lo hi => ?_, Blk.pageHeld_bulkPut _ _ _ _⟩
  obtain ⟨good, clean⟩ := marks u
  rw [if_pos ⟨lo, hi⟩] at good clean
  exact ⟨(Blk.unitPoisoned_bulkPut _ _ _ _).trans good, (Blk.unitFlips_bulkPut _ _ _ _).trans clean⟩

/-- The page that a reload frees. -/
def Blk.reloadFreed (b : Blk) (page : Nat) (rest : List Nat) : Blk :=
  ({ b with bulk := { b.bulk with reloads := rest } } : Blk).setBpage page { b.bpage page with reloading := false }

theorem Blk.reloadFreed_held (b : Blk) (page : Nat) (rest : List Nat) :
    (b.reloadFreed page rest).pageHeld page = (b.bpage page).migrating.isSome := by
  unfold Blk.pageHeld Blk.reloadFreed
  rw [Blk.bpage_setBpage, if_pos rfl]
  rfl

/-- A reload that fails. -/
def Blk.reloadFailed (b : Blk) (page : Nat) : Blk :=
  (((b.raise BULK.IRQ_RAW_RELOAD_FAIL).captureOwnFree Page.BULK 0x04).raise MOVER.IRQ_RAW_RELOAD_ERR).releasePage page

theorem Blk.reloadComplete_eq {b : Blk} {page : Nat} {rest : List Nat} (queue : b.bulk.reloads = page :: rest)
    (bulk : b.powered Page.BULK = true) (mover : b.powered Page.MOVER = true) (e : Bool) :
    b.reloadComplete e = match e, b.reloadFrom page with
      | false, some off => (((((b.reloadFreed page rest).reloaded page off).raise BULK.IRQ_RAW_RELOAD_DONE).raise
          MOVER.IRQ_RAW_RELOAD_DONE).bump MOVER.RELOAD_STATUS_DONE).releasePage page
      | _, _ => (b.reloadFreed page rest).reloadFailed page := by
  unfold Blk.reloadComplete
  rw [queue]
  exact if_neg (by simp [bulk, mover])

theorem Blk.reloadComplete_idle {b : Blk} (h : b.bulk.reloads = [] ∨ b.powered Page.BULK = false ∨ b.powered Page.MOVER = false) (e : Bool) :
    b.reloadComplete e = b := by
  unfold Blk.reloadComplete
  split
  · rfl
  · next page rest queue =>
    refine if_pos ?_
    obtain none | off | off := h
    · rw [none] at queue
      exact absurd queue (by simp)
    · simp [off]
    · simp [off]

/-! ### Spares -/

theorem Blk.listRetired_mem (b : Blk) (page : Nat) : page ∈ (b.listRetired page).fuse.retired := by
  unfold Blk.listRetired
  split
  · next h => simpa using h
  · simp

theorem Blk.keepsBesideMap_listRetired (b : Blk) (page : Nat) : b.keepsBesideMap (b.listRetired page) := by
  unfold Blk.listRetired
  split
  · exact b.keepsBesideMap_refl
  · exact ⟨_, _, _, _, _, _, rfl, rfl⟩

theorem Blk.listRetired_bulk (b : Blk) (page : Nat) : (b.listRetired page).bulk = b.bulk := by
  unfold Blk.listRetired
  split <;> rfl

theorem Blk.listRetired_regs (b : Blk) (page : Nat) : (b.listRetired page).regs = b.regs := by
  unfold Blk.listRetired
  split <;> rfl

/-- The spare taken, before the threshold is looked at. -/
def Blk.spareMapped (b : Blk) (page : Nat) : Blk :=
  let k := b.bulk.used
  let b := b.listRetired page
  let b := { b with bulk := { b.bulk with used := k + 1 } }
  let b := b.setBpage page { b.bpage page with spare := some k }
  { b with search := { b.search with staged := b.search.staged.filter (fun l => page < l.first || l.last < page) } }

theorem Blk.takeSpare_eq (b : Blk) (page : Nat) : b.takeSpare page =
    (b.spareMapped page).when (65536 - (b.bulk.used + 1) == (b.spareMapped page).get BULK.SPARE_LOW) (fun b => b.raise BULK.IRQ_RAW_SPARES_LOW) := rfl

theorem Blk.spareMapped_bulk (b : Blk) (page : Nat) : (b.spareMapped page).bulk =
    { b.bulk with used := b.bulk.used + 1, pages := Tbl.put pageDfltB b.bulk.pages page { b.bpage page with spare := some b.bulk.used } } := by
  have page' : (b.listRetired page).bpage page = b.bpage page := by
    unfold Blk.bpage
    rw [b.listRetired_bulk]
  show ({ (b.listRetired page).bulk with
    used := b.bulk.used + 1,
    pages := Tbl.put pageDfltB (b.listRetired page).bulk.pages page { (b.listRetired page).bpage page with spare := some b.bulk.used } } : BulkSt) = _
  rw [page', b.listRetired_bulk]

theorem Blk.takeSpare_bulk (b : Blk) (page : Nat) : (b.takeSpare page).bulk =
    { b.bulk with used := b.bulk.used + 1, pages := Tbl.put pageDfltB b.bulk.pages page { b.bpage page with spare := some b.bulk.used } } := by
  rw [← b.spareMapped_bulk, b.takeSpare_eq, Blk.when]
  split <;> rfl

theorem Blk.takeSpare_retired (b : Blk) (page : Nat) : page ∈ (b.takeSpare page).fuse.retired := by
  have same : (b.takeSpare page).fuse = (b.listRetired page).fuse := by
    rw [b.takeSpare_eq, Blk.when]
    split <;> rfl
  rw [same]
  exact b.listRetired_mem page

theorem Blk.keepsBesideMap_takeSpare (b : Blk) (page : Nat) : b.keepsBesideMap (b.takeSpare page) := by
  have mapped : b.keepsBesideMap (b.spareMapped page) := (b.keepsBesideMap_listRetired page).trans ⟨_, _, _, _, _, _, rfl, rfl⟩
  rw [b.takeSpare_eq, Blk.when]
  split
  · exact mapped.set _ _
  · exact mapped

theorem Blk.takeSpare_reports (b : Blk) (page : Nat) : (b.takeSpare page).reports = b.reports := by
  have listed : (b.listRetired page).reports = b.reports := by
    unfold Blk.listRetired
    split <;> rfl
  rw [b.takeSpare_eq, Blk.when]
  split
  · exact listed
  · exact listed

theorem Blk.keepsRegs_takeSpare (b : Blk) (page : Nat) : b.keepsRegs (b.takeSpare page) [BULK.IRQ_RAW_SPARES_LOW.key] := by
  have mapped : b.keepsRegs (b.spareMapped page) [BULK.IRQ_RAW_SPARES_LOW.key] := fun k _ => by
    show Tbl.get _ (b.listRetired page).regs k = _
    rw [b.listRetired_regs]
    rfl
  rw [b.takeSpare_eq, Blk.when]
  split
  · exact mapped.set _ (List.mem_singleton.mpr rfl)
  · exact mapped

/-! ### The retirement log -/

theorem Blk.logRetire_eq (b : Blk) (page kind finder : Nat) : ∃ l used, b.logRetire page kind finder =
    ({ b with bulk := { b.bulk with rlog := l } } : Blk).ringStep BULK.RLOG_HEAD_NEXT BULK.RLOG_HEAD_OVF used := ⟨_, _, rfl⟩

theorem Blk.ringStep_regs (b : Blk) (next ovf : Fld) (used : Bool) : ∃ r, b.ringStep next ovf used = { b with regs := r } := by
  unfold Blk.ringStep
  split <;> exact ⟨_, rfl⟩

/-- The retirement log is all that an entry changes, beside its head. -/
theorem Blk.logRetire_keeps (b : Blk) (page kind finder : Nat) :
    ∃ l r, b.logRetire page kind finder = { b with regs := r, bulk := { b.bulk with rlog := l } } := by
  obtain ⟨l, used, log⟩ := b.logRetire_eq page kind finder
  obtain ⟨r, step⟩ := Blk.ringStep_regs { b with bulk := { b.bulk with rlog := l } } BULK.RLOG_HEAD_NEXT BULK.RLOG_HEAD_OVF used
  exact ⟨l, r, log.trans step⟩

theorem Blk.keepsRegs_ringStep (b : Blk) {next ovf : Fld} (used : Bool) (h : ovf.key = next.key) : b.keepsRegs (b.ringStep next ovf used) [next.key] := by
  unfold Blk.ringStep
  split
  · exact ((b.keepsRegs_refl _).set _ (by simp [h])).set _ (List.mem_singleton.mpr rfl)
  · exact (b.keepsRegs_refl _).set _ (List.mem_singleton.mpr rfl)

theorem Blk.keepsRegs_logRetire (b : Blk) (page kind finder : Nat) :
    b.keepsRegs (b.logRetire page kind finder) [BULK.RLOG_HEAD_NEXT.key] := by
  obtain ⟨l, used, log⟩ := b.logRetire_eq page kind finder
  rw [log]
  exact Blk.keepsRegs.trans (b := { b with bulk := { b.bulk with rlog := l } }) (fun _ _ => rfl) (Blk.keepsRegs_ringStep _ used rfl)

theorem Blk.keepsBesideMap_logRetire (b : Blk) (page kind finder : Nat) : b.keepsBesideMap (b.logRetire page kind finder) := by
  obtain ⟨l, r, log⟩ := b.logRetire_keeps page kind finder
  rw [log]
  exact ⟨_, _, _, _, _, _, rfl, rfl⟩

/-! ### A migration's end -/

/-- The blocks after a page was copied to its spare, its accesses still waiting. -/
def Blk.migrated (b : Blk) (page finder : Nat) : Blk :=
  ((((b.copyCorrected page).takeSpare page).untrack page).logRetire page 1 finder).raise BULK.IRQ_RAW_RETIRED

theorem Blk.migrationDone_eq {b : Blk} {page finder : Nat} (h : (b.bpage page).migrating = some finder) : b.migrationDone page =
    if 65536 ≤ b.bulk.used then (b.setBpage page { b.bpage page with migrating := none }).releasePage page
    else ((b.setBpage page { b.bpage page with migrating := none }).migrated page finder).releasePage page := by
  unfold Blk.migrationDone
  rw [h]
  rfl

theorem Blk.migrationDone_none {b : Blk} {page : Nat} (h : (b.bpage page).migrating = none) : b.migrationDone page = b := by
  unfold Blk.migrationDone
  rw [h]

theorem Blk.copyCorrected_part {β : Type} (part : Blk → β) (same : ∀ (b : Blk) (u : Nat) (p : Bool), part (b.markUnit u p) = part b) (b : Blk)
    (page : Nat) : part (b.copyCorrected page) = part b := by
  unfold Blk.copyCorrected
  exact Blk.each_part part (fun b u => same b u _) _ b

theorem Blk.keepsRegs_migrated (b : Blk) (page finder : Nat) : b.keepsRegs (b.migrated page finder)
    [BULK.IRQ_RAW_RETIRED.key, BULK.IRQ_RAW_SPARES_LOW.key, BULK.RLOG_HEAD_NEXT.key] := by
  have copy : b.keepsRegs (b.copyCorrected page) [BULK.IRQ_RAW_RETIRED.key, BULK.IRQ_RAW_SPARES_LOW.key, BULK.RLOG_HEAD_NEXT.key] := fun k _ =>
    Blk.copyCorrected_part (fun b => b.word k) (fun _ _ _ => rfl) b page
  have spare := (copy.trans ((Blk.keepsRegs_takeSpare _ page).mono (by simp))).trans (c := ((b.copyCorrected page).takeSpare page).untrack page)
    (fun _ _ => rfl)
  exact (spare.trans ((Blk.keepsRegs_logRetire _ page 1 finder).mono (by simp))).set _ (by simp)

/-- What the migration leaves of bulk memory, unit by unit and page by page. -/
theorem Blk.migrated_shows (b : Blk) (page finder : Nat) :
    (b.migrated page finder).bpage page = { b.bpage page with spare := some b.bulk.used } ∧
    (b.migrated page finder).bulk.used = b.bulk.used + 1 ∧
    (∀ u, (b.migrated page finder).unitFlips u = if page * 64 ≤ u ∧ u < page * 64 + 64 then [] else b.unitFlips u) ∧
    (∀ u, (b.migrated page finder).unitPoisoned u = if page * 64 ≤ u ∧ u < page * 64 + 64
      then b.unitPoisoned u || decide (2 ≤ unitFinding (b.unitFlips u)) else b.unitPoisoned u) ∧
    page ∈ (b.migrated page finder).fuse.retired ∧ (b.migrated page finder).flag BULK.IRQ_RAW_RETIRED = true ∧
    b.keepsBesideMap (b.migrated page finder) := by
  have marks := Blk.each_markUnit (fun p l => p || decide (2 ≤ unitFinding l)) 64 (page * 64) b
  have kept : b.keepsBesideMap (b.copyCorrected page) := Blk.keepsBesideMap_each _ (fun b u => b.keepsBesideMap_markUnit u _) _ b
  have page' : (b.copyCorrected page).bpage page = b.bpage page := Blk.copyCorrected_part (fun b => b.bpage page) (fun _ _ _ => rfl) b page
  have used' : (b.copyCorrected page).bulk.used = b.bulk.used := Blk.copyCorrected_part (fun b => b.bulk.used) (fun _ _ _ => rfl) b page
  change ∀ u, (b.copyCorrected page).unitPoisoned u = _ ∧ (b.copyCorrected page).unitFlips u = _ at marks
  unfold Blk.migrated
  generalize b.copyCorrected page = x at *
  have taken := x.takeSpare_bulk page
  have listed := x.takeSpare_retired page
  have kept' := kept.trans (x.keepsBesideMap_takeSpare page)
  clear kept
  generalize x.takeSpare page = y at *
  obtain ⟨l, r, log⟩ := (y.untrack page).logRetire_keeps page 1 finder
  have kept := (kept'.trans (y.keepsBesideMap_untrack page)).trans (Blk.keepsBesideMap_logRetire _ page 1 finder)
  rw [log] at kept ⊢
  refine ⟨?_, ?_, fun u => ?_, fun u => ?_, listed, Blk.flag_raise_same _ _ (by unfold Fld.fits; decide) (by decide), kept.set _ _⟩
  · show Tbl.get _ y.bulk.pages page = _
    rw [taken, Tbl.get_put_same, page', used']
  · show y.bulk.used = _
    rw [taken, used']
  · show Tbl.get _ y.bulk.flips u = _
    rw [taken]
    exact (marks u).2
  · show Tbl.get _ y.bulk.poison u = _
    rw [taken]
    exact (marks u).1

/-! ### The watchdog of waits -/

theorem Blk.reloadHoldTimeout_eq (b : Blk) : b.reloadHoldTimeout =
    ({ b with bulk := { b.bulk with waits := b.bulk.waits.filter (fun w => !(b.bulkExpired w && w.access.isSome)) } } : Blk).emitAll
      ((b.bulk.waits.filter (fun w => (b.bulkExpired w && w.access.isSome) && !w.own)).filterMap
        (fun w => w.access.map (fun x => OutEvent.bulk x.cls x.addr bkPoison []))) := by
  unfold Blk.reloadHoldTimeout
  extract_lets late ended b'
  rw [show ended = b.bulk.waits.filter late from rfl, List.filter_filter]
  congr 1
  exact congrArg _ (List.filter_congr fun w _ => Bool.and_comm _ _)

/-- Settles O33: a reload's end by `reloadComplete_eq` and `reloaded_shows`, a migration's by `migrationDone_eq` and `migrated_shows`. -/
theorem reloadsAndMigrationsEnd : Obligations.ReloadsAndMigrationsEnd := by
  unfold Obligations.ReloadsAndMigrationsEnd
  refine ⟨fun s page rest queue bulk mover => ?_, fun s e h => exec_blk_same (f := fun b => b.reloadComplete e) rfl rfl (Blk.reloadComplete_idle h e),
    fun s => ?_, fun s page hp => ⟨fun none => ?_, fun finder found => ⟨fun full => ?_, fun room => ?_⟩⟩⟩
  · have done (e : Bool) := Blk.reloadComplete_eq queue bulk mover e
    refine ⟨fun off region => ?_, fun region => ?_, ?_⟩
    · obtain ⟨bytes, others, marks, held⟩ := (s.blk.reloadFreed page rest).reloaded_shows page off
      refine ⟨exec_blk (f := fun b => b.reloadComplete false) rfl rfl ?_, bytes, others, marks, held.trans (s.blk.reloadFreed_held page rest)⟩
      rw [done, region]
      rfl
    · refine exec_blk (f := fun b => b.reloadComplete false) rfl rfl ?_
      rw [done, region]
      rfl
    · refine exec_blk (f := fun b => b.reloadComplete true) rfl rfl ?_
      rw [done]
      rfl
  · refine completes_of_blk (f := fun b => b.reloadHoldTimeout) rfl rfl s.blk.reloadHoldTimeout_eq ⟨rfl, rfl, rfl, ⟨rfl, rfl, rfl, rfl⟩⟩
  · exact exec_blk_same (f := fun b => b.migrationDone page) rfl (decide_eq_true hp) (Blk.migrationDone_none none)
  · exact exec_blk (f := fun b => b.migrationDone page) rfl (decide_eq_true hp) ((Blk.migrationDone_eq found).trans (if_pos full))
  · refine ⟨_, exec_blk (f := fun b => b.migrationDone page) rfl (decide_eq_true hp)
      ((Blk.migrationDone_eq found).trans (if_neg (by omega))), ?_⟩
    have regs := (s.blk.setBpage page { s.blk.bpage page with migrating := none }).keepsRegs_migrated page finder
    obtain ⟨mapped, used, flips, poison, listed, raised, kept⟩ :=
      (s.blk.setBpage page { s.blk.bpage page with migrating := none }).migrated_shows page finder
    have kept := (s.blk.keepsBesideMap_setBpage page _).trans kept
    generalize (s.blk.setBpage page { s.blk.bpage page with migrating := none }).migrated page finder = d at *
    refine ⟨?_, used, kept.bytes, fun u lo hi => ⟨(flips u).trans (if_pos ⟨lo, hi⟩), (poison u).trans (if_pos ⟨lo, hi⟩)⟩,
      fun u out => ⟨(flips u).trans (if_neg out), (poison u).trans (if_neg out)⟩, listed, raised, regs,
      kept.proj (·.flash) (fun _ _ _ _ _ _ => rfl), kept.proj (·.spm) (fun _ _ _ _ _ _ => rfl)⟩
    rw [mapped, Blk.bpage_setBpage, if_pos rfl]
    rfl

end Sys2Proof.Machine
end

section
/-! PROOFS. Retirement of pages, the request shares and the scrubber (spec/10 R238 to R246). -/

namespace Sys2Proof.Machine

/-! ### A page takes a spare -/

/-- A retired page on its spare, before its reload is asked for. -/
def Blk.spared (b : Blk) (page kind finder : Nat) : Blk :=
  let b := ((b.takeSpare page).each (slotRange (page * 64) 64) (fun b u => b.markUnit u true)).logRetire page kind finder
  b.setBpage page { b.bpage page with migrating := none }

theorem Blk.setBpage_word (b : Blk) (p : Nat) (x : BulkPage) (k : Nat) : (b.setBpage p x).word k = b.word k := rfl

theorem Blk.keepsRegs_spared (b : Blk) (page kind finder : Nat) :
    b.keepsRegs (b.spared page kind finder) [BULK.IRQ_RAW_SPARES_LOW.key, BULK.RLOG_HEAD_NEXT.key] := by
  have spare := (b.keepsRegs_takeSpare page).mono (m := [BULK.IRQ_RAW_SPARES_LOW.key, BULK.RLOG_HEAD_NEXT.key]) (by simp)
  have marks : (b.takeSpare page).keepsRegs ((b.takeSpare page).each (slotRange (page * 64) 64) (fun b u => b.markUnit u true))
      [BULK.IRQ_RAW_SPARES_LOW.key, BULK.RLOG_HEAD_NEXT.key] := fun k _ =>
    Blk.each_part (f := fun b u => b.markUnit u true) (fun b => b.word k) (fun _ _ => rfl) _ _
  have logged := (spare.trans marks).trans ((Blk.keepsRegs_logRetire _ page kind finder).mono (by simp))
  exact fun k hk => (Blk.setBpage_word _ page _ k).trans (logged k hk)

theorem Blk.spared_shows (b : Blk) (page kind finder : Nat) :
    (b.spared page kind finder).bpage page = { b.bpage page with spare := some b.bulk.used, migrating := none } ∧
    (b.spared page kind finder).bulk.used = b.bulk.used + 1 ∧ (b.spared page kind finder).bulk.reloads = b.bulk.reloads ∧
    (∀ u, page * 64 ≤ u → u < page * 64 + 64 → (b.spared page kind finder).unitPoisoned u = true) ∧
    page ∈ (b.spared page kind finder).fuse.retired ∧ (b.spared page kind finder).reports = b.reports ∧
    b.keepsBesideMap (b.spared page kind finder) := by
  have taken := b.takeSpare_bulk page
  have listed := b.takeSpare_retired page
  have kept := b.keepsBesideMap_takeSpare page
  have reports := b.takeSpare_reports page
  unfold Blk.spared
  generalize b.takeSpare page = y at *
  have marks := Blk.each_markUnit (fun _ _ => true) 64 (page * 64) y
  obtain ⟨poison, flips, marked⟩ := Blk.each_markUnit_keeps (fun _ _ => true) (slotRange (page * 64) 64) y
  rw [marked] at marks ⊢
  clear marked
  have kept := kept.trans (c := { y with bulk := { y.bulk with poison := poison, flips := flips } }) ⟨_, _, _, _, _, _, rfl, rfl⟩
  obtain ⟨l, r, log⟩ := Blk.logRetire_keeps { y with bulk := { y.bulk with poison := poison, flips := flips } } page kind finder
  have kept := kept.trans (Blk.keepsBesideMap_logRetire _ page kind finder)
  rw [log] at kept ⊢
  refine ⟨?_, ?_, ?_, fun u lo hi => ?_, listed, reports, kept.trans (Blk.keepsBesideMap_setBpage _ _ _)⟩
  · rw [Blk.bpage_setBpage, if_pos rfl]
    show { Tbl.get _ y.bulk.pages page with migrating := none } = _
    rw [taken, Tbl.get_put_same]
  · show y.bulk.used = _
    rw [taken]
  · show y.bulk.reloads = _
    rw [taken]
  · exact (marks u).1.trans (if_pos ⟨lo, hi⟩)

/-! ### Retirement -/

/-- The uncorrectable error of a retirement of kind 0, and the page out of the tracker. -/
def Blk.retireFound (b : Blk) (page kind : Nat) : Blk :=
  let b := b.untrack page
  if kind == 0 then ((b.bumpSat BULK.ECC_UE_COUNT).raise BULK.IRQ_RAW_UE).captureOwnFree Page.BULK 0x01 else b

/-- A page marked DEAD, before that is told. -/
def Blk.deadMapped (b : Blk) (page : Nat) : Blk :=
  let b := b.setBpage page { b.bpage page with dead := true, reloading := false, migrating := none }
  { b with bulk := { b.bulk with reloads := b.bulk.reloads.filter (fun p => p != page) } }

/-- The page's end told: raised, captured and reported. -/
def Blk.deadTold (b : Blk) : Blk := ((b.raise BULK.IRQ_RAW_DEAD_PAGE).captureOwnFree Page.BULK 0x02).report 0x07 Page.BULK

/-- A page with no spare left. -/
def Blk.pageDead (b : Blk) (page : Nat) : Blk := (b.deadMapped page).deadTold

/-- The reload of a page asked for. -/
def Blk.reloadAsked (b : Blk) (page : Nat) : Blk :=
  if (b.reloadFrom page).isSome && !(b.bpage page).reloading then
    let b := b.setBpage page { b.bpage page with reloading := true }
    { b with bulk := { b.bulk with reloads := b.bulk.reloads ++ [page] } }
  else b

theorem Blk.retire_eq (b : Blk) (page kind finder : Nat) : b.retire page kind finder =
    if 65536 ≤ (b.retireFound page kind).bulk.used then (b.retireFound page kind).pageDead page
    else if (kind == 2) = true then (b.retireFound page kind).spared page kind finder
    else (((b.retireFound page kind).spared page kind finder).raise BULK.IRQ_RAW_RETIRED).reloadAsked page := rfl

/-- Registers a retirement can write. -/
def retireKeys : List Nat := BULK.ECC_UE_COUNT.key :: BULK.RLOG_HEAD_NEXT.key :: captureKeys Page.BULK

theorem Blk.retireFound_shows (b : Blk) (page kind : Nat) :
    (∃ t, (b.retireFound page kind).bulk = { b.bulk with tracker := t }) ∧ (b.retireFound page kind).reports = b.reports ∧
    b.keepsRegs (b.retireFound page kind) retireKeys := by
  unfold Blk.retireFound
  have untracked : b.keepsRegs (b.untrack page) retireKeys := fun _ _ => rfl
  extract_lets x
  split
  · have counted := (x.keepsBesideLog_set BULK.ECC_UE_COUNT (satInc 32 (x.get BULK.ECC_UE_COUNT))).trans (Blk.keepsBesideLog_set _ BULK.IRQ_RAW_UE 1)
    have kept := counted.trans (Blk.keepsBesideLog_captureFree _ Page.BULK 0x01 7)
    refine ⟨⟨_, kept.proj (·.bulk) (fun _ _ _ => rfl)⟩, kept.proj (·.reports) (fun _ _ _ => rfl), ?_⟩
    have regs := (untracked.set (f := BULK.ECC_UE_COUNT) (satInc 32 (x.get BULK.ECC_UE_COUNT)) (by decide)).set (f := BULK.IRQ_RAW_UE) 1 (by decide)
    exact regs.trans ((Blk.keepsRegs_captureFree _ Page.BULK 0x01 7).mono (by decide))
  · exact ⟨⟨_, rfl⟩, rfl, untracked⟩

/-- The reload of a page depends on the copy regions alone. -/
theorem Blk.reloadFrom_congr {b b' : Blk} (h : b.keepsRegs b' (BULK.IRQ_RAW_SPARES_LOW.key :: retireKeys)) (page : Nat) :
    b'.reloadFrom page = b.reloadFrom page := by
  have field (i : Nat) (hi : i < 16) : b'.get (BULK.CR_BASE_PAGE i) = b.get (BULK.CR_BASE_PAGE i) ∧ b'.get (BULK.CR_PAGES i) = b.get (BULK.CR_PAGES i) ∧
      b'.get (BULK.CR_FLASH_LO i) = b.get (BULK.CR_FLASH_LO i) ∧ b'.get (BULK.CR_FLASH_HI i) = b.get (BULK.CR_FLASH_HI i) ∧
      b'.flag (BULK.CR_BASE_AUTO i) = b.flag (BULK.CR_BASE_AUTO i) := by
    have apart : ∀ i < 16, (BULK.CR_BASE_PAGE i).key ∉ BULK.IRQ_RAW_SPARES_LOW.key :: retireKeys ∧
        (BULK.CR_PAGES i).key ∉ BULK.IRQ_RAW_SPARES_LOW.key :: retireKeys ∧ (BULK.CR_FLASH_LO i).key ∉ BULK.IRQ_RAW_SPARES_LOW.key :: retireKeys ∧
        (BULK.CR_FLASH_HI i).key ∉ BULK.IRQ_RAW_SPARES_LOW.key :: retireKeys ∧
        (BULK.CR_BASE_AUTO i).key ∉ BULK.IRQ_RAW_SPARES_LOW.key :: retireKeys := by decide
    obtain ⟨base, pages, lo, hi', auto⟩ := apart i hi
    exact ⟨h.get base, h.get pages, h.get lo, h.get hi', h.flag auto⟩
  have regions : b'.regionsOf page = b.regionsOf page := by
    unfold Blk.regionsOf indicesWhere
    refine List.filter_congr fun i hi => ?_
    obtain ⟨base, pages, -⟩ := field i (List.mem_range.mp hi)
    rw [base, pages]
  have inside : ∀ i ∈ b.regionsOf page, i < 16 := by
    intro i hi
    unfold Blk.regionsOf indicesWhere at hi
    exact List.mem_range.mp (List.mem_filter.mp hi).1
  unfold Blk.reloadFrom
  rw [regions]
  generalize b.regionsOf page = l at inside
  cases l with
  | nil => rfl
  | cons i rest =>
    obtain ⟨base, -, lo, hi, -⟩ := field i (inside i List.mem_cons_self)
    have autos : (i :: rest).any (fun j => b'.flag (BULK.CR_BASE_AUTO j)) = (i :: rest).any (fun j => b.flag (BULK.CR_BASE_AUTO j)) := by
      rw [Bool.eq_iff_iff, List.any_eq_true, List.any_eq_true]
      exact exists_congr fun j => and_congr_right fun hj => by rw [(field j (inside j hj)).2.2.2.2]
    dsimp only
    rw [autos, base, lo, hi]

/-- The page's end raised and captured leaves all behind the registers, and those of the other pages. -/
theorem Blk.deadCaptured_shows (b : Blk) :
    ((b.raise BULK.IRQ_RAW_DEAD_PAGE).captureOwnFree Page.BULK 0x02).flag BULK.IRQ_RAW_DEAD_PAGE = true ∧
    b.keepsBesideLog ((b.raise BULK.IRQ_RAW_DEAD_PAGE).captureOwnFree Page.BULK 0x02) ∧
    b.keepsOtherPages ((b.raise BULK.IRQ_RAW_DEAD_PAGE).captureOwnFree Page.BULK 0x02) [Page.BULK] := by
  have captured := Blk.flag_captureOwnFree_hIrq (b.raise BULK.IRQ_RAW_DEAD_PAGE) Page.BULK 0x02 (bit := 6) (by decide)
  rw [show hIrq Page.BULK 6 = BULK.IRQ_RAW_DEAD_PAGE from rfl, Blk.flag_raise_same _ _ (by unfold Fld.fits; decide) (by decide)] at captured
  exact ⟨captured, (b.keepsBesideLog_set _ _).trans (Blk.keepsBesideLog_captureFree _ Page.BULK 0x02 7),
    ((b.keepsOtherPages_refl _).set (f := BULK.IRQ_RAW_DEAD_PAGE) 1 (by decide)).trans (Blk.keepsOtherPages_captureOwnFree _ 0x02 (by decide))⟩

/-- A report leaves registers and bulk memory, and stands last. -/
theorem Blk.report_shows {b c : Blk} (cause page : Nat) (kept : b.keepsBesideLog c) (pages : b.keepsOtherPages c [Page.BULK]) :
    (∀ f, (c.report cause page).flag f = c.flag f) ∧ (c.report cause page).bulk = b.bulk ∧
    b.keepsOtherPages (c.report cause page) [Page.BULK] ∧ (c.report cause page).reports = b.reports ++ [⟨cause, page, false, 0xFF⟩] := by
  obtain ⟨r, t, n, rfl⟩ := kept
  exact ⟨fun _ => rfl, rfl, pages, rfl⟩

theorem Blk.deadTold_shows (b : Blk) :
    b.deadTold.flag BULK.IRQ_RAW_DEAD_PAGE = true ∧ b.deadTold.bulk = b.bulk ∧ b.keepsOtherPages b.deadTold [Page.BULK] ∧
    b.deadTold.reports = b.reports ++ [⟨0x07, Page.BULK, false, 0xFF⟩] := by
  obtain ⟨captured, kept, pages⟩ := b.deadCaptured_shows
  obtain ⟨flags, told⟩ := Blk.report_shows 0x07 Page.BULK kept pages
  exact ⟨(flags _).trans captured, told⟩

theorem Blk.deadMapped_page (b : Blk) (page : Nat) :
    (b.deadMapped page).bpage page = { b.bpage page with dead := true, reloading := false, migrating := none } :=
  (b.bpage_setBpage page page _).trans (if_pos rfl)

theorem Blk.deadMapped_shows (b : Blk) (page : Nat) :
    (b.deadMapped page).bulk.used = b.bulk.used ∧ (b.deadMapped page).bulk.bytes = b.bulk.bytes ∧
    (b.deadMapped page).bulk.reloads = b.bulk.reloads.filter (fun p => p != page) ∧ (b.deadMapped page).reports = b.reports ∧
    b.keepsOtherPages (b.deadMapped page) [Page.BULK] := ⟨rfl, rfl, rfl, rfl, fun _ _ => rfl⟩

theorem Blk.bpage_of_bulk {b b' : Blk} (h : b'.bulk = b.bulk) (page : Nat) : b'.bpage page = b.bpage page := by
  unfold Blk.bpage
  rw [h]

theorem Blk.pageDead_shows (b : Blk) (page : Nat) :
    ((b.pageDead page).bpage page).dead = true ∧ (b.pageDead page).pageHeld page = false ∧ (b.pageDead page).flag BULK.IRQ_RAW_DEAD_PAGE = true ∧
    (b.pageDead page).bulk.used = b.bulk.used ∧ (b.pageDead page).bulk.bytes = b.bulk.bytes ∧
    (b.pageDead page).bulk.reloads = b.bulk.reloads.filter (fun p => p != page) ∧
    (b.pageDead page).reports = b.reports ++ [⟨0x07, Page.BULK, false, 0xFF⟩] ∧ b.keepsOtherPages (b.pageDead page) [Page.BULK] := by
  have mapped := b.deadMapped_page page
  obtain ⟨used, bytes, reloads, told, same⟩ := b.deadMapped_shows page
  obtain ⟨flag, bulk, pages, reports⟩ := (b.deadMapped page).deadTold_shows
  have page' := (Blk.bpage_of_bulk bulk page).trans mapped
  unfold Blk.pageDead Blk.pageHeld
  rw [page', bulk, reports, told]
  exact ⟨rfl, rfl, flag, used, bytes, reloads, rfl, same.trans pages⟩

theorem Blk.reloadAsked_shows (b : Blk) (page : Nat) :
    (b.reloadAsked page).bulk.bytes = b.bulk.bytes ∧ (b.reloadAsked page).regs = b.regs ∧ (b.reloadAsked page).bulk.used = b.bulk.used ∧
    ((b.reloadAsked page).bpage page).spare = (b.bpage page).spare ∧ ((b.reloadAsked page).bpage page).migrating = (b.bpage page).migrating ∧
    (b.reloadAsked page).fuse = b.fuse ∧ (∀ u, (b.reloadAsked page).unitPoisoned u = b.unitPoisoned u) ∧
    (b.reloadAsked page).reports = b.reports ∧
    ((b.reloadFrom page).isSome = true → (b.bpage page).reloading = false →
      ((b.reloadAsked page).bpage page).reloading = true ∧ (b.reloadAsked page).bulk.reloads = b.bulk.reloads ++ [page]) := by
  unfold Blk.reloadAsked
  split
  · have mapped : (b.setBpage page { b.bpage page with reloading := true }).bpage page = { b.bpage page with reloading := true } :=
      (b.bpage_setBpage page page _).trans (if_pos rfl)
    refine ⟨rfl, rfl, rfl, congrArg (·.spare) mapped, congrArg (·.migrating) mapped, rfl, fun _ => rfl, rfl, fun _ _ => ⟨congrArg (·.reloading) mapped, rfl⟩⟩
  · next no => exact ⟨rfl, rfl, rfl, rfl, rfl, rfl, fun _ => rfl, rfl, fun some idle => absurd no (by simp [some, idle])⟩

/-- Registers that a retirement of a page can write. -/
theorem Blk.keepsRegs_foundSpared (b : Blk) (page kind finder : Nat) :
    b.keepsRegs ((b.retireFound page kind).spared page kind finder) (BULK.IRQ_RAW_SPARES_LOW.key :: retireKeys) := by
  obtain ⟨-, -, found⟩ := b.retireFound_shows page kind
  exact (found.mono (by decide)).trans ((Blk.keepsRegs_spared _ page kind finder).mono (by decide))

/-- A retired page that took a spare. -/
theorem Blk.retire_spare {b : Blk} {page kind finder : Nat} (room : b.bulk.used < 65536) :
    b.retire page kind finder = if (kind == 2) = true then (b.retireFound page kind).spared page kind finder
      else (((b.retireFound page kind).spared page kind finder).raise BULK.IRQ_RAW_RETIRED).reloadAsked page := by
  obtain ⟨⟨t, bulk⟩, -, -⟩ := b.retireFound_shows page kind
  have used : (b.retireFound page kind).bulk.used = b.bulk.used := by rw [bulk]
  rw [Blk.retire_eq, if_neg (by omega)]

theorem Blk.retire_dead {b : Blk} {page kind finder : Nat} (full : 65536 ≤ b.bulk.used) :
    b.retire page kind finder = (b.retireFound page kind).pageDead page := by
  obtain ⟨⟨t, bulk⟩, -, -⟩ := b.retireFound_shows page kind
  have used : (b.retireFound page kind).bulk.used = b.bulk.used := by rw [bulk]
  rw [Blk.retire_eq, if_pos (by omega)]

/-- What stands of a page that took a spare. -/
def Blk.sparedPage (b r : Blk) (page : Nat) : Prop :=
  r.bulk.bytes = b.bulk.bytes ∧ r.bulk.used = b.bulk.used + 1 ∧ (r.bpage page).spare = some b.bulk.used ∧ (r.bpage page).migrating = none ∧
    page ∈ r.fuse.retired ∧ (∀ u, page * 64 ≤ u → u < page * 64 + 64 → r.unitPoisoned u = true) ∧ r.reports = b.reports

theorem Blk.foundSpared_page (b : Blk) (page kind finder : Nat) :
    b.sparedPage ((b.retireFound page kind).spared page kind finder) page ∧
    ((b.retireFound page kind).spared page kind finder).bulk.reloads = b.bulk.reloads ∧
    (((b.retireFound page kind).spared page kind finder).bpage page).reloading = (b.bpage page).reloading := by
  obtain ⟨⟨t, bulk⟩, told, -⟩ := b.retireFound_shows page kind
  obtain ⟨mapped, used, reloads, poison, listed, reports, kept⟩ := (b.retireFound page kind).spared_shows page kind finder
  have page' : (b.retireFound page kind).bpage page = b.bpage page := by
    unfold Blk.bpage
    rw [bulk]
  have used' : (b.retireFound page kind).bulk.used = b.bulk.used := by rw [bulk]
  have bytes := kept.bytes
  rw [page', used'] at mapped
  rw [bulk] at used reloads bytes
  rw [told] at reports
  refine ⟨⟨bytes, used, ?_, ?_, listed, poison, reports⟩, reloads, ?_⟩ <;> rw [mapped]

theorem Blk.raise_page (b : Blk) (f : Fld) (page : Nat) : (b.raise f).bpage page = b.bpage page := rfl

theorem Blk.raise_spared {b r : Blk} {page : Nat} (f : Fld) (h : b.sparedPage r page) : b.sparedPage (r.raise f) page := h

theorem Blk.keepsRegs_retire (b : Blk) (page kind finder : Nat) : b.keepsOtherPages (b.retire page kind finder) [Page.BULK] := by
  have keys : ∀ k ∈ BULK.IRQ_RAW_SPARES_LOW.key :: retireKeys, pageOf k ∈ [Page.BULK] := by decide
  by_cases full : 65536 ≤ b.bulk.used
  · obtain ⟨-, -, found⟩ := b.retireFound_shows page kind
    obtain ⟨-, -, -, -, -, -, -, pages⟩ := (b.retireFound page kind).pageDead_shows page
    rw [Blk.retire_dead full]
    exact ((found.mono (by decide)).otherPages keys).trans pages
  · have spared := (b.keepsRegs_foundSpared page kind finder).otherPages keys
    rw [Blk.retire_spare (by omega)]
    split
    · exact spared
    · obtain ⟨-, regs, -⟩ := Blk.reloadAsked_shows (((b.retireFound page kind).spared page kind finder).raise BULK.IRQ_RAW_RETIRED) page
      intro k hk
      refine (congrArg (fun r => Tbl.get _ r k) regs).trans ?_
      exact (spared.set (f := BULK.IRQ_RAW_RETIRED) 1 (by decide)) k hk

theorem Blk.retire_spared {b : Blk} (page kind finder : Nat) (room : b.bulk.used < 65536) :
    b.sparedPage (b.retire page kind finder) page ∧ (kind ≠ 2 → (b.retire page kind finder).flag BULK.IRQ_RAW_RETIRED = true) ∧
    (kind ≠ 2 → (b.reloadFrom page).isSome = true → (b.bpage page).reloading = false →
      ((b.retire page kind finder).bpage page).reloading = true ∧ (b.retire page kind finder).bulk.reloads = b.bulk.reloads ++ [page]) := by
  obtain ⟨spared, reloads, reloading⟩ := b.foundSpared_page page kind finder
  have regs := b.keepsRegs_foundSpared page kind finder
  rw [Blk.retire_spare room]
  generalize (b.retireFound page kind).spared page kind finder = x at *
  by_cases loaded : kind = 2
  · rw [if_pos (by simpa using loaded)]
    exact ⟨spared, fun h => absurd loaded h, fun h => absurd loaded h⟩
  · rw [if_neg (by simpa using loaded)]
    obtain ⟨bytes, used, spare, migrating, listed, poison, reports⟩ := Blk.raise_spared BULK.IRQ_RAW_RETIRED spared
    have region : (x.raise BULK.IRQ_RAW_RETIRED).reloadFrom page = b.reloadFrom page :=
      Blk.reloadFrom_congr (regs.set (f := BULK.IRQ_RAW_RETIRED) 1 (by decide)) page
    have flag : (x.raise BULK.IRQ_RAW_RETIRED).flag BULK.IRQ_RAW_RETIRED = true := Blk.flag_raise_same _ _ (by unfold Fld.fits; decide) (by decide)
    have reloading : ((x.raise BULK.IRQ_RAW_RETIRED).bpage page).reloading = (b.bpage page).reloading := reloading
    have reloads : (x.raise BULK.IRQ_RAW_RETIRED).bulk.reloads = b.bulk.reloads := reloads
    generalize x.raise BULK.IRQ_RAW_RETIRED = y at *
    obtain ⟨bytes', regs', used', spare', migrating', fuse', poison', reports', asked⟩ := y.reloadAsked_shows page
    refine ⟨⟨bytes'.trans bytes, used'.trans used, spare'.trans spare, migrating'.trans migrating, by rw [fuse']; exact listed,
      fun u lo hi => (poison' u).trans (poison u lo hi), reports'.trans reports⟩, fun _ => ?_, fun _ some idle => ?_⟩
    · unfold Blk.flag
      rw [Blk.get_of_regs_eq regs']
      exact flag
    · rw [region, reloading, reloads] at asked
      exact asked some idle

/-! ### RETIRE_CTRL and SHARE -/

theorem Blk.writeRetire_eq (b : Blk) (v : Nat) : b.writeRetire v =
    if !bitAt v 0 then b.set BULK.RETIRE_CTRL_KIND (bitsAt v 1 2)
    else if bulkPages ≤ b.get BULK.RETIRE_PAGE then (b.set BULK.RETIRE_CTRL_KIND (bitsAt v 1 2)).captureOwnFree Page.BULK 0x05
    else if bitsAt v 1 2 % 4 == 1 then
      (if (b.bpage (b.get BULK.RETIRE_PAGE)).spare.isSome || (b.bpage (b.get BULK.RETIRE_PAGE)).dead then b.set BULK.RETIRE_CTRL_KIND (bitsAt v 1 2)
       else (b.set BULK.RETIRE_CTRL_KIND (bitsAt v 1 2)).retire (b.get BULK.RETIRE_PAGE) 2 1)
    else if bitsAt v 1 2 % 4 == 3 && !(b.bpage (b.get BULK.RETIRE_PAGE)).dead then
      (if ((b.set BULK.RETIRE_CTRL_KIND (bitsAt v 1 2)).retire (b.get BULK.RETIRE_PAGE) 3 1).pageHeld (b.get BULK.RETIRE_PAGE)
        then (b.set BULK.RETIRE_CTRL_KIND (bitsAt v 1 2)).retire (b.get BULK.RETIRE_PAGE) 3 1
        else ((b.set BULK.RETIRE_CTRL_KIND (bitsAt v 1 2)).retire (b.get BULK.RETIRE_PAGE) 3 1).releasePage (b.get BULK.RETIRE_PAGE))
    else b.set BULK.RETIRE_CTRL_KIND (bitsAt v 1 2) := by
  have page : (b.set BULK.RETIRE_CTRL_KIND (bitsAt v 1 2)).get BULK.RETIRE_PAGE = b.get BULK.RETIRE_PAGE :=
    Blk.get_set_apart _ _ _ _ (by unfold Fld.fits; decide) (by unfold Fld.apart; decide)
  have kind : (b.set BULK.RETIRE_CTRL_KIND (bitsAt v 1 2)).get BULK.RETIRE_CTRL_KIND = bitsAt v 1 2 % 4 :=
    Blk.get_set_same _ _ _ (by unfold Fld.fits; decide)
  have bpage (p : Nat) : (b.set BULK.RETIRE_CTRL_KIND (bitsAt v 1 2)).bpage p = b.bpage p := rfl
  unfold Blk.writeRetire
  simp only [page, kind, bpage]

/-- The registers of BULK as written. -/
theorem Blk.writeBlock_bulk (b : Blk) (a : Agent) (off : Nat) (v : Word) : b.writeBlock a Page.BULK off v =
    if off < 0x040 then b.writeHeader Page.BULK off v
    else if (off == 0x048) = true then b.writeShare a v.toNat
    else if (off == 0x074) = true then b.writeRetire v.toNat
    else b.storeKey (b.reachKey Page.BULK off) v := rfl

/-! ### The scrubber -/

/-- The unit that the scrubber's place names: a visible one, else one of the page whose spare it lies in. -/
def Blk.scrubUnit (b : Blk) : Option Nat :=
  if b.get BULK.SCRUB_POS < bulkUnits then some (b.get BULK.SCRUB_POS)
  else (b.spareOwner ((b.get BULK.SCRUB_POS - bulkUnits) / 64)).map (fun p => p * 64 + (b.get BULK.SCRUB_POS - bulkUnits) % 64)

/-- The scrubber looks at a unit, where there is one. -/
def Blk.scrubSeen (b : Blk) : Option Nat → Blk
  | none => b
  | some u => if b.pageHeld (u / 64) || (b.bpage (u / 64)).dead then b else (b.unitCheck 0 u).2

theorem Blk.bulkScrub_eq {b : Blk} (act : b.active Page.BULK = true) (en : b.flag BULK.SCRUB_CTRL_EN = true) : b.bulkScrub =
    if b.get BULK.SCRUB_POS + 1 < bulkUnits + 64 * (b.scrubSeen b.scrubUnit).bulk.used
      then (b.scrubSeen b.scrubUnit).set BULK.SCRUB_POS (b.get BULK.SCRUB_POS + 1)
      else ((b.scrubSeen b.scrubUnit).set BULK.SCRUB_POS 0).raise BULK.IRQ_RAW_SCRUB_PASS := by
  unfold Blk.bulkScrub
  exact if_pos (by simp [act, en])

theorem Blk.bulkScrub_idle {b : Blk} (h : b.active Page.BULK = false ∨ b.flag BULK.SCRUB_CTRL_EN = false) : b.bulkScrub = b :=
  if_neg (by obtain off | off := h <;> simp [off])

/-- Settles O34: a retirement by whether a spare is left (`retire_spared`, `retire_dead`), the registers as written (`writeRetire_eq`),
the scrubber by where its place lies (`bulkScrub_eq`). -/
theorem retirementSharesAndScrub : Obligations.RetirementSharesAndScrub := by
  unfold Obligations.RetirementSharesAndScrub
  refine ⟨fun b page kind finder _ _ => ?_, fun s a ok => ?_, fun s upsets wf => ?_⟩
  · intro r
    have pages : b.keepsOtherPages r [Page.BULK] := b.keepsRegs_retire page kind finder
    by_cases full : 65536 ≤ b.bulk.used
    · have dead : r = (b.retireFound page kind).pageDead page := Blk.retire_dead full
      obtain ⟨⟨t, bulk⟩, told, -⟩ := b.retireFound_shows page kind
      obtain ⟨gone, held, raised, used, bytes, reloads, reports, -⟩ := (b.retireFound page kind).pageDead_shows page
      rw [bulk] at used bytes reloads
      rw [told] at reports
      rw [← dead] at gone held raised used bytes reloads reports
      exact ⟨bytes, pages, fun h => absurd h (by omega), fun _ => ⟨gone, held, raised, used, reloads, reports⟩⟩
    · obtain ⟨⟨bytes, used, spare, migrating, listed, poison, reports⟩, raised, asked⟩ := b.retire_spared page kind finder (by omega)
      exact ⟨bytes, pages, fun _ => ⟨used, spare, migrating, listed, poison, raised, asked, reports⟩, fun h => absurd h full⟩
  · intro page x kind ends forced
    have written (v : Word) (hg : s.blk.granted a Page.BULK 0x074 v) := s.node.writeReg_block a v (by decide) hg
    refine ⟨fun hg => ?_, fun hg => ?_, fun v hg => ?_⟩
    · have effect : s.blk.writeRetire 3 = if bulkPages ≤ page then (kind 1).captureOwnFree Page.BULK 0x05
          else if x.spare.isSome ∨ x.dead = true then kind 1 else (kind 1).retire page 2 1 := by
        rw [Blk.writeRetire_eq, if_neg (by decide)]
        refine if_congr Iff.rfl rfl ((if_pos (by decide)).trans (if_congr ?_ rfl rfl))
        rw [Bool.or_eq_true]
      refine (exec_next (i := .retireLoad a) (f := fun n => n.writeReg a Page.BULK 0x074 true 3) rfl ok (written 3 hg)).trans ?_
      rw [Blk.writeBlock_bulk, if_neg (by decide), if_neg (by decide), if_pos (by decide)]
      refine (congrArg (fun b => ends b) effect).trans ?_
      split
      · rfl
      · split <;> rfl
    · have effect : s.blk.writeRetire 7 = if bulkPages ≤ page then (kind 3).captureOwnFree Page.BULK 0x05
          else if x.dead = true then kind 3 else if forced.pageHeld page = true then forced else forced.releasePage page := by
        rw [Blk.writeRetire_eq, if_neg (by decide)]
        refine if_congr Iff.rfl rfl ((if_neg (by decide)).trans ?_)
        by_cases dead : x.dead = true
        · rw [if_pos dead, if_neg]
          · rfl
          · rw [Bool.and_eq_true]
            exact fun h => absurd h.2 (by rw [show (s.blk.bpage _).dead = true from dead]; decide)
        · rw [if_neg dead, if_pos]
          · rfl
          · rw [Bool.and_eq_true]
            exact ⟨rfl, by simpa using dead⟩
      refine (exec_next (i := .retireForced a) (f := fun n => n.writeReg a Page.BULK 0x074 true 7) rfl ok (written 7 hg)).trans ?_
      rw [Blk.writeBlock_bulk, if_neg (by decide), if_neg (by decide), if_pos (by decide)]
      refine (congrArg (fun b => ends b) effect).trans ?_
      split
      · rfl
      · split <;> rfl
    · intro n
      refine (exec_next (i := .shareWrite a v) (f := fun n => n.writeReg a Page.BULK 0x048 true v) rfl ok (s.node.writeReg_block a v (by decide) hg)).trans ?_
      rw [Blk.writeBlock_bulk, if_neg (by decide), if_pos (by decide)]
      have effect : s.blk.writeShare a v.toNat =
          if bitsAt n 0 6 + bitsAt n 6 6 + bitsAt n 12 6 + bitsAt n 18 6 + bitsAt n 24 6 ≤ 60 then s.blk.storeKey (regKey Page.BULK 0x048) v
          else s.blk.captureFree Page.BULK 0x03 (agentCode a) := by
        unfold Blk.writeShare
        rw [BitVec.ofNat_toNat, BitVec.setWidth_eq]
        by_cases fits : bitsAt n 0 6 + bitsAt n 6 6 + bitsAt n 12 6 + bitsAt n 18 6 + bitsAt n 24 6 ≤ 60
        · rw [if_pos fits]
          exact if_neg (Nat.not_lt.mpr fits)
        · rw [if_neg fits]
          exact if_pos (Nat.lt_of_not_le fits)
      exact congrArg (fun b : Blk => Host.Outcome.next (s.withBlk (b.answered a Page.BULK 0x048))) effect
  · intro b pos ends
    have struck : s.blk.struck upsets = b := rfl
    refine ⟨fun h => exec_blk (f := fun b => (b.struck upsets).bulkScrub) rfl wf (Blk.bulkScrub_idle h), fun act en => ⟨fun u place => ?_,
      fun beyond free => ?_⟩⟩
    · have unit : b.scrubUnit = some u := by
        unfold Blk.scrubUnit
        by_cases visible : pos < bulkUnits
        · rw [if_pos visible] at place ⊢
          rw [place]
        · rw [if_neg visible] at place ⊢
          obtain ⟨p, owner, eq⟩ := place
          rw [owner, eq, Option.map_some]
      refine exec_blk (f := fun b => (b.struck upsets).bulkScrub) rfl wf ((Blk.bulkScrub_eq act en).trans ?_)
      have seen : b.scrubSeen (some u) =
          if b.pageHeld (u / 64) = true ∨ (b.bpage (u / 64)).dead = true then b else (b.unitCheck 0 u).2 := by
        simp only [Blk.scrubSeen, Bool.or_eq_true]
      rw [unit, seen]
    · have unit : b.scrubUnit = none := by
        unfold Blk.scrubUnit
        rw [if_neg (Nat.not_lt.mpr beyond)]
        exact congrArg (Option.map _) free
      refine exec_blk (f := fun b => (b.struck upsets).bulkScrub) rfl wf ((Blk.bulkScrub_eq act en).trans ?_)
      rw [unit]
      rfl

end Sys2Proof.Machine
end

section
/-! PROOFS. The flash-pattern detector (spec/16 R419 to R422). -/

namespace Sys2Proof.Machine

/-! ### Levels shown -/

/-- The word of SENT_LEVEL that shows the levels of eight pixel groups. -/
def levelWord (levels : List Nat) (j : Nat) : Word :=
  BitVec.ofNat 32 ((List.range 8).foldl (fun acc k => acc + (nth levels (8 * j + k) 0 % 16) * 16 ^ k) 0)

theorem Blk.showLevels_eq (b : Blk) (levels : List Nat) :
    b.showLevels levels = b.each (List.range 18) (fun b j => b.setWord ((OASIS.SENT_LEVEL 0).key + 4 * j) (levelWord levels j)) := rfl

/-- Words set one after the other: the last one set at a key stands, and the others stay. -/
theorem Blk.word_each_setWord_ne {α : Type} (key : α → Nat) (v : α → Word) (k : Nat) (l : List α) (b : Blk) (h : ∀ i ∈ l, key i ≠ k) :
    (b.each l (fun b i => b.setWord (key i) (v i))).word k = b.word k := by
  induction l generalizing b with
  | nil => rfl
  | cons i l ih =>
    rw [Blk.each_cons, ih _ (fun j hj => h j (List.mem_cons_of_mem _ hj)), Blk.word_setWord_ne _ _ (h i List.mem_cons_self).symm]

theorem Blk.word_each_setWord {α : Type} (key : α → Nat) (v : α → Word) (i : α) (inj : ∀ j, key j = key i → j = i) (l : List α) (b : Blk)
    (mem : i ∈ l) : (b.each l (fun b i => b.setWord (key i) (v i))).word (key i) = v i := by
  induction l generalizing b with
  | nil => exact absurd mem (List.not_mem_nil)
  | cons j l ih =>
    rw [Blk.each_cons]
    by_cases later : i ∈ l
    · exact ih _ later
    · obtain rfl : i = j := (List.mem_cons.mp mem).resolve_right later
      rw [Blk.word_each_setWord_ne _ _ _ _ _ (fun k hk => fun e => later (inj k e ▸ hk)), Blk.word_setWord_same]

theorem Blk.showLevels_word (b : Blk) (levels : List Nat) {j : Nat} (hj : j < 18) :
    (b.showLevels levels).word ((OASIS.SENT_LEVEL 0).key + 4 * j) = levelWord levels j := by
  rw [b.showLevels_eq]
  exact Blk.word_each_setWord (fun j => (OASIS.SENT_LEVEL 0).key + 4 * j) _ j (fun k hk => by omega) _ b (List.mem_range.mpr hj)

/-- The registers that show levels. -/
def levelKeys : List Nat := (List.range 18).map (fun j => (OASIS.SENT_LEVEL 0).key + 4 * j)

theorem Blk.keepsRegs_showLevels (b : Blk) (levels : List Nat) : b.keepsRegs (b.showLevels levels) levelKeys := fun k hk => by
  rw [b.showLevels_eq]
  exact Blk.word_each_setWord_ne _ _ k _ b (fun j hj e => hk (List.mem_map.mpr ⟨j, hj, e⟩))

theorem Blk.keepsBehind_showLevels (b : Blk) (levels : List Nat) : b.keepsBehind (b.showLevels levels) :=
  Blk.keepsBehind_each _ (fun b _ => b.keepsBehind_setWord _ _) _ b

/-- A page is as active as it was when neither its header nor what is powered changes. -/
theorem Blk.active_of_keeps {b b' : Blk} {keys : List Nat} (behind : b.keepsBehind b') (regs : b.keepsRegs b' keys) {page : Nat}
    (en : (hEn page).key ∉ keys) (frozen : (hFrozen page).key ∉ keys) (resetting : (hResetting page).key ∉ keys) :
    b'.active page = b.active page := by
  have powered : b'.powered page = b.powered page := behind.proj (fun b => b.powered page) (fun _ _ _ _ _ => rfl)
  simp only [Blk.active, powered, regs.flag en, regs.flag frozen, regs.flag resetting]

theorem Blk.sentinelSample_eq {b : Blk} (levels : List Nat) (on : b.powered Page.OASIS = true) : b.sentinelSample levels =
    if b.flag OASIS.SENT_CTRL_EN = false then (b.showLevels levels).setDet noDet
    else if b.active Page.OASIS = false then b.showLevels levels
    else (if (b.showLevels levels).oasis.det.on then
        (b.showLevels levels).setDet { (b.showLevels levels).oasis.det with sample := (b.showLevels levels).oasis.det.sample + 1 }
      else (b.showLevels levels).setDet { noDet with on := true, bg := (List.range 144).map (fun m => 16 * (nth levels m 0 % 16)) }).freeTrackers.each
      (List.range 144) (fun b m => b.macroStep levels m) := by
  have regs := b.keepsRegs_showLevels levels
  have en : (b.showLevels levels).flag OASIS.SENT_CTRL_EN = b.flag OASIS.SENT_CTRL_EN := regs.flag (by decide)
  have act : (b.showLevels levels).active Page.OASIS = b.active Page.OASIS :=
    Blk.active_of_keeps (b.keepsBehind_showLevels levels) regs (by decide) (by decide) (by decide)
  unfold Blk.sentinelSample
  rw [if_neg (by simp [on])]
  simp only [en, act, Bool.not_eq_true']

/-! ### Macro-pixels, patterns -/

theorem Blk.macroStep_background {b : Blk} {levels : List Nat} {m : Nat} (shown : b.sentMasked m = false) (dark : nth b.oasis.det.flash m none = none)
    (low : ((nth levels m 0 % 16 : Nat) : Int) - ((nth b.oasis.det.bg m 0 : Nat) : Int) / 16 < b.sentRise) :
    b.macroStep levels m = b.setDet { b.oasis.det with
      bg := setNth b.oasis.det.bg m (((nth b.oasis.det.bg m 0 : Nat) : Int) +
        (16 * ((nth levels m 0 % 16 : Nat) : Int) - ((nth b.oasis.det.bg m 0 : Nat) : Int)) / (2 ^ b.get OASIS.SENT_CTRL_BG_SHIFT : Nat)).toNat } := by
  unfold Blk.macroStep
  rw [if_neg (by simp [shown])]
  extract_lets d x bg rise bg'
  rw [show nth d.flash m none = none from dark]
  push_cast at low ⊢
  exact if_neg (Int.not_le.mpr low)

theorem patOf_register : ∀ p < 4, ∀ r < 3, patOf (0x100 + 0x10 * p + 4 * r) = some p ∧ blockRegister Page.OASIS (0x100 + 0x10 * p + 4 * r) = true := by
  decide

/-- The registers of OASIS as written. -/
theorem Blk.writeBlock_oasis (b : Blk) (a : Agent) (off : Nat) (v : Word) : b.writeBlock a Page.OASIS off v =
    if off < 0x040 then b.writeHeader Page.OASIS off v
    else match patOf off with
      | some p => (b.storeKey (b.reachKey Page.OASIS off) v).patWritten p
      | none => b.storeKey (b.reachKey Page.OASIS off) v := rfl

/-- Settles O18: the sample by what the detector is, a pixel group that only moves its background, a hold-off's end and a register's write. -/
theorem detectorSamplesAndPatterns : Obligations.DetectorSamplesAndPatterns := by
  unfold Obligations.DetectorSamplesAndPatterns
  refine ⟨fun s levels wf on => ?_, fun b levels m shown dark low => Blk.macroStep_background shown dark low, fun s p hp ended => ?_,
    fun s a p r v wf => ?_⟩
  · exact ⟨exec_blk (f := fun b => b.sentinelSample levels) rfl wf (Blk.sentinelSample_eq levels on), fun j hj => s.blk.showLevels_word levels hj⟩
  · exact exec_blk (f := fun b => b.holdoffEnd p) rfl (decide_eq_true hp) (if_pos (beq_iff_eq.mpr ended))
  · intro off hg stored
    have inside := wf
    simp only [Bool.and_eq_true, decide_eq_true_eq] at inside
    obtain ⟨⟨-, hp⟩, hr⟩ := inside
    obtain ⟨pattern, own⟩ := patOf_register p hp r hr
    refine (exec_next (i := .patternRegWrite a p r v) (f := fun n => n.writeReg a Page.OASIS off true v) rfl wf
      (s.node.writeReg_block a v own hg)).trans ?_
    have effect : s.blk.writeBlock a Page.OASIS off v = stored.setDet { stored.oasis.det with
        trackers := stored.oasis.det.trackers.filter (fun t => t.pattern != p) } := by
      rw [Blk.writeBlock_oasis, if_neg (show ¬ off < 0x040 by omega), show patOf off = some p from pattern]
      rfl
    exact congrArg (fun b : Blk => Host.Outcome.next (s.withBlk (b.answered a Page.OASIS off))) effect

end Sys2Proof.Machine
end

section
/-! PROOFS. Packets at a CSI-2 port (spec/05 R104, R108, R112, R114, R118). -/

namespace Sys2Proof.Machine

/-! ### A packet's header -/

/-- A channel noted as seen at a port. -/
def Blk.vcSeen (b : Blk) (p vc : Nat) : Blk := b.set (CSI.VC_SEEN p) (putBits (b.get (CSI.VC_SEEN p)) vc 1 1)

/-- The same, a corrected header counted. -/
def Blk.headerSeen (b : Blk) (p vc : Nat) (corrected : Bool) : Blk :=
  if corrected then (b.vcSeen p vc).bumpSat (CSI.ECC_CORR p) else b.vcSeen p vc

theorem Blk.vcSeen_frozen (b : Blk) {p vc : Nat} (hp : p < 2) : (b.vcSeen p vc).flag (hFrozen (csiPage p)) = b.flag (hFrozen (csiPage p)) := by
  refine ((b.keepsRegs_refl [(CSI.VC_SEEN p).key]).set _ (List.mem_singleton.mpr rfl)).flag ?_
  interval_cases p <;> decide

theorem Blk.csiHeader_eq {b : Blk} {p vc : Nat} (corrected : Bool) (f : Blk → Blk) (wf : csiOk p vc = true) (on : b.csiOn p = true) :
    b.csiHeader p (vc % 16) corrected f =
      if b.flag (hFrozen (csiPage p)) = true then (b.vcSeen p vc).unrouted p else f (b.headerSeen p vc corrected) := by
  simp only [csiOk, Bool.and_eq_true, decide_eq_true_eq] at wf
  obtain ⟨hp, hvc⟩ := wf
  have chan : vc % 16 % 16 = vc := by omega
  unfold Blk.csiHeader
  rw [if_neg (by simp [on]), chan]
  show (if (b.vcSeen p vc).flag (hFrozen (csiPage p)) = true then _ else _) = _
  rw [b.vcSeen_frozen hp]
  rfl

theorem csiOk_vc {p vc : Nat} (wf : csiOk p vc = true) : vc % 16 = vc := by
  simp only [csiOk, Bool.and_eq_true, decide_eq_true_eq] at wf
  omega

theorem Blk.csiPacket_frozen {b : Blk} {p vc : Nat} (corrected : Bool) (pre : Blk → Blk) (f : Blk → Nat → Blk) (wf : csiOk p vc = true)
    (on : b.csiOn p = true) (frozen : b.flag (hFrozen (csiPage p)) = true) : b.csiPacket p vc corrected pre f = (b.vcSeen p vc).unrouted p := by
  have header := Blk.csiHeader_eq corrected (fun b =>
    if b.powered Page.CROUTE && b.sourceInForce p (vc % 16) then (pre b).each (b.concerned p (vc % 16)) f else b.unrouted p) wf on
  rw [if_pos frozen, csiOk_vc wf] at header
  unfold Blk.csiPacket
  rw [csiOk_vc wf]
  exact header

theorem Blk.headerSeen_powered (b : Blk) (p vc : Nat) (corrected : Bool) (page : Nat) : (b.headerSeen p vc corrected).powered page = b.powered page := by
  unfold Blk.headerSeen
  split <;> rfl

/-- A packet that a context can take. -/
theorem Blk.csiPacket_open {b : Blk} {p vc : Nat} (corrected : Bool) (pre : Blk → Blk) (f : Blk → Nat → Blk) (wf : csiOk p vc = true)
    (on : b.csiOn p = true) (free : b.flag (hFrozen (csiPage p)) = false) (croute : b.powered Page.CROUTE = true) :
    b.csiPacket p vc corrected pre f =
      if (b.headerSeen p vc corrected).sourceInForce p vc = true
        then (pre (b.headerSeen p vc corrected)).each ((b.headerSeen p vc corrected).concerned p vc) f
      else (b.headerSeen p vc corrected).unrouted p := by
  have header := Blk.csiHeader_eq corrected (fun b =>
    if b.powered Page.CROUTE && b.sourceInForce p (vc % 16) then (pre b).each (b.concerned p (vc % 16)) f else b.unrouted p) wf on
  rw [if_neg (by simp [free]), csiOk_vc wf, b.headerSeen_powered, croute, Bool.true_and] at header
  unfold Blk.csiPacket
  rw [csiOk_vc wf]
  exact header

theorem Blk.csiDiscard_eq {b : Blk} {p vc : Nat} (corrected counted : Bool) (wf : csiOk p vc = true) (on : b.csiOn p = true) :
    b.csiDiscard p vc corrected counted = if b.flag (hFrozen (csiPage p)) = true then (b.vcSeen p vc).unrouted p
      else if counted then ((b.headerSeen p vc corrected).bumpSat (CSI.DT_DROPPED p)).raise (CSI.IRQ_RAW_DT_DROPPED p)
      else b.headerSeen p vc corrected := by
  have header := Blk.csiHeader_eq corrected
    (fun b => if counted then (b.bumpSat (CSI.DT_DROPPED p)).raise (CSI.IRQ_RAW_DT_DROPPED p) else b) wf on
  rw [csiOk_vc wf] at header
  exact header

/-! ### A packet at a context -/

/-- A Frame Start at an IDLE context: no frame too early. -/
theorem Blk.frameStartAt_eq (b : Blk) (fn j : Nat) : b.frameStartAt fn j =
    if b.ctxState j = ctxIdle then
      (if b.routeValid j = true ∧ b.flag (hEn Page.CROUTE) = true ∧
          (∀ l, (b.camCtx j).lastFs = some l → b.get (CROUTE.FRAME_TIMING_MIN_INTERVAL j) ≤ b.linesSince l)
        then b.acceptFrame j fn else b.dropFrame j)
    else if b.ctxState j = ctxActive then (b.cutFrame j 2).dropFrame j
    else b.dropFrame j := by
  unfold Blk.frameStartAt
  simp only [beq_iff_eq]
  refine if_congr Iff.rfl (if_congr ?_ rfl rfl) rfl
  cases (b.camCtx j).lastFs with
  | none => simp
  | some l =>
    simp only [Bool.and_eq_true, Bool.not_eq_true', decide_eq_false_iff_not, not_lt, Option.some.injEq, forall_eq']
    tauto

theorem Blk.frameEndAt_eq (b : Blk) (j : Nat) : b.frameEndAt j =
    if b.ctxState j = ctxActive then
      let b := b.modCam j (fun x => { x with lastPkt := b.ep.line })
      if (b.camCtx j).height ≤ (b.camCtx j).delivered then b.endCamFrame j else (b.camFlag j 1 1 1).startPadding j
    else b := by
  unfold Blk.frameEndAt
  simp only [beq_iff_eq]

theorem Blk.longAt_eq (b : Blk) (port dt : Nat) (bad : Bool) (px : List Nat) (j : Nat) : b.longAt port dt bad px j =
    if b.ctxState j = ctxActive then
      if (b.camCtx j).src.dt = dt then b.deliverLine j dt bad px
      else (b.bumpSat (CSI.DT_DROPPED port)).raise (CSI.IRQ_RAW_DT_DROPPED port)
    else b.bumpSat (CROUTE.ORPHAN_LINES j) := by
  unfold Blk.longAt
  simp only [beq_iff_eq]

/-! ### Kinds of packet -/

theorem Blk.csiLong_raw (b : Blk) (p vc : Nat) {dt : Nat} (corrected bad : Bool) (px : List Nat) (raw : rawType dt = true) :
    b.csiLong p vc dt corrected bad px = b.csiPacket p vc corrected
      (fun b => b.when bad (fun b =>
        ((b.bumpSat (CSI.CRC_ERR p)).raise (CSI.IRQ_RAW_CRC_ERR p)).captureOwn (csiPage p) 0x02 (vc % 16 + dt * 16)))
      (fun b j => b.longAt p dt bad px j) := if_pos raw

theorem Blk.csiLong_other (b : Blk) (p vc : Nat) {dt : Nat} (corrected bad : Bool) (px : List Nat) (other : rawType dt = false) :
    b.csiLong p vc dt corrected bad px = b.csiDiscard p vc corrected (!(dt == 0x10 || dt == 0x11)) := if_neg (by simp [other])

theorem Blk.csiOther_eq {b : Blk} {p : Nat} (vc kind : Nat) (corrected : Bool) (on : b.csiOn p = true) : b.csiOther p vc kind corrected =
    if kind = 6 then
      if b.flag (hFrozen (csiPage p)) = true then b.unrouted p
      else ((b.bumpSat (CSI.ECC_UNCORR p)).raise (CSI.IRQ_RAW_ECC_UNCORR p)).captureOwnFree (csiPage p) 0x01
    else if kind ≤ 1 then
      b.csiPacket p vc corrected id (fun b j =>
        if b.ctxState j = ctxActive then b.modCam j (fun x => { x with lastPkt := b.ep.line }) else b)
    else b.csiDiscard p vc corrected (decide (3 < kind)) := by
  unfold Blk.csiOther
  rw [if_neg (by simp [on])]
  simp only [beq_iff_eq]

/-- A frozen port discards every packet. -/
theorem Blk.csiLong_frozen {b : Blk} {p vc : Nat} (dt : Nat) (corrected bad : Bool) (px : List Nat) (wf : csiOk p vc = true)
    (on : b.csiOn p = true) (frozen : b.flag (hFrozen (csiPage p)) = true) : b.csiLong p vc dt corrected bad px = (b.vcSeen p vc).unrouted p := by
  cases raw : rawType dt
  · rw [b.csiLong_other p vc corrected bad px raw, Blk.csiDiscard_eq corrected _ wf on, if_pos frozen]
  · rw [b.csiLong_raw p vc corrected bad px raw, Blk.csiPacket_frozen corrected _ _ wf on frozen]

theorem Blk.csiOther_frozen {b : Blk} {p vc : Nat} (kind : Nat) (corrected : Bool) (wf : csiOk p vc = true) (on : b.csiOn p = true)
    (frozen : b.flag (hFrozen (csiPage p)) = true) : b.csiOther p vc kind corrected = (if kind = 6 then b else b.vcSeen p vc).unrouted p := by
  rw [Blk.csiOther_eq vc kind corrected on]
  by_cases six : kind = 6
  · rw [if_pos six, if_pos frozen, if_pos six]
  · rw [if_neg six, if_neg six]
    split
    · exact Blk.csiPacket_frozen corrected _ _ wf on frozen
    · rw [Blk.csiDiscard_eq corrected _ wf on, if_pos frozen]

/-- Settles O19: every packet by its header (`csiHeader_eq`), then by what its kind does at a context. -/
theorem cameraPacketsReachTheirContexts : Obligations.CameraPacketsReachTheirContexts := by
  unfold Obligations.CameraPacketsReachTheirContexts
  refine ⟨fun s port vc wf on frozen => ?_, fun s port vc wf on free croute => ?_⟩
  · intro seen
    have and_wf {p : Prop} [Decidable p] (h : p) : (csiOk port vc && decide p) = true := by simp [wf, h]
    refine ⟨fun fn corrected hfn => ?_, fun corrected => ?_, fun dt corrected bad px hdt => ?_, fun kind corrected hkind => ?_⟩
    · exact exec_blk (f := fun b => b.csiFrameStart port vc fn corrected) rfl (and_wf hfn) (Blk.csiPacket_frozen corrected _ _ wf on frozen)
    · exact exec_blk (f := fun b => b.csiFrameEnd port vc corrected) rfl wf (Blk.csiPacket_frozen corrected _ _ wf on frozen)
    · exact exec_blk (f := fun b => b.csiLong port vc dt corrected bad px) rfl (and_wf hdt) (Blk.csiLong_frozen dt corrected bad px wf on frozen)
    · exact exec_blk (f := fun b => b.csiOther port vc kind corrected) rfl (and_wf hkind) (Blk.csiOther_frozen kind corrected wf on frozen)
  · intro seen taken
    have and_wf {p : Prop} [Decidable p] (h : p) : (csiOk port vc && decide p) = true := by simp [wf, h]
    have packet (corrected : Bool) (pre : Blk → Blk) (f : Blk → Nat → Blk) : s.blk.csiPacket port vc corrected pre f = taken corrected pre f :=
      Blk.csiPacket_open corrected pre f wf on free croute
    have discard (corrected counted : Bool) : s.blk.csiDiscard port vc corrected counted =
        if counted then ((seen corrected).bumpSat (CSI.DT_DROPPED port)).raise (CSI.IRQ_RAW_DT_DROPPED port) else seen corrected :=
      (Blk.csiDiscard_eq corrected counted wf on).trans (if_neg (by simp [free]))
    refine ⟨fun fn corrected hfn => ?_, fun corrected => ?_, fun dt corrected bad px hdt other => ?_, fun dt corrected bad px hdt raw => ?_,
      fun kind corrected hkind => ?_, fun kind corrected lo hi => ?_, fun kind corrected lo hi => ?_, fun corrected => ?_, ?_⟩
    · refine exec_blk (f := fun b => b.csiFrameStart port vc fn corrected) rfl (and_wf hfn) ((packet corrected id _).trans ?_)
      simp only [Nat.mod_eq_of_lt hfn, Blk.frameStartAt_eq]
    · refine exec_blk (f := fun b => b.csiFrameEnd port vc corrected) rfl wf ((packet corrected id _).trans ?_)
      exact congrArg (taken corrected id) (funext fun b => funext fun j => b.frameEndAt_eq j)
    · refine exec_blk (f := fun b => b.csiLong port vc dt corrected bad px) rfl (and_wf hdt)
        ((s.blk.csiLong_other port vc corrected bad px other).trans ((discard corrected _).trans ?_))
      by_cases quiet : dt = 0x10 ∨ dt = 0x11
      · rw [if_neg (by simp; omega), if_pos quiet]
      · rw [if_pos (by simpa using quiet), if_neg quiet]
    · refine exec_blk (f := fun b => b.csiLong port vc dt corrected bad px) rfl (and_wf hdt)
        ((s.blk.csiLong_raw port vc corrected bad px raw).trans ((packet corrected _ _).trans ?_))
      rw [csiOk_vc wf]
      exact congrArg (taken corrected _) (funext fun b => funext fun j => b.longAt_eq port dt bad px j)
    · refine exec_blk (f := fun b => b.csiOther port vc kind corrected) rfl (and_wf (by omega)) ((Blk.csiOther_eq vc kind corrected on).trans ?_)
      rw [if_neg (by omega), if_pos (by omega)]
      exact packet corrected id _
    · refine exec_blk (f := fun b => b.csiOther port vc kind corrected) rfl (and_wf (by omega)) ((Blk.csiOther_eq vc kind corrected on).trans ?_)
      rw [if_neg (by omega), if_neg (by omega), discard, if_neg (by simp; omega)]
    · refine exec_blk (f := fun b => b.csiOther port vc kind corrected) rfl (and_wf (by omega)) ((Blk.csiOther_eq vc kind corrected on).trans ?_)
      rw [if_neg (by omega), if_neg (by omega), discard, if_pos (by simp; omega)]
    · refine exec_blk (f := fun b => b.csiOther port vc 6 corrected) rfl (and_wf (by decide)) ((Blk.csiOther_eq vc 6 corrected on).trans ?_)
      rw [if_pos rfl, if_neg (by simp [free])]
    · have hp : port < 2 := by
        simp only [csiOk, Bool.and_eq_true, decide_eq_true_eq] at wf
        exact wf.1
      exact exec_blk (f := fun b => b.csiSot port) rfl (decide_eq_true hp) (if_pos on)

end Sys2Proof.Machine
end

section
/-! PROOFS. What an error capture shows; camera timeouts and padding (spec/03 R72, spec/05 R112, R113). -/

namespace Sys2Proof.Machine

/-! ### What a capture shows -/

theorem hErrCount_fits (page : Nat) : (hErrCount page).fits := show 0 + 32 ≤ 32 by omega

/-- A capture counts. -/
theorem Blk.get_capture_errCount (b : Blk) (page cause agent off : Nat) :
    (b.capture page cause agent off).get (hErrCount page) = satInc 32 (b.get (hErrCount page)) := by
  have apart (o : Nat) (ho : 0x02C ≠ o) : (hErrCount page).key ≠ regKey page o := fun e => ho (Nat.add_left_cancel e)
  calc (b.capture page cause agent off).get (hErrCount page)
      = ((b.bumpSat (hErrCount page)).raise (hIrqErr page)).get (hErrCount page) :=
        Blk.get_of_word_eq (Blk.word_capture_ne _ _ _ _ (apart 0x024 (by decide)) (apart 0x028 (by decide)))
    _ = (b.bumpSat (hErrCount page)).get (hErrCount page) :=
        Blk.get_set_apart _ (hIrqErr page) _ _ (hErrCount_fits page) (.inl (apart 0x018 (by decide)).symm)
    _ = satInc 32 (b.get (hErrCount page)) := b.get_bumpSat_same _ (hErrCount_fits page)

theorem Blk.get_captureFree_errCount (b : Blk) (page cause agent : Nat) :
    (b.captureFree page cause agent).get (hErrCount page) = satInc 32 (b.get (hErrCount page)) :=
  Blk.get_capture_errCount { b with fresh := b.fresh + 1 } page cause agent (b.free 12).1

/-- A capture into words that hold none names its cause, agent and offset. -/
theorem Blk.word_capture_first {b : Blk} {page : Nat} (cause agent off : Nat) (empty : b.flag (hCapValid page) = false) :
    (b.capture page cause agent off).word (regKey page 0x024) = BitVec.ofNat 32 (capWord cause agent off) := by
  have apart (o : Nat) (ho : 0x024 ≠ o) : (hCapValid page).key ≠ regKey page o := fun e => ho (Nat.add_left_cancel e)
  have valid : ((b.bumpSat (hErrCount page)).raise (hIrqErr page)).get (hCapValid page) = b.get (hCapValid page) :=
    Blk.get_of_word_eq ((Blk.word_raise_ne _ (hIrqErr page) (apart 0x018 (by decide))).trans
      (Blk.word_set_ne b (hErrCount page) _ (apart 0x02C (by decide))))
  have none : ((b.bumpSat (hErrCount page)).raise (hIrqErr page)).flag (hCapValid page) = false := by rw [Blk.flag, valid, ← Blk.flag, empty]
  unfold Blk.capture
  extract_lets x c
  rw [show x.flag (hCapValid page) = false from none, if_neg (by decide),
    Blk.word_setWord_ne _ _ (show regKey page 0x024 ≠ regKey page 0x028 from fun e => absurd (Nat.add_left_cancel e) (by decide)),
    Blk.word_setWord_same]

/-! ### Frames cut -/

/-- A context's state in its register. -/
theorem ctxState_key (j : Nat) : (CROUTE.STATE_STATE j).key = 0x14094 + 0x20 * j := rfl

theorem pageOf_ctxState {j : Nat} (hj : j < 32) : pageOf (CROUTE.STATE_STATE j).key = Page.CROUTE := by
  show (0x14094 + 0x20 * j) / 4096 % 256 = 0x14
  omega

/-- The cut before its context begins PADDING. -/
def Blk.cutNoted (b : Blk) (j cause : Nat) : Blk :=
  (((b.camFlag j 0 1 1).camFlag j 6 2 cause).raise CROUTE.IRQ_RAW_TRUNC).captureOwn Page.CROUTE 0x02 (j + 4)

theorem Blk.cutFrame_eq (b : Blk) (j cause : Nat) : b.cutFrame j cause = (b.cutNoted j cause).startPadding j := rfl

theorem Blk.modCam_get (b : Blk) (j : Nat) (f : CamCtx → CamCtx) (g : Fld) : (b.modCam j f).get g = b.get g := rfl
theorem Blk.modCam_word (b : Blk) (j : Nat) (f : CamCtx → CamCtx) (k : Nat) : (b.modCam j f).word k = b.word k := rfl
theorem Blk.modCam_store (b : Blk) (j : Nat) (f : CamCtx → CamCtx) : (b.modCam j f).cam.store = b.cam.store := rfl
theorem Blk.modCam_spm (b : Blk) (j : Nat) (f : CamCtx → CamCtx) : (b.modCam j f).spm = b.spm := rfl

/-- What a block shows that begins PADDING at a context. -/
theorem Blk.startPadding_shows (b : Blk) (j : Nat) :
    (b.startPadding j).ctxState j = ctxPadding ∧ b.keepsRegs (b.startPadding j) [(CROUTE.STATE_STATE j).key] ∧
    (b.startPadding j).spm = b.spm ∧ (b.startPadding j).cam.store = b.cam.store := by
  unfold Blk.startPadding Blk.setCtxState Blk.ctxState
  generalize padded : b.modCam j (fun x => { x with padAt := b.ep.line, lastPkt := b.ep.line }) = c
  have regs : b.keepsRegs c [(CROUTE.STATE_STATE j).key] := fun k _ => by rw [← padded]; rfl
  have spm : c.spm = b.spm := by rw [← padded]; rfl
  have store : c.cam.store = b.cam.store := by rw [← padded]; rfl
  exact ⟨(c.get_set_same _ _ (show (CROUTE.STATE_STATE j).fits from (by omega : 0 + 2 ≤ 32))).trans rfl, regs.set _ (List.mem_singleton.mpr rfl), spm, store⟩

theorem Blk.cutNoted_shows (b : Blk) (j cause : Nat) :
    (b.cutNoted j cause).flag CROUTE.IRQ_RAW_TRUNC = true ∧
    (b.cutNoted j cause).get (hErrCount Page.CROUTE) = satInc 32 (b.get (hErrCount Page.CROUTE)) ∧
    (b.flag (hCapValid Page.CROUTE) = false →
      (b.cutNoted j cause).word (regKey Page.CROUTE 0x024) = BitVec.ofNat 32 (capWord 0x02 7 (j + 4))) ∧
    b.keepsRegs (b.cutNoted j cause) (CROUTE.IRQ_RAW_TRUNC.key :: captureKeys Page.CROUTE) ∧
    (b.cutNoted j cause).spm = b.spm ∧ (b.cutNoted j cause).cam.store = b.cam.store := by
  unfold Blk.cutNoted Blk.captureOwn
  generalize flagged : (b.camFlag j 0 1 1).camFlag j 6 2 cause = c
  have regs : b.keepsRegs c (CROUTE.IRQ_RAW_TRUNC.key :: captureKeys Page.CROUTE) := fun k _ => by rw [← flagged]; rfl
  have same (f : Fld) : c.get f = b.get f := by rw [← flagged]; rfl
  have spm : c.spm = b.spm := by rw [← flagged]; rfl
  have store : c.cam.store = b.cam.store := by rw [← flagged]; rfl
  have raised : (c.raise CROUTE.IRQ_RAW_TRUNC).get (hIrq Page.CROUTE 1) = 1 := c.get_raise_same _ (by unfold Fld.fits; decide) (by decide)
  have apart (f : Fld) (hf : f.fits) (h : CROUTE.IRQ_RAW_TRUNC.apart f) : (c.raise CROUTE.IRQ_RAW_TRUNC).get f = b.get f :=
    (Blk.get_set_apart _ _ _ _ hf h).trans (same f)
  have kept := c.keepsBesideLog_set CROUTE.IRQ_RAW_TRUNC 1
  have kept := kept.trans (Blk.keepsBesideLog_capture _ Page.CROUTE 0x02 7 (j + 4))
  refine ⟨?_, ?_, fun empty => Blk.word_capture_first _ _ _ ?_, ?_, (kept.proj (·.spm) (fun _ _ _ => rfl)).trans spm,
    (kept.proj (·.cam.store) (fun _ _ _ => rfl)).trans store⟩
  · have irq := (Blk.get_capture_hIrq _ Page.CROUTE 0x02 7 (j + 4) (bit := 1) (by decide)).trans raised
    rw [show CROUTE.IRQ_RAW_TRUNC = hIrq Page.CROUTE 1 from rfl, Blk.flag]
    exact bne_iff_ne.mpr (irq.trans_ne (by decide))
  · rw [Blk.get_capture_errCount, apart _ (hErrCount_fits _) (by unfold Fld.apart; decide)]
  · rw [Blk.flag, apart _ (by unfold Fld.fits; decide) (by unfold Fld.apart; decide), ← Blk.flag, empty]
  · exact (regs.set (f := CROUTE.IRQ_RAW_TRUNC) 1 List.mem_cons_self).trans
      ((Blk.keepsRegs_capture _ Page.CROUTE 0x02 7 (j + 4)).mono (fun k hk => List.mem_cons_of_mem _ hk))

theorem Blk.cutFrame_shows (b : Blk) {j : Nat} (cause : Nat) (hj : j < 32) :
    (b.cutFrame j cause).ctxState j = ctxPadding ∧ (b.cutFrame j cause).flag CROUTE.IRQ_RAW_TRUNC = true ∧
    (b.cutFrame j cause).get (hErrCount Page.CROUTE) = satInc 32 (b.get (hErrCount Page.CROUTE)) ∧
    (b.flag (hCapValid Page.CROUTE) = false →
      (b.cutFrame j cause).word (regKey Page.CROUTE 0x024) = BitVec.ofNat 32 (capWord 0x02 7 (j + 4))) ∧
    b.keepsOtherPages (b.cutFrame j cause) [Page.CROUTE] ∧ (b.cutFrame j cause).spm = b.spm ∧
    (b.cutFrame j cause).cam.store = b.cam.store := by
  obtain ⟨trunc, count, word, regs, spm, store⟩ := b.cutNoted_shows j cause
  obtain ⟨state, regs', spm', store'⟩ := (b.cutNoted j cause).startPadding_shows j
  rw [← Blk.cutFrame_eq] at state regs' spm' store'
  have other (k : Nat) (hk : k < 0x14094) : k ∉ [(CROUTE.STATE_STATE j).key] := by
    rw [List.mem_singleton, ctxState_key]
    omega
  refine ⟨state, (regs'.flag (other _ (by decide))).trans trunc, (regs'.get (other _ (by decide))).trans count,
    fun empty => (regs' _ (other _ (by decide))).trans (word empty), ?_, spm'.trans spm, store'.trans store⟩
  refine (regs.otherPages (fun k hk => ?_)).trans (regs'.otherPages (fun k hk => ?_))
  · obtain rfl | hk := List.mem_cons.mp hk
    · decide
    · exact List.mem_singleton.mpr (pageOf_captureKeys (by decide) hk)
  · rw [List.mem_singleton] at hk ⊢
    rw [hk, pageOf_ctxState hj]

/-! ### Padding -/

/-- A line entered in the store. -/
theorem Blk.pushLine_shows (b : Blk) (l : StoreLine) :
    (b.pushLine l).cam.store = b.cam.store ++ [l] ∧ (b.pushLine l).cam.ctx = b.cam.ctx ∧ b.keepsRegs (b.pushLine l) [CROUTE.STORE_PEAK.key] ∧
    b.keepsMemory (b.pushLine l) := by
  exact ⟨rfl, rfl, Blk.keepsRegs.set (b := b) (b' := { b with cam := { b.cam with store := b.cam.store ++ [l] } }) (fun _ _ => rfl) _
    (List.mem_singleton.mpr rfl), ⟨rfl, rfl, rfl⟩⟩

/-- A pad line as it enters the store. -/
def Blk.padLineIn (b : Blk) (j : Nat) : Blk :=
  (b.modCam j (fun x => { x with
      delivered := x.delivered + 1, padAt := x.padAt + BitVec.ofNat 48 (b.padPace j), lastPkt := b.ep.line })).pushLine
    ⟨j + 4, (b.camCtx j).width, lineTag (b.camCtx j).delivered, .fill (b.camCtx j).pad⟩

theorem Blk.padLine_eq {b : Blk} {j : Nat} (on : b.powered Page.CROUTE = true) (padding : b.ctxState j = ctxPadding) : b.padLine j =
    if (b.camCtx j).height ≤ (b.camCtx j).delivered then (if (b.ep.line == (b.camCtx j).lastPkt) = true then b else b.endCamFrame j)
    else if (b.ep.line - (b.camCtx j).padAt).toNat < 2 ^ 47 then b.padLineIn j else b := by
  unfold Blk.padLine
  exact if_neg (by simp [on, padding])

theorem Blk.camCtx_modCam (b : Blk) {j : Nat} (f : CamCtx → CamCtx) (hj : j < b.cam.ctx.length) : (b.modCam j f).camCtx j = f (b.camCtx j) := by
  simp [Blk.camCtx, Blk.modCam, nth, hj]

theorem Blk.padLineIn_shows (b : Blk) {j : Nat} (hj : j < 32) :
    (b.padLineIn j).cam.store = b.cam.store ++ [⟨j + 4, (b.camCtx j).width, ⟨(b.camCtx j).delivered, 0, 0⟩, .fill (b.camCtx j).pad⟩] ∧
    (j < b.cam.ctx.length → ((b.padLineIn j).camCtx j).delivered = (b.camCtx j).delivered + 1) ∧
    (b.padLineIn j).ctxState j = b.ctxState j ∧ b.keepsRegs (b.padLineIn j) [CROUTE.STORE_PEAK.key] ∧ b.keepsMemory (b.padLineIn j) := by
  unfold Blk.padLineIn
  generalize moved : b.modCam j _ = c
  obtain ⟨store, ctx, regs, mem⟩ := c.pushLine_shows ⟨j + 4, (b.camCtx j).width, lineTag (b.camCtx j).delivered, .fill (b.camCtx j).pad⟩
  have regs : b.keepsRegs _ [CROUTE.STORE_PEAK.key] := Blk.keepsRegs.trans (b := c) (fun k _ => by rw [← moved]; rfl) regs
  have mem : b.keepsMemory _ := Blk.keepsMemory.trans (b := c) (by rw [← moved]; exact ⟨rfl, rfl, rfl⟩) mem
  have store' : c.cam.store = b.cam.store := by rw [← moved]; rfl
  refine ⟨store.trans (congrArg (· ++ [_]) store'), fun inside => ?_, regs.get ?_, regs, mem⟩
  · have same (d : Blk) (h : d.cam.ctx = c.cam.ctx) : d.camCtx j = c.camCtx j := by
      unfold Blk.camCtx
      rw [h]
    rw [same _ ctx, ← moved, b.camCtx_modCam _ inside]
  · rw [List.mem_singleton, ctxState_key]
    exact fun e => absurd e (by unfold CROUTE.STORE_PEAK; dsimp only; omega)

/-- The frame's end shown at its context. -/
def Blk.camFrameShown (b : Blk) (j : Nat) : Blk := (b.setCtxState j ctxIdle).set (CROUTE.STATE_FLAGS j) (b.camCtx j).flags

theorem Blk.endCamFrame_shows (b : Blk) {j : Nat} (hj : j < 32) :
    (b.endCamFrame j).ctxState j = ctxIdle ∧ (b.endCamFrame j).get (CROUTE.STATE_FLAGS j) = (b.camCtx j).flags % 256 ∧
    (b.endCamFrame j).cam.store = b.cam.store ++ [⟨j + 4, 0, ⟨0, 0, 0⟩, .endOfFrame (b.camCtx j).flags⟩] ∧
    b.keepsOtherPages (b.endCamFrame j) [Page.CROUTE] ∧ b.keepsMemory (b.endCamFrame j) := by
  have state : (b.camFrameShown j).ctxState j = ctxIdle ∧ (b.camFrameShown j).get (CROUTE.STATE_FLAGS j) = (b.camCtx j).flags % 256 := by
    unfold Blk.camFrameShown Blk.setCtxState Blk.ctxState
    simp -implicitDefEqProofs (disch := (simp only [Fld.fits, Fld.apart, CROUTE.STATE_STATE, CROUTE.STATE_FLAGS]; omega))
      only [Blk.get_set_apart, Blk.get_set_same]
    exact ⟨rfl, rfl⟩
  have pages : b.keepsOtherPages (b.camFrameShown j) [Page.CROUTE] :=
    ((b.keepsOtherPages_refl _).set (f := CROUTE.STATE_STATE j) _ (List.mem_singleton.mpr (pageOf_ctxState hj))).set (f := CROUTE.STATE_FLAGS j) _
      (List.mem_singleton.mpr (pageOf_ctxState hj))
  have mem : b.keepsMemory (b.camFrameShown j) := (b.keepsMemory_set _ _).set _ _
  have store' : (b.camFrameShown j).cam.store = b.cam.store := rfl
  have ends : b.endCamFrame j = (b.camFrameShown j).pushLine ⟨j + 4, 0, ⟨0, 0, 0⟩, .endOfFrame (b.camCtx j).flags⟩ := rfl
  rw [ends]
  generalize b.camFrameShown j = c at *
  obtain ⟨store, -, regs, mem'⟩ := c.pushLine_shows ⟨j + 4, 0, ⟨0, 0, 0⟩, .endOfFrame (b.camCtx j).flags⟩
  have other : 0x14094 + 0x20 * j ∉ [CROUTE.STORE_PEAK.key] := by
    rw [List.mem_singleton]
    exact fun e => absurd e (by unfold CROUTE.STORE_PEAK; dsimp only; omega)
  exact ⟨(regs.get other).trans state.1, (regs.get other).trans state.2, store.trans (congrArg (· ++ [_]) store'),
    pages.trans (regs.otherPages (by decide)), mem.trans mem'⟩

/-- Settles O20: a timeout cuts (`cutFrame_shows`), a pad line goes in (`padLineIn_shows`) or the frame ends (`endCamFrame_shows`). -/
theorem timeoutsCutFramesAndPadThem : Obligations.TimeoutsCutFramesAndPadThem := by
  unfold Obligations.TimeoutsCutFramesAndPadThem
  refine ⟨fun s j hj on active => ⟨fun late => ?_, fun limit late => ?_⟩, fun b j cause hj => b.cutFrame_shows cause hj,
    fun s j hj on padding => ⟨fun short due => ?_, fun whole next => ?_⟩⟩
  · exact exec_blk (f := fun b => b.lineTimeout j) rfl (decide_eq_true hj) (if_pos (by simp [on, active, late]))
  · exact exec_blk (f := fun b => b.frameTimeout j) rfl (decide_eq_true hj) (if_pos (by simp [on, active, limit, late]))
  · obtain ⟨store, counted, state, regs, mem⟩ := s.blk.padLineIn_shows hj
    refine completes_of_blk (f := fun b => b.padLine j) rfl (decide_eq_true hj)
      ((Blk.padLine_eq on padding).trans ((if_neg (by omega)).trans (if_pos due))) ?_
    exact ⟨store, counted, state.trans padding, regs, mem.node⟩
  · obtain ⟨state, flags, store, pages, mem⟩ := s.blk.endCamFrame_shows hj
    refine completes_of_blk (f := fun b => b.padLine j) rfl (decide_eq_true hj)
      ((Blk.padLine_eq on padding).trans ((if_pos whole).trans (if_neg (by simpa using next)))) ?_
    exact ⟨state, flags, store, pages, mem.node⟩

end Sys2Proof.Machine
end

section
/-! PROOFS. What the scratchpad's operations leave (spec/07 R155 to R167). -/

namespace Sys2Proof.Machine

/-! ### Everything but the tiles -/

/-- A page neither of a tile nor of the scratchpads. -/
def apartFromTiles (k : Nat) : Prop := pageOf k < 0x20 ∨ 0x30 < pageOf k

/-- `b'` differs from `b` in registers of the tiles' pages and SPM, in the tiles, the scratchpads and drawn free values alone. -/
def Blk.keepsBesideTiles (b b' : Blk) : Prop :=
  (∃ r t m n, b' = { b with regs := r, tiles := t, spm := m, fresh := n }) ∧ ∀ k, apartFromTiles k → b'.word k = b.word k

theorem Blk.keepsBesideTiles_refl (b : Blk) : b.keepsBesideTiles b := ⟨⟨_, _, _, _, rfl⟩, fun _ _ => rfl⟩

theorem Blk.keepsBesideTiles.trans {a b c : Blk} (h : a.keepsBesideTiles b) (k : b.keepsBesideTiles c) : a.keepsBesideTiles c := by
  obtain ⟨⟨r, t, m, n, rfl⟩, same⟩ := h
  obtain ⟨⟨r', t', m', n', rfl⟩, same'⟩ := k
  exact ⟨⟨r', t', m', n', rfl⟩, fun j hj => (same' j hj).trans (same j hj)⟩

theorem Blk.keepsBesideTiles.proj {α : Type} {b b' : Blk} (h : b.keepsBesideTiles b') (part : Blk → α)
    (same : ∀ r t m n, part { b with regs := r, tiles := t, spm := m, fresh := n } = part b) : part b' = part b := by
  obtain ⟨⟨r, t, m, n, rfl⟩, -⟩ := h
  exact same r t m n

theorem Blk.keepsBesideTiles.get {b b' : Blk} (h : b.keepsBesideTiles b') {f : Fld} (hf : apartFromTiles f.key) : b'.get f = b.get f :=
  Blk.get_of_word_eq (h.2 _ hf)

theorem Blk.keepsBesideTiles.flag {b b' : Blk} (h : b.keepsBesideTiles b') {f : Fld} (hf : apartFromTiles f.key) : b'.flag f = b.flag f := by
  rw [Blk.flag, h.get hf, Blk.flag]

theorem Blk.keepsBesideTiles_setTile (b : Blk) (t : Nat) (x : TileSt) : b.keepsBesideTiles (b.setTile t x) := ⟨⟨_, _, _, _, rfl⟩, fun _ _ => rfl⟩
theorem Blk.keepsBesideTiles_spm (b : Blk) (m : SpmSt) : b.keepsBesideTiles { b with spm := m } := ⟨⟨_, _, _, _, rfl⟩, fun _ _ => rfl⟩
theorem Blk.keepsBesideTiles_free (b : Blk) (w : Nat) : b.keepsBesideTiles (b.free w).2 := ⟨⟨_, _, _, _, rfl⟩, fun _ _ => rfl⟩

theorem Blk.keepsBesideTiles_set (b : Blk) (f : Fld) (v : Nat) (hf : ¬apartFromTiles f.key) : b.keepsBesideTiles (b.set f v) :=
  ⟨⟨_, _, _, _, rfl⟩, fun _ hk => Blk.word_set_ne b f v (fun e => hf (e ▸ hk))⟩

theorem Blk.keepsBesideTiles.set {b b' : Blk} (h : b.keepsBesideTiles b') (f : Fld) (v : Nat) (hf : ¬apartFromTiles f.key) :
    b.keepsBesideTiles (b'.set f v) := h.trans (b'.keepsBesideTiles_set f v hf)

theorem Blk.keepsBesideTiles_each {α : Type} (f : Blk → α → Blk) (hf : ∀ b i, Blk.keepsBesideTiles b (f b i)) (l : List α) (b : Blk) :
    b.keepsBesideTiles (b.each l f) := by
  induction l generalizing b with
  | nil => exact b.keepsBesideTiles_refl
  | cons i l ih => exact (hf b i).trans (ih _)

theorem not_apart {k : Nat} (h : 0x20000 ≤ k ∧ k < 0x31000) : ¬apartFromTiles k := by
  unfold apartFromTiles pageOf
  omega

theorem Blk.keepsBesideTiles_markMet (b : Blk) (t : Nat) : b.keepsBesideTiles (b.markMet t) := by
  unfold Blk.markMet
  extract_lets ws
  split
  · exact b.keepsBesideTiles_refl
  · exact b.keepsBesideTiles_setTile _ _

theorem Blk.keepsBesideTiles_finishInit (b : Blk) (t g : Nat) : b.keepsBesideTiles (b.finishInit t g) := by
  unfold Blk.finishInit
  split
  · exact ((b.keepsBesideTiles_spm _).trans (Blk.keepsBesideTiles_spm _ _)).trans (Blk.keepsBesideTiles_markMet _ t)
  · exact b.keepsBesideTiles_refl

theorem Blk.keepsBesideTiles_tagVote (b : Blk) {t : Nat} (slot : Nat) (ht : t < 16) : b.keepsBesideTiles (b.tagVote t slot) := by
  unfold Blk.tagVote
  split
  · exact b.keepsBesideTiles_refl
  · exact ((b.keepsBesideTiles_spm _).set (SPM.TAG_VOTE t) _ (not_apart (show 0x20000 ≤ 0x30288 + 0x10 * t ∧ 0x30288 + 0x10 * t < 0x31000 by omega))).set
      SPM.IRQ_RAW_TAG_VOTE 1 (not_apart (by decide))

theorem Blk.keepsBesideTiles_setTag (b : Blk) {t : Nat} (slot : Nat) (v : Bool) (ht : t < 16) : b.keepsBesideTiles (b.setTag t slot v) := by
  have voted := (b.keepsBesideTiles_finishInit t (slot / 256)).trans (Blk.keepsBesideTiles_tagVote _ slot ht)
  unfold Blk.setTag
  extract_lets x
  split
  · exact (voted.set (TILE.TAG_REDUNDANT t) _ (not_apart (show 0x20000 ≤ 0x20064 + 0x1000 * t ∧ 0x20064 + 0x1000 * t < 0x31000 by omega))).set (TILE.IRQ_RAW_TAG_REDUNDANT t) 1
      (not_apart (show 0x20000 ≤ 0x20018 + 0x1000 * t ∧ 0x20018 + 0x1000 * t < 0x31000 by omega))
  · exact (voted.trans (Blk.keepsBesideTiles_spm _ _)).trans (Blk.keepsBesideTiles_markMet _ t)

theorem Blk.keepsBesideTiles_setTags (b : Blk) {t : Nat} (slots : List Nat) (v : Bool) (ht : t < 16) : b.keepsBesideTiles (b.setTags t slots v) :=
  Blk.keepsBesideTiles_each _ (fun b s => b.keepsBesideTiles_setTag s v ht) slots b

theorem Blk.keepsBesideTiles_tagVotes (b : Blk) {t : Nat} (slots : List Nat) (ht : t < 16) : b.keepsBesideTiles (b.tagVotes t slots) :=
  Blk.keepsBesideTiles_each _ (fun b s => b.keepsBesideTiles_tagVote s ht) slots b

/-! ### Lines -/

theorem Blk.keepsBesideTiles_captureOwnFree_spm (b : Blk) (cause : Nat) : b.keepsBesideTiles (b.captureOwnFree Page.SPM cause) := by
  obtain ⟨r, t, n, eq⟩ := b.keepsBesideLog_captureFree Page.SPM cause 7
  refine ⟨⟨r, t, b.spm, n, eq⟩, fun k hk => b.keepsOtherPages_captureOwnFree cause (by decide) k ?_⟩
  rw [List.mem_singleton]
  exact fun e => absurd hk (by unfold apartFromTiles; rw [e]; decide)

theorem Blk.keepsBesideTiles_poisonLine (b : Blk) {t : Nat} (line finder : Nat) (ht : t < 16) : b.keepsBesideTiles (b.poisonLine t line finder) := by
  have marked := (b.keepsBesideTiles_spm _).trans (Blk.keepsBesideTiles_spm ((b.setPoison t line true)) ((b.setPoison t line true).setFlips t line []).spm)
  have logged (b : Blk) : b.keepsBesideTiles (b.logPoison t line finder) := by
    unfold Blk.logPoison Blk.ringStep
    extract_lets at_ used c e x
    have ring := b.keepsBesideTiles_spm { x with plog := Tbl.put (dflt none) x.plog at_ (some e) }
    split
    · exact (ring.set _ _ (not_apart (by decide))).set _ _ (not_apart (by decide))
    · exact ring.set _ _ (not_apart (by decide))
  exact (((marked.trans (logged _)).set (SPM.ECC_UE t) _ (not_apart (show 0x20000 ≤ 0x30284 + 0x10 * t ∧ 0x30284 + 0x10 * t < 0x31000 by omega))).set SPM.IRQ_RAW_UE_POISON 1 (not_apart (by decide))).trans
    (Blk.keepsBesideTiles_captureOwnFree_spm _ _)

theorem Blk.keepsBesideTiles_correctLine (b : Blk) {t : Nat} (line : Nat) (ht : t < 16) : b.keepsBesideTiles (b.correctLine t line) := by
  exact ((b.keepsBesideTiles_spm _).set (SPM.ECC_CE t) _ (not_apart (show 0x20000 ≤ 0x30280 + 0x10 * t ∧ 0x30280 + 0x10 * t < 0x31000 by omega))).set
    SPM.IRQ_RAW_CE 1 (not_apart (by decide))

theorem Blk.keepsBesideTiles_lineFound (b : Blk) (t line : Nat) : b.keepsBesideTiles (b.lineFound t line).2 := by
  unfold Blk.lineFound
  extract_lets f
  split
  · exact b.keepsBesideTiles_refl
  · show b.keepsBesideTiles (if 2 ≤ (b.free 2).1 then (2, (b.free 2).2)
      else ((b.free 2).1, (((b.free 2).2.free 256).2.setFlips t line []).spmPut t (line * 32) (natLe 32 ((b.free 2).2.free 256).1))).2
    split
    · exact b.keepsBesideTiles_free 2
    · exact ((b.keepsBesideTiles_free 2).trans (Blk.keepsBesideTiles_free _ 256)).trans
        ((Blk.keepsBesideTiles_spm _ _).trans (Blk.keepsBesideTiles_spm _ _))

theorem Blk.keepsBesideTiles_lineCheck (b : Blk) {t : Nat} (line req : Nat) (ht : t < 16) : b.keepsBesideTiles (b.lineCheck t line req).2 := by
  have found := b.keepsBesideTiles_lineFound t line
  unfold Blk.lineCheck
  split
  · exact b.keepsBesideTiles_refl
  · generalize b.lineFound t line = p at found
    obtain ⟨e, x⟩ := p
    show b.keepsBesideTiles (if (e == 0) = true then (true, x)
      else if (e == 1) = true then (true, x.correctLine t line) else (false, x.poisonLine t line req)).2
    split_ifs
    · exact found
    · exact found.trans (x.keepsBesideTiles_correctLine line ht)
    · exact found.trans (x.keepsBesideTiles_poisonLine line req ht)

theorem Blk.keepsBesideTiles_initFirst (b : Blk) (t a n : Nat) : b.keepsBesideTiles (b.initFirst t a n) :=
  Blk.keepsBesideTiles_each _ (fun b g => b.keepsBesideTiles_finishInit t g) _ b

/-- A run of steps, each of which leaves all but the tiles. -/
theorem Blk.keepsBesideTiles_foldl {α β : Type} (f : β × Blk → α → β × Blk) (hf : ∀ st i, Blk.keepsBesideTiles st.2 (f st i).2) (l : List α) (st : β × Blk) :
    st.2.keepsBesideTiles (l.foldl f st).2 := by
  induction l generalizing st with
  | nil => exact st.2.keepsBesideTiles_refl
  | cons i l ih => exact (hf st i).trans (ih _)

theorem Blk.keepsBesideTiles_spmRead (b : Blk) {t : Nat} (a n req : Nat) (ht : t < 16) : b.keepsBesideTiles (b.spmRead t a n req).2.2 := by
  have checked := (b.keepsBesideTiles_initFirst t a n).trans (Blk.keepsBesideTiles_foldl
    (fun (st : Bool × Blk) line => if st.1 then st.2.lineCheck t line req else st) (fun st line => by
      split
      · exact st.2.keepsBesideTiles_lineCheck line req ht
      · exact st.2.keepsBesideTiles_refl) (linesOf a n) (true, b.initFirst t a n))
  unfold Blk.spmRead Blk.linesCheck
  generalize (linesOf a n).foldl _ _ = p at checked
  obtain ⟨ok, x⟩ := p
  cases ok <;> exact checked

theorem Blk.keepsBesideTiles_spmWrite (b : Blk) {t : Nat} (a : Nat) (bs : List Byte) (req : Nat) (ht : t < 16) :
    b.keepsBesideTiles (b.spmWrite t a bs req).2 := by
  refine (b.keepsBesideTiles_initFirst t a bs.length).trans (Blk.keepsBesideTiles_foldl _ (fun st line => ?_) (linesOf a bs.length) (0, b.initFirst t a bs.length))
  split
  · exact st.2.keepsBesideTiles_refl
  · extract_lets lo hi part
    split
    · exact ((Blk.keepsBesideTiles_spm _ _).trans (Blk.keepsBesideTiles_spm _ _)).trans (Blk.keepsBesideTiles_spm _ _)
    · have checked := st.2.keepsBesideTiles_lineCheck line req ht
      generalize st.2.lineCheck t line req = p at checked
      obtain ⟨ok, x⟩ := p
      show st.2.keepsBesideTiles (if ok = true then (0, x.spmPut t lo part) else (tcPoison, x)).2
      split
      · exact checked.trans (Blk.keepsBesideTiles_spm _ _)
      · exact checked

end Sys2Proof.Machine
end

section
/-! PROOFS. The image pipeline: lines, held rows, descriptors, tables (spec/06 R125, R138 to R143). -/

namespace Sys2Proof.Machine

/-! ### Interrupts of ISP stand -/

/-- What ISP has raised stays raised. -/
def Blk.keepsRaised (b b' : Blk) : Prop := ∀ bit < 31, b.flag (hIrq Page.ISP bit) = true → b'.flag (hIrq Page.ISP bit) = true

theorem Blk.keepsRaised_refl (b : Blk) : b.keepsRaised b := fun _ _ h => h

theorem Blk.keepsRaised.trans {a b c : Blk} (h : a.keepsRaised b) (k : b.keepsRaised c) : a.keepsRaised c :=
  fun bit hb on => k bit hb (h bit hb on)

theorem Blk.keepsRaised_set (b : Blk) {f : Fld} (v : Nat) (hf : f.key ≠ 0x15018) : b.keepsRaised (b.set f v) := fun bit hb on => by
  have same : (b.set f v).get (hIrq Page.ISP bit) = b.get (hIrq Page.ISP bit) :=
    Blk.get_set_apart _ _ _ _ (show bit + 1 ≤ 32 by omega) (.inl hf)
  rw [Blk.flag, same, ← Blk.flag, on]

theorem Blk.keepsRaised_raise (b : Blk) (bit : Nat) (hb : bit < 31) : b.keepsRaised (b.raise (hIrq Page.ISP bit)) := fun other ho on => by
  by_cases same : other = bit
  · rw [same]
    exact b.flag_raise_same _ (show bit + 1 ≤ 32 by omega) (show 0 < 1 by omega)
  · have kept : (b.raise (hIrq Page.ISP bit)).get (hIrq Page.ISP other) = b.get (hIrq Page.ISP other) :=
      Blk.get_set_apart _ _ _ _ (show other + 1 ≤ 32 by omega) (.inr (show bit + 1 ≤ other ∨ other + 1 ≤ bit by omega))
    rw [Blk.flag, kept, ← Blk.flag, on]

theorem Blk.keepsRaised_capture (b : Blk) (cause : Nat) : b.keepsRaised (b.captureOwnFree Page.ISP cause) := fun bit hb on => by
  rw [b.flag_captureOwnFree_hIrq Page.ISP cause hb, on]

theorem Blk.keepsBesideTiles.raised {b b' : Blk} (h : b.keepsBesideTiles b') : b.keepsRaised b' := fun bit _ on => by
  have apart : apartFromTiles (hIrq Page.ISP bit).key := .inl (by show pageOf 0x15018 < 0x20; decide)
  rw [h.flag apart, on]

/-! ### Descriptors -/

theorem descTile_lt (f : IspFrame) : f.descTile < 16 := bitsAt_lt _ _ _

/-- CTX_STATUS takes a frame's flags, and nothing else changes. -/
theorem Blk.showFrame_shows (b : Blk) (f : IspFrame) : b.keepsRaised (b.showFrame f) ∧ b.keepsBehind (b.showFrame f) := by
  have apart : 0x15D00 + 0x4 * f.ctx ≠ 0x15018 := by omega
  unfold Blk.showFrame
  exact ⟨((b.keepsRaised_set _ (f := ISP.CTX_STATUS_FLAGS f.ctx) apart).trans (Blk.keepsRaised_set _ _ (f := ISP.CTX_STATUS_ISP_FLAGS f.ctx) apart)).trans
    (Blk.keepsRaised_set _ _ (f := ISP.CTX_STATUS_CHECK f.ctx) apart), ((b.keepsBehind_set _ _).set _ _).set _ _⟩

theorem Blk.setFrame_get (b : Blk) (k : Nat) (f : IspFrame) (g : Fld) : (b.setFrame k f).get g = b.get g := rfl
theorem Blk.setFrame_flag (b : Blk) (k : Nat) (f : IspFrame) (g : Fld) : (b.setFrame k f).flag g = b.flag g := rfl
theorem Blk.setFrame_isp (b : Blk) (k : Nat) (f : IspFrame) : (b.setFrame k f).isp = { b.isp with frames := setNth b.isp.frames k f } := rfl
theorem Blk.keepsMemory_setFrame (b : Blk) (k : Nat) (f : IspFrame) : b.keepsMemory (b.setFrame k f) := ⟨rfl, rfl, rfl⟩
theorem Blk.keepsRaised_setFrame (b : Blk) (k : Nat) (f : IspFrame) : b.keepsRaised (b.setFrame k f) := fun _ _ on => on
theorem Blk.oweIsp_isp (b : Blk) (f : IspFrame) : (b.oweIsp f).isp = b.isp := rfl
theorem Blk.oweIsp_get (b : Blk) (f : IspFrame) (g : Fld) : (b.oweIsp f).get g = b.get g := rfl
theorem Blk.keepsRaised_oweIsp (b : Blk) (f : IspFrame) : b.keepsRaised (b.oweIsp f) := fun _ _ on => on
theorem Blk.keepsMemory_oweIsp (b : Blk) (f : IspFrame) : b.keepsMemory (b.oweIsp f) := ⟨rfl, rfl, rfl⟩
theorem Blk.failJobs_isp (b : Blk) (p : Inst → Bool) (why : Nat × Nat) : (b.failJobs p why).isp = b.isp := rfl
theorem Blk.keepsRaised_failJobs (b : Blk) (p : Inst → Bool) (why : Nat × Nat) : b.keepsRaised (b.failJobs p why) := fun _ _ on => on

/-- The loss of a descriptor raised and captured. -/
def Blk.descLossTold (b : Blk) : Blk := (b.raise ISP.IRQ_RAW_DESC_LOST).captureOwnFree Page.ISP icDescLost

theorem Blk.descLossTold_shows (b : Blk) :
    b.descLossTold.isp = b.isp ∧ b.keepsRaised b.descLossTold ∧ b.descLossTold.flag ISP.IRQ_RAW_DESC_LOST = true ∧
    b.descLossTold.get (hErrCount Page.ISP) = satInc 32 (b.get (hErrCount Page.ISP)) ∧ b.keepsMemory b.descLossTold := by
  have kept : b.keepsBesideLog b.descLossTold := (b.keepsBesideLog_set _ _).trans (Blk.keepsBesideLog_captureFree _ Page.ISP icDescLost 7)
  have irqs : b.keepsRaised b.descLossTold := (b.keepsRaised_raise 5 (by decide)).trans (Blk.keepsRaised_capture _ icDescLost)
  have raised : (b.raise ISP.IRQ_RAW_DESC_LOST).flag (hIrq Page.ISP 5) = true := Blk.flag_raise_same _ _ (by unfold Fld.fits; decide) (by decide)
  have count : b.descLossTold.get (hErrCount Page.ISP) = satInc 32 ((b.raise ISP.IRQ_RAW_DESC_LOST).get (hErrCount Page.ISP)) :=
    Blk.get_captureFree_errCount _ Page.ISP icDescLost 7
  have same : (b.raise ISP.IRQ_RAW_DESC_LOST).get (hErrCount Page.ISP) = b.get (hErrCount Page.ISP) :=
    Blk.get_set_apart _ _ _ _ (hErrCount_fits _) (by unfold Fld.apart; decide)
  rw [same] at count
  exact ⟨kept.proj (·.isp) (fun _ _ _ => rfl), irqs, Blk.keepsRaised_capture _ icDescLost 5 (by decide) raised, count, kept.memory⟩

theorem Blk.dropDesc_eq (b : Blk) (k : Nat) (f : IspFrame) : b.dropDesc k f =
    ((b.setFrame k { f with descDone := true, descAt := none }).descLossTold).when f.live (fun b => b.oweIsp f) := rfl

/-- A descriptor dropped is done; its frame stands, its loss is raised and captured. -/
theorem Blk.dropDesc_shows (b : Blk) (k : Nat) (f : IspFrame) :
    (b.dropDesc k f).isp = { b.isp with frames := setNth b.isp.frames k { f with descDone := true, descAt := none } } ∧
    b.keepsRaised (b.dropDesc k f) ∧ (b.dropDesc k f).flag ISP.IRQ_RAW_DESC_LOST = true ∧
    (b.dropDesc k f).get (hErrCount Page.ISP) = satInc 32 (b.get (hErrCount Page.ISP)) ∧ b.keepsMemory (b.dropDesc k f) := by
  obtain ⟨isp, irqs, raised, count, mem⟩ := (b.setFrame k { f with descDone := true, descAt := none }).descLossTold_shows
  rw [Blk.setFrame_isp] at isp
  rw [Blk.setFrame_get] at count
  have irqs := (b.keepsRaised_setFrame k _).trans irqs
  have mem := (b.keepsMemory_setFrame k _).trans mem
  rw [b.dropDesc_eq k f, Blk.when]
  generalize (b.setFrame k { f with descDone := true, descAt := none }).descLossTold = y at *
  split
  · have lost := y.keepsRaised_oweIsp f 5 (by decide) raised
    exact ⟨(y.oweIsp_isp f).trans isp, irqs.trans (y.keepsRaised_oweIsp f), lost, (y.oweIsp_get f _).trans count, mem.trans (y.keepsMemory_oweIsp f)⟩
  · exact ⟨isp, irqs, raised, count, mem⟩

/-- The descriptor of a frame is written, waits or is dropped: the frame stands, abandoned as it was. -/
theorem Blk.writeDesc_shows (b : Blk) (k : Nat) (f : IspFrame) :
    (∃ g, (b.writeDesc k f).isp = { b.isp with frames := setNth b.isp.frames k g } ∧ g.abandoned = f.abandoned) ∧
    b.keepsRaised (b.writeDesc k f) := by
  have voted := (b.showFrame f).keepsBesideTiles_tagVote f.descSlot (descTile_lt f)
  obtain ⟨raised, behind⟩ := b.showFrame_shows f
  have raised := raised.trans voted.raised
  have isp := (voted.proj (·.isp) (fun _ _ _ _ => rfl)).trans (behind.proj (·.isp) (fun _ _ _ _ _ => rfl))
  unfold Blk.writeDesc
  generalize (b.showFrame f).tagVote f.descTile f.descSlot = x at *
  dsimp only
  have framed (c : Blk) (h : c.isp = b.isp) (g : IspFrame) : (c.setFrame k g).isp = { b.isp with frames := setNth b.isp.frames k g } := by
    rw [← h]
    rfl
  split
  · exact ⟨⟨_, framed x isp _, rfl⟩, raised⟩
  · split
    · obtain ⟨drop, irqs, -⟩ := x.dropDesc_shows k f
      rw [isp] at drop
      exact ⟨⟨_, drop, rfl⟩, raised.trans irqs⟩
    · split
      · exact ⟨⟨_, framed x isp _, rfl⟩, raised⟩
      · have stored := (x.keepsBesideTiles_spmWrite (f.descSlot * 256) (f.descBytes x) 8 (descTile_lt f)).trans
          (Blk.keepsBesideTiles_setTag _ f.descSlot true (descTile_lt f))
        generalize (x.spmWrite f.descTile (f.descSlot * 256) (f.descBytes x) 8).2.setTag f.descTile f.descSlot true = y at *
        exact ⟨⟨_, framed y ((stored.proj (·.isp) (fun _ _ _ _ => rfl)).trans isp) _, rfl⟩, raised.trans stored.raised⟩

/-- A frame abandoned stands so. -/
theorem Blk.abandon_shows (b : Blk) (k : Nat) (f : IspFrame) (cause : Nat) :
    (∃ g, (b.abandon k f cause).isp = { b.isp with frames := setNth b.isp.frames k g } ∧ g.abandoned = true) ∧
    b.keepsRaised (b.abandon k f cause) := by
  have apart : 0x15E00 + 0x4 * f.ctx ≠ 0x15018 := by omega
  unfold Blk.abandon
  extract_lets f' c1 c2
  have raised : b.keepsRaised c2 := ((b.keepsRaised_set _ (f := ISP.CTX_COUNT_ABANDON_COUNT f.ctx) apart).trans
    (Blk.keepsRaised_raise _ 2 (by decide))).trans (Blk.keepsRaised_failJobs _ _ _)
  have isp : c2.isp = b.isp := by
    rw [show c2.isp = c1.isp from Blk.failJobs_isp c1 _ _]
    simp -implicitDefEqProofs [c1]
  clear_value c2
  have kept := c2.keepsBesideLog_captureFree Page.ISP cause 7
  have raised := raised.trans (c2.keepsRaised_capture cause)
  have isp : (c2.captureOwnFree Page.ISP cause).isp = b.isp := (kept.proj (·.isp) (fun _ _ _ => rfl)).trans isp
  generalize c2.captureOwnFree Page.ISP cause = c at *
  obtain ⟨⟨g, frames, gone⟩, irqs⟩ := Blk.writeDesc_shows (c.oweIsp f') k f'
  rw [Blk.oweIsp_isp, isp] at frames
  exact ⟨⟨g, frames, gone⟩, (raised.trans (c.keepsRaised_oweIsp f')).trans irqs⟩

/-! ### Lines -/

/-- The front line out of the store, its positions taken. -/
def Blk.lineTaken (b : Blk) (l : StoreLine) (rest : List StoreLine) : Blk :=
  { b with cam := { b.cam with store := rest }, isp := { b.isp with used := b.isp.used + l.positions } }

/-- A line at the frame it belongs to. -/
def Blk.frontLine (b : Blk) (l : StoreLine) (errors : TableErrors) (k : Nat) (f : IspFrame) : Blk :=
  match l.kind with
  | .endOfFrame flags => (b.setFrame k { f with ended := some flags }).markFrame f.ctx f.coord
  | kind =>
    if !f.live then b
    else match (b.tableUpset k f errors).isp.frames[k]? with
      | some f' => if f'.live then (b.tableUpset k f errors).frameLine k f' kind else b.tableUpset k f errors
      | none => b.tableUpset k f errors

theorem Blk.ispLine_lost {b : Blk} {l : StoreLine} {rest : List StoreLine} (isp : b.active Page.ISP = true) (croute : b.active Page.CROUTE = true)
    (room : b.isp.used < 8000) (store : b.cam.store = l :: rest) (x : TableErrors) (none : b.frameOf l.ctx = none) :
    b.ispLine x = b.lineTaken l rest := by
  unfold Blk.ispLine
  rw [if_neg (by simp [isp, croute, room]), store]
  have none' : (b.lineTaken l rest).frameOf l.ctx = Option.none := none
  unfold Blk.lineTaken at none' ⊢
  dsimp only
  rw [none']

theorem Blk.ispLine_framed {b : Blk} {l : StoreLine} {rest : List StoreLine} (isp : b.active Page.ISP = true) (croute : b.active Page.CROUTE = true)
    (room : b.isp.used < 8000) (store : b.cam.store = l :: rest) (x : TableErrors) {k : Nat} {f : IspFrame} (found : b.frameOf l.ctx = some k)
    (frame : b.isp.frames[k]? = some f) : b.ispLine x = (b.lineTaken l rest).frontLine l x k f := by
  unfold Blk.ispLine
  rw [if_neg (by simp [isp, croute, room]), store]
  have found' : (b.lineTaken l rest).frameOf l.ctx = some k := found
  unfold Blk.lineTaken at found' ⊢
  dsimp only
  rw [found']
  dsimp only
  rw [frame]
  rfl

theorem Blk.frontLine_end (b : Blk) {l : StoreLine} (x : TableErrors) (k : Nat) (f : IspFrame) {flags : Nat} (kind : l.kind = .endOfFrame flags) :
    b.frontLine l x k f = (b.setFrame k { f with ended := some flags }).markFrame f.ctx f.coord := by
  unfold Blk.frontLine
  rw [kind]

theorem Blk.frontLine_dead (b : Blk) {l : StoreLine} (x : TableErrors) (k : Nat) {f : IspFrame} (kind : ∀ flags, l.kind ≠ .endOfFrame flags)
    (dead : f.live = false) : b.frontLine l x k f = b := by
  unfold Blk.frontLine
  split
  · next flags e => exact absurd e (kind flags)
  · exact if_pos (by simp [dead])

theorem Blk.frontLine_live (b : Blk) {l : StoreLine} (x : TableErrors) (k : Nat) {f g : IspFrame} (kind : ∀ flags, l.kind ≠ .endOfFrame flags)
    (live : f.live = true) (frame : (b.tableUpset k f x).isp.frames[k]? = some g) :
    b.frontLine l x k f = if g.live then (b.tableUpset k f x).frameLine k g l.kind else b.tableUpset k f x := by
  unfold Blk.frontLine
  split
  · next flags e => exact absurd e (kind flags)
  · rw [if_neg (by simp [live]), frame]

/-! ### Table errors of a line -/

theorem Blk.tableUpset_unused (b : Blk) (k : Nat) {f : IspFrame} (x : TableErrors) (h : f.usesTables = false) : b.tableUpset k f x = b :=
  if_pos (by simp [h])

theorem Blk.tableUpset_corrected (b : Blk) (k : Nat) {f : IspFrame} {x : TableErrors} (h : f.usesTables = true) (ok : x.uncorrectable = false) :
    b.tableUpset k f x = b.addSat ISP.TABLE_ECC_COUNT x.corrected := by
  unfold Blk.tableUpset
  rw [if_neg (by simp [h])]
  exact if_neg (by simp [ok])

theorem Blk.tableUpset_lost (b : Blk) (k : Nat) {f : IspFrame} {x : TableErrors} (h : f.usesTables = true) (bad : x.uncorrectable = true) :
    b.tableUpset k f x = (((b.addSat ISP.TABLE_ECC_COUNT x.corrected).raise ISP.IRQ_RAW_TABLE_ECC).report 0x06 Page.ISP).abandon k
      { f with ispFlags := putBits f.ispFlags 2 1 1 } icTableEcc := by
  unfold Blk.tableUpset
  rw [if_neg (by simp [h])]
  exact if_pos bad

theorem getElem?_setNth {α : Type} {l : List α} {k : Nat} {f : α} (h : l[k]? = some f) (g : α) : (setNth l k g)[k]? = some g := by
  obtain ⟨inside, -⟩ := List.getElem?_eq_some_iff.mp h
  exact List.getElem?_set_self inside

theorem Blk.tableUpset_abandons {b : Blk} {k : Nat} {f : IspFrame} {x : TableErrors} (frame : b.isp.frames[k]? = some f) (h : f.usesTables = true)
    (bad : x.uncorrectable = true) : (b.tableUpset k f x).flag ISP.IRQ_RAW_TABLE_ECC = true ∧
      ∃ g, (b.tableUpset k f x).isp.frames[k]? = some g ∧ g.abandoned = true := by
  rw [b.tableUpset_lost k h bad]
  have raised : ((b.addSat ISP.TABLE_ECC_COUNT x.corrected).raise ISP.IRQ_RAW_TABLE_ECC).flag (hIrq Page.ISP 4) = true :=
    Blk.flag_raise_same _ _ (by unfold Fld.fits; decide) (by decide)
  have isp : ((b.addSat ISP.TABLE_ECC_COUNT x.corrected).raise ISP.IRQ_RAW_TABLE_ECC).isp = b.isp := by simp -implicitDefEqProofs [Blk.addSat]
  generalize (b.addSat ISP.TABLE_ECC_COUNT x.corrected).raise ISP.IRQ_RAW_TABLE_ECC = c at *
  obtain ⟨⟨g, frames, gone⟩, irqs⟩ := (c.report 0x06 Page.ISP).abandon_shows k { f with ispFlags := putBits f.ispFlags 2 1 1 } icTableEcc
  have told : c.keepsRaised (c.report 0x06 Page.ISP) := fun _ _ on => on
  refine ⟨(told.trans irqs) 4 (by decide) raised, g, ?_, gone⟩
  rw [frames]
  refine getElem?_setNth (f := f) ?_ g
  rw [show (c.report 0x06 Page.ISP).isp = c.isp from rfl, isp, frame]

theorem Blk.addSat_table (b : Blk) (n : Nat) : (b.addSat ISP.TABLE_ECC_COUNT n).isp = b.isp ∧
    b.keepsRegs (b.addSat ISP.TABLE_ECC_COUNT n) [ISP.TABLE_ECC_COUNT.key] ∧
    (b.addSat ISP.TABLE_ECC_COUNT n).get ISP.TABLE_ECC_COUNT = min (b.get ISP.TABLE_ECC_COUNT + n) (2 ^ 32 - 1) := by
  refine ⟨rfl, (b.keepsRegs_refl _).set _ (List.mem_singleton.mpr rfl), ?_⟩
  exact (b.get_set_same _ _ (by unfold Fld.fits; decide)).trans (Nat.mod_eq_of_lt (Nat.lt_of_le_of_lt (Nat.min_le_right _ _) (by decide)))

/-- Settles O21: the front line by the frame it belongs to (`ispLine_lost`, `ispLine_framed`), the table errors by their kind. -/
theorem pipelineTakesTheStoresFrontLine : Obligations.PipelineTakesTheStoresFrontLine := by
  unfold Obligations.PipelineTakesTheStoresFrontLine
  intro s l rest isp croute room store taken
  have framed (x : TableErrors) {k : Nat} {f : IspFrame} (found : s.blk.frameOf l.ctx = some k) (frame : s.blk.isp.frames[k]? = some f) :
      exec (.ispLineProcess x) s = .next (s.withBlk (taken.frontLine l x k f)) :=
    exec_blk (f := fun b => b.ispLine x) rfl rfl (Blk.ispLine_framed isp croute room store x found frame)
  refine ⟨fun x none => exec_blk (f := fun b => b.ispLine x) rfl rfl (Blk.ispLine_lost isp croute room store x none),
    fun k f found frame => ⟨fun x flags kind => ?_, fun x kind live => ?_, fun x kind dead => ?_⟩⟩
  · rw [framed x found frame, taken.frontLine_end x k f kind]
  · intro met
    have frame' : taken.isp.frames[k]? = some f := frame
    refine ⟨fun unused => taken.tableUpset_unused k x unused, fun uses ok => ?_, fun uses bad => Blk.tableUpset_abandons frame' uses bad, ?_⟩
    · have corrected : met = taken.addSat ISP.TABLE_ECC_COUNT x.corrected := taken.tableUpset_corrected k uses ok
      rw [corrected]
      exact taken.addSat_table x.corrected
    · have still : ∃ g, met.isp.frames[k]? = some g := by
        cases uses : f.usesTables
        · exact ⟨f, by rw [show met = taken from taken.tableUpset_unused k x uses, frame']⟩
        · cases bad : x.uncorrectable
          · exact ⟨f, by rw [show met = _ from taken.tableUpset_corrected k uses bad]; exact frame'⟩
          · obtain ⟨-, g, there, -⟩ := Blk.tableUpset_abandons frame' uses bad
            exact ⟨g, there⟩
      obtain ⟨g, there⟩ := still
      exact ⟨g, there, by rw [framed x found frame, taken.frontLine_live x k kind live there]⟩
  · rw [framed x found frame, taken.frontLine_dead x k kind dead]

/-! ### Held rows -/

/-- The first held row of a frame of a context whose slots are empty. -/
def Blk.readyRow (b : Blk) (c : Nat) (g : IspFrame) : Option HeldRow :=
  if g.ctx == c then g.held.find? (fun x => b.rowFree (g.place x.row).1 (g.place x.row).2 (slotsOf x.bytes.length)) else none

theorem Blk.holdRelease_ready {b : Blk} {c k : Nat} {f : IspFrame} {h : HeldRow} (act : b.active Page.ISP = true)
    (found : b.isp.frames.findIdx? (fun g => (b.readyRow c g).isSome) = some k) (frame : b.isp.frames[k]? = some f)
    (row : b.readyRow c f = some h) : b.holdRelease c =
      if b.ispFault (({ f with held := f.held.erase h } : IspFrame).place h.row).1 (({ f with held := f.held.erase h } : IspFrame).place h.row).2
          (slotsOf h.bytes.length) then b.abandon k { f with held := f.held.erase h } icOutFault
      else b.putRow k { f with held := f.held.erase h } h.row h.bytes := by
  unfold Blk.holdRelease
  extract_lets ready
  rw [show b.isp.frames.findIdx? (fun g => (ready g).isSome) = some k from found]
  dsimp only
  rw [frame]
  dsimp only
  rw [show ready f = some h from row]
  exact if_pos act

/-- A context's rows held longer than their tile's watchdog. -/
def Blk.heldLate (b : Blk) (c : Nat) (g : IspFrame) : Bool :=
  g.ctx == c && g.held.any (fun h => decide (b.stallLimit (g.place h.row).1 < b.linesSince h.since))

theorem Blk.holdTimeout_late {b : Blk} {c k : Nat} {f : IspFrame} (found : b.isp.frames.findIdx? (b.heldLate c) = some k)
    (frame : b.isp.frames[k]? = some f) : b.holdTimeout c = b.abandon k f icOutHeld := by
  unfold Blk.holdTimeout
  extract_lets late
  rw [show b.isp.frames.findIdx? late = some k from found]
  dsimp only
  rw [frame]

/-! ### Frames that end -/

theorem Blk.publish_frames (b : Blk) (f : IspFrame) : (b.publish f).2.isp.frames = b.isp.frames := by
  unfold Blk.publish
  split
  · rfl
  · split
    · rfl
    · extract_lets words pub
      clear_value pub
      rfl

/-- A complete frame's end: its statistics published, FRAME_DONE raised, its descriptor begun. -/
def Blk.frameDone (b : Blk) (k : Nat) (f : IspFrame) : Blk := ((b.publish f).2.raise ISP.IRQ_RAW_FRAME_DONE).writeDesc k (b.publish f).1

theorem Blk.frameDone_frame {b : Blk} {k : Nat} {f : IspFrame} (frame : b.isp.frames[k]? = some f) : ∃ g, (b.frameDone k f).isp.frames[k]? = some g := by
  have frames := b.publish_frames f
  unfold Blk.frameDone
  generalize b.publish f = p at *
  obtain ⟨⟨g, isp, -⟩, -⟩ := Blk.writeDesc_shows (p.2.raise ISP.IRQ_RAW_FRAME_DONE) k p.1
  refine ⟨g, ?_⟩
  rw [isp]
  refine getElem?_setNth (f := f) ?_ g
  rw [Blk.raise_isp, frames, frame]

theorem Blk.ispFrameEnd_complete {b : Blk} {c k : Nat} {f g : IspFrame} (act : b.active Page.ISP = true)
    (found : b.isp.frames.findIdx? (fun g => g.ctx == c) = some k) (frame : b.isp.frames[k]? = some f) (whole : f.complete = true)
    (live : f.live = true) (fresh : f.descAt = none) (open_ : f.descDone = false) (done : (b.frameDone k f).isp.frames[k]? = some g) :
    b.ispFrameEnd c = if g.complete = true ∧ (g.descDone = true ∨ g.en = false)
      then (b.frameDone k f).setFrames ((b.frameDone k f).isp.frames.eraseIdx k) else b.frameDone k f := by
  have branch : (f.complete && f.live && f.descAt.isNone && !f.descDone) = true := by simp [whole, live, fresh, open_]
  unfold Blk.frameDone at done ⊢
  unfold Blk.ispFrameEnd
  rw [if_neg (by simp [act]), found]
  dsimp only
  rw [frame]
  dsimp only
  rw [if_pos branch, done]
  dsimp only
  exact if_congr (by simp) rfl rfl

/-! ### Descriptors that are lost -/

/-- A context's descriptor whose slot is still full at the watchdog. -/
def Blk.descLate (b : Blk) (c : Nat) (g : IspFrame) : Bool :=
  g.ctx == c && (match g.descAt with
    | some x => decide (b.stallLimit g.descTile ≤ b.linesSince x) && b.isFull g.descTile g.descSlot
    | none => false)

theorem Blk.descLost_late {b : Blk} {c k : Nat} {f : IspFrame} (found : b.isp.frames.findIdx? (b.descLate c) = some k)
    (frame : b.isp.frames[k]? = some f) (whole : f.complete = true) :
    b.descLost c = (b.dropDesc k f).setFrames ((b.dropDesc k f).isp.frames.eraseIdx k) := by
  obtain ⟨isp, -⟩ := b.dropDesc_shows k f
  have there : (b.dropDesc k f).isp.frames[k]? = some { f with descDone := true, descAt := none } := by
    rw [isp]
    exact getElem?_setNth frame _
  unfold Blk.descLost
  extract_lets late
  rw [show b.isp.frames.findIdx? late = some k from found]
  dsimp only
  rw [frame]
  dsimp only
  rw [there]
  exact if_pos whole

/-- Settles O22: a held row by `holdRelease_ready` and `holdTimeout_late`, a frame's end by `ispFrameEnd_complete`, a lost descriptor by
`descLost_late`. -/
theorem heldRowsAndDescriptorsEnd : Obligations.HeldRowsAndDescriptorsEnd := by
  unfold Obligations.HeldRowsAndDescriptorsEnd
  intro s c k f hc frame act
  have wf : decide (c < 36) = true := decide_eq_true hc
  refine ⟨fun h => ?_, fun found => ?_, fun found whole live fresh open_ => ?_, fun at_ found _ whole => ?_⟩
  · intro ready found row left
    exact exec_blk (f := fun b => b.holdRelease c) rfl wf (Blk.holdRelease_ready act found frame row)
  · exact exec_blk (f := fun b => b.holdTimeout c) rfl wf (Blk.holdTimeout_late found frame)
  · intro shown wrote
    obtain ⟨g, done⟩ := Blk.frameDone_frame frame
    exact ⟨g, done, exec_blk (f := fun b => b.ispFrameEnd c) rfl wf
      (Blk.ispFrameEnd_complete act found frame whole live fresh open_ done)⟩
  · obtain ⟨isp, -, raised, count, mem⟩ := s.blk.dropDesc_shows k f
    refine completes_of_blk (f := fun b => b.descLost c) rfl wf (Blk.descLost_late found frame whole) ⟨?_, raised, count, mem.node⟩
    show (s.blk.dropDesc k f).isp.frames.eraseIdx k = _
    rw [isp]
    exact List.eraseIdx_set_eq

end Sys2Proof.Machine
end

section
/-! PROOFS. The table window of the pipeline (spec/06 R125), and granted reads (spec/03 R36, R58). -/

namespace Sys2Proof.Machine

/-! ### Granted reads -/

/-- A granted read of a register that is no half of a wide pair answers what the register reads. -/
theorem Node.readReg_live (n : Node) (a : Agent) {page off : Nat} {w : Word} {b : Blk} (hg : n.b.accessCause a page off true false 0 = 0)
    (low : isWideLow page off = false) (high : isWideHigh page off = false) (other : (page != Page.FUSE) = true)
    (live : n.b.readLive a page off = (0, w, b)) :
    n.readReg a page off true = { n with b := b.emit (.access a page off false 0 w) } := by
  simp only [Node.readReg, Node.accessRead, Blk.accessRead, Blk.readWord, hg, low, high, live, other, Bool.and_false, Bool.false_eq_true, if_false,
    bne_self_eq_false, Bool.or_true, if_true]
  rfl

/-- A read's fault depends on the page's power and reset alone. -/
theorem Blk.accessCause_read {b b' : Blk} (a : Agent) {page : Nat} (off : Nat) (on : b'.domOn = b.domOn)
    (reset : b'.flag (hResetting page) = b.flag (hResetting page)) :
    b'.accessCause a page off true false 0 = b.accessCause a page off true false 0 := by
  have power : b'.powered page = b.powered page := by simp only [Blk.powered, Blk.domainOn, on]
  have classes : b'.classAllows a page off false = b.classAllows a page off false := by cases a <;> rfl
  simp only [Blk.accessCause, power, classes, reset, Bool.false_and]

/-! ### The window -/

theorem Node.tableData_read (n : Node) (a : Agent) (error : Nat) (hg : n.b.accessCause a Page.ISP 0x048 true false 0 = 0)
    (on : (n.b.tableMeets error).domOn = n.b.domOn)
    (reset : (n.b.tableMeets error).flag (hResetting Page.ISP) = n.b.flag (hResetting Page.ISP)) :
    n.tableData a none error =
      { n with b := (n.b.tableMeets error).readTable.2.emit (.access a Page.ISP 0x048 false 0 (n.b.tableMeets error).readTable.1) } := by
  have granted : ({ n with b := n.b.tableMeets error } : Node).b.accessCause a Page.ISP 0x048 true false 0 = 0 :=
    (Blk.accessCause_read a 0x048 on reset).trans hg
  simp only [Node.tableData, hg, beq_self_eq_true, if_true]
  exact Node.readReg_live _ a granted rfl rfl rfl rfl

theorem Blk.writeBlock_isp (b : Blk) (a : Agent) (v : Word) : b.writeBlock a Page.ISP 0x048 v = b.writeTable a v := rfl

theorem Node.tableData_write (n : Node) (a : Agent) (v : Word) (hg : n.b.granted a Page.ISP 0x048 v) (error : Nat) :
    n.tableData a (some v) error = { n with b := (n.b.writeTable a v).answered a Page.ISP 0x048 } :=
  n.writeReg_block a v (by decide) hg

theorem Blk.get_tableNext (b : Blk) : b.tableNext.get ISP.TABLE_ADDR = (b.get ISP.TABLE_ADDR + 1) % 2 ^ ISP.TABLE_ADDR.w :=
  b.get_set_same ISP.TABLE_ADDR _ (by unfold Fld.fits; decide)

theorem Blk.keepsRegs_tableNext (b : Blk) : b.keepsRegs b.tableNext [ISP.TABLE_ADDR.key] := (b.keepsRegs_refl _).set _ (by decide)

/-- The word a read meets an error in is found by the fields of TABLE_SEL and TABLE_ADDR. -/
theorem Blk.tableSel_congr {b b' : Blk} {l : List Nat} (h : b.keepsRegs b' l) (sel : ISP.TABLE_SEL_TABLE.key ∉ l)
    (addr : ISP.TABLE_ADDR.key ∉ l) : b'.tableSel = b.tableSel := by
  have table := h.get (f := ISP.TABLE_SEL_TABLE) sel
  have ctx := h.get (f := ISP.TABLE_SEL_CONTEXT) sel
  have bank := h.get (f := ISP.TABLE_SEL_BANK) sel
  have at_ := h.get (f := ISP.TABLE_ADDR) addr
  simp only [Blk.tableSel, table, ctx, bank, at_]

theorem Blk.tableMeets_none (b : Blk) : b.tableMeets 0 = b := by
  unfold Blk.tableMeets
  split <;> rfl

theorem Blk.tableMeets_correctable {b : Blk} {k : Nat} (sel : b.tableSel = some k) : b.tableMeets 1 = b.bumpSat ISP.TABLE_ECC_COUNT := by
  unfold Blk.tableMeets
  rw [sel]
  rfl

/-- The block after an uncorrectable error of a table word: a free value stands there. -/
def Blk.tableSpoilt (b : Blk) (k : Nat) : Blk :=
  { (b.free 32).2 with isp := { b.isp with tables := Tbl.put (dflt 0) b.isp.tables k (BitVec.ofNat 32 (b.free 32).1) } }

theorem Blk.tableMeets_uncorrectable {b : Blk} {k : Nat} (sel : b.tableSel = some k) : b.tableMeets 2 = b.tableSpoilt k := by
  unfold Blk.tableMeets
  rw [sel]
  rfl

/-- A read of the word that is named. -/
theorem Blk.readTable_sel {b : Blk} {k : Nat} (sel : b.tableSel = some k) : b.readTable.1 = Tbl.get (dflt 0) b.isp.tables k := by
  unfold Blk.readTable
  rw [sel]

/-- The bank not in force holds the word written, and nothing else changes but TABLE_ADDR. -/
def Blk.tableStored (b : Blk) (k : Nat) (v : Word) : Blk :=
  { b with isp := { b.isp with tables := Tbl.put (dflt 0) b.isp.tables k v } }

theorem Blk.writeTable_free {b : Blk} {a : Agent} {v : Word} {k : Nat} (sel : b.tableSel = some k)
    (bank : b.get ISP.TABLE_SEL_BANK ≠ b.tableBank (b.get ISP.TABLE_SEL_CONTEXT) (b.get ISP.TABLE_SEL_TABLE)) :
    b.writeTable a v = (b.tableStored k v).tableNext := by
  unfold Blk.writeTable
  rw [sel]
  exact if_neg (by simpa using bank)

/-- The refusal of a write to the bank in force. -/
def Blk.tableRefused (b : Blk) (a : Agent) : Blk :=
  (b.raise ISP.IRQ_RAW_TABLE_IN_FORCE).captureFree Page.ISP icTableInForce (agentCode a)

theorem Blk.writeTable_inForce {b : Blk} {a : Agent} {v : Word} {k : Nat} (sel : b.tableSel = some k)
    (bank : b.get ISP.TABLE_SEL_BANK = b.tableBank (b.get ISP.TABLE_SEL_CONTEXT) (b.get ISP.TABLE_SEL_TABLE)) :
    b.writeTable a v = (b.tableRefused a).tableNext := by
  unfold Blk.writeTable
  rw [sel]
  exact if_pos (by simpa using bank)

theorem Blk.tableRefused_shows (b : Blk) (a : Agent) :
    b.keepsBehind (b.tableRefused a) ∧ (b.tableRefused a).flag ISP.IRQ_RAW_TABLE_IN_FORCE = true ∧
    (b.tableRefused a).get ISP.TABLE_ADDR = b.get ISP.TABLE_ADDR ∧ b.keepsOtherPages (b.tableRefused a) [Page.ISP] := by
  have raised := b.flag_raise_same ISP.IRQ_RAW_TABLE_IN_FORCE (by unfold Fld.fits; decide) (by decide)
  have kept : b.keepsRegs (b.tableRefused a) (captureKeys Page.ISP) :=
    ((b.keepsRegs_refl _).set (f := ISP.IRQ_RAW_TABLE_IN_FORCE) 1 (by decide)).trans (Blk.keepsRegs_captureFree _ Page.ISP icTableInForce (agentCode a))
  have stays := (b.raise ISP.IRQ_RAW_TABLE_IN_FORCE).get_captureFree_hIrq Page.ISP icTableInForce (agentCode a) (bit := 3) (by decide)
  refine ⟨(b.keepsBehind_raise _).captureFree _ _ _, ?_, kept.get (by decide), kept.otherPages (by decide)⟩
  exact (congrArg (fun v => v != 0) stays).trans raised

/-- The same, with TABLE_ADDR advanced. -/
theorem Blk.tableRefused_next (b : Blk) (a : Agent) :
    b.keepsBehind (b.tableRefused a).tableNext ∧ (b.tableRefused a).tableNext.flag ISP.IRQ_RAW_TABLE_IN_FORCE = true ∧
    (b.tableRefused a).tableNext.get ISP.TABLE_ADDR = (b.get ISP.TABLE_ADDR + 1) % 2 ^ ISP.TABLE_ADDR.w ∧
    b.keepsOtherPages (b.tableRefused a).tableNext [Page.ISP] := by
  obtain ⟨behind, raised, addr, pages⟩ := b.tableRefused_shows a
  rw [← addr]
  generalize b.tableRefused a = x at behind raised pages
  have after := x.keepsRegs_tableNext
  exact ⟨behind.set _ _, (after.flag (by decide)).trans raised, x.get_tableNext, pages.trans (after.otherPages (by decide))⟩

/-- A write to the bank in force. -/
theorem Node.tableData_refused {n : Node} {a : Agent} {v : Word} {k : Nat} (hg : n.b.granted a Page.ISP 0x048 v) (sel : n.b.tableSel = some k)
    (bank : n.b.get ISP.TABLE_SEL_BANK = n.b.tableBank (n.b.get ISP.TABLE_SEL_CONTEXT) (n.b.get ISP.TABLE_SEL_TABLE)) :
    ∃ x : Blk, n.tableData a (some v) 0 = { n with b := x.answered a Page.ISP 0x048 } ∧ n.b.keepsBehind x ∧
      x.flag ISP.IRQ_RAW_TABLE_IN_FORCE = true ∧ x.get ISP.TABLE_ADDR = (n.b.get ISP.TABLE_ADDR + 1) % 2 ^ ISP.TABLE_ADDR.w ∧
      n.b.keepsOtherPages x [Page.ISP] :=
  ⟨_, (n.tableData_write a v hg 0).trans (by rw [Blk.writeTable_inForce sel bank]), n.b.tableRefused_next a⟩

/-- A granted read after the error it meets, in the words of the statement. -/
theorem completes_tableRead {s : State} {a : Agent} (error : Nat) {met : Blk} (ha : agentOk a = true) (he : error < 3)
    (hg : s.blk.accessCause a Page.ISP 0x048 true false 0 = 0) (hm : s.blk.tableMeets error = met) (on : met.domOn = s.blk.domOn)
    (reset : met.flag (hResetting Page.ISP) = s.blk.flag (hResetting Page.ISP)) {P : State → Prop}
    (p : P (s.withBlk (met.tableNext.emit (.access a Page.ISP 0x048 false 0 met.readTable.1)))) :
    completes (.tableDataAccess a none error) s P := by
  subst hm
  refine completes_of_node (f := fun n => n.tableData a none error) rfl ?_ (s.node.tableData_read a error hg on reset) p
  show (agentOk a && decide (error < 3)) = true
  rw [ha, decide_eq_true he]
  rfl

/-- Settles O23: a read by `tableData_read` after the error it meets, a write by `tableData_write`. -/
theorem tableDataGoesToTheBankNotInForce : Obligations.TableDataGoesToTheBankNotInForce := by
  unfold Obligations.TableDataGoesToTheBankNotInForce
  refine ⟨fun s a ha hg => ?_, fun s a k ha hg sel => ⟨?_, ?_⟩, fun s a v k ha hg sel => ?_⟩
  · exact completes_tableRead 0 ha (by decide) hg s.blk.tableMeets_none rfl rfl
      ⟨rfl, s.blk.get_tableNext, rfl, s.blk.keepsRegs_tableNext, ⟨rfl, rfl, rfl, rfl⟩⟩
  · have counted : s.blk.keepsRegs (s.blk.bumpSat ISP.TABLE_ECC_COUNT) [ISP.TABLE_ECC_COUNT.key] := (s.blk.keepsRegs_refl _).set _ (by decide)
    have found := Blk.tableMeets_correctable sel
    have count := s.blk.get_bumpSat_same ISP.TABLE_ECC_COUNT (by unfold Fld.fits; decide)
    have isp : (s.blk.bumpSat ISP.TABLE_ECC_COUNT).isp = s.blk.isp := Blk.bumpSat_isp _ _
    have on : (s.blk.bumpSat ISP.TABLE_ECC_COUNT).domOn = s.blk.domOn := Blk.bumpSat_domOn _ _
    have sent : (s.blk.bumpSat ISP.TABLE_ECC_COUNT).sent = s.blk.sent := Blk.bumpSat_sent _ _
    generalize s.blk.bumpSat ISP.TABLE_ECC_COUNT = met at counted found count isp on sent
    have same := (Blk.tableSel_congr counted (by decide) (by decide)).trans sel
    have next := met.get_tableNext
    rw [counted.get (by decide)] at next
    refine completes_tableRead 1 ha (by decide) hg found on (counted.flag (by decide))
      ⟨?_, (met.keepsRegs_tableNext.get (f := ISP.TABLE_ECC_COUNT) (by decide)).trans count, next, isp⟩
    rw [Blk.readTable_sel same, isp, ← sent]
    rfl
  · have same : (s.blk.tableSpoilt k).tableSel = some k := sel
    refine completes_tableRead 2 ha (by decide) hg (Blk.tableMeets_uncorrectable sel) rfl rfl
      ⟨?_, (s.blk.tableSpoilt k).get_tableNext, fun j hj => Tbl.get_put_ne _ _ _ hj⟩
    rw [Blk.readTable_sel same, show Tbl.get (dflt 0) (s.blk.tableSpoilt k).isp.tables k = _ from Tbl.get_put_same ..]
    rfl
  · intro inForce
    have wf : (agentOk a && decide (0 < 3)) = true := by rw [ha]; rfl
    have written := s.node.tableData_write a v hg 0
    refine ⟨fun bank => ?_, fun bank => ?_⟩
    · rw [show s.node.b.writeTable a v = _ from Blk.writeTable_free sel bank] at written
      exact completes_of_node (f := fun n => n.tableData a (some v) 0) rfl wf written
        ⟨Tbl.get_put_same .., fun j hj => Tbl.get_put_ne _ _ _ hj, (s.blk.tableStored k v).get_tableNext,
          (s.blk.tableStored k v).keepsRegs_tableNext, ⟨rfl, rfl, rfl, rfl⟩⟩
    · obtain ⟨x, effect, behind, raised, addr, pages⟩ := s.node.tableData_refused hg sel bank
      exact completes_of_node (f := fun n => n.tableData a (some v) 0) rfl wf effect
        ⟨behind.proj (·.isp) (fun _ _ _ _ _ => rfl), raised, addr, pages, Node.sameMemory_of_keepsBehind (behind.emit _)⟩

end Sys2Proof.Machine
end

section
/-! PROOFS. Power modes: requests, steps, their ends, wakes and the supply (spec/16 R402 to R416, spec/17 R436 to R438). -/

namespace Sys2Proof.Machine

/-! ### Requests -/

theorem Blk.writeBlock_pwr (b : Blk) (a : Agent) (v : Word) : b.writeBlock a Page.PWR 0x040 v = b.writeModeReq v.toNat := rfl

/-- A request's word carries its target, its frame mode and GO. -/
theorem modeWord_fields {target fmode : Nat} (ht : target < 8) (hf : fmode < 4) :
    bitsAt (target + 16 * fmode + 2 ^ 31) 0 3 = target ∧ bitsAt (target + 16 * fmode + 2 ^ 31) 4 2 = fmode ∧
    bitAt (target + 16 * fmode + 2 ^ 31) 31 = true := by
  simp only [bitAt, bitsAt, Nat.shiftRight_eq_div_pow, beq_iff_eq]
  omega

/-- MODE_REQ holds what was asked for. -/
def Blk.modePosted (b : Blk) (target fmode : Nat) : Blk := (b.set PWR.MODE_REQ_TARGET target).set PWR.MODE_REQ_FMODE fmode

theorem Blk.writeModeReq_word (b : Blk) {target fmode : Nat} (ht : target < 8) (hf : fmode < 4) :
    b.writeModeReq (target + 16 * fmode + 2 ^ 31) =
      if (b.modePosted target fmode).flag (hEn Page.PWR) = true then (b.modePosted target fmode).modeGo else b.modePosted target fmode := by
  obtain ⟨field, mode, go⟩ := modeWord_fields ht hf
  simp only [Blk.writeModeReq, field, mode, go, Bool.true_and]
  rfl

theorem Blk.keepsRegs_modePosted (b : Blk) (target fmode : Nat) : b.keepsRegs (b.modePosted target fmode) [PWR.MODE_REQ_TARGET.key] :=
  ((b.keepsRegs_refl _).set _ (by decide)).set _ (by decide)

theorem Blk.modePosted_target (b : Blk) (target fmode : Nat) : (b.modePosted target fmode).get PWR.MODE_REQ_TARGET = target % 8 := by
  unfold Blk.modePosted
  rw [Blk.get_set_apart _ _ _ _ (by unfold Fld.fits; decide) (by unfold Fld.apart; decide)]
  exact b.get_set_same _ _ (by unfold Fld.fits; decide)

/-- GO's refusal code, case by case (Table 4). -/
theorem Blk.modeRefusal_cases (b : Blk) (target fmode : Nat) (atF : BitVec 32) :
    let unknown := target = 0 ∨ 4 < target ∨ target = 1 ∧ b.power.mode = 0
    let code := b.modeRefusal target fmode atF
    (unknown → code = 1) ∧ (¬unknown → target = b.power.mode → code = 2) ∧
    (¬unknown → target ≠ b.power.mode →
      (b.power.trans.isSome = true → code = 3) ∧
      (b.power.trans = none → frameDiff atF b.ep.frame < 2 → code = 4) ∧
      (b.power.trans = none → 2 ≤ frameDiff atF b.ep.frame → code = if target = 4 ∧ 2 ≤ fmode then 5 else 0)) := by
  intro unknown code
  have test : (target == 0 || decide (4 < target) || target == 1 && decide (b.power.mode < 1)) = true ↔ unknown := by
    simp only [Bool.or_eq_true, Bool.and_eq_true, beq_iff_eq, decide_eq_true_eq, unknown]
    omega
  refine ⟨fun h => if_pos (test.mpr h), fun h same => ?_, fun h differs => ⟨fun busy => ?_, fun idle soon => ?_, fun idle later => ?_⟩⟩ <;>
    simp only [code, Blk.modeRefusal] <;> rw [if_neg (mt test.mp h)]
  · exact if_pos (beq_iff_eq.mpr same)
  · rw [if_neg (by simpa using differs)]
    exact if_pos busy
  · rw [if_neg (by simpa using differs), idle]
    exact if_pos soon
  · rw [if_neg (by simpa using differs), idle, if_neg (by decide), if_neg (by omega)]
    simp

/-! ### Steps begin -/

/-- A step towards a mode as PWR keeps it. -/
def Blk.stepBegun (x : Blk) (from_ target : Nat) : Blk := x.setPower { x.power with trans := some ⟨from_, target, x.ep.line, false⟩, step := none }

/-- Leaving RUN, a node leaves its fleet. -/
def Blk.stepOut (b : Blk) : Blk := if b.power.mode = 4 then b.stepOutOfFleet.frameModeAtL0 2 else b

/-- BULK goes to RET: the Erg cores stop where they are. -/
def Blk.bulkRetained (b : Blk) : Blk :=
  { b.setPower { b.power with bulkRet := true } with domOn := b.domOn - 128, cores := { b.cores with stoppedAt := some b.ep.line } }

/-- What a step to a mode does with a domain. -/
def Blk.domainStep (target : Nat) (ret : Bool) (b : Blk) (d : Nat) : Blk :=
  if bitAt (modeDomains target) d then b
  else if d == 7 && target == 2 then (if ret then b.bulkRetained else b)
  else b.domainOff d

/-- The fleet left and the frame mode chosen, before a step begins. -/
def Blk.stepFrom (b : Blk) (target fmode : Nat) : Blk :=
  if b.power.mode == 4 && target < 4 then b.stepOutOfFleet.frameModeAtL0 2
  else if target == 4 then b.frameModeAtL0 fmode
  else b

theorem Blk.startStep_eq (b : Blk) (target fmode : Nat) :
    b.startStep target fmode =
      let begun := (b.stepFrom target fmode).stepBegun b.power.mode target
      let down := begun.each powerOrder.reverse (Blk.domainStep target (target == 2 && decide (3 ≤ b.power.mode) && begun.domainOn 7))
      if target == 1 then (down.setPower { down.power with bulkRet := false }).resetPages .cold true (inDomain 7) else down := rfl

theorem Blk.startStep_run (b : Blk) (fmode : Nat) : b.startStep 4 fmode = (b.frameModeAtL0 fmode).stepBegun b.power.mode 4 := by
  have left : b.stepFrom 4 fmode = b.frameModeAtL0 fmode := by simp [Blk.stepFrom]
  rw [b.startStep_eq, left]
  rfl

theorem Blk.startStep_below (b : Blk) {target : Nat} (fmode : Nat) (below : target < 4) :
    b.startStep target fmode =
      let begun := b.stepOut.stepBegun b.power.mode target
      let down := begun.each powerOrder.reverse (Blk.domainStep target (target == 2 && decide (3 ≤ b.power.mode) && begun.domainOn 7))
      if target == 1 then (down.setPower { down.power with bulkRet := false }).resetPages .cold true (inDomain 7) else down := by
  have left : b.stepFrom target fmode = b.stepOut := by
    simp only [Blk.stepFrom, Blk.stepOut, decide_eq_true below, Bool.and_true, beq_iff_eq, if_neg (show target ≠ 4 by omega)]
  rw [b.startStep_eq, left]

theorem Blk.startStep_watch (b : Blk) (fmode : Nat) :
    b.startStep 3 fmode = ((b.stepOut.stepBegun b.power.mode 3).domainOff 6).domainOff 5 := by
  rw [b.startStep_below fmode (by decide)]
  rfl

theorem Blk.startStep_standby (b : Blk) (fmode : Nat) :
    let begun := b.stepOut.stepBegun b.power.mode 2
    let front := ((((begun.domainOff 6).domainOff 5).domainOff 4).domainOff 3).domainOff 2
    b.startStep 2 fmode = if 3 ≤ b.power.mode ∧ begun.domainOn 7 = true then front.bulkRetained else front := by
  intro begun front
  rw [b.startStep_below fmode (by decide)]
  have retained : ∀ ret : Bool, begun.each powerOrder.reverse (Blk.domainStep 2 ret) = if ret = true then front.bulkRetained else front :=
    fun _ => rfl
  simp only [show begun = b.stepOut.stepBegun b.power.mode 2 from rfl] at retained ⊢
  rw [retained]
  simp

theorem Blk.startStep_dormant (b : Blk) (fmode : Nat) :
    let begun := b.stepOut.stepBegun b.power.mode 1
    let dark := ((((((begun.domainOff 6).domainOff 5).domainOff 4).domainOff 3).domainOff 2).domainOff 7).domainOff 1
    b.startStep 1 fmode = (dark.setPower { dark.power with bulkRet := false }).resetPages .cold true (inDomain 7) := by
  intro begun dark
  rw [b.startStep_below fmode (by decide)]
  rfl

theorem Blk.modeStep_busy {b : Blk} (h : b.power.trans.isSome = true ∨ b.power.step = none ∧ b.power.request = none) : b.modeStep = b := by
  unfold Blk.modeStep
  obtain busy | ⟨step, request⟩ := h
  · exact if_pos busy
  · rw [step, request]
    exact ite_self _

theorem Blk.modeStep_step {b : Blk} {target : Nat} (idle : b.power.trans = none) (step : b.power.step = some target) :
    b.modeStep = if target < b.power.mode then b.startStep target 2 else b.setPower { b.power with step := none } := by
  unfold Blk.modeStep
  rw [idle, step]
  rfl

theorem Blk.modeStep_request {b : Blk} {r : ModeReq} (idle : b.power.trans = none) (step : b.power.step = none) (request : b.power.request = some r) :
    b.modeStep = if coordReached b.now ⟨r.atF, 0⟩ = true ∧ b.active Page.PWR = true
      then (b.setPower { b.power with request := none }).startStep r.target r.fmode else b := by
  unfold Blk.modeStep
  rw [idle, step, request]
  simp only [Option.isSome_none, Bool.false_eq_true, if_false, Bool.and_eq_true]

/-! ### Domains that power up -/

/-- `b'` differs from `b` in what a domain's power-up writes. -/
def Blk.keepsBesideUp (b b' : Blk) : Prop :=
  ∃ d i r p s f, b' = { b with domOn := d, spm := { b.spm with init := i }, regs := r, pages := p, sent := s, safe := f }

theorem Blk.keepsBesideUp_refl (b : Blk) : b.keepsBesideUp b := ⟨_, _, _, _, _, _, rfl⟩

theorem Blk.keepsBesideUp.trans {a b c : Blk} (h : a.keepsBesideUp b) (k : b.keepsBesideUp c) : a.keepsBesideUp c := by
  obtain ⟨d, i, r, p, s, f, rfl⟩ := h
  obtain ⟨d', i', r', p', s', f', rfl⟩ := k
  exact ⟨d', i', r', p', s', f', rfl⟩

/-- Every granule of a domain's tiles is re-initialised. -/
def Blk.tilesInit (b : Blk) (d : Nat) : Blk := b.each (indicesWhere 16 (fun t => inDomain d (tilePage t))) (fun b t => b.setInit t (2 ^ 48 - 1))

theorem Blk.tilesInit_shows (b : Blk) (d : Nat) : ∃ i, b.tilesInit d = { b with spm := { b.spm with init := i } } := by
  unfold Blk.tilesInit
  generalize indicesWhere 16 (fun t => inDomain d (tilePage t)) = l
  induction l generalizing b with
  | nil => exact ⟨_, rfl⟩
  | cons t l ih =>
    obtain ⟨i, rest⟩ := ih (b.setInit t (2 ^ 48 - 1))
    exact ⟨i, rest⟩

/-- SYS powers up: SYNC_OUT is driven, JOURNAL recovers, SAFE's window begins. -/
def Blk.sysUp (b : Blk) : Blk := { (b.emit (.syncOut b.syncOutLevel)).conf JOURNAL.J_CTRL_RECOVERING 1 with safe := { b.safe with windowAt := b.ep.line } }

theorem Blk.sysUp_shows (b : Blk) : b.keepsBesideUp b.sysUp ∧ b.sysUp.domOn = b.domOn := ⟨⟨_, _, _, _, _, _, rfl⟩, rfl⟩

theorem Blk.domainUp_off {b : Blk} {d : Nat} (off : b.domainOn d = false) :
    b.domainUp d = (({ b with domOn := b.domOn + 2 ^ d } : Blk).tilesInit d).when (d == 1) Blk.sysUp := by
  unfold Blk.domainUp
  rw [off]
  rfl

theorem Blk.domainUp_on {b : Blk} {d : Nat} (on : b.domainOn d = true) : b.domainUp d = b := if_pos on

theorem Blk.domainUp_shows {b : Blk} {d : Nat} (off : b.domainOn d = false) :
    b.keepsBesideUp (b.domainUp d) ∧ (b.domainUp d).domOn = b.domOn + 2 ^ d ∧ (d ≠ 1 → (b.domainUp d).regs = b.regs) := by
  rw [Blk.domainUp_off off]
  obtain ⟨i, init⟩ := ({ b with domOn := b.domOn + 2 ^ d } : Blk).tilesInit_shows d
  rw [init]
  by_cases sys : d = 1
  · rw [Blk.when, if_pos (by simpa using sys)]
    obtain ⟨kept, dom⟩ := Blk.sysUp_shows { b with domOn := b.domOn + 2 ^ d, spm := { b.spm with init := i } }
    exact ⟨Blk.keepsBesideUp.trans ⟨_, _, _, _, _, _, rfl⟩ kept, dom, fun h => absurd sys h⟩
  · rw [Blk.when, if_neg (by simpa using sys)]
    exact ⟨⟨_, _, _, _, _, _, rfl⟩, rfl, fun _ => rfl⟩

/-- Bit `d` set where it was clear. -/
theorem bitAt_add_pow {n d : Nat} (j : Nat) (clear : bitAt n d = false) : bitAt (n + 2 ^ d) j = (bitAt n j || j == d) := by
  simp only [bitAt_eq_testBit] at clear ⊢
  rcases Nat.lt_trichotomy j d with below | rfl | above
  · rw [Nat.add_comm, Nat.testBit_two_pow_add_gt below, show (j == d) = false by simp; omega, Bool.or_false]
  · rw [Nat.add_comm, Nat.testBit_two_pow_add_eq, clear, beq_self_eq_true]
    rfl
  · have even : n / 2 ^ d % 2 = 0 := by
      rw [Nat.testBit_eq_decide_div_mod_eq] at clear
      have odd : ¬n / 2 ^ d % 2 = 1 := by simpa using clear
      omega
    have upper : (n + 2 ^ d) / 2 ^ (d + 1) = n / 2 ^ (d + 1) := by
      rw [Nat.pow_succ, ← Nat.div_div_eq_div_mul, ← Nat.div_div_eq_div_mul, Nat.add_div_right _ (Nat.two_pow_pos d)]
      omega
    rw [show j = (j - (d + 1)) + (d + 1) by omega, Nat.testBit_add, Nat.testBit_add, upper, show (j - (d + 1) + (d + 1) == d) = false by simp; omega,
      Bool.or_false]

theorem Blk.domainOn_domainUp (b : Blk) (d j : Nat) : (b.domainUp d).domainOn j = (b.domainOn j || j == d) := by
  by_cases on : b.domainOn d = true
  · rw [Blk.domainUp_on on]
    by_cases same : j = d
    · rw [same, on, Bool.true_or]
    · rw [show (j == d) = false by simpa using same, Bool.or_false]
  · rw [Bool.not_eq_true] at on
    obtain ⟨-, dom, -⟩ := Blk.domainUp_shows on
    unfold Blk.domainOn
    rw [dom]
    exact bitAt_add_pow j on

/-- The domains of a list that a set names power up. -/
def Blk.domainsUp (b : Blk) (want : Nat) (l : List Nat) : Blk := b.each l (fun b d => if bitAt want d then b.domainUp d else b)

theorem Blk.domainsUp_on (want j : Nat) (l : List Nat) (b : Blk) :
    (b.domainsUp want l).domainOn j = (b.domainOn j || (decide (j ∈ l) && bitAt want j)) := by
  induction l generalizing b with
  | nil => simp [Blk.domainsUp, Blk.each]
  | cons d l ih =>
    have rest := ih (if bitAt want d = true then b.domainUp d else b)
    have first : (if bitAt want d = true then b.domainUp d else b).domainOn j = (b.domainOn j || (j == d && bitAt want j)) := by
      by_cases named : bitAt want d = true
      · rw [if_pos named, b.domainOn_domainUp d j]
        by_cases same : j = d
        · rw [same, named, Bool.and_true]
        · rw [show (j == d) = false by simpa using same, Bool.false_and]
      · rw [if_neg named]
        by_cases same : j = d
        · rw [same, (Bool.not_eq_true _).mp named, Bool.and_false, Bool.or_false]
        · rw [show (j == d) = false by simpa using same, Bool.false_and, Bool.or_false]
    rw [first] at rest
    refine rest.trans ?_
    simp only [List.mem_cons, Bool.decide_or, Bool.and_or_distrib_right, Bool.or_assoc, beq_eq_decide]

theorem Blk.domainsUp_keeps (want : Nat) (l : List Nat) (b : Blk) :
    b.keepsBesideUp (b.domainsUp want l) ∧ (b.domainOn 1 = true ∨ bitAt want 1 = false → (b.domainsUp want l).regs = b.regs) := by
  induction l generalizing b with
  | nil => exact ⟨b.keepsBesideUp_refl, fun _ => rfl⟩
  | cons d l ih =>
    show b.keepsBesideUp ((if bitAt want d = true then b.domainUp d else b).domainsUp want l) ∧
      (_ → ((if bitAt want d = true then b.domainUp d else b).domainsUp want l).regs = b.regs)
    by_cases named : bitAt want d = true
    · rw [if_pos named]
      obtain ⟨kept, regs⟩ := ih (b.domainUp d)
      by_cases on : b.domainOn d = true
      · rw [Blk.domainUp_on on] at kept regs ⊢
        exact ⟨kept, regs⟩
      · rw [Bool.not_eq_true] at on
        obtain ⟨first, -, same⟩ := Blk.domainUp_shows on
        refine ⟨first.trans kept, fun h => (regs ?_).trans (same ?_)⟩
        · rw [b.domainOn_domainUp d 1]
          exact h.imp_left (fun on => by rw [on, Bool.true_or])
        · rintro rfl
          rcases h with h | h
          · exact absurd (on.symm.trans h) (by decide)
          · exact absurd (h.symm.trans named) (by decide)
    · rw [if_neg named]
      exact ih b

/-! ### Steps end -/

/-- What PWR, the Erg cores and the link fabric's counters take when a step ends: beside that nothing changes but PWR's registers. -/
structure Blk.keepsArrival (b b' : Blk) : Prop where
  dom : b'.domOn = b.domOn
  mode : b'.power.mode = b.power.mode
  trans_ : b'.power.trans = b.power.trans
  line : b'.ep.line = b.ep.line
  memory : b.keepsMemory b'
  pages : b.keepsOtherPages b' [Page.PWR]

theorem Blk.keepsArrival_refl (b : Blk) : b.keepsArrival b := ⟨rfl, rfl, rfl, rfl, b.keepsMemory_refl, b.keepsOtherPages_refl _⟩

theorem Blk.keepsArrival.trans {a b c : Blk} (h : a.keepsArrival b) (k : b.keepsArrival c) : a.keepsArrival c :=
  ⟨k.dom.trans h.dom, k.mode.trans h.mode, k.trans_.trans h.trans_, k.line.trans h.line, h.memory.trans k.memory, h.pages.trans k.pages⟩

theorem Blk.keepsArrival_of_keepsBehind {b b' : Blk} (behind : b.keepsBehind b') (pages : b.keepsOtherPages b' [Page.PWR]) : b.keepsArrival b' :=
  ⟨behind.proj (·.domOn) (fun _ _ _ _ _ => rfl), behind.proj (·.power.mode) (fun _ _ _ _ _ => rfl),
    behind.proj (·.power.trans) (fun _ _ _ _ _ => rfl), behind.proj (·.ep.line) (fun _ _ _ _ _ => rfl), behind.memory, pages⟩

theorem Blk.keepsArrival_set (b : Blk) {f : Fld} (v : Nat) (pwr : pageOf f.key = Page.PWR) : b.keepsArrival (b.set f v) :=
  Blk.keepsArrival_of_keepsBehind (b.keepsBehind_set f v) ((b.keepsOtherPages_refl _).set v (List.mem_singleton.mpr pwr))

/-! A step that ends, part by part. -/

/-- The mode that a step reached. -/
def Blk.modeReached (b : Blk) (t : ModeTrans) : Blk :=
  b.setPower { b.power with mode := t.target, trans := none, bulkRet := b.power.bulkRet && !b.domainOn 7 }

/-- FAB has powered up: the node is in no fleet yet. -/
def Blk.fabArrived (b : Blk) (fabWas : Bool) : Blk :=
  b.when (!fabWas && b.domainOn 6) (fun b => { b with ep := { b.ep with ownMaster := false, entered := b.ep.line } })

/-- PWR tells that the step has ended, and how long it took. -/
def Blk.modeTold (b : Blk) (since : BitVec 48) : Blk :=
  b.when (b.powered Page.PWR) (fun b => (b.raise PWR.IRQ_RAW_MODE_DONE).set PWR.TRANS_LAST (b.linesSince since % 2 ^ 24))

theorem Blk.fabArrived_shows (b : Blk) (fabWas : Bool) : b.keepsArrival (b.fabArrived fabWas) := by
  unfold Blk.fabArrived Blk.when
  split
  · exact ⟨rfl, rfl, rfl, rfl, ⟨rfl, rfl, rfl⟩, b.keepsOtherPages_refl _⟩
  · exact b.keepsArrival_refl

theorem Blk.modeTold_shows (b : Blk) (since : BitVec 48) :
    b.keepsArrival (b.modeTold since) ∧ (b.powered Page.PWR = true →
      (b.modeTold since).flag PWR.IRQ_RAW_MODE_DONE = true ∧ (b.modeTold since).get PWR.TRANS_LAST = b.linesSince since % 2 ^ 24) := by
  unfold Blk.modeTold Blk.when
  by_cases on : b.powered Page.PWR = true
  · rw [if_pos on]
    have raised := b.flag_raise_same PWR.IRQ_RAW_MODE_DONE (by unfold Fld.fits; decide) (by decide)
    have kept := b.keepsArrival_set (f := PWR.IRQ_RAW_MODE_DONE) 1 rfl
    change b.keepsArrival (b.raise PWR.IRQ_RAW_MODE_DONE) at kept
    dsimp only
    generalize b.raise PWR.IRQ_RAW_MODE_DONE = x at raised kept
    have stays : x.keepsRegs (x.set PWR.TRANS_LAST (b.linesSince since % 2 ^ 24)) [PWR.TRANS_LAST.key] := (x.keepsRegs_refl _).set _ (by decide)
    refine ⟨kept.trans (x.keepsArrival_set _ rfl), fun _ => ⟨(stays.flag (by decide)).trans raised, ?_⟩⟩
    exact (x.get_set_same PWR.TRANS_LAST _ (by unfold Fld.fits; decide)).trans (Nat.mod_mod _ _)
  · rw [if_neg on]
    exact ⟨b.keepsArrival_refl, fun h => absurd h on⟩

theorem Blk.ergResume_shows (b : Blk) : b.keepsArrival b.ergResume ∧ b.ergResume.regs = b.regs := by
  unfold Blk.ergResume
  cases b.cores.stoppedAt with
  | none => exact ⟨b.keepsArrival_refl, rfl⟩
  | some l => exact ⟨⟨rfl, rfl, rfl, rfl, ⟨rfl, rfl, rfl⟩, b.keepsOtherPages_refl _⟩, rfl⟩

/-! WAKE_TO is requested. -/

/-- A request's outcome noted in REQ_STATUS. -/
def Blk.modeNoted (b : Blk) (target code : Nat) : Blk := (b.set PWR.REQ_STATUS_LAST_TARGET target).set PWR.REQ_STATUS_CODE code

/-- The refusal code of the request that MODE_REQ holds. -/
def Blk.modeCode (b : Blk) : Nat :=
  b.modeRefusal (b.get PWR.MODE_REQ_TARGET) (b.get PWR.MODE_REQ_FMODE) (BitVec.ofNat 32 (b.get PWR.MODE_AT_F))

/-- The request that MODE_REQ holds, accepted. -/
def Blk.modeTaken (x b : Blk) : Blk :=
  x.setPower { x.power with request := some ⟨b.get PWR.MODE_REQ_TARGET, b.get PWR.MODE_REQ_FMODE, BitVec.ofNat 32 (b.get PWR.MODE_AT_F)⟩ }

/-- A request refused. -/
def Blk.modeRefused (b : Blk) : Blk := (b.raise PWR.IRQ_RAW_REQ_REFUSED).captureOwnFree Page.PWR pwRefused

theorem Blk.modeGo_eq (b : Blk) :
    b.modeGo = if b.modeCode = 0
      then ((b.modeNoted (b.get PWR.MODE_REQ_TARGET) b.modeCode).modeTaken b).when
        (decide (b.get PWR.MODE_REQ_TARGET < 3) && ((b.modeNoted (b.get PWR.MODE_REQ_TARGET) b.modeCode).modeTaken b).active Page.CLIENT)
        Blk.healthChanged
      else (b.modeNoted (b.get PWR.MODE_REQ_TARGET) b.modeCode).modeRefused := by
  simp only [← beq_iff_eq (a := b.modeCode)]
  rfl

theorem Blk.modeRefused_shows (b : Blk) :
    b.keepsArrival b.modeRefused ∧ b.modeRefused.flag PWR.IRQ_RAW_MODE_DONE = b.flag PWR.IRQ_RAW_MODE_DONE ∧
    b.modeRefused.get PWR.TRANS_LAST = b.get PWR.TRANS_LAST := by
  have behind : b.keepsBehind b.modeRefused := (b.keepsBehind_raise _).captureOwnFree _ _
  have kept : b.keepsRegs b.modeRefused (captureKeys Page.PWR) :=
    ((b.keepsRegs_refl _).set (f := PWR.IRQ_RAW_REQ_REFUSED) 1 (by decide)).trans (Blk.keepsRegs_captureOwnFree _ Page.PWR pwRefused)
  refine ⟨Blk.keepsArrival_of_keepsBehind behind (kept.otherPages (by decide)), ?_, kept.get (by decide)⟩
  refine (Blk.flag_captureOwnFree_hIrq _ Page.PWR pwRefused (bit := 0) (by decide)).trans ?_
  exact congrArg (fun v => v != 0) (b.get_set_apart PWR.IRQ_RAW_REQ_REFUSED PWR.IRQ_RAW_MODE_DONE 1 (by unfold Fld.fits; decide)
    (by unfold Fld.apart; decide))

theorem Blk.modeNoted_shows (b : Blk) (target code : Nat) :
    b.keepsArrival (b.modeNoted target code) ∧ b.keepsRegs (b.modeNoted target code) [PWR.REQ_STATUS_CODE.key] := by
  constructor
  · exact (b.keepsArrival_set _ rfl).trans (Blk.keepsArrival_set _ _ rfl)
  · exact ((b.keepsRegs_refl _).set _ (by decide)).set _ (by decide)

theorem Blk.modeTaken_shows (x b : Blk) : x.keepsArrival (x.modeTaken b) ∧ (x.modeTaken b).regs = x.regs :=
  ⟨⟨rfl, rfl, rfl, rfl, ⟨rfl, rfl, rfl⟩, x.keepsOtherPages_refl _⟩, rfl⟩

/-- A request above STANDBY tells no client anything. -/
theorem Blk.modeGo_shows {b : Blk} (above : 3 ≤ b.get PWR.MODE_REQ_TARGET) :
    b.keepsArrival b.modeGo ∧ b.modeGo.flag PWR.IRQ_RAW_MODE_DONE = b.flag PWR.IRQ_RAW_MODE_DONE ∧
    b.modeGo.get PWR.TRANS_LAST = b.get PWR.TRANS_LAST := by
  obtain ⟨kept, regs⟩ := b.modeNoted_shows (b.get PWR.MODE_REQ_TARGET) b.modeCode
  have go := b.modeGo_eq
  rw [decide_eq_false (by omega : ¬b.get PWR.MODE_REQ_TARGET < 3), Bool.false_and, Blk.when, if_neg Bool.false_ne_true] at go
  have flag : (b.modeNoted (b.get PWR.MODE_REQ_TARGET) b.modeCode).flag PWR.IRQ_RAW_MODE_DONE = _ := regs.flag (by decide)
  have last : (b.modeNoted (b.get PWR.MODE_REQ_TARGET) b.modeCode).get PWR.TRANS_LAST = _ := regs.get (by decide)
  generalize b.modeNoted (b.get PWR.MODE_REQ_TARGET) b.modeCode = x at kept flag last go
  rw [go, ← flag, ← last]
  split
  · obtain ⟨taken, same⟩ := x.modeTaken_shows b
    exact ⟨kept.trans taken, by rw [Blk.flag, Blk.get_of_regs_eq same, ← Blk.flag], Blk.get_of_regs_eq same _⟩
  · obtain ⟨refused, flag, last⟩ := x.modeRefused_shows
    exact ⟨kept.trans refused, flag, last⟩

/-- The request that Erg makes after a wake. -/
def Blk.wakeMode (b : Blk) : Nat := if b.get OASIS.WAKE_CTRL_WAKE_TO = 4 ∧ b.get OASIS.WAKE_CTRL_WAKE_FMODE = 1 then 1 else 0

/-- Erg runs in STANDBY and is to go on to WATCH or RUN. -/
def Blk.wakeAsks (b : Blk) : Prop :=
  (b.get OASIS.WAKE_CTRL_WAKE_TO = 3 ∨ b.get OASIS.WAKE_CTRL_WAKE_TO = 4) ∧ b.ergRuns = true ∧ b.power.mode = 2

theorem Blk.wakeAsks_test (b : Blk) :
    ((b.get OASIS.WAKE_CTRL_WAKE_TO == 3 || b.get OASIS.WAKE_CTRL_WAKE_TO == 4) && b.ergRuns && b.power.mode == 2) = true ↔ b.wakeAsks := by
  simp only [Blk.wakeAsks, Bool.and_eq_true, Bool.or_eq_true, beq_iff_eq, and_assoc]

theorem Blk.wakeRequest_quiet {b : Blk} (h : ¬b.wakeAsks) : b.wakeRequest = b := by
  refine if_pos ?_
  rw [Bool.not_eq_true', Bool.eq_false_iff]
  exact mt b.wakeAsks_test.mp h

theorem Blk.wakeRequest_asks {b : Blk} (h : b.wakeAsks) :
    b.wakeRequest = (b.set PWR.MODE_AT_F (b.ep.frame + 2).toNat).writeModeReq (b.get OASIS.WAKE_CTRL_WAKE_TO + 16 * b.wakeMode + 2 ^ 31) := by
  have mode : (if b.get OASIS.WAKE_CTRL_WAKE_TO == 4 then (if b.get OASIS.WAKE_CTRL_WAKE_FMODE == 1 then 1 else 0) else 0) = b.wakeMode := by
    simp only [Blk.wakeMode, beq_iff_eq, ite_and]
  rw [← mode]
  refine if_neg ?_
  rw [Bool.not_eq_true', Bool.not_eq_false]
  exact b.wakeAsks_test.mpr h

theorem Blk.wakeRequest_shows (b : Blk) :
    b.keepsArrival b.wakeRequest ∧ b.wakeRequest.flag PWR.IRQ_RAW_MODE_DONE = b.flag PWR.IRQ_RAW_MODE_DONE ∧
    b.wakeRequest.get PWR.TRANS_LAST = b.get PWR.TRANS_LAST := by
  by_cases asks : b.wakeAsks
  · have choice := asks.1
    have mode : b.wakeMode < 4 := by
      unfold Blk.wakeMode
      split <;> decide
    rw [Blk.wakeRequest_asks asks]
    generalize b.get OASIS.WAKE_CTRL_WAKE_TO = target at choice
    have at_ := b.keepsArrival_set (f := PWR.MODE_AT_F) (b.ep.frame + 2).toNat rfl
    have regs : b.keepsRegs (b.set PWR.MODE_AT_F (b.ep.frame + 2).toNat) [PWR.MODE_AT_F.key] := (b.keepsRegs_refl _).set _ (by decide)
    have flag := regs.flag (f := PWR.IRQ_RAW_MODE_DONE) (by decide)
    have last := regs.get (f := PWR.TRANS_LAST) (by decide)
    generalize b.set PWR.MODE_AT_F (b.ep.frame + 2).toNat = x at at_ flag last
    rw [x.writeModeReq_word (by omega) mode, ← flag, ← last]
    have posted : x.keepsArrival (x.modePosted target b.wakeMode) := (x.keepsArrival_set _ rfl).trans (Blk.keepsArrival_set _ _ rfl)
    have regs := x.keepsRegs_modePosted target b.wakeMode
    have held := x.modePosted_target target b.wakeMode
    have flag := regs.flag (f := PWR.IRQ_RAW_MODE_DONE) (by decide)
    have last := regs.get (f := PWR.TRANS_LAST) (by decide)
    generalize x.modePosted target b.wakeMode = y at posted held flag last
    rw [← flag, ← last]
    split
    · obtain ⟨went, flag, last⟩ := Blk.modeGo_shows (b := y) (by omega)
      exact ⟨(at_.trans posted).trans went, flag, last⟩
    · exact ⟨at_.trans posted, rfl, rfl⟩
  · rw [Blk.wakeRequest_quiet asks]
    exact ⟨b.keepsArrival_refl, rfl, rfl⟩

/-! The end of a step as a whole. -/

/-- The domains that a step's target has ON; a wake brings BULK with them. -/
def modeWants (t : ModeTrans) : Nat := if t.wake then modeDomains t.target ||| 128 else modeDomains t.target

/-- PWR at the end of a step, the domains being up. -/
def Blk.modeEnded (b : Blk) (t : ModeTrans) (fabWas up : Bool) : Blk :=
  let told := ((b.modeReached t).fabArrived fabWas).modeTold t.since
  let resumed := told.when (told.domainOn 7) Blk.ergResume
  resumed.when (t.wake && !up) Blk.wakeRequest

/-- SYS has powered up with the step. -/
def Blk.sysCame (b : Blk) (t : ModeTrans) : Bool := !b.domainOn 1 && (b.domainsUp (modeWants t) powerOrder).domainOn 1

theorem Blk.modeTold_keeps (b : Blk) (t : ModeTrans) (fabWas : Bool) :
    (b.modeReached t).keepsArrival (((b.modeReached t).fabArrived fabWas).modeTold t.since) :=
  (Blk.fabArrived_shows _ fabWas).trans (Blk.modeTold_shows _ t.since).1

theorem Blk.domainOn_congr {b b' : Blk} (h : b'.domOn = b.domOn) (d : Nat) : b'.domainOn d = b.domainOn d := by
  unfold Blk.domainOn
  rw [h]

theorem Blk.powered_congr {b b' : Blk} (h : b'.domOn = b.domOn) (page : Nat) : b'.powered page = b.powered page := by
  unfold Blk.powered Blk.domainOn
  rw [h]

theorem Blk.modeDone_eq {b : Blk} {t : ModeTrans} (trans_ : b.power.trans = some t) :
    b.modeDone = (b.sysCame t, (b.domainsUp (modeWants t) powerOrder).modeEnded t (b.domainOn 6) (b.sysCame t)) := by
  have steps : b.modeDone =
      let up := !b.domainOn 1 && (((b.domainsUp (modeWants t) powerOrder).modeReached t).fabArrived (b.domainOn 6) |>.modeTold t.since).domainOn 1
      (up, (b.domainsUp (modeWants t) powerOrder).modeEnded t (b.domainOn 6) up) := by
    unfold Blk.modeDone
    rw [trans_]
    rfl
  have told := ((b.domainsUp (modeWants t) powerOrder).modeTold_keeps t (b.domainOn 6)).dom
  rw [steps, Blk.domainOn_congr told]
  rfl

theorem Blk.modeEnded_shows (b : Blk) (t : ModeTrans) (fabWas up : Bool) :
    (b.modeReached t).keepsArrival (b.modeEnded t fabWas up) ∧ (b.powered Page.PWR = true →
      (b.modeEnded t fabWas up).flag PWR.IRQ_RAW_MODE_DONE = true ∧
      (b.modeEnded t fabWas up).get PWR.TRANS_LAST = b.linesSince t.since % 2 ^ 24) := by
  have fab := (b.modeReached t).fabArrived_shows fabWas
  have on : (b.modeReached t).powered Page.PWR = b.powered Page.PWR := rfl
  have lines : (b.modeReached t).linesSince t.since = b.linesSince t.since := rfl
  unfold Blk.modeEnded
  rw [← on, ← lines]
  generalize b.modeReached t = x0 at fab
  have on := Blk.powered_congr fab.dom Page.PWR
  have lines : (x0.fabArrived fabWas).linesSince t.since = x0.linesSince t.since := by
    unfold Blk.linesSince
    rw [fab.line]
  rw [← on, ← lines]
  generalize x0.fabArrived fabWas = x1 at fab
  obtain ⟨told, shown⟩ := x1.modeTold_shows t.since
  generalize x1.modeTold t.since = x2 at told shown
  have resumed : x2.keepsArrival (x2.when (x2.domainOn 7) Blk.ergResume) ∧ (x2.when (x2.domainOn 7) Blk.ergResume).regs = x2.regs := by
    unfold Blk.when
    split
    · exact x2.ergResume_shows
    · exact ⟨x2.keepsArrival_refl, rfl⟩
  dsimp only
  generalize x2.when (x2.domainOn 7) Blk.ergResume = x3 at resumed
  obtain ⟨resumed, same⟩ := resumed
  have asked : x3.keepsArrival (x3.when (t.wake && !up) Blk.wakeRequest) ∧
      (x3.when (t.wake && !up) Blk.wakeRequest).flag PWR.IRQ_RAW_MODE_DONE = x3.flag PWR.IRQ_RAW_MODE_DONE ∧
      (x3.when (t.wake && !up) Blk.wakeRequest).get PWR.TRANS_LAST = x3.get PWR.TRANS_LAST := by
    unfold Blk.when
    split
    · exact x3.wakeRequest_shows
    · exact ⟨x3.keepsArrival_refl, rfl, rfl⟩
  generalize x3.when (t.wake && !up) Blk.wakeRequest = x4 at asked
  obtain ⟨asked, flag, last⟩ := asked
  refine ⟨((fab.trans told).trans resumed).trans asked, fun powered => ?_⟩
  obtain ⟨raised, counted⟩ := shown powered
  exact ⟨flag.trans ((congrArg (fun v => v != 0) (Blk.get_of_regs_eq same _)).trans raised), last.trans ((Blk.get_of_regs_eq same _).trans counted)⟩

/-- MODE_DONE, in the words of the statement. -/
theorem Blk.modeDone_shows {b done : Blk} {t : ModeTrans} {up : Bool} (trans_ : b.power.trans = some t) (ends : b.modeDone = (up, done)) :
    (up = true ↔ b.domainOn 1 = false ∧ bitAt (modeWants t) 1 = true) ∧ done.power.mode = t.target ∧ done.power.trans = none ∧
    (∀ d, d < 8 → (bitAt (modeWants t) d = true ∨ b.domainOn d = true) → done.domainOn d = true) ∧
    (b.powered Page.PWR = true → done.flag PWR.IRQ_RAW_MODE_DONE = true ∧ done.get PWR.TRANS_LAST = b.linesSince t.since % 2 ^ 24) ∧
    (up = false → b.keepsOtherPages done [Page.PWR] ∧ b.keepsMemory done) := by
  rw [Blk.modeDone_eq trans_, Prod.mk.injEq] at ends
  obtain ⟨came, rfl⟩ := ends
  obtain ⟨up', regs⟩ := Blk.domainsUp_keeps (modeWants t) powerOrder b
  have on := fun d => Blk.domainsUp_on (modeWants t) d powerOrder b
  rw [Blk.sysCame, on 1] at came
  generalize b.domainsUp (modeWants t) powerOrder = x at up' regs on
  obtain ⟨kept, shown⟩ := x.modeEnded_shows t (b.domainOn 6) (b.sysCame t)
  generalize x.modeEnded t (b.domainOn 6) (b.sysCame t) = y at kept shown
  have all : ∀ d < 8, d ∈ powerOrder := by decide
  rw [decide_eq_true (all 1 (by decide)), Bool.true_and] at came
  have ends : up = true ↔ b.domainOn 1 = false ∧ bitAt (modeWants t) 1 = true := by
    rw [← came]
    cases b.domainOn 1 <;> simp
  have dom (d : Nat) : y.domainOn d = x.domainOn d := Blk.domainOn_congr kept.dom d
  have line : x.linesSince t.since = b.linesSince t.since := by
    obtain ⟨_, _, _, _, _, _, rfl⟩ := up'
    rfl
  have memory : b.keepsMemory x := by
    obtain ⟨_, _, _, _, _, _, rfl⟩ := up'
    exact ⟨rfl, rfl, rfl⟩
  refine ⟨ends, kept.mode, kept.trans_, fun d hd h => ?_, fun powered => ?_, fun stays => ⟨?_, memory.trans kept.memory⟩⟩
  · rw [dom, on d, decide_eq_true (all d hd), Bool.true_and, Bool.or_eq_true]
    exact h.symm
  · rw [← line]
    refine shown ((on 1).trans ?_)
    rw [show b.domainOn 1 = true from powered, Bool.true_or]
  · have same : x.regs = b.regs := regs (by
      rw [← came] at stays
      revert stays
      cases b.domainOn 1 <;> simp)
    exact fun k hk => (kept.pages k hk).trans (congrArg (fun r => Tbl.get regReset r k) same)

theorem Blk.reloadTiles_same (b : Blk) : b.reloadTiles b.domOn = b := by
  unfold Blk.reloadTiles
  split
  · rfl
  · cases b.planHere with
    | none => rfl
    | some x =>
      have none_ : x.slices.filter (fun s => match domainOf (tilePage (s.tile % 16)) with
          | some d => b.domainOn d && !bitAt b.domOn d | none => false) = [] := by
        rw [List.filter_eq_nil_iff]
        intro s _
        cases domainOf (tilePage (s.tile % 16)) with
        | none => exact Bool.false_ne_true
        | some d => simp [Blk.domainOn]
      exact congrArg (fun l => List.foldl Blk.loadSlice b l) none_

theorem Node.modeArrived_idle {n : Node} (idle : n.b.power.trans = none) : n.modeArrived = n := by
  have ends : n.b.modeDone = (false, n.b) := by
    unfold Blk.modeDone
    rw [idle]
  have same : n.modeDone = n := by
    unfold Node.modeDone
    rw [ends]
    rfl
  unfold Node.modeArrived
  rw [same]
  exact congrArg (fun b => { n with b := b }) n.b.reloadTiles_same

theorem Node.modeArrived_eq {n : Node} {up : Bool} {done : Blk} (ends : n.b.modeDone = (up, done)) :
    n.modeArrived = (if up then ({ n with b := done } : Node).boot else { n with b := done }).on (fun b => b.reloadTiles n.b.domOn) := by
  unfold Node.modeArrived Node.modeDone
  rw [ends]

/-! ### Wakes -/

/-- Why SYS will power up (spec/16 Table 3). -/
def OasisSt.wakeCause (o : OasisSt) : Nat :=
  if bitAt o.wake 3 && o.supply == 1 then 0 else if bitAt o.wake 3 && o.supply == 2 then 5 else 4

theorem OasisSt.wakeCause_eq (o : OasisSt) :
    o.wakeCause = if bitAt o.wake 3 = true ∧ o.supply = 1 then 0 else if bitAt o.wake 3 = true ∧ o.supply = 2 then 5 else 4 := by
  simp only [OasisSt.wakeCause, Bool.and_eq_true, beq_iff_eq]

/-- The wake as it is recorded. -/
def Blk.wakeRecorded (b : Blk) : Blk :=
  ((b.set OASIS.WAKE_SRC_SRC b.oasis.wake).set OASIS.WAKE_SRC_FROM_MODE b.power.mode).set OASIS.STATUS_POWER_FAIL 0

/-- The same, with the cause for which SYS powers up out of DORMANT. -/
def Blk.wakeMarked (b : Blk) : Blk := b.wakeRecorded.when (b.power.mode == 1) (fun x => x.set OASIS.RESET_CAUSE b.oasis.wakeCause)

/-- The sources are taken up. -/
def Blk.wakeNoted (b : Blk) : Blk := b.wakeMarked.setOasis { b.wakeMarked.oasis with wake := 0, supply := 0 }

theorem Blk.wakeStart_quiet {b : Blk} (h : ¬(b.power.trans = none ∧ b.oasis.wake ≠ 0)) : b.wakeStart = b := by
  refine if_pos ?_
  rw [Bool.or_eq_true, beq_iff_eq, Option.isSome_iff_ne_none]
  by_cases idle : b.power.trans = none
  · exact .inr (not_not.mp fun wake => h ⟨idle, wake⟩)
  · exact .inl idle

theorem Blk.keepsBehind_wakeMarked (b : Blk) : b.keepsBehind b.wakeMarked := by
  have recorded : b.keepsBehind b.wakeRecorded := ((b.keepsBehind_set _ _).set _ _).set _ _
  exact recorded.trans (Blk.keepsBehind_when (Blk.keepsBehind_refl _) (Blk.keepsBehind_set _ _ _))

theorem Blk.wakeNoted_eq (b : Blk) : b.wakeNoted = b.wakeMarked.setOasis { b.oasis with wake := 0, supply := 0 } := by
  rw [Blk.wakeNoted, b.keepsBehind_wakeMarked.proj (·.oasis) (fun _ _ _ _ _ => rfl)]

theorem Blk.wakeNoted_shows (b : Blk) : b.wakeNoted.power = b.power ∧ b.wakeNoted.ep = b.ep := by
  obtain ⟨r, p, q, s, n, marked⟩ := b.keepsBehind_wakeMarked
  rw [b.wakeNoted_eq, marked]
  exact ⟨rfl, rfl⟩

/-- The step of a wake, or Erg's request where it runs already. -/
def Blk.wakeStep (y : Blk) (mode : Nat) : Blk :=
  if mode == 1 || y.power.bulkRet then y.setPower { y.power with trans := some ⟨mode, 2, y.ep.line, true⟩ } else y.wakeRequest

theorem Blk.wakeStart_eq (b : Blk) :
    b.wakeStart = if b.power.trans.isSome || b.oasis.wake == 0 then b
      else if b.power.mode == 1 || b.power.mode == 2 then b.wakeNoted.wakeStep b.power.mode
      else b.setOasis { b.oasis with wake := 0 } := rfl

theorem Blk.wakeStart_wakes {b : Blk} (idle : b.power.trans = none) (wake : b.oasis.wake ≠ 0) :
    b.wakeStart = if b.power.mode = 1 ∨ b.power.mode = 2
      then (if b.power.mode = 1 ∨ b.power.bulkRet = true
        then b.wakeNoted.setPower { b.power with trans := some ⟨b.power.mode, 2, b.ep.line, true⟩ } else b.wakeNoted.wakeRequest)
      else b.setOasis { b.oasis with wake := 0 } := by
  have begins : ¬(b.power.trans.isSome || b.oasis.wake == 0) = true := by simp [idle, wake]
  obtain ⟨power, ep⟩ := b.wakeNoted_shows
  rw [b.wakeStart_eq, if_neg begins, Blk.wakeStep, power, ep]
  simp only [Bool.or_eq_true, beq_iff_eq]

/-- What is recorded of a wake, in the words of the statement. -/
theorem Blk.wakeNoted_words (b : Blk) :
    let o := b.oasis
    let m := b.power.mode
    let why := if bitAt o.wake 3 = true ∧ o.supply = 1 then 0 else if bitAt o.wake 3 = true ∧ o.supply = 2 then 5 else 4
    let recorded := ((b.set OASIS.WAKE_SRC_SRC o.wake).set OASIS.WAKE_SRC_FROM_MODE m).set OASIS.STATUS_POWER_FAIL 0
    b.wakeNoted = (if m = 1 then recorded.set OASIS.RESET_CAUSE why else recorded).setOasis { o with wake := 0, supply := 0 } := by
  intro o m why recorded
  rw [b.wakeNoted_eq, Blk.wakeMarked, b.oasis.wakeCause_eq, Blk.when]
  simp only [beq_iff_eq]
  rfl

/-! ### The supply, rails, temperature -/

/-- A rail's undervoltage, before its report. -/
def Blk.railNoted (b : Blk) (d : Nat) : Blk :=
  ((b.set PWR.RAIL_UV (b.get PWR.RAIL_UV ||| 2 ^ d)).raise PWR.IRQ_RAW_RAIL_UV).captureOwnFree Page.PWR pwRailUv

theorem Blk.railLow_low {b : Blk} {d : Nat} (hd : d < 8) (on : b.domainOn d = true) (pwr : b.powered Page.PWR = true) :
    b.railLow d = (b.railNoted d).report 0x0B Page.PWR :=
  if_pos (by rw [decide_eq_true hd, on, pwr]; rfl)

theorem Blk.railNoted_shows (b : Blk) {d : Nat} (hd : d < 8) :
    (b.railNoted d).get PWR.RAIL_UV = (b.get PWR.RAIL_UV ||| 2 ^ d) ∧ (b.railNoted d).flag PWR.IRQ_RAW_RAIL_UV = true ∧
    b.keepsBesideLog (b.railNoted d) ∧ b.keepsOtherPages (b.railNoted d) [Page.PWR] := by
  have fits : b.get PWR.RAIL_UV ||| 2 ^ d < 2 ^ 8 := Nat.or_lt_two_pow (b.get_lt PWR.RAIL_UV) (Nat.pow_lt_pow_right (by decide) hd)
  have marked : (b.set PWR.RAIL_UV (b.get PWR.RAIL_UV ||| 2 ^ d)).get PWR.RAIL_UV = _ := b.get_set_same PWR.RAIL_UV _ (by unfold Fld.fits; decide)
  have pages : b.keepsOtherPages (b.set PWR.RAIL_UV (b.get PWR.RAIL_UV ||| 2 ^ d)) [Page.PWR] := (b.keepsOtherPages_refl _).set _ (by decide)
  have beside : b.keepsBesideLog (b.set PWR.RAIL_UV (b.get PWR.RAIL_UV ||| 2 ^ d)) := b.keepsBesideLog_set _ _
  rw [show 2 ^ PWR.RAIL_UV.w = 2 ^ 8 from rfl, Nat.mod_eq_of_lt fits] at marked
  unfold Blk.railNoted
  generalize b.set PWR.RAIL_UV (b.get PWR.RAIL_UV ||| 2 ^ d) = x at marked pages beside
  have kept : x.keepsRegs ((x.raise PWR.IRQ_RAW_RAIL_UV).captureOwnFree Page.PWR pwRailUv) (captureKeys Page.PWR) :=
    ((x.keepsRegs_refl _).set (f := PWR.IRQ_RAW_RAIL_UV) 1 (by decide)).trans (Blk.keepsRegs_captureOwnFree _ Page.PWR pwRailUv)
  refine ⟨(kept.get (by decide)).trans marked, ?_, beside.trans ((x.keepsBesideLog_set _ 1).trans (Blk.keepsBesideLog_captureFree _ _ _ _)), pages.trans (kept.otherPages (by decide))⟩
  exact (Blk.flag_captureOwnFree_hIrq _ Page.PWR pwRailUv (bit := 2) (by decide)).trans
    (x.flag_raise_same PWR.IRQ_RAW_RAIL_UV (by unfold Fld.fits; decide) (by decide))

/-- A report after what is noted of a fault. -/
theorem Blk.report_noted {b c : Blk} (cause page : Nat) (kept : b.keepsBesideLog c) :
    (∀ k, (c.report cause page).word k = c.word k) ∧ (c.report cause page).reports = b.reports ++ [⟨cause, page, false, 0xFF⟩] ∧
    (c.report cause page).domOn = b.domOn ∧ b.keepsMemory (c.report cause page) := by
  obtain ⟨r, t, n, rfl⟩ := kept
  exact ⟨fun _ => rfl, rfl, rfl, ⟨rfl, rfl, rfl⟩⟩

/-- A rail's undervoltage as it shows. -/
theorem Blk.railLow_shows {b : Blk} {d : Nat} (hd : d < 8) (on : b.domainOn d = true) (pwr : b.powered Page.PWR = true) :
    ∃ x : Blk, b.railLow d = x ∧ x.get PWR.RAIL_UV = (b.get PWR.RAIL_UV ||| 2 ^ d) ∧ x.flag PWR.IRQ_RAW_RAIL_UV = true ∧
      x.reports = b.reports ++ [⟨0x0B, Page.PWR, false, 0xFF⟩] ∧ x.domOn = b.domOn ∧ b.keepsOtherPages x [Page.PWR] ∧ b.keepsMemory x := by
  obtain ⟨marked, raised, beside, pages⟩ := b.railNoted_shows hd
  obtain ⟨words, told⟩ := Blk.report_noted 0x0B Page.PWR beside
  obtain ⟨reports, dom, memory⟩ := told
  exact ⟨_, Blk.railLow_low hd on pwr, (Blk.get_of_word_eq (words _)).trans marked,
    (congrArg (fun v => v != 0) (Blk.get_of_word_eq (words _))).trans raised, reports, dom, fun k hk => (words k).trans (pages k hk), memory⟩

theorem Blk.supplyGood_eq (b : Blk) :
    let good := b.powered Page.OASIS = true ∧ ticksPerSec ≤ b.oasis.good ∧ b.oasis.supply ≠ 0
    (¬good → b.supplyGood = b) ∧
    (good → b.supplyGood = (if b.oasis.supply = 1 then b.setOasis { b.oasis with wake := b.oasis.wake ||| 8 } else b.wakeSource 3).wakeStart) := by
  intro good
  have test : (b.powered Page.OASIS && decide (ticksPerSec ≤ b.oasis.good) && b.oasis.supply != 0) = true ↔ good := by
    simp only [good, Bool.and_eq_true, decide_eq_true_eq, bne_iff_ne, and_assoc]
  refine ⟨fun h => if_neg (mt test.mp h), fun h => (if_pos (test.mpr h)).trans ?_⟩
  simp only [beq_iff_eq]

theorem Blk.powerFailShutdown_eq (b : Blk) :
    let down := match b.power.trans with | some t => t.target ≤ 1 | none => b.power.mode ≤ 1
    let fails := b.powered Page.OASIS = true ∧ b.flag OASIS.STATUS_POWER_FAIL = true ∧ ¬down
    (¬fails → b.powerFailShutdown = b) ∧
    (fails → b.powerFailShutdown = (b.setPower { b.power with trans := none }).startStep 1 2) := by
  intro down fails
  have test : (b.powered Page.OASIS && b.flag OASIS.STATUS_POWER_FAIL &&
      !(match b.power.trans with | some t => decide (t.target ≤ 1) | none => decide (b.power.mode ≤ 1))) = true ↔ fails := by
    simp only [fails, down]
    cases b.power.trans <;> simp [and_assoc]
  exact ⟨fun h => if_neg (mt test.mp h), fun h => if_pos (test.mpr h)⟩

theorem Blk.oasisLoss_on {b : Blk} (on : b.powered Page.OASIS = true) :
    let dark := b.each powerOrder.reverse Blk.domainOff
    b.oasisLoss = { dark with power := { noPower with mode := 0 }, bulk := noBulk, tally := ⟨0, false, 0, dark.tally.stored⟩ } :=
  if_neg (by rw [on]; decide)

/-- The supply, rails and temperature part of O49. -/
theorem supplyMovesTheMode (s : State) :
    let good := s.blk.powered Page.OASIS = true ∧ ticksPerSec ≤ s.blk.oasis.good ∧ s.blk.oasis.supply ≠ 0
    let down := match s.blk.power.trans with | some t => t.target ≤ 1 | none => s.blk.power.mode ≤ 1
    let fails := s.blk.powered Page.OASIS = true ∧ s.blk.flag OASIS.STATUS_POWER_FAIL = true ∧ ¬down
    let dark := s.blk.each powerOrder.reverse Blk.domainOff
    (¬good → exec .supplyGood s = .next s) ∧
    (good → exec .supplyGood s = .next (s.withBlk (if s.blk.oasis.supply = 1
      then s.blk.setOasis { s.blk.oasis with wake := s.blk.oasis.wake ||| 8 } else s.blk.wakeSource 3).wakeStart)) ∧
    (¬fails → exec .powerFailShutdown s = .next s) ∧
    (fails → exec .powerFailShutdown s = .next (s.withBlk ((s.blk.setPower { s.blk.power with trans := none }).startStep 1 2))) ∧
    (s.blk.powered Page.OASIS = false → exec .oasisPowerLoss s = .next s) ∧
    (s.blk.powered Page.OASIS = true → exec .oasisPowerLoss s = .next (s.withBlk
      { dark with power := { noPower with mode := 0 }, bulk := noBulk, tally := ⟨0, false, 0, dark.tally.stored⟩ })) ∧
    (¬(s.blk.power.mode = 0 ∧ s.blk.powered Page.OASIS = false) → exec .powerOn s = .next s) ∧
    (s.blk.power.mode = 0 → s.blk.powered Page.OASIS = false →
      completes .powerOn s (fun t => t.blk.domOn = 1 ∧ t.blk.power.mode = 1 ∧ t.blk.oasis = noOasis ∧ t.node.otp = s.node.otp ∧
        t.blk = { s.blk.resetPages .cold true (fun _ => true) with domOn := 1, power := noPower, oasis := noOasis })) ∧
    (¬(4 ≤ s.blk.power.hot ∧ 2 < s.blk.power.mode) → exec .thermalTrip s = .next s) ∧
    (4 ≤ s.blk.power.hot → 2 < s.blk.power.mode →
      exec .thermalTrip s = .next (s.withBlk (((s.blk.report 0x0C Page.SEN).setPower
        { s.blk.power with step := some 2, hot := 0 }).tallyFault 0x4001))) := by
  intro good down fails dark
  obtain ⟨bad, supplied⟩ := s.blk.supplyGood_eq
  obtain ⟨holds, fell⟩ := s.blk.powerFailShutdown_eq
  refine ⟨fun h => exec_blk_same (f := Blk.supplyGood) rfl rfl (bad h), fun h => exec_blk (f := Blk.supplyGood) rfl rfl (supplied h),
    fun h => exec_blk_same (f := Blk.powerFailShutdown) rfl rfl (holds h), fun h => exec_blk (f := Blk.powerFailShutdown) rfl rfl (fell h),
    fun off => exec_blk_same (f := Blk.oasisLoss) rfl rfl (if_pos (by rw [off]; rfl)),
    fun on => exec_blk (f := Blk.oasisLoss) rfl rfl (Blk.oasisLoss_on on), fun h => exec_blk_same (f := Blk.powerOn) rfl rfl (if_pos ?_),
    fun mode off => completes_of_blk (f := Blk.powerOn) rfl rfl (if_neg ?_) ⟨rfl, rfl, rfl, rfl, rfl⟩,
    fun h => exec_blk_same (f := Blk.thermalTrip) rfl rfl (if_neg ?_), fun hot mode => exec_blk (f := Blk.thermalTrip) rfl rfl (if_pos ?_)⟩
  · rw [Bool.or_eq_true, bne_iff_ne]
    by_cases mode : s.blk.power.mode = 0
    · exact .inr (Bool.not_eq_false _ ▸ fun off => h ⟨mode, off⟩)
    · exact .inl mode
  · rw [mode, off]
    decide
  · rw [Bool.and_eq_true, decide_eq_true_eq, decide_eq_true_eq]
    exact h
  · rw [decide_eq_true hot, decide_eq_true mode]
    rfl

/-- Settles O49: requests by `modeGo_eq`, steps by `startStep_below` and `modeDone_shows`, wakes by `wakeStart_wakes`. -/
theorem nodesStepBetweenPowerModes : Obligations.NodesStepBetweenPowerModes := by
  unfold Obligations.NodesStepBetweenPowerModes
  refine ⟨fun s a target fmode ha ht hf hg => ?_, fun b => ?_, fun s => ?_, fun b fmode => ?_, fun s idle => ?_, fun s t up done trans_ ends => ?_,
    fun s => ?_, fun b => ?_, supplyMovesTheMode, fun s d hd => ?_⟩
  · intro posted
    have word : (BitVec.ofNat 32 (target + 16 * fmode + 2 ^ 31)).toNat = target + 16 * fmode + 2 ^ 31 := by
      rw [BitVec.toNat_ofNat]
      exact Nat.mod_eq_of_lt (by omega)
    have en : posted.flag (hEn Page.PWR) = s.blk.flag (hEn Page.PWR) := (s.blk.keepsRegs_modePosted target fmode).flag (by decide)
    have written := s.node.writeReg_block a _ (by decide) hg
    rw [Blk.writeBlock_pwr, word, Blk.writeModeReq_word _ ht hf] at written
    rw [← en]
    exact exec_next (f := fun n => n.writeReg a Page.PWR 0x040 true (BitVec.ofNat 32 (target + 16 * fmode + 2 ^ 31))) rfl
      (by show (agentOk a && decide (target < 8) && decide (fmode < 4)) = true; rw [ha, decide_eq_true ht, decide_eq_true hf]; rfl) written
  · intro target fmode atF code unknown noted taken
    obtain ⟨wrong, same, others⟩ := b.modeRefusal_cases target fmode atF
    refine ⟨wrong, same, others, fun accepted => ?_, fun refused => b.modeGo_eq.trans (if_neg refused)⟩
    refine (b.modeGo_eq.trans (if_pos accepted)).trans ?_
    unfold Blk.when
    simp only [Bool.and_eq_true, decide_eq_true_eq]
    rfl
  · intro steps
    exact ⟨fun h => exec_blk_same (f := Blk.modeStep) rfl rfl (Blk.modeStep_busy h),
      fun target idle step => exec_blk (f := Blk.modeStep) rfl rfl (Blk.modeStep_step idle step),
      fun r idle step request => exec_blk (f := Blk.modeStep) rfl rfl (Blk.modeStep_request idle step request)⟩
  · intro starts out front
    refine ⟨b.startStep_run fmode, b.startStep_watch fmode, b.startStep_standby fmode, b.startStep_dormant fmode, fun m => ⟨fun h => ?_, fun h => ?_⟩⟩
    · exact if_pos (beq_iff_eq.mpr h)
    · exact if_neg (by simpa using h)
  · exact exec_same (f := Node.modeArrived) rfl rfl (Node.modeArrived_idle idle)
  · intro want
    obtain ⟨came, mode, none_, doms, told, kept⟩ := Blk.modeDone_shows trans_ ends
    have arrived := s.node.modeArrived_eq ends
    refine ⟨came, mode, none_, doms, told, fun stays => ?_, fun rises => ?_⟩
    · obtain ⟨pages, memory⟩ := kept stays
      rw [stays] at arrived
      exact ⟨pages, memory.node, exec_next (f := Node.modeArrived) rfl rfl arrived⟩
    · rw [rises] at arrived
      exact exec_next (f := Node.modeArrived) rfl rfl arrived
  · intro o m why recorded noted wakes
    refine ⟨fun h => exec_blk_same (f := Blk.wakeStart) rfl rfl (Blk.wakeStart_quiet h), fun h mode => ?_, fun h dormant standby => ?_⟩
    · have wakes := (Blk.wakeStart_wakes h.1 h.2).trans (if_pos mode)
      rw [s.blk.wakeNoted_words] at wakes
      exact exec_blk (f := Blk.wakeStart) rfl rfl wakes
    · exact exec_blk (f := Blk.wakeStart) rfl rfl ((Blk.wakeStart_wakes h.1 h.2).trans (if_neg (by rintro (h | h) <;> contradiction)))
  · exact ⟨Blk.wakeRequest_quiet, Blk.wakeRequest_asks⟩
  · intro low
    have wf : decide (d < 8) = true := decide_eq_true hd
    refine ⟨fun h => exec_blk_same (f := fun b => b.railLow d) rfl wf (if_neg ?_), fun ⟨on, pwr⟩ => ?_⟩
    · rw [decide_eq_true hd, Bool.true_and, Bool.and_eq_true]
      exact h
    · obtain ⟨x, noted, marked, raised, reports, dom, pages, memory⟩ := Blk.railLow_shows hd on pwr
      exact completes_of_blk (f := fun b => b.railLow d) rfl wf noted ⟨marked, raised, reports, dom, pages, memory.node⟩

end Sys2Proof.Machine
end

section
/-! PROOFS. The safety monitor's causes and its reset (spec/20 R501 to R506). -/

namespace Sys2Proof.Machine

theorem insertReport_perm (r : SafeReport) (l : List SafeReport) : (insertReport r l).Perm (r :: l) := by
  induction l with
  | nil => exact .refl _
  | cons x l ih =>
    unfold insertReport
    split
    · exact .refl _
    · exact (ih.cons x).trans (.swap r x l)

theorem insertReport_sorted (r : SafeReport) {l : List SafeReport} (sorted : l.Pairwise (fun x y => x.cause ≤ y.cause)) :
    (insertReport r l).Pairwise (fun x y => x.cause ≤ y.cause) := by
  induction l with
  | nil => exact List.pairwise_singleton _ r
  | cons x l ih =>
    obtain ⟨least, rest⟩ := List.pairwise_cons.mp sorted
    unfold insertReport
    split
    case isTrue before =>
      refine List.pairwise_cons.mpr ⟨fun y hy => ?_, sorted⟩
      obtain rfl | hy := List.mem_cons.mp hy
      · exact Nat.le_of_lt before
      · exact (Nat.le_of_lt before).trans (least y hy)
    case isFalse after =>
      refine List.pairwise_cons.mpr ⟨fun y hy => ?_, ih rest⟩
      obtain rfl | hy := List.mem_cons.mp ((insertReport_perm r l).mem_iff.mp hy)
      · exact Nat.le_of_not_lt after
      · exact least y hy

theorem sortedReports_perm (rs acc : List SafeReport) : (rs.foldl (fun acc r => insertReport r acc) acc).Perm (rs ++ acc) := by
  induction rs generalizing acc with
  | nil => exact .refl _
  | cons r rs ih => exact (ih (insertReport r acc)).trans (((insertReport_perm r acc).append_left rs).trans List.perm_middle)

theorem sortedReports_sorted (rs : List SafeReport) {acc : List SafeReport} (sorted : acc.Pairwise (fun x y => x.cause ≤ y.cause)) :
    (rs.foldl (fun acc r => insertReport r acc) acc).Pairwise (fun x y => x.cause ≤ y.cause) := by
  induction rs generalizing acc with
  | nil => exact sorted
  | cons r rs ih => exact ih (insertReport_sorted r sorted)

/-- The fields that show the causes in force, written. -/
def Blk.markCauses (b : Blk) (active forced any : Nat) : Blk :=
  ((b.set SAFE.CAUSE_ACTIVE active).set SAFE.CAUSE_FORCED forced).set SAFE.STATUS_FORCED_ACTIVE any

theorem Blk.markCauses_shows (b : Blk) {active : Nat} (forced any : Nat) (fits : active < 2 ^ 17) :
    (b.markCauses active forced any).sstate = b.sstate ∧ (b.markCauses active forced any).get SAFE.CAUSE_ACTIVE = active := by
  unfold Blk.markCauses Blk.sstate
  constructor
  · rw [Blk.get_set_apart _ _ _ _ (by unfold Fld.fits; decide) (by unfold Fld.apart; decide),
      Blk.get_set_apart _ _ _ _ (by unfold Fld.fits; decide) (by unfold Fld.apart; decide),
      Blk.get_set_apart _ _ _ _ (by unfold Fld.fits; decide) (by unfold Fld.apart; decide)]
  · rw [Blk.get_set_apart _ _ _ _ (by unfold Fld.fits; decide) (by unfold Fld.apart; decide),
      Blk.get_set_apart _ _ _ _ (by unfold Fld.fits; decide) (by unfold Fld.apart; decide),
      Blk.get_set_same _ _ _ (by unfold Fld.fits; decide)]
    exact Nat.mod_eq_of_lt fits

theorem Blk.setCauses_shows (b : Blk) (cs : List SafeCause) :
    (b.setCauses cs).sstate = b.sstate ∧ (b.setCauses cs).get SAFE.CAUSE_ACTIVE = maskOf 17 (fun i => cs.any (fun c => c.code == i + 1)) :=
  (b.setSafe { b.safe with causes := cs }).markCauses_shows _ _ (maskOf_lt 17 _)

theorem Blk.causeOn_new {b : Blk} {code : Nat} (page : Nat) (forced : Bool) (tile : Nat) (fresh : b.safe.causes.all (fun c => c.code != code) = true)
    (out : b.sstate ≠ ssSafe) :
    b.causeOn code page forced tile = (b.setCauses (b.safe.causes ++ [⟨code, page, forced, tile, b.ep.line, 0, true⟩])).enterSafe
      ⟨code, page, forced, tile, b.ep.line, 0, true⟩ := by
  have none_ : b.safe.causes.findIdx? (fun c => c.code == code) = none := by
    rw [List.findIdx?_eq_none_iff]
    intro c hc
    simpa using List.all_eq_true.mp fresh c hc
  unfold Blk.causeOn
  rw [none_]
  refine if_pos ?_
  rw [(b.setCauses_shows _).1]
  simpa using out

/-- A kind-R cause is past WARM_DELAY. -/
def Blk.safetyDue (b : Blk) (c : SafeCause) : Bool := c.kind == .r && decide (b.get SAFE.SAFE_CTRL_WARM_DELAY ≤ b.linesSince c.since)

theorem Node.safetyReset_quiet {n : Node} (none_ : n.b.safe.causes.find? n.b.safetyDue = none) : n.safetyReset = n := by
  have quiet : n.b.safetyReset = (false, n.b) := by
    unfold Blk.safetyReset
    extract_lets due
    rw [show n.b.safe.causes.find? due = none from none_]
  unfold Node.safetyReset
  rw [quiet]
  rfl

theorem Blk.safetyReset_found {b : Blk} {c : SafeCause} (found : b.safe.causes.find? b.safetyDue = some c) :
    b.safetyReset = if b.get SAFE.SAFE_CTRL_RESET_MAX ≤ b.get SAFE.SAFETY_RESETS then (false, b.raise SAFE.IRQ_RAW_RESET_HELD)
      else (true, (b.bumpSat SAFE.SAFETY_RESETS).safeLog ⟨c.code, Page.PWR, c.forced, false, 0xFF, coordNat b.now⟩) := by
  unfold Blk.safetyReset
  extract_lets due
  rw [show b.safe.causes.find? due = some c from found]

theorem Node.safetyReset_held {n : Node} {c : SafeCause} (found : n.b.safe.causes.find? n.b.safetyDue = some c)
    (held : n.b.get SAFE.SAFE_CTRL_RESET_MAX ≤ n.b.get SAFE.SAFETY_RESETS) :
    n.safetyReset = { n with b := n.b.raise SAFE.IRQ_RAW_RESET_HELD } := by
  unfold Node.safetyReset
  rw [Blk.safetyReset_found found, if_pos held]
  rfl

theorem Node.safetyReset_now {n : Node} {c : SafeCause} (found : n.b.safe.causes.find? n.b.safetyDue = some c)
    (below : n.b.get SAFE.SAFETY_RESETS < n.b.get SAFE.SAFE_CTRL_RESET_MAX) :
    n.safetyReset = (n.on (fun b => (b.bumpSat SAFE.SAFETY_RESETS).safeLog
      ⟨c.code, Page.PWR, c.forced, false, 0xFF, coordNat n.b.now⟩)).warmReset 3 true := by
  unfold Node.safetyReset
  rw [Blk.safetyReset_found found, if_neg (by omega)]
  rfl

/-- Settles O57. -/
theorem safetyCausesEnterSafeAndReset : Obligations.SafetyCausesEnterSafeAndReset := by
  unfold Obligations.SafetyCausesEnterSafeAndReset
  refine ⟨fun s => ?_, fun b code page tile forced fresh out => ?_, fun b x hx => ?_, fun s => ?_⟩
  · intro sorted emptied
    refine ⟨fun on => exec_blk (f := Blk.causesActive) rfl rfl (if_pos on), fun off => exec_blk (f := Blk.causesActive) rfl rfl (if_neg ?_),
      sortedReports_sorted _ .nil, ?_⟩
    · exact fun on => absurd (off.symm.trans on) (by decide)
    · exact (sortedReports_perm s.blk.reports []).trans (by rw [List.append_nil])
  · intro c
    refine ⟨Blk.causeOn_new page forced tile fresh out, rfl, ?_⟩
    by_cases inside : code = 0 ∨ 17 < code
    · exact inside.imp_right .inl
    · refine .inr (.inr ?_)
      rw [(b.setCauses_shows _).2, bitAt_eq_testBit, testBit_maskOf _ (by omega), List.any_append, Bool.or_eq_true]
      exact .inr (by simp [c]; omega)
  · have state : ((b.set SAFE.STATUS_SSTATE x).set SAFE.STATUS_SAFE_N_OPEN (bitNat (x == ssWatching))).get SAFE.STATUS_SSTATE = x := by
      rw [Blk.get_set_apart _ _ _ _ (by unfold Fld.fits; decide) (by unfold Fld.apart; decide), Blk.get_set_same _ _ _ (by unfold Fld.fits; decide)]
      exact Nat.mod_eq_of_lt hx
    have open_ := (b.set SAFE.STATUS_SSTATE x).get_set_same SAFE.STATUS_SAFE_N_OPEN (bitNat (x == ssWatching)) (by unfold Fld.fits; decide)
    refine ⟨state, ?_⟩
    rw [Blk.flag, show (b.setSstate x).get SAFE.STATUS_SAFE_N_OPEN = _ from open_]
    by_cases watching : x = ssWatching <;> simp [watching, bitNat, SAFE.STATUS_SAFE_N_OPEN]
  · intro due
    exact ⟨fun none_ => exec_same (f := Node.safetyReset) rfl rfl (Node.safetyReset_quiet none_),
      fun c found held => exec_next (f := Node.safetyReset) rfl rfl (Node.safetyReset_held found held),
      fun c found below => exec_next (f := Node.safetyReset) rfl rfl (Node.safetyReset_now found below)⟩

end Sys2Proof.Machine
end

section
/-! PROOFS. The return authorisation and the test pads (spec/19 R492, R493). -/

namespace Sys2Proof.Machine

/-- A MODOM key that the array holds has signed the authorisation. -/
def Node.rtnSigned (n : Node) (auth : List Byte) : Bool :=
  (modomKeys n.otp).any (fun k => ecdsaOk (Config.modomKey k) (auth.take 160) (beNat ((auth.drop 160).take 48)) (beNat ((auth.drop 208).take 48)))

/-- The authorisation names this unit. -/
def Node.rtnOurs (n : Node) (auth : List Byte) : Prop :=
  leAt auth 4 4 = (otpData (otpWord n.otp wUnitId)).toNat ∧ leAt auth 8 4 = (otpData (otpWord n.otp (wUnitId + 1))).toNat

theorem Node.returnCode_zero (n : Node) (auth : List Byte) :
    n.returnCode auth = 0 ↔ lifeState n.otp = lcField ∧ leAt auth 0 4 = 0x52544E52 ∧ n.rtnOurs auth ∧ n.rtnSigned auth = true ∧
      n.b.flag OASIS.STATUS_PRES_WINDOW = true := by
  have ours : (leAt auth 4 4 != (otpData (otpWord n.otp wUnitId)).toNat || leAt auth 8 4 != (otpData (otpWord n.otp (wUnitId + 1))).toNat) = true ↔
      ¬n.rtnOurs auth := by
    rw [Node.rtnOurs, Bool.or_eq_true, bne_iff_ne, bne_iff_ne, not_and_or]
  have code : n.returnCode auth = if lifeState n.otp != lcField then 5 else if leAt auth 0 4 != 0x52544E52 then 1
      else if leAt auth 4 4 != (otpData (otpWord n.otp wUnitId)).toNat || leAt auth 8 4 != (otpData (otpWord n.otp (wUnitId + 1))).toNat then 2
      else if !n.rtnSigned auth then 3 else if !n.b.flag OASIS.STATUS_PRES_WINDOW then 4 else 0 := rfl
  rw [code]
  by_cases field : lifeState n.otp = lcField
  case neg => rw [if_pos (by simpa using field)]; exact ⟨fun h => absurd h (by decide), fun h => absurd h.1 field⟩
  rw [if_neg (by simpa using field)]
  by_cases magic : leAt auth 0 4 = 0x52544E52
  case neg => rw [if_pos (by simpa using magic)]; exact ⟨fun h => absurd h (by decide), fun h => absurd h.2.1 magic⟩
  rw [if_neg (by simpa using magic)]
  by_cases unit : n.rtnOurs auth
  case neg => rw [if_pos (ours.mpr unit)]; exact ⟨fun h => absurd h (by decide), fun h => absurd h.2.2.1 unit⟩
  rw [if_neg (mt ours.mp (not_not.mpr unit))]
  cases n.rtnSigned auth <;> cases n.b.flag OASIS.STATUS_PRES_WINDOW <;> simp [field, magic, unit]

theorem Node.returnReq_refused {n : Node} {auth : List Byte} {env : BurnEnv} (on : n.b.powered Page.LIFE = true) :
    let loaded := n.on (fun b => ((b.set LIFE.RTN_STATUS_LOADED 1).set LIFE.RTN_STATUS_ACCEPTED 0).raise LIFE.IRQ_RAW_RTN_REQ)
    let code := loaded.returnCode auth
    n.returnReq auth env = if code ≠ 0
      then loaded.on (fun b => ((b.set LIFE.RTN_STATUS_CODE code).raise LIFE.IRQ_RAW_RTN_BAD).captureOwnFree Page.LIFE 1)
      else ((loaded.on (fun b => (b.set LIFE.RTN_STATUS_CODE 0).set LIFE.RTN_STATUS_ACCEPTED 1)).lcAdvance lcReturn env).2 := by
  intro loaded code
  unfold Node.returnReq
  rw [on, if_neg (by decide)]
  simp only [← bne_iff_ne (b := 0)]
  rfl

theorem Node.debugOpen_iff (n : Node) :
    n.debugOpen = true ↔ n.b.flag FUSE.LOCK_DEBUG = false ∧
      (lifeState n.otp = lcRaw ∨ lifeState n.otp = lcMaker ∨ lifeState n.otp = lcReturn ∧ otpSet n.otp wClean = true) := by
  simp only [Node.debugOpen, Bool.and_eq_true, Bool.not_eq_true', Bool.or_eq_true, beq_iff_eq, or_assoc]

/-- Settles O56: the conditions by `returnCode_zero`, the gate by `debugOpen_iff`. -/
theorem returnAndTestPadsKeepTheirGates : Obligations.ReturnAndTestPadsKeepTheirGates := by
  unfold Obligations.ReturnAndTestPadsKeepTheirGates
  refine ⟨fun s auth env len off => ?_, fun s auth env len on => ?_, fun n auth => ⟨n.returnCode_zero auth, fun h => if_pos (by simpa using h)⟩,
    fun s bits pins shifted => ?_, fun s => ⟨fun r wf shut => ?_, fun w hw opened => ?_, fun opened => ?_⟩, Node.debugOpen_iff⟩
  · exact exec_same (f := fun n => n.returnReq auth env) rfl (beq_iff_eq.mpr len) (if_pos (by rw [show s.node.b.powered Page.LIFE = false from off]; rfl))
  · intro loaded code
    have req := Node.returnReq_refused (n := s.node) (auth := auth) (env := env) on
    exact ⟨fun bad => exec_next (f := fun n => n.returnReq auth env) rfl (beq_iff_eq.mpr len) (req.trans (if_pos bad)),
      fun good => exec_next (f := fun n => n.returnReq auth env) rfl (beq_iff_eq.mpr len) (req.trans (if_neg (not_not.mpr good)))⟩
  · intro shown
    refine ⟨exec_blk (f := fun b => b.jtagBypass bits) rfl rfl rfl, exec_blk (f := fun b => b.jtagSample pins shifted) rfl rfl rfl,
      exec_blk (f := fun b => b.jtagExtest pins shifted) rfl rfl rfl, fun a => exec_blk (f := Blk.jtagIdcode) rfl rfl ?_,
      fun other => exec_blk (f := Blk.jtagIdcode) rfl rfl ?_⟩
    · rw [Blk.jtagIdcode, idcode, a]
      rfl
    · rw [Blk.jtagIdcode, idcode, if_neg (by simpa using other)]
  · exact exec_next (f := fun n => n.debugAccess r) rfl wf (if_pos (by rw [shut]; rfl))
  · have served : s.node.debugAccess (.otpWord w) = s.node.on (fun b => b.emit (.testPads (some
        (if isSecretWord w && s.node.b.flag FUSE.LOCK_SECRET then 0 else (otpWord s.node.otp w).toNat)))) := if_neg (by rw [opened]; decide)
    simp only [Bool.and_eq_true] at served
    exact exec_next (f := fun n => n.debugAccess (.otpWord w)) rfl (decide_eq_true hw) served
  · exact exec_next (f := fun n => n.debugAccess .other) rfl rfl (if_neg (by rw [opened]; decide))

end Sys2Proof.Machine
end

section
/-! PROOFS. Kernels of the Erg cores (spec/18 R469 to R471). -/

namespace Sys2Proof.Machine

/-- A core without a kernel makes no call. -/
theorem Blk.kernelCharge_none {b : Blk} {core : Nat} (none_ : b.kernel core = none) (cost : Nat) (f : Blk → KernelRun → Blk) :
    b.kernelCharge core cost f = b := by
  unfold Blk.kernelCharge
  rw [none_]

theorem Blk.kernelEnd_none {b : Blk} {core : Nat} (none_ : b.kernel core = none) (detail : Nat) : b.kernelEnd core detail = b := by
  unfold Blk.kernelEnd
  rw [none_]

theorem Blk.kernelBudget_none {b : Blk} {core : Nat} (none_ : b.kernel core = none) : b.kernelBudget core = b := by
  unfold Blk.kernelBudget
  rw [none_]
  rfl

/-- A call's cost, taken from the budget. -/
def Blk.kernelPaid (b : Blk) (core cost : Nat) : Blk := b.set (CORE.KBUDGET core) (b.get (CORE.KBUDGET core) - cost)

theorem Blk.kernelCharge_spent {b : Blk} {core cost : Nat} {k : KernelRun} (runs : b.kernel core = some k) (spent : b.get (CORE.KBUDGET core) ≤ cost)
    (f : Blk → KernelRun → Blk) : b.kernelCharge core cost f = (b.kernelPaid core cost).kernelEnd core 0x42 := by
  unfold Blk.kernelCharge
  rw [runs]
  exact if_pos (by simp; omega)

theorem Blk.kernelCharge_left {b : Blk} {core cost : Nat} {k : KernelRun} (runs : b.kernel core = some k) (left : cost < b.get (CORE.KBUDGET core))
    (f : Blk → KernelRun → Blk) : b.kernelCharge core cost f = f (b.kernelPaid core cost) k := by
  unfold Blk.kernelCharge
  rw [runs]
  exact if_neg (by simp; omega)

/-- What EMIT does once it is charged. -/
theorem Blk.kernelEmit_left {b : Blk} {core : Nat} {k : KernelRun} (w off : Nat) (target : Option Nat) (runs : b.kernel core = some k)
    (left : 2000 < b.get (CORE.KBUDGET core)) :
    let paid := b.kernelPaid core 2000
    let at_ := (k.window w).1 + off
    (k.reach w off 16 0 = false → b.kernelEmit core w off target = paid.kernelEnd core 0x41) ∧
    (∀ c h b1, k.reach w off 16 0 = true → paid.bulkRead 1 at_ 16 = (c, h, b1) →
      (k.reach w off (leAt h 2 2 * 8) 0 = false → b.kernelEmit core w off target = b1.kernelEnd core 0x41) ∧
      (∀ c2 i b2, k.reach w off (leAt h 2 2 * 8) 0 = true → b1.bulkRead 1 at_ (leAt h 2 2 * 8) = (c2, i, b2) →
        (c ≠ 0 ∨ c2 ≠ 0 → b.kernelEmit core w off target = b2.kernelEnd core 0x41) ∧
        (c = 0 → c2 = 0 → b.kernelEmit core w off target = b2.setKernel core (some { k with emitted := k.emitted ++ [(target, i)] })))) := by
  intro paid at_
  rw [Blk.kernelEmit, Blk.kernelCharge_left runs left]
  refine ⟨fun out => ?_, fun c h b1 head read => ⟨fun out => ?_, fun c2 i b2 whole read2 => ⟨fun bad => ?_, fun good good2 => ?_⟩⟩⟩ <;> dsimp only
  · exact if_pos (by rw [out]; rfl)
  · rw [head, if_neg (by decide), show (b.kernelPaid core 2000).bulkRead 1 ((k.window w).1 + off) 16 = (c, h, b1) from read]
    exact if_pos (by dsimp only; rw [out]; rfl)
  · rw [head, if_neg (by decide), show (b.kernelPaid core 2000).bulkRead 1 ((k.window w).1 + off) 16 = (c, h, b1) from read]
    dsimp only
    rw [whole, if_neg (by decide), show b1.bulkRead 1 ((k.window w).1 + off) (leAt h 2 2 * 8) = (c2, i, b2) from read2]
    exact if_pos (by simpa using bad)
  · rw [head, if_neg (by decide), show (b.kernelPaid core 2000).bulkRead 1 ((k.window w).1 + off) 16 = (c, h, b1) from read]
    dsimp only
    rw [whole, if_neg (by decide), show b1.bulkRead 1 ((k.window w).1 + off) (leAt h 2 2 * 8) = (c2, i, b2) from read2]
    exact if_neg (by simp [good, good2])

/-- What QUERY does once it is charged. -/
theorem Blk.kernelQuery_left {b : Blk} {core : Nat} {k : KernelRun} (w off : Nat) (runs : b.kernel core = some k)
    (left : 3000 < b.get (CORE.KBUDGET core)) :
    let paid := b.kernelPaid core 3000
    (k.reach w off 64 0 = false → b.kernelQuery core w off = paid.kernelEnd core 0x41) ∧
    (∀ c d b1, k.reach w off 64 0 = true → paid.bulkRead 1 ((k.window w).1 + off) 64 = (c, d, b1) →
      let ok := c = 0 ∧ k.inWindow (leAt d 16 8) 0 = true ∧ k.inWindow (leAt d 24 8) 1 = true
      (¬ok → b.kernelQuery core w off = b1.kernelEnd core 0x41) ∧
      (ok → b.kernelQuery core w off = (if b1.searchOn = true then b1.postQuery d else b1).emit (.kernel core 2 (leAt d 0 4)))) := by
  intro paid
  rw [Blk.kernelQuery, Blk.kernelCharge_left runs left]
  refine ⟨fun out => if_pos (by rw [out]; rfl), fun c d b1 whole read => ?_⟩
  intro ok
  have test : (c != 0 || !k.inWindow (leAt d 16 8) 0 || !k.inWindow (leAt d 24 8) 1) = true ↔ ¬ok := by
    simp only [ok, Bool.or_eq_true, bne_iff_ne, Bool.not_eq_true', not_and_or, Bool.not_eq_true, or_assoc, ne_eq]
  rw [whole, if_neg (by decide), show (b.kernelPaid core 3000).bulkRead 1 ((k.window w).1 + off) 64 = (c, d, b1) from read]
  exact ⟨fun bad => if_pos (test.mpr bad), fun good => if_neg (mt test.mp (not_not.mpr good))⟩

theorem Blk.kernel_setKernel (b : Blk) (core : Nat) (k : Option KernelRun) : (b.setKernel core k).kernel core = k :=
  Tbl.get_put_same ..

/-- A kernel's end. -/
theorem Blk.kernelEnd_runs {b : Blk} {core : Nat} (detail : Nat) {k : KernelRun} (runs : b.kernel core = some k) :
    let ended := (b.set (CORE.KSPENT core) (leAt k.record 12 4 - b.get (CORE.KBUDGET core))).setKernel core none
    b.kernelEnd core detail = if detail = 0
      then k.emitted.foldl (fun b i => if b.itemBad ⟨i.1, i.2⟩ = true then b.itemRefused else b.takeItem15 ⟨i.1, i.2⟩) ended
      else ended.gapForJob (leAt k.record 3 1) (coordOfNat (leAt k.record 4 8)) detail := by
  intro ended
  unfold Blk.kernelEnd
  rw [runs]
  simp only [beq_iff_eq]
  rfl

theorem Blk.kernelInvoke_eq (b : Blk) {core : Nat} {r : List Byte} (hc : core < 4) (hr : r.length = 128) :
    let free := b.ergRuns = true ∧ bitAt (b.get SYS.ERG_RUN) core = true ∧ b.kernel core = none
    (free → b.kernelInvoke core r = (b.set (CORE.KBUDGET core) (leAt r 12 4)).setKernel core (some ⟨r, []⟩)) ∧
    (¬free → b.kernelInvoke core r = b) := by
  intro free
  have test : (decide (core < 4) && b.ergRuns && bitAt (b.get SYS.ERG_RUN) core && (b.kernel core).isNone) = true ↔ free := by
    simp only [free, decide_eq_true hc, Bool.true_and, Bool.and_eq_true, Option.isNone_iff_eq_none, and_assoc]
  refine ⟨fun h => (if_pos (test.mpr h)).trans ?_, fun h => if_neg (mt test.mp h)⟩
  rw [List.take_of_length_le (by omega)]

/-- Settles O54: a call by `kernelCharge_spent` and `kernelCharge_left`, an end by `kernelEnd_runs`. -/
theorem kernelsAreChargedAndEnd : Obligations.KernelsAreChargedAndEnd := by
  unfold Obligations.KernelsAreChargedAndEnd
  refine ⟨fun s core r hc hr => ?_, fun s core hc none_ c hcmd => ?_, fun s core k hc runs => ?_, fun b core detail k hc runs => ?_,
    fun b view c detail => ?_⟩
  · intro free
    have wf : (decide (core < 4) && r.length == 128) = true := by rw [decide_eq_true hc, hr]; rfl
    obtain ⟨given, busy⟩ := s.blk.kernelInvoke_eq hc hr
    exact ⟨fun h => exec_blk (f := fun b => b.kernelInvoke core r) rfl wf (given h),
      fun h => exec_blk_same (f := fun b => b.kernelInvoke core r) rfl wf (busy h)⟩
  · have wf : decide (core < 4) = true := decide_eq_true hc
    obtain rfl | ⟨code, bytes, rfl, few⟩ | ⟨w, off, target, rfl⟩ | ⟨w, off, rfl⟩ | ⟨status, cycles, rfl⟩ | rfl | rfl := hcmd
    · exact exec_blk_same (f := fun b => b.kernelNow core) rfl wf (Blk.kernelCharge_none none_ _ _)
    · exact exec_blk_same (f := fun b => b.kernelLog core code bytes) rfl
        (by show (decide (core < 4) && decide (bytes.length ≤ 16)) = true; rw [wf, decide_eq_true few]; rfl) (Blk.kernelCharge_none none_ _ _)
    · exact exec_blk_same (f := fun b => b.kernelEmit core w off target) rfl wf (Blk.kernelCharge_none none_ _ _)
    · exact exec_blk_same (f := fun b => b.kernelQuery core w off) rfl wf (Blk.kernelCharge_none none_ _ _)
    · exact exec_blk_same (f := fun b => b.kernelExit core status cycles) rfl wf (Blk.kernelCharge_none none_ _ _)
    · exact exec_blk_same (f := fun b => b.kernelFault core) rfl wf (Blk.kernelEnd_none none_ _)
    · exact exec_blk_same (f := fun b => b.kernelBudget core) rfl wf (Blk.kernelBudget_none none_)
  · intro charged
    have wf : decide (core < 4) = true := decide_eq_true hc
    have logWf {bytes : List Byte} (few : bytes.length ≤ 16) : (decide (core < 4) && decide (bytes.length ≤ 16)) = true := by
      rw [wf, decide_eq_true few]
      rfl
    refine ⟨fun c cost hcmd spent => ?_, fun left => ?_, fun code bytes few left => ?_, fun status cycles left => ?_, fun w off target left => ?_,
      fun w off left => ?_, ?_, ?_⟩
    · obtain ⟨rfl, rfl⟩ | ⟨code, bytes, rfl, few, rfl⟩ | ⟨w, off, target, rfl, rfl⟩ | ⟨w, off, rfl, rfl⟩ | ⟨status, rfl⟩ := hcmd
      · exact exec_blk (f := fun b => b.kernelNow core) rfl wf (Blk.kernelCharge_spent runs spent _)
      · exact exec_blk (f := fun b => b.kernelLog core code bytes) rfl (logWf few) (Blk.kernelCharge_spent runs spent _)
      · exact exec_blk (f := fun b => b.kernelEmit core w off target) rfl wf (Blk.kernelCharge_spent runs spent _)
      · exact exec_blk (f := fun b => b.kernelQuery core w off) rfl wf (Blk.kernelCharge_spent runs spent _)
      · exact exec_blk (f := fun b => b.kernelExit core status cost) rfl wf (Blk.kernelCharge_spent runs spent _)
    · exact exec_blk (f := fun b => b.kernelNow core) rfl wf (Blk.kernelCharge_left runs left _)
    · refine exec_blk (f := fun b => b.kernelLog core code bytes) rfl (logWf few) ((Blk.kernelCharge_left runs left _).trans ?_)
      rw [List.take_of_length_le few]
      rfl
    · refine exec_blk (f := fun b => b.kernelExit core status cycles) rfl wf ((Blk.kernelCharge_left runs left _).trans ?_)
      simp only [beq_iff_eq]
      rfl
    · intro at_ ends
      have act {b : Blk} (h : s.blk.kernelEmit core w off target = b) : ends b := exec_blk (f := fun b => b.kernelEmit core w off target) rfl wf h
      obtain ⟨out, inside⟩ := Blk.kernelEmit_left w off target runs left
      refine ⟨fun h => act (out h), fun c h b1 head read => ?_⟩
      obtain ⟨short, rest⟩ := inside c h b1 head read
      refine ⟨fun out => act (short out), fun c2 i b2 whole read2 => ?_⟩
      obtain ⟨bad, good⟩ := rest c2 i b2 whole read2
      exact ⟨fun h => act (bad h), fun h h2 => act (good h h2)⟩
    · intro ends
      have act {b : Blk} (h : s.blk.kernelQuery core w off = b) : ends b := exec_blk (f := fun b => b.kernelQuery core w off) rfl wf h
      obtain ⟨out, inside⟩ := Blk.kernelQuery_left w off runs left
      refine ⟨fun h => act (out h), fun c d b1 whole read => ?_⟩
      obtain ⟨bad, good⟩ := inside c d b1 whole read
      exact ⟨fun h => act (bad h), fun h => act (good h)⟩
    · exact exec_blk (f := fun b => b.kernelFault core) rfl wf rfl
    · exact exec_blk (f := fun b => b.kernelBudget core) rfl wf (if_pos (by rw [runs]; rfl))
  · intro ended
    have ends := Blk.kernelEnd_runs detail runs
    exact ⟨fun bad => ends.trans (if_neg bad), fun good => ends.trans (if_pos good), Blk.kernel_setKernel _ core none⟩
  · intro gap f emptied
    exact ⟨fun none_ => if_pos none_, fun some_ => if_neg (by omega)⟩

end Sys2Proof.Machine
end

section
/-! PROOFS. The mailbox (spec/18 R463 to R465). -/

namespace Sys2Proof.Machine

/-! ### The outstanding request -/

/-- A request waits at Hamada. -/
def Blk.mbAsked (b : Blk) : Prop := b.active Page.CORE = true ∧ b.flag CORE.MB_STATUS_BUSY = true

/-- OP of the request. -/
def Blk.mbOp (b : Blk) : Nat := leAt b.mbRequest 4 2

/-- Hamada answers the request. -/
def Node.mbReply (n : Node) (seq : Nat) (a : MbAnswer) : Node := n.on (fun b => b.mbRespond seq a)

theorem Blk.mbAsked_test (b : Blk) : (b.active Page.CORE && b.flag CORE.MB_STATUS_BUSY) = true ↔ b.mbAsked := by
  rw [Blk.mbAsked, Bool.and_eq_true]

theorem Node.mbServe_idle {n : Node} (idle : ¬n.b.mbAsked) (op : Nat) (f : Node → List Byte → MbAnswer × Node) : n.mbServe op f = n :=
  if_pos (by rw [Bool.not_eq_true', Bool.eq_false_iff]; exact mt n.b.mbAsked_test.mp idle)

theorem Node.mbServe_asked {n : Node} (asked : n.b.mbAsked) (op : Nat) (f : Node → List Byte → MbAnswer × Node) :
    n.mbServe op f =
      if !n.b.mbOffered n.b.mbOp then n.mbReply (leAt n.b.mbRequest 0 4) ⟨mbBadOp, 0, []⟩
      else if n.b.mbOp != op then n
      else if 240 < leAt n.b.mbRequest 6 2 then n.mbReply (leAt n.b.mbRequest 0 4) mbBadArgs
      else (f n (n.b.mbRequest.drop 16)).2.mbReply (leAt n.b.mbRequest 0 4) (f n (n.b.mbRequest.drop 16)).1 :=
  if_neg (by rw [n.b.mbAsked_test.mpr asked]; decide)

theorem Node.mbServe_unoffered {n : Node} (asked : n.b.mbAsked) (bad : n.b.mbOffered n.b.mbOp = false) (op : Nat)
    (f : Node → List Byte → MbAnswer × Node) : n.mbServe op f = n.mbReply (leAt n.b.mbRequest 0 4) ⟨mbBadOp, 0, []⟩ := by
  rw [Node.mbServe_asked asked, bad]
  rfl

theorem Node.mbServe_other {n : Node} {op : Nat} (asked : n.b.mbAsked) (offered : n.b.mbOffered n.b.mbOp = true) (other : n.b.mbOp ≠ op)
    (f : Node → List Byte → MbAnswer × Node) : n.mbServe op f = n := by
  rw [Node.mbServe_asked asked, offered, if_neg (by decide), if_pos (by simpa using other)]

theorem Node.mbServe_long {n : Node} {op : Nat} (asked : n.b.mbAsked) (offered : n.b.mbOffered n.b.mbOp = true) (same : n.b.mbOp = op)
    (long : 240 < leAt n.b.mbRequest 6 2) (f : Node → List Byte → MbAnswer × Node) :
    n.mbServe op f = n.mbReply (leAt n.b.mbRequest 0 4) mbBadArgs := by
  rw [Node.mbServe_asked asked, offered, if_neg (by decide), if_neg (by simpa using same), if_pos long]

theorem Node.mbServe_done {n : Node} {op : Nat} (asked : n.b.mbAsked) (offered : n.b.mbOffered n.b.mbOp = true) (same : n.b.mbOp = op)
    (fits : leAt n.b.mbRequest 6 2 ≤ 240) {f : Node → List Byte → MbAnswer × Node} {a : MbAnswer} {n' : Node}
    (effect : f n (n.b.mbRequest.drop 16) = (a, n')) : n.mbServe op f = n'.mbReply (leAt n.b.mbRequest 0 4) a := by
  rw [Node.mbServe_asked asked, offered, if_neg (by decide), if_neg (by simpa using same), if_neg (by omega), effect]

theorem Blk.mbOffered_iff (b : Blk) (op : Nat) : b.mbOffered op = true ↔ 1 ≤ op ∧ (op ≤ 6 ∨ op ≤ 8 ∧ 0x0102 ≤ b.get SYS.HIF) := by
  simp only [Blk.mbOffered, Bool.or_eq_true, Bool.and_eq_true, decide_eq_true_eq, beq_iff_eq]
  omega

/-! ### RESET -/

/-- The request is a RESET of kind 1: the node warm-resets after the response. -/
def Blk.mbResets (b : Blk) : Bool :=
  b.active Page.CORE && b.flag CORE.MB_STATUS_BUSY && leAt b.mbRequest 4 2 == 4 && leAt b.mbRequest 6 2 ≤ 240 && leAt b.mbRequest 16 1 == 1

/-- The answer to a RESET. -/
def Node.mbResetAnswer (n : Node) (d : List Byte) : MbAnswer × Node := (if leAt d 0 1 == 1 then mbOk else mbBadArgs, n)

theorem Node.mbReset_quiet {n : Node} (quiet : n.b.mbResets = false) : n.mbReset = n.mbServe 4 Node.mbResetAnswer :=
  if_neg (by rw [show (n.b.active Page.CORE && n.b.flag CORE.MB_STATUS_BUSY && leAt n.b.mbRequest 4 2 == 4 && leAt n.b.mbRequest 6 2 ≤ 240 &&
    leAt n.b.mbRequest 16 1 == 1) = false from quiet]; decide)

theorem Node.mbReset_resets {n : Node} (resets : n.b.mbResets = true) : n.mbReset = (n.mbServe 4 Node.mbResetAnswer).warmReset 2 true :=
  if_pos resets

theorem Blk.mbResets_iff (b : Blk) : b.mbResets = true ↔ b.mbAsked ∧ b.mbOp = 4 ∧ leAt b.mbRequest 6 2 ≤ 240 ∧ leAt b.mbRequest 16 1 = 1 := by
  simp only [Blk.mbResets, Blk.mbAsked, Blk.mbOp, Bool.and_eq_true, beq_iff_eq, decide_eq_true_eq, and_assoc]

theorem leAt_drop (l : List Byte) (k at_ n : Nat) : leAt (l.drop k) at_ n = leAt l (k + at_) n := by
  rw [leAt, List.drop_drop, leAt]

/-! ### The response -/

theorem Blk.regs_each_conf {α : Type} (g : α → Fld) (v : α → Nat) (l : List α) {b b' : Blk} (h : b.regs = b'.regs) :
    (b.each l (fun b i => b.conf (g i) (v i))).regs = (b'.each l (fun b i => b.set (g i) (v i))).regs := by
  induction l generalizing b b' with
  | nil => exact h
  | cons i l ih =>
    refine ih (b := b.conf (g i) (v i)) (b' := b'.set (g i) (v i)) ?_
    have word : b.word (g i).key = b'.word (g i).key := congrArg (fun r => Tbl.get regReset r (g i).key) h
    show (b.set (g i) (v i)).regs = (b'.set (g i) (v i)).regs
    unfold Blk.set Blk.setWord
    rw [word, h]

/-- The bytes of a response. -/
def mbBytes (seq : Nat) (a : MbAnswer) : List Byte :=
  natLe 4 seq ++ natLe 1 a.status ++ natLe 1 a.detail ++ natLe 2 a.result.length ++ natLe 8 0 ++ a.result

/-- The words of a response, stored. -/
def Blk.mbStored (b : Blk) (d : List Byte) : Blk := b.each (List.range (ceilDiv d.length 4)) (fun b i => b.conf (CORE.MB_RESP i) (leAt d (4 * i) 4))

theorem Blk.get_mbStored (b : Blk) (d : List Byte) {i : Nat} (hi : 4 * i < d.length) : (b.mbStored d).get (CORE.MB_RESP i) = leAt d (4 * i) 4 := by
  have there : i ∈ List.range (ceilDiv d.length 4) := by
    rw [List.mem_range, ceilDiv]
    omega
  have stored := Blk.get_each_set CORE.MB_RESP (fun i => leAt d (4 * i) 4) (i := i) (show 0 + 32 ≤ 32 by decide)
    (fun j hj => .inl (by show 0x5C900 + 0x4 * j ≠ 0x5C900 + 0x4 * i; omega)) _ b there
  have word : (b.mbStored d).get (CORE.MB_RESP i) = _ := Blk.get_of_regs_eq (Blk.regs_each_conf CORE.MB_RESP (fun i => leAt d (4 * i) 4) _ rfl) _
  exact (word.trans stored).trans (Nat.mod_eq_of_lt (leAt_word_lt _ _))

theorem Blk.sent_mbStored (b : Blk) (d : List Byte) : (b.mbStored d).sent = b.sent := by
  unfold Blk.mbStored
  generalize List.range (ceilDiv d.length 4) = l
  induction l generalizing b with
  | nil => rfl
  | cons i l ih => exact ih (b.conf (CORE.MB_RESP i) (leAt d (4 * i) 4))

/-- VALID set, BUSY clear. -/
def Blk.mbMarked (b : Blk) : Blk := (b.set CORE.MB_RESP_STATUS_VALID 1).set CORE.MB_STATUS_BUSY 0

theorem Blk.mbMarked_shows (b : Blk) :
    b.keepsRegs b.mbMarked [CORE.MB_RESP_STATUS_VALID.key, CORE.MB_STATUS_BUSY.key] ∧ b.mbMarked.flag CORE.MB_RESP_STATUS_VALID = true ∧
    b.mbMarked.flag CORE.MB_STATUS_BUSY = false ∧ b.mbMarked.sent = b.sent := by
  have valid := b.flag_set_one CORE.MB_RESP_STATUS_VALID (by unfold Fld.fits; decide) (by decide)
  have apart := (b.set CORE.MB_RESP_STATUS_VALID 1).get_set_apart CORE.MB_STATUS_BUSY CORE.MB_RESP_STATUS_VALID 0 (by unfold Fld.fits; decide)
    (by unfold Fld.apart; decide)
  have busy := (b.set CORE.MB_RESP_STATUS_VALID 1).get_set_same CORE.MB_STATUS_BUSY 0 (by unfold Fld.fits; decide)
  exact ⟨((b.keepsRegs_refl _).set _ (by decide)).set _ (by decide), (congrArg (fun v => v != 0) apart).trans valid,
    congrArg (fun v => v != 0) busy, rfl⟩

theorem Blk.mbRespond_eq (b : Blk) (seq : Nat) (a : MbAnswer) :
    b.mbRespond seq a = (b.mbStored (mbBytes seq a)).mbMarked.emit (.ipi (b.mbStored (mbBytes seq a)).mbCores) := rfl

theorem Blk.mbRespond_shows (b : Blk) (seq : Nat) (a : MbAnswer) :
    (∀ i, i < 64 → 4 * i < (mbBytes seq a).length → (b.mbRespond seq a).get (CORE.MB_RESP i) = leAt (mbBytes seq a) (4 * i) 4) ∧
    (b.mbRespond seq a).flag CORE.MB_RESP_STATUS_VALID = true ∧ (b.mbRespond seq a).flag CORE.MB_STATUS_BUSY = false ∧
    (b.mbRespond seq a).sent = b.sent ++ [.ipi (b.mbRespond seq a).mbCores] := by
  rw [b.mbRespond_eq]
  obtain ⟨kept, valid, busy, sent⟩ := (b.mbStored (mbBytes seq a)).mbMarked_shows
  have before := b.sent_mbStored (mbBytes seq a)
  refine ⟨fun i hi inside => (kept.get ?_).trans (b.get_mbStored _ inside), valid, busy, ?_⟩
  · show ¬(0x5C900 + 0x4 * i ∈ [0x5C054, 0x5C04C])
    simp only [List.mem_cons, List.not_mem_nil, or_false, not_or]
    omega
  · have cores : (b.mbStored (mbBytes seq a)).mbMarked.get (CORE.IRQ_ROUTE_CORE_MASK 0x5C) = _ := kept.get (by decide)
    rw [← before, ← sent]
    exact congrArg (fun v => (b.mbStored (mbBytes seq a)).mbMarked.sent ++ [.ipi (if v == 0 then 1 else v)]) cores.symm

/-! ### What each operation does -/

/-- BOOT_TIME of the first READY, and the time of it. -/
def Blk.mbTimed (b : Blk) : Blk :=
  { b.conf SYS.BOOT_TIME (min (2 ^ 24 - 1) (b.linesSince b.cores.bootAt)) with cores := { b.cores with readyAt := some b.ep.line } }

/-- READY, before its answer. -/
def Blk.mbFirst (b : Blk) : Blk :=
  if b.cores.readyAt.isSome = true then b else if b.mbTimed.get OASIS.RESET_CAUSE ∈ [0, 4, 5] then b.mbTimed.wakeRequest else b.mbTimed

/-- The answer to READY. -/
def Node.mbReadyAnswer (n : Node) : MbAnswer × Node :=
  (⟨psOk, 0, natLe 2 (n.b.get SYS.HIF) ++ natLe 2 0 ++ natLe 4 (n.b.word SYS.BOOT_STATUS_PHASE.key).toNat⟩, n)

/-- READY as it is taken up. -/
def Node.mbReadied (n : Node) : Node :=
  if n.b.cores.readyAt.isSome then n else n.on (fun b => b.mbTimed.when ([0, 4, 5].contains (b.mbTimed.get OASIS.RESET_CAUSE)) Blk.wakeRequest)

/-- READY with its answer. -/
def Node.mbReadyDo (n : Node) (_ : List Byte) : MbAnswer × Node := n.mbReadied.mbReadyAnswer

theorem Node.mbReady_eq (n : Node) : n.mbReady = n.mbServe 1 Node.mbReadyDo := rfl

theorem Node.mbReadied_eq (n : Node) : n.mbReadied = { n with b := n.b.mbFirst } := by
  unfold Node.mbReadied Blk.mbFirst Blk.when
  simp only [List.contains_iff_mem]
  split <;> rfl

section
variable {n : Node} (asked : n.b.mbAsked) (offered : n.b.mbOffered n.b.mbOp = true) (fits : leAt n.b.mbRequest 6 2 ≤ 240)
include asked offered fits

theorem Node.mbReady_done (op : n.b.mbOp = 1) :
    n.mbReady = { n with b := n.b.mbFirst.mbRespond (leAt n.b.mbRequest 0 4) ⟨psOk, 0,
      natLe 2 (n.b.mbFirst.get SYS.HIF) ++ natLe 2 0 ++ natLe 4 (n.b.mbFirst.word SYS.BOOT_STATUS_PHASE.key).toNat⟩ } := by
  rw [n.mbReady_eq]
  exact Node.mbServe_done asked offered op fits (f := Node.mbReadyDo) (congrArg Node.mbReadyAnswer n.mbReadied_eq)

theorem Node.mbConfirm_done (op : n.b.mbOp = 2) (flashErr : Bool) {record : MbAnswer × Node}
    (recorded : n.mbRecord flashErr (({ n.b.bootRec with trial := 0, confirmed := n.b.bootRec.active } : BootRec).setFails (n.b.bootRec.active % 2) 0) =
      record) : n.mbConfirm flashErr = record.2.mbReply (leAt n.b.mbRequest 0 4) record.1 :=
  Node.mbServe_done asked offered op fits recorded

theorem Node.mbActivate_done (op : n.b.mbOp = 3) (flashErr : Bool) :
    let slot := leAt (n.b.mbRequest.drop 16) 0 1
    (1 < slot ∨ slot = n.b.get SYS.BOOT_STATUS_ERG_SLOT → n.mbActivate flashErr = n.mbReply (leAt n.b.mbRequest 0 4) mbBadArgs) ∧
    (slot ≤ 1 → slot ≠ n.b.get SYS.BOOT_STATUS_ERG_SLOT → n.slotCode slot ≠ 0 →
      n.mbActivate flashErr = n.mbReply (leAt n.b.mbRequest 0 4) ⟨mbImageBad, n.slotCode slot % 256, []⟩) ∧
    (slot ≤ 1 → slot ≠ n.b.get SYS.BOOT_STATUS_ERG_SLOT → n.slotCode slot = 0 →
      let record := n.mbRecord flashErr (({ n.b.bootRec with active := slot, trial := 1 } : BootRec).setFails slot 0)
      n.mbActivate flashErr = record.2.mbReply (leAt n.b.mbRequest 0 4) record.1) := by
  intro slot
  refine ⟨fun bad => Node.mbServe_done asked offered op fits (if_pos (by simpa [slot] using bad)), fun low other code => ?_, fun low other code => ?_⟩
  · refine Node.mbServe_done asked offered op fits ((if_neg (by simp [slot, other] at *; omega)).trans (if_pos (by simpa using code)))
  · intro record
    exact Node.mbServe_done asked offered op fits ((if_neg (by simp [slot, other] at *; omega)).trans (if_neg (by simpa using code)))

theorem Node.mbReset_done (op : n.b.mbOp = 4) :
    (leAt (n.b.mbRequest.drop 16) 0 1 = 1 → n.mbReset = (n.mbReply (leAt n.b.mbRequest 0 4) mbOk).warmReset 2 true) ∧
    (leAt (n.b.mbRequest.drop 16) 0 1 ≠ 1 → n.mbReset = n.mbReply (leAt n.b.mbRequest 0 4) mbBadArgs) := by
  have kind : leAt (n.b.mbRequest.drop 16) 0 1 = leAt n.b.mbRequest 16 1 := leAt_drop _ 16 0 1
  constructor
  · intro one
    rw [Node.mbReset_resets (n.b.mbResets_iff.mpr ⟨asked, op, fits, kind ▸ one⟩)]
    rw [Node.mbServe_done asked offered op fits (a := mbOk) (n' := n) (by rw [Node.mbResetAnswer, one]; rfl)]
  · intro other
    rw [Node.mbReset_quiet (by rw [Bool.eq_false_iff]; exact fun h => other (kind.trans (n.b.mbResets_iff.mp h).2.2.2))]
    exact Node.mbServe_done asked offered op fits (by rw [Node.mbResetAnswer, if_neg (by simpa using other)])

theorem Node.mbTally_done (op : n.b.mbOp = 5) :
    n.mbTally = (n.on (fun b => (b.set TALLY.CONTENT_NODE_BLANK (leAt (n.b.mbRequest.drop 16) 0 1)).tallyFault (leAt (n.b.mbRequest.drop 16) 2 2))).mbReply
      (leAt n.b.mbRequest 0 4) mbOk :=
  Node.mbServe_done asked offered op fits rfl

theorem Node.mbFuseRead_done (op : n.b.mbOp = 6) :
    let first := leAt (n.b.mbRequest.drop 16) 0 2
    let count := leAt (n.b.mbRequest.drop 16) 2 1
    let ws := (List.range count).map (fun i => first + i)
    let read := if ws.any isSecretWord then mbDenied else ⟨psOk, 0, ws.flatMap (fun w => natLe 4 (n.readOtp w).toNat)⟩
    (1 ≤ count → count ≤ 32 → first + count ≤ 1024 → n.mbFuseRead = n.mbReply (leAt n.b.mbRequest 0 4) read) ∧
    (count = 0 ∨ 32 < count ∨ 1024 < first + count → n.mbFuseRead = n.mbReply (leAt n.b.mbRequest 0 4) mbBadArgs) := by
  intro first count ws read
  constructor
  · intro some_ few inside
    refine Node.mbServe_done asked offered op fits ((if_neg ?_).trans ?_)
    · simp only [Bool.or_eq_true, beq_iff_eq, decide_eq_true_eq, not_or]
      omega
    · exact (apply_ite (fun a => (a, n)) (ws.any isSecretWord = true) mbDenied _).symm
  · intro bad
    exact Node.mbServe_done asked offered op fits (if_pos (by simpa [or_assoc] using bad))

theorem Node.mbPriv_done (op : n.b.mbOp = 7) (env : BurnEnv) (flashErr : Bool) :
    n.mbPriv env flashErr = (n.privPayload (n.b.mbRequest.drop 16) env flashErr).2.mbReply (leAt n.b.mbRequest 0 4)
      (n.privPayload (n.b.mbRequest.drop 16) env flashErr).1 :=
  Node.mbServe_done asked offered op fits rfl

theorem Node.mbOwnerBind_done (op : n.b.mbOp = 8) (flashErr : Bool) :
    let args := n.b.mbRequest.drop 16
    let ipv6 := leAt args 1 1
    let words := (List.range (if ipv6 = 1 then 4 else 1)).map (fun i => leAt args (4 + 4 * i) 4)
    let owner := some (leAt args 0 1, (⟨ipv6 == 1, words, leAt args 2 2⟩ : HostAddr))
    let bound := n.on (fun b => { b with fuse := { b.fuse with owner := owner } })
    n.mbOwnerBind flashErr = if 1 < leAt args 0 1 ∨ 1 < ipv6 then n.mbReply (leAt n.b.mbRequest 0 4) mbBadArgs
      else if n.b.flag OASIS.STATUS_PRES_WINDOW = false then n.mbReply (leAt n.b.mbRequest 0 4) mbDenied
      else if flashErr then n.mbReply (leAt n.b.mbRequest 0 4) ⟨mbFlashErr, 0, []⟩ else bound.mbReply (leAt n.b.mbRequest 0 4) mbOk := by
  intro args ipv6 words owner bound
  by_cases bad : 1 < leAt args 0 1 ∨ 1 < ipv6
  · rw [if_pos bad]
    exact Node.mbServe_done asked offered op fits (if_pos (by rw [Bool.or_eq_true, decide_eq_true_eq, decide_eq_true_eq]; exact bad))
  have good : ¬(decide (1 < leAt args 0 1) || decide (1 < ipv6)) = true := by rwa [Bool.or_eq_true, decide_eq_true_eq, decide_eq_true_eq]
  rw [if_neg bad]
  cases presence : n.b.flag OASIS.STATUS_PRES_WINDOW
  · exact Node.mbServe_done asked offered op fits ((if_neg good).trans (if_pos (by rw [presence]; rfl)))
  cases flashErr
  · refine Node.mbServe_done asked offered op fits ((if_neg good).trans ((if_neg (by rw [presence]; decide)).trans ((if_neg (by decide)).trans ?_)))
    have few : (if ipv6 == 1 then 4 else 1) = if ipv6 = 1 then 4 else 1 := by simp only [beq_iff_eq]
    show (mbOk, n.on (fun b => { b with fuse := { b.fuse with owner := some (leAt args 0 1,
      (⟨ipv6 == 1, (List.range (if ipv6 == 1 then 4 else 1)).map (fun i => leAt args (4 + 4 * i) 4), leAt args 2 2⟩ : HostAddr)) } })) = _
    rw [few]
  · exact Node.mbServe_done asked offered op fits ((if_neg good).trans ((if_neg (by rw [presence]; decide)).trans (if_pos rfl)))
end

theorem Node.mbRecord_same (n : Node) (flashErr : Bool) : n.mbRecord flashErr n.b.bootRec = (mbOk, n) := if_pos (beq_self_eq_true _)

theorem Node.mbRecord_changed {n : Node} {r : BootRec} (changed : r ≠ n.b.bootRec) (flashErr : Bool) :
    n.mbRecord flashErr r = if flashErr then (⟨mbFlashErr, 0, []⟩, n) else (mbOk, n.on (fun b => b.writeBootRec r)) :=
  if_neg (by simpa using changed)

/-- Every command of the mailbox takes a request that waits as `mbServe` says. -/
theorem mbCommand_serves (s : State) (env : BurnEnv) (flashErr : Bool) {c : Instr × Nat}
    (hc : c ∈ [(Instr.mbReady, 1), (.mbConfirm flashErr, 2), (.mbActivate flashErr, 3), (.mbReset, 4), (.mbTally, 5), (.mbFuseRead, 6),
      (.mbPriv env flashErr, 7), (.mbOwnerBind flashErr, 8)]) :
    ∃ (g : Node → Node) (f : Node → List Byte → MbAnswer × Node), exec c.1 s = s.act c.1 g ∧ c.1.wf = true ∧
      (¬(s.node.b.mbAsked ∧ s.node.b.mbOp = 4 ∧ s.node.b.mbOp = c.2 ∧ leAt s.node.b.mbRequest 6 2 ≤ 240) → g s.node = s.node.mbServe c.2 f) := by
  simp only [List.mem_cons, List.not_mem_nil, or_false] at hc
  obtain rfl | rfl | rfl | rfl | rfl | rfl | rfl | rfl := hc
  · exact ⟨Node.mbReady, _, rfl, rfl, fun _ => rfl⟩
  · exact ⟨fun n => n.mbConfirm flashErr, _, rfl, rfl, fun _ => rfl⟩
  · exact ⟨fun n => n.mbActivate flashErr, _, rfl, rfl, fun _ => rfl⟩
  · refine ⟨Node.mbReset, Node.mbResetAnswer, rfl, rfl, fun h => Node.mbReset_quiet ?_⟩
    rw [Bool.eq_false_iff]
    intro resets
    obtain ⟨asked, op, fits, -⟩ := s.node.b.mbResets_iff.mp resets
    exact h ⟨asked, op, op, fits⟩
  · exact ⟨Node.mbTally, _, rfl, rfl, fun _ => rfl⟩
  · exact ⟨Node.mbFuseRead, _, rfl, rfl, fun _ => rfl⟩
  · exact ⟨fun n => n.mbPriv env flashErr, _, rfl, rfl, fun _ => rfl⟩
  · exact ⟨fun n => n.mbOwnerBind flashErr, _, rfl, rfl, fun _ => rfl⟩

/-- Settles O53: what no operation of a command serves by `mbCommand_serves`, the operations by their `_done` lemmas. -/
theorem mailboxRequestsAreServedAndAnswered : Obligations.MailboxRequestsAreServedAndAnswered := by
  unfold Obligations.MailboxRequestsAreServedAndAnswered
  refine ⟨fun s env flashErr c hc => ?_, Blk.mbOffered_iff, fun s active busy => ?_, fun n flashErr r => ⟨?_, fun h => ?_, fun h => ?_⟩,
    fun b seq a => b.mbRespond_shows seq a⟩
  · intro d op asked
    obtain ⟨g, f, act, wf, serves⟩ := mbCommand_serves s env flashErr hc
    refine ⟨fun idle => ?_, fun h bad => ?_, fun h offered other => ?_, fun h offered same long => ?_⟩
    · exact exec_same act wf ((serves (fun h => idle h.1)).trans (Node.mbServe_idle idle c.2 f))
    · have unserved : ¬(s.node.b.mbAsked ∧ s.node.b.mbOp = 4 ∧ s.node.b.mbOp = c.2 ∧ leAt s.node.b.mbRequest 6 2 ≤ 240) := by
        rintro ⟨-, four, -⟩
        exact absurd (bad.symm.trans ((s.blk.mbOffered_iff op).mpr (by rw [show op = 4 from four]; exact ⟨by decide, .inl (by decide)⟩))) (by decide)
      exact exec_next act wf ((serves unserved).trans (Node.mbServe_unoffered h bad c.2 f))
    · exact exec_same act wf ((serves (fun h => other h.2.2.1)).trans (Node.mbServe_other h offered other f))
    · exact exec_next act wf ((serves (fun h => absurd h.2.2.2 (Nat.not_le_of_gt long))).trans (Node.mbServe_long h offered same long f))
  · intro d op args reply fits offered
    have asked : s.node.b.mbAsked := ⟨active, busy⟩
    refine ⟨fun h => ?_, fun h flashErr => ?_, fun h flashErr => ?_, fun h => ?_, fun h => ?_, fun h => ?_, fun h env flashErr => ?_,
      fun h flashErr => ?_⟩
    · exact exec_next (f := Node.mbReady) rfl rfl (Node.mbReady_done asked offered fits h)
    · exact exec_next (f := fun n => n.mbConfirm flashErr) rfl rfl (Node.mbConfirm_done asked offered fits h flashErr rfl)
    · obtain ⟨bad, image, record⟩ := Node.mbActivate_done asked offered fits h flashErr
      exact ⟨fun h => exec_next (f := fun n => n.mbActivate flashErr) rfl rfl (bad h),
        fun low other code => exec_next (f := fun n => n.mbActivate flashErr) rfl rfl (image low other code),
        fun low other code => exec_next (f := fun n => n.mbActivate flashErr) rfl rfl (record low other code)⟩
    · obtain ⟨resets, other⟩ := Node.mbReset_done asked offered fits h
      exact ⟨fun h => exec_next (f := Node.mbReset) rfl rfl (resets h), fun h => exec_next (f := Node.mbReset) rfl rfl (other h)⟩
    · exact exec_next (f := Node.mbTally) rfl rfl (Node.mbTally_done asked offered fits h)
    · obtain ⟨read, bad⟩ := Node.mbFuseRead_done asked offered fits h
      exact ⟨fun some_ few inside => exec_next (f := Node.mbFuseRead) rfl rfl (read some_ few inside),
        fun h => exec_next (f := Node.mbFuseRead) rfl rfl (bad h)⟩
    · exact exec_next (f := fun n => n.mbPriv env flashErr) rfl rfl (Node.mbPriv_done asked offered fits h env flashErr)
    · exact exec_next (f := fun n => n.mbOwnerBind flashErr) rfl rfl (Node.mbOwnerBind_done asked offered fits h flashErr)
  · rintro rfl
    exact n.mbRecord_same flashErr
  · exact Node.mbRecord_changed h true
  · exact Node.mbRecord_changed h false

end Sys2Proof.Machine
end

section
/-! PROOFS. The Oasis: its tick, supply comparators, clock and presence (spec/16 R414 to R418, spec/17 R435). -/

namespace Sys2Proof.Machine

/-! ### The supply comparators -/

theorem Blk.flag_set_bit (b : Blk) {f : Fld} (on : Bool) (fits : f.fits) (wide : 0 < f.w) : (b.set f (bitNat on)).flag f = on := by
  rw [Blk.flag, b.get_set_same f _ fits, Nat.mod_eq_of_lt]
  · cases on <;> rfl
  · calc bitNat on < 2 ^ 1 := by cases on <;> decide
      _ ≤ 2 ^ f.w := Nat.pow_le_pow_right (by decide) wide

theorem Blk.flag_set_apart (b : Blk) {f g : Fld} (v : Nat) (fits : g.fits) (apart : f.apart g) : (b.set f v).flag g = b.flag g := by
  rw [Blk.flag, b.get_set_apart f g v fits apart, Blk.flag]

/-- The measurements of a tick. -/
def Blk.supplyMeasured (b : Blk) (vin hold : Nat) : Blk := (b.set OASIS.SUPPLY_STATUS_VIN vin).set OASIS.SUPPLY_STATUS_HOLD hold

/-- The comparators' bits of STATUS. -/
def Blk.supplyMarked (b : Blk) (vinOk holdOk holdup : Bool) : Blk :=
  ((b.set OASIS.STATUS_VIN_OK (bitNat vinOk)).set OASIS.STATUS_HOLD_OK (bitNat holdOk)).set OASIS.STATUS_ON_HOLDUP (bitNat holdup)

theorem Blk.supplyMarked_shows (b : Blk) (vinOk holdOk holdup : Bool) :
    (b.supplyMarked vinOk holdOk holdup).flag OASIS.STATUS_VIN_OK = vinOk ∧ (b.supplyMarked vinOk holdOk holdup).flag OASIS.STATUS_HOLD_OK = holdOk ∧
    (b.supplyMarked vinOk holdOk holdup).flag OASIS.STATUS_ON_HOLDUP = holdup ∧
    (b.supplyMarked vinOk holdOk holdup).get OASIS.STATUS_POWER_FAIL = b.get OASIS.STATUS_POWER_FAIL := by
  have fits (f : Fld) (h : f = OASIS.STATUS_VIN_OK ∨ f = OASIS.STATUS_HOLD_OK ∨ f = OASIS.STATUS_POWER_FAIL) : f.fits := by
    obtain rfl | rfl | rfl := h <;> (unfold Fld.fits; decide)
  refine ⟨?_, ?_, Blk.flag_set_bit _ holdup (by unfold Fld.fits; decide) (by decide), ?_⟩
  · exact ((Blk.flag_set_apart _ _ (fits _ (.inl rfl)) (by unfold Fld.apart; decide)).trans
      (Blk.flag_set_apart _ _ (fits _ (.inl rfl)) (by unfold Fld.apart; decide))).trans (b.flag_set_bit vinOk (fits _ (.inl rfl)) (by decide))
  · exact (Blk.flag_set_apart _ _ (fits _ (.inr (.inl rfl))) (by unfold Fld.apart; decide)).trans
      (Blk.flag_set_bit _ holdOk (fits _ (.inr (.inl rfl))) (by decide))
  · exact ((Blk.get_set_apart _ _ _ _ (fits _ (.inr (.inr rfl))) (by unfold Fld.apart; decide)).trans
      (Blk.get_set_apart _ _ _ _ (fits _ (.inr (.inr rfl))) (by unfold Fld.apart; decide))).trans
      (Blk.get_set_apart _ _ _ _ (fits _ (.inr (.inr rfl))) (by unfold Fld.apart; decide))

/-- Whether VIN is good enough, with its hysteresis. -/
def Blk.vinGood (b : Blk) (vin : Nat) : Bool :=
  decide (b.get OASIS.SUPPLY_THR_VIN_LOW * 10 + 50 ≤ vin) || (b.flag OASIS.STATUS_VIN_OK && decide (b.get OASIS.SUPPLY_THR_VIN_LOW * 10 ≤ vin))

/-- Whether the store holds enough, with its hysteresis. -/
def Blk.holdGood (b : Blk) (hold : Nat) : Bool :=
  decide (b.get OASIS.HOLD_MIN ≤ hold) || (b.flag OASIS.STATUS_HOLD_OK && decide (b.get OASIS.HOLD_MIN ≤ hold + 50))

/-- The running counts of the comparators. -/
def Blk.supplyCounted (b : Blk) (o : OasisSt) (low least vin hold : Nat) (vinOk holdOk : Bool) : Blk :=
  (b.when (decide (vin < low) && o.vinLow == 0) (fun b => b.raise OASIS.IRQ_RAW_VIN_LOW)).setOasis { o with
    vinLow := if decide (vin < low) then o.vinLow + 1 else 0
    good := if vinOk && holdOk then o.good + 1 else 0
    holdLow := if vinOk && decide (hold < least) then o.holdLow + 1 else 0 }

theorem Blk.supplyMeasured_keeps (b : Blk) (vin hold : Nat) :
    b.keepsRegs (b.supplyMeasured vin hold) [OASIS.SUPPLY_STATUS_VIN.key] ∧ (b.supplyMeasured vin hold).oasis = b.oasis :=
  ⟨((b.keepsRegs_refl _).set _ (by decide)).set _ (by decide), (Blk.set_oasis _ _ _).trans (Blk.set_oasis _ _ _)⟩

theorem Blk.supplyMarked_oasis (b : Blk) (vinOk holdOk holdup : Bool) : (b.supplyMarked vinOk holdOk holdup).oasis = b.oasis :=
  ((Blk.set_oasis _ _ _).trans (Blk.set_oasis _ _ _)).trans (Blk.set_oasis _ _ _)

theorem Blk.supplyCounted_shows (b : Blk) (o : OasisSt) (low least vin hold : Nat) (vinOk holdOk : Bool) :
    b.keepsRegs (b.supplyCounted o low least vin hold vinOk holdOk) [OASIS.IRQ_RAW_VIN_LOW.key] ∧
    (b.supplyCounted o low least vin hold vinOk holdOk).oasis.vinLow = if vin < low then o.vinLow + 1 else 0 := by
  have vinLow : (b.supplyCounted o low least vin hold vinOk holdOk).oasis.vinLow = if decide (vin < low) = true then o.vinLow + 1 else 0 := rfl
  simp only [decide_eq_true_eq] at vinLow
  refine ⟨?_, vinLow⟩
  unfold Blk.supplyCounted Blk.when
  split
  · exact (b.keepsRegs_refl _).set (f := OASIS.IRQ_RAW_VIN_LOW) 1 (by decide)
  · exact b.keepsRegs_refl _

/-- A tick before it looks for a power fail. -/
def Blk.supplySampled (b : Blk) (vin hold : Nat) (holdup : Bool) : Blk :=
  let x := (b.supplyMeasured vin hold).supplyMarked (b.vinGood vin) (b.holdGood hold) holdup
  x.supplyCounted b.oasis (b.get OASIS.SUPPLY_THR_VIN_LOW * 10) (b.get OASIS.HOLD_MIN) vin hold (b.vinGood vin) (b.holdGood hold)

theorem Blk.supplySampled_shows (b : Blk) (vin hold : Nat) (holdup : Bool) :
    (b.supplySampled vin hold holdup).flag OASIS.STATUS_VIN_OK = b.vinGood vin ∧
    (b.supplySampled vin hold holdup).flag OASIS.STATUS_HOLD_OK = b.holdGood hold ∧
    (b.supplySampled vin hold holdup).flag OASIS.STATUS_ON_HOLDUP = holdup ∧
    (b.supplySampled vin hold holdup).get OASIS.STATUS_POWER_FAIL = b.get OASIS.STATUS_POWER_FAIL ∧
    (b.supplySampled vin hold holdup).get OASIS.SUPPLY_THR_VIN_FAIL = b.get OASIS.SUPPLY_THR_VIN_FAIL ∧
    (b.supplySampled vin hold holdup).oasis.vinLow = if vin < b.get OASIS.SUPPLY_THR_VIN_LOW * 10 then b.oasis.vinLow + 1 else 0 := by
  obtain ⟨measured, -⟩ := b.supplyMeasured_keeps vin hold
  obtain ⟨vinOk, holdOk, up, fail⟩ := (b.supplyMeasured vin hold).supplyMarked_shows (b.vinGood vin) (b.holdGood hold) holdup
  have marked : (b.supplyMeasured vin hold).keepsRegs ((b.supplyMeasured vin hold).supplyMarked (b.vinGood vin) (b.holdGood hold) holdup)
      [OASIS.STATUS_VIN_OK.key] :=
    (((Blk.keepsRegs_refl _ _).set _ (by decide)).set _ (by decide)).set _ (by decide)
  have thr := (marked.get (f := OASIS.SUPPLY_THR_VIN_FAIL) (by decide)).trans (measured.get (by decide))
  have failed := fail.trans (measured.get (by decide))
  unfold Blk.supplySampled
  obtain ⟨kept, low⟩ := ((b.supplyMeasured vin hold).supplyMarked (b.vinGood vin) (b.holdGood hold) holdup).supplyCounted_shows b.oasis
    (b.get OASIS.SUPPLY_THR_VIN_LOW * 10) (b.get OASIS.HOLD_MIN) vin hold (b.vinGood vin) (b.holdGood hold)
  exact ⟨(kept.flag (by decide)).trans vinOk, (kept.flag (by decide)).trans holdOk, (kept.flag (by decide)).trans up,
    (kept.get (by decide)).trans failed, (kept.get (by decide)).trans thr, low⟩

/-- A tick's comparators, from the measurements on. -/
def Blk.supplyRest (b x : Blk) (vinOk holdOk : Bool) (vin hold : Nat) (holdup fail : Bool) : Blk :=
  ((x.supplyMarked vinOk holdOk holdup).supplyCounted (x.supplyMarked vinOk holdOk holdup).oasis (b.get OASIS.SUPPLY_THR_VIN_LOW * 10)
    (b.get OASIS.HOLD_MIN) vin hold vinOk holdOk).when
    (fail || decide (vin < ((x.supplyMarked vinOk holdOk holdup).supplyCounted (x.supplyMarked vinOk holdOk holdup).oasis
      (b.get OASIS.SUPPLY_THR_VIN_LOW * 10) (b.get OASIS.HOLD_MIN) vin hold vinOk holdOk).get OASIS.SUPPLY_THR_VIN_FAIL * 10)) Blk.powerFail

theorem Blk.supplyTick_steps (b : Blk) (vin hold : Nat) (holdup fail : Bool) :
    b.supplyTick vin hold holdup fail = b.supplyRest (b.supplyMeasured vin hold)
      (decide (b.get OASIS.SUPPLY_THR_VIN_LOW * 10 + 50 ≤ vin) || ((b.supplyMeasured vin hold).flag OASIS.STATUS_VIN_OK &&
        decide (b.get OASIS.SUPPLY_THR_VIN_LOW * 10 ≤ vin)))
      (decide (b.get OASIS.HOLD_MIN ≤ hold) || ((b.supplyMeasured vin hold).flag OASIS.STATUS_HOLD_OK && decide (b.get OASIS.HOLD_MIN ≤ hold + 50)))
      vin hold holdup fail := rfl

theorem Blk.supplyTick_eq (b : Blk) (vin hold : Nat) (holdup fail : Bool) :
    b.supplyTick vin hold holdup fail =
      (b.supplySampled vin hold holdup).when (fail || decide (vin < b.get OASIS.SUPPLY_THR_VIN_FAIL * 10)) Blk.powerFail := by
  obtain ⟨measured, oasis⟩ := b.supplyMeasured_keeps vin hold
  have vinOk : (b.supplyMeasured vin hold).flag OASIS.STATUS_VIN_OK = b.flag OASIS.STATUS_VIN_OK := measured.flag (by decide)
  have holdOk : (b.supplyMeasured vin hold).flag OASIS.STATUS_HOLD_OK = b.flag OASIS.STATUS_HOLD_OK := measured.flag (by decide)
  have same := ((b.supplyMeasured vin hold).supplyMarked_oasis (b.vinGood vin) (b.holdGood hold) holdup).trans oasis
  have thr := (b.supplySampled_shows vin hold holdup).2.2.2.2.1
  rw [b.supplyTick_steps, vinOk, holdOk]
  show b.supplyRest (b.supplyMeasured vin hold) (b.vinGood vin) (b.holdGood hold) vin hold holdup fail = _
  rw [Blk.supplyRest, same]
  change (b.supplySampled vin hold holdup).when (fail || decide (vin < (b.supplySampled vin hold holdup).get OASIS.SUPPLY_THR_VIN_FAIL * 10))
    Blk.powerFail = _
  rw [thr]

/-! ### A power fail -/

/-- POWER_FAIL is set, in STATUS and IRQ_RAW. -/
def Blk.failMarked (b : Blk) : Blk := (b.set OASIS.STATUS_POWER_FAIL 1).raise OASIS.IRQ_RAW_POWER_FAIL

/-- And the SUPPLY source may wake the node again. -/
def Blk.failNoted (b : Blk) (supply : Nat) : Blk := b.setOasis { b.oasis with supply := if supply == 1 then 1 else 2 }

/-- And it is reported. -/
def Blk.failTold (b : Blk) : Blk := b.when (b.powered Page.SAFE) (fun b => b.report 0x0A Page.OASIS)

theorem Blk.failMarked_shows (b : Blk) :
    b.failMarked.flag OASIS.STATUS_POWER_FAIL = true ∧ b.failMarked.oasis = b.oasis ∧
    (∀ f : Fld, f.fits → OASIS.STATUS_POWER_FAIL.apart f → OASIS.IRQ_RAW_POWER_FAIL.apart f → b.failMarked.get f = b.get f) := by
  have failed := b.flag_set_one OASIS.STATUS_POWER_FAIL (by unfold Fld.fits; decide) (by decide)
  refine ⟨?_, (Blk.raise_oasis _ _).trans (Blk.set_oasis _ _ _), fun f fits status irq => ?_⟩
  · exact ((b.set OASIS.STATUS_POWER_FAIL 1).flag_set_apart (f := OASIS.IRQ_RAW_POWER_FAIL) 1 (by unfold Fld.fits; decide)
      (by unfold Fld.apart; decide)).trans failed
  · exact ((b.set OASIS.STATUS_POWER_FAIL 1).get_set_apart OASIS.IRQ_RAW_POWER_FAIL f 1 fits irq).trans (b.get_set_apart _ f 1 fits status)

theorem Blk.failNoted_shows (b : Blk) (supply : Nat) : (b.failNoted supply).regs = b.regs ∧ (b.failNoted supply).oasis.vinLow = b.oasis.vinLow := ⟨rfl, rfl⟩

theorem Blk.failTold_shows (b : Blk) : b.failTold.regs = b.regs ∧ b.failTold.oasis = b.oasis := by
  unfold Blk.failTold Blk.when
  split <;> exact ⟨rfl, rfl⟩

theorem Blk.powerFail_eq (b : Blk) :
    b.powerFail = if b.flag OASIS.STATUS_POWER_FAIL then b else (b.failMarked.failNoted b.failMarked.oasis.supply).failTold := rfl

theorem Blk.powerFail_shows (b : Blk) :
    b.powerFail.flag OASIS.STATUS_POWER_FAIL = true ∧ b.powerFail.oasis.vinLow = b.oasis.vinLow ∧
    (∀ f : Fld, f.fits → OASIS.STATUS_POWER_FAIL.apart f → OASIS.IRQ_RAW_POWER_FAIL.apart f → b.powerFail.get f = b.get f) := by
  rw [b.powerFail_eq]
  by_cases already : b.flag OASIS.STATUS_POWER_FAIL = true
  · rw [if_pos already]
    exact ⟨already, rfl, fun _ _ _ _ => rfl⟩
  · rw [if_neg already]
    obtain ⟨failed, marked, fields⟩ := b.failMarked_shows
    obtain ⟨notedRegs, noted⟩ := b.failMarked.failNoted_shows b.failMarked.oasis.supply
    obtain ⟨toldRegs, told⟩ := (b.failMarked.failNoted b.failMarked.oasis.supply).failTold_shows
    have regs := toldRegs.trans notedRegs
    refine ⟨(congrArg (fun v => v != 0) (Blk.get_of_regs_eq regs _)).trans failed, ?_, fun f fits status irq =>
      (Blk.get_of_regs_eq regs f).trans (fields f fits status irq)⟩
    rw [told, noted, marked]

/-- A field of STATUS that a power fail leaves. -/
theorem Blk.flag_powerFail (b : Blk) {f : Fld} (fits : f.fits) (status : OASIS.STATUS_POWER_FAIL.apart f) (irq : OASIS.IRQ_RAW_POWER_FAIL.apart f) :
    b.powerFail.flag f = b.flag f :=
  congrArg (fun v => v != 0) (b.powerFail_shows.2.2 f fits status irq)

theorem Blk.supplyTick_flags (b : Blk) (vin hold : Nat) (holdup : Bool) :
    (b.supplyTick vin hold holdup false).flag OASIS.STATUS_VIN_OK = b.vinGood vin ∧
    (b.supplyTick vin hold holdup false).flag OASIS.STATUS_HOLD_OK = b.holdGood hold ∧
    (b.supplyTick vin hold holdup false).flag OASIS.STATUS_ON_HOLDUP = holdup ∧
    (b.supplyTick vin hold holdup false).oasis.vinLow = (if vin < b.get OASIS.SUPPLY_THR_VIN_LOW * 10 then b.oasis.vinLow + 1 else 0) ∧
    (b.get OASIS.SUPPLY_THR_VIN_FAIL * 10 ≤ vin → (b.supplyTick vin hold holdup false).get OASIS.STATUS_POWER_FAIL = b.get OASIS.STATUS_POWER_FAIL) ∧
    (vin < b.get OASIS.SUPPLY_THR_VIN_FAIL * 10 → (b.supplyTick vin hold holdup false).flag OASIS.STATUS_POWER_FAIL = true) := by
  obtain ⟨vinOk, holdOk, up, fail, -, count⟩ := b.supplySampled_shows vin hold holdup
  rw [b.supplyTick_eq vin hold holdup false, Bool.false_or]
  by_cases below : vin < b.get OASIS.SUPPLY_THR_VIN_FAIL * 10
  · rw [decide_eq_true below, Blk.when, if_pos rfl]
    obtain ⟨failed, low, -⟩ := (b.supplySampled vin hold holdup).powerFail_shows
    exact ⟨(Blk.flag_powerFail _ (by unfold Fld.fits; decide) (by unfold Fld.apart; decide) (by unfold Fld.apart; decide)).trans vinOk,
      (Blk.flag_powerFail _ (by unfold Fld.fits; decide) (by unfold Fld.apart; decide) (by unfold Fld.apart; decide)).trans holdOk,
      (Blk.flag_powerFail _ (by unfold Fld.fits; decide) (by unfold Fld.apart; decide) (by unfold Fld.apart; decide)).trans up,
      low.trans count, fun h => absurd below (by omega), fun _ => failed⟩
  · rw [decide_eq_false below, Blk.when, if_neg Bool.false_ne_true]
    exact ⟨vinOk, holdOk, up, count, fun _ => fail, fun h => absurd h below⟩

theorem Blk.vinGood_iff (b : Blk) (vin : Nat) :
    b.vinGood vin = true ↔ b.get OASIS.SUPPLY_THR_VIN_LOW * 10 + 50 ≤ vin ∨
      b.flag OASIS.STATUS_VIN_OK = true ∧ b.get OASIS.SUPPLY_THR_VIN_LOW * 10 ≤ vin := by
  simp only [Blk.vinGood, Bool.or_eq_true, Bool.and_eq_true, decide_eq_true_eq]

theorem Blk.holdGood_iff (b : Blk) (hold : Nat) :
    b.holdGood hold = true ↔ b.get OASIS.HOLD_MIN ≤ hold ∨ b.flag OASIS.STATUS_HOLD_OK = true ∧ b.get OASIS.HOLD_MIN ≤ hold + 50 := by
  simp only [Blk.holdGood, Bool.or_eq_true, Bool.and_eq_true, decide_eq_true_eq]

/-! ### The tick -/

theorem Blk.setRtc_domOn (b : Blk) (v : Nat) : (b.setRtc v).domOn = b.domOn := (Blk.set_domOn _ _ _).trans (Blk.set_domOn _ _ _)

theorem Blk.rtc_setRtc (b : Blk) {v : Nat} (fits : v < 2 ^ 48) : (b.setRtc v).rtc = v := by
  have lo : ((b.set OASIS.RTC_LO (v % 2 ^ 32)).set OASIS.RTC_HI (v / 2 ^ 32)).get OASIS.RTC_LO = v % 2 ^ 32 := by
    rw [Blk.get_set_apart _ _ _ _ (by unfold Fld.fits; decide) (by unfold Fld.apart; decide), Blk.get_set_same _ _ _ (by unfold Fld.fits; decide)]
    exact Nat.mod_mod _ _
  have hi : ((b.set OASIS.RTC_LO (v % 2 ^ 32)).set OASIS.RTC_HI (v / 2 ^ 32)).get OASIS.RTC_HI = v / 2 ^ 32 := by
    rw [Blk.get_set_same _ _ _ (by unfold Fld.fits; decide)]
    exact Nat.mod_eq_of_lt (by show v / 2 ^ 32 < 2 ^ 16; omega)
  unfold Blk.rtc Blk.setRtc
  rw [lo, hi]
  omega

/-- With SYS off the line accumulator takes a tick's share. -/
def Blk.lpHeld (b : Blk) : Blk := if b.powered Page.SYS = true then b else { b with ep := { b.ep with lpAcc := b.ep.lpAcc + 300000 } }

theorem Blk.lpHeld_eq (b : Blk) : b.when b.onLp (fun b => { b with ep := { b.ep with lpAcc := b.ep.lpAcc + 300000 } }) = b.lpHeld := by
  unfold Blk.lpHeld Blk.when Blk.onLp
  cases b.powered Page.SYS <;> rfl

theorem Blk.rtc_lpHeld (b : Blk) : b.lpHeld.rtc = b.rtc := by
  unfold Blk.lpHeld
  split <;> rfl

/-- The running counts of the detector and of the tally, then presence and supply. -/
def Blk.tickRest (x : Blk) (vin hold : Nat) (holdup fail closed : Bool) : Blk :=
  let counted := x.setDet { x.oasis.det with hold := x.oasis.det.hold.map (fun h => h.map (· - 1)) }
  ((counted.setTally { counted.tally with wait := counted.tally.wait - 1 }).presTick closed).supplyTick vin hold holdup fail

theorem Blk.oasisTick_on {b : Blk} (vin hold : Nat) (holdup fail closed : Bool) (on : b.powered Page.OASIS = true) :
    b.oasisTick vin hold holdup fail closed = (b.setRtc ((b.rtc + 1) % 2 ^ 48)).lpHeld.tickRest vin hold holdup fail closed := by
  rw [← Blk.lpHeld_eq]
  exact if_neg (by rw [on]; decide)

/-- The tick in the words of the statement. -/
theorem Blk.oasisTick_words {b : Blk} (vin hold : Nat) (holdup fail closed : Bool) (on : b.powered Page.OASIS = true) :
    let ticked := b.setRtc ((b.rtc + 1) % 2 ^ 48)
    let held := if b.powered Page.SYS = true then ticked else { ticked with ep := { ticked.ep with lpAcc := ticked.ep.lpAcc + 300000 } }
    let counted := held.setDet { held.oasis.det with hold := held.oasis.det.hold.map (fun h => h.map (· - 1)) }
    let sampled := ((counted.setTally { counted.tally with wait := counted.tally.wait - 1 }).presTick closed).supplyTick vin hold holdup fail
    held.rtc = (b.rtc + 1) % 2 ^ 48 ∧ b.oasisTick vin hold holdup fail closed = sampled := by
  intro ticked held
  have on' : ticked.powered Page.SYS = b.powered Page.SYS := Blk.powered_congr (b.setRtc_domOn _) _
  have heldEq : ticked.lpHeld = held := by rw [Blk.lpHeld, on']
  have clock : held.rtc = (b.rtc + 1) % 2 ^ 48 := by
    rw [← heldEq, Blk.rtc_lpHeld]
    exact b.rtc_setRtc (Nat.mod_lt _ (by decide))
  have effect := Blk.oasisTick_on vin hold holdup fail closed on
  rw [show (b.setRtc ((b.rtc + 1) % 2 ^ 48)).lpHeld = held from heldEq] at effect
  exact ⟨clock, effect⟩

theorem Node.bootResume_eq (n : Node) :
    let waits := n.b.powered Page.SYS = true ∧ n.b.get SYS.BOOT_STATUS_PHASE = 1 ∧ n.erasureDue = true ∧ n.b.flag OASIS.STATUS_VIN_OK = true ∧
      n.b.flag OASIS.STATUS_HOLD_OK = true
    (waits → n.bootResume = n.bootPhase1.lifeSync) ∧ (¬waits → n.bootResume = n) := by
  intro waits
  have test : (n.b.powered Page.SYS && n.b.get SYS.BOOT_STATUS_PHASE == 1 && n.erasureDue && n.b.flag OASIS.STATUS_VIN_OK &&
      n.b.flag OASIS.STATUS_HOLD_OK) = true ↔ waits := by
    simp only [waits, Bool.and_eq_true, beq_iff_eq, and_assoc]
  exact ⟨fun h => if_pos (test.mpr h), fun h => if_neg (mt test.mp h)⟩

/-! ### Presence -/

theorem Blk.presOpen_test (b : Blk) :
    (b.powered Page.OASIS && b.flag OASIS.STATUS_PRES_CLOSED && decide (presHold ≤ b.oasis.closedFor) && !b.oasis.opened &&
      !b.flag OASIS.STATUS_PRES_STUCK) = true ↔ b.powered Page.OASIS = true ∧ b.flag OASIS.STATUS_PRES_CLOSED = true ∧
        presHold ≤ b.oasis.closedFor ∧ b.oasis.opened = false ∧ b.flag OASIS.STATUS_PRES_STUCK = false := by
  simp only [Bool.and_eq_true, decide_eq_true_eq, Bool.not_eq_true', and_assoc]

/-- A presence window opens. -/
def Blk.presOpened (b : Blk) : Blk :=
  (((b.setOasis { b.oasis with opened := true, windowLeft := presWindow - (b.oasis.closedFor - presHold) }).set
    OASIS.STATUS_PRES_WINDOW 1).raise OASIS.IRQ_RAW_PRES_OPEN).wakeSource 2

theorem Blk.wakeSource_keeps (b : Blk) (src : Nat) : b.keepsRegs (b.wakeSource src) [OASIS.WAKE_SRC_SRC.key] := by
  unfold Blk.wakeSource
  split
  · exact b.keepsRegs_refl _
  · dsimp only
    split
    · split
      · exact (b.keepsRegs_refl _).set _ (by decide)
      · split
        · exact b.keepsRegs_refl _
        · exact b.keepsRegs_refl _
    · split
      · exact b.keepsRegs_refl _
      · exact b.keepsRegs_refl _

theorem Blk.presOpened_window (b : Blk) : b.presOpened.flag OASIS.STATUS_PRES_WINDOW = true := by
  have window := (b.setOasis { b.oasis with opened := true, windowLeft := presWindow - (b.oasis.closedFor - presHold) }).flag_set_one
    OASIS.STATUS_PRES_WINDOW (by unfold Fld.fits; decide) (by decide)
  have raised := (Blk.flag_set_apart _ (f := OASIS.IRQ_RAW_PRES_OPEN) (g := OASIS.STATUS_PRES_WINDOW) 1 (by unfold Fld.fits; decide)
    (by unfold Fld.apart; decide)).trans window
  exact ((Blk.wakeSource_keeps _ 2).flag (by decide)).trans raised

theorem Node.presOpen_closed {n : Node} (h : n.b.presOpen = n.b) : n.presOpen = n := by
  have same : n.on Blk.presOpen = n := congrArg (fun b => { n with b := b }) h
  unfold Node.presOpen
  rw [same]
  refine if_neg ?_
  cases n.b.flag OASIS.STATUS_PRES_WINDOW <;> simp

/-- The window that opens heals a boot that failed for want of it. -/
def Blk.presHeals (b : Blk) : Prop :=
  b.flag OASIS.STATUS_PRES_WINDOW = false ∧ b.presOpened.inMaintenance = true ∧ b.presOpened.get SYS.BOOT_STATUS_MAINT_CODE = 0x1007

theorem Node.presOpen_opens {n : Node} (h : n.b.presOpen = n.b.presOpened) :
    (¬n.b.presHeals → n.presOpen = { n with b := n.b.presOpened }) ∧
    (n.b.presHeals → n.presOpen =
      ({ n with b := n.b.presOpened.writeBootRec { n.b.presOpened.bootRec with failsA := 0, failsB := 0 } } : Node).warmReset 2 true) := by
  have open_ : n.on Blk.presOpen = { n with b := n.b.presOpened } := congrArg (fun b => { n with b := b }) h
  have test : (!n.b.flag OASIS.STATUS_PRES_WINDOW && n.b.presOpened.flag OASIS.STATUS_PRES_WINDOW && n.b.presOpened.inMaintenance &&
      n.b.presOpened.get SYS.BOOT_STATUS_MAINT_CODE == 0x1007) = true ↔ n.b.presHeals := by
    simp only [Blk.presHeals, n.b.presOpened_window, Bool.and_true, Bool.and_eq_true, Bool.not_eq_true', beq_iff_eq, and_assoc]
  unfold Node.presOpen
  rw [open_]
  exact ⟨fun h => if_neg (mt test.mp h), fun h => if_pos (test.mpr h)⟩

/-- PRES_N has settled on its other level. -/
def Blk.presSettled (b : Blk) (closed : Bool) : Blk :=
  (b.set OASIS.STATUS_PRES_CLOSED (bitNat closed)).when (!closed) (fun b => b.set OASIS.STATUS_PRES_STUCK 0)

theorem Blk.presSettled_shows (b : Blk) (closed : Bool) :
    (b.presSettled closed).flag OASIS.STATUS_PRES_CLOSED = closed ∧
    (b.presSettled closed).get OASIS.STATUS_PRES_STUCK = (if closed then b.get OASIS.STATUS_PRES_STUCK else 0) ∧
    b.keepsRegs (b.presSettled closed) [OASIS.STATUS_PRES_CLOSED.key] ∧ b.keepsBehind (b.presSettled closed) := by
  have set_ := b.flag_set_bit (f := OASIS.STATUS_PRES_CLOSED) closed (by unfold Fld.fits; decide) (by decide)
  have stuck := b.get_set_apart OASIS.STATUS_PRES_CLOSED OASIS.STATUS_PRES_STUCK (bitNat closed) (by unfold Fld.fits; decide) (by unfold Fld.apart; decide)
  have kept : b.keepsRegs (b.set OASIS.STATUS_PRES_CLOSED (bitNat closed)) [OASIS.STATUS_PRES_CLOSED.key] := (b.keepsRegs_refl _).set _ (by decide)
  have behind := b.keepsBehind_set OASIS.STATUS_PRES_CLOSED (bitNat closed)
  cases closed
  · exact ⟨(Blk.flag_set_apart _ _ (by unfold Fld.fits; decide) (by unfold Fld.apart; decide)).trans set_,
      Blk.get_set_same _ OASIS.STATUS_PRES_STUCK 0 (by unfold Fld.fits; decide), kept.set _ (by decide), behind.set _ _⟩
  · exact ⟨set_, stuck, kept, behind⟩

/-- The counts of presence start anew. -/
def Blk.presCleared (b : Blk) : Blk := b.setOasis { b.oasis with presSame := 0, closedFor := 0, opened := false }

theorem Blk.presCleared_shows (b : Blk) :
    b.presCleared.regs = b.regs ∧ b.presCleared.oasis = { b.oasis with presSame := 0, closedFor := 0, opened := false } ∧
    b.keepsMemory b.presCleared := ⟨rfl, rfl, ⟨rfl, rfl, rfl⟩⟩

/-- PRES_N's change as it shows. -/
theorem Blk.presChange_shows {b : Blk} (on : b.powered Page.OASIS = true) (same : presSame ≤ b.oasis.presSame) :
    let closed := !b.flag OASIS.STATUS_PRES_CLOSED
    ∃ x, b.presChange = x ∧ x.flag OASIS.STATUS_PRES_CLOSED = closed ∧
      x.get OASIS.STATUS_PRES_STUCK = (if closed then b.get OASIS.STATUS_PRES_STUCK else 0) ∧
      x.oasis = { b.oasis with presSame := 0, closedFor := 0, opened := false } ∧
      b.keepsRegs x [OASIS.STATUS_PRES_CLOSED.key] ∧ b.keepsMemory x := by
  intro closed
  obtain ⟨level, stuck, kept, behind⟩ := b.presSettled_shows closed
  obtain ⟨regs, oasis, memory⟩ := (b.presSettled closed).presCleared_shows
  have effect : b.presChange = (b.presSettled closed).presCleared := if_pos (by rw [on, decide_eq_true same]; rfl)
  refine ⟨_, effect, ?_, (Blk.get_of_regs_eq regs _).trans stuck, ?_, ?_, behind.memory.trans memory⟩
  · exact (congrArg (fun v => v != 0) (Blk.get_of_regs_eq regs _)).trans level
  · rw [oasis, behind.proj (·.oasis) (fun _ _ _ _ _ => rfl)]
  · exact fun k hk => (congrArg (fun r => Tbl.get regReset r k) regs).trans (kept k hk)

/-- A stuck switch, in STATUS and IRQ_RAW. -/
def Blk.stuckMarked (b : Blk) : Blk := (b.set OASIS.STATUS_PRES_STUCK 1).raise OASIS.IRQ_RAW_PRES_STUCK

/-- Its window is over. -/
def Blk.windowOver (b : Blk) : Blk := b.setOasis { b.oasis with windowLeft := 0 }

/-- WINDOW falls and the switch is captured. -/
def Blk.stuckTold (b : Blk) : Blk := (b.set OASIS.STATUS_PRES_WINDOW 0).captureOwnFree Page.OASIS oaPresStuck

theorem Blk.stuckMarked_shows (b : Blk) :
    b.stuckMarked.flag OASIS.STATUS_PRES_STUCK = true ∧ b.stuckMarked.flag OASIS.IRQ_RAW_PRES_STUCK = true ∧
    b.keepsOtherPages b.stuckMarked [Page.OASIS] ∧ b.keepsMemory b.stuckMarked := by
  have stuck := b.flag_set_one OASIS.STATUS_PRES_STUCK (by unfold Fld.fits; decide) (by decide)
  exact ⟨(Blk.flag_set_apart _ (f := OASIS.IRQ_RAW_PRES_STUCK) 1 (by unfold Fld.fits; decide) (by unfold Fld.apart; decide)).trans stuck,
    Blk.flag_raise_same _ OASIS.IRQ_RAW_PRES_STUCK (by unfold Fld.fits; decide) (by decide),
    ((b.keepsOtherPages_refl _).set _ (by decide)).set (f := OASIS.IRQ_RAW_PRES_STUCK) 1 (by decide), ((b.keepsBehind_set _ _).raise _).memory⟩

theorem Blk.windowOver_shows (b : Blk) : b.windowOver.regs = b.regs ∧ b.windowOver.presLeft = 0 ∧ b.keepsMemory b.windowOver :=
  ⟨rfl, show BitVec.ofNat 32 (0 / ticksPerSec) = 0 by decide, ⟨rfl, rfl, rfl⟩⟩

theorem Blk.stuckTold_shows (b : Blk) :
    b.stuckTold.flag OASIS.STATUS_PRES_STUCK = b.flag OASIS.STATUS_PRES_STUCK ∧ b.stuckTold.flag OASIS.STATUS_PRES_WINDOW = false ∧
    b.stuckTold.flag OASIS.IRQ_RAW_PRES_STUCK = b.flag OASIS.IRQ_RAW_PRES_STUCK ∧ b.stuckTold.presLeft = b.presLeft ∧
    b.keepsOtherPages b.stuckTold [Page.OASIS] ∧ b.keepsMemory b.stuckTold := by
  have captured := (b.set OASIS.STATUS_PRES_WINDOW 0).keepsRegs_captureOwnFree Page.OASIS oaPresStuck
  have behind : b.keepsBehind b.stuckTold := (b.keepsBehind_set _ _).captureOwnFree _ _
  refine ⟨(captured.flag (by decide)).trans (Blk.flag_set_apart _ 0 (by unfold Fld.fits; decide) (by unfold Fld.apart; decide)),
    (captured.flag (by decide)).trans (b.flag_set_bit (f := OASIS.STATUS_PRES_WINDOW) false (by unfold Fld.fits; decide) (by decide)), ?_,
    behind.proj Blk.presLeft (fun _ _ _ _ _ => rfl), ((b.keepsOtherPages_refl _).set _ (by decide)).trans (captured.otherPages (by decide)), behind.memory⟩
  exact (Blk.flag_captureOwnFree_hIrq _ Page.OASIS oaPresStuck (bit := 2) (by decide)).trans
    (Blk.flag_set_apart _ (g := OASIS.IRQ_RAW_PRES_STUCK) 0 (by unfold Fld.fits; decide) (by unfold Fld.apart; decide))

/-- A stuck switch as it shows. -/
theorem Blk.presStuck_shows {b : Blk} (on : b.powered Page.OASIS = true) (closed : b.flag OASIS.STATUS_PRES_CLOSED = true)
    (long : presStuckAt ≤ b.oasis.closedFor) (fresh : b.flag OASIS.STATUS_PRES_STUCK = false) :
    ∃ x, b.presStuck = x ∧ x.flag OASIS.STATUS_PRES_STUCK = true ∧ x.flag OASIS.STATUS_PRES_WINDOW = false ∧
      x.flag OASIS.IRQ_RAW_PRES_STUCK = true ∧ x.presLeft = 0 ∧ b.keepsOtherPages x [Page.OASIS] ∧ b.keepsMemory x := by
  have effect : b.presStuck = b.stuckMarked.windowOver.stuckTold := if_pos (by rw [on, closed, decide_eq_true long, fresh]; rfl)
  obtain ⟨stuck, irq, pages, memory⟩ := b.stuckMarked_shows
  obtain ⟨regs, left, memory'⟩ := b.stuckMarked.windowOver_shows
  obtain ⟨stuck', window, irq', left', pages', memory''⟩ := b.stuckMarked.windowOver.stuckTold_shows
  have words (k : Nat) : b.stuckMarked.windowOver.word k = b.stuckMarked.word k := congrArg (fun r => Tbl.get regReset r k) regs
  have flags (f : Fld) : b.stuckMarked.windowOver.flag f = b.stuckMarked.flag f := congrArg (fun v => v != 0) (Blk.get_of_regs_eq regs f)
  exact ⟨_, effect, (stuck'.trans (flags _)).trans stuck, window, (irq'.trans (flags _)).trans irq, left'.trans left,
    fun k hk => ((pages' k hk).trans (words k)).trans (pages k hk), (memory.trans memory').trans memory''⟩

/-! ### The clock as written -/

theorem Blk.writeBlock_rtcLo (b : Blk) (a : Agent) (v : Word) : b.writeBlock a Page.OASIS 0x040 v = b.setWord OASIS.RTC_LO.key v := by
  rw [Blk.writeBlock_oasis, if_neg (by decide)]
  show b.storeKey (regKey Page.OASIS 0x040) v = _
  rw [b.storeKey_direct (r := ⟨0x040, 1, 0, .none, 0, 0xFFFFFFFF, 0, 0, false⟩) v (by decide) rfl, maskedWrite_all (by decide) rfl]
  rfl

/-- RTC_HI's row. -/
def rtcHiRow : RegRow := ⟨0x044, 1, 0, .none, 0, 0xFFFF, 0, 0, false⟩

theorem Blk.writeBlock_rtcHi (b : Blk) (a : Agent) (v : Word) :
    b.writeBlock a Page.OASIS 0x044 v = b.setWord OASIS.RTC_HI.key (maskedWrite rtcHiRow (b.word OASIS.RTC_HI.key) v) := by
  rw [Blk.writeBlock_oasis, if_neg (by decide)]
  show b.storeKey (regKey Page.OASIS 0x044) v = _
  rw [b.storeKey_direct (r := rtcHiRow) v (by decide) rfl]
  rfl

theorem maskedWrite_rtcHi (old v : Word) : bitsAt (maskedWrite rtcHiRow old v).toNat 0 16 = v.toNat % 2 ^ 16 := by
  have low : (maskedWrite rtcHiRow old v).setWidth 16 = v.setWidth 16 := by
    ext i hi
    have inside : i < 32 := by omega
    have ones : (65535#16)[i] = true := by
      have all : 65535#16 = BitVec.allOnes 16 := by decide
      rw [all, BitVec.getElem_allOnes]
    simp [maskedWrite, rtcHiRow, inside, ones]
  have word := congrArg BitVec.toNat low
  rw [BitVec.toNat_setWidth, BitVec.toNat_setWidth] at word
  rw [bitsAt, Nat.shiftRight_zero]
  exact word

/-- The staged low word is taken. -/
def Blk.stageTaken (b : Blk) (a : Agent) : Blk := { b with stage := Tbl.put (dflt none) b.stage (agentPage a Page.OASIS) none }

/-- The words of the clock. -/
def Blk.rtcStored (b : Blk) (lo v : Word) : Blk :=
  ((b.setWord OASIS.RTC_LO.key lo).setWord OASIS.RTC_HI.key (maskedWrite rtcHiRow ((b.setWord OASIS.RTC_LO.key lo).word OASIS.RTC_HI.key) v)).set
    OASIS.STATUS_RTC_VALID 1

theorem Blk.commitWide_rtc (b : Blk) (a : Agent) (v : Word) :
    b.commitWide a Page.OASIS 0x044 v = (b.stageTaken a).rtcStored ((Tbl.get (dflt none) b.stage (agentPage a Page.OASIS)).getD 0) v := by
  have both (x : Blk) (lo : Word) : ((x.writeBlock a Page.OASIS 0x040 lo).writeBlock a Page.OASIS 0x044 v).set OASIS.STATUS_RTC_VALID 1 = x.rtcStored lo v := by
    rw [x.writeBlock_rtcLo, Blk.writeBlock_rtcHi]
    rfl
  exact both (b.stageTaken a) _

theorem Blk.rtcStored_shows (b : Blk) (lo v : Word) :
    (b.rtcStored lo v).rtc = lo.toNat + v.toNat % 2 ^ 16 * 2 ^ 32 ∧ (b.rtcStored lo v).flag OASIS.STATUS_RTC_VALID = true ∧
    b.keepsOtherPages (b.rtcStored lo v) [Page.OASIS] ∧ b.keepsBehind (b.rtcStored lo v) := by
  have status (k : Nat) (hk : k ≠ OASIS.STATUS_RTC_VALID.key) : (b.rtcStored lo v).word k = _ := Blk.word_set_ne _ OASIS.STATUS_RTC_VALID 1 hk
  have loWord : (b.rtcStored lo v).word OASIS.RTC_LO.key = lo := by
    rw [status _ (by decide), Blk.word_setWord_ne _ _ (by decide), Blk.word_setWord_same]
  have hiWord : (b.rtcStored lo v).word OASIS.RTC_HI.key = maskedWrite rtcHiRow ((b.setWord OASIS.RTC_LO.key lo).word OASIS.RTC_HI.key) v := by
    rw [status _ (by decide), Blk.word_setWord_same]
  have getLo : (b.rtcStored lo v).get OASIS.RTC_LO = lo.toNat := by
    rw [Blk.get, loWord]
    exact Nat.mod_eq_of_lt lo.isLt
  have getHi : (b.rtcStored lo v).get OASIS.RTC_HI = v.toNat % 2 ^ 16 := by
    rw [Blk.get, hiWord]
    exact maskedWrite_rtcHi _ v
  refine ⟨by rw [Blk.rtc, getLo, getHi], Blk.flag_set_one _ _ (by unfold Fld.fits; decide) (by decide),
    (((b.keepsOtherPages_refl _).setWord _ (by decide)).setWord _ (by decide)).set _ (by decide),
    ((b.keepsBehind_setWord _ _).setWord _ _).set _ _⟩

/-- A write of the clock's high word. -/
theorem Node.writeReg_rtc (n : Node) (a : Agent) (v : Word) (hg : n.b.granted a Page.OASIS 0x044 v) :
    n.writeReg a Page.OASIS 0x044 true v = { n with
      b := ((n.b.stageTaken a).rtcStored ((Tbl.get (dflt none) n.b.stage (agentPage a Page.OASIS)).getD 0) v).answered a Page.OASIS 0x044 } := by
  have word : n.b.writeWord a Page.OASIS 0x044 v = n.b.commitWide a Page.OASIS 0x044 v := by
    have low : isWideLow Page.OASIS 0x044 = false := by decide
    have high : isWideHigh Page.OASIS 0x044 = true := by decide
    have rw_ : wideWrites Page.OASIS 0x044 = true := by decide
    have ring : n.b.ringShut Page.OASIS 0x044 = false := rfl
    unfold Blk.writeWord
    rw [ring, low, high, rw_, if_neg (by decide), if_neg (by decide), if_pos (by decide)]
  have written := n.writeReg_word a Page.OASIS 0x044 v hg (by decide) (n.b.dbgOff_of_page 0x044 (by decide)) (by decide)
    (lifeGate_of_page _ v (by decide) (by decide))
  exact written.trans (congrArg (fun b : Blk => { n with b := b.answered a Page.OASIS 0x044 }) (word.trans (n.b.commitWide_rtc a v)))

theorem Blk.answered_shows (b : Blk) (a : Agent) (page off : Nat) :
    (b.answered a page off).regs = b.regs ∧ (b.answered a page off).ep = b.ep ∧ b.keepsMemory (b.answered a page off) := ⟨rfl, rfl, ⟨rfl, rfl, rfl⟩⟩

theorem Blk.stageTaken_shows (b : Blk) (a : Agent) :
    (b.stageTaken a).regs = b.regs ∧ (b.stageTaken a).ep = b.ep ∧ b.keepsMemory (b.stageTaken a) := ⟨rfl, rfl, ⟨rfl, rfl, rfl⟩⟩

/-- A write of the clock's high word as it shows. -/
theorem Node.writeReg_rtc_shows (n : Node) (a : Agent) (v : Word) (hg : n.b.granted a Page.OASIS 0x044 v) :
    ∃ x, n.writeReg a Page.OASIS 0x044 true v = { n with b := x } ∧
      x.rtc = ((Tbl.get (dflt none) n.b.stage (agentPage a Page.OASIS)).getD 0).toNat + v.toNat % 2 ^ 16 * 2 ^ 32 ∧
      x.flag OASIS.STATUS_RTC_VALID = true ∧ n.b.keepsOtherPages x [Page.OASIS] ∧ x.ep.line = n.b.ep.line ∧ n.b.keepsMemory x := by
  obtain ⟨taken, ep, memory⟩ := n.b.stageTaken_shows a
  obtain ⟨clock, valid, pages, behind⟩ :=
    (n.b.stageTaken a).rtcStored_shows ((Tbl.get (dflt none) n.b.stage (agentPage a Page.OASIS)).getD 0) v
  obtain ⟨regs, ep', memory'⟩ := Blk.answered_shows
    ((n.b.stageTaken a).rtcStored ((Tbl.get (dflt none) n.b.stage (agentPage a Page.OASIS)).getD 0) v) a Page.OASIS 0x044
  have line := behind.proj (fun b => b.ep.line) (fun _ _ _ _ _ => rfl)
  have words (k : Nat) : (n.b.stageTaken a).word k = n.b.word k := congrArg (fun r => Tbl.get regReset r k) taken
  refine ⟨_, n.writeReg_rtc a v hg, ?_, (congrArg (fun w => w != 0) (Blk.get_of_regs_eq regs _)).trans valid, fun k hk => ?_, ?_,
    (memory.trans behind.memory).trans memory'⟩
  · rw [Blk.rtc, Blk.get_of_regs_eq regs, Blk.get_of_regs_eq regs, ← clock, Blk.rtc]
  · exact ((congrArg (fun r => Tbl.get regReset r k) regs).trans (pages k hk)).trans (words k)
  · exact ((congrArg (fun e => e.line) ep').trans line).trans (congrArg (fun e => e.line) ep)

/-! ### The commands -/

/-- Whether VIN was low for RIDE_T. -/
theorem Blk.vinRide_test (b : Blk) :
    (b.powered Page.OASIS && decide (0 < b.oasis.vinLow) && decide (b.rideTicks ≤ b.oasis.vinLow)) = true ↔
      b.powered Page.OASIS = true ∧ 0 < b.oasis.vinLow ∧ b.rideTicks ≤ b.oasis.vinLow := by
  simp only [Bool.and_eq_true, decide_eq_true_eq, and_assoc]

/-- Whether the alarm's time has come. -/
theorem Blk.rtcAlarm_test (b : Blk) :
    (b.powered Page.OASIS && b.flag OASIS.ALARM_CTRL_ALARM_EN && b.rtc == b.get OASIS.ALARM_LO + b.get OASIS.ALARM_HI * 2 ^ 32) = true ↔
      b.powered Page.OASIS = true ∧ b.flag OASIS.ALARM_CTRL_ALARM_EN = true ∧ b.rtc = b.get OASIS.ALARM_LO + b.get OASIS.ALARM_HI * 2 ^ 32 := by
  simp only [Bool.and_eq_true, beq_iff_eq, and_assoc]

/-- Whether PRES_N has settled on its other level. -/
theorem Blk.presChange_test (b : Blk) :
    (b.powered Page.OASIS && decide (presSame ≤ b.oasis.presSame)) = true ↔ b.powered Page.OASIS = true ∧ presSame ≤ b.oasis.presSame := by
  simp only [Bool.and_eq_true, decide_eq_true_eq]

/-- Whether the presence window is over. -/
theorem Blk.presClose_test (b : Blk) :
    (b.powered Page.OASIS && b.flag OASIS.STATUS_PRES_WINDOW && b.oasis.windowLeft == 0) = true ↔
      b.powered Page.OASIS = true ∧ b.flag OASIS.STATUS_PRES_WINDOW = true ∧ b.oasis.windowLeft = 0 := by
  simp only [Bool.and_eq_true, beq_iff_eq, and_assoc]

/-- Whether the switch has been closed for too long. -/
theorem Blk.presStuck_test (b : Blk) :
    (b.powered Page.OASIS && b.flag OASIS.STATUS_PRES_CLOSED && decide (presStuckAt ≤ b.oasis.closedFor) && !b.flag OASIS.STATUS_PRES_STUCK) = true ↔
      b.powered Page.OASIS = true ∧ b.flag OASIS.STATUS_PRES_CLOSED = true ∧ presStuckAt ≤ b.oasis.closedFor ∧
        b.flag OASIS.STATUS_PRES_STUCK = false := by
  simp only [Bool.and_eq_true, decide_eq_true_eq, Bool.not_eq_true', and_assoc]

/-- Whether the store was weak for 10 s. -/
theorem Blk.storeWeak_test (b : Blk) :
    (b.powered Page.OASIS && b.ergRuns && decide (10 * ticksPerSec ≤ b.oasis.holdLow)) = true ↔
      b.powered Page.OASIS = true ∧ b.ergRuns = true ∧ 10 * ticksPerSec ≤ b.oasis.holdLow := by
  simp only [Bool.and_eq_true, decide_eq_true_eq, and_assoc]

/-- Settles O50: the tick by `oasisTick_words` and `supplyTick_flags`, presence by its `_shows` lemmas, the clock by `writeReg_rtc_shows`. -/
theorem oasisKeepsTimeSupplyAndPresence : Obligations.OasisKeepsTimeSupplyAndPresence := by
  unfold Obligations.OasisKeepsTimeSupplyAndPresence
  refine ⟨fun s vin hold holdup fail closed => ?_, Node.bootResume_eq, fun b vin hold holdup => ?_, fun s => ?_, fun s a v ha hg => ?_⟩
  · intro ticked held counted sampled
    refine ⟨fun on => ?_, fun off => ?_⟩
    · obtain ⟨clock, effect⟩ := Blk.oasisTick_words (b := s.blk) vin hold holdup fail closed on
      exact ⟨clock, exec_next (f := fun n => (n.on (fun b => b.oasisTick vin hold holdup fail closed)).bootResume) rfl rfl
        (congrArg (fun b => ({ s.node with b := b } : Node).bootResume) effect)⟩
    · have idle : s.blk.oasisTick vin hold holdup fail closed = s.blk := if_pos (by rw [off]; rfl)
      exact exec_next (f := fun n => (n.on (fun b => b.oasisTick vin hold holdup fail closed)).bootResume) rfl rfl
        (congrArg (fun b => ({ s.node with b := b } : Node).bootResume) idle)
  · intro low least t
    obtain ⟨vinOk, holdOk, up, count, stays, fails⟩ := b.supplyTick_flags vin hold holdup
    exact ⟨by rw [vinOk]; exact b.vinGood_iff vin, by rw [holdOk]; exact b.holdGood_iff hold, up, count, stays, fails⟩
  · intro on o closedNow ridden rings settled opens opened heals closes sticks weak
    refine ⟨fun h => ?_, fun h => ⟨?_, s.blk.powerFail_shows.1⟩, fun h => ?_, fun h => ?_, fun h => ?_, fun h => ?_, fun h => ?_, fun h sick => ?_,
      fun h well => ?_, fun h => ?_, fun h => ?_, fun h => ?_, fun h => ?_, fun h => ?_, fun h => ?_⟩
    · exact exec_blk_same (f := Blk.vinRideExpiry) rfl rfl (if_neg (mt s.blk.vinRide_test.mp h))
    · exact exec_blk (f := Blk.vinRideExpiry) rfl rfl (if_pos (s.blk.vinRide_test.mpr h))
    · exact exec_blk_same (f := Blk.rtcAlarm) rfl rfl (if_neg (mt s.blk.rtcAlarm_test.mp h))
    · exact exec_blk (f := Blk.rtcAlarm) rfl rfl (if_pos (s.blk.rtcAlarm_test.mpr h))
    · exact exec_blk_same (f := Blk.presChange) rfl rfl (if_neg (mt s.blk.presChange_test.mp h))
    · intro closed
      obtain ⟨x, effect, level, stuck, oasis, kept, memory⟩ := Blk.presChange_shows h.1 h.2
      exact completes_of_blk (f := Blk.presChange) rfl rfl effect ⟨level, stuck, oasis, kept, memory.node⟩
    · exact exec_same (f := Node.presOpen) rfl rfl (Node.presOpen_closed (if_neg (mt s.blk.presOpen_test.mp h)))
    · exact exec_next (f := Node.presOpen) rfl rfl ((Node.presOpen_opens (if_pos (s.blk.presOpen_test.mpr h))).1 sick)
    · exact exec_next (f := Node.presOpen) rfl rfl ((Node.presOpen_opens (if_pos (s.blk.presOpen_test.mpr h))).2 well)
    · exact exec_blk_same (f := Blk.presClose) rfl rfl (if_neg (mt s.blk.presClose_test.mp h))
    · exact exec_blk (f := Blk.presClose) rfl rfl (if_pos (s.blk.presClose_test.mpr h))
    · exact exec_blk_same (f := Blk.presStuck) rfl rfl (if_neg (mt s.blk.presStuck_test.mp h))
    · obtain ⟨on, closed, long, fresh⟩ := h
      obtain ⟨x, effect, stuck, window, irq, left, pages, memory⟩ := Blk.presStuck_shows on closed long fresh
      exact completes_of_blk (f := Blk.presStuck) rfl rfl effect ⟨stuck, window, irq, left, pages, memory.node⟩
    · exact exec_blk_same (f := Blk.storeWeak) rfl rfl (if_neg (mt s.blk.storeWeak_test.mp h))
    · exact exec_blk (f := Blk.storeWeak) rfl rfl (if_pos (s.blk.storeWeak_test.mpr h))
  · intro low
    obtain ⟨x, effect, clock, valid, pages, line, memory⟩ := s.node.writeReg_rtc_shows a v hg
    exact completes_of_node (f := fun n => n.writeReg a Page.OASIS 0x044 true v) rfl ha effect ⟨clock, valid, pages, line, memory.node⟩

end Sys2Proof.Machine
end

section
/-! PROOFS. Resets of the node and the tally's course (spec/16 R407, spec/17 R439 to R442, spec/18 R458). -/

namespace Sys2Proof.Machine

/-! ### Fields after a run of writes -/

/-- `g` lies in its word and shares no bit with `f`. -/
def Fld.clearOf (g f : Fld) : Bool := decide (g.lo + g.w ≤ 32) && decide (f.key ≠ g.key ∨ f.lo + f.w ≤ g.lo ∨ g.lo + g.w ≤ f.lo)

theorem Blk.get_set_clear (b : Blk) {f g : Fld} (v : Nat) (h : g.clearOf f = true) : (b.set f v).get g = b.get g := by
  simp only [Fld.clearOf, Bool.and_eq_true, decide_eq_true_eq] at h
  exact b.get_set_apart f g v h.1 h.2

theorem Blk.flag_set_clear (b : Blk) {f g : Fld} (v : Nat) (h : g.clearOf f = true) : (b.set f v).flag g = b.flag g :=
  congrArg (fun v => v != 0) (b.get_set_clear v h)

theorem Blk.get_raise_clear (b : Blk) {f g : Fld} (h : g.clearOf f = true) : (b.raise f).get g = b.get g := b.get_set_clear 1 h

theorem Blk.flag_raise_clear (b : Blk) {f g : Fld} (h : g.clearOf f = true) : (b.raise f).flag g = b.flag g := b.flag_set_clear 1 h

/-- A one-bit field reads as it was set. -/
theorem Blk.flag_set_bitNat (b : Blk) {f : Fld} (on : Bool) (h : (decide (f.lo + f.w ≤ 32) && decide (0 < f.w)) = true) :
    (b.set f (bitNat on)).flag f = on := by
  simp only [Bool.and_eq_true, decide_eq_true_eq] at h
  exact b.flag_set_bit on h.1 h.2

/-! ### Resets -/

/-- A trial slot that runs counts a failure. -/
def Blk.warmCounted (b : Blk) : Blk :=
  if b.bootRec.trial = 1 ∧ 2 ≤ b.get SYS.BOOT_STATUS_PHASE ∧ b.get SYS.BOOT_STATUS_ERG_SLOT = b.bootRec.active
  then b.failSlot (b.get SYS.BOOT_STATUS_ERG_SLOT) else b

/-- The pages of a warm reset, the wake records appended again, and the cause. -/
def Blk.warmed (b : Blk) (cause : Nat) : Blk :=
  (b.resetPages .warm false (fun p => p != Page.OASIS && p != Page.EPOCH && !(p == Page.TALLY && b.tallyRuns))).wakeAgain.set OASIS.RESET_CAUSE cause

theorem Blk.warmCounted_eq (b : Blk) :
    b.when (true && b.bootRec.trial == 1 && decide (2 ≤ b.get SYS.BOOT_STATUS_PHASE) && b.get SYS.BOOT_STATUS_ERG_SLOT == b.bootRec.active)
      (fun x => x.failSlot (b.get SYS.BOOT_STATUS_ERG_SLOT)) = b.warmCounted := by
  have test : (true && b.bootRec.trial == 1 && decide (2 ≤ b.get SYS.BOOT_STATUS_PHASE) && b.get SYS.BOOT_STATUS_ERG_SLOT == b.bootRec.active) = true ↔
      b.bootRec.trial = 1 ∧ 2 ≤ b.get SYS.BOOT_STATUS_PHASE ∧ b.get SYS.BOOT_STATUS_ERG_SLOT = b.bootRec.active := by
    simp only [Bool.true_and, Bool.and_eq_true, beq_iff_eq, decide_eq_true_eq, and_assoc]
  unfold Blk.warmCounted Blk.when
  by_cases trial : b.bootRec.trial = 1 ∧ 2 ≤ b.get SYS.BOOT_STATUS_PHASE ∧ b.get SYS.BOOT_STATUS_ERG_SLOT = b.bootRec.active
  · rw [if_pos trial, if_pos (test.mpr trial)]
  · rw [if_neg trial, if_neg (mt test.mp trial)]

theorem Node.warmNow_steps (n : Node) (cause : Nat) :
    n.warmNow cause true = if !n.b.powered Page.SYS then n else
      (n.on (fun b => (b.when (true && b.bootRec.trial == 1 && decide (2 ≤ b.get SYS.BOOT_STATUS_PHASE) &&
        b.get SYS.BOOT_STATUS_ERG_SLOT == b.bootRec.active) (fun x => x.failSlot (b.get SYS.BOOT_STATUS_ERG_SLOT))).warmed cause)).boot := rfl

theorem Node.warmNow_on {n : Node} (cause : Nat) (on : n.b.powered Page.SYS = true) :
    n.warmNow cause true = ({ n with b := n.b.warmCounted.warmed cause } : Node).boot := by
  rw [n.warmNow_steps, if_neg (by rw [on]; decide), Node.on, Blk.warmCounted_eq]

theorem Node.warmNow_off {n : Node} (cause : Nat) (off : n.b.powered Page.SYS = false) : n.warmNow cause true = n :=
  if_pos (by rw [off]; rfl)

theorem Node.warmReset_waits {n : Node} (safety : Bool) (burns : n.b.fuse.burn.isSome = true ∧ n.b.powered Page.FUSE = true) :
    n.warmReset (if safety then 3 else 2) true = { n with
      b := { n.b with fuse := { n.b.fuse with resetWaits := if n.b.fuse.resetWaits = 2 then 2 else if safety then 3 else 1 } } } := by
  have effect : n.warmReset (if safety then 3 else 2) true = { n with
      b := { n.b with fuse := { n.b.fuse with
        resetWaits := if n.b.fuse.resetWaits == 2 then 2 else if (if safety then 3 else 2) == 3 then 3 else if true then 1 else 4 } } } :=
    if_pos (by rw [burns.1, burns.2]; rfl)
  rw [effect]
  cases safety <;> simp

theorem Node.warmReset_now {n : Node} (cause : Nat) (counts : Bool) (idle : ¬(n.b.fuse.burn.isSome = true ∧ n.b.powered Page.FUSE = true)) :
    n.warmReset cause counts = n.warmNow cause counts :=
  if_neg (by rwa [Bool.and_eq_true])

/-- What a cold reset clears behind the pages, and its cause. -/
def Blk.coldCleared (b : Blk) : Blk :=
  let quiet := b.setOasis { b.oasis with supply := 0 }
  (quiet.setPower { quiet.power with request := none, step := none, frameAtL0 := none, hot := 0 }).set OASIS.RESET_CAUSE 1

theorem Node.coldNow_on {n : Node} (on : n.b.powered Page.SYS = true) :
    n.coldNow = ({ n with b := (n.b.resetPages .cold false (fun _ => true)).coldCleared } : Node).boot :=
  if_neg (by rw [on]; decide)

theorem Node.coldNow_off {n : Node} (off : n.b.powered Page.SYS = false) : n.coldNow = n := if_pos (by rw [off]; rfl)

theorem Node.coldReset_draws {n : Node} (draws : n.b.powered Page.TALLY = true ∧ n.b.tallyRuns = true) :
    n.coldReset = { n with b := n.b.setTally { n.b.tally with coldWaits := true } } :=
  if_pos (by rw [draws.1, draws.2]; rfl)

theorem Node.coldReset_burns {n : Node} (bar : ¬(n.b.powered Page.TALLY = true ∧ n.b.tallyRuns = true))
    (burns : n.b.fuse.burn.isSome = true ∧ n.b.powered Page.FUSE = true) :
    n.coldReset = { n with b := { n.b with fuse := { n.b.fuse with resetWaits := 2 } } } :=
  (if_neg (by rwa [Bool.and_eq_true])).trans (if_pos (by rw [burns.1, burns.2]; rfl))

theorem Node.coldReset_now {n : Node} (bar : ¬(n.b.powered Page.TALLY = true ∧ n.b.tallyRuns = true))
    (idle : ¬(n.b.fuse.burn.isSome = true ∧ n.b.powered Page.FUSE = true)) : n.coldReset = n.coldNow :=
  (if_neg (by rwa [Bool.and_eq_true])).trans (if_neg (by rwa [Bool.and_eq_true]))

/-! ### PWR.RESET -/

theorem Node.writeReg_reset (n : Node) (a : Agent) (v : Word) (hg : n.b.granted a Page.PWR 0x050 v) :
    n.writeReg a Page.PWR 0x050 true v = (n.writeReset a (v.toNat % 4)).on (fun b => b.answered a Page.PWR 0x050) := by
  have fault : (n.b.accessCause a Page.PWR 0x050 true true v.toNat != 0) = false := by rw [show _ = 0 from hg]; rfl
  have access : n.accessWrite a Page.PWR 0x050 true v = (⟨0, 0⟩, n.writeReset a (v.toNat % 4)) := by
    unfold Node.accessWrite
    rw [if_pos (by decide)]
    exact (if_neg (by rw [fault]; decide)).trans (if_pos (by decide))
  unfold Node.writeReg
  rw [access]
  rfl

/-- A reset asked for through PWR.RESET acts for Hamada alone. -/
theorem Node.writeReset_cases (n : Node) (a : Agent) :
    (a ≠ .hamada → ∀ kind, n.writeReset a kind = { n with b := n.b.captureFree Page.PWR pwResetPriv (agentCode a) }) ∧
    (a = .hamada → n.writeReset a 1 = n.warmReset 2 true ∧ n.writeReset a 2 = n.coldReset) := by
  refine ⟨fun h kind => if_pos (bne_iff_ne.mpr h), fun h => ?_⟩
  subst h
  exact ⟨rfl, rfl⟩

/-! ### The tally's GO -/

theorem Blk.tallyGo_idle {b : Blk} (on : b.powered Page.TALLY = true) (idle : b.ustate = tuIdle) :
    let shownNow := b.flag TALLY.STATUS_SHOWN_VALID = true ∧ b.flag TALLY.STATUS_BAR_DRAWN = true ∧ b.content = b.shown
    let kept := b.setWord TALLY.PENDING_CONTENT_NODE.key b.content
    (shownNow → b.tallyGo = (b.bumpSat TALLY.SKIPPED).raise TALLY.IRQ_RAW_SKIPPED) ∧
    (¬shownNow → b.flag (hEn Page.TALLY) = false → b.tallyGo = b) ∧
    (¬shownNow → b.flag (hEn Page.TALLY) = true → b.tallyGo = kept.setUstate (if b.tally.wait = 0 then tuSupply else tuInterval)) := by
  intro shownNow kept
  have test : (b.flag TALLY.STATUS_SHOWN_VALID && b.flag TALLY.STATUS_BAR_DRAWN && b.content == b.shown) = true ↔ shownNow := by
    simp only [shownNow, Bool.and_eq_true, beq_iff_eq, and_assoc]
  have powered : ¬(!b.powered Page.TALLY) = true := by rw [on]; decide
  have state : (b.ustate == tuIdle) = true := beq_iff_eq.mpr idle
  refine ⟨fun h => ?_, fun h en => ?_, fun h en => ?_⟩
  · exact (if_neg powered).trans ((if_pos state).trans (if_pos (test.mpr h)))
  · exact (if_neg powered).trans ((if_pos state).trans ((if_neg (mt test.mp h)).trans (if_pos (by rw [en]; rfl))))
  · have wait : (if (b.tally.wait == 0) = true then tuSupply else tuInterval) = if b.tally.wait = 0 then tuSupply else tuInterval := by
      simp only [beq_iff_eq]
    exact ((if_neg powered).trans ((if_pos state).trans ((if_neg (mt test.mp h)).trans (if_neg (by rw [en]; decide))))).trans
      (congrArg kept.setUstate wait)

theorem Blk.tallyGo_waits {b : Blk} (on : b.powered Page.TALLY = true) (waits : b.ustate = tuInterval ∨ b.ustate = tuSupply) :
    b.tallyGo = b.setWord TALLY.PENDING_CONTENT_NODE.key b.content := by
  have idle : ¬(b.ustate == tuIdle) = true := by
    rw [beq_iff_eq]
    obtain h | h := waits <;> (rw [h]; decide)
  have state : (b.ustate == tuInterval || b.ustate == tuSupply) = true := by
    rw [Bool.or_eq_true, beq_iff_eq, beq_iff_eq]
    exact waits
  exact (if_neg (by rw [on]; decide)).trans ((if_neg idle).trans (if_pos state))

theorem Blk.tallyGo_runs {b : Blk} (on : b.powered Page.TALLY = true) (runs : tuErase ≤ b.ustate) :
    b.tallyGo = (b.setWord TALLY.PENDING_CONTENT_NODE.key b.content).set TALLY.STATUS_PENDING 1 := by
  have runs : 3 ≤ b.ustate := runs
  have idle : ¬(b.ustate == tuIdle) = true := by rw [beq_iff_eq, tuIdle]; omega
  have state : ¬(b.ustate == tuInterval || b.ustate == tuSupply) = true := by
    rw [Bool.or_eq_true, beq_iff_eq, beq_iff_eq, tuInterval, tuSupply]
    omega
  exact (if_neg (by rw [on]; decide)).trans ((if_neg idle).trans (if_neg state))

/-! ### An update of the tally -/

/-- The interval starts and the content of the update is kept. -/
def Blk.tallyBooked (b : Blk) : Blk := b.setTally { b.tally with wait := b.intervalTicks, showing := b.word TALLY.PENDING_CONTENT_NODE.key }

/-- The update counts. -/
def Blk.tallyCounted (b : Blk) (n : Nat) : Blk :=
  ((b.set TALLY.UPDATE_COUNT n).when (n == 900000) (fun b => b.raise TALLY.IRQ_RAW_LIFE_WARN)).set TALLY.STATUS_WORN (bitNat (decide (1000000 ≤ n)))

/-- The bar is to be erased. -/
def Blk.tallyErasing (b : Blk) (cold : Bool) : Blk :=
  ((((b.set TALLY.STATUS_SHOWN_VALID 0).set TALLY.STATUS_BAR_DRAWN 0).set TALLY.STATUS_PENDING 0).set TALLY.STATUS_COLD (bitNat cold)).setUstate tuErase

theorem Blk.tallyStart_test (b : Blk) :
    (b.active Page.TALLY && b.ustate == tuSupply && b.flag OASIS.STATUS_VIN_OK && b.flag OASIS.STATUS_HOLD_OK) = true ↔
      b.active Page.TALLY = true ∧ b.ustate = tuSupply ∧ b.flag OASIS.STATUS_VIN_OK = true ∧ b.flag OASIS.STATUS_HOLD_OK = true := by
  simp only [Bool.and_eq_true, beq_iff_eq, and_assoc]

theorem Blk.tallyStart_eq {b : Blk} (cold : Bool) (starts : b.active Page.TALLY = true ∧ b.ustate = tuSupply ∧
      b.flag OASIS.STATUS_VIN_OK = true ∧ b.flag OASIS.STATUS_HOLD_OK = true) :
    b.tallyStart cold = (b.tallyBooked.tallyCounted ((b.tallyBooked.get TALLY.UPDATE_COUNT + 1) % 2 ^ 32)).tallyErasing cold :=
  if_pos (b.tallyStart_test.mpr starts)

theorem Blk.tallyBooked_shows (b : Blk) :
    b.tallyBooked.regs = b.regs ∧ b.tallyBooked.tally.wait = b.intervalTicks ∧ b.tallyBooked.tally.showing = b.word TALLY.PENDING_CONTENT_NODE.key ∧
    b.keepsMemory b.tallyBooked := ⟨rfl, rfl, rfl, ⟨rfl, rfl, rfl⟩⟩

theorem Blk.tallyCounted_shows (b : Blk) {n : Nat} (fits : n < 2 ^ 32) :
    (b.tallyCounted n).get TALLY.UPDATE_COUNT = n ∧ ((b.tallyCounted n).flag TALLY.STATUS_WORN = true ↔ 1000000 ≤ n) ∧
    (n = 900000 → (b.tallyCounted n).flag TALLY.IRQ_RAW_LIFE_WARN = true) ∧ b.keepsOtherPages (b.tallyCounted n) [Page.TALLY] ∧
    b.keepsBehind (b.tallyCounted n) := by
  have counted : (b.set TALLY.UPDATE_COUNT n).get TALLY.UPDATE_COUNT = n :=
    (b.get_set_same _ n (by unfold Fld.fits; decide)).trans (Nat.mod_eq_of_lt fits)
  have worn (x : Blk) : (x.set TALLY.STATUS_WORN (bitNat (decide (1000000 ≤ n)))).flag TALLY.STATUS_WORN = true ↔ 1000000 ≤ n := by
    rw [x.flag_set_bitNat _ (by decide), decide_eq_true_eq]
  have pages := (b.keepsOtherPages_refl [Page.TALLY]).set (f := TALLY.UPDATE_COUNT) n (by decide)
  have behind := b.keepsBehind_set TALLY.UPDATE_COUNT n
  unfold Blk.tallyCounted Blk.when
  split
  case isTrue warn =>
    exact ⟨((Blk.get_set_clear _ _ (by decide)).trans (Blk.get_raise_clear _ (by decide))).trans counted, worn _,
      fun _ => (Blk.flag_set_clear _ _ (by decide)).trans (Blk.flag_raise_same _ _ (by unfold Fld.fits; decide) (by decide)),
      (pages.set (f := TALLY.IRQ_RAW_LIFE_WARN) 1 (by decide)).set _ (by decide), (behind.raise _).set _ _⟩
  case isFalse quiet =>
    exact ⟨(Blk.get_set_clear _ _ (by decide)).trans counted, worn _, fun h => absurd (beq_iff_eq.mpr h) quiet, pages.set _ (by decide),
      behind.set _ _⟩

theorem Blk.tallyErasing_shows (b : Blk) (cold : Bool) :
    (b.tallyErasing cold).ustate = tuErase ∧ (b.tallyErasing cold).flag TALLY.STATUS_SHOWN_VALID = false ∧
    (b.tallyErasing cold).flag TALLY.STATUS_BAR_DRAWN = false ∧ (b.tallyErasing cold).flag TALLY.STATUS_PENDING = false ∧
    (b.tallyErasing cold).flag TALLY.STATUS_COLD = cold ∧ (b.tallyErasing cold).get TALLY.UPDATE_COUNT = b.get TALLY.UPDATE_COUNT ∧
    (b.tallyErasing cold).flag TALLY.STATUS_WORN = b.flag TALLY.STATUS_WORN ∧
    (b.tallyErasing cold).flag TALLY.IRQ_RAW_LIFE_WARN = b.flag TALLY.IRQ_RAW_LIFE_WARN ∧ b.keepsOtherPages (b.tallyErasing cold) [Page.TALLY] ∧
    b.keepsBehind (b.tallyErasing cold) := by
  have zero (x : Blk) (f : Fld) (h : (decide (f.lo + f.w ≤ 32) && decide (0 < f.w)) = true) : (x.set f 0).flag f = false := x.flag_set_bitNat false h
  unfold Blk.tallyErasing Blk.setUstate Blk.ustate
  refine ⟨Blk.get_set_same _ _ _ (by unfold Fld.fits; decide), ?_, ?_, ?_, ?_, ?_, ?_, ?_,
    ((((((b.keepsOtherPages_refl _).set _ (by decide)).set _ (by decide)).set _ (by decide)).set _ (by decide)).set _ (by decide)),
    ((((b.keepsBehind_set _ _).set _ _).set _ _).set _ _).set _ _⟩
  · simp (disch := decide) only [Blk.flag_set_clear, zero]
  · simp (disch := decide) only [Blk.flag_set_clear, zero]
  · simp (disch := decide) only [Blk.flag_set_clear, zero]
  · simp (disch := decide) only [Blk.flag_set_clear, Blk.flag_set_bitNat]
  · simp (disch := decide) only [Blk.get_set_clear]
  · simp (disch := decide) only [Blk.flag_set_clear]
  · simp (disch := decide) only [Blk.flag_set_clear]

/-- An update that starts, as it shows. -/
theorem Blk.tallyStart_shows {b : Blk} (cold : Bool) (starts : b.active Page.TALLY = true ∧ b.ustate = tuSupply ∧
      b.flag OASIS.STATUS_VIN_OK = true ∧ b.flag OASIS.STATUS_HOLD_OK = true) :
    let count := (b.get TALLY.UPDATE_COUNT + 1) % 2 ^ 32
    ∃ x, b.tallyStart cold = x ∧ x.ustate = tuErase ∧ x.get TALLY.UPDATE_COUNT = count ∧ x.flag TALLY.STATUS_SHOWN_VALID = false ∧
      x.flag TALLY.STATUS_BAR_DRAWN = false ∧ x.flag TALLY.STATUS_PENDING = false ∧ x.flag TALLY.STATUS_COLD = cold ∧
      (x.flag TALLY.STATUS_WORN = true ↔ 1000000 ≤ count) ∧ (count = 900000 → x.flag TALLY.IRQ_RAW_LIFE_WARN = true) ∧
      x.tally.wait = b.intervalTicks ∧ x.tally.showing = b.word TALLY.PENDING_CONTENT_NODE.key ∧ b.keepsOtherPages x [Page.TALLY] ∧
      b.keepsMemory x := by
  intro count
  obtain ⟨regs, wait, showing, memory⟩ := b.tallyBooked_shows
  have same : (b.tallyBooked.get TALLY.UPDATE_COUNT + 1) % 2 ^ 32 = count := by rw [Blk.get_of_regs_eq regs]
  have effect := Blk.tallyStart_eq cold starts
  rw [same] at effect
  obtain ⟨counted, worn, warn, pages, behind⟩ := b.tallyBooked.tallyCounted_shows (n := count) (Nat.mod_lt _ (by decide))
  obtain ⟨state, shown, bar, pending, isCold, keptCount, keptWorn, keptWarn, pages', behind'⟩ := (b.tallyBooked.tallyCounted count).tallyErasing_shows cold
  have tally := (behind.trans behind').proj (·.tally) (fun _ _ _ _ _ => rfl)
  refine ⟨_, effect, state, keptCount.trans counted, shown, bar, pending, isCold, by rw [keptWorn]; exact worn, fun h => keptWarn.trans (warn h),
    (congrArg (·.wait) tally).trans wait, (congrArg (·.showing) tally).trans showing, fun k hk => ?_, memory.trans (behind.trans behind').memory⟩
  exact ((pages' k hk).trans (pages k hk)).trans (congrArg (fun r => Tbl.get regReset r k) regs)

/-! ### The bar drawn -/

/-- SHOWN_VALID, BAR_DRAWN and DONE. -/
def Blk.barDrawn (b : Blk) : Blk := ((b.set TALLY.STATUS_SHOWN_VALID 1).set TALLY.STATUS_BAR_DRAWN 1).raise TALLY.IRQ_RAW_DONE

/-- The deferred cold reset is taken; where it runs, Hamada stores the count. -/
def Blk.barStored (b : Blk) : Blk :=
  b.setTally { b.tally with coldWaits := false, stored := if b.powered Page.SYS then b.get TALLY.UPDATE_COUNT else b.tally.stored }

theorem Blk.barDrawn_shows (b : Blk) :
    b.barDrawn.flag TALLY.STATUS_SHOWN_VALID = true ∧ b.barDrawn.flag TALLY.STATUS_BAR_DRAWN = true ∧ b.barDrawn.flag TALLY.IRQ_RAW_DONE = true ∧
    b.barDrawn.flag TALLY.STATUS_PENDING = b.flag TALLY.STATUS_PENDING ∧ b.keepsOtherPages b.barDrawn [Page.TALLY] ∧ b.keepsBehind b.barDrawn := by
  have one (x : Blk) (f : Fld) (h : (decide (f.lo + f.w ≤ 32) && decide (0 < f.w)) = true) : (x.set f 1).flag f = true := x.flag_set_bitNat true h
  unfold Blk.barDrawn Blk.raise
  refine ⟨?_, ?_, one _ _ (by decide), ?_, (((b.keepsOtherPages_refl _).set _ (by decide)).set _ (by decide)).set _ (by decide),
    ((b.keepsBehind_set _ _).set _ _).set _ _⟩
  · simp (disch := decide) only [Blk.flag_set_clear, one]
  · simp (disch := decide) only [Blk.flag_set_clear, one]
  · simp (disch := decide) only [Blk.flag_set_clear]

theorem Blk.setUstate_shows (b : Blk) {u : Nat} (small : u < 8) :
    (b.setUstate u).ustate = u ∧ (b.setUstate u).flag TALLY.STATUS_SHOWN_VALID = b.flag TALLY.STATUS_SHOWN_VALID ∧
    (b.setUstate u).flag TALLY.STATUS_BAR_DRAWN = b.flag TALLY.STATUS_BAR_DRAWN ∧
    (b.setUstate u).flag TALLY.IRQ_RAW_DONE = b.flag TALLY.IRQ_RAW_DONE ∧ b.keepsOtherPages (b.setUstate u) [Page.TALLY] ∧
    b.keepsBehind (b.setUstate u) :=
  ⟨(b.get_set_same TALLY.STATUS_USTATE u (by unfold Fld.fits; decide)).trans (Nat.mod_eq_of_lt small), b.flag_set_clear _ (by decide),
    b.flag_set_clear _ (by decide), b.flag_set_clear _ (by decide), (b.keepsOtherPages_refl _).set _ (by decide), b.keepsBehind_set _ _⟩

theorem Blk.barStored_shows (b : Blk) :
    b.barStored.regs = b.regs ∧ b.barStored.tally.coldWaits = false ∧ b.keepsMemory b.barStored := ⟨rfl, rfl, ⟨rfl, rfl, rfl⟩⟩

theorem Blk.tallyDrawn_eq {b : Blk} (draw : b.powered Page.TALLY = true ∧ b.ustate = tuDraw) :
    b.tallyDrawn = ((b.barDrawn.setUstate (if b.barDrawn.flag TALLY.STATUS_PENDING then tuInterval else tuIdle)).tally.coldWaits,
      (b.barDrawn.setUstate (if b.barDrawn.flag TALLY.STATUS_PENDING then tuInterval else tuIdle)).barStored) :=
  if_pos (by rw [draw.1, draw.2]; rfl)

/-- A bar that has been drawn, as it shows. -/
theorem Blk.tallyDrawn_shows {b drawn : Blk} {cold : Bool} (draw : b.powered Page.TALLY = true ∧ b.ustate = tuDraw) (h : b.tallyDrawn = (cold, drawn)) :
    cold = b.tally.coldWaits ∧ drawn.flag TALLY.STATUS_SHOWN_VALID = true ∧ drawn.flag TALLY.STATUS_BAR_DRAWN = true ∧
    drawn.flag TALLY.IRQ_RAW_DONE = true ∧ drawn.ustate = (if b.flag TALLY.STATUS_PENDING then tuInterval else tuIdle) ∧
    drawn.tally.coldWaits = false ∧ b.keepsOtherPages drawn [Page.TALLY] ∧ b.keepsMemory drawn := by
  obtain ⟨shown, bar, done_, pending, pages, behind⟩ := b.barDrawn_shows
  have small : (if b.flag TALLY.STATUS_PENDING then tuInterval else tuIdle) < 8 := by split <;> decide
  rw [Blk.tallyDrawn_eq draw, pending] at h
  obtain ⟨state, shown', bar', done', pages', behind'⟩ := b.barDrawn.setUstate_shows small
  obtain ⟨regs, cleared, memory⟩ := (b.barDrawn.setUstate (if b.flag TALLY.STATUS_PENDING then tuInterval else tuIdle)).barStored_shows
  obtain ⟨rfl, rfl⟩ := Prod.mk.inj h
  have flags (f : Fld) := congrArg (fun v => v != 0) (Blk.get_of_regs_eq regs f)
  refine ⟨(behind.trans behind').proj (fun b => b.tally.coldWaits) (fun _ _ _ _ _ => rfl), (flags _).trans (shown'.trans shown),
    (flags _).trans (bar'.trans bar), (flags _).trans (done'.trans done_), (Blk.get_of_regs_eq regs _).trans state, cleared, fun k hk => ?_,
    (behind.trans behind').memory.trans memory⟩
  exact (congrArg (fun r => Tbl.get regReset r k) regs).trans ((pages' k hk).trans (pages k hk))

theorem Node.tallyDrawn_idle {n : Node} (h : ¬(n.b.powered Page.TALLY = true ∧ n.b.ustate = tuDraw)) : n.tallyDrawn = n := by
  have same : n.b.tallyDrawn = (false, n.b) := if_neg (by rwa [Bool.and_eq_true, beq_iff_eq])
  unfold Node.tallyDrawn
  rw [same]
  rfl

theorem Node.tallyDrawn_eq {n : Node} {cold : Bool} {drawn : Blk} (h : n.b.tallyDrawn = (cold, drawn)) :
    n.tallyDrawn = if cold then ({ n with b := drawn } : Node).coldReset else { n with b := drawn } := by
  unfold Node.tallyDrawn
  rw [h]

/-- Whether the controller is powered and in a state of its update. -/
theorem Blk.tallyAt_test (b : Blk) (u : Nat) : (b.powered Page.TALLY && b.ustate == u) = true ↔ b.powered Page.TALLY = true ∧ b.ustate = u := by
  simp only [Bool.and_eq_true, beq_iff_eq]

theorem Blk.tallyInterval_test (b : Blk) :
    (b.powered Page.TALLY && b.ustate == tuInterval && b.tally.wait == 0) = true ↔
      (b.powered Page.TALLY = true ∧ b.ustate = tuInterval) ∧ b.tally.wait = 0 := by
  simp only [Bool.and_eq_true, beq_iff_eq]

/-- Settles O51: resets by `warmReset_…` and `coldReset_…`, the tally by `tallyGo_…`, `tallyStart_shows` and `tallyDrawn_shows`. -/
theorem resetsAndTheTallyTakeTheirCourse : Obligations.ResetsAndTheTallyTakeTheirCourse := by
  unfold Obligations.ResetsAndTheTallyTakeTheirCourse
  refine ⟨fun s => ?_, fun s a ha => ⟨?_, fun hg => ?_⟩, fun b on => ?_, fun s => ?_⟩
  · intro burns draws waits running trial counted warm cold quiet still boots
    refine ⟨fun safety => ⟨fun h => ?_, fun h off => ?_, fun h on => ?_⟩, fun h => ?_, fun h burn => ?_, fun h idle off => ?_, fun h idle on => ?_⟩
    · exact exec_next (f := fun n => n.warmReset (if safety then 3 else 2) true) rfl rfl (Node.warmReset_waits safety h)
    · exact exec_same (f := fun n => n.warmReset (if safety then 3 else 2) true) rfl rfl ((Node.warmReset_now _ _ h).trans (Node.warmNow_off _ off))
    · exact exec_next (f := fun n => n.warmReset (if safety then 3 else 2) true) rfl rfl ((Node.warmReset_now _ _ h).trans (Node.warmNow_on _ on))
    · exact exec_next (f := Node.coldReset) rfl rfl (Node.coldReset_draws h)
    · exact exec_next (f := Node.coldReset) rfl rfl (Node.coldReset_burns h burn)
    · exact exec_same (f := Node.coldReset) rfl rfl ((Node.coldReset_now h idle).trans (Node.coldNow_off off))
    · exact exec_next (f := Node.coldReset) rfl rfl ((Node.coldReset_now h idle).trans (Node.coldNow_on on))
  · intro c kind which hg
    obtain ⟨priv, own⟩ := s.node.writeReset_cases a
    obtain ⟨rfl, rfl⟩ | ⟨rfl, rfl⟩ := which
    · have written := s.node.writeReg_reset a 1 hg
      refine ⟨fun other => ?_, fun ham => ?_⟩
      · rw [priv other] at written
        exact exec_next (f := fun n => n.writeReg a Page.PWR 0x050 true 1) rfl ha written
      · rw [show (1 : Word).toNat % 4 = 1 from rfl, (own ham).1] at written
        exact exec_next (f := fun n => n.writeReg a Page.PWR 0x050 true 1) rfl ha written
    · have written := s.node.writeReg_reset a 2 hg
      refine ⟨fun other => ?_, fun ham => ?_⟩
      · rw [priv other] at written
        exact exec_next (f := fun n => n.writeReg a Page.PWR 0x050 true 2) rfl ha written
      · rw [show (2 : Word).toNat % 4 = 2 from rfl, (own ham).2] at written
        exact exec_next (f := fun n => n.writeReg a Page.PWR 0x050 true 2) rfl ha written
  · exact exec_next (f := fun n => n.writeReg a Page.TALLY 0x044 true 1) rfl ha (s.node.writeReg_block a 1 (by decide) hg)
  · exact ⟨Blk.tallyGo_idle on, Blk.tallyGo_waits on, Blk.tallyGo_runs on⟩
  · intro on at_ starts count
    refine ⟨fun h => ?_, fun h => ?_, fun cold h => ?_, fun cold h => ?_, fun h => ?_, fun h => ?_, fun h => ?_, fun h => ?_, fun h => ?_,
      fun h cold drawn eq => ?_⟩
    · exact exec_blk (f := Blk.tallyInterval) rfl rfl (if_pos (s.blk.tallyInterval_test.mpr h))
    · exact exec_blk_same (f := Blk.tallyInterval) rfl rfl (if_neg (mt s.blk.tallyInterval_test.mp h))
    · exact exec_blk_same (f := fun b => b.tallyStart cold) rfl rfl (if_neg (mt s.blk.tallyStart_test.mp h))
    · obtain ⟨x, effect, shows_⟩ := Blk.tallyStart_shows cold h
      obtain ⟨state, counted, shown, bar, pending, isCold, worn, warn, wait, showing, pages, memory⟩ := shows_
      exact completes_of_blk (f := fun b => b.tallyStart cold) rfl rfl effect
        ⟨state, counted, shown, bar, pending, isCold, worn, warn, wait, showing, pages, memory.node⟩
    · exact exec_blk (f := Blk.tallyErased) rfl rfl (if_pos ((s.blk.tallyAt_test _).mpr h))
    · exact exec_blk_same (f := Blk.tallyErased) rfl rfl (if_neg (mt (s.blk.tallyAt_test _).mp h))
    · exact exec_blk (f := Blk.tallyWritten) rfl rfl (if_pos ((s.blk.tallyAt_test _).mpr h))
    · exact exec_blk_same (f := Blk.tallyWritten) rfl rfl (if_neg (mt (s.blk.tallyAt_test _).mp h))
    · exact exec_same (f := Node.tallyDrawn) rfl rfl (Node.tallyDrawn_idle h)
    · obtain ⟨waits, shown, bar, done_, state, cleared, pages, memory⟩ := Blk.tallyDrawn_shows h eq
      have effect := Node.tallyDrawn_eq (n := s.node) eq
      refine ⟨waits, shown, bar, done_, state, cleared, pages, memory.node, fun warm => ?_, fun isCold => ?_⟩
      · rw [warm] at effect
        exact exec_next (f := Node.tallyDrawn) rfl rfl effect
      · rw [isCold] at effect
        exact exec_next (f := Node.tallyDrawn) rfl rfl effect

end Sys2Proof.Machine
end

section
/-! PROOFS. What an access of an engine to bulk memory can change (spec/10 R236 to R242). -/

namespace Sys2Proof.Machine

/-- `b'` differs from `b` in registers of BULK, reports, drawn free values, bulk memory, the list of retired pages and the search's staged
lists alone. -/
def Blk.besideBulk (b b' : Blk) : Prop :=
  b.keepsOtherPages b' [Page.BULK] ∧
  ∃ r q n m retired staged, b' = { b with
    regs := r, reports := q, fresh := n, bulk := m, fuse := { b.fuse with retired := retired }, search := { b.search with staged := staged } }

theorem Blk.besideBulk_refl (b : Blk) : b.besideBulk b := ⟨b.keepsOtherPages_refl _, _, _, _, _, _, _, rfl⟩

theorem Blk.besideBulk.trans {a b c : Blk} (h : a.besideBulk b) (k : b.besideBulk c) : a.besideBulk c := by
  obtain ⟨pages, r, q, n, m, l, g, rfl⟩ := h
  obtain ⟨pages', r', q', n', m', l', g', rfl⟩ := k
  exact ⟨pages.trans pages', r', q', n', m', l', g', rfl⟩

theorem Blk.besideBulk.proj {α : Type} {b b' : Blk} (h : b.besideBulk b') (f : Blk → α)
    (same : ∀ r q n m retired staged, f { b with
      regs := r, reports := q, fresh := n, bulk := m, fuse := { b.fuse with retired := retired }, search := { b.search with staged := staged } } =
      f b) : f b' = f b := by
  obtain ⟨-, r, q, n, m, l, g, rfl⟩ := h
  exact same r q n m l g

theorem Blk.besideBulk.get {b b' : Blk} (h : b.besideBulk b') {f : Fld} (page : pageOf f.key ≠ Page.BULK) : b'.get f = b.get f :=
  Blk.get_of_word_eq (h.1 _ (by simpa using page))

theorem Blk.keepsBesideMap.besideBulk {b b' : Blk} (h : b.keepsBesideMap b') (pages : b.keepsOtherPages b' [Page.BULK]) : b.besideBulk b' := by
  obtain ⟨r, q, n, m, l, g, same, -⟩ := h
  exact ⟨pages, r, q, n, m, l, g, same⟩

/-- A change of bulk memory alone. -/
theorem Blk.besideBulk_memory (b : Blk) (m : BulkSt) : b.besideBulk { b with bulk := m } := ⟨b.keepsOtherPages_refl _, _, _, _, _, _, _, rfl⟩

theorem Blk.besideBulk_fresh (b : Blk) (n : Nat) : b.besideBulk { b with fresh := n } := ⟨b.keepsOtherPages_refl _, _, _, _, _, _, _, rfl⟩

theorem Blk.besideBulk_report (b : Blk) (cause page : Nat) : b.besideBulk (b.report cause page) := ⟨b.keepsOtherPages_refl _, _, _, _, _, _, _, rfl⟩

theorem Blk.besideBulk_setWord (b : Blk) {k : Nat} (v : Word) (page : pageOf k = Page.BULK) : b.besideBulk (b.setWord k v) :=
  ⟨(b.keepsOtherPages_refl _).setWord v (List.mem_singleton.mpr page), _, _, _, _, _, _, rfl⟩

theorem Blk.besideBulk_set (b : Blk) {f : Fld} (v : Nat) (page : pageOf f.key = Page.BULK) : b.besideBulk (b.set f v) :=
  b.besideBulk_setWord _ page

theorem Blk.besideBulk_capture (b : Blk) (cause agent off : Nat) : b.besideBulk (b.capture Page.BULK cause agent off) := by
  have counted := (b.besideBulk_set (f := hErrCount Page.BULK) (satInc 32 (b.get (hErrCount Page.BULK))) (by decide)).trans
    (Blk.besideBulk_set _ (f := hIrqErr Page.BULK) 1 (by decide))
  obtain full | ⟨w, v, free⟩ := b.capture_cases Page.BULK cause agent off
  · rw [full]
    exact counted.trans (Blk.besideBulk_set _ 1 (by decide))
  · rw [free]
    exact (counted.trans (Blk.besideBulk_setWord _ w (by decide))).trans (Blk.besideBulk_setWord _ v (by decide))

theorem Blk.besideBulk_captureOwnFree (b : Blk) (cause : Nat) : b.besideBulk (b.captureOwnFree Page.BULK cause) :=
  (b.besideBulk_fresh (b.fresh + 1)).trans (Blk.besideBulk_capture _ cause 7 _)

/-! ### Pages that end -/

theorem Blk.besideBulk_retireFound (b : Blk) (page kind : Nat) : b.besideBulk (b.retireFound page kind) := by
  have untracked : b.besideBulk (b.untrack page) := b.besideBulk_memory _
  unfold Blk.retireFound
  split
  · exact ((untracked.trans (Blk.besideBulk_set _ _ (by decide))).trans (Blk.besideBulk_set _ 1 (by decide))).trans (Blk.besideBulk_captureOwnFree _ 0x01)
  · exact untracked

theorem Blk.besideBulk_pageDead (b : Blk) (page : Nat) : b.besideBulk (b.pageDead page) :=
  (((b.besideBulk_memory _).trans (Blk.besideBulk_set (b.deadMapped page) (f := BULK.IRQ_RAW_DEAD_PAGE) 1 (by decide))).trans
    (Blk.besideBulk_captureOwnFree _ 0x02)).trans (Blk.besideBulk_report _ 0x07 Page.BULK)

theorem Blk.besideBulk_spared (b : Blk) (page kind finder : Nat) : b.besideBulk (b.spared page kind finder) := by
  obtain ⟨-, -, -, -, -, -, kept⟩ := b.spared_shows page kind finder
  exact kept.besideBulk ((b.keepsRegs_spared page kind finder).otherPages (by decide))

theorem Blk.besideBulk_reloadAsked (b : Blk) (page : Nat) : b.besideBulk (b.reloadAsked page) := by
  unfold Blk.reloadAsked
  split
  · exact b.besideBulk_memory _
  · exact b.besideBulk_refl

theorem Blk.besideBulk_retire (b : Blk) (page kind finder : Nat) : b.besideBulk (b.retire page kind finder) := by
  have found := b.besideBulk_retireFound page kind
  have spared := found.trans (Blk.besideBulk_spared _ page kind finder)
  rw [Blk.retire_eq]
  split
  · exact found.trans (Blk.besideBulk_pageDead _ page)
  · split
    · exact spared
    · exact (spared.trans (Blk.besideBulk_set _ (f := BULK.IRQ_RAW_RETIRED) 1 (by decide))).trans (Blk.besideBulk_reloadAsked _ page)

theorem Blk.besideBulk_correctUnit (b : Blk) (page finder : Nat) : b.besideBulk (b.correctUnit page finder) := by
  have counted := (b.besideBulk_set (f := BULK.ECC_CE_COUNT) (satInc BULK.ECC_CE_COUNT.w (b.get BULK.ECC_CE_COUNT)) (by decide)).trans
    (Blk.besideBulk_set _ (f := BULK.IRQ_RAW_CE) 1 (by decide))
  unfold Blk.correctUnit
  extract_lets b1 m b2 n lim x
  have tracked : b.besideBulk b2 := counted.trans (Blk.besideBulk_memory b1 _)
  split
  · exact tracked.trans (Blk.besideBulk_memory b2 _)
  · exact tracked

/-! ### Units and accesses -/

theorem Blk.besideBulk_setUnitFlips (b : Blk) (u : Nat) (l : List Nat) : b.besideBulk (b.setUnitFlips u l) := b.besideBulk_memory _
theorem Blk.besideBulk_bulkPut (b : Blk) (a : Nat) (bs : List Byte) : b.besideBulk (b.bulkPut a bs) := b.besideBulk_memory _
theorem Blk.besideBulk_markUnit (b : Blk) (u : Nat) (p : Bool) : b.besideBulk (b.markUnit u p) := b.besideBulk_memory _

theorem Blk.besideBulk_unitFound (b : Blk) (u : Nat) : b.besideBulk (b.unitFound u).2 := by
  unfold Blk.unitFound
  extract_lets f
  split
  · exact b.besideBulk_refl
  · dsimp only
    split
    · exact b.besideBulk_fresh _
    · exact (b.besideBulk_fresh _).trans ((Blk.besideBulk_setUnitFlips _ u []).trans (Blk.besideBulk_bulkPut _ _ _))

theorem Blk.besideBulk_unitCheck (b : Blk) (cls u : Nat) : b.besideBulk (b.unitCheck cls u).2 := by
  have found := b.besideBulk_unitFound u
  unfold Blk.unitCheck
  extract_lets page
  split
  · exact b.besideBulk_refl
  split
  · exact b.besideBulk_refl
  split
  · exact b.besideBulk_refl
  dsimp only
  split
  · exact found
  split
  · have clean := found.trans (Blk.besideBulk_setUnitFlips (b.unitFound u).2 u [])
    dsimp only
    exact clean.trans (Blk.besideBulk_correctUnit _ page (cls % 8))
  · dsimp only
    exact found.trans (Blk.besideBulk_retire (b.unitFound u).2 page 0 (cls % 8))

theorem Blk.besideBulk_unitRead (b : Blk) (cls a n : Nat) : b.besideBulk (b.unitRead cls a n).2.2 := by
  have units (l : List Nat) : ∀ st : Nat × Blk, b.besideBulk st.2 →
      b.besideBulk (l.foldl (fun (st : Nat × Blk) u => if st.1 != 0 then st else st.2.unitCheck cls u) st).2 := by
    induction l with
    | nil => exact fun _ h => h
    | cons u l ih =>
      refine fun st h => ih _ ?_
      dsimp only
      split
      · exact h
      · exact h.trans (Blk.besideBulk_unitCheck _ cls u)
  unfold Blk.unitRead
  extract_lets r
  have kept : b.besideBulk r.2 := units _ (0, b) b.besideBulk_refl
  split
  · exact kept
  · exact kept

theorem Blk.besideBulk_unitWrite (b : Blk) (cls a : Nat) (bs : List Byte) : b.besideBulk (b.unitWrite cls a bs).2 := by
  unfold Blk.unitWrite
  extract_lets n
  generalize unitsOf a n = l
  suffices units : ∀ st : Nat × Blk, b.besideBulk st.2 → b.besideBulk (l.foldl _ st).2 from units (0, b) b.besideBulk_refl
  induction l with
  | nil => exact fun _ h => h
  | cons u l ih =>
    refine fun st h => ih _ ?_
    dsimp only
    split
    · exact h
    · split
      · split
        · exact h
        · exact h.trans ((Blk.besideBulk_markUnit st.2 u false).trans (Blk.besideBulk_bulkPut _ _ _))
      · have checked := h.trans (Blk.besideBulk_unitCheck st.2 cls u)
        split
        · exact checked.trans (Blk.besideBulk_bulkPut _ _ _)
        · exact checked

theorem Blk.besideBulk_engineWait (b : Blk) (cls page : Nat) : b.besideBulk (b.engineWait cls page).2 := by
  unfold Blk.engineWait
  extract_lets mine
  split
  · exact b.besideBulk_memory _
  · split
    · exact b.besideBulk_memory _
    · exact b.besideBulk_refl

theorem Blk.besideBulk_bulkRead (b : Blk) (cls a n : Nat) : b.besideBulk (b.bulkRead cls a n).2.2 := by
  unfold Blk.bulkRead
  extract_lets c
  split
  · exact b.besideBulk_refl
  · split
    · exact b.besideBulk_engineWait cls _
    · exact b.besideBulk_unitRead cls a n

theorem Blk.besideBulk_bulkWrite (b : Blk) (cls a : Nat) (bs : List Byte) : b.besideBulk (b.bulkWrite cls a bs).2 := by
  unfold Blk.bulkWrite
  extract_lets c
  split
  · exact b.besideBulk_refl
  · split
    · exact b.besideBulk_engineWait cls _
    · exact b.besideBulk_unitWrite cls a bs

end Sys2Proof.Machine
end

section
/-! PROOFS. Remote memory access: windows and the states of queue pairs (spec/12 R279 to R283, R287, R297). -/

namespace Sys2Proof.Machine

/-! ### Bits of a word that is written -/

theorem bitsAt_land (n : Nat) {mask lo w : Nat} (inside : ∀ i < w, mask.testBit (lo + i) = true) : bitsAt (Nat.land n mask) lo w = bitsAt n lo w := by
  refine Nat.eq_of_testBit_eq fun i => ?_
  rw [bitsAt, bitsAt, Nat.testBit_mod_two_pow, Nat.testBit_mod_two_pow, Nat.testBit_shiftRight, Nat.testBit_shiftRight]
  by_cases hi : i < w
  · have both : (Nat.land n mask).testBit (lo + i) = (n.testBit (lo + i) && mask.testBit (lo + i)) := Nat.testBit_and n mask _
    rw [both, inside i hi, Bool.and_true]
  · simp only [hi, decide_false, Bool.false_and]

/-- A field of a register's RW bits is the field itself. -/
theorem Blk.bitsAt_rwWord (b : Blk) {page off : Nat} {r : RegRow} (row : regRow page off = some r) {lo w : Nat}
    (inside : ∀ i < w, (BitVec.ofNat 32 r.rw).toNat.testBit (lo + i) = true) :
    bitsAt (b.rwWord page off) lo w = bitsAt (b.word (b.reachKey page off)).toNat lo w := by
  have word : b.rwWord page off = Nat.land (b.word (b.reachKey page off)).toNat (BitVec.ofNat 32 r.rw).toNat := by
    unfold Blk.rwWord
    rw [row]
    exact BitVec.toNat_and _ _
  rw [word, bitsAt_land _ inside]

/-- A word that sets one field leaves the other RW fields. -/
theorem Blk.bitsAt_fieldWord_ne (b : Blk) {page off : Nat} {r : RegRow} (row : regRow page off = some r) (v : Nat) {lo w lo' w' : Nat}
    (inside : ∀ i < w', (BitVec.ofNat 32 r.rw).toNat.testBit (lo' + i) = true) (fits : lo' + w' ≤ 32) (apart : lo + w ≤ lo' ∨ lo' + w' ≤ lo) :
    bitsAt (b.fieldWord page off lo w v).toNat lo' w' = bitsAt (b.word (b.reachKey page off)).toNat lo' w' := by
  rw [Blk.fieldWord, BitVec.toNat_ofNat, bitsAt_mod_word _ _ _ fits, bitsAt_putBits_ne _ _ _ _ _ _ apart, b.bitsAt_rwWord row inside]

/-- A field of a stored word. -/
theorem Blk.get_setWord_bits (b : Blk) (f : Fld) (v : Nat) (h : f.lo + f.w ≤ 32) :
    (b.setWord f.key (BitVec.ofNat 32 v)).get f = bitsAt v f.lo f.w := by
  rw [Blk.get, Blk.word_setWord_same, BitVec.toNat_ofNat, bitsAt_mod_word _ _ _ h]

theorem Blk.get_set_other (b : Blk) {f g : Fld} (v : Nat) (h : g.key ≠ f.key) : (b.set f v).get g = b.get g :=
  Blk.get_of_word_eq (Blk.word_set_ne b f v h)

/-! ### Windows -/

def win1Row : RegRow := ⟨0x088, 1, 0, .none, 0, 0x800F0FF1, 0, 0, true⟩

theorem regRow_win1 : regRow Page.XQP 0x088 = some win1Row := by decide

/-- The registers of XQP as written. -/
theorem Blk.writeBlock_xqp (b : Blk) (a : Agent) (off : Nat) (v : Word) : b.writeBlock a Page.XQP off v =
    if off < 0x040 then b.writeHeader Page.XQP off v else b.writeXqp a off v := rfl

theorem Blk.writeXqp_win1 (b : Blk) (a : Agent) (v : Word) : b.writeXqp a 0x088 v = b.writeWin1 (b.get XQP.WIN_SEL) a v.toNat := by
  unfold Blk.writeXqp
  extract_lets n key q w
  exact (if_neg (by decide)).trans ((if_neg (by decide)).trans ((if_neg (by decide)).trans (if_pos (by decide))))

theorem Blk.writeBlock_win1 (b : Blk) (a : Agent) (v : Word) : b.writeBlock a Page.XQP 0x088 v = b.writeWin1 (b.get XQP.WIN_SEL) a v.toNat :=
  (b.writeBlock_xqp a 0x088 v).trans ((if_neg (by decide)).trans (b.writeXqp_win1 a v))

/-- The fields of a window take. -/
def Blk.winStored (b : Blk) (w v : Nat) : Blk :=
  (b.markChanged Page.XQP).setWord (XQP.WIN1_EN w).key (BitVec.ofNat 32 (Nat.land v 0x000F0FF1))

/-- A field of WIN1 besides EN. -/
structure winField (w : Nat) (f : Fld) : Prop where
  key : f.key = (XQP.WIN1_EN w).key
  low : f.lo + f.w ≤ 31
  inside : ∀ i < f.w, Nat.testBit 0x000F0FF1 (f.lo + i) = true

theorem winField_mk (w : Nat) {lo n : Nat} (low : lo + n ≤ 31) (inside : ∀ i < n, Nat.testBit 0x000F0FF1 (lo + i) = true) :
    winField w ⟨(XQP.WIN1_EN w).key, lo, n⟩ := ⟨rfl, low, inside⟩

theorem winField_baseHi (w : Nat) : winField w (XQP.WIN1_BASE_HI w) := winField_mk w (by decide) (by decide)
theorem winField_tile (w : Nat) : winField w (XQP.WIN1_TILE w) := winField_mk w (by decide) (by decide)
theorem winField_space (w : Nat) : winField w (XQP.WIN1_SPACE w) := winField_mk w (by decide) (by decide)
theorem winField_tags (w : Nat) : winField w (XQP.WIN1_TAGS w) := winField_mk w (by decide) (by decide)

/-- A write of EN alone names what stands in the other fields. -/
theorem Blk.bitsAt_winWord (b : Blk) (on : Nat) {f : Fld} (h : winField (b.get XQP.WIN_SEL) f) :
    bitsAt (b.fieldWord Page.XQP 0x088 31 1 on).toNat f.lo f.w = b.get f := by
  obtain ⟨key, low, inside⟩ := h
  have wide (i : Nat) (hi : i < f.w) : (BitVec.ofNat 32 win1Row.rw).toNat.testBit (f.lo + i) = true := by
    have mask : Nat.testBit (Nat.land 0x800F0FF1 0x000F0FF1) (f.lo + i) = true := inside i hi
    have both : Nat.testBit (Nat.land 0x800F0FF1 0x000F0FF1) (f.lo + i) = (Nat.testBit 0x800F0FF1 (f.lo + i) && Nat.testBit 0x000F0FF1 (f.lo + i)) :=
      Nat.testBit_and _ _ _
    exact (Bool.and_eq_true_iff.mp (both.symm.trans mask)).1
  rw [b.bitsAt_fieldWord_ne regRow_win1 on wide (by omega) (.inr low) (lo := 31) (w := 1), Blk.get, key]
  rfl

/-- With the fields that stand, a write of EN alone stores what stands. -/
theorem Blk.winStored_shows (b : Blk) (on : Nat) :
    let w := b.get XQP.WIN_SEL
    let x := b.winStored w (b.fieldWord Page.XQP 0x088 31 1 on).toNat
    (∀ f, winField w f → x.get f = b.get f) ∧ x.flag (XQP.WIN1_EN w) = false ∧ b.keepsRegs x [(XQP.WIN1_EN w).key] ∧ b.keepsBehind x := by
  intro w x
  refine ⟨fun f h => ?_, ?_, ?_, (b.keepsBehind_markChanged _).setWord _ _⟩
  · have low := h.low
    show ((b.markChanged Page.XQP).setWord (XQP.WIN1_EN w).key (BitVec.ofNat 32 (Nat.land _ 0x000F0FF1))).get f = _
    rw [← h.key, Blk.get_setWord_bits _ f _ (by omega), bitsAt_land _ h.inside, b.bitsAt_winWord on h]
  · have none : x.get (XQP.WIN1_EN w) = bitsAt (Nat.land (b.fieldWord Page.XQP 0x088 31 1 on).toNat 0x000F0FF1) 31 1 :=
      Blk.get_setWord_bits (b.markChanged Page.XQP) (XQP.WIN1_EN w) _ (by decide : 31 + 1 ≤ 32)
    have zero : bitsAt (Nat.land (b.fieldWord Page.XQP 0x088 31 1 on).toNat 0x000F0FF1) 31 1 = 0 := by
      have small : Nat.land (b.fieldWord Page.XQP 0x088 31 1 on).toNat 0x000F0FF1 ≤ 0x000F0FF1 := Nat.and_le_right
      rw [bitsAt, Nat.shiftRight_eq_div_pow, Nat.div_eq_of_lt (by omega), Nat.zero_mod]
    rw [Blk.flag, none, zero]
    rfl
  · exact ((b.keepsRegs_refl _).markChanged Page.XQP).setWord _ (by simp)

theorem Blk.winBase_of_fields {b x : Blk} {w : Nat} (fields : ∀ f, winField w f → x.get f = b.get f)
    (kept : b.keepsRegs x [(XQP.WIN1_EN w).key]) : x.winBase w = b.winBase w := by
  have lo : x.get (XQP.WIN0_BASE_LO w) = b.get (XQP.WIN0_BASE_LO w) := Blk.get_of_word_eq (kept _ (by
    rw [List.mem_singleton]
    show ¬(0x45084 + 0x100000 * (w + 1) = 0x45088 + 0x100000 * (w + 1))
    omega))
  rw [Blk.winBase, lo, fields _ (winField_baseHi w), Blk.winBase]

theorem Blk.winOk_of_fields {b x : Blk} {w : Nat} (fields : ∀ f, winField w f → x.get f = b.get f)
    (kept : b.keepsRegs x [(XQP.WIN1_EN w).key]) : x.winOk w = b.winOk w := by
  have length : x.get (XQP.WIN2_LENGTH w) = b.get (XQP.WIN2_LENGTH w) := Blk.get_of_word_eq (kept _ (by
    rw [List.mem_singleton]
    show ¬(0x4508C + 0x100000 * (w + 1) = 0x45088 + 0x100000 * (w + 1))
    omega))
  unfold Blk.winOk Blk.flag
  rw [Blk.winBase_of_fields fields kept, length, fields _ (winField_space w), fields _ (winField_tags w)]

theorem Blk.keepsBehind_conf (b : Blk) (f : Fld) (v : Nat) : b.keepsBehind (b.conf f v) :=
  (b.keepsBehind_set f v).trans ((b.set f v).keepsBehind_markChanged _)

theorem Blk.keepsRegs_conf (b : Blk) (f : Fld) (v : Nat) : b.keepsRegs (b.conf f v) [f.key] := fun k hk =>
  (b.conf_word f v k).trans (Blk.word_set_ne b f v (by simpa using hk))

/-- EN of a window as set by the block. -/
theorem Blk.confWinEn_shows (b : Blk) (w : Nat) (on : Bool) :
    (∀ f, winField w f → (b.conf (XQP.WIN1_EN w) (bitNat on)).get f = b.get f) ∧ (b.conf (XQP.WIN1_EN w) (bitNat on)).flag (XQP.WIN1_EN w) = on ∧
    b.keepsRegs (b.conf (XQP.WIN1_EN w) (bitNat on)) [(XQP.WIN1_EN w).key] ∧ b.keepsBehind (b.conf (XQP.WIN1_EN w) (bitNat on)) := by
  refine ⟨fun f h => ?_, (b.conf_flag _ _ _).trans (b.flag_set_bit on (show 31 + 1 ≤ 32 by decide) (show 0 < 1 by decide)), b.keepsRegs_conf _ _,
    b.keepsBehind_conf _ _⟩
  have low := h.low
  exact (b.conf_get _ _ f).trans (b.get_set_apart (XQP.WIN1_EN w) f _ (by unfold Fld.fits; omega) (.inr (.inr low)))

theorem Blk.winWord_masked (b : Blk) (on : Nat) :
    Nat.land (b.fieldWord Page.XQP 0x088 31 1 on).toNat 0x000F0FF1 = Nat.land (b.word (XQP.WIN1_EN (b.get XQP.WIN_SEL)).key).toNat 0x000F0FF1 := by
  refine Nat.eq_of_testBit_eq fun i => ?_
  have both (n : Nat) : (Nat.land n 0x000F0FF1).testBit i = (n.testBit i && Nat.testBit 0x000F0FF1 i) := Nat.testBit_and n _ _
  rw [both, both]
  by_cases inside : Nat.testBit 0x000F0FF1 i = true
  · have low : i + 1 ≤ 31 := by
      by_contra high
      have beyond : Nat.testBit 0x000F0FF1 i = false :=
        Nat.testBit_lt_two_pow (Nat.lt_of_lt_of_le (by decide : 0x000F0FF1 < 2 ^ 20) (Nat.pow_le_pow_right (by decide) (by omega)))
      exact absurd (beyond.symm.trans inside) (by decide)
    have one : winField (b.get XQP.WIN_SEL) ⟨(XQP.WIN1_EN (b.get XQP.WIN_SEL)).key, i, 1⟩ :=
      winField_mk _ low (fun j hj => by rw [show j = 0 by omega]; exact inside)
    have same : bitAt (b.fieldWord Page.XQP 0x088 31 1 on).toNat i = bitAt (b.word (XQP.WIN1_EN (b.get XQP.WIN_SEL)).key).toNat i :=
      congrArg (· == 1) (b.bitsAt_winWord on one)
    rw [bitAt_eq_testBit, bitAt_eq_testBit] at same
    rw [same]
  · rw [Bool.not_eq_true] at inside
    rw [inside, Bool.and_false, Bool.and_false]

/-- A write of EN alone at an enabled window. -/
theorem Blk.writeWin1_enabled {b : Blk} (a : Agent) (on : Bool) (en : b.flag (XQP.WIN1_EN (b.get XQP.WIN_SEL)) = true) :
    b.writeWin1 (b.get XQP.WIN_SEL) a (b.fieldWord Page.XQP 0x088 31 1 (bitNat on)).toNat =
      if on then b.markChanged Page.XQP else (b.markChanged Page.XQP).conf (XQP.WIN1_EN (b.get XQP.WIN_SEL)) 0 := by
  have masked := b.winWord_masked (bitNat on)
  have bit := b.bitAt_fieldWord Page.XQP 0x088 (lo := 31) on (by decide)
  have stands : ((b.fieldWord Page.XQP 0x088 31 1 (bitNat on)).toNat.land 0x000F0FF1 !=
      ((b.markChanged Page.XQP).word (XQP.WIN1_EN (b.get XQP.WIN_SEL)).key).toNat.land 0x000F0FF1) = false := by
    rw [masked]
    exact bne_self_eq_false _
  unfold Blk.writeWin1
  extract_lets key x fields y
  have same : y = x := if_neg (by rw [show _ = false from stands]; decide)
  rw [if_pos (show x.flag (XQP.WIN1_EN (b.get XQP.WIN_SEL)) = true from en), same, bit]

/-- A write of EN alone at a window that is not enabled. -/
theorem Blk.writeWin1_disabled {b : Blk} (a : Agent) (on : Bool) (en : b.flag (XQP.WIN1_EN (b.get XQP.WIN_SEL)) = false) :
    let x := b.winStored (b.get XQP.WIN_SEL) (b.fieldWord Page.XQP 0x088 31 1 (bitNat on)).toNat
    b.writeWin1 (b.get XQP.WIN_SEL) a (b.fieldWord Page.XQP 0x088 31 1 (bitNat on)).toNat =
      if on = false then x else if b.winOk (b.get XQP.WIN_SEL) then x.conf (XQP.WIN1_EN (b.get XQP.WIN_SEL)) 1
      else x.capture Page.XQP 0x14 (agentCode a) (b.get XQP.WIN_SEL % 256) := by
  intro x
  obtain ⟨fields, -, kept, -⟩ := b.winStored_shows (bitNat on)
  have ok : x.winOk (b.get XQP.WIN_SEL) = b.winOk (b.get XQP.WIN_SEL) := Blk.winOk_of_fields fields kept
  have bit := b.bitAt_fieldWord Page.XQP 0x088 (lo := 31) on (by decide)
  unfold Blk.writeWin1
  extract_lets key y fields _ z
  rw [if_neg (show ¬y.flag (XQP.WIN1_EN (b.get XQP.WIN_SEL)) = true by rw [show y.flag _ = false from en]; decide), bit,
    show z = x from rfl, ok]
  cases on <;> rfl

theorem winEn_key_page (w : Nat) : pageOf (XQP.WIN1_EN w).key = Page.XQP := by
  show (0x45088 + 0x100000 * (w + 1)) / 4096 % 256 = 0x45
  omega

/-- A window that is to be enabled, as it shows. -/
theorem Blk.windowEnable_shows (b : Blk) (a : Agent) :
    let w := b.get XQP.WIN_SEL
    ∃ x, b.writeWin1 w a (b.fieldWord Page.XQP 0x088 31 1 1).toNat = x ∧ b.keepsMemory x ∧
      (b.flag (XQP.WIN1_EN w) = true → x.flag (XQP.WIN1_EN w) = true ∧ x.winBase w = b.winBase w) ∧
      (b.flag (XQP.WIN1_EN w) = false → b.winOk w = true → x.flag (XQP.WIN1_EN w) = true ∧ (∀ f, winField w f → x.get f = b.get f) ∧
        b.keepsRegs x [(XQP.WIN1_EN w).key]) ∧
      (b.flag (XQP.WIN1_EN w) = false → b.winOk w = false → x.flag (XQP.WIN1_EN w) = false ∧
        x.get (hErrCount Page.XQP) = satInc 32 (b.get (hErrCount Page.XQP)) ∧
        (b.flag (hCapValid Page.XQP) = false → x.word (regKey Page.XQP 0x024) = BitVec.ofNat 32 (capWord 0x14 (agentCode a) (w % 256))) ∧
        b.keepsOtherPages x [Page.XQP]) := by
  intro w
  by_cases en : b.flag (XQP.WIN1_EN w) = true
  · refine ⟨_, (Blk.writeWin1_enabled a true en).trans (if_pos rfl), (b.keepsBehind_markChanged _).memory, fun _ => ⟨en, rfl⟩, fun h => ?_, fun h => ?_⟩
    · rw [en] at h; exact absurd h (by decide)
    · rw [en] at h; exact absurd h (by decide)
  · rw [Bool.not_eq_true] at en
    have effect := Blk.writeWin1_disabled a true en
    obtain ⟨fields, off, kept, behind⟩ := b.winStored_shows (bitNat true)
    by_cases ok : b.winOk w = true
    · obtain ⟨fields', on, kept', behind'⟩ := (b.winStored w (b.fieldWord Page.XQP 0x088 31 1 (bitNat true)).toNat).confWinEn_shows w true
      refine ⟨_, effect.trans ((if_neg (by decide)).trans (if_pos ok)), (behind.trans behind').memory, fun h => ?_,
        fun _ _ => ⟨on, fun f hf => (fields' f hf).trans (fields f hf), kept.trans kept'⟩, fun _ h => ?_⟩
      · rw [en] at h; exact absurd h (by decide)
      · rw [ok] at h; exact absurd h (by decide)
    · have apart (o : Nat) (ho : o < 0x040) : regKey Page.XQP o ≠ (XQP.WIN1_EN w).key := by
        show 0x45 * 4096 + o ≠ 0x45088 + 0x100000 * (w + 1)
        omega
      have stands (o : Nat) (ho : o < 0x040) : (b.winStored w (b.fieldWord Page.XQP 0x088 31 1 (bitNat true)).toNat).word (regKey Page.XQP o) =
          b.word (regKey Page.XQP o) := kept _ (by rw [List.mem_singleton]; exact apart o ho)
      have captured := (b.winStored w (b.fieldWord Page.XQP 0x088 31 1 (bitNat true)).toNat).keepsRegs_capture Page.XQP 0x14 (agentCode a) (w % 256)
      have enStands : (XQP.WIN1_EN w).key ∉ captureKeys Page.XQP := by
        simp only [captureKeys, List.mem_cons, List.not_mem_nil, or_false, not_or]
        exact ⟨(apart _ (by decide)).symm, (apart _ (by decide)).symm, (apart _ (by decide)).symm, (apart _ (by decide)).symm⟩
      refine ⟨_, effect.trans ((if_neg (by decide)).trans (if_neg ok)), (behind.capture _ _ _ _).memory, fun h => ?_, fun _ h => absurd h ok,
        fun _ _ => ⟨(captured.flag enStands).trans off, ?_, fun empty => ?_, ?_⟩⟩
      · rw [en] at h; exact absurd h (by decide)
      · rw [Blk.get_capture_errCount, Blk.get_of_word_eq (f := hErrCount Page.XQP) (stands 0x02C (by decide))]
      · refine Blk.word_capture_first _ _ _ ?_
        rw [Blk.flag, Blk.get_of_word_eq (f := hCapValid Page.XQP) (stands 0x024 (by decide))]
        exact empty
      · exact (kept.otherPages (fun k hk => by
          rw [List.mem_singleton] at hk ⊢
          rw [hk]
          exact winEn_key_page w)).trans (Blk.keepsOtherPages_capture _ 0x14 (agentCode a) (w % 256) (by decide))

/-- A window that is disabled, as it shows. -/
theorem Blk.windowDisable_shows (b : Blk) (a : Agent) :
    let w := b.get XQP.WIN_SEL
    ∃ x, b.writeWin1 w a (b.fieldWord Page.XQP 0x088 31 1 0).toNat = x ∧ x.flag (XQP.WIN1_EN w) = false ∧ x.winBase w = b.winBase w ∧
      b.keepsRegs x [(XQP.WIN1_EN w).key] ∧ b.keepsMemory x := by
  intro w
  by_cases en : b.flag (XQP.WIN1_EN w) = true
  · obtain ⟨fields, off, kept, behind⟩ := (b.markChanged Page.XQP).confWinEn_shows w false
    have kept' : b.keepsRegs ((b.markChanged Page.XQP).conf (XQP.WIN1_EN w) (bitNat false)) [(XQP.WIN1_EN w).key] := fun k hk => kept k hk
    exact ⟨_, (Blk.writeWin1_enabled a false en).trans (if_neg (by decide)), off, Blk.winBase_of_fields (fun f hf => fields f hf) kept', kept',
      ((b.keepsBehind_markChanged _).trans behind).memory⟩
  · rw [Bool.not_eq_true] at en
    obtain ⟨fields, off, kept, behind⟩ := b.winStored_shows (bitNat false)
    exact ⟨_, (Blk.writeWin1_disabled a false en).trans (if_pos rfl), off, Blk.winBase_of_fields fields kept, kept, behind.memory⟩

/-! ### Requests of a queue pair's state -/

def qctx0Row : RegRow := ⟨0x050, 1, 0, .none, 0, 0xFFFF1F37, 0, 0, true⟩

theorem regRow_qctx0 : regRow Page.XQP 0x050 = some qctx0Row := by decide

theorem Blk.writeXqp_qctx0 (b : Blk) (a : Agent) (v : Word) : b.writeXqp a 0x050 v = b.writeQctx0 (b.get XQP.QP_SEL) a v.toNat := by
  unfold Blk.writeXqp
  extract_lets n key q w
  exact (if_neg (by decide)).trans (if_pos (by decide))

theorem Blk.writeBlock_qctx0 (b : Blk) (a : Agent) (v : Word) : b.writeBlock a Page.XQP 0x050 v = b.writeQctx0 (b.get XQP.QP_SEL) a v.toNat :=
  (b.writeBlock_xqp a 0x050 v).trans ((if_neg (by decide)).trans (b.writeXqp_qctx0 a v))

theorem Blk.qpSel_lt (b : Blk) : b.get XQP.QP_SEL < 256 := b.get_lt XQP.QP_SEL

theorem Blk.qstate_of_lt (b : Blk) {q : Nat} (h : q < 256) : b.qstate q = b.get (XQP.QCTX0_STATE q) := if_pos h

/-- In INIT the context fields of a write take, STATE apart. -/
def Blk.qctxStored (b : Blk) (q v : Nat) : Blk :=
  (b.setWord (XQP.QCTX0_STATE q).key (BitVec.ofNat 32 (Nat.land (putBits v 0 3 (b.qstate q)) 0xFFFF1F37))).markChanged Page.XQP

theorem Blk.markChanged_word (b : Blk) (page k : Nat) : (b.markChanged page).word k = b.word k := rfl
theorem Blk.markChanged_get (b : Blk) (page : Nat) (f : Fld) : (b.markChanged page).get f = b.get f := rfl

theorem Blk.qctxStored_get (b : Blk) (q v : Nat) {f : Fld} (key : f.key = (XQP.QCTX0_STATE q).key) (fits : f.lo + f.w ≤ 32) :
    (b.qctxStored q v).get f = bitsAt (Nat.land (putBits v 0 3 (b.qstate q)) 0xFFFF1F37) f.lo f.w := by
  have word := b.get_setWord_bits f (Nat.land (putBits v 0 3 (b.qstate q)) 0xFFFF1F37) fits
  rw [key] at word
  unfold Blk.qctxStored
  rw [Blk.markChanged_get]
  exact word

theorem Blk.qctxStored_state (b : Blk) {q : Nat} (v : Nat) (h : q < 256) : (b.qctxStored q v).get (XQP.QCTX0_STATE q) = b.get (XQP.QCTX0_STATE q) := by
  have inside : ∀ i < 3, Nat.testBit 0xFFFF1F37 (0 + i) = true := by decide
  have cut := bitsAt_land (putBits v 0 3 (b.qstate q)) inside
  have state : b.qstate q % 2 ^ 3 = b.get (XQP.QCTX0_STATE q) := by
    rw [b.qstate_of_lt h]
    exact Nat.mod_eq_of_lt (b.get_lt (XQP.QCTX0_STATE q))
  exact (b.qctxStored_get q v rfl (show 0 + 3 ≤ 32 by decide)).trans (cut.trans ((bitsAt_putBits_same _ 0 3 _).trans state))

/-- A field of the context as a write of STATE alone leaves it. -/
theorem Blk.qctxStored_context (b : Blk) (code : Nat) {lo w : Nat} (inside : ∀ i < w, Nat.testBit 0xFFFF1F37 (lo + i) = true)
    (fits : lo + w ≤ 32) (apart : 0 + 3 ≤ lo) :
    (b.qctxStored (b.get XQP.QP_SEL) (b.fieldWord Page.XQP 0x050 0 3 code).toNat).get ⟨(XQP.QCTX0_STATE (b.get XQP.QP_SEL)).key, lo, w⟩ =
      b.get ⟨(XQP.QCTX0_STATE (b.get XQP.QP_SEL)).key, lo, w⟩ := by
  rw [b.qctxStored_get _ _ (f := ⟨_, lo, w⟩) rfl fits, bitsAt_land _ inside, bitsAt_putBits_ne _ _ _ _ _ _ (.inl apart),
    b.bitsAt_fieldWord_ne regRow_qctx0 code inside fits (.inl apart)]
  rfl

theorem Blk.qctxStored_keeps (b : Blk) (q v : Nat) : b.keepsRegs (b.qctxStored q v) [(XQP.QCTX0_STATE q).key] ∧ b.keepsBehind (b.qctxStored q v) := by
  refine ⟨fun k hk => ?_, (b.keepsBehind_setWord _ _).trans (Blk.keepsBehind_markChanged _ _)⟩
  unfold Blk.qctxStored
  rw [Blk.markChanged_word]
  exact Blk.word_setWord_ne _ _ (by simpa using hk)

/-- Keys of a queue pair's context stand apart from each other and from the header. -/
theorem qctx_key_ne {q o o' : Nat} (h : o ≠ o') : regKey Page.XQP o + 0x100000 * (q + 1) ≠ regKey Page.XQP o' + 0x100000 * (q + 1) :=
  fun e => h (Nat.add_left_cancel (Nat.add_right_cancel e))

theorem qctx_key_header {q o o' : Nat} (h : o' < 0x1000) : regKey Page.XQP o + 0x100000 * (q + 1) ≠ regKey Page.XQP o' := by
  unfold regKey
  omega

theorem qctx_key_capture (q o : Nat) : regKey Page.XQP o + 0x100000 * (q + 1) ∉ captureKeys Page.XQP := by
  simp only [captureKeys, List.mem_cons, List.not_mem_nil, or_false, not_or]
  exact ⟨qctx_key_header (by decide), qctx_key_header (by decide), qctx_key_header (by decide), qctx_key_header (by decide)⟩

theorem qctx_key_page {q o : Nat} (h : o < 0x1000) : pageOf (regKey Page.XQP o + 0x100000 * (q + 1)) = Page.XQP := by
  show (0x45 * 4096 + o + 0x100000 * (q + 1)) / 4096 % 256 = 0x45
  omega

/-- A state code as written. -/
theorem Blk.qctx_code (b : Blk) {code : Nat} (h : code < 4) : bitsAt (b.fieldWord Page.XQP 0x050 0 3 code).toNat 0 3 = code :=
  (b.bitsAt_fieldWord Page.XQP 0x050 code (by decide)).trans (Nat.mod_eq_of_lt (by omega))

theorem Blk.writeQctx0_init {b : Blk} {q : Nat} (a : Agent) {v : Nat} (init : b.qstate q = qsInit) (listed : bitsAt v 0 3 ≤ qsReady) :
    b.writeQctx0 q a v = (b.qctxStored q v).qpRequest q a (bitsAt v 0 3) := by
  have test : (b.qstate q == qsInit && decide (bitsAt v 0 3 ≤ qsReady)) = true := by rw [init, decide_eq_true listed]; rfl
  have stored : (if (b.qstate q == qsInit && decide (bitsAt v 0 3 ≤ qsReady)) = true then b.qctxStored q v else b) = b.qctxStored q v := if_pos test
  exact congrArg (fun x : Blk => x.qpRequest q a (bitsAt v 0 3)) stored

theorem Blk.writeQctx0_else {b : Blk} {q : Nat} (a : Agent) {v : Nat} (other : ¬(b.qstate q = qsInit ∧ bitsAt v 0 3 ≤ qsReady)) :
    b.writeQctx0 q a v = b.qpRequest q a (bitsAt v 0 3) := by
  have test : ¬(b.qstate q == qsInit && decide (bitsAt v 0 3 ≤ qsReady)) = true := by
    rwa [Bool.and_eq_true, beq_iff_eq, decide_eq_true_eq]
  have stored : (if (b.qstate q == qsInit && decide (bitsAt v 0 3 ≤ qsReady)) = true then b.qctxStored q v else b) = b := if_neg test
  exact congrArg (fun x : Blk => x.qpRequest q a (bitsAt v 0 3)) stored

/-- What a request of a state does, in the order of Table 4. -/
theorem Blk.qpRequest_eq (b : Blk) (q : Nat) (a : Agent) (code : Nat) : b.qpRequest q a code =
    if b.qstate q = qsReset ∧ code = qsInit then b.conf (XQP.QCTX0_STATE q) qsInit
    else if b.qstate q = qsInit ∧ code = qsInit then b
    else if b.qstate q = qsInit ∧ code = qsReady then
      (if b.qpValid q then (b.conf (XQP.QCTX0_STATE q) qsReady).set (XQP.QCTX10_OLDEST q) (b.get (XQP.QCTX1_SQ_PSN q))
      else b.capture Page.XQP 0x16 (agentCode a) q)
    else if b.qstate q = qsInit ∧ code = qsReset then b.qpToReset q
    else if b.qstate q = qsReady ∧ code = qsError then (b.qpErrorNotify q 1 0 none (b.get (XQP.QCTX1_SQ_PSN q))).drainCompletions
    else if b.qstate q = qsError ∧ code = qsReset then
      (if b.flag (XQP.QCTX9_FLUSHING q) then b.setQp q { b.qp q with resetWaits := true } else b.qpToReset q)
    else b.capture Page.XQP 0x17 (agentCode a) q := by
  unfold Blk.qpRequest
  simp only [Bool.and_eq_true, beq_iff_eq]

/-- A request that the state has none of is captured. -/
theorem Blk.qpRequest_refused {b : Blk} {q : Nat} (a : Agent) {code : Nat} (first : ¬(b.qstate q = qsReset ∧ code = qsInit))
    (init : ¬(b.qstate q = qsInit ∧ code ≤ qsReady)) (err : ¬(b.qstate q = qsReady ∧ code = qsError))
    (reset : ¬(b.qstate q = qsError ∧ code = qsReset)) : b.qpRequest q a code = b.capture Page.XQP 0x17 (agentCode a) q := by
  have listed (k : Nat) (hk : k ≤ qsReady) : ¬(b.qstate q = qsInit ∧ code = k) := fun h => init ⟨h.1, h.2 ▸ hk⟩
  rw [b.qpRequest_eq, if_neg first, if_neg (listed _ (by decide)), if_neg (listed _ (by decide)), if_neg (listed _ (by decide)), if_neg err,
    if_neg reset]

/-! ### A queue pair in RESET -/

/-- Its packets are left to the endpoint. -/
theorem Blk.leaveRx_shows (b : Blk) {q : Nat} (h : q < 256) :
    (b.leaveRx q).regs = b.regs ∧ (∀ r ∈ (b.leaveRx q).fab.rx, r.qp ≠ q) ∧ (b.leaveRx q).fab.rx.length = b.fab.rx.length ∧
    b.keepsMemory (b.leaveRx q) := by
  refine ⟨rfl, fun r hr => ?_, List.length_map _, ⟨rfl, rfl, rfl⟩⟩
  obtain ⟨r', -, rfl⟩ := List.mem_map.mp hr
  split
  · exact fun e => absurd (show (256 : Nat) = q from e) (by omega)
  · next other => exact fun e => other (beq_iff_eq.mpr e)

/-- The context's live words at 0. -/
def Blk.qctxCleared (b : Blk) (q : Nat) : Blk :=
  ((((b.conf (XQP.QCTX0_STATE q) qsReset).setWord (XQP.QCTX8_SQ_HEAD q).key 0).setWord (XQP.QCTX9_STATUS q).key 0).setWord (XQP.QCTX10_OLDEST q).key 0)

theorem Blk.qctxCleared_shows (b : Blk) (q : Nat) :
    (b.qctxCleared q).get (XQP.QCTX0_STATE q) = qsReset ∧ (b.qctxCleared q).word (XQP.QCTX9_STATUS q).key = 0 ∧
    (b.qctxCleared q).word (XQP.QCTX8_SQ_HEAD q).key = 0 ∧ b.keepsOtherPages (b.qctxCleared q) [Page.XQP] ∧ b.keepsBehind (b.qctxCleared q) := by
  have page (o : Nat) (ho : o < 0x1000) : pageOf (regKey Page.XQP o + 0x100000 * (q + 1)) ∈ [Page.XQP] := List.mem_singleton.mpr (qctx_key_page ho)
  have state : (b.conf (XQP.QCTX0_STATE q) qsReset).get (XQP.QCTX0_STATE q) = qsReset :=
    (b.conf_get _ _ _).trans (b.get_set_same _ _ (show 0 + 3 ≤ 32 by decide))
  have ne (o o' : Nat) (h : o ≠ o') : regKey Page.XQP o + 0x100000 * (q + 1) ≠ regKey Page.XQP o' + 0x100000 * (q + 1) := qctx_key_ne h
  have conf : b.keepsOtherPages (b.conf (XQP.QCTX0_STATE q) qsReset) [Page.XQP] :=
    (b.keepsRegs_conf _ _).otherPages (fun k hk => by rw [List.mem_singleton.mp hk]; exact page 0x050 (by decide))
  unfold Blk.qctxCleared
  refine ⟨?_, ?_, ?_, ((conf.setWord 0 (page 0x070 (by decide))).setWord 0 (page 0x074 (by decide))).setWord 0 (page 0x078 (by decide)),
    (((b.keepsBehind_conf _ _).setWord _ _).setWord _ _).setWord _ _⟩
  · refine Eq.trans (Blk.get_of_word_eq ?_) state
    rw [Blk.word_setWord_ne _ _ (show (XQP.QCTX0_STATE q).key ≠ (XQP.QCTX10_OLDEST q).key from ne 0x050 0x078 (by decide)),
      Blk.word_setWord_ne _ _ (show (XQP.QCTX0_STATE q).key ≠ (XQP.QCTX9_STATUS q).key from ne 0x050 0x074 (by decide)),
      Blk.word_setWord_ne _ _ (show (XQP.QCTX0_STATE q).key ≠ (XQP.QCTX8_SQ_HEAD q).key from ne 0x050 0x070 (by decide))]
  · rw [Blk.word_setWord_ne _ _ (show (XQP.QCTX9_STATUS q).key ≠ (XQP.QCTX10_OLDEST q).key from ne 0x074 0x078 (by decide)),
      Blk.word_setWord_same]
  · rw [Blk.word_setWord_ne _ _ (show (XQP.QCTX8_SQ_HEAD q).key ≠ (XQP.QCTX10_OLDEST q).key from ne 0x070 0x078 (by decide)),
      Blk.word_setWord_ne _ _ (show (XQP.QCTX8_SQ_HEAD q).key ≠ (XQP.QCTX9_STATUS q).key from ne 0x070 0x074 (by decide)),
      Blk.word_setWord_same]

theorem Blk.setQp_shows (b : Blk) (q : Nat) (x : QpSt) :
    (b.setQp q x).qp q = x ∧ (b.setQp q x).regs = b.regs ∧ (b.setQp q x).fab.rx = b.fab.rx ∧ b.keepsMemory (b.setQp q x) :=
  ⟨Tbl.get_put_same _ _ _ _, rfl, rfl, ⟨rfl, rfl, rfl⟩⟩

theorem Blk.qpToReset_eq (b : Blk) (q : Nat) : b.qpToReset q = ((b.leaveRx q).qctxCleared q).setQp q noQp := rfl

theorem Blk.qstate_of_regs {b b' : Blk} (h : b'.regs = b.regs) (q : Nat) : b'.qstate q = b.qstate q := by
  unfold Blk.qstate
  rw [Blk.get_of_regs_eq h]

/-- A queue pair in RESET, as it shows. -/
theorem Blk.qpToReset_shows (b : Blk) {q : Nat} (h : q < 256) :
    ∃ x, b.qpToReset q = x ∧ x.qstate q = qsReset ∧ x.qp q = noQp ∧ x.word (XQP.QCTX9_STATUS q).key = 0 ∧ x.word (XQP.QCTX8_SQ_HEAD q).key = 0 ∧
      (∀ r ∈ x.fab.rx, r.qp ≠ q) ∧ x.fab.rx.length = b.fab.rx.length ∧ b.keepsOtherPages x [Page.XQP] ∧ b.keepsMemory x := by
  obtain ⟨regs, left, length, memory⟩ := b.leaveRx_shows h
  obtain ⟨state, status, head, pages, behind⟩ := (b.leaveRx q).qctxCleared_shows q
  obtain ⟨none, regs', rx, memory'⟩ := ((b.leaveRx q).qctxCleared q).setQp_shows q noQp
  have fab : ((b.leaveRx q).qctxCleared q).fab = (b.leaveRx q).fab := behind.proj (·.fab) (fun _ _ _ _ _ => rfl)
  have words (k : Nat) : (((b.leaveRx q).qctxCleared q).setQp q noQp).word k = ((b.leaveRx q).qctxCleared q).word k :=
    congrArg (fun r => Tbl.get regReset r k) regs'
  refine ⟨_, b.qpToReset_eq q, ?_, none, (words _).trans status, (words _).trans head, ?_, ?_, fun k hk => ?_,
    (memory.trans behind.memory).trans memory'⟩
  · rw [Blk.qstate_of_regs regs', Blk.qstate_of_lt _ h, state]
  · rw [rx, fab]
    exact left
  · rw [rx, fab]
    exact length
  · exact ((words k).trans (pages k hk)).trans (congrArg (fun r => Tbl.get regReset r k) regs)

/-! ### The requests as they show -/

theorem Blk.qctxStored_qstate (b : Blk) {q : Nat} (v : Nat) (h : q < 256) : (b.qctxStored q v).qstate q = b.qstate q := by
  rw [Blk.qstate_of_lt _ h, Blk.qstate_of_lt _ h, b.qctxStored_state v h]

theorem Blk.qctxStored_valid (b : Blk) (code : Nat) :
    (b.qctxStored (b.get XQP.QP_SEL) (b.fieldWord Page.XQP 0x050 0 3 code).toNat).qpValid (b.get XQP.QP_SEL) = b.qpValid (b.get XQP.QP_SEL) := by
  have cls : (b.qctxStored (b.get XQP.QP_SEL) (b.fieldWord Page.XQP 0x050 0 3 code).toNat).get (XQP.QCTX0_CLASS (b.get XQP.QP_SEL)) =
      b.get (XQP.QCTX0_CLASS (b.get XQP.QP_SEL)) := b.qctxStored_context code (lo := 4) (w := 2) (by decide) (by decide) (by decide)
  have cq : (b.qctxStored (b.get XQP.QP_SEL) (b.fieldWord Page.XQP 0x050 0 3 code).toNat).get (XQP.QCTX0_CQ (b.get XQP.QP_SEL)) =
      b.get (XQP.QCTX0_CQ (b.get XQP.QP_SEL)) := b.qctxStored_context code (lo := 8) (w := 2) (by decide) (by decide) (by decide)
  obtain ⟨kept, -⟩ := b.qctxStored_keeps (b.get XQP.QP_SEL) (b.fieldWord Page.XQP 0x050 0 3 code).toNat
  have log := kept.get (f := XQP.QCTX5_SQ_LOG2 (b.get XQP.QP_SEL)) (fun h => qctx_key_ne (o := 0x064) (o' := 0x050) (by decide) (List.mem_singleton.mp h))
  have small : b.get (XQP.QCTX0_CQ (b.get XQP.QP_SEL)) < 4 := b.get_lt (XQP.QCTX0_CQ (b.get XQP.QP_SEL))
  have en := kept.flag (f := XQP.CQ_CFG_EN (b.get (XQP.QCTX0_CQ (b.get XQP.QP_SEL)))) (fun h => absurd (List.mem_singleton.mp h) (by
    show ¬(0x45208 + 0x20 * b.get (XQP.QCTX0_CQ (b.get XQP.QP_SEL)) = 0x45050 + 0x100000 * (b.get XQP.QP_SEL + 1))
    omega))
  unfold Blk.qpValid
  rw [cq, cls, en, log]

/-- INIT as asked for, from RESET or in INIT. -/
theorem Blk.qpInit_shows {b : Blk} (a : Agent) (h : b.qstate (b.get XQP.QP_SEL) = qsReset ∨ b.qstate (b.get XQP.QP_SEL) = qsInit) :
    let q := b.get XQP.QP_SEL
    ∃ x, b.writeQctx0 q a (b.fieldWord Page.XQP 0x050 0 3 qsInit).toNat = x ∧ x.qstate q = qsInit ∧ b.keepsRegs x [(XQP.QCTX0_STATE q).key] ∧
      x.fab = b.fab ∧ b.keepsMemory x := by
  intro q
  have code := b.qctx_code (code := qsInit) (by decide)
  obtain reset | init := h
  · have effect := Blk.writeQctx0_else a (v := (b.fieldWord Page.XQP 0x050 0 3 qsInit).toNat) (fun h => absurd (reset.symm.trans h.1) (by decide))
    rw [code, b.qpRequest_eq, if_pos ⟨reset, rfl⟩] at effect
    exact ⟨_, effect, (Blk.qstate_of_lt _ b.qpSel_lt).trans ((b.conf_get _ _ _).trans (b.get_set_same _ _ (show 0 + 3 ≤ 32 by decide))),
      b.keepsRegs_conf _ _, b.conf_fab _ _, (b.keepsBehind_conf _ _).memory⟩
  · have effect := Blk.writeQctx0_init a (v := (b.fieldWord Page.XQP 0x050 0 3 qsInit).toNat) init (code.trans_le (by decide))
    obtain ⟨kept, behind⟩ := b.qctxStored_keeps q (b.fieldWord Page.XQP 0x050 0 3 qsInit).toNat
    have state := (b.qctxStored_qstate (b.fieldWord Page.XQP 0x050 0 3 qsInit).toNat b.qpSel_lt).trans init
    rw [code, Blk.qpRequest_eq, if_neg (fun h => absurd (state.symm.trans h.1) (by decide)), if_pos ⟨state, rfl⟩] at effect
    exact ⟨_, effect, state, kept, behind.proj (·.fab) (fun _ _ _ _ _ => rfl), behind.memory⟩

theorem Blk.qpReadied_shows (b : Blk) {q psn : Nat} (h : q < 256) (fits : psn < 2 ^ (XQP.QCTX10_OLDEST q).w) :
    let x := (b.conf (XQP.QCTX0_STATE q) qsReady).set (XQP.QCTX10_OLDEST q) psn
    x.qstate q = qsReady ∧ x.get (XQP.QCTX10_OLDEST q) = psn ∧ b.keepsRegs x [(XQP.QCTX0_STATE q).key, (XQP.QCTX10_OLDEST q).key] ∧
    b.keepsBehind x := by
  intro x
  have apart : (XQP.QCTX0_STATE q).key ≠ (XQP.QCTX10_OLDEST q).key := qctx_key_ne (o := 0x050) (o' := 0x078) (by decide)
  have ready : (b.conf (XQP.QCTX0_STATE q) qsReady).get (XQP.QCTX0_STATE q) = qsReady :=
    (b.conf_get _ _ _).trans (b.get_set_same _ _ (show 0 + 3 ≤ 32 by decide))
  refine ⟨(x.qstate_of_lt h).trans ((Blk.get_set_other _ _ apart).trans ready),
    (Blk.get_set_same _ (XQP.QCTX10_OLDEST q) _ (show 0 + 24 ≤ 32 by decide)).trans (Nat.mod_eq_of_lt fits),
    Blk.keepsRegs.set (fun k hk => b.keepsRegs_conf _ _ k ?_) _ (by simp), (b.keepsBehind_conf _ _).set _ _⟩
  rw [List.mem_cons, not_or] at hk
  simpa using hk.1

/-- READY as asked for in INIT. -/
theorem Blk.qpReady_shows {b : Blk} (a : Agent) (init : b.qstate (b.get XQP.QP_SEL) = qsInit) :
    let q := b.get XQP.QP_SEL
    ∃ x, b.writeQctx0 q a (b.fieldWord Page.XQP 0x050 0 3 qsReady).toNat = x ∧ b.keepsMemory x ∧
      (b.qpValid q = true → x.qstate q = qsReady ∧ x.get (XQP.QCTX10_OLDEST q) = b.get (XQP.QCTX1_SQ_PSN q) ∧
        b.keepsRegs x [(XQP.QCTX0_STATE q).key, (XQP.QCTX10_OLDEST q).key]) ∧
      (b.qpValid q = false → x.qstate q = qsInit ∧ x.get (hErrCount Page.XQP) = satInc 32 (b.get (hErrCount Page.XQP))) := by
  intro q
  have code := b.qctx_code (code := qsReady) (by decide)
  have effect := Blk.writeQctx0_init a (v := (b.fieldWord Page.XQP 0x050 0 3 qsReady).toNat) init (code.trans_le (by decide))
  obtain ⟨kept, behind⟩ := b.qctxStored_keeps q (b.fieldWord Page.XQP 0x050 0 3 qsReady).toNat
  have state := (b.qctxStored_qstate (b.fieldWord Page.XQP 0x050 0 3 qsReady).toNat b.qpSel_lt).trans init
  have valid := b.qctxStored_valid qsReady
  obtain ⟨x, stored⟩ : ∃ x, b.qctxStored q (b.fieldWord Page.XQP 0x050 0 3 qsReady).toNat = x := ⟨_, rfl⟩
  rw [stored] at effect kept behind state valid
  rw [code, Blk.qpRequest_eq, if_neg (fun h => absurd (state.symm.trans h.1) (by decide)), if_neg (fun h => absurd h.2 (by decide)),
    if_pos ⟨state, rfl⟩, valid] at effect
  cases ok : b.qpValid q
  · rw [show b.qpValid (b.get XQP.QP_SEL) = false from ok, if_neg (by decide)] at effect
    have count : (hErrCount Page.XQP).key ∉ [(XQP.QCTX0_STATE q).key] := fun h =>
      qctx_key_header (q := q) (o := 0x050) (o' := 0x02C) (by decide) (List.mem_singleton.mp h).symm
    have captured := x.keepsRegs_capture Page.XQP 0x16 (agentCode a) q
    refine ⟨_, effect, (behind.capture _ _ _ _).memory, fun h => absurd h (by decide), fun _ => ⟨?_, ?_⟩⟩
    · have stays := captured.get (f := XQP.QCTX0_STATE q) (qctx_key_capture q 0x050)
      rw [Blk.qstate_of_lt _ b.qpSel_lt] at state ⊢
      exact stays.trans state
    · rw [Blk.get_capture_errCount, kept.get count]
  · rw [show b.qpValid (b.get XQP.QP_SEL) = true from ok, if_pos rfl] at effect
    have psn := kept.get (f := XQP.QCTX1_SQ_PSN q) (fun h => qctx_key_ne (o := 0x054) (o' := 0x050) (by decide) (List.mem_singleton.mp h))
    obtain ⟨ready, oldest, kept', behind'⟩ := x.qpReadied_shows (q := q) b.qpSel_lt (x.get_lt (XQP.QCTX1_SQ_PSN q))
    refine ⟨_, effect, (behind.trans behind').memory, fun _ => ⟨ready, oldest.trans psn, fun k hk => ?_⟩, fun h => absurd h (by decide)⟩
    rw [List.mem_cons, not_or] at hk
    exact (kept' k (by simpa using hk)).trans (kept k (by simpa using hk.1))

/-- RESET as asked for in INIT, or in ERROR once flushed. -/
theorem Blk.qpReset_shows {b : Blk} (a : Agent) (h : b.qstate (b.get XQP.QP_SEL) = qsInit ∨
      b.qstate (b.get XQP.QP_SEL) = qsError ∧ b.flag (XQP.QCTX9_FLUSHING (b.get XQP.QP_SEL)) = false) :
    let q := b.get XQP.QP_SEL
    ∃ x, b.writeQctx0 q a (b.fieldWord Page.XQP 0x050 0 3 qsReset).toNat = x ∧ x.qstate q = qsReset ∧ x.qp q = noQp ∧
      x.word (XQP.QCTX9_STATUS q).key = 0 ∧ x.word (XQP.QCTX8_SQ_HEAD q).key = 0 ∧ (∀ r ∈ x.fab.rx, r.qp ≠ q) ∧
      x.fab.rx.length = b.fab.rx.length ∧ b.keepsOtherPages x [Page.XQP] ∧ b.keepsMemory x := by
  intro q
  have code := b.qctx_code (code := qsReset) (by decide)
  obtain init | ⟨err, flushed⟩ := h
  · have effect := Blk.writeQctx0_init a (v := (b.fieldWord Page.XQP 0x050 0 3 qsReset).toNat) init (code.trans_le (by decide))
    obtain ⟨kept, behind⟩ := b.qctxStored_keeps q (b.fieldWord Page.XQP 0x050 0 3 qsReset).toNat
    have state := (b.qctxStored_qstate (b.fieldWord Page.XQP 0x050 0 3 qsReset).toNat b.qpSel_lt).trans init
    obtain ⟨x, stored⟩ : ∃ x, b.qctxStored q (b.fieldWord Page.XQP 0x050 0 3 qsReset).toNat = x := ⟨_, rfl⟩
    rw [stored] at effect kept behind state
    rw [code, Blk.qpRequest_eq, if_neg (fun h => absurd (state.symm.trans h.1) (by decide)), if_neg (fun h => absurd h.2 (by decide)),
      if_neg (fun h => absurd h.2 (by decide)), if_pos ⟨state, rfl⟩] at effect
    obtain ⟨y, reset, state', none, status, head, left, length, pages, memory⟩ := x.qpToReset_shows b.qpSel_lt
    have pages' : b.keepsOtherPages x [Page.XQP] := kept.otherPages (fun k hk => by
      rw [List.mem_singleton] at hk ⊢
      rw [hk]
      exact qctx_key_page (o := 0x050) (by decide))
    exact ⟨y, effect.trans reset, state', none, status, head, left,
      length.trans (congrArg (fun f => f.rx.length) (behind.proj (·.fab) (fun _ _ _ _ _ => rfl))), pages'.trans pages, behind.memory.trans memory⟩
  · have effect := Blk.writeQctx0_else a (v := (b.fieldWord Page.XQP 0x050 0 3 qsReset).toNat) (fun h => absurd (err.symm.trans h.1) (by decide))
    rw [code, Blk.qpRequest_eq, if_neg (fun h => absurd h.2 (by decide)), if_neg (fun h => absurd h.2 (by decide)),
      if_neg (fun h => absurd h.2 (by decide)), if_neg (fun h => absurd (err.symm.trans h.1) (by decide)), if_neg (fun h => absurd h.2 (by decide)),
      if_pos ⟨err, rfl⟩, flushed, if_neg (by decide)] at effect
    obtain ⟨y, reset, shows_⟩ := b.qpToReset_shows b.qpSel_lt
    exact ⟨y, effect.trans reset, shows_⟩

/-! ### A queue pair in ERROR -/

/-- What is flushed of a queue pair: completions, and the indices left to flush. -/
def Blk.flushed (b b' : Blk) (q : Nat) : Prop :=
  b.keepsOtherPages b' [Page.BULK] ∧ b'.fab.rx = b.fab.rx ∧ ∃ l, b'.qp q = { b.qp q with flush := l }

theorem Blk.besideBulk.flushed {b b' c : Blk} {q : Nat} (h : b.besideBulk b') (k : b'.flushed c q) : b.flushed c q := by
  obtain ⟨pages, rx, l, qp⟩ := k
  have fab : b'.fab = b.fab := h.proj (·.fab) (fun _ _ _ _ _ _ => rfl)
  refine ⟨h.1.trans pages, rx.trans (congrArg (·.rx) fab), l, qp.trans ?_⟩
  rw [Blk.qp, fab, Blk.qp]

theorem Blk.flushed_setQp (b : Blk) (q : Nat) (l : List Nat) : b.flushed (b.setQp q { b.qp q with flush := l }) q :=
  ⟨b.keepsOtherPages_refl _, rfl, l, (b.setQp_shows q _).1⟩

theorem Blk.queueCompletion_flushed {b c : Blk} {q : Nat} (cb : Nat) (bytes : List Byte) (k : (b.queueCompletion cb bytes).flushed c q) :
    b.flushed c q := k

theorem Blk.flushRing_flushed (q : Nat) (l : List Nat) : ∀ b : Blk, b.flushed (Blk.flushRing l b q) q := by
  induction l with
  | nil => exact fun b => b.flushed_setQp q []
  | cons i rest ih =>
    intro b
    have read := b.besideBulk_bulkRead (sendEng q) (b.get (XQP.QCTX4_SQ_BASE_LO q) + 2 ^ 32 * b.get (XQP.QCTX5_SQ_BASE_HI q) + 32 * i) 32
    unfold Blk.flushRing
    dsimp only
    split
    · exact read.flushed (Blk.flushed_setQp _ q (i :: rest))
    · refine read.flushed (Blk.besideBulk.flushed (b' := _) ?_ (Blk.queueCompletion_flushed _ _ (ih _)))
      split
      · exact Blk.besideBulk_fresh _ _
      · exact (Blk.besideBulk_fresh _ _).trans (Blk.besideBulk_fresh _ _)

/-- The context shows the error. -/
def Blk.errMarked (b : Blk) (q status cause : Nat) : Blk :=
  ((((b.conf (XQP.QCTX0_STATE q) qsError).set (XQP.QCTX9_STATUS q) status).set (XQP.QCTX9_CAUSE q) cause).set (XQP.QCTX9_FLUSHING q) 1).raise
    XQP.IRQ_RAW_QP_ERROR

theorem Blk.errMarked_shows (b : Blk) (q status cause : Nat) :
    (b.errMarked q status cause).get (XQP.QCTX0_STATE q) = qsError ∧ (b.errMarked q status cause).get (XQP.QCTX9_STATUS q) = status % 256 ∧
    (b.errMarked q status cause).get (XQP.QCTX9_CAUSE q) = cause % 256 ∧ (b.errMarked q status cause).flag (XQP.QCTX9_FLUSHING q) = true ∧
    (b.errMarked q status cause).flag XQP.IRQ_RAW_QP_ERROR = true ∧ b.keepsOtherPages (b.errMarked q status cause) [Page.XQP] ∧
    b.keepsBehind (b.errMarked q status cause) := by
  have raised (x : Blk) {o lo w : Nat} : (x.raise XQP.IRQ_RAW_QP_ERROR).get ⟨regKey Page.XQP o + 0x100000 * (q + 1), lo, w⟩ =
      x.get ⟨regKey Page.XQP o + 0x100000 * (q + 1), lo, w⟩ := x.get_set_other 1 (qctx_key_header (o' := 0x018) (by decide))
  have context (x : Blk) (f : Fld) (v : Nat) (h : f.key = regKey Page.XQP 0x074 + 0x100000 * (q + 1)) :
      (x.set f v).get (XQP.QCTX0_STATE q) = x.get (XQP.QCTX0_STATE q) := x.get_set_other v (by
    rw [h]
    exact qctx_key_ne (o := 0x050) (o' := 0x074) (by decide))
  have page (o : Nat) (ho : o < 0x1000) : pageOf (regKey Page.XQP o + 0x100000 * (q + 1)) ∈ [Page.XQP] := List.mem_singleton.mpr (qctx_key_page ho)
  have conf : b.keepsOtherPages (b.conf (XQP.QCTX0_STATE q) qsError) [Page.XQP] :=
    (b.keepsRegs_conf _ _).otherPages (fun k hk => by rw [List.mem_singleton.mp hk]; exact page 0x050 (by decide))
  unfold Blk.errMarked
  refine ⟨?_, ?_, ?_, ?_, Blk.flag_raise_same _ _ (show 4 + 1 ≤ 32 by decide) (by decide),
    (((conf.set _ (page 0x074 (by decide))).set _ (page 0x074 (by decide))).set _ (page 0x074 (by decide))).set 1 (by decide),
    ((((b.keepsBehind_conf _ _).set _ _).set _ _).set _ _).raise _⟩
  · refine (raised _ (o := 0x050)).trans ((context _ _ _ rfl).trans ((context _ _ _ rfl).trans ((context _ _ _ rfl).trans ?_)))
    exact (b.conf_get _ _ _).trans (b.get_set_same _ _ (show 0 + 3 ≤ 32 by decide))
  · refine (raised _ (o := 0x074)).trans ?_
    exact ((Blk.get_set_apart _ (XQP.QCTX9_FLUSHING q) (XQP.QCTX9_STATUS q) _ (show 0 + 8 ≤ 32 by decide) (.inr (.inr (show 0 + 8 ≤ 19 by decide)))).trans
      (Blk.get_set_apart _ (XQP.QCTX9_CAUSE q) (XQP.QCTX9_STATUS q) _ (show 0 + 8 ≤ 32 by decide) (.inr (.inr (show 0 + 8 ≤ 8 by decide))))).trans
      (Blk.get_set_same _ (XQP.QCTX9_STATUS q) status (show 0 + 8 ≤ 32 by decide))
  · refine (raised _ (o := 0x074)).trans ?_
    exact (Blk.get_set_apart _ (XQP.QCTX9_FLUSHING q) (XQP.QCTX9_CAUSE q) _ (show 8 + 8 ≤ 32 by decide) (.inr (.inr (show 8 + 8 ≤ 19 by decide)))).trans
      (Blk.get_set_same _ (XQP.QCTX9_CAUSE q) cause (show 8 + 8 ≤ 32 by decide))
  · refine (congrArg (fun v => v != 0) (raised _ (o := 0x074))).trans ?_
    exact Blk.flag_set_one _ (XQP.QCTX9_FLUSHING q) (show 19 + 1 ≤ 32 by decide) (show 0 < 1 by decide)

/-- The error logged, and a cause captured. -/
def Blk.errLogged (b : Blk) (q cause : Nat) (asTarget : Bool) (psn : Nat) : Blk :=
  if cause == 0 then b.logQp cause q (b.get (XQP.QCTX0_PEER_NODE q)) asTarget psn
  else (b.logQp cause q (b.get (XQP.QCTX0_PEER_NODE q)) asTarget psn).captureOwn Page.XQP cause q

theorem Blk.logQp_shows (b : Blk) (cause q src : Nat) (asTarget : Bool) (psn : Nat) :
    b.keepsRegs (b.logQp cause q src asTarget psn) [XQP.QLOG_HEAD_NEXT.key] ∧ (b.logQp cause q src asTarget psn).fab.qps = b.fab.qps ∧
    (b.logQp cause q src asTarget psn).fab.rx = b.fab.rx := by
  obtain ⟨x, used, log, regs, qps, rx⟩ : ∃ x used, b.logQp cause q src asTarget psn = Blk.ringStep x XQP.QLOG_HEAD_NEXT XQP.QLOG_HEAD_OVF used ∧
      x.regs = b.regs ∧ x.fab.qps = b.fab.qps ∧ x.fab.rx = b.fab.rx := ⟨_, _, rfl, rfl, rfl, rfl⟩
  obtain ⟨r, step⟩ := x.ringStep_regs XQP.QLOG_HEAD_NEXT XQP.QLOG_HEAD_OVF used
  have kept := x.keepsRegs_ringStep (next := XQP.QLOG_HEAD_NEXT) (ovf := XQP.QLOG_HEAD_OVF) used rfl
  rw [log]
  refine ⟨fun k hk => (kept k hk).trans (congrArg (fun r => Tbl.get regReset r k) regs), ?_, ?_⟩
  · rw [step]
    exact qps
  · rw [step]
    exact rx

theorem Blk.errLogged_shows (b : Blk) (q cause : Nat) (asTarget : Bool) (psn : Nat) :
    b.keepsRegs (b.errLogged q cause asTarget psn) (XQP.QLOG_HEAD_NEXT.key :: captureKeys Page.XQP) ∧
    (b.errLogged q cause asTarget psn).get XQP.IRQ_RAW_QP_ERROR = b.get XQP.IRQ_RAW_QP_ERROR ∧
    (b.errLogged q cause asTarget psn).fab.qps = b.fab.qps ∧ (b.errLogged q cause asTarget psn).fab.rx = b.fab.rx := by
  obtain ⟨kept, qps, rx⟩ := b.logQp_shows cause q (b.get (XQP.QCTX0_PEER_NODE q)) asTarget psn
  have raised := kept.get (f := XQP.IRQ_RAW_QP_ERROR) (by decide)
  unfold Blk.errLogged
  split
  · exact ⟨kept.mono (by simp), raised, qps, rx⟩
  · obtain ⟨x, log⟩ : ∃ x, b.logQp cause q (b.get (XQP.QCTX0_PEER_NODE q)) asTarget psn = x := ⟨_, rfl⟩
    rw [log] at kept raised qps rx ⊢
    have fab : (x.captureOwn Page.XQP cause q).fab = x.fab := (x.keepsBehind_capture Page.XQP cause 7 q).proj (·.fab) (fun _ _ _ _ _ => rfl)
    refine ⟨(kept.mono (by simp)).trans ((x.keepsRegs_capture Page.XQP cause 7 q).mono (fun k hk => List.mem_cons_of_mem _ hk)),
      (x.get_capture_hIrq Page.XQP cause 7 q (bit := 4) (by decide)).trans raised, ?_, ?_⟩
    · rw [fab, qps]
    · rw [fab, rx]

/-- `b'` differs from `b` in completions, in waits at bulk memory, in the schedule's instances and in the mover alone. -/
def Blk.besideEnds (b b' : Blk) : Prop :=
  ∃ c w s m, b' = { b with fab := { b.fab with completions := c }, bulk := { b.bulk with waits := w }, sched := s, mover := m }

theorem Blk.besideEnds_refl (b : Blk) : b.besideEnds b := ⟨_, _, _, _, rfl⟩

theorem Blk.besideEnds.trans {a b c : Blk} (h : a.besideEnds b) (k : b.besideEnds c) : a.besideEnds c := by
  obtain ⟨l, w, s, m, rfl⟩ := h
  obtain ⟨l', w', s', m', rfl⟩ := k
  exact ⟨l', w', s', m', rfl⟩

theorem Blk.besideEnds.proj {α : Type} {b b' : Blk} (h : b.besideEnds b') (f : Blk → α)
    (same : ∀ c w s m, f { b with fab := { b.fab with completions := c }, bulk := { b.bulk with waits := w }, sched := s, mover := m } = f b) :
    f b' = f b := by
  obtain ⟨c, w, s, m, rfl⟩ := h
  exact same c w s m

theorem Blk.besideEnds_each {α : Type} (f : Blk → α → Blk) (hf : ∀ b i, Blk.besideEnds b (f b i)) (l : List α) (b : Blk) :
    b.besideEnds (b.each l f) := by
  induction l generalizing b with
  | nil => exact b.besideEnds_refl
  | cons i l ih => exact (hf b i).trans (ih _)

theorem Blk.besideEnds_queueCompletion (b : Blk) (q : Nat) (bytes : List Byte) : b.besideEnds (b.queueCompletion q bytes) := ⟨_, _, _, _, rfl⟩
theorem Blk.besideEnds_endFab (b : Blk) (ch cause n : Nat) : b.besideEnds (b.endFab ch cause n) := ⟨_, _, _, _, rfl⟩
theorem Blk.besideEnds_endEngineWaits (b : Blk) (cls : Nat) : b.besideEnds (b.endEngineWaits cls) := ⟨_, _, _, _, rfl⟩

theorem Blk.besideEnds_failQueue (b : Blk) (q cause : Nat) : b.besideEnds (b.failQueue q cause) := by
  unfold Blk.failQueue
  extract_lets uses ks
  split
  · exact ⟨_, _, _, _, rfl⟩
  · split
    · exact b.besideEnds_refl
    · exact ⟨_, _, _, _, rfl⟩

theorem Blk.besideEnds_completeJob (b : Blk) (q : Nat) (j : SendJob) (status cause psn : Nat) : b.besideEnds (b.completeJob q j status cause psn) := by
  unfold Blk.completeJob
  split
  · split
    · exact b.besideEnds_refl
    · exact b.besideEnds_queueCompletion _ _
  · exact b.besideEnds_endFab _ _ _

/-- The error's own completion, and what waits for the queue pair ended. -/
def Blk.errEnded (b : Blk) (q status cause psn : Nat) : Blk :=
  ((b.queueCompletion q (b.completionBytes status 2 q cause 0 0 0 psn)).endEngineWaits (sendEng q)).when (cause != 0) (fun b => b.failQueue q cause)

/-- The jobs in progress and the mover's descriptors ended. -/
def Blk.errJobs (b : Blk) (q : Nat) (x : QpSt) (status cause : Nat) (owner : Option Nat) (psn : Nat) : Blk :=
  (b.each x.jobs (fun b j => if owner == some j.id then b.completeJob q j status cause psn else b.completeJob q j 1 0 psn)).each x.queue
    (fun b i => match i with | .request _ => b | .mover ch _ _ _ => b.endFab ch mcQp 0)

/-- The send queue is empty. -/
def Blk.sqEmptied (b : Blk) (q : Nat) : Blk := b.set (XQP.QCTX8_SQ_HEAD q) (b.get (XQP.QCTX8_SQ_TAIL q))

/-- A queue pair with nothing but what is left to flush. -/
def QpSt.flushing (x : QpSt) : QpSt :=
  { x with
    queue := [], jobs := [], out := [], resend := []
    flush := x.queue.filterMap (fun i => match i with | .request k => some k | .mover .. => none), ackDue := false }

/-- The send queue is empty; what is in the ring is to be flushed. -/
def Blk.errFlushed (b : Blk) (q : Nat) (x : QpSt) : Blk := ((b.sqEmptied q).setQp q x.flushing).flushMore q

theorem Blk.qpError_eq {b : Blk} {q : Nat} (status cause : Nat) (owner : Option Nat) (asTarget : Bool) (psn : Nat) (ready : b.qstate q = qsReady) :
    b.qpError q status cause owner asTarget psn =
      let e := ((b.errMarked q status cause).errLogged q cause asTarget psn).errEnded q status cause psn
      (e.errJobs q (e.qp q) status cause owner psn).errFlushed q (e.qp q) :=
  if_neg (by rw [ready]; decide)

theorem Blk.besideEnds_errEnded (b : Blk) (q status cause psn : Nat) : b.besideEnds (b.errEnded q status cause psn) := by
  have ended := (b.besideEnds_queueCompletion q (b.completionBytes status 2 q cause 0 0 0 psn)).trans (Blk.besideEnds_endEngineWaits _ (sendEng q))
  unfold Blk.errEnded Blk.when
  split
  · exact ended.trans (Blk.besideEnds_failQueue _ q cause)
  · exact ended

theorem Blk.besideEnds_errJobs (b : Blk) (q : Nat) (x : QpSt) (status cause : Nat) (owner : Option Nat) (psn : Nat) :
    b.besideEnds (b.errJobs q x status cause owner psn) := by
  refine (Blk.besideEnds_each _ (fun c j => ?_) _ b).trans (Blk.besideEnds_each _ (fun c i => ?_) _ _)
  · split <;> exact c.besideEnds_completeJob _ _ _ _ _
  · split
    · exact c.besideEnds_refl
    · exact c.besideEnds_endFab _ _ _

theorem Blk.sqEmptied_shows (b : Blk) (q : Nat) :
    (b.sqEmptied q).get (XQP.QCTX8_SQ_HEAD q) = (b.sqEmptied q).get (XQP.QCTX8_SQ_TAIL q) ∧ (b.sqEmptied q).fab = b.fab ∧
    (∀ k, k ≠ (XQP.QCTX8_SQ_HEAD q).key → (b.sqEmptied q).word k = b.word k) := by
  have head : (b.sqEmptied q).get (XQP.QCTX8_SQ_HEAD q) = b.get (XQP.QCTX8_SQ_TAIL q) :=
    (b.get_set_same (XQP.QCTX8_SQ_HEAD q) _ (show 0 + 12 ≤ 32 by decide)).trans (Nat.mod_eq_of_lt (b.get_lt (XQP.QCTX8_SQ_TAIL q)))
  have tail : (b.sqEmptied q).get (XQP.QCTX8_SQ_TAIL q) = b.get (XQP.QCTX8_SQ_TAIL q) :=
    b.get_set_apart (XQP.QCTX8_SQ_HEAD q) (XQP.QCTX8_SQ_TAIL q) _ (show 16 + 12 ≤ 32 by decide) (.inr (.inl (show 0 + 12 ≤ 16 by decide)))
  exact ⟨head.trans tail.symm, b.set_fab _ _, fun k h => Blk.word_set_ne b _ _ h⟩

theorem Blk.flushSet_shows (b : Blk) (q : Nat) (x : QpSt) :
    ((b.setQp q x).flushMore q).fab.rx = b.fab.rx ∧ (∃ l, ((b.setQp q x).flushMore q).qp q = { x with flush := l }) ∧
    b.keepsOtherPages ((b.setQp q x).flushMore q) [Page.BULK] := by
  obtain ⟨own, regs, rx, -⟩ := b.setQp_shows q x
  have effect : (b.setQp q x).flushMore q = Blk.flushRing x.flush (b.setQp q x) q := by rw [Blk.flushMore, own]
  obtain ⟨pages, rx', l, qp⟩ := Blk.flushRing_flushed q x.flush (b.setQp q x)
  rw [own] at qp
  rw [effect]
  exact ⟨rx'.trans rx, ⟨l, qp⟩, fun k h => (pages k h).trans (congrArg (fun r => Tbl.get regReset r k) regs)⟩

theorem Blk.errFlushed_shows (b : Blk) (q : Nat) (x : QpSt) :
    (b.errFlushed q x).get (XQP.QCTX8_SQ_HEAD q) = (b.errFlushed q x).get (XQP.QCTX8_SQ_TAIL q) ∧ (b.errFlushed q x).fab.rx = b.fab.rx ∧
    (∃ l, (b.errFlushed q x).qp q = { x.flushing with flush := l }) ∧
    (∀ k, pageOf k ∉ [Page.BULK] → k ≠ (XQP.QCTX8_SQ_HEAD q).key → (b.errFlushed q x).word k = b.word k) := by
  obtain ⟨empty, fab, words⟩ := b.sqEmptied_shows q
  obtain ⟨rx, qp, pages⟩ := (b.sqEmptied q).flushSet_shows q x.flushing
  have page : pageOf (regKey Page.XQP 0x070 + 0x100000 * (q + 1)) ∉ [Page.BULK] := by
    rw [qctx_key_page (by decide)]
    decide
  have get (lo w : Nat) : (b.errFlushed q x).get ⟨regKey Page.XQP 0x070 + 0x100000 * (q + 1), lo, w⟩ =
      (b.sqEmptied q).get ⟨regKey Page.XQP 0x070 + 0x100000 * (q + 1), lo, w⟩ := Blk.get_of_word_eq (pages _ page)
  exact ⟨(get 0 12).trans (empty.trans (get 16 12).symm), rx.trans (congrArg (·.rx) fab), qp, fun k h ne => (pages k h).trans (words k ne)⟩

/-- A queue pair that meets an error, as it shows. -/
theorem Blk.qpError_shows {b : Blk} {q : Nat} (status cause psn : Nat) (owner : Option Nat) (asTarget : Bool) (h : q < 256)
    (ready : b.qstate q = qsReady) :
    let e := b.qpError q status cause owner asTarget psn
    e.qstate q = qsError ∧ e.get (XQP.QCTX9_STATUS q) = status % 256 ∧ e.get (XQP.QCTX9_CAUSE q) = cause % 256 ∧
    e.flag (XQP.QCTX9_FLUSHING q) = true ∧ e.flag XQP.IRQ_RAW_QP_ERROR = true ∧
    e.get (XQP.QCTX8_SQ_HEAD q) = e.get (XQP.QCTX8_SQ_TAIL q) ∧ e.fab.rx = b.fab.rx ∧
    (e.qp q).queue = [] ∧ (e.qp q).jobs = [] ∧ (e.qp q).out = [] ∧ (e.qp q).resend = [] ∧ (e.qp q).ackDue = false ∧
    b.keepsOtherPages e [Page.XQP, Page.BULK] := by
  intro e
  have effect := Blk.qpError_eq status cause owner asTarget psn ready
  obtain ⟨state, st, ca, flushing, irq, pages, behind⟩ := b.errMarked_shows q status cause
  obtain ⟨y1, h1⟩ : ∃ y, b.errMarked q status cause = y := ⟨_, rfl⟩
  rw [h1] at effect state st ca flushing irq pages behind
  obtain ⟨kept, irq', -, rx⟩ := y1.errLogged_shows q cause asTarget psn
  obtain ⟨y2, h2⟩ : ∃ y, y1.errLogged q cause asTarget psn = y := ⟨_, rfl⟩
  rw [h2] at effect kept irq' rx
  have ends := y2.besideEnds_errEnded q status cause psn
  obtain ⟨y3, h3⟩ : ∃ y, y2.errEnded q status cause psn = y := ⟨_, rfl⟩
  rw [h3] at effect ends
  have ends' := ends.trans (y3.besideEnds_errJobs q (y3.qp q) status cause owner psn)
  obtain ⟨y4, h4⟩ : ∃ y, y3.errJobs q (y3.qp q) status cause owner psn = y := ⟨_, rfl⟩
  dsimp only at effect
  rw [h4] at effect ends'
  obtain ⟨empty, rx', ⟨l, qp⟩, words⟩ := y4.errFlushed_shows q (y3.qp q)
  rw [← effect] at empty rx' qp words
  have regs : y4.regs = y2.regs := ends'.proj (·.regs) (fun _ _ _ _ => rfl)
  have rx4 : y4.fab.rx = y2.fab.rx := ends'.proj (fun b => b.fab.rx) (fun _ _ _ _ => rfl)
  have get (o lo w : Nat) (ho : o < 0x1000) (ne : o ≠ 0x070) : e.get ⟨regKey Page.XQP o + 0x100000 * (q + 1), lo, w⟩ =
      y1.get ⟨regKey Page.XQP o + 0x100000 * (q + 1), lo, w⟩ := by
    have page : pageOf (regKey Page.XQP o + 0x100000 * (q + 1)) ∉ [Page.BULK] := by
      rw [qctx_key_page ho]
      decide
    have apart : regKey Page.XQP o + 0x100000 * (q + 1) ∉ XQP.QLOG_HEAD_NEXT.key :: captureKeys Page.XQP := by
      rw [List.mem_cons, not_or]
      exact ⟨qctx_key_header (o' := 0x140) (by decide), qctx_key_capture q o⟩
    exact Blk.get_of_word_eq ((words _ page (qctx_key_ne (o := o) (o' := 0x070) ne)).trans ((congrArg (fun r => Tbl.get regReset r _) regs).trans (kept _ apart)))
  have raised : e.get XQP.IRQ_RAW_QP_ERROR = y1.get XQP.IRQ_RAW_QP_ERROR := by
    have word : e.word XQP.IRQ_RAW_QP_ERROR.key = y4.word XQP.IRQ_RAW_QP_ERROR.key :=
      words _ (by decide) (fun same => by
        have same : 0x45018 = 0x45070 + 0x100000 * (q + 1) := same
        omega)
    exact (Blk.get_of_word_eq word).trans ((Blk.get_of_regs_eq regs _).trans irq')
  refine ⟨(e.qstate_of_lt h).trans ((get 0x050 0 3 (by decide) (by decide)).trans state), (get 0x074 0 8 (by decide) (by decide)).trans st,
    (get 0x074 8 8 (by decide) (by decide)).trans ca, (congrArg (fun v => v != 0) (get 0x074 19 1 (by decide) (by decide))).trans flushing,
    (congrArg (fun v => v != 0) raised).trans irq, empty, ?_, ?_, ?_, ?_, ?_, ?_, fun k hk => ?_⟩
  · rw [rx', rx4, rx]
    exact behind.proj (fun b => b.fab.rx) (fun _ _ _ _ _ => rfl)
  · exact congrArg (·.queue) qp
  · exact congrArg (·.jobs) qp
  · exact congrArg (·.out) qp
  · exact congrArg (·.resend) qp
  · exact congrArg (·.ackDue) qp
  · simp only [List.mem_cons, List.not_mem_nil, or_false, not_or] at hk
    obtain ⟨xqp, bulk⟩ := hk
    have apart (o : Nat) (ho : o < 0x1000) : k ≠ regKey Page.XQP o + 0x100000 * (q + 1) := fun same => xqp (by rw [same]; exact qctx_key_page ho)
    have header : k ∉ XQP.QLOG_HEAD_NEXT.key :: captureKeys Page.XQP := fun hk =>
      xqp ((by decide : ∀ j ∈ XQP.QLOG_HEAD_NEXT.key :: captureKeys Page.XQP, pageOf j = Page.XQP) k hk)
    exact (words k (by simpa using bulk) (apart 0x070 (by decide))).trans
      ((congrArg (fun r => Tbl.get regReset r k) regs).trans ((kept k header).trans (pages k (by simpa using xqp))))

/-! ### The commands -/

/-- A write of QCTX0's STATE alone. -/
theorem Node.writeBits_qctx0 {n : Node} {a : Agent} {code : Nat} {x : Blk}
    (hg : n.b.granted a Page.XQP 0x050 (n.b.fieldWord Page.XQP 0x050 0 3 code))
    (effect : n.b.writeQctx0 (n.b.get XQP.QP_SEL) a (n.b.fieldWord Page.XQP 0x050 0 3 code).toNat = x) :
    n.writeBits a Page.XQP 0x050 0 3 code = { n with b := x.answered a Page.XQP 0x050 } := by
  rw [n.writeBits_block a 0 3 code (by decide) hg, Blk.writeBlock_qctx0, effect]

/-- A write of WIN1's EN alone. -/
theorem Node.writeBits_win1 {n : Node} {a : Agent} {on : Nat} {x : Blk}
    (hg : n.b.granted a Page.XQP 0x088 (n.b.fieldWord Page.XQP 0x088 31 1 on))
    (effect : n.b.writeWin1 (n.b.get XQP.WIN_SEL) a (n.b.fieldWord Page.XQP 0x088 31 1 on).toNat = x) :
    n.writeBits a Page.XQP 0x088 31 1 on = { n with b := x.answered a Page.XQP 0x088 } := by
  rw [n.writeBits_block a 31 1 on (by decide) hg, Blk.writeBlock_win1, effect]

/-- The commands that ask for a state. -/
theorem exec_qpRequest {s : State} {a : Agent} {c : Instr} {code : Nat}
    (which : c = .qpResetReq a ∧ code = qsReset ∨ c = .qpInitReq a ∧ code = qsInit ∨ c = .qpReadyReq a ∧ code = qsReady ∨
      c = .qpForceError a ∧ code = qsError) :
    exec c s = s.act c (fun n => n.writeBits a Page.XQP 0x050 0 3 code) ∧ c.wf = agentOk a ∧ code < 4 := by
  obtain ⟨rfl, rfl⟩ | ⟨rfl, rfl⟩ | ⟨rfl, rfl⟩ | ⟨rfl, rfl⟩ := which <;> exact ⟨rfl, rfl, by decide⟩

theorem Blk.writeXqp_cqStatus (b : Blk) (a : Agent) (v : Word) {c : Nat} (h : c < 4) :
    b.writeXqp a (0x214 + 0x20 * c) v = b.cqOverflowClear c v.toNat := by
  unfold Blk.writeXqp
  extract_lets n key q w
  obtain rfl | rfl | rfl | rfl : c = 0 ∨ c = 1 ∨ c = 2 ∨ c = 3 := by omega
  all_goals
    exact (if_neg (by decide)).trans ((if_neg (by decide)).trans ((if_neg (by decide)).trans ((if_neg (by decide)).trans ((if_neg (by decide)).trans
      ((if_neg (by decide)).trans ((if_neg (by decide)).trans (if_pos (by decide))))))))

theorem Node.writeReg_cqStatus {n : Node} {a : Agent} {c : Nat} (h : c < 4) (hg : n.b.granted a Page.XQP (0x214 + 0x20 * c) 1) :
    n.writeReg a Page.XQP (0x214 + 0x20 * c) true 1 = { n with
      b := ((n.b.set (XQP.CQ_STATUS_OVERFLOW c) 0).drainCompletions).answered a Page.XQP (0x214 + 0x20 * c) } := by
  have own : blockRegister Page.XQP (0x214 + 0x20 * c) = true := by
    obtain rfl | rfl | rfl | rfl : c = 0 ∨ c = 1 ∨ c = 2 ∨ c = 3 := by omega
    all_goals decide
  have effect : n.b.writeBlock a Page.XQP (0x214 + 0x20 * c) 1 = (n.b.set (XQP.CQ_STATUS_OVERFLOW c) 0).drainCompletions := by
    rw [Blk.writeBlock_xqp, if_neg (by omega), n.b.writeXqp_cqStatus a 1 h]
    exact if_pos (by decide)
  rw [n.writeReg_block a 1 own hg, effect]

/-- The end of a flush, once nothing is left to flush. -/
def Blk.flushPosted (b : Blk) (q : Nat) : Blk :=
  if q < 256 && b.flag (XQP.QCTX9_FLUSHING q) && (b.qp q).flush.isEmpty && !b.fab.completions.any (fun c => leAt c.bytes 2 1 == q) then
    (if ((b.set (XQP.QCTX9_FLUSHING q) 0).qp q).resetWaits then (b.set (XQP.QCTX9_FLUSHING q) 0).qpToReset q else b.set (XQP.QCTX9_FLUSHING q) 0)
  else b

theorem Blk.qpFlushDone_steps (b : Blk) (q : Nat) :
    b.qpFlushDone q = ((if q < 256 && b.flag (XQP.QCTX9_FLUSHING q) then b.flushMore q else b).drainCompletions).flushPosted q := rfl

theorem Blk.set_qp (b : Blk) (f : Fld) (v q : Nat) : (b.set f v).qp q = b.qp q := rfl

theorem Blk.flushPosted_eq (b : Blk) {q : Nat} (h : q < 256) :
    let posted := b.flag (XQP.QCTX9_FLUSHING q) = true ∧ (b.qp q).flush = [] ∧ ∀ c ∈ b.fab.completions, leAt c.bytes 2 1 ≠ q
    let ended := b.set (XQP.QCTX9_FLUSHING q) 0
    (¬posted → b.flushPosted q = b) ∧ (posted → b.flushPosted q = if (b.qp q).resetWaits = true then ended.qpToReset q else ended) := by
  intro posted ended
  have test : (decide (q < 256) && b.flag (XQP.QCTX9_FLUSHING q) && (b.qp q).flush.isEmpty &&
      !b.fab.completions.any (fun c => leAt c.bytes 2 1 == q)) = true ↔ posted := by
    simp only [posted, decide_eq_true h, Bool.true_and, Bool.and_eq_true, List.isEmpty_iff, Bool.not_eq_true', List.any_eq_false, beq_iff_eq, and_assoc, ne_eq]
  unfold Blk.flushPosted
  rw [Blk.set_qp]
  exact ⟨fun no => if_neg (mt test.mp no), fun yes => if_pos (test.mpr yes)⟩

/-- What still has to be flushed of a queue pair, and its end once flushed. -/
theorem Blk.qpFlushDone_eq (b : Blk) {q : Nat} (h : q < 256) :
    b.qpFlushDone q = ((if b.flag (XQP.QCTX9_FLUSHING q) = true then b.flushMore q else b).drainCompletions).flushPosted q := by
  rw [b.qpFlushDone_steps, decide_eq_true h, Bool.true_and]

/-- Settles O40: windows by `windowEnable_shows`, the requests by `qpRequest_eq`, an error by its stages (`qpError_eq`). -/
theorem windowsAndQueuePairStatesAsRequested : Obligations.WindowsAndQueuePairStatesAsRequested := by
  unfold Obligations.WindowsAndQueuePairStatesAsRequested
  refine ⟨fun s a ha => ?_, fun b q status cause psn owner asTarget h ready => Blk.qpError_shows status cause psn owner asTarget h ready, fun s q h => ?_⟩
  · intro w q st
    refine ⟨fun hg => ?_, fun hg => ?_, fun c code which hg => ?_, fun c h hg => ?_⟩
    · obtain ⟨x, effect, memory, enabled, ok, bad⟩ := s.node.b.windowEnable_shows a
      have written := Node.writeBits_win1 hg effect
      refine ⟨fun en => ?_, fun en fits => ?_, fun en no => ?_⟩
      · obtain ⟨on, base⟩ := enabled en
        exact completes_of_node (f := fun n => n.writeBits a Page.XQP 0x088 31 1 1) rfl ha written ⟨on, base, memory.node⟩
      · obtain ⟨on, fields, kept⟩ := ok en fits
        exact completes_of_node (f := fun n => n.writeBits a Page.XQP 0x088 31 1 1) rfl ha written ⟨on, fields _ (winField_space _),
          fields _ (winField_tile _), Blk.winBase_of_fields fields kept, kept, memory.node⟩
      · obtain ⟨off, count, word, pages⟩ := bad en no
        exact completes_of_node (f := fun n => n.writeBits a Page.XQP 0x088 31 1 1) rfl ha written ⟨off, count, word, pages, memory.node⟩
    · obtain ⟨x, effect, off, base, kept, memory⟩ := s.node.b.windowDisable_shows a
      exact completes_of_node (f := fun n => n.writeBits a Page.XQP 0x088 31 1 0) rfl ha (Node.writeBits_win1 hg effect)
        ⟨off, base, kept, memory.node⟩
    · obtain ⟨act, wf, small⟩ := exec_qpRequest (s := s) which
      have wf := wf.trans ha
      have word := s.blk.qctx_code small
      have other (h : ¬(st = qsInit ∧ code ≤ qsReady)) := Blk.writeQctx0_else (b := s.blk) (q := q) a
        (v := (s.blk.fieldWord Page.XQP 0x050 0 3 code).toNat) (by rwa [word])
      rw [word] at other
      refine ⟨fun h k => ?_, fun h k => ?_, fun h k valid => ?_, fun h k bad => ?_, fun h k => ?_, fun h flushing k => ?_, fun h k => ?_,
        fun first init err reset => ?_⟩
      · subst k
        obtain ⟨x, effect, state, kept, fab, memory⟩ := Blk.qpInit_shows (b := s.node.b) a (.inl h)
        exact completes_of_node act wf (Node.writeBits_qctx0 hg effect) ⟨state, kept, fab, memory.node⟩
      · subst k
        obtain ⟨x, effect, state, kept, fab, memory⟩ := Blk.qpInit_shows (b := s.node.b) a (.inr h)
        exact completes_of_node act wf (Node.writeBits_qctx0 hg effect) ⟨state, kept, fab, memory.node⟩
      · subst k
        obtain ⟨x, effect, memory, ok, -⟩ := Blk.qpReady_shows (b := s.node.b) a h
        obtain ⟨state, oldest, kept⟩ := ok valid
        exact completes_of_node act wf (Node.writeBits_qctx0 hg effect) ⟨state, oldest, kept, memory.node⟩
      · subst k
        obtain ⟨x, effect, memory, -, no⟩ := Blk.qpReady_shows (b := s.node.b) a h
        obtain ⟨state, count⟩ := no bad
        exact completes_of_node act wf (Node.writeBits_qctx0 hg effect) ⟨state, count, memory.node⟩
      · subst k
        obtain ⟨x, effect, state, none, status, head, left, length, pages, memory⟩ := Blk.qpReset_shows (b := s.node.b) a h
        exact completes_of_node act wf (Node.writeBits_qctx0 hg effect) ⟨state, none, status, head, left, length, pages, memory.node⟩
      · subst k
        have effect := other (fun init => absurd (h.symm.trans init.1) (by decide))
        rw [Blk.qpRequest_eq, if_neg (fun h => absurd h.2 (by decide)), if_neg (fun h => absurd h.2 (by decide)), if_neg (fun h => absurd h.2 (by decide)),
          if_neg (fun init => absurd (h.symm.trans init.1) (by decide)), if_neg (fun h => absurd h.2 (by decide)), if_pos ⟨h, rfl⟩, if_pos flushing]
          at effect
        exact exec_next act wf (Node.writeBits_qctx0 hg effect)
      · subst k
        have effect := other (fun init => absurd init.2 (by decide))
        rw [Blk.qpRequest_eq, if_neg (fun h => absurd h.2 (by decide)), if_neg (fun h => absurd h.2 (by decide)), if_neg (fun h => absurd h.2 (by decide)),
          if_neg (fun h => absurd h.2 (by decide)), if_pos ⟨h, rfl⟩] at effect
        exact exec_next act wf (Node.writeBits_qctx0 hg effect)
      · exact exec_next act wf (Node.writeBits_qctx0 hg ((other init).trans (Blk.qpRequest_refused a first init err reset)))
    · exact exec_next (f := fun n => n.writeReg a Page.XQP (0x214 + 0x20 * c) true 1) rfl
        (by simp [Instr.wf, ha, h]) (Node.writeReg_cqStatus h hg)
  · intro b drained posted ended
    obtain ⟨no, yes⟩ := drained.flushPosted_eq h
    have effect : b.flushEnd q = (drained.flushPosted q).syncResume q := congrArg (fun b : Blk => b.syncResume q) (b.qpFlushDone_eq h)
    have wf : (Instr.qpFlushDone q).wf = true := decide_eq_true h
    exact ⟨fun h => exec_blk (f := fun b => b.arriveOwn.flushEnd q) rfl wf (effect.trans (congrArg (fun b : Blk => b.syncResume q) (no h))),
      fun h => exec_blk (f := fun b => b.arriveOwn.flushEnd q) rfl wf (effect.trans (congrArg (fun b : Blk => b.syncResume q) (yes h)))⟩

end Sys2Proof.Machine
end

section
/-! PROOFS. Node number, routing tables and route epochs (spec/11 R263, R267, R270 to R273). -/

namespace Sys2Proof.Machine

/-! ### The registers of XROUTE -/

/-- The RW bits of a word take as written. -/
theorem bitsAt_maskedWrite {r : RegRow} (old v : Word) {lo w : Nat} (fits : lo + w ≤ 32)
    (inside : ∀ i < w, (BitVec.ofNat 32 r.rw).getLsbD (lo + i) = true) (w1c : BitVec.ofNat 32 r.w1c = 0#32) :
    bitsAt (maskedWrite r old v).toNat lo w = bitsAt v.toNat lo w := by
  refine Nat.eq_of_testBit_eq fun i => ?_
  rw [bitsAt, bitsAt, Nat.testBit_mod_two_pow, Nat.testBit_mod_two_pow, Nat.testBit_shiftRight, Nat.testBit_shiftRight]
  by_cases hi : i < w
  · have bit : (maskedWrite r old v).getLsbD (lo + i) = v.getLsbD (lo + i) := by
      have low : lo + i < 32 := by omega
      simp only [maskedWrite, w1c, BitVec.zero_and, BitVec.getLsbD_and, BitVec.getLsbD_or, BitVec.getLsbD_not, BitVec.getLsbD_zero, inside i hi, low,
        decide_true, Bool.not_true, Bool.not_false, Bool.and_false,
        Bool.and_true, Bool.false_or]
    rw [BitVec.testBit_toNat, BitVec.testBit_toNat, bit]
  · simp only [hi, decide_false, Bool.false_and]

/-- The registers of XROUTE as written. -/
theorem Blk.writeBlock_xroute (b : Blk) (a : Agent) (off : Nat) (v : Word) : b.writeBlock a Page.XROUTE off v =
    if off < 0x040 then b.writeHeader Page.XROUTE off v
    else if off == 0x040 then b.writeNodeId a (v.toNat % 256) else if off == 0x044 then (b.storeKey (b.reachKey Page.XROUTE off) v).expectChanged
    else if off == 0x054 then b.writeRtData a v else if off == 0x068 then b.writeRsCtrl a v.toNat
    else b.storeKey (b.reachKey Page.XROUTE off) v := rfl

theorem Blk.writeBlock_nodeId (b : Blk) (a : Agent) (v : Word) : b.writeBlock a Page.XROUTE 0x040 v = b.writeNodeId a (v.toNat % 256) :=
  (b.writeBlock_xroute a 0x040 v).trans ((if_neg (by decide)).trans (if_pos (by decide)))

theorem Blk.writeBlock_rtData (b : Blk) (a : Agent) (v : Word) : b.writeBlock a Page.XROUTE 0x054 v = b.writeRtData a v :=
  (b.writeBlock_xroute a 0x054 v).trans ((if_neg (by decide)).trans ((if_neg (by decide)).trans ((if_neg (by decide)).trans (if_pos (by decide)))))

theorem Blk.writeBlock_rsCtrl (b : Blk) (a : Agent) (v : Word) : b.writeBlock a Page.XROUTE 0x068 v = b.writeRsCtrl a v.toNat :=
  (b.writeBlock_xroute a 0x068 v).trans ((if_neg (by decide)).trans ((if_neg (by decide)).trans ((if_neg (by decide)).trans
    ((if_neg (by decide)).trans (if_pos (by decide))))))

/-- The row of RT_ARM. -/
def rtArmRow : RegRow := ⟨0x058, 1, 0, .none, 0, 0xFFFF0001, 0, 0, false⟩

theorem Blk.storeKey_rtArm (b : Blk) (v : Word) : b.storeKey (b.reachKey Page.XROUTE 0x058) v =
    b.setWord XROUTE.RT_ARM_EPOCH.key (maskedWrite rtArmRow (b.word XROUTE.RT_ARM_EPOCH.key) v) := by
  show b.storeKey XROUTE.RT_ARM_EPOCH.key v = _
  rw [b.storeKey_direct (r := rtArmRow) v (by decide) rfl]
  rfl

theorem Blk.writeBlock_rtArm (b : Blk) (a : Agent) (v : Word) :
    b.writeBlock a Page.XROUTE 0x058 v = b.setWord XROUTE.RT_ARM_EPOCH.key (maskedWrite rtArmRow (b.word XROUTE.RT_ARM_EPOCH.key) v) :=
  (b.writeBlock_xroute a 0x058 v).trans ((if_neg (by decide)).trans ((if_neg (by decide)).trans ((if_neg (by decide)).trans
    ((if_neg (by decide)).trans ((if_neg (by decide)).trans (b.storeKey_rtArm v))))))

/-! ### Table words -/

/-- An access of RT_DATA moves RT_SEL.WORD on. -/
theorem Blk.rtAdvance_shows (b : Blk) : b.rtAdvance.get XROUTE.RT_SEL_WORD = (b.get XROUTE.RT_SEL_WORD + 1) % 32 ∧
    b.rtAdvance.route = b.route ∧ b.keepsRegs b.rtAdvance [XROUTE.RT_SEL_WORD.key] ∧ b.keepsBehind b.rtAdvance :=
  ⟨b.get_set_same XROUTE.RT_SEL_WORD _ (by unfold Fld.fits; decide), rfl, (b.keepsRegs_refl _).set _ (List.mem_singleton.mpr rfl), b.keepsBehind_set _ _⟩

/-- A write to the table in force is captured. -/
theorem Blk.writeRtData_active {b : Blk} (a : Agent) (v : Word) (h : b.get XROUTE.RT_SEL_BANK = b.get XROUTE.STATUS_TABLE_ACTIVE) :
    let t := b.writeRtData a v
    t.get XROUTE.RT_SEL_WORD = (b.get XROUTE.RT_SEL_WORD + 1) % 32 ∧ t.route = b.route ∧
    t.get (hErrCount Page.XROUTE) = satInc 32 (b.get (hErrCount Page.XROUTE)) ∧ b.keepsOtherPages t [Page.XROUTE] ∧ b.keepsBehind t := by
  intro t
  have effect : t = (b.captureFree Page.XROUTE 0x01 (agentCode a)).rtAdvance := if_pos (beq_iff_eq.mpr h)
  have behind := b.keepsBehind_captureFree Page.XROUTE 0x01 (agentCode a)
  have regs := b.keepsRegs_captureFree Page.XROUTE 0x01 (agentCode a)
  have count := b.get_captureFree_errCount Page.XROUTE 0x01 (agentCode a)
  obtain ⟨c, hc⟩ : ∃ c, b.captureFree Page.XROUTE 0x01 (agentCode a) = c := ⟨_, rfl⟩
  rw [hc] at effect behind regs count
  obtain ⟨word, route, kept, behind'⟩ := c.rtAdvance_shows
  rw [← effect] at word route kept behind'
  have pages : b.keepsOtherPages c [Page.XROUTE] := regs.otherPages (by decide)
  refine ⟨?_, route.trans (behind.proj (·.route) (fun _ _ _ _ _ => rfl)), (kept.get (f := hErrCount Page.XROUTE) (by decide)).trans count,
    pages.trans (kept.otherPages (by decide)), behind.trans behind'⟩
  rw [word, regs.get (f := XROUTE.RT_SEL_WORD) (by decide)]

/-- A write to the table that is not in force stores its word. -/
theorem Blk.writeRtData_spare {b : Blk} (a : Agent) (v : Word) (h : b.get XROUTE.RT_SEL_BANK ≠ b.get XROUTE.STATUS_TABLE_ACTIVE) :
    let t := b.writeRtData a v
    let bank := b.get XROUTE.RT_SEL_BANK
    let at_ := b.get XROUTE.RT_SEL_WORD
    t.get XROUTE.RT_SEL_WORD = (at_ + 1) % 32 ∧ t.rtWord bank at_ = v ∧
    (∀ k, k ≠ bank * 32 + at_ → Tbl.get (dflt 0) t.route.tables k = Tbl.get (dflt 0) b.route.tables k) ∧
    b.keepsRegs t [XROUTE.RT_SEL_WORD.key] ∧ b.keepsMemory t := by
  intro t bank at_
  have effect : t = { b with route := { b.route with tables := Tbl.put (dflt 0) b.route.tables (bank * 32 + at_) v } }.rtAdvance :=
    if_neg (mt beq_iff_eq.mp h)
  obtain ⟨c, hc⟩ : ∃ c : Blk, { b with route := { b.route with tables := Tbl.put (dflt 0) b.route.tables (bank * 32 + at_) v } } = c := ⟨_, rfl⟩
  have regs : c.regs = b.regs := congrArg (·.regs) hc.symm
  have tables : c.route.tables = Tbl.put (dflt 0) b.route.tables (bank * 32 + at_) v := congrArg (fun b : Blk => b.route.tables) hc.symm
  have memory : b.keepsMemory c := by rw [← hc]; exact b.keepsMemory_refl
  rw [hc] at effect
  obtain ⟨word, route, kept, behind⟩ := c.rtAdvance_shows
  rw [← effect] at word route kept behind
  refine ⟨?_, ?_, fun k hk => ?_, fun k hk => (kept k hk).trans (congrArg (fun r => Tbl.get regReset r k) regs), memory.trans behind.memory⟩
  · rw [word, Blk.get_of_regs_eq regs]
  · rw [Blk.rtWord, route, tables, Tbl.get_put_same]
  · rw [route, tables, Tbl.get_put_ne _ _ _ hk]

/-! ### Route epochs -/

/-- What RT_ARM holds after a write. -/
theorem Blk.rtArm_shows (b : Blk) {epoch : Nat} (on : Bool) (h : epoch < 65536) :
    let t := b.setWord XROUTE.RT_ARM_EPOCH.key (maskedWrite rtArmRow (b.word XROUTE.RT_ARM_EPOCH.key) (BitVec.ofNat 32 (epoch * 65536 + bitNat on)))
    t.flag XROUTE.RT_ARM_ARMED = on ∧ t.get XROUTE.RT_ARM_EPOCH = epoch := by
  intro t
  have field (lo w : Nat) (fits : lo + w ≤ 32) (inside : ∀ i < w, (BitVec.ofNat 32 rtArmRow.rw).getLsbD (lo + i) = true) :
      t.get ⟨XROUTE.RT_ARM_EPOCH.key, lo, w⟩ = bitsAt (epoch * 65536 + bitNat on) lo w := by
    rw [Blk.get, Blk.word_setWord_same, bitsAt_maskedWrite _ _ fits inside rfl, BitVec.toNat_ofNat, bitsAt_mod_word _ _ _ fits]
  have armed := field 0 1 (by decide) (by decide)
  have named := field 16 16 (by decide) (by decide)
  have bit : bitNat on < 2 := by cases on <;> decide
  rw [bitsAt, Nat.shiftRight_eq_div_pow] at armed named
  refine ⟨?_, ?_⟩
  · show (t.get ⟨XROUTE.RT_ARM_EPOCH.key, 0, 1⟩ != 0) = on
    have low : (epoch * 65536 + bitNat on) / 2 ^ 0 % 2 ^ 1 = bitNat on := by omega
    rw [armed, low]
    cases on <;> rfl
  · exact named.trans (by omega)

/-- GO once RS_CTRL names the epoch. -/
def Blk.rsGo (b : Blk) (a : Agent) (e wide : Nat) : Blk :=
  if coordReached (b.coordPlus b.now 3) (b.normal (coordOfNat wide)) then b.captureFree Page.XROUTE 0x02 (agentCode a)
  else if !(b.flag XROUTE.RT_ARM_ARMED && b.get XROUTE.RT_ARM_EPOCH == e) then b.captureFree Page.XROUTE 0x03 (agentCode a)
  else
    let due := b.scheduleSwitch e (coordOfNat wide)
    due.each due.fleetPorts (fun b p => b.sendLocal p (controlPacket 0x41 true 0 (due.get XROUTE.NODE_ID)
      (routeEpochBytes e (due.get XROUTE.NODE_ID) wide)))

theorem Blk.writeRsCtrl_steps (b : Blk) (a : Agent) (v : Nat) : b.writeRsCtrl a v =
    let named := b.set XROUTE.RS_CTRL_EPOCH (bitsAt v 16 16)
    if !bitAt v 0 then named
    else named.rsGo a (named.get XROUTE.RS_CTRL_EPOCH) (named.get XROUTE.RS_AT_LO + 2 ^ 32 * named.get XROUTE.RS_AT_HI) := rfl

/-- GO goes by what stood before the write. -/
theorem Blk.writeRsCtrl_eq (b : Blk) (a : Agent) {epoch : Nat} (h : epoch < 65536) :
    b.writeRsCtrl a (epoch * 65536 + 1) =
      (b.set XROUTE.RS_CTRL_EPOCH epoch).rsGo a epoch (b.get XROUTE.RS_AT_LO + 2 ^ 32 * b.get XROUTE.RS_AT_HI) := by
  have word : bitsAt (epoch * 65536 + 1) 16 16 = epoch := by rw [bitsAt, Nat.shiftRight_eq_div_pow]; omega
  have bit : bitsAt (epoch * 65536 + 1) 0 1 = 1 := by rw [bitsAt, Nat.shiftRight_eq_div_pow]; omega
  have go : bitAt (epoch * 65536 + 1) 0 = true := by rw [bitAt, bit]; rfl
  have same : (b.set XROUTE.RS_CTRL_EPOCH epoch).get XROUTE.RS_CTRL_EPOCH = epoch :=
    (b.get_set_same XROUTE.RS_CTRL_EPOCH epoch (by unfold Fld.fits; decide)).trans (Nat.mod_eq_of_lt h)
  rw [b.writeRsCtrl_steps, word, go]
  dsimp only
  rw [same, b.get_set_other (f := XROUTE.RS_CTRL_EPOCH) (g := XROUTE.RS_AT_LO) epoch (by decide),
    b.get_set_other (f := XROUTE.RS_CTRL_EPOCH) (g := XROUTE.RS_AT_HI) epoch (by decide), if_neg (by decide)]

/-- A coordinate nearer than `n` line periods goes by the counters and the mode in force. -/
theorem Blk.nearBy_congr {b b' : Blk} (n : Nat) (c : Coord) (ep : b'.ep = b.ep) (mode : b'.mode = b.mode) :
    coordReached (b'.coordPlus b'.now n) (b'.normal c) = coordReached (b.coordPlus b.now n) (b.normal c) := by
  have len : b'.frameLen = b.frameLen := congrArg frameLenOf mode
  have now : b'.now = b.now := by rw [Blk.now, Blk.now, Blk.curL, Blk.curL, ep]
  rw [Blk.coordPlus, Blk.coordPlus, Blk.normal, Blk.normal, len, now]

theorem Blk.rsGo_eq (b : Blk) (a : Agent) (e wide : Nat) :
    let near := coordReached (b.coordPlus b.now 3) (b.normal (coordOfNat wide))
    let armed := b.flag XROUTE.RT_ARM_ARMED = true ∧ b.get XROUTE.RT_ARM_EPOCH = e
    (near = true → b.rsGo a e wide = b.captureFree Page.XROUTE 0x02 (agentCode a)) ∧
    (near = false → ¬armed → b.rsGo a e wide = b.captureFree Page.XROUTE 0x03 (agentCode a)) ∧
    (near = false → armed →
      let due := b.scheduleSwitch e (coordOfNat wide)
      b.rsGo a e wide = due.each due.fleetPorts (fun b p => b.sendLocal p (controlPacket 0x41 true 0 (due.get XROUTE.NODE_ID)
        (routeEpochBytes e (due.get XROUTE.NODE_ID) wide)))) := by
  intro near armed
  have test : (!(b.flag XROUTE.RT_ARM_ARMED && b.get XROUTE.RT_ARM_EPOCH == e)) = true ↔ ¬armed := by
    simp only [armed, Bool.not_eq_true', ← Bool.not_eq_true, Bool.and_eq_true, beq_iff_eq]
  have far (h : near = false) : ¬near = true := by rw [h]; decide
  exact ⟨fun h => if_pos h, fun h no => (if_neg (far h)).trans (if_pos (test.mpr no)),
    fun h yes => (if_neg (far h)).trans (if_neg (fun no => test.mp no yes))⟩

/-! ### Epochs received -/

/-- What an epoch that is taken does here, once it is passed on: `over` that it is newer than a pending one, `older` that it is older. -/
def Blk.epochMet (b : Blk) (e : Nat) (at_ : Coord) (over_ older : Bool) : Blk :=
  if b.flag XROUTE.RT_ARM_ARMED && b.get XROUTE.RT_ARM_EPOCH == e then
    if older then b
    else if b.reached at_ then
      let b := (b.set XROUTE.RS_STATUS_LATE 1).raise XROUTE.IRQ_RAW_LATE
      b.scheduleSwitch e (b.coordPlus b.now 1)
    else b.scheduleSwitch e at_
  else
    let b := b.when over_ Blk.dropSwitch
    ((b.set XROUTE.RS_STATUS_UNARMED 1).raise XROUTE.IRQ_RAW_UNARMED).captureOwnFree Page.XROUTE 0x03

theorem Blk.routeEpochReceive_steps (b : Blk) (p : Nat) (d : RouteEpochIn) : b.routeEpochReceive p d =
    if !b.enabled Page.XROUTE || !b.fleetPort p || !(newerEpoch (leAt d.payload 0 2) (b.get XROUTE.RS_STATUS_LAST_EPOCH) ||
      b.route.pending.any (fun x => newerEpoch (leAt d.payload 0 2) x.1)) then b
    else (b.each (b.fleetPorts.filter (fun q => q != p)) (fun b q =>
      b.sendLocal q { controlPacket 0x41 true 0 d.src d.payload with hops := d.hops })).epochMet (leAt d.payload 0 2)
        (coordOfNat (leAt d.payload 4 8)) (b.route.pending.any (fun x => newerEpoch (leAt d.payload 0 2) x.1))
        (b.route.pending.any (fun x => newerEpoch x.1 (leAt d.payload 0 2))) := rfl

theorem Blk.epochMet_eq (b : Blk) (e : Nat) (at_ : Coord) (over_ older : Bool) :
    let armed := b.flag XROUTE.RT_ARM_ARMED = true ∧ b.get XROUTE.RT_ARM_EPOCH = e
    let late := (b.set XROUTE.RS_STATUS_LATE 1).raise XROUTE.IRQ_RAW_LATE
    let unarmed := fun b : Blk => ((b.set XROUTE.RS_STATUS_UNARMED 1).raise XROUTE.IRQ_RAW_UNARMED).captureOwnFree Page.XROUTE 0x03
    (armed → older = true → b.epochMet e at_ over_ older = b) ∧
    (armed → older = false → b.reached at_ = false → b.epochMet e at_ over_ older = b.scheduleSwitch e at_) ∧
    (armed → older = false → b.reached at_ = true → b.epochMet e at_ over_ older = late.scheduleSwitch e (late.coordPlus late.now 1)) ∧
    (¬armed → over_ = false → b.epochMet e at_ over_ older = unarmed b) ∧
    (¬armed → over_ = true → b.epochMet e at_ over_ older = unarmed b.dropSwitch) := by
  intro armed late unarmed
  have test : (b.flag XROUTE.RT_ARM_ARMED && b.get XROUTE.RT_ARM_EPOCH == e) = true ↔ armed := by
    simp only [armed, Bool.and_eq_true, beq_iff_eq]
  refine ⟨fun yes h => (if_pos (test.mpr yes)).trans (if_pos h), fun yes h no => ?_, fun yes h now => ?_, fun no h => ?_, fun no h => ?_⟩
  · exact (if_pos (test.mpr yes)).trans ((if_neg (by rw [h]; decide)).trans (if_neg (by rw [no]; decide)))
  · exact (if_pos (test.mpr yes)).trans ((if_neg (by rw [h]; decide)).trans (if_pos now))
  · subst h
    exact if_neg (mt test.mp no)
  · subst h
    exact if_neg (mt test.mp no)

/-- Whether a pending epoch is in some order to one received. -/
theorem pendingEpoch_iff (o : Option (Nat × Coord)) (f : Nat → Bool) :
    o.any (fun x => f x.1) = true ↔ ∃ pe c, o = some (pe, c) ∧ f pe = true := by
  cases o with
  | none => simp
  | some x => exact ⟨fun h => ⟨x.1, x.2, rfl, h⟩, fun ⟨_, _, same, h⟩ => by cases same; exact h⟩

/-- An epoch received, by what it meets. -/
theorem Blk.routeEpochReceive_eq (b : Blk) (p : Nat) (d : RouteEpochIn) :
    let e := leAt d.payload 0 2
    let overPending := ∃ pe c, b.route.pending = some (pe, c) ∧ newerEpoch e pe = true
    let newer := newerEpoch e (b.get XROUTE.RS_STATUS_LAST_EPOCH) = true ∨ overPending
    let passed := b.each (b.fleetPorts.filter (fun q => q != p)) (fun b q =>
      b.sendLocal q { controlPacket 0x41 true 0 d.src d.payload with hops := d.hops })
    (¬(b.enabled Page.XROUTE = true ∧ b.fleetPort p = true ∧ newer) → b.routeEpochReceive p d = b) ∧
    (b.enabled Page.XROUTE = true → b.fleetPort p = true → newer → b.routeEpochReceive p d = passed.epochMet e (coordOfNat (leAt d.payload 4 8))
      (b.route.pending.any (fun x => newerEpoch e x.1)) (b.route.pending.any (fun x => newerEpoch x.1 e))) := by
  intro e overPending newer passed
  have test : (!b.enabled Page.XROUTE || !b.fleetPort p || !(newerEpoch e (b.get XROUTE.RS_STATUS_LAST_EPOCH) ||
      b.route.pending.any (fun x => newerEpoch e x.1))) = true ↔ ¬(b.enabled Page.XROUTE = true ∧ b.fleetPort p = true ∧ newer) := by
    have iff := pendingEpoch_iff b.route.pending (newerEpoch e)
    rw [← Bool.not_and, ← Bool.not_and, Bool.not_eq_true', ← Bool.not_eq_true, Bool.and_eq_true, Bool.and_eq_true, Bool.or_eq_true, iff, and_assoc]
  rw [b.routeEpochReceive_steps]
  exact ⟨fun no => if_pos (test.mpr no), fun on port new => if_neg (fun no => test.mp no ⟨on, port, new⟩)⟩

/-! ### The switch -/

/-- The spare table in force, and what shows it. -/
def Blk.tableSwitched (b : Blk) (e : Nat) : Blk :=
  let b := b.set XROUTE.STATUS_TABLE_ACTIVE (1 - b.get XROUTE.STATUS_TABLE_ACTIVE)
  let b := ((b.set XROUTE.RT_ARM_ARMED 0).set XROUTE.RS_STATUS_LAST_EPOCH e).bump XROUTE.SWITCH_COUNT
  ((b.set XROUTE.STATUS_SWITCH_PENDING 0).set XROUTE.RS_STATUS_PENDING 0).raise XROUTE.IRQ_RAW_SWITCHED

theorem Blk.routeSwitch_eq (b : Blk) :
    ((∀ e at_, b.route.pending = some (e, at_) → b.powered Page.XROUTE = false ∨ b.reached at_ = false) → b.routeSwitch = b) ∧
    (∀ e at_, b.route.pending = some (e, at_) → b.powered Page.XROUTE = true → b.reached at_ = true →
      b.routeSwitch = { b.tableSwitched e with route := { b.route with pending := none } }) := by
  unfold Blk.routeSwitch
  refine ⟨fun h => ?_, fun e at_ pending on due => ?_⟩
  · split
    · next e at_ pending =>
      refine if_neg fun both => ?_
      rw [Bool.and_eq_true] at both
      obtain no | no := h e at_ pending
      · exact absurd both.1 (by rw [no]; decide)
      · exact absurd both.2 (by rw [no]; decide)
    · rfl
  · rw [pending]
    dsimp only
    rw [on, due]
    rfl

theorem Blk.tableSwitched_shows (b : Blk) (e : Nat) :
    let t := b.tableSwitched e
    t.get XROUTE.STATUS_TABLE_ACTIVE = 1 - b.get XROUTE.STATUS_TABLE_ACTIVE ∧ t.flag XROUTE.RT_ARM_ARMED = false ∧
    t.get XROUTE.RS_STATUS_LAST_EPOCH = e % 65536 ∧
    t.get XROUTE.SWITCH_COUNT = (b.get XROUTE.SWITCH_COUNT + 1) % 2 ^ XROUTE.SWITCH_COUNT.w ∧
    t.flag XROUTE.RS_STATUS_PENDING = false ∧ t.flag XROUTE.IRQ_RAW_SWITCHED = true ∧ b.keepsOtherPages t [Page.XROUTE] ∧ b.keepsBehind t := by
  intro t
  have fits {f : Fld} (h : f.lo + f.w ≤ 32) : f.fits := h
  refine ⟨?_, ?_, ?_, ?_, ?_, ?_, ?_, ?_⟩
  · have small : 1 - b.get XROUTE.STATUS_TABLE_ACTIVE < 2 ^ 1 := by omega
    simp (disch := decide) only [t, Blk.tableSwitched, Blk.bump, Blk.get_raise_clear, Blk.get_set_clear]
    exact (b.get_set_same XROUTE.STATUS_TABLE_ACTIVE _ (fits (by decide))).trans (Nat.mod_eq_of_lt small)
  · simp (disch := decide) only [t, Blk.tableSwitched, Blk.bump, Blk.flag_raise_clear, Blk.flag_set_clear]
    exact Blk.flag_set_bitNat _ false (by decide)
  · simp (disch := decide) only [t, Blk.tableSwitched, Blk.bump, Blk.get_raise_clear, Blk.get_set_clear]
    exact Blk.get_set_same _ XROUTE.RS_STATUS_LAST_EPOCH _ (fits (by decide))
  · simp (disch := decide) only [t, Blk.tableSwitched, Blk.bump, Blk.get_raise_clear, Blk.get_set_clear]
    exact Blk.get_set_same _ XROUTE.SWITCH_COUNT _ (fits (by decide))
  · simp (disch := decide) only [t, Blk.tableSwitched, Blk.bump, Blk.flag_raise_clear]
    exact Blk.flag_set_bitNat _ false (by decide)
  · exact Blk.flag_raise_same _ XROUTE.IRQ_RAW_SWITCHED (fits (by decide)) (by decide)
  · have at_ {f : Fld} (h : pageOf f.key = Page.XROUTE) : pageOf f.key ∈ [Page.XROUTE] := List.mem_singleton.mpr h
    exact (((((((b.keepsOtherPages_refl _).set _ (at_ (by decide))).set _ (at_ (by decide))).set _ (at_ (by decide))).set _ (at_ (by decide))).set _
      (at_ (by decide))).set _ (at_ (by decide))).set _ (at_ (by decide))
  · exact ((((((b.keepsBehind_set _ _).set _ _).set _ _).set _ _).set _ _).set _ _).raise _

/-- Settles O39: the registers of XROUTE as written, an epoch received by what it meets (`epochMet_eq`), the switch by `tableSwitched_shows`. -/
theorem routingTablesSwitchAtTheirEpoch : Obligations.RoutingTablesSwitchAtTheirEpoch := by
  unfold Obligations.RoutingTablesSwitchAtTheirEpoch
  refine ⟨fun s a ha => ⟨fun v h hg => ?_, fun v hg => ?_, fun v hg => ?_, fun epoch on h hg => ?_, fun epoch h hg => ?_⟩,
    fun s p d hp hs hh => ?_, fun b p d => ?_, fun s => ?_⟩
  · have wf : (Instr.nodeIdWrite a v).wf = true := by simp [Instr.wf, ha, h]
    refine exec_next (f := fun n => n.writeReg a Page.XROUTE 0x040 true (BitVec.ofNat 32 v)) rfl wf ?_
    have small : (BitVec.ofNat 32 v).toNat % 256 = v := by rw [BitVec.toNat_ofNat]; omega
    rw [s.node.writeReg_block a _ (by decide) hg, Blk.writeBlock_nodeId, small]
    rfl
  · exact exec_next (f := fun n => n.readReg a Page.XROUTE 0x054 true) rfl ha
      (s.node.readReg_live a (w := s.node.b.rtWord (s.node.b.get XROUTE.RT_SEL_BANK) (s.node.b.get XROUTE.RT_SEL_WORD)) (b := s.node.b.rtAdvance)
        hg (by decide) (by decide) (by decide) rfl)
  · intro bank at_
    have written : s.node.writeReg a Page.XROUTE 0x054 true v = { s.node with b := (s.node.b.writeRtData a v).answered a Page.XROUTE 0x054 } := by
      rw [s.node.writeReg_block a v (by decide) hg, Blk.writeBlock_rtData]
    obtain ⟨t, ht⟩ : ∃ t, s.node.b.writeRtData a v = t := ⟨_, rfl⟩
    rw [ht] at written
    refine completes_of_node (f := fun n => n.writeReg a Page.XROUTE 0x054 true v) rfl ha written ?_
    by_cases same : bank = s.blk.get XROUTE.STATUS_TABLE_ACTIVE
    · obtain ⟨word, route, count, pages, behind⟩ := Blk.writeRtData_active (b := s.node.b) a v same
      rw [ht] at word route count pages behind
      exact ⟨word, fun no => absurd same no, fun _ => ⟨route, count⟩, pages, behind.memory.node⟩
    · obtain ⟨word, stored, rest, kept, memory⟩ := Blk.writeRtData_spare (b := s.node.b) a v same
      rw [ht] at word stored rest kept memory
      have pages : s.node.b.keepsOtherPages t [Page.XROUTE] := kept.otherPages (by decide)
      exact ⟨word, fun _ => ⟨stored, rest, kept⟩, fun yes => absurd yes same, pages, memory.node⟩
  · have wf : (Instr.routeArm a epoch on).wf = true := by simp [Instr.wf, ha, h]
    obtain ⟨armed, named⟩ := s.node.b.rtArm_shows on h
    have written := s.node.writeReg_block a _ (by decide) hg
    rw [Blk.writeBlock_rtArm] at written
    exact completes_of_node (f := fun n => n.writeReg a Page.XROUTE 0x058 true (BitVec.ofNat 32 (epoch * 65536 + bitNat on))) rfl wf written
      ⟨armed, named, rfl, s.node.b.keepsRegs_setWord _ _, ⟨rfl, rfl, rfl, rfl⟩⟩
  · intro named at_ near armed ends
    have wf : (Instr.routeGo a epoch).wf = true := by simp [Instr.wf, ha, h]
    have word : (BitVec.ofNat 32 (epoch * 65536 + 1)).toNat = epoch * 65536 + 1 := by rw [BitVec.toNat_ofNat]; omega
    have written := s.node.writeReg_block a _ (by decide) hg
    rw [Blk.writeBlock_rsCtrl, word, Blk.writeRsCtrl_eq s.node.b a h] at written
    have go {t : Blk} (effect : (s.node.b.set XROUTE.RS_CTRL_EPOCH epoch).rsGo a epoch (s.node.b.get XROUTE.RS_AT_LO + 2 ^ 32 * s.node.b.get XROUTE.RS_AT_HI) = t) :
        ends t := by
      rw [effect] at written
      exact exec_next (f := fun n => n.writeReg a Page.XROUTE 0x068 true (BitVec.ofNat 32 (epoch * 65536 + 1))) rfl wf written
    have arm : named.flag XROUTE.RT_ARM_ARMED = s.blk.flag XROUTE.RT_ARM_ARMED := Blk.flag_set_clear _ epoch (by decide)
    have which : named.get XROUTE.RT_ARM_EPOCH = s.blk.get XROUTE.RT_ARM_EPOCH := Blk.get_set_clear _ epoch (by decide)
    obtain ⟨tooNear, unarmed, due⟩ := named.rsGo_eq a epoch (s.node.b.get XROUTE.RS_AT_LO + 2 ^ 32 * s.node.b.get XROUTE.RS_AT_HI)
    have near' : coordReached (named.coordPlus named.now 3) (named.normal at_) = near :=
      Blk.nearBy_congr 3 at_ (b := s.blk) (Blk.set_ep _ _ _) (Blk.get_set_clear _ epoch (by decide))
    exact ⟨fun h => go (tooNear (near'.trans h)), fun far no => go (unarmed (near'.trans far) (fun yes => no ⟨arm.symm.trans yes.1, which.symm.trans yes.2⟩)),
      fun far yes => go (due (near'.trans far) ⟨arm.trans yes.1, which.trans yes.2⟩)⟩
  · have wf : (Instr.routeEpochReceive p d).wf = true := by simp [Instr.wf, hp, hs, hh]
    exact exec_blk (f := fun b => b.routeEpochTaken p d) rfl wf rfl
  · intro e at_ overPending underPending newer passed armed late unarmed
    obtain ⟨stays, taken⟩ := b.routeEpochReceive_eq p d
    refine ⟨stays, fun on port new => ?_⟩
    have effect := taken on port new
    have over_ := pendingEpoch_iff b.route.pending (newerEpoch e)
    have under := pendingEpoch_iff b.route.pending (fun x => newerEpoch x e)
    obtain ⟨older, soon, past, open_, given⟩ := passed.epochMet_eq e at_ (b.route.pending.any (fun x => newerEpoch e x.1))
      (b.route.pending.any (fun x => newerEpoch x.1 e))
    have not_ {c : Bool} {P : Prop} (iff : c = true ↔ P) (no : ¬P) : c = false := Bool.eq_false_iff.mpr (mt iff.mp no)
    exact ⟨fun yes h => effect.trans (older yes (under.mpr h)), fun yes h no => effect.trans (soon yes (not_ under h) no),
      fun yes h now => effect.trans (past yes (not_ under h) now), fun no h => effect.trans (open_ no (not_ over_ h)),
      fun no h => ⟨effect.trans (given no (over_.mpr h)), rfl⟩⟩
  · obtain ⟨stays, switches⟩ := s.node.b.routeSwitch_eq
    refine ⟨fun h => exec_blk_same (f := Blk.routeSwitch) rfl rfl (stays h), fun e at_ pending on due => ?_⟩
    have effect := switches e at_ pending on due
    obtain ⟨active, armed, last, count, off, irq, pages, behind⟩ := s.node.b.tableSwitched_shows e
    obtain ⟨t, ht⟩ : ∃ t, s.node.b.tableSwitched e = t := ⟨_, rfl⟩
    rw [ht] at effect active armed last count off irq pages behind
    exact completes_of_blk (f := Blk.routeSwitch) rfl rfl effect
      ⟨active, armed, last, count, off, irq, rfl, pages, (Blk.keepsMemory.node (n := s.node) behind.memory)⟩

end Sys2Proof.Machine
end

section
/-! PROOFS. The mover's served descriptors name flash bytes that module flash may not have (spec/10 R225, notes/assumptions/1). -/

namespace Sys2Proof.Machine

/-- A byte of flash that cannot be read and lies beyond the 32 GiB of module flash names no unit: the command stops. -/
theorem moverDescDone_beyondFlash (s : State) (c : Nat) : exec (.moverDescDone c [2 ^ 35]) s = .fault .noSuchUnit := by
  have wf : (Instr.moverDescDone c [2 ^ 35]).wf = false := by simp [Instr.wf]
  exact s.act_fault (fun n => n.on (fun b => b.moverDescDone c [2 ^ 35])) wf

/-- Refutes O35: it says for every list of unreadable flash bytes that MOVER_DESC_DONE completes, yet with the byte 2^35, past the end of module
flash, it stops; on channel 0 of the reset state, say. -/
theorem not_moverChannelsRunTheirDescriptors : ¬ Obligations.MoverChannelsRunTheirDescriptors := by
  unfold Obligations.MoverChannelsRunTheirDescriptors
  intro h
  obtain ⟨-, -, -, served, -⟩ := h
  obtain ⟨-, -, t, next, -⟩ := served State.reset 0 [2 ^ 35] (by decide)
  rw [moverDescDone_beyondFlash] at next
  cases next

end Sys2Proof.Machine
end

section
/-! PROOFS. The packer: its passes and the expansion at load (spec/09 R210 to R213, R219, R220, R223). -/

namespace Sys2Proof.Machine

/-! ### Registers as written -/

/-- The registers of PACK as written. -/
theorem Blk.writeBlock_pack (b : Blk) (a : Agent) (off : Nat) (v : Word) : b.writeBlock a Page.PACK off v =
    if off < 0x040 then b.writeHeader Page.PACK off v
    else if off == 0x040 then b.writePackCtrl v else if off == 0x0C0 then b.writeExpCtrl v else b.storeKey (b.reachKey Page.PACK off) v := rfl

theorem Blk.writeBlock_packCtrl (b : Blk) (a : Agent) (v : Word) : b.writeBlock a Page.PACK 0x040 v = b.writePackCtrl v :=
  (b.writeBlock_pack a 0x040 v).trans ((if_neg (by decide)).trans (if_pos (by decide)))

theorem Blk.writeBlock_expCtrl (b : Blk) (a : Agent) (v : Word) : b.writeBlock a Page.PACK 0x0C0 v = b.writeExpCtrl v :=
  (b.writeBlock_pack a 0x0C0 v).trans ((if_neg (by decide)).trans ((if_neg (by decide)).trans (if_pos (by decide))))

/-- GO of a pass, once PACK_CTRL holds the word. -/
def Blk.packStart (b : Blk) : Blk :=
  if b.pack.pass.isSome then b.captureOwnFree Page.PACK pkBusy
  else if !b.active Page.PACK then b
  else if b.get PACK.PLAIN_BYTES % 32 != 0 || b.get PACK.PLAIN_BYTES < 32 || 3145728 < b.get PACK.PLAIN_BYTES then b.packError pkSrcSize
  else if (b.flag PACK.PACK_CTRL_SHADOW && b.flag PACK.PACK_CTRL_DELTA_ALLOW) || 5 < b.get PACK.PACK_CTRL_FMT then b.packError pkOptBad
  else if (b.packMagic b.packJob).1 != 0 then (b.packMagic b.packJob).2.packError pkBulkErr
  else (b.packMagic b.packJob).2.packBegin b.packJob

theorem Blk.writePackCtrl_steps (b : Blk) (v : Word) : b.writePackCtrl v =
    if !v.getLsbD 0 then b.storeKey (regKey Page.PACK 0x040) v else (b.storeKey (regKey Page.PACK 0x040) v).packStart := rfl

/-- A write that keeps GO set starts a pass. -/
theorem Blk.writePackCtrl_go (b : Blk) {v : Word} (go : bitAt v.toNat 0 = true) :
    b.writePackCtrl v = (b.storeKey (regKey Page.PACK 0x040) v).packStart := by
  have bit : v.getLsbD 0 = true := (bitAt_eq_testBit v.toNat 0).symm.trans go
  rw [b.writePackCtrl_steps, bit]
  rfl

theorem Blk.packStart_eq (b : Blk) :
    let n := b.get PACK.PLAIN_BYTES
    let size := n % 32 = 0 ∧ 32 ≤ n ∧ n ≤ 3145728
    let options := ¬(b.flag PACK.PACK_CTRL_SHADOW = true ∧ b.flag PACK.PACK_CTRL_DELTA_ALLOW = true) ∧ b.get PACK.PACK_CTRL_FMT ≤ 5
    (b.pack.pass.isSome = true → b.packStart = b.captureOwnFree Page.PACK pkBusy) ∧
    (b.pack.pass = none → b.active Page.PACK = false → b.packStart = b) ∧
    (b.pack.pass = none → b.active Page.PACK = true →
      (¬size → b.packStart = b.packError pkSrcSize) ∧ (size → ¬options → b.packStart = b.packError pkOptBad) ∧
      (∀ c b1, size → options → b.packMagic b.packJob = (c, b1) →
        (c ≠ 0 → b.packStart = b1.packError pkBulkErr) ∧ (c = 0 → b.packStart = b1.packBegin b.packJob))) := by
  intro n size options
  have sizeBad : (n % 32 != 0 || decide (n < 32) || decide (3145728 < n)) = true ↔ ¬size := by
    simp only [size, Bool.or_eq_true, bne_iff_ne, decide_eq_true_eq]
    omega
  have optionsBad : (b.flag PACK.PACK_CTRL_SHADOW && b.flag PACK.PACK_CTRL_DELTA_ALLOW || decide (5 < b.get PACK.PACK_CTRL_FMT)) = true ↔ ¬options := by
    rw [Bool.or_eq_true, Bool.and_eq_true, decide_eq_true_eq]
    show _ ↔ ¬(¬_ ∧ _)
    rw [not_and_or, not_not, Nat.not_le]
  refine ⟨fun busy => if_pos busy, fun idle off => ?_, fun idle on => ?_⟩
  · exact (if_neg (by rw [idle]; decide)).trans (if_pos (by rw [off]; decide))
  · have go : b.packStart = _ := (if_neg (by rw [idle]; decide)).trans (if_neg (by rw [on]; decide))
    refine ⟨fun bad => go.trans (if_pos (sizeBad.mpr bad)), fun fits bad => ?_, fun c b1 fits good magic => ?_⟩
    · exact go.trans ((if_neg (fun no => sizeBad.mp no fits)).trans (if_pos (optionsBad.mpr bad)))
    · have written := go.trans ((if_neg (fun no => sizeBad.mp no fits)).trans (if_neg (fun no => optionsBad.mp no good)))
      rw [magic] at written
      refine ⟨fun fault => written.trans (if_pos (bne_iff_ne.mpr fault)), fun ok => ?_⟩
      subst ok
      exact written.trans (if_neg (fun no : (0 != 0) = true => absurd no (by decide)))

theorem Blk.storeKey_pack (b : Blk) (k : Nat) (v : Word) : (b.storeKey k v).pack = b.pack := by
  unfold Blk.storeKey
  split
  · rfl
  · dsimp only
    split <;> split <;> rfl

/-! ### A pass -/

/-- The header of a pass that has none yet. -/
def Blk.packHeaded (b : Blk) (j : PackJob) (c : Nat) : Nat × Blk := if c != 0 || b.pack.run.headed then (c, b) else b.packHead j

/-- The comparison of a pass that asks for it. -/
def Blk.packVerified (b : Blk) (j : PackJob) (c : Nat) : Nat × Blk := if c != 0 || !j.verify then (c, b) else b.packVerify j

/-- How a pass ends. -/
def Blk.packEnded (b : Blk) (j : PackJob) (c : Nat) : Blk :=
  if c == 0 then b.packFinish j else if c == bkWait then b else b.packFail j c

/-- The header, the comparison and the end of a pass whose segments came to `r`. -/
def Blk.packRest (j : PackJob) (r : Nat × Blk) : Blk :=
  let (c, b) := r
  let (c, b) := b.packHeaded j c
  let (c, b) := b.packVerified j c
  b.packEnded j c

theorem Blk.packRest_eq {b1 b2 b3 : Blk} {j : PackJob} {c c2 c3 : Nat} (head : b1.packHeaded j c = (c2, b2)) (check : b2.packVerified j c2 = (c3, b3)) :
    Blk.packRest j (c, b1) = b3.packEnded j c3 := by
  unfold Blk.packRest
  dsimp only
  rw [head]
  dsimp only
  rw [check]

theorem Blk.packDone_eq (b : Blk) : b.packDone =
    match b.pack.pass with
    | none => b
    | some j => if !b.active Page.PACK then b else Blk.packRest j (Blk.packSegs (ceilDiv j.plain 65536) b j) := rfl

theorem Blk.packDone_steps {b b1 b2 b3 : Blk} {j : PackJob} {c c2 c3 : Nat} (pass : b.pack.pass = some j) (on : b.active Page.PACK = true)
    (segs : Blk.packSegs (ceilDiv j.plain 65536) b j = (c, b1)) (head : b1.packHeaded j c = (c2, b2)) (check : b2.packVerified j c2 = (c3, b3)) :
    b.packDone = b3.packEnded j c3 := by
  rw [b.packDone_eq, pass]
  dsimp only
  rw [on, segs, Blk.packRest_eq head check]
  exact if_neg (by decide)

/-- A pass that has met a cause waits on a page that is held, and fails else. -/
theorem Blk.packEnded_cause (b : Blk) (j : PackJob) {c : Nat} :
    (c = bkWait → b.packEnded j c = b) ∧ (c ≠ 0 → c ≠ bkWait → b.packEnded j c = b.packFail j c) := by
  refine ⟨fun h => ?_, fun h k => ?_⟩
  · subst h
    rfl
  · exact (if_neg (mt beq_iff_eq.mp h)).trans (if_neg (mt beq_iff_eq.mp k))

theorem Blk.packHeaded_cause (b : Blk) (j : PackJob) {c : Nat} (h : c ≠ 0) : b.packHeaded j c = (c, b) :=
  if_pos (by rw [bne_iff_ne.mpr h, Bool.true_or])

theorem Blk.packHeaded_none (b : Blk) (j : PackJob) : b.packHeaded j 0 = if b.pack.run.headed = true then (0, b) else b.packHead j := rfl

theorem Blk.packVerified_cause (b : Blk) (j : PackJob) {c : Nat} (h : c ≠ 0) : b.packVerified j c = (c, b) :=
  if_pos (by rw [bne_iff_ne.mpr h, Bool.true_or])

theorem Blk.packDone_still (b : Blk) (h : b.pack.pass = none ∨ b.active Page.PACK = false) : b.packDone = b := by
  unfold Blk.packDone
  split
  · rfl
  · next j pass =>
    have off : b.active Page.PACK = false := h.resolve_left (by rw [pass]; nofun)
    exact if_pos (by rw [off]; decide)

/-- A segment read, coded and written, by what stands in its way. -/
theorem Blk.packSeg_eq {b b1 b2 : Blk} {j : PackJob} {plain base : List Byte}
    (source : (b.set PACK.STATUS_PSTATE 1).bulkRead 4 (j.src + b.pack.run.plain.length) (min 65536 (j.plain - b.pack.run.plain.length)) = (0, plain, b1))
    (under : (if j.deltaOn = true then b1.bulkRead 4 (j.baseSrc + b.pack.run.plain.length) (min 65536 (j.plain - b.pack.run.plain.length))
      else (0, [], b1)) = (0, base, b2)) :
    let chosen := chooseMethod j.fmt j.expOn j.deltaOn plain base
    let seg := storeSegment j.fmt chosen.1 plain chosen.2.1
    let coded := (b2.packHist chosen.2.2).set PACK.STATUS_PSTATE 2
    (j.limit < 64 + b.pack.run.out.length + seg.length → b.packSeg j = (pkDstFull, coded)) ∧
    (∀ b3, 64 + b.pack.run.out.length + seg.length ≤ j.limit → coded.bulkWrite 4 (j.dst + (64 + b.pack.run.out.length)) seg = (0, b3) →
      b.packSeg j = (0, { (b3.bump (packCount chosen.1)).bump PACK.SEG_DONE with
        pack := { ((b3.bump (packCount chosen.1)).bump PACK.SEG_DONE).pack with
          run := { b.pack.run with plain := b.pack.run.plain ++ plain, out := b.pack.run.out ++ seg } } })) := by
  intro chosen seg coded
  unfold Blk.packSeg
  dsimp only
  rw [source]
  dsimp only
  rw [if_neg (by decide), under]
  dsimp only
  rw [if_neg (by decide)]
  refine ⟨fun full => if_pos full, fun b3 fits write => ?_⟩
  refine (if_neg (Nat.not_lt.mpr fits)).trans ?_
  have write' : ((b2.packHist (chooseMethod j.fmt j.expOn j.deltaOn plain base).2.2).set PACK.STATUS_PSTATE 2).bulkWrite 4
      (j.dst + (64 + b.pack.run.out.length)) (storeSegment j.fmt (chooseMethod j.fmt j.expOn j.deltaOn plain base).1 plain
        (chooseMethod j.fmt j.expOn j.deltaOn plain base).2.1) = (0, b3) := write
  rw [write']
  rfl

theorem Blk.packHist_bulk (b : Blk) (both : List (Option CodedSeg)) : ((b.packHist both).set PACK.STATUS_PSTATE 2).bulk = b.bulk := by
  have hist : (b.packHist both).bulk = b.bulk := by
    unfold Blk.packHist
    rfl
  exact (Blk.set_bulk _ _ _).trans hist

theorem packCount_cases (m : Nat) : packCount m = PACK.METHOD_COUNT_RAW ∨ packCount m = PACK.METHOD_COUNT_EXP ∨ packCount m = PACK.METHOD_COUNT_DELTA := by
  unfold packCount
  split
  · exact .inl rfl
  · split
    · exact .inr (.inl rfl)
    · exact .inr (.inr rfl)

/-- The counts of a segment written. -/
theorem Blk.packCounted_shows (b : Blk) (m : Nat) :
    let t := (b.bump (packCount m)).bump PACK.SEG_DONE
    t.bulk = b.bulk ∧ t.get PACK.SEG_DONE = (b.get PACK.SEG_DONE + 1) % 2 ^ PACK.SEG_DONE.w := by
  intro t
  have apart : PACK.SEG_DONE.key ≠ (packCount m).key := by
    obtain h | h | h := packCount_cases m <;> rw [h] <;> decide
  have other : (b.bump (packCount m)).get PACK.SEG_DONE = b.get PACK.SEG_DONE := b.get_set_other _ apart
  refine ⟨rfl, ?_⟩
  rw [Blk.get_bump_same _ _ (by unfold Fld.fits; decide), other]

/-- The header of a pass, by what stands in its way. -/
theorem Blk.packHead_eq (b : Blk) (j : PackJob) :
    let head := packHeader j b.pack.run (b.get PACK.METHOD_COUNT_DELTA != 0)
    (j.limit < 64 → b.packHead j = (pkDstFull, b)) ∧
    (∀ b1, 64 ≤ j.limit → b.bulkWrite 4 j.dst head.1 = (0, b1) →
      let shown := ((b1.set PACK.OUT_BYTES (64 + b.pack.run.out.length)).set PACK.PLAIN_CRC (crc32c b.pack.run.plain).toNat).set PACK.PACKED_CRC head.2.toNat
      b.packHead j = (0, { shown with pack := { shown.pack with run := { b.pack.run with headed := true } } })) := by
  intro head
  unfold Blk.packHead
  dsimp only
  refine ⟨fun small => if_pos small, fun b1 fits write => ?_⟩
  refine (if_neg (Nat.not_lt.mpr fits)).trans ?_
  have write' : b.bulkWrite 4 j.dst (packHeader j b.pack.run (b.get PACK.METHOD_COUNT_DELTA != 0)).1 = (0, b1) := write
  rw [write']
  rfl

theorem Blk.packShown_shows (b : Blk) (out : Nat) (plain packed : Word) :
    let t := ((b.set PACK.OUT_BYTES out).set PACK.PLAIN_CRC plain.toNat).set PACK.PACKED_CRC packed.toNat
    t.bulk = b.bulk ∧ t.get PACK.OUT_BYTES = out % 2 ^ PACK.OUT_BYTES.w ∧ t.get PACK.PLAIN_CRC = plain.toNat ∧ t.get PACK.PACKED_CRC = packed.toNat := by
  intro t
  refine ⟨rfl, ?_, ?_, ?_⟩
  · simp (disch := decide) only [t, Blk.get_set_clear]
    exact b.get_set_same PACK.OUT_BYTES out (by unfold Fld.fits; decide)
  · simp (disch := decide) only [t, Blk.get_set_clear]
    exact (Blk.get_set_same _ PACK.PLAIN_CRC _ (by unfold Fld.fits; decide)).trans (Nat.mod_eq_of_lt plain.isLt)
  · exact (Blk.get_set_same _ PACK.PACKED_CRC _ (by unfold Fld.fits; decide)).trans (Nat.mod_eq_of_lt packed.isLt)

/-- Erg's record of a pass that ended well, and the packer idle. -/
def Blk.packNoted (b : Blk) (j : PackJob) : Blk :=
  { b.notePacked j.dst (some (b.get PACK.PACKED_CRC)) with pack := { b.pack with pass := none } }

theorem Blk.packNoted_get (b : Blk) (j : PackJob) (f : Fld) : (b.packNoted j).get f = b.get f := rfl

theorem Blk.packFinish_steps (b : Blk) (j : PackJob) :
    b.packFinish j = (((b.set PACK.LAST_ERR 0).set PACK.STATUS_PSTATE 0).raise PACK.IRQ_RAW_PACK_DONE).packNoted j := rfl

theorem Blk.packFinish_shows (b : Blk) (j : PackJob) :
    let t := b.packFinish j
    t.get PACK.LAST_ERR = 0 ∧ t.get PACK.STATUS_PSTATE = 0 ∧ t.flag PACK.IRQ_RAW_PACK_DONE = true ∧ t.pack.pass = none ∧
    t.get PACK.PACKED_CRC = b.get PACK.PACKED_CRC := by
  intro t
  have get (f : Fld) : t.get f = (((b.set PACK.LAST_ERR 0).set PACK.STATUS_PSTATE 0).raise PACK.IRQ_RAW_PACK_DONE).get f :=
    (congrArg (fun b : Blk => b.get f) (b.packFinish_steps j)).trans (Blk.packNoted_get _ j f)
  refine ⟨?_, ?_, ?_, rfl, ?_⟩
  · rw [get, Blk.get_raise_clear _ (by decide), Blk.get_set_clear _ _ (by decide)]
    exact b.get_set_same PACK.LAST_ERR 0 (by unfold Fld.fits; decide)
  · rw [get, Blk.get_raise_clear _ (by decide)]
    exact Blk.get_set_same _ PACK.STATUS_PSTATE 0 (by unfold Fld.fits; decide)
  · rw [Blk.flag, get]
    exact Blk.flag_raise_same _ PACK.IRQ_RAW_PACK_DONE (by unfold Fld.fits; decide) (by decide)
  · rw [get, Blk.get_raise_clear _ (by decide), Blk.get_set_clear _ _ (by decide), Blk.get_set_clear _ _ (by decide)]

/-- No pass runs. -/
def Blk.passOver (b : Blk) : Blk := { b with pack := { b.pack with pass := none } }

theorem Blk.passOver_get (b : Blk) (f : Fld) : b.passOver.get f = b.get f := rfl

theorem Blk.packError_steps (b : Blk) (cause : Nat) : b.packError cause =
    ((((b.set PACK.LAST_ERR cause).raise PACK.IRQ_RAW_PACK_ERR).captureOwnFree Page.PACK cause).set PACK.STATUS_PSTATE 0).passOver := rfl

/-- A pass that ends in error shows its cause. -/
theorem Blk.packError_shows (b : Blk) {cause : Nat} (h : cause < 16) :
    let t := b.packError cause
    t.get PACK.LAST_ERR = cause ∧ t.get PACK.STATUS_PSTATE = 0 ∧ t.flag PACK.IRQ_RAW_PACK_ERR = true ∧ t.pack.pass = none := by
  intro t
  have effect := b.packError_steps cause
  have err : ((b.set PACK.LAST_ERR cause).raise PACK.IRQ_RAW_PACK_ERR).get PACK.LAST_ERR = cause := by
    rw [Blk.get_raise_clear _ (by decide)]
    exact (b.get_set_same PACK.LAST_ERR cause (by unfold Fld.fits; decide)).trans (Nat.mod_eq_of_lt (by show cause < 2 ^ 8; omega))
  have irq : ((b.set PACK.LAST_ERR cause).raise PACK.IRQ_RAW_PACK_ERR).flag PACK.IRQ_RAW_PACK_ERR = true :=
    Blk.flag_raise_same _ PACK.IRQ_RAW_PACK_ERR (by unfold Fld.fits; decide) (by decide)
  obtain ⟨y, hy⟩ : ∃ y, (b.set PACK.LAST_ERR cause).raise PACK.IRQ_RAW_PACK_ERR = y := ⟨_, rfl⟩
  rw [hy] at effect err irq
  have kept := y.keepsRegs_captureOwnFree Page.PACK cause
  have irq' := (y.flag_captureOwnFree_hIrq Page.PACK cause (bit := 1) (by decide)).trans irq
  obtain ⟨x, hx⟩ : ∃ x, y.captureOwnFree Page.PACK cause = x := ⟨_, rfl⟩
  rw [hx] at effect kept irq'
  have get (f : Fld) : t.get f = (x.set PACK.STATUS_PSTATE 0).get f := (congrArg (fun b : Blk => b.get f) effect).trans (Blk.passOver_get _ f)
  refine ⟨?_, ?_, ?_, congrArg (fun b : Blk => b.pack.pass) effect⟩
  · rw [get, Blk.get_set_clear _ _ (by decide), kept.get (f := PACK.LAST_ERR) (by decide), err]
  · rw [get]
    exact Blk.get_set_same _ PACK.STATUS_PSTATE 0 (by unfold Fld.fits; decide)
  · rw [Blk.flag, get, Blk.get_set_clear _ _ (by decide)]
    exact irq'

/-! ### Expansion -/

/-- GO of an expansion, by what EXP_CTRL and its neighbours hold after the write. -/
theorem Blk.writeExpCtrl_eq {b stored : Blk} {v : Word} {t src dst : Nat} (store : b.storeKey (regKey Page.PACK 0x0C0) v = stored)
    (go : v.getLsbD 8 = true) (tile : stored.get PACK.EXP_CTRL_TILE = t) (from_ : stored.get PACK.EXP_SRC = src) (into : stored.get PACK.EXP_DST = dst) :
    let head := if src + 64 ≤ spmBytes then stored.spmGet t src 64 else []
    let outside := spmBytes < dst ∨ ∃ x, tensorHead head none = some x ∧
      (spmBytes < dst + x.plain ∨ overlaps src (leAt head 16 4) dst x.plain = true)
    (stored.active Page.PACK = false → b.writeExpCtrl v = stored) ∧
    (stored.active Page.PACK = true →
      (stored.tileReady t = false ∨ stored.pack.expand.isSome = true → b.writeExpCtrl v = stored.expandError pkTileBusy) ∧
      (stored.tileReady t = true → stored.pack.expand = none →
        (outside → b.writeExpCtrl v = stored.expandError pkExpRange) ∧
        (¬outside →
          let runs := (stored.set PACK.EXP_STATUS_STATE 1).set PACK.STATUS_EXPANDING 1
          b.writeExpCtrl v = { runs with pack := { runs.pack with expand := some ⟨t, src, dst⟩ } }))) := by
  intro head outside
  have busy : (!stored.tileReady t || stored.pack.expand.isSome) = true ↔ stored.tileReady t = false ∨ stored.pack.expand.isSome = true := by
    rw [Bool.or_eq_true, Bool.not_eq_true']
  unfold Blk.writeExpCtrl
  dsimp only
  rw [store, go, tile, from_, into]
  refine ⟨fun off => if_pos (by rw [off]; rfl), fun on => ?_⟩
  have pass : ¬(!true || !stored.active Page.PACK) = true := by rw [on]; decide
  rw [if_neg pass]
  refine ⟨fun h => if_pos (busy.mpr h), fun ready idle => ?_⟩
  have free : ¬(!stored.tileReady t || stored.pack.expand.isSome) = true := by rw [ready, idle]; decide
  rw [if_neg free]
  refine ⟨fun h => if_pos ?_, fun h => if_neg ?_⟩
  · cases h with
    | inl far => rw [decide_eq_true far, Bool.or_true]
    | inr inside =>
      obtain ⟨x, same, bad⟩ := inside
      rw [same]
      dsimp only
      rw [Bool.or_eq_true, Bool.or_eq_true, decide_eq_true_eq]
      exact .inl bad
  · rw [Bool.or_eq_true, decide_eq_true_eq, not_or]
    refine ⟨fun bad => h (.inr ?_), fun far => h (.inl far)⟩
    split at bad
    · cases bad
    · next x same =>
      rw [Bool.or_eq_true, decide_eq_true_eq] at bad
      exact ⟨x, same, bad⟩

/-- The expansion over. -/
def Blk.expandIdle (b : Blk) : Blk :=
  let b := (b.set PACK.EXP_STATUS_STATE 0).set PACK.STATUS_EXPANDING 0
  { b with pack := { b.pack with expand := none } }

/-- How an expansion ends. -/
def Blk.expandEnded (b : Blk) (j : ExpandJob) (e : Expanded) : Blk :=
  if e.cause == 0 then ((b.spmWrite j.tile j.dst e.plain 2).2.set PACK.EXP_STATUS_LAST_ERR 0).raise PACK.IRQ_RAW_EXPAND_DONE
  else ((b.free (8 * e.touched)).2.spmPut j.tile j.dst (natLe (min e.touched (spmBytes - j.dst)) (b.free (8 * e.touched)).1)).expandError
    (if e.cause == tcPoison then pkPoison else pkHdrBad)

theorem Blk.expandDone_none (b : Blk) (h : b.pack.expand = none) : b.expandDone = b := by
  unfold Blk.expandDone
  rw [h]

theorem Blk.expandDone_eq {b : Blk} {j : ExpandJob} (h : b.pack.expand = some j) :
    (b.powered (tilePage j.tile) = false ∨ b.enabled Page.PACK = false → b.expandDone = b) ∧
    (∀ e b1, b.powered (tilePage j.tile) = true → b.enabled Page.PACK = true → expandTensor (tileReader j.tile 0) j.src none none b = (e, b1) →
      b.expandDone = b1.expandIdle.expandEnded j e) := by
  unfold Blk.expandDone
  rw [h]
  dsimp only
  refine ⟨fun off => if_pos ?_, fun e b1 power on read => ?_⟩
  · rw [Bool.or_eq_true, Bool.not_eq_true', Bool.not_eq_true']
    exact off
  · rw [if_neg (by rw [power, on]; decide), read]
    rfl

theorem beq_causes {cause code x y : Nat} : (if (cause == code) = true then x else y) = if cause = code then x else y := by
  simp only [beq_iff_eq]

theorem Blk.expandEnded_eq (b : Blk) (j : ExpandJob) (e : Expanded) :
    (e.cause = 0 → b.expandEnded j e = ((b.spmWrite j.tile j.dst e.plain 2).2.set PACK.EXP_STATUS_LAST_ERR 0).raise PACK.IRQ_RAW_EXPAND_DONE) ∧
    (e.cause ≠ 0 → b.expandEnded j e =
      ((b.free (8 * e.touched)).2.spmPut j.tile j.dst (natLe (min e.touched (spmBytes - j.dst)) (b.free (8 * e.touched)).1)).expandError
        (if e.cause = tcPoison then pkPoison else pkHdrBad)) := by
  rw [← beq_causes]
  exact ⟨fun h => if_pos (beq_iff_eq.mpr h), fun h => if_neg (mt beq_iff_eq.mp h)⟩

/-- The word EXP_GO writes to EXP_CTRL, as it stands there. -/
theorem Blk.storeKey_expCtrl (b : Blk) {t : Nat} (h : t < 16) :
    (b.storeKey (regKey Page.PACK 0x0C0) (BitVec.ofNat 32 (256 + t))).get PACK.EXP_CTRL_TILE = t := by
  have row : regRow (pageOf (regKey Page.PACK 0x0C0)) (offOf (regKey Page.PACK 0x0C0)) = some ⟨0x0C0, 1, 0, .none, 0, 0xF, 0, 0, false⟩ := by decide
  rw [b.storeKey_direct _ row rfl]
  dsimp only
  rw [if_neg (by decide)]
  have key : regKey Page.PACK 0x0C0 = PACK.EXP_CTRL_TILE.key := rfl
  rw [key, Blk.get, Blk.word_setWord_same]
  refine (bitsAt_maskedWrite _ _ (by decide) (by decide) rfl).trans ?_
  rw [BitVec.toNat_ofNat, bitsAt, Nat.shiftRight_eq_div_pow]
  show (256 + t) % 2 ^ 32 / 2 ^ 0 % 2 ^ 4 = t
  omega

/-- Settles O36: the register writes by `packStart_eq` and `writeExpCtrl_eq`, a pass by its segments, header and check (`packDone_steps`). -/
theorem packAndExpandRunToTheirEnd : Obligations.PackAndExpandRunToTheirEnd := by
  unfold Obligations.PackAndExpandRunToTheirEnd
  refine ⟨fun s a ha hg => ?_, fun s h => exec_blk_same (f := Blk.packDone) rfl rfl (Blk.packDone_still _ h), fun s j c b1 pass on segs => ?_,
    fun b b1 b2 j plain base => ?_, fun b j => ?_, fun b j => b.packFinish_shows j, fun b j cause h => Blk.packError_shows _ h,
    fun s a t wf hg => ?_, fun s => ⟨fun h => exec_blk_same (f := Blk.expandDone) rfl rfl (Blk.expandDone_none _ h), fun t src dst job => ?_⟩⟩
  · intro stored n size options ends
    obtain ⟨busy, off, on⟩ := stored.packStart_eq
    have go : bitAt (s.node.b.fieldWord Page.PACK 0x040 0 1 1).toNat 0 = true := s.node.b.bitAt_fieldWord Page.PACK 0x040 true (by decide)
    have pack : stored.pack = s.blk.pack := s.blk.storeKey_pack _ _
    have written {t : Blk} (effect : stored.packStart = t) : ends t := by
      refine exec_next (f := fun n => n.writeBits a Page.PACK 0x040 0 1 1) rfl ha ?_
      rw [s.node.writeBits_block a 0 1 1 (by decide) hg, Blk.writeBlock_packCtrl, s.node.b.writePackCtrl_go go]
      exact congrArg (fun b : Blk => ({ s.node with b := b.answered a Page.PACK 0x040 } : Node)) effect
    have idle {o : Option PackJob} (h : s.blk.pack.pass = o) : stored.pack.pass = o := (congrArg (·.pass) pack).trans h
    refine ⟨fun h => written (busy ((congrArg (fun p : PackSt => p.pass.isSome) pack).trans h)), fun h no => written (off (idle h) no), fun h yes => ?_⟩
    obtain ⟨bad, opts, begins⟩ := on (idle h) yes
    exact ⟨fun h => written (bad h), fun h k => written (opts h k), fun c b1 h k magic =>
      ⟨fun fault => written ((begins c b1 h k magic).1 fault), fun ok => written ((begins c b1 h k magic).2 ok)⟩⟩
  · intro ends stops
    have over_ {c2 c3 : Nat} {b2 b3 : Blk} (head : b1.packHeaded j c = (c2, b2)) (check : b2.packVerified j c2 = (c3, b3)) : ends (b3.packEnded j c3) :=
      exec_blk (f := Blk.packDone) rfl rfl (Blk.packDone_steps pass on segs head check)
    have halts {c3 : Nat} {b3 : Blk} (h : ends (b3.packEnded j c3)) : stops c3 b3 := by
      obtain ⟨waits, fails⟩ := b3.packEnded_cause j (c := c3)
      exact ⟨fun k => by rwa [waits k] at h, fun k l => by rwa [fails k l] at h⟩
    have finish {b3 : Blk} (h : ends (b3.packEnded j 0)) : ends (b3.packFinish j) := h
    refine ⟨?_, fun c2 b2 ok head => ?_⟩
    · by_cases ok : c = 0
      · subst ok
        exact ⟨fun no => absurd no (by decide), fun no => absurd rfl no⟩
      · exact halts (over_ (b1.packHeaded_cause j ok) (b1.packVerified_cause j ok))
    · subst ok
      have head := (b1.packHeaded_none j).trans head
      refine ⟨?_, fun ok no => ?_, fun c3 b3 ok yes check => ?_⟩
      · by_cases ok : c2 = 0
        · subst ok
          exact ⟨fun no => absurd no (by decide), fun no => absurd rfl no⟩
        · exact halts (over_ head (b2.packVerified_cause j ok))
      · subst ok
        have none_ : b2.packVerified j 0 = (0, b2) := if_pos (by rw [no]; rfl)
        exact finish (over_ head none_)
      · subst ok
        have done : b2.packVerified j 0 = (c3, b3) := (if_neg (by rw [yes]; decide)).trans check
        refine ⟨halts (over_ head done), fun ok => ?_⟩
        subst ok
        exact finish (over_ head done)
  · intro r n source under chosen seg off
    obtain ⟨full, fits⟩ := Blk.packSeg_eq source under
    refine ⟨fun h => ?_, ?_⟩
    · rw [full h]
      exact ⟨rfl, b2.packHist_bulk _⟩
    · intro b3 h write u
      have effect := fits b3 h write
      obtain ⟨bulk, segs⟩ := b3.packCounted_shows chosen.1
      exact ⟨congrArg Prod.fst effect, congrArg (fun x : Nat × Blk => x.2.pack.run) effect,
        (congrArg (fun x : Nat × Blk => x.2.bulk) effect).trans bulk, (congrArg (fun x : Nat × Blk => x.2.get PACK.SEG_DONE) effect).trans segs⟩
  · intro r head
    obtain ⟨small, fits⟩ := b.packHead_eq j
    refine ⟨small, ?_⟩
    intro b1 h write u
    have effect := fits b1 h write
    obtain ⟨bulk, out, plain, packed⟩ := b1.packShown_shows (64 + r.out.length) (crc32c r.plain) head.2
    exact ⟨congrArg Prod.fst effect, (congrArg (fun x : Nat × Blk => x.2.bulk) effect).trans bulk,
      congrArg (fun x : Nat × Blk => x.2.pack.run.headed) effect, (congrArg (fun x : Nat × Blk => x.2.get PACK.OUT_BYTES) effect).trans out,
      (congrArg (fun x : Nat × Blk => x.2.get PACK.PLAIN_CRC) effect).trans plain,
      (congrArg (fun x : Nat × Blk => x.2.get PACK.PACKED_CRC) effect).trans packed⟩
  · intro stored src dst ends head outside
    have lt : t < 16 := by
      rw [Bool.and_eq_true, decide_eq_true_eq] at wf
      exact wf.2
    have go : (BitVec.ofNat 32 (256 + t)).getLsbD 8 = true := by
      rw [BitVec.getLsbD_ofNat, Nat.testBit_eq_decide_div_mod_eq]
      simp only [show 8 < 32 by decide, decide_true, Bool.true_and, decide_eq_true_eq]
      omega
    obtain ⟨off, on⟩ := Blk.writeExpCtrl_eq (b := s.node.b) rfl go (s.node.b.storeKey_expCtrl lt) rfl rfl
    have written {x : Blk} (effect : s.node.b.writeExpCtrl (BitVec.ofNat 32 (256 + t)) = x) : ends x := by
      refine exec_next (f := fun n => n.writeReg a Page.PACK 0x0C0 true (BitVec.ofNat 32 (256 + t))) rfl wf ?_
      rw [s.node.writeReg_block a _ (by decide) hg, Blk.writeBlock_expCtrl, effect]
    refine ⟨fun h => written (off h), fun h => ⟨fun busy => written ((on h).1 busy), fun ready idle => ?_⟩⟩
    obtain ⟨bad, runs⟩ := (on h).2 ready idle
    exact ⟨fun h => written (bad h), fun h => written (runs h)⟩
  · obtain ⟨waits, done⟩ := Blk.expandDone_eq job
    refine ⟨fun h => exec_blk_same (f := Blk.expandDone) rfl rfl (waits h), fun e b1 power on read => ?_⟩
    obtain ⟨good, bad⟩ := b1.expandIdle.expandEnded_eq ⟨t, src, dst⟩ e
    exact ⟨fun h => exec_blk (f := Blk.expandDone) rfl rfl ((done e b1 power on read).trans (good h)),
      fun h => exec_blk (f := Blk.expandDone) rfl rfl ((done e b1 power on read).trans (bad h))⟩

end Sys2Proof.Machine
end

section
/-! PROOFS. What sending a packet touches (spec/11 R253 to R259, R269). -/

namespace Sys2Proof.Machine

/-- The pages of the Xanar ports. -/
def portPages : List Nat := [portPage 0, portPage 1, portPage 2, portPage 3]

/-- The port pages, and XROUTE, where drops are counted. -/
def linkPages : List Nat := [portPage 0, portPage 1, portPage 2, portPage 3, Page.XROUTE]

/-- A field of a port page that sending leaves: neither a count of flits sent nor the PAUSE bits asserted. -/
def Fld.sendsLeave (g : Fld) : Bool :=
  decide (g.lo + g.w ≤ 32) && decide (pageOf g.key ∈ portPages) && (List.range 4).all (fun q =>
    g.clearOf (XPORT.STATUS_PAUSE_RX q) && decide (g.key ≠ (XPORT.TX_FLITS_LO q).key) && decide (g.key ≠ (XPORT.TX_FLITS_HI q).key))

/-- What packets leave as they do: registers of `pages`, the ports `ps`, outputs, free values, reports, and which beat came last. -/
structure Blk.besideSends (ps pages : List Nat) (b b' : Blk) : Prop where
  shape : ∃ r g q pt s n l, b' = { b with
    regs := r, pages := g, reports := q, ports := pt, sent := s, fresh := n, ep := { b.ep with latest := l } }
  get : ∀ g : Fld, g.sendsLeave = true → b'.get g = b.get g
  words : b.keepsOtherPages b' pages
  port : ∀ q, q ∉ ps → b'.port q = b.port q

section
variable {a b c b' : Blk} {ps pages : List Nat}

theorem Blk.besideSends_refl (b : Blk) (ps pages : List Nat) : Blk.besideSends ps pages b b :=
  ⟨⟨_, _, _, _, _, _, _, rfl⟩, fun _ _ => rfl, b.keepsOtherPages_refl _, fun _ _ => rfl⟩

theorem Blk.besideSends.trans (h : Blk.besideSends ps pages a b) (k : Blk.besideSends ps pages b c) : Blk.besideSends ps pages a c := by
  obtain ⟨⟨r, g, q, pt, s, n, l, hb⟩, get, words, port⟩ := h
  obtain ⟨⟨r', g', q', pt', s', n', l', hc⟩, get', words', port'⟩ := k
  exact ⟨⟨r', g', q', pt', s', n', l', by rw [hc, hb]⟩, fun f hf => (get' f hf).trans (get f hf), words.trans words', fun i hi => (port' i hi).trans (port i hi)⟩

theorem Blk.besideSends.mono (h : Blk.besideSends ps pages a b) {ps' pages' : List Nat} (hp : ∀ p ∈ ps, p ∈ ps') (hg : ∀ p ∈ pages, p ∈ pages') :
    Blk.besideSends ps' pages' a b :=
  ⟨h.shape, h.get, fun k hk => h.words k (fun mem => hk (hg _ mem)), fun q hq => h.port q (fun mem => hq (hp q mem))⟩

theorem Blk.besideSends.proj {α : Type} (h : Blk.besideSends ps pages b b') (f : Blk → α)
    (same : ∀ r g q pt s n l, f { b with
      regs := r, pages := g, reports := q, ports := pt, sent := s, fresh := n, ep := { b.ep with latest := l } } = f b) : f b' = f b := by
  obtain ⟨⟨r, g, q, pt, s, n, l, rfl⟩, -⟩ := h
  exact same r g q pt s n l

theorem Blk.besideSends.memory (h : Blk.besideSends ps pages b b') : b.keepsMemory b' :=
  ⟨h.proj (·.flash) (fun _ _ _ _ _ _ _ => rfl), h.proj (·.bulk.bytes) (fun _ _ _ _ _ _ _ => rfl), h.proj (·.spm.bytes) (fun _ _ _ _ _ _ _ => rfl)⟩

theorem Blk.besideSends.flag (h : Blk.besideSends ps pages b b') {g : Fld} (hg : g.sendsLeave = true) : b'.flag g = b.flag g :=
  congrArg (fun v => v != 0) (h.get g hg)

theorem Blk.besideSends.powered (h : Blk.besideSends ps pages b b') (page : Nat) : b'.powered page = b.powered page := by
  have on : b'.domOn = b.domOn := h.proj (·.domOn) (fun _ _ _ _ _ _ _ => rfl)
  simp only [Blk.powered, Blk.domainOn, on]

/-- What leaves the registers and what is behind them but for outputs and free values. -/
theorem Blk.besideSends_outputs (b : Blk) (s : List OutEvent) (n : Nat) (ps pages : List Nat) : Blk.besideSends ps pages b { b with sent := s, fresh := n } :=
  ⟨⟨_, _, _, _, _, _, _, rfl⟩, fun _ _ => rfl, b.keepsOtherPages_refl _, fun _ _ => rfl⟩

/-- A register write that no field kept by sends meets. -/
theorem Blk.besideSends_setWord (b : Blk) {k : Nat} (v : Word) (page : pageOf k ∈ pages) (clear : ∀ g : Fld, g.sendsLeave = true → g.key ≠ k) :
    Blk.besideSends ps pages b (b.setWord k v) :=
  ⟨⟨_, _, _, _, _, _, _, rfl⟩, fun g hg => Blk.get_of_word_eq (b.word_setWord_ne v (clear g hg)), (b.keepsOtherPages_refl _).setWord v page, fun _ _ => rfl⟩

theorem Blk.besideSends_set (b : Blk) {f : Fld} (v : Nat) (page : pageOf f.key ∈ pages) (clear : ∀ g : Fld, g.sendsLeave = true → g.clearOf f = true) :
    Blk.besideSends ps pages b (b.set f v) :=
  ⟨⟨_, _, _, _, _, _, _, rfl⟩, fun g hg => b.get_set_clear v (clear g hg), (b.keepsOtherPages_refl _).set v page, fun _ _ => rfl⟩

theorem Blk.besideSends_setPort (b : Blk) {p : Nat} (x : PortSt) (h : p ∈ ps) : Blk.besideSends ps pages b (b.setPort p x) := by
  refine ⟨⟨_, _, _, _, _, _, _, rfl⟩, fun _ _ => rfl, b.keepsOtherPages_refl _, fun q hq => ?_⟩
  have ne : p ≠ q := fun e => hq (e ▸ h)
  simp only [Blk.port, Blk.setPort, nth, setNth, List.getElem?_set_ne ne]

/-- A step for each of a list. -/
theorem Blk.besideSends_each {α : Type} {f : Blk → α → Blk} {l : List α} (hf : ∀ b, ∀ i ∈ l, Blk.besideSends ps pages b (f b i)) (b : Blk) :
    Blk.besideSends ps pages b (b.each l f) := by
  induction l generalizing b with
  | nil => exact b.besideSends_refl _ _
  | cons i is ih =>
    have first := hf b i (List.mem_cons_self ..)
    have rest := ih (fun b j hj => hf b j (List.mem_cons_of_mem i hj)) (f b i)
    exact first.trans rest

end

theorem Fld.sendsLeave_iff {g : Fld} (h : g.sendsLeave = true) : g.lo + g.w ≤ 32 ∧ pageOf g.key ∈ portPages ∧ ∀ q < 4,
    g.clearOf (XPORT.STATUS_PAUSE_RX q) = true ∧ g.key ≠ (XPORT.TX_FLITS_LO q).key ∧ g.key ≠ (XPORT.TX_FLITS_HI q).key := by
  simpa [Fld.sendsLeave, and_assoc] using h

/-- A field on another page than the ports'. -/
theorem Fld.clearOf_page {g f : Fld} (h : g.sendsLeave = true) (page : pageOf f.key ∉ portPages) : g.clearOf f = true := by
  obtain ⟨fits, at_, -⟩ := Fld.sendsLeave_iff h
  have apart : f.key ≠ g.key := fun e => page (e ▸ at_)
  simp [Fld.clearOf, fits, apart]

theorem Fld.clearOf_flits {g : Fld} (h : g.sendsLeave = true) {p : Nat} (hp : p < 4) :
    g.clearOf (XPORT.TX_FLITS_LO p) = true ∧ g.clearOf (XPORT.TX_FLITS_HI p) = true := by
  obtain ⟨fits, -, clear⟩ := Fld.sendsLeave_iff h
  obtain ⟨-, lo, hi⟩ := clear p hp
  simp only [Fld.clearOf, Bool.and_eq_true, decide_eq_true_eq]
  exact ⟨⟨fits, .inl lo.symm⟩, fits, .inl hi.symm⟩

theorem pageOf_portField {p : Nat} (hp : p < 4) : pageOf (XPORT.STATUS_PAUSE_RX p).key ∈ portPages ∧ pageOf (XPORT.TX_FLITS_LO p).key ∈ portPages ∧
    pageOf (XPORT.TX_FLITS_HI p).key ∈ portPages :=
  (by decide : ∀ p < 4, pageOf (XPORT.STATUS_PAUSE_RX p).key ∈ portPages ∧ pageOf (XPORT.TX_FLITS_LO p).key ∈ portPages ∧
    pageOf (XPORT.TX_FLITS_HI p).key ∈ portPages) p hp

theorem Blk.besideSends_updatePause (b : Blk) : Blk.besideSends [] portPages b b.updatePause := by
  refine Blk.besideSends_each (fun b p hp => ?_) b
  have lt : p < 4 := (by decide : ∀ p ∈ [0, 1, 2, 3], p < 4) p hp
  dsimp only
  split
  · split
    · exact b.besideSends_refl _ _
    · exact (b.besideSends_set _ (pageOf_portField lt).1 (fun g hg => ((Fld.sendsLeave_iff hg).2.2 p lt).1)).trans (Blk.besideSends_outputs _ _ _ _ _)
  · exact b.besideSends_refl _ _

theorem Blk.besideSends_sidebands (b : Blk) (p : Nat) (k : Packet) : Blk.besideSends [] portPages b (b.sidebands p k).2 := by
  unfold Blk.sidebands
  split
  · next free =>
    split at free
    · cases free
      exact b.besideSends_outputs _ _ _ _
    · cases free
      exact b.besideSends_refl _ _

theorem Blk.besideSends_putOut (b : Blk) {p : Nat} (hp : p < 4) (k : Packet) : Blk.besideSends [] portPages b (b.putOut p k) := by
  obtain ⟨-, lo, hi⟩ := pageOf_portField hp
  have counted := (b.besideSends_set (ps := []) ((b.get (XPORT.TX_FLITS_LO p) + 2 ^ 32 * b.get (XPORT.TX_FLITS_HI p) + flitsOf k) % 2 ^ 32) lo
    (fun g hg => (Fld.clearOf_flits hg hp).1)).trans (Blk.besideSends_set _
      ((b.get (XPORT.TX_FLITS_LO p) + 2 ^ 32 * b.get (XPORT.TX_FLITS_HI p) + flitsOf k) / 2 ^ 32) hi (fun g hg => (Fld.clearOf_flits hg hp).2))
  exact (counted.trans (Blk.besideSends_sidebands _ p k)).trans (Blk.besideSends_outputs _ _ _ _ _)

theorem Blk.besideSends_sendOn (b : Blk) {p : Nat} (hp : p < 4) (from_ : Nat) (k : Packet) (state : Nat) :
    Blk.besideSends [p] portPages b (b.sendOn p from_ k state) := by
  unfold Blk.sendOn
  dsimp only
  split
  · exact (b.besideSends_putOut hp _).mono (by simp) (fun _ h => h)
  · exact (b.besideSends_setPort _ (List.mem_singleton.mpr rfl)).trans ((Blk.besideSends_updatePause _).mono (by simp) (fun _ h => h))

/-- What an error capture touches. -/
theorem Blk.besideSends_capture (b : Blk) {page : Nat} (cause agent off : Nat) (lt : page < 256) (other : page ∉ portPages) :
    Blk.besideSends [] [page] b (b.capture page cause agent off) := by
  obtain ⟨r, g, q, s, n, same⟩ := b.keepsBehind_capture page cause agent off
  have words := b.keepsOtherPages_capture cause agent off lt
  refine ⟨⟨r, g, q, _, s, n, _, same⟩, fun f hf => ?_, words, fun i _ => ?_⟩
  · have at_ := (Fld.sendsLeave_iff hf).2.1
    exact Blk.get_of_word_eq (words _ (fun mem => other (List.mem_singleton.mp mem ▸ at_)))
  · exact (b.keepsBehind_capture page cause agent off).proj (fun b => b.port i) (fun _ _ _ _ _ => rfl)

theorem dropField (case_ : Nat) : pageOf (if case_ == 0 then XROUTE.DROP_NOROUTE else if case_ == 1 then XROUTE.DROP_PORTDOWN
    else if case_ == 2 then XROUTE.DROP_UTURN else XROUTE.DROP_HOPS).key = Page.XROUTE := by
  split
  · rfl
  · split
    · rfl
    · split <;> rfl

theorem Blk.besideSends_dropPacket (b : Blk) (case_ dst : Nat) : Blk.besideSends [] [Page.XROUTE] b (b.dropPacket case_ dst) := by
  have other : Page.XROUTE ∉ portPages := by decide
  have counted (b : Blk) {f : Fld} (h : pageOf f.key = Page.XROUTE) (v : Nat) : Blk.besideSends [] [Page.XROUTE] b (b.set f v) :=
    b.besideSends_set v (List.mem_singleton.mpr h) (fun g hg => Fld.clearOf_page hg (h ▸ other))
  exact ((counted b (dropField case_) _).trans (counted _ (f := XROUTE.IRQ_RAW_DROP) (by decide) 1)).trans
    (Blk.besideSends_capture _ 0x05 7 _ (by decide) other)

end Sys2Proof.Machine
end

section
/-! PROOFS. Link training (spec/11 R250 to R253, R259, spec/02 R43). -/

namespace Sys2Proof.Machine

/-- The four ports, one by one. -/
theorem port_cases {p : Nat} (hp : p < 4) : p = 0 ∨ p = 1 ∨ p = 2 ∨ p = 3 := by omega

theorem Blk.lstate_of_powered {b : Blk} {p : Nat} (on : b.powered (portPage p) = true) : b.lstate p = b.get (XPORT.STATUS_LSTATE p) := if_pos on

/-! ### A port goes down -/

/-- The registers of a port that goes down, before it is captured. -/
def Blk.downSet (b : Blk) (p : Nat) : Blk :=
  let b := (b.setLstate p lsDetect).set (XPORT.PORT_CTRL_OPEN p) 0
  let b := ((b.set (XPORT.STATUS_MISCABLED p) 0).set (XPORT.STATUS_PAUSE_TX p) 0).set (XPORT.STATUS_PAUSE_LONG p) 0
  (b.bump (XPORT.TRAIN_STATUS_RETRAINS p)).raise (XPORT.IRQ_RAW_LINK_DOWN p)

/-- What a port that goes down forgets. -/
def Blk.downCleared (b : Blk) (p : Nat) : Blk :=
  let b := b.setPort p { b.port p with
    waiting := [], arriving := [], ident := none, pausedAt := noPort.pausedAt, warned := noPort.warned }
  { b with ep := { b.ep with latest := setNth b.ep.latest p none } }

/-- The packets that were under way through a port that goes down. -/
def Blk.downEnds (b : Blk) (p : Nat) (x : PortSt) : Blk :=
  let b := b.each x.arriving (fun b e => if e.2 < 4 && e.2 != p then b.sendOn e.2 p e.1 2 else b)
  b.each x.waiting (fun b e => if e.2.loc then b else b.dropPacket 1 e.2.dst)

theorem Blk.portDown_steps (b : Blk) (p : Nat) : b.portDown p =
    let m := ((b.downSet p).captureOwnFree (portPage p) 0x04).set (XPORT.STATUS_PAUSE_RX p) 0
    (m.downCleared p).downEnds p (m.port p) := rfl

/-- The registers a port that goes down writes. -/
def downKeys (p : Nat) : List Nat :=
  [(XPORT.STATUS_LSTATE p).key, (XPORT.PORT_CTRL_OPEN p).key, (XPORT.TRAIN_STATUS_RETRAINS p).key] ++ captureKeys (portPage p)

theorem Blk.keepsRegs.bump {b b' : Blk} {l : List Nat} (h : b.keepsRegs b' l) {f : Fld} (hk : f.key ∈ l) : b.keepsRegs (b'.bump f) l := h.set _ hk

theorem Blk.keepsRegs.raise {b b' : Blk} {l : List Nat} (h : b.keepsRegs b' l) {f : Fld} (hk : f.key ∈ l) : b.keepsRegs (b'.raise f) l := h.set _ hk

theorem Blk.downSet_shows (b : Blk) {p : Nat} (hp : p < 4) :
    let t := b.downSet p
    t.get (XPORT.STATUS_LSTATE p) = lsDetect ∧ t.flag (XPORT.PORT_CTRL_OPEN p) = false ∧ t.get (XPORT.STATUS_PAUSE_TX p) = 0 ∧
    t.get (XPORT.TRAIN_STATUS_RETRAINS p) = (b.get (XPORT.TRAIN_STATUS_RETRAINS p) + 1) % 65536 ∧
    t.flag (XPORT.IRQ_RAW_LINK_DOWN p) = true ∧ b.keepsRegs t (downKeys p) ∧ b.keepsBehind t := by
  intro t
  have fits {f : Fld} (h : f.lo + f.w ≤ 32) : f.fits := h
  have kept : b.keepsRegs t (downKeys p) := by
    have st : (XPORT.STATUS_LSTATE p).key ∈ downKeys p := by simp [downKeys]
    have ctrl : (XPORT.PORT_CTRL_OPEN p).key ∈ downKeys p := by simp [downKeys]
    have train : (XPORT.TRAIN_STATUS_RETRAINS p).key ∈ downKeys p := by simp [downKeys]
    have irq : (XPORT.IRQ_RAW_LINK_DOWN p).key ∈ downKeys p := (by decide : ∀ p < 4, (XPORT.IRQ_RAW_LINK_DOWN p).key ∈ downKeys p) p hp
    have open_ := ((b.keepsRegs_refl (downKeys p)).set (f := XPORT.STATUS_LSTATE p) lsDetect st).set (f := XPORT.PORT_CTRL_OPEN p) 0 ctrl
    have pauses := ((open_.set (f := XPORT.STATUS_MISCABLED p) 0 st).set (f := XPORT.STATUS_PAUSE_TX p) 0 st).set (f := XPORT.STATUS_PAUSE_LONG p) 0 st
    exact (pauses.bump train).raise irq
  have behind : b.keepsBehind t :=
    ((((((b.keepsBehind_set (XPORT.STATUS_LSTATE p) lsDetect).set (XPORT.PORT_CTRL_OPEN p) 0).set (XPORT.STATUS_MISCABLED p) 0).set
      (XPORT.STATUS_PAUSE_TX p) 0).set (XPORT.STATUS_PAUSE_LONG p) 0).set (XPORT.TRAIN_STATUS_RETRAINS p) _).raise (XPORT.IRQ_RAW_LINK_DOWN p)
  refine ⟨?_, ?_, ?_, ?_, ?_, kept, behind⟩
  · obtain rfl | rfl | rfl | rfl := port_cases hp
    all_goals
      simp (disch := decide) only [t, Blk.downSet, Blk.setLstate, Blk.bump, Blk.get_raise_clear, Blk.get_set_clear]
      exact b.get_set_same _ _ (fits (by decide))
  · obtain rfl | rfl | rfl | rfl := port_cases hp
    all_goals
      simp (disch := decide) only [t, Blk.downSet, Blk.setLstate, Blk.bump, Blk.flag_raise_clear, Blk.flag_set_clear]
      exact Blk.flag_set_bitNat _ false (by decide)
  · obtain rfl | rfl | rfl | rfl := port_cases hp
    all_goals
      simp (disch := decide) only [t, Blk.downSet, Blk.setLstate, Blk.bump, Blk.get_raise_clear, Blk.get_set_clear]
      exact Blk.get_set_same _ _ _ (fits (by decide))
  · obtain rfl | rfl | rfl | rfl := port_cases hp
    all_goals
      simp (disch := decide) only [t, Blk.downSet, Blk.setLstate, Blk.bump, Blk.get_raise_clear, Blk.get_set_clear]
      exact Blk.get_set_same _ _ _ (fits (by decide))
  · exact Blk.flag_raise_same _ (XPORT.IRQ_RAW_LINK_DOWN p) (fits (show 1 + 1 ≤ 32 by decide)) (show 0 < 1 by decide)

theorem Blk.besideSends_downEnds (b : Blk) (p : Nat) (x : PortSt) :
    Blk.besideSends ((List.range 4).filter (fun q => q != p)) linkPages b (b.downEnds p x) := by
  refine (Blk.besideSends_each (fun b e _ => ?_) b).trans (Blk.besideSends_each (fun b e _ => ?_) _)
  · split
    · next far =>
      simp only [Bool.and_eq_true, decide_eq_true_eq, bne_iff_ne] at far
      exact (b.besideSends_sendOn far.1 p e.1 2).mono (by simpa using far) (by decide)
    · exact b.besideSends_refl _ _
  · split
    · exact b.besideSends_refl _ _
    · exact (b.besideSends_dropPacket 1 _).mono (by simp) (by decide)

theorem Blk.downCleared_waiting (b : Blk) (p : Nat) : ((b.downCleared p).port p).waiting = [] := by
  show (nth (setNth b.ports p _) p noPort).waiting = []
  rw [nth, setNth, List.getElem?_set_self']
  cases b.ports[p]? <;> rfl

/-- A port that goes down, as it shows. -/
theorem Blk.portDown_shows (b : Blk) {p : Nat} (hp : p < 4) :
    let t := b.portDown p
    t.get (XPORT.STATUS_LSTATE p) = lsDetect ∧ t.flag (XPORT.PORT_CTRL_OPEN p) = false ∧ t.get (XPORT.STATUS_PAUSE_TX p) = 0 ∧
    t.get (XPORT.TRAIN_STATUS_RETRAINS p) = (b.get (XPORT.TRAIN_STATUS_RETRAINS p) + 1) % 65536 ∧
    t.flag (XPORT.IRQ_RAW_LINK_DOWN p) = true ∧ (t.port p).waiting = [] ∧ b.keepsOtherPages t linkPages ∧ b.keepsMemory t ∧
    (∀ page, t.powered page = b.powered page) ∧ (∀ g : Fld, g.sendsLeave = true → g.key ∉ downKeys p → t.get g = b.get g) := by
  intro t
  have effect : t = _ := b.portDown_steps p
  obtain ⟨state, open_, pause, retrains, down, kept, behind⟩ := b.downSet_shows hp
  obtain ⟨x, hx⟩ : ∃ x, b.downSet p = x := ⟨_, rfl⟩
  rw [hx] at effect state open_ pause retrains down kept behind
  have regs := x.keepsRegs_captureOwnFree (portPage p) 0x04
  have irq : (x.captureOwnFree (portPage p) 0x04).flag (XPORT.IRQ_RAW_LINK_DOWN p) = x.flag (XPORT.IRQ_RAW_LINK_DOWN p) := by
    obtain rfl | rfl | rfl | rfl := port_cases hp
    all_goals exact x.flag_captureOwnFree_hIrq _ 0x04 (bit := 1) (by decide)
  have behind := behind.captureOwnFree (portPage p) 0x04
  obtain ⟨y, hy⟩ : ∃ y, x.captureOwnFree (portPage p) 0x04 = y := ⟨_, rfl⟩
  rw [hy] at effect regs irq behind
  have clear (f : Fld) (ok : f.clearOf (XPORT.STATUS_PAUSE_RX p) = true) : (y.set (XPORT.STATUS_PAUSE_RX p) 0).get f = y.get f := y.get_set_clear 0 ok
  have behind := behind.set (XPORT.STATUS_PAUSE_RX p) 0
  have pauseKept : y.keepsRegs (y.set (XPORT.STATUS_PAUSE_RX p) 0) [(XPORT.STATUS_LSTATE p).key] := (y.keepsRegs_refl _).set _ (List.mem_singleton.mpr rfl)
  obtain ⟨m, hm⟩ : ∃ m, y.set (XPORT.STATUS_PAUSE_RX p) 0 = m := ⟨_, rfl⟩
  rw [hm] at effect clear behind pauseKept
  dsimp only at effect
  have ends := (m.downCleared p).besideSends_downEnds p (m.port p)
  rw [← effect] at ends
  have same (f : Fld) (sends : f.sendsLeave = true) : t.get f = m.get f := ends.get f sends
  have field (f : Fld) (sends : f.sendsLeave = true) (keys : f.key ∉ captureKeys (portPage p)) : t.get f = x.get f :=
    (same f sends).trans ((clear f ((Fld.sendsLeave_iff sends).2.2 p hp).1).trans (regs.get keys))
  have raw : (XPORT.IRQ_RAW_LINK_DOWN p).sendsLeave = true := (by decide : ∀ p < 4, (XPORT.IRQ_RAW_LINK_DOWN p).sendsLeave = true) p hp
  have flag {v w : Nat} {on : Bool} (h : (w != 0) = on) (e : v = w) : (v != 0) = on := by rw [e]; exact h
  have keysOther : ∀ k, k ∉ downKeys p → m.word k = b.word k := fun k hk => by
    have status : k ∉ [(XPORT.STATUS_LSTATE p).key] := fun mem => hk (by simp only [downKeys, List.mem_append, List.mem_cons]; exact .inl (.inl (List.mem_singleton.mp mem)))
    have captures : k ∉ captureKeys (portPage p) := fun mem => hk (List.mem_append.mpr (.inr mem))
    exact (pauseKept k status).trans ((regs k captures).trans (kept k hk))
  have pages : b.keepsOtherPages t linkPages := fun k hk => by
    have at_ : k ∉ downKeys p := fun mem => hk ((by decide : ∀ p < 4, ∀ k ∈ downKeys p, pageOf k ∈ linkPages) p hp k mem)
    exact (ends.words k hk).trans (keysOther k at_)
  refine ⟨?_, ?_, ?_, ?_, ?_, ?_, pages, ?_, fun page => ?_, fun g sends apart => ?_⟩
  · exact (field _ ((by decide : ∀ p < 4, (XPORT.STATUS_LSTATE p).sendsLeave = true) p hp)
      ((by decide : ∀ p < 4, (XPORT.STATUS_LSTATE p).key ∉ captureKeys (portPage p)) p hp)).trans state
  · exact flag open_ (field _ ((by decide : ∀ p < 4, (XPORT.PORT_CTRL_OPEN p).sendsLeave = true) p hp)
      ((by decide : ∀ p < 4, (XPORT.PORT_CTRL_OPEN p).key ∉ captureKeys (portPage p)) p hp))
  · exact (field _ ((by decide : ∀ p < 4, (XPORT.STATUS_PAUSE_TX p).sendsLeave = true) p hp)
      ((by decide : ∀ p < 4, (XPORT.STATUS_PAUSE_TX p).key ∉ captureKeys (portPage p)) p hp)).trans pause
  · exact (field _ ((by decide : ∀ p < 4, (XPORT.TRAIN_STATUS_RETRAINS p).sendsLeave = true) p hp)
      ((by decide : ∀ p < 4, (XPORT.TRAIN_STATUS_RETRAINS p).key ∉ captureKeys (portPage p)) p hp)).trans retrains
  · exact flag (irq.trans down) ((same _ raw).trans (clear _ ((Fld.sendsLeave_iff raw).2.2 p hp).1))
  · rw [ends.port p (by simp)]
    exact m.downCleared_waiting p
  · exact behind.memory.trans ((show m.keepsMemory (m.downCleared p) from ⟨rfl, rfl, rfl⟩).trans ends.memory)
  · have on : m.domOn = b.domOn := behind.proj (·.domOn) (fun _ _ _ _ _ => rfl)
    have cleared : (m.downCleared p).powered page = b.powered page := by
      show (m.powered page) = _
      simp only [Blk.powered, Blk.domainOn, on]
    exact (ends.powered page).trans cleared
  · exact (same g sends).trans (Blk.get_of_word_eq (keysOther g.key apart))

/-! ### Small steps of the training -/

theorem Blk.linkSignal_eq (b : Blk) {p : Nat} (hp : p < 4) :
    b.linkSignal p = if b.lstate p = lsDetect ∧ (b.port p).backoff = none then b.setLstate p lsEqualise else b := by
  unfold Blk.linkSignal
  simp only [decide_eq_true hp, Bool.true_and, Bool.and_eq_true, beq_iff_eq, Option.isNone_iff_eq_none]

theorem Blk.linkAdapted_eq (b : Blk) {p : Nat} (hp : p < 4) : b.linkAdapted p = if b.lstate p = lsEqualise then b.setLstate p lsAlign else b := by
  unfold Blk.linkAdapted
  simp only [decide_eq_true hp, Bool.true_and, beq_iff_eq]

theorem Blk.linkAligned_eq (b : Blk) {p : Nat} (hp : p < 4) : b.linkAligned p = if b.lstate p = lsAlign then b.setLstate p lsIdent else b := by
  unfold Blk.linkAligned
  simp only [decide_eq_true hp, Bool.true_and, beq_iff_eq]

theorem Blk.identSend_eq (b : Blk) {p : Nat} (hp : p < 4) : b.identSend p =
    if lsIdent ≤ b.lstate p ∧ b.flag (XPORT.STATUS_TAP_MODE p) = false then
      b.sendLocal p (controlPacket 0x42 true 0 (b.get XROUTE.NODE_ID) (b.identBytes p)) else b := by
  unfold Blk.identSend
  simp only [decide_eq_true hp, Bool.true_and, Bool.and_eq_true, decide_eq_true_eq, Bool.not_eq_true']

theorem Blk.trainBackoffEnd_eq (b : Blk) (p : Nat) :
    (∀ from_, (b.port p).backoff = some from_ → 300000 ≤ b.linesSince from_ →
      b.trainBackoffEnd p = b.setPort p { b.port p with backoff := none }) ∧
    ((∀ from_, (b.port p).backoff = some from_ → b.linesSince from_ < 300000) → b.trainBackoffEnd p = b) := by
  unfold Blk.trainBackoffEnd
  refine ⟨fun from_ since late => ?_, fun soon => ?_⟩
  · rw [since]
    exact if_pos late
  · split
    · next from_ since => exact if_neg (Nat.not_le.mpr (soon from_ since))
    · rfl

/-! ### The partner's identity -/

theorem leAt_lt (l : List Byte) (at_ n : Nat) : leAt l at_ n < 256 ^ n :=
  (leNat_lt _).trans_le (Nat.pow_le_pow_right (by decide) (List.length_take_le _ _))

/-- What PARTNER shows of an IDENT. -/
def Blk.partnerNoted (b : Blk) (p xver : Nat) (id : List Byte) : Blk :=
  let b := ((b.set (XPORT.PARTNER_NODE p) (leAt id 0 1)).set (XPORT.PARTNER_PORT p) (leAt id 1 1)).set (XPORT.PARTNER_XVER p) xver
  (b.set (XPORT.PARTNER_ROLE p) (leAt id 3 1)).set (XPORT.PARTNER_VALID p) 1

theorem Blk.partnerNoted_shows (b : Blk) {p xver : Nat} (id : List Byte) (hp : p < 4) (hx : xver < 16) :
    let t := b.partnerNoted p xver id
    t.get (XPORT.PARTNER_NODE p) = leAt id 0 1 ∧ t.get (XPORT.PARTNER_PORT p) = leAt id 1 1 % 4 ∧ t.get (XPORT.PARTNER_XVER p) = xver ∧
    t.flag (XPORT.PARTNER_VALID p) = true ∧ b.keepsRegs t [(XPORT.PARTNER_NODE p).key] ∧ b.keepsBehind t := by
  intro t
  have fits {f : Fld} (h : f.lo + f.w ≤ 32) : f.fits := h
  have same {f : Fld} (h : f.key = (XPORT.PARTNER_NODE p).key) : f.key ∈ [(XPORT.PARTNER_NODE p).key] := List.mem_singleton.mpr h
  have byte : leAt id 0 1 < 2 ^ 8 := leAt_lt id 0 1
  refine ⟨?_, ?_, ?_, ?_, ?_, ?_⟩
  · obtain rfl | rfl | rfl | rfl := port_cases hp
    all_goals
      simp (disch := decide) only [t, Blk.partnerNoted, Blk.get_set_clear]
      exact (b.get_set_same _ _ (fits (by decide))).trans (Nat.mod_eq_of_lt byte)
  · obtain rfl | rfl | rfl | rfl := port_cases hp
    all_goals
      simp (disch := decide) only [t, Blk.partnerNoted, Blk.get_set_clear]
      exact Blk.get_set_same _ _ _ (fits (by decide))
  · obtain rfl | rfl | rfl | rfl := port_cases hp
    all_goals
      simp (disch := decide) only [t, Blk.partnerNoted, Blk.get_set_clear]
      exact (Blk.get_set_same _ _ _ (fits (by decide))).trans (Nat.mod_eq_of_lt hx)
  · exact Blk.flag_set_one _ (XPORT.PARTNER_VALID p) (fits (show 31 + 1 ≤ 32 by decide)) (show 0 < 1 by decide)
  · exact (((((b.keepsRegs_refl _).set (f := XPORT.PARTNER_NODE p) _ (same rfl)).set (f := XPORT.PARTNER_PORT p) _ (same rfl)).set
      (f := XPORT.PARTNER_XVER p) _ (same rfl)).set (f := XPORT.PARTNER_ROLE p) _ (same rfl)).set (f := XPORT.PARTNER_VALID p) _ (same rfl)
  · exact ((((b.keepsBehind_set (XPORT.PARTNER_NODE p) _).set (XPORT.PARTNER_PORT p) _).set (XPORT.PARTNER_XVER p) _).set
      (XPORT.PARTNER_ROLE p) _).set (XPORT.PARTNER_VALID p) _

/-- The partner's payload kept, and judged where the port waits for it. -/
def Blk.identTaken (b : Blk) (p xver : Nat) (id : List Byte) : Blk :=
  let b := b.setPort p { b.port p with ident := some id }
  if b.lstate p == lsIdent && xver == 1 then b.judgeIdent p id else b

theorem Blk.identReceive_steps (b : Blk) (p xver : Nat) (id : List Byte) : b.identReceive p xver id =
    if !(p < 4 && lsIdent ≤ b.lstate p) then b
    else if (b.port p).ident.isSome && (b.port p).ident != some id then (b.partnerNoted p xver id).portDown p
    else (b.partnerNoted p xver id).identTaken p xver id := rfl

theorem Blk.identReceive_eq (b : Blk) {p : Nat} (xver : Nat) (id : List Byte) (hp : p < 4) (h : lsIdent ≤ b.lstate p) :
    (((b.port p).ident = none ∨ (b.port p).ident = some id) → b.identReceive p xver id = (b.partnerNoted p xver id).identTaken p xver id) ∧
    (∀ old, (b.port p).ident = some old → old ≠ id → b.identReceive p xver id = (b.partnerNoted p xver id).portDown p) := by
  have here : ¬(!(decide (p < 4) && decide (lsIdent ≤ b.lstate p))) = true := by rw [decide_eq_true hp, decide_eq_true h]; decide
  rw [b.identReceive_steps, if_neg here]
  refine ⟨fun same => if_neg ?_, fun old is ne => if_pos ?_⟩
  · obtain no | same := same
    · rw [no]; simp
    · rw [same]; simp
  · rw [is]
    simpa using ne

/-- The partner matches: on to MEASURE and its probes. -/
theorem Blk.judgeIdent_fits {b : Blk} {p : Nat} {id : List Byte} (hp : p < 4) (fit : b.identFits p id = true) :
    let t := b.judgeIdent p id
    t.get (XPORT.STATUS_LSTATE p) = lsMeasure ∧ t.flag (XPORT.STATUS_MISCABLED p) = false ∧ b.keepsOtherPages t linkPages ∧ b.keepsMemory t ∧
    (∀ page, t.powered page = b.powered page) ∧
    (∀ g : Fld, g.sendsLeave = true → g.key ≠ (XPORT.STATUS_LSTATE p).key → t.get g = b.get g) := by
  intro t
  have effect : t = ((b.set (XPORT.STATUS_MISCABLED p) 0).setLstate p lsMeasure).each (List.range 16) (fun b i => b.sendProbe p i 0 0) := if_pos fit
  have fits {f : Fld} (h : f.lo + f.w ≤ 32) : f.fits := h
  have state : ((b.set (XPORT.STATUS_MISCABLED p) 0).setLstate p lsMeasure).get (XPORT.STATUS_LSTATE p) = lsMeasure :=
    Blk.get_set_same _ (XPORT.STATUS_LSTATE p) lsMeasure (fits (show 16 + 3 ≤ 32 by decide))
  have cabled : ((b.set (XPORT.STATUS_MISCABLED p) 0).setLstate p lsMeasure).flag (XPORT.STATUS_MISCABLED p) = false := by
    have apart : (XPORT.STATUS_MISCABLED p).clearOf (XPORT.STATUS_LSTATE p) = true :=
      (by decide : ∀ p < 4, (XPORT.STATUS_MISCABLED p).clearOf (XPORT.STATUS_LSTATE p) = true) p hp
    rw [Blk.setLstate, Blk.flag_set_clear _ _ apart]
    exact b.flag_set_bitNat false (f := XPORT.STATUS_MISCABLED p) (by unfold XPORT.STATUS_MISCABLED; simp)
  have kept : b.keepsRegs ((b.set (XPORT.STATUS_MISCABLED p) 0).setLstate p lsMeasure) [(XPORT.STATUS_LSTATE p).key] :=
    ((b.keepsRegs_refl _).set (f := XPORT.STATUS_MISCABLED p) 0 (List.mem_singleton.mpr rfl)).set (f := XPORT.STATUS_LSTATE p) lsMeasure (List.mem_singleton.mpr rfl)
  have behind : b.keepsBehind ((b.set (XPORT.STATUS_MISCABLED p) 0).setLstate p lsMeasure) :=
    (b.keepsBehind_set (XPORT.STATUS_MISCABLED p) 0).set (XPORT.STATUS_LSTATE p) lsMeasure
  obtain ⟨y, hy⟩ : ∃ y, (b.set (XPORT.STATUS_MISCABLED p) 0).setLstate p lsMeasure = y := ⟨_, rfl⟩
  rw [hy] at effect state cabled kept behind
  have sends : Blk.besideSends [p] portPages y t := by
    rw [effect]
    exact Blk.besideSends_each (fun b i _ => b.besideSends_sendOn hp _ _ _) y
  have on : y.domOn = b.domOn := behind.proj (·.domOn) (fun _ _ _ _ _ => rfl)
  have st : (XPORT.STATUS_LSTATE p).sendsLeave = true := (by decide : ∀ p < 4, (XPORT.STATUS_LSTATE p).sendsLeave = true) p hp
  have mis : (XPORT.STATUS_MISCABLED p).sendsLeave = true := (by decide : ∀ p < 4, (XPORT.STATUS_MISCABLED p).sendsLeave = true) p hp
  have page : ∀ k ∈ [(XPORT.STATUS_LSTATE p).key], pageOf k ∈ linkPages :=
    (by decide : ∀ p < 4, ∀ k ∈ [(XPORT.STATUS_LSTATE p).key], pageOf k ∈ linkPages) p hp
  refine ⟨(sends.get _ st).trans state, (sends.flag mis).trans cabled, (kept.otherPages page).trans (sends.mono (ps' := [p]) (by simp) (by decide)).words,
    behind.memory.trans sends.memory, fun page => (sends.powered page).trans ?_, fun g leave ne => (sends.get g leave).trans (kept.get (by simpa using ne))⟩
  simp only [Blk.powered, Blk.domainOn, on]

/-- The keys that a partner that does not match writes. -/
def misKeys (p : Nat) : List Nat := (XPORT.STATUS_MISCABLED p).key :: captureKeys (portPage p)

/-- The partner does not match. -/
theorem Blk.judgeIdent_other {b : Blk} {p : Nat} {id : List Byte} (hp : p < 4) (fit : b.identFits p id = false) :
    let t := b.judgeIdent p id
    t.get (XPORT.STATUS_LSTATE p) = b.get (XPORT.STATUS_LSTATE p) ∧ t.flag (XPORT.STATUS_MISCABLED p) = true ∧ b.keepsRegs t (misKeys p) ∧
    b.keepsBehind t := by
  intro t
  have no : ¬b.identFits p id = true := by rw [fit]; decide
  by_cases was : b.flag (XPORT.STATUS_MISCABLED p) = true
  · have effect : t = b := (if_neg no).trans (if_pos was)
    rw [effect]
    exact ⟨rfl, was, b.keepsRegs_refl _, b.keepsBehind_refl⟩
  · have effect : t = ((b.set (XPORT.STATUS_MISCABLED p) 1).raise (XPORT.IRQ_RAW_MISCABLED p)).captureOwnFree (portPage p) 0x05 :=
      (if_neg no).trans (if_neg was)
    have raised : ((b.set (XPORT.STATUS_MISCABLED p) 1).raise (XPORT.IRQ_RAW_MISCABLED p)).get (XPORT.STATUS_LSTATE p) =
          b.get (XPORT.STATUS_LSTATE p) ∧
        ((b.set (XPORT.STATUS_MISCABLED p) 1).raise (XPORT.IRQ_RAW_MISCABLED p)).flag (XPORT.STATUS_MISCABLED p) = true := by
      obtain rfl | rfl | rfl | rfl := port_cases hp
      all_goals
        simp (disch := decide) only [Blk.get_raise_clear, Blk.flag_raise_clear, Blk.get_set_clear]
        exact ⟨trivial, b.flag_set_bitNat true (by decide)⟩
    have irq : (XPORT.IRQ_RAW_MISCABLED p).key ∈ misKeys p := (by decide : ∀ p < 4, (XPORT.IRQ_RAW_MISCABLED p).key ∈ misKeys p) p hp
    have kept : b.keepsRegs ((b.set (XPORT.STATUS_MISCABLED p) 1).raise (XPORT.IRQ_RAW_MISCABLED p)) (misKeys p) :=
      ((b.keepsRegs_refl _).set (f := XPORT.STATUS_MISCABLED p) 1 (List.mem_cons_self ..)).raise irq
    have behind : b.keepsBehind ((b.set (XPORT.STATUS_MISCABLED p) 1).raise (XPORT.IRQ_RAW_MISCABLED p)) :=
      (b.keepsBehind_set (XPORT.STATUS_MISCABLED p) 1).raise (XPORT.IRQ_RAW_MISCABLED p)
    obtain ⟨y, hy⟩ : ∃ y, (b.set (XPORT.STATUS_MISCABLED p) 1).raise (XPORT.IRQ_RAW_MISCABLED p) = y := ⟨_, rfl⟩
    rw [hy] at effect raised kept behind
    obtain ⟨state, miscabled⟩ := raised
    have regs := y.keepsRegs_captureOwnFree (portPage p) 0x05
    have apart : (XPORT.STATUS_LSTATE p).key ∉ captureKeys (portPage p) :=
      (by decide : ∀ p < 4, (XPORT.STATUS_LSTATE p).key ∉ captureKeys (portPage p)) p hp
    rw [effect]
    exact ⟨(regs.get apart).trans state, (regs.flag (f := XPORT.STATUS_MISCABLED p) apart).trans miscabled,
      kept.trans (regs.mono (fun k hk => List.mem_cons_of_mem _ hk)), behind.captureOwnFree _ _⟩

theorem Blk.powered_of_behind {b b' : Blk} (h : b.keepsBehind b') (page : Nat) : b'.powered page = b.powered page := by
  have on : b'.domOn = b.domOn := h.proj (·.domOn) (fun _ _ _ _ _ => rfl)
  simp only [Blk.powered, Blk.domainOn, on]

/-- A payload taken, by what the port waits for. -/
theorem Blk.identTaken_shows (y : Blk) {p : Nat} (xver : Nat) (id : List Byte) (hp : p < 4) (on : y.powered (portPage p) = true) :
    let t := y.identTaken p xver id
    (y.lstate p = lsIdent → xver = 1 → y.identFits p id = true → t.lstate p = lsMeasure ∧ t.flag (XPORT.STATUS_MISCABLED p) = false) ∧
    (y.lstate p = lsIdent → xver = 1 → y.identFits p id = false → t.lstate p = lsIdent ∧ t.flag (XPORT.STATUS_MISCABLED p) = true) ∧
    (¬(y.lstate p = lsIdent ∧ xver = 1) → t.lstate p = y.lstate p) ∧ y.keepsOtherPages t linkPages ∧ y.keepsMemory t ∧
    (∀ g : Fld, g.sendsLeave = true → g.key ∉ misKeys p → t.get g = y.get g) := by
  intro t
  obtain ⟨z, hz⟩ : ∃ z, y.setPort p { y.port p with ident := some id } = z := ⟨_, rfl⟩
  have regs : z.regs = y.regs := congrArg (·.regs) hz.symm
  have dom : z.domOn = y.domOn := congrArg (·.domOn) hz.symm
  have memory : y.keepsMemory z := by rw [← hz]; exact y.keepsMemory_refl
  have words : ∀ k, z.word k = y.word k := fun k => congrArg (fun r => Tbl.get regReset r k) regs
  have power (page : Nat) : z.powered page = y.powered page := by simp only [Blk.powered, Blk.domainOn, dom]
  have effect : t = if z.lstate p == lsIdent && xver == 1 then z.judgeIdent p id else z := by rw [← hz]; rfl
  have same : z.lstate p = y.lstate p := by rw [Blk.lstate, Blk.lstate, power, Blk.get_of_regs_eq regs]
  have fit : z.identFits p id = y.identFits p id := by simp only [Blk.identFits, Blk.expectOf, words]
  have test : (z.lstate p == lsIdent && xver == 1) = true ↔ y.lstate p = lsIdent ∧ xver = 1 := by rw [Bool.and_eq_true, beq_iff_eq, beq_iff_eq, same]
  by_cases waits : y.lstate p = lsIdent ∧ xver = 1
  · have judged : t = z.judgeIdent p id := effect.trans (if_pos (test.mpr waits))
    by_cases fits : y.identFits p id = true
    · obtain ⟨state, cabled, pages, mem, power', rest⟩ := Blk.judgeIdent_fits hp (fit.trans fits)
      rw [← judged] at state cabled pages mem power' rest
      refine ⟨fun _ _ _ => ⟨?_, cabled⟩, fun _ _ no => absurd (fits.symm.trans no) (by decide), fun no => absurd waits no,
        fun k hk => (pages k hk).trans (words k), memory.trans mem,
        fun g leave apart => (rest g leave (fun e => apart (by rw [e]; exact List.mem_cons_self ..))).trans (Blk.get_of_regs_eq regs g)⟩
      rw [Blk.lstate_of_powered ((power' _).trans ((power _).trans on)), state]
    · rw [Bool.not_eq_true] at fits
      obtain ⟨state, cabled, kept, behind⟩ := Blk.judgeIdent_other hp (fit.trans fits)
      rw [← judged] at state cabled kept behind
      have page : ∀ k ∈ misKeys p, pageOf k ∈ linkPages := (by decide : ∀ p < 4, ∀ k ∈ misKeys p, pageOf k ∈ linkPages) p hp
      refine ⟨fun _ _ no => absurd (fits.symm.trans no) (by decide), fun st _ _ => ⟨?_, cabled⟩, fun no => absurd waits no,
        fun k hk => (kept.otherPages page k hk).trans (words k), memory.trans behind.memory,
        fun g _ apart => (kept.get apart).trans (Blk.get_of_regs_eq regs g)⟩
      rw [Blk.lstate, Blk.powered_of_behind behind, state]
      exact same.trans st
  · have still : t = z := effect.trans (if_neg (mt test.mp waits))
    rw [still]
    exact ⟨fun st x _ => absurd ⟨st, x⟩ waits, fun st x _ => absurd ⟨st, x⟩ waits, fun _ => same, fun k _ => words k, memory,
      fun g _ _ => Blk.get_of_regs_eq regs g⟩

/-- The fields of PARTNER that an IDENT shows. -/
theorem partner_field {p : Nat} (hp : p < 4) : ∀ g ∈ [XPORT.PARTNER_NODE p, XPORT.PARTNER_PORT p, XPORT.PARTNER_XVER p, XPORT.PARTNER_VALID p],
    g.sendsLeave = true ∧ g.key ∉ misKeys p ∧ g.key ∉ downKeys p :=
  (by decide : ∀ p < 4, ∀ g ∈ [XPORT.PARTNER_NODE p, XPORT.PARTNER_PORT p, XPORT.PARTNER_XVER p, XPORT.PARTNER_VALID p],
    g.sendsLeave = true ∧ g.key ∉ misKeys p ∧ g.key ∉ downKeys p) p hp

theorem Blk.identReceive_shows (b : Blk) {p xver : Nat} (id : List Byte) (hp : p < 4) (hx : xver < 16) (on : b.powered (portPage p) = true)
    (h : lsIdent ≤ b.lstate p) :
    let t := b.identReceive p xver id
    t.get (XPORT.PARTNER_NODE p) = leAt id 0 1 ∧ t.get (XPORT.PARTNER_PORT p) = leAt id 1 1 % 4 ∧
    t.get (XPORT.PARTNER_XVER p) = xver ∧ t.flag (XPORT.PARTNER_VALID p) = true ∧
    (((b.port p).ident = none ∨ (b.port p).ident = some id) →
      (b.lstate p = lsIdent → xver = 1 → b.identFits p id = true → t.lstate p = lsMeasure ∧ t.flag (XPORT.STATUS_MISCABLED p) = false) ∧
      (b.lstate p = lsIdent → xver = 1 → b.identFits p id = false → t.lstate p = lsIdent ∧ t.flag (XPORT.STATUS_MISCABLED p) = true) ∧
      ((lsMeasure ≤ b.lstate p ∨ xver ≠ 1) → t.lstate p = b.lstate p)) ∧
    (∀ old, (b.port p).ident = some old → old ≠ id → t.lstate p = lsDetect ∧ t.flag (XPORT.IRQ_RAW_LINK_DOWN p) = true) ∧
    b.keepsOtherPages t linkPages ∧ b.keepsMemory t := by
  intro t
  obtain ⟨taken, down⟩ := b.identReceive_eq xver id hp h
  obtain ⟨node, port, version, valid, kept, behind⟩ := b.partnerNoted_shows id hp hx
  obtain ⟨y, hy⟩ : ∃ y, b.partnerNoted p xver id = y := ⟨_, rfl⟩
  rw [hy] at taken down node port version valid kept behind
  have power := Blk.powered_of_behind behind (portPage p)
  have page : ∀ k ∈ [(XPORT.PARTNER_NODE p).key], pageOf k ∈ linkPages :=
    (by decide : ∀ p < 4, ∀ k ∈ [(XPORT.PARTNER_NODE p).key], pageOf k ∈ linkPages) p hp
  have pages := kept.otherPages page
  have other : (XPORT.STATUS_LSTATE p).key ∉ [(XPORT.PARTNER_NODE p).key] :=
    (by decide : ∀ p < 4, (XPORT.STATUS_LSTATE p).key ∉ [(XPORT.PARTNER_NODE p).key]) p hp
  have expect : regKey Page.XROUTE 0x044 ∉ [(XPORT.PARTNER_NODE p).key] :=
    (by decide : ∀ p < 4, regKey Page.XROUTE 0x044 ∉ [(XPORT.PARTNER_NODE p).key]) p hp
  have state : y.lstate p = b.lstate p := by rw [Blk.lstate, Blk.lstate, power, kept.get other]
  have fit : y.identFits p id = b.identFits p id := by simp only [Blk.identFits, Blk.expectOf, kept _ expect]
  have partner {t : Blk} (rest : ∀ g ∈ [XPORT.PARTNER_NODE p, XPORT.PARTNER_PORT p, XPORT.PARTNER_XVER p, XPORT.PARTNER_VALID p], t.get g = y.get g) :
      t.get (XPORT.PARTNER_NODE p) = leAt id 0 1 ∧ t.get (XPORT.PARTNER_PORT p) = leAt id 1 1 % 4 ∧
      t.get (XPORT.PARTNER_XVER p) = xver ∧ t.flag (XPORT.PARTNER_VALID p) = true := by
    refine ⟨(rest _ (by simp)).trans node, (rest _ (by simp)).trans port, (rest _ (by simp)).trans version, ?_⟩
    rw [Blk.flag, rest _ (by simp)]
    exact valid
  by_cases same : (b.port p).ident = none ∨ (b.port p).ident = some id
  · have effect : t = y.identTaken p xver id := taken same
    obtain ⟨fits, not_, else_, pages', memory, rest⟩ := y.identTaken_shows xver id hp (power.trans on)
    rw [← effect, state, fit] at fits not_
    rw [← effect] at else_ pages' memory rest
    rw [state] at else_
    obtain ⟨node, port, version, valid⟩ := partner (fun g hg => rest g (partner_field hp g hg).1 (partner_field hp g hg).2.1)
    refine ⟨node, port, version, valid, fun _ => ⟨fits, not_, fun past => else_ ?_⟩, fun old is ne => ?_, pages.trans pages', behind.memory.trans memory⟩
    · rintro ⟨st, x⟩
      obtain past | no := past
      · exact absurd (st ▸ past) (by decide)
      · exact no x
    · rw [is] at same
      obtain no | same := same
      · cases no
      · exact absurd (Option.some.inj same) ne
  · obtain ⟨old, is⟩ : ∃ old, (b.port p).ident = some old := Option.ne_none_iff_exists'.mp (fun no => same (.inl no))
    have ne : old ≠ id := fun e => same (.inr (is.trans (congrArg some e)))
    have effect : t = y.portDown p := down old is ne
    obtain ⟨gone, -, -, -, irq, -, pages', memory, power', rest⟩ := y.portDown_shows hp
    rw [← effect] at gone irq pages' memory power' rest
    obtain ⟨node, port, version, valid⟩ := partner (fun g hg => rest g (partner_field hp g hg).1 (partner_field hp g hg).2.2)
    refine ⟨node, port, version, valid, fun yes => absurd yes same, fun _ _ _ => ⟨?_, irq⟩, pages.trans pages', behind.memory.trans memory⟩
    rw [Blk.lstate_of_powered ((power' _).trans (power.trans on)), gone]

/-! ### The measured delay -/

/-- Whether the delay is in range shows. -/
def Blk.delayJudged (b : Blk) (p : Nat) (ok : Bool) : Blk :=
  (b.when (!ok) (fun b => b.raise XEPOCH.FAULT_DELAY_RANGE)).set (XEPOCH.PORT_DELAY_VALID p) (bitNat ok)

/-- The delay in PORTn_DELAY, where it is not overridden. -/
def Blk.delayStored (b : Blk) (p : Nat) (d : Int) : Blk :=
  b.when (!b.flag (XEPOCH.PORT_DELAY_OVR p)) (fun b =>
    let (d, b) := b.delayOr d
    b.conf (XEPOCH.PORT_DELAY_DELAY_PS p) d)

/-- Whether the delay of a port is out of range is kept. -/
def Blk.delayKept (b : Blk) (p : Nat) (ok : Bool) : Blk := { b with ep := { b.ep with delayBad := setNth b.ep.delayBad p (!ok) } }

/-- The pause thresholds, and the port trained. -/
def Blk.measured (b : Blk) (p off on : Nat) : Blk :=
  let b := (b.set (XPORT.PAUSE_THR_XOFF p) off).set (XPORT.PAUSE_THR_XON p) on
  let b := b.setPort p { b.port p with fails := 0, backoff := none }
  (b.setLstate p lsTrained).raise (XPORT.IRQ_RAW_LINK_UP p)

/-- The thresholds of a measured delay, and the port trained. -/
def Blk.thresholds (b : Blk) (p : Nat) (d : Int) : Blk :=
  let (off, b) := b.thresholdOr (xoffOf d)
  let (on, b) := b.thresholdOr ((off : Int) - 64)
  b.measured p off on

theorem Blk.thresholds_eq {b : Blk} {p : Nat} {d : Int} {o u : Nat × Blk} (off : b.thresholdOr (xoffOf d) = o)
    (on : o.2.thresholdOr ((o.1 : Int) - 64) = u) : b.thresholds p d = u.2.measured p o.1 u.1 := by
  unfold Blk.thresholds
  rw [off]
  dsimp only
  rw [on]

theorem Blk.measureDone_steps (b : Blk) (p : Nat) (d : Int) : b.measureDone p d =
    if p < 4 && b.lstate p == lsMeasure then
      (((b.delayJudged p (0 ≤ d && d ≤ 1000000)).delayStored p d).delayKept p (0 ≤ d && d ≤ 1000000)).thresholds p d
    else b := by
  unfold Blk.measureDone
  split
  · extract_lets ok b1 b2 ep b3
    have h1 : b1 = b.delayJudged p ok := rfl
    have h2 : b2 = b1.delayStored p d := rfl
    have h3 : b3 = b2.delayKept p ok := rfl
    show _ = ((((b.delayJudged p ok).delayStored p d).delayKept p ok).thresholds p d)
    rw [← h1, ← h2, ← h3]
    clear_value b3
    rfl
  · rfl

/-- The registers of XEPOCH that a delay writes. -/
def delayKeys (p : Nat) : List Nat := [(XEPOCH.PORT_DELAY_VALID p).key, XEPOCH.FAULT_DELAY_RANGE.key]

theorem Blk.delayJudged_shows (b : Blk) {p : Nat} (ok : Bool) (hp : p < 4) :
    let t := b.delayJudged p ok
    t.flag (XEPOCH.PORT_DELAY_VALID p) = ok ∧ (ok = false → t.flag XEPOCH.FAULT_DELAY_RANGE = true) ∧
    t.flag (XEPOCH.PORT_DELAY_OVR p) = b.flag (XEPOCH.PORT_DELAY_OVR p) ∧ t.get (XEPOCH.PORT_DELAY_DELAY_PS p) = b.get (XEPOCH.PORT_DELAY_DELAY_PS p) ∧
    b.keepsRegs t (delayKeys p) ∧ b.keepsBehind t := by
  intro t
  have valid : (XEPOCH.PORT_DELAY_VALID p).key ∈ delayKeys p := List.mem_cons_self ..
  have fault : XEPOCH.FAULT_DELAY_RANGE.key ∈ delayKeys p := by simp [delayKeys]
  have shown : t.flag (XEPOCH.PORT_DELAY_VALID p) = ok :=
    Blk.flag_set_bitNat _ (f := XEPOCH.PORT_DELAY_VALID p) ok (by simp [XEPOCH.PORT_DELAY_VALID])
  have range : XEPOCH.FAULT_DELAY_RANGE.clearOf (XEPOCH.PORT_DELAY_VALID p) = true :=
    (by decide : ∀ p < 4, XEPOCH.FAULT_DELAY_RANGE.clearOf (XEPOCH.PORT_DELAY_VALID p) = true) p hp
  have ovr : (XEPOCH.PORT_DELAY_OVR p).clearOf (XEPOCH.PORT_DELAY_VALID p) = true ∧ (XEPOCH.PORT_DELAY_DELAY_PS p).clearOf (XEPOCH.PORT_DELAY_VALID p) = true ∧
      (XEPOCH.PORT_DELAY_OVR p).clearOf XEPOCH.FAULT_DELAY_RANGE = true ∧ (XEPOCH.PORT_DELAY_DELAY_PS p).clearOf XEPOCH.FAULT_DELAY_RANGE = true :=
    (by decide : ∀ p < 4, (XEPOCH.PORT_DELAY_OVR p).clearOf (XEPOCH.PORT_DELAY_VALID p) = true ∧
      (XEPOCH.PORT_DELAY_DELAY_PS p).clearOf (XEPOCH.PORT_DELAY_VALID p) = true ∧
      (XEPOCH.PORT_DELAY_OVR p).clearOf XEPOCH.FAULT_DELAY_RANGE = true ∧ (XEPOCH.PORT_DELAY_DELAY_PS p).clearOf XEPOCH.FAULT_DELAY_RANGE = true) p hp
  obtain ⟨o, d, o', d'⟩ := ovr
  cases ok with
  | true => exact ⟨shown, nofun, b.flag_set_clear _ o, b.get_set_clear _ d, (b.keepsRegs_refl _).set _ valid, b.keepsBehind_set _ _⟩
  | false =>
    refine ⟨shown, fun _ => ?_, ?_, ?_, ((b.keepsRegs_refl _).raise fault).set _ valid, (b.keepsBehind_raise _).set _ _⟩
    · exact (Blk.flag_set_clear _ _ range).trans (b.flag_raise_same _ (by unfold Fld.fits; decide) (by decide))
    · exact (Blk.flag_set_clear _ _ o).trans (b.flag_raise_clear o')
    · exact (Blk.get_set_clear _ _ d).trans (b.get_raise_clear d')

theorem Blk.keepsBehind_delayOr (b : Blk) (d : Int) : b.keepsBehind (b.delayOr d).2 ∧ (b.delayOr d).2.regs = b.regs := by
  unfold Blk.delayOr
  split
  · exact ⟨b.keepsBehind_refl, rfl⟩
  · exact ⟨b.keepsBehind_free 20, rfl⟩

theorem Blk.keepsBehind_thresholdOr (b : Blk) (x : Int) : b.keepsBehind (b.thresholdOr x).2 ∧ (b.thresholdOr x).2.regs = b.regs := by
  unfold Blk.thresholdOr
  split
  · exact ⟨b.keepsBehind_refl, rfl⟩
  · exact ⟨b.keepsBehind_free 11, rfl⟩

theorem Blk.delayStored_shows (b : Blk) {p : Nat} (d : Int) (hp : p < 4) :
    let t := b.delayStored p d
    t.flag (XEPOCH.PORT_DELAY_VALID p) = b.flag (XEPOCH.PORT_DELAY_VALID p) ∧
    (0 ≤ d → d ≤ 1000000 → (t.get (XEPOCH.PORT_DELAY_DELAY_PS p) : Int) =
      if b.flag (XEPOCH.PORT_DELAY_OVR p) then (b.get (XEPOCH.PORT_DELAY_DELAY_PS p) : Int) else d) ∧
    b.keepsRegs t [(XEPOCH.PORT_DELAY_VALID p).key] ∧ b.keepsBehind t := by
  intro t
  cases ovr : b.flag (XEPOCH.PORT_DELAY_OVR p) with
  | true =>
    have effect : t = b := by
      show b.when _ _ = b
      rw [ovr]
      rfl
    rw [effect]
    exact ⟨rfl, fun _ _ => rfl, b.keepsRegs_refl _, b.keepsBehind_refl⟩
  | false =>
    have effect : t = (b.delayOr d).2.conf (XEPOCH.PORT_DELAY_DELAY_PS p) (b.delayOr d).1 := by
      show b.when _ _ = _
      rw [ovr]
      rfl
    obtain ⟨behind, regs⟩ := b.keepsBehind_delayOr d
    have value : 0 ≤ d → d ≤ 1000000 → (b.delayOr d).1 = d.toNat := fun lo hi => by
      have fits : (decide (0 ≤ d) && decide (d < 2 ^ 20)) = true := by
        rw [Bool.and_eq_true, decide_eq_true_eq, decide_eq_true_eq]
        omega
      rw [Blk.delayOr, if_pos fits]
    obtain ⟨y, hy⟩ : ∃ y, (b.delayOr d).2 = y := ⟨_, rfl⟩
    rw [hy] at effect behind regs
    have kept := y.keepsRegs_conf (XEPOCH.PORT_DELAY_DELAY_PS p) (b.delayOr d).1
    have apart : (XEPOCH.PORT_DELAY_VALID p).clearOf (XEPOCH.PORT_DELAY_DELAY_PS p) = true :=
      (by decide : ∀ p < 4, (XEPOCH.PORT_DELAY_VALID p).clearOf (XEPOCH.PORT_DELAY_DELAY_PS p) = true) p hp
    rw [effect]
    refine ⟨?_, fun lo hi => ?_, fun k hk => (kept k hk).trans (congrArg (fun r => Tbl.get regReset r k) regs), behind.trans (y.keepsBehind_conf _ _)⟩
    · rw [Blk.conf_flag, y.flag_set_clear _ apart]
      exact congrArg (fun v => v != 0) (Blk.get_of_regs_eq regs _)
    · rw [Blk.conf_get, y.get_set_same (XEPOCH.PORT_DELAY_DELAY_PS p) _ (show 0 + 20 ≤ 32 by decide), value lo hi]
      show ((d.toNat % 2 ^ 20 : Nat) : Int) = d
      omega

theorem Blk.measured_shows (b : Blk) {p : Nat} (off on : Nat) (hp : p < 4) :
    let t := b.measured p off on
    t.get (XPORT.STATUS_LSTATE p) = lsTrained ∧ t.flag (XPORT.IRQ_RAW_LINK_UP p) = true ∧ t.get (XPORT.PAUSE_THR_XOFF p) = off % 2 ^ 11 ∧
    t.get (XPORT.PAUSE_THR_XON p) = on % 2 ^ 11 ∧ b.keepsOtherPages t [portPage p] ∧ b.keepsMemory t ∧ t.domOn = b.domOn := by
  intro t
  obtain ⟨x, hx⟩ : ∃ x, (b.set (XPORT.PAUSE_THR_XOFF p) off).set (XPORT.PAUSE_THR_XON p) on = x := ⟨_, rfl⟩
  have xoff : x.get (XPORT.PAUSE_THR_XOFF p) = off % 2 ^ 11 := by
    have apart : (XPORT.PAUSE_THR_XOFF p).clearOf (XPORT.PAUSE_THR_XON p) = true :=
      (by decide : ∀ p < 4, (XPORT.PAUSE_THR_XOFF p).clearOf (XPORT.PAUSE_THR_XON p) = true) p hp
    rw [← hx, Blk.get_set_clear _ _ apart]
    exact b.get_set_same (XPORT.PAUSE_THR_XOFF p) off (show 0 + 11 ≤ 32 by decide)
  have xon : x.get (XPORT.PAUSE_THR_XON p) = on % 2 ^ 11 := by
    rw [← hx]
    exact Blk.get_set_same _ (XPORT.PAUSE_THR_XON p) on (show 16 + 11 ≤ 32 by decide)
  have page (f : Fld) (h : pageOf f.key = portPage p) : pageOf f.key ∈ [portPage p] := List.mem_singleton.mpr h
  obtain ⟨thr, thr', st, irq⟩ := (by decide : ∀ p < 4, pageOf (XPORT.PAUSE_THR_XOFF p).key = portPage p ∧ pageOf (XPORT.PAUSE_THR_XON p).key = portPage p ∧
    pageOf (XPORT.STATUS_LSTATE p).key = portPage p ∧ pageOf (XPORT.IRQ_RAW_LINK_UP p).key = portPage p) p hp
  have pages : b.keepsOtherPages x [portPage p] := by
    rw [← hx]
    exact ((b.keepsOtherPages_refl _).set _ (page _ thr)).set _ (page _ thr')
  have behind : b.keepsBehind x := by
    rw [← hx]
    exact (b.keepsBehind_set _ _).set _ _
  obtain ⟨y, hy⟩ : ∃ y, x.setPort p { x.port p with fails := 0, backoff := none } = y := ⟨_, rfl⟩
  have regs : y.regs = x.regs := congrArg (·.regs) hy.symm
  have dom : y.domOn = x.domOn := congrArg (·.domOn) hy.symm
  have memory : x.keepsMemory y := by rw [← hy]; exact x.keepsMemory_refl
  have effect : t = (y.set (XPORT.STATUS_LSTATE p) lsTrained).raise (XPORT.IRQ_RAW_LINK_UP p) := by rw [← hy, ← hx]; rfl
  have clear : (XPORT.STATUS_LSTATE p).clearOf (XPORT.IRQ_RAW_LINK_UP p) = true ∧
      (XPORT.PAUSE_THR_XOFF p).clearOf (XPORT.IRQ_RAW_LINK_UP p) = true ∧ (XPORT.PAUSE_THR_XOFF p).clearOf (XPORT.STATUS_LSTATE p) = true ∧
      (XPORT.PAUSE_THR_XON p).clearOf (XPORT.IRQ_RAW_LINK_UP p) = true ∧ (XPORT.PAUSE_THR_XON p).clearOf (XPORT.STATUS_LSTATE p) = true :=
    (by decide : ∀ p < 4, (XPORT.STATUS_LSTATE p).clearOf (XPORT.IRQ_RAW_LINK_UP p) = true ∧
      (XPORT.PAUSE_THR_XOFF p).clearOf (XPORT.IRQ_RAW_LINK_UP p) = true ∧ (XPORT.PAUSE_THR_XOFF p).clearOf (XPORT.STATUS_LSTATE p) = true ∧
      (XPORT.PAUSE_THR_XON p).clearOf (XPORT.IRQ_RAW_LINK_UP p) = true ∧ (XPORT.PAUSE_THR_XON p).clearOf (XPORT.STATUS_LSTATE p) = true) p hp
  obtain ⟨c1, c2, c3, c4, c5⟩ := clear
  have ends : y.keepsBehind ((y.set (XPORT.STATUS_LSTATE p) lsTrained).raise (XPORT.IRQ_RAW_LINK_UP p)) :=
    (y.keepsBehind_set (XPORT.STATUS_LSTATE p) lsTrained).raise (XPORT.IRQ_RAW_LINK_UP p)
  have words : x.keepsOtherPages y [portPage p] := fun k _ => congrArg (fun r => Tbl.get regReset r k) regs
  have written : y.keepsOtherPages ((y.set (XPORT.STATUS_LSTATE p) lsTrained).raise (XPORT.IRQ_RAW_LINK_UP p)) [portPage p] :=
    ((y.keepsOtherPages_refl _).set (f := XPORT.STATUS_LSTATE p) lsTrained (page _ st)).set (f := XPORT.IRQ_RAW_LINK_UP p) 1 (page _ irq)
  rw [effect]
  refine ⟨?_, ?_, ?_, ?_, ?_, ?_, ?_⟩
  · rw [Blk.get_raise_clear _ c1]
    exact y.get_set_same (XPORT.STATUS_LSTATE p) lsTrained (show 16 + 3 ≤ 32 by decide)
  · exact Blk.flag_raise_same _ (XPORT.IRQ_RAW_LINK_UP p) (show 0 + 1 ≤ 32 by decide) (show 0 < 1 by decide)
  · rw [Blk.get_raise_clear _ c2, y.get_set_clear _ c3, Blk.get_of_regs_eq regs, xoff]
  · rw [Blk.get_raise_clear _ c4, y.get_set_clear _ c5, Blk.get_of_regs_eq regs, xon]
  · exact pages.trans (words.trans written)
  · exact behind.memory.trans (memory.trans ends.memory)
  · exact (ends.proj (·.domOn) (fun _ _ _ _ _ => rfl)).trans (dom.trans (behind.proj (·.domOn) (fun _ _ _ _ _ => rfl)))

/-- The link measured, as it shows. -/
theorem Blk.measureDone_shows {b : Blk} {p : Nat} (d : Int) (hp : p < 4) (on : b.powered (portPage p) = true) (h : b.lstate p = lsMeasure) :
    let t := b.measureDone p d
    let ok := decide (0 ≤ d) && decide (d ≤ 1000000)
    t.lstate p = lsTrained ∧ t.flag (XPORT.IRQ_RAW_LINK_UP p) = true ∧ t.flag (XEPOCH.PORT_DELAY_VALID p) = ok ∧
    (ok = false → t.flag XEPOCH.FAULT_DELAY_RANGE = true) ∧
    (ok = true → (t.get (XEPOCH.PORT_DELAY_DELAY_PS p) : Int) =
        (if b.flag (XEPOCH.PORT_DELAY_OVR p) then (b.get (XEPOCH.PORT_DELAY_DELAY_PS p) : Int) else d) ∧
      (t.get (XPORT.PAUSE_THR_XOFF p) : Int) = xoffOf d ∧ (t.get (XPORT.PAUSE_THR_XON p) : Int) = t.get (XPORT.PAUSE_THR_XOFF p) - 64) ∧
    b.keepsOtherPages t [portPage p, Page.XEPOCH] ∧ b.keepsMemory t := by
  intro t ok
  have effect : t = _ := (b.measureDone_steps p d).trans (if_pos (by rw [decide_eq_true hp, h]; rfl))
  obtain ⟨valid, fault, ovr, old, kept, behind⟩ := b.delayJudged_shows ok hp
  obtain ⟨x, hx⟩ : ∃ x, b.delayJudged p ok = x := ⟨_, rfl⟩
  have hx' : b.delayJudged p (decide (0 ≤ d) && decide (d ≤ 1000000)) = x := hx
  rw [hx'] at effect
  rw [hx] at valid fault ovr old kept behind
  obtain ⟨valid', delay, kept', behind'⟩ := x.delayStored_shows d hp
  obtain ⟨y, hy⟩ : ∃ y, x.delayStored p d = y := ⟨_, rfl⟩
  rw [hy] at effect valid' delay kept' behind'
  obtain ⟨k, hk⟩ : ∃ k, y.delayKept p ok = k := ⟨_, rfl⟩
  have hk' : y.delayKept p (decide (0 ≤ d) && decide (d ≤ 1000000)) = k := hk
  have regs : k.regs = y.regs := congrArg (·.regs) hk.symm
  have dom : k.domOn = y.domOn := congrArg (·.domOn) hk.symm
  have memory : y.keepsMemory k := by rw [← hk]; exact y.keepsMemory_refl
  rw [hk'] at effect
  obtain ⟨behind1, regs1⟩ := k.keepsBehind_thresholdOr (xoffOf d)
  have off : ok = true → (k.thresholdOr (xoffOf d)).1 = (xoffOf d).toNat ∧ 64 ≤ xoffOf d ∧ xoffOf d < 2048 := fun yes => by
    have range := (Bool.and_eq_true _ _).mp yes
    rw [decide_eq_true_eq, decide_eq_true_eq] at range
    have lo : 64 ≤ xoffOf d ∧ xoffOf d < 2048 := by unfold xoffOf; omega
    have fits : (decide (0 ≤ xoffOf d) && decide (xoffOf d < 2048)) = true := by
      rw [Bool.and_eq_true, decide_eq_true_eq, decide_eq_true_eq]
      omega
    rw [Blk.thresholdOr, if_pos fits]
    exact ⟨rfl, lo⟩
  obtain ⟨o, ho⟩ : ∃ o, k.thresholdOr (xoffOf d) = o := ⟨_, rfl⟩
  rw [ho] at behind1 regs1 off
  obtain ⟨behind2, regs2⟩ := o.2.keepsBehind_thresholdOr ((o.1 : Int) - 64)
  have on_ : ok = true → (o.2.thresholdOr ((o.1 : Int) - 64)).1 = o.1 - 64 := fun yes => by
    obtain ⟨value, lo, hi⟩ := off yes
    have fits : (decide (0 ≤ (o.1 : Int) - 64) && decide ((o.1 : Int) - 64 < 2048)) = true := by
      rw [Bool.and_eq_true, decide_eq_true_eq, decide_eq_true_eq]
      omega
    rw [Blk.thresholdOr, if_pos fits]
    show ((o.1 : Int) - 64).toNat = o.1 - 64
    omega
  obtain ⟨u, hu⟩ : ∃ u, o.2.thresholdOr ((o.1 : Int) - 64) = u := ⟨_, rfl⟩
  rw [hu] at behind2 regs2 on_
  rw [Blk.thresholds_eq ho hu] at effect
  obtain ⟨state, up, xoff, xon, pages, memory3, dom3⟩ := u.2.measured_shows o.1 u.1 hp
  rw [← effect] at state up xoff xon pages memory3 dom3
  have words : ∀ j, u.2.word j = y.word j := fun j => congrArg (fun r => Tbl.get regReset r j) (regs2.trans (regs1.trans regs))
  have epoch : ∀ g : Fld, pageOf g.key = Page.XEPOCH → t.get g = y.get g := fun g at_ => by
    have other : pageOf g.key ∉ [portPage p] := by
      rw [at_]
      exact (by decide : ∀ p < 4, Page.XEPOCH ∉ [portPage p]) p hp
    exact Blk.get_of_word_eq ((pages _ other).trans (words _))
  have atVer := (by decide : ∀ p < 4, pageOf (XEPOCH.PORT_DELAY_VALID p).key = Page.XEPOCH ∧ pageOf (XEPOCH.PORT_DELAY_DELAY_PS p).key = Page.XEPOCH ∧
    XEPOCH.FAULT_DELAY_RANGE.key ∉ [(XEPOCH.PORT_DELAY_VALID p).key] ∧ (∀ k ∈ delayKeys p, pageOf k ∈ [portPage p, Page.XEPOCH])) p hp
  obtain ⟨atValid, atDelay, apart, delayPages⟩ := atVer
  have flag (g : Fld) (at_ : pageOf g.key = Page.XEPOCH) : t.flag g = y.flag g := congrArg (fun v => v != 0) (epoch g at_)
  refine ⟨?_, up, (flag _ atValid).trans (valid'.trans valid), fun no => ?_, fun yes => ⟨?_, ?_, ?_⟩, ?_, ?_⟩
  · have domAll : t.domOn = b.domOn := dom3.trans ((behind2.proj (·.domOn) (fun _ _ _ _ _ => rfl)).trans ((behind1.proj (·.domOn) (fun _ _ _ _ _ => rfl)).trans
      (dom.trans ((behind'.proj (·.domOn) (fun _ _ _ _ _ => rfl)).trans (behind.proj (·.domOn) (fun _ _ _ _ _ => rfl))))))
    have powered : t.powered (portPage p) = true := by
      rw [← on]
      simp only [Blk.powered, Blk.domainOn, domAll]
    rw [Blk.lstate_of_powered powered, state]
  · exact (flag XEPOCH.FAULT_DELAY_RANGE (by decide)).trans ((kept'.flag apart).trans (fault no))
  · have range := (Bool.and_eq_true _ _).mp yes
    rw [decide_eq_true_eq, decide_eq_true_eq] at range
    rw [epoch _ atDelay, delay range.1 range.2, ovr, old]
  · obtain ⟨value, lo, hi⟩ := off yes
    rw [xoff, value]
    omega
  · obtain ⟨value, lo, hi⟩ := off yes
    rw [xon, xoff, on_ yes, value]
    omega
  · have judged : b.keepsOtherPages x [portPage p, Page.XEPOCH] := kept.otherPages delayPages
    have stored : x.keepsOtherPages y [portPage p, Page.XEPOCH] := kept'.otherPages (fun k hk => delayPages k (by
      rw [List.mem_singleton.mp hk]
      exact List.mem_cons_self ..))
    exact (judged.trans stored).trans (fun j hj => (pages j (fun mem => hj (List.mem_cons.mpr (.inl (List.mem_singleton.mp mem))))).trans (words j))
  · exact behind.memory.trans (behind'.memory.trans (memory.trans (behind1.memory.trans (behind2.memory.trans memory3))))

/-! ### A training that fails -/

/-- A failed training, recorded and captured. -/
def Blk.trainFailed (b : Blk) (p st cause : Nat) : Blk :=
  let b := (b.set (XPORT.TRAIN_STATUS_FAIL_STATE p) st).set (XPORT.TRAIN_STATUS_FAIL_CAUSE p) cause
  ((b.raise (XPORT.IRQ_RAW_TRAIN_FAIL p)).captureOwnFree (portPage p) 0x01).setLstate p lsDetect

/-- A failure counted; with the third the port waits. -/
def Blk.failCounted (b : Blk) (p : Nat) : Blk :=
  let n := (b.port p).fails + 1
  b.setPort p { b.port p with
    fails := if 3 ≤ n then 0 else n, ident := none, backoff := if 3 ≤ n then some b.ep.line else none }

/-- Why a training fails: 2 a partner of another version, else 1. -/
def Blk.failCause (b : Blk) (p : Nat) : Nat :=
  if b.lstate p == lsIdent && (b.port p).ident.isSome && b.get (XPORT.PARTNER_XVER p) != 1 then 2 else 1

theorem Blk.trainTimeout_steps (b : Blk) (p : Nat) : b.trainTimeout p =
    if p < 4 && lsEqualise ≤ b.lstate p && b.lstate p ≤ lsMeasure && !(b.lstate p == lsIdent && b.flag (XPORT.STATUS_MISCABLED p)) then
      (b.trainFailed p (b.lstate p) (b.failCause p)).failCounted p
    else b := by
  unfold Blk.trainTimeout
  split
  · next h =>
    rw [if_pos h]
    rfl
  · next h => rw [if_neg h]

theorem Blk.trainTimeout_eq (b : Blk) {p : Nat} (hp : p < 4) :
    let held := b.lstate p = lsIdent ∧ b.flag (XPORT.STATUS_MISCABLED p) = true
    (¬(lsEqualise ≤ b.lstate p ∧ b.lstate p ≤ lsMeasure) ∨ held → b.trainTimeout p = b) ∧
    (lsEqualise ≤ b.lstate p → b.lstate p ≤ lsMeasure → ¬held → b.trainTimeout p = (b.trainFailed p (b.lstate p) (b.failCause p)).failCounted p) := by
  intro held
  have test : (decide (p < 4) && decide (lsEqualise ≤ b.lstate p) && decide (b.lstate p ≤ lsMeasure) &&
      !(b.lstate p == lsIdent && b.flag (XPORT.STATUS_MISCABLED p))) = true ↔ (lsEqualise ≤ b.lstate p ∧ b.lstate p ≤ lsMeasure) ∧ ¬held := by
    simp only [decide_eq_true hp, Bool.true_and, Bool.and_eq_true, decide_eq_true_eq, Bool.not_eq_true', ← Bool.not_eq_true, beq_iff_eq, held]
  rw [b.trainTimeout_steps]
  exact ⟨fun no => if_neg (fun yes => no.elim (fun h => h (test.mp yes).1) (test.mp yes).2), fun lo hi no => if_pos (test.mpr ⟨⟨lo, hi⟩, no⟩)⟩

theorem Blk.trainFailed_shows (b : Blk) {p st cause : Nat} (hp : p < 4) (hs : st < 8) (hc : cause < 16) :
    let t := b.trainFailed p st cause
    t.get (XPORT.STATUS_LSTATE p) = lsDetect ∧ t.flag (XPORT.IRQ_RAW_TRAIN_FAIL p) = true ∧ t.get (XPORT.TRAIN_STATUS_FAIL_STATE p) = st ∧
    t.get (XPORT.TRAIN_STATUS_FAIL_CAUSE p) = cause ∧ b.keepsOtherPages t [portPage p] ∧ b.keepsBehind t := by
  intro t
  have clear := (by decide : ∀ p < 4, (XPORT.TRAIN_STATUS_FAIL_STATE p).clearOf (XPORT.TRAIN_STATUS_FAIL_CAUSE p) = true ∧
    (XPORT.TRAIN_STATUS_FAIL_STATE p).key ∉ captureKeys (portPage p) ∧ (XPORT.TRAIN_STATUS_FAIL_STATE p).key ≠ (XPORT.STATUS_LSTATE p).key ∧
    (XPORT.IRQ_RAW_TRAIN_FAIL p).key ≠ (XPORT.STATUS_LSTATE p).key ∧ (XPORT.TRAIN_STATUS_FAIL_STATE p).key ≠ (XPORT.IRQ_RAW_TRAIN_FAIL p).key ∧
    pageOf (XPORT.TRAIN_STATUS_FAIL_STATE p).key = portPage p ∧ pageOf (XPORT.IRQ_RAW_TRAIN_FAIL p).key = portPage p ∧
    pageOf (XPORT.STATUS_LSTATE p).key = portPage p ∧ portPage p < 256) p hp
  obtain ⟨apart, captured, status, irq, raised, page1, page2, page3, small⟩ := clear
  obtain ⟨x, hx⟩ : ∃ x, ((b.set (XPORT.TRAIN_STATUS_FAIL_STATE p) st).set (XPORT.TRAIN_STATUS_FAIL_CAUSE p) cause).raise
    (XPORT.IRQ_RAW_TRAIN_FAIL p) = x := ⟨_, rfl⟩
  have st_ : x.get (XPORT.TRAIN_STATUS_FAIL_STATE p) = st := by
    rw [← hx, Blk.raise, Blk.get_set_other _ _ raised, Blk.get_set_clear _ _ apart]
    exact (b.get_set_same (XPORT.TRAIN_STATUS_FAIL_STATE p) st (show 0 + 3 ≤ 32 by decide)).trans (Nat.mod_eq_of_lt hs)
  have cause_ : x.get (XPORT.TRAIN_STATUS_FAIL_CAUSE p) = cause := by
    rw [← hx, Blk.raise, Blk.get_set_other (f := XPORT.IRQ_RAW_TRAIN_FAIL p) (g := XPORT.TRAIN_STATUS_FAIL_CAUSE p) _ _ raised]
    exact (Blk.get_set_same _ (XPORT.TRAIN_STATUS_FAIL_CAUSE p) cause (show 4 + 4 ≤ 32 by decide)).trans (Nat.mod_eq_of_lt hc)
  have raw : x.flag (XPORT.IRQ_RAW_TRAIN_FAIL p) = true := by
    rw [← hx]
    exact Blk.flag_raise_same _ (XPORT.IRQ_RAW_TRAIN_FAIL p) (show 3 + 1 ≤ 32 by decide) (show 0 < 1 by decide)
  have at_ {f : Fld} (h : pageOf f.key = portPage p) : pageOf f.key ∈ [portPage p] := List.mem_singleton.mpr h
  have pages : b.keepsOtherPages x [portPage p] := by
    rw [← hx]
    exact (((b.keepsOtherPages_refl _).set (f := XPORT.TRAIN_STATUS_FAIL_STATE p) st (at_ page1)).set (f := XPORT.TRAIN_STATUS_FAIL_CAUSE p) cause
      (at_ page1)).set (f := XPORT.IRQ_RAW_TRAIN_FAIL p) 1 (at_ page2)
  have behind : b.keepsBehind x := by
    rw [← hx]
    exact ((b.keepsBehind_set (XPORT.TRAIN_STATUS_FAIL_STATE p) st).set (XPORT.TRAIN_STATUS_FAIL_CAUSE p) cause).raise (XPORT.IRQ_RAW_TRAIN_FAIL p)
  have effect : t = (x.captureOwnFree (portPage p) 0x01).setLstate p lsDetect := by rw [← hx]; rfl
  have regs := x.keepsRegs_captureOwnFree (portPage p) 0x01
  have raw' : (x.captureOwnFree (portPage p) 0x01).flag (XPORT.IRQ_RAW_TRAIN_FAIL p) = true := by
    refine Eq.trans ?_ raw
    obtain rfl | rfl | rfl | rfl := port_cases hp
    all_goals exact x.flag_captureOwnFree_hIrq _ 0x01 (bit := 3) (by decide)
  have pages' := x.keepsOtherPages_captureOwnFree 0x01 small
  have behind' := x.keepsBehind_captureOwnFree (portPage p) 0x01
  obtain ⟨y, hy⟩ : ∃ y, x.captureOwnFree (portPage p) 0x01 = y := ⟨_, rfl⟩
  rw [hy] at effect regs raw' pages' behind'
  rw [effect]
  refine ⟨y.get_set_same (XPORT.STATUS_LSTATE p) lsDetect (show 16 + 3 ≤ 32 by decide), ?_, ?_, ?_,
    pages.trans (pages'.trans ((y.keepsOtherPages_refl _).set (f := XPORT.STATUS_LSTATE p) lsDetect (at_ page3))),
    behind.trans (behind'.trans (y.keepsBehind_set (XPORT.STATUS_LSTATE p) lsDetect))⟩
  · exact (congrArg (fun v => v != 0) (y.get_set_other (f := XPORT.STATUS_LSTATE p) (g := XPORT.IRQ_RAW_TRAIN_FAIL p) lsDetect irq)).trans raw'
  · exact (y.get_set_other (f := XPORT.STATUS_LSTATE p) (g := XPORT.TRAIN_STATUS_FAIL_STATE p) lsDetect status).trans ((regs.get captured).trans st_)
  · exact (y.get_set_other (f := XPORT.STATUS_LSTATE p) (g := XPORT.TRAIN_STATUS_FAIL_CAUSE p) lsDetect status).trans
      ((regs.get (f := XPORT.TRAIN_STATUS_FAIL_CAUSE p) captured).trans cause_)

theorem Blk.lstate_lt (b : Blk) (p : Nat) : b.lstate p < 8 := by
  unfold Blk.lstate
  split
  · exact b.get_lt (XPORT.STATUS_LSTATE p)
  · decide

theorem Blk.failCause_eq (b : Blk) (p : Nat) : b.failCause p =
    if b.lstate p = lsIdent ∧ (b.port p).ident.isSome = true ∧ b.get (XPORT.PARTNER_XVER p) ≠ 1 then 2 else 1 := by
  simp only [Blk.failCause, Bool.and_eq_true, beq_iff_eq, bne_iff_ne, and_assoc]

theorem Blk.failCounted_backoff (b : Blk) {p : Nat} (len : p < b.ports.length) :
    ((b.failCounted p).port p).backoff = if 2 ≤ (b.port p).fails then some b.ep.line else none := by
  have at_ : (b.failCounted p).port p = { b.port p with
      fails := if 3 ≤ (b.port p).fails + 1 then 0 else (b.port p).fails + 1, ident := none,
      backoff := if 3 ≤ (b.port p).fails + 1 then some b.ep.line else none } := by
    show nth (setNth b.ports p _) p noPort = _
    rw [nth, setNth, List.getElem?_set_self len]
    rfl
  rw [at_]
  dsimp only
  exact if_congr ⟨fun h => by omega, fun h => by omega⟩ rfl rfl

/-- A training that outlives its limit, as it shows. -/
theorem Blk.trainTimeout_shows {b : Blk} {p : Nat} (hp : p < 4) (on : b.powered (portPage p) = true) (lo : lsEqualise ≤ b.lstate p)
    (hi : b.lstate p ≤ lsMeasure) (held : ¬(b.lstate p = lsIdent ∧ b.flag (XPORT.STATUS_MISCABLED p) = true)) (len : p < b.ports.length) :
    let t := b.trainTimeout p
    t.lstate p = lsDetect ∧ t.flag (XPORT.IRQ_RAW_TRAIN_FAIL p) = true ∧ t.get (XPORT.TRAIN_STATUS_FAIL_STATE p) = b.lstate p ∧
    t.get (XPORT.TRAIN_STATUS_FAIL_CAUSE p) =
      (if b.lstate p = lsIdent ∧ (b.port p).ident.isSome = true ∧ b.get (XPORT.PARTNER_XVER p) ≠ 1 then 2 else 1) ∧
    (t.port p).backoff = (if 2 ≤ (b.port p).fails then some b.ep.line else none) ∧ b.keepsOtherPages t [portPage p] ∧ b.keepsMemory t := by
  intro t
  have effect : t = _ := (b.trainTimeout_eq hp).2 lo hi held
  have small : b.failCause p < 16 := by
    unfold Blk.failCause
    split <;> decide
  obtain ⟨state, irq, st, cause, pages, behind⟩ := b.trainFailed_shows hp (b.lstate_lt p) small
  obtain ⟨x, hx⟩ : ∃ x, b.trainFailed p (b.lstate p) (b.failCause p) = x := ⟨_, rfl⟩
  rw [hx] at effect state irq st cause pages behind
  have ports : x.ports = b.ports := behind.proj (·.ports) (fun _ _ _ _ _ => rfl)
  have line : x.ep = b.ep := behind.proj (·.ep) (fun _ _ _ _ _ => rfl)
  have port : x.port p = b.port p := congrArg (fun l => nth l p noPort) ports
  have backoff := x.failCounted_backoff (p := p) (ports ▸ len)
  obtain ⟨y, hy⟩ : ∃ y, x.failCounted p = y := ⟨_, rfl⟩
  have regs : y.regs = x.regs := congrArg (·.regs) hy.symm
  have dom : y.domOn = x.domOn := congrArg (·.domOn) hy.symm
  have memory : x.keepsMemory y := by rw [← hy]; exact x.keepsMemory_refl
  rw [hy] at effect backoff
  rw [effect]
  have powered : y.powered (portPage p) = true := by
    rw [← on, ← Blk.powered_of_behind behind]
    simp only [Blk.powered, Blk.domainOn, dom]
  refine ⟨?_, ?_, ?_, ?_, ?_, fun k hk => (congrArg (fun r => Tbl.get regReset r k) regs).trans (pages k hk), behind.memory.trans memory⟩
  · rw [Blk.lstate_of_powered powered, Blk.get_of_regs_eq regs, state]
  · exact (congrArg (fun v => v != 0) (Blk.get_of_regs_eq regs _)).trans irq
  · exact (Blk.get_of_regs_eq regs _).trans st
  · exact (Blk.get_of_regs_eq regs _).trans (cause.trans (b.failCause_eq p))
  · rw [backoff, port, line]

/-! ### PORT_CTRL -/

/-- The registers of a port as written. -/
theorem Blk.writeBlock_xport (b : Blk) (a : Agent) {p : Nat} (hp : p < 4) (off : Nat) (v : Word) : b.writeBlock a (portPage p) off v =
    if off < 0x040 then b.writeHeader (portPage p) off v
    else if off == 0x040 then b.writePortCtrl p a v.toNat else b.storeKey (b.reachKey (portPage p) off) v := by
  obtain rfl | rfl | rfl | rfl := port_cases hp
  all_goals rfl

theorem Blk.writeBlock_portCtrl (b : Blk) (a : Agent) {p : Nat} (hp : p < 4) (v : Word) :
    b.writeBlock a (portPage p) 0x040 v = b.writePortCtrl p a v.toNat :=
  (b.writeBlock_xport a hp 0x040 v).trans ((if_neg (by decide)).trans (if_pos (by decide)))

/-- The RW bits of PORT_CTRL: OPEN, TAP and TAP_CTX. -/
def portCtrlRow : RegRow := ⟨0x040, 1, 0, .none, 0, 0x3F05, 0, 0, false⟩

theorem regRow_portCtrl : ∀ p < 4, regRow (portPage p) 0x040 = some portCtrlRow := by decide

/-- A bit that a register does not store is 0 in the word a command writes. -/
theorem Blk.bitAt_fieldWord_none (b : Blk) {page off : Nat} {r : RegRow} (row : regRow page off = some r) {lo w i : Nat} (v : Nat)
    (outside : (BitVec.ofNat 32 r.rw).toNat.testBit i = false) (hi : i < 32) (apart : lo + w ≤ i ∨ i + 1 ≤ lo) :
    bitAt (b.fieldWord page off lo w v).toNat i = false := by
  have word : b.rwWord page off = Nat.land (b.word (b.reachKey page off)).toNat (BitVec.ofNat 32 r.rw).toNat := by
    unfold Blk.rwWord
    rw [row]
    exact BitVec.toNat_and _ _
  have low : bitsAt (b.rwWord page off) i 1 = 0 := by
    have bit := bitAt_eq_testBit (b.rwWord page off) i
    have off_ : (b.rwWord page off).testBit i = false := by
      rw [word]
      exact (Nat.testBit_and _ _ i).trans (by rw [outside, Bool.and_false])
    have one := bitsAt_one (b.rwWord page off) i
    rw [bit, off_] at one
    exact one
  rw [bitAt, Blk.fieldWord, BitVec.toNat_ofNat, bitsAt_mod_word _ _ _ (by omega), bitsAt_putBits_ne _ _ _ _ _ _ apart, low]
  rfl

/-- TAP taken back, with its context. -/
def Blk.tapStored (b : Blk) (p v : Nat) : Blk :=
  let b := b.set (XPORT.PORT_CTRL_TAP_CTX p) (bitsAt v 8 6)
  (b.set (XPORT.PORT_CTRL_TAP p) (bitsAt v 2 1)).set (XPORT.STATUS_TAP_MODE p) (bitsAt v 2 1)

/-- OPEN as written. -/
def Blk.openStored (b : Blk) (p : Nat) (on : Bool) : Blk :=
  if on then
    (if b.lstate p == lsTrained then ((b.set (XPORT.PORT_CTRL_OPEN p) 1).setLstate p lsOpen).raise (XPORT.IRQ_RAW_OPENED p) else b)
  else b.closePort p

theorem Blk.writePortCtrl_steps (b : Blk) (p : Nat) (a : Agent) (v : Nat) : b.writePortCtrl p a v =
    if bitAt v 2 && !((b.get LIFE.STATE == 1 || b.get LIFE.STATE == 3) && b.flag OASIS.STATUS_PRES_WINDOW) then b.tapRefused p a
    else
      let o := (b.tapStored p v).openStored p (bitAt v 0)
      if bitAt v 1 && lsIdent ≤ o.lstate p then o.portDown p else o := by
  unfold Blk.writePortCtrl
  rfl

theorem Blk.tapStored_shows (b : Blk) {p : Nat} (v : Nat) (hp : p < 4) :
    let t := b.tapStored p v
    t.get (XPORT.PORT_CTRL_TAP_CTX p) = bitsAt v 8 6 ∧ t.flag (XPORT.PORT_CTRL_TAP p) = bitAt v 2 ∧ t.flag (XPORT.STATUS_TAP_MODE p) = bitAt v 2 ∧
    t.lstate p = b.lstate p ∧ t.flag (XPORT.PORT_CTRL_OPEN p) = b.flag (XPORT.PORT_CTRL_OPEN p) ∧
    t.get (XPORT.TRAIN_STATUS_RETRAINS p) = b.get (XPORT.TRAIN_STATUS_RETRAINS p) ∧
    b.keepsOtherPages t [portPage p] ∧ b.keepsBehind t := by
  intro t
  have behind : b.keepsBehind t := ((b.keepsBehind_set (XPORT.PORT_CTRL_TAP_CTX p) (bitsAt v 8 6)).set (XPORT.PORT_CTRL_TAP p) (bitsAt v 2 1)).set
    (XPORT.STATUS_TAP_MODE p) (bitsAt v 2 1)
  have at_ := (by decide : ∀ p < 4, pageOf (XPORT.PORT_CTRL_TAP p).key ∈ [portPage p] ∧ pageOf (XPORT.STATUS_TAP_MODE p).key ∈ [portPage p]) p hp
  have pages : b.keepsOtherPages t [portPage p] := (((b.keepsOtherPages_refl _).set (f := XPORT.PORT_CTRL_TAP_CTX p) (bitsAt v 8 6) at_.1).set
    (f := XPORT.PORT_CTRL_TAP p) (bitsAt v 2 1) at_.1).set (f := XPORT.STATUS_TAP_MODE p) (bitsAt v 2 1) at_.2
  have fits {f : Fld} (h : f.lo + f.w ≤ 32) : f.fits := h
  have ctx : bitsAt v 8 6 < 2 ^ 6 := bitsAt_lt _ _ _
  have get : t.get (XPORT.PORT_CTRL_TAP_CTX p) = bitsAt v 8 6 ∧ t.get (XPORT.STATUS_LSTATE p) = b.get (XPORT.STATUS_LSTATE p) ∧
      t.flag (XPORT.PORT_CTRL_OPEN p) = b.flag (XPORT.PORT_CTRL_OPEN p) ∧
      t.get (XPORT.TRAIN_STATUS_RETRAINS p) = b.get (XPORT.TRAIN_STATUS_RETRAINS p) ∧ t.flag (XPORT.PORT_CTRL_TAP p) = bitAt v 2 ∧
      t.flag (XPORT.STATUS_TAP_MODE p) = bitAt v 2 := by
    obtain rfl | rfl | rfl | rfl := port_cases hp
    all_goals
      simp (disch := decide) only [t, Blk.tapStored, Blk.get_set_clear, Blk.flag_set_clear, bitsAt_one]
      exact ⟨(b.get_set_same _ _ (fits (by decide))).trans (Nat.mod_eq_of_lt ctx), trivial, trivial, trivial,
        Blk.flag_set_bitNat _ _ (by decide), Blk.flag_set_bitNat _ _ (by decide)⟩
  obtain ⟨ctx', state, open_, trains, tap, mode⟩ := get
  refine ⟨ctx', tap, mode, ?_, open_, trains, pages, behind⟩
  rw [Blk.lstate, Blk.lstate, Blk.powered_of_behind behind, state]

/-- A port that opens. -/
def Blk.opened (b : Blk) (p : Nat) : Blk := ((b.set (XPORT.PORT_CTRL_OPEN p) 1).setLstate p lsOpen).raise (XPORT.IRQ_RAW_OPENED p)

theorem Blk.opened_shows (b : Blk) {p : Nat} (hp : p < 4) :
    let t := b.opened p
    t.get (XPORT.STATUS_LSTATE p) = lsOpen ∧ t.flag (XPORT.PORT_CTRL_OPEN p) = true ∧ t.flag (XPORT.IRQ_RAW_OPENED p) = true ∧
    t.get (XPORT.TRAIN_STATUS_RETRAINS p) = b.get (XPORT.TRAIN_STATUS_RETRAINS p) ∧ b.keepsOtherPages t [portPage p] ∧ b.keepsBehind t := by
  intro t
  have at_ := (by decide : ∀ p < 4, pageOf (XPORT.PORT_CTRL_OPEN p).key ∈ [portPage p] ∧ pageOf (XPORT.STATUS_LSTATE p).key ∈ [portPage p] ∧
    pageOf (XPORT.IRQ_RAW_OPENED p).key ∈ [portPage p]) p hp
  have pages : b.keepsOtherPages t [portPage p] := (((b.keepsOtherPages_refl _).set (f := XPORT.PORT_CTRL_OPEN p) 1 at_.1).set
    (f := XPORT.STATUS_LSTATE p) lsOpen at_.2.1).set (f := XPORT.IRQ_RAW_OPENED p) 1 at_.2.2
  have behind : b.keepsBehind t :=
    ((b.keepsBehind_set (XPORT.PORT_CTRL_OPEN p) 1).set (XPORT.STATUS_LSTATE p) lsOpen).raise (XPORT.IRQ_RAW_OPENED p)
  have fits {f : Fld} (h : f.lo + f.w ≤ 32) : f.fits := h
  obtain rfl | rfl | rfl | rfl := port_cases hp
  all_goals
    refine ⟨?_, ?_, Blk.flag_raise_same _ _ (fits (by decide)) (by decide), ?_, pages, behind⟩
    all_goals simp (disch := decide) only [t, Blk.opened, Blk.setLstate, Blk.get_raise_clear, Blk.flag_raise_clear, Blk.get_set_clear, Blk.flag_set_clear]
    · exact Blk.get_set_same _ _ _ (fits (by decide))
    · exact b.flag_set_bitNat true (by decide)

theorem Blk.closePort_shows (b : Blk) {p : Nat} (hp : p < 4) :
    let t := b.closePort p
    t.get (XPORT.STATUS_LSTATE p) = (if b.get (XPORT.STATUS_LSTATE p) = 7 then 6 else b.get (XPORT.STATUS_LSTATE p)) ∧
    t.get (XPORT.TRAIN_STATUS_RETRAINS p) = b.get (XPORT.TRAIN_STATUS_RETRAINS p) ∧ b.keepsOtherPages t [portPage p] ∧ b.keepsBehind t := by
  intro t
  have facts := (by decide : ∀ p < 4, pageOf (XPORT.PORT_CTRL_OPEN p).key ∈ [portPage p] ∧ pageOf (XPORT.STATUS_LSTATE p).key ∈ [portPage p] ∧
    (XPORT.STATUS_LSTATE p).key ≠ (XPORT.PORT_CTRL_OPEN p).key ∧ (XPORT.TRAIN_STATUS_RETRAINS p).key ≠ (XPORT.PORT_CTRL_OPEN p).key ∧
    (XPORT.TRAIN_STATUS_RETRAINS p).key ≠ (XPORT.STATUS_LSTATE p).key) p hp
  obtain ⟨page, page', apart, retrains, retrains'⟩ := facts
  have state : (b.set (XPORT.PORT_CTRL_OPEN p) 0).get (XPORT.STATUS_LSTATE p) = b.get (XPORT.STATUS_LSTATE p) := b.get_set_other 0 apart
  have count : (b.set (XPORT.PORT_CTRL_OPEN p) 0).get (XPORT.TRAIN_STATUS_RETRAINS p) = b.get (XPORT.TRAIN_STATUS_RETRAINS p) := b.get_set_other 0 retrains
  have pages : b.keepsOtherPages (b.set (XPORT.PORT_CTRL_OPEN p) 0) [portPage p] := (b.keepsOtherPages_refl _).set 0 page
  have behind := b.keepsBehind_set (XPORT.PORT_CTRL_OPEN p) 0
  obtain ⟨y, hy⟩ : ∃ y, b.set (XPORT.PORT_CTRL_OPEN p) 0 = y := ⟨_, rfl⟩
  rw [hy] at state count pages behind
  have effect : t = if y.get (XPORT.STATUS_LSTATE p) == 7 then y.set (XPORT.STATUS_LSTATE p) 6 else y := by rw [← hy]; rfl
  by_cases h : b.get (XPORT.STATUS_LSTATE p) = 7
  · have closed : t = y.set (XPORT.STATUS_LSTATE p) 6 := effect.trans (if_pos (by rw [state, h]; rfl))
    rw [closed, if_pos h]
    exact ⟨y.get_set_same (XPORT.STATUS_LSTATE p) 6 (show 16 + 3 ≤ 32 by decide), (y.get_set_other 6 retrains').trans count, pages.set 6 page',
      behind.set (XPORT.STATUS_LSTATE p) 6⟩
  · have same : t = y := effect.trans (if_neg (by rw [state, beq_iff_eq]; exact h))
    rw [same, if_neg h]
    exact ⟨state, count, pages, behind⟩

theorem Blk.openStored_shows (b : Blk) {p : Nat} (on : Bool) (hp : p < 4) (power : b.powered (portPage p) = true) :
    let t := b.openStored p on
    (lsIdent ≤ b.lstate p → lsIdent ≤ t.lstate p) ∧ (b.lstate p < lsIdent → t.lstate p = b.lstate p) ∧
    t.get (XPORT.TRAIN_STATUS_RETRAINS p) = b.get (XPORT.TRAIN_STATUS_RETRAINS p) ∧ b.keepsOtherPages t [portPage p] ∧ b.keepsBehind t := by
  intro t
  cases on with
  | true =>
    by_cases h : b.lstate p = lsTrained
    · have effect : t = b.opened p := (if_pos rfl).trans (if_pos (beq_iff_eq.mpr h))
      obtain ⟨state, -, -, count, pages, behind⟩ := b.opened_shows hp
      rw [effect]
      have st : (b.opened p).lstate p = lsOpen := by rw [Blk.lstate_of_powered ((Blk.powered_of_behind behind _).trans power), state]
      rw [st, h]
      exact ⟨fun _ => by decide, fun no => absurd no (by decide), count, pages, behind⟩
    · have effect : t = b := (if_pos rfl).trans (if_neg (mt beq_iff_eq.mp h))
      rw [effect]
      exact ⟨fun h => h, fun _ => rfl, rfl, b.keepsOtherPages_refl _, b.keepsBehind_refl⟩
  | false =>
    have effect : t = b.closePort p := if_neg (by decide)
    obtain ⟨state, count, pages, behind⟩ := b.closePort_shows hp
    rw [effect]
    have st : (b.closePort p).lstate p = (if b.lstate p = 7 then 6 else b.lstate p) := by
      rw [Blk.lstate_of_powered ((Blk.powered_of_behind behind _).trans power), state, Blk.lstate_of_powered power]
    rw [st]
    refine ⟨fun h => ?_, fun h => if_neg (fun e => absurd (e ▸ h) (by decide)), count, pages, behind⟩
    split
    · decide
    · exact h

/-- A write of PORT_CTRL that does not set TAP. -/
theorem Blk.writePortCtrl_eq (b : Blk) (p : Nat) (a : Agent) {v : Nat} (tap : bitAt v 2 = false) : b.writePortCtrl p a v =
    let o := (b.tapStored p v).openStored p (bitAt v 0)
    if bitAt v 1 && lsIdent ≤ o.lstate p then o.portDown p else o := by
  rw [b.writePortCtrl_steps, tap]
  rfl

/-- OPEN set by PORT_OPEN. -/
theorem Blk.portOpened_shows {b : Blk} {p : Nat} (a : Agent) {v : Nat} (hp : p < 4) (power : b.powered (portPage p) = true) (tap : bitAt v 2 = false)
    (open_ : bitAt v 0 = true) (retrain : bitAt v 1 = false) :
    let t := b.writePortCtrl p a v
    (b.lstate p = lsTrained → t.lstate p = lsOpen ∧ t.flag (XPORT.PORT_CTRL_OPEN p) = true ∧ t.flag (XPORT.IRQ_RAW_OPENED p) = true) ∧
    (b.lstate p ≠ lsTrained → t.lstate p = b.lstate p ∧ t.flag (XPORT.PORT_CTRL_OPEN p) = b.flag (XPORT.PORT_CTRL_OPEN p)) ∧
    b.keepsOtherPages t [portPage p] ∧ b.keepsMemory t := by
  intro t
  have effect : t = (b.tapStored p v).openStored p true := by
    show b.writePortCtrl p a v = _
    rw [b.writePortCtrl_eq p a tap, open_, retrain]
    exact if_neg (by rw [Bool.false_and]; decide)
  obtain ⟨-, -, -, state, flag, -, pages, behind⟩ := b.tapStored_shows v hp
  obtain ⟨y, hy⟩ : ∃ y, b.tapStored p v = y := ⟨_, rfl⟩
  rw [hy] at effect state flag pages behind
  have power' := (Blk.powered_of_behind behind (portPage p)).trans power
  by_cases h : b.lstate p = lsTrained
  · have effect : t = y.opened p := effect.trans ((if_pos rfl).trans (if_pos (beq_iff_eq.mpr (state.trans h))))
    obtain ⟨st, on, irq, -, pages', behind'⟩ := y.opened_shows hp
    rw [effect]
    refine ⟨fun _ => ⟨?_, on, irq⟩, fun no => absurd h no, pages.trans pages', behind.memory.trans behind'.memory⟩
    rw [Blk.lstate_of_powered ((Blk.powered_of_behind behind' _).trans power'), st]
  · have effect : t = y := effect.trans ((if_pos rfl).trans (if_neg (mt beq_iff_eq.mp (by rw [state]; exact h))))
    rw [effect]
    exact ⟨fun yes => absurd yes h, fun _ => ⟨state, flag⟩, pages, behind.memory⟩

/-- RETRAIN set by PORT_RETRAIN. -/
theorem Blk.portRetrained_shows {b : Blk} {p : Nat} (a : Agent) {v : Nat} (hp : p < 4) (power : b.powered (portPage p) = true) (tap : bitAt v 2 = false)
    (retrain : bitAt v 1 = true) :
    let t := b.writePortCtrl p a v
    (lsIdent ≤ b.lstate p → t.lstate p = lsDetect ∧ t.flag (XPORT.PORT_CTRL_OPEN p) = false ∧ t.get (XPORT.STATUS_PAUSE_TX p) = 0 ∧
      t.get (XPORT.TRAIN_STATUS_RETRAINS p) = (b.get (XPORT.TRAIN_STATUS_RETRAINS p) + 1) % 65536 ∧
      t.flag (XPORT.IRQ_RAW_LINK_DOWN p) = true ∧ (t.port p).waiting = [] ∧ b.keepsOtherPages t linkPages) ∧
    (b.lstate p < lsIdent → t.lstate p = b.lstate p ∧ b.keepsOtherPages t [portPage p]) ∧ b.keepsMemory t := by
  intro t
  have effect : t = _ := b.writePortCtrl_eq p a tap
  obtain ⟨-, -, -, state, -, count, pages, behind⟩ := b.tapStored_shows v hp
  obtain ⟨y, hy⟩ : ∃ y, b.tapStored p v = y := ⟨_, rfl⟩
  rw [hy] at effect state count pages behind
  have power' := (Blk.powered_of_behind behind (portPage p)).trans power
  obtain ⟨past, early, count', pages', behind'⟩ := y.openStored_shows (bitAt v 0) hp power'
  obtain ⟨o, ho⟩ : ∃ o, y.openStored p (bitAt v 0) = o := ⟨_, rfl⟩
  rw [ho] at effect past early count' pages' behind'
  dsimp only at effect
  rw [retrain, Bool.true_and] at effect
  rw [state] at past early
  have power'' := (Blk.powered_of_behind behind' (portPage p)).trans power'
  by_cases h : lsIdent ≤ b.lstate p
  · have effect : t = o.portDown p := effect.trans (if_pos (decide_eq_true (past h)))
    obtain ⟨st, open_, pause, retrains, irq, empty, pagesDown, memory, powerDown, -⟩ := o.portDown_shows hp
    rw [effect]
    have page : ∀ q ∈ [portPage p], q ∈ linkPages := (by decide : ∀ p < 4, ∀ q ∈ [portPage p], q ∈ linkPages) p hp
    refine ⟨fun _ => ⟨?_, open_, pause, ?_, irq, empty, ?_⟩, fun no => absurd h (Nat.not_le.mpr no), behind.memory.trans (behind'.memory.trans memory)⟩
    · rw [Blk.lstate_of_powered ((powerDown _).trans power''), st]
    · rw [retrains, count', count]
    · exact fun k hk => (pagesDown k hk).trans ((pages.trans pages') k (fun mem => hk (page _ mem)))
  · have effect : t = o := effect.trans (if_neg (by rw [decide_eq_true_eq, early (Nat.not_le.mp h)]; exact h))
    rw [effect]
    exact ⟨fun yes => absurd yes h, fun no => ⟨early no, pages.trans pages'⟩, behind.memory.trans behind'.memory⟩

/-- A command that sets one bit of PORT_CTRL. -/
theorem Node.writeBits_portCtrl {n : Node} {a : Agent} {p lo : Nat} (hp : p < 4)
    (hg : n.b.granted a (portPage p) 0x040 (n.b.fieldWord (portPage p) 0x040 lo 1 1)) :
    n.writeBits a (portPage p) 0x040 lo 1 1 = { n with
      b := (n.b.writePortCtrl p a (n.b.fieldWord (portPage p) 0x040 lo 1 1).toNat).answered a (portPage p) 0x040 } := by
  rw [n.writeBits_block a lo 1 1 ((by decide : ∀ p < 4, blockRegister (portPage p) 0x040 = true) p hp) hg, Blk.writeBlock_portCtrl _ _ hp]

/-- Settles O37: each state's step as it shows; a port that goes down by `portDown_shows`. -/
theorem portsTrainThroughTheirStates : Obligations.PortsTrainThroughTheirStates := by
  unfold Obligations.PortsTrainThroughTheirStates
  refine ⟨fun s p hp => ?_, fun s p hp on => ?_⟩
  · intro st
    have wf : decide (p < 4) = true := decide_eq_true hp
    refine ⟨fun h => ?_, fun h => ?_, fun h => ?_, fun h => ?_, fun id xver h hx => ?_, fun d h => ?_, fun h => ?_, fun h => ?_⟩
    · refine exec_blk_same (f := fun b => b.linkSignal p) rfl wf ((s.blk.linkSignal_eq hp).trans (if_neg (fun both => ?_)))
      obtain no | no := h
      · exact no both.1
      · rw [both.2] at no
        cases no
    · exact exec_blk_same (f := fun b => b.linkAdapted p) rfl wf ((s.blk.linkAdapted_eq hp).trans (if_neg h))
    · exact exec_blk_same (f := fun b => b.linkAligned p) rfl wf ((s.blk.linkAligned_eq hp).trans (if_neg h))
    · refine exec_blk_same (f := fun b => b.identSend p) rfl wf ((s.blk.identSend_eq hp).trans (if_neg (fun both => ?_)))
      obtain no | no := h
      · exact absurd both.1 (Nat.not_le.mpr no)
      · exact absurd (both.2.symm.trans no) (by decide)
    · have away : (!(decide (p < 4) && decide (lsIdent ≤ s.blk.lstate p))) = true := by rw [decide_eq_false (Nat.not_le.mpr h), Bool.and_false]; rfl
      have wf : (Instr.identReceive p xver id).wf = true := by simp [Instr.wf, hp, hx]
      exact exec_blk_same (f := fun b => b.identReceive p xver id) rfl wf ((s.blk.identReceive_steps p xver id).trans (if_pos away))
    · have away : ¬(decide (p < 4) && s.blk.lstate p == lsMeasure) = true := by
        rw [Bool.and_eq_true, beq_iff_eq]
        exact fun both => h both.2
      exact exec_blk_same (f := fun b => b.measureDone p d) rfl wf ((s.blk.measureDone_steps p d).trans (if_neg away))
    · exact exec_blk_same (f := fun b => b.trainTimeout p) rfl wf ((s.blk.trainTimeout_eq hp).1 h)
    · exact exec_blk_same (f := fun b => b.trainBackoffEnd p) rfl wf ((s.blk.trainBackoffEnd_eq p).2 h)
  · intro st pages
    have wf : decide (p < 4) = true := decide_eq_true hp
    refine ⟨fun h k => ?_, fun h => ?_, fun h => ?_, fun h k => ?_, fun id xver h hx => ?_, fun d h lo hi => ?_, fun d h out => ?_,
      fun lo hi held len => ?_, fun from_ since late => ?_, fun a w ha hw hg tap h => ?_, fun a w ha hw hg tap h k => ?_,
      fun a w ha hw hg tap h => ?_, fun a w ha hw hg tap h => ?_⟩
    · exact exec_blk (f := fun b => b.linkSignal p) rfl wf ((s.blk.linkSignal_eq hp).trans (if_pos ⟨h, k⟩))
    · exact exec_blk (f := fun b => b.linkAdapted p) rfl wf ((s.blk.linkAdapted_eq hp).trans (if_pos h))
    · exact exec_blk (f := fun b => b.linkAligned p) rfl wf ((s.blk.linkAligned_eq hp).trans (if_pos h))
    · exact exec_blk (f := fun b => b.identSend p) rfl wf ((s.blk.identSend_eq hp).trans (if_pos ⟨h, k⟩))
    · obtain ⟨node, port, version, valid, same, other, rest, memory⟩ := s.node.b.identReceive_shows id hp hx on h
      have wf : (Instr.identReceive p xver id).wf = true := by simp [Instr.wf, hp, hx]
      exact completes_of_blk (f := fun b => b.identReceive p xver id) rfl wf rfl ⟨node, port, version, valid, same, other, rest, memory.node⟩
    · have ok : (decide (0 ≤ d) && decide (d ≤ 1000000)) = true := by rw [decide_eq_true lo, decide_eq_true hi]; rfl
      obtain ⟨state, up, valid, -, values, rest, memory⟩ := Blk.measureDone_shows (b := s.node.b) d hp on h
      obtain ⟨delay, xoff, xon⟩ := values ok
      exact completes_of_blk (f := fun b => b.measureDone p d) rfl wf rfl ⟨state, up, valid.trans ok, delay, xoff, xon, rest, memory.node⟩
    · have bad : (decide (0 ≤ d) && decide (d ≤ 1000000)) = false := by
        rw [Bool.and_eq_false_iff, decide_eq_false_iff_not, decide_eq_false_iff_not]
        omega
      obtain ⟨state, -, valid, range, -⟩ := Blk.measureDone_shows (b := s.node.b) d hp on h
      exact completes_of_blk (f := fun b => b.measureDone p d) rfl wf rfl ⟨state, valid.trans bad, range bad⟩
    · obtain ⟨state, irq, failed, cause, backoff, rest, memory⟩ := Blk.trainTimeout_shows (b := s.node.b) hp on lo hi held len
      exact completes_of_blk (f := fun b => b.trainTimeout p) rfl wf rfl ⟨state, irq, failed, cause, backoff, rest, memory.node⟩
    · exact exec_blk (f := fun b => b.trainBackoffEnd p) rfl wf ((s.blk.trainBackoffEnd_eq p).1 from_ since late)
    all_goals
      subst hw
      have tap : bitAt (BitVec.toNat _) 2 = false := (bitAt_eq_testBit _ 2).trans tap
    · obtain ⟨trained, -, rest, memory⟩ := Blk.portOpened_shows (b := s.node.b) a hp on tap (s.node.b.bitAt_fieldWord _ _ true (by decide))
        (s.node.b.bitAt_fieldWord_none (regRow_portCtrl p hp) 1 (by decide) (by decide) (.inl (by decide)))
      obtain ⟨state, open_, irq⟩ := trained h
      exact completes_of_node (f := fun n => n.writeBits a (portPage p) 0x040 0 1 1) rfl (by simp [Instr.wf, ha, hp]) (Node.writeBits_portCtrl hp hg)
        ⟨state, open_, irq, rest, memory.node⟩
    · obtain ⟨-, stays, rest, memory⟩ := Blk.portOpened_shows (b := s.node.b) a hp on tap (s.node.b.bitAt_fieldWord _ _ true (by decide))
        (s.node.b.bitAt_fieldWord_none (regRow_portCtrl p hp) 1 (by decide) (by decide) (.inl (by decide)))
      obtain ⟨state, open_⟩ := stays h
      exact completes_of_node (f := fun n => n.writeBits a (portPage p) 0x040 0 1 1) rfl (by simp [Instr.wf, ha, hp]) (Node.writeBits_portCtrl hp hg)
        ⟨state, open_, rest, memory.node⟩
    · obtain ⟨down, -, memory⟩ := Blk.portRetrained_shows (b := s.node.b) a hp on tap (s.node.b.bitAt_fieldWord _ _ true (by decide))
      obtain ⟨state, open_, pause, count, irq, empty, rest⟩ := down h
      exact completes_of_node (f := fun n => n.writeBits a (portPage p) 0x040 1 1 1) rfl (by simp [Instr.wf, ha, hp]) (Node.writeBits_portCtrl hp hg)
        ⟨state, open_, pause, count, irq, empty, rest, memory.node⟩
    · obtain ⟨-, early, memory⟩ := Blk.portRetrained_shows (b := s.node.b) a hp on tap (s.node.b.bitAt_fieldWord _ _ true (by decide))
      obtain ⟨state, rest⟩ := early h
      exact completes_of_node (f := fun n => n.writeBits a (portPage p) 0x040 1 1 1) rfl (by simp [Instr.wf, ha, hp]) (Node.writeBits_portCtrl hp hg)
        ⟨state, rest, memory.node⟩

end Sys2Proof.Machine
end

section
/-! PROOFS. Packets at a port, pause and the link's loss (spec/11 R251, R253, R256 to R260, R268, R269, R274). -/

namespace Sys2Proof.Machine

/-! ### A packet that arrives -/

/-- What a packet does once its codewords and flits are counted. -/
def Blk.packetTaken (b : Blk) (a : Arrival) : Blk :=
  match (b.port a.port).arriving.find? (fun e => e.1.cls == a.sideCls) with
  | some e => if a.tail then (b.setPort a.port { b.port a.port with arriving := (b.port a.port).arriving.erase e }).tailArrives a e.2 else b
  | none =>
    let (fate, b) := b.headFate a
    if a.tail then b.tailArrives a fate
    else b.setPort a.port { b.port a.port with arriving := (b.port a.port).arriving ++ [({ a.pkt with cls := a.sideCls }, fate)] }

theorem Blk.packetReceive_steps (b : Blk) (a : Arrival) : b.packetReceive a =
    if 4 ≤ a.port || b.lstate a.port < lsIdent then b
    else
      (((b.addSat (XPORT.FEC_CORR a.port) a.corrected).addSat (XPORT.FEC_UNCORR a.port) a.uncorrectable).when a.tail (fun b =>
        b.addWide (XPORT.RX_FLITS_LO a.port) (XPORT.RX_FLITS_HI a.port) (flitsOf a.pkt))).packetTaken a := by
  unfold Blk.packetReceive
  rfl

theorem Blk.packetTaken_eq (b : Blk) (a : Arrival) :
    let arriving := (b.port a.port).arriving.find? (fun e => e.1.cls == a.sideCls)
    (∀ fate c, arriving = none → b.headFate a = (fate, c) → b.packetTaken a = if a.tail then c.tailArrives a fate
      else c.setPort a.port { c.port a.port with arriving := (c.port a.port).arriving ++ [({ a.pkt with cls := a.sideCls }, fate)] }) ∧
    (∀ e, arriving = some e → b.packetTaken a =
      if a.tail then (b.setPort a.port { b.port a.port with arriving := (b.port a.port).arriving.erase e }).tailArrives a e.2 else b) := by
  intro arriving
  unfold Blk.packetTaken
  refine ⟨fun fate c no head => ?_, fun e is => ?_⟩
  · rw [show (b.port a.port).arriving.find? (fun e => e.1.cls == a.sideCls) = none from no]
    dsimp only
    rw [head]
  · rw [show (b.port a.port).arriving.find? (fun e => e.1.cls == a.sideCls) = some e from is]

theorem Blk.addWide_port (b : Blk) (lo hi : Fld) (n p : Nat) : (b.addWide lo hi n).port p = b.port p := rfl

theorem Blk.addSat_port (b : Blk) (f : Fld) (n p : Nat) : (b.addSat f n).port p = b.port p := rfl

/-- A packet at a port, by the port's state, by what is under way there and by its tail. -/
theorem Blk.packetReceive_eq (b : Blk) {x : Arrival} (hp : x.port < 4) :
    let p := x.port
    let arriving := (b.port p).arriving.find? (fun e => e.1.cls == x.sideCls)
    let fec := (b.addSat (XPORT.FEC_CORR p) x.corrected).addSat (XPORT.FEC_UNCORR p) x.uncorrectable
    let flits := fec.addWide (XPORT.RX_FLITS_LO p) (XPORT.RX_FLITS_HI p) (flitsOf x.pkt)
    (b.lstate p < lsIdent → b.packetReceive x = b) ∧
    (lsIdent ≤ b.lstate p →
      (∀ fate c, arriving = none → x.tail = true → flits.headFate x = (fate, c) → b.packetReceive x = c.tailArrives x fate) ∧
      (∀ fate c, arriving = none → x.tail = false → fec.headFate x = (fate, c) →
        b.packetReceive x = c.setPort p { c.port p with arriving := (c.port p).arriving ++ [({ x.pkt with cls := x.sideCls }, fate)] }) ∧
      (∀ e, arriving = some e → x.tail = true →
        b.packetReceive x = (flits.setPort p { b.port p with arriving := (b.port p).arriving.erase e }).tailArrives x e.2) ∧
      (∀ e, arriving = some e → x.tail = false → b.packetReceive x = fec)) := by
  intro p arriving fec flits
  have portFec : fec.port p = b.port p := (Blk.addSat_port _ _ _ p).trans (Blk.addSat_port _ _ _ p)
  have portFlits : flits.port p = b.port p := (Blk.addWide_port _ _ _ _ p).trans portFec
  have steps := b.packetReceive_steps x
  refine ⟨fun low => steps.trans (if_pos (by rw [decide_eq_true low, Bool.or_true])), fun up => ?_⟩
  have pass : ¬(decide (4 ≤ x.port) || decide (b.lstate x.port < lsIdent)) = true := by
    rw [decide_eq_false (Nat.not_le.mpr hp), decide_eq_false (Nat.not_lt.mpr up)]
    decide
  have steps := steps.trans (if_neg pass)
  have withTail (tail : x.tail = true) : b.packetReceive x = flits.packetTaken x := by rw [steps, tail]; rfl
  have noTail (tail : x.tail = false) : b.packetReceive x = fec.packetTaken x := by rw [steps, tail]; rfl
  refine ⟨fun fate c no tail head => ?_, fun fate c no tail head => ?_, fun e is tail => ?_, fun e is tail => ?_⟩
  · have no : (flits.port x.port).arriving.find? (fun e => e.1.cls == x.sideCls) = none := by rw [portFlits]; exact no
    rw [withTail tail, (flits.packetTaken_eq x).1 fate c no head, if_pos tail]
  · have no : (fec.port x.port).arriving.find? (fun e => e.1.cls == x.sideCls) = none := by rw [portFec]; exact no
    rw [noTail tail, (fec.packetTaken_eq x).1 fate c no head, if_neg (by rw [tail]; decide)]
  · have is : (flits.port x.port).arriving.find? (fun e => e.1.cls == x.sideCls) = some e := by rw [portFlits]; exact is
    rw [withTail tail, (flits.packetTaken_eq x).2 e is, if_pos tail, portFlits]
  · have is : (fec.port x.port).arriving.find? (fun e => e.1.cls == x.sideCls) = some e := by rw [portFec]; exact is
    rw [noTail tail, (fec.packetTaken_eq x).2 e is, if_neg (by rw [tail]; decide)]

theorem Blk.headFate_eq (b : Blk) (x : Arrival) :
    let p := x.port
    let k := x.pkt
    let self := k.dst = b.get XROUTE.NODE_ID
    (headerFails x = true → b.headFate x = (5, b.countHeader p)) ∧
    (headerFails x = false → b.carries p k = false → b.headFate x = (5, b)) ∧
    (headerFails x = false → b.carries p k = true →
      (k.loc = true → b.headFate x = (4, b)) ∧
      (k.loc = false → b.active Page.XROUTE = false → b.headFate x = (6, b)) ∧
      (k.loc = false → b.active Page.XROUTE = true →
        (self → b.headFate x = (4, b)) ∧
        (∀ e, ¬self → b.routeOf p k = .inl e → b.headFate x = (e, b)) ∧
        (∀ d, ¬self → b.routeOf p k = .inr d → b.headFate x = (5, b.dropPacket d k.dst)))) := by
  intro p k self
  unfold Blk.headFate
  refine ⟨fun bad => if_pos bad, fun good no => ?_, fun good carried => ?_⟩
  · exact (if_neg (by rw [good]; decide)).trans (if_pos (by rw [no]; rfl))
  · rw [if_neg (by rw [good]; decide), if_neg (by rw [carried]; decide)]
    refine ⟨fun here => if_pos here, fun away off => ?_, fun away on => ?_⟩
    · exact (if_neg (by rw [away]; decide)).trans (if_pos (by rw [off]; rfl))
    · rw [if_neg (by rw [away]; decide), if_neg (by rw [on]; decide)]
      refine ⟨fun own => if_pos (beq_iff_eq.mpr own), fun e other route => ?_, fun d other route => ?_⟩
      · rw [if_neg (mt beq_iff_eq.mp other), route]
      · rw [if_neg (mt beq_iff_eq.mp other), route]

theorem Blk.tailArrives_eq (b : Blk) (x : Arrival) (fate : Nat) :
    let p := x.port
    let k := x.pkt
    let state := crcState k x.badLater
    let seen := b.countCrc p state
    b.tailArrives x 5 = b ∧
    (state ≠ 0 → b.tailArrives x 4 = seen) ∧ (state = 0 → b.tailArrives x 4 = seen.deliver (some p) k x.offset) ∧
    (fate < 4 → b.tailArrives x fate = if seen.portTakes fate k = true then seen.sendOn fate p k state else seen.dropPacket 1 k.dst) ∧
    b.tailArrives x 6 = ({ seen with route := { seen.route with
      held := seen.route.held ++ [(some p, if state = 0 then k else stomp (sealed k))] } } : Blk).updatePause := by
  intro p k state seen
  refine ⟨rfl, fun bad => ?_, fun good => ?_, fun out => ?_, ?_⟩
  · unfold Blk.tailArrives
    exact (if_neg (by decide)).trans ((if_pos (by decide)).trans (if_neg (mt beq_iff_eq.mp bad)))
  · unfold Blk.tailArrives
    exact (if_neg (by decide)).trans ((if_pos (by decide)).trans (if_pos (beq_iff_eq.mpr good)))
  · unfold Blk.tailArrives
    exact (if_neg (fun no => absurd (beq_iff_eq.mp no) (by omega))).trans ((if_neg (fun no => absurd (beq_iff_eq.mp no) (by omega))).trans
      (if_neg (fun no => absurd (beq_iff_eq.mp no) (by omega))))
  · unfold Blk.tailArrives
    have kept : (if (crcState x.pkt x.badLater == 0) = true then x.pkt else stomp (sealed x.pkt)) =
        if crcState x.pkt x.badLater = 0 then x.pkt else stomp (sealed x.pkt) := by
      simp only [beq_iff_eq]
    refine (if_neg (by decide)).trans ((if_neg (by decide)).trans ((if_pos (by decide)).trans ?_))
    dsimp only
    rw [kept]

/-! ### Routing -/

theorem Blk.forward_eq (b : Blk) (from_ : Nat) (k : Packet) (state : Nat) :
    let e := b.rtEntry k.dst
    b.forward from_ k state =
      if 4 ≤ e then b.dropPacket 0 k.dst else if b.portTakes e k = false then b.dropPacket 1 k.dst
      else if from_ = e then b.dropPacket 2 k.dst else if b.hopLimit < k.hops + 1 then b.dropPacket 3 k.dst
      else b.sendOn e from_ k state := by
  intro e
  by_cases none_ : 4 ≤ e
  · have route : b.routeOf from_ k = .inr 0 := if_pos none_
    rw [Blk.forward, route, if_pos none_]
  by_cases down : b.portTakes e k = false
  · have route : b.routeOf from_ k = .inr 1 := (if_neg none_).trans (if_pos (by rw [down]; rfl))
    rw [Blk.forward, route, if_neg none_, if_pos down]
  have takes : ¬(!b.portTakes e k) = true := by rw [Bool.not_eq_true', Bool.not_eq_false]; simpa using down
  by_cases back : from_ = e
  · have route : b.routeOf from_ k = .inr 2 := (if_neg none_).trans ((if_neg takes).trans (if_pos (beq_iff_eq.mpr back)))
    rw [Blk.forward, route, if_neg none_, if_neg down, if_pos back]
  by_cases far : b.hopLimit < k.hops + 1
  · have route : b.routeOf from_ k = .inr 3 :=
      (if_neg none_).trans ((if_neg takes).trans ((if_neg (mt beq_iff_eq.mp back)).trans (if_pos far)))
    rw [Blk.forward, route, if_neg none_, if_neg down, if_neg back, if_pos far]
  · have route : b.routeOf from_ k = .inl e :=
      (if_neg none_).trans ((if_neg takes).trans ((if_neg (mt beq_iff_eq.mp back)).trans (if_neg far)))
    rw [Blk.forward, route, if_neg none_, if_neg down, if_neg back, if_neg far]

/-- A drop by its case. -/
theorem Blk.dropPacket_cases (b : Blk) (dst : Nat) :
    let drop := fun (f : Fld) (case_ : Nat) => ((b.bumpSat f).raise XROUTE.IRQ_RAW_DROP).captureOwn Page.XROUTE 0x05 (dst % 256 + 256 * case_)
    b.dropPacket 0 dst = drop XROUTE.DROP_NOROUTE 0 ∧ b.dropPacket 1 dst = drop XROUTE.DROP_PORTDOWN 1 ∧
    b.dropPacket 2 dst = drop XROUTE.DROP_UTURN 2 ∧ b.dropPacket 3 dst = drop XROUTE.DROP_HOPS 3 :=
  ⟨rfl, rfl, rfl, rfl⟩

theorem Blk.portTakes_eq (b : Blk) (e : Nat) (k : Packet) : b.portTakes e k =
    ((if k.cls = 0 ∧ k.type = 0x44 then b.trained e else b.portOpen e) && !b.flag (XPORT.STATUS_TAP_MODE e)) := by
  unfold Blk.portTakes
  simp only [Bool.and_eq_true, beq_iff_eq]

/-! ### Sending -/

/-- The packet that leaves: one hop more, its check values formed, stomped when it came in with a CRC that fails. -/
def outPacket (k : Packet) (state : Nat) : Packet :=
  if state = 0 then sealed { k with hops := k.hops + 1 } else stomp (sealed { k with hops := k.hops + 1 })

theorem outPacket_keeps (k : Packet) (state : Nat) :
    (outPacket k state).cls = k.cls ∧ (outPacket k state).type = k.type ∧ flitsOf (outPacket k state) = flitsOf k := by
  unfold outPacket
  split <;> exact ⟨rfl, rfl, rfl⟩

theorem Blk.sendOn_eq (b : Blk) (p from_ : Nat) (k : Packet) (state : Nat) :
    (b.mayStart p k.cls = true → b.sendOn p from_ k state = b.putOut p (outPacket k state)) ∧
    (b.mayStart p k.cls = false → b.sendOn p from_ k state =
      (b.setPort p { b.port p with waiting := (b.port p).waiting ++ [(from_, outPacket k state)] }).updatePause) := by
  have out : (if (state == 0) = true then sealed { k with hops := k.hops + 1 } else stomp (sealed { k with hops := k.hops + 1 })) = outPacket k state := by
    unfold outPacket
    simp only [beq_iff_eq]
  unfold Blk.sendOn
  dsimp only
  rw [out]
  exact ⟨fun may => if_pos may, fun no => if_neg (by rw [no]; decide)⟩

/-- The sideband of a packet that is no beat. -/
theorem Blk.sidebands_plain (b : Blk) (p : Nat) {k : Packet} (h : k.type ≠ 0x40) : b.sidebands p k =
    ((List.range (flitsOf k)).map (fun i => ⟨k.cls, i == 0, i + 1 == flitsOf k, b.get (XPORT.STATUS_PAUSE_RX p), 0⟩), b) := by
  have no : (k.type == 0x40) = false := by simpa using h
  unfold Blk.sidebands
  rw [no]
  rfl

theorem Blk.putOut_eq (b : Blk) (p : Nat) (k : Packet) : b.putOut p k =
    let s := (b.addWide (XPORT.TX_FLITS_LO p) (XPORT.TX_FLITS_HI p) (flitsOf k)).sidebands p k
    s.2.emit (.packet p k s.1) := rfl

theorem Blk.sidebands_sent (b : Blk) (p : Nat) (k : Packet) : (b.sidebands p k).2.sent = b.sent := by
  unfold Blk.sidebands
  split
  · next free =>
    split at free <;> cases free <;> rfl

/-- A packet that leaves is put out. -/
theorem Blk.putOut_sent (b : Blk) (p : Nat) (k : Packet) : ∃ side, (b.putOut p k).sent = b.sent ++ [.packet p k side] := by
  have kept := (b.addWide (XPORT.TX_FLITS_LO p) (XPORT.TX_FLITS_HI p) (flitsOf k)).sidebands_sent p k
  refine ⟨((b.addWide (XPORT.TX_FLITS_LO p) (XPORT.TX_FLITS_HI p) (flitsOf k)).sidebands p k).1, ?_⟩
  rw [b.putOut_eq]
  exact congrArg (· ++ [_]) kept

theorem Blk.sidebands_ports (b : Blk) (p : Nat) (k : Packet) : (b.sidebands p k).2.ports = b.ports := by
  unfold Blk.sidebands
  split
  · next free =>
    split at free <;> cases free <;> rfl

theorem Blk.putOut_ports (b : Blk) (p : Nat) (k : Packet) : (b.putOut p k).ports = b.ports := by
  rw [b.putOut_eq]
  exact Blk.sidebands_ports _ p k

/-! ### Check values -/

theorem goodCrc_withCrc (k : Packet) (c : Nat) : goodCrc { k with crc := c } = goodCrc k := rfl

theorem goodCrc_lt (k : Packet) : goodCrc k < 2 ^ 32 := (crc32c (crcBytes k)).isLt

/-- A sealed packet's CRC is good, and one that is stomped shows it. -/
theorem sealed_shows (k : Packet) :
    crcState (sealed k) false = 0 ∧ crcState (stomp (sealed k)) false = 2 ∧ (sealed k).hcrc = goodHcrc (sealed k) := by
  obtain ⟨p, hp⟩ : ∃ p : Packet, { k with hcrc := goodHcrc k } = p := ⟨_, rfl⟩
  have made : sealed k = { p with crc := goodCrc p } := by rw [← hp]; rfl
  have lt := goodCrc_lt p
  rw [made]
  refine ⟨?_, ?_, ?_⟩
  · have good : goodCrc { p with crc := goodCrc p } = goodCrc p := goodCrc_withCrc p _
    unfold crcState
    rw [good]
    simp
  · have good : goodCrc (stomp { p with crc := goodCrc p }) = goodCrc p := goodCrc_withCrc p _
    have value : (stomp { p with crc := goodCrc p }).crc = 0xFFFFFFFF - goodCrc p := rfl
    unfold crcState
    rw [good, value]
    have ne : ¬0xFFFFFFFF - goodCrc p = goodCrc p := by omega
    simp [ne]
  · rw [← hp]
    rfl

/-! ### What waits leaves -/

/-- What a port's packets leave in place: whether each class may start goes by fields that sending leaves. -/
theorem Blk.mayStart_congr {b b' : Blk} {p : Nat} (c : Nat) (pause : b'.get (XPORT.STATUS_PAUSE_TX p) = b.get (XPORT.STATUS_PAUSE_TX p))
    (frozen : b'.flag (hFrozen (portPage p)) = b.flag (hFrozen (portPage p))) : b'.mayStart p c = b.mayStart p c := by
  simp only [Blk.mayStart, Blk.classPaused, pause, frozen]

/-- The packets of a port that may start. -/
def Blk.ready (b : Blk) (p : Nat) : List (Nat × Packet) := (b.port p).waiting.filter (fun e => b.mayStart p e.2.cls)

theorem foldl_pick_mem (f : Nat → Nat → Bool) (l : List Nat) {x : Nat} {all : List Nat} (hx : x ∈ all) (hl : ∀ c ∈ l, c ∈ all) :
    l.foldl (fun best c => if f c best then c else best) x ∈ all := by
  induction l generalizing x with
  | nil => exact hx
  | cons c cs ih =>
    rw [List.foldl_cons]
    refine ih ?_ (fun d hd => hl d (List.mem_cons_of_mem _ hd))
    split
    · exact hl c (List.mem_cons_self ..)
    · exact hx

/-- The class that goes next has a packet that may start. -/
theorem Blk.nextClass_has (b : Blk) (p : Nat) (o : OutShare) {ready : List (Nat × Packet)} (some_ : ready ≠ []) (classes : ∀ e ∈ ready, e.2.cls < 4) :
    ∃ e ∈ ready, e.2.cls = b.nextClass p o ready := by
  obtain ⟨others, ho⟩ : ∃ l, [1, 2, 3].filter (fun c => ready.any (fun e => e.2.cls == c)) = l := ⟨_, rfl⟩
  have has {c : Nat} (h : ready.any (fun e => e.2.cls == c) = true) : ∃ e ∈ ready, e.2.cls = c := by
    simpa using h
  unfold Blk.nextClass
  dsimp only
  rw [ho]
  split
  · next first =>
    rw [Bool.and_eq_true] at first
    exact has first.1
  · next rest =>
    have nonempty : others ≠ [] := by
      intro none_
      obtain ⟨e, es, rfl⟩ := List.exists_cons_of_ne_nil some_
      have lt := classes e (List.mem_cons_self ..)
      by_cases zero : e.2.cls = 0
      · refine rest ?_
        rw [none_]
        simp [zero]
      · have mem : e.2.cls ∈ others := by
          rw [← ho, List.mem_filter]
          refine ⟨?_, by simp⟩
          simp only [List.mem_cons, List.not_mem_nil, or_false]
          omega
        rw [none_] at mem
        cases mem
    obtain ⟨c, cs, hc⟩ := List.exists_cons_of_ne_nil nonempty
    have mem := foldl_pick_mem
      (fun x y => decide (nth o.flits x 0 * b.classWeight p y < nth o.flits y 0 * b.classWeight p x)) others (x := others.headD 0) (all := others)
      (by rw [hc]; exact List.mem_cons_self ..) (fun _ h => h)
    obtain ⟨d, hd⟩ : ∃ d, others.foldl (fun best c =>
      if decide (nth o.flits c 0 * b.classWeight p best < nth o.flits best 0 * b.classWeight p c) = true then c else best) (others.headD 0) = d := ⟨_, rfl⟩
    rw [hd] at mem
    rw [← ho, List.mem_filter] at mem
    obtain ⟨e, he, same⟩ := has mem.2
    refine ⟨e, he, same.trans ?_⟩
    rw [← hd]
    simp only [decide_eq_true_eq]

/-- Some packet of the class goes next, and it is one of those that may start. -/
theorem nextPacket_some (o : OutShare) {c : Nat} {ready : List (Nat × Packet)} (inputs : ∀ e ∈ ready, e.1 ≤ 4) (has : ∃ e ∈ ready, e.2.cls = c) :
    ∃ e ∈ ready, nextPacket o c ready = some e := by
  obtain ⟨e, he, same⟩ := has
  have lt := inputs e he
  have mine : e ∈ ready.filter (fun e => e.2.cls == c) := List.mem_filter.mpr ⟨he, beq_iff_eq.mpr same⟩
  obtain ⟨turn, ht⟩ : ∃ t, nth o.turn c 4 = t := ⟨_, rfl⟩
  have input : e.1 ∈ (List.range 5).map (fun i => (turn + 1 + i) % 5) := by
    rw [List.mem_map]
    refine ⟨(e.1 + 9 - turn % 5) % 5, List.mem_range.mpr (Nat.mod_lt _ (by decide)), ?_⟩
    omega
  have found : ∃ x, ((List.range 5).map (fun i => (turn + 1 + i) % 5)).filterMap
      (fun i => (ready.filter (fun e => e.2.cls == c)).find? (fun e => e.1 == i)) = x ∧ x ≠ [] := by
    refine ⟨_, rfl, fun none_ => ?_⟩
    rw [List.filterMap_eq_nil_iff] at none_
    have no := none_ _ input
    rw [List.find?_eq_none] at no
    exact no e mine (beq_self_eq_true _)
  obtain ⟨x, hx, nonempty⟩ := found
  obtain ⟨y, ys, hy⟩ := List.exists_cons_of_ne_nil nonempty
  refine ⟨y, ?_, ?_⟩
  · have mem : y ∈ x := by rw [hy]; exact List.mem_cons_self ..
    rw [← hx, List.mem_filterMap] at mem
    obtain ⟨i, -, find⟩ := mem
    exact (List.mem_filter.mp (List.mem_of_find?_eq_some find)).1
  · unfold nextPacket
    dsimp only
    rw [ht, hx, hy]
    rfl

theorem nextPacket_nil (o : OutShare) (c : Nat) : nextPacket o c [] = none := by
  unfold nextPacket
  dsimp only
  rw [List.head?_eq_none_iff, List.filterMap_eq_nil_iff]
  exact fun i _ => rfl

/-- One packet leaves the waiting list. -/
def Blk.leaveNow (b : Blk) (p : Nat) (e : Nat × Packet) : Blk :=
  (b.setPort p { b.port p with waiting := (b.port p).waiting.erase e }).putOut p e.2

theorem Blk.leaveNow_shows (b : Blk) {p : Nat} (e : Nat × Packet) (hp : p < 4) (len : p < b.ports.length) :
    let t := b.leaveNow p e
    Blk.besideSends [p] portPages b t ∧ (t.port p).waiting = (b.port p).waiting.erase e ∧ t.ports.length = b.ports.length ∧
    ∃ side, t.sent = b.sent ++ [.packet p e.2 side] := by
  intro t
  obtain ⟨x, hx⟩ : ∃ x, b.setPort p { b.port p with waiting := (b.port p).waiting.erase e } = x := ⟨_, rfl⟩
  have moved : Blk.besideSends [p] portPages b x := by
    rw [← hx]
    exact b.besideSends_setPort _ (List.mem_singleton.mpr rfl)
  have waits : (x.port p).waiting = (b.port p).waiting.erase e := by
    rw [← hx]
    show (nth (setNth b.ports p _) p noPort).waiting = _
    rw [nth, setNth, List.getElem?_set_self len]
    rfl
  have length : x.ports.length = b.ports.length := by
    rw [← hx]
    exact List.length_set ..
  have sent : x.sent = b.sent := by rw [← hx]; rfl
  have effect : t = x.putOut p e.2 := by rw [← hx]; rfl
  have out := x.besideSends_putOut hp e.2
  have ports : (x.putOut p e.2).ports = x.ports := Blk.putOut_ports x p e.2
  obtain ⟨side, put⟩ := x.putOut_sent p e.2
  rw [effect]
  refine ⟨moved.trans (out.mono (by simp) (fun _ h => h)), ?_, by rw [ports, length], side, by rw [put, sent]⟩
  rw [out.port p (by simp), waits]

/-- While something may start and there are turns left, it leaves: what stays are the packets that may not. -/
theorem Blk.drainOut_shows {p : Nat} (hp : p < 4) : ∀ (fuel : Nat) (b : Blk) (o : OutShare), p < b.ports.length →
    (∀ e ∈ (b.port p).waiting, e.1 ≤ 4 ∧ e.2.cls < 4) → (b.ready p).length ≤ fuel →
    let t := Blk.drainOut fuel b p o
    Blk.besideSends [p] portPages b t ∧ (t.port p).waiting = (b.port p).waiting.filter (fun e => !b.mayStart p e.2.cls) ∧
    (∀ e ∈ b.sent, e ∈ t.sent) ∧ (∀ e ∈ (b.port p).waiting, b.mayStart p e.2.cls = true → ∃ side, .packet p e.2 side ∈ t.sent) := by
  have stays {b : Blk} (none_ : b.ready p = []) : (b.port p).waiting = (b.port p).waiting.filter (fun e => !b.mayStart p e.2.cls) ∧
      (∀ e ∈ (b.port p).waiting, b.mayStart p e.2.cls = true → ∃ side, (OutEvent.packet p e.2 side) ∈ b.sent) := by
    have no : ∀ e ∈ (b.port p).waiting, ¬b.mayStart p e.2.cls = true := List.filter_eq_nil_iff.mp none_
    refine ⟨(List.filter_eq_self.mpr (fun e he => ?_)).symm, fun e he yes => absurd yes (no e he)⟩
    simpa using no e he
  intro fuel
  induction fuel with
  | zero =>
    intro b o _ _ few
    have none_ : b.ready p = [] := List.length_eq_zero_iff.mp (Nat.le_zero.mp few)
    obtain ⟨same, sent⟩ := stays none_
    exact ⟨b.besideSends_refl _ _, same, fun _ h => h, sent⟩
  | succ fuel ih =>
    intro b o len entries few
    have steps : Blk.drainOut (fuel + 1) b p o = match nextPacket o (b.nextClass p o (b.ready p)) (b.ready p) with
        | none => b
        | some e => Blk.drainOut fuel (b.leaveNow p e) p ⟨if (b.nextClass p o (b.ready p)) == 0 && e.2.type != 0x40 then 0 else o.since0 + flitsOf e.2,
          setNth o.flits (b.nextClass p o (b.ready p)) (nth o.flits (b.nextClass p o (b.ready p)) 0 + flitsOf e.2),
          setNth o.turn (b.nextClass p o (b.ready p)) e.1⟩ := rfl
    by_cases none_ : b.ready p = []
    · rw [steps, none_, nextPacket_nil]
      obtain ⟨same, sent⟩ := stays none_
      exact ⟨b.besideSends_refl _ _, same, fun _ h => h, sent⟩
    · have entriesReady : ∀ e ∈ b.ready p, e.1 ≤ 4 ∧ e.2.cls < 4 := fun e he => entries e (List.mem_filter.mp he).1
      obtain ⟨e, he, next⟩ := nextPacket_some o (fun e he => (entriesReady e he).1)
        (b.nextClass_has p o none_ (fun e he => (entriesReady e he).2))
      rw [steps, next]
      obtain ⟨o', ho⟩ : ∃ o', (⟨if (b.nextClass p o (b.ready p)) == 0 && e.2.type != 0x40 then 0 else o.since0 + flitsOf e.2,
          setNth o.flits (b.nextClass p o (b.ready p)) (nth o.flits (b.nextClass p o (b.ready p)) 0 + flitsOf e.2),
          setNth o.turn (b.nextClass p o (b.ready p)) e.1⟩ : OutShare) = o' := ⟨_, rfl⟩
      dsimp only
      rw [ho]
      obtain ⟨beside, waits, length, side, sent⟩ := b.leaveNow_shows e hp len
      obtain ⟨x, hx⟩ : ∃ x, b.leaveNow p e = x := ⟨_, rfl⟩
      rw [hx] at beside waits length sent
      rw [hx]
      have may (c : Nat) : x.mayStart p c = b.mayStart p c := Blk.mayStart_congr c
        (beside.get _ ((by decide : ∀ p < 4, (XPORT.STATUS_PAUSE_TX p).sendsLeave = true) p hp))
        (beside.flag ((by decide : ∀ p < 4, (hFrozen (portPage p)).sendsLeave = true) p hp))
      obtain ⟨mem, starts⟩ := List.mem_filter.mp he
      have sub : ∀ f ∈ (x.port p).waiting, f ∈ (b.port p).waiting := fun f hf => List.mem_of_mem_erase (by rwa [waits] at hf)
      have ready : x.ready p = (b.ready p).erase e := by
        unfold Blk.ready
        simp only [may, waits]
        exact (List.erase_filter ..).symm
      have fewer : (x.ready p).length ≤ fuel := by
        rw [ready, List.length_erase_of_mem he]
        omega
      obtain ⟨beside', same, kept, gone⟩ := ih x o' (length ▸ len) (fun f hf => entries f (sub f hf)) fewer
      refine ⟨beside.trans beside', ?_, fun f hf => kept f ?_, fun f hf yes => ?_⟩
      · rw [same]
        simp only [may, waits]
        rw [← List.erase_filter]
        refine List.erase_of_not_mem (fun no => ?_)
        have := (List.mem_filter.mp no).2
        rw [starts] at this
        cases this
      · rw [sent]
        exact List.mem_append_left _ hf
      · by_cases same' : f = e
        · subst same'
          exact ⟨side, kept _ (by rw [sent]; exact List.mem_append_right _ (List.mem_singleton.mpr rfl))⟩
        · refine gone f ?_ ((may _).trans yes)
          rw [waits]
          exact (List.mem_erase_of_ne same').mpr hf

theorem Blk.mem_emit {b : Blk} {e : OutEvent} (x : OutEvent) (h : e ∈ b.sent) : e ∈ (b.emit x).sent := List.mem_append_left _ h

theorem Blk.updatePause_sent (b : Blk) : ∀ e ∈ b.sent, e ∈ b.updatePause.sent := by
  have step : ∀ (l : List Nat) (b : Blk), ∀ e ∈ b.sent, e ∈ (b.each l (fun b p =>
    if b.trained p then
      let was := b.get (XPORT.STATUS_PAUSE_RX p)
      let bits := maskOf 4 (fun c =>
        let n := b.buffered p c
        b.get (XPORT.PAUSE_THR_XOFF p) ≤ n || (bitAt was c && b.get (XPORT.PAUSE_THR_XON p) < n))
      if bits == was then b else (b.set (XPORT.STATUS_PAUSE_RX p) bits).emit (.pause p bits)
    else b)).sent := by
    intro l
    induction l with
    | nil => exact fun b e he => he
    | cons p ps ih =>
      intro b e he
      rw [Blk.each_cons]
      refine ih _ e ?_
      split
      · dsimp only
        split
        · exact he
        · exact Blk.mem_emit _ (by rw [Blk.set_sent]; exact he)
      · exact he
  exact step _ b

/-- What waits at a port leaves as far as it may. -/
theorem Blk.drainPort_shows (b : Blk) {p : Nat} (hp : p < 4) (len : p < b.ports.length) (entries : ∀ e ∈ (b.port p).waiting, e.1 ≤ 4 ∧ e.2.cls < 4) :
    let t := b.drainPort p
    Blk.besideSends [p] portPages b t ∧ (t.port p).waiting = (b.port p).waiting.filter (fun e => !b.mayStart p e.2.cls) ∧
    (∀ e ∈ (b.port p).waiting, b.mayStart p e.2.cls = true → ∃ side, .packet p e.2 side ∈ t.sent) := by
  intro t
  obtain ⟨beside, waits, -, gone⟩ := Blk.drainOut_shows hp (b.port p).waiting.length b ⟨15, [0, 0, 0, 0], [4, 4, 4, 4]⟩ len entries
    (List.length_filter_le _ _)
  obtain ⟨x, hx⟩ : ∃ x, Blk.drainOut (b.port p).waiting.length b p ⟨15, [0, 0, 0, 0], [4, 4, 4, 4]⟩ = x := ⟨_, rfl⟩
  rw [hx] at beside waits gone
  have effect : t = x.updatePause := by rw [← hx]; rfl
  have paused := x.besideSends_updatePause
  rw [effect]
  refine ⟨beside.trans (paused.mono (by simp) (fun _ h => h)), ?_, fun e he may => ?_⟩
  · rw [paused.port p (by simp), waits]
  · obtain ⟨side, sent⟩ := gone e he may
    exact ⟨side, x.updatePause_sent _ sent⟩

/-! ### Pause -/

/-- The PAUSE bit as the partner has it, and since when. -/
def Blk.pauseNoted (b : Blk) (p c : Nat) (on : Bool) : Blk :=
  let b := b.set (XPORT.STATUS_PAUSE_TX p) (putBits (b.get (XPORT.STATUS_PAUSE_TX p)) c 1 (bitNat on))
  let x := b.port p
  let x := { x with pausedAt := setNth x.pausedAt c (if on then some b.ep.line else none), warned := setNth x.warned c false }
  let b := b.setPort p x
  if x.warned.contains true then b else b.set (XPORT.STATUS_PAUSE_LONG p) 0

theorem Blk.pauseBit_steps (b : Blk) (p c : Nat) (on : Bool) : b.pauseBit p c on =
    if p < 4 && c < 4 && b.trained p && b.classPaused p c != on then (b.pauseNoted p c on).drainPort p else b := by
  unfold Blk.pauseBit
  rfl

theorem Blk.pauseBit_eq (b : Blk) {p c : Nat} (on : Bool) (hp : p < 4) (hc : c < 4) :
    (b.trained p = false ∨ b.classPaused p c = on → b.pauseBit p c on = b) ∧
    (b.trained p = true → b.classPaused p c ≠ on → b.pauseBit p c on = (b.pauseNoted p c on).drainPort p) := by
  have test : (decide (p < 4) && decide (c < 4) && b.trained p && b.classPaused p c != on) = true ↔ b.trained p = true ∧ b.classPaused p c ≠ on := by
    simp only [decide_eq_true hp, decide_eq_true hc, Bool.true_and, Bool.and_eq_true, bne_iff_ne]
  rw [b.pauseBit_steps]
  refine ⟨fun no => if_neg (fun yes => ?_), fun up ne => if_pos (test.mpr ⟨up, ne⟩)⟩
  obtain ⟨up, ne⟩ := test.mp yes
  exact no.elim (fun down => absurd (up.symm.trans down) (by decide)) ne

/-- The bits of a field one of whose bits is written. -/
theorem bitAt_putBits (n : Nat) {c d w : Nat} (on : Bool) (hd : d < w) :
    bitAt (putBits n c 1 (bitNat on) % 2 ^ w) d = if d = c then on else bitAt n d := by
  have inside : bitsAt (putBits n c 1 (bitNat on) % 2 ^ w) d 1 = bitsAt (putBits n c 1 (bitNat on)) d 1 := by
    obtain ⟨k, rfl⟩ := Nat.exists_eq_add_of_lt hd
    simp only [bitsAt, Nat.shiftRight_eq_div_pow]
    rw [show d + k + 1 = d + (1 + k) by omega, pow_add, Nat.mod_mul_right_div_self, pow_add, Nat.mod_mul_right_mod]
  rw [bitAt, inside]
  split
  · next same =>
    subst same
    rw [bitsAt_putBits_same]
    cases on <;> rfl
  · next ne =>
    rw [bitsAt_putBits_ne _ _ _ _ _ _ (by omega)]
    rfl

theorem Blk.pauseNoted_shows (b : Blk) {p c : Nat} (on : Bool) (hp : p < 4) (len : p < b.ports.length) :
    let t := b.pauseNoted p c on
    (∀ d < 4, t.classPaused p d = if d = c then on else b.classPaused p d) ∧ (t.port p).waiting = (b.port p).waiting ∧
    t.ports.length = b.ports.length ∧ b.keepsOtherPages t portPages ∧ b.keepsMemory t := by
  intro t
  have facts := (by decide : ∀ p < 4, pageOf (XPORT.STATUS_PAUSE_TX p).key ∈ portPages ∧
    (XPORT.STATUS_PAUSE_TX p).clearOf (XPORT.STATUS_PAUSE_LONG p) = true) p hp
  obtain ⟨x, hx⟩ : ∃ x, b.set (XPORT.STATUS_PAUSE_TX p) (putBits (b.get (XPORT.STATUS_PAUSE_TX p)) c 1 (bitNat on)) = x := ⟨_, rfl⟩
  have bits : x.get (XPORT.STATUS_PAUSE_TX p) = putBits (b.get (XPORT.STATUS_PAUSE_TX p)) c 1 (bitNat on) % 2 ^ 4 := by
    rw [← hx]
    exact b.get_set_same (XPORT.STATUS_PAUSE_TX p) _ (show 21 + 4 ≤ 32 by decide)
  have pages : b.keepsOtherPages x portPages := by rw [← hx]; exact (b.keepsOtherPages_refl _).set _ facts.1
  have behind : b.keepsBehind x := by rw [← hx]; exact b.keepsBehind_set _ _
  have ports : x.ports = b.ports := behind.proj (·.ports) (fun _ _ _ _ _ => rfl)
  obtain ⟨pt, hpt⟩ : ∃ pt : PortSt, { x.port p with
    pausedAt := setNth (x.port p).pausedAt c (if on then some x.ep.line else none), warned := setNth (x.port p).warned c false } = pt := ⟨_, rfl⟩
  have waitsPt : pt.waiting = (b.port p).waiting := by
    have port : x.port p = b.port p := congrArg (fun l => nth l p noPort) ports
    rw [← hpt]
    exact congrArg (·.waiting) port
  obtain ⟨y, hy⟩ : ∃ y, x.setPort p pt = y := ⟨_, rfl⟩
  have regs : y.regs = x.regs := congrArg (·.regs) hy.symm
  have memory : x.keepsMemory y := by rw [← hy]; exact x.keepsMemory_refl
  have waits : (y.port p).waiting = (b.port p).waiting := by
    rw [← hy]
    show (nth (setNth x.ports p pt) p noPort).waiting = _
    rw [nth, setNth, List.getElem?_set_self (ports ▸ len)]
    exact waitsPt
  have length : y.ports.length = b.ports.length := by
    rw [← hy, ← ports]
    exact List.length_set ..
  have effect : t = if pt.warned.contains true then y else y.set (XPORT.STATUS_PAUSE_LONG p) 0 := by rw [← hy, ← hpt, ← hx]; rfl
  have ends : t.get (XPORT.STATUS_PAUSE_TX p) = y.get (XPORT.STATUS_PAUSE_TX p) ∧ t.ports = y.ports ∧ y.keepsOtherPages t portPages ∧ y.keepsMemory t := by
    rw [effect]
    split
    · exact ⟨rfl, rfl, y.keepsOtherPages_refl _, y.keepsMemory_refl⟩
    · exact ⟨y.get_set_clear 0 facts.2, Blk.set_ports _ _ _, (y.keepsOtherPages_refl _).set (f := XPORT.STATUS_PAUSE_LONG p) 0 facts.1,
        (y.keepsBehind_set (XPORT.STATUS_PAUSE_LONG p) 0).memory⟩
  obtain ⟨same, ports', pages', memory'⟩ := ends
  have words : x.keepsOtherPages y portPages := fun k _ => congrArg (fun r => Tbl.get regReset r k) regs
  refine ⟨fun d hd => ?_, ?_, (congrArg List.length ports').trans length, pages.trans (words.trans pages'),
    behind.memory.trans (memory.trans memory')⟩
  · show bitAt (t.get (XPORT.STATUS_PAUSE_TX p)) d = _
    rw [same, Blk.get_of_regs_eq regs, bits, bitAt_putBits _ on hd]
    rfl
  · exact (congrArg (fun l => (nth l p noPort).waiting) ports').trans waits

/-- A PAUSE bit that changes, as it shows. -/
theorem Blk.pauseBit_shows {b : Blk} {p c : Nat} {on : Bool} (hp : p < 4) (hc : c < 4) (up : b.trained p = true) (ne : b.classPaused p c ≠ on)
    (len : p < b.ports.length) (entries : ∀ e ∈ (b.port p).waiting, e.1 ≤ 4 ∧ e.2.cls < 4) :
    let t := b.pauseBit p c on
    t.classPaused p c = on ∧ (∀ d, d < 4 → d ≠ c → t.classPaused p d = b.classPaused p d) ∧
    (t.port p).waiting = (b.port p).waiting.filter (fun e => !t.mayStart p e.2.cls) ∧
    (∀ e ∈ (b.port p).waiting, t.mayStart p e.2.cls = true → ∃ side, .packet p e.2 side ∈ t.sent) ∧
    b.keepsOtherPages t portPages ∧ b.keepsMemory t := by
  intro t
  have effect : t = (b.pauseNoted p c on).drainPort p := (b.pauseBit_eq on hp hc).2 up ne
  obtain ⟨paused, waits, length, pages, memory⟩ := b.pauseNoted_shows (c := c) on hp len
  obtain ⟨x, hx⟩ : ∃ x, b.pauseNoted p c on = x := ⟨_, rfl⟩
  rw [hx] at effect paused waits length pages memory
  obtain ⟨beside, stays, gone⟩ := x.drainPort_shows hp (length ▸ len) (fun e he => entries e (waits ▸ he))
  rw [← effect] at beside stays gone
  rw [waits] at stays gone
  have tx := beside.get _ ((by decide : ∀ p < 4, (XPORT.STATUS_PAUSE_TX p).sendsLeave = true) p hp)
  have class_ (d : Nat) : t.classPaused p d = x.classPaused p d := congrArg (fun v => bitAt v d) tx
  have may (k : Nat) : t.mayStart p k = x.mayStart p k := Blk.mayStart_congr k tx
    (beside.flag ((by decide : ∀ p < 4, (hFrozen (portPage p)).sendsLeave = true) p hp))
  simp only [← may] at stays gone
  refine ⟨?_, fun d hd other => ?_, stays, gone, pages.trans beside.words, memory.trans beside.memory⟩
  · rw [class_, paused c hc, if_pos rfl]
  · rw [class_, paused d hd, if_neg other]

theorem Blk.pauseLong_eq (b : Blk) {p : Nat} (c : Nat) (hp : p < 4) :
    let x := b.port p
    (∀ from_, nth x.pausedAt c none = some from_ → b.get (XPORT.PAUSE_WARN p) ≤ b.linesSince from_ → nth x.warned c false = false →
      b.pauseLong p c = ((((b.setPort p { x with warned := setNth x.warned c true }).set
        (XPORT.STATUS_PAUSE_LONG p) 1).raise (XPORT.IRQ_RAW_PAUSE_LONG p)).captureOwnFree (portPage p) 0x07).report 0x10 (portPage p)) ∧
    ((nth x.warned c false = true ∨ ∀ from_, nth x.pausedAt c none = some from_ → b.linesSince from_ < b.get (XPORT.PAUSE_WARN p)) →
      b.pauseLong p c = b) := by
  intro x
  unfold Blk.pauseLong
  dsimp only
  refine ⟨fun from_ since late first => ?_, fun no => ?_⟩
  · rw [show nth (b.port p).pausedAt c none = some from_ from since]
    dsimp only
    refine if_pos ?_
    rw [decide_eq_true hp, decide_eq_true late, show nth (b.port p).warned c false = false from first]
    rfl
  · split
    · next from_ since =>
      refine if_neg (fun yes => ?_)
      simp only [Bool.and_eq_true, decide_eq_true_eq, Bool.not_eq_true'] at yes
      obtain ⟨⟨-, late⟩, first⟩ := yes
      obtain warned | soon := no
      · exact absurd (first.symm.trans warned) (by decide)
      · exact absurd late (Nat.not_le.mpr (soon from_ since))
    · rfl

/-! ### The link's loss -/

theorem Blk.linkDown_eq (b : Blk) {p : Nat} (uncorr counted : Nat) (lockLost : Bool) (hp : p < 4) :
    let c := b.addSat (XPORT.FEC_UNCORR p) (uncorr - counted)
    (b.lstate p < lsIdent → b.linkDown p uncorr counted lockLost = b) ∧
    (lsIdent ≤ b.lstate p →
      (lockLost = false → uncorr ≤ c.get (XPORT.UNCORR_LIMIT p) → b.linkDown p uncorr counted lockLost = c) ∧
      (lockLost = true ∨ c.get (XPORT.UNCORR_LIMIT p) < uncorr → b.linkDown p uncorr counted lockLost =
        if lockLost && b.lstate p < lsTrained then
          ((c.portDown p).set (XPORT.TRAIN_STATUS_FAIL_STATE p) (b.lstate p)).set (XPORT.TRAIN_STATUS_FAIL_CAUSE p) 3
        else c.portDown p)) := by
  intro c
  unfold Blk.linkDown
  refine ⟨fun low => if_neg ?_, fun up => ?_⟩
  · rw [decide_eq_false (Nat.not_le.mpr low), Bool.and_false]
    decide
  · rw [if_pos (by rw [decide_eq_true hp, decide_eq_true up]; rfl)]
    refine ⟨fun lock few => if_neg ?_, fun lost => if_pos ?_⟩
    · rw [lock, decide_eq_false (Nat.not_lt.mpr few)]
      decide
    · rw [Bool.or_eq_true, decide_eq_true_eq]
      exact lost

theorem Blk.linkDown_shows {b : Blk} {p : Nat} (uncorr counted : Nat) (lockLost : Bool) (hp : p < 4) (up : lsIdent ≤ b.lstate p)
    (lost : lockLost = true ∨ (b.addSat (XPORT.FEC_UNCORR p) (uncorr - counted)).get (XPORT.UNCORR_LIMIT p) < uncorr) :
    let t := b.linkDown p uncorr counted lockLost
    t.lstate p = lsDetect ∧ t.flag (XPORT.IRQ_RAW_LINK_DOWN p) = true ∧ (t.port p).waiting = [] ∧ b.keepsOtherPages t linkPages ∧ b.keepsMemory t := by
  intro t
  have effect : t = _ := ((b.linkDown_eq uncorr counted lockLost hp).2 up).2 lost
  have power : b.powered (portPage p) = true := by
    by_contra no
    have zero : b.lstate p = 0 := if_neg no
    rw [zero] at up
    exact absurd up (by decide)
  have facts := (by decide : ∀ p < 4, pageOf (XPORT.FEC_UNCORR p).key ∈ linkPages ∧ pageOf (XPORT.TRAIN_STATUS_FAIL_STATE p).key ∈ linkPages ∧
    (XPORT.STATUS_LSTATE p).key ≠ (XPORT.TRAIN_STATUS_FAIL_STATE p).key ∧ (XPORT.IRQ_RAW_LINK_DOWN p).key ≠ (XPORT.TRAIN_STATUS_FAIL_STATE p).key) p hp
  obtain ⟨fecPage, failPage, state, irq⟩ := facts
  have pages : b.keepsOtherPages (b.addSat (XPORT.FEC_UNCORR p) (uncorr - counted)) linkPages := (b.keepsOtherPages_refl _).set (f := XPORT.FEC_UNCORR p) _ fecPage
  have behind := b.keepsBehind_addSat (XPORT.FEC_UNCORR p) (uncorr - counted)
  obtain ⟨c, hc⟩ : ∃ c, b.addSat (XPORT.FEC_UNCORR p) (uncorr - counted) = c := ⟨_, rfl⟩
  rw [hc] at effect pages behind
  obtain ⟨st, -, -, -, raw, empty, pages', memory, power', -⟩ := c.portDown_shows hp
  obtain ⟨d, hd⟩ : ∃ d, c.portDown p = d := ⟨_, rfl⟩
  rw [hd] at effect st raw empty pages' memory power'
  have on : d.powered (portPage p) = true := (power' _).trans ((Blk.powered_of_behind behind _).trans power)
  have ends : t.get (XPORT.STATUS_LSTATE p) = d.get (XPORT.STATUS_LSTATE p) ∧ t.flag (XPORT.IRQ_RAW_LINK_DOWN p) = d.flag (XPORT.IRQ_RAW_LINK_DOWN p) ∧
      t.port p = d.port p ∧ d.keepsOtherPages t linkPages ∧ d.keepsBehind t := by
    rw [effect]
    split
    · obtain ⟨e, he⟩ : ∃ e, d.set (XPORT.TRAIN_STATUS_FAIL_STATE p) (b.lstate p) = e := ⟨_, rfl⟩
      have kept : d.keepsRegs e [(XPORT.TRAIN_STATUS_FAIL_STATE p).key] := by
        rw [← he]
        exact (d.keepsRegs_refl _).set _ (List.mem_singleton.mpr rfl)
      have behind : d.keepsBehind e := by rw [← he]; exact d.keepsBehind_set _ _
      have kept := kept.set (f := XPORT.TRAIN_STATUS_FAIL_CAUSE p) 3 (List.mem_singleton.mpr rfl)
      have behind := behind.set (XPORT.TRAIN_STATUS_FAIL_CAUSE p) 3
      rw [he]
      exact ⟨kept.get (by simpa using state), kept.flag (by simpa using irq), behind.proj (fun b => b.port p) (fun _ _ _ _ _ => rfl),
        kept.otherPages (fun k hk => by rw [List.mem_singleton.mp hk]; exact failPage), behind⟩
    · exact ⟨rfl, rfl, rfl, d.keepsOtherPages_refl _, d.keepsBehind_refl⟩
  obtain ⟨st', raw', port, pages'', behind'⟩ := ends
  refine ⟨?_, raw'.trans raw, (congrArg (·.waiting) port).trans empty, pages.trans (pages'.trans pages''),
    behind.memory.trans (memory.trans behind'.memory)⟩
  rw [Blk.lstate_of_powered ((Blk.powered_of_behind behind' _).trans on), st', st]

/-! ### TAP -/

/-- OPEN as written leaves the other fields of the port. -/
theorem Blk.openStored_get (b : Blk) {p : Nat} (on : Bool) {g : Fld} (ctrl : g.clearOf (XPORT.PORT_CTRL_OPEN p) = true)
    (state : g.clearOf (XPORT.STATUS_LSTATE p) = true) (irq : g.clearOf (XPORT.IRQ_RAW_OPENED p) = true) :
    (b.openStored p on).get g = b.get g := by
  unfold Blk.openStored
  split
  · split
    · rw [Blk.get_raise_clear _ irq, Blk.setLstate, Blk.get_set_clear _ _ state, Blk.get_set_clear _ _ ctrl]
    · rfl
  · unfold Blk.closePort
    dsimp only
    split
    · rw [Blk.get_set_clear _ _ state, Blk.get_set_clear _ _ ctrl]
    · exact b.get_set_clear _ ctrl

/-- The word TAP_ENABLE writes to PORT_CTRL. -/
def Blk.tapWord (b : Blk) (p ctx : Nat) : Nat := putBits (putBits (b.rwWord (portPage p) 0x040) 2 1 1) 8 6 ctx

theorem Blk.tapWord_bits (b : Blk) {p ctx : Nat} (hp : p < 4) (hc : ctx < 64) :
    let v := (BitVec.ofNat 32 (b.tapWord p ctx)).toNat
    bitAt v 2 = true ∧ bitsAt v 8 6 = ctx ∧ bitAt v 1 = false := by
  intro v
  have field (lo w : Nat) (h : lo + w ≤ 32) : bitsAt v lo w = bitsAt (b.tapWord p ctx) lo w := by
    show bitsAt (BitVec.ofNat 32 _).toNat lo w = _
    rw [BitVec.toNat_ofNat, bitsAt_mod_word _ _ _ h]
  refine ⟨?_, ?_, ?_⟩
  · rw [bitAt, field 2 1 (by decide), Blk.tapWord, bitsAt_putBits_ne _ _ _ _ _ _ (.inr (by decide)), bitsAt_putBits_same]
    rfl
  · rw [field 8 6 (by decide), Blk.tapWord, bitsAt_putBits_same]
    exact Nat.mod_eq_of_lt hc
  · have low := b.bitAt_fieldWord_none (regRow_portCtrl p hp) (lo := 2) (w := 1) (i := 1) 1 (by decide) (by decide) (.inr (by decide))
    rw [bitAt, Blk.fieldWord, BitVec.toNat_ofNat, bitsAt_mod_word _ _ _ (by decide)] at low
    rw [bitAt, field 1 1 (by decide), Blk.tapWord, bitsAt_putBits_ne _ _ _ _ _ _ (.inr (by decide))]
    exact low

theorem Blk.tapWritten_shows (b : Blk) {p ctx : Nat} (a : Agent) (hp : p < 4) (hc : ctx < 64)
    (may : (b.get LIFE.STATE = 1 ∨ b.get LIFE.STATE = 3) ∧ b.flag OASIS.STATUS_PRES_WINDOW = true) :
    let t := b.writePortCtrl p a (BitVec.ofNat 32 (b.tapWord p ctx)).toNat
    t.get (XPORT.PORT_CTRL_TAP_CTX p) = ctx ∧ t.flag (XPORT.PORT_CTRL_TAP p) = true ∧ t.flag (XPORT.STATUS_TAP_MODE p) = true ∧
    b.keepsOtherPages t [portPage p] ∧ b.keepsMemory t := by
  intro t
  obtain ⟨tap, field, retrain⟩ := b.tapWord_bits hp hc
  obtain ⟨v, hv⟩ : ∃ v, (BitVec.ofNat 32 (b.tapWord p ctx)).toNat = v := ⟨_, rfl⟩
  rw [hv] at tap field retrain
  have allowed : ((b.get LIFE.STATE == 1 || b.get LIFE.STATE == 3) && b.flag OASIS.STATUS_PRES_WINDOW) = true := by
    rw [Bool.and_eq_true, Bool.or_eq_true, beq_iff_eq, beq_iff_eq]
    exact may
  have effect : t = (b.tapStored p v).openStored p (bitAt v 0) := by
    show b.writePortCtrl p a _ = _
    rw [hv, b.writePortCtrl_steps, tap, allowed, retrain]
    exact (if_neg (by decide)).trans (if_neg (by rw [Bool.false_and]; decide))
  obtain ⟨ctx', on, mode, -, -, -, pages, behind⟩ := b.tapStored_shows v hp
  obtain ⟨y, hy⟩ : ∃ y, b.tapStored p v = y := ⟨_, rfl⟩
  rw [hy] at effect ctx' on mode pages behind
  have clear := (by decide : ∀ p < 4, ∀ g ∈ [XPORT.PORT_CTRL_TAP_CTX p, XPORT.PORT_CTRL_TAP p, XPORT.STATUS_TAP_MODE p],
    g.clearOf (XPORT.PORT_CTRL_OPEN p) = true ∧ g.clearOf (XPORT.STATUS_LSTATE p) = true ∧ g.clearOf (XPORT.IRQ_RAW_OPENED p) = true) p hp
  have get (g : Fld) (hg : g ∈ [XPORT.PORT_CTRL_TAP_CTX p, XPORT.PORT_CTRL_TAP p, XPORT.STATUS_TAP_MODE p]) : t.get g = y.get g := by
    obtain ⟨ctrl, state, irq⟩ := clear g hg
    rw [effect]
    exact y.openStored_get _ ctrl state irq
  have flag (g : Fld) (hg : g ∈ [XPORT.PORT_CTRL_TAP_CTX p, XPORT.PORT_CTRL_TAP p, XPORT.STATUS_TAP_MODE p]) : t.flag g = y.flag g :=
    congrArg (fun v => v != 0) (get g hg)
  have ends : y.keepsOtherPages t [portPage p] ∧ y.keepsBehind t := by
    rw [effect]
    unfold Blk.openStored
    split
    · split
      · exact (y.opened_shows hp).2.2.2.2
      · exact ⟨y.keepsOtherPages_refl _, y.keepsBehind_refl⟩
    · exact (y.closePort_shows hp).2.2
  exact ⟨(get _ (by simp)).trans (ctx'.trans field), (flag _ (by simp)).trans (on.trans tap), (flag _ (by simp)).trans (mode.trans tap),
    pages.trans ends.1, behind.memory.trans ends.2.memory⟩

theorem Blk.capture_reports (b : Blk) (page cause agent off : Nat) : (b.capture page cause agent off).reports = b.reports := by
  obtain full | ⟨w, v, free⟩ := b.capture_cases page cause agent off
  · rw [full]
    simp -implicitDefEqProofs only [Blk.raise_reports, Blk.bumpSat_reports]
  · rw [free]
    simp -implicitDefEqProofs only [Blk.setWord_reports, Blk.raise_reports, Blk.bumpSat_reports]

theorem Blk.captureFree_reports (b : Blk) (page cause agent : Nat) : (b.captureFree page cause agent).reports = b.reports :=
  Blk.capture_reports { b with fresh := b.fresh + 1 } page cause agent _

/-- TAP refused, as it shows. -/
theorem Blk.tapRefused_shows (b : Blk) {p : Nat} (a : Agent) (hp : p < 4) :
    let t := b.tapRefused p a
    t.get (XPORT.PORT_CTRL_TAP_CTX p) = b.get (XPORT.PORT_CTRL_TAP_CTX p) ∧ t.flag (XPORT.PORT_CTRL_TAP p) = b.flag (XPORT.PORT_CTRL_TAP p) ∧
    t.lstate p = b.lstate p ∧ t.flag (XPORT.IRQ_RAW_TAP_REFUSED p) = true ∧ t.reports = b.reports ++ [⟨0, portPage p, false, 0xFF⟩] ∧
    b.keepsOtherPages t [portPage p] ∧ b.keepsMemory t := by
  intro t
  have facts := (by decide : ∀ p < 4, pageOf (XPORT.IRQ_RAW_TAP_REFUSED p).key ∈ [portPage p] ∧ portPage p < 256 ∧
    (XPORT.PORT_CTRL_TAP p).key ∉ captureKeys (portPage p) ∧ (XPORT.STATUS_LSTATE p).key ∉ captureKeys (portPage p) ∧
    (XPORT.IRQ_RAW_TAP_REFUSED p).key ∈ captureKeys (portPage p)) p hp
  obtain ⟨page, small, ctrl, status, raw⟩ := facts
  obtain ⟨x, hx⟩ : ∃ x, b.raise (XPORT.IRQ_RAW_TAP_REFUSED p) = x := ⟨_, rfl⟩
  have kept : b.keepsRegs x (captureKeys (portPage p)) := by rw [← hx]; exact (b.keepsRegs_refl _).raise raw
  have behind : b.keepsBehind x := by rw [← hx]; exact b.keepsBehind_raise _
  have raised : x.flag (XPORT.IRQ_RAW_TAP_REFUSED p) = true := by
    rw [← hx]
    exact b.flag_raise_same (XPORT.IRQ_RAW_TAP_REFUSED p) (show 8 + 1 ≤ 32 by decide) (show 0 < 1 by decide)
  have reports : x.reports = b.reports := by rw [← hx]; exact Blk.raise_reports _ _
  have regs := x.keepsRegs_captureFree (portPage p) 0x06 (agentCode a)
  have behind' := x.keepsBehind_captureFree (portPage p) 0x06 (agentCode a)
  have reports' : (x.captureFree (portPage p) 0x06 (agentCode a)).reports = x.reports := Blk.captureFree_reports _ _ _ _
  have raised' : (x.captureFree (portPage p) 0x06 (agentCode a)).flag (XPORT.IRQ_RAW_TAP_REFUSED p) = true := by
    refine Eq.trans ?_ raised
    obtain rfl | rfl | rfl | rfl := port_cases hp
    all_goals exact congrArg (fun v => v != 0) (x.get_captureFree_hIrq _ 0x06 _ (bit := 8) (by decide))
  obtain ⟨y, hy⟩ : ∃ y, x.captureFree (portPage p) 0x06 (agentCode a) = y := ⟨_, rfl⟩
  rw [hy] at regs behind' reports' raised'
  have effect : t = y.report 0 (portPage p) := by rw [← hy, ← hx]; rfl
  have words : ∀ k, t.word k = y.word k := fun k => by rw [effect]; rfl
  have all : b.keepsRegs t (captureKeys (portPage p)) := fun k hk => (words k).trans ((kept.trans regs) k hk)
  have dom : t.domOn = b.domOn := (congrArg (·.domOn) effect).trans ((behind.trans behind').proj (·.domOn) (fun _ _ _ _ _ => rfl))
  refine ⟨all.get (f := XPORT.PORT_CTRL_TAP_CTX p) ctrl, all.flag ctrl, ?_, ?_, ?_,
    all.otherPages (fun k hk => List.mem_singleton.mpr (pageOf_captureKeys small hk)), ?_⟩
  · have power : t.powered (portPage p) = b.powered (portPage p) := by simp only [Blk.powered, Blk.domainOn, dom]
    rw [Blk.lstate, Blk.lstate, power, all.get status]
  · exact (congrArg (fun v => v != 0) (Blk.get_of_word_eq (words _))).trans raised'
  · rw [effect]
    exact congrArg (· ++ [_]) (reports'.trans reports)
  · rw [effect]
    exact (behind.trans behind').memory

theorem Blk.tapWritten_refused (b : Blk) {p ctx : Nat} (a : Agent) (hp : p < 4) (hc : ctx < 64)
    (no : ¬((b.get LIFE.STATE = 1 ∨ b.get LIFE.STATE = 3) ∧ b.flag OASIS.STATUS_PRES_WINDOW = true)) :
    b.writePortCtrl p a (BitVec.ofNat 32 (b.tapWord p ctx)).toNat = b.tapRefused p a := by
  obtain ⟨tap, -⟩ := b.tapWord_bits hp hc
  have denied : ((b.get LIFE.STATE == 1 || b.get LIFE.STATE == 3) && b.flag OASIS.STATUS_PRES_WINDOW) = false := by
    rw [← Bool.not_eq_true, Bool.and_eq_true, Bool.or_eq_true, beq_iff_eq, beq_iff_eq]
    exact no
  rw [Blk.writePortCtrl_steps, tap, denied]
  exact if_pos (by decide)

theorem Node.tapEnable_steps (n : Node) (a : Agent) (p ctx : Nat) :
    n.tapEnable a p ctx = n.writeReg a (portPage p) 0x040 true (BitVec.ofNat 32 (n.b.tapWord p ctx)) := rfl

/-- The write of TAP_ENABLE. -/
theorem Node.tapEnable_eq {n : Node} {a : Agent} {p ctx : Nat} (hp : p < 4)
    (hg : n.b.granted a (portPage p) 0x040 (BitVec.ofNat 32 (n.b.tapWord p ctx))) : n.tapEnable a p ctx =
      { n with b := (n.b.writePortCtrl p a (BitVec.ofNat 32 (n.b.tapWord p ctx)).toNat).answered a (portPage p) 0x040 } := by
  rw [n.tapEnable_steps, n.writeReg_block a _ ((by decide : ∀ p < 4, blockRegister (portPage p) 0x040 = true) p hp) hg, Blk.writeBlock_portCtrl _ _ hp]

/-- TAP_ENABLE in MAKER or RETURN with the presence window open. -/
theorem tapEnable_taken {s : State} {a : Agent} {p ctx : Nat} (wf : (Instr.tapEnable a p ctx).wf = true) (hp : p < 4) (hc : ctx < 64)
    (hg : s.node.b.granted a (portPage p) 0x040 (BitVec.ofNat 32 (s.node.b.tapWord p ctx)))
    (may : (s.node.b.get LIFE.STATE = 1 ∨ s.node.b.get LIFE.STATE = 3) ∧ s.node.b.flag OASIS.STATUS_PRES_WINDOW = true) :
    completes (.tapEnable a p ctx) s (fun t =>
      t.blk.get (XPORT.PORT_CTRL_TAP_CTX p) = ctx ∧ t.blk.flag (XPORT.PORT_CTRL_TAP p) = true ∧
      t.blk.flag (XPORT.STATUS_TAP_MODE p) = true ∧ s.blk.keepsOtherPages t.blk [portPage p] ∧ s.node.sameMemory t.node) := by
  obtain ⟨ctx', on, mode, pages, memory⟩ := s.node.b.tapWritten_shows a hp hc may
  have written := Node.tapEnable_eq hp hg
  obtain ⟨x, hx⟩ : ∃ x, s.node.b.writePortCtrl p a (BitVec.ofNat 32 (s.node.b.tapWord p ctx)).toNat = x := ⟨_, rfl⟩
  rw [hx] at ctx' on mode pages memory written
  exact completes_of_node (f := fun n => n.tapEnable a p ctx) rfl wf written ⟨ctx', on, mode, pages, memory.node⟩

/-- TAP_ENABLE refused. -/
theorem tapEnable_refused {s : State} {a : Agent} {p ctx : Nat} (wf : (Instr.tapEnable a p ctx).wf = true) (hp : p < 4) (hc : ctx < 64)
    (hg : s.node.b.granted a (portPage p) 0x040 (BitVec.ofNat 32 (s.node.b.tapWord p ctx)))
    (no : ¬((s.node.b.get LIFE.STATE = 1 ∨ s.node.b.get LIFE.STATE = 3) ∧ s.node.b.flag OASIS.STATUS_PRES_WINDOW = true)) :
    completes (.tapEnable a p ctx) s (fun t =>
      t.blk.get (XPORT.PORT_CTRL_TAP_CTX p) = s.blk.get (XPORT.PORT_CTRL_TAP_CTX p) ∧
      t.blk.flag (XPORT.PORT_CTRL_TAP p) = s.blk.flag (XPORT.PORT_CTRL_TAP p) ∧ t.blk.lstate p = s.blk.lstate p ∧
      t.blk.flag (XPORT.IRQ_RAW_TAP_REFUSED p) = true ∧ t.blk.reports = s.blk.reports ++ [⟨0, portPage p, false, 0xFF⟩] ∧
      s.blk.keepsOtherPages t.blk [portPage p] ∧ s.node.sameMemory t.node) := by
  obtain ⟨ctx', on, state, irq, reports, pages, memory⟩ := s.node.b.tapRefused_shows a hp
  have written := Node.tapEnable_eq hp hg
  rw [s.node.b.tapWritten_refused a hp hc no] at written
  obtain ⟨x, hx⟩ : ∃ x, s.node.b.tapRefused p a = x := ⟨_, rfl⟩
  rw [hx] at ctx' on state irq reports pages memory written
  exact completes_of_node (f := fun n => n.tapEnable a p ctx) rfl wf written ⟨ctx', on, state, irq, reports, pages, memory.node⟩

/-- Settles O38: arrival by `packetReceive_eq`, routing by `forward_eq`, what leaves after a pause by `drainOut_shows`. -/
theorem packetsAreCheckedRoutedAndPaused : Obligations.PacketsAreCheckedRoutedAndPaused := by
  unfold Obligations.PacketsAreCheckedRoutedAndPaused
  refine ⟨fun s x hp => ?_, fun b x => b.headFate_eq x, fun b x fate => b.tailArrives_eq x fate, fun b from_ k state => ?_,
    fun b p from_ k state => ?_, sealed_shows, fun s p c on hp hc => ?_, fun s p c hp hc => ?_, fun s p uncorr counted lockLost hp => ?_,
    fun s a p ctx wf => ?_⟩
  · intro p arriving fec flits ends
    obtain ⟨low, up⟩ := s.blk.packetReceive_eq hp
    have wf : (Instr.xanarPacketReceive x).wf = true := decide_eq_true hp
    refine ⟨fun h => exec_blk_same (f := fun b => b.packetReceive x) rfl wf (low h), fun h => ?_⟩
    obtain ⟨whole, head, tail, more⟩ := up h
    exact ⟨fun fate c no t hf => exec_blk (f := fun b => b.packetReceive x) rfl wf (whole fate c no t hf),
      fun fate c no t hf => exec_blk (f := fun b => b.packetReceive x) rfl wf (head fate c no t hf),
      fun e is t => exec_blk (f := fun b => b.packetReceive x) rfl wf (tail e is t),
      fun e is t => exec_blk (f := fun b => b.packetReceive x) rfl wf (more e is t)⟩
  · intro e takes drop
    obtain ⟨none_, down, back, far⟩ := b.dropPacket_cases k.dst
    rw [b.forward_eq from_ k state, b.portTakes_eq, none_, down, back, far]
    rfl
  · intro out out' n
    obtain ⟨leaves, waits⟩ := b.sendOn_eq p from_ k state
    obtain ⟨cls, type, flits⟩ := outPacket_keeps k state
    refine ⟨fun may plain => ?_, fun may => ?_, waits⟩
    · rw [leaves may, b.putOut_eq, Blk.sidebands_plain _ p (type ▸ plain), cls, flits]; rfl
    · obtain ⟨side, sent⟩ := b.putOut_sent p (outPacket k state)
      exact ⟨side, by rw [leaves may]; exact sent⟩
  · obtain ⟨same, -⟩ := s.blk.pauseBit_eq on hp hc
    have wf : (Instr.pauseBitChange p c on).wf = true := by simp [Instr.wf, hp, hc]
    refine ⟨fun h => exec_blk_same (f := fun b => b.pauseBit p c on) rfl wf (same h), fun up ne len entries => ?_⟩
    obtain ⟨now, others, stays, gone, pages, memory⟩ := Blk.pauseBit_shows (b := s.node.b) hp hc up ne len entries
    exact completes_of_blk (f := fun b => b.pauseBit p c on) rfl wf rfl ⟨now, others, stays, gone, pages, memory.node⟩
  · intro x
    obtain ⟨long, short⟩ := s.blk.pauseLong_eq c hp
    have wf : (Instr.pauseLong p c).wf = true := by simp [Instr.wf, hp, hc]
    exact ⟨fun from_ since late first => exec_blk (f := fun b => b.pauseLong p c) rfl wf (long from_ since late first),
      fun h => exec_blk_same (f := fun b => b.pauseLong p c) rfl wf (short h)⟩
  · have wf : (Instr.linkDown p uncorr counted lockLost).wf = true := decide_eq_true hp
    obtain ⟨low, up⟩ := s.blk.linkDown_eq uncorr counted lockLost hp
    refine ⟨fun h => exec_blk_same (f := fun b => b.linkDown p uncorr counted lockLost) rfl wf (low h), fun h => ?_⟩
    intro b
    refine ⟨fun lock few => exec_blk (f := fun b => b.linkDown p uncorr counted lockLost) rfl wf ((up h).1 lock few), fun lost => ?_⟩
    obtain ⟨state, irq, empty, pages, memory⟩ := Blk.linkDown_shows (b := s.node.b) uncorr counted lockLost hp h lost
    exact completes_of_blk (f := fun b => b.linkDown p uncorr counted lockLost) rfl wf rfl ⟨state, irq, empty, pages, memory.node⟩
  · intro w hg life may
    have hw : w = s.node.b.tapWord p ctx := rfl
    clear_value w
    rw [hw] at hg
    have hp : p < 4 := by
      simp only [Bool.and_eq_true, decide_eq_true_eq] at wf
      exact wf.1.2
    have hc : ctx < 64 := by
      simp only [Bool.and_eq_true, decide_eq_true_eq] at wf
      exact wf.2
    exact ⟨tapEnable_taken wf hp hc hg, tapEnable_refused wf hp hc hg⟩

end Sys2Proof.Machine
end

section
/-! PROOFS. The send engine, acknowledgement and resending (spec/12 R284, R285, R292, R294, R295). -/

namespace Sys2Proof.Machine

/-! ### The doorbell -/

theorem Blk.writeXqp_doorbell (b : Blk) (a : Agent) (v : Word) :
    b.writeXqp a 0x044 v = b.doorbell (bitsAt v.toNat 0 8) (bitsAt v.toNat 16 12) := by
  unfold Blk.writeXqp
  exact if_pos (by decide)

theorem Blk.writeBlock_doorbell (b : Blk) (a : Agent) (v : Word) :
    b.writeBlock a Page.XQP 0x044 v = b.doorbell (bitsAt v.toNat 0 8) (bitsAt v.toNat 16 12) := by
  rw [Blk.writeBlock_xqp, if_neg (by decide), Blk.writeXqp_doorbell]

/-- The fields of a doorbell word. -/
theorem doorbell_fields {q tail : Nat} (hq : q < 256) (ht : tail < 4096) :
    bitsAt (BitVec.ofNat 32 (q + 65536 * tail)).toNat 0 8 = q ∧ bitsAt (BitVec.ofNat 32 (q + 65536 * tail)).toNat 16 12 = tail := by
  rw [BitVec.toNat_ofNat, Nat.mod_eq_of_lt (by omega)]
  unfold bitsAt
  omega

theorem Blk.qp_set (b : Blk) (f : Fld) (v q : Nat) : (b.set f v).qp q = b.qp q := by rw [Blk.qp, Blk.qp, Blk.set_fab]

theorem Blk.doorbell_eq (b : Blk) (q tail : Nat) :
    let n := 2 ^ b.get (XQP.QCTX5_SQ_LOG2 q)
    let new := (ringIndices (b.get (XQP.QCTX8_SQ_TAIL q)) (tail % n) n).map SendItem.request
    b.doorbell q tail = if b.qstate q = qsReady then
      (b.set (XQP.QCTX8_SQ_TAIL q) (tail % n)).setQp q { b.qp q with queue := (b.qp q).queue ++ new }
    else b := by
  intro n new
  unfold Blk.doorbell
  by_cases ready : b.qstate q = qsReady
  · rw [if_neg (by rw [ready]; decide), if_pos ready, ← b.qp_set (XQP.QCTX8_SQ_TAIL q) (tail % n) q]
    rfl
  · rw [if_pos (by simpa using ready), if_neg ready]

theorem Node.qpDoorbell_eq {n : Node} {a : Agent} {q tail : Nat} (hq : q < 256) (ht : tail < 4096)
    (hg : n.b.granted a Page.XQP 0x044 (BitVec.ofNat 32 (q + 65536 * tail))) :
    n.writeReg a Page.XQP 0x044 true (BitVec.ofNat 32 (q + 65536 * tail)) =
      { n with b := (n.b.doorbell q tail).answered a Page.XQP 0x044 } := by
  obtain ⟨low, high⟩ := doorbell_fields hq ht
  rw [n.writeReg_block a _ (by decide) hg, Blk.writeBlock_doorbell, low, high]

/-! ### The send engine -/

theorem Blk.arriveOwn_none {b : Blk} (h : b.route.own = []) : b.arriveOwn = b := by
  unfold Blk.arriveOwn Blk.arriveOwnAt
  exact if_pos (by rw [h]; rfl)

/-- The next packet of the queue pair's first job, when its window allows one. -/
def Blk.sendFirst (b : Blk) (q : Nat) : Blk :=
  match (b.qp q).jobs.find? (fun j => !j.allSent) with
  | some j => if b.withinWindow q then (b.sendNext q j).drainCompletions else b
  | none => b

theorem Blk.sendFirst_some {b : Blk} {q : Nat} {j : SendJob} (h : (b.qp q).jobs.find? (fun j => !j.allSent) = some j) :
    b.sendFirst q = if b.withinWindow q = true then (b.sendNext q j).drainCompletions else b := by
  unfold Blk.sendFirst
  rw [h]

theorem Blk.sendFirst_none {b : Blk} {q : Nat} (h : (b.qp q).jobs.find? (fun j => !j.allSent) = none) : b.sendFirst q = b := by
  unfold Blk.sendFirst
  rw [h]

/-- What a READY queue pair with nothing to send again does. -/
def Blk.sendNew (b : Blk) (q : Nat) : Blk :=
  let t := if (b.qp q).jobs.any (fun j => !j.allSent) then b else b.takeItem q
  if t.qstate q != qsReady then t.drainCompletions else t.sendFirst q

/-- The send engine works on a READY queue pair of a page that runs. -/
theorem qpRuns_iff (b : Blk) {q : Nat} (hq : q < 256) :
    (q < 256 && b.active Page.XQP && b.qstate q == qsReady) = true ↔ b.active Page.XQP = true ∧ b.qstate q = qsReady := by
  rw [Bool.and_eq_true, Bool.and_eq_true, decide_eq_true_iff, beq_iff_eq]
  exact ⟨fun ⟨⟨_, on⟩, ready⟩ => ⟨on, ready⟩, fun ⟨on, ready⟩ => ⟨⟨hq, on⟩, ready⟩⟩

theorem Blk.qpSend_idle {b : Blk} {q : Nat} (hq : q < 256) (h : ¬(b.active Page.XQP = true ∧ b.qstate q = qsReady)) : b.qpSend q = b := by
  have test := mt (qpRuns_iff b hq).mp h
  unfold Blk.qpSend
  exact if_pos (by rw [Bool.not_eq_true] at test; rw [test]; rfl)

theorem Blk.qpSend_runs {b : Blk} {q : Nat} (hq : q < 256) (h : b.active Page.XQP = true ∧ b.qstate q = qsReady) :
    (∀ o rest, (b.qp q).resend = o :: rest → b.qpSend q = b.sendAgain q o rest) ∧ ((b.qp q).resend = [] → b.qpSend q = b.sendNew q) := by
  have test := (qpRuns_iff b hq).mpr h
  unfold Blk.qpSend
  rw [if_neg (by rw [test]; decide)]
  refine ⟨fun o rest head => ?_, fun none_ => ?_⟩
  · rw [head]
  · rw [none_]
    rfl

theorem Blk.sendNew_job {b : Blk} {q : Nat} {j : SendJob} (ready : b.qstate q = qsReady)
    (h : (b.qp q).jobs.find? (fun j => !j.allSent) = some j) :
    b.sendNew q = if b.withinWindow q = true then (b.sendNext q j).drainCompletions else b := by
  have some_ : (b.qp q).jobs.any (fun j => !j.allSent) = true :=
    List.any_eq_true.mpr ⟨j, List.mem_of_find?_eq_some h, List.find?_some (p := fun j : SendJob => !j.allSent) h⟩
  have step : b.sendNew q = if b.qstate q != qsReady then b.drainCompletions else b.sendFirst q := by
    unfold Blk.sendNew
    rw [some_]
    rfl
  rw [step, if_neg (by rw [ready]; decide)]
  exact Blk.sendFirst_some h

theorem Blk.sendNew_taken {b : Blk} {q : Nat} (h : (b.qp q).jobs.find? (fun j => !j.allSent) = none) :
    b.sendNew q = if (b.takeItem q).qstate q = qsReady then (b.takeItem q).sendFirst q else (b.takeItem q).drainCompletions := by
  have none_ : (b.qp q).jobs.any (fun j => !j.allSent) = false := by
    rw [Bool.eq_false_iff]
    intro some_
    obtain ⟨j, mem, more⟩ := List.any_eq_true.mp some_
    exact List.find?_eq_none.mp h j mem more
  have step : b.sendNew q =
      if (b.takeItem q).qstate q != qsReady then (b.takeItem q).drainCompletions else (b.takeItem q).sendFirst q := by
    unfold Blk.sendNew
    rw [none_]
    rfl
  rw [step]
  by_cases ready : (b.takeItem q).qstate q = qsReady
  · rw [if_pos ready, if_neg (by rw [ready]; decide)]
  · rw [if_neg ready, if_pos (by simpa using ready)]

theorem Blk.sendAgain_eq (b : Blk) (q : Nat) (o : OutPkt) (rest : List OutPkt) : b.sendAgain q o rest =
    ((b.setQp q { b.qp q with resend := rest }).bumpSat XQP.RESENT).sendRouted { o.pkt with rflags := Nat.lor o.pkt.rflags 4 } := rfl

/-! ### The packets of a write -/

/-- The packet of a write read from a reachable place goes out. -/
def writeRead (q psn n : Nat) (last : Bool) (j : SendJob) (r : Nat × List Byte × Blk) : Blk :=
  if r.1 == bkWait then r.2.2
  else if r.1 != 0 then r.2.2.qpErrorNotify q 4 r.1 (some j.id) psn
  else
    let type := if last && j.wr.op == 1 then 1 else 0
    let addr := if type == 1 && n == 0 then 0 else j.wr.remote + j.sent
    let pkt := r.2.2.qpPacket q type (lastFlags j.wr.final last) psn addr j.wr.win j.wr.key (if type == 1 then j.wr.imm else 0) r.2.1
    r.2.2.emitNew q { j with sent := j.sent + n, allSent := last } ⟨j.id, n, last, pkt⟩ 1

/-- The slots whose tags a packet of a write waits for. -/
def writeSlots (j : SendJob) (n : Nat) : List Nat :=
  let off := fabOff j.wr.localAddr + j.sent
  if j.wr.ltag && fabSpace j.wr.localAddr == 0 then (slotsTouched off n).filter (fun s => j.sent == 0 || off ≤ s * 256) else []

/-- The next packet of a write. -/
def Blk.sendWrite (b : Blk) (q psn : Nat) (j : SendJob) (n : Nat) : Blk :=
  let w := j.wr
  let tile := fabTile w.localAddr
  let off := fabOff w.localAddr + j.sent
  let space := fabSpace w.localAddr
  let unreached := if n == 0 then 0 else b.placeCause space tile off n
  if unreached != 0 then b.qpErrorNotify q 4 unreached (some j.id) psn
  else match (writeSlots j n).find? (fun s => !b.foundFull tile s && !b.unitGranted tile q portLocal s) with
  | some s => b.unitWait tile q portLocal 10 s .readFull
  | none =>
    let t := (b.tagVotes tile (writeSlots j n)).when (!(writeSlots j n).isEmpty) (fun b => b.clearUnitWaits tile q portLocal)
    writeRead q psn n (j.sent + n == w.len) j (if n == 0 then (0, [], t) else t.placeRead (sendEng q) space tile off n)

theorem Blk.sendNext_write (b : Blk) (q : Nat) {i : Nat} {j : SendJob} (from_ : j.from_ = .request i) (op : j.wr.op ≤ 1) :
    b.sendNext q j = b.sendWrite q (b.get (XQP.QCTX1_SQ_PSN q)) j (min 512 (j.wr.len - j.sent)) := by
  have write : ¬(j.wr.op == 2) = true := by rw [beq_iff_eq]; omega
  obtain ⟨id, _, wr, sent, acked, allSent, writes⟩ := j
  obtain rfl : _ = JobFrom.request i := from_
  exact if_neg write

theorem Blk.sendWrite_unreached (b : Blk) (q psn : Nat) (j : SendJob) {n : Nat} (some_ : 0 < n)
    (h : b.placeCause (fabSpace j.wr.localAddr) (fabTile j.wr.localAddr) (fabOff j.wr.localAddr + j.sent) n ≠ 0) :
    b.sendWrite q psn j n = b.qpErrorNotify q 4
      (b.placeCause (fabSpace j.wr.localAddr) (fabTile j.wr.localAddr) (fabOff j.wr.localAddr + j.sent) n) (some j.id) psn := by
  have count : ¬(n == 0) = true := by rw [beq_iff_eq]; omega
  unfold Blk.sendWrite
  dsimp only
  rw [if_neg count]
  exact if_pos (bne_iff_ne.mpr h)

theorem Blk.placeRead_unreached {b : Blk} {eng space tile off n : Nat} (h : b.placeCause space tile off n ≠ 0) :
    b.placeRead eng space tile off n = (b.placeCause space tile off n, [], b) := by
  unfold Blk.placeRead
  exact if_pos (bne_iff_ne.mpr h)

theorem Blk.sendWrite_read {b b1 : Blk} (q psn : Nat) {j : SendJob} {n : Nat} {bs : List Byte} (some_ : 0 < n) (untagged : j.wr.ltag = false)
    (h : b.placeRead (sendEng q) (fabSpace j.wr.localAddr) (fabTile j.wr.localAddr) (fabOff j.wr.localAddr + j.sent) n = (0, bs, b1)) :
    b.sendWrite q psn j n = writeRead q psn n (j.sent + n == j.wr.len) j (0, bs, b1) := by
  have count : ¬(n == 0) = true := by rw [beq_iff_eq]; omega
  have reached : b.placeCause (fabSpace j.wr.localAddr) (fabTile j.wr.localAddr) (fabOff j.wr.localAddr + j.sent) n = 0 := by
    by_contra beyond
    rw [Blk.placeRead_unreached beyond] at h
    exact beyond (congrArg (·.1) h)
  have slots : writeSlots j n = [] := by
    unfold writeSlots
    exact if_neg (by rw [untagged]; exact Bool.false_ne_true)
  unfold Blk.sendWrite
  dsimp only
  rw [slots, if_neg count, reached, if_neg count]
  refine (if_neg (by decide)).trans ?_
  exact congrArg (writeRead q psn n (j.sent + n == j.wr.len) j) h

theorem writeRead_good (b1 : Blk) (q psn : Nat) {n : Nat} (last : Bool) (j : SendJob) (bs : List Byte) (some_ : 0 < n) :
    let type := if last && j.wr.op == 1 then 1 else 0
    writeRead q psn n last j (0, bs, b1) = b1.emitNew q { j with sent := j.sent + n, allSent := last }
      ⟨j.id, n, last, b1.qpPacket q type (lastFlags j.wr.final last) psn (j.wr.remote + j.sent) j.wr.win j.wr.key
        (if type = 1 then j.wr.imm else 0) bs⟩ 1 := by
  intro type
  unfold writeRead
  refine (if_neg (show ¬(0 == bkWait) = true by decide)).trans ((if_neg (show ¬((0 : Nat) != 0) = true by decide)).trans ?_)
  have count : (n == 0) = false := by rw [beq_eq_false_iff_ne]; omega
  simp only [count, Bool.and_false, beq_iff_eq, type]
  rfl

/-! ### Acknowledgement -/

theorem Blk.rmaAck_off {b : Blk} (p : Packet) (h : b.active Page.XQP = false) : b.rmaAck p = b := by
  unfold Blk.rmaAck
  exact if_pos (by rw [h]; rfl)

theorem Blk.rmaAck_on {b : Blk} (p : Packet) (h : b.active Page.XQP = true) :
    let x := b.qp p.dqp
    let ahead := psnSub (b.get (XQP.QCTX1_SQ_PSN p.dqp)) p.psn
    let freed := x.out.filter (freedBy p.psn)
    let mine := fun (j : SendJob) => ((freed.filter (fun o => o.job == j.id)).map (fun o => o.bytes)).foldl (· + ·) 0
    let left := { x with
      out := x.out.filter (fun o => !freedBy p.psn o), resend := x.resend.filter (fun o => !freedBy p.psn o)
      jobs := x.jobs.map (fun j => { j with acked := j.acked + mine j }) }
    (∀ b1, b.qpAccepts p.dqp p = some b1 → b.rmaAck p = b1) ∧
    (b.qpAccepts p.dqp p = none →
      ((ahead = 0 ∨ 2 ^ 23 ≤ ahead) → b.rmaAck p = b) ∧
      (1 ≤ ahead → ahead < 2 ^ 23 → (freed = [] → b.rmaAck p = b) ∧
        (freed ≠ [] → b.rmaAck p = (((b.setQp p.dqp left).advanced p.dqp).settleJobs p.dqp p.psn).drainCompletions))) := by
  intro x ahead freed mine left
  have on : ¬(!b.active Page.XQP) = true := by rw [h]; decide
  refine ⟨fun b1 accepts => ?_, fun accepts => ⟨fun out => ?_, fun low high => ⟨fun none_ => ?_, fun some_ => ?_⟩⟩⟩
  · unfold Blk.rmaAck
    rw [if_neg on, accepts]
  · unfold Blk.rmaAck
    rw [if_neg on, accepts]
    exact if_pos (by rw [Bool.or_eq_true, beq_iff_eq, decide_eq_true_iff]; exact out)
  · unfold Blk.rmaAck
    rw [if_neg on, accepts]
    refine (if_neg ?_).trans (if_pos (List.isEmpty_iff.mpr none_))
    rw [Bool.or_eq_true, beq_iff_eq, decide_eq_true_iff]
    exact fun out => out.elim (fun z => absurd (z ▸ low : 1 ≤ 0) (by decide)) (fun far => absurd far (Nat.not_le.mpr high))
  · unfold Blk.rmaAck
    rw [if_neg on, accepts]
    refine (if_neg ?_).trans (if_neg (fun empty => some_ (List.isEmpty_iff.mp empty)))
    rw [Bool.or_eq_true, beq_iff_eq, decide_eq_true_iff]
    exact fun out => out.elim (fun z => absurd (z ▸ low : 1 ≤ 0) (by decide)) (fun far => absurd far (Nat.not_le.mpr high))

theorem freedBy_read {psn : Nat} {o : OutPkt} (h : o.pkt.type = 2) : freedBy psn o = false := by
  unfold freedBy
  rw [h]
  rfl

theorem Blk.rmaNak_off {b : Blk} (p : Packet) (h : b.active Page.XQP = false) : b.rmaNak p = b := by
  unfold Blk.rmaNak
  exact if_pos (by rw [h]; rfl)

theorem Blk.rmaNak_on {b : Blk} (p : Packet) (h : b.active Page.XQP = true) :
    let cause := bitsAt p.imm 8 8
    (∀ b1, b.qpAccepts p.dqp p = some b1 → b.rmaNak p = b1) ∧
    (b.qpAccepts p.dqp p = none → b.rmaNak p = if p.imm % 256 = 1 then b.beginResend p.dqp (some p.psn)
      else if p.imm % 256 = 2 then (b.qpError p.dqp 3 cause (b.jobAt p.dqp p.psn) false p.psn).drainCompletions
      else if p.imm % 256 = 3 then (b.qpError p.dqp 5 cause none false p.psn).drainCompletions else b) := by
  intro cause
  have on : ¬(!b.active Page.XQP) = true := by rw [h]; decide
  refine ⟨fun b1 accepts => ?_, fun accepts => ?_⟩
  · unfold Blk.rmaNak
    rw [if_neg on, accepts]
  · unfold Blk.rmaNak
    rw [if_neg on, accepts]
    simp only [beq_iff_eq]
    rfl

/-! ### The retry timer -/

theorem Blk.retryTimeout_idle {b : Blk} {q : Nat} (hq : q < 256) (h : ¬((b.active Page.XQP = true ∧ b.qstate q = qsReady) ∧ (b.qp q).out ≠ [])) :
    b.retryTimeout q = b := by
  unfold Blk.retryTimeout
  by_cases runs : b.active Page.XQP = true ∧ b.qstate q = qsReady
  · rw [if_pos ((qpRuns_iff b hq).mpr runs)]
    unfold Blk.beginResend
    exact if_pos (List.isEmpty_iff.mpr (by_contra fun some_ => h ⟨runs, some_⟩))
  · exact if_neg (mt (qpRuns_iff b hq).mp runs)

theorem Blk.retryTimeout_resends {b : Blk} {q : Nat} (hq : q < 256) (runs : b.active Page.XQP = true ∧ b.qstate q = qsReady)
    (some_ : (b.qp q).out ≠ []) (more : b.get (XQP.QCTX9_RETRIES q) < b.get (XQP.QCTX0_RETRY_MAX q)) :
    b.retryTimeout q = (b.setQp q { b.qp q with resend := (b.qp q).out }).set (XQP.QCTX9_RETRIES q) (b.get (XQP.QCTX9_RETRIES q) + 1) := by
  unfold Blk.retryTimeout
  rw [if_pos ((qpRuns_iff b hq).mpr runs)]
  unfold Blk.beginResend
  exact (if_neg (fun empty => some_ (List.isEmpty_iff.mp empty))).trans (if_neg (by omega))

theorem Blk.retryTimeout_exceeded {b : Blk} {q : Nat} {o : OutPkt} {rest : List OutPkt} (hq : q < 256)
    (runs : b.active Page.XQP = true ∧ b.qstate q = qsReady)
    (head : (b.qp q).out = o :: rest) (last : b.get (XQP.QCTX0_RETRY_MAX q) ≤ b.get (XQP.QCTX9_RETRIES q)) :
    b.retryTimeout q = (b.qpErrorNotify q 2 fcRetry (some o.job) (b.get (XQP.QCTX10_OLDEST q))).drainCompletions := by
  unfold Blk.retryTimeout
  rw [if_pos ((qpRuns_iff b hq).mpr runs)]
  unfold Blk.beginResend
  dsimp only
  rw [head]
  exact (if_neg (show ¬false = true by decide)).trans (if_pos (by omega))

/-- The queue pair as it stands before its RETRIES count: RETRIES has the width of RETRY_MAX, so one more than a smaller count fits. -/
theorem Blk.resendBegun_shows {b : Blk} {q : Nat} (x : QpSt) (more : b.get (XQP.QCTX9_RETRIES q) < b.get (XQP.QCTX0_RETRY_MAX q)) :
    let t := (b.setQp q x).set (XQP.QCTX9_RETRIES q) (b.get (XQP.QCTX9_RETRIES q) + 1)
    t.qp q = x ∧ t.get (XQP.QCTX9_RETRIES q) = b.get (XQP.QCTX9_RETRIES q) + 1 ∧ b.keepsRegs t [(XQP.QCTX9_RETRIES q).key] ∧ b.keepsMemory t := by
  intro t
  obtain ⟨shows_, regs, -, memory⟩ := b.setQp_shows q x
  have max : b.get (XQP.QCTX0_RETRY_MAX q) < 2 ^ 3 := b.get_lt _
  refine ⟨(Blk.qp_set _ _ _ _).trans shows_, ?_, ?_, memory.set _ _⟩
  · refine ((b.setQp q x).get_set_same (XQP.QCTX9_RETRIES q) _ (show 16 + 3 ≤ 32 by decide)).trans (Nat.mod_eq_of_lt ?_)
    show _ < 2 ^ 3
    omega
  · have kept : b.keepsRegs (b.setQp q x) [(XQP.QCTX9_RETRIES q).key] := fun k _ => by rw [Blk.word, Blk.word, regs]
    exact kept.set (f := XQP.QCTX9_RETRIES q) _ (List.mem_singleton_self _)

theorem Blk.ackSend_due {b : Blk} {q psn : Nat} (hq : q < 256) (runs : b.active Page.XQP = true ∧ b.qstate q = qsReady)
    (due : (b.qp q).ackDue = true) (placed : (b.qp q).lastPlaced = some psn) :
    b.ackSend q = (b.sendRouted (b.qpPacket q 4 0 psn 0 0 0 0 [])).setQp q { b.qp q with ackDue := false } := by
  unfold Blk.ackSend
  dsimp only
  rw [placed]
  dsimp only
  exact if_pos (by rw [(qpRuns_iff b hq).mpr runs, due]; rfl)

theorem Blk.ackSend_idle {b : Blk} {q : Nat} (hq : q < 256)
    (h : ¬((b.active Page.XQP = true ∧ b.qstate q = qsReady) ∧ (b.qp q).ackDue = true ∧ (b.qp q).lastPlaced.isSome = true)) : b.ackSend q = b := by
  unfold Blk.ackSend
  dsimp only
  split
  next p placed =>
    refine if_neg fun both => h ?_
    rw [Bool.and_eq_true, qpRuns_iff b hq] at both
    exact ⟨both.1, both.2, by rw [placed]; rfl⟩
  · rfl

/-- Settles O41: one lemma per function of the send engine, each on the blocks after `arriveOwn`. -/
theorem queuePairsSendResendAndAcknowledge : Obligations.QueuePairsSendResendAndAcknowledge := by
  unfold Obligations.QueuePairsSendResendAndAcknowledge
  refine ⟨fun s a q tail wf hg => ?_, fun b h => Blk.arriveOwn_none h, fun s q hq => ?_, fun b b1 q i j bs from_ op untagged more => ?_,
    fun b q i j from_ op more => ?_, fun s p ok => ?_, fun psn o h => freedBy_read h, fun s p ok => ?_, fun s q hq => ?_⟩
  · intro n new
    have bounds : q < 256 ∧ tail < 4096 := by
      simp only [Bool.and_eq_true, decide_eq_true_eq] at wf
      exact ⟨wf.1.2, wf.2⟩
    have effect := Node.qpDoorbell_eq bounds.1 bounds.2 hg
    rw [Blk.doorbell_eq] at effect
    exact exec_next (f := fun n => n.writeReg a Page.XQP 0x044 true (BitVec.ofNat 32 (q + 65536 * tail))) rfl wf effect
  · intro b0 x ends again
    have act {b : Blk} (h : b0.qpSend q = b) : ends b := exec_blk (f := fun b => b.arriveOwn.qpSend q) rfl (decide_eq_true hq) h
    clear_value b0
    refine ⟨fun idle => act (Blk.qpSend_idle hq ?_), fun on ready => ?_⟩
    · rintro ⟨on, ready⟩
      exact idle.elim (fun off => absurd (off.symm.trans on) (by decide)) (fun no => no ready)
    · obtain ⟨resends, new⟩ := Blk.qpSend_runs hq ⟨on, ready⟩
      refine ⟨fun o rest head => act ((resends o rest head).trans (b0.sendAgain_eq q o rest)), fun none_ => ⟨fun j job => ?_, fun noJob => ?_⟩⟩
      · exact act ((new none_).trans (Blk.sendNew_job ready job))
      · have taken := (new none_).trans (Blk.sendNew_taken noJob)
        refine ⟨fun left => act (taken.trans (if_neg left)), fun still => ?_⟩
        rw [if_pos still] at taken
        exact ⟨fun j job => act (taken.trans (Blk.sendFirst_some job)), fun no => act (taken.trans (Blk.sendFirst_none no))⟩
  · intro w n last read type pkt
    have some_ : 0 < n := by show 0 < min 512 (j.wr.len - j.sent); omega
    rw [b.sendNext_write q from_ op]
    exact (Blk.sendWrite_read q _ some_ untagged read).trans (writeRead_good b1 q _ last j bs some_)
  · intro w n cause h
    have some_ : 0 < n := by show 0 < min 512 (j.wr.len - j.sent); omega
    rw [b.sendNext_write q from_ op]
    exact b.sendWrite_unreached q _ j some_ h
  · intro b q x ends ahead
    have act {t : Blk} (h : b.rmaAck p = t) : ends t := exec_blk (f := fun b => b.arriveOwn.rmaAck p) rfl ok h
    clear_value b
    refine ⟨fun off => act (Blk.rmaAck_off p off), fun on => ?_⟩
    obtain ⟨other, mine⟩ := Blk.rmaAck_on p on
    refine ⟨fun b1 accepts => act (other b1 accepts), fun accepts => ?_⟩
    obtain ⟨out, inside⟩ := mine accepts
    refine ⟨fun h => act (out h), fun low high => ?_⟩
    obtain ⟨none_, some_⟩ := inside low high
    exact ⟨fun h => act (none_ h), fun h => act (some_ h)⟩
  · intro b ends cause
    have act {t : Blk} (h : b.rmaNak p = t) : ends t := exec_blk (f := fun b => b.arriveOwn.rmaNak p) rfl ok h
    clear_value b
    exact ⟨fun off => act (Blk.rmaNak_off p off), fun b1 on accepts => act ((Blk.rmaNak_on p on).1 b1 accepts),
      fun on accepts => act ((Blk.rmaNak_on p on).2 accepts)⟩
  · intro b x r runs
    have timer {t : Blk} (h : b.retryTimeout q = t) : exec (.retryTimeout q) s = .next (s.withBlk t) :=
      exec_blk (f := fun b => b.arriveOwn.retryTimeout q) rfl (decide_eq_true hq) h
    have ack {t : Blk} (h : b.ackSend q = t) : exec (.ackSend q) s = .next (s.withBlk t) :=
      exec_blk (f := fun b => b.arriveOwn.ackSend q) rfl (decide_eq_true hq) h
    clear_value b
    refine ⟨fun h => timer (Blk.retryTimeout_idle hq h), fun run some_ more => ?_, fun o rest run head last => timer (Blk.retryTimeout_exceeded hq run head last),
      fun psn run due placed => ack (Blk.ackSend_due hq run due placed), fun h => ack (Blk.ackSend_idle hq h)⟩
    obtain ⟨shows_, count, regs, memory⟩ := Blk.resendBegun_shows (q := q) { x with resend := x.out } more
    have sent := Blk.retryTimeout_resends hq run some_ more
    obtain ⟨t, ht⟩ : ∃ t, (b.setQp q { x with resend := x.out }).set (XQP.QCTX9_RETRIES q) (b.get (XQP.QCTX9_RETRIES q) + 1) = t := ⟨_, rfl⟩
    rw [ht] at shows_ count regs memory
    exact ⟨s.withBlk t, timer (sent.trans ht), rfl, shows_, count, regs, rfl, memory⟩

end Sys2Proof.Machine
end

section
/-! PROOFS. WADI_PENDING_POST does not let the node's own packets arrive first (spec/12 R303, notes/assumptions/32). -/

namespace Sys2Proof.Machine

/-- An acknowledgement that the node sent itself. -/
def ownAck : Packet :=
  { cls := 1, loc := false, xver := 1, type := 4, dst := 0, src := 0, hops := 0, rflags := 0, addr := 0, psn := 0, dqp := 0, win := 0, key := 0
    imm := 0, payload := [], hcrc := 0, crc := 0 }

/-- The reset state with an acknowledgement of the node's own on its way. -/
def ownWaiting : State :=
  let b := State.reset.blk
  State.reset.withBlk { b with route := { b.route with own := [ownAck] } }

/-- An acknowledgement reaches no queue pair while XQP does not run. -/
theorem Blk.deliver_ownAck {b : Blk} (off : b.active Page.XQP = false) : b.deliver none ownAck 0 = b :=
  show b.rmaAck ownAck = b from Blk.rmaAck_off _ off

theorem Blk.arriveOwn_one {b : Blk} {k : Packet} (one : b.route.own = [k])
    (taken : ({ b with route := { b.route with own := [] } } : Blk).deliver none k 0 = { b with route := { b.route with own := [] } }) :
    b.arriveOwn.route.own = [] := by
  obtain ⟨x, hx⟩ : ∃ x : Blk, { b with route := { b.route with own := [] } } = x := ⟨_, rfl⟩
  have empty : x.route.own = [] := by rw [← hx]
  rw [hx] at taken
  have first : b.arriveOwn = Blk.arriveOwnAt 15 x := by
    unfold Blk.arriveOwn Blk.arriveOwnAt
    refine (if_neg (by rw [one]; exact Bool.false_ne_true)).trans ?_
    rw [hx, one]
    exact congrArg (Blk.arriveOwnAt 15) taken
  have last : Blk.arriveOwnAt 15 x = x := by
    unfold Blk.arriveOwnAt
    exact if_pos (by rw [empty]; rfl)
  rw [first, last, empty]

theorem ownWaiting_facts : ownWaiting.blk.route.own = [ownAck] ∧ ownWaiting.blk.fab.fires = [] ∧
    ({ ownWaiting.blk with route := { ownWaiting.blk.route with own := [] } } : Blk).active Page.XQP = false ∧
    ownWaiting.blk.arriveOwn.fab.fires = [] := by decide +kernel

/-- Refutes O42: with a packet of the node's own on its way and no fire waiting, the statement has WADI_PENDING_POST let that packet arrive, as the
other commands of the chapter do; the model's leaves it on its way (`ownWaiting`). -/
theorem not_requestsArePlacedAndWadiEntriesFire : ¬ Obligations.RequestsArePlacedAndWadiEntriesFire := by
  unfold Obligations.RequestsArePlacedAndWadiEntriesFire
  intro h
  obtain ⟨-, -, -, -, -, -, -, -, -, -, pending⟩ := h
  obtain ⟨own, fires, off, still⟩ := ownWaiting_facts
  have stated := (pending ownWaiting).1 (by rw [still]; rfl)
  have runs : exec .wadiPendingPost ownWaiting = .next ownWaiting :=
    exec_blk_same (f := fun b => b.wadiPending) rfl rfl (by unfold Blk.wadiPending; rw [fires]; rfl)
  have same := runs.symm.trans stated
  injection same with same
  have left : ownWaiting.blk.route.own = [] := (congrArg (·.blk.route.own) same).trans (Blk.arriveOwn_one own (Blk.deliver_ownAck off))
  rw [own] at left
  cases left

end Sys2Proof.Machine
end

section
/-! PROOFS. Schedule instances (spec/13 R317 to R325, R329, R341). -/

namespace Sys2Proof.Machine

/-! ### Steps over the instances -/

/-- `b'` differs from `b` in SCHED's registers, its event log and its instances alone. -/
def Blk.besideJobs (b b' : Blk) : Prop :=
  b.keepsOtherPages b' [Page.SCHED] ∧ ∃ l i, ({ b with sched := { b.sched with evt := l, insts := i } } : Blk).keepsBehind b'

theorem Blk.besideJobs_refl (b : Blk) : b.besideJobs b := ⟨b.keepsOtherPages_refl _, b.sched.evt, b.sched.insts, Blk.keepsBehind_refl _⟩

theorem Blk.besideJobs.trans {a b c : Blk} (h : a.besideJobs b) (k : b.besideJobs c) : a.besideJobs c := by
  obtain ⟨pages, _, _, _, _, _, _, _, rfl⟩ := h
  obtain ⟨pages', l, i, behind⟩ := k
  refine ⟨pages.trans pages', l, i, Blk.keepsBehind.trans ?_ behind⟩
  exact ⟨_, _, _, _, _, rfl⟩

theorem Blk.besideJobs.behind {b b' : Blk} (pages : b.keepsOtherPages b' [Page.SCHED]) (h : b.keepsBehind b') : b.besideJobs b' :=
  ⟨pages, b.sched.evt, b.sched.insts, h⟩

theorem Blk.besideJobs.proj {α : Type} {b b' : Blk} (h : b.besideJobs b') (f : Blk → α)
    (hf : ∀ l i r p q s n, f { b with sched := { b.sched with evt := l, insts := i }, regs := r, pages := p, reports := q, sent := s, fresh := n } = f b) :
    f b' = f b := by
  obtain ⟨-, l, i, r, p, q, s, n, rfl⟩ := h
  exact hf l i r p q s n

theorem Blk.besideJobs.memory {b b' : Blk} (h : b.besideJobs b') : b.keepsMemory b' :=
  ⟨h.proj (·.flash) (fun _ _ _ _ _ _ _ => rfl), h.proj (·.bulk.bytes) (fun _ _ _ _ _ _ _ => rfl), h.proj (·.spm.bytes) (fun _ _ _ _ _ _ _ => rfl)⟩

theorem Blk.besideJobs.linesSince {b b' : Blk} (h : b.besideJobs b') (n : BitVec 48) : b'.linesSince n = b.linesSince n :=
  congrArg (fun l : BitVec 48 => (l - n).toNat) (h.proj (·.ep.line) (fun _ _ _ _ _ _ _ => rfl))

theorem Blk.besideJobs_setInsts (b : Blk) (l : List Inst) : b.besideJobs (b.setInsts l) := ⟨b.keepsOtherPages_refl _, b.sched.evt, l, Blk.keepsBehind_refl _⟩

/-- The `k`-th job changed where `c` holds of it, `e` being what the blocks do. -/
def Blk.instStep (c : Blk → Inst → Bool) (e : Blk → Inst → Blk) (g : Inst → Inst) (b : Blk) (k : Nat) : Blk :=
  match b.sched.insts[k]? with
  | some i => if c b i then (e b i).setInsts (setNth b.sched.insts k (g i)) else b
  | none => b

theorem Blk.each_range_succ (b : Blk) (f : Blk → Nat → Blk) (n : Nat) : b.each (List.range (n + 1)) f = f (b.each (List.range n) f) n := by
  rw [Blk.each, List.range_succ, List.foldl_append]
  rfl

/-- What such steps leave of the first `n` instances of `b`. -/
def Blk.instsStepped (c : Blk → Inst → Bool) (g : Inst → Inst) (f : Fld) (n : Nat) (b t : Blk) : Prop :=
  b.besideJobs t ∧ t.sched.insts.length = b.sched.insts.length ∧
  (∀ (k : Nat) (i : Inst), b.sched.insts[k]? = some i → t.sched.insts[k]? = some (if k < n ∧ c b i = true then g i else i)) ∧
  (∀ (k : Nat) (i : Inst), k < n → b.sched.insts[k]? = some i → c b i = true → t.flag f = true)

section
variable {c : Blk → Inst → Bool} {e : Blk → Inst → Blk} {g : Inst → Inst} {f : Fld} (same : ∀ b b' : Blk, b.besideJobs b' → ∀ i, c b' i = c b i)
  (beside : ∀ (b : Blk) (i : Inst), b.besideJobs (e b i)) (raised : ∀ (b : Blk) (i : Inst), (e b i).flag f = true)
include same beside raised

theorem Blk.instStep_stepped {n : Nat} {b t : Blk} (h : b.instsStepped c g f n t) : b.instsStepped c g f (n + 1) (t.instStep c e g n) := by
  obtain ⟨kept, length, insts, flag⟩ := h
  unfold Blk.instStep
  split
  next i here =>
    have was : b.sched.insts[n]? = some i := by
      obtain ⟨i', was⟩ : ∃ i', b.sched.insts[n]? = some i' := by
        exact ⟨_, List.getElem?_eq_getElem (length ▸ (List.getElem?_eq_some_iff.mp here).1)⟩
      have now := insts n i' was
      rw [if_neg (fun h => absurd h.1 (Nat.lt_irrefl n)), here] at now
      exact was.trans now.symm
    have test : c t i = c b i := same b t kept i
    split
    next on =>
      obtain ⟨x, hx⟩ : ∃ x, e t i = x := ⟨_, rfl⟩
      have moved := beside t i
      have up := raised t i
      rw [hx] at moved up ⊢
      refine ⟨(kept.trans moved).trans (x.besideJobs_setInsts _), (List.length_set ..).trans length, fun k j hj => ?_, fun _ _ _ _ _ => up⟩
      show (setNth t.sched.insts n (g i))[k]? = _
      by_cases at_ : k = n
      · subst at_
        obtain rfl := Option.some.inj (hj.symm.trans was)
        rw [getElem?_setNth here, if_pos ⟨Nat.lt_succ_self k, test ▸ on⟩]
      · rw [setNth, List.getElem?_set_ne (fun h => at_ h.symm), insts k j hj]
        by_cases lt : k < n
        · simp only [lt, Nat.lt_succ_of_lt lt, true_and]
        · rw [if_neg (fun h => lt h.1), if_neg (fun h => lt (by omega))]
    next off =>
      refine ⟨kept, length, fun k j hj => (insts k j hj).trans ?_, fun k j lt hj on => ?_⟩
      · by_cases at_ : k = n
        · subst at_
          obtain rfl := Option.some.inj (hj.symm.trans was)
          rw [if_neg (fun h => absurd h.1 (Nat.lt_irrefl k)), if_neg (fun h => off (test.trans h.2))]
        · congr 2
          exact propext ⟨fun h => ⟨by omega, h.2⟩, fun h => ⟨by omega, h.2⟩⟩
      · by_cases at_ : k = n
        · subst at_
          obtain rfl := Option.some.inj (hj.symm.trans was)
          exact absurd (test.trans on) off
        · exact flag k j (by omega) hj on
  next beyond =>
    have none_ : b.sched.insts[n]? = none := by
      rw [List.getElem?_eq_none_iff, ← length]
      exact List.getElem?_eq_none_iff.mp beyond
    refine ⟨kept, length, fun k j hj => (insts k j hj).trans ?_, fun k j lt hj on => ?_⟩
    · have ne : k ≠ n := fun h => by rw [h, none_] at hj; cases hj
      congr 2
      exact propext ⟨fun h => ⟨by omega, h.2⟩, fun h => ⟨by omega, h.2⟩⟩
    · have ne : k ≠ n := fun h => by rw [h, none_] at hj; cases hj
      exact flag k j (by omega) hj on

theorem Blk.instSteps_stepped (b : Blk) (n : Nat) : b.instsStepped c g f n (b.each (List.range n) (Blk.instStep c e g)) := by
  induction n with
  | zero =>
    exact ⟨b.besideJobs_refl, rfl, fun k i h => h.trans (by rw [if_neg (fun h => absurd h.1 (Nat.not_lt_zero k))]), fun k _ h => absurd h (Nat.not_lt_zero k)⟩
  | succ n ih =>
    rw [Blk.each_range_succ]
    exact Blk.instStep_stepped same beside raised ih

end

/-- Every job has had its step. -/
theorem Blk.instsStepped.all {c : Blk → Inst → Bool} {g : Inst → Inst} {f : Fld} {b t : Blk} (h : b.instsStepped c g f b.sched.insts.length t) {k : Nat}
    {i : Inst} (hi : b.sched.insts[k]? = some i) (on : c b i = true) : t.sched.insts[k]? = some (g i) ∧ t.flag f = true := by
  obtain ⟨-, -, insts, flag⟩ := h
  have lt : k < b.sched.insts.length := (List.getElem?_eq_some_iff.mp hi).1
  exact ⟨(insts k i hi).trans (by rw [if_pos ⟨lt, on⟩]), flag k i lt hi on⟩

/-! ### Missed instances and job timeouts -/

theorem Blk.besideJobs_logEvent (b : Blk) (i : Inst) (kind tiles : Nat) :
    b.besideJobs (b.logEvent i kind tiles) ∧ b.keepsRegs (b.logEvent i kind tiles) [SCHED.EVT_HEAD_NEXT.key] := by
  obtain ⟨evt, used, x, hx, log⟩ : ∃ evt used x, x = ({ b with sched := { b.sched with evt := evt } } : Blk) ∧
      b.logEvent i kind tiles = Blk.ringStep x SCHED.EVT_HEAD_NEXT SCHED.EVT_HEAD_OVF used := ⟨_, _, _, rfl, rfl⟩
  have regs := x.keepsRegs_ringStep (next := SCHED.EVT_HEAD_NEXT) (ovf := SCHED.EVT_HEAD_OVF) used rfl
  obtain ⟨r, step⟩ := x.ringStep_regs SCHED.EVT_HEAD_NEXT SCHED.EVT_HEAD_OVF used
  have all : b.keepsRegs (b.logEvent i kind tiles) [SCHED.EVT_HEAD_NEXT.key] := fun k hk => by
    rw [log, regs k hk, hx]
    rfl
  refine ⟨⟨all.otherPages (by decide), evt, b.sched.insts, ?_⟩, all⟩
  rw [log, step, hx]
  exact ⟨_, _, _, _, _, rfl⟩

theorem Blk.besideJobs_missInst (b : Blk) (i : Inst) :
    b.besideJobs (b.missInst i) ∧ (b.missInst i).flag SCHED.IRQ_RAW_MISSED = true := by
  obtain ⟨x, hx⟩ : ∃ x, ((b.bumpSat SCHED.MISSED).raise SCHED.IRQ_RAW_MISSED).captureOwnFree Page.SCHED 0x01 = x := ⟨_, rfl⟩
  have miss : b.missInst i = x.logEvent i 0x01 i.mask := by rw [← hx]; rfl
  obtain ⟨beside, regs⟩ := x.besideJobs_logEvent i 0x01 i.mask
  have flag : x.flag SCHED.IRQ_RAW_MISSED = true := by
    rw [← hx]
    exact (Blk.flag_captureOwnFree_hIrq _ Page.SCHED 0x01 (bit := 0) (by decide)).trans
      (Blk.flag_raise_same _ SCHED.IRQ_RAW_MISSED (by unfold Fld.fits; decide) (by decide))
  have first : b.besideJobs x := by
    rw [← hx]
    refine .behind ?_ (((b.keepsBehind_bumpSat _).raise _).captureOwnFree _ _)
    exact (((b.keepsOtherPages_refl _).set (f := SCHED.MISSED) _ (by decide)).set (f := SCHED.IRQ_RAW_MISSED) 1 (by decide)).trans
      (Blk.keepsOtherPages_captureOwnFree _ 0x01 (by decide))
  rw [miss]
  exact ⟨first.trans beside, (regs.flag (f := SCHED.IRQ_RAW_MISSED) (by decide)).trans flag⟩

/-- A missed job. -/
def missedInst (i : Inst) : Inst := { i with state := .missed, why := (gapJob, 0x01) }

/-- A job that has not started in time. -/
def Blk.instLate (b : Blk) (i : Inst) : Bool := i.unstarted && i.lastStart < b.instAge i

theorem Blk.missInstances_eq (b : Blk) :
    b.missInstances = b.each (List.range b.sched.insts.length) (Blk.instStep Blk.instLate Blk.missInst missedInst) := rfl

theorem Blk.missInstances_stepped (b : Blk) :
    b.instsStepped Blk.instLate missedInst SCHED.IRQ_RAW_MISSED b.sched.insts.length b.missInstances := by
  rw [b.missInstances_eq]
  refine Blk.instSteps_stepped (fun b b' h i => ?_) (fun b i => (b.besideJobs_missInst i).1) (fun b i => (b.besideJobs_missInst i).2) b _
  unfold Blk.instLate Blk.instAge
  rw [h.linesSince]

theorem Blk.missInstances_none {b : Blk} (h : ∀ i ∈ b.sched.insts, i.unstarted = true → b.instAge i ≤ i.lastStart) : b.missInstances = b := by
  rw [b.missInstances_eq]
  refine Blk.each_fixed _ (fun k _ => ?_)
  unfold Blk.instStep
  split
  next i here =>
    refine if_neg fun late => ?_
    simp only [Blk.instLate, Bool.and_eq_true, decide_eq_true_eq] at late
    exact absurd (h i (List.mem_of_getElem? here) late.1) (by omega)
  · rfl

/-- A job that has run out of time, beside its state. -/
def Blk.jobLate (b : Blk) (i : Inst) : Blk :=
  (((b.bumpSat SCHED.TIMEOUTS).raise SCHED.IRQ_RAW_TIMEOUT).captureOwnFree Page.SCHED 0x02).logEvent i 0x02
    (maskOf 16 (fun t => bitAt i.mask t && !bitAt i.done t))

/-- A job past its watchdog. -/
def timedOutInst (i : Inst) : Inst := { i with state := .timedOut, why := (gapJob, 0x02) }

theorem Blk.besideJobs_jobLate (b : Blk) (i : Inst) :
    b.besideJobs (b.jobLate i) ∧ (b.jobLate i).flag SCHED.IRQ_RAW_TIMEOUT = true := by
  obtain ⟨x, hx⟩ : ∃ x, ((b.bumpSat SCHED.TIMEOUTS).raise SCHED.IRQ_RAW_TIMEOUT).captureOwnFree Page.SCHED 0x02 = x := ⟨_, rfl⟩
  have late : b.jobLate i = x.logEvent i 0x02 (maskOf 16 (fun t => bitAt i.mask t && !bitAt i.done t)) := by rw [← hx]; rfl
  obtain ⟨beside, regs⟩ := x.besideJobs_logEvent i 0x02 (maskOf 16 (fun t => bitAt i.mask t && !bitAt i.done t))
  have flag : x.flag SCHED.IRQ_RAW_TIMEOUT = true := by
    rw [← hx]
    exact (Blk.flag_captureOwnFree_hIrq _ Page.SCHED 0x02 (bit := 1) (by decide)).trans
      (Blk.flag_raise_same _ SCHED.IRQ_RAW_TIMEOUT (by unfold Fld.fits; decide) (by decide))
  have first : b.besideJobs x := by
    rw [← hx]
    refine .behind ?_ (((b.keepsBehind_bumpSat _).raise _).captureOwnFree _ _)
    exact (((b.keepsOtherPages_refl _).set (f := SCHED.TIMEOUTS) _ (by decide)).set (f := SCHED.IRQ_RAW_TIMEOUT) 1 (by decide)).trans
      (Blk.keepsOtherPages_captureOwnFree _ 0x02 (by decide))
  rw [late]
  exact ⟨first.trans beside, (regs.flag (f := SCHED.IRQ_RAW_TIMEOUT) (by decide)).trans flag⟩

theorem Blk.jobTimeouts_eq (b : Blk) :
    b.jobTimeouts = b.each (List.range b.sched.insts.length) (Blk.instStep Blk.jobExpired Blk.jobLate timedOutInst) := by
  unfold Blk.jobTimeouts
  congr 1
  funext b k
  have insts : (((b.bumpSat SCHED.TIMEOUTS).raise SCHED.IRQ_RAW_TIMEOUT).captureOwnFree Page.SCHED 0x02).sched = b.sched :=
    (((b.keepsBehind_bumpSat SCHED.TIMEOUTS).raise SCHED.IRQ_RAW_TIMEOUT).captureOwnFree Page.SCHED 0x02).proj (·.sched) (fun _ _ _ _ _ => rfl)
  dsimp only
  rw [insts]
  rfl

theorem Blk.jobTimeouts_stepped (b : Blk) :
    b.instsStepped Blk.jobExpired timedOutInst SCHED.IRQ_RAW_TIMEOUT b.sched.insts.length b.jobTimeouts := by
  rw [b.jobTimeouts_eq]
  refine Blk.instSteps_stepped (fun b b' h i => ?_) (fun b i => (b.besideJobs_jobLate i).1) (fun b i => (b.besideJobs_jobLate i).2) b _
  unfold Blk.jobExpired
  rw [h.linesSince]

/-! ### A queue pair in error leaves jobs that have timed out -/

/-- SCHED's interrupts, the number of instances, the timed-out ones and what the fleet knows stand. -/
def Blk.keepsLate (b b' : Blk) : Prop :=
  b'.word SCHED.IRQ_RAW_TIMEOUT.key = b.word SCHED.IRQ_RAW_TIMEOUT.key ∧ b'.sched.insts.length = b.sched.insts.length ∧
  b'.fleet = b.fleet ∧ ∀ (k : Nat) (i : Inst), b.sched.insts[k]? = some i → i.state = .timedOut → b'.sched.insts[k]? = some i

theorem Blk.keepsLate_refl (b : Blk) : b.keepsLate b := ⟨rfl, rfl, rfl, fun _ _ h _ => h⟩

theorem Blk.keepsLate.trans {a b c : Blk} (h : a.keepsLate b) (k : b.keepsLate c) : a.keepsLate c := by
  obtain ⟨word, length, fleet, late⟩ := h
  obtain ⟨word', length', fleet', late'⟩ := k
  exact ⟨word'.trans word, length'.trans length, fleet'.trans fleet, fun j i hi out => late' j i (late j i hi out) out⟩

theorem Blk.keepsLate.of_sched {b b' : Blk} (word : b'.word SCHED.IRQ_RAW_TIMEOUT.key = b.word SCHED.IRQ_RAW_TIMEOUT.key) (sched : b'.sched = b.sched)
    (fleet : b'.fleet = b.fleet := by rfl) : b.keepsLate b' := by
  refine ⟨word, by rw [sched], fleet, fun k i h _ => ?_⟩
  rw [sched]
  exact h

theorem Blk.keepsLate_each {α : Type} (f : Blk → α → Blk) (hf : ∀ (b : Blk) i, b.keepsLate (f b i)) (l : List α) (b : Blk) : b.keepsLate (b.each l f) := by
  induction l generalizing b with
  | nil => exact b.keepsLate_refl
  | cons i l ih => exact (hf b i).trans (ih (f b i))

theorem Blk.keepsBehind.late {b b' : Blk} {l : List Nat} (h : b.keepsBehind b') (regs : b.keepsOtherPages b' l) (page : Page.SCHED ∉ l) :
    b.keepsLate b' := .of_sched (regs _ page) (h.proj (·.sched) (fun _ _ _ _ _ => rfl)) (h.proj (·.fleet) (fun _ _ _ _ _ => rfl))

theorem Blk.besideBulk.late {b b' : Blk} (h : b.besideBulk b') : b.keepsLate b' :=
  .of_sched (h.1 _ (by decide)) (h.proj (·.sched) (fun _ _ _ _ _ _ => rfl)) (h.proj (·.fleet) (fun _ _ _ _ _ _ => rfl))

theorem Blk.besideSends.late {ps pages : List Nat} {b b' : Blk} (h : Blk.besideSends ps pages b b') (page : Page.SCHED ∉ pages) : b.keepsLate b' :=
  .of_sched (h.words _ page) (h.proj (·.sched) (fun _ _ _ _ _ _ _ => rfl)) (h.proj (·.fleet) (fun _ _ _ _ _ _ _ => rfl))

theorem Blk.keepsLate_set (b : Blk) {f : Fld} (v : Nat) (h : SCHED.IRQ_RAW_TIMEOUT.key ≠ f.key) : b.keepsLate (b.set f v) :=
  .of_sched (Blk.word_set_ne b f v h) (b.set_sched f v) (b.set_fleet f v)

theorem Blk.keepsLate_free (b : Blk) (w : Nat) : b.keepsLate (b.free w).2 := .of_sched rfl rfl
theorem Blk.keepsLate_fab (b : Blk) (x : FabSt) : b.keepsLate { b with fab := x } := .of_sched rfl rfl

theorem Blk.keepsLate_sendRouted (b : Blk) (k : Packet) : b.keepsLate (b.sendRouted k) := by
  unfold Blk.sendRouted
  split
  · exact .of_sched rfl rfl
  split
  · exact .of_sched rfl rfl
  rw [b.forward_eq ownInput k 0]
  split
  · exact (b.besideSends_dropPacket 0 k.dst).late (by decide)
  next port =>
    split
    · exact (b.besideSends_dropPacket 1 k.dst).late (by decide)
    split
    · exact (b.besideSends_dropPacket 2 k.dst).late (by decide)
    split
    · exact (b.besideSends_dropPacket 3 k.dst).late (by decide)
    · exact (b.besideSends_sendOn (Nat.lt_of_not_le port) ownInput k 0).late (by decide)

/-- The list of instances with some changed, none of them timed out. -/
theorem Blk.keepsLate_insts (b : Blk) {l : List Inst} (length : l.length = b.sched.insts.length)
    (late : ∀ (k : Nat) (i : Inst), b.sched.insts[k]? = some i → i.state = .timedOut → l[k]? = some i) : b.keepsLate (b.setInsts l) :=
  ⟨rfl, length, rfl, late⟩

theorem Blk.keepsLate_failQueue (b : Blk) (q cause : Nat) : b.keepsLate (b.failQueue q cause) := by
  unfold Blk.failQueue
  extract_lets uses ks
  split
  · refine b.keepsLate_insts (List.length_map ..) (fun k i h out => ?_)
    rw [List.getElem?_map, h, Option.map_some, out]
    rfl
  · split
    · exact b.keepsLate_refl
    next k last =>
      refine b.keepsLate_insts (List.length_modify ..) (fun j i h out => ?_)
      have ended : j ≠ k := by
        rintro rfl
        have mem := List.mem_filter.mp (List.mem_of_getLast? last)
        have state := mem.2
        rw [h] at state
        dsimp only at state
        rw [out] at state
        cases state
      exact (List.getElem?_modify_ne _ _ (Ne.symm ended)).trans h

theorem Blk.keepsLate_queueCompletion (b : Blk) (q : Nat) (bytes : List Byte) : b.keepsLate (b.queueCompletion q bytes) := .of_sched rfl rfl

theorem Blk.keepsLate_completeJob (b : Blk) (q : Nat) (j : SendJob) (status cause psn : Nat) : b.keepsLate (b.completeJob q j status cause psn) := by
  unfold Blk.completeJob
  split
  · split
    · exact b.keepsLate_refl
    · exact .of_sched rfl rfl
  · exact .of_sched rfl rfl

theorem Blk.keepsLate_errMarked (b : Blk) (q status cause : Nat) : b.keepsLate (b.errMarked q status cause) := by
  obtain ⟨-, -, -, -, -, pages, behind⟩ := b.errMarked_shows q status cause
  exact behind.late pages (by decide)

theorem Blk.keepsLate_errLogged (b : Blk) (q cause : Nat) (asTarget : Bool) (psn : Nat) : b.keepsLate (b.errLogged q cause asTarget psn) := by
  have logged : b.keepsLate (b.logQp cause q (b.get (XQP.QCTX0_PEER_NODE q)) asTarget psn) := by
    obtain ⟨x, used, log, sched, fleet⟩ : ∃ x used, b.logQp cause q (b.get (XQP.QCTX0_PEER_NODE q)) asTarget psn =
        Blk.ringStep x XQP.QLOG_HEAD_NEXT XQP.QLOG_HEAD_OVF used ∧ x.sched = b.sched ∧ x.fleet = b.fleet := ⟨_, _, rfl, rfl, rfl⟩
    obtain ⟨r, step⟩ := x.ringStep_regs XQP.QLOG_HEAD_NEXT XQP.QLOG_HEAD_OVF used
    refine .of_sched ((b.logQp_shows cause q (b.get (XQP.QCTX0_PEER_NODE q)) asTarget psn).1 _ (by decide)) ?_ ?_
    · rw [log, step]
      exact sched
    · rw [log, step]
      exact fleet
  unfold Blk.errLogged
  split
  · exact logged
  · exact logged.trans ((Blk.keepsBehind_capture _ _ _ _ _).late (Blk.keepsOtherPages_capture _ cause 7 q (page := Page.XQP) (by decide)) (by decide))

theorem Blk.keepsLate_errEnded (b : Blk) (q status cause psn : Nat) : b.keepsLate (b.errEnded q status cause psn) := by
  have ended : b.keepsLate ((b.queueCompletion q (b.completionBytes status 2 q cause 0 0 0 psn)).endEngineWaits (sendEng q)) := .of_sched rfl rfl
  unfold Blk.errEnded Blk.when
  split
  · exact ended.trans (Blk.keepsLate_failQueue _ q cause)
  · exact ended

theorem Blk.keepsLate_errJobs (b : Blk) (q : Nat) (x : QpSt) (status cause : Nat) (owner : Option Nat) (psn : Nat) :
    b.keepsLate (b.errJobs q x status cause owner psn) := by
  refine (Blk.keepsLate_each _ (fun c j => ?_) _ b).trans (Blk.keepsLate_each _ (fun c i => ?_) _ _)
  · split <;> exact c.keepsLate_completeJob _ _ _ _ _
  · split
    · exact c.keepsLate_refl
    · exact .of_sched rfl rfl

theorem Blk.keepsLate_flushRing (q : Nat) (l : List Nat) : ∀ b : Blk, b.keepsLate (Blk.flushRing l b q) := by
  induction l with
  | nil => exact fun b => .of_sched rfl rfl
  | cons i rest ih =>
    intro b
    have read := (b.besideBulk_bulkRead (sendEng q) (b.get (XQP.QCTX4_SQ_BASE_LO q) + 2 ^ 32 * b.get (XQP.QCTX5_SQ_BASE_HI q) + 32 * i) 32).late
    unfold Blk.flushRing
    dsimp only
    split
    · exact read.trans (.of_sched rfl rfl)
    · refine read.trans (Blk.keepsLate.trans (b := _) ?_ ((Blk.keepsLate_queueCompletion _ q _).trans (ih _)))
      split
      · exact (Blk.besideBulk_fresh _ _).late
      · exact ((Blk.besideBulk_fresh _ _).trans (Blk.besideBulk_fresh _ _)).late

theorem Blk.keepsLate_setQp (b : Blk) (q : Nat) (x : QpSt) : b.keepsLate (b.setQp q x) := .of_sched rfl rfl

theorem Blk.keepsLate_flushMore (b : Blk) (q : Nat) : b.keepsLate (b.flushMore q) := Blk.keepsLate_flushRing q (b.qp q).flush b

theorem Blk.keepsLate_errFlushed (b : Blk) (q : Nat) (x : QpSt) : b.keepsLate (b.errFlushed q x) := by
  have empty : b.keepsLate (b.sqEmptied q) := b.keepsLate_set (f := XQP.QCTX8_SQ_HEAD q) _ (by
    show 0x58018 ≠ 0x45070 + 0x100000 * (q + 1)
    omega)
  exact (empty.trans (Blk.keepsLate_setQp _ q _)).trans (Blk.keepsLate_flushMore _ q)

theorem Blk.keepsLate_qpError (b : Blk) (q status cause : Nat) (owner : Option Nat) (asTarget : Bool) (psn : Nat) :
    b.keepsLate (b.qpError q status cause owner asTarget psn) := by
  by_cases ready : b.qstate q = qsReady
  · rw [Blk.qpError_eq status cause owner asTarget psn ready]
    have marked := b.keepsLate_errMarked q status cause
    have logged := marked.trans (Blk.keepsLate_errLogged _ q cause asTarget psn)
    have ended := logged.trans (Blk.keepsLate_errEnded _ q status cause psn)
    exact (ended.trans (Blk.keepsLate_errJobs _ q _ status cause owner psn)).trans (Blk.keepsLate_errFlushed _ q _)
  · have same : b.qpError q status cause owner asTarget psn = b := if_pos (by simpa using ready)
    rw [same]
    exact b.keepsLate_refl

theorem Blk.keepsLate_qpErrorNotify (b : Blk) (q status cause : Nat) (owner : Option Nat) (psn : Nat) :
    b.keepsLate (b.qpErrorNotify q status cause owner psn) := by
  unfold Blk.qpErrorNotify
  split
  · exact b.keepsLate_refl
  · exact (b.keepsLate_sendRouted _).trans (Blk.keepsLate_qpError _ q status cause owner false psn)

theorem Blk.keepsLate_cqOverflow (b : Blk) (c : Nat) : b.keepsLate (b.cqOverflow c) := by
  have full : b.keepsLate (b.set (XQP.CQ_STATUS_OVERFLOW c) 1) := b.keepsLate_set _ (by
    show 0x58018 ≠ 0x45214 + 0x20 * c
    omega)
  refine (full.trans (Blk.keepsLate_set _ (f := XQP.IRQ_RAW_CQ_OVERFLOW) 1 (by decide))).trans (Blk.keepsLate_each _ (fun b q => ?_) _ _)
  exact (b.keepsLate_free 8).trans (Blk.keepsLate_qpErrorNotify _ q _ _ _ _)

theorem Blk.keepsLate_drainCompletions (b : Blk) : b.keepsLate b.drainCompletions := by
  unfold Blk.drainCompletions
  refine Blk.keepsLate.trans (b := { b with fab := { b.fab with completions := [] } }) (.of_sched rfl rfl)
    (Blk.keepsLate_each (fun (b : Blk) (x : Completion) => _) (fun b x => ?_) b.fab.completions _)
  have wrote := (b.besideBulk_bulkWrite (complEng x.cq)
    (b.get (XQP.CQ_BASE_LO x.cq) + 2 ^ 32 * b.get (XQP.CQ_BASE_HI x.cq) + 16 * b.get (XQP.CQ_TAIL x.cq)) x.bytes).late
  dsimp only
  split
  · exact .of_sched rfl rfl
  split
  · exact Blk.keepsLate.trans (.of_sched rfl rfl) (Blk.keepsLate_cqOverflow _ x.cq)
  split
  · exact wrote.trans (.of_sched rfl rfl)
  · have tail : SCHED.IRQ_RAW_TIMEOUT.key ≠ (XQP.CQ_TAIL x.cq).key := by
      show 0x58018 ≠ 0x45210 + 0x20 * x.cq
      omega
    exact (wrote.trans (Blk.keepsLate_set _ (f := XQP.CQ_TAIL x.cq) _ tail)).trans (Blk.keepsLate_set _ (f := XQP.IRQ_RAW_CQ0_3) _ (by decide))

theorem Blk.keepsLate_qpForced {b : Blk} {q : Nat} (ready : b.qstate q = qsReady) : b.keepsLate (b.qpRequest q (.erg 0) qsError) := by
  have forced : b.qpRequest q (.erg 0) qsError = (b.qpErrorNotify q 1 0 none (b.get (XQP.QCTX1_SQ_PSN q))).drainCompletions := by
    unfold Blk.qpRequest
    rw [ready]
    rfl
  rw [forced]
  exact (b.keepsLate_qpErrorNotify q 1 0 none _).trans (Blk.keepsLate_drainCompletions _)

/-! ### Job timeouts -/

/-- A queue pair put into ERROR by Erg, when it is READY. -/
def Blk.forceQp (b : Blk) (q : Nat) : Blk := if b.qstate q == qsReady then b.qpRequest q (.erg 0) qsError else b

theorem Blk.keepsLate_forceQp (b : Blk) (q : Nat) : b.keepsLate (b.forceQp q) := by
  unfold Blk.forceQp
  split
  next ready => exact Blk.keepsLate_qpForced (beq_iff_eq.mp ready)
  · exact b.keepsLate_refl

theorem Blk.jobTimeoutsDue_off {b : Blk} (h : b.powered Page.SCHED = false) : b.jobTimeoutsDue = b := if_pos (by rw [h]; rfl)

theorem Blk.jobTimeoutsDue_on {b : Blk} (h : b.powered Page.SCHED = true) :
    b.jobTimeoutsDue = b.jobTimeouts.each ((b.sched.insts.filter b.jobExpired).flatMap (fun i => i.qps)) Blk.forceQp :=
  if_neg (by rw [h]; decide)

theorem Blk.jobTimeoutsDue_shows {b : Blk} (on : b.powered Page.SCHED = true) :
    let t := b.jobTimeoutsDue
    (∀ (k : Nat) (i : Inst), b.sched.insts[k]? = some i → b.jobExpired i = true →
      t.sched.insts[k]? = some (timedOutInst i) ∧ t.flag SCHED.IRQ_RAW_TIMEOUT = true) ∧
    t.sched.insts.length = b.sched.insts.length ∧
    ((∀ i ∈ b.sched.insts, b.jobExpired i = true → i.qps = []) → b.besideJobs t) := by
  intro t
  have stepped := b.jobTimeouts_stepped
  have effect : t = _ := Blk.jobTimeoutsDue_on on
  obtain ⟨x, hx⟩ : ∃ x, b.jobTimeouts = x := ⟨_, rfl⟩
  rw [hx] at stepped effect
  obtain ⟨word, length, -, late⟩ := Blk.keepsLate_each Blk.forceQp Blk.keepsLate_forceQp ((b.sched.insts.filter b.jobExpired).flatMap (fun i => i.qps)) x
  rw [← effect] at word length late
  refine ⟨fun k i here expired => ?_, length.trans stepped.2.1, fun none_ => ?_⟩
  · obtain ⟨now, flag⟩ := stepped.all here expired
    exact ⟨late k _ now rfl, (congrArg (fun v => v != 0) (Blk.get_of_word_eq word)).trans flag⟩
  · have empty : (b.sched.insts.filter b.jobExpired).flatMap (fun i => i.qps) = [] :=
      List.flatMap_eq_nil_iff.mpr fun i mem => none_ i (List.mem_filter.mp mem).1 (List.mem_filter.mp mem).2
    rw [empty] at effect
    exact effect ▸ stepped.1

/-! ### Instances open -/

/-- What INSTANCE_OPEN does with one job, the fires held in hand. -/
def Blk.openStep (b : Blk) (st : List Inst × List Nat) (i : Inst) : List Inst × List Nat :=
  if i.state == .waiting && !i.opened && i.start ≤ b.instAge i then
    if !i.data then (st.1 ++ [{ i with opened := true, state := .due }], st.2)
    else if st.2.contains i.entry then (st.1 ++ [{ i with opened := true, state := .due }], st.2.erase i.entry)
    else (st.1 ++ [{ i with opened := true }], st.2)
  else (st.1 ++ [i], st.2)

theorem Blk.openInstances_insts (b : Blk) : b.openInstances.sched.insts = (b.sched.insts.foldl b.openStep ([], b.sched.fires)).1 := rfl

/-- Each job leaves one. -/
theorem Blk.openStep_one (b : Blk) (st : List Inst × List Nat) (i : Inst) : ∃ j r, b.openStep st i = (st.1 ++ [j], r) := by
  unfold Blk.openStep
  split
  · split
    · exact ⟨_, _, rfl⟩
    · split <;> exact ⟨_, _, rfl⟩
  · exact ⟨_, _, rfl⟩

theorem Blk.openFold_prefix (b : Blk) (l : List Inst) (st : List Inst × List Nat) : ∃ m, (l.foldl b.openStep st).1 = st.1 ++ m := by
  induction l generalizing st with
  | nil => exact ⟨[], (List.append_nil _).symm⟩
  | cons i l ih =>
    obtain ⟨j, r, step⟩ := b.openStep_one st i
    obtain ⟨m, rest⟩ := ih (st.1 ++ [j], r)
    exact ⟨j :: m, by rw [List.foldl_cons, step, rest, List.append_assoc]; rfl⟩

theorem Blk.openFold_get (b : Blk) {j : Inst} (i : Inst) (own : ∀ st : List Inst × List Nat, (b.openStep st i).1 = st.1 ++ [j]) :
    ∀ (l : List Inst) (k : Nat) (st : List Inst × List Nat), l[k]? = some i → (l.foldl b.openStep st).1[st.1.length + k]? = some j := by
  intro l
  induction l with
  | nil => intro k st h; cases h
  | cons x l ih =>
    intro k st h
    rw [List.foldl_cons]
    cases k with
    | zero =>
      obtain rfl : x = i := Option.some.inj h
      obtain ⟨m, rest⟩ := b.openFold_prefix l (b.openStep st x)
      rw [rest, own st, Nat.add_zero, List.append_assoc, List.getElem?_append_right (Nat.le_refl _), Nat.sub_self]
      rfl
    | succ k =>
      obtain ⟨y, r, step⟩ := b.openStep_one st x
      have later := ih k (b.openStep st x) h
      rw [step] at later ⊢
      rw [show (st.1 ++ [y], r).1.length + k = st.1.length + (k + 1) by simp only [List.length_append, List.length_singleton]; omega] at later
      exact later

/-- A TIME entry's job opens at its START. -/
theorem Blk.openInstances_get {b : Blk} {k : Nat} {i : Inst} (here : b.sched.insts[k]? = some i) (waits : i.state = .waiting) (closed : i.opened = false)
    (time : i.data = false) :
    (i.start ≤ b.instAge i → b.openInstances.sched.insts[k]? = some { i with opened := true, state := .due }) ∧
    (b.instAge i < i.start → b.openInstances.sched.insts[k]? = some i) := by
  have get {j : Inst} (own : ∀ st : List Inst × List Nat, (b.openStep st i).1 = st.1 ++ [j]) : b.openInstances.sched.insts[k]? = some j := by
    rw [b.openInstances_insts]
    have found := b.openFold_get i own b.sched.insts k ([], b.sched.fires) here
    rwa [List.length_nil, Nat.zero_add] at found
  have idle : (i.state == .waiting && !i.opened) = true := by rw [waits, closed]; rfl
  refine ⟨fun reached => get fun st => ?_, fun before => get fun st => ?_⟩
  · unfold Blk.openStep
    rw [if_pos (by rw [idle, Bool.true_and]; exact decide_eq_true reached), if_pos (by rw [time]; rfl)]
  · unfold Blk.openStep
    rw [if_neg (by rw [idle, Bool.true_and, decide_eq_true_iff]; omega)]

/-! ### Heartbeats -/

/-- A due point, noted. -/
def Blk.dueNoted (b : Blk) : Blk :=
  { b with sched := { b.sched with alive := false, silent := !b.sched.alive, lastDue := some b.ep.line } }

theorem Blk.heartbeatDue_idle {b : Blk} (h : b.dueNow = false ∨ b.powered Page.SCHED = false ∨ b.sched.lastDue = some b.ep.line) : b.heartbeatDue = b := by
  refine if_neg fun due => ?_
  rw [Bool.and_eq_true, Bool.and_eq_true, bne_iff_ne] at due
  obtain ⟨⟨now, on⟩, fresh⟩ := due
  exact h.elim (fun no => absurd (no.symm.trans now) (by decide))
    (fun h => h.elim (fun off => absurd (off.symm.trans on) (by decide)) (fun same => fresh same))

theorem Blk.heartbeatDue_on {b : Blk} (now : b.dueNow = true) (on : b.powered Page.SCHED = true) (fresh : b.sched.lastDue ≠ some b.ep.line) :
    b.heartbeatDue = if b.get SCHED.JOIN_CTRL_JSTATE = jsJoined ∧ b.flag SCHED.HB_CTRL_EN = true ∧ b.sched.alive = true then
      b.dueNoted.joinOnPorts (indicesWhere 4 (fun p => b.dueNoted.portOpen p && !b.dueNoted.flag (XPORT.STATUS_TAP_MODE p)))
        (b.dueNoted.joinBytes 2 (b.dueNoted.get XROUTE.NODE_ID) 0 0 (coordNat b.dueNoted.now) (1 + 2 * bitNat b.dueNoted.fleet.fault))
      else b.dueNoted := by
  have due : (b.dueNow && b.powered Page.SCHED && b.sched.lastDue != some b.ep.line) = true := by
    rw [now, on, Bool.true_and, Bool.true_and, bne_iff_ne]
    exact fresh
  have test : (b.get SCHED.JOIN_CTRL_JSTATE == 3 && b.flag SCHED.HB_CTRL_EN && b.sched.alive) = true ↔
      b.get SCHED.JOIN_CTRL_JSTATE = jsJoined ∧ b.flag SCHED.HB_CTRL_EN = true ∧ b.sched.alive = true := by
    rw [Bool.and_eq_true, Bool.and_eq_true, beq_iff_eq, and_assoc]
    rfl
  by_cases sends : b.get SCHED.JOIN_CTRL_JSTATE = jsJoined ∧ b.flag SCHED.HB_CTRL_EN = true ∧ b.sched.alive = true
  · rw [if_pos sends]
    exact (if_pos due).trans (if_pos (test.mpr sends))
  · rw [if_neg sends]
    exact (if_pos due).trans (if_neg (mt test.mp sends))

/-- A port whose heartbeats are lost. -/
def Blk.hbLate (b : Blk) (p : Nat) : Bool :=
  (b.curL == 1 || b.curL == b.frameLen / 2 + 1) && decide (max 1 (b.get SCHED.HB_CTRL_HB_MISS) ≤ nth b.sched.missedHb p 0)

/-- LOST of a port. -/
def Blk.hbLost (b : Blk) (p : Nat) : Bool := bitAt (b.get SCHED.HB_STATUS_LOST) p

/-- LOST set and raised. -/
def Blk.loseHb (b : Blk) (p : Nat) : Blk :=
  ((b.set SCHED.HB_STATUS_LOST (putBits (b.get SCHED.HB_STATUS_LOST) p 1 1)).raise SCHED.IRQ_RAW_HB_LOST).captureOwnFree Page.SCHED 0x07

theorem Blk.loseHb_shows (b : Blk) (p : Nat) :
    (∀ q < 4, (b.loseHb p).hbLost q = if q = p then true else b.hbLost q) ∧ b.keepsRegs (b.loseHb p) (SCHED.HB_STATUS_LOST.key :: captureKeys Page.SCHED) ∧
    b.keepsBehind (b.loseHb p) := by
  obtain ⟨x, hx⟩ : ∃ x, b.set SCHED.HB_STATUS_LOST (putBits (b.get SCHED.HB_STATUS_LOST) p 1 1) = x := ⟨_, rfl⟩
  have effect : b.loseHb p = (x.raise SCHED.IRQ_RAW_HB_LOST).captureOwnFree Page.SCHED 0x07 := by rw [← hx]; rfl
  have bits : x.get SCHED.HB_STATUS_LOST = putBits (b.get SCHED.HB_STATUS_LOST) p 1 (bitNat true) % 2 ^ 4 := by
    rw [← hx]
    exact b.get_set_same SCHED.HB_STATUS_LOST _ (by unfold Fld.fits; decide)
  have first : b.keepsRegs x (SCHED.HB_STATUS_LOST.key :: captureKeys Page.SCHED) := by
    rw [← hx]
    exact (b.keepsRegs_refl _).set (f := SCHED.HB_STATUS_LOST) _ List.mem_cons_self
  have regs : x.keepsRegs (b.loseHb p) (captureKeys Page.SCHED) := by
    rw [effect]
    exact ((x.keepsRegs_refl _).raise (f := SCHED.IRQ_RAW_HB_LOST) (by decide)).trans (Blk.keepsRegs_captureOwnFree _ Page.SCHED 0x07)
  refine ⟨fun q hq => ?_, first.trans (regs.mono (fun k hk => List.mem_cons_of_mem _ hk)), ?_⟩
  · rw [Blk.hbLost, regs.get (f := SCHED.HB_STATUS_LOST) (by decide), bits, bitAt_putBits _ _ hq]
    rfl
  · rw [effect, ← hx]
    exact ((b.keepsBehind_set _ _).raise _).captureOwnFree _ _

/-- What the ports of a list leave. -/
def Blk.hbCounted (l : List Nat) (b t : Blk) : Prop :=
  (∀ q < 4, t.hbLost q = (b.hbLost q || (decide (q ∈ l) && b.hbLate q))) ∧
  b.keepsRegs t (SCHED.HB_STATUS_LOST.key :: captureKeys Page.SCHED) ∧ b.keepsBehind t

theorem Blk.hbLate_congr {b t : Blk} {l : List Nat} (regs : b.keepsRegs t l) (clear : EPOCH.FRAME_MODE_MODE.key ∉ l ∧ SCHED.HB_CTRL_HB_MISS.key ∉ l)
    (behind : b.keepsBehind t) (q : Nat) : t.hbLate q = b.hbLate q := by
  have cur : t.curL = b.curL := behind.proj (fun b => (b.ep.line - b.ep.base).toNat) (fun _ _ _ _ _ => rfl)
  have len : t.frameLen = b.frameLen := congrArg frameLenOf (regs.get (f := EPOCH.FRAME_MODE_MODE) clear.1)
  have sched : t.sched = b.sched := behind.proj (·.sched) (fun _ _ _ _ _ => rfl)
  rw [Blk.hbLate, Blk.hbLate, cur, len, sched, regs.get (f := SCHED.HB_CTRL_HB_MISS) clear.2]

/-- One port looked at. -/
def Blk.hbStep (ended : Bool) (b : Blk) (p : Nat) : Blk :=
  if ended && max 1 (b.get SCHED.HB_CTRL_HB_MISS) ≤ nth b.sched.missedHb p 0 && !bitAt (b.get SCHED.HB_STATUS_LOST) p then b.loseHb p else b

theorem Blk.heartbeatLost_eq (b : Blk) : b.heartbeatLost = b.each [0, 1, 2, 3] (Blk.hbStep (b.curL == 1 || b.curL == b.frameLen / 2 + 1)) := rfl

theorem Blk.hbStep_counted {b t : Blk} {l : List Nat} {ended : Bool} {p : Nat} (hp : p < 4)
    (time : ended = (b.curL == 1 || b.curL == b.frameLen / 2 + 1)) (h : b.hbCounted l t) : b.hbCounted (l ++ [p]) (t.hbStep ended p) := by
  obtain ⟨lost, regs, behind⟩ := h
  have late := Blk.hbLate_congr regs (by decide) behind
  have test : (ended && decide (max 1 (t.get SCHED.HB_CTRL_HB_MISS) ≤ nth t.sched.missedHb p 0)) = b.hbLate p := by
    have sched : t.sched = b.sched := behind.proj (·.sched) (fun _ _ _ _ _ => rfl)
    rw [time, regs.get (f := SCHED.HB_CTRL_HB_MISS) (by decide), sched]
    rfl
  unfold Blk.hbStep
  rw [test]
  split
  next yes =>
    rw [Bool.and_eq_true] at yes
    obtain ⟨bits, regs', behind'⟩ := t.loseHb_shows p
    refine ⟨fun q hq => ?_, regs.trans regs', behind.trans behind'⟩
    rw [bits q hq]
    split
    next same =>
      subst same
      simp [yes.1]
    next ne =>
      rw [lost q hq]
      simp [ne]
  next no =>
    refine ⟨fun q hq => ?_, regs, behind⟩
    rw [lost q hq]
    by_cases same : q = p
    · subst same
      have already : b.hbLate q = true → t.hbLost q = true := fun late => by
        by_contra clear
        rw [Bool.not_eq_true] at clear
        exact no (by rw [late, Bool.true_and, Bool.not_eq_true']; exact clear)
      rw [lost q hq] at already
      cases h : b.hbLate q with
      | false => simp
      | true =>
        rw [h] at already
        simpa using already rfl
    · simp [same]

theorem Blk.heartbeatLost_counted (b : Blk) : b.hbCounted [0, 1, 2, 3] b.heartbeatLost := by
  have start : b.hbCounted [] b := ⟨fun q _ => by simp, b.keepsRegs_refl _, b.keepsBehind_refl⟩
  have zero := Blk.hbStep_counted (p := 0) (by decide) rfl start
  have one := Blk.hbStep_counted (p := 1) (by decide) rfl zero
  have two := Blk.hbStep_counted (p := 2) (by decide) rfl one
  have three := Blk.hbStep_counted (p := 3) (by decide) rfl two
  rw [b.heartbeatLost_eq]
  exact three

theorem Blk.heartbeatLost_shows (b : Blk) :
    (∀ p < 4, b.heartbeatLost.hbLost p = (b.hbLost p || b.hbLate p)) ∧ b.heartbeatLost.sched = b.sched ∧
    b.keepsOtherPages b.heartbeatLost [Page.SCHED] ∧ b.keepsMemory b.heartbeatLost := by
  obtain ⟨lost, regs, behind⟩ := b.heartbeatLost_counted
  refine ⟨fun p hp => (lost p hp).trans ?_, behind.proj (·.sched) (fun _ _ _ _ _ => rfl), regs.otherPages (by decide), behind.memory⟩
  rw [decide_eq_true ((by decide : ∀ p < 4, p ∈ [0, 1, 2, 3]) p hp), Bool.true_and]

/-! ### SCHED's registers as written -/

theorem Blk.writeBlock_sched (b : Blk) (a : Agent) (off : Nat) (v : Word) : b.writeBlock a Page.SCHED off v =
    if off < 0x040 then b.writeHeader Page.SCHED off v
    else if isShlCoord Page.SCHED off then (b.storeKey (b.reachKey Page.SCHED off) v).touchShl Page.SCHED
    else b.writeSched a off v := rfl

theorem Blk.writeBlock_schedOwn (b : Blk) (a : Agent) {off : Nat} (v : Word) (own : (decide (off < 0x040) || isShlCoord Page.SCHED off) = false) :
    b.writeBlock a Page.SCHED off v = b.writeSched a off v := by
  rw [Bool.or_eq_false_iff, decide_eq_false_iff_not] at own
  rw [b.writeBlock_sched, if_neg own.1, own.2]
  rfl

theorem Blk.writeSched_ent (b : Blk) (a : Agent) {w : Nat} (v : Word) (h : w < 4) : b.writeSched a (0x054 + 4 * w) v = b.writeEnt a w v := by
  have at_ : (0x054 + 4 * w - 0x054) / 4 = w := by omega
  have inside : (decide (0x054 ≤ 0x054 + 4 * w) && decide (0x054 + 4 * w < 0x064)) = true := by
    rw [Bool.and_eq_true, decide_eq_true_iff, decide_eq_true_iff]
    omega
  unfold Blk.writeSched
  rw [at_]
  exact if_pos inside

theorem Blk.writeSched_kick (b : Blk) (a : Agent) (v : Word) : b.writeSched a 0x064 v = b.kick a (bitsAt v.toNat 0 10) (bitsAt v.toNat 16 16) := by
  unfold Blk.writeSched
  exact (if_neg (by decide)).trans (if_pos (by decide))

theorem Blk.writeSched_alive (b : Blk) (a : Agent) (v : Word) : b.writeSched a 0x068 v = b.writeAlive v.toNat := by
  unfold Blk.writeSched
  exact (if_neg (by decide)).trans ((if_neg (by decide)).trans (if_pos (by decide)))

theorem Blk.writeSched_joinSend (b : Blk) (a : Agent) (v : Word) : b.writeSched a 0x110 v = b.joinSend v.toNat := by
  unfold Blk.writeSched
  exact (if_neg (by decide)).trans ((if_neg (by decide)).trans ((if_neg (by decide)).trans (if_pos (by decide))))

/-- A granted write of one of SCHED's own registers. -/
theorem Node.writeReg_sched {n : Node} {a : Agent} {off : Nat} {v : Word} {b : Blk} (own : blockRegister Page.SCHED off = true)
    (register : (decide (off < 0x040) || isShlCoord Page.SCHED off) = false) (hg : n.b.granted a Page.SCHED off v) (effect : n.b.writeSched a off v = b) :
    n.writeReg a Page.SCHED off true v = { n with b := b.answered a Page.SCHED off } := by
  rw [n.writeReg_block a v own hg, n.b.writeBlock_schedOwn a v register, effect]

/-- ALIVE noted. -/
def Blk.aliveNoted (b : Blk) : Blk := { b with sched := { b.sched with alive := true, silent := false } }

theorem Blk.writeAlive_one (b : Blk) :
    b.writeAlive 1 = if b.powered Page.SAFE then b.aliveNoted.set SAFE.ALIVE_STATUS_F b.ep.frame.toNat else b.aliveNoted := by
  unfold Blk.writeAlive
  exact if_pos (by decide)

theorem Blk.writeAlive_shows (b : Blk) :
    let t := b.writeAlive 1
    t.sched = { b.sched with alive := true, silent := false } ∧
    (b.powered Page.SAFE = true → t.get SAFE.ALIVE_STATUS_F = b.ep.frame.toNat % 2 ^ SAFE.ALIVE_STATUS_F.w) ∧
    (b.powered Page.SAFE = false → t.regs = b.regs) ∧ b.keepsRegs t [SAFE.ALIVE_STATUS_F.key] ∧ b.keepsMemory t := by
  intro t
  have effect : t = _ := b.writeAlive_one
  have words : b.keepsRegs b.aliveNoted [SAFE.ALIVE_STATUS_F.key] := fun _ _ => rfl
  by_cases on : b.powered Page.SAFE = true
  · rw [if_pos on] at effect
    rw [effect]
    exact ⟨Blk.set_sched _ _ _, fun _ => Blk.get_set_same _ SAFE.ALIVE_STATUS_F _ (by unfold Fld.fits; decide),
      fun off => absurd (on.symm.trans off) (by decide), words.set (f := SAFE.ALIVE_STATUS_F) _ (List.mem_singleton_self _), rfl, rfl, rfl⟩
  · rw [if_neg on] at effect
    rw [effect]
    exact ⟨rfl, fun h => absurd h on, fun _ => rfl, words, rfl, rfl, rfl⟩

/-- The fields of a word written to KICK. -/
theorem kick_fields {e f : Nat} (he : e < 1024) (hf : f < 65536) :
    bitsAt (BitVec.ofNat 32 (e + 65536 * f)).toNat 0 10 = e ∧ bitsAt (BitVec.ofNat 32 (e + 65536 * f)).toNat 16 16 = f := by
  rw [BitVec.toNat_ofNat, Nat.mod_eq_of_lt (by omega)]
  unfold bitsAt
  omega

/-- A kick refused. -/
def Blk.kickLate (b : Blk) (a : Agent) : Blk := (b.raise SCHED.IRQ_RAW_KICK_LATE).captureFree Page.SCHED 0x06 (agentCode a)

theorem Blk.kick_eq (b : Blk) (a : Agent) (e f : Nat) :
    let mine : Inst → Bool := fun i => i.entry == e && i.frame.toNat % 65536 == f && !i.unstarted
    (b.sched.insts.findIdx? mine = none → b.kick a e f = b.kickLate a) ∧
    (∀ (k : Nat) (i : Inst), b.sched.insts.findIdx? mine = some k → b.sched.insts[k]? = some i →
      ((i.retryBy = 0 ∨ i.kicked = true ∨ i.retryBy < b.instAge i) → b.kick a e f = b.kickLate a) ∧
      (i.retryBy ≠ 0 → i.kicked = false → b.instAge i ≤ i.retryBy → b.kick a e f =
        (b.setInsts (setNth b.sched.insts k { i with kicked := true, opened := true, state := .due, done := 0, why := (0, 0) })).startInst k)) := by
  intro mine
  refine ⟨fun none_ => ?_, fun k i found here => ?_⟩
  · unfold Blk.kick
    dsimp only
    rw [none_]
    rfl
  · have test : (i.retryBy == 0 || i.kicked || decide (i.retryBy < b.instAge i)) = true ↔ i.retryBy = 0 ∨ i.kicked = true ∨ i.retryBy < b.instAge i := by
      rw [Bool.or_eq_true, Bool.or_eq_true, beq_iff_eq, decide_eq_true_iff, or_assoc]
    unfold Blk.kick
    dsimp only
    rw [found]
    dsimp only
    rw [here]
    refine ⟨fun late => if_pos (test.mpr late), fun retry fresh time => if_neg (mt test.mp ?_)⟩
    rintro (zero | kicked | over_)
    · exact retry zero
    · exact absurd (fresh.symm.trans kicked) (by decide)
    · omega

theorem Blk.writeEnt_eq (b : Blk) (a : Agent) (w : Nat) (v : Word) :
    let bank := b.get SCHED.ENT_SEL_BANK
    let k := (bank * 1024 + b.get SCHED.ENT_SEL_ENTRY) * 4 + w
    b.writeEnt a w v = if bank = b.get SCHED.SCHED_CTRL_BANK then b.captureFree Page.SCHED 0x05 (agentCode a)
      else { b with sched := { b.sched with words := Tbl.put (dflt 0) b.sched.words k v } } := by
  intro bank k
  unfold Blk.writeEnt
  simp only [beq_iff_eq]
  rfl

/-! ### JOIN packets -/

theorem Blk.joinReceive_eq (b : Blk) (p : Nat) (d : List Byte) :
    let kind := leAt d 0 1
    let tail := b.get SCHED.JRX_TAIL
    let entry := (d ++ List.replicate 48 0).take 48 ++ natLe 1 p ++ List.replicate 7 0 ++ natLe 8 (coordNat b.now)
    let stored := b.bulkPost 1 (b.get SCHED.JRX_BASE_LO + 2 ^ 32 * b.get SCHED.JRX_BASE_HI + 64 * tail) entry
    ((b.active Page.SCHED = false ∨ kind = 0 ∨ 7 < kind) → b.joinReceive p d = b) ∧
    (b.active Page.SCHED = true → kind = 2 → b.joinReceive p d = { b with sched := { b.sched with heard := setNth b.sched.heard p true } }) ∧
    (b.active Page.SCHED = true → 1 ≤ kind → kind ≤ 7 → kind ≠ 2 →
      b.joinReceive p d = if (tail + 1) % 64 = b.get SCHED.JRX_HEAD then b.captureOwnFree Page.SCHED 0x08
        else (stored.set SCHED.JRX_TAIL (tail + 1)).raise SCHED.IRQ_RAW_JOIN_RX) := by
  intro kind tail entry stored
  have test : (!b.active Page.SCHED || kind == 0 || decide (7 < kind)) = true ↔ b.active Page.SCHED = false ∨ kind = 0 ∨ 7 < kind := by
    rw [Bool.or_eq_true, Bool.or_eq_true, Bool.not_eq_true', beq_iff_eq, decide_eq_true_iff, or_assoc]
  have listed (on : b.active Page.SCHED = true) (low : 1 ≤ kind) (high : kind ≤ 7) :
      ¬(!b.active Page.SCHED || kind == 0 || decide (7 < kind)) = true := fun h =>
    (test.mp h).elim (fun off => absurd (off.symm.trans on) (by decide)) (fun out => by omega)
  refine ⟨fun h => if_pos (test.mpr h), fun on two => ?_, fun on low high other => ?_⟩
  · exact (if_neg (listed on (by omega) (by omega))).trans (if_pos (beq_iff_eq.mpr two))
  · refine (if_neg (listed on low high)).trans ((if_neg (fun h => other (beq_iff_eq.mp h))).trans ?_)
    simp only [beq_iff_eq]
    rfl

/-- Settles O43: the instances by `instSteps_stepped`, a job's queue pairs by `keepsLate_qpForced`, heartbeats by `heartbeatLost_counted`. -/
theorem scheduleInstancesOpenRunAndEnd : Obligations.ScheduleInstancesOpenRunAndEnd := by
  unfold Obligations.ScheduleInstancesOpenRunAndEnd
  refine ⟨fun s => ⟨fun off => ⟨?_, ?_, ?_⟩, fun off => ⟨?_, ?_⟩⟩, fun s on => ⟨?_, fun k i here unstarted late => ?_, fun none_ => ?_, fun off => ?_, fun check => ?_⟩,
    fun b k i here waits closed time => Blk.openInstances_get here waits closed time, fun s on => ?_, fun s => ⟨fun h => ?_, fun now on fresh => ?_⟩, fun s => ?_,
    fun s a ha => ⟨fun hg => ?_, fun e f he hf hg => ?_, fun w v hw hg => ?_, fun v hg => ?_⟩, fun s p d hp => ?_, fun b p d => b.joinReceive_eq p d⟩
  · exact exec_blk_same (f := fun b => b.openDue) rfl rfl (if_neg (by rw [off]; decide))
  · exact exec_blk_same (f := fun b => b.missDue) rfl rfl (if_neg (by rw [off]; decide))
  · exact exec_blk_same (f := fun b => b.overrunCheck) rfl rfl (if_pos (by rw [off]; rfl))
  · exact exec_blk_same (f := fun b => b.jobTimeoutsDue) rfl rfl (Blk.jobTimeoutsDue_off off)
  · exact exec_blk_same (f := fun b => b.heartbeatDue) rfl rfl (Blk.heartbeatDue_idle (.inr (.inl off)))
  · exact exec_blk (f := fun b => b.openDue) rfl rfl (if_pos on)
  · have stepped := s.blk.missInstances_stepped
    have due : s.blk.missDue = s.blk.missInstances := if_pos on
    obtain ⟨t, ht⟩ : ∃ t, s.blk.missInstances = t := ⟨_, rfl⟩
    rw [ht] at stepped due
    have test : s.blk.instLate i = true := by
      rw [Blk.instLate, unstarted, Bool.true_and]
      exact decide_eq_true late
    obtain ⟨missed, flag⟩ := stepped.all here test
    exact completes_of_blk (f := fun b => b.missDue) rfl rfl due ⟨missed, stepped.2.1, flag, stepped.1.1, stepped.1.memory.node⟩
  · exact exec_blk_same (f := fun b => b.missDue) rfl rfl ((if_pos on).trans (Blk.missInstances_none none_))
  · exact exec_blk_same (f := fun b => b.overrunCheck) rfl rfl (if_pos (by rw [off, Bool.and_false]; rfl))
  · exact exec_blk (f := fun b => b.overrunCheck) rfl rfl (if_neg (by rw [on, check]; decide))
  · obtain ⟨late, length, beside⟩ := Blk.jobTimeoutsDue_shows on
    obtain ⟨t, ht⟩ : ∃ t, s.blk.jobTimeoutsDue = t := ⟨_, rfl⟩
    rw [ht] at late length beside
    refine completes_of_blk (f := fun b => b.jobTimeoutsDue) rfl rfl ht ⟨fun k i here runs time => late k i here ?_, length,
      fun none_ => ⟨(beside none_).1, (beside none_).memory.node⟩⟩
    rw [Blk.jobExpired, runs]
    exact decide_eq_true time
  · exact exec_blk_same (f := fun b => b.heartbeatDue) rfl rfl (Blk.heartbeatDue_idle (h.imp_right .inr))
  · intro noted
    exact exec_blk (f := fun b => b.heartbeatDue) rfl rfl (Blk.heartbeatDue_on now on fresh)
  · obtain ⟨lost, sched, pages, memory⟩ := s.blk.heartbeatLost_shows
    obtain ⟨t, ht⟩ : ∃ t, s.blk.heartbeatLost = t := ⟨_, rfl⟩
    rw [ht] at lost sched pages memory
    exact completes_of_blk (f := fun b => b.heartbeatLost) rfl rfl ht ⟨lost, sched, pages, memory.node⟩
  · have written := Node.writeReg_sched (n := s.node) (by decide) (by decide) hg ((s.node.b.writeSched_alive a 1))
    obtain ⟨sched, on, off, regs, memory⟩ := s.node.b.writeAlive_shows
    obtain ⟨t, ht⟩ : ∃ t, s.node.b.writeAlive 1 = t := ⟨_, rfl⟩
    rw [show (1 : Word).toNat = 1 from rfl, ht] at written
    rw [ht] at sched on off regs memory
    exact completes_of_node (f := fun n => n.writeReg a Page.SCHED 0x068 true 1) rfl ha written ⟨sched, on, off, regs, memory.node⟩
  · intro mine ends late
    have wf : (Instr.schedKick a e f).wf = true := by simp [Instr.wf, ha, he, hf]
    have act {b : Blk} (h : s.node.b.kick a e f = b) : ends b := by
      obtain ⟨low, high⟩ := kick_fields he hf
      have kicked := s.node.b.writeSched_kick a (BitVec.ofNat 32 (e + 65536 * f))
      rw [low, high, h] at kicked
      exact exec_next (f := fun n => n.writeReg a Page.SCHED 0x064 true (BitVec.ofNat 32 (e + 65536 * f))) rfl wf
        (Node.writeReg_sched (by decide) (by decide) hg kicked)
    obtain ⟨none_, some_⟩ := s.node.b.kick_eq a e f
    refine ⟨fun h => act (none_ h), fun k i found here => ?_⟩
    obtain ⟨refused, taken⟩ := some_ k i found here
    exact ⟨fun h => act (refused h), fun retry fresh time => act (taken retry fresh time)⟩
  · intro bank k
    have wf : (Instr.entDataWrite a w v).wf = true := by simp [Instr.wf, ha, hw]
    have facts := (by decide : ∀ w < 4, blockRegister Page.SCHED (0x054 + 4 * w) = true ∧
      (decide (0x054 + 4 * w < 0x040) || isShlCoord Page.SCHED (0x054 + 4 * w)) = false) w hw
    have written := (s.node.b.writeSched_ent a v hw).trans (s.node.b.writeEnt_eq a w v)
    refine ⟨fun other => ?_, fun inForce => ?_⟩
    · have stored := written.trans (if_neg other)
      exact completes_of_node (f := fun n => n.writeReg a Page.SCHED (0x054 + 4 * w) true v) rfl wf (Node.writeReg_sched facts.1 facts.2 hg stored)
        ⟨Tbl.get_put_same _ _ _ _, fun j hj => Tbl.get_put_ne _ _ _ hj, rfl, rfl, rfl, rfl, rfl⟩
    · have refused := written.trans (if_pos inForce)
      exact exec_next (f := fun n => n.writeReg a Page.SCHED (0x054 + 4 * w) true v) rfl wf (Node.writeReg_sched facts.1 facts.2 hg refused)
  · intro n self
    exact exec_next (f := fun n => n.writeReg a Page.SCHED 0x110 true v) rfl ha
      (Node.writeReg_sched (by decide) (by decide) hg (s.node.b.writeSched_joinSend a v))
  · exact exec_blk (f := fun b => b.joinTaken p d) rfl (decide_eq_true hp) rfl

end Sys2Proof.Machine
end

section
/-! PROOFS. How a fleet forms, loses and restores nodes (spec/13 R326, R330 to R340). -/

namespace Sys2Proof.Machine

/-! ### What does not touch the fleet's state -/

theorem Blk.keepsBehind.fleet {b b' : Blk} (h : b.keepsBehind b') : b'.fleet = b.fleet := h.proj (·.fleet) (fun _ _ _ _ _ => rfl)
theorem Blk.besideBulk.fleet {b b' : Blk} (h : b.besideBulk b') : b'.fleet = b.fleet := h.proj (·.fleet) (fun _ _ _ _ _ _ => rfl)
theorem Blk.keepsLate.fleet {b b' : Blk} (h : b.keepsLate b') : b'.fleet = b.fleet := h.2.2.1

theorem Blk.each_fleet {α : Type} {f : Blk → α → Blk} (hf : ∀ (b : Blk) i, (f b i).fleet = b.fleet) (l : List α) (b : Blk) :
    (b.each l f).fleet = b.fleet := by
  induction l generalizing b with
  | nil => rfl
  | cons i l ih => exact (ih (f b i)).trans (hf b i)

theorem Blk.setTile_fleet (b : Blk) (t : Nat) (x : TileSt) : (b.setTile t x).fleet = b.fleet := rfl

theorem Blk.ccFault_fleet (b : Blk) (t : Nat) (gone : CcJob → Bool) : (b.ccFault t gone).fleet = b.fleet := by
  obtain same | ⟨ws, js, h⟩ := b.ccFault_cases t gone
  · rw [same]
  · rw [h]
    simp -implicitDefEqProofs only [Blk.ccGone, Blk.ccShow, Blk.raise_fleet, Blk.set_fleet, Blk.setTile_fleet]

theorem Blk.failTile_fleet (b : Blk) (t : Nat) (why : Nat × Nat) : (b.failTile t why).fleet = b.fleet := rfl
theorem Blk.endGroupWaits_fleet (b : Blk) (t cause : Nat) : (b.endGroupWaits t cause).fleet = b.fleet := rfl
theorem Blk.stopEngines_fleet (b : Blk) (t : Nat) : (b.stopEngines t).fleet = b.fleet := rfl

theorem Blk.haltGroup_fleet (b : Blk) (t cause : Nat) : (b.haltGroup t cause).fleet = b.fleet := by
  unfold Blk.haltGroup
  split
  · simp -implicitDefEqProofs only [Blk.ccFault_fleet, Blk.stopEngines_fleet, Blk.endGroupWaits_fleet, Blk.raise_fleet, Blk.set_fleet, Blk.failTile_fleet]
  · rfl

theorem Blk.ringStep_fleet (b : Blk) (next ovf : Fld) (used : Bool) : (b.ringStep next ovf used).fleet = b.fleet := by
  obtain ⟨r, step⟩ := b.ringStep_regs next ovf used
  rw [step]

theorem Blk.tileError_fleet (b : Blk) (t cause req slot : Nat) : (b.tileError t cause req slot).fleet = b.fleet :=
  (Blk.ringStep_fleet _ _ _ _).trans ((Blk.setTile_fleet _ _ _).trans (b.keepsBehind_capture (tilePage t) cause 7 req).fleet)

theorem Blk.portFault_fleet (b : Blk) (t req cause slot : Nat) : (b.portFault t req cause slot).fleet = b.fleet := by
  simp -implicitDefEqProofs only [Blk.portFault, Blk.when, apply_ite Blk.fleet, Blk.haltGroup_fleet, Blk.failTile_fleet, Blk.emit_fleet, Blk.raise_fleet,
    Blk.tileError_fleet, ite_self]

theorem Blk.bulkPost_fleet (b : Blk) (cls a : Nat) (bs : List Byte) : (b.bulkPost cls a bs).fleet = b.fleet := by
  unfold Blk.bulkPost
  split
  · rfl
  · split
    · rfl
    · exact (b.besideBulk_unitWrite cls a bs).fleet

theorem Blk.endMoverWaits_fleet (b : Blk) (c : Nat) : (b.endMoverWaits c).fleet = b.fleet := by
  have waits := Blk.each_fleet (f := fun b t => b.clearUnitWaits t c 9) (fun b t => b.setTile_fleet t _) (List.range 16) b
  unfold Blk.endMoverWaits
  exact waits

theorem Blk.setMover_fleet (b : Blk) (c : Nat) (x : MoverCh) : (b.setMover c x).fleet = b.fleet := rfl
theorem Blk.orphanMover_fleet (b : Blk) (c : Nat) : (b.orphanMover c).fleet = b.fleet := rfl

theorem Blk.moverLeave_fleet (b : Blk) (c state : Nat) : (b.moverLeave c state).fleet = b.fleet := by
  rw [Blk.moverLeave, Blk.setMstate, Blk.set_fleet, Blk.setMover_fleet, Blk.orphanMover_fleet, Blk.endMoverWaits_fleet]

theorem Blk.captureOwnFree_fleet (b : Blk) (page cause : Nat) : (b.captureOwnFree page cause).fleet = b.fleet :=
  (b.keepsBehind_captureOwnFree page cause).fleet

/-- The channel left, halted. -/
def Blk.moverHalted (b : Blk) (c cause : Nat) : Blk :=
  (((b.moverLeave c msHalted).set (MOVER.CH_STATE_LAST_CAUSE c) cause).raise (hIrq Page.MOVER (8 + c))).captureOwnFree Page.MOVER cause

theorem Blk.moverHalted_fleet (b : Blk) (c cause : Nat) : (b.moverHalted c cause).fleet = b.fleet := by
  rw [Blk.moverHalted, Blk.captureOwnFree_fleet, Blk.raise_fleet, Blk.set_fleet, Blk.moverLeave_fleet]

theorem Blk.moverHalt_fleet (b : Blk) (c cause : Nat) (d : Option MDesc) : (b.moverHalt c cause d).fleet = b.fleet := by
  cases d with
  | none => exact b.moverHalted_fleet c cause
  | some d =>
    obtain ⟨v, halt⟩ : ∃ v, b.moverHalt c cause (some d) = (b.putStatus c v).moverHalted c cause := ⟨_, rfl⟩
    rw [halt, Blk.moverHalted_fleet, Blk.putStatus, Blk.bulkPost_fleet]

theorem Blk.tagVotes_fleet (b : Blk) (t : Nat) (slots : List Nat) : (b.tagVotes t slots).fleet = b.fleet := by
  refine Blk.each_fleet (fun b s => ?_) _ _
  unfold Blk.tagVote
  split <;> rfl

theorem Blk.finishInit_fleet (b : Blk) (t g : Nat) : (b.finishInit t g).fleet = b.fleet := by
  unfold Blk.finishInit
  split
  · unfold Blk.markMet
    extract_lets ws
    split <;> rfl
  · rfl

theorem Blk.lineFound_fleet (b : Blk) (t line : Nat) : (b.lineFound t line).2.fleet = b.fleet := by
  unfold Blk.lineFound
  extract_lets f
  split
  · rfl
  · dsimp only
    split <;> rfl

theorem Blk.setPoison_fleet (b : Blk) (t line : Nat) (v : Bool) : (b.setPoison t line v).fleet = b.fleet := rfl
theorem Blk.setFlips_fleet (b : Blk) (t line : Nat) (l : List Nat) : (b.setFlips t line l).fleet = b.fleet := rfl

theorem Blk.logPoison_fleet (b : Blk) (t line finder : Nat) : (b.logPoison t line finder).fleet = b.fleet := by
  obtain ⟨x, used, log, fleet⟩ : ∃ x used, b.logPoison t line finder = Blk.ringStep x SPM.POISON_HEAD_NEXT SPM.POISON_HEAD_OVF used ∧
      x.fleet = b.fleet := ⟨_, _, rfl, rfl⟩
  rw [log, Blk.ringStep_fleet, fleet]

theorem Blk.poisonLine_fleet (b : Blk) (t line finder : Nat) : (b.poisonLine t line finder).fleet = b.fleet := by
  rw [Blk.poisonLine, Blk.captureOwnFree_fleet, Blk.raise_fleet, Blk.bumpSat_fleet, Blk.logPoison_fleet, Blk.setFlips_fleet, Blk.setPoison_fleet]

theorem Blk.lineCheck_fleet (b : Blk) (t line req : Nat) : (b.lineCheck t line req).2.fleet = b.fleet := by
  have found := b.lineFound_fleet t line
  unfold Blk.lineCheck
  split
  · rfl
  · generalize b.lineFound t line = r at found ⊢
    obtain ⟨e, x⟩ := r
    dsimp only at found ⊢
    split
    · exact found
    split
    · exact found
    · exact (x.poisonLine_fleet t line req).trans found

theorem Blk.linesCheck_fleet (b : Blk) (t req : Nat) (lines : List Nat) : (b.linesCheck t req lines).2.fleet = b.fleet := by
  have steps (l : List Nat) (st : Bool × Blk) :
      (l.foldl (fun (st : Bool × Blk) line => if st.1 then st.2.lineCheck t line req else st) st).2.fleet = st.2.fleet := by
    induction l generalizing st with
    | nil => rfl
    | cons line l ih =>
      refine (ih _).trans ?_
      dsimp only
      split
      · exact st.2.lineCheck_fleet t line req
      · rfl
  exact steps lines (true, b)

theorem Blk.spmRead_fleet (b : Blk) (t a n req : Nat) : (b.spmRead t a n req).2.2.fleet = b.fleet := by
  have first : (b.initFirst t a n).fleet = b.fleet := Blk.each_fleet (fun b g => b.finishInit_fleet t g) _ _
  have lines := (b.initFirst t a n).linesCheck_fleet t req (linesOf a n)
  unfold Blk.spmRead
  generalize (b.initFirst t a n).linesCheck t req (linesOf a n) = r at lines ⊢
  obtain ⟨ok, x⟩ := r
  dsimp only at lines ⊢
  split
  · exact lines.trans first
  · exact lines.trans first

theorem Blk.placeRead_fleet (b : Blk) (eng space tile off n : Nat) : (b.placeRead eng space tile off n).2.2.fleet = b.fleet := by
  unfold Blk.placeRead
  dsimp only
  split
  · rfl
  split
  · exact b.spmRead_fleet tile off n 10
  · exact (b.besideBulk_bulkRead eng off n).fleet

theorem Blk.rxRead_fleet (b : Blk) (r : RxPkt) (slots : List Nat) : (b.rxRead r slots).2.fleet = b.fleet := by
  unfold Blk.rxRead
  split
  · rfl
  split
  · rfl
  · exact b.placeRead_fleet _ _ _ _ _

theorem Blk.unitWait_fleet (b : Blk) (t src port req slot : Nat) (kind : WaitKind) : (b.unitWait t src port req slot kind).fleet = b.fleet := by
  unfold Blk.unitWait
  split <;> rfl

theorem Blk.rxTry_fleet (b : Blk) (k : Nat) (r : RxPkt) : (b.rxTry k r).fleet = b.fleet := by
  unfold Blk.rxTry
  extract_lets put unreached votes passed hold
  split
  · rfl
  · have read := votes.rxRead_fleet { r with gate := r.gate.drop passed.length } passed
    have voted : votes.fleet = b.fleet := b.tagVotes_fleet r.tile r.gate
    generalize votes.rxRead { r with gate := r.gate.drop passed.length } passed = p at read ⊢
    obtain ⟨r', x⟩ := p
    dsimp only at read ⊢
    split
    · exact (Blk.unitWait_fleet _ _ _ _ _ _ _).trans (read.trans voted)
    · exact read.trans voted

theorem Blk.startRx_fleet (b : Blk) : b.startRx.fleet = b.fleet := by
  unfold Blk.startRx
  split
  · rfl
  · refine Blk.each_fleet (fun b k => ?_) _ _
    split
    · split
      · rfl
      · exact b.rxTry_fleet _ _
    · rfl

theorem Blk.clearUnitWaits_fleet (b : Blk) (t src port : Nat) : (b.clearUnitWaits t src port).fleet = b.fleet := rfl

theorem Blk.updatePause_fleet (b : Blk) : b.updatePause.fleet = b.fleet :=
  b.besideSends_updatePause.proj (·.fleet) (fun _ _ _ _ _ _ _ => rfl)

theorem Blk.dropRx_fleet (b : Blk) (r : RxPkt) : (b.dropRx r).fleet = b.fleet := by
  simp -implicitDefEqProofs only [Blk.dropRx, Blk.updatePause_fleet, Blk.startRx_fleet, apply_ite Blk.fleet, Blk.clearUnitWaits_fleet, ite_self]

theorem Blk.sendNak_fleet (b : Blk) (q syndrome psn cause : Nat) : (b.sendNak q syndrome psn cause).fleet = b.fleet := (b.keepsLate_sendRouted _).fleet

theorem Blk.qpError_fleet (b : Blk) (q status cause : Nat) (owner : Option Nat) (asTarget : Bool) (psn : Nat) :
    (b.qpError q status cause owner asTarget psn).fleet = b.fleet := (b.keepsLate_qpError q status cause owner asTarget psn).fleet

theorem Blk.refuseAccess_fleet (b : Blk) (q psn cause : Nat) : (b.refuseAccess q psn cause).fleet = b.fleet := by
  simp -implicitDefEqProofs only [Blk.refuseAccess, apply_ite Blk.fleet, Blk.qpError_fleet, Blk.sendNak_fleet, Blk.raise_fleet, Blk.bumpSat_fleet, ite_self]

theorem Blk.rxFailed_fleet (b : Blk) (r : RxPkt) (cause : Nat) : (b.rxFailed r cause).fleet = b.fleet := by
  unfold Blk.rxFailed
  refine (Blk.keepsLate_drainCompletions _).fleet.trans (Eq.trans ?_ (b.dropRx_fleet r))
  split
  · exact (Blk.keepsLate_qpErrorNotify _ _ _ _ _ _).fleet
  · exact Blk.refuseAccess_fleet _ _ _ _

theorem Blk.fabricWaitEnds_fleet (b : Blk) (t : Nat) (w : Wait) (cause : Nat) : (b.fabricWaitEnds t w cause).fleet = b.fleet := by
  unfold Blk.fabricWaitEnds
  extract_lets x
  have dropped : x.fleet = b.fleet := rfl
  clear_value x
  split
  · exact ((x.keepsLate_qpErrorNotify _ _ _ _ _).trans (Blk.keepsLate_drainCompletions _)).fleet.trans dropped
  · split
    · exact (x.rxFailed_fleet _ _).trans dropped
    · exact dropped

theorem Blk.endWaits_fleet (b : Blk) (t cause : Nat) : (b.endWaits t cause).fleet = b.fleet := by
  unfold Blk.endWaits
  have ended (x : Blk) (ws : List Wait) := Blk.each_fleet (f := fun (b : Blk) (w : Wait) =>
      if w.req ≤ 7 then b.portFault w.src w.port cause w.slot
      else if w.req == 9 then b.moverHalt w.src (if cause == tcMappedOut then mcMappedOut else cause) (some (b.moverDesc w.src))
      else if w.req == 10 then b.fabricWaitEnds t w (if cause == tcMappedOut then fcMappedOut else fcPower)
      else b) (fun b w => by
    split
    · exact b.portFault_fleet _ _ _ _
    split
    · exact b.moverHalt_fleet _ _ _
    split
    · exact b.fabricWaitEnds_fleet _ _ _
    · rfl) ws x
  exact (Blk.ccFault_fleet _ t _).trans ((ended _ _).trans (b.setTile_fleet t _))

theorem Blk.tileMapOut_fleet (b : Blk) (t : Nat) : (b.tileMapOut t).fleet = b.fleet := by
  unfold Blk.tileMapOut
  extract_lets x y
  have first : x.fleet = b.fleet := Blk.set_fleet _ _ _
  split
  · exact first
  · have halted : y.fleet = x.fleet := (Blk.set_fleet _ _ _).trans (x.haltGroup_fleet t tcMappedOut)
    clear_value x y
    exact (Blk.endWaits_fleet _ t tcMappedOut).trans ((y.setTile_fleet t _).trans (halted.trans first))

/-! ### Records to the clients -/

/-- `b'` differs from `b` in registers, in what was sent, in the streams of the client contexts and in the record of HEALTH alone. -/
def Blk.besideStreams (b b' : Blk) : Prop :=
  ∃ r s c h l, b' = { b with regs := r, sent := s, client := { b.client with ctxs := c, lastHealth := h, healthAt := l } }

theorem Blk.besideStreams_refl (b : Blk) : b.besideStreams b := ⟨_, _, _, _, _, rfl⟩

theorem Blk.besideStreams.trans {a b c : Blk} (h : a.besideStreams b) (k : b.besideStreams c) : a.besideStreams c := by
  obtain ⟨_, _, _, _, _, rfl⟩ := h
  obtain ⟨r, s, x, y, l, rfl⟩ := k
  exact ⟨r, s, x, y, l, rfl⟩

theorem Blk.besideStreams.proj {α : Type} {b b' : Blk} (h : b.besideStreams b') (f : Blk → α)
    (hf : ∀ r s c h l, f { b with regs := r, sent := s, client := { b.client with ctxs := c, lastHealth := h, healthAt := l } } = f b) : f b' = f b := by
  obtain ⟨r, s, c, x, l, rfl⟩ := h
  exact hf r s c x l

theorem Blk.besideStreams_each {α : Type} {f : Blk → α → Blk} (hf : ∀ (b : Blk) i, b.besideStreams (f b i)) (l : List α) (b : Blk) :
    b.besideStreams (b.each l f) := by
  induction l generalizing b with
  | nil => exact b.besideStreams_refl
  | cons i l ih => exact (hf b i).trans (ih (f b i))

theorem Blk.besideStreams_setCl (b : Blk) (k : Nat) (x : ClCtx) : b.besideStreams (b.setCl k x) := ⟨_, _, _, _, _, rfl⟩

theorem Blk.besideStreams_icpTo (b : Blk) (mac : Nat) (dst : HostAddr) (client origin flags type seq : Nat) (payload : List Byte) :
    b.besideStreams (b.icpTo mac dst client origin flags type seq payload) := by
  unfold Blk.icpTo
  split
  · exact b.besideStreams_refl
  · exact Blk.besideStreams_each (fun b i => ⟨_, _, b.client.ctxs, b.client.lastHealth, b.client.healthAt, rfl⟩) _ _

theorem Blk.besideStreams_icpSend (b : Blk) (k type seq : Nat) (payload : List Byte) : b.besideStreams (b.icpSend k type seq payload) :=
  b.besideStreams_icpTo _ _ _ _ _ _ _ _

theorem Blk.besideStreams_pump (b : Blk) (k : Nat) : b.besideStreams (b.pump k) := by
  refine Blk.besideStreams_each (fun b _ => ?_) _ _
  dsimp only
  split
  · exact b.besideStreams_refl
  · exact (b.besideStreams_setCl k _).trans (Blk.besideStreams_icpSend _ _ _ _ _)

theorem Blk.besideStreams_appendItem (b : Blk) (k : Nat) (bytes : List Byte) (keep held : Bool) : b.besideStreams (b.appendItem k bytes keep held) :=
  (b.besideStreams_setCl k _).trans (Blk.besideStreams_pump _ k)

theorem Blk.besideStreams_appendHealth (b : Blk) : b.besideStreams b.appendHealth := by
  have sent := Blk.besideStreams_each (f := fun b k => b.appendItem k b.healthItem false false)
    (fun b k => b.besideStreams_appendItem k b.healthItem false false) b.openClients b
  obtain ⟨x, hx⟩ : ∃ x, b.each b.openClients (fun b k => b.appendItem k b.healthItem false false) = x := ⟨_, rfl⟩
  unfold Blk.appendHealth
  rw [hx] at sent ⊢
  exact sent.trans ⟨x.regs, x.sent, x.client.ctxs, _, _, rfl⟩

theorem Blk.besideStreams_healthChanged (b : Blk) : b.besideStreams b.healthChanged := by
  unfold Blk.healthChanged
  split
  · exact b.besideStreams_refl
  · exact b.besideStreams_appendHealth

/-- HEALTH told when CLIENT runs. -/
theorem Blk.besideStreams_told (b : Blk) : b.besideStreams (b.when (b.active Page.CLIENT) Blk.healthChanged) := by
  unfold Blk.when
  split
  · exact b.besideStreams_healthChanged
  · exact b.besideStreams_refl

/-! ### HELLO -/

theorem Blk.helloSend_off {b : Blk} (h : b.powered Page.SCHED = false) : b.helloSend = b := if_pos (by rw [h]; rfl)

theorem Blk.helloSend_restricted {b : Blk} (on : b.powered Page.SCHED = true) (h : b.flag FUSE.STATUS_RESTRICTIVE = true) :
    b.helloSend = b.setJstate jsIsolated := (if_neg (by rw [on]; decide)).trans (if_pos h)

/-- The node becomes PROBING. -/
def Blk.probing (b : Blk) : Blk :=
  (b.setJstate jsProbing).setFleet { b.fleet with
    agreed := [false, false, false, false], heardAt := [b.ep.line, b.ep.line, b.ep.line, b.ep.line], readyAt := none }

theorem Blk.probing_jstate (b : Blk) : b.probing.jstate = jsProbing :=
  show (b.conf SCHED.JOIN_CTRL_JSTATE jsProbing).get SCHED.JOIN_CTRL_JSTATE = jsProbing from
    (b.conf_get _ _ _).trans (b.get_set_same SCHED.JOIN_CTRL_JSTATE jsProbing (by unfold Fld.fits; decide))

/-- A node that is to probe its partners. -/
def Blk.probesAgain (b : Blk) : Bool :=
  (b.jstate == jsAlone && (List.range 4).any (fun d => b.lstate d != lsDisabled)) ||
    (b.jstate == jsLeft && b.power.mode == 4 && (b.epochState == stLocked || b.epochState == stMaster))

/-- A plan of more than one node is held. -/
def Blk.planMany (b : Blk) : Bool := match b.fleet.plan with | some p => 1 < planN p | none => false

/-- A PROBING node sends. -/
def Blk.helloProbing (b : Blk) : Blk := if b.jstate == jsProbing then b.helloOn b.fleetPorts else b

theorem Blk.helloSend_on {b : Blk} (on : b.powered Page.SCHED = true) (free : b.flag FUSE.STATUS_RESTRICTIVE = false) :
    b.helloSend = Blk.helloProbing (if b.planMany && b.probesAgain then b.probing else b) :=
  (if_neg (by rw [on]; decide)).trans (if_neg (by rw [free]; decide))

theorem Blk.helloSend_state {b : Blk} (on : b.powered Page.SCHED = true) (free : b.flag FUSE.STATUS_RESTRICTIVE = false)
    (alone : b.jstate ≠ jsAlone) (left : b.jstate ≠ jsLeft) : b.helloSend = b.helloProbing := by
  have no : b.probesAgain = false := by
    rw [Blk.probesAgain, beq_eq_false_iff_ne.mpr alone, beq_eq_false_iff_ne.mpr left]
    rfl
  rw [Blk.helloSend_on on free, no, Bool.and_false]
  rfl

theorem Blk.helloProbing_yes {b : Blk} (h : b.jstate = jsProbing) : b.helloProbing = b.helloOn b.fleetPorts := if_pos (by rw [h]; rfl)
theorem Blk.helloProbing_no {b : Blk} (h : b.jstate ≠ jsProbing) : b.helloProbing = b := if_neg (by simpa using h)

theorem Blk.helloSend_again {b : Blk} {p : Plan} (on : b.powered Page.SCHED = true) (free : b.flag FUSE.STATUS_RESTRICTIVE = false)
    (plan : b.fleet.plan = some p) (many : 1 < planN p)
    (again : (b.jstate = jsAlone ∧ (List.range 4).any (fun d => b.lstate d != lsDisabled) = true) ∨
      (b.jstate = jsLeft ∧ b.power.mode = 4 ∧ (b.epochState = stLocked ∨ b.epochState = stMaster))) :
    b.helloSend = b.probing.helloOn b.probing.fleetPorts := by
  have yes : b.probesAgain = true := by
    simp only [Blk.probesAgain, Bool.or_eq_true, Bool.and_eq_true, beq_iff_eq, and_assoc]
    exact again
  have planned : b.planMany = true := by
    unfold Blk.planMany
    rw [plan]
    exact decide_eq_true many
  rw [Blk.helloSend_on on free, planned, yes]
  exact Blk.helloProbing_yes b.probing_jstate

/-- The partner's HELLO heard. -/
def Blk.helloHeard (b : Blk) (port : Nat) : Blk := b.setFleet { b.fleet with heardAt := setNth b.fleet.heardAt port b.ep.line }

/-- A partner agrees. -/
def Blk.helloAgrees (b : Blk) (port : Nat) : Blk := b.setFleet { b.fleet with agreed := setNth b.fleet.agreed port true }

/-- No partner on this port is reported any more. -/
def Blk.isoCleared (b : Blk) (port : Nat) : Blk := if b.client.iso.map (fun x => x.2.1) = some port then b.reportIso none else b

theorem Blk.isoCleared_eq (b : Blk) (port : Nat) :
    (match b.client.iso with | some (_, q, _) => if q == port then b.reportIso none else b | none => b) = b.isoCleared port := by
  unfold Blk.isoCleared
  cases b.client.iso with
  | none => rfl
  | some x =>
    obtain ⟨n, q, f⟩ := x
    by_cases h : q = port
    · subst h
      simp
    · simp [h]

/-- A good HELLO at a node. -/
def Blk.helloTaken (b : Blk) (st port : Nat) : Blk :=
  if st == jsProbing then (if b.cabled.all (fun x => nth b.fleet.agreed x.1 false) then b.fleetReady else b)
  else if b.portOpen port then b
  else (b.openPort port).helloOn [port]

/-- What follows a HELLO that is heard. -/
def Blk.helloFollows (b : Blk) (st port : Nat) (d : List Byte) : Blk :=
  let f := b.helloDiffers port d
  if f != 0 then (b.setFleet { b.fleet with agreed := setNth b.fleet.agreed port false }).reportIso (some (leAt d 1 1, port, f))
  else ((b.helloAgrees port).isoCleared port).helloTaken st port

theorem Blk.helloReceive_eq (b : Blk) (port : Nat) (d : List Byte) : b.helloReceive port d =
    if 4 ≤ port || leAt d 0 1 != 1 || !b.fleetPort port || !(b.jstate == jsProbing || b.jstate == jsReady || b.jstate == jsJoined) then b
    else (b.helloHeard port).helloFollows b.jstate port d := by
  unfold Blk.helloReceive
  extract_lets st src h f src2 a c
  have cleared : c = (a.isoCleared port) := a.isoCleared_eq port
  clear_value c
  subst cleared
  rfl

theorem helloTakes_iff (b : Blk) {port : Nat} (d : List Byte) (hp : port < 4) :
    (4 ≤ port || leAt d 0 1 != 1 || !b.fleetPort port || !(b.jstate == jsProbing || b.jstate == jsReady || b.jstate == jsJoined)) = true ↔
    ¬(leAt d 0 1 = 1 ∧ b.fleetPort port = true ∧ (b.jstate = jsProbing ∨ b.jstate = jsReady ∨ b.jstate = jsJoined)) := by
  rw [decide_eq_false (by omega : ¬4 ≤ port), Bool.false_or, Bool.or_eq_true, Bool.or_eq_true, bne_iff_ne, Bool.not_eq_true', Bool.not_eq_true',
    ← Bool.not_eq_true, ← Bool.not_eq_true, Bool.or_eq_true, Bool.or_eq_true, beq_iff_eq, beq_iff_eq, beq_iff_eq, or_assoc]
  tauto

/-- A HELLO not heard in time. -/
theorem Blk.helloTimeout_eq (b : Blk) (port : Nat) :
    let late := b.jstate = jsProbing ∧ 300000 ≤ b.linesSince (nth b.fleet.heardAt port 0)
    ((¬late ∨ b.cabled.find? (fun x => x.1 == port) = none) → b.helloTimeout port = b) ∧
    (∀ n, b.cabled.find? (fun x => x.1 == port) = some (port, n) → late →
      b.helloTimeout port = (b.setFleet { b.fleet with agreed := setNth b.fleet.agreed port false }).reportIso
        (some (n, port, if b.powered (portPage port) = true ∧ b.flag (XPORT.STATUS_MISCABLED port) = true then 7 else 6))) := by
  intro late
  have test : (b.jstate == jsProbing && decide (300000 ≤ b.linesSince (nth b.fleet.heardAt port 0))) = true ↔ late := by
    rw [Bool.and_eq_true, beq_iff_eq, decide_eq_true_iff]
  unfold Blk.helloTimeout
  refine ⟨fun h => ?_, fun n found is => ?_⟩
  · split
    · rfl
    next found =>
      refine if_neg (fun yes => ?_)
      exact h.elim (fun no => no (test.mp yes)) (fun none_ => by rw [none_] at found; cases found)
  · rw [found]
    refine (if_pos (test.mpr is)).trans ?_
    simp only [← Bool.and_eq_true]
    rfl

/-! ### START, RESTORE and the coordinator -/

/-- What the coordinator of a READY node decides. -/
def Blk.decideReady (b : Blk) (p : Plan) (at_ : Coord) : Blk :=
  let missing := b.planNodes.filter (fun n => !b.fleet.ready.contains n)
  let chief := b.lowest b.fleet.ready
  if missing.isEmpty then (if chief then (b.startNotice 4 b.self 0 0 at_).takeStart 0 0 at_ else b)
  else if missing.length == 1 && planRound p && planDegraded p then
    let n := missing.headD 0
    if chief then (b.startNotice 4 b.self 2 n at_).takeStart 2 n at_ else b
  else
    let b := { b with client := { b.client with missing := missing, blindWhy := 2 } }
    b.when (b.active Page.CLIENT) Blk.healthChanged

/-- A returned node is taken in. -/
def Blk.restoreNode (b : Blk) (n : Nat) (at_ : Coord) : Blk :=
  let b := (b.startNotice 5 n 0 0 at_).takeRestore n at_
  let c := coordNat at_
  let b := (b.set XROUTE.RS_AT_LO (c % 2 ^ 32)).set XROUTE.RS_AT_HI (c / 2 ^ 32)
  b.writeRsCtrl (.erg 0) (1 + 65536 * b.get XROUTE.RT_ARM_EPOCH)

theorem Blk.coordinatorDecide_plan {b : Blk} (extra : Nat) {p : Plan} (plan : b.fleet.plan = some p) : b.coordinatorDecide extra =
    if b.jstate == jsReady then
      (if !b.after b.fleet.readyAt 600000 || b.fleet.switch.isSome then b else b.decideReady p (b.leadFrames extra))
    else if b.jstate == jsJoined && b.get SCHED.VARIANT_VKIND == 2 && b.fleet.switch.isNone then
      (if b.fleet.ready.contains (b.get SCHED.VARIANT_VARG) && b.lowest (b.planNodes.filter (fun m => m != b.get SCHED.VARIANT_VARG)) then
        b.restoreNode (b.get SCHED.VARIANT_VARG) (b.leadFrames extra)
      else b)
    else b := by
  unfold Blk.coordinatorDecide
  rw [plan]
  rfl

theorem Blk.coordinatorDecide_idle {b : Blk} (extra : Nat) (h : b.fleet.plan = none ∨ (b.jstate ≠ jsReady ∧ b.jstate ≠ jsJoined)) :
    b.coordinatorDecide extra = b := by
  cases plan : b.fleet.plan with
  | none =>
    unfold Blk.coordinatorDecide
    rw [plan]
  | some p =>
    obtain none_ | ⟨ready, joined⟩ := h
    · rw [plan] at none_
      cases none_
    · rw [Blk.coordinatorDecide_plan extra plan, if_neg (by simpa using ready), if_neg]
      rw [beq_eq_false_iff_ne.mpr joined, Bool.false_and, Bool.false_and]
      exact Bool.false_ne_true

theorem Blk.coordinatorDecide_ready {b : Blk} (extra : Nat) {p : Plan} (plan : b.fleet.plan = some p) (ready : b.jstate = jsReady) :
    let due := b.after b.fleet.readyAt 600000 = true ∧ b.fleet.switch = none
    (¬due → b.coordinatorDecide extra = b) ∧ (due → b.coordinatorDecide extra = b.decideReady p (b.leadFrames extra)) := by
  intro due
  have test : (!b.after b.fleet.readyAt 600000 || b.fleet.switch.isSome) = true ↔ ¬due := by
    rw [Bool.or_eq_true, Bool.not_eq_true', ← Bool.not_eq_true, Option.isSome_iff_ne_none]
    show _ ↔ ¬(_ ∧ _)
    tauto
  rw [Blk.coordinatorDecide_plan extra plan, if_pos (by rw [ready]; rfl)]
  exact ⟨fun no => if_pos (test.mpr no), fun yes => if_neg (fun h => test.mp h yes)⟩

theorem Blk.decideReady_eq (b : Blk) (p : Plan) (at_ : Coord) :
    let missing := b.planNodes.filter (fun n => !b.fleet.ready.contains n)
    (missing = [] → b.decideReady p at_ = if b.lowest b.fleet.ready = true then (b.startNotice 4 b.self 0 0 at_).takeStart 0 0 at_ else b) ∧
    (∀ n, missing = [n] → planRound p = true → planDegraded p = true →
      b.decideReady p at_ = if b.lowest b.fleet.ready = true then (b.startNotice 4 b.self 2 n at_).takeStart 2 n at_ else b) ∧
    (missing ≠ [] → ¬(missing.length = 1 ∧ planRound p = true ∧ planDegraded p = true) →
      (b.decideReady p at_).client.missing = missing ∧ (b.decideReady p at_).fleet = b.fleet) := by
  intro missing
  refine ⟨fun none_ => ?_, fun n one round degraded => ?_, fun some_ other => ?_⟩
  · unfold Blk.decideReady
    exact if_pos (List.isEmpty_iff.mpr none_)
  · have shape : (missing.length == 1 && planRound p && planDegraded p) = true := by rw [one, round, degraded]; rfl
    have first : missing.headD 0 = n := by rw [one]; rfl
    unfold Blk.decideReady
    refine (if_neg (fun h => absurd (one.symm.trans (List.isEmpty_iff.mp h)) (List.cons_ne_nil _ _))).trans ((if_pos shape).trans ?_)
    dsimp only
    rw [first]
  · have shape : ¬(missing.length == 1 && planRound p && planDegraded p) = true := by
      rw [Bool.and_eq_true, Bool.and_eq_true, beq_iff_eq, and_assoc]
      exact other
    obtain ⟨x, hx⟩ : ∃ x : Blk, { b with client := { b.client with missing := missing, blindWhy := 2 } } = x := ⟨_, rfl⟩
    have told := x.besideStreams_told
    have effect : b.decideReady p at_ = x.when (x.active Page.CLIENT) Blk.healthChanged := by
      rw [← hx]
      unfold Blk.decideReady
      exact (if_neg (fun h => some_ (List.isEmpty_iff.mp h))).trans (if_neg shape)
    rw [← effect] at told
    refine ⟨(told.proj (·.client.missing) (fun _ _ _ _ _ => rfl)).trans ?_, (told.proj (·.fleet) (fun _ _ _ _ _ => rfl)).trans ?_⟩ <;> rw [← hx]

theorem Blk.coordinatorDecide_joined {b : Blk} (extra : Nat) {p : Plan} (plan : b.fleet.plan = some p) (joined : b.jstate = jsJoined) :
    let n := b.get SCHED.VARIANT_VARG
    let returns := b.get SCHED.VARIANT_VKIND = 2 ∧ b.fleet.switch = none ∧ b.fleet.ready.contains n = true ∧
      b.lowest (b.planNodes.filter (fun m => m != n)) = true
    (¬returns → b.coordinatorDecide extra = b) ∧ (returns → b.coordinatorDecide extra = b.restoreNode n (b.leadFrames extra)) := by
  intro n returns
  have first : (b.jstate == jsJoined && b.get SCHED.VARIANT_VKIND == 2 && b.fleet.switch.isNone) = true ↔
      b.get SCHED.VARIANT_VKIND = 2 ∧ b.fleet.switch = none := by
    rw [joined, show (jsJoined == jsJoined) = true from rfl, Bool.true_and, Bool.and_eq_true, beq_iff_eq, Option.isNone_iff_eq_none]
  have second : (b.fleet.ready.contains n && b.lowest (b.planNodes.filter (fun m => m != n))) = true ↔
      b.fleet.ready.contains n = true ∧ b.lowest (b.planNodes.filter (fun m => m != n)) = true := Bool.and_eq_true_iff
  rw [Blk.coordinatorDecide_plan extra plan, if_neg (by rw [joined]; decide)]
  refine ⟨fun no => ?_, fun ⟨kind, switch, ready, lowest⟩ => (if_pos (first.mpr ⟨kind, switch⟩)).trans (if_pos (second.mpr ⟨ready, lowest⟩))⟩
  split
  next yes =>
    refine if_neg fun h => no ?_
    obtain ⟨kind, switch⟩ := first.mp yes
    exact ⟨kind, switch, second.mp h⟩
  · rfl

theorem Blk.startReceive_eq (b : Blk) (port : Nat) (d : List Byte) :
    let takes := b.powered Page.SCHED = true ∧ (leAt d 0 1 = 4 ∨ leAt d 0 1 = 5)
    let at_ := coordOfNat (leAt d 16 8)
    let known := b.fleet.seen.contains (leAt d 0 1, leAt d 1 1, leAt d 14 2)
    let passed := (b.takeNotice port d).2
    ((¬takes ∨ known = true) → b.startReceive port d = b) ∧
    (takes → known = false → leAt d 0 1 = 4 → b.startReceive port d = passed.takeStart (leAt d 40 1) (leAt d 41 1) at_) ∧
    (takes → known = false → leAt d 0 1 = 5 → b.startReceive port d = passed.takeRestore (leAt d 1 1) at_) := by
  intro takes at_ known passed
  have test : (!b.powered Page.SCHED || !(leAt d 0 1 == 4 || leAt d 0 1 == 5)) = true ↔ ¬takes := by
    rw [Bool.or_eq_true, Bool.not_eq_true', Bool.not_eq_true', ← Bool.not_eq_true, ← Bool.not_eq_true, Bool.or_eq_true, beq_iff_eq, beq_iff_eq]
    show _ ↔ ¬(_ ∧ _)
    tauto
  have seen (h : known = true) : b.takeNotice port d = (false, b) := if_pos h
  have fresh (h : known = false) : b.takeNotice port d = (true, passed) :=
    Prod.ext (congrArg (·.1) (if_neg (fun t => absurd (h.symm.trans t) (by decide)) : b.takeNotice port d = _)) rfl
  unfold Blk.startReceive
  refine ⟨fun h => ?_, fun is new start => ?_, fun is new restore => ?_⟩
  · by_cases is : takes
    · refine (if_neg (fun t => test.mp t is)).trans ?_
      rw [seen (h.resolve_left (fun no => no is))]
      rfl
    · exact if_pos (test.mpr is)
  · refine (if_neg (fun t => test.mp t is)).trans ?_
    rw [fresh new]
    exact (if_neg (by decide)).trans (if_pos (by rw [start]; rfl))
  · refine (if_neg (fun t => test.mp t is)).trans ?_
    rw [fresh new]
    exact (if_neg (by decide)).trans (if_neg (by rw [restore]; decide))

/-! ### The loss of a node -/

theorem Blk.lossDetect_eq (b : Blk) (port : Nat) :
    let lost := b.jstate = jsJoined ∧ (b.trained port = false ∨ bitAt (b.get SCHED.HB_STATUS_LOST) port = true)
    let epoch := (b.get XROUTE.RS_STATUS_LAST_EPOCH + 1) % 65536
    ((¬lost ∨ b.cabled.find? (fun x => x.1 == port) = none) → b.lossDetect port = b) ∧
    (∀ n, b.cabled.find? (fun x => x.1 == port) = some (port, n) → lost →
      b.lossDetect port = b.takeLoss n b.now epoch (fun b => b.ownNotice 6 n epoch (coordNat b.now))) := by
  intro lost epoch
  have test : (b.jstate == jsJoined && (!b.trained port || bitAt (b.get SCHED.HB_STATUS_LOST) port)) = true ↔ lost := by
    rw [Bool.and_eq_true, beq_iff_eq, Bool.or_eq_true, Bool.not_eq_true']
  unfold Blk.lossDetect
  refine ⟨fun h => ?_, fun n found is => ?_⟩
  · split
    · rfl
    next found =>
      refine if_neg (fun yes => ?_)
      exact h.elim (fun no => no (test.mp yes)) (fun none_ => by rw [none_] at found; cases found)
  · rw [found]
    exact if_pos (test.mpr is)

theorem Blk.lossReceive_eq (b : Blk) (port : Nat) (d : List Byte) :
    (¬(b.powered Page.SCHED = true ∧ leAt d 0 1 = 6) → b.lossReceive port d = b) ∧
    (b.powered Page.SCHED = true → leAt d 0 1 = 6 →
      b.lossReceive port d = b.takeLoss (leAt d 1 1) (coordOfNat (leAt d 16 8)) (leAt d 12 2) (fun b => b.floodJoin (some port) d)) := by
  have test : (!b.powered Page.SCHED || leAt d 0 1 != 6) = true ↔ ¬(b.powered Page.SCHED = true ∧ leAt d 0 1 = 6) := by
    rw [Bool.or_eq_true, Bool.not_eq_true', ← Bool.not_eq_true, bne_iff_ne]
    tauto
  exact ⟨fun no => if_pos (test.mpr no), fun on kind => if_neg (fun h => test.mp h ⟨on, kind⟩)⟩

theorem Blk.takeLoss_eq {b : Blk} {p : Plan} {n : Nat} (det : Coord) (epoch : Nat) (send : Blk → Blk) (plan : b.fleet.plan = some p)
    (joined : b.jstate = jsJoined) (other : n ≠ b.self) :
    let held := send (b.setFleet { b.fleet with loss := some (n, det), gone := false, ready := b.fleet.ready.filter (· != n) })
    (b.get SCHED.VARIANT_VKIND = 0 → b.fleet.loss = none →
      b.takeLoss n det epoch send = if planRound p then held.prepareLoss n det epoch else held.lossSafe n) ∧
    (b.get SCHED.VARIANT_VKIND ≠ 0 → ¬(b.get SCHED.VARIANT_VKIND = 2 ∧ b.get SCHED.VARIANT_VARG = n) → b.fleet.blind = false →
      b.takeLoss n det epoch send = (send b).lossSafe n) := by
  intro held
  have stays : (b.jstate != jsJoined || n == b.self || (b.get SCHED.VARIANT_VKIND == 2 && b.get SCHED.VARIANT_VARG == n)) = true ↔
      b.get SCHED.VARIANT_VKIND = 2 ∧ b.get SCHED.VARIANT_VARG = n := by
    rw [joined, beq_eq_false_iff_ne.mpr other, show (jsJoined != jsJoined) = false from rfl, Bool.false_or, Bool.false_or, Bool.and_eq_true,
      beq_iff_eq, beq_iff_eq]
  unfold Blk.takeLoss
  rw [plan]
  refine ⟨fun full none_ => ?_, fun variant notHere clear => ?_⟩
  · refine (if_neg (fun h => absurd (full.symm.trans (stays.mp h).1) (by decide))).trans ?_
    simp only [none_, full]
    exact (if_neg (by decide)).trans (if_neg (by decide))
  · refine (if_neg (fun h => notHere (stays.mp h))).trans ((if_pos ?_).trans (if_neg ?_))
    · rw [Bool.or_eq_true, bne_iff_ne]
      exact .inl variant
    · rw [clear, Bool.false_and]
      exact Bool.false_ne_true

/-- The lost node is named to the clients. -/
def Blk.nodeMissing (b : Blk) (n : Nat) : Blk :=
  { b with client := { b.client with
    missing := n :: b.client.missing.filter (· != n), blindWhy := 1
    blindSince := if b.client.missing.isEmpty then b.ep.frame else b.client.blindSince } }

theorem Blk.lossSafe_steps (b : Blk) (n : Nat) : b.lossSafe n = (b.nodeMissing n).fleetSafe.when ((b.nodeMissing n).fleetSafe.active Page.CLIENT)
    Blk.healthChanged := rfl

/-- The instances that go on blind. -/
def Blk.wentBlind (b : Blk) : Blk :=
  let b := b.setFleet { b.fleet with blind := true }
  b.setInsts (b.sched.insts.filter (fun i => b.partRuns i.part || !i.unstarted))

theorem Blk.fleetSafe_steps (b : Blk) : b.fleetSafe = if b.powered Page.SCHED then b.wentBlind.writeIrqForce Page.SCHED 4 else b.wentBlind := rfl

theorem Blk.fleetSafe_shows (b : Blk) : b.fleetSafe.fleet = { b.fleet with blind := true } ∧ b.fleetSafe.client = b.client ∧
    b.fleetSafe.sched.insts = b.wentBlind.sched.insts := by
  rw [b.fleetSafe_steps]
  split <;> exact ⟨rfl, rfl, rfl⟩

theorem Blk.wentBlind_insts (b : Blk) : ∀ i ∈ b.wentBlind.sched.insts, i.unstarted = true → i.part ≠ .trunk ∧ i.part ≠ .scene := by
  intro i mem waits
  have runs := (List.mem_filter.mp (show i ∈ b.sched.insts.filter (fun i => (b.setFleet { b.fleet with blind := true }).partRuns i.part || !i.unstarted)
    from mem)).2
  rw [waits, Bool.not_true, Bool.or_false] at runs
  have part : (!(true && (i.part == .trunk || i.part == .scene))) = true := runs
  rw [Bool.true_and, Bool.not_eq_true', Bool.or_eq_false_iff, beq_eq_false_iff_ne, beq_eq_false_iff_ne] at part
  exact part

theorem Blk.lossSafe_shows (b : Blk) (n : Nat) : (b.lossSafe n).fleet.blind = true ∧ n ∈ (b.lossSafe n).client.missing ∧
    ∀ i ∈ (b.lossSafe n).sched.insts, i.unstarted = true → i.part ≠ .trunk ∧ i.part ≠ .scene := by
  obtain ⟨fleet, client, insts⟩ := (b.nodeMissing n).fleetSafe_shows
  have told := (b.nodeMissing n).fleetSafe.besideStreams_told
  rw [← b.lossSafe_steps n] at told
  refine ⟨?_, ?_, fun i mem => ?_⟩
  · rw [told.proj (·.fleet) (fun _ _ _ _ _ => rfl), fleet]
  · rw [told.proj (·.client.missing) (fun _ _ _ _ _ => rfl), client]
    exact List.mem_cons_self
  · rw [told.proj (·.sched) (fun _ _ _ _ _ => rfl), insts] at mem
    exact (b.nodeMissing n).wentBlind_insts i mem

theorem Blk.lossRouteGo_eq (b : Blk) :
    let may := fun det : Coord => b.fleet.gone = false ∧ b.reached (b.coordPlus det 41) = true ∧
      b.lowest (b.planNodes.filter (fun m => !b.gone.contains m)) = true
    ((∀ n det, b.fleet.loss = some (n, det) → ¬may det) → b.lossRouteGo = b) ∧
    (∀ n det, b.fleet.loss = some (n, det) → may det →
      let c := coordNat (b.coordPlus det 50)
      let timed := (b.set XROUTE.RS_AT_LO (c % 2 ^ 32)).set XROUTE.RS_AT_HI (c / 2 ^ 32)
      b.lossRouteGo = (timed.writeRsCtrl (.erg 0) (1 + 65536 * timed.get XROUTE.RT_ARM_EPOCH)).setFleet { timed.fleet with gone := true }) := by
  intro may
  have test (det : Coord) : (b.fleet.gone || !b.reached (b.coordPlus det 41) || !b.lowest (b.planNodes.filter (fun m => !b.gone.contains m))) = true ↔
      ¬may det := by
    rw [Bool.or_eq_true, Bool.or_eq_true, Bool.not_eq_true', Bool.not_eq_true', ← Bool.not_eq_true, ← Bool.not_eq_true]
    show _ ↔ ¬(_ ∧ _ ∧ _)
    rw [← Bool.not_eq_true]
    tauto
  unfold Blk.lossRouteGo
  refine ⟨fun never => ?_, fun n det loss is => ?_⟩
  · split
    · rfl
    next n det loss => exact if_pos ((test det).mpr (never n det loss))
  · intro c timed
    rw [loss]
    exact if_neg (fun h => (test det).mp h is)

/-! ### QP_SYNC -/

/-- The proposal for a queue pair is outstanding no more. -/
def Blk.offerGone (b : Blk) (q : Nat) : Blk := b.setFleet { b.fleet with offers := b.fleet.offers.filter (fun x => x.qp != q) }

/-- An answer to a proposal. -/
def Blk.syncAnswered (b : Blk) (q send recv : Nat) : Blk :=
  match b.fleet.offers.find? (fun x => x.qp == q) with
  | some x => if x.send == send && x.recv == recv then (b.offerGone q).syncQp q send recv else b
  | none => b

/-- A partner's proposal. -/
def Blk.syncProposed (b : Blk) (t : QpSync) : Blk :=
  let mine := b.fleet.offers.find? (fun x => x.qp == t.qp)
  if mine.isSome && (b.self < t.node || (b.self == t.node && t.qp < t.peer)) then b
  else
    let answered := (b.offerGone t.qp).sendSync t true
    if b.fleet.taken.any (fun x => x.qp == t.qp && x.send == t.send && x.recv == t.recv) && mine.isNone then answered
    else (answered.setFleet { answered.fleet with taken := t :: answered.fleet.taken.filter (fun x => x.qp != t.qp) }).syncQp t.qp t.recv t.send

theorem Blk.qpSyncReceive_steps (b : Blk) (d : List Byte) : b.qpSyncReceive d =
    if leAt d 0 1 != 7 || !b.powered Page.XQP || b.get (XQP.QCTX0_PEER_NODE (leAt d 23 1)) != leAt d 1 1 ||
        b.get (XQP.QCTX0_PEER_QP (leAt d 23 1)) != leAt d 19 1 then b
    else if bitAt (leAt d 3 1) 2 then b.syncAnswered (leAt d 23 1) (leAt d 16 3) (leAt d 20 3)
    else b.syncProposed ⟨leAt d 23 1, leAt d 1 1, leAt d 19 1, leAt d 16 3, leAt d 20 3, b.ep.line⟩ := rfl

theorem Blk.qpSyncReceive_eq (b : Blk) (d : List Byte) :
    let q := leAt d 23 1
    let mine := leAt d 0 1 = 7 ∧ b.powered Page.XQP = true ∧ b.get (XQP.QCTX0_PEER_NODE q) = leAt d 1 1 ∧ b.get (XQP.QCTX0_PEER_QP q) = leAt d 19 1
    (¬mine → b.qpSyncReceive d = b) ∧
    (mine → bitAt (leAt d 3 1) 2 = true → b.qpSyncReceive d = b.syncAnswered q (leAt d 16 3) (leAt d 20 3)) ∧
    (mine → bitAt (leAt d 3 1) 2 = false →
      b.qpSyncReceive d = b.syncProposed ⟨q, leAt d 1 1, leAt d 19 1, leAt d 16 3, leAt d 20 3, b.ep.line⟩) := by
  intro q mine
  have test : (leAt d 0 1 != 7 || !b.powered Page.XQP || b.get (XQP.QCTX0_PEER_NODE q) != leAt d 1 1 || b.get (XQP.QCTX0_PEER_QP q) != leAt d 19 1) = true ↔
      ¬mine := by
    rw [Bool.or_eq_true, Bool.or_eq_true, Bool.or_eq_true, bne_iff_ne, bne_iff_ne, bne_iff_ne, Bool.not_eq_true', ← Bool.not_eq_true]
    show _ ↔ ¬(_ ∧ _ ∧ _ ∧ _)
    tauto
  rw [b.qpSyncReceive_steps]
  refine ⟨fun no => if_pos (test.mpr no), fun is answer => ?_, fun is proposal => ?_⟩
  · exact (if_neg (fun h => test.mp h is)).trans (if_pos answer)
  · exact (if_neg (fun h => test.mp h is)).trans (if_neg (by rw [proposal]; exact Bool.false_ne_true))

theorem Blk.syncAnswered_eq (b : Blk) (q send recv : Nat) :
    let offer := b.fleet.offers.find? (fun x => x.qp == q)
    (∀ x, offer = some x → x.send = send → x.recv = recv → b.syncAnswered q send recv = (b.offerGone q).syncQp q send recv) ∧
    ((∀ x, offer = some x → ¬(x.send = send ∧ x.recv = recv)) → b.syncAnswered q send recv = b) := by
  intro offer
  unfold Blk.syncAnswered
  refine ⟨fun x found sends recvs => ?_, fun never => ?_⟩
  · rw [show b.fleet.offers.find? (fun x => x.qp == q) = some x from found]
    exact if_pos (by rw [Bool.and_eq_true, beq_iff_eq, beq_iff_eq]; exact ⟨sends, recvs⟩)
  · split
    next x found =>
      refine if_neg fun h => never x found ?_
      rwa [Bool.and_eq_true, beq_iff_eq, beq_iff_eq] at h
    · rfl

theorem Blk.syncProposed_eq (b : Blk) (t : QpSync) :
    let offer := b.fleet.offers.find? (fun x => x.qp == t.qp)
    let answered := (b.offerGone t.qp).sendSync t true
    let repeated := b.fleet.taken.any (fun x => x.qp == t.qp && x.send == t.send && x.recv == t.recv)
    let wins := b.self < t.node ∨ (b.self = t.node ∧ t.qp < t.peer)
    (offer.isSome = true → wins → b.syncProposed t = b) ∧
    (offer = none → repeated = true → b.syncProposed t = answered) ∧
    (((offer = none ∧ repeated = false) ∨ (offer.isSome = true ∧ ¬wins)) → b.syncProposed t =
      (answered.setFleet { answered.fleet with taken := t :: answered.fleet.taken.filter (fun x => x.qp != t.qp) }).syncQp t.qp t.recv t.send) := by
  intro offer answered repeated wins
  have test : (offer.isSome && (decide (b.self < t.node) || (b.self == t.node && decide (t.qp < t.peer)))) = true ↔ offer.isSome = true ∧ wins := by
    rw [Bool.and_eq_true, Bool.or_eq_true, Bool.and_eq_true, decide_eq_true_iff, decide_eq_true_iff, beq_iff_eq]
  have same : (repeated && offer.isNone) = true ↔ repeated = true ∧ offer = none := by
    rw [Bool.and_eq_true, Option.isNone_iff_eq_none]
  unfold Blk.syncProposed
  refine ⟨fun some_ win => if_pos (test.mpr ⟨some_, win⟩), fun none_ again => ?_, fun h => ?_⟩
  · exact (if_neg (fun h => by have some_ := (test.mp h).1; rw [none_] at some_; cases some_)).trans (if_pos (same.mpr ⟨again, none_⟩))
  · refine (if_neg (fun yes => ?_)).trans (if_neg (fun yes => ?_))
    · obtain ⟨some_, win⟩ := test.mp yes
      obtain ⟨none_, -⟩ | ⟨-, loses⟩ := h
      · rw [none_] at some_
        cases some_
      · exact loses win
    · obtain ⟨again, none_⟩ := same.mp yes
      obtain ⟨-, new⟩ | ⟨some_, -⟩ := h
      · exact absurd (new.symm.trans again) (by decide)
      · rw [none_] at some_
        cases some_

theorem Blk.qpSyncResend_eq (b : Blk) {q : Nat} (hq : q < 256) :
    let offer := b.fleet.offers.find? (fun x => x.qp == q)
    let first := b.powered Page.XQP = true ∧ b.qstate q = qsError ∧ b.fleet.waits.any (fun x => x.qp == q) = false
    (∀ x, offer = some x → b.linesSince x.sentAt < 300 → b.qpSyncResend q = b) ∧
    (∀ x, offer = some x → 300 ≤ b.linesSince x.sentAt → b.qpSyncResend q = (b.setFleet { b.fleet with
      offers := b.fleet.offers.map (fun y => if y.qp == q then { y with sentAt := b.ep.line } else y) }).sendSync x false) ∧
    (offer = none → ¬first → b.qpSyncResend q = b) ∧
    (offer = none → first →
      let x : QpSync := ⟨q, b.get (XQP.QCTX0_PEER_NODE q), b.get (XQP.QCTX0_PEER_QP q),
        (b.get (XQP.QCTX1_SQ_PSN q) + 2 ^ 23) % 2 ^ 24, (b.get (XQP.QCTX2_RQ_PSN q) + 2 ^ 23) % 2 ^ 24, b.ep.line⟩
      b.qpSyncResend q = (b.setFleet { b.fleet with offers := b.fleet.offers ++ [x] }).sendSync x false) := by
  intro offer first
  have test : (decide (q < 256) && b.powered Page.XQP && b.qstate q == qsError && !b.fleet.waits.any (fun x => x.qp == q)) = true ↔ first := by
    rw [decide_eq_true hq, Bool.true_and, Bool.and_eq_true, Bool.and_eq_true, beq_iff_eq, Bool.not_eq_true', and_assoc]
  unfold Blk.qpSyncResend
  refine ⟨fun x found early => ?_, fun x found late => ?_, fun none_ no => ?_, fun none_ is => ?_⟩
  · rw [show b.fleet.offers.find? (fun x => x.qp == q) = some x from found]
    exact if_neg (by omega)
  · rw [show b.fleet.offers.find? (fun x => x.qp == q) = some x from found]
    exact if_pos late
  · rw [show b.fleet.offers.find? (fun x => x.qp == q) = none from none_]
    exact if_neg (mt test.mp no)
  · rw [show b.fleet.offers.find? (fun x => x.qp == q) = none from none_]
    exact if_pos (test.mpr is)

/-! ### A condemned tile -/

/-- A tile may be condemned. -/
def Blk.mayCondemn (b : Blk) (t : Nat) : Prop :=
  b.powered (tilePage t) = true ∧ (bitAt (b.get SAFE.CANARY_STATUS_FAIL) t = true ∨ b.safe.condemned.contains t = true)

/-- The tile out of the fleet's plan. -/
def Blk.tileOut (b : Blk) (t lead : Nat) : Blk :=
  let f := b.ep.frame + BitVec.ofNat 32 (1 + lead)
  (b.prepareVariant 1 t ⟨f, 0⟩).loseUntil (f - 1) gapSwitch 1

theorem Blk.tileCondemn_eq (b : Blk) {t : Nat} (lead : Nat) (ht : t < 16) :
    (¬b.mayCondemn t → b.tileCondemn t lead = b) ∧
    (b.mayCondemn t → b.tileCondemn t lead =
      if (b.tileMapOut t).get SCHED.VARIANT_VKIND != 0 || (b.tileMapOut t).fleet.loss.isSome then
        ((b.tileMapOut t).setFleet { (b.tileMapOut t).fleet with fault := true }).fleetSafe
      else (b.tileMapOut t).tileOut t lead) := by
  have test : (!(decide (t < 16) && b.powered (tilePage t) && (bitAt (b.get SAFE.CANARY_STATUS_FAIL) t || b.safe.condemned.contains t))) = true ↔
      ¬b.mayCondemn t := by
    rw [decide_eq_true ht, Bool.true_and, Bool.not_eq_true', ← Bool.not_eq_true, Bool.and_eq_true, Bool.or_eq_true, Blk.mayCondemn]
  exact ⟨fun no => if_pos (test.mpr no), fun may => if_neg (fun h => test.mp h may)⟩

/-- The loads of a variant that has just been prepared. -/
def Blk.variantLoaded (b : Blk) (had : Option (Coord × Nat × Nat)) (t : Nat) : Blk :=
  match b.fleet.switch with
  | some (_, 1, u) => if u == t && had != b.fleet.switch then b.loadVariant 1 t else b
  | _ => b

theorem Blk.tileCondemned_eq (b : Blk) (t lead : Nat) : b.tileCondemned t lead = (b.tileCondemn t lead).variantLoaded b.fleet.switch t := rfl

theorem Blk.variantLoaded_same {b : Blk} {had : Option (Coord × Nat × Nat)} {t : Nat} (h : had = b.fleet.switch) : b.variantLoaded had t = b := by
  unfold Blk.variantLoaded
  split
  · exact if_neg (by rw [h, bne_self_eq_false, Bool.and_false]; exact Bool.false_ne_true)
  · rfl

theorem Blk.variantLoaded_new {b : Blk} {had : Option (Coord × Nat × Nat)} {t : Nat} {c : Coord} (now : b.fleet.switch = some (c, 1, t))
    (ne : had ≠ b.fleet.switch) : b.variantLoaded had t = b.loadVariant 1 t := by
  have new : had ≠ some (c, 1, t) := now ▸ ne
  unfold Blk.variantLoaded
  rw [now]
  exact if_pos (by rw [Bool.and_eq_true, beq_iff_eq, bne_iff_ne]; exact ⟨rfl, new⟩)

theorem Blk.tileCondemned_shows (b : Blk) {t : Nat} (lead : Nat) (ht : t < 16) :
    let out := b.tileMapOut t
    let f := out.ep.frame + BitVec.ofNat 32 (1 + lead)
    let ready := (out.prepareVariant 1 t ⟨f, 0⟩).loseUntil (f - 1) gapSwitch 1
    (¬b.mayCondemn t → b.tileCondemned t lead = b) ∧
    (b.mayCondemn t → (out.get SCHED.VARIANT_VKIND ≠ 0 ∨ out.fleet.loss.isSome = true) →
      b.tileCondemned t lead = (out.setFleet { out.fleet with fault := true }).fleetSafe) ∧
    (b.mayCondemn t → out.get SCHED.VARIANT_VKIND = 0 → out.fleet.loss = none →
      (ready.fleet.switch = some (⟨f, 0⟩, 1, t) → b.fleet.switch ≠ ready.fleet.switch → b.tileCondemned t lead = ready.loadVariant 1 t) ∧
      (b.fleet.switch = ready.fleet.switch → b.tileCondemned t lead = ready)) := by
  intro out f ready
  obtain ⟨stays, condemned⟩ := b.tileCondemn_eq lead ht
  have kept : out.fleet = b.fleet := b.tileMapOut_fleet t
  have effect : out.tileOut t lead = ready := rfl
  have variant : (out.get SCHED.VARIANT_VKIND != 0 || out.fleet.loss.isSome) = true ↔ out.get SCHED.VARIANT_VKIND ≠ 0 ∨ out.fleet.loss.isSome = true := by
    rw [Bool.or_eq_true, bne_iff_ne]
  rw [b.tileCondemned_eq]
  refine ⟨fun no => ?_, fun may other => ?_, fun may full none_ => ?_⟩
  · rw [stays no]
    exact Blk.variantLoaded_same rfl
  · rw [condemned may, if_pos (variant.mpr other)]
    refine Blk.variantLoaded_same ?_
    rw [(Blk.fleetSafe_shows _).1, ← kept]
    rfl
  · have here : b.tileCondemn t lead = ready := by
      rw [condemned may, if_neg (fun h => (variant.mp h).elim (fun ne => ne full) (fun some_ => by
        rw [show out.fleet.loss = none from none_] at some_
        cases some_)), effect]
    rw [here]
    exact ⟨fun now ne => Blk.variantLoaded_new now ne, fun same => Blk.variantLoaded_same same⟩

/-- Settles O44: one lemma per function of Erg's fleet work, each on its own blocks. -/
theorem fleetFormsLosesAndRestoresNodes : Obligations.FleetFormsLosesAndRestoresNodes := by
  unfold Obligations.FleetFormsLosesAndRestoresNodes
  refine ⟨fun s => ⟨fun off => ?_, fun on restricted => ?_, fun on free => ?_⟩, fun s port d hp => ?_, fun s port hp => ?_, fun s extra => ?_,
    fun s port d hp => ?_, fun s port hp => ?_, fun s port d hp => ?_, fun b p n det epoch send plan joined other => Blk.takeLoss_eq det epoch send plan joined other,
    fun b n => b.lossSafe_shows n, fun s => ?_, fun s d => ?_, fun s q hq => ?_, fun s t lead ht => ?_⟩
  · exact exec_blk_same (f := fun b => b.helloSend) rfl rfl (Blk.helloSend_off off)
  · exact exec_blk (f := fun b => b.helloSend) rfl rfl (Blk.helloSend_restricted on restricted)
  · intro now probing
    refine ⟨fun is => ?_, fun other => ?_, fun p plan many again => ⟨?_, s.blk.probing_jstate⟩⟩
    · refine exec_blk (f := fun b => b.helloSend) rfl rfl ((Blk.helloSend_state on free ?_ ?_).trans (Blk.helloProbing_yes is)) <;> rw [is] <;> decide
    · have states : s.blk.jstate ≠ jsAlone ∧ s.blk.jstate ≠ jsLeft ∧ s.blk.jstate ≠ jsProbing := by
        obtain h | h | h := other <;> rw [h] <;> decide
      obtain ⟨alone, left, probes⟩ := states
      exact exec_blk_same (f := fun b => b.helloSend) rfl rfl ((Blk.helloSend_state on free alone left).trans (Blk.helloProbing_no probes))
    · exact exec_blk (f := fun b => b.helloSend) rfl rfl (Blk.helloSend_again on free plan many again)
  · intro st takes heard f agree clear ends
    have act {b : Blk} (h : s.blk.helloReceive port d = b) : ends b := exec_blk (f := fun b => b.helloReceive port d) rfl (decide_eq_true hp) h
    have test := helloTakes_iff s.blk d hp
    rw [s.blk.helloReceive_eq] at act
    have follows (is : takes) {b : Blk} (h : heard.helloFollows st port d = b) : ends b := act ((if_neg (fun t => test.mp t is)).trans h)
    refine ⟨fun no => act (if_pos (test.mpr no)), fun is bad => follows is ?_, fun is good => ?_⟩
    · exact if_pos (bne_iff_ne.mpr bad)
    · have taken : heard.helloFollows st port d = clear.helloTaken st port := if_neg (fun h => bne_iff_ne.mp h good)
      refine ⟨fun probing => follows is (taken.trans (if_pos (beq_iff_eq.mpr probing))), fun other => follows is (taken.trans ?_)⟩
      exact if_neg (fun h => other (beq_iff_eq.mp h))
  · intro late
    obtain ⟨stays, reports⟩ := s.blk.helloTimeout_eq port
    have wf : (Instr.helloTimeout port).wf = true := decide_eq_true hp
    exact ⟨fun h => exec_blk_same (f := fun b => b.helloTimeout port) rfl wf (stays h),
      fun n found is => exec_blk (f := fun b => b.helloTimeout port) rfl wf (reports n found is)⟩
  · intro at_ ends
    have act {b : Blk} (h : s.blk.coordinatorDecide extra = b) : ends b := exec_blk (f := fun b => b.coordinatorDecide extra) rfl rfl h
    refine ⟨fun h => act (Blk.coordinatorDecide_idle extra h), fun p plan ready => ?_, fun p plan joined => ?_⟩
    · intro missing due
      obtain ⟨stays, decides⟩ := Blk.coordinatorDecide_ready extra plan ready
      obtain ⟨all, one, many⟩ := s.blk.decideReady_eq p at_
      refine ⟨fun no => act (stays no), fun is none_ => act ((decides is).trans (all none_)),
        fun n is single round degraded => act ((decides is).trans (one n single round degraded)), fun is some_ other => ?_⟩
      obtain ⟨named, fleet⟩ := many some_ other
      exact ⟨_, act (decides is), rfl, named, fleet⟩
    · intro n returns taken timed
      obtain ⟨stays, restores⟩ := Blk.coordinatorDecide_joined extra plan joined
      exact ⟨fun no => act (stays no), fun is => act (restores is)⟩
  · intro takes at_ known passed
    obtain ⟨stays, start, restore⟩ := s.blk.startReceive_eq port d
    have wf : (Instr.startReceive port d).wf = true := decide_eq_true hp
    exact ⟨fun h => exec_blk_same (f := fun b => b.startReceive port d) rfl wf (stays h),
      fun is new kind => exec_blk (f := fun b => b.startReceive port d) rfl wf (start is new kind),
      fun is new kind => exec_blk (f := fun b => b.startReceive port d) rfl wf (restore is new kind)⟩
  · intro lost epoch
    obtain ⟨stays, takes⟩ := s.blk.lossDetect_eq port
    have wf : (Instr.lossDetect port).wf = true := decide_eq_true hp
    exact ⟨fun h => exec_blk_same (f := fun b => b.lossDetect port) rfl wf (stays h),
      fun n found is => exec_blk (f := fun b => b.lossDetect port) rfl wf (takes n found is)⟩
  · obtain ⟨stays, takes⟩ := s.blk.lossReceive_eq port d
    have wf : (Instr.lossReceive port d).wf = true := decide_eq_true hp
    exact ⟨fun h => exec_blk_same (f := fun b => b.lossReceive port d) rfl wf (stays h),
      fun on kind => exec_blk (f := fun b => b.lossReceive port d) rfl wf (takes on kind)⟩
  · intro may
    obtain ⟨stays, goes⟩ := s.blk.lossRouteGo_eq
    exact ⟨fun h => exec_blk_same (f := fun b => b.lossRouteGo) rfl rfl (stays h),
      fun n det loss is => exec_blk (f := fun b => b.lossRouteGo) rfl rfl (goes n det loss is)⟩
  · intro q send recv offer left mine answer t answered repeated wins
    obtain ⟨stays, answers, proposes⟩ := s.blk.qpSyncReceive_eq d
    obtain ⟨matches_, others⟩ := s.blk.syncAnswered_eq q send recv
    obtain ⟨won, again, taken⟩ := s.blk.syncProposed_eq t
    have same (h : s.blk.qpSyncReceive d = s.blk) : exec (.qpSyncReceive d) s = .next s := exec_blk_same (f := fun b => b.qpSyncReceive d) rfl rfl h
    have act {b : Blk} (h : s.blk.qpSyncReceive d = b) : exec (.qpSyncReceive d) s = .next (s.withBlk b) :=
      exec_blk (f := fun b => b.qpSyncReceive d) rfl rfl h
    exact ⟨fun no => same (stays no), fun x is ans found sends recvs => act ((answers is ans).trans (matches_ x found sends recvs)),
      fun is ans never => same ((answers is ans).trans (others never)), fun is prop some_ win => same ((proposes is prop).trans (won some_ win)),
      fun is prop none_ rep => act ((proposes is prop).trans (again none_ rep)), fun is prop h => act ((proposes is prop).trans (taken h))⟩
  · intro offer first
    have wf : (Instr.qpSyncResend q).wf = true := decide_eq_true hq
    obtain ⟨early, late, idle, starts⟩ := s.blk.qpSyncResend_eq hq
    exact ⟨fun x found h => exec_blk_same (f := fun b => b.qpSyncResend q) rfl wf (early x found h),
      fun x found h => exec_blk (f := fun b => b.qpSyncResend q) rfl wf (late x found h),
      fun none_ no => exec_blk_same (f := fun b => b.qpSyncResend q) rfl wf (idle none_ no),
      fun none_ is => exec_blk (f := fun b => b.qpSyncResend q) rfl wf (starts none_ is)⟩
  · intro may out f ready
    have wf : (Instr.tileCondemn t lead).wf = true := decide_eq_true ht
    obtain ⟨stays, blind, prepares⟩ := s.blk.tileCondemned_shows lead ht
    refine ⟨fun no => exec_blk_same (f := fun b => b.tileCondemned t lead) rfl wf (stays no),
      fun is other => exec_blk (f := fun b => b.tileCondemned t lead) rfl wf (blind is other), fun is full none_ => ?_⟩
    obtain ⟨loads, kept⟩ := prepares is full none_
    exact ⟨fun now ne => exec_blk (f := fun b => b.tileCondemned t lead) rfl wf (loads now ne),
      fun same => exec_blk (f := fun b => b.tileCondemned t lead) rfl wf (kept same)⟩

end Sys2Proof.Machine
end

section
/-! PROOFS. Vector search (spec/14): slots, posted queries, tree messages, scans. -/

namespace Sys2Proof.Machine

/-! ### Ranking -/

theorem keyLe_iff (a c : Int × Nat) : keyLe a c = true ↔ a.1 < c.1 ∨ a.1 = c.1 ∧ a.2 ≤ c.2 := by simp [keyLe]

theorem keyLe_trans (a c e : Int × Nat) (h : keyLe a c = true) (k : keyLe c e = true) : keyLe a e = true := by
  rw [keyLe_iff] at *
  omega

theorem keyLe_total (a c : Int × Nat) : (keyLe a c || keyLe c a) = true := by
  rw [Bool.or_eq_true, keyLe_iff, keyLe_iff]
  omega

/-- The first `k` of the entries in the order of their keys: each of them comes before each entry left out (spec/14 R351). -/
theorem bestEntries_smallest (metric elem k : Nat) (es : List QEntry) :
    let key := fun e : QEntry => (distKey metric elem e.d, e.id)
    let best := bestEntries metric elem k es
    best.length = min k es.length ∧ best.Pairwise (fun x y => keyLe (key x) (key y) = true) ∧ (∀ x ∈ best, x ∈ es) ∧
    (∀ x ∈ es, x ∉ best → ∀ y ∈ best, keyLe (key y) (key x) = true) := by
  intro key best
  obtain ⟨sorted, hs⟩ : ∃ l, es.mergeSort (fun x y => keyLe (key x) (key y)) = l := ⟨_, rfl⟩
  have taken : best = sorted.take k := congrArg (List.take k) hs
  have order : sorted.Pairwise (fun x y => keyLe (key x) (key y) = true) :=
    hs ▸ List.pairwise_mergeSort (fun x y z => keyLe_trans (key x) (key y) (key z)) (fun x y => keyLe_total (key x) (key y)) es
  have mem (x : QEntry) : x ∈ sorted ↔ x ∈ es := by rw [← hs, List.mem_mergeSort]
  have length : sorted.length = es.length := by rw [← hs, List.length_mergeSort]
  rw [taken]
  refine ⟨by rw [List.length_take, length], order.sublist (List.take_sublist k sorted),
    fun x hx => (mem x).mp (List.mem_of_mem_take hx), fun x hx out y hy => ?_⟩
  have apart : (sorted.take k ++ sorted.drop k).Pairwise (fun x y => keyLe (key x) (key y) = true) := by rwa [List.take_append_drop]
  have left : x ∈ sorted.drop k := by
    have whole : x ∈ sorted.take k ++ sorted.drop k := by rw [List.take_append_drop]; exact (mem x).mpr hx
    exact (List.mem_append.mp whole).resolve_left out
  exact (List.pairwise_append.mp apart).2.2 y hy x left

/-! ### Slots -/

theorem Blk.inForce_iff (b : Blk) (slot : Nat) : b.inForce slot = true ↔ b.get SEARCH.ACTIVE_SLOT = slot ∧ b.slotState slot = slValid := by
  simp [Blk.inForce]

theorem slotState_fits (slot : Nat) : (SEARCH.SLOT_STATE_STATE slot).fits := show 0 + 2 ≤ 32 by decide

theorem Blk.setSearch_shows (b : Blk) (x : SearchSt) : (b.setSearch x).search = x ∧ (∀ f, (b.setSearch x).get f = b.get f) ∧
    (∀ k, (b.setSearch x).word k = b.word k) ∧ (b.setSearch x).spm = b.spm ∧ (b.setSearch x).bulk = b.bulk ∧
    (b.setSearch x).flash = b.flash := ⟨rfl, fun _ => rfl, fun _ => rfl, rfl, rfl, rfl⟩

/-- A slot's two state fields hold what they are given, its staged lists are gone, and nothing else moves. -/
theorem Blk.setSlot_shows (b : Blk) (slot st bad : Nat) (small : st < 4) :
    let t := b.setSlot slot st bad
    t.slotState slot = st ∧ t.search = { b.search with staged := b.search.staged.filter (fun l => l.slot != slot) } ∧
    b.keepsRegs t [(SEARCH.SLOT_STATE_STATE slot).key] ∧ t.spm = b.spm ∧ t.bulk = b.bulk ∧ t.flash = b.flash := by
  intro t
  have steps : t = ((b.set (SEARCH.SLOT_STATE_STATE slot) st).set (SEARCH.SLOT_STATE_BAD_CODE slot) bad).setSearch
      { b.search with staged := b.search.staged.filter (fun l => l.slot != slot) } := by
    show b.setSlot slot st bad = _
    unfold Blk.setSlot
    simp -implicitDefEqProofs only [Blk.set_search]
  have fields : b.keepsRegs ((b.set (SEARCH.SLOT_STATE_STATE slot) st).set (SEARCH.SLOT_STATE_BAD_CODE slot) bad)
      [(SEARCH.SLOT_STATE_STATE slot).key] :=
    ((b.keepsRegs_refl _).set _ List.mem_cons_self).set (f := SEARCH.SLOT_STATE_BAD_CODE slot) _ List.mem_cons_self
  obtain ⟨search, get, word, spm, bulk, flash⟩ := Blk.setSearch_shows
    ((b.set (SEARCH.SLOT_STATE_STATE slot) st).set (SEARCH.SLOT_STATE_BAD_CODE slot) bad)
    { b.search with staged := b.search.staged.filter (fun l => l.slot != slot) }
  rw [← steps] at search get word spm bulk flash
  refine ⟨?_, search, fun k hk => (word k).trans (fields k hk), ?_, ?_, ?_⟩
  · calc t.get (SEARCH.SLOT_STATE_STATE slot) = _ := get _
      _ = (b.set (SEARCH.SLOT_STATE_STATE slot) st).get (SEARCH.SLOT_STATE_STATE slot) :=
        Blk.get_set_apart _ (SEARCH.SLOT_STATE_BAD_CODE slot) _ _ (slotState_fits slot) (.inr (.inr (show 0 + 2 ≤ 8 by decide)))
      _ = st % 2 ^ 2 := b.get_set_same _ st (slotState_fits slot)
      _ = st := Nat.mod_eq_of_lt small
  · rw [spm, Blk.set_spm, Blk.set_spm]
  · rw [bulk, Blk.set_bulk, Blk.set_bulk]
  · rw [flash, Blk.set_flash, Blk.set_flash]

/-- The SEARCH page beside its header: QRING_TAIL, the slots' control words, and words as written. -/
theorem Blk.writeBlock_search (b : Blk) (a : Agent) (off : Nat) (v : Word) : b.writeBlock a Page.SEARCH off v =
    if off < 0x040 then b.writeHeader Page.SEARCH off v
    else if isShlCoord Page.SEARCH off then (b.storeKey (b.reachKey Page.SEARCH off) v).touchShl Page.SEARCH
    else if off == 0x080 then b.queryPost (v.toNat % 64)
    else if off == 0x108 || off == 0x128 then b.writeSlotCtrl ((off - 0x108) / 0x20) a v.toNat
    else b.storeKey (b.reachKey Page.SEARCH off) v := rfl

theorem Blk.writeBlock_slotCtrl (b : Blk) (a : Agent) {slot : Nat} (v : Word) (h : slot < 2) :
    b.writeBlock a Page.SEARCH (0x108 + 0x20 * slot) v = b.writeSlotCtrl slot a v.toNat := by
  obtain ⟨own, coord, tail, ctrl, at_⟩ := (by decide : ∀ slot < 2, ¬(0x108 + 0x20 * slot < 0x040) ∧
    ¬isShlCoord Page.SEARCH (0x108 + 0x20 * slot) = true ∧ ¬(0x108 + 0x20 * slot == 0x080) = true ∧
    (0x108 + 0x20 * slot == 0x108 || 0x108 + 0x20 * slot == 0x128) = true ∧ (0x108 + 0x20 * slot - 0x108) / 0x20 = slot) slot h
  rw [b.writeBlock_search, if_neg own, if_neg coord, if_neg tail, if_pos ctrl, at_]

theorem Blk.writeBlock_qringTail (b : Blk) (a : Agent) (v : Word) : b.writeBlock a Page.SEARCH 0x080 v = b.queryPost (v.toNat % 64) := by
  rw [b.writeBlock_search, if_neg (by decide), if_neg (by decide), if_pos (by decide)]

theorem Blk.writeSlotCtrl_load (b : Blk) (slot : Nat) (a : Agent) : b.writeSlotCtrl slot a (1 : Word).toNat =
    if b.inForce slot then b.captureFree Page.SEARCH seInForce (agentCode a)
    else if b.active Page.SEARCH then b.setSlot slot slLoading 0 else b := by
  unfold Blk.writeSlotCtrl
  exact if_pos (by decide)

theorem Blk.writeSlotCtrl_unload (b : Blk) (slot : Nat) (a : Agent) :
    b.writeSlotCtrl slot a (2 : Word).toNat = (b.setSlot slot slEmpty 0).set (SEARCH.SLOT_VERSION slot) 0 := by
  unfold Blk.writeSlotCtrl
  exact (if_neg (by decide)).trans (if_pos (by decide))

/-- A slot in a state with a version. -/
theorem Blk.setSlot_version (b : Blk) {slot st : Nat} (version : Nat) (small : st < 4) (fits : version < 2 ^ 32) :
    let t := (b.setSlot slot st 0).set (SEARCH.SLOT_VERSION slot) version
    t.slotState slot = st ∧ t.get (SEARCH.SLOT_VERSION slot) = version ∧
    t.search = { b.search with staged := b.search.staged.filter (fun l => l.slot != slot) } ∧
    b.keepsRegs t [(SEARCH.SLOT_STATE_STATE slot).key, (SEARCH.SLOT_VERSION slot).key] ∧ t.spm = b.spm ∧ t.bulk = b.bulk ∧
    t.flash = b.flash := by
  intro t
  obtain ⟨state, search, regs, spm, bulk, flash⟩ := b.setSlot_shows slot st 0 small
  refine ⟨?_, ?_, (Blk.set_search ..).trans search, ?_, (Blk.set_spm ..).trans spm, (Blk.set_bulk ..).trans bulk,
    (Blk.set_flash ..).trans flash⟩
  · exact (Blk.get_set_apart _ (SEARCH.SLOT_VERSION slot) _ _ (slotState_fits slot)
      (.inl (show 0x48110 + 0x20 * slot ≠ 0x4810C + 0x20 * slot by omega))).trans state
  · exact (Blk.get_set_same _ (SEARCH.SLOT_VERSION slot) version (show 0 + 32 ≤ 32 by decide)).trans (Nat.mod_eq_of_lt fits)
  · exact Blk.keepsRegs.set (fun k hk => regs k (fun one => hk (List.mem_cons.mpr (.inl (List.mem_singleton.mp one))))) _ (by simp)

theorem slotRegister {slot : Nat} (h : slot < 2) : blockRegister Page.SEARCH (0x108 + 0x20 * slot) = true :=
  (by decide : ∀ slot < 2, blockRegister Page.SEARCH (0x108 + 0x20 * slot) = true) slot h

/-- A granted write of a slot's control word. -/
theorem Node.writeReg_slotCtrl {n : Node} {a : Agent} {slot : Nat} {v : Word} {b : Blk} (h : slot < 2)
    (hg : n.b.granted a Page.SEARCH (0x108 + 0x20 * slot) v) (effect : n.b.writeSlotCtrl slot a v.toNat = b) :
    n.writeReg a Page.SEARCH (0x108 + 0x20 * slot) true v = { n with b := b.answered a Page.SEARCH (0x108 + 0x20 * slot) } := by
  rw [n.writeReg_block a v (slotRegister h) hg, n.b.writeBlock_slotCtrl a v h, effect]

/-! ### The shard's load -/

/-- A load that fails: the slot is BAD with the check's number. -/
def Blk.slotFails (b : Blk) (slot code : Nat) : Blk :=
  ((b.setSlot slot slBad code).raise SEARCH.IRQ_RAW_SLOT_BAD).captureOwnFree Page.SEARCH seSlotBad

/-- A load that ends well: the slot is VALID with the header's version, and its header is kept. -/
def Blk.slotLoads (b : Blk) (slot : Nat) (h : List Byte) : Blk :=
  let b := (b.setSlot slot slValid 0).set (SEARCH.SLOT_VERSION slot) (leAt h 40 4)
  b.setSearch { b.search with hdrs := setNth b.search.hdrs slot h }

theorem Blk.shardLoadDone_off (b : Blk) (slot : Nat) (idle : b.active Page.SEARCH = false ∨ b.slotState slot ≠ slLoading) :
    b.shardLoadDone slot = b := by
  unfold Blk.shardLoadDone
  refine if_pos ?_
  rw [Bool.or_eq_true, Bool.or_eq_true, Bool.not_eq_true', bne_iff_ne]
  exact idle.elim (fun h => .inl (.inr h)) .inr

theorem Blk.shardLoadDone_eq {b b1 : Blk} {slot c : Nat} {h : List Byte} (small : slot < 2) (on : b.active Page.SEARCH = true)
    (loading : b.slotState slot = slLoading) (read : b.bulkRead 2 (b.slotBase slot) 256 = (c, h, b1)) :
    let code := if c = 0 then b1.shardCheck slot (b.slotBase slot) h else 1
    let load := b1.loadCentroids slot (b.slotBase slot) (hVec h) h
    b.shardLoadDone slot = if c = bkWait then b1 else if code ≠ 0 then b1.slotFails slot code
      else if load.1 = bkWait then load.2 else if load.1 ≠ 0 then load.2.slotFails slot 6 else load.2.slotLoads slot h := by
  intro code load
  have run : ¬(decide (slot ≥ 2) || !b.active Page.SEARCH || b.slotState slot != slLoading) = true := by
    rw [on, loading, decide_eq_false (Nat.not_le.mpr small)]
    decide
  have checked : (if c != 0 then 1 else b1.shardCheck slot (b.slotBase slot) h) = code := by
    by_cases zero : c = 0 <;> simp [code, zero]
  unfold Blk.shardLoadDone
  rw [if_neg run]
  dsimp only
  rw [read]
  dsimp only
  rw [checked]
  simp only [beq_iff_eq, bne_iff_ne]
  rfl

theorem Blk.slotLoads_shows (b : Blk) (slot : Nat) (h : List Byte) :
    let t := b.slotLoads slot h
    t.slotState slot = slValid ∧ t.get (SEARCH.SLOT_VERSION slot) = leAt h 40 4 ∧ (slot < b.search.hdrs.length → t.slotHdr slot = h) ∧
    b.keepsRegs t [(SEARCH.SLOT_STATE_STATE slot).key, (SEARCH.SLOT_VERSION slot).key] ∧ t.spm = b.spm ∧ t.bulk = b.bulk ∧
    t.flash = b.flash := by
  intro t
  obtain ⟨state, version, search, regs, spm, bulk, flash⟩ :=
    b.setSlot_version (slot := slot) (st := slValid) (leAt h 40 4) (by decide) (leAt_lt h 40 4)
  refine ⟨state, version, fun inside => ?_, regs, spm, bulk, flash⟩
  show nth (setNth ((b.setSlot slot slValid 0).set (SEARCH.SLOT_VERSION slot) (leAt h 40 4)).search.hdrs slot h) slot [] = h
  rw [search]
  exact congrArg (·.getD []) (getElem?_setNth (List.getElem?_eq_getElem inside) h)

/-! ### The ring of descriptors -/

theorem Blk.takeQuery_next {b b1 : Blk} {d : List Byte} (more : b.get SEARCH.QRING_HEAD ≠ b.get SEARCH.QRING_TAIL)
    (read : b.bulkRead 2 (b.get SEARCH.QRING_BASE_LO + 2 ^ 32 * b.get SEARCH.QRING_BASE_HI + 64 * b.get SEARCH.QRING_HEAD) 64 = (0, d, b1)) :
    b.takeQuery = (b1.set SEARCH.QRING_HEAD (b.get SEARCH.QRING_HEAD + 1)).postQuery d := by
  unfold Blk.takeQuery
  dsimp only
  rw [if_neg (mt beq_iff_eq.mp more), read]
  exact if_neg (show ¬(0 != 0) = true by decide)

/-! ### Messages of the tree -/

theorem Blk.tree_off (b : Blk) (cell len : Nat) (off : b.searchOn = false) :
    b.treeQuery cell len = b ∧ b.treeResult cell len = b ∧ b.treeFinal cell len = b := by
  have closed : (!b.searchOn) = true := by rw [off]; rfl
  exact ⟨if_pos closed, if_pos closed, if_pos closed⟩

theorem Blk.searchOn_open {b : Blk} (on : b.searchOn = true) : ¬(!b.searchOn) = true := by
  rw [on]
  exact Bool.false_ne_true

/-- A query from a cell goes down from here or on its way up (spec/14 R355). -/
def queryRead (cell : Nat) : Option (List Byte) × Blk → Blk
  | (none, b) => b
  | (some d, b) => if cell < 32 then b.serveQuery (metaOfBytes d) (d.drop 64) else b.queryUp (metaOfBytes d) (d.drop 64)

/-- A child's part from a cell is the part of a query served here, or late. -/
def resultRead (cell : Nat) : Option (List Byte) × Blk → Blk
  | (none, b) => b
  | (some d, b) =>
    match b.search.served.find? (fun x => sameQuery x.head (metaOfBytes d)) with
    | none => b.lateMsg
    | some x =>
      let p : QPart := ⟨leAt d 1 1, entriesOfBytes (leAt d 16 2) (d.drop 64)⟩
      b.putServed (if cell < 64 then { x with child0 := some p } else { x with child1 := some p })

/-- A final result from a cell goes on toward its querier. -/
def finalRead : Option (List Byte) × Blk → Blk
  | (none, b) => b
  | (some d, b) => b.sendFinal (metaOfBytes d) ⟨leAt d 1 1, entriesOfBytes (leAt d 16 2) (d.drop 64)⟩

theorem Blk.treeQuery_on {b : Blk} {cell len : Nat} (on : b.searchOn = true) (small : cell < 96) :
    b.treeQuery cell len = queryRead cell (b.readCell cell len 1) := by
  unfold Blk.treeQuery
  rw [if_neg (Blk.searchOn_open on), Nat.mod_eq_of_lt small]
  split
  next d c read =>
    refine Eq.trans ?_ (congrArg (queryRead cell) read.symm)
    cases d <;> rfl

theorem Blk.treeResult_on {b : Blk} {cell len : Nat} (on : b.searchOn = true) (small : cell < 96) :
    b.treeResult cell len = resultRead cell (b.readCell cell len 2) := by
  unfold Blk.treeResult
  rw [if_neg (Blk.searchOn_open on), Nat.mod_eq_of_lt small]
  split
  next d c read =>
    refine Eq.trans ?_ (congrArg (resultRead cell) read.symm)
    cases d <;> rfl

theorem Blk.treeFinal_on {b : Blk} {cell len : Nat} (on : b.searchOn = true) :
    b.treeFinal cell len = finalRead (b.readCell cell len 3) := by
  unfold Blk.treeFinal
  rw [if_neg (Blk.searchOn_open on)]
  split
  next d c read =>
    refine Eq.trans ?_ (congrArg (finalRead) read.symm)
    cases d <;> rfl

/-! ### The scan -/

theorem Blk.shardScanDone_off (b : Blk) (hits : List Nat) (ccFail : Bool) (idle : b.scanTurn = none ∨ b.searchOn = false) :
    b.shardScanDone hits ccFail = b := by
  unfold Blk.shardScanDone
  split
  next => rfl
  next x turn =>
    have off : b.searchOn = false := idle.resolve_left (by rw [turn]; exact Option.some_ne_none x)
    exact if_pos (by rw [off]; rfl)

/-- The query whose scan an access of the search path ends. -/
def Blk.scanFaults (b : Blk) (x : ServedQuery) : Blk :=
  (b.captureOwnFree Page.SEARCH seCcFail).putServed { x with own := some ⟨qListLost, []⟩ }

/-- A read that holds a scan, noted. -/
def Blk.scanHeld (b : Blk) : Blk := ((b.bumpSat SEARCH.HELD).raise SEARCH.IRQ_RAW_LIST_HELD).captureOwnFree Page.SEARCH seHeld

theorem Blk.shardScanDone_turn {b : Blk} {x : ServedQuery} (hits : List Nat) (ccFail : Bool) (turn : b.scanTurn = some x)
    (on : b.searchOn = true) : b.shardScanDone hits ccFail = if x.held.isSome then b else
      match b.slotOf x.head.version with
      | none => b.putServed { x with own := some ⟨qVersion, []⟩ }
      | some slot =>
        if ccFail && x.head.metric == 0 then b.scanFaults x
        else
          let (e, probes, b1) := b.scanShard slot x.head x.vec
          match e with
          | .wait => b1
          | .part p => (b1.notePrefetch slot (b.slotHdr slot) x.head probes hits).putServed { x with own := some p }
          | .fault => b1.scanFaults x
          | .hold r => b1.scanHeld.putServed { x with held := some r } := by
  unfold Blk.shardScanDone
  rw [turn]
  dsimp only
  rw [on]
  rfl

/-! ### A held read made again -/

/-- What is held is read again: in its tile, when that is there, or in BULK. -/
def Blk.rereadHeld (b : Blk) (r : HeldRead) : Nat × List Byte × Blk :=
  match r.tile with
  | some t => if b.tileThere t then b.spmRead t r.addr r.len 9 else (0, [], b)
  | none => b.bulkRead 2 r.addr r.len

theorem Blk.listReread_off (b : Blk)
    (idle : b.search.served.find? (fun x => x.held.isSome && x.own.isNone) = none ∨ b.searchOn = false) : b.listReread = b := by
  unfold Blk.listReread
  split
  next => rfl
  next x first =>
    have off : b.searchOn = false := idle.resolve_left (by rw [first]; exact Option.some_ne_none x)
    split
    next => rfl
    next => exact if_pos (by rw [off]; rfl)

theorem Blk.listReread_held {b : Blk} {x : ServedQuery} {r : HeldRead}
    (first : b.search.served.find? (fun x => x.held.isSome && x.own.isNone) = some x) (held : x.held = some r) :
    b.listReread = if !b.searchOn || decide (b.linesSince r.tried < 8) then b else
      (b.rereadHeld r).2.2.putServed
        (if (b.rereadHeld r).1 == 0 then { x with held := none } else { x with held := some { r with tried := (b.rereadHeld r).2.2.ep.line } }) := by
  unfold Blk.listReread
  rw [first]
  dsimp only
  rw [held]
  rfl

theorem Blk.listReread_early {b : Blk} {x : ServedQuery} {r : HeldRead}
    (first : b.search.served.find? (fun x => x.held.isSome && x.own.isNone) = some x) (held : x.held = some r)
    (early : b.linesSince r.tried < 8) : b.listReread = b := by
  rw [Blk.listReread_held first held, decide_eq_true early, Bool.or_true, if_pos rfl]

theorem Blk.listReread_due {b b1 : Blk} {x : ServedQuery} {r : HeldRead} {c : Nat} {bs : List Byte}
    (first : b.search.served.find? (fun x => x.held.isSome && x.own.isNone) = some x) (held : x.held = some r) (on : b.searchOn = true)
    (due : 8 ≤ b.linesSince r.tried) (read : b.rereadHeld r = (c, bs, b1)) :
    b.listReread = b1.putServed (if c == 0 then { x with held := none } else { x with held := some { r with tried := b1.ep.line } }) := by
  rw [Blk.listReread_held first held, on, decide_eq_false (Nat.not_lt.mpr due), read]
  rfl

/-- The control word of a slot (spec/14 R347, R363). -/
theorem shardControl (s : State) (a : Agent) (slot : Nat) (ok : (agentOk a && slot < 2) = true) :
    let off := 0x108 + 0x20 * slot
    let inForce := s.blk.get SEARCH.ACTIVE_SLOT = slot ∧ s.blk.slotState slot = slValid
    (s.blk.granted a Page.SEARCH off 1 →
      (inForce → exec (.shardLoad a slot) s = .next (s.withBlk
        ((s.blk.captureFree Page.SEARCH seInForce (agentCode a)).answered a Page.SEARCH off))) ∧
      (¬inForce → s.blk.active Page.SEARCH = false → exec (.shardLoad a slot) s = .next (s.withBlk (s.blk.answered a Page.SEARCH off))) ∧
      (¬inForce → s.blk.active Page.SEARCH = true →
        completes (.shardLoad a slot) s (fun t => t.blk.slotState slot = slLoading ∧
          t.blk.search.staged = s.blk.search.staged.filter (fun l => l.slot != slot) ∧
          s.blk.keepsRegs t.blk [(SEARCH.SLOT_STATE_STATE slot).key] ∧ s.node.sameMemory t.node))) ∧
    (s.blk.granted a Page.SEARCH off 2 →
      completes (.shardUnload a slot) s (fun t => t.blk.slotState slot = slEmpty ∧ t.blk.get (SEARCH.SLOT_VERSION slot) = 0 ∧
        t.blk.search.staged = s.blk.search.staged.filter (fun l => l.slot != slot) ∧
        s.blk.keepsRegs t.blk [(SEARCH.SLOT_STATE_STATE slot).key, (SEARCH.SLOT_VERSION slot).key] ∧ s.node.sameMemory t.node)) := by
  intro off inForce
  have small : slot < 2 := of_decide_eq_true (Bool.and_eq_true_iff.mp ok).2
  have force : s.node.b.inForce slot = true ↔ inForce := s.node.b.inForce_iff slot
  refine ⟨fun hg => ?_, fun hg => ?_⟩
  · have load {b : Blk} (effect : s.node.b.writeSlotCtrl slot a (1 : Word).toNat = b) :=
      Node.writeReg_slotCtrl (n := s.node) small hg effect
    have written := s.node.b.writeSlotCtrl_load slot a
    refine ⟨fun h => ?_, fun h off => ?_, fun h on => ?_⟩
    · exact exec_next (f := fun n => n.writeReg a Page.SEARCH (0x108 + 0x20 * slot) true 1) rfl ok
        (load (written.trans (if_pos (force.mpr h))))
    · exact exec_next (f := fun n => n.writeReg a Page.SEARCH (0x108 + 0x20 * slot) true 1) rfl ok
        (load (written.trans ((if_neg (mt force.mp h)).trans (if_neg (ne_true_of_eq_false off)))))
    · have loading := load (written.trans ((if_neg (mt force.mp h)).trans (if_pos on)))
      obtain ⟨state, search, regs, spm, bulk, flash⟩ := s.node.b.setSlot_shows slot slLoading 0 (by decide)
      obtain ⟨t, ht⟩ : ∃ t, s.node.b.setSlot slot slLoading 0 = t := ⟨_, rfl⟩
      rw [ht] at loading state search regs spm bulk flash
      exact completes_of_node (f := fun n => n.writeReg a Page.SEARCH (0x108 + 0x20 * slot) true 1) rfl ok loading
        ⟨state, congrArg (·.staged) search, regs, rfl, flash, congrArg (·.bytes) bulk, congrArg (·.bytes) spm⟩
  · have unload := Node.writeReg_slotCtrl (n := s.node) small hg (s.node.b.writeSlotCtrl_unload slot a)
    obtain ⟨state, version, search, regs, spm, bulk, flash⟩ :=
      s.node.b.setSlot_version (slot := slot) (st := slEmpty) 0 (by decide) (by decide)
    obtain ⟨t, ht⟩ : ∃ t, (s.node.b.setSlot slot slEmpty 0).set (SEARCH.SLOT_VERSION slot) 0 = t := ⟨_, rfl⟩
    rw [ht] at unload state version search regs spm bulk flash
    exact completes_of_node (f := fun n => n.writeReg a Page.SEARCH (0x108 + 0x20 * slot) true 2) rfl ok unload
      ⟨state, version, congrArg (·.staged) search, regs, rfl, flash, congrArg (·.bytes) bulk, congrArg (·.bytes) spm⟩

/-- How a shard's load ends (spec/14 R347). -/
theorem shardLoadEnds (s : State) (slot c : Nat) (h : List Byte) (b1 : Blk) (small : slot < 2) (on : s.blk.active Page.SEARCH = true)
    (loading : s.blk.slotState slot = slLoading) (read : s.blk.bulkRead 2 (s.blk.slotBase slot) 256 = (c, h, b1)) :
    let ends := fun b : Blk => exec (.shardLoadDone slot) s = .next (s.withBlk b)
    let code := if c = 0 then b1.shardCheck slot (s.blk.slotBase slot) h else 1
    (c = bkWait → ends b1) ∧ (c ≠ bkWait → code ≠ 0 → ends (b1.slotFails slot code)) ∧
    (∀ c2 b2, c ≠ bkWait → code = 0 → b1.loadCentroids slot (s.blk.slotBase slot) (hVec h) h = (c2, b2) →
      (c2 = bkWait → ends b2) ∧ (c2 ≠ 0 → c2 ≠ bkWait → ends (b2.slotFails slot 6)) ∧
      (c2 = 0 → completes (.shardLoadDone slot) s (fun t => t.blk.slotState slot = slValid ∧
        t.blk.get (SEARCH.SLOT_VERSION slot) = leAt h 40 4 ∧ (slot < b2.search.hdrs.length → t.blk.slotHdr slot = h) ∧
        b2.keepsOtherPages t.blk [Page.SEARCH] ∧ t.blk.spm = b2.spm ∧ t.blk.bulk = b2.bulk ∧ t.blk.flash = b2.flash))) := by
  intro ends code
  have loaded := Blk.shardLoadDone_eq small on loading read
  dsimp only at loaded
  have act {b : Blk} (effect : s.blk.shardLoadDone slot = b) : ends b :=
    exec_blk (f := fun b => b.shardLoadDone slot) rfl (decide_eq_true small) effect
  refine ⟨fun wait => act (loaded.trans (if_pos wait)), fun go bad => act (loaded.trans ((if_neg go).trans (if_pos bad))),
    fun c2 b2 go good table => ?_⟩
  have stored := loaded.trans ((if_neg go).trans (if_neg (not_not.mpr good)))
  rw [table] at stored
  dsimp only at stored
  refine ⟨fun wait => act (stored.trans (if_pos wait)), fun bad go2 => act (stored.trans ((if_neg go2).trans (if_pos bad))), fun ok => ?_⟩
  have valid := stored.trans ((if_neg (show ¬c2 = bkWait by rw [ok]; decide)).trans (if_neg (not_not.mpr ok)))
  obtain ⟨state, version, hdr, regs, spm, bulk, flash⟩ := b2.slotLoads_shows slot h
  have pages : b2.keepsOtherPages (b2.slotLoads slot h) [Page.SEARCH] := by
    refine regs.otherPages (fun k hk => List.mem_singleton.mpr ?_)
    obtain rfl | rfl : k = (SEARCH.SLOT_STATE_STATE slot).key ∨ k = (SEARCH.SLOT_VERSION slot).key := by simpa using hk
    · show (0x4810C + 0x20 * slot) / 4096 % 256 = 0x48
      omega
    · show (0x48110 + 0x20 * slot) / 4096 % 256 = 0x48
      omega
  obtain ⟨t, ht⟩ : ∃ t, b2.slotLoads slot h = t := ⟨_, rfl⟩
  rw [ht] at valid state version hdr pages spm bulk flash
  exact completes_of_blk (f := fun b => b.shardLoadDone slot) rfl (decide_eq_true small) valid
    ⟨state, version, hdr, pages, spm, bulk, flash⟩

/-- A message of a cell is taken as read (spec/14 R355, R356). -/
theorem treeMessages (s : State) (cell len : Nat) (b1 : Blk) (hc : cell < 96) (hl : len ≤ 18432) (on : s.blk.searchOn = true) :
    (∀ d, s.blk.readCell cell len 1 = (d, b1) → exec (.treeQueryReceive cell len) s = .next (s.withBlk (queryRead cell (d, b1)))) ∧
    (∀ d, s.blk.readCell cell len 2 = (d, b1) → exec (.treeResultReceive cell len) s = .next (s.withBlk (resultRead cell (d, b1)))) ∧
    (∀ d, s.blk.readCell cell len 3 = (d, b1) → exec (.treeFinalReceive cell len) s = .next (s.withBlk (finalRead (d, b1)))) := by
  have ok : (decide (cell < 96) && decide (len ≤ 18432)) = true := by rw [decide_eq_true hc, decide_eq_true hl]; rfl
  exact ⟨fun d h => exec_blk (f := fun b => b.treeQuery cell len) rfl ok ((Blk.treeQuery_on on hc).trans (congrArg (queryRead cell) h)),
    fun d h => exec_blk (f := fun b => b.treeResult cell len) rfl ok ((Blk.treeResult_on on hc).trans (congrArg (resultRead cell) h)),
    fun d h => exec_blk (f := fun b => b.treeFinal cell len) rfl ok ((Blk.treeFinal_on on).trans (congrArg finalRead h))⟩

theorem resultRead_late {b : Blk} (cell : Nat) {d : List Byte}
    (h : b.search.served.find? (fun x => sameQuery x.head (metaOfBytes d)) = none) : resultRead cell (some d, b) = b.lateMsg := by
  unfold resultRead
  dsimp only
  rw [h]

theorem resultRead_served {b : Blk} (cell : Nat) {d : List Byte} {x : ServedQuery}
    (h : b.search.served.find? (fun x => sameQuery x.head (metaOfBytes d)) = some x) :
    let p : QPart := ⟨leAt d 1 1, entriesOfBytes (leAt d 16 2) (d.drop 64)⟩
    resultRead cell (some d, b) = b.putServed (if cell < 64 then { x with child0 := some p } else { x with child1 := some p }) := by
  intro p
  unfold resultRead
  dsimp only
  rw [h]

/-- How a scan ends (spec/14 R355, R360). -/
theorem scanEnds (s : State) (hits : List Nat) (ccFail : Bool) :
    let ends := fun b : Blk => exec (.shardScanDone hits ccFail) s = .next (s.withBlk b)
    ((s.blk.scanTurn = none ∨ s.blk.searchOn = false) → ends s.blk) ∧
    (∀ x, s.blk.scanTurn = some x → s.blk.searchOn = true →
      (x.held.isSome = true → ends s.blk) ∧
      (x.held = none →
        (s.blk.slotOf x.head.version = none → ends (s.blk.putServed { x with own := some ⟨qVersion, []⟩ })) ∧
        (∀ slot, s.blk.slotOf x.head.version = some slot →
          (ccFail = true → x.head.metric = 0 → ends (s.blk.scanFaults x)) ∧
          (∀ e probes b1, ¬(ccFail = true ∧ x.head.metric = 0) → s.blk.scanShard slot x.head x.vec = (e, probes, b1) →
            (e = .wait → ends b1) ∧ (e = .fault → ends (b1.scanFaults x)) ∧
            (∀ p, e = .part p → ends ((b1.notePrefetch slot (s.blk.slotHdr slot) x.head probes hits).putServed { x with own := some p })) ∧
            (∀ r, e = .hold r → ends (b1.scanHeld.putServed { x with held := some r })))))) := by
  intro ends
  have act {b : Blk} (effect : s.blk.shardScanDone hits ccFail = b) : ends b :=
    exec_blk (f := fun b => b.shardScanDone hits ccFail) rfl rfl effect
  refine ⟨fun idle => act (s.blk.shardScanDone_off hits ccFail idle), fun x turn on => ?_⟩
  have scanned := Blk.shardScanDone_turn hits ccFail turn on
  refine ⟨fun held => act (scanned.trans (if_pos held)), fun free => ?_⟩
  have scanned := scanned.trans (if_neg (show ¬x.held.isSome = true by rw [free]; exact Bool.false_ne_true))
  refine ⟨fun none_ => act (by rw [scanned, none_]), fun slot some_ => ?_⟩
  rw [some_] at scanned
  dsimp only at scanned
  have failed : (ccFail && x.head.metric == 0) = true ↔ ccFail = true ∧ x.head.metric = 0 := by rw [Bool.and_eq_true, beq_iff_eq]
  refine ⟨fun fail metric => act (scanned.trans (if_pos (failed.mpr ⟨fail, metric⟩))), fun e probes b1 fine scan => ?_⟩
  have ended := scanned.trans (if_neg (mt failed.mp fine))
  rw [scan] at ended
  dsimp only at ended
  exact ⟨fun he => act (by rw [ended, he]), fun he => act (by rw [ended, he]), fun p he => act (by rw [ended, he]),
    fun r he => act (by rw [ended, he])⟩

/-- What holds a scan is read again after 8 line periods (spec/14 R360). -/
theorem rereads (s : State) :
    let first := s.blk.search.served.find? (fun x => x.held.isSome && x.own.isNone)
    let ends := fun b : Blk => exec .listReread s = .next (s.withBlk b)
    ((first = none ∨ s.blk.searchOn = false) → ends s.blk) ∧
    (∀ x r, first = some x → x.held = some r →
      (s.blk.linesSince r.tried < 8 → ends s.blk) ∧
      (∀ c bs b1, s.blk.searchOn = true → 8 ≤ s.blk.linesSince r.tried →
        ((r.tile = none ∧ s.blk.bulkRead 2 r.addr r.len = (c, bs, b1)) ∨
          (∃ t, r.tile = some t ∧ s.blk.tileThere t = true ∧ s.blk.spmRead t r.addr r.len 9 = (c, bs, b1))) →
        (c = 0 → ends (b1.putServed { x with held := none })) ∧
        (c ≠ 0 → ends (b1.putServed { x with held := some { r with tried := b1.ep.line } }))) ∧
      (∀ t, s.blk.searchOn = true → 8 ≤ s.blk.linesSince r.tried → r.tile = some t → s.blk.tileThere t = false →
        ends (s.blk.putServed { x with held := none }))) := by
  intro first ends
  have act {b : Blk} (effect : s.blk.listReread = b) : ends b := exec_blk (f := fun b => b.listReread) rfl rfl effect
  refine ⟨fun idle => act (s.blk.listReread_off idle), fun x r here held =>
    ⟨fun early => act (Blk.listReread_early here held early), fun c bs b1 on due read => ?_, fun t on due tile gone => ?_⟩⟩
  · have again : s.blk.rereadHeld r = (c, bs, b1) := by
      obtain ⟨bulk, read⟩ | ⟨t, tile, there, read⟩ := read
      · rw [Blk.rereadHeld, bulk]
        exact read
      · rw [Blk.rereadHeld, tile]
        exact (if_pos there).trans read
    have put := Blk.listReread_due here held on due again
    exact ⟨fun zero => act (put.trans (congrArg b1.putServed (if_pos (beq_iff_eq.mpr zero)))),
      fun fail => act (put.trans (congrArg b1.putServed (if_neg (mt beq_iff_eq.mp fail))))⟩
  · have again : s.blk.rereadHeld r = (0, [], s.blk) := by
      rw [Blk.rereadHeld, tile]
      exact if_neg (ne_true_of_eq_false gone)
    exact act ((Blk.listReread_due here held on due again).trans (congrArg s.blk.putServed (if_pos (by decide))))

/-- Settles O45: slots as their control word and the load's checks say, each message by its cell, a scan by how its reads end, and the
merge by the first entries in the order of their keys. -/
theorem searchLoadsScansAndMerges : Obligations.SearchLoadsScansAndMerges := by
  unfold Obligations.SearchLoadsScansAndMerges
  refine ⟨shardControl, fun s slot h idle => ?_, shardLoadEnds, fun s a tail ha ht hg => ?_, fun b b1 d => Blk.takeQuery_next,
    fun s cell len hc hl off => ?_, fun s cell len b1 hc hl on => ?_, fun s cell len d b1 hc hl on => ?_, scanEnds,
    bestEntries_smallest, fun s => ?_, rereads, fun s => ?_⟩
  · exact exec_blk_same (f := fun b => b.shardLoadDone slot) rfl (decide_eq_true h) (s.blk.shardLoadDone_off slot idle)
  · intro posted
    have wf : (Instr.queryPost a tail).wf = true := by simp [Instr.wf, ha, ht]
    have word : (BitVec.ofNat 32 tail).toNat % 64 = tail := by
      rw [BitVec.toNat_ofNat]
      omega
    refine exec_next (f := fun n => n.writeReg a Page.SEARCH 0x080 true (BitVec.ofNat 32 tail)) rfl wf ?_
    rw [s.node.writeReg_block a _ (by decide) hg, Blk.writeBlock_qringTail, word]
    rfl
  · have ok : (decide (cell < 96) && decide (len ≤ 18432)) = true := by rw [decide_eq_true hc, decide_eq_true hl]; rfl
    obtain ⟨query, result, final⟩ := s.blk.tree_off cell len off
    exact ⟨exec_blk_same (f := fun b => b.treeQuery cell len) rfl ok query,
      exec_blk_same (f := fun b => b.treeResult cell len) rfl ok result, exec_blk_same (f := fun b => b.treeFinal cell len) rfl ok final⟩
  · obtain ⟨query, result, final⟩ := treeMessages s cell len b1 hc hl on
    exact ⟨query none, result none, final none⟩
  · intro m p
    obtain ⟨query, result, final⟩ := treeMessages s cell len b1 hc hl on
    refine ⟨query (some d), fun read => ⟨fun late => ?_, fun x served => ?_⟩, final (some d)⟩
    · exact resultRead_late cell late ▸ result (some d) read
    · exact resultRead_served cell served ▸ result (some d) read
  · refine ⟨fun off => ?_, fun on => ?_⟩
    · have closed : (!s.blk.powered Page.SEARCH) = true := by rw [off]; rfl
      exact ⟨exec_blk_same (f := fun b => b.queryTimeout) rfl rfl (if_pos closed),
        exec_blk_same (f := fun b => b.queryAbandon) rfl rfl (if_pos closed)⟩
    · have running : ¬(!s.blk.powered Page.SEARCH) = true := by rw [on]; exact Bool.false_ne_true
      exact ⟨exec_blk (f := fun b => b.queryTimeout) rfl rfl (if_neg running),
        exec_blk (f := fun b => b.queryAbandon) rfl rfl (if_neg running)⟩
  · exact exec_blk (f := fun b => b.prefetchAge) rfl rfl rfl

end Sys2Proof.Machine
end

section
/-! PROOFS. Clients (spec/15): their messages, their streams, batches and views. -/

namespace Sys2Proof.Machine

/-! ### Messages by what they ask (spec/15 R370, R371, R375) -/

theorem icp_malformed {s : State} {i : Instr} {m : IcpMsg} {F : Node → Node} (act : exec i s = s.act i (fun n => n.icpIn m F))
    (wf : i.wf = true) (bad : icpMalformed m = true) : exec i s = .next (s.withBlk s.blk.rxBad) :=
  exec_next (f := fun n => n.icpIn m F) act wf (if_pos bad)

theorem icp_taken {s : State} {i : Instr} {m : IcpMsg} {F : Node → Node} {n : Node} (act : exec i s = s.act i (fun n => n.icpIn m F))
    (wf : i.wf = true) (good : icpMalformed m = false) (effect : F s.node = n) : exec i s = .next { s with node := n } :=
  exec_next (f := fun n => n.icpIn m F) act wf ((if_neg (ne_true_of_eq_false good)).trans effect)

theorem icp_blk {s : State} {i : Instr} {m : IcpMsg} {f : Blk → Blk} {b : Blk}
    (act : exec i s = s.act i (fun n => n.icpIn m (fun n => n.on f))) (wf : i.wf = true) (good : icpMalformed m = false)
    (effect : f s.blk = b) : exec i s = .next (s.withBlk b) :=
  icp_taken act wf good (congrArg (fun b => { s.node with b := b }) effect)

/-- A message that names no context of this node, or comes from elsewhere than its binding. -/
def Blk.stranger (b : Blk) (m : IcpMsg) : Prop := b.ctxNamed m = none ∨ ∃ k, b.ctxNamed m = some k ∧ b.bound k m = false

section
variable {b : Blk} {m : IcpMsg}

theorem Blk.icpTakes_open (on : b.icpTakes m = true) : ¬(!b.icpTakes m) = true := by
  rw [on]
  exact Bool.false_ne_true

theorem Blk.icp_untaken (off : b.icpTakes m = false) :
    b.icpOpenMsg m = b ∧ b.icpClose m = b ∧ b.icpAck m = b ∧ b.icpPing m = b := by
  have closed : (!b.icpTakes m) = true := by rw [off]; rfl
  refine ⟨?_, if_pos closed, if_pos closed, if_pos closed⟩
  unfold Blk.icpOpenMsg
  rw [if_pos closed]
  exact (ite_congr rfl (fun _ => if_pos closed) (fun _ => rfl)).trans (ite_self b)

theorem Blk.icpClose_stranger (on : b.icpTakes m = true) (who : b.stranger m) : b.icpClose m = b.unbound := by
  unfold Blk.icpClose
  rw [if_neg (Blk.icpTakes_open on)]
  obtain none_ | ⟨k, some_, away⟩ := who
  · rw [none_]
  · rw [some_]
    exact if_pos (by rw [away]; rfl)

theorem Blk.icpAck_stranger (on : b.icpTakes m = true) (who : b.stranger m) : b.icpAck m = b.unbound := by
  unfold Blk.icpAck
  rw [if_neg (Blk.icpTakes_open on)]
  obtain none_ | ⟨k, some_, away⟩ := who
  · rw [none_]
  · rw [some_]
    exact if_pos (by rw [away]; rfl)

theorem Blk.icpPing_stranger (on : b.icpTakes m = true) (who : b.stranger m) : b.icpPing m = b.unbound := by
  unfold Blk.icpPing
  rw [if_neg (Blk.icpTakes_open on)]
  obtain none_ | ⟨k, some_, away⟩ := who
  · rw [none_]
  · rw [some_]
    exact if_neg (ne_true_of_eq_false away)

theorem Node.icpRequest_untaken {n : Node} (off : n.b.icpTakes m = false) : n.icpRequest m = n := by
  have closed : (!n.b.icpTakes m) = true := by rw [off]; rfl
  exact if_pos closed

theorem Node.icpRequest_stranger {n : Node} (on : n.b.icpTakes m = true) (who : n.b.stranger m) :
    n.icpRequest m = { n with b := n.b.unbound } := by
  unfold Node.icpRequest
  rw [if_neg (Blk.icpTakes_open on)]
  obtain none_ | ⟨k, some_, away⟩ := who
  · rw [none_]
    rfl
  · rw [some_]
    exact if_pos (by rw [away]; rfl)

theorem Blk.bound_known {k : Nat} (bound : b.bound k m = true) : ¬(!b.bound k m) = true := by
  rw [bound]
  exact Bool.false_ne_true

theorem Blk.icpPing_bound {k : Nat} (on : b.icpTakes m = true) (named : b.ctxNamed m = some k) (bound : b.bound k m = true) :
    b.icpPing m = b.icpSend k 0x86 m.seq [] := by
  unfold Blk.icpPing
  rw [if_neg (Blk.icpTakes_open on), named]
  exact if_pos bound

theorem Blk.icpClose_bound {k : Nat} (on : b.icpTakes m = true) (named : b.ctxNamed m = some k) (bound : b.bound k m = true) :
    b.icpClose m = if b.clOpen k = true then b.closeClient k 1 else b := by
  unfold Blk.icpClose
  rw [if_neg (Blk.icpTakes_open on), named]
  exact if_neg (Blk.bound_known bound)

/-- The journal entries whose completion an acknowledgement of a context names (spec/15 R392). -/
def Blk.ackedEntry (b : Blk) (k : Nat) (m : IcpMsg) (x : JEntry) : Bool :=
  x.state == jCommitted && (((b.cl k).buf.filter (fun i => i.sent && ackNames m i.seq)).map (fun i => i.seq)).contains x.recSeq &&
    x.client == k % 64

theorem Blk.icpAck_bound {k : Nat} (on : b.icpTakes m = true) (named : b.ctxNamed m = some k) (bound : b.bound k m = true) :
    b.icpAck m = if k < 64
      then (b.ackFree k m).each (((b.ackFree k m).journal.entries.filter (fun e => b.ackedEntry k m e.2)).map (fun e => e.1)) Blk.freeEntry
      else (b.ackFree k m).each (((b.ackFree k m).journal.ward.filter (fun e => b.ackedEntry k m e.2)).map (fun e => e.1))
        (fun b e => b.setWard e noEntry) := by
  unfold Blk.icpAck
  rw [if_neg (Blk.icpTakes_open on), named]
  exact if_neg (Blk.bound_known bound)

/-! ### OPEN (spec/15 R375, R379, spec/16 R404) -/

/-- NO_SERVICE with a fault code. -/
def Blk.noServiceTo (b : Blk) (m : IcpMsg) (code : Nat) : Blk :=
  b.icpTo m.mac m.src (m.client % 64) m.origin 0 0x85 0 (natLe 2 code ++ natLe 1 (b.get LIFE.STATE) ++ natLe 1 0)

theorem Blk.icpOpenMsg_standby (on : b.icpTakes m = true) (sleeps : b.power.mode = 2 ∧ b.inMaintenance = false) :
    b.icpOpenMsg m = if (b.noServiceTo m 0).ctxNamed m = some 0 ∧ (b.noServiceTo m 0).bound 0 m = true
      then (b.noServiceTo m 0).wakeSource 4 else b.noServiceTo m 0 := by
  have serves : ¬(b.power.mode != 2 || b.inMaintenance) = true := by
    rw [sleeps.1, sleeps.2]
    decide
  have answered : b.icpOpenMsg m = (b.noServiceTo m 0).when ((b.noServiceTo m 0).ctxNamed m == some 0 && (b.noServiceTo m 0).bound 0 m)
      (fun b => b.wakeSource 4) := by
    unfold Blk.icpOpenMsg
    rw [if_neg serves, if_neg (Blk.icpTakes_open on)]
    rfl
  rw [answered, Blk.when]
  simp only [Bool.and_eq_true, beq_iff_eq]

theorem Blk.icpOpenMsg_awake (awake : ¬(b.power.mode = 2 ∧ b.inMaintenance = false)) : b.icpOpenMsg m = b.icpOpen m := by
  unfold Blk.icpOpenMsg
  refine if_pos ?_
  rw [Bool.or_eq_true, bne_iff_ne]
  by_cases mode : b.power.mode = 2
  · exact .inr (Bool.of_not_eq_false (fun off => awake ⟨mode, off⟩))
  · exact .inl mode

theorem Blk.icpOpen_unnamed (on : b.icpTakes m = true) (named : b.ctxNamed m = none) : b.icpOpen m = b.unbound := by
  unfold Blk.icpOpen
  rw [if_neg (Blk.icpTakes_open on), named]

/-- Context 0 goes to a client elsewhere while a presence window is open. -/
def Blk.rebinds (b : Blk) (k : Nat) (m : IcpMsg) : Bool :=
  k == 0 && b.clEnabled 0 && !b.bound 0 m && b.flag OASIS.STATUS_PRES_WINDOW

/-- Context `k` stands open. -/
def Blk.opensCtx (b : Blk) (k : Nat) : Blk :=
  ((b.setCl k { b.cl k with state := if (b.cl k).state == csFoster then csFoster else csOpen }).free 144).2

/-- OPEN from a context's binding (spec/15 R375). -/
def Blk.openBound (b : Blk) (k : Nat) (m : IcpMsg) : Blk :=
  if !b.bound k m then b.unbound
  else ((((b.opensCtx k).raise CLIENT.IRQ_RAW_OPENED).icpSend k 0x81 (b.cl k).nextSeq
    ((b.opensCtx k).openedBytes k (Config.freeValue b.fresh % 2 ^ 144))).resendFrom k m.seq)

theorem Blk.icpOpen_named {k : Nat} (on : b.icpTakes m = true) (named : b.ctxNamed m = some k) :
    b.icpOpen m = if (b.inMaintenance && k != 0) || (!b.inMaintenance && !b.flag CLIENT.CL_CTRL_SERVICE)
      then b.noServiceTo m (b.get TALLY.CONTENT_FAULT)
      else (if b.rebinds k m then (b.sendClosed 0 5).bindTo 0 m.mac m.src else b).openBound k m := by
  unfold Blk.icpOpen
  rw [if_neg (Blk.icpTakes_open on), named]
  rfl

theorem Blk.opensCtx_open (b : Blk) (k : Nat) : (b.opensCtx k).clOpen k = true := by
  have stored : (b.opensCtx k).cl k = { b.cl k with state := if (b.cl k).state == csFoster then csFoster else csOpen } :=
    Tbl.get_put_same _ _ _ _
  rw [Blk.clOpen, stored]
  dsimp only
  split <;> rfl

end

/-! ### Timers of a context (spec/15 R372, R374) -/

theorem Blk.fragTimeout_late {b : Blk} {k : Nat} {f : Frag} (part : (b.cl k).frag = some f) (late : 30000 ≤ b.linesSince f.since) :
    b.fragTimeout k = b.fragLost k := by
  unfold Blk.fragTimeout
  rw [part]
  exact if_pos late

theorem Blk.fragTimeout_early {b : Blk} {k : Nat} (early : ∀ f, (b.cl k).frag = some f → b.linesSince f.since < 30000) :
    b.fragTimeout k = b := by
  unfold Blk.fragTimeout
  split
  next f part => exact if_neg (Nat.not_le.mpr (early f part))
  next => rfl

theorem Blk.resendTimeout_eq (b : Blk) (k : Nat) : b.resendTimeout k =
    if b.active Page.CLIENT = true ∧ b.clOpen k = true ∧ 0 < (b.cl k).unacked ∧ b.get CLIENT.RESEND_T ≤ b.linesSince (b.cl k).timer
    then b.resendFrom k 0 else b := by
  unfold Blk.resendTimeout
  simp only [Bool.and_eq_true, decide_eq_true_iff, and_assoc]

/-! ### Posted items (spec/15 R382 to R384) -/

theorem Blk.writeBlock_client (b : Blk) (a : Agent) (off : Nat) (v : Word) : b.writeBlock a Page.CLIENT off v =
    if off < 0x040 then b.writeHeader Page.CLIENT off v
    else if isShlCoord Page.CLIENT off then (b.storeKey (b.reachKey Page.CLIENT off) v).touchShl Page.CLIENT
    else if off == 0x058 then b.itemPost (v.toNat % 1024)
    else b.storeKey (b.reachKey Page.CLIENT off) v := rfl

theorem Blk.writeBlock_iringTail (b : Blk) (a : Agent) (v : Word) : b.writeBlock a Page.CLIENT 0x058 v = b.itemPost (v.toNat % 1024) := by
  rw [b.writeBlock_client, if_neg (by decide), if_neg (by decide), if_pos (by decide)]

theorem Blk.takePosted_read {b b1 b2 b3 : Blk} {d h i : List Byte}
    (entry : b.bulkRead 1 (b.get CLIENT.IRING_BASE_LO + 2 ^ 32 * b.get CLIENT.IRING_BASE_HI + 16 * b.get CLIENT.IRING_HEAD) 16 = (0, d, b1))
    (header : b1.bulkRead 1 (leAt d 0 8) 16 = (0, h, b2)) (item : b2.bulkRead 1 (leAt d 0 8) (leAt h 2 2 * 8) = (0, i, b3)) :
    let p : PostedItem := ⟨if leAt d 8 1 == 1 then some (leAt d 9 1) else none, i⟩
    let moved := b3.set CLIENT.IRING_HEAD ((b.get CLIENT.IRING_HEAD + 1) % 1024)
    b.takePosted = if moved.itemBad p = true then moved.itemRefused else moved.takeItem15 p := by
  intro p moved
  unfold Blk.takePosted
  dsimp only
  rw [entry]
  dsimp only
  rw [if_pos (show (0 == 0) = true by decide), header]
  dsimp only
  rw [if_pos (show (0 == 0) = true by decide), item]
  rfl

section
variable (b : Blk) (p : PostedItem)

theorem Blk.takeItem15_direct (direct : 36 ≤ itemView p.bytes ∨ itemType p.bytes = 7 ∨ itemType p.bytes = 8 ∨ itemType p.bytes = 16) :
    b.takeItem15 p = b.each b.openClients (fun b k => if b.itemFor k p = true
      then (b.capCrops k [p.bytes]).1.foldl (fun b i => b.appendItem k i (itemType p.bytes == 8 || itemType p.bytes == 16) false)
        (b.capCrops k [p.bytes]).2 else b) := by
  unfold Blk.takeItem15
  refine if_pos ?_
  simpa only [Bool.or_eq_true, decide_eq_true_iff, beq_iff_eq, or_assoc] using direct

theorem Blk.takeItem15_view (view : itemView p.bytes < 36) (t7 : itemType p.bytes ≠ 7) (t8 : itemType p.bytes ≠ 8)
    (t16 : itemType p.bytes ≠ 16) :
    let v := itemView p.bytes
    let f := b.frameOfItem p.bytes
    b.takeItem15 p = if b.viewClosed v f = true then (b.bumpSat CLIENT.LATE_ITEMS).captureOwnFree Page.CLIENT 0x03
      else if itemLast p.bytes = true ∨ itemType p.bytes = 5 ∧ b.batch v f = [] ∧ b.framesOf v f ≤ max 1 (leAt p.bytes 20 4)
        then (b.deliverBatch v (b.batch v f ++ [p])).closeView v f
      else b.setBatch v f (b.batch v f ++ [p]) := by
  intro v f
  have batched : ¬(decide (36 ≤ v) || itemType p.bytes == 7 || itemType p.bytes == 8 || itemType p.bytes == 16) = true := by
    simp only [Bool.or_eq_true, decide_eq_true_iff, beq_iff_eq, not_or]
    exact ⟨⟨⟨Nat.not_le.mpr view, t7⟩, t8⟩, t16⟩
  unfold Blk.takeItem15
  rw [if_neg batched]
  simp only [Bool.or_eq_true, Bool.and_eq_true, beq_iff_eq, List.isEmpty_iff, decide_eq_true_iff, and_assoc]
  rfl

end

/-! ### Views (spec/15 R383, R384) -/

/-- What a list without some keys holds: the default at those, what it held at the others. -/
theorem Tbl.get_filter {α : Type} (d : Nat → α) (t : Tbl α) (q : Nat × α → Bool) (keep : Nat → Bool) (keys : ∀ e, q e = keep e.1) (k : Nat) :
    Tbl.get d (t.filter q) k = if keep k then Tbl.get d t k else d k := by
  have cleared : t.filter q = Tbl.clear t (fun k => !keep k) :=
    congrArg (fun r => List.filter r t) (funext fun e => (keys e).trans (Bool.not_not _).symm)
  rw [cleared, Tbl.get_clear]
  cases keep k <;> rfl

theorem batchKey_parts {v : Nat} (f : BitVec 32) (small : v < 36) : batchView (batchKey v f) = v ∧ batchFrame (batchKey v f) = f := by
  unfold batchView batchFrame batchKey
  refine ⟨by omega, ?_⟩
  rw [show (f.toNat * 64 + v) / 64 = f.toNat by omega]
  exact BitVec.ofNat_toNat 32 f

theorem frameDiff_self (f : BitVec 32) : frameDiff f f = 0 := by
  rw [frameDiff, BitVec.sub_self]
  rfl

theorem Blk.closeView_batch (b : Blk) (v : Nat) (f : BitVec 32) {w : Nat} (g : BitVec 32) (small : w < 36) :
    (b.closeView v f).batch w g = if w ≠ v ∨ 0 < frameDiff g f then b.batch w g else [] := by
  obtain ⟨view, frame⟩ := batchKey_parts g small
  have kept := Tbl.get_filter (dflt []) b.client.batches
    (fun e => batchView e.1 != v || decide (0 < frameDiff (batchFrame e.1) f))
    (fun k => batchView k != v || decide (0 < frameDiff (batchFrame k) f)) (fun _ => rfl) (batchKey w g)
  simp only [view, frame, Bool.or_eq_true, bne_iff_ne, decide_eq_true_iff] at kept
  exact kept

theorem Blk.closeView_closed (b : Blk) (v : Nat) (f : BitVec 32) : (b.closeView v f).viewClosed v f = true := by
  have committed : (b.closeView v f).get (CLIENT.COMMITTED_F v) = f.toNat :=
    (b.get_set_same (CLIENT.COMMITTED_F v) f.toNat (show 0 + 32 ≤ 32 by decide)).trans (Nat.mod_eq_of_lt f.isLt)
  have closed : Tbl.get (dflt false) (b.closeView v f).client.closed v = true :=
    Tbl.get_put_same (dflt false) (b.set (CLIENT.COMMITTED_F v) f.toNat).client.closed v true
  rw [Blk.viewClosed, closed, committed, BitVec.ofNat_toNat, BitVec.setWidth_eq, frameDiff_self]
  rfl

theorem Blk.closeView_regs (b : Blk) (v : Nat) (f : BitVec 32) : b.keepsRegs (b.closeView v f) [(CLIENT.COMMITTED_F v).key] :=
  (b.keepsRegs_refl _).set (f := CLIENT.COMMITTED_F v) _ List.mem_cons_self

theorem Blk.emptyClose_eq (b : Blk) {v : Nat} (small : v < 36) : b.emptyClose v =
    if b.active Page.CLIENT = true ∧ b.curL = lastActive b.mode ∧ b.viewClosed v b.ep.frame = false ∧
      ∀ m ∈ b.client.marks, ¬(m.view = v ∧ m.frame = b.ep.frame)
    then b.closeView v b.ep.frame else b := by
  unfold Blk.emptyClose
  rw [decide_eq_true small, Bool.true_and]
  simp only [Bool.and_eq_true, Bool.not_eq_true', List.any_eq_false, beq_iff_eq, and_assoc]

/-! ### HEALTH and wake records (spec/15 R388, spec/16 R424) -/

theorem Blk.healthPeriodic_eq (b : Blk) (on : b.active Page.CLIENT = true) : b.healthPeriodic =
    if 300000 ≤ b.linesSince b.client.healthAt ∨ healthKey b.client.lastHealth ≠ healthKey b.healthBody then b.appendHealth else b := by
  have runs : ¬(!b.active Page.CLIENT) = true := by rw [on]; exact Bool.false_ne_true
  unfold Blk.healthPeriodic
  rw [if_neg runs]
  by_cases long : 300000 ≤ b.linesSince b.client.healthAt
  · rw [if_pos long, if_pos (Or.inl long)]
  · rw [if_neg long]
    unfold Blk.healthChanged
    by_cases same : healthKey b.client.lastHealth = healthKey b.healthBody
    · rw [if_pos (beq_iff_eq.mpr same), if_neg (not_or.mpr ⟨long, not_not.mpr same⟩)]
    · rw [if_neg (mt beq_iff_eq.mp same), if_pos (.inr same)]

/-- HEALTH of a state that lasts is due. -/
def Blk.lastingDue (b : Blk) : Bool := match b.client.safeAt with | some l => decide (30000 ≤ b.linesSince l) | none => true

theorem Blk.lastingDue_iff (b : Blk) : b.lastingDue = true ↔ ∀ l, b.client.safeAt = some l → 30000 ≤ b.linesSince l := by
  unfold Blk.lastingDue
  cases b.client.safeAt with
  | none => simp
  | some l => simp

/-- HEALTH repeated: appended, and its line period noted. -/
def Blk.repeatHealth (b : Blk) : Blk := { b.appendHealth with client := { b.appendHealth.client with safeAt := some b.ep.line } }

theorem Blk.safeHealth_eq (b : Blk) : b.safeHealth = if b.inSafe && b.powered Page.CLIENT && b.lastingDue then b.repeatHealth else b := rfl

theorem Blk.maintHealth_eq (b : Blk) :
    b.maintHealth = if b.inMaintenance && b.powered Page.CLIENT && b.lastingDue then b.repeatHealth else b := rfl

theorem Blk.wakeEvent_off {b : Blk} (off : b.active Page.CLIENT = false ∨ b.flag CLIENT.CL_CTRL_SERVICE = false ∨
    ∀ r ∈ b.oasis.recs.head?, r.sentTo.isSome = true) : b.wakeEvent = b := by
  unfold Blk.wakeEvent
  split
  next r rest recs =>
    refine if_neg ?_
    rw [Bool.and_eq_true, Bool.and_eq_true]
    rintro ⟨⟨active, service⟩, fresh⟩
    obtain idle | unserved | sent := off
    · exact ne_true_of_eq_false idle active
    · exact ne_true_of_eq_false unserved service
    · have told := sent r (by rw [recs]; rfl)
      rw [Option.isNone_iff_eq_none.mp fresh] at told
      exact Bool.false_ne_true told
  next => rfl

/-- The item of a wake record. -/
def Blk.wakeItem (b : Blk) (r : WakeRec) : List Byte :=
  b.itemBytes 8 0xFF r.coord (natLe 2 r.pattern ++ natLe 1 r.macroPix ++ natLe 1 r.fromMode ++ natLe 2 r.flashes ++ natLe 10 0)

theorem Blk.wakeEvent_due {b : Blk} {r : WakeRec} {rest : List WakeRec} (recs : b.oasis.recs = r :: rest) (on : b.active Page.CLIENT = true)
    (service : b.flag CLIENT.CL_CTRL_SERVICE = true) (fresh : r.sentTo = none) :
    b.wakeEvent = if b.openClients.filter (fun k => b.subscribes k (b.wakeItem r)) = [] then b.setRecs rest
      else (b.each (b.openClients.filter (fun k => b.subscribes k (b.wakeItem r)))
          (fun b' k => b'.appendItem k (b.wakeItem r) true false)).setRecs
        ({ r with sentTo := some ((b.openClients.filter (fun k => b.subscribes k (b.wakeItem r))).map (fun k => (k, (b.cl k).nextSeq))) } ::
          rest) := by
  have due : (b.active Page.CLIENT && b.flag CLIENT.CL_CTRL_SERVICE && r.sentTo.isNone) = true := by
    rw [on, service, fresh]
    rfl
  unfold Blk.wakeEvent
  rw [recs]
  dsimp only
  rw [if_pos due]
  change (if (b.openClients.filter (fun k => b.subscribes k (b.wakeItem r))).isEmpty = true then _ else _) = _
  simp only [List.isEmpty_iff]
  rfl

/-- Messages that are malformed, or that CLIENT does not take. -/
theorem icpTurnedAway (s : State) (m : IcpMsg) (ok : icpOk m = true) :
    (icpMalformed m = true → ∀ c ∈ [Instr.icpOpen, .icpClose, .icpAck, .icpRequest, .icpPing],
      exec (c m) s = .next (s.withBlk s.blk.rxBad)) ∧
    (icpMalformed m = false → s.blk.icpTakes m = false →
      (∀ c ∈ [Instr.icpOpen, .icpRequest, .icpPing], exec (c m) s = .next (s.withBlk s.blk)) ∧
      (∀ c ∈ [Instr.icpClose, .icpAck], exec (c m) s = .next (s.withBlk s.blk.wakeAcked))) := by
  refine ⟨fun bad => ?_, fun good off => ?_⟩
  · simp only [List.forall_mem_cons, List.not_mem_nil, false_implies, implies_true, and_true]
    exact ⟨icp_malformed (F := fun n => n.on (fun b => b.icpOpenMsg m)) rfl ok bad,
      icp_malformed (F := fun n => n.on (fun b => b.icpCloseMsg m)) rfl ok bad,
      icp_malformed (F := fun n => n.on (fun b => b.icpAckMsg m)) rfl ok bad, icp_malformed (F := fun n => n.icpRequest m) rfl ok bad,
      icp_malformed (F := fun n => n.on (fun b => b.icpPing m)) rfl ok bad⟩
  · obtain ⟨opens, closes, acks, pings⟩ := Blk.icp_untaken off
    simp only [List.forall_mem_cons, List.not_mem_nil, false_implies, implies_true, and_true]
    exact ⟨⟨icp_blk (f := fun b => b.icpOpenMsg m) rfl ok good opens,
      icp_taken (F := fun n => n.icpRequest m) rfl ok good (Node.icpRequest_untaken off),
      icp_blk (f := fun b => b.icpPing m) rfl ok good pings⟩,
      icp_blk (f := fun b => b.icpCloseMsg m) rfl ok good (congrArg Blk.wakeAcked closes),
      icp_blk (f := fun b => b.icpAckMsg m) rfl ok good (congrArg Blk.wakeAcked acks)⟩

/-- Messages of a stranger count in RX_UNBOUND. -/
theorem icpStrangers (s : State) (m : IcpMsg) (ok : icpOk m = true) (good : icpMalformed m = false) (on : s.blk.icpTakes m = true)
    (who : s.blk.stranger m) :
    (∀ c ∈ [Instr.icpRequest, .icpPing], exec (c m) s = .next (s.withBlk s.blk.unbound)) ∧
    (∀ c ∈ [Instr.icpClose, .icpAck], exec (c m) s = .next (s.withBlk s.blk.unbound.wakeAcked)) := by
  simp only [List.forall_mem_cons, List.not_mem_nil, false_implies, implies_true, and_true]
  exact ⟨⟨icp_taken (F := fun n => n.icpRequest m) rfl ok good (Node.icpRequest_stranger on who),
    icp_blk (f := fun b => b.icpPing m) rfl ok good (Blk.icpPing_stranger on who)⟩,
    icp_blk (f := fun b => b.icpCloseMsg m) rfl ok good (congrArg Blk.wakeAcked (Blk.icpClose_stranger on who)),
    icp_blk (f := fun b => b.icpAckMsg m) rfl ok good (congrArg Blk.wakeAcked (Blk.icpAck_stranger on who))⟩

/-- OPEN of a context in its modes (spec/15 R375, R379). -/
theorem icpOpens (s : State) (m : IcpMsg) (ok : icpOk m = true) (good : icpMalformed m = false) (on : s.blk.icpTakes m = true) (k : Nat)
    (named : s.blk.ctxNamed m = some k) (awake : ¬(s.blk.power.mode = 2 ∧ s.blk.inMaintenance = false)) :
    let turnedAway := s.blk.inMaintenance = true ∧ k ≠ 0 ∨ s.blk.inMaintenance = false ∧ s.blk.flag CLIENT.CL_CTRL_SERVICE = false
    let rebinds := k = 0 ∧ s.blk.clEnabled 0 = true ∧ s.blk.bound 0 m = false ∧ s.blk.flag OASIS.STATUS_PRES_WINDOW = true
    (turnedAway → exec (.icpOpen m) s = .next (s.withBlk (s.blk.noServiceTo m (s.blk.get TALLY.CONTENT_FAULT)))) ∧
    (¬turnedAway → ∀ b, b = (if rebinds then (s.blk.sendClosed 0 5).bindTo 0 m.mac m.src else s.blk) →
      (b.bound k m = false → exec (.icpOpen m) s = .next (s.withBlk b.unbound)) ∧
      (b.bound k m = true → exec (.icpOpen m) s = .next (s.withBlk ((((b.opensCtx k).raise CLIENT.IRQ_RAW_OPENED).icpSend k 0x81
        (b.cl k).nextSeq ((b.opensCtx k).openedBytes k (Config.freeValue b.fresh % 2 ^ 144))).resendFrom k m.seq)))) := by
  intro turnedAway rebinds
  have act {b : Blk} (h : s.blk.icpOpen m = b) : exec (.icpOpen m) s = .next (s.withBlk b) :=
    icp_blk (f := fun b => b.icpOpenMsg m) rfl ok good ((Blk.icpOpenMsg_awake awake).trans h)
  have opened := Blk.icpOpen_named on named
  have turned : ((s.blk.inMaintenance && k != 0) || (!s.blk.inMaintenance && !s.blk.flag CLIENT.CL_CTRL_SERVICE)) = true ↔ turnedAway := by
    simp only [Bool.or_eq_true, Bool.and_eq_true, Bool.not_eq_true', bne_iff_ne, turnedAway]
  have rebound : s.blk.rebinds k m = true ↔ rebinds := by
    simp only [Blk.rebinds, Bool.and_eq_true, Bool.not_eq_true', beq_iff_eq, and_assoc, rebinds]
  refine ⟨fun away => act (opened.trans (if_pos (turned.mpr away))), fun served b hb => ?_⟩
  have here : s.blk.icpOpen m = b.openBound k m := by
    rw [opened, if_neg (mt turned.mp served), hb]
    simp only [rebound]
  refine ⟨fun away => act (here.trans (if_pos (by rw [away]; rfl))), fun bound => act (here.trans (if_neg (Blk.bound_known bound)))⟩

/-- What a context's own messages do (spec/15 R371, R374, R375, R392). -/
theorem icpBound (s : State) (m : IcpMsg) (ok : icpOk m = true) (good : icpMalformed m = false) (on : s.blk.icpTakes m = true) (k : Nat)
    (named : s.blk.ctxNamed m = some k) (bound : s.blk.bound k m = true) :
    exec (.icpPing m) s = .next (s.withBlk (s.blk.icpSend k 0x86 m.seq [])) ∧
    exec (.icpClose m) s = .next (s.withBlk (if s.blk.clOpen k = true then s.blk.closeClient k 1 else s.blk).wakeAcked) ∧
    ∀ freed, s.blk.ackFree k m = freed → (k < 64 → exec (.icpAck m) s = .next (s.withBlk
      (freed.each ((freed.journal.entries.filter (fun e => s.blk.ackedEntry k m e.2)).map (fun e => e.1)) Blk.freeEntry).wakeAcked)) ∧
    (64 ≤ k → exec (.icpAck m) s = .next (s.withBlk
      (freed.each ((freed.journal.ward.filter (fun e => s.blk.ackedEntry k m e.2)).map (fun e => e.1))
        (fun b e => b.setWard e noEntry)).wakeAcked)) := by
  have acked := Blk.icpAck_bound on named bound
  refine ⟨icp_blk (f := fun b => b.icpPing m) rfl ok good (Blk.icpPing_bound on named bound),
    icp_blk (f := fun b => b.icpCloseMsg m) rfl ok good (congrArg Blk.wakeAcked (Blk.icpClose_bound on named bound)),
    fun freed hf => ?_⟩
  rw [hf] at acked
  exact ⟨fun low => icp_blk (f := fun b => b.icpAckMsg m) rfl ok good (congrArg Blk.wakeAcked (acked.trans (if_pos low))),
    fun high => icp_blk (f := fun b => b.icpAckMsg m) rfl ok good (congrArg Blk.wakeAcked (acked.trans (if_neg (Nat.not_lt.mpr high))))⟩

/-- A repeated HEALTH goes out when its state lasts and it is due. -/
theorem repeatsHealth (s : State) (c : Instr) (state : Bool)
    (which : c = .safeHealthRepeat ∧ state = s.blk.inSafe ∨ c = .maintHealthRepeat ∧ state = s.blk.inMaintenance) :
    let due := state = true ∧ s.blk.powered Page.CLIENT = true ∧ ∀ l, s.blk.client.safeAt = some l → 30000 ≤ s.blk.linesSince l
    (due → exec c s = .next (s.withBlk s.blk.repeatHealth)) ∧ (¬due → exec c s = .next s) := by
  intro due
  have test : (state && s.blk.powered Page.CLIENT && s.blk.lastingDue) = true ↔ due := by
    rw [Bool.and_eq_true, Bool.and_eq_true, s.blk.lastingDue_iff, and_assoc]
  obtain ⟨rfl, rfl⟩ | ⟨rfl, rfl⟩ := which
  · exact ⟨fun h => exec_blk (f := fun b => b.safeHealth) rfl rfl (s.blk.safeHealth_eq.trans (if_pos (test.mpr h))),
      fun h => exec_blk_same (f := fun b => b.safeHealth) rfl rfl (s.blk.safeHealth_eq.trans (if_neg (mt test.mp h)))⟩
  · exact ⟨fun h => exec_blk (f := fun b => b.maintHealth) rfl rfl (s.blk.maintHealth_eq.trans (if_pos (test.mpr h))),
      fun h => exec_blk_same (f := fun b => b.maintHealth) rfl rfl (s.blk.maintHealth_eq.trans (if_neg (mt test.mp h)))⟩

/-- Settles O46: each message by whether it is well formed, taken and bound, each posted item by its view, and a view's close by the
frames it drops. -/
theorem clientsOpenAcknowledgeAndAreServed : Obligations.ClientsOpenAcknowledgeAndAreServed := by
  unfold Obligations.ClientsOpenAcknowledgeAndAreServed
  refine ⟨fun s m ok => ?_, fun s k hk => ?_, fun s a tail ha ht hg => ?_, fun b b1 b2 b3 d h i => Blk.takePosted_read, fun b p => ?_,
    fun b v f g hv => ?_, fun s v hv => ?_, fun s => ?_⟩
  · intro ends counted refused standby
    obtain ⟨malformed, untaken⟩ := icpTurnedAway s m ok
    refine ⟨malformed, untaken, fun good on => ⟨fun sleeps => ?_, fun who => icpStrangers s m ok good on who, fun named awake => ?_,
      fun k named awake => ?_, fun k named bound => ?_⟩⟩
    · exact icp_blk (f := fun b => b.icpOpenMsg m) rfl ok good (Blk.icpOpenMsg_standby on sleeps)
    · exact icp_blk (f := fun b => b.icpOpenMsg m) rfl ok good ((Blk.icpOpenMsg_awake awake).trans (Blk.icpOpen_unnamed on named))
    · obtain ⟨away, served⟩ := icpOpens s m ok good on k named awake
      refine ⟨away, fun here b hb => ?_⟩
      obtain ⟨unknown, known⟩ := served here b hb
      exact ⟨unknown, fun bound => ⟨b.opensCtx_open k, known bound⟩⟩
    · intro x seqs left freed done
      have hf : s.blk.ackFree k m = freed := rfl
      clear_value freed
      obtain ⟨pings, closes, acks⟩ := icpBound s m ok good on k named bound
      exact ⟨pings, closes, acks freed hf⟩
  · refine ⟨fun f part late => ?_, fun early => ?_, ?_⟩
    · exact exec_blk (f := fun b => b.fragTimeout k) rfl (decide_eq_true hk) (Blk.fragTimeout_late part late)
    · exact exec_blk_same (f := fun b => b.fragTimeout k) rfl (decide_eq_true hk) (Blk.fragTimeout_early early)
    · exact ⟨fun due => exec_blk (f := fun b => b.resendTimeout k) rfl (decide_eq_true hk) ((s.blk.resendTimeout_eq k).trans (if_pos due)),
        fun idle => exec_blk_same (f := fun b => b.resendTimeout k) rfl (decide_eq_true hk) ((s.blk.resendTimeout_eq k).trans (if_neg idle))⟩
  · intro posted
    have wf : (Instr.itemPost a tail).wf = true := by simp [Instr.wf, ha, ht]
    have word : (BitVec.ofNat 32 tail).toNat % 1024 = tail := by
      rw [BitVec.toNat_ofNat]
      omega
    refine exec_next (f := fun n => n.writeReg a Page.CLIENT 0x058 true (BitVec.ofNat 32 tail)) rfl wf ?_
    rw [s.node.writeReg_block a _ (by decide) hg, Blk.writeBlock_iringTail, word]
    rfl
  · intro v t f closes
    refine ⟨b.takeItem15_direct p, fun view t7 t8 t16 => ?_⟩
    have taken := b.takeItem15_view p view t7 t8 t16
    refine ⟨fun late => taken.trans (if_pos late), fun stands ends => ?_, fun stands goes => ?_⟩
    · exact taken.trans ((if_neg (ne_true_of_eq_false stands)).trans (if_pos ends))
    · have joined := taken.trans ((if_neg (ne_true_of_eq_false stands)).trans (if_neg goes))
      rw [joined]
      exact ⟨Tbl.get_put_same _ _ _ _, rfl⟩
  · intro closed
    refine ⟨b.closeView_closed v f, fun past => ?_, fun later => ?_, fun w hw apart => ?_, b.closeView_regs v f⟩
    · exact (b.closeView_batch v f g hv).trans (if_neg (not_or.mpr ⟨not_not.mpr rfl, Int.not_lt.mpr past⟩))
    · exact (b.closeView_batch v f g hv).trans (if_pos (.inr later))
    · exact (b.closeView_batch v f g hw).trans (if_pos (.inl apart))
  · intro due
    exact ⟨fun h => exec_blk (f := fun b => b.emptyClose v) rfl (decide_eq_true hv) ((s.blk.emptyClose_eq hv).trans (if_pos h)),
      fun h => exec_blk_same (f := fun b => b.emptyClose v) rfl (decide_eq_true hv) ((s.blk.emptyClose_eq hv).trans (if_neg h))⟩
  · refine ⟨fun off => ?_, fun on => exec_blk (f := fun b => b.healthPeriodic) rfl rfl (s.blk.healthPeriodic_eq on), repeatsHealth s,
      fun off => exec_blk_same (f := fun b => b.wakeEvent) rfl rfl (Blk.wakeEvent_off off), fun r rest recs on service fresh => ?_⟩
    · exact exec_blk_same (f := fun b => b.healthPeriodic) rfl rfl (if_pos (by rw [off]; rfl))
    · intro item ks
      have event := Blk.wakeEvent_due recs on service fresh
      exact ⟨fun nobody => exec_blk (f := fun b => b.wakeEvent) rfl rfl (event.trans (if_pos nobody)),
        fun some_ => exec_blk (f := fun b => b.wakeEvent) rfl rfl (event.trans (if_neg some_))⟩

end Sys2Proof.Machine
end

section
/-! PROOFS. Accepted work (spec/15): requests checked and journalled, stages that end, and requests executed. -/

namespace Sys2Proof.Machine

/-! ### What a message to a client leaves -/

/-- `b'` differs from `b` in the registers of the host ports and in what has gone out. -/
def Blk.besideSent (b b' : Blk) : Prop := (∃ r q, b' = { b with regs := r, sent := q }) ∧ b.keepsOtherPages b' [0x50, 0x51]

theorem Blk.besideSent_refl (b : Blk) : b.besideSent b := ⟨⟨_, _, rfl⟩, b.keepsOtherPages_refl _⟩

theorem Blk.besideSent.trans {a b c : Blk} (h : a.besideSent b) (k : b.besideSent c) : a.besideSent c := by
  obtain ⟨⟨r, q, rfl⟩, pages⟩ := h
  obtain ⟨⟨r', q', rfl⟩, pages'⟩ := k
  exact ⟨⟨r', q', rfl⟩, pages.trans pages'⟩

theorem Blk.besideSent_each {α : Type} {f : Blk → α → Blk} (hf : ∀ (b : Blk) i, b.besideSent (f b i)) (l : List α) (b : Blk) :
    b.besideSent (b.each l f) := by
  induction l generalizing b with
  | nil => exact b.besideSent_refl
  | cons i l ih => exact (hf b i).trans (ih (f b i))

theorem Blk.bumpSat_emit_eq (b : Blk) (f : Fld) (e : OutEvent) :
    (b.bumpSat f).emit e = { b with regs := (b.bumpSat f).regs, sent := b.sent ++ [e] } := rfl

theorem Blk.besideSent_icpTo (b : Blk) {mac : Nat} (dst : HostAddr) (client origin flags type seq : Nat) (payload : List Byte) (small : mac < 2) :
    b.besideSent (b.icpTo mac dst client origin flags type seq payload) := by
  have page : pageOf (HOST.TX_FRAMES mac).key ∈ [0x50, 0x51] :=
    (by decide : ∀ mac < 2, pageOf (HOST.TX_FRAMES mac).key ∈ [0x50, 0x51]) mac small
  unfold Blk.icpTo
  split
  · exact b.besideSent_refl
  · exact Blk.besideSent_each (fun b i => ⟨⟨_, _, Blk.bumpSat_emit_eq b _ _⟩,
      (b.keepsOtherPages_refl _).set (f := HOST.TX_FRAMES mac) (satInc 32 (b.get (HOST.TX_FRAMES mac))) page⟩) _ _

theorem Blk.besideSent_icpSend (b : Blk) (k type seq : Nat) (payload : List Byte) : b.besideSent (b.icpSend k type seq payload) :=
  b.besideSent_icpTo _ _ _ _ _ _ _ (bitsAt_lt _ 7 1)

theorem Blk.besideSent.client {b b' : Blk} (h : b.besideSent b') : b'.client = b.client := by
  obtain ⟨⟨r, q, rfl⟩, -⟩ := h
  rfl

theorem Blk.besideSent.journal {b b' : Blk} (h : b.besideSent b') : b'.journal = b.journal := by
  obtain ⟨⟨r, q, rfl⟩, -⟩ := h
  rfl

/-! ### Fragments (spec/15 R372) -/

theorem Blk.reassemble_first {b : Blk} {k : Nat} {m : IcpMsg} (parts : 1 < m.fragCnt) (empty : (b.cl k).frag = none) :
    b.reassemble k m = (none, b.setCl k { b.cl k with frag := some ⟨m.seq, m.fragCnt, [(m.fragIdx, m.payload)], b.ep.line⟩ }) := by
  have older : b.fragOlder k m = b := by
    unfold Blk.fragOlder
    rw [empty]
  have part : ¬((List.range m.fragCnt).all (fun i => [(m.fragIdx, m.payload)].any (fun p => p.1 == i))) = true := by
    rw [List.all_eq_true]
    intro all
    have zero := all 0 (List.mem_range.mpr (by omega))
    have one := all 1 (List.mem_range.mpr parts)
    simp only [List.any_cons, List.any_nil, Bool.or_false, beq_iff_eq] at zero one
    omega
  unfold Blk.reassemble
  rw [if_neg (Nat.not_le.mpr parts)]
  dsimp only
  rw [older, empty]
  exact if_neg part

theorem Node.icpRequest_bound {n : Node} {m : IcpMsg} {k : Nat} (on : n.b.icpTakes m = true) (named : n.b.ctxNamed m = some k)
    (bound : n.b.bound k m = true) : n.icpRequest m = match (n.b.reassemble k m).1 with
      | none => { n with b := (n.b.reassemble k m).2 }
      | some p => if (n.b.reassemble k m).2.inMaintenance && maintReg k p
        then Node.maintServe { n with b := (n.b.reassemble k m).2 } m.seq p else { n with b := (n.b.reassemble k m).2.request k m.seq p } := by
  unfold Node.icpRequest
  rw [if_neg (Blk.icpTakes_open on), named]
  refine (if_neg (Blk.bound_known bound)).trans ?_
  obtain ⟨whole, b1⟩ := n.b.reassemble k m
  cases whole <;> rfl

theorem Node.icpRequest_part {n : Node} {m : IcpMsg} {k : Nat} {b1 : Blk} (on : n.b.icpTakes m = true)
    (named : n.b.ctxNamed m = some k) (bound : n.b.bound k m = true) (read : n.b.reassemble k m = (none, b1)) :
    n.icpRequest m = { n with b := b1 } := by
  rw [Node.icpRequest_bound on named bound, read]

theorem Node.icpRequest_whole {n : Node} {m : IcpMsg} {k : Nat} {p : List Byte} {b1 : Blk} (on : n.b.icpTakes m = true)
    (named : n.b.ctxNamed m = some k) (bound : n.b.bound k m = true) (read : n.b.reassemble k m = (some p, b1)) :
    n.icpRequest m = if b1.inMaintenance && maintReg k p then Node.maintServe { n with b := b1 } m.seq p
      else { n with b := b1.request k m.seq p } := by
  rw [Node.icpRequest_bound on named bound, read]

theorem Node.maintServe_eq (n : Node) (seq : Nat) (p : List Byte) :
    n.maintServe seq p = (n.hostReg p).2.on (fun b =>
      let b := b.setCl 0 { b.cl 0 with lastReq := max (b.cl 0).lastReq seq }
      b.appendItem 0 (b.completionItem { noEntry with client := 0, kind := 3, reqSeq := seq, accept := b.now }
        (if (n.hostReg p).1.cause = 0 then csOk else csFailed) (regBody (n.hostReg p).1)) true false) := by
  unfold Node.maintServe
  simp only [beq_iff_eq]
  rfl

/-! ### The checks of Table 11 (spec/15 R391) -/

section
variable {b : Blk} {k seq : Nat} {p : List Byte}

theorem Blk.request_checked (served : b.noService = false) (own : k < 64) : b.request k seq p =
    if seq = 0 then b.refuse k seq 3
    else if seq ≤ (b.cl k).lastReq then b.acceptAgain k seq
    else if seq ≤ b.topSeq k then b
    else if b.topSeq k + 1 < seq then b.refuse k seq 2
    else if requestOk p = false then b.refuse k seq 3
    else if requestNeeds p &&& b.permOf k ≠ requestNeeds p then b.refuse k seq 1
    else if b.hasToken k = false then b.refuse k seq 5
    else if b.get JOURNAL.JMAX ≤ (b.entriesOfCtx k).length ∨ (b.jent (b.get JOURNAL.RING_TAIL)).isFree = false then
      (((b.bumpSat JOURNAL.REFUSED_FULL).raise JOURNAL.IRQ_RAW_FULL).captureOwnFree Page.JOURNAL jcFull).refuse k seq 4
    else b.journalRequest k seq p := by
  unfold Blk.request
  rw [if_neg (ne_true_of_eq_false served), if_neg (Nat.not_le.mpr own)]
  simp only [beq_iff_eq, bne_iff_ne, Bool.not_eq_true', Bool.or_eq_true, decide_eq_true_iff]

/-- A request of the next seq, by the checks that follow. -/
theorem Blk.request_next (served : b.noService = false) (own : k < 64) (new : (b.cl k).lastReq < seq) (next : seq = b.topSeq k + 1) :
    b.request k seq p =
    if requestOk p = false then b.refuse k seq 3
    else if requestNeeds p &&& b.permOf k ≠ requestNeeds p then b.refuse k seq 1
    else if b.hasToken k = false then b.refuse k seq 5
    else if b.get JOURNAL.JMAX ≤ (b.entriesOfCtx k).length ∨ (b.jent (b.get JOURNAL.RING_TAIL)).isFree = false then
      (((b.bumpSat JOURNAL.REFUSED_FULL).raise JOURNAL.IRQ_RAW_FULL).captureOwnFree Page.JOURNAL jcFull).refuse k seq 4
    else b.journalRequest k seq p := by
  rw [Blk.request_checked served own, if_neg (by omega), if_neg (by omega), if_neg (by omega), if_neg (by omega)]

end

/-! ### Stages that end (spec/15 R394) -/

theorem Blk.mirrorDone_eq (b : Blk) (e : Nat) :
    b.mirrorDone e = if b.powered Page.JOURNAL = true ∧ (b.jent e).stage = 1 then b.stageDone e else b := by
  unfold Blk.mirrorDone
  simp only [Bool.and_eq_true, beq_iff_eq]

/-- An entry as the transition on its way leaves it. -/
def JEntry.target (x : JEntry) : JEntry := { x with state := if x.state == jFree then jAccepted else jCommitted }

theorem Blk.journalFlashDone_eq (b : Blk) (e : Nat) (flashErr : Bool) :
    b.journalFlashDone e flashErr =
      if ¬(b.powered Page.JOURNAL = true ∧ (b.jent e).stage = 2) then b
      else if flashErr = true ∨ ∃ p ∈ (b.jent e).target.pieces e, b.jFlashOk p = false then b.captureOwnFree Page.JOURNAL jcFlashErr
      else (b.writeJFlash ((b.jent e).target.pieces e)).stageDone e := by
  have steps : b.journalFlashDone e flashErr = if !(b.powered Page.JOURNAL && (b.jent e).stage == 2) then b
      else if flashErr || !((b.jent e).target.pieces e).all b.jFlashOk then b.captureOwnFree Page.JOURNAL jcFlashErr
      else (b.writeJFlash ((b.jent e).target.pieces e)).stageDone e := rfl
  rw [steps]
  simp only [Bool.not_eq_true', ← Bool.not_eq_true, Bool.and_eq_true, beq_iff_eq, Bool.or_eq_true, List.all_eq_true, not_forall, exists_prop]

/-- The entries whose mirror write is on its way go on to flash. -/
def Blk.lateToFlash (b : Blk) : Blk :=
  b.each ((b.journal.entries.filter (fun y => y.2.stage == 1)).map (fun y => y.1))
    (fun b i => b.setJent i { b.jent i with stage := 2, since := b.ep.line })

theorem Blk.mirrorTimeout_eq (b : Blk) (e : Nat) : b.mirrorTimeout e =
    if b.powered Page.JOURNAL = true ∧ (b.jent e).stage = 1 ∧
      (b.get JOURNAL.MIRROR_T ≤ b.linesSince (b.jent e).since ∨ b.qstate b.buddyQp = qsError)
    then b.mirrorFail.lateToFlash else b := by
  have steps : b.mirrorTimeout e = if b.powered Page.JOURNAL && (b.jent e).stage == 1 &&
      (b.get JOURNAL.MIRROR_T ≤ b.linesSince (b.jent e).since || b.qstate b.buddyQp == qsError)
      then b.mirrorFail.lateToFlash else b := rfl
  rw [steps]
  simp only [Bool.and_eq_true, beq_iff_eq, Bool.or_eq_true, decide_eq_true_iff, and_assoc]

/-! #### An acceptance that is told -/

/-- The entry is ACCEPTED and its seq the context's last. -/
def Blk.accepted (b : Blk) (e : Nat) : Blk :=
  let x := b.jent e
  let b := b.setJent e { x with state := jAccepted, stage := 0 }
  (b.setCl x.client { b.cl x.client with lastReq := max (b.cl x.client).lastReq x.reqSeq }).keepCoord x

/-- An acceptance counted, and raised. -/
def Blk.acceptCounted (b : Blk) (m : Nat) : Blk :=
  ((b.bumpSat JOURNAL.ACCEPTS).raise JOURNAL.IRQ_RAW_ACCEPTED).conf JOURNAL.ACCEPT_MAX m

theorem Blk.acceptDone_eq (b : Blk) (e : Nat) : ∃ m seq payload,
    b.acceptDone e = ((b.accepted e).acceptCounted m).icpSend (b.jent e).client 0x82 seq payload := ⟨_, _, _, rfl⟩

theorem Blk.acceptCounted_shows (b : Blk) (m : Nat) :
    (b.acceptCounted m).journal = b.journal ∧ (b.acceptCounted m).client = b.client ∧
    (b.acceptCounted m).flag JOURNAL.IRQ_RAW_ACCEPTED = true := by
  refine ⟨?_, ?_, ?_⟩
  · rw [Blk.acceptCounted, Blk.conf_journal, Blk.raise_journal, Blk.bumpSat_journal]
  · rw [Blk.acceptCounted, Blk.conf_client, Blk.raise_client, Blk.bumpSat_client]
  · rw [Blk.acceptCounted, Blk.conf_flag, Blk.flag_set_apart _ _ (by unfold Fld.fits; decide) (.inl (by decide))]
    exact Blk.flag_raise_same _ _ (by unfold Fld.fits; decide) (by decide)

theorem Blk.accepted_shows (b : Blk) (e : Nat) :
    (b.accepted e).jent e = { b.jent e with state := jAccepted, stage := 0 } ∧
    ((b.accepted e).cl (b.jent e).client).lastReq = max (b.cl (b.jent e).client).lastReq (b.jent e).reqSeq :=
  ⟨Tbl.get_put_same (dflt noEntry) b.journal.entries e ({ b.jent e with state := jAccepted, stage := 0 } : JEntry),
    congrArg ClCtx.lastReq (Tbl.get_put_same (dflt noClient) b.client.ctxs (b.jent e).client
      { b.cl (b.jent e).client with lastReq := max (b.cl (b.jent e).client).lastReq (b.jent e).reqSeq })⟩

theorem Blk.acceptDone_shows (b : Blk) (e : Nat) :
    (b.acceptDone e).jent e = { b.jent e with state := jAccepted, stage := 0 } ∧
    ((b.acceptDone e).cl (b.jent e).client).lastReq = max (b.cl (b.jent e).client).lastReq (b.jent e).reqSeq ∧
    (b.acceptDone e).flag JOURNAL.IRQ_RAW_ACCEPTED = true := by
  obtain ⟨m, seq, payload, steps⟩ := b.acceptDone_eq e
  obtain ⟨entry, last⟩ := b.accepted_shows e
  obtain ⟨journal, client, raised⟩ := (b.accepted e).acceptCounted_shows m
  have sent := ((b.accepted e).acceptCounted m).besideSent_icpSend (b.jent e).client 0x82 seq payload
  rw [← steps] at sent
  refine ⟨?_, ?_, ?_⟩
  · rw [Blk.jent, sent.journal, journal]
    exact entry
  · rw [Blk.cl, sent.client, client]
    exact last
  · rw [← raised]
    exact congrArg (· != 0) (Blk.get_of_word_eq (sent.2 _ (by decide)))

/-! ### Registers of the journal -/

theorem Blk.writeBlock_journal (b : Blk) (a : Agent) (off : Nat) (v : Word) : b.writeBlock a Page.JOURNAL off v =
    if off < 0x040 then b.writeHeader Page.JOURNAL off v
    else if isShlCoord Page.JOURNAL off then (b.storeKey (b.reachKey Page.JOURNAL off) v).touchShl Page.JOURNAL
    else if off == 0x040 then b.writeJCtrl v
    else if off == 0x078 then b.commitEntry (v.toNat % 4096)
    else b.storeKey (b.reachKey Page.JOURNAL off) v := rfl

theorem Blk.writeBlock_jCtrl (b : Blk) (a : Agent) (v : Word) : b.writeBlock a Page.JOURNAL 0x040 v = b.writeJCtrl v := by
  rw [b.writeBlock_journal, if_neg (by decide), if_neg (by decide), if_pos (by decide)]

theorem Blk.writeBlock_commit (b : Blk) (a : Agent) (v : Word) : b.writeBlock a Page.JOURNAL 0x078 v = b.commitEntry (v.toNat % 4096) := by
  rw [b.writeBlock_journal, if_neg (by decide), if_neg (by decide), if_neg (by decide), if_pos (by decide)]

/-- MODE of J_CTRL as written. -/
theorem Blk.jCtrl_mode (b : Blk) (v : Word) (clear : bitsAt v.toNat 1 1 = 0) :
    (b.storeKey (regKey Page.JOURNAL 0x040) v).flag JOURNAL.J_CTRL_MODE = false := by
  have row : regRow (pageOf (regKey Page.JOURNAL 0x040)) (offOf (regKey Page.JOURNAL 0x040)) = some ⟨0x040, 1, 0, .none, 0, 7, 0, 0, true⟩ := by
    decide +kernel
  have stored := b.storeKey_direct v row rfl
  have mode : (b.storeKey (regKey Page.JOURNAL 0x040) v).get JOURNAL.J_CTRL_MODE = 0 := by
    rw [stored, Blk.get, show JOURNAL.J_CTRL_MODE.key = regKey Page.JOURNAL 0x040 from rfl, Blk.word_setWord_same]
    exact (bitsAt_maskedWrite _ _ (by decide) (by decide) rfl).trans clear
  rw [Blk.flag, mode]
  rfl

theorem Blk.commitEntry_eq (b : Blk) (e : Nat) : b.commitEntry e =
    if (b.jent e).state = jAccepted ∧ (b.jent e).stage = 0 then (b.setJent e { b.jent e with asked := true }).startCommit e else b := by
  have steps : b.commitEntry e = if (b.jent e).state == jAccepted && (b.jent e).stage == 0
      then (b.setJent e { b.jent e with asked := true }).startCommit e else b := rfl
  rw [steps]
  simp only [Bool.and_eq_true, beq_iff_eq]

/-! ### Recovery and fostering (spec/15 R395, R396) -/

/-- A recovered entry is stored, and a committed one's item joins its context's stream. -/
def Blk.recoverEntry (b : Blk) (r : JRecord) : Blk :=
  let x := recEntry r (b.get XROUTE.NODE_ID)
  let b := ((b.setJent (r.index % 4096) x).writeLocal (x.pieces (r.index % 4096))).keepCoord x
  if r.committed = false then b
  else if itemFits x.client r.item = false then b.itemRefused
  else b.setCl x.client { b.cl x.client with buf := (b.cl x.client).buf ++ [⟨r.recSeq, r.item, true, false, false⟩] }

/-- The ring as the recovered entries span it, and the recovery over. -/
def Blk.recovered (b : Blk) (recs : List JRecord) : Blk :=
  let ring := (b.set JOURNAL.RING_HEAD ((recs.head?.map (fun r => r.index)).getD 0)).set JOURNAL.RING_TAIL
    ((recs.getLast?.map (fun r => r.index + 1)).getD 0)
  ((ring.conf JOURNAL.J_CTRL_RECOVERING 0).markChanged Page.JOURNAL).healthChanged

theorem Blk.journalRecover_on {b : Blk} (recs : List JRecord) (ctxs : List CtxRecord)
    (on : b.powered Page.JOURNAL = true ∧ b.flag JOURNAL.J_CTRL_RECOVERING = true) :
    b.journalRecover recs ctxs = (recs.foldl Blk.recoverEntry (ctxs.foldl Blk.resumeCtx b)).recovered recs := by
  have runs : ¬(!b.powered Page.JOURNAL || !b.flag JOURNAL.J_CTRL_RECOVERING) = true := by
    rw [on.1, on.2]
    decide
  unfold Blk.journalRecover
  rw [if_neg runs]
  simp only [Bool.not_eq_true']
  rfl

theorem Blk.journalRecover_off {b : Blk} (recs : List JRecord) (ctxs : List CtxRecord)
    (off : ¬(b.powered Page.JOURNAL = true ∧ b.flag JOURNAL.J_CTRL_RECOVERING = true)) : b.journalRecover recs ctxs = b := by
  refine if_pos ?_
  rwa [← Bool.not_and, Bool.not_eq_true', ← Bool.not_eq_true, Bool.and_eq_true]

/-- The windows onto the mirror close. -/
def Blk.mirrorClosed (b : Blk) : Blk := b.each ((List.range 1024).filter b.mirrorWindow) (fun b w => b.conf (XQP.WIN1_EN w) 0)

/-- The ward is taken up. -/
def Blk.wardTaken (b : Blk) : Blk := { b with journal := { b.journal with fosterOf := some (b.get JOURNAL.WARD), ward := [] } }

theorem Blk.fosterStart_eq (b : Blk) (ctxs : List CtxRecord) : b.fosterStart ctxs =
    if b.powered Page.JOURNAL = true ∧ b.get JOURNAL.WARD ≠ 0xFF ∧ b.journal.fosterOf = none then
      (ctxs.filter (fun c => bitAt (nth c.words 0 0) 0)).foldl Blk.openFoster b.mirrorClosed.wardTaken.readWard
    else b := by
  by_cases starts : b.powered Page.JOURNAL = true ∧ b.get JOURNAL.WARD ≠ 0xFF ∧ b.journal.fosterOf = none
  · rw [if_pos starts]
    obtain ⟨on, ward, free⟩ := starts
    have runs : ¬(!b.powered Page.JOURNAL || b.get JOURNAL.WARD == 0xFF || b.journal.fosterOf.isSome) = true := by
      simp [on, ward, free]
    unfold Blk.fosterStart Blk.wardTaken Blk.mirrorClosed
    rw [if_neg runs]
  · rw [if_neg starts]
    refine if_pos ?_
    rw [not_and_or, not_and_or, not_not, Bool.not_eq_true] at starts
    rw [Bool.or_eq_true, Bool.or_eq_true, Bool.not_eq_true', beq_iff_eq, Option.isSome_iff_ne_none, or_assoc]
    exact starts

theorem Blk.fosterEnd_eq (b : Blk) (restored : Bool) : b.fosterEnd restored =
    if b.journal.fosterOf.isSome = true ∧ (restored = true ∨ b.journal.ward = []) then
      let told := b.each b.fosterCtxs (fun b k => (b.sendClosed k (if restored then 4 else 3)).setCl k noClient)
      { told with journal := { told.journal with fosterOf := none, ward := [] } }
    else b := by
  have test : (b.journal.fosterOf.isNone || (!restored && !b.journal.ward.isEmpty)) = true ↔
      ¬(b.journal.fosterOf.isSome = true ∧ (restored = true ∨ b.journal.ward = [])) := by
    rw [not_and_or, not_or, Bool.or_eq_true, Bool.and_eq_true, Bool.not_eq_true', Bool.not_eq_true', Bool.not_eq_true, Bool.not_eq_true,
      Option.isSome_eq_false_iff, List.isEmpty_eq_false_iff]
  unfold Blk.fosterEnd
  by_cases ended : b.journal.fosterOf.isSome = true ∧ (restored = true ∨ b.journal.ward = [])
  · exact (if_neg (mt test.mp (not_not.mpr ended))).trans (if_pos ended).symm
  · exact (if_pos (test.mpr ended)).trans (if_neg ended).symm

/-! ### A damaged ward (spec/15 R397) -/

theorem Blk.besideBulk_bulkPost (b : Blk) (cls a : Nat) (bs : List Byte) : b.besideBulk (b.bulkPost cls a bs) := by
  unfold Blk.bulkPost
  split
  · exact b.besideBulk_refl
  · split
    · exact b.besideBulk_memory _
    · exact b.besideBulk_unitWrite cls a bs

theorem Blk.setQp_apart (b : Blk) (q : Nat) (x : QpSt) : (b.setQp q x).journal = b.journal ∧ ∀ k, (b.setQp q x).word k = b.word k :=
  ⟨rfl, fun _ => rfl⟩

theorem Blk.appendWr_shows (b : Blk) (q : Nat) (bytes : List Byte) :
    (b.appendWr q bytes).journal = b.journal ∧ b.keepsOtherPages (b.appendWr q bytes) [Page.BULK, Page.XQP] := by
  have posted := b.besideBulk_bulkPost (sendEng q) (b.sqBase q + 32 * b.get (XQP.QCTX8_SQ_TAIL q)) bytes
  obtain ⟨t, ht⟩ : ∃ t, b.bulkPost (sendEng q) (b.sqBase q + 32 * b.get (XQP.QCTX8_SQ_TAIL q)) bytes = t := ⟨_, rfl⟩
  rw [ht] at posted
  have steps : ∃ v x, b.appendWr q bytes = (t.set (XQP.QCTX8_SQ_TAIL q) v).setQp q x := ⟨_, _, by rw [← ht]; rfl⟩
  obtain ⟨v, x, steps⟩ := steps
  have page : pageOf (XQP.QCTX8_SQ_TAIL q).key = Page.XQP := by
    show (0x45070 + 0x100000 * (q + 1)) / 4096 % 256 = 0x45
    omega
  rw [steps]
  refine ⟨?_, fun k hk => ?_⟩
  · rw [(Blk.setQp_apart _ q x).1, Blk.set_journal]
    exact posted.proj (·.journal) (fun _ _ _ _ _ _ => rfl)
  · simp only [List.mem_cons, List.not_mem_nil, or_false, not_or] at hk
    have kept : t.word k = b.word k := posted.1 k (by simpa using hk.1)
    exact ((Blk.setQp_apart _ q x).2 k).trans ((Blk.word_set_ne t (XQP.QCTX8_SQ_TAIL q) v (fun at_ : k = _ => hk.2 ((congrArg pageOf at_).trans page))).trans kept)

/-- The ward's damage noted. -/
def Blk.damageNoted (b : Blk) : Blk := { (b.raise JOURNAL.IRQ_RAW_WARD_DAMAGED) with journal := { b.journal with damaged := true } }

/-- The request for a resync goes to the ward, where a queue pair to it has room. -/
def Blk.resyncAsked (b : Blk) : Blk :=
  match (List.range 256).find? (fun q =>
      b.qstate q == qsReady && b.get (XQP.QCTX0_CLASS q) == 3 && b.get (XQP.QCTX0_PEER_NODE q) == b.get JOURNAL.WARD) with
  | some q =>
    if b.sqFull q then b
    else
      let (v, b) := b.free 32
      b.appendWr q (natLe 1 1 ++ natLe 1 0 ++ natLe 2 0 ++ natLe 4 0 ++ natLe 8 0 ++ natLe 8 (b.get JOURNAL.WARD * 2 ^ 56) ++ natLe 4 0 ++
        natLe 4 v)
  | none => b

theorem Blk.wardDamaged_eq (b : Blk) (page : Nat) : b.wardDamaged page =
    if b.powered Page.JOURNAL = true ∧ b.inMirror page = true ∧ (b.bpage page).spare.isSome = true then b.damageNoted.resyncAsked else b := by
  have test : (!(b.powered Page.JOURNAL && b.inMirror page && (b.bpage page).spare.isSome)) = true ↔
      ¬(b.powered Page.JOURNAL = true ∧ b.inMirror page = true ∧ (b.bpage page).spare.isSome = true) := by
    rw [Bool.not_eq_true', ← Bool.not_eq_true, Bool.and_eq_true, Bool.and_eq_true, and_assoc]
  unfold Blk.wardDamaged
  by_cases hit : b.powered Page.JOURNAL = true ∧ b.inMirror page = true ∧ (b.bpage page).spare.isSome = true
  · exact (if_neg (mt test.mp (not_not.mpr hit))).trans (if_pos hit).symm
  · exact (if_pos (test.mpr hit)).trans (if_neg hit).symm

theorem Blk.resyncAsked_shows (b : Blk) :
    b.resyncAsked.journal = b.journal ∧ b.keepsOtherPages b.resyncAsked [Page.BULK, Page.XQP] := by
  unfold Blk.resyncAsked
  split
  next q _ =>
    split
    · exact ⟨rfl, b.keepsOtherPages_refl _⟩
    · exact Blk.appendWr_shows { b with fresh := b.fresh + 1 } q _
  next => exact ⟨rfl, b.keepsOtherPages_refl _⟩

theorem Blk.damaged_shows (b : Blk) :
    b.damageNoted.resyncAsked.journal = { b.journal with damaged := true } ∧
    b.damageNoted.resyncAsked.flag JOURNAL.IRQ_RAW_WARD_DAMAGED = true := by
  obtain ⟨journal, pages⟩ := b.damageNoted.resyncAsked_shows
  have raised : b.damageNoted.flag JOURNAL.IRQ_RAW_WARD_DAMAGED = true :=
    b.flag_raise_same JOURNAL.IRQ_RAW_WARD_DAMAGED (by unfold Fld.fits; decide) (by decide)
  refine ⟨journal, ?_⟩
  rw [← raised]
  exact congrArg (· != 0) (Blk.get_of_word_eq (pages _ (by decide)))

/-! ### Execution by kind (spec/15 R390) -/

section
variable {n : Node} {ward : Bool} {e kind : Nat}

theorem Node.reqRun_unready (f : Node → JEntry → Nat × List Byte × Node) (wait : n.b.reqReady ward e kind = false) :
    n.reqRun ward e kind f = n := by
  refine if_pos ?_
  rw [wait]
  rfl

theorem reqReady_open {b : Blk} (ready : b.reqReady ward e kind = true) : ¬(!b.reqReady ward e kind) = true := by
  rw [ready]
  exact Bool.false_ne_true

theorem Node.reqRun_ward (f : Node → JEntry → Nat × List Byte × Node) (ready : n.b.reqReady true e kind = true) :
    n.reqRun true e kind f = n.on (fun b => b.reqFinish true e csNodeLost []) := (if_neg (reqReady_open ready)).trans (if_pos rfl)

theorem Node.reqRun_denied (f : Node → JEntry → Nat × List Byte × Node) (ready : n.b.reqReady false e kind = true)
    (barred : ¬requestNeeds (n.b.jent e).body &&& n.b.permOf (n.b.jent e).client = requestNeeds (n.b.jent e).body) :
    n.reqRun false e kind f = n.on (fun b => b.reqFinish false e csDenied []) := by
  unfold Node.reqRun
  rw [if_neg (reqReady_open ready), if_neg Bool.false_ne_true]
  exact if_pos (bne_iff_ne.mpr barred)

theorem Node.reqRun_done (f : Node → JEntry → Nat × List Byte × Node) (ready : n.b.reqReady false e kind = true)
    (may : requestNeeds (n.b.jent e).body &&& n.b.permOf (n.b.jent e).client = requestNeeds (n.b.jent e).body)
    {status : Nat} {body : List Byte} {n1 : Node} (done : f n (n.b.jent e) = (status, body, n1)) :
    n.reqRun false e kind f = n1.on (fun b => b.reqFinish false e status body) := by
  unfold Node.reqRun
  rw [if_neg (reqReady_open ready), if_neg Bool.false_ne_true]
  refine (if_neg (mt bne_iff_ne.mp (not_not.mpr may))).trans ?_
  rw [show n.b.reqEntry false e = n.b.jent e from rfl, done]

theorem Blk.reqQuery_denied {b : Blk} (ready : b.reqReady false e 1 = true)
    (barred : ¬requestNeeds (b.jent e).body &&& b.permOf (b.jent e).client = requestNeeds (b.jent e).body) :
    b.reqQuery false e = b.reqFinish false e csDenied [] := by
  unfold Blk.reqQuery
  rw [if_neg (reqReady_open ready)]
  exact if_pos (bne_iff_ne.mpr barred)

theorem Blk.reqQuery_run {b : Blk} (ready : b.reqReady ward e 1 = true)
    (may : ward = true ∨ requestNeeds (b.jent e).body &&& b.permOf (b.jent e).client = requestNeeds (b.jent e).body) :
    b.reqQuery ward e = (b.reqPost ward e).reqResult ward e := by
  unfold Blk.reqQuery
  rw [if_neg (reqReady_open ready)]
  refine if_neg ?_
  rw [Bool.and_eq_true, bne_iff_ne]
  rintro ⟨own, barred⟩
  cases ward with
  | true => exact Bool.false_ne_true own
  | false => exact barred (may.resolve_left Bool.false_ne_true)

end

/-- A REQUEST of a bound context is reassembled, then checked, or served in MAINTENANCE (spec/15 R372, R379). -/
theorem icpRequests (s : State) (m : IcpMsg) (k : Nat) (ok : icpOk m = true) (good : icpMalformed m = false) (on : s.blk.icpTakes m = true)
    (named : s.blk.ctxNamed m = some k) (bound : s.blk.bound k m = true) :
    (∀ b1, s.blk.reassemble k m = (none, b1) → exec (.icpRequest m) s = .next (s.withBlk b1)) ∧
    (∀ p b1, s.blk.reassemble k m = (some p, b1) →
      ((b1.inMaintenance && maintReg k p) = false → exec (.icpRequest m) s = .next (s.withBlk (b1.request k m.seq p))) ∧
      ((b1.inMaintenance && maintReg k p) = true →
        exec (.icpRequest m) s = .next { s with node := Node.maintServe { s.node with b := b1 } m.seq p })) := by
  refine ⟨fun b1 read => ?_, fun p b1 read => ?_⟩
  · exact icp_taken (F := fun n => n.icpRequest m) rfl ok good (Node.icpRequest_part on named bound read)
  · have whole := Node.icpRequest_whole (n := s.node) on named bound read
    exact ⟨fun plain => icp_taken (F := fun n => n.icpRequest m) rfl ok good (whole.trans (if_neg (ne_true_of_eq_false plain))),
      fun maint => icp_taken (F := fun n => n.icpRequest m) rfl ok good (whole.trans (if_pos maint))⟩

/-- A whole REQUEST, check by check (spec/15 R391, Table 11). -/
theorem requestChecks (b : Blk) (k seq : Nat) (p : List Byte) :
    let may := requestNeeds p &&& b.permOf k = requestNeeds p
    let room := (b.entriesOfCtx k).length < b.get JOURNAL.JMAX ∧ (b.jent (b.get JOURNAL.RING_TAIL)).isFree = true
    (b.noService = true → b.request k seq p = b.refuse k seq 6) ∧
    (b.noService = false → 64 ≤ k → b.request k seq p = b.refuse k seq 7) ∧
    (b.noService = false → k < 64 →
      (seq = 0 → b.request k seq p = b.refuse k seq 3) ∧
      (0 < seq → seq ≤ (b.cl k).lastReq → b.request k seq p = b.acceptAgain k seq) ∧
      ((b.cl k).lastReq < seq → seq ≤ b.topSeq k → b.request k seq p = b) ∧
      ((b.cl k).lastReq < seq → b.topSeq k + 1 < seq → b.request k seq p = b.refuse k seq 2) ∧
      ((b.cl k).lastReq < seq → seq = b.topSeq k + 1 →
        (requestOk p = false → b.request k seq p = b.refuse k seq 3) ∧
        (requestOk p = true → ¬may → b.request k seq p = b.refuse k seq 1) ∧
        (requestOk p = true → may → b.hasToken k = false → b.request k seq p = b.refuse k seq 5) ∧
        (requestOk p = true → may → b.hasToken k = true → ¬room → b.request k seq p =
          (((b.bumpSat JOURNAL.REFUSED_FULL).raise JOURNAL.IRQ_RAW_FULL).captureOwnFree Page.JOURNAL jcFull).refuse k seq 4) ∧
        (requestOk p = true → may → b.hasToken k = true → room → b.request k seq p = b.journalRequest k seq p))) := by
  intro may room
  refine ⟨fun off => if_pos off, fun on high => (if_neg (ne_true_of_eq_false on)).trans (if_pos high), fun on low => ?_⟩
  have checked := Blk.request_checked (seq := seq) (p := p) on low
  refine ⟨fun zero => checked.trans (if_pos zero), fun pos old => ?_, fun new known => ?_, fun new ahead => ?_, fun new next => ?_⟩
  · exact checked.trans ((if_neg (by omega)).trans (if_pos old))
  · exact checked.trans ((if_neg (by omega)).trans ((if_neg (by omega)).trans (if_pos known)))
  · exact checked.trans ((if_neg (by omega)).trans ((if_neg (by omega)).trans ((if_neg (by omega)).trans (if_pos ahead))))
  · have after := Blk.request_next (p := p) on low new next
    have wellFormed (ok : requestOk p = true) : ¬requestOk p = false := by rw [ok]; exact Bool.noConfusion
    have token (has : b.hasToken k = true) : ¬b.hasToken k = false := by rw [has]; exact Bool.noConfusion
    have full : (b.get JOURNAL.JMAX ≤ (b.entriesOfCtx k).length ∨ (b.jent (b.get JOURNAL.RING_TAIL)).isFree = false) ↔ ¬room := by
      rw [not_and_or, Nat.not_lt, Bool.not_eq_true]
    refine ⟨fun bad => after.trans (if_pos bad), fun ok barred => ?_, fun ok allowed none_ => ?_, fun ok allowed has noRoom => ?_,
      fun ok allowed has fits => ?_⟩
    · exact after.trans ((if_neg (wellFormed ok)).trans (if_pos barred))
    · exact after.trans ((if_neg (wellFormed ok)).trans ((if_neg (not_not.mpr allowed)).trans (if_pos none_)))
    · exact after.trans ((if_neg (wellFormed ok)).trans ((if_neg (not_not.mpr allowed)).trans ((if_neg (token has)).trans
        (if_pos (full.mpr noRoom)))))
    · exact after.trans ((if_neg (wellFormed ok)).trans ((if_neg (not_not.mpr allowed)).trans ((if_neg (token has)).trans
        (if_neg (mt full.mp (not_not.mpr fits))))))

/-- How the stages of an entry end (spec/15 R394). -/
theorem stagesEnd (s : State) (e : Nat) (small : e < 4096) :
    let x := s.blk.jent e
    let on := s.blk.powered Page.JOURNAL = true
    let late := s.blk.get JOURNAL.MIRROR_T ≤ s.blk.linesSince x.since ∨ s.blk.qstate s.blk.buddyQp = qsError
    (on → x.stage = 1 → exec (.journalMirrorDone e) s = .next (s.withBlk (s.blk.stageDone e))) ∧
    (¬(on ∧ x.stage = 1) → exec (.journalMirrorDone e) s = .next s) ∧
    (∀ flashErr, ¬(on ∧ x.stage = 2) → exec (.journalFlashDone e flashErr) s = .next s) ∧
    (∀ flashErr, on → x.stage = 2 →
      let failed := flashErr = true ∨ ∃ p ∈ x.target.pieces e, s.blk.jFlashOk p = false
      (¬failed → exec (.journalFlashDone e flashErr) s = .next (s.withBlk ((s.blk.writeJFlash (x.target.pieces e)).stageDone e))) ∧
      (failed → exec (.journalFlashDone e flashErr) s = .next (s.withBlk (s.blk.captureOwnFree Page.JOURNAL jcFlashErr)))) ∧
    (on → x.stage = 1 → late → exec (.mirrorTimeout e) s = .next (s.withBlk s.blk.mirrorFail.lateToFlash)) ∧
    (¬(on ∧ x.stage = 1 ∧ late) → exec (.mirrorTimeout e) s = .next s) := by
  intro x on late
  have wf := decide_eq_true small
  refine ⟨fun powered stage => ?_, fun idle => ?_, fun flashErr idle => ?_, fun flashErr powered stage => ⟨fun fine => ?_, fun failed => ?_⟩,
    fun powered stage over_ => ?_, fun idle => ?_⟩
  · exact exec_blk (f := fun b => b.mirrorDone e) rfl wf ((s.blk.mirrorDone_eq e).trans (if_pos ⟨powered, stage⟩))
  · exact exec_blk_same (f := fun b => b.mirrorDone e) rfl wf ((s.blk.mirrorDone_eq e).trans (if_neg idle))
  · exact exec_blk_same (f := fun b => b.journalFlashDone e flashErr) rfl wf ((s.blk.journalFlashDone_eq e flashErr).trans (if_pos idle))
  · exact exec_blk (f := fun b => b.journalFlashDone e flashErr) rfl wf
      ((s.blk.journalFlashDone_eq e flashErr).trans ((if_neg (not_not.mpr ⟨powered, stage⟩)).trans (if_neg fine)))
  · exact exec_blk (f := fun b => b.journalFlashDone e flashErr) rfl wf
      ((s.blk.journalFlashDone_eq e flashErr).trans ((if_neg (not_not.mpr ⟨powered, stage⟩)).trans (if_pos failed)))
  · exact exec_blk (f := fun b => b.mirrorTimeout e) rfl wf ((s.blk.mirrorTimeout_eq e).trans (if_pos ⟨powered, stage, over_⟩))
  · exact exec_blk_same (f := fun b => b.mirrorTimeout e) rfl wf ((s.blk.mirrorTimeout_eq e).trans (if_neg idle))

/-- The commands that execute a request of a kind other than QUERY. -/
def executes (c : Instr) (ward : Bool) (e kind : Nat) (plan : Plan) (env : BurnEnv) (flashErr : Bool) : Prop :=
  c = .reqSubscribe ward e ∧ kind = 2 ∨ c = .reqReg ward e ∧ kind = 3 ∨ c = .reqConfigClient ward e ∧ kind = 4 ∨
    c = .reqPlanOffer ward e plan ∧ kind = 5 ∨ c = .reqPriv ward e env flashErr ∧ kind = 6 ∨ c = .reqHealthNow ward e ∧ kind = 7

theorem executes_run {s : State} {c : Instr} {ward : Bool} {e kind : Nat} {plan : Plan} {env : BurnEnv} {flashErr : Bool} (small : e < 4096)
    (h : executes c ward e kind plan env flashErr) : c.wf = true ∧ ∃ f, exec c s = s.act c (fun n => n.reqRun ward e kind f) := by
  have wf := decide_eq_true small
  obtain ⟨rfl, rfl⟩ | ⟨rfl, rfl⟩ | ⟨rfl, rfl⟩ | ⟨rfl, rfl⟩ | ⟨rfl, rfl⟩ | ⟨rfl, rfl⟩ := h <;> exact ⟨wf, _, rfl⟩

/-- A request that is not ready, fostered, or no longer permitted (spec/15 R390, R396). -/
theorem requestsLeft (s : State) (e : Nat) (plan : Plan) (env : BurnEnv) (flashErr : Bool) (small : e < 4096) (ward : Bool) (c : Instr)
    (kind : Nat) (which : executes c ward e kind plan env flashErr) :
    (s.blk.reqReady ward e kind = false → exec c s = .next s) ∧
    (s.blk.reqReady ward e kind = true →
      (ward = true → exec c s = .next (s.withBlk (s.blk.reqFinish true e csNodeLost []))) ∧
      (ward = false → ¬requestNeeds (s.blk.jent e).body &&& s.blk.permOf (s.blk.jent e).client = requestNeeds (s.blk.jent e).body →
        exec c s = .next (s.withBlk (s.blk.reqFinish false e csDenied [])))) := by
  obtain ⟨wf, f, act⟩ := executes_run (s := s) small which
  refine ⟨fun wait => exec_same (f := fun n => n.reqRun ward e kind f) act wf (Node.reqRun_unready f wait), fun ready => ⟨?_, ?_⟩⟩
  · rintro rfl
    exact exec_next (f := fun n => n.reqRun true e kind f) act wf (Node.reqRun_ward f ready)
  · rintro rfl barred
    exact exec_next (f := fun n => n.reqRun false e kind f) act wf (Node.reqRun_denied f ready barred)

section
variable {n : Node} {e : Nat}

/-- The context of the entry still holds the permissions that its request needs. -/
def Blk.mayRun (b : Blk) (e : Nat) : Prop :=
  requestNeeds (b.jent e).body &&& b.permOf (b.jent e).client = requestNeeds (b.jent e).body

theorem Node.reqSubscribe_done (ready : n.b.reqReady false e 2 = true) (may : n.b.mayRun e) :
    let x := n.b.jent e
    let set := ((n.b.setClWord x.client 5 (leAt x.body 4 1)).setClWord x.client 6 (leAt x.body 8 4)).setClWord x.client 7 (leAt x.body 12 4)
    n.reqSubscribe false e = Node.on { n with b := set } (fun b => b.reqFinish false e csOk []) := by
  unfold Node.reqSubscribe
  exact Node.reqRun_done _ ready may rfl

theorem Node.reqReg_done (ready : n.b.reqReady false e 3 = true) (may : n.b.mayRun e) :
    let done := n.hostReg (n.b.jent e).body
    n.reqReg false e = done.2.on (fun b => b.reqFinish false e (if done.1.cause = 0 then csOk else csFailed) (regBody done.1)) := by
  have ran := Node.reqRun_done (n := n) (fun n x => (if (n.hostReg x.body).1.cause == 0 then csOk else csFailed, regBody (n.hostReg x.body).1,
    (n.hostReg x.body).2)) ready may rfl
  simp only [beq_iff_eq] at ran
  unfold Node.reqReg
  simp only [beq_iff_eq]
  exact ran

theorem Node.reqConfig_done (ready : n.b.reqReady false e 4 = true) (may : n.b.mayRun e) :
    n.reqConfig false e = Node.on { n with b := n.b.configClient (n.b.jent e).body } (fun b => b.reqFinish false e csOk []) := by
  unfold Node.reqConfig
  exact Node.reqRun_done _ ready may rfl

theorem Node.reqPlanOffer_done (plan : Plan) (ready : n.b.reqReady false e 5 = true) (may : n.b.mayRun e) :
    let r := n.b.planTaken plan
    n.reqPlanOffer false e plan =
      Node.on { n with b := r.2 } (fun b => b.reqFinish false e (if leAt r.1 0 1 = 0 then csOk else csFailed) r.1) := by
  unfold Node.reqPlanOffer
  simp only [beq_iff_eq]
  exact Node.reqRun_done _ ready may rfl

theorem Node.reqPriv_done (env : BurnEnv) (flashErr : Bool) (ready : n.b.reqReady false e 6 = true) (may : n.b.mayRun e) :
    let x := n.b.jent e
    let done := n.privPayload (natLe 8 x.reqSeq ++ natLe 1 (leAt x.body 4 1) ++ natLe 7 0 ++ x.body.drop 8) env flashErr
    n.reqPriv false e env flashErr = done.2.on (fun b => b.reqFinish false e
      (if done.1.status = psOk then csOk else if done.1.status = psDenied then csDenied else csFailed) done.1.result) := by
  unfold Node.reqPriv
  simp only [beq_iff_eq]
  exact Node.reqRun_done _ ready may rfl

theorem Node.reqHealth_done (ready : n.b.reqReady false e 7 = true) (may : n.b.mayRun e) :
    n.reqHealth false e = n.on (fun b => b.reqFinish false e csOk n.b.healthItem) := by
  unfold Node.reqHealth
  exact Node.reqRun_done _ ready may rfl

end

/-- Settles O47: a request by the checks of Table 11, an entry by the stage that ends, and its execution by its kind. -/
theorem requestsAreJournalledExecutedAndCommitted : Obligations.RequestsAreJournalledExecutedAndCommitted := by
  unfold Obligations.RequestsAreJournalledExecutedAndCommitted
  refine ⟨fun s m k ok good on named bound => ?_, requestChecks, fun s e small => ?_, fun b e => ?_, fun s a ha => ?_,
    fun s recs ctxs wf => ?_, fun s ctxs wf => ?_, fun s restored => ?_, fun s page small => ?_, fun s e plan env flashErr small => ?_⟩
  · obtain ⟨part, whole⟩ := icpRequests s m k ok good on named bound
    refine ⟨fun one => if_pos one, Blk.reassemble_first, part, fun p b1 read => ?_⟩
    obtain ⟨plain, maint⟩ := whole p b1 read
    refine ⟨plain, fun reg => ?_⟩
    intro read
    rw [maint reg, Node.maintServe_eq]
    rfl
  · intro x target on late
    exact stagesEnd s e small
  · intro x
    refine ⟨fun free => ⟨if_pos (beq_iff_eq.mpr free), b.acceptDone_shows e⟩, fun taken => if_neg (mt beq_iff_eq.mp taken)⟩
  · refine ⟨fun hg => ?_, fun e small hg => ?_⟩
    · intro stored
      have mode : bitsAt (s.blk.fieldWord Page.JOURNAL 0x040 1 1 0).toNat 1 1 = 0 := s.blk.bitsAt_fieldWord Page.JOURNAL 0x040 0 (by decide)
      refine ⟨s.blk.jCtrl_mode _ mode, ?_⟩
      refine exec_next (f := fun n => n.writeBits a Page.JOURNAL 0x040 1 1 0) rfl ha ?_
      rw [s.node.writeBits_block a 1 1 0 (by decide) hg, Blk.writeBlock_jCtrl]
      rfl
    · have wf : (Instr.journalCommit a e).wf = true := by simp [Instr.wf, ha, small]
      have word : (BitVec.ofNat 32 e).toNat % 4096 = e := by
        rw [BitVec.toNat_ofNat]
        omega
      refine exec_next (f := fun n => n.writeReg a Page.JOURNAL 0x078 true (BitVec.ofNat 32 e)) rfl wf ?_
      rw [s.node.writeReg_block a _ (by decide) hg, Blk.writeBlock_commit, word, Blk.commitEntry_eq]
      rfl
  · intro stored ring recovers
    have entries : stored = recs.foldl Blk.recoverEntry (ctxs.foldl Blk.resumeCtx s.blk) := rfl
    have ends : ((ring.conf JOURNAL.J_CTRL_RECOVERING 0).markChanged Page.JOURNAL).healthChanged = stored.recovered recs := rfl
    rw [ends, entries]
    refine ⟨fun on => ?_, fun off => ?_⟩
    · have done := Blk.journalRecover_on (b := s.blk) recs ctxs on
      obtain ⟨t, ht⟩ : ∃ t, (recs.foldl Blk.recoverEntry (ctxs.foldl Blk.resumeCtx s.blk)).recovered recs = t := ⟨_, rfl⟩
      rw [ht] at done ⊢
      exact exec_blk (f := fun b => b.journalRecover recs ctxs) rfl wf done
    · exact exec_blk_same (f := fun b => b.journalRecover recs ctxs) rfl wf (Blk.journalRecover_off (b := s.blk) recs ctxs off)
  · intro starts closed
    have started := s.blk.fosterStart_eq ctxs
    rw [show s.blk.mirrorClosed = closed from rfl] at started
    clear_value closed
    intro taken
    rw [show closed.wardTaken = taken from rfl] at started
    exact ⟨fun on => exec_blk (f := fun b => b.fosterStart ctxs) rfl wf (started.trans (if_pos on)),
      fun off => exec_blk_same (f := fun b => b.fosterStart ctxs) rfl wf (started.trans (if_neg off))⟩
  · intro ended told
    exact ⟨fun over_ => exec_blk (f := fun b => b.fosterEnd restored) rfl rfl ((s.blk.fosterEnd_eq restored).trans (if_pos over_)),
      fun lasts => exec_blk_same (f := fun b => b.fosterEnd restored) rfl rfl ((s.blk.fosterEnd_eq restored).trans (if_neg lasts))⟩
  · intro hit
    refine ⟨fun here => ?_, fun off => exec_blk_same (f := fun b => b.wardDamaged page) rfl (decide_eq_true small)
      ((s.blk.wardDamaged_eq page).trans (if_neg off))⟩
    obtain ⟨journal, raised⟩ := s.blk.damaged_shows
    have damaged := (s.blk.wardDamaged_eq page).trans (if_pos here)
    obtain ⟨t, ht⟩ : ∃ t, s.blk.damageNoted.resyncAsked = t := ⟨_, rfl⟩
    rw [ht] at damaged journal raised
    exact completes_of_blk (f := fun b => b.wardDamaged page) rfl (decide_eq_true small) damaged ⟨journal, raised⟩
  · intro x may ends
    have wf := decide_eq_true small
    refine ⟨requestsLeft s e plan env flashErr small, fun ready allowed => ?_, fun ready allowed => ?_, fun ready allowed => ?_,
      fun ready allowed => ?_, fun ready allowed => ?_, fun ready allowed => ?_, fun ward => ⟨fun wait => ?_, fun ready own barred => ?_,
      fun ready allowed => ?_⟩⟩
    · exact exec_next (f := fun n => n.reqSubscribe false e) rfl wf (Node.reqSubscribe_done ready allowed)
    · exact exec_next (f := fun n => n.reqReg false e) rfl wf (Node.reqReg_done ready allowed)
    · exact exec_next (f := fun n => n.reqConfig false e) rfl wf (Node.reqConfig_done ready allowed)
    · exact exec_next (f := fun n => n.reqPlanOffer false e plan) rfl wf (Node.reqPlanOffer_done plan ready allowed)
    · exact exec_next (f := fun n => n.reqPriv false e env flashErr) rfl wf (Node.reqPriv_done env flashErr ready allowed)
    · exact exec_next (f := fun n => n.reqHealth false e) rfl wf (Node.reqHealth_done ready allowed)
    · refine exec_blk_same (f := fun b => b.reqQuery ward e) rfl wf (if_pos ?_)
      rw [wait]
      rfl
    · subst own
      exact exec_blk (f := fun b => b.reqQuery false e) rfl wf (Blk.reqQuery_denied ready barred)
    · exact exec_blk (f := fun b => b.reqQuery ward e) rfl wf (Blk.reqQuery_run ready allowed)

end Sys2Proof.Machine
end

section
/-! PROOFS. Host ports and CAN controllers (spec/15 R366 to R370, R398, R399). -/

namespace Sys2Proof.Machine

theorem mac_cases {m : Nat} (h : m < 2) : m = 0 ∨ m = 1 := by omega

/-! ### Ethernet frames (spec/15 R366, R367) -/

theorem Node.ethFrame_off {n : Node} {m : Nat} (f : EthFrame) (off : n.b.macTakes m = false) : n.ethFrame m f = n := by
  have closed : (!n.b.macTakes m) = true := by rw [off]; rfl
  exact if_pos closed

theorem macTakes_open {b : Blk} {m : Nat} (on : b.macTakes m = true) : ¬(!b.macTakes m) = true := by
  rw [on]
  exact Bool.false_ne_true

theorem Node.ethFrame_udp {n : Node} {m : Nat} (target src : HostAddr) (d : List Byte) (on : n.b.macTakes m = true) :
    n.ethFrame m (.udp target src d) = if n.b.macAddress m target = true ∧ target.port = n.b.get (HOST.UDP_PORT m)
      then Node.icpDatagramIn { n with b := n.b.bumpSat (HOST.RX_FRAMES m) } m src d
      else n.on (fun b => b.etherOther m (.udp target src d)) := by
  refine (if_neg (macTakes_open on)).trans ?_
  simp only [Bool.and_eq_true, beq_iff_eq]
  rfl

/-- Is a frame a UDP datagram? -/
def isUdp : EthFrame → Bool
  | .udp _ _ _ => true
  | _ => false

theorem Node.ethFrame_other {n : Node} {m : Nat} (f : EthFrame) (on : n.b.macTakes m = true) (other : isUdp f = false) :
    n.ethFrame m f = n.on (fun b => b.etherOther m f) := by
  refine (if_neg (macTakes_open on)).trans ?_
  cases f with
  | udp target src d => cases other
  | _ => rfl

theorem Node.icpDatagramIn_message {n : Node} {m type : Nat} {src : HostAddr} {d : List Byte} {msg : IcpMsg}
    (parsed : icpParse m src d = some (type, msg)) : n.icpDatagramIn m src d = n.icpMessage type msg := by
  unfold Node.icpDatagramIn
  rw [parsed]

theorem Node.icpDatagramIn_bad {n : Node} {m : Nat} {src : HostAddr} {d : List Byte} (parsed : icpParse m src d = none) :
    n.icpDatagramIn m src d = n.on Blk.rxBad := by
  unfold Node.icpDatagramIn
  rw [parsed]

theorem Blk.etherOther_answered (b : Blk) (m : Nat) {target : HostAddr} {f : EthFrame}
    (asks : (∃ src, f = .resolve target src) ∨ ∃ src d, f = .echo target src d) :
    b.etherOther m f = if (b.bumpSat (HOST.RX_FRAMES m)).macAddress m target = true ∧ (b.bumpSat (HOST.RX_FRAMES m)).macUp m = true
      then ((b.bumpSat (HOST.RX_FRAMES m)).bumpSat (HOST.TX_FRAMES m)).emit (.respond m f) else b.bumpSat (HOST.RX_FRAMES m) := by
  have answer : b.etherOther m f = if (b.bumpSat (HOST.RX_FRAMES m)).macAddress m target && (b.bumpSat (HOST.RX_FRAMES m)).macUp m
      then ((b.bumpSat (HOST.RX_FRAMES m)).bumpSat (HOST.TX_FRAMES m)).emit (.respond m f) else b.bumpSat (HOST.RX_FRAMES m) := by
    obtain ⟨src, rfl⟩ | ⟨src, d, rfl⟩ := asks
    · rfl
    · rfl
  rw [answer]
  simp only [Bool.and_eq_true]

/-! ### PTP (spec/15 R367, R398) -/

theorem Blk.writeBlock_mac (b : Blk) (a : Agent) {m : Nat} (h : m < 2) (off : Nat) (v : Word) :
    b.writeBlock a (Page.HOST + m) off v = if off < 0x040 then b.writeHeader (Page.HOST + m) off v
      else if isShlCoord (Page.HOST + m) off then (b.storeKey (b.reachKey (Page.HOST + m) off) v).touchShl (Page.HOST + m)
      else b.writeHost m off v := by
  obtain rfl | rfl := mac_cases h
  all_goals rfl

theorem Blk.writeBlock_ptpStep (b : Blk) (a : Agent) {m : Nat} (h : m < 2) (v : Word) :
    b.writeBlock a (Page.HOST + m) 0x088 v = b.ptpStep m v.toNat := by
  have coord : ¬isShlCoord (Page.HOST + m) 0x088 = true := (by decide : ∀ m < 2, ¬isShlCoord (Page.HOST + m) 0x088 = true) m h
  rw [b.writeBlock_mac a h, if_neg (by decide), if_neg coord]
  exact if_pos (by decide)

theorem Blk.ptpStep_mac (b : Blk) {m : Nat} (v : Nat) (h : m < b.macs.length) :
    ((b.ptpStep m v).mac m).step = (b.mac m).step + signedOf 32 v :=
  congrArg (fun o : Option MacSt => (o.getD noMac).step)
    (getElem?_setNth (List.getElem?_eq_getElem h) (⟨(b.mac m).step + signedOf 32 v⟩ : MacSt))

/-- An event message's timestamp. -/
def Blk.stamped (b : Blk) (m seqId : Nat) (now : PtpTime) : Blk :=
  ((((b.set (HOST.TS_TX_SEC_LO m) now.sec).set (HOST.TS_TX_SEC_HI m) (now.sec / 2 ^ 32)).set (HOST.TS_TX_NSEC m) now.nsec).set
    (HOST.TS_TX_SEQ m) seqId).raise (HOST.IRQ_RAW_TS_TX m)

theorem Blk.ptpTx_eq (b : Blk) (m v : Nat) (t : PtpTime) :
    let kind := bitsAt v 0 4
    let gone := (b.bumpSat (HOST.TX_FRAMES m)).emit (.ptp m kind (bitsAt v 16 16))
    b.ptpTx m v t = if 1 ≤ kind ∧ kind ≤ 4 ∧ b.macUp m = true ∧ b.flag (HOST.PTP_CTRL_EN m) = true then
      if kind = 4 then gone else gone.stamped m (bitsAt v 16 16) (b.ptpClock m t)
    else b := by
  intro kind gone
  have test : (kind == 0 || decide (4 < kind) || !b.macUp m || !b.flag (HOST.PTP_CTRL_EN m)) = true ↔
      ¬(1 ≤ kind ∧ kind ≤ 4 ∧ b.macUp m = true ∧ b.flag (HOST.PTP_CTRL_EN m) = true) := by
    simp only [Bool.or_eq_true, beq_iff_eq, decide_eq_true_iff, Bool.not_eq_true', ← Bool.not_eq_true, not_and_or, Nat.not_le, Nat.lt_one_iff,
      or_assoc]
  have steps : b.ptpTx m v t = if kind == 0 || decide (4 < kind) || !b.macUp m || !b.flag (HOST.PTP_CTRL_EN m) then b
      else if kind == 4 then gone else gone.stamped m (bitsAt v 16 16) (b.ptpClock m t) := rfl
  rw [steps]
  by_cases sends : 1 ≤ kind ∧ kind ≤ 4 ∧ b.macUp m = true ∧ b.flag (HOST.PTP_CTRL_EN m) = true
  · rw [if_neg (mt test.mp (not_not.mpr sends)), if_pos sends]
    simp only [beq_iff_eq]
  · rw [if_pos (test.mpr sends), if_neg sends]

theorem hostStamp_pages : ∀ m < 2, ∀ f ∈ [HOST.TS_TX_SEC_LO m, HOST.TS_TX_SEC_HI m, HOST.TS_TX_NSEC m, HOST.TS_TX_SEQ m,
    HOST.IRQ_RAW_TS_TX m, HOST.TX_FRAMES m], pageOf f.key ∈ [Page.HOST + m] := by decide

theorem Blk.stamped_shows (b : Blk) {m : Nat} (h : m < 2) (seqId : Nat) (now : PtpTime) :
    let t := b.stamped m seqId now
    t.sent = b.sent ∧ t.get (HOST.TS_TX_NSEC m) = now.nsec % 2 ^ (HOST.TS_TX_NSEC m).w ∧ t.get (HOST.TS_TX_SEQ m) = seqId % 2 ^ 16 ∧
    t.flag (HOST.IRQ_RAW_TS_TX m) = true ∧ b.keepsOtherPages t [Page.HOST + m] ∧ b.keepsMemory t := by
  intro t
  have page := hostStamp_pages m h
  refine ⟨?_, ?_, ?_, Blk.flag_raise_same _ _ (show 3 + 1 ≤ 32 by decide) (show 0 < 1 by decide), ?_, ?_⟩
  · show (b.stamped m seqId now).sent = b.sent
    simp -implicitDefEqProofs only [Blk.stamped, Blk.raise_sent, Blk.set_sent]
  · calc t.get (HOST.TS_TX_NSEC m)
        = _ := Blk.get_set_apart _ (HOST.IRQ_RAW_TS_TX m) _ _ (show 0 + 30 ≤ 32 by decide)
          (.inl (show 0x50018 + 0x1000 * m ≠ 0x50098 + 0x1000 * m by omega))
      _ = _ := Blk.get_set_apart _ (HOST.TS_TX_SEQ m) _ _ (show 0 + 30 ≤ 32 by decide)
          (.inl (show 0x5009C + 0x1000 * m ≠ 0x50098 + 0x1000 * m by omega))
      _ = now.nsec % 2 ^ (HOST.TS_TX_NSEC m).w := Blk.get_set_same _ _ _ (show 0 + 30 ≤ 32 by decide)
  · calc t.get (HOST.TS_TX_SEQ m)
        = _ := Blk.get_set_apart _ (HOST.IRQ_RAW_TS_TX m) _ _ (show 0 + 16 ≤ 32 by decide)
          (.inl (show 0x50018 + 0x1000 * m ≠ 0x5009C + 0x1000 * m by omega))
      _ = seqId % 2 ^ 16 := Blk.get_set_same _ _ _ (show 0 + 16 ≤ 32 by decide)
  · exact (((((b.keepsOtherPages_refl _).set (f := HOST.TS_TX_SEC_LO m) _ (page _ (by simp))).set (f := HOST.TS_TX_SEC_HI m) _
      (page _ (by simp))).set (f := HOST.TS_TX_NSEC m) _ (page _ (by simp))).set (f := HOST.TS_TX_SEQ m) _ (page _ (by simp))).set
      (f := HOST.IRQ_RAW_TS_TX m) 1 (page _ (by simp))
  · show b.keepsMemory (b.stamped m seqId now)
    simp -implicitDefEqProofs only [Blk.keepsMemory, Blk.stamped, Blk.raise_flash, Blk.set_flash, Blk.raise_bulk, Blk.set_bulk, Blk.raise_spm,
      Blk.set_spm, and_self]

/-! ### The link (spec/15 R398) -/

/-- A link change shown and raised. -/
def Blk.linkShown (b : Blk) (m : Nat) (up : Bool) (speed : Nat) : Blk :=
  ((b.set (HOST.STATUS_LINK m) (bitNat up)).set (HOST.STATUS_SPEED m) (if up then speed else 0)).raise (HOST.IRQ_RAW_LINK_CHANGE m)

theorem Blk.ethLink_eq (b : Blk) {m : Nat} (up : Bool) (speed : Nat) (h : m < 2) : b.ethLink m up speed =
    if b.powered (Page.HOST + m) = true ∧ b.flag (HOST.STATUS_LINK m) ≠ up then
      if up then b.linkShown m up speed else (b.linkShown m up speed).captureOwnFree (Page.HOST + m) hpLinkDown
    else b := by
  have steps : b.ethLink m up speed = if decide (m < 2) && b.powered (Page.HOST + m) && b.flag (HOST.STATUS_LINK m) != up then
      if up then b.linkShown m up speed else (b.linkShown m up speed).captureOwnFree (Page.HOST + m) hpLinkDown
    else b := rfl
  rw [steps, decide_eq_true h, Bool.true_and]
  simp only [Bool.and_eq_true, bne_iff_ne]

theorem hostLink_pages : ∀ m < 2, ∀ f ∈ [HOST.STATUS_LINK m, HOST.STATUS_SPEED m, HOST.IRQ_RAW_LINK_CHANGE m],
    pageOf f.key ∈ [Page.HOST + m] ∧ f.key ≠ (hErrCount (Page.HOST + m)).key := by decide

theorem Blk.linkShown_shows (b : Blk) {m speed : Nat} (up : Bool) (h : m < 2) (small : speed < 4) :
    let t := b.linkShown m up speed
    t.flag (HOST.STATUS_LINK m) = up ∧ t.get (HOST.STATUS_SPEED m) = (if up then speed else 0) ∧
    t.flag (HOST.IRQ_RAW_LINK_CHANGE m) = true ∧ t.get (hErrCount (Page.HOST + m)) = b.get (hErrCount (Page.HOST + m)) ∧
    b.keepsOtherPages t [Page.HOST + m] ∧ b.keepsMemory t := by
  intro t
  have page := hostLink_pages m h
  have raised {f : Fld} (key : f.key = 0x50014 + 0x1000 * m) (fits : f.fits) :
      t.get f = ((b.set (HOST.STATUS_LINK m) (bitNat up)).set (HOST.STATUS_SPEED m) (if up then speed else 0)).get f :=
    Blk.get_set_apart _ (HOST.IRQ_RAW_LINK_CHANGE m) f 1 fits (.inl (show 0x50018 + 0x1000 * m ≠ f.key by omega))
  have fit : (if up then speed else 0) < 4 := by split <;> omega
  refine ⟨?_, ?_, Blk.flag_raise_same _ _ (show 0 + 1 ≤ 32 by decide) (show 0 < 1 by decide), ?_, ?_, ?_⟩
  · have link : t.get (HOST.STATUS_LINK m) = bitNat up % 2 ^ 1 := by
      rw [raised (f := HOST.STATUS_LINK m) rfl (show 16 + 1 ≤ 32 by decide), Blk.get_set_apart _ (HOST.STATUS_SPEED m) (HOST.STATUS_LINK m) _
        (show 16 + 1 ≤ 32 by decide) (.inr (.inr (show 16 + 1 ≤ 17 by decide)))]
      exact b.get_set_same (HOST.STATUS_LINK m) _ (show 16 + 1 ≤ 32 by decide)
    rw [Blk.flag, link]
    cases up <;> rfl
  · rw [raised (f := HOST.STATUS_SPEED m) rfl (show 17 + 2 ≤ 32 by decide)]
    exact (Blk.get_set_same _ (HOST.STATUS_SPEED m) _ (show 17 + 2 ≤ 32 by decide)).trans (Nat.mod_eq_of_lt fit)
  · have kept := ((b.keepsRegs_refl [(HOST.STATUS_LINK m).key, (HOST.IRQ_RAW_LINK_CHANGE m).key]).set (f := HOST.STATUS_LINK m) (bitNat up)
      (by simp)).set (f := HOST.STATUS_SPEED m) (if up then speed else 0) List.mem_cons_self
    refine (kept.set (f := HOST.IRQ_RAW_LINK_CHANGE m) 1 (by simp)).get ?_
    simp only [List.mem_cons, List.not_mem_nil, or_false, not_or]
    exact ⟨((page (HOST.STATUS_LINK m) (by simp)).2).symm, ((page (HOST.IRQ_RAW_LINK_CHANGE m) (by simp)).2).symm⟩
  · exact (((b.keepsOtherPages_refl _).set (f := HOST.STATUS_LINK m) _ (page _ (by simp)).1).set (f := HOST.STATUS_SPEED m) _
      (page _ (by simp)).1).set (f := HOST.IRQ_RAW_LINK_CHANGE m) 1 (page _ (by simp)).1
  · show b.keepsMemory (b.linkShown m up speed)
    simp -implicitDefEqProofs only [Blk.keepsMemory, Blk.linkShown, Blk.raise_flash, Blk.set_flash, Blk.raise_bulk, Blk.set_bulk, Blk.raise_spm,
      Blk.set_spm, and_self]

theorem hostLink_captureKeys : ∀ m < 2, (HOST.STATUS_LINK m).key ∉ captureKeys (Page.HOST + m) ∧
    HOST.IRQ_RAW_LINK_CHANGE m = hIrq (Page.HOST + m) 0 := by decide

theorem Blk.keepsMemory_capturedOwn (b : Blk) (page cause : Nat) : b.keepsMemory (b.captureOwnFree page cause) := by
  have kept := b.keepsBehind_captureOwnFree page cause
  exact ⟨kept.proj (·.flash) (fun _ _ _ _ _ => rfl), kept.proj (·.bulk.bytes) (fun _ _ _ _ _ => rfl),
    kept.proj (·.spm.bytes) (fun _ _ _ _ _ => rfl)⟩

/-- A link that goes down: shown, raised and captured. -/
theorem Blk.macDown_shows (b : Blk) {m speed : Nat} (h : m < 2) (small : speed < 4) :
    let t := (b.linkShown m false speed).captureOwnFree (Page.HOST + m) hpLinkDown
    t.flag (HOST.STATUS_LINK m) = false ∧ t.get (HOST.STATUS_SPEED m) = 0 ∧
    t.flag (HOST.IRQ_RAW_LINK_CHANGE m) = true ∧ t.get (hErrCount (Page.HOST + m)) = satInc 32 (b.get (hErrCount (Page.HOST + m))) ∧
    b.keepsOtherPages t [Page.HOST + m] ∧ b.keepsMemory t := by
  intro t
  obtain ⟨link, rate, irq, count, pages, memory⟩ := b.linkShown_shows false h small
  obtain ⟨apart, bit⟩ := hostLink_captureKeys m h
  have captured := (b.linkShown m false speed).keepsRegs_captureOwnFree (Page.HOST + m) hpLinkDown
  refine ⟨?_, ?_, ?_, ?_, pages.trans ?_, memory.trans ((b.linkShown m false speed).keepsMemory_capturedOwn _ _)⟩
  · exact (captured.flag (f := HOST.STATUS_LINK m) apart).trans link
  · exact (captured.get (f := HOST.STATUS_SPEED m) apart).trans rate
  · rw [bit] at irq ⊢
    exact (Blk.flag_captureOwnFree_hIrq _ _ _ (by decide)).trans irq
  · exact (Blk.get_captureFree_errCount _ _ hpLinkDown 7).trans (congrArg (satInc 32) count)
  · exact Blk.keepsOtherPages_captureOwnFree _ _ (show 0x50 + m < 256 by omega)

/-! ### CAN (spec/15 R368, R369) -/

theorem Blk.writeBlock_can (b : Blk) (a : Agent) {c : Nat} (h : c < 2) (off : Nat) (v : Word) :
    b.writeBlock a (canPage c) off v = if off < 0x040 then b.writeHeader (canPage c) off v
      else if isShlCoord (canPage c) off then (b.storeKey (b.reachKey (canPage c) off) v).touchShl (canPage c)
      else if off == 0x058 then b.hbArm c v.toNat else b.storeKey (b.reachKey (canPage c) off) v := by
  obtain rfl | rfl := mac_cases h
  all_goals rfl

theorem Blk.writeBlock_hbArm (b : Blk) (a : Agent) {c : Nat} (h : c < 2) :
    b.writeBlock a (canPage c) 0x058 1 = b.setCan c { b.canSt c with armed := true } := by
  have coord : ¬isShlCoord (canPage c) 0x058 = true := (by decide : ∀ c < 2, ¬isShlCoord (canPage c) 0x058 = true) c h
  rw [b.writeBlock_can a h, if_neg (by decide), if_neg coord, if_pos (by decide)]
  exact if_pos (by decide)

/-- A due point noted: what was armed no longer is. -/
def Blk.canNoted (b : Blk) (c : Nat) : Blk := b.setCan c { b.canSt c with armed := false, lastDue := some b.ep.line }

/-- A heartbeat, or one skipped (spec/15 R369). -/
def Blk.heartbeatOr (b : Blk) (c : Nat) (armed : Bool) : Blk :=
  let count := b.get (CAN.HB_COUNT c) + 1
  if armed = true ∧ b.canOn c = true ∧ b.flag (hFrozen (canPage c)) = false ∧ b.get (CAN.STATUS_BUS_STATE c) ≠ 2 ∧ (b.canSt c).sending = none
  then (b.set (CAN.HB_COUNT c) count).canSend c (b.get (CAN.HB_ID c)) false (b.compactHealth b.healthState count)
  else (b.bumpSat (CAN.HB_SKIPPED c)).raise (CAN.IRQ_RAW_HB_SKIPPED c)

theorem Blk.canHeartbeat_idle {b : Blk} {c : Nat} (idle : ¬(b.powered (canPage c) = true ∧ b.canDue c = true)) : b.canHeartbeat c = b := by
  refine if_neg ?_
  rw [Bool.and_eq_true, Bool.and_eq_true]
  exact fun ⟨⟨_, on⟩, due⟩ => idle ⟨on, due⟩

theorem Blk.canHeartbeat_due {b : Blk} {c : Nat} (h : c < 2) (due : b.powered (canPage c) = true ∧ b.canDue c = true) :
    b.canHeartbeat c = if (b.canNoted c).inSafe then (b.canNoted c).canSafeFrame c
      else if !(b.canNoted c).flag (CAN.CAN_CTRL_HB_EN c) then b.canNoted c else (b.canNoted c).heartbeatOr c (b.canSt c).armed := by
  have now : (decide (c < 2) && b.powered (canPage c) && b.canDue c) = true := by rw [decide_eq_true h, due.1, due.2]; rfl
  unfold Blk.canHeartbeat Blk.heartbeatOr
  rw [if_pos now]
  simp only [Bool.and_eq_true, Bool.not_eq_true', bne_iff_ne, Option.isNone_iff_eq_none, and_assoc]
  rfl

theorem Blk.canNoted_apart (b : Blk) (c : Nat) : (b.canNoted c).inSafe = b.inSafe ∧ ∀ f, (b.canNoted c).flag f = b.flag f :=
  ⟨rfl, fun _ => rfl⟩

theorem Blk.canSafeFrame_eq (b : Blk) (c : Nat) : b.canSafeFrame c =
    if b.canOn c = true ∧ b.flag (CAN.CAN_CTRL_SAFE_EN c) = true ∧ b.get (CAN.STATUS_BUS_STATE c) ≠ 2
    then b.canSend c (b.get (CAN.SAFE_ID c)) true (b.compactHealth (if b.inMaintenance then 3 else 2) (b.get (CAN.HB_COUNT c))) else b := by
  unfold Blk.canSafeFrame
  simp only [Bool.and_eq_true, bne_iff_ne, and_assoc]

theorem Blk.canRx_eq (b : Blk) {c : Nat} (bad : Bool) (h : c < 2) : b.canRx c bad =
    let tec := b.get (CAN.ERR_CNT_TEC c)
    let recv := b.get (CAN.ERR_CNT_REC c)
    if b.canOn c = true ∧ b.get (CAN.STATUS_BUS_STATE c) ≠ 2 then
      if bad then b.canErrors c tec (recv + 1)
      else (b.canErrors c tec (if 127 < recv then 127 else recv - 1)).bumpSat (CAN.RX_DISCARD c)
    else b := by
  unfold Blk.canRx
  rw [decide_eq_true h, Bool.true_and]
  simp only [Bool.and_eq_true, bne_iff_ne]

theorem Blk.canRecover_eq (b : Blk) {c : Nat} (h : c < 2) : b.canRecover c =
    if b.canOn c = true ∧ b.get (CAN.STATUS_BUS_STATE c) = 2 then b.canErrors c 0 0 else b := by
  unfold Blk.canRecover
  rw [decide_eq_true h, Bool.true_and]
  simp only [Bool.and_eq_true, beq_iff_eq]

/-- The error counters and the bus state as they are given. -/
def Blk.countersSet (b : Blk) (c tec recv state : Nat) : Blk :=
  ((b.set (CAN.ERR_CNT_TEC c) tec).set (CAN.ERR_CNT_REC c) recv).set (CAN.STATUS_BUS_STATE c) state

/-- A controller that leaves bus-off has its counters at 0. -/
theorem Blk.canErrors_zero (b : Blk) (c : Nat) : b.canErrors c 0 0 = b.countersSet c 0 0 0 := by
  unfold Blk.canErrors
  exact (if_neg (fun two => Bool.false_ne_true two)).trans (if_neg (fun one => Bool.false_ne_true one))

theorem canCounters_pages : ∀ c < 2, ∀ f ∈ [CAN.ERR_CNT_TEC c, CAN.ERR_CNT_REC c, CAN.STATUS_BUS_STATE c], pageOf f.key ∈ [canPage c] := by
  decide

theorem Blk.countersSet_zero (b : Blk) {c : Nat} (h : c < 2) :
    let t := b.countersSet c 0 0 0
    t.get (CAN.STATUS_BUS_STATE c) = 0 ∧ t.get (CAN.ERR_CNT_TEC c) = 0 ∧ t.get (CAN.ERR_CNT_REC c) = 0 ∧
    b.keepsOtherPages t [canPage c] ∧ b.keepsMemory t := by
  intro t
  have page := canCounters_pages c h
  have apart {f : Fld} (key : f.key = 0x5205C + 0x1000 * c) (fits : f.fits) :
      t.get f = ((b.set (CAN.ERR_CNT_TEC c) 0).set (CAN.ERR_CNT_REC c) 0).get f :=
    Blk.get_set_apart _ (CAN.STATUS_BUS_STATE c) f 0 fits (.inl (show 0x52014 + 0x1000 * c ≠ f.key by omega))
  refine ⟨?_, ?_, ?_, ?_, ?_⟩
  · exact Blk.get_set_same _ (CAN.STATUS_BUS_STATE c) 0 (show 16 + 2 ≤ 32 by decide)
  · rw [apart (f := CAN.ERR_CNT_TEC c) rfl (show 0 + 8 ≤ 32 by decide), Blk.get_set_apart _ (CAN.ERR_CNT_REC c) (CAN.ERR_CNT_TEC c) 0 (show 0 + 8 ≤ 32 by decide)
      (.inr (.inr (show 0 + 8 ≤ 8 by decide)))]
    exact b.get_set_same (CAN.ERR_CNT_TEC c) 0 (show 0 + 8 ≤ 32 by decide)
  · rw [apart (f := CAN.ERR_CNT_REC c) rfl (show 8 + 8 ≤ 32 by decide)]
    exact Blk.get_set_same _ (CAN.ERR_CNT_REC c) 0 (show 8 + 8 ≤ 32 by decide)
  · exact (((b.keepsOtherPages_refl _).set (f := CAN.ERR_CNT_TEC c) 0 (page _ (by simp))).set (f := CAN.ERR_CNT_REC c) 0
      (page _ (by simp))).set (f := CAN.STATUS_BUS_STATE c) 0 (page _ (by simp))
  · show b.keepsMemory (b.countersSet c 0 0 0)
    simp -implicitDefEqProofs only [Blk.keepsMemory, Blk.countersSet, Blk.set_flash, Blk.set_bulk, Blk.set_spm, and_self]

theorem Blk.canTxDone_idle {b : Blk} {c : Nat} (busError : Bool) (idle : (b.canSt c).sending = none ∨ b.canOn c = false) :
    b.canTxDone c busError = b := by
  unfold Blk.canTxDone
  split
  next => rfl
  next safe sending =>
    have off : b.canOn c = false := idle.resolve_left (by rw [sending]; exact Option.some_ne_none safe)
    exact if_pos (by rw [off]; rfl)

theorem Blk.canTxDone_on {b : Blk} {c : Nat} {safe : Bool} (busError : Bool) (sending : (b.canSt c).sending = some safe)
    (on : b.canOn c = true) : b.canTxDone c busError =
    let tec := b.get (CAN.ERR_CNT_TEC c)
    let recv := b.get (CAN.ERR_CNT_REC c)
    if busError then b.canErrors c (tec + 8) recv
    else ((((b.setCan c { b.canSt c with sending := none }).canErrors c (tec - 1) recv).bumpSat (CAN.TX_COUNT c)).raise
      (if safe then CAN.IRQ_RAW_SAFE_SENT c else CAN.IRQ_RAW_HB_SENT c)) := by
  unfold Blk.canTxDone
  rw [sending]
  exact if_neg (by rw [on]; exact Bool.false_ne_true)

/-- Frames at a MAC that takes them (spec/15 R366, R367). -/
theorem ethFrames (s : State) (m : Nat) (h : m < 2) (on : s.blk.macTakes m = true) :
    let ends := fun (f : EthFrame) (b : Blk) => exec (.ethFrameReceive m f) s = .next (s.withBlk b)
    let got := s.blk.bumpSat (HOST.RX_FRAMES m)
    (∀ target src d,
      (s.blk.macAddress m target = true → target.port = s.blk.get (HOST.UDP_PORT m) →
        (∀ type msg, icpParse m src d = some (type, msg) →
          exec (.ethFrameReceive m (.udp target src d)) s = .next { s with node := ({ s.node with b := got } : Node).icpMessage type msg }) ∧
        (icpParse m src d = none → ends (.udp target src d) got.rxBad)) ∧
      (¬(s.blk.macAddress m target = true ∧ target.port = s.blk.get (HOST.UDP_PORT m)) →
        ends (.udp target src d) (got.bumpSat (HOST.RX_DROP m)))) ∧
    ends .badFcs (s.blk.bumpSat (HOST.FCS_ERR m)) ∧ ends .other (got.bumpSat (HOST.RX_DROP m)) ∧ ends .pause (got.bumpSat (HOST.PAUSE_RX m)) ∧
    (∀ target f, ((∃ src, f = .resolve target src) ∨ ∃ src d, f = .echo target src d) → ends f
      (if got.macAddress m target = true ∧ got.macUp m = true then (got.bumpSat (HOST.TX_FRAMES m)).emit (.respond m f) else got)) ∧
    (∀ msg t, ends (.ptp msg t) (got.ptpReceive m msg t)) := by
  intro ends got
  have act {f : EthFrame} {n : Node} (effect : s.node.ethFrame m f = n) : exec (.ethFrameReceive m f) s = .next { s with node := n } :=
    exec_next (f := fun n => n.ethFrame m f) rfl (decide_eq_true h) effect
  have other {f : EthFrame} (kind : isUdp f = false) {b : Blk} (effect : s.blk.etherOther m f = b) : ends f b :=
    act ((Node.ethFrame_other f on kind).trans (congrArg (fun b => { s.node with b := b }) effect))
  refine ⟨fun target src d => ?_, other rfl rfl, other rfl rfl, other rfl rfl, fun target f asks => ?_, fun msg t => other rfl rfl⟩
  · have udp := Node.ethFrame_udp (n := s.node) target src d on
    refine ⟨fun address port => ?_, fun away => act (udp.trans (if_neg away))⟩
    have taken := udp.trans (if_pos ⟨address, port⟩)
    exact ⟨fun type msg parsed => act (taken.trans (Node.icpDatagramIn_message parsed)),
      fun bad => act (taken.trans (Node.icpDatagramIn_bad bad))⟩
  · refine other ?_ (s.blk.etherOther_answered m asks)
    obtain ⟨src, rfl⟩ | ⟨src, d, rfl⟩ := asks
    · rfl
    · rfl

/-- A guarded write that meets no fault takes its effect and is answered. -/
theorem Blk.guarded_granted (b : Blk) {a : Agent} {page off : Nat} {v : Word} (f : Blk → Blk) (hg : b.granted a page off v) :
    b.guarded a page off true v.toNat f = (f b).answered a page off := by
  have free : b.accessCause a page off true true v.toNat = 0 := hg
  unfold Blk.guarded
  rw [free]
  rfl

/-- A write of PTP_TX (spec/15 R367, R398). -/
theorem ptpSends (s : State) (a : Agent) (m : Nat) (v : Word) (ok : (agentOk a && m < 2) = true) (t : PtpTime) (time : t.nsec < 1000000000)
    (hg : s.blk.granted a (Page.HOST + m) 0x08C v) :
    let kind := bitsAt v.toNat 0 4
    let sends := 1 ≤ kind ∧ kind ≤ 4 ∧ s.blk.macUp m = true ∧ s.blk.flag (HOST.PTP_CTRL_EN m) = true
    let out : OutEvent := .ptp m kind (bitsAt v.toNat 16 16)
    (¬sends → exec (.ptpTx a m v t) s = .next (s.withBlk (s.blk.answered a (Page.HOST + m) 0x08C))) ∧
    (sends → kind = 4 → exec (.ptpTx a m v t) s =
      .next (s.withBlk (((s.blk.bumpSat (HOST.TX_FRAMES m)).emit out).answered a (Page.HOST + m) 0x08C))) ∧
    (sends → kind ≤ 3 → completes (.ptpTx a m v t) s (fun u =>
      u.blk.sent = s.blk.sent ++ [out, .access a (Page.HOST + m) 0x08C true 0 0] ∧
      u.blk.get (HOST.TS_TX_NSEC m) = (s.blk.ptpClock m t).nsec % 2 ^ (HOST.TS_TX_NSEC m).w ∧
      u.blk.get (HOST.TS_TX_SEQ m) = bitsAt v.toNat 16 16 ∧ u.blk.flag (HOST.IRQ_RAW_TS_TX m) = true ∧
      s.blk.keepsOtherPages u.blk [Page.HOST + m] ∧ s.node.sameMemory u.node)) := by
  intro kind sends out
  have small : m < 2 := of_decide_eq_true (Bool.and_eq_true_iff.mp ok).2
  have wf : (Instr.ptpTx a m v t).wf = true := by
    show (agentOk a && decide (m < 2) && decide (t.nsec < 1000000000)) = true
    rw [ok, decide_eq_true time]
    rfl
  have guarded {b : Blk} (effect : s.blk.ptpTx m v.toNat t = b) :
      s.blk.guarded a (Page.HOST + m) 0x08C true v.toNat (fun b => b.ptpTx m v.toNat t) = b.answered a (Page.HOST + m) 0x08C := by
    exact (s.blk.guarded_granted (fun b => b.ptpTx m v.toNat t) hg).trans (congrArg (·.answered a (Page.HOST + m) 0x08C) effect)
  have sent := s.blk.ptpTx_eq m v.toNat t
  refine ⟨fun idle => ?_, fun go four => ?_, fun go event => ?_⟩
  · exact exec_blk (f := fun b => b.guarded a (Page.HOST + m) 0x08C true v.toNat (fun b => b.ptpTx m v.toNat t)) rfl wf
      (guarded (sent.trans (if_neg idle)))
  · exact exec_blk (f := fun b => b.guarded a (Page.HOST + m) 0x08C true v.toNat (fun b => b.ptpTx m v.toNat t)) rfl wf
      (guarded (sent.trans ((if_pos go).trans (if_pos four))))
  · have stamped := guarded (sent.trans ((if_pos go).trans (if_neg (show ¬kind = 4 by omega))))
    obtain ⟨gone, hgone⟩ : ∃ x, (s.blk.bumpSat (HOST.TX_FRAMES m)).emit out = x := ⟨_, rfl⟩
    have before : gone.sent = s.blk.sent ++ [out] := by rw [← hgone]; rfl
    have pages : s.blk.keepsOtherPages gone [Page.HOST + m] := hgone ▸
      (s.blk.keepsOtherPages_refl _).set (f := HOST.TX_FRAMES m) _ (hostStamp_pages m small _ (by simp))
    have memory : s.blk.keepsMemory gone := by rw [← hgone]; exact ⟨rfl, rfl, rfl⟩
    rw [hgone] at stamped
    obtain ⟨log, nsec, seq, raised, pages', memory'⟩ := gone.stamped_shows small (bitsAt v.toNat 16 16) (s.blk.ptpClock m t)
    obtain ⟨u, hu⟩ : ∃ u, gone.stamped m (bitsAt v.toNat 16 16) (s.blk.ptpClock m t) = u := ⟨_, rfl⟩
    rw [hu] at stamped log nsec seq raised pages' memory'
    have shows_ : (u.answered a (Page.HOST + m) 0x08C).sent = s.blk.sent ++ [out, .access a (Page.HOST + m) 0x08C true 0 0] := by
      show u.sent ++ [OutEvent.access a (Page.HOST + m) 0x08C true 0 0] = _
      rw [log, before, List.append_assoc]
      rfl
    exact completes_of_blk (f := fun b => b.guarded a (Page.HOST + m) 0x08C true v.toNat (fun b => b.ptpTx m v.toNat t)) rfl wf stamped
      ⟨shows_, nsec, seq.trans (Nat.mod_eq_of_lt (bitsAt_lt v.toNat 16 16)), raised, pages.trans pages', (memory.trans memory').node⟩

/-- A link that changes (spec/15 R398). -/
theorem linkChanges (s : State) (m speed : Nat) (up : Bool) (h : m < 2) (hs : speed < 4) :
    let changes := s.blk.powered (Page.HOST + m) = true ∧ s.blk.flag (HOST.STATUS_LINK m) ≠ up
    (¬changes → exec (.ethLinkChange m up speed) s = .next s) ∧
    (changes → completes (.ethLinkChange m up speed) s (fun u => u.blk.flag (HOST.STATUS_LINK m) = up ∧
      u.blk.get (HOST.STATUS_SPEED m) = (if up then speed else 0) ∧ u.blk.flag (HOST.IRQ_RAW_LINK_CHANGE m) = true ∧
      (up = false → u.blk.get (hErrCount (Page.HOST + m)) = satInc 32 (s.blk.get (hErrCount (Page.HOST + m)))) ∧
      s.blk.keepsOtherPages u.blk [Page.HOST + m] ∧ s.node.sameMemory u.node)) := by
  intro changes
  have wf : (Instr.ethLinkChange m up speed).wf = true := by simp [Instr.wf, h, hs]
  have link := s.blk.ethLink_eq up speed h
  refine ⟨fun same => exec_blk_same (f := fun b => b.ethLink m up speed) rfl wf (link.trans (if_neg same)), fun new => ?_⟩
  have changed := link.trans (if_pos new)
  cases up with
  | true =>
    obtain ⟨shown, rate, raised, -, pages, memory⟩ := s.blk.linkShown_shows true h hs
    obtain ⟨u, hu⟩ : ∃ u, s.blk.linkShown m true speed = u := ⟨_, rfl⟩
    rw [if_pos rfl, hu] at changed
    rw [hu] at shown rate raised pages memory
    exact completes_of_blk (f := fun b => b.ethLink m true speed) rfl wf changed
      ⟨shown, rate, raised, fun no => Bool.noConfusion no, pages, memory.node⟩
  | false =>
    obtain ⟨shown, rate, raised, count, pages, memory⟩ := s.blk.macDown_shows h hs
    obtain ⟨u, hu⟩ : ∃ u, (s.blk.linkShown m false speed).captureOwnFree (Page.HOST + m) hpLinkDown = u := ⟨_, rfl⟩
    rw [if_neg Bool.false_ne_true, hu] at changed
    rw [hu] at shown rate raised count pages memory
    exact completes_of_blk (f := fun b => b.ethLink m false speed) rfl wf changed
      ⟨shown, rate, raised, fun _ => count, pages, memory.node⟩

/-- Due points of a CAN controller (spec/15 R369). -/
theorem canHeartbeats (s : State) (c : Nat) (h : c < 2) :
    let x := s.blk.canSt c
    let noted := s.blk.canNoted c
    let due := s.blk.powered (canPage c) = true ∧ s.blk.canDue c = true
    let beats := fun b : Blk => exec (.canHeartbeatDue c) s = .next (s.withBlk b)
    let may := x.armed = true ∧ noted.canOn c = true ∧ noted.flag (hFrozen (canPage c)) = false ∧ noted.get (CAN.STATUS_BUS_STATE c) ≠ 2 ∧
      (noted.canSt c).sending = none
    let count := noted.get (CAN.HB_COUNT c) + 1
    (¬due → exec (.canHeartbeatDue c) s = .next s) ∧
    (due → s.blk.inSafe = true → beats
      (if noted.canOn c = true ∧ noted.flag (CAN.CAN_CTRL_SAFE_EN c) = true ∧ noted.get (CAN.STATUS_BUS_STATE c) ≠ 2
        then noted.canSend c (noted.get (CAN.SAFE_ID c)) true
          (noted.compactHealth (if noted.inMaintenance then 3 else 2) (noted.get (CAN.HB_COUNT c))) else noted)) ∧
    (due → s.blk.inSafe = false → s.blk.flag (CAN.CAN_CTRL_HB_EN c) = false → beats noted) ∧
    (due → s.blk.inSafe = false → s.blk.flag (CAN.CAN_CTRL_HB_EN c) = true →
      (may → beats ((noted.set (CAN.HB_COUNT c) count).canSend c (noted.get (CAN.HB_ID c)) false
        (noted.compactHealth noted.healthState count))) ∧
      (¬may → beats ((noted.bumpSat (CAN.HB_SKIPPED c)).raise (CAN.IRQ_RAW_HB_SKIPPED c)))) := by
  intro x noted due beats may count
  have wf := decide_eq_true h
  have act {b : Blk} (effect : s.blk.canHeartbeat c = b) : beats b := exec_blk (f := fun b => b.canHeartbeat c) rfl wf effect
  obtain ⟨safe, flags⟩ := s.blk.canNoted_apart c
  refine ⟨fun idle => ?_, fun now inSafe => ?_, fun now calm off => ?_, fun now calm on => ?_⟩
  · exact exec_blk_same (f := fun b => b.canHeartbeat c) rfl wf (Blk.canHeartbeat_idle idle)
  · exact act ((Blk.canHeartbeat_due h now).trans ((if_pos (safe.trans inSafe)).trans (Blk.canSafeFrame_eq _ c)))
  · refine act ((Blk.canHeartbeat_due h now).trans ((if_neg (ne_true_of_eq_false (safe.trans calm))).trans (if_pos ?_)))
    rw [flags, off]
    rfl
  · have beat := (Blk.canHeartbeat_due h now).trans ((if_neg (ne_true_of_eq_false (safe.trans calm))).trans
      (if_neg (by rw [flags, on]; exact Bool.false_ne_true)))
    exact ⟨fun can => act (beat.trans (if_pos can)), fun cannot => act (beat.trans (if_neg cannot))⟩

/-- Frames received and sent on a CAN controller (spec/15 R368, R399). -/
theorem canFrames (s : State) (c : Nat) (h : c < 2) :
    let x := s.blk.canSt c
    let tec := s.blk.get (CAN.ERR_CNT_TEC c)
    let r := s.blk.get (CAN.ERR_CNT_REC c)
    let busOff := s.blk.get (CAN.STATUS_BUS_STATE c) = 2
    (∀ bad, (s.blk.canOn c = false ∨ busOff) → exec (.canRxFrame c bad) s = .next s) ∧
    (s.blk.canOn c = true → ¬busOff →
      exec (.canRxFrame c true) s = .next (s.withBlk (s.blk.canErrors c tec (r + 1))) ∧
      exec (.canRxFrame c false) s = .next (s.withBlk ((s.blk.canErrors c tec (if 127 < r then 127 else r - 1)).bumpSat (CAN.RX_DISCARD c)))) ∧
    ((s.blk.canOn c = false ∨ ¬busOff) → exec (.canBusOffRecovery c) s = .next s) ∧
    (s.blk.canOn c = true → busOff →
      completes (.canBusOffRecovery c) s (fun u => u.blk.get (CAN.STATUS_BUS_STATE c) = 0 ∧ u.blk.get (CAN.ERR_CNT_TEC c) = 0 ∧
        u.blk.get (CAN.ERR_CNT_REC c) = 0 ∧ s.blk.keepsOtherPages u.blk [canPage c] ∧ s.node.sameMemory u.node)) ∧
    (∀ busError, (x.sending = none ∨ s.blk.canOn c = false) → exec (.canFrameTxDone c busError) s = .next s) ∧
    (∀ safe, x.sending = some safe → s.blk.canOn c = true →
      exec (.canFrameTxDone c true) s = .next (s.withBlk (s.blk.canErrors c (tec + 8) r)) ∧
      exec (.canFrameTxDone c false) s = .next (s.withBlk ((((s.blk.setCan c { x with sending := none }).canErrors c (tec - 1) r).bumpSat
        (CAN.TX_COUNT c)).raise (if safe then CAN.IRQ_RAW_SAFE_SENT c else CAN.IRQ_RAW_HB_SENT c)))) := by
  intro x tec r busOff
  have wf := decide_eq_true h
  refine ⟨fun bad idle => ?_, fun on runs => ⟨?_, ?_⟩, fun idle => ?_, fun on stopped => ?_, fun busError idle => ?_,
    fun safe sending on => ⟨?_, ?_⟩⟩
  · refine exec_blk_same (f := fun b => b.canRx c bad) rfl wf ((s.blk.canRx_eq bad h).trans (if_neg ?_))
    exact fun both => idle.elim (fun off => ne_true_of_eq_false off both.1) both.2
  · exact exec_blk (f := fun b => b.canRx c true) rfl wf ((s.blk.canRx_eq true h).trans (if_pos ⟨on, runs⟩))
  · exact exec_blk (f := fun b => b.canRx c false) rfl wf ((s.blk.canRx_eq false h).trans (if_pos ⟨on, runs⟩))
  · refine exec_blk_same (f := fun b => b.canRecover c) rfl wf ((s.blk.canRecover_eq h).trans (if_neg ?_))
    exact fun both => idle.elim (fun off => ne_true_of_eq_false off both.1) (fun runs => runs both.2)
  · have recovered := (s.blk.canRecover_eq h).trans ((if_pos ⟨on, stopped⟩).trans (s.blk.canErrors_zero c))
    obtain ⟨state, transmit, receive, pages, memory⟩ := s.blk.countersSet_zero h
    obtain ⟨u, hu⟩ : ∃ u, s.blk.countersSet c 0 0 0 = u := ⟨_, rfl⟩
    rw [hu] at recovered state transmit receive pages memory
    exact completes_of_blk (f := fun b => b.canRecover c) rfl wf recovered ⟨state, transmit, receive, pages, memory.node⟩
  · exact exec_blk_same (f := fun b => b.canTxDone c busError) rfl wf (Blk.canTxDone_idle busError idle)
  · exact exec_blk (f := fun b => b.canTxDone c true) rfl wf (Blk.canTxDone_on true sending on)
  · exact exec_blk (f := fun b => b.canTxDone c false) rfl wf (Blk.canTxDone_on false sending on)

/-- Settles O48: each frame by its kind, each write by what it sends or steps, and a CAN controller by its due points and counters. -/
theorem hostPortsAndCanCarryTheirFrames : Obligations.HostPortsAndCanCarryTheirFrames := by
  unfold Obligations.HostPortsAndCanCarryTheirFrames
  refine ⟨fun s m f h off => ?_, fun s m h on => ethFrames s m h on, fun s a m v ok => ⟨ptpSends s a m v ok, fun hg => ?_⟩, linkChanges,
    fun s c h => ?_⟩
  · exact exec_same (f := fun n => n.ethFrame m f) rfl (decide_eq_true h) (Node.ethFrame_off f off)
  · have small : m < 2 := of_decide_eq_true (Bool.and_eq_true_iff.mp ok).2
    refine ⟨?_, s.blk.ptpStep_mac v.toNat⟩
    refine exec_next (f := fun n => n.writeReg a (Page.HOST + m) 0x088 true v) rfl ok ?_
    rw [s.node.writeReg_block a v ((by decide : ∀ m < 2, blockRegister (Page.HOST + m) 0x088 = true) m small) hg,
      Blk.writeBlock_ptpStep _ a small]
    rfl
  · intro x noted due beats may count tec r busOff
    obtain ⟨idle, inSafe, off, beat⟩ := canHeartbeats s c h
    obtain ⟨rxIdle, rx, stays, recovers, txIdle, tx⟩ := canFrames s c h
    refine ⟨idle, inSafe, off, beat, fun a ha hg => ?_, rxIdle, rx, stays, recovers, txIdle, tx⟩
    have wf : (Instr.hbArm a c).wf = true := by simp [Instr.wf, ha, h]
    refine exec_next (f := fun n => n.writeReg a (canPage c) 0x058 true 1) rfl wf ?_
    rw [s.node.writeReg_block a 1 ((by decide : ∀ c < 2, blockRegister (canPage c) 0x058 = true) c h) hg, Blk.writeBlock_hbArm _ a h]
    rfl

end Sys2Proof.Machine
end
